-- ==== Sys2Proof/Word.lean ====
section
/-! DEFINITION. The word types of the module and the index types of its units. -/

namespace Sys2Proof

/-- A 32-bit register, signal value or control-space word (R9, R21). -/
abbrev Word := BitVec 32

/-- One byte; multi-byte values are little-endian throughout (R6). -/
abbrev Byte := BitVec 8

/-- A general register name g0–g31 of a Falael task (R34). -/
abbrev Reg := BitVec 5

/-- A programmable core: 0–15 are the sheaf cores SF0–SF15, 16 is the supervisor core. -/
abbrev CoreId := Fin 17

/-- A sheaf SF0–SF15. -/
abbrev SheafId := Fin 16

/-- An axis AX0–AX511. -/
abbrev AxisId := Fin 512

/-- A stream port S0–S3. -/
abbrev PortId := Fin 4

/-- A host port: 0 is A, 1 is B. -/
abbrev HostPort := Fin 2

/-- A CAN controller CAN0–CAN3. -/
abbrev CanId := Fin 4

/-- Two's complement value of a 32-bit word (R5). -/
abbrev sval (w : Word) : Int := w.toInt

/-- A word from an exact integer, wrapping modulo 2³². -/
abbrev wordOfInt (i : Int) : Word := BitVec.ofInt 32 i

/-- A word from a natural number, wrapping modulo 2³². -/
abbrev wordOfNat (n : Nat) : Word := BitVec.ofNat 32 n

end Sys2Proof
end

