-- ==== Sys2Proof/Syntax.lean ====
section
/-! DEFINITION. The commands of the module: one constructor for each row of spec/opcode_table.json, in the table's
order, with the row's operands.  An instruction of a Falael core is a command that names the core that executes it; an
event that samples a pin or a measurement carries the sampled value. -/

namespace Sys2Proof

/-- The signal operand of a signal instruction (R72): an absolute signal number, or a base field (`off[14:13]`), an
unsigned offset and the register named by `a`. -/
inductive SigOp where
  | abs (sig : BitVec 20)
  | rel (a : Reg) (base : BitVec 2) (off : BitVec 13)
deriving DecidableEq, Repr

/-- What the island's own diagnostics of R227 report in a safety cycle (R229). -/
inductive IslandDiag where
  | pass
  | coreFault
  | crossMismatch
deriving DecidableEq, Repr

/-- The pin levels and measurements that one upstream barrier frame reports (R264, R290): the two copies of every DI,
input voltages in 50 mV, HS read-back and currents in mA, SO read-back and currents, and the supply monitors; `hsFast` holds the
currents of the 32 channels in mA at each of the husk's 100 µs evaluations since the frame before (R277). -/
structure FieldSample where
  good : Bool
  diA : BitVec 64
  diB : BitVec 64
  diVolt : List (BitVec 10)
  hsHigh : BitVec 32
  hsAtLimit : BitVec 32
  hsCurrent : List (BitVec 16)
  soOn : BitVec 8
  soPulseFell : BitVec 8
  soCurrent : List (BitVec 16)
  v24f : Word
  huskSupply : Word
  caseTemp : Word
  hsFast : List (List (BitVec 16)) := []
deriving DecidableEq, Repr

/-- The currents of a high-side output in mA at the 100 µs evaluations of its fuse curve since the last frame (R278). -/
structure HsCurve where
  h : Fin 32
  fast : List (BitVec 16) := []
deriving DecidableEq, Repr

/-- The checksum of a received UDP datagram (R313): 0, correct or wrong. -/
inductive UdpSum where
  | none
  | good
  | bad
deriving DecidableEq, Repr

/-- The port a frame arrives on and what its Ethernet, IPv4 and UDP headers say beside the sender (R313): a VLAN tag, whether the FCS is
right, the two MAC addresses; the IPv4 header's length, whether it is a fragment (MF set or offset not 0), its destination; the destination port and
the checksum of UDP; and whether the frame finds the command path's receive buffer full (R332). -/
structure LinkIn where
  port : HostPort
  vlan : Bool := false
  fcsGood : Bool := true
  dst : BitVec 48
  src : BitVec 48 := 0
  header : Nat := 20
  fragment : Bool := false
  toIp : Word := 0
  toPort : BitVec 16 := 48200
  sum : UdpSum := .good
  full : Bool := false
deriving DecidableEq, Repr

/-- A frame on a CAN bus (R333, R339): identifier, IDE, FDF, BRS, ESI, remote flag, data length and data, and the time
of the start of frame in 1/64 of a frame, with how many frames of the module before the reception that was. -/
structure CanFrame where
  id : BitVec 29
  ide : Bool
  fdf : Bool
  brs : Bool
  esi : Bool
  remote : Bool
  data : List Byte
  sof64 : BitVec 6
  sofAge : Nat := 0
deriving DecidableEq, Repr

/-- How a transmission attempt ended on the bus (R345, R346): sent, lost arbitration, or an error; `ackPassive` is the
ACK error of an error-passive transmitter that saw no dominant bit during its passive error flag.  `errorMore` is an error with further
increments of ISO 11898-1: a bit error in its active error flag, the 14th dominant bit after it, or the 8th after a passive one, and each
8 more.  `stuffArbitration` is the standard's other exception, a stuff error in arbitration on a recessive stuff bit read dominant. -/
inductive CanAttemptResult where
  | sent
  | lostArbitration
  | error
  | ackPassive
  | errorMore (more : Nat)
  | stuffArbitration
deriving DecidableEq, Repr

/-- Receiver-side error events of ISO 11898-1 that move REC: an error detected while receiving, a dominant bit right
after the receiver's own error flag (or a bit error in its active error or overload flag), and an error frame seen; `overloadFlag` is a bit
error in an overload flag sent as the transmitter of the frame before it, or a run of dominant bits after that flag, which moves TEC. -/
inductive CanRxError where
  | detected
  | dominantAfterFlag
  | overloadFlag
deriving DecidableEq, Repr

/-- What an ECC error of a sheaf's SRAM meets (R57): nothing; the running task's fetch, load, partial store or payload copy,
uncorrectable; a word that is corrected; a fixed slot of an axis, uncorrectable. -/
inductive EccError where
  | absent
  | task
  | corrected
  | slot (axis : AxisId)
deriving DecidableEq, Repr

/-- Instr: the commands.  `core` names the executing Falael core; `value` is the word written to the register the row
names. -/
inductive Instr where
  -- 0–6: time and scheduling
  | frameBoundary (roleIn : Bool)
  | coarseTick
  | budgetExceeded (core : CoreId)
  | waitTimeExpiry (core : CoreId) (task : Fin 256)
  | periodicTimer (core : CoreId) (task : Fin 256) (trig : Fin 4)
  | backgroundTurnEnd (core : CoreId)
  | postedWriteArrives (core : CoreId) (entry : Fin 16)
  -- 7–24: integer ALU (R67)
  | add (core : CoreId) (d a b : Reg)
  | sub (core : CoreId) (d a b : Reg)
  | and (core : CoreId) (d a b : Reg)
  | or (core : CoreId) (d a b : Reg)
  | xor (core : CoreId) (d a b : Reg)
  | shl (core : CoreId) (d a b : Reg)
  | shr (core : CoreId) (d a b : Reg)
  | sar (core : CoreId) (d a b : Reg)
  | min (core : CoreId) (d a b : Reg)
  | max (core : CoreId) (d a b : Reg)
  | cmp (core : CoreId) (a b : Reg)
  | tst (core : CoreId) (a b : Reg)
  | mul (core : CoreId) (d a b : Reg)
  | mulh (core : CoreId) (d a b : Reg)
  | mulhu (core : CoreId) (d a b : Reg)
  | div (core : CoreId) (d a b : Reg)
  | divu (core : CoreId) (d a b : Reg)
  | rem (core : CoreId) (d a b : Reg)
  -- 25–32: saturating fixed-point (R69)
  | adds (core : CoreId) (d a b : Reg)
  | subs (core : CoreId) (d a b : Reg)
  | mulq (core : CoreId) (d a b : Reg)
  | divq (core : CoreId) (d a b : Reg)
  | abss (core : CoreId) (d a : Reg)
  | negs (core : CoreId) (d a : Reg)
  | shls (core : CoreId) (d a b : Reg)
  | clamp (core : CoreId) (d a b : Reg)
  -- 33–41: immediates (R68)
  | addi (core : CoreId) (d a : Reg) (imm : BitVec 15)
  | andi (core : CoreId) (d a : Reg) (imm : BitVec 15)
  | ori (core : CoreId) (d a : Reg) (imm : BitVec 15)
  | xori (core : CoreId) (d a : Reg) (imm : BitVec 15)
  | shli (core : CoreId) (d a : Reg) (amount : BitVec 5)
  | shri (core : CoreId) (d a : Reg) (amount : BitVec 5)
  | sari (core : CoreId) (d a : Reg) (amount : BitVec 5)
  | cmpi (core : CoreId) (a : Reg) (imm : BitVec 15)
  | ldu (core : CoreId) (d : Reg) (imm20 : BitVec 20)
  -- 42–50: task-local memory and constants (R70, R71)
  | ldW (core : CoreId) (d a : Reg) (imm : BitVec 15)
  | ldH (core : CoreId) (d a : Reg) (imm : BitVec 15)
  | ldHU (core : CoreId) (d a : Reg) (imm : BitVec 15)
  | ldB (core : CoreId) (d a : Reg) (imm : BitVec 15)
  | ldBU (core : CoreId) (d a : Reg) (imm : BitVec 15)
  | stW (core : CoreId) (d a : Reg) (imm : BitVec 15)
  | stH (core : CoreId) (d a : Reg) (imm : BitVec 15)
  | stB (core : CoreId) (d a : Reg) (imm : BitVec 15)
  | ldcW (core : CoreId) (d a : Reg) (imm : BitVec 15)
  -- 51–54: signal access (R73); `stall` is the cost in core cycles that the tier of R28 took
  | srd (core : CoreId) (reg : Reg) (op : SigOp) (stall : Nat)
  | srdq (core : CoreId) (reg : Reg) (op : SigOp) (stall : Nat)
  | swr (core : CoreId) (reg : Reg) (op : SigOp)
  | swri (core : CoreId) (reg : Reg) (op : SigOp)
  -- 55–58: branches, calls and jumps (R76, R77)
  | b (core : CoreId) (cond : BitVec 4) (off21 : BitVec 21)
  | bl (core : CoreId) (cond : BitVec 4) (off21 : BitVec 21)
  | jr (core : CoreId) (a : Reg)
  | callr (core : CoreId) (a : Reg)
  -- 59–64: task control and axis selection (R78, R81)
  | endTask (core : CoreId)
  | yield (core : CoreId)
  | waitEv (core : CoreId)
  | waitF (core : CoreId)
  | waitT (core : CoreId) (a : Reg) (imm : BitVec 15)
  | axsel (core : CoreId) (a : Reg) (imm : BitVec 15)
  -- 65–71: motion requests (R85); a field the table gives as 0 is no operand
  | mvStart (core : CoreId) (sub a : Reg) (profile : BitVec 8) (relative : Bool)
  | mvStop (core : CoreId) (sub : Reg)
  | mvSpeed (core : CoreId) (sub a : Reg) (remove : Bool)
  | mvAccel (core : CoreId) (sub a : Reg) (remove : Bool)
  | mvHome (core : CoreId) (sub a : Reg) (positive : Bool) (source : BitVec 2)
  | mvGear (core : CoreId) (sub a : Reg) (table : BitVec 8) (disengage : Bool)
  | mvMode (core : CoreId) (sub : Reg) (mode : BitVec 2)
  -- 72–82: recorder, update and system services (R89–R98)
  | recPut (core : CoreId) (sub a b : Reg) (utype : BitVec 7)
  | confirm (core : CoreId) (sub : Reg)
  | sysRegRead (core : CoreId) (sub a b : Reg)
  | sysRegWrite (core : CoreId) (sub a b : Reg)
  | trcMark (core : CoreId) (sub a b : Reg)
  | sysCntRead (core : CoreId) (sub a b : Reg)
  | imgState (core : CoreId) (sub a b : Reg)
  | axCtrl (core : CoreId) (sub a b : Reg)
  | instRestart (core : CoreId) (sub a b : Reg)
  | sysNoService (core : CoreId) (sub a b : Reg) (service : BitVec 10)
  | undefinedEncoding (core : CoreId) (ecc : EccError)
  -- 83–89: registers with rows of their own
  | sfInstrst (sheaf : SheafId) (value : Word)
  | restartCheck (sheaf : SheafId)
  | sfPeakclr (sheaf : SheafId) (value : Word)
  | registerWrite (addr value : Word)
  | sysOptloRead
  | axCfgWrite (axis : AxisId) (value : Word)
  | plcMigreq (value : Word)
  -- 90–92: migration (R115–R119)
  | migrationPreparationEnd
  | migrationCopyFrame
  | migrationSwitch (copiesAgree : Bool)
  -- 93–94: motion
  | moveEnd (axis : AxisId)
  | holdAmplitude (axis : AxisId)
  -- 95–106: axis stream ports
  | upstreamFrameReceived (port : PortId) (onTime violation : Bool) (bytes : List Byte)
  | portLost (port : PortId)
  | nodesBeyondBreakLost (port : PortId)
  | channelLost (axis : AxisId)
  | autorstLinkStart (port : PortId)
  | strCmdStart (port : PortId) (value : Word)
  | strCmdStop (port : PortId) (value : Word)
  | trainComplete (port : PortId)
  | linkStartTimeout (port : PortId)
  | startFrame (port : PortId)
  | bulkReplyTimeout (port : PortId) (node : Fin 65)
  | listenFrameReceived (port : PortId) (onTime violation : Bool) (bytes : List Byte)
  -- 107–121: safety island
  | safetyHoldRelease (axis : AxisId)
  | safetyCycle (diag : IslandDiag)
  | loopSwitchOn (loop : Fin 4)
  | safeTelegramCopy (port : HostPort)
  | singlePathWindowEnd (source : Fin 4) (stamp : Nat)
  | telegramTimeout (source : Fin 4)
  | safCmdAck (value : Word)
  | safCmdReset (value : Word)
  | safCmdLoopReset (value : Word)
  | safUnlock (value : Word)
  | unlockExpiry
  | safParameterWrite (addr value : Word)
  | checkRecomputed
  | commission
  | testDue
  -- 122–143: barrier link and husk
  | barrierFrameReceived (sample : FieldSample)
  | barrierLinkLost
  | barrierLinkUp
  | huskFrameReceived (good : Bool)
  | soCommandLossOff
  | barrierWatchdogTrip
  | recoveryEnd
  | v24fUndervoltage
  | undervoltageEnd
  | huskReset
  | hsDeferredApply (h : Fin 32)
  | hsLimitTrip (h : Fin 32)
  | hsCurveTrip (x : HsCurve)
  | hsThermalTrip (h : Fin 32)
  | hsRetry (h : Fin 32)
  | hsCooled (h : Fin 32)
  | gangRaisedLimitEnd (q : Fin 8)
  | hsOpenLoadOnstate (h : Fin 32)
  | offstateOpenLoadCheck (h : Fin 32) (above3v5 above8v : Bool)
  | soOverloadOff (k : Fin 8)
  | drvEdge (pin : Fin 4) (level : Bool)
  | fldConfigWrite (addr value : Word)
  -- 144–152: redundant pair
  | pairFrameReceived (bytes : List Byte)
  | roleClaim
  | takeover
  | pairCmdSwap (value : Word)
  | swapTakeRole (roleIn : Bool)
  | swapDue
  | pairPortDown
  | roleDisagree
  | pairCfgWrite (value : Word)
  -- 153–181: Vobry host protocol; an execution row acts on the request at the front of the module's request queue
  | vhpDatagramReceived (link : LinkIn) (ip : Word) (udp : BitVec 16) (bytes : List Byte)
  | vhpRegRead
  | vhpRegWrite
  | sigRead
  | sigWrite
  | sigWriteInvalid
  | sigForce
  | sigRelease
  | stateRun
  | runBegin
  | stateIdle
  | departureComplete
  | stateKeep
  | stateRoast
  | stateOff
  | stateInvalidTarget
  | shutdownDrainComplete
  | ident
  | updBlock (programmed : Bool)
  | updStatus
  | recReadRecords
  | recReadCapture
  | recReadLifetime
  | recChal (random : BitVec 128)
  | recClear
  | trcRead
  | vhpCntRead
  | nodeReq
  | nodeRead
  -- 182–188: Ethernet
  | telegramDatagramReceived (link : LinkIn) (stamp : Nat) (bytes : List Byte)
  | arpRequest (link : LinkIn) (target senderIp : Word) (senderMac : BitVec 48)
  | icmpEchoRequest (link : LinkIn) (senderIp echo : Word) (data : List Byte)
  | ethernetLinkUp (port : HostPort) (fullDuplex : Bool)
  | ethernetLinkLost (port : HostPort)
  | hostWatchdogExpiry
  | hostCfgsave (value : Word)
  -- 189–199: CAN
  | canCtrlEnable (can : CanId) (value : Word)
  | canCtrlDisable (can : CanId) (value : Word)
  | canTimingWrite (can : CanId) (addr value : Word)
  | canObjectConfigWrite (can : CanId) (addr value : Word)
  | canFrameReceived (can : CanId) (frame : CanFrame)
  | canLockTimeout (can : CanId) (object : Fin 256)
  | canRxTimeout (can : CanId) (object : Fin 256)
  | canTransmitAttempt (can : CanId)
  | canAttemptEnd (can : CanId) (result : CanAttemptResult)
  | canCmdRecover (can : CanId) (value : Word)
  | canRecoveryEnd (can : CanId)
  -- 200–206: event recorder
  | recordCommit
  | lifetimeBlockCommit
  | repeatWordRewrite
  | repeatWindowEnd
  | recAnccmd (value : Word)
  | recKeycmd (value : Word)
  | clearLockoutEnd
  -- 207–213: image update and operating minutes
  | updCmdBegin (value : Word)
  | updCmdFinish (value : Word)
  | updCmdAbort (value : Word)
  | eraseComplete (erased : Bool)
  | confirmComplete (written : Bool)
  | operatingMinute
  | trialExpiry
  -- 214–218: ROAST and trace
  | roastEnd (failMap : BitVec 12) (safetyPart : Bool) (ms : BitVec 16)
  | roastAbort (pll : Bool) (test : BitVec 4) (ms : BitVec 16)
  | trcCmdFreeze (value : Word)
  | trcCmdResume (value : Word)
  | trcCmdCntclr (value : Word)
  -- 219–231: starts, supply and reset
  | coldStart (copyOk : Bool)
  | wakeStart (copyOk : Bool)
  | resetStart (copyOk : Bool)
  | startReachesIdle (ms opMs : BitVec 16)
  | sagDivide (div4 : Bool) (railMv : BitVec 16)
  | sagStepBack (railMv : BitVec 16)
  | brownout
  | powerFailWarning (vin : BitVec 16)
  | powerFailOff
  | rstnAssert
  | rstnRelease
  | rstnStuck
  | rstnBackInService
  -- 232–234
  | canBusError (can : CanId) (kind : CanRxError)
  | onstateOpenLoadClear (h : Fin 32)
  | roleOutFrameEngineTimeout
deriving DecidableEq, Repr

end Sys2Proof
end

