-- ==== Sys2Proof/Machine/Image.lean ====
section
/-! DEFINITION. What an image holds (R36, R303): the body of a running image as the module uses it.  The byte layout of the
body is private to the image builder (R303), so the model takes the body in the decoded form below. -/

namespace Sys2Proof.Machine

/-- The four task kinds (R38), with the codes of SF_TASKINFO.KIND. -/
inductive TaskKind where
  | frame
  | coarse
  | event
  | background
deriving DecidableEq, Repr

/-- An event trigger of an EVENT task (R47). -/
inductive TrigKind where
  | change (sig : Nat)
  | write (sig : Nat)
  | canObject (can object : Nat)
  | mailbox (m : Nat)
  | timer (period : Nat)
deriving DecidableEq, Repr

/-- A signal name recorded for a task's operand (R105): absolute, relative to ib, or relative to ax. -/
inductive SigName where
  | abs (sig : Nat)
  | ib (off : Nat)
  | ax (slot : Nat)
deriving DecidableEq, Repr

/-- One entry of a task table: kind, priority, budget, task-local size and contents, entry address, triggers, queue depth,
and the names of its signal operands. -/
structure TaskDecl where
  kind : TaskKind
  prio : Nat
  budget : Nat
  localSize : Nat
  localInit : List (Nat × Byte)
  entry : Nat
  triggers : List TrigKind
  depth : Nat
  named : List SigName
deriving DecidableEq, Repr

/-- A door type: code, constants, tasks, the size and initial values of the block addressed from ib, and the per-axis user
signals (slots 256–1023) with their initial values. -/
structure DoorType where
  code : List Word
  consts : List Word
  tasks : List TaskDecl
  blockSize : Nat
  blockInit : List (Nat × Word)
  axisUser : List (Nat × Word)
deriving DecidableEq, Repr

/-- A row of the table of doors: door type, axes in the order of their index within the door, and group. -/
structure DoorDecl where
  dtype : Nat
  axes : List Nat
  group : Nat
deriving DecidableEq, Repr

/-- A profile segment as stored (R128): DUR in coarse ticks, END and VEL in Q2.30. -/
structure Segment where
  dur : Nat
  endp : Int
  vel : Int
deriving DecidableEq, Repr

/-- A gearing table entry (R144): switch position, ratio in Q16.16, blend distance. -/
structure GearEntry where
  m : Int
  ratio : Int
  blend : Nat
deriving DecidableEq, Repr

/-- A band of a stop ramp (R133): VFROM and DEC in Q16.16. -/
structure Band where
  vfrom : Nat
  dec : Nat
deriving DecidableEq, Repr

/-- A TIER hint: a range of signals and a tier (R107). -/
structure TierHint where
  lo : Nat
  hi : Nat
  tier : Nat
deriving DecidableEq, Repr

/-- The body of an image (R36, R303), decoded. DESIGN CHOICE: notes/assumptions/48.md. -/
structure Image where
  doorTypes : List DoorType
  doors : List DoorDecl
  sysCode : List Word
  sysConsts : List Word
  sysTasks : List TaskDecl
  sysBlockSize : Nat
  sysBlockInit : List (Nat × Word)
  globals : List (Nat × Word)
  mirror : List Nat
  profiles : List (Nat × List Segment)
  gears : List (Nat × List GearEntry)
  ramps : List (Nat × List (List Band))
  params : List (Nat × Word)
  tables : List (Nat × List Word)
  config : List (Nat × Word)
  pins : List (Nat × Nat)
  groups : List (List Nat)
  tiers : List TierHint
deriving DecidableEq, Repr, Inhabited

/-- The header of an image (R373), without its signature. -/
structure ImageHeader where
  length : Nat
  version : Word
  pairId : Word
  minutes : Nat
  boots : Nat
  keyIdx : Nat
  secver : Word
deriving DecidableEq, Repr, Inhabited

end Sys2Proof.Machine
end

