-- ==== Sys2Proof/Config.lean ====
section
/-! DEFINITION. The free values: constants without a body, so that nothing in Lean can see what they are.  Each stands for a
value that the spec leaves to the implementation, to the factory or to rounding; the assumption log names each. -/

namespace Sys2Proof.Config

open Sys2Proof.Machine

/-- SYS_ID.STEP, a factory value (R418). DESIGN CHOICE: notes/assumptions/3.md. -/
opaque stepping : BitVec 8

/-- SYS_SERIAL, a factory value (R418). DESIGN CHOICE: notes/assumptions/3.md. -/
opaque serial : Word

/-- The version of the boot loader that IDENT returns (R322); the spec gives no value.
DESIGN CHOICE: notes/assumptions/3.md. -/
opaque bootVersion : Word

/-- The factory MAC address of each host port (R315, R332). DESIGN CHOICE: notes/assumptions/3.md. -/
opaque mac : HostPort → BitVec 48

/-- The four Ed25519 public keys in one-time-programmable storage (R373): `none` where the factory wrote no key.
DESIGN CHOICE: notes/assumptions/3.md. -/
opaque publicKey : Nat → Option (List Byte)

/-- The decoded body of an image: its layout is private to the image builder (R303), so the module's reading of bytes 256
to L − 1 is uninterpreted. DESIGN CHOICE: notes/assumptions/48.md. -/
opaque imageBody : List Byte → Image

/-- Whether a value that is not a multiple of 1/65,536 is rounded up (true) or down (false) where the spec fixes the result
only to within that unit (R129, R131, R145): `num ÷ den` is the exact value. DEDUCED: notes/assumptions/21.md. -/
opaque roundsUp : (num : Int) → (den : Nat) → Bool

/-- The inputs of one evaluation of the estimator (R155): the raw samples of the node frame and the frame before, the
set-points paired with them, and the motor parameters. -/
structure EstIn where
  va : Int
  vb : Int
  im : Int
  addr : Nat
  vel : Int
  prevIm : Int
  prevAddr : Nat
  inductive0 : Bool
  rph : Nat
  lph : Nat
  ke : Nat
  threePhase : Bool
  vlsb : Nat
  ilsb : Nat
deriving DecidableEq, Repr

/-- The rounding of the rotor angle θr to 1/65,536 microstep (R155): 0, 1 or 2 units above the truncated angle less one.  The spec
gives the real-number formula and no resolution of the arithmetic. DESIGN CHOICE: notes/assumptions/25.md. -/
opaque angleRounding : EstIn → Fin 3

/-- The rounding of the magnitude of the induced voltage to 1 µV (R155, R166, R169), free for the same reason.
DESIGN CHOICE: notes/assumptions/25.md. -/
opaque voltageRounding : EstIn → Bool

/-- The angle of an induced voltage of 0 in both phases, in 1/65,536 microstep: R155 states no atan2(0, 0).
DESIGN CHOICE: notes/assumptions/25.md. -/
opaque zeroAngle : EstIn → Nat

/-- The rotor angle modulo 512 microsteps by saliency, in 1/65,536 microstep (R158): the spec gives a resolution and no
method. DESIGN CHOICE: notes/assumptions/25.md. -/
opaque saliencyAngle : EstIn → (salgain : Word) → Nat

/-- The data byte of an identity request (R203): R197 demands one, and the spec gives it no content.
DEDUCED: notes/assumptions/28.md. -/
opaque identityRequest : Byte

/-- The bytes of event entries that a sheaf's queue holds on die in a frame (R208): the spec gives neither what enters one nor its size;
the first argument counts the uses. DESIGN CHOICE: notes/assumptions/29.md. -/
opaque queueEvents : Nat → (queue : Nat) → Nat

/-- T0 of R210: the module's own bit-time measurement of a node's identity frame, per port, node and frame.
DESIGN CHOICE: notes/assumptions/4.md. -/
opaque enumT0 : PortId → Nat → Word → Nat

/-- The receive error count after a good frame in the error-passive state: ISO 11898-1, which R346 names, allows any value
from 119 to 127; the argument counts the uses. PRESUMED: notes/assumptions/56.md. -/
opaque recReturn : Nat → Nat

/-- The cycles a core stalls for a full write buffer (R75): only its bound is stated; the argument counts the uses.
DESIGN CHOICE: notes/assumptions/12.md. -/
opaque writeStall : Nat → Nat

/-- The CRC-32C of a door's migrating state as the source computes it (R116, R119): the spec gives the state's content and not
its layout; the argument counts the uses. DESIGN CHOICE: notes/assumptions/42.md. -/
opaque migrationCrc : Nat → Word

/-- The safety output that a standby's status bit [6] stands for (R304): the status frame does not name it; the argument counts
the uses. DEDUCED: notes/assumptions/44.md. -/
opaque stuckOutput : Nat → BitVec 3

/-- The test in progress when a datagram arrives in ROAST (R385, R388): no command marks the tests, so it is free; the argument
counts the uses. DESIGN CHOICE: notes/assumptions/53.md. -/
opaque roastTest : Nat → Nat

/-- The tests that had failed when ROAST was aborted, bit t for test t (R388): no command gives them; the argument counts the uses.
DESIGN CHOICE: notes/assumptions/53.md. -/
opaque roastFails : Nat → BitVec 12

/-- Whether the second copy of an image at a start, of CURRENT after a failed verification or of PREVIOUS after a failed copy, is free of
uncorrectable flash errors (R377): the command says it of the first alone; the argument counts the uses.
DESIGN CHOICE: notes/assumptions/46.md. -/
opaque secondCopyOk : Nat → Bool

/-- Whether the state record written last is cut off by a loss of power (R374, R381); the argument counts the uses.
DESIGN CHOICE: notes/assumptions/46.md. -/
opaque stateCut : Nat → Bool

/-- The boot loader's bytes, written only at the factory (R372); the spec gives none. DESIGN CHOICE: notes/assumptions/46.md. -/
opaque bootLoader : Nat → Byte

/-- The bytes of the factory area: serial number, calibration, PHY settings (R372); the spec gives none.
DESIGN CHOICE: notes/assumptions/46.md. -/
opaque factoryArea : Nat → Byte

/-- The first 60 bytes of a state record from the list of its generation number, the codes of the two slot states, boots and minutes left,
the floor and whether the trial has expired (R374): the spec gives its content and not its layout. DESIGN CHOICE: notes/assumptions/46.md. -/
opaque stateRecord : (content : List Nat) → Nat → Byte

/-- What a state record that a loss of power cut off leaves at a byte of its sector (R374, R381): the spec does not say.
DESIGN CHOICE: notes/assumptions/46.md. -/
opaque cutStateByte : (gen pos : Nat) → Byte

/-- The core rail in mV as the monitor reads it at a frame boundary (R419): no row brings its samples.
DESIGN CHOICE: notes/assumptions/66.md. -/
opaque railNow : Nat → BitVec 16

/-- VIN in 10 mV as the monitor reads it at a frame boundary (R419): no row brings its samples. DESIGN CHOICE: notes/assumptions/66.md. -/
opaque vinNow : Nat → BitVec 16

/-- Whether the Ed25519 check of R378 multiplies both sides of its equation by the cofactor: the algorithm allows either, and
they differ only on signatures that no signer produces. PRESUMED: notes/assumptions/47.md. -/
opaque cofactored : Bool

/-- Whether the recorder is writing a record that waits when it is cut off (R364): no command says where a commit begins; the
argument counts the uses. DESIGN CHOICE: notes/assumptions/59.md. -/
opaque recordCut : Nat → Bool

/-- Whether a power loss cuts off a store of the safety parameter set that may be under way (R250): the spec gives a store no duration;
the argument counts the uses. DESIGN CHOICE: notes/assumptions/33.md. -/
opaque storeCut : Nat → Bool

/-- The repeat word left by an update that is cut off, `none` where none is under way (R353, R364); the argument counts the uses.
DESIGN CHOICE: notes/assumptions/59.md. -/
opaque repeatCut : Nat → Option Word

/-- Whether the checkpoint written last is cut off (R364); the argument counts the uses. DESIGN CHOICE: notes/assumptions/59.md. -/
opaque checkpointCut : Nat → Bool

/-- Whether the lifetime block commit that is next is cut off (R364); the argument counts the uses.
DESIGN CHOICE: notes/assumptions/59.md. -/
opaque lifeCut : Nat → Bool

/-- Whether a clear is cut off before its clear record is committed (R364, R367); the argument counts the uses.
DESIGN CHOICE: notes/assumptions/59.md. -/
opaque clearCut : Nat → Bool

/-- Whether an uncorrectable MRAM error struck a stored record by a start (R365, R370): the start, then SEQ.
DESIGN CHOICE: notes/assumptions/59.md. -/
opaque mramBad : Nat → Word → Bool

/-- Whether a copy of a lifetime block is found invalid at a start (R368): the start, the axis, the copy.
DESIGN CHOICE: notes/assumptions/59.md. -/
opaque lifeBad : Nat → (axis : Nat) → (copy : Nat) → Bool

/-- A byte of the MRAM that an uncorrectable error or a write cut off left (R364, R365): which loss, then the byte's offset.
DESIGN CHOICE: notes/assumptions/59.md. -/
opaque spoiltByte : Nat → Nat → Byte

/-- The mean current byte of a signature's bin in which no sample was taken (R177): the spec states none. DEDUCED: notes/assumptions/26.md. -/
opaque emptyBinCurrent : Byte

/-- The failure code, counted from 0x9001, of an image with a system task of kind FRAME or COARSE: R38 says that it is not placed,
and R109 gives no code for it. DESIGN CHOICE: notes/assumptions/73.md. -/
opaque systemTaskCode : Fin 5

end Sys2Proof.Config
end

