-- ==== Sys2Proof/Machine/State.lean ====
section
/-! DEFINITION. The state of the module as plain data: every register, signal, queue, buffer, counter and pin the spec gives
it, unit by unit, and the queue of commands that wait.  INVENTORY.md lists each field with its rule and its reset value. -/

namespace Sys2Proof.Machine

/-- A sparse table by number, in strictly rising order; what an unlisted number reads as is said where the table is read
(Machine/Ops.lean).  A table of words or bytes lists no entry equal to that value. -/
abbrev SMap (α : Type) := List (Nat × α)

/-! ### Signals (R19–R24) -/

/-- The store of one signal (R21): value, quality bits, writer tag, frame stamp; `unread` is set by a write and cleared by a
task's read, which is what LOST of a tracked signal is judged by (R22). -/
structure Sig where
  /-- The 32-bit value (R21). -/
  value : Word := 0
  /-- The 8 quality bits (R21). -/
  q : BitVec 8 := 0
  /-- The tag of the last writer (R21). -/
  tag : BitVec 8 := 0
  /-- The low 16 bits of the frame count at the last write (R21). -/
  stamp : BitVec 16 := 0
  /-- Written and not yet read by a task (R22). -/
  unread : Bool := false
deriving DecidableEq, Repr

/-! ### Cores and tasks (R34–R59) -/

/-- What a task is doing (R38, R40): not released; ready (released, triggered or resumed, not yet chosen or preempted);
running on its core; suspended in one of the three WAITs; stopped for good until the next entry to RUN or restart. -/
inductive TaskSt where
  | idle
  | ready
  | running
  | waitEv
  | waitTime (until_ : Word)
  | waitFrame (since : Word)
  | stopped
deriving DecidableEq, Repr

/-- A queued event trigger: its index among the task's triggers, the trigger signal, and SYS_FRAMECNT when it was queued
(R39, R47), and its place in the order of queueing. -/
structure Trig where
  /-- The trigger's index in the declaration (R47). -/
  idx : Nat
  /-- The signal that fired it (R47). -/
  sig : Word
  /-- SYS_FRAMECNT when it was queued (R47). -/
  frame : Word
  /-- Its place in the order of queueing of all cores (the model's own, R40). -/
  ord : Nat := 0
deriving DecidableEq, Repr

/-- A task on its core: what the task table says of it, and its own state (register context, cycle count, trigger queue,
task-local memory, statistics). -/
structure Task where
  /-- The entry of the task table is in use (R36). -/
  used : Bool := false
  /-- FRAME, COARSE, EVENT or BACKGROUND (R34). -/
  kind : TaskKind := .background
  /-- Priority (R41). -/
  prio : Nat := 0
  /-- Cycle budget (R45). -/
  budget : Nat := 0
  /-- Program instance (R35). -/
  inst : Nat := 0
  /-- Door of the instance (R36). -/
  door : Nat := 0
  /-- Declaration of the task (R36). -/
  decl : Nat := 0
  /-- What the task is doing (R38). -/
  st : TaskSt := .idle
  /-- The next release starts at the entry point (R38). -/
  fresh : Bool := true
  /-- Released since the task was started (R38). -/
  started : Bool := false
  /-- Frame of the previous release (R39). -/
  prevStart : Word := 0
  /-- G1 to g31; an unlisted one is 0 (R34). -/
  regs : SMap Word := []
  /-- Base register ax (R34). -/
  ax : Word := 0
  /-- Base register ib (R34). -/
  ib : Word := 0
  /-- Flag Z (R34). -/
  z : Bool := false
  /-- Flag N (R34). -/
  n : Bool := false
  /-- Flag C (R34). -/
  c : Bool := false
  /-- Flag V (R34). -/
  v : Bool := false
  /-- Program counter, a byte address in the task's code (R34). -/
  pc : Word := 0
  /-- Cycles of this release (R45). -/
  count : Nat := 0
  /-- Queued triggers, oldest first (R47). -/
  queue : List Trig := []
  /-- Timer triggers that fall due at this boundary (R38). -/
  due : List (Nat × Word) := []
  /-- Bytes of task-local memory (R48). -/
  memSize : Nat := 0
  /-- Task-local memory, a canonical list with default 0 (R48). -/
  mem : List Host.Cell := []
  /-- Largest cycle count seen (R60). -/
  max : Nat := 0
  /-- Releases counted (R60). -/
  rels : Word := 0
  /-- Halted after faults (R56). -/
  halted : Bool := false
  /-- Order of becoming ready (the model's own, R40). -/
  ord : Nat := 0
  /-- It goes on only once its posted writes are home (R51, R79). -/
  gate : Bool := false
  /-- Restarted, and not released before the next round (R58). -/
  held : Bool := false
  /-- A release is due that waits for its posted writes (R79). -/
  relDue : Bool := false
deriving DecidableEq, Repr

/-- A posted signal write (R51, R75): the task that posted it, the signal, the value, whether VALID is set, and the home it
travels to (1 tier 1, 2 tier 2, 16 + s tier 0 of sheaf s). -/
structure Post where
  /-- The task that wrote (R51). -/
  task : Nat
  /-- The signal (R51). -/
  sig : Nat
  /-- The value (R51). -/
  value : Word
  /-- VALID (R75). -/
  valid : Bool
  /-- Where it travels: 1, 2, or 16 + sheaf (R51). -/
  home : Nat
  /-- The frame of the write (R21). -/
  frame : Word := 0
deriving DecidableEq, Repr

/-- A Falael core: its tasks, the running task, the frame-task round (the tasks still to run), whether d rose during it, the
write buffer, the cycles and rounds of the coarse tick in progress and of the last one, and the fault records that enter the
queue in the next frame, as code, subject and payload (R41–R56). -/
structure Core where
  /-- The task table (R60). -/
  tasks : SMap Task := []
  /-- The running task (R40). -/
  cur : Option Nat := none
  /-- The frame tasks left in the round (R41). -/
  round : Option (List Nat) := none
  /-- The frame the round began in (R54). -/
  roundFrame : Word := 0
  /-- Own cycles of the round (R54). -/
  own : Nat := 0
  /-- The division of the round (R54). -/
  div : Nat := 1
  /-- The division rose during the round (R55). -/
  rose : Bool := false
  /-- The write buffer, oldest first (R51). -/
  wbuf : List Post := []
  /-- Cycles spent in the coarse tick (R44). -/
  tickCycles : Nat := 0
  /-- Rounds begun in the coarse tick (R44). -/
  tickRounds : Nat := 0
  /-- Cycles of the last coarse tick (R44). -/
  doneCycles : Nat := 0
  /-- Rounds of the last coarse tick (R44). -/
  doneRounds : Nat := 0
  /-- The BACKGROUND task whose turn is next (R41). -/
  bgNext : Nat := 0
  /-- Fault records that enter the queue in the next frame (R56). -/
  faultRecs : List (Nat × Nat × List Byte) := []
  /-- The number after the last that the core took of the order of queueing (the model's own, R40). -/
  ordNext : Nat := 0
  /-- Cycles of the present BACKGROUND turn (R41). -/
  turn : Nat := 0
deriving DecidableEq, Repr

/-! ### Motion and load angle of an axis (chapters 05, 06) -/

/-- The axis states of R126, with the codes of slot 4. -/
inductive AxState where
  | noconf
  | off
  | stand
  | move
  | stop
  | home
  | gear
deriving DecidableEq, Repr

/-- A motion request (R85), with its sequence number. -/
inductive Req where
  | start (target : Word) (profile : Nat) (relative : Bool)
  | stop
  | speed (cap : Option Word)
  | accel (cap : Option Word)
  | home (position : Word) (positive : Bool) (source : Nat)
  | gear (master : Word) (table : Nat)
  | ungear
  | mode (m : Nat)
deriving DecidableEq, Repr

/-- A stop request raised for an axis (R134): cause, ramp and the code it writes (0 where it writes none); `torqueOff` is
the island's request that takes the axis to OFF (R234). -/
structure StopReq where
  /-- Cause of the stop (R134). -/
  cause : Nat
  /-- Deceleration taken (R134). -/
  ramp : Nat
  /-- Code written to the stop code (R134). -/
  code : Nat
  /-- The request takes the axis to OFF (R234). -/
  torqueOff : Bool := false
deriving DecidableEq, Repr

/-- The motion state of one axis (R123–R153).  Positions, velocities and displacements are exact integers in units of
1/65,536; `tau` is profile time and `stretch` the rate r, both in 1/2³² so that r moves by less than a slot unit. -/
structure Motion where
  /-- Axis state (R126). -/
  st : AxState := .noconf
  /-- Raw position, 48 bits (R124). -/
  raw : BitVec 48 := 0
  /-- Home offset (R124). -/
  homeOff : BitVec 48 := 0
  /-- Velocity in 1/65,536 (R123). -/
  v : Int := 0
  /-- Acceleration in 1/65,536 (R123). -/
  a : Int := 0
  /-- Velocity at the end of the previous frame (R124). -/
  vPrev : Int := 0
  /-- OFF at the end of the previous frame (R126). -/
  wasOff : Bool := false
  /-- HOMED (R127). -/
  homed : Bool := false
  /-- ATTARGET (R127). -/
  attarget : Bool := false
  /-- Cause of the stop under way (R127). -/
  cause : Nat := 0
  /-- SAFEHOLD (R127). -/
  safehold : Bool := false
  /-- Target position (R130). -/
  target : Int := 0
  /-- Raw position at the start of the move (R130). -/
  rawStart : Int := 0
  /-- Displacement of the move (R130). -/
  delta : Int := 0
  /-- Profile of the move (R130). -/
  profile : Nat := 0
  /-- Segment of the profile (R129). -/
  seg : Nat := 0
  /-- Profile time in 1/2^32 frame (R129). -/
  tau : Nat := 0
  /-- Stretch factor in 1/2^32 (R132). -/
  stretch : Nat := 2 ^ 32
  /-- Stretch factor it tends to (R131). -/
  stretchTo : Nat := 2 ^ 32
  /-- Speed limit of MV.SPEED (R131). -/
  spdCap : Option Word := none
  /-- Acceleration limit of MV.ACCEL (R131). -/
  accCap : Option Word := none
  /-- A move has reached its target and its envelope is not yet updated (R130, R163). -/
  atEnd : Bool := false
  /-- Ramp of the stop (R134). -/
  ramp : Nat := 0
  /-- Frames of the stop (R136). -/
  rampFrames : Nat := 0
  /-- Selected commutation mode (R149). -/
  modeSel : Nat := 0
  /-- Strong is selected in automatic (R149). -/
  strong : Bool := false
  /-- Strong was forced by a ramp in the last frame (R149). -/
  forced : Bool := false
  /-- Frames in STAND (R148). -/
  standFrames : Nat := 0
  /-- Hold amplitude applies (R148). -/
  hold : Bool := false
  /-- Sequence number of the last request (R85). -/
  seq : Nat := 0
  /-- Requests posted in this frame (R85). -/
  posted : List (Nat × Req) := []
  /-- Requests that take effect at the next boundary (R85). -/
  due : List (Nat × Req) := []
  /-- Stop requests of this frame (R134). -/
  stopNext : List StopReq := []
  /-- Stop requests judged at the boundary (R134). -/
  stops : List StopReq := []
  /-- Table address of the set-point (R148). -/
  setAddr : Nat := 0
  /-- Amplitude of the set-point (R148). -/
  setAmp : Nat := 0
  /-- Mode of the set-point (R148). -/
  setMode : Nat := 0
  /-- The set-point stands for a ramp (R192). -/
  setRamp : Bool := false
deriving DecidableEq, Repr

/-- A homing run (R140–R143): phase of slot 39, search direction, edge source, position to assign, the raw position where the
search began, the consecutive inactive readings of a back-off, the run of active readings with x and sub-frame time of its
edge, the chatter count, and L. -/
structure Homing where
  /-- Phase shown in slot 39 (R140). -/
  phase : Nat := 0
  /-- Direction of the search (R140). -/
  positive : Bool := false
  /-- Edge source (R140). -/
  source : Nat := 0
  /-- Position to assign (R140). -/
  assign : Word := 0
  /-- Raw position where the search began (R140). -/
  from_ : Int := 0
  /-- Inactive readings of the back-off in a row (R140). -/
  idle : Nat := 0
  /-- The search slows down after its edge (R140). -/
  slowing : Bool := false
  /-- Active readings in a row (R141). -/
  run : Nat := 0
  /-- The input was active at the start (R141). -/
  wasActive : Bool := false
  /-- Position at the end of the frame of the edge (R142). -/
  edgeX1 : Int := 0
  /-- Position one frame before (R142). -/
  edgeX2 : Int := 0
  /-- Sub-frame time of the edge (R142). -/
  edgeS : Nat := 32
  /-- Chatter count (R141). -/
  chatter : Nat := 0
  /-- A latch input is armed (R142). -/
  latch : Bool := false
  /-- Latched position (R142). -/
  latched : Word := 0
deriving DecidableEq, Repr

/-- Electronic gearing of an axis (R145–R147): the selector and table of MV.GEAR, the entry and ratio in use, and the
positions m_j, m_e and the slave's x_{g−1} in 1/65,536. -/
structure Gearing where
  /-- Master selector (R145). -/
  selector : Word := 0
  /-- Gear table (R144). -/
  table : Nat := 0
  /-- The gear is engaged (R145). -/
  engaged : Bool := false
  /-- Engaged in this frame (R145). -/
  fresh : Bool := false
  /-- Table entry in use (R145). -/
  entry : Nat := 0
  /-- Ratio in use (R145). -/
  ratio : Int := 0
  /-- Master position at the entry (R146). -/
  mj : Int := 0
  /-- Master position at engagement (R146). -/
  me : Int := 0
  /-- Slave position of the previous frame (R146). -/
  slaveX : Int := 0
  /-- Frames without a valid master (R147). -/
  lostFrames : Nat := 0
deriving DecidableEq, Repr

/-- One bin of a direction's envelope (R162–R164), in 1/32 microstep: mean, spread, the moves that gave it a value, the
covered flag, and the baseline; an unlisted bin is all zeros. -/
structure Bin where
  /-- Mean (R164). -/
  mean : Int := 0
  /-- Spread (R164). -/
  spread : Int := 0
  /-- Moves that gave it a value (R162). -/
  moves : Nat := 0
  /-- Covered flag (R163). -/
  covered : Bool := false
  /-- Baseline mean (R178). -/
  base : Int := 0
  /-- Baseline spread (R178). -/
  baseSpread : Int := 0
deriving DecidableEq, Repr

/-- A direction's envelope and learning progress: the count of clean moves, the drift score and its armed state (R164,
R178). -/
structure Direction where
  /-- Learning is complete (R164). -/
  learned : Bool := false
  /-- Clean moves (R164). -/
  clean : Nat := 0
  /-- Drift score (R178). -/
  drift : Nat := 0
  /-- Drift is disarmed (R178). -/
  disarmed : Bool := false
  /-- Bins by number (R162). -/
  bins : SMap Bin := []
deriving DecidableEq, Repr

/-- What a move in progress gathers in one bin: the sum of δ_res in 1/2²¹ microstep over its frames, their number, the
largest δ_res − M_b in the same unit, and the sum and the number of raw current samples (R163, R177). -/
structure MoveBin where
  /-- Sum of the residuals (R163). -/
  sum : Int := 0
  /-- Frames in the bin (R163). -/
  n : Nat := 0
  /-- Largest deviation (R163). -/
  maxDev : Option Int := none
  /-- Sum of current samples (R177). -/
  imSum : Nat := 0
  /-- Number of current samples (R177). -/
  imN : Nat := 0
deriving DecidableEq, Repr

/-- A move as the envelopes and signatures see it (R163, R176, R177): direction, the zone it left (0 closed, 1 open,
2 neither), whether it is clean so far, its axis cycle count, its bins, the capture entries of its peak and of its decision,
the stop cause, and the buffer with its use. -/
structure MoveRun where
  /-- Direction (R162). -/
  closing : Bool := false
  /-- Zone it left (R171). -/
  zone : Nat := 2
  /-- Clean so far (R163). -/
  clean : Bool := false
  /-- Axis cycle count (R171). -/
  cycle : Word := 0
  /-- Bins gathered (R163). -/
  bins : SMap MoveBin := []
  /-- Peak EXCESS (R172). -/
  peak : Nat := 0
  /-- Capture entry of the peak (R176). -/
  peakAt : Option Nat := none
  /-- Capture entry of the decision (R176). -/
  decideAt : Option Nat := none
  /-- Cause of the stop (R176). -/
  cause : Nat := 0
  /-- Capture buffer and its use (R174). -/
  buf : Option (Nat × Nat) := none
  /-- The capture was truncated when its buffer was taken again (R177). -/
  trunc : Bool := false
deriving DecidableEq, Repr

/-- An anomaly of a cycle that waits for STAND (R176). -/
structure Anomaly where
  /-- The move concerned (R176). -/
  move : MoveRun
  /-- Promoted by command (R176). -/
  byCommand : Bool
  /-- Nothing more is gathered for it: a command's completed move, or a move that its cycle ended in (R176, R177). -/
  final : Bool
deriving DecidableEq, Repr

/-- An entry of the promotion list (R176). -/
structure Promo where
  /-- Axis (R176). -/
  axis : Nat
  /-- Door (R176). -/
  door : Nat
  /-- The move (R176). -/
  move : MoveRun
  /-- Promoted by command (R176). -/
  byCommand : Bool
  /-- Tag of the promotion (R176). -/
  tag : Nat
deriving DecidableEq, Repr

/-- One frame's set-point kept for the estimator's pairing and for the homing edge (R142, R155): raw position, velocity and
acceleration at the end of the frame, and the table address. -/
structure Hist where
  /-- Raw position (R155). -/
  raw : Int
  /-- Velocity (R155). -/
  v : Int
  /-- Acceleration (R155). -/
  a : Int
  /-- Table address (R155). -/
  addr : Nat
deriving DecidableEq, Repr

/-- The estimator state of one axis (R155–R168): the validity floor, the last four set-points (newest first), the previous
sample, the induced rotor angle and its last eight changes, the tracked rotor position with the angle it follows, the
decision counts, and the results of the last frame (δ_res and U_b in 1/2²¹ microstep, |e| in µV). -/
structure Estim where
  /-- Below the validity floor (R159). -/
  below : Bool := true
  /-- Frames above the floor (R159). -/
  floorFrames : Nat := 0
  /-- The last four set-points, newest first (R155). -/
  hist : List Hist := []
  /-- The previous current sample (R155). -/
  prevIm : Int := 0
  /-- Its address (R155). -/
  prevAddr : Nat := 0
  /-- It was good (R155). -/
  prevOk : Bool := false
  /-- The axis was energised (R158). -/
  energised : Bool := false
  /-- Rotor angle (R155). -/
  theta : Option Nat := none
  /-- Its last eight changes (R157). -/
  turns : List Int := []
  /-- Tracked rotor position (R158). -/
  rotor : Option Int := none
  /-- The angle it follows (R158). -/
  angle : Nat := 0
  /-- Frames of an obstacle decision (R165). -/
  obsN : Nat := 0
  /-- Frames of a stall by angle (R166). -/
  stallA : Nat := 0
  /-- Frames of a stall by induced voltage (R166). -/
  stallE : Nat := 0
  /-- The estimate is valid (R159). -/
  valid : Bool := false
  /-- Load angle in 1/32 microstep (R156). -/
  delta : Int := 0
  /-- Residual in 1/2^21 microstep (R163). -/
  dres : Int := 0
  /-- Upper bound in 1/2^21 microstep (R163). -/
  ub : Int := 0
  /-- Bin of the frame (R162). -/
  bin : Nat := 0
  /-- Direction of the frame (R162). -/
  closing : Bool := false
  /-- EXCESS (R165). -/
  excess : Nat := 0
  /-- Induced voltage (R155). -/
  emf : Nat := 0
  /-- Current byte (R155). -/
  im : Nat := 0
  /-- Slot 6 of the axis (R156). -/
  slot6 : Word := 0
  /-- Speed of the rotor (R157). -/
  speed : Int := 0
  /-- Lag of the rotor (R158). -/
  lag : Int := 0
deriving DecidableEq, Repr

/-- One capture buffer (R174, R180): the axis cycle it holds, the frame count at its start, its entries, newest first, its
flags, and how often it was taken. -/
structure Capture where
  /-- Axis cycle count (R174). -/
  cycle : Word := 0
  /-- Frame count at its start (R174). -/
  start : Word := 0
  /-- Entries, newest first (R174). -/
  entries : List Word := []
  /-- Entries taken (R174). -/
  count : Nat := 0
  /-- Older entries were lost (R174). -/
  truncated : Bool := false
  /-- Still filling (R174). -/
  inProgress : Bool := false
  /-- The cycle did not complete (R174). -/
  incomplete : Bool := false
  /-- How often the buffer was taken (R174). -/
  uses : Nat := 0
deriving DecidableEq, Repr

/-- The door-cycle part of an axis (R171–R180): whether it left its closed zone in the cycle, the direction of its previous
move, whether the cycle is anomalous already, the anomaly that waits for STAND, the peak EXCESS, the buffer in use, the
state in the frame before, CYCCTL with the frame of its write, the move in progress and the last one, the counts of
slots 106–110, and what this cycle adds to the lifetime counts when it completes. -/
structure AxCycle where
  /-- The axis left its closed zone (R171). -/
  left : Bool := false
  /-- Direction of its previous move (R171). -/
  prevDir : Int := 0
  /-- The cycle is anomalous already (R176). -/
  anomalous : Bool := false
  /-- Anomalies that wait for STAND, one for each cycle, oldest first (R176). -/
  pend : List Anomaly := []
  /-- Causes of the stops taken up in this frame (R171). -/
  taken : List Nat := []
  /-- The axis has reached STAND since its last move ended (R176). -/
  stood : Bool := false
  /-- Peak EXCESS (R172). -/
  peak : Nat := 0
  /-- Buffer in use (R174). -/
  buf : Option Nat := none
  /-- Axis state one frame before (R171). -/
  prevState : AxState := .off
  /-- The values of CYCCTL not yet acted on, each with the frame of its write, oldest first (R180). -/
  ctl : List (Word × Word) := []
  /-- Direction of the move that is in progress or that has ended in this frame (R171). -/
  runDir : Option Int := none
  /-- The number of the door cycle in progress, or of the last one, since entry to RUN (the model's own, R176). -/
  serial : Nat := 0
  /-- The last completed move made in a door cycle, with the number of that cycle (R176). -/
  lastIn : Option (Nat × MoveRun) := none
  /-- The move in progress (R163). -/
  move : Option MoveRun := none
  /-- The last move (R176). -/
  last : Option MoveRun := none
  /-- The lifetime block is to be committed at the end of the cycle (R164). -/
  envChanged : Bool := false
  /-- Count of slot 106 (R180). -/
  obst : Word := 0
  /-- Count of slot 107 (R180). -/
  stall : Word := 0
  /-- Count of slot 108 (R180). -/
  edge : Word := 0
  /-- Count of slot 109 (R180). -/
  lag : Word := 0
  /-- Count of slot 110 (R180). -/
  dropped : Word := 0
  /-- Reversals of the cycle (R172). -/
  cRev : Nat := 0
  /-- Obstacle stops of the cycle (R172). -/
  cObst : Nat := 0
  /-- Stall stops of the cycle (R172). -/
  cStall : Nat := 0
  /-- Edge stops of the cycle (R172). -/
  cEdge : Nat := 0
  /-- Lag stops of the cycle (R172). -/
  cLag : Nat := 0
  /-- The four capture buffers (R174). -/
  buffers : SMap Capture := []
deriving DecidableEq, Repr

/-- The counters of an axis's lifetime block (R368): generation, cycle and stop counts, operating time, relearns, and the
envelopes with their learning progress; which of the two copies holds it. -/
structure Lifetime where
  /-- Generation (R368). -/
  generation : Word := 0
  /-- Cycles (R368). -/
  cycles : BitVec 64 := 0
  /-- Reversals (R368). -/
  reversals : Word := 0
  /-- Obstacle stops (R368). -/
  obst : Word := 0
  /-- Stall stops (R368). -/
  stall : Word := 0
  /-- Edge stops (R368). -/
  edge : Word := 0
  /-- Lag stops (R368). -/
  lag : Word := 0
  /-- Operating time of the commit (R368). -/
  opTime : BitVec 48 := 0
  /-- Relearns (R368). -/
  relearns : Word := 0
  /-- The envelope of opening moves (R368). -/
  opening : Direction := {}
  /-- The envelope of closing moves (R368). -/
  closing : Direction := {}
  /-- Which copy holds it (R368). -/
  copy : Nat := 0
  /-- The copy is not valid: the free value its bytes are (R368). -/
  spoilt : Option Nat := none
deriving DecidableEq, Repr

/-- Everything the module keeps for one axis beside its signals and registers: motion, estimator, cycles, the lifetime block
(working, stored, and the copy before it), the input levels of the last good frame, and the run of frames that show its channel lost (R219). -/
structure Axis where
  /-- Motion (R123). -/
  motion : Motion := {}
  /-- Homing (R140). -/
  homing : Homing := {}
  /-- Gearing (R145). -/
  gearing : Gearing := {}
  /-- Estimator (R155). -/
  estim : Estim := {}
  /-- Cycle (R171). -/
  cycle : AxCycle := {}
  /-- Working lifetime block (R368). -/
  live : Lifetime := {}
  /-- The copy in force (R368). -/
  stored : Lifetime := {}
  /-- The other copy (R368). -/
  older : Option Lifetime := none
  /-- Input levels of the last good frame (R219). -/
  levels : BitVec 5 := 0
  /-- Frames in a row that show the channel out of service (R219). -/
  chLostRun : Nat := 0
  /-- The channel is lost (R219). -/
  chLost : Bool := false
  /-- Status bits of the last good slot (R219). -/
  status : BitVec 11 := 0
  /-- Frames latched with VALID clear since entry to RUN, the count that slot 24 shows (R223). -/
  unlatched : Word := 0
deriving DecidableEq, Repr

/-- A door's cycle in progress (R171, R172): the frame count at its start, frames in motion, peak EXCESS and the axis that
had it, reversals, and the flags of its record. -/
structure DoorCycle where
  /-- A cycle is in progress (R171). -/
  active : Bool := false
  /-- Frame count at its start (R171). -/
  start : Word := 0
  /-- Frames in motion (R172). -/
  motionFrames : Nat := 0
  /-- Peak EXCESS (R172). -/
  peak : Nat := 0
  /-- The axis that had it (R172). -/
  peakAxis : Nat := 0
  /-- Reversals (R172). -/
  reversals : Nat := 0
  /-- Flags of its record (R172). -/
  flags : Nat := 0
  /-- The frame in which it ended, while its record waits for the last envelope update (R163, R172). -/
  ended : Option Word := none
  /-- CYCTAG of axis index 0 at its end (R172). -/
  tag : Nat := 0
deriving DecidableEq, Repr

/-! ### Axis stream (chapter 07) -/

/-- A bulk block (R197). -/
structure Block where
  /-- Port (R197). -/
  port : Nat := 0
  /-- Node (R197). -/
  node : Nat
  /-- Block type (R197). -/
  btype : Nat
  /-- Message sequence number (R197). -/
  mseq : Nat
  /-- Fragment byte (R197). -/
  frag : Nat
  /-- Data (R197). -/
  data : List Byte
  /-- Its place in the order of its port, of arrival upstream and of queueing downstream (the model's own, R204, R207). -/
  ord : Nat := 0
deriving DecidableEq, Repr

/-- A request to a node that waits for its reply (R206): block type, frames since its last block was sent, repeats made, and
its blocks for a repeat. -/
structure NodeReqSt where
  /-- Block type of the request (R206). -/
  btype : Nat
  /-- Frames since its last block (R206). -/
  age : Nat
  /-- Repeats made (R206). -/
  repeats : Nat
  /-- Its blocks (R206). -/
  blocks : List Block
  /-- A reply message to it is being received (R206). -/
  answering : Bool := false
deriving DecidableEq, Repr

/-- What the module knows of one node (R196, R204–R211). -/
structure Node where
  /-- Found by the link start (R210). -/
  known : Bool := false
  /-- Type (R211). -/
  ntype : Nat := 0
  /-- Revision (R211). -/
  revision : Nat := 0
  /-- Serial number (R211). -/
  serial : Word := 0
  /-- Channels (R211). -/
  channels : Nat := 0
  /-- Buffer size (R211). -/
  buffer : Nat := 0
  /-- Safe states it supports (R211). -/
  safeStates : Nat := 0
  /-- Measured delay (R210). -/
  tp : Nat := 0
  /-- Downstream delay (R210). -/
  ddown : Nat := 0
  /-- CRC of its tables (R211). -/
  tableCrc : List Word := []
  /-- Configured (R212). -/
  configured : Bool := false
  /-- Free blocks it reports (R196). -/
  free : Nat := 0
  /-- Free blocks reported before (R204). -/
  freeOld : Nat := 0
  /-- Blocks it has waiting (R196). -/
  pend : Nat := 0
  /-- Blocks it had waiting in the frame before (R205). -/
  pendOld : Nat := 0
  /-- Error field (R196). -/
  err : Nat := 0
  /-- Blocks sent in the last four frames (R204). -/
  sent3 : List Nat := []
  /-- Next MSEQ sent (R197). -/
  txSeq : Nat := 0
  /-- Next MSEQ expected (R197). -/
  rxSeq : Nat := 0
  /-- A message is being received (R197). -/
  rxOpen : Bool := false
  /-- The requests that wait for their replies, oldest first (R206). -/
  requests : List NodeReqSt := []
  /-- A request was given up and not yet reported (R206). -/
  gaveUp : Bool := false
  /-- Reply blocks that wait for the host (R206). -/
  replies : List Block := []
deriving DecidableEq, Repr

/-- The port states of STR_STATUS.STATE (R226). -/
inductive PortState where
  | down
  | train
  | enum
  | tables
  | config
  | up
  | lost
  | listen
deriving DecidableEq, Repr

/-- The upstream frame last received whole (R190, R194): good or bad, its frame number, originating node and slot words. -/
structure UpFrame where
  /-- The frame was good (R194). -/
  good : Bool := false
  /-- Frame number (R194). -/
  frame : Word := 0
  /-- Nodes that answered (R194). -/
  ncount : Nat := 0
  /-- Slot words (R194). -/
  slots : SMap (BitVec 64) := []
deriving DecidableEq, Repr

/-- The downstream frame last sent on a port (R190–R192): its number, the flags LS, WS and PR, the set-point words by slot,
the grants of a link start, and the bulk blocks. -/
structure DownFrame where
  /-- Frame number (R190). -/
  frame : Word
  /-- LS (R191). -/
  ls : Bool
  /-- WS (R191). -/
  warm : Bool
  /-- PR (R191). -/
  paired : Bool
  /-- Set-point words (R192). -/
  slots : SMap (BitVec 64) := []
  /-- Grants (R205). -/
  grants : List Nat := []
  /-- Bulk blocks (R190). -/
  blocks : List Block := []
deriving DecidableEq, Repr

/-- An axis as a link start took it: its slot, node, channel, table and safe state (R212, R214). -/
structure PortAxis where
  /-- Axis (R212). -/
  axis : Nat
  /-- Slot (R212). -/
  slot : Nat
  /-- Node (R212). -/
  node : Nat
  /-- Channel (R212). -/
  chan : Nat
  /-- Table (R212). -/
  table : Nat
  /-- Safe state is the brake (R212). -/
  brake : Bool
deriving DecidableEq, Repr

/-- The slot configuration in force on a port since its last link start: its axes, and STR_ENCCFG of its encoders. -/
structure PortLayout where
  /-- Its axes (R214). -/
  axes : List PortAxis := []
  /-- Its encoders (R214). -/
  encs : List (Nat × Word) := []
deriving DecidableEq, Repr

/-- One stream port. -/
structure Port where
  /-- State (R226). -/
  st : PortState := .down
  /-- The link start is warm (R191). -/
  warm : Bool := false
  /-- NCOUNT while UP (R226). -/
  found : Nat := 0
  /-- Nodes found at the last link start (R226). -/
  foundStart : Nat := 0
  /-- Code shown in STR_STATUS (R226). -/
  code : Nat := 0
  /-- Frames in the phase (R210). -/
  phaseFrames : Nat := 0
  /-- Frame s (R213). -/
  startAt : Option Word := none
  /-- Frames since the loss (R217). -/
  lostFrames : Nat := 0
  /-- Bad frames in a row (R217). -/
  badRun : Nat := 0
  /-- Short frames in a row (R218). -/
  shortRun : Nat := 0
  /-- First node beyond a break (R218). -/
  lostFrom : Nat := 0
  /-- Slot configuration in force (R214). -/
  layout : Option PortLayout := none
  /-- Frame received (R194). -/
  rx : Option UpFrame := none
  /-- Frame sent (R190). -/
  tx : Option DownFrame := none
  /-- Encoders with a good sample (R146). -/
  encOk : List Nat := []
  /-- Nodes by number (R196). -/
  nodes : SMap Node := []
  /-- The port engine's transmit buffer, 64 blocks (R207). -/
  bulk : List Block := []
  /-- Blocks that wait for room in it (R207). -/
  backlog : List Block := []
  /-- Blocks queued downstream since the start (the model's own, R204). -/
  queued : Nat := 0
  /-- Blocks that arrived for the host (the model's own, R207). -/
  arrived : Nat := 0
  /-- Reply blocks received that the next boundary latches (R421). -/
  arriving : List Block := []
  /-- The grants of this frame and of the three before it, newest first (R205). -/
  granted : List (List Nat) := []
  /-- Round robin over nodes (R204). -/
  rrNode : Nat := 0
  /-- Node that was granted last (R205). -/
  rrGrant : Nat := 0
  /-- Round robin of NODE.READ (R329). -/
  readRr : Nat := 0
  /-- Nodes of replies read in part, the last first (R329). -/
  readPart : List Nat := []
  /-- The standby's last listened frame was good (R307). -/
  listenGood : Bool := false
  /-- FRAME of the last frame heard in LISTEN, and the module's own count of frames then (R221). -/
  heard : Option (Word × Word) := none
deriving DecidableEq, Repr

/-- A sheaf queue behind the ports (R207–R209): entries on die and in the spill area, oldest first. -/
structure Queue where
  /-- Entries on die (R207). -/
  onDie : List Block := []
  /-- Entries in DRAM (R208). -/
  spill : List Block := []
  /-- Bytes of event entries on die (R208). -/
  events : Nat := 0
  /-- New entries go to DRAM (R209). -/
  spilling : Bool := false
  /-- Nothing more is granted since the inbound spill area was full (R209). -/
  full : Bool := false
  /-- The episode is recorded (R209). -/
  fullNoted : Bool := false
  /-- Full episodes (R209). -/
  episodes : Nat := 0
deriving DecidableEq, Repr

/-! ### Safety island (chapter 08) -/

/-- The per-axis safety states of R233. -/
inductive SafeState where
  | none
  | clear
  | stopping
  | held
  | torqueOff
  | fault
deriving DecidableEq, Repr

/-- A per-axis monitor (R230–R236). -/
structure AxSafe where
  /-- Safety state (R233). -/
  st : SafeState := .none
  /-- Code of the violation (R233). -/
  code : Nat := 0
  /-- Frames over the speed limit (R230). -/
  slsN : Nat := 0
  /-- Frames against the direction (R230). -/
  sdiN : Nat := 0
  /-- Frames against the direction as the second set of monitors counts them (R227). -/
  sdiNB : Nat := 0
  /-- Frames of divergence (R231). -/
  divN : Nat := 0
  /-- Frames below the floor (R231). -/
  floorN : Nat := 0
  /-- Divergence is judged (R231). -/
  divOk : Bool := false
  /-- Frames at standstill (R233). -/
  zeroFrames : Nat := 0
  /-- Frames in OFF (R234). -/
  offFrames : Nat := 0
  /-- The frame j0 in which STOPPING began, until its speed is taken (R235). -/
  stopAt : Option Word := none
  /-- Speed at the entry to STOPPING (R236). -/
  stopV0 : Option Nat := none
  /-- Frames in STOPPING (R236). -/
  stopFrames : Nat := 0
  /-- SLP is violated (R230). -/
  slp : Bool := false
  /-- The axis is returning into its range (R230). -/
  inReturn : Bool := false
  /-- Distance of the return (R230). -/
  retDist : Int := 0
  /-- Functions active (R230). -/
  active : List Nat := []
  /-- Positions and speeds judged (R231). -/
  hist : List (Int × Int) := []
deriving DecidableEq, Repr

/-- A group (R238, R239). -/
structure Group where
  /-- Released (R238). -/
  released : Bool := false
  /-- Released as the hard-wired logic decides it (R227). -/
  releasedB : Bool := false
  /-- Closed (R238). -/
  closed : Bool := false
  /-- Locked (R238). -/
  locked : Bool := false
  /-- Zero speed (R238). -/
  zerospd : Bool := false
  /-- A waiver is in force (R239). -/
  waiver : Bool := false
  /-- Axes whose node status is waived (R239). -/
  waived : List Nat := []
  /-- Axes that met every other term of CLOSED (R239). -/
  restMet : List Nat := []
deriving DecidableEq, Repr

/-- A safety loop (R240–R242). -/
structure Loop where
  /-- On (R240). -/
  on : Bool := false
  /-- The condition holds (R240). -/
  cond : Bool := false
  /-- Cycles it has held (R241). -/
  held : Nat := 0
  /-- Read-back fault (R242). -/
  rbFault : Bool := false
  /-- Mismatches of the even output (R242). -/
  mismEven : Nat := 0
  /-- Mismatches of the odd output (R242). -/
  mismOdd : Nat := 0
  /-- Cycles with both outputs read off (R242). -/
  offCycles : Nat := 0
deriving DecidableEq, Repr

/-- A two-channel input pair (R243, R244). -/
structure Pair where
  /-- Value (R243). -/
  value : Bool := false
  /-- Discrepancy fault (R243). -/
  fault : Bool := false
  /-- Cycles of disagreement (R243). -/
  count : Nat := 0
  /-- Channel A is active (R243). -/
  aActive : Bool := false
  /-- Channel B is active (R243). -/
  bActive : Bool := false
deriving DecidableEq, Repr

/-- A valid telegram copy that waits for its partner (R246). -/
structure TgCopy where
  /-- Port (R246). -/
  port : Nat
  /-- Arrival in 0.1 ms (R246). -/
  stamp : Nat
  /-- The 60 bytes (R245). -/
  bytes : List Byte
  /-- Operating time when it was handed to the island (the model's own, R248). -/
  op : Nat := 0
deriving DecidableEq, Repr

/-- A telegram source (R245–R249). -/
structure TgSource where
  /-- Operating time of the last accepted telegram (R248). -/
  acceptedOp : Option Nat := none
  /-- A SEQ was accepted (R249). -/
  haveSeq : Bool := false
  /-- Accepted SEQ (R249). -/
  seq : Word := 0
  /-- Accepted TIME (R249). -/
  time : Nat := 0
  /-- Its arrival (R249). -/
  stamp : Nat := 0
  /-- A checkpoint is held (R249). -/
  cpSet : Bool := false
  /-- SEQ of the checkpoint (R249). -/
  cpSeq : Word := 0
  /-- TIME of the checkpoint (R249). -/
  cpTime : Nat := 0
  /-- Arrival of the last accepted pair (R246). -/
  pairStamp : Option Nat := none
  /-- Copies that wait for their partner (R246). -/
  waiting : List TgCopy := []
  /-- Release bits (R245). -/
  rel : BitVec 64 := 0
  /-- User bits (R245). -/
  user : BitVec 64 := 0
  /-- Timed out (R248). -/
  timedOut : Bool := false
  /-- On a single path (R246). -/
  single : Bool := false
  /-- Copies not accepted (R247). -/
  rejected : Nat := 0
deriving DecidableEq, Repr

/-- The copy of the parameter set before the last store (R250). -/
structure SafCopy where
  /-- Operating time of the store that replaces it (R250). -/
  since : Nat := 0
  /-- Its words (R250). -/
  words : SMap Word := []
  /-- COMMISSIONED in it (R252). -/
  comm : Bool := false
  /-- The mode in it (R227). -/
  mode : Bool := false
deriving DecidableEq, Repr

/-- The safety island: its latches, monitors, groups, loops, pairs and sources, and the inputs of the last cycle. -/
structure Island where
  /-- COMMISSIONED (R252). -/
  comm : Bool := false
  /-- Dual mode in force (R227). -/
  mode : Bool := false
  /-- Fault latch (R229). -/
  fault : Nat := 0
  /-- Cycles of disagreement of the two channels (R229). -/
  crossRun : Nat := 0
  /-- The check value is being recomputed (R251). -/
  chkBusy : Bool := false
  /-- SAF_CHECK (R251). -/
  check : Word := 0
  /-- The other of the two alternating copies of the parameter set (R250). -/
  older : Option SafCopy := none
  /-- The frame of the last safety cycle (R228). -/
  cycleAt : Option Word := none
  /-- Operating time of SAF_UNLOCK (R250). -/
  unlockedAt : Option Nat := none
  /-- SAF_TESTAGE (R256). -/
  testAge : Word := 0
  /-- TESTDUE (R256). -/
  testDue : Bool := false
  /-- Record 0x3040 has been written since the last completed ROAST (R256). -/
  testTold : Bool := false
  /-- SAF_CMD that waits for the next cycle (R260). -/
  cmd : Option Word := none
  /-- Inputs A as read (R264). -/
  diA : BitVec 64 := 0
  /-- Inputs B as read (R264). -/
  diB : BitVec 64 := 0
  /-- The inputs are good (R266). -/
  diOk : Bool := false
  /-- Outputs read back (R242). -/
  soOn : BitVec 8 := 0
  /-- Outputs that the husk had on, and so pulsed, in the cycle before (R288). -/
  soLive : BitVec 8 := 0
  /-- Outputs that fell in a test pulse (R288). -/
  soFell : BitVec 8 := 0
  /-- Outputs pulsed in the cycle (R288). -/
  soPulse : BitVec 8 := 0
  /-- Outputs commanded (R241). -/
  soCmd : BitVec 8 := 0
  /-- Outputs sent in the last cycle (R242). -/
  soSent : BitVec 8 := 0
  /-- Failed test pulses (R288). -/
  pulseBad : BitVec 8 := 0
  /-- Monitors by axis (R233). -/
  axes : SMap AxSafe := []
  /-- Groups (R238). -/
  groups : SMap Group := []
  /-- Loops (R240). -/
  loops : SMap Loop := []
  /-- Input pairs (R243). -/
  pairs : SMap Pair := []
  /-- Input pairs of the second channel (R227). -/
  pairsB : SMap Pair := []
  /-- Inputs of the second channel one cycle before (R227). -/
  diPrevB : BitVec 64 := 0
  /-- Filtered inputs of the second channel (R227). -/
  diFiltB : BitVec 64 := 0
  /-- Telegram sources (R245). -/
  sources : SMap TgSource := []
deriving DecidableEq, Repr

/-! ### Husk and field section (chapter 09) -/

/-- One high-side channel as the husk drives it (R276–R285). -/
structure Hs where
  /-- On (R276). -/
  on : Bool := false
  /-- Command (R276). -/
  cmd : Bool := false
  /-- Husk time of the last change (R276). -/
  lastChange : Option Nat := none
  /-- Command deferred (R276). -/
  deferred : Option Bool := none
  /-- Limit latch (R277). -/
  limitLatch : Bool := false
  /-- Thermal latch (R277). -/
  thermLatch : Bool := false
  /-- Above the trip temperature (R277). -/
  hot : Bool := false
  /-- The latch waits for cooling (R277). -/
  waitCool : Bool := false
  /-- A retry is due (R279). -/
  retryPending : Bool := false
  /-- Retries made (R280). -/
  retries : Nat := 0
  /-- Husk time of turning on (R279). -/
  onSince : Nat := 0
  /-- The fuse-curve integral in mA² times 100 µs (R277, R278). -/
  curve : Nat := 0
  /-- Evaluations since the last latch that the integral has already taken (R277). -/
  curveTaken : Nat := 0
  /-- Latches in the present on-phase, to 2 (R285). -/
  phase : Nat := 0
  /-- Latches with the current below OLTHR, to 51 (R283). -/
  olLow : Nat := 0
  /-- Latches with the current at or above OLTHR, to 51 (R283). -/
  olHigh : Nat := 0
  /-- Open load (R283). -/
  openLoad : Bool := false
  /-- Fed from outside (R283). -/
  feed : Bool := false
  /-- Off by undervoltage (R262). -/
  uvOff : Bool := false
  /-- In its fail-safe state (R268). -/
  failsafe : Bool := false
  /-- Frames of mismatch (R284). -/
  mismatch : Nat := 0
  /-- Read-back mismatch (R284). -/
  rbBad : Bool := false
  /-- Current (R290). -/
  current : BitVec 16 := 0
  /-- Output reads high (R284). -/
  high : Bool := false
  /-- At its limit (R277). -/
  atLimit : Bool := false
deriving DecidableEq, Repr

/-- A safety output as the husk drives it (R287). -/
structure So where
  /-- On (R287). -/
  on : Bool := false
  /-- Overload (R287). -/
  overload : Bool := false
  /-- Current (R287). -/
  current : BitVec 16 := 0
deriving DecidableEq, Repr

/-- One field input on the logic side (R273, R274, R290). -/
structure Di where
  /-- Logical level (R273). -/
  logical : Bool := false
  /-- Channel A level (R273). -/
  a : Bool := false
  /-- Debounce count (R274). -/
  deb : Nat := 0
  /-- Cycles of difference (R273). -/
  diff : Nat := 0
  /-- The channels differ (R273). -/
  differs : Bool := false
  /-- Changes counted (R274). -/
  changes : Nat := 0
  /-- Voltage (R290). -/
  volt : BitVec 10 := 0
deriving DecidableEq, Repr

/-- The husk and the logic side of the barrier link. -/
structure Field where
  /-- The husk is powered (R263). -/
  powered : Bool := false
  /-- The link is up (R266). -/
  linkUp : Bool := false
  /-- Bad upstream frames in a row (R266). -/
  upBad : Nat := 0
  /-- Good upstream frames in a row (R266). -/
  upGood : Nat := 0
  /-- The husk's supply was lost (R263). -/
  supplyLost : Bool := false
  /-- The trip is recorded (R269). -/
  wdSeen : Bool := false
  /-- The husk is in recovery (R268). -/
  recovery : Bool := false
  /-- Good frames of the recovery (R269). -/
  recGood : Nat := 0
  /-- The configuration is complete (R269). -/
  cfgComplete : Bool := false
  /-- The configuration words that the husk holds (R264, R269). -/
  cfg : SMap Word := []
  /-- The whole configuration is to be sent again (R269). -/
  cfgFull : Bool := false
  /-- The configuration words that have changed and are to be sent (R264). -/
  cfgWords : List Nat := []
  /-- Bad downstream frames in a row (R267). -/
  dnBadRun : Nat := 0
  /-- Bad downstream frames that no upstream frame has reported yet (R264). -/
  dnNew : Nat := 0
  /-- V24F as the husk measured it last (R262). -/
  v24fHusk : Word := 0
  /-- Quads with a channel at its limit at the last latch (R282). -/
  limitNow : BitVec 8 := 0
  /-- Quads with a channel at its limit at the latch before (R282). -/
  limitPrev : BitVec 8 := 0
  /-- The husk's watchdog tripped (R268). -/
  tripped : Bool := false
  /-- Undervoltage (R262). -/
  uv : Bool := false
  /-- Undervoltage episodes (R262). -/
  uvEpisodes : Word := 0
  /-- The husk holds a configuration (R272). -/
  configured : Bool := false
  /-- Outputs are held for ROAST (R385). -/
  roastHold : Bool := false
  /-- A barrier frame with every SO output off is still to come after a power-fail warning (R413). -/
  offDue : Bool := false
  /-- Safety cycles of the husk's own time in which operating time stood still: a reset (R263, R414). -/
  aside : Nat := 0
  /-- DRV pins (R285). -/
  drv : BitVec 4 := 0
  /-- Cycle count of the refresh (R290). -/
  cycle : Nat := 0
  /-- High-side channels (R276). -/
  hs : SMap Hs := []
  /-- Raised limits of ganged quads (R281). -/
  raised : BitVec 8 := 0
  /-- Safety outputs (R287). -/
  so : SMap So := []
  /-- SO command at the husk (R264). -/
  soCmd : BitVec 8 := 0
  /-- HS command at the husk (R264). -/
  hsCmd : BitVec 32 := 0
  /-- Inputs (R273). -/
  di : SMap Di := []
  /-- V24F (R262). -/
  v24f : Word := 0
  /-- Lowest V24F (R293). -/
  v24fLow : Word := 0xFFFFFFFF
  /-- Husk supply (R290). -/
  huskSupply : Word := 0
  /-- Case temperature (R290). -/
  caseTemp : Word := 0
deriving DecidableEq, Repr

/-! ### Redundant pair (chapter 10) -/

/-- The pair roles of PAIR_STATUS.ROLE (R312). -/
inductive Role where
  | unpaired
  | seek
  | active
  | standby
deriving DecidableEq, Repr

/-- The standby's copy of one axis from the mirror frames (R301). -/
structure MirrorAxis where
  /-- Raw position (R301). -/
  raw : BitVec 48 := 0
  /-- Slot 4 (R301). -/
  slot4 : BitVec 16 := 0
  /-- Home offset (R301). -/
  homeOff : Word := 0
  /-- Cycle count (R301). -/
  cycles : Word := 0
  /-- Safety state (R301). -/
  safe : Nat := 0
deriving DecidableEq, Repr

/-- What a received pair frame holds for the module (R301, R304): a mirror frame or a status frame, as its bytes. -/
structure PairRx where
  /-- A mirror frame (R301). -/
  mirror : Bool
  /-- Its bytes (R304). -/
  bytes : List Byte
deriving DecidableEq, Repr

/-- The redundant pair unit. -/
structure PairUnit where
  /-- Role (R298). -/
  role : Role := .unpaired
  /-- UNIT pin (R298). -/
  unit1 : Bool := false
  /-- ROLE_IN (R295). -/
  roleIn : Bool := false
  /-- ROLE_OUT (R295). -/
  roleOut : Bool := false
  /-- Frames in SEEK without a partner (R298). -/
  claimFrames : Nat := 0
  /-- Frame received (R301). -/
  rx : Option PairRx := none
  /-- Good frames in a row (R298). -/
  goodFrames : Nat := 0
  /-- Boundaries without a mirror frame (R307). -/
  missed : Nat := 0
  /-- Age of the mirror (R312). -/
  age : Nat := 0
  /-- Longest run of missed frames (R312). -/
  missMax : Nat := 0
  /-- A complete mirror is held (R304). -/
  complete : Bool := false
  /-- Boundaries without a good frame (R311). -/
  linkAge : Nat := 0
  /-- The link is down (R311). -/
  linkDown : Bool := false
  /-- Frames with ROLE_IN high (R299). -/
  roleInHigh : Nat := 0
  /-- Frames of disagreement (R311). -/
  disagree : Nat := 0
  /-- The disagreement is recorded (R311). -/
  disagreed : Bool := false
  /-- Flags of the partner (R304). -/
  partnerFlags : BitVec 8 := 0
  /-- The sender of the last mirror frame was in RUN (R301). -/
  partnerRun : Bool := false
  /-- The own loop latched for a stuck output of the standby, while the standby reports it (R304). -/
  stuckLoop : Option Nat := none
  /-- Role of the partner (R304). -/
  partnerRole : Nat := 0
  /-- The partner is eligible (R304). -/
  partnerElig : Bool := false
  /-- The partner's ROAST is missing (R304). -/
  partnerNoRoast : Bool := false
  /-- The partner's PAIR_ACTAGE (R310). -/
  partnerActAge : Word := 0
  /-- The partner's pair identifier (R304). -/
  partnerPairId : Word := 0
  /-- The partner's check value (R304). -/
  partnerCheck : Word := 0
  /-- A partner was seen (R304). -/
  partnerSeen : Bool := false
  /-- Frame number of the last mirror (R304). -/
  mirrorFrame : Word := 0
  /-- HANDOVER was received (R301). -/
  handover : Bool := false
  /-- A mismatch is recorded (R311). -/
  mismatched : Bool := false
  /-- A take-over was refused in this loss (R311). -/
  notTaken : Bool := false
  /-- A swap is due (R310). -/
  swapDue : Bool := false
  /-- PAIR_CMD that waits (R309). -/
  swapReq : Option Word := none
  /-- The role is to be released at the next boundary, with HANDOVER sent in its frame (R300). -/
  releaseDue : Bool := false
  /-- The role is being released (R300). -/
  releasing : Bool := false
  /-- The role is being yielded (R299). -/
  yielding : Bool := false
  /-- The role is being claimed (R308). -/
  claiming : Bool := false
  /-- PAIR_ACTAGE (R310). -/
  actAge : Word := 0
  /-- Mirror copies of the axes (R301). -/
  axes : SMap MirrorAxis := []
  /-- Mirror copies of the signals (R302). -/
  signals : SMap Sig := []
  /-- Mirror copy of the pair faults (R301). -/
  pairFaults : BitVec 32 := 0
  /-- Mirror copy of the counts (R301). -/
  pairCounts : List (BitVec 16) := []
  /-- The partner's REC_NEXTSEQ (R301). -/
  recSeq : Word := 0
  /-- The partner's lost-event count (R301). -/
  recLost : Word := 0
  /-- Next part mirrored (R302). -/
  mirrorNext : Nat := 0
  /-- Pair frame sent (R301). -/
  tx : List Byte := []
  /-- Eligible at the last mirror frame (R307). -/
  eligAtLast : Bool := false
  /-- Downstream frames missed (R307). -/
  listenMissed : Nat := 0
deriving DecidableEq, Repr

/-! ### Host ports (chapter 11) -/

/-- A queued VHP request. -/
structure VReq where
  /-- Port of the first copy (R318). -/
  port : Nat
  /-- Address of the sender (R318). -/
  ip : Word
  /-- UDP port of the sender (R318). -/
  udp : BitVec 16
  /-- TYPE (R316). -/
  vtype : Nat
  /-- SEQ (R316). -/
  seq : Word
  /-- CRC (R318). -/
  crc : Word
  /-- Payload (R316). -/
  payload : List Byte
  /-- Ethernet source of the first copy (R314). -/
  mac : BitVec 48
  /-- Ports on which a copy arrived, with the Ethernet source of that copy (R314, R318). -/
  ports : List (Nat × BitVec 48)
deriving DecidableEq, Repr

/-- A datagram the module sends on a host port: to which address and UDP port, and its UDP payload (for ARP and ICMP, the
protocol's body).  `mac` is the Ethernet destination; DF and TTL are those of the IPv4 header and `sum` the UDP checksum, 0 where the
frame has none of them (R313, R314). -/
structure Tx where
  /-- Port (R314). -/
  port : Nat
  /-- 0 VHP, 1 ARP, 2 ICMP (R314). -/
  kind : Nat
  /-- Ethernet destination (R314). -/
  mac : BitVec 48
  /-- DF (R313). -/
  df : Bool
  /-- TTL (R313). -/
  ttl : Nat
  /-- UDP checksum (R313). -/
  sum : BitVec 16
  /-- Address (R314). -/
  ip : Word
  /-- UDP port (R314). -/
  udp : BitVec 16
  /-- Bytes (R314). -/
  bytes : List Byte
deriving DecidableEq, Repr

/-- A held SEQ of an endpoint with the request's CRC and, once complete, its response (R318). -/
structure Held where
  /-- SEQ (R318). -/
  seq : Word
  /-- CRC of the request (R318). -/
  crc : Word
  /-- Response, once complete (R318). -/
  response : Option (List Byte)
deriving DecidableEq, Repr

/-- An endpoint of R318, with its held SEQ values, newest first. -/
structure Endpoint where
  /-- Address (R318). -/
  ip : Word
  /-- UDP port (R318). -/
  udp : BitVec 16
  /-- Held entries, newest first (R318). -/
  held : List Held
deriving DecidableEq, Repr

/-- A safe-telegram datagram waiting in a port's receive buffer (R330). -/
structure TgDatagram where
  /-- Arrival in 0.1 ms (R330). -/
  stamp : Nat
  /-- Telegram (R330). -/
  bytes : List Byte
deriving DecidableEq, Repr

/-- The host unit. DESIGN CHOICE: notes/assumptions/55.md. -/
structure HostUnit where
  /-- Link of port A (R314). -/
  linkA : Bool := false
  /-- Full duplex of port A (R314). -/
  fdxA : Bool := false
  /-- Link of port B (R314). -/
  linkB : Bool := false
  /-- Full duplex of port B (R314). -/
  fdxB : Bool := false
  /-- The watchdog has expired (R328). -/
  wdExp : Bool := false
  /-- Operating time of the last request (R328). -/
  wdSince : Nat := 0
  /-- Queued requests (R319). -/
  queue : List VReq := []
  /-- The first request is executing (R319). -/
  executing : Bool := false
  /-- Frame in which it began (R319). -/
  execFrame : Word := 0
  /-- Endpoints (R318). -/
  endpoints : List Endpoint := []
  /-- Telegrams of port A (R330). -/
  tgA : List TgDatagram := []
  /-- Telegrams of port B (R330). -/
  tgB : List TgDatagram := []
  /-- Times of echo replies, with the port (R314). -/
  echoes : List Nat := []
  /-- Stored HOST_IPA (R315). -/
  storedIpA : Word := 0xC0A8640A
  /-- Stored HOST_IPB (R315). -/
  storedIpB : Word := 0xC0A8650A
  /-- Stored HOST_NETCFG (R315). -/
  storedNet : Word := 0x00001818
  /-- Address of port A (R315). -/
  liveIpA : Word := 0xC0A8640A
  /-- Address of port B (R315). -/
  liveIpB : Word := 0xC0A8650A
  /-- Network configuration in use (R315). -/
  liveNet : Word := 0x00001818
  /-- Operating time of the last frame sent or received on port A (R443). -/
  lastA : Option Nat := none
  /-- Operating time of the last frame sent or received on port B (R443). -/
  lastB : Option Nat := none
  /-- Datagrams sent since the last boundary (the model's own, R314). -/
  tx : List Tx := []
deriving DecidableEq, Repr

/-! ### CAN (chapter 12) -/

/-- A receive delivery held in a shadow buffer (R341). -/
structure Shadow where
  /-- Frame (R341). -/
  frame : CanFrame
  /-- Frame of its start (R341). -/
  sofFrame : Word
deriving DecidableEq, Repr

/-- A message object (R337–R345). -/
structure CanObj where
  /-- Counter of the header (R339). -/
  count : Nat := 0
  /-- Locked by a read (R341). -/
  locked : Bool := false
  /-- Frame of the lock (R341). -/
  lockFrame : Word := 0
  /-- Last word of the delivery (R341). -/
  lastw : Nat := 0
  /-- Shadow buffer (R341). -/
  shadow : Option Shadow := none
  /-- A frame was lost while the shadow was full (R341). -/
  shadowLost : Bool := false
  /-- Operating time of the last delivery (R342). -/
  lastRx : Nat := 0
  /-- Receive timeout (R342). -/
  rxTimedOut : Bool := false
  /-- A request is pending (R343). -/
  pending : Bool := false
  /-- An attempt is on the bus (R345). -/
  onBus : Bool := false
  /-- Header of the request (R343). -/
  header : Word := 0
  /-- Data of the request (R343). -/
  data : List Word := []
  /-- Attempts made (R344). -/
  attempts : Nat := 0
  /-- Operating time of the request (R343). -/
  reqOp : Nat := 0
  /-- A request made during an attempt: header, data and the operating time of its write (R343, R344). -/
  next : Option (Word × List Word × Nat) := none
deriving DecidableEq, Repr

/-- A CAN controller. -/
structure Can where
  /-- Triple sampling (R335). -/
  triple : Bool := false
  /-- Transmit error count (R346). -/
  tec : Nat := 0
  /-- Receive error count (R346). -/
  recCnt : Nat := 0
  /-- Bus-off (R347). -/
  busOff : Bool := false
  /-- Recovery commanded (R347). -/
  recovering : Bool := false
  /-- The request kept in bus-off (R347). -/
  kept : Option Nat := none
  /-- Objects (R337). -/
  objs : SMap CanObj := []
deriving DecidableEq, Repr

/-! ### Recorder (chapter 13) -/

/-- A record before its SEQ is known, or as stored (R353); `cutWord` is the repeat word whose update a reset cut off (R364), and
`spoilt` names the bytes an uncorrectable MRAM error left (R365). -/
structure Record where
  /-- TYPE (R353). -/
  rtype : Nat
  /-- FLAGS (R353). -/
  flags : Nat
  /-- CODE (R353). -/
  code : Nat
  /-- SEQ (R353). -/
  seq : Word := 0
  /-- TIME (R353). -/
  time : Nat
  /-- PCYC (R353). -/
  pcyc : Word
  /-- SUBJ (R353). -/
  subj : Nat
  /-- Payload (R353). -/
  payload : List Byte
  /-- REPEAT (R358). -/
  rep : Nat := 0
  /-- REPEAT as last written (R358). -/
  repStored : Nat := 0
  /-- Operating time of the last rewrite (R358). -/
  rewrittenAt : Option Nat := none
  /-- Position in its area (R352). -/
  offset : Nat := 0
  /-- Its window has ended (R358). -/
  windowEnded : Bool := false
  /-- Repeat word whose update was cut off (R364). -/
  cutWord : Option Word := none
  /-- An uncorrectable MRAM error struck it: the free value its bytes are (R365). -/
  spoilt : Option Nat := none
deriving DecidableEq, Repr

/-- An entry of the pending queue: the record, and which entries it takes (0 overflow, 1 reserved, 2 general), and the core
of a REC.PUT. -/
structure Pend where
  /-- Record (R359). -/
  record : Record
  /-- Entries it takes: 0 overflow, 1 reserved, 2 general (R359). -/
  pool : Nat
  /-- Core of a REC.PUT (R91). -/
  core : Option Nat := none
deriving DecidableEq, Repr

/-- An entry of the clear log (R366). -/
structure ClearEntry where
  /-- Complete (R367). -/
  complete : Bool
  /-- First record cleared (R366). -/
  first : Word
  /-- Last record cleared (R366). -/
  last : Word
  /-- TIME (R366). -/
  time : Nat
  /-- PCYC (R366). -/
  pcyc : Word
  /-- Challenge (R366). -/
  challenge : BitVec 128
deriving DecidableEq, Repr

/-- A checkpoint slot as last written (R362): one that was never written, or whose writing was cut off, has no valid CRC. -/
structure Checkpoint where
  /-- Its CRC holds (R362). -/
  ok : Bool := false
  /-- Operating time of its writing, while a loss of power may still cut it off (R364). -/
  wroteAt : Option Nat := none
  /-- Write position in the Seed area (R362). -/
  seedPos : Nat := 0
  /-- Write position (R362). -/
  wpos : Nat := 0
  /-- Oldest held record (R362). -/
  oldest : Word := 0
  /-- REC_NEXTSEQ (R362). -/
  nextSeq : Word := 0
  /-- REC_LOST (R362). -/
  lost : Word := 0
  /-- Seed area state (R362). -/
  seedOpen : Bool := true
deriving DecidableEq, Repr

/-- The event recorder: MRAM contents, pending queue, counters, clear logic; `partly` says that a partly written record stands at
the write position (R363, R364). DESIGN CHOICE: notes/assumptions/59.md. -/
structure Recorder where
  /-- The Seed area is open (R351). -/
  seedOpen : Bool := true
  /-- Records of the Seed area (R351). -/
  seed : List Record := []
  /-- Records of the Chaff ring (R352). -/
  chaff : List Record := []
  /-- Write position (R352). -/
  wpos : Nat := 0
  /-- Pending queue (R359). -/
  pendq : List Pend := []
  /-- REC_NEXTSEQ (R361). -/
  nextSeq : Word := 0
  /-- REC_LOST (R360). -/
  lost : Word := 0
  /-- REC_REPSAT (R358). -/
  repSat : Word := 0
  /-- REC_TORNCNT (R363). -/
  torn : Word := 0
  /-- REC_CLEARS (R366). -/
  clears : Word := 0
  /-- REC_QPEAK (R371). -/
  qpeak : Nat := 0
  /-- The start-up scan is not done (R363). -/
  scan : Bool := true
  /-- The sealed clear key (R366). -/
  keySealed : Option (List Byte) := none
  /-- REC_KEY words written (R366). -/
  keyWords : SMap Word := []
  /-- Challenge, time and REC_NEXTSEQ of its issue (R366). -/
  challenge : Option (BitVec 128 × Nat × Word) := none
  /-- Refused tokens in a row (R366). -/
  tokenRefusals : Nat := 0
  /-- Operating time of the lockout (R366). -/
  lockedAt : Option Nat := none
  /-- Clear log (R366). -/
  clearLog : List ClearEntry := []
  /-- Operating time of the last anchor (R357). -/
  lastAnchor : Option Nat := none
  /-- Position of the wrap word in the ring (R352). -/
  wrapAt : Option Nat := none
  /-- The clear record of a clear that was cut off, its entry begun (R367). -/
  unfinished : Option Record := none
  /-- The 64 checkpoint slots (R350). -/
  slots : SMap Checkpoint := []
  /-- The slot written last (R362). -/
  cpAt : Nat := 63
  /-- Records since it (R362). -/
  sinceCp : Nat := 0
  /-- Bytes since it (R362). -/
  bytesCp : Nat := 0
  /-- Entries pending when power was lost (R364). -/
  lostPending : Nat := 0
  /-- A lifetime block commit is next (R423). -/
  lifeTurn : Bool := false
  /-- Axes whose block waits (R368). -/
  lifeQueue : List Nat := []
  /-- A partly written record stands at the write position (R364). -/
  partly : Bool := false
deriving DecidableEq, Repr

/-! ### Update (chapter 14) -/

/-- The slot states of R374. -/
inductive SlotState where
  | empty
  | erasing
  | open_
  | loaded
  | trial
  | current
  | previous
  | rejected
deriving DecidableEq, Repr

/-- An image slot: its state and erase count, the bytes programmed since the last erase, and the written map. -/
structure Slot where
  /-- State (R374). -/
  st : SlotState := .empty
  /-- Erase count (R375). -/
  erases : Word := 0
  /-- Bytes programmed (R376). -/
  bytes : List Host.Cell := []
  /-- Which bytes are programmed (R376). -/
  written : SMap Bool := []
  /-- The factory check found that its image fails R378 (R377). -/
  barred : Bool := false
deriving DecidableEq, Repr

/-- A state record of 64 bytes (R374): the states of both slots, the trial counters and the security floor. -/
structure StateRec where
  /-- Generation number (R374). -/
  gen : Nat := 0
  /-- State of slot 0 (R374). -/
  st0 : SlotState
  /-- State of slot 1 (R374). -/
  st1 : SlotState
  /-- Boots left (R374). -/
  boots : Nat := 0
  /-- Minutes left, never below 1 while a slot is on trial (R379, R381). -/
  minutes : Nat := 0
  /-- Security floor (R374). -/
  floor : Word := 0
  /-- The trial has expired (R379). -/
  expired : Bool := false
  /-- Its CRC-32C holds (R374). -/
  ok : Bool := true
  /-- Operating time of its writing, while a loss of power may still cut it off (R381). -/
  wroteAt : Option Nat := none
deriving DecidableEq, Repr

/-- The update unit: the two slots, the two state sectors, each with its records in order, and what runs. -/
structure Update where
  /-- Slot 0 (R374). -/
  slot0 : Slot := { st := .current, barred := true }
  /-- Slot 1 (R374). -/
  slot1 : Slot := {}
  /-- Slot of the running image (R377). -/
  runSlot : Bool := false
  /-- Boots left (R374). -/
  trialBoots : Nat := 0
  /-- Minutes left (R374). -/
  trialMinutes : Nat := 0
  /-- A confirmation is in progress (R380). -/
  confirming : Bool := false
  /-- The trial has expired (R379). -/
  expired : Bool := false
  /-- The last trial fell back (R379). -/
  fellBack : Bool := false
  /-- Security floor (R374). -/
  secFloor : Word := 0
  /-- UPD_LAST (R395). -/
  last : Nat := 0
  /-- Version of the running image (R373). -/
  runVersion : Word := 0
  /-- Pair identifier of the running image (R303). -/
  runPairId : Word := 0
  /-- Security version of the running image (R373). -/
  runSecver : Word := 0
  /-- The running image is on trial (R379). -/
  onTrial : Bool := false
  /-- State sector 0 (R372, R374). -/
  sector0 : List StateRec := [{ st0 := .current, st1 := .empty }]
  /-- State sector 1 (R372, R374). -/
  sector1 : List StateRec := []
  /-- The sector in use is sector 1 (R374). -/
  sector : Bool := false
deriving DecidableEq, Repr

/-! ### Trace (chapter 14) -/

/-- The trace unit and the event counters (R389–R393). -/
structure Trace where
  /-- Frozen (R391). -/
  frozen : Bool := false
  /-- Bytes not yet in the buffer (R390). -/
  fifo : List Byte := []
  /-- Packets dropped (R390). -/
  dropped : Nat := 0
  /-- Bytes of packets sent on the trace port since the last boundary, the model's record of the output (R391). DEDUCED:
  notes/assumptions/60.md. -/
  port : List Byte := []
  /-- Write position (R391). -/
  wrpos : Nat := 0
  /-- Buffer, a canonical list with default 0 (R391). -/
  buffer : List Host.Cell := []
  /-- Branches of the packet in progress (R389). -/
  brCount : Nat := 0
  /-- Their bits (R389). -/
  brBits : BitVec 8 := 0
  /-- Event counters (R393). -/
  counters : SMap Word := []
deriving DecidableEq, Repr

/-! ### Placement (chapter 04) -/

/-- The placement of one door. -/
structure DoorPl where
  /-- Sheaf (R101). -/
  sheaf : Nat
  /-- Instance (R101). -/
  inst : Nat
  /-- Lanes of its axes (R101). -/
  lanes : List Nat
  /-- Task entries (R101). -/
  tasks : List Nat
  /-- Pinned by a hint (R104). -/
  pinned : Bool := false
  /-- Grouped by a hint (R104). -/
  grouped : Bool := false
  /-- Migrations counted (R111). -/
  migs : Nat := 0
  /-- Share in tenths of a percent (R110). -/
  share : Nat := 0
  /-- Frame-task cycles of the coarse tick in progress (R110). -/
  cycles : Nat := 0
  /-- Frame-task cycles of the last coarse tick (R110). -/
  done : Nat := 0
deriving DecidableEq, Repr

/-- A migration's phase (R115, R116). -/
inductive MigPhase where
  | preparing
  | ready
  | copying
deriving DecidableEq, Repr

/-- A migration in progress. -/
structure Mig where
  /-- Door (R113). -/
  door : Nat
  /-- Target sheaf (R113). -/
  target : Nat
  /-- Commanded (R113). -/
  cmd : Bool
  /-- Phase (R115). -/
  phase : MigPhase
  /-- Lanes at the target (R115). -/
  lanes : List Nat
  /-- Instance at the target (R115). -/
  inst : Nat
  /-- Task entries at the target (R115). -/
  tasks : List Nat
  /-- SF_LOAD.LAST of the source at take-up (R119). -/
  srcLast : Nat
  /-- SF_LOAD.LAST of the target at take-up (R119). -/
  dstLast : Nat
  /-- Frame of the copy (R116). -/
  copyFrame : Word := 0
  /-- The division rose during the copy (R118). -/
  dRose : Bool := false
  /-- The instance took a task fault, or a port of one of its axes was declared lost, during the copy (R118). -/
  broken : Bool := false
  /-- Frame in which the preparation ended (R116). -/
  readyFrame : Word := 0
deriving DecidableEq, Repr

/-- The home a placement gives a user signal: tier, and the sheaf for tier 0. -/
structure TierHome where
  /-- Tier (R102). -/
  tier : Nat
  /-- Sheaf of tier 0 (R102). -/
  sheaf : Nat
deriving DecidableEq, Repr

/-- The placer. -/
structure Placer where
  /-- An image is placed (R99). -/
  placed : Bool := false
  /-- Placements by door (R101). -/
  doors : SMap DoorPl := []
  /-- Homes of user signals (R102). -/
  homes : SMap TierHome := []
  /-- Consecutive coarse ticks for which a sheaf was hot (R110). -/
  hot : SMap Nat := []
  /-- The lack of a target is recorded for a sheaf (R112). -/
  noted : SMap Bool := []
  /-- Migration in progress (R113). -/
  mig : Option Mig := none
  /-- PLC_CMD that waits (R122). -/
  req : Option Word := none
  /-- Frame of the last switch (R114). -/
  lastSwitch : Option Word := none
  /-- Code of the last migration (R122). -/
  migCode : Nat := 0
  /-- It was commanded (R122). -/
  migCmd : Bool := false
deriving DecidableEq, Repr

/-! ### Power and system (chapter 15) -/

/-- The power states of R397, with the codes of sig.87000. -/
inductive Power where
  | off
  | keep
  | idle
  | run
  | roast
deriving DecidableEq, Repr

/-- The kinds of start, with the codes of PWR_START.KIND (R419). -/
inductive StartKind where
  | cold
  | wake
  | rstn
  | brown
  | pfail
deriving DecidableEq, Repr

/-- Why the module is held in reset. -/
inductive ResetCause where
  | rstn
  | brown
  | pfail
deriving DecidableEq, Repr

/-- The stages of a commanded shutdown (R407). -/
inductive ShutStage where
  | departing
  | draining
deriving DecidableEq, Repr

/-- System and power. DESIGN CHOICE: notes/assumptions/66.md. DESIGN CHOICE: notes/assumptions/69.md.
DESIGN CHOICE: notes/assumptions/4.md. -/
structure Sys where
  /-- Power state (R397). -/
  power : Power := .idle
  /-- Entering RUN (R405). -/
  entering : Bool := false
  /-- Leaving RUN (R406). -/
  leaving : Bool := false
  /-- SYS_FRAMECNT (R14). -/
  frame : Word := 0
  /-- Frame in which RUN began (R405). -/
  runFrame : Word := 0
  /-- Frames since RUN began (R47). -/
  runFrames : Nat := 0
  /-- Operating time at which ROAST began (R15). -/
  roastAt : Nat := 0
  /-- Operating time in ms (R15). -/
  opTime : BitVec 48 := 0
  /-- SYS_OPTHI as latched by the read of SYS_OPTLO (R418). -/
  optHi : BitVec 16 := 0
  /-- Power-cycle count (R15). -/
  pwrCyc : Word := 0
  /-- Clock division (R410). -/
  div : Nat := 1
  /-- Operating minutes counted (R256). -/
  minutes : Nat := 0
  /-- Frame of the STATE command to RUN (R405). -/
  enterAt : Option Word := none
  /-- Frame of the departure (R406). -/
  departAt : Option Word := none
  /-- Shutdown under way: its state and stage (R407). -/
  shutdown : Option (Power × ShutStage) := none
  /-- Start under way (R401). -/
  starting : Option StartKind := none
  /-- Held in reset, and why (R414). -/
  reset : Option ResetCause := none
  /-- RSTN is low (R415). -/
  rstnLow : Bool := false
  /-- RSTN is taken as failed (R415). -/
  rstIgn : Bool := false
  /-- A WAKE edge is latched (R400). -/
  wake : Option Bool := none
  /-- Frame of the last coarse tick (the model's own, R14). -/
  lastTick : Option Word := none
  /-- The frame's boundary is done (the model's own, R14). -/
  boundary : Bool := false
  /-- VIN has failed (R413). -/
  vinFailed : Bool := false
  /-- Codes the next start records (R401). -/
  startCodes : List Nat := []
  /-- No ROAST for too long (R387). -/
  noRoast : Bool := false
  /-- RUN is held after a failed ROAST (R386). -/
  runHold : Bool := false
  /-- The last ROAST found an island failure (R386). -/
  roastIsland : Bool := false
  /-- RUN was entered since the last ROAST (R387). -/
  runSinceRoast : Bool := false
  /-- The last ROAST was aborted (R388). -/
  roastAborted : Bool := false
  /-- Test of ROAST in progress (R385, R388). -/
  roastTest : Nat := 0
  /-- The volatile key copies are held (R385). -/
  keysHeld : Bool := true
  /-- PWR_PLL (R419). -/
  pll : Word := 0
  /-- Rail voltage sampled (R419). -/
  rail : BitVec 16 := 0
  /-- Lowest rail voltage (R419). -/
  railLow : BitVec 16 := 0
  /-- VIN sampled (R419). -/
  vin : BitVec 16 := 0
  /-- Lowest VIN (R419). -/
  vinLow : BitVec 16 := 0
  /-- Index of the next free value (the model's own). -/
  free : Nat := 0
deriving DecidableEq, Repr

/-! ### The module -/

/-- The module: its image, its register file (registers that hold a stored value, by address), the signal space with the
pool summary, and its units. DESIGN CHOICE: notes/assumptions/1.md. -/
structure Dev where
  /-- System and power (R397). -/
  sys : Sys := {}
  /-- Running image (R377). -/
  image : Option Image := none
  /-- Stored registers by address (R9). -/
  regs : SMap Word := []
  /-- Signals by number (R20). -/
  sigs : SMap Sig := []
  /-- What a signal the host forced would hold had it not been forced: value and VALID (R24, R33). -/
  hidden : SMap (Word × Bool) := []
  /-- Pool summary (R26). -/
  summary : SMap Sig := []
  /-- Cores 0 to 16 (R34). -/
  cores : SMap Core := []
  /-- Halted instances by sheaf (R56). -/
  halted : SMap Word := []
  /-- Restart requests by sheaf, each with the frame of the request (R58). -/
  rstReq : SMap (Word × Word) := []
  /-- Axes (R123). -/
  axes : SMap Axis := []
  /-- Door cycles (R171). -/
  doorCyc : SMap DoorCycle := []
  /-- Promotion list (R176). -/
  promos : List Promo := []
  /-- Placer (R99). -/
  placer : Placer := {}
  /-- Stream ports (R183). -/
  ports : SMap Port := []
  /-- Sheaf queues (R207). -/
  queues : SMap Queue := []
  /-- Safety island (R227). -/
  island : Island := {}
  /-- Field section (R261). -/
  field : Field := {}
  /-- Pair unit (R294). -/
  pair : PairUnit := {}
  /-- Host unit (R313). -/
  host : HostUnit := {}
  /-- CAN controllers (R333). -/
  cans : SMap Can := []
  /-- Recorder (R350). -/
  recorder : Recorder := {}
  /-- Update unit (R372). -/
  upd : Update := {}
  /-- Trace unit (R389). -/
  trace : Trace := {}
deriving DecidableEq, Repr

/-- The state: the module, and the commands that wait, first in first out. DESIGN CHOICE: notes/assumptions/7.md.
DESIGN CHOICE: notes/assumptions/69.md. -/
structure State where
  /-- The module (R16). -/
  dev : Dev
  /-- Commands that wait, first in first out (the model's own). -/
  pending : List Instr
deriving DecidableEq, Repr

/-- Why a step stops the machine.  The spec gives every command an effect or says that it is ignored, so no meaning raises a
fault; the constructor stands for the interface.  Safe: it is never answered. -/
inductive Fault where
  /-- Raised by no meaning; safe. -/
  | unreachable
deriving DecidableEq, Repr

/-- Why a command has no meaning. -/
inductive Refusal where
  /-- Answered by Machine/Dispatch.lean for a command that has no meaning yet; safe, it only stops. -/
  | notModelled (mnemonic : String)
deriving DecidableEq, Repr

/-- The module right after reset (R9): IDLE after a cold start with no running image, every register at the value of its
table, the system status of IDLE in sig.87000–87008 (R27), every other signal, queue and buffer empty, no command waiting.  The
values the tables leave open are named in the assumption log. DESIGN CHOICE: notes/assumptions/1.md. DESIGN CHOICE: notes/assumptions/3.md. -/
def State.reset : State :=
  let shown (v : Word) : Sig := { value := v, q := 1, tag := 0x13 }
  { dev := { sigs := [(0x87000, shown 2), (0x87001, shown 0), (0x87002, shown 0), (0x87003, shown 0), (0x87004, shown 0),
                      (0x87008, shown 1)] },
    pending := [] }

end Sys2Proof.Machine
end

