-- ==== Sys2Proof/Machine/Regs.lean ====
section
/-! DEFINITION. The control space (R9–R12, R31): the address of every register, and one table row for each register with its
access, its implemented bits, its reset value and what it holds across a start (R402, R403). -/

namespace Sys2Proof.Machine

/-- The access types of R10. -/
inductive Access where
  | rw
  | ro
  | w1c
  | wo
deriving DecidableEq, Repr

/-- What a register takes at a start (R402): its reset value; its value in nonvolatile storage; the running image's value
(R403); its value so far unless the start is a cold start, for counts since cold start; the island's stored set (R260). -/
inductive Keep where
  | reset
  | stored
  | image
  | cold
  | island
deriving DecidableEq, Repr

/-- A row of a register table: name, first address, counts and strides of the repeated register, access, implemented bits,
reset value, and what it holds across a start. -/
structure RegRow where
  name : String
  base : Nat
  n1 : Nat
  s1 : Nat
  n2 : Nat
  s2 : Nat
  access : Access
  mask : Nat
  reset : Nat
  keep : Keep
deriving DecidableEq, Repr

/-- Whether the address is one of the row's registers. -/
def RegRow.holds (r : RegRow) (addr : Nat) : Bool :=
  (List.range (if r.n2 = 1 then 1 else r.n1)).any fun i =>
    let o := r.base + (if r.n2 = 1 then 0 else i * r.s1)
    let n := if r.n2 = 1 then r.n1 else r.n2
    let s := if r.n2 = 1 then r.s1 else r.s2
    if n = 1 then addr == o
    else o ≤ addr && (addr - o) % s == 0 && (addr - o) / s < n

/-- The registers of the SYS block. -/
def Table.sys : List RegRow :=
  [⟨"SYS_ID", 0x0, 1, 0x0, 1, 0x0, .ro, 0xffffff, 0xd512, .reset⟩,
   ⟨"SYS_SERIAL", 0x4, 1, 0x0, 1, 0x0, .ro, 0xffffffff, 0x0, .reset⟩,
   ⟨"SYS_FRAMECNT", 0x8, 1, 0x0, 1, 0x0, .ro, 0xffffffff, 0x0, .reset⟩,
   ⟨"SYS_OPTLO", 0xc, 1, 0x0, 1, 0x0, .ro, 0xffffffff, 0x0, .reset⟩,
   ⟨"SYS_OPTHI", 0x10, 1, 0x0, 1, 0x0, .ro, 0xffff, 0x0, .reset⟩,
   ⟨"SYS_PWRCYC", 0x14, 1, 0x0, 1, 0x0, .ro, 0xffffffff, 0x0, .reset⟩,
   ⟨"SYS_FLAGS", 0x18, 1, 0x0, 1, 0x0, .w1c, 0x1, 0x0, .reset⟩,
   ⟨"SYS_SVFLT", 0x20, 1, 0x0, 1, 0x0, .ro, 0x3fffff, 0x0, .reset⟩,
   ⟨"SYS_SVPC", 0x24, 1, 0x0, 1, 0x0, .ro, 0xffffffff, 0x0, .reset⟩,
   ⟨"SYS_SVFCNT", 0x28, 1, 0x0, 1, 0x0, .ro, 0xffffffff, 0x0, .cold⟩,
   ⟨"SYS_SVHALT0", 0x2c, 1, 0x0, 1, 0x0, .ro, 0xffffffff, 0x0, .reset⟩,
   ⟨"SYS_SVHALT1", 0x30, 1, 0x0, 1, 0x0, .ro, 0xffffffff, 0x0, .reset⟩]

/-- The registers of the PWR block. DESIGN CHOICE: notes/assumptions/3.md. -/
def Table.pwr : List RegRow :=
  [⟨"PWR_ROASTRES", 0x10100, 1, 0x0, 1, 0x0, .ro, 0xffff0f33, 0x0, .stored⟩,
   ⟨"PWR_ROASTMAP", 0x10104, 1, 0x0, 1, 0x0, .ro, 0xffe, 0x0, .stored⟩,
   ⟨"PWR_ROASTDUR", 0x10108, 1, 0x0, 1, 0x0, .ro, 0xffff, 0x0, .stored⟩,
   ⟨"PWR_STATE", 0x10000, 1, 0x0, 1, 0x0, .ro, 0x170307, 0x10002, .reset⟩,
   ⟨"PWR_FLAGS", 0x10004, 1, 0x0, 1, 0x0, .w1c, 0x7f, 0x0, .reset⟩,
   ⟨"PWR_CMDSTAT", 0x10008, 1, 0x0, 1, 0x0, .ro, 0xffff, 0x0, .reset⟩,
   ⟨"PWR_START", 0x1000c, 1, 0x0, 1, 0x0, .ro, 0xffff0007, 0x0, .stored⟩,
   ⟨"PWR_SAGCNT", 0x10010, 1, 0x0, 1, 0x0, .ro, 0xffffffff, 0x0, .cold⟩,
   ⟨"PWR_RAIL", 0x10014, 1, 0x0, 1, 0x0, .ro, 0xffffffff, 0x0, .reset⟩,
   ⟨"PWR_VIN", 0x10018, 1, 0x0, 1, 0x0, .ro, 0xffffffff, 0x0, .reset⟩,
   ⟨"PWR_PLL", 0x1001c, 1, 0x0, 1, 0x0, .ro, 0x1f, 0x0, .reset⟩]

/-- The registers of the STR block. -/
def Table.str : List RegRow :=
  [⟨"STR_GCTRL", 0x20000, 1, 0x0, 1, 0x0, .rw, 0x1, 0x0, .image⟩,
   ⟨"STR_GSTAT", 0x20004, 1, 0x0, 1, 0x0, .ro, 0xff1, 0x0, .reset⟩,
   ⟨"STR_QSEL", 0x20010, 1, 0x0, 1, 0x0, .rw, 0x1f, 0x0, .reset⟩,
   ⟨"STR_QFILL", 0x20014, 1, 0x0, 1, 0x0, .ro, 0xff03ffff, 0x0, .reset⟩,
   ⟨"STR_QSPILL", 0x20018, 1, 0x0, 1, 0x0, .ro, 0xffffff, 0x0, .reset⟩,
   ⟨"STR_CTRL", 0x21000, 4, 0x1000, 1, 0x0, .rw, 0x7f03, 0x2, .image⟩,
   ⟨"STR_STATUS", 0x21004, 4, 0x1000, 1, 0x0, .ro, 0xffff7f0f, 0x0, .reset⟩,
   ⟨"STR_CMD", 0x21008, 4, 0x1000, 1, 0x0, .wo, 0xff000003, 0x0, .reset⟩,
   ⟨"STR_FLAGS", 0x2100c, 4, 0x1000, 1, 0x0, .w1c, 0xff, 0x0, .reset⟩,
   ⟨"STR_BADCNT", 0x21010, 4, 0x1000, 1, 0x0, .ro, 0xffffffff, 0x0, .cold⟩,
   ⟨"STR_LOSTCNT", 0x21014, 4, 0x1000, 1, 0x0, .ro, 0xffffffff, 0x0, .cold⟩,
   ⟨"STR_TXBLK", 0x21018, 4, 0x1000, 1, 0x0, .ro, 0xffffffff, 0x0, .cold⟩,
   ⟨"STR_RXBLK", 0x2101c, 4, 0x1000, 1, 0x0, .ro, 0xffffffff, 0x0, .cold⟩,
   ⟨"STR_CMDSTAT", 0x21020, 4, 0x1000, 1, 0x0, .ro, 0xffff, 0x0, .reset⟩,
   ⟨"STR_NODESEL", 0x21030, 4, 0x1000, 1, 0x0, .rw, 0x7f, 0x0, .reset⟩,
   ⟨"STR_NODEINFO", 0x21034, 4, 0x1000, 1, 0x0, .ro, 0x7f0fffff, 0x0, .reset⟩,
   ⟨"STR_NODEDLY", 0x21038, 4, 0x1000, 1, 0x0, .ro, 0xffffffff, 0x0, .reset⟩,
   ⟨"STR_NODEMGT", 0x2103c, 4, 0x1000, 1, 0x0, .ro, 0xffffff, 0x0, .reset⟩,
   ⟨"STR_ENCCFG", 0x21060, 4, 0x1000, 8, 0x4, .rw, 0x77f7f01, 0x0, .image⟩,
   ⟨"STR_ENCVAL", 0x21080, 4, 0x1000, 8, 0x4, .ro, 0xffffffff, 0x0, .reset⟩]

/-- The registers of the SF block. DESIGN CHOICE: notes/assumptions/68.md. -/
def Table.sf : List RegRow :=
  [⟨"SF_STATUS", 0x40000, 16, 0x1000, 1, 0x0, .ro, 0x1ff3f01, 0x0, .reset⟩,
   ⟨"SF_LOAD", 0x40004, 16, 0x1000, 1, 0x0, .ro, 0x3ff03ff, 0x0, .reset⟩,
   ⟨"SF_DECL", 0x40008, 16, 0x1000, 1, 0x0, .ro, 0x3fff, 0x0, .reset⟩,
   ⟨"SF_ROUND", 0x4000c, 16, 0x1000, 1, 0x0, .ro, 0x1ff07, 0x1, .reset⟩,
   ⟨"SF_FLAGS", 0x40010, 16, 0x1000, 1, 0x0, .w1c, 0x1f, 0x0, .reset⟩,
   ⟨"SF_LASTFLT", 0x40014, 16, 0x1000, 1, 0x0, .ro, 0x1fffffff, 0x0, .reset⟩,
   ⟨"SF_LASTPC", 0x40018, 16, 0x1000, 1, 0x0, .ro, 0xffffffff, 0x0, .reset⟩,
   ⟨"SF_FLTCNT", 0x4001c, 16, 0x1000, 1, 0x0, .ro, 0xffffffff, 0x0, .cold⟩,
   ⟨"SF_EVDROP", 0x40020, 16, 0x1000, 1, 0x0, .ro, 0xffffffff, 0x0, .cold⟩,
   ⟨"SF_ECCCNT", 0x40024, 16, 0x1000, 1, 0x0, .ro, 0xffffffff, 0x0, .cold⟩,
   ⟨"SF_HALT", 0x40028, 16, 0x1000, 1, 0x0, .ro, 0xffffffff, 0x0, .reset⟩,
   ⟨"SF_INSTRST", 0x4002c, 16, 0x1000, 1, 0x0, .wo, 0xff00001f, 0x0, .reset⟩,
   ⟨"SF_RSTSTAT", 0x40030, 16, 0x1000, 1, 0x0, .ro, 0xffff, 0x0, .reset⟩,
   ⟨"SF_PEAKCLR", 0x40034, 16, 0x1000, 1, 0x0, .wo, 0xffffffff, 0x0, .reset⟩,
   ⟨"SF_TASKSEL", 0x40040, 16, 0x1000, 1, 0x0, .rw, 0xff, 0x0, .reset⟩,
   ⟨"SF_TASKINFO", 0x40044, 16, 0x1000, 1, 0x0, .ro, 0x31fff03, 0x0, .reset⟩,
   ⟨"SF_TASKBUD", 0x40048, 16, 0x1000, 1, 0x0, .ro, 0xfffff, 0x0, .reset⟩,
   ⟨"SF_TASKMAX", 0x4004c, 16, 0x1000, 1, 0x0, .ro, 0xfffff, 0x0, .reset⟩,
   ⟨"SF_TASKREL", 0x40050, 16, 0x1000, 1, 0x0, .ro, 0xffffffff, 0x0, .reset⟩]

/-- The registers of the AX block. -/
def Table.ax : List RegRow :=
  [⟨"AX_CFG", 0x100000, 512, 0x100, 1, 0x0, .rw, 0x7f07, 0x0, .image⟩,
   ⟨"AX_STATE", 0x100004, 512, 0x100, 1, 0x0, .ro, 0xffffffff, 0x0, .reset⟩,
   ⟨"AX_FAULT", 0x100008, 512, 0x100, 1, 0x0, .ro, 0xfffff, 0x0, .reset⟩,
   ⟨"AX_FLAGS", 0x10000c, 512, 0x100, 1, 0x0, .w1c, 0x7f, 0x0, .reset⟩,
   ⟨"AX_RAWPOS", 0x100010, 512, 0x100, 1, 0x0, .ro, 0xffffffff, 0x0, .reset⟩,
   ⟨"AX_MOVES", 0x100014, 512, 0x100, 1, 0x0, .ro, 0xffffffff, 0x0, .reset⟩,
   ⟨"AX_STOPS", 0x100018, 512, 0x100, 1, 0x0, .ro, 0xffffffff, 0x0, .reset⟩,
   ⟨"AX_REFUSED", 0x10001c, 512, 0x100, 1, 0x0, .ro, 0xffffffff, 0x0, .reset⟩]

/-- The registers of the SAF block. -/
def Table.saf : List RegRow :=
  [⟨"SAF_STATUS", 0x200000, 1, 0x0, 1, 0x0, .ro, 0xf3f, 0x0, .reset⟩,
   ⟨"SAF_FLAGS", 0x200004, 1, 0x0, 1, 0x0, .w1c, 0x3f, 0x0, .reset⟩,
   ⟨"SAF_FAULT", 0x200008, 1, 0x0, 1, 0x0, .ro, 0xffff, 0x0, .reset⟩,
   ⟨"SAF_CHECK", 0x20000c, 1, 0x0, 1, 0x0, .ro, 0xffffffff, 0x0, .reset⟩,
   ⟨"SAF_CMD", 0x200010, 1, 0x0, 1, 0x0, .wo, 0xff00f1ff, 0x0, .reset⟩,
   ⟨"SAF_CMDSTAT", 0x200014, 1, 0x0, 1, 0x0, .ro, 0xffff, 0x0, .reset⟩,
   ⟨"SAF_UNLOCK", 0x200018, 1, 0x0, 1, 0x0, .wo, 0xffffffff, 0x0, .reset⟩,
   ⟨"SAF_TESTAGE", 0x20001c, 1, 0x0, 1, 0x0, .ro, 0xffffffff, 0x0, .reset⟩,
   ⟨"SAF_MODE", 0x200100, 1, 0x0, 1, 0x0, .rw, 0x1, 0x0, .island⟩,
   ⟨"SAF_LOOPCFG", 0x200200, 4, 0x4, 1, 0x0, .rw, 0x3ff0001, 0x0, .island⟩,
   ⟨"SAF_PAIRCFG", 0x200300, 32, 0x4, 1, 0x0, .rw, 0x7ffff3f, 0x0, .island⟩,
   ⟨"SAF_GRPCFG0", 0x200400, 64, 0x8, 1, 0x0, .rw, 0x3fffff, 0x0, .island⟩,
   ⟨"SAF_GRPCFG1", 0x200404, 64, 0x8, 1, 0x0, .rw, 0xff7f, 0x0, .island⟩,
   ⟨"SAF_TGID", 0x200600, 4, 0x40, 1, 0x0, .rw, 0xffffffff, 0x0, .island⟩,
   ⟨"SAF_TGCFG", 0x200604, 4, 0x40, 1, 0x0, .rw, 0x1fff0fff, 0x0, .island⟩,
   ⟨"SAF_TGKEY", 0x200620, 4, 0x40, 8, 0x4, .wo, 0xffffffff, 0x0, .island⟩,
   ⟨"SAF_AXCFG", 0x201000, 512, 0x20, 1, 0x0, .rw, 0xf3fff, 0x0, .island⟩,
   ⟨"SAF_AXSLSO", 0x201004, 512, 0x20, 1, 0x0, .rw, 0xffffffff, 0x0, .island⟩,
   ⟨"SAF_AXSLSC", 0x201008, 512, 0x20, 1, 0x0, .rw, 0xffffffff, 0x0, .island⟩,
   ⟨"SAF_AXSLPMIN", 0x20100c, 512, 0x20, 1, 0x0, .rw, 0xffffffff, 0x0, .island⟩,
   ⟨"SAF_AXSLPMAX", 0x201010, 512, 0x20, 1, 0x0, .rw, 0xffffffff, 0x0, .island⟩,
   ⟨"SAF_AXCLPOS", 0x201014, 512, 0x20, 1, 0x0, .rw, 0xffffffff, 0x0, .island⟩,
   ⟨"SAF_AXCLTOL", 0x201018, 512, 0x20, 1, 0x0, .rw, 0xffffffff, 0x0, .island⟩,
   ⟨"SAF_AXDIV", 0x20101c, 512, 0x20, 1, 0x0, .rw, 0xffffffff, 0x0, .island⟩]

/-- The registers of the FLD block. -/
def Table.fld : List RegRow :=
  [⟨"FLD_STATUS", 0x210000, 1, 0x0, 1, 0x0, .ro, 0xf1f, 0x0, .reset⟩,
   ⟨"FLD_FLAGS", 0x210004, 1, 0x0, 1, 0x0, .w1c, 0xfff, 0x0, .reset⟩,
   ⟨"FLD_BLCFG", 0x210008, 1, 0x0, 1, 0x0, .rw, 0xff, 0x14, .image⟩,
   ⟨"FLD_BLCNT", 0x21000c, 1, 0x0, 1, 0x0, .ro, 0xffffffff, 0x0, .cold⟩,
   ⟨"FLD_GANG", 0x210010, 1, 0x0, 1, 0x0, .rw, 0xff, 0x0, .image⟩,
   ⟨"FLD_CFGSTAT", 0x210014, 1, 0x0, 1, 0x0, .ro, 0xffff, 0x0, .reset⟩,
   ⟨"FLD_DRVMAP", 0x210020, 4, 0x4, 1, 0x0, .rw, 0xffffffff, 0x0, .image⟩,
   ⟨"FLD_DICFG", 0x210100, 64, 0x4, 1, 0x0, .rw, 0x3ff, 0x0, .image⟩,
   ⟨"FLD_HSCFG", 0x210200, 32, 0x4, 1, 0x0, .rw, 0x1ff7, 0x100, .image⟩,
   ⟨"FLD_HSCNT", 0x210300, 32, 0x4, 1, 0x0, .ro, 0xffffffff, 0x0, .cold⟩]

/-- The registers of the CAN block. -/
def Table.can : List RegRow :=
  [⟨"CAN_CTRL", 0x220000, 4, 0x4000, 1, 0x0, .rw, 0x1f, 0x4, .image⟩,
   ⟨"CAN_STATUS", 0x220004, 4, 0x4000, 1, 0x0, .ro, 0x3f, 0x0, .reset⟩,
   ⟨"CAN_ERRCNT", 0x220008, 4, 0x4000, 1, 0x0, .ro, 0xff01ff, 0x0, .reset⟩,
   ⟨"CAN_FLAGS", 0x22000c, 4, 0x4000, 1, 0x0, .w1c, 0xff, 0x0, .reset⟩,
   ⟨"CAN_CMD", 0x220010, 4, 0x4000, 1, 0x0, .wo, 0xff000001, 0x0, .reset⟩,
   ⟨"CAN_NBT", 0x220014, 4, 0x4000, 1, 0x0, .rw, 0x7f7fff1f, 0x0, .image⟩,
   ⟨"CAN_DBT", 0x220018, 4, 0x4000, 1, 0x0, .rw, 0xf0f1f1f, 0x0, .image⟩,
   ⟨"CAN_TDC", 0x22001c, 4, 0x4000, 1, 0x0, .rw, 0x17f, 0x0, .image⟩,
   ⟨"CAN_CFGSTAT", 0x220020, 4, 0x4000, 1, 0x0, .ro, 0xffff, 0x0, .reset⟩,
   ⟨"CAN_RXCNT", 0x220024, 4, 0x4000, 1, 0x0, .ro, 0xffffffff, 0x0, .cold⟩,
   ⟨"CAN_TXCNT", 0x220028, 4, 0x4000, 1, 0x0, .ro, 0xffffffff, 0x0, .cold⟩,
   ⟨"CAN_RXUNM", 0x22002c, 4, 0x4000, 1, 0x0, .ro, 0xffffffff, 0x0, .cold⟩,
   ⟨"CAN_LOSTCNT", 0x220030, 4, 0x4000, 1, 0x0, .ro, 0xffffffff, 0x0, .cold⟩,
   ⟨"CAN_BOFFCNT", 0x220034, 4, 0x4000, 1, 0x0, .ro, 0xffffffff, 0x0, .cold⟩,
   ⟨"CAN_ERRFRM", 0x220038, 4, 0x4000, 1, 0x0, .ro, 0xffffffff, 0x0, .cold⟩,
   ⟨"CAN_OBJID", 0x221000, 4, 0x4000, 256, 0x8, .rw, 0x3fffffff, 0x0, .image⟩,
   ⟨"CAN_OBJCFG", 0x221004, 4, 0x4000, 256, 0x8, .rw, 0xffffff07, 0x0, .image⟩]

/-- The registers of the HOST block. -/
def Table.host : List RegRow :=
  [⟨"HOST_STATUS", 0x230000, 1, 0x0, 1, 0x0, .ro, 0x3f3f, 0x0, .reset⟩,
   ⟨"HOST_FLAGS", 0x230004, 1, 0x0, 1, 0x0, .w1c, 0x1f, 0x0, .reset⟩,
   ⟨"HOST_IPA", 0x230008, 1, 0x0, 1, 0x0, .rw, 0xffffffff, 0xc0a8640a, .stored⟩,
   ⟨"HOST_IPB", 0x23000c, 1, 0x0, 1, 0x0, .rw, 0xffffffff, 0xc0a8650a, .stored⟩,
   ⟨"HOST_NETCFG", 0x230010, 1, 0x0, 1, 0x0, .rw, 0x31f1f, 0x1818, .stored⟩,
   ⟨"HOST_CFGSAVE", 0x230014, 1, 0x0, 1, 0x0, .wo, 0xff, 0x0, .reset⟩,
   ⟨"HOST_CFGSTAT", 0x230018, 1, 0x0, 1, 0x0, .ro, 0xffff, 0x0, .reset⟩,
   ⟨"HOST_MACALO", 0x230020, 1, 0x0, 1, 0x0, .ro, 0xffffffff, 0x0, .reset⟩,
   ⟨"HOST_MACAHI", 0x230024, 1, 0x0, 1, 0x0, .ro, 0xffff, 0x0, .reset⟩,
   ⟨"HOST_MACBLO", 0x230028, 1, 0x0, 1, 0x0, .ro, 0xffffffff, 0x0, .reset⟩,
   ⟨"HOST_MACBHI", 0x23002c, 1, 0x0, 1, 0x0, .ro, 0xffff, 0x0, .reset⟩,
   ⟨"HOST_WDCFG", 0x230030, 1, 0x0, 1, 0x0, .rw, 0xffff, 0x0, .image⟩,
   ⟨"HOST_RXCNT", 0x230034, 1, 0x0, 1, 0x0, .ro, 0xffffffff, 0x0, .cold⟩,
   ⟨"HOST_RXDROP", 0x230038, 1, 0x0, 1, 0x0, .ro, 0xffffffff, 0x0, .cold⟩,
   ⟨"HOST_TGCNT", 0x23003c, 1, 0x0, 1, 0x0, .ro, 0xffffffff, 0x0, .cold⟩,
   ⟨"HOST_TGDROP", 0x230040, 1, 0x0, 1, 0x0, .ro, 0xffffffff, 0x0, .cold⟩]

/-- The registers of the REC block. -/
def Table.rec : List RegRow :=
  [⟨"REC_STATUS", 0x240000, 1, 0x0, 1, 0x0, .ro, 0x7ff003f, 0x20, .reset⟩,
   ⟨"REC_FLAGS", 0x240004, 1, 0x0, 1, 0x0, .w1c, 0x7f, 0x0, .reset⟩,
   ⟨"REC_NEXTSEQ", 0x240008, 1, 0x0, 1, 0x0, .ro, 0xffffffff, 0x0, .reset⟩,
   ⟨"REC_OLDSEQ", 0x24000c, 1, 0x0, 1, 0x0, .ro, 0xffffffff, 0x0, .reset⟩,
   ⟨"REC_SEEDCNT", 0x240010, 1, 0x0, 1, 0x0, .ro, 0x3ffff, 0x0, .reset⟩,
   ⟨"REC_USED", 0x240014, 1, 0x0, 1, 0x0, .ro, 0xfffffff, 0x0, .reset⟩,
   ⟨"REC_LOST", 0x240018, 1, 0x0, 1, 0x0, .ro, 0xffffffff, 0x0, .reset⟩,
   ⟨"REC_REPSAT", 0x24001c, 1, 0x0, 1, 0x0, .ro, 0xffffffff, 0x0, .reset⟩,
   ⟨"REC_TORNCNT", 0x240020, 1, 0x0, 1, 0x0, .ro, 0xffffffff, 0x0, .reset⟩,
   ⟨"REC_CLEARS", 0x240024, 1, 0x0, 1, 0x0, .ro, 0xffffffff, 0x0, .reset⟩,
   ⟨"REC_QPEAK", 0x240028, 1, 0x0, 1, 0x0, .ro, 0x7ff, 0x0, .reset⟩,
   ⟨"REC_ANCLO", 0x240030, 1, 0x0, 1, 0x0, .rw, 0xffffffff, 0x0, .reset⟩,
   ⟨"REC_ANCHI", 0x240034, 1, 0x0, 1, 0x0, .rw, 0xffffffff, 0x0, .reset⟩,
   ⟨"REC_ANCCMD", 0x240038, 1, 0x0, 1, 0x0, .wo, 0xff, 0x0, .reset⟩,
   ⟨"REC_CMDSTAT", 0x24003c, 1, 0x0, 1, 0x0, .ro, 0xffff, 0x0, .reset⟩,
   ⟨"REC_KEY", 0x240040, 8, 0x4, 1, 0x0, .wo, 0xffffffff, 0x0, .reset⟩,
   ⟨"REC_KEYCMD", 0x240060, 1, 0x0, 1, 0x0, .wo, 0xff, 0x0, .reset⟩]

/-- The registers of the UPD block. -/
def Table.upd : List RegRow :=
  [⟨"UPD_STATUS", 0x250000, 1, 0x0, 1, 0x0, .ro, 0xf7f, 0x0, .reset⟩,
   ⟨"UPD_FLAGS", 0x250004, 1, 0x0, 1, 0x0, .w1c, 0x1f, 0x0, .reset⟩,
   ⟨"UPD_CMD", 0x250008, 1, 0x0, 1, 0x0, .wo, 0xff000003, 0x0, .reset⟩,
   ⟨"UPD_CMDSTAT", 0x25000c, 1, 0x0, 1, 0x0, .ro, 0xffff, 0x0, .reset⟩,
   ⟨"UPD_WRITTEN", 0x250010, 1, 0x0, 1, 0x0, .ro, 0x1ffffff, 0x0, .reset⟩,
   ⟨"UPD_RUNVER", 0x250014, 1, 0x0, 1, 0x0, .ro, 0xffffffff, 0x0, .reset⟩,
   ⟨"UPD_TRIAL", 0x250018, 1, 0x0, 1, 0x0, .ro, 0xffffffff, 0x0, .reset⟩,
   ⟨"UPD_LAST", 0x25001c, 1, 0x0, 1, 0x0, .ro, 0xffff, 0x0, .reset⟩,
   ⟨"UPD_ERASE0", 0x250020, 1, 0x0, 1, 0x0, .ro, 0xffffffff, 0x0, .reset⟩,
   ⟨"UPD_ERASE1", 0x250024, 1, 0x0, 1, 0x0, .ro, 0xffffffff, 0x0, .reset⟩,
   ⟨"UPD_SECFLOOR", 0x250028, 1, 0x0, 1, 0x0, .ro, 0xffffffff, 0x0, .reset⟩]

/-- The registers of the TRC block. -/
def Table.trc : List RegRow :=
  [⟨"TRC_CFG", 0x260000, 1, 0x0, 1, 0x0, .rw, 0x11f0f, 0x0, .image⟩,
   ⟨"TRC_STATUS", 0x260004, 1, 0x0, 1, 0x0, .ro, 0x1fff0001, 0x0, .reset⟩,
   ⟨"TRC_FLAGS", 0x260008, 1, 0x0, 1, 0x0, .w1c, 0x3, 0x0, .reset⟩,
   ⟨"TRC_SWLO", 0x26000c, 1, 0x0, 1, 0x0, .rw, 0xfffff, 0x0, .image⟩,
   ⟨"TRC_SWHI", 0x260010, 1, 0x0, 1, 0x0, .rw, 0xfffff, 0x0, .image⟩,
   ⟨"TRC_WRPOS", 0x260014, 1, 0x0, 1, 0x0, .ro, 0x7ffffff, 0x0, .reset⟩,
   ⟨"TRC_WRAPS", 0x260018, 1, 0x0, 1, 0x0, .ro, 0xffffffff, 0x0, .cold⟩,
   ⟨"TRC_DROP", 0x26001c, 1, 0x0, 1, 0x0, .ro, 0xffffffff, 0x0, .cold⟩,
   ⟨"TRC_CMD", 0x260020, 1, 0x0, 1, 0x0, .wo, 0x7, 0x0, .reset⟩,
   ⟨"TRC_EVSEL", 0x260100, 256, 0x4, 1, 0x0, .rw, 0x1f1f, 0x0, .image⟩,
   ⟨"TRC_CNT", 0x260500, 256, 0x4, 1, 0x0, .ro, 0xffffffff, 0x0, .reset⟩]

/-- The registers of the PAIR block. -/
def Table.pair : List RegRow :=
  [⟨"PAIR_CFG", 0x270000, 1, 0x0, 1, 0x0, .rw, 0xffff03, 0x0, .stored⟩,
   ⟨"PAIR_STATUS", 0x270004, 1, 0x0, 1, 0x0, .ro, 0xffff01ff, 0x0, .reset⟩,
   ⟨"PAIR_FLAGS", 0x270008, 1, 0x0, 1, 0x0, .w1c, 0xff, 0x0, .reset⟩,
   ⟨"PAIR_CMD", 0x27000c, 1, 0x0, 1, 0x0, .wo, 0xff000001, 0x0, .reset⟩,
   ⟨"PAIR_CMDSTAT", 0x270010, 1, 0x0, 1, 0x0, .ro, 0xffff, 0x0, .reset⟩,
   ⟨"PAIR_FRESH", 0x270014, 1, 0x0, 1, 0x0, .ro, 0x1ffffff, 0x0, .reset⟩,
   ⟨"PAIR_MISSCNT", 0x270018, 1, 0x0, 1, 0x0, .ro, 0xffffffff, 0x0, .cold⟩,
   ⟨"PAIR_ROLECNT", 0x27001c, 1, 0x0, 1, 0x0, .ro, 0xffffffff, 0x0, .stored⟩,
   ⟨"PAIR_LASTLO", 0x270020, 1, 0x0, 1, 0x0, .ro, 0xffffffff, 0x0, .stored⟩,
   ⟨"PAIR_LASTHI", 0x270024, 1, 0x0, 1, 0x0, .ro, 0xffff, 0x0, .stored⟩,
   ⟨"PAIR_ACTAGE", 0x270028, 1, 0x0, 1, 0x0, .ro, 0xffffffff, 0x0, .reset⟩,
   ⟨"PAIR_PSTAT", 0x27002c, 1, 0x0, 1, 0x0, .ro, 0xffff01ff, 0x0, .reset⟩]

/-- The registers of the PLC block. -/
def Table.plc : List RegRow :=
  [⟨"PLC_STATUS", 0x280000, 1, 0x0, 1, 0x0, .ro, 0x1f0007, 0x0, .reset⟩,
   ⟨"PLC_CTRL", 0x280004, 1, 0x0, 1, 0x0, .rw, 0x1, 0x1, .image⟩,
   ⟨"PLC_RESULT", 0x280008, 1, 0x0, 1, 0x0, .ro, 0xffff, 0x0, .reset⟩,
   ⟨"PLC_WARN", 0x28000c, 1, 0x0, 1, 0x0, .w1c, 0x1f, 0x0, .reset⟩,
   ⟨"PLC_MIGREQ", 0x280010, 1, 0x0, 1, 0x0, .wo, 0xff0f01ff, 0x0, .reset⟩,
   ⟨"PLC_MIGSTAT", 0x280014, 1, 0x0, 1, 0x0, .ro, 0x7ffff, 0x0, .reset⟩,
   ⟨"PLC_MIGCNT", 0x280018, 1, 0x0, 1, 0x0, .ro, 0xffffffff, 0x0, .reset⟩,
   ⟨"PLC_MIGFAIL", 0x28001c, 1, 0x0, 1, 0x0, .ro, 0xffffffff, 0x0, .reset⟩,
   ⟨"PLC_LASTMIG", 0x280020, 1, 0x0, 1, 0x0, .ro, 0xff01ff, 0x0, .reset⟩,
   ⟨"PLC_LASTFRM", 0x280024, 1, 0x0, 1, 0x0, .ro, 0xffffffff, 0x0, .reset⟩,
   ⟨"PLC_SHSEL", 0x280030, 1, 0x0, 1, 0x0, .rw, 0xf, 0x0, .reset⟩,
   ⟨"PLC_SHINFO", 0x280034, 1, 0x0, 1, 0x0, .ro, 0x1ff3f3f, 0x0, .reset⟩,
   ⟨"PLC_DOORSEL", 0x280040, 1, 0x0, 1, 0x0, .rw, 0x1ff, 0x0, .reset⟩,
   ⟨"PLC_DOORINFO", 0x280044, 1, 0x0, 1, 0x0, .ro, 0xffffffff, 0x0, .reset⟩]

/-- The blocks of R31: first and last address, and the registers. -/
def Table.blocks : List (Nat × Nat × List RegRow) :=
  [(0x00000000, 0x0000FFFF, Table.sys), (0x00010000, 0x0001FFFF, Table.pwr), (0x00020000, 0x0003FFFF, Table.str),
   (0x00040000, 0x0004FFFF, Table.sf), (0x00100000, 0x0011FFFF, Table.ax), (0x00200000, 0x0020FFFF, Table.saf),
   (0x00210000, 0x0021FFFF, Table.fld), (0x00220000, 0x0022FFFF, Table.can), (0x00230000, 0x0023FFFF, Table.host),
   (0x00240000, 0x0024FFFF, Table.rec), (0x00250000, 0x0025FFFF, Table.upd), (0x00260000, 0x0026FFFF, Table.trc),
   (0x00270000, 0x0027FFFF, Table.pair), (0x00280000, 0x0028FFFF, Table.plc)]

/-- Whether an address lies inside some block of R31. -/
def inBlock (addr : Nat) : Bool := Table.blocks.any fun b => b.1 ≤ addr && addr ≤ b.2.1

/-- The table row of an address; `none` for an address outside every block and for one unassigned inside its block. -/
def rowOf (addr : Nat) : Option RegRow :=
  match Table.blocks.find? (fun b => b.1 ≤ addr && addr ≤ b.2.1) with
  | some b => b.2.2.find? (·.holds addr)
  | none => none

/-- The reset value of an address's register; 0 where none is assigned (R12). -/
def regReset (addr : Nat) : Word :=
  match rowOf addr with
  | some r => wordOfNat r.reset
  | none => 0

/-- SF_STATUS. -/
def Adr.sfStatus (i : Nat) : Nat := 0x40000 + 0x1000 * i

/-- SF_LOAD. -/
def Adr.sfLoad (i : Nat) : Nat := 0x40004 + 0x1000 * i

/-- SF_DECL. -/
def Adr.sfDecl (i : Nat) : Nat := 0x40008 + 0x1000 * i

/-- SF_ROUND. -/
def Adr.sfRound (i : Nat) : Nat := 0x4000c + 0x1000 * i

/-- SF_FLAGS. -/
def Adr.sfFlags (i : Nat) : Nat := 0x40010 + 0x1000 * i

/-- SF_LASTFLT. -/
def Adr.sfLastflt (i : Nat) : Nat := 0x40014 + 0x1000 * i

/-- SF_LASTPC. -/
def Adr.sfLastpc (i : Nat) : Nat := 0x40018 + 0x1000 * i

/-- SF_FLTCNT. -/
def Adr.sfFltcnt (i : Nat) : Nat := 0x4001c + 0x1000 * i

/-- SF_EVDROP. -/
def Adr.sfEvdrop (i : Nat) : Nat := 0x40020 + 0x1000 * i

/-- SF_ECCCNT. -/
def Adr.sfEcccnt (i : Nat) : Nat := 0x40024 + 0x1000 * i

/-- SF_HALT. -/
def Adr.sfHalt (i : Nat) : Nat := 0x40028 + 0x1000 * i

/-- SF_INSTRST. -/
def Adr.sfInstrst (i : Nat) : Nat := 0x4002c + 0x1000 * i

/-- SF_RSTSTAT. -/
def Adr.sfRststat (i : Nat) : Nat := 0x40030 + 0x1000 * i

/-- SF_PEAKCLR. -/
def Adr.sfPeakclr (i : Nat) : Nat := 0x40034 + 0x1000 * i

/-- SF_TASKSEL. -/
def Adr.sfTasksel (i : Nat) : Nat := 0x40040 + 0x1000 * i

/-- SF_TASKINFO. -/
def Adr.sfTaskinfo (i : Nat) : Nat := 0x40044 + 0x1000 * i

/-- SF_TASKBUD. -/
def Adr.sfTaskbud (i : Nat) : Nat := 0x40048 + 0x1000 * i

/-- SF_TASKMAX. -/
def Adr.sfTaskmax (i : Nat) : Nat := 0x4004c + 0x1000 * i

/-- SF_TASKREL. -/
def Adr.sfTaskrel (i : Nat) : Nat := 0x40050 + 0x1000 * i

/-- PLC_STATUS. -/
def Adr.plcStatus : Nat := 0x280000

/-- PLC_CTRL. -/
def Adr.plcCtrl : Nat := 0x280004

/-- PLC_RESULT. -/
def Adr.plcResult : Nat := 0x280008

/-- PLC_WARN. -/
def Adr.plcWarn : Nat := 0x28000c

/-- PLC_MIGREQ. -/
def Adr.plcMigreq : Nat := 0x280010

/-- PLC_MIGSTAT. -/
def Adr.plcMigstat : Nat := 0x280014

/-- PLC_MIGCNT. -/
def Adr.plcMigcnt : Nat := 0x280018

/-- PLC_MIGFAIL. -/
def Adr.plcMigfail : Nat := 0x28001c

/-- PLC_LASTMIG. -/
def Adr.plcLastmig : Nat := 0x280020

/-- PLC_LASTFRM. -/
def Adr.plcLastfrm : Nat := 0x280024

/-- PLC_SHSEL. -/
def Adr.plcShsel : Nat := 0x280030

/-- PLC_SHINFO. -/
def Adr.plcShinfo : Nat := 0x280034

/-- PLC_DOORSEL. -/
def Adr.plcDoorsel : Nat := 0x280040

/-- PLC_DOORINFO. -/
def Adr.plcDoorinfo : Nat := 0x280044

/-- AX_CFG. -/
def Adr.axCfg (i : Nat) : Nat := 0x100000 + 0x100 * i

/-- AX_STATE. -/
def Adr.axState (i : Nat) : Nat := 0x100004 + 0x100 * i

/-- AX_FAULT. -/
def Adr.axFault (i : Nat) : Nat := 0x100008 + 0x100 * i

/-- AX_FLAGS. -/
def Adr.axFlags (i : Nat) : Nat := 0x10000c + 0x100 * i

/-- AX_RAWPOS. -/
def Adr.axRawpos (i : Nat) : Nat := 0x100010 + 0x100 * i

/-- AX_MOVES. -/
def Adr.axMoves (i : Nat) : Nat := 0x100014 + 0x100 * i

/-- AX_STOPS. -/
def Adr.axStops (i : Nat) : Nat := 0x100018 + 0x100 * i

/-- AX_REFUSED. -/
def Adr.axRefused (i : Nat) : Nat := 0x10001c + 0x100 * i

/-- STR_GCTRL. -/
def Adr.strGctrl : Nat := 0x20000

/-- STR_GSTAT. -/
def Adr.strGstat : Nat := 0x20004

/-- STR_QSEL. -/
def Adr.strQsel : Nat := 0x20010

/-- STR_QFILL. -/
def Adr.strQfill : Nat := 0x20014

/-- STR_QSPILL. -/
def Adr.strQspill : Nat := 0x20018

/-- STR_CTRL. -/
def Adr.strCtrl (i : Nat) : Nat := 0x21000 + 0x1000 * i

/-- STR_STATUS. -/
def Adr.strStatus (i : Nat) : Nat := 0x21004 + 0x1000 * i

/-- STR_CMD. -/
def Adr.strCmd (i : Nat) : Nat := 0x21008 + 0x1000 * i

/-- STR_FLAGS. -/
def Adr.strFlags (i : Nat) : Nat := 0x2100c + 0x1000 * i

/-- STR_BADCNT. -/
def Adr.strBadcnt (i : Nat) : Nat := 0x21010 + 0x1000 * i

/-- STR_LOSTCNT. -/
def Adr.strLostcnt (i : Nat) : Nat := 0x21014 + 0x1000 * i

/-- STR_TXBLK. -/
def Adr.strTxblk (i : Nat) : Nat := 0x21018 + 0x1000 * i

/-- STR_RXBLK. -/
def Adr.strRxblk (i : Nat) : Nat := 0x2101c + 0x1000 * i

/-- STR_CMDSTAT. -/
def Adr.strCmdstat (i : Nat) : Nat := 0x21020 + 0x1000 * i

/-- STR_NODESEL. -/
def Adr.strNodesel (i : Nat) : Nat := 0x21030 + 0x1000 * i

/-- STR_NODEINFO. -/
def Adr.strNodeinfo (i : Nat) : Nat := 0x21034 + 0x1000 * i

/-- STR_NODEDLY. -/
def Adr.strNodedly (i : Nat) : Nat := 0x21038 + 0x1000 * i

/-- STR_NODEMGT. -/
def Adr.strNodemgt (i : Nat) : Nat := 0x2103c + 0x1000 * i

/-- STR_ENCCFG. -/
def Adr.strEnccfg (i j : Nat) : Nat := 0x21060 + 0x1000 * i + 0x4 * j

/-- STR_ENCVAL. -/
def Adr.strEncval (i j : Nat) : Nat := 0x21080 + 0x1000 * i + 0x4 * j

/-- SAF_STATUS. -/
def Adr.safStatus : Nat := 0x200000

/-- SAF_FLAGS. -/
def Adr.safFlags : Nat := 0x200004

/-- SAF_FAULT. -/
def Adr.safFault : Nat := 0x200008

/-- SAF_CHECK. -/
def Adr.safCheck : Nat := 0x20000c

/-- SAF_CMD. -/
def Adr.safCmd : Nat := 0x200010

/-- SAF_CMDSTAT. -/
def Adr.safCmdstat : Nat := 0x200014

/-- SAF_UNLOCK. -/
def Adr.safUnlock : Nat := 0x200018

/-- SAF_TESTAGE. -/
def Adr.safTestage : Nat := 0x20001c

/-- SAF_MODE. -/
def Adr.safMode : Nat := 0x200100

/-- SAF_LOOPCFG. -/
def Adr.safLoopcfg (i : Nat) : Nat := 0x200200 + 0x4 * i

/-- SAF_PAIRCFG. -/
def Adr.safPaircfg (i : Nat) : Nat := 0x200300 + 0x4 * i

/-- SAF_GRPCFG0. -/
def Adr.safGrpcfg0 (i : Nat) : Nat := 0x200400 + 0x8 * i

/-- SAF_GRPCFG1. -/
def Adr.safGrpcfg1 (i : Nat) : Nat := 0x200404 + 0x8 * i

/-- SAF_TGID. -/
def Adr.safTgid (i : Nat) : Nat := 0x200600 + 0x40 * i

/-- SAF_TGCFG. -/
def Adr.safTgcfg (i : Nat) : Nat := 0x200604 + 0x40 * i

/-- SAF_TGKEY. -/
def Adr.safTgkey (i j : Nat) : Nat := 0x200620 + 0x40 * i + 0x4 * j

/-- SAF_AXCFG. -/
def Adr.safAxcfg (i : Nat) : Nat := 0x201000 + 0x20 * i

/-- SAF_AXSLSO. -/
def Adr.safAxslso (i : Nat) : Nat := 0x201004 + 0x20 * i

/-- SAF_AXSLSC. -/
def Adr.safAxslsc (i : Nat) : Nat := 0x201008 + 0x20 * i

/-- SAF_AXSLPMIN. -/
def Adr.safAxslpmin (i : Nat) : Nat := 0x20100c + 0x20 * i

/-- SAF_AXSLPMAX. -/
def Adr.safAxslpmax (i : Nat) : Nat := 0x201010 + 0x20 * i

/-- SAF_AXCLPOS. -/
def Adr.safAxclpos (i : Nat) : Nat := 0x201014 + 0x20 * i

/-- SAF_AXCLTOL. -/
def Adr.safAxcltol (i : Nat) : Nat := 0x201018 + 0x20 * i

/-- SAF_AXDIV. -/
def Adr.safAxdiv (i : Nat) : Nat := 0x20101c + 0x20 * i

/-- FLD_STATUS. -/
def Adr.fldStatus : Nat := 0x210000

/-- FLD_FLAGS. -/
def Adr.fldFlags : Nat := 0x210004

/-- FLD_BLCFG. -/
def Adr.fldBlcfg : Nat := 0x210008

/-- FLD_BLCNT. -/
def Adr.fldBlcnt : Nat := 0x21000c

/-- FLD_GANG. -/
def Adr.fldGang : Nat := 0x210010

/-- FLD_CFGSTAT. -/
def Adr.fldCfgstat : Nat := 0x210014

/-- FLD_DRVMAP. -/
def Adr.fldDrvmap (i : Nat) : Nat := 0x210020 + 0x4 * i

/-- FLD_DICFG. -/
def Adr.fldDicfg (i : Nat) : Nat := 0x210100 + 0x4 * i

/-- FLD_HSCFG. -/
def Adr.fldHscfg (i : Nat) : Nat := 0x210200 + 0x4 * i

/-- FLD_HSCNT. -/
def Adr.fldHscnt (i : Nat) : Nat := 0x210300 + 0x4 * i

/-- PAIR_CFG. -/
def Adr.pairCfg : Nat := 0x270000

/-- PAIR_STATUS. -/
def Adr.pairStatus : Nat := 0x270004

/-- PAIR_FLAGS. -/
def Adr.pairFlags : Nat := 0x270008

/-- PAIR_CMD. -/
def Adr.pairCmd : Nat := 0x27000c

/-- PAIR_CMDSTAT. -/
def Adr.pairCmdstat : Nat := 0x270010

/-- PAIR_FRESH. -/
def Adr.pairFresh : Nat := 0x270014

/-- PAIR_MISSCNT. -/
def Adr.pairMisscnt : Nat := 0x270018

/-- PAIR_ROLECNT. -/
def Adr.pairRolecnt : Nat := 0x27001c

/-- PAIR_LASTLO. -/
def Adr.pairLastlo : Nat := 0x270020

/-- PAIR_LASTHI. -/
def Adr.pairLasthi : Nat := 0x270024

/-- PAIR_ACTAGE. -/
def Adr.pairActage : Nat := 0x270028

/-- PAIR_PSTAT. -/
def Adr.pairPstat : Nat := 0x27002c

/-- HOST_STATUS. -/
def Adr.hostStatus : Nat := 0x230000

/-- HOST_FLAGS. -/
def Adr.hostFlags : Nat := 0x230004

/-- HOST_IPA. -/
def Adr.hostIpa : Nat := 0x230008

/-- HOST_IPB. -/
def Adr.hostIpb : Nat := 0x23000c

/-- HOST_NETCFG. -/
def Adr.hostNetcfg : Nat := 0x230010

/-- HOST_CFGSAVE. -/
def Adr.hostCfgsave : Nat := 0x230014

/-- HOST_CFGSTAT. -/
def Adr.hostCfgstat : Nat := 0x230018

/-- HOST_MACALO. -/
def Adr.hostMacalo : Nat := 0x230020

/-- HOST_MACAHI. -/
def Adr.hostMacahi : Nat := 0x230024

/-- HOST_MACBLO. -/
def Adr.hostMacblo : Nat := 0x230028

/-- HOST_MACBHI. -/
def Adr.hostMacbhi : Nat := 0x23002c

/-- HOST_WDCFG. -/
def Adr.hostWdcfg : Nat := 0x230030

/-- HOST_RXCNT. -/
def Adr.hostRxcnt : Nat := 0x230034

/-- HOST_RXDROP. -/
def Adr.hostRxdrop : Nat := 0x230038

/-- HOST_TGCNT. -/
def Adr.hostTgcnt : Nat := 0x23003c

/-- HOST_TGDROP. -/
def Adr.hostTgdrop : Nat := 0x230040

/-- CAN_CTRL. -/
def Adr.canCtrl (i : Nat) : Nat := 0x220000 + 0x4000 * i

/-- CAN_STATUS. -/
def Adr.canStatus (i : Nat) : Nat := 0x220004 + 0x4000 * i

/-- CAN_ERRCNT. -/
def Adr.canErrcnt (i : Nat) : Nat := 0x220008 + 0x4000 * i

/-- CAN_FLAGS. -/
def Adr.canFlags (i : Nat) : Nat := 0x22000c + 0x4000 * i

/-- CAN_CMD. -/
def Adr.canCmd (i : Nat) : Nat := 0x220010 + 0x4000 * i

/-- CAN_NBT. -/
def Adr.canNbt (i : Nat) : Nat := 0x220014 + 0x4000 * i

/-- CAN_DBT. -/
def Adr.canDbt (i : Nat) : Nat := 0x220018 + 0x4000 * i

/-- CAN_TDC. -/
def Adr.canTdc (i : Nat) : Nat := 0x22001c + 0x4000 * i

/-- CAN_CFGSTAT. -/
def Adr.canCfgstat (i : Nat) : Nat := 0x220020 + 0x4000 * i

/-- CAN_RXCNT. -/
def Adr.canRxcnt (i : Nat) : Nat := 0x220024 + 0x4000 * i

/-- CAN_TXCNT. -/
def Adr.canTxcnt (i : Nat) : Nat := 0x220028 + 0x4000 * i

/-- CAN_RXUNM. -/
def Adr.canRxunm (i : Nat) : Nat := 0x22002c + 0x4000 * i

/-- CAN_LOSTCNT. -/
def Adr.canLostcnt (i : Nat) : Nat := 0x220030 + 0x4000 * i

/-- CAN_BOFFCNT. -/
def Adr.canBoffcnt (i : Nat) : Nat := 0x220034 + 0x4000 * i

/-- CAN_ERRFRM. -/
def Adr.canErrfrm (i : Nat) : Nat := 0x220038 + 0x4000 * i

/-- CAN_OBJID. -/
def Adr.canObjid (i j : Nat) : Nat := 0x221000 + 0x4000 * i + 0x8 * j

/-- CAN_OBJCFG. -/
def Adr.canObjcfg (i j : Nat) : Nat := 0x221004 + 0x4000 * i + 0x8 * j

/-- REC_STATUS. -/
def Adr.recStatus : Nat := 0x240000

/-- REC_FLAGS. -/
def Adr.recFlags : Nat := 0x240004

/-- REC_NEXTSEQ. -/
def Adr.recNextseq : Nat := 0x240008

/-- REC_OLDSEQ. -/
def Adr.recOldseq : Nat := 0x24000c

/-- REC_SEEDCNT. -/
def Adr.recSeedcnt : Nat := 0x240010

/-- REC_USED. -/
def Adr.recUsed : Nat := 0x240014

/-- REC_LOST. -/
def Adr.recLost : Nat := 0x240018

/-- REC_REPSAT. -/
def Adr.recRepsat : Nat := 0x24001c

/-- REC_TORNCNT. -/
def Adr.recTorncnt : Nat := 0x240020

/-- REC_CLEARS. -/
def Adr.recClears : Nat := 0x240024

/-- REC_QPEAK. -/
def Adr.recQpeak : Nat := 0x240028

/-- REC_ANCLO. -/
def Adr.recAnclo : Nat := 0x240030

/-- REC_ANCHI. -/
def Adr.recAnchi : Nat := 0x240034

/-- REC_ANCCMD. -/
def Adr.recAnccmd : Nat := 0x240038

/-- REC_CMDSTAT. -/
def Adr.recCmdstat : Nat := 0x24003c

/-- REC_KEY. -/
def Adr.recKey (i : Nat) : Nat := 0x240040 + 0x4 * i

/-- REC_KEYCMD. -/
def Adr.recKeycmd : Nat := 0x240060

/-- PWR_ROASTRES. -/
def Adr.pwrRoastres : Nat := 0x10100

/-- PWR_ROASTMAP. -/
def Adr.pwrRoastmap : Nat := 0x10104

/-- PWR_ROASTDUR. -/
def Adr.pwrRoastdur : Nat := 0x10108

/-- UPD_STATUS. -/
def Adr.updStatus : Nat := 0x250000

/-- UPD_FLAGS. -/
def Adr.updFlags : Nat := 0x250004

/-- UPD_CMD. -/
def Adr.updCmd : Nat := 0x250008

/-- UPD_CMDSTAT. -/
def Adr.updCmdstat : Nat := 0x25000c

/-- UPD_WRITTEN. -/
def Adr.updWritten : Nat := 0x250010

/-- UPD_RUNVER. -/
def Adr.updRunver : Nat := 0x250014

/-- UPD_TRIAL. -/
def Adr.updTrial : Nat := 0x250018

/-- UPD_LAST. -/
def Adr.updLast : Nat := 0x25001c

/-- UPD_ERASE0. -/
def Adr.updErase0 : Nat := 0x250020

/-- UPD_ERASE1. -/
def Adr.updErase1 : Nat := 0x250024

/-- UPD_SECFLOOR. -/
def Adr.updSecfloor : Nat := 0x250028

/-- TRC_CFG. -/
def Adr.trcCfg : Nat := 0x260000

/-- TRC_STATUS. -/
def Adr.trcStatus : Nat := 0x260004

/-- TRC_FLAGS. -/
def Adr.trcFlags : Nat := 0x260008

/-- TRC_SWLO. -/
def Adr.trcSwlo : Nat := 0x26000c

/-- TRC_SWHI. -/
def Adr.trcSwhi : Nat := 0x260010

/-- TRC_WRPOS. -/
def Adr.trcWrpos : Nat := 0x260014

/-- TRC_WRAPS. -/
def Adr.trcWraps : Nat := 0x260018

/-- TRC_DROP. -/
def Adr.trcDrop : Nat := 0x26001c

/-- TRC_CMD. -/
def Adr.trcCmd : Nat := 0x260020

/-- TRC_EVSEL. -/
def Adr.trcEvsel (i : Nat) : Nat := 0x260100 + 0x4 * i

/-- TRC_CNT. -/
def Adr.trcCnt (i : Nat) : Nat := 0x260500 + 0x4 * i

/-- SYS_ID. -/
def Adr.sysId : Nat := 0x0

/-- SYS_SERIAL. -/
def Adr.sysSerial : Nat := 0x4

/-- SYS_FRAMECNT. -/
def Adr.sysFramecnt : Nat := 0x8

/-- SYS_OPTLO. -/
def Adr.sysOptlo : Nat := 0xc

/-- SYS_OPTHI. -/
def Adr.sysOpthi : Nat := 0x10

/-- SYS_PWRCYC. -/
def Adr.sysPwrcyc : Nat := 0x14

/-- SYS_FLAGS. -/
def Adr.sysFlags : Nat := 0x18

/-- SYS_SVFLT. -/
def Adr.sysSvflt : Nat := 0x20

/-- SYS_SVPC. -/
def Adr.sysSvpc : Nat := 0x24

/-- SYS_SVFCNT. -/
def Adr.sysSvfcnt : Nat := 0x28

/-- SYS_SVHALT0. -/
def Adr.sysSvhalt0 : Nat := 0x2c

/-- SYS_SVHALT1. -/
def Adr.sysSvhalt1 : Nat := 0x30

/-- PWR_STATE. -/
def Adr.pwrState : Nat := 0x10000

/-- PWR_FLAGS. -/
def Adr.pwrFlags : Nat := 0x10004

/-- PWR_CMDSTAT. -/
def Adr.pwrCmdstat : Nat := 0x10008

/-- PWR_START. -/
def Adr.pwrStart : Nat := 0x1000c

/-- PWR_SAGCNT. -/
def Adr.pwrSagcnt : Nat := 0x10010

/-- PWR_RAIL. -/
def Adr.pwrRail : Nat := 0x10014

/-- PWR_VIN. -/
def Adr.pwrVin : Nat := 0x10018

/-- PWR_PLL. -/
def Adr.pwrPll : Nat := 0x1001c

end Sys2Proof.Machine
end

