-- ==== Sys2Proof/Machine/Ops.lean ====
section
/-! DEFINITION. The named operations every unit is written over: sparse tables, bit fields, little-endian bytes, the checks of
R7, saturating counts, the register file, and access to the parts of the module. -/

namespace Sys2Proof.Machine

/-! ### Sparse tables -/

/-- Read an entry; `dflt` is what an unlisted number reads as. -/
def smGet {α : Type} (dflt : α) : SMap α → Nat → α
  | [], _ => dflt
  | (k, v) :: m, n => if n = k then v else smGet dflt m n

/-- Whether a number is listed. -/
def smHas {α : Type} : SMap α → Nat → Bool
  | [], _ => false
  | (k, _) :: m, n => n == k || smHas m n

/-- Write an entry in its place. -/
def smPut {α : Type} : SMap α → Nat → α → SMap α
  | [], n, v => [(n, v)]
  | (k, w) :: m, n, v =>
    if n < k then (n, v) :: (k, w) :: m
    else if n = k then (n, v) :: m
    else (k, w) :: smPut m n v

/-- Remove an entry. -/
def smDel {α : Type} : SMap α → Nat → SMap α
  | [], _ => []
  | (k, w) :: m, n => if n = k then smDel m n else (k, w) :: smDel m n

/-- Write an entry of a table in canonical form: writing what an unlisted number reads as removes the entry. -/
def smSet {α : Type} [DecidableEq α] (dflt : α) (m : SMap α) (n : Nat) (v : α) : SMap α :=
  if v = dflt then smDel m n else smPut m n v

/-- The numbers of a table rise strictly. -/
def smRising {α : Type} : SMap α → Bool
  | [] => true
  | [_] => true
  | (k, _) :: (k', w) :: m => k < k' && smRising ((k', w) :: m)

/-! ### Addressed bytes: task-local memory, flash slots, the trace buffer -/

/-- An unlisted byte reads as 0: the initial contents where none are declared (R37). DESIGN CHOICE: notes/assumptions/17.md. -/
def memRead (m : List Host.Cell) (a : Nat) : Byte := smGet 0 m a

/-- Write one byte, keeping the canonical form. DESIGN CHOICE: notes/assumptions/17.md. -/
def memWrite (m : List Host.Cell) (a : Nat) (b : Byte) : List Host.Cell := smSet 0 m a b

/-- The canonical form: addresses strictly rising and no entry equal to what an unlisted address reads as. -/
def Memory.wf (m : List Host.Cell) : Bool := smRising m && m.all (fun c => c.2 != 0)

/-- Write consecutive bytes. -/
def memWrites (m : List Host.Cell) (a : Nat) : List Byte → List Host.Cell
  | [] => m
  | b :: bs => memWrites (memWrite m a b) (a + 1) bs

/-- Read consecutive bytes. -/
def memReads (m : List Host.Cell) (a n : Nat) : List Byte := (List.range n).map fun i => memRead m (a + i)

/-! ### Bits, words and bytes -/

/-- Bits `lo + width − 1` to `lo` of a word, as a number. -/
def fld (w : Word) (lo width : Nat) : Nat := (w.toNat >>> lo) % 2 ^ width

/-- One bit of a word. -/
def bit (w : Word) (i : Nat) : Bool := w.getLsbD i

/-- A word with one field replaced. -/
def setFld (w : Word) (lo width v : Nat) : Word :=
  let old := fld w lo width
  wordOfNat (w.toNat - old * 2 ^ lo + v % 2 ^ width * 2 ^ lo)

/-- A one-bit number. -/
def b2n (b : Bool) : Nat := if b then 1 else 0

/-- A word from fields: pairs of a low bit and a number that fits there. -/
def fields (l : List (Nat × Nat)) : Word := wordOfNat (l.foldl (fun s p => s + p.2 * 2 ^ p.1) 0)

/-- A number as `n` little-endian bytes (R6). -/
def leBytes (n v : Nat) : List Byte := (List.range n).map fun i => BitVec.ofNat 8 (v >>> (8 * i))

/-- Little-endian bytes as a number (R6). -/
def leNat : List Byte → Nat
  | [] => 0
  | b :: bs => b.toNat + 256 * leNat bs

/-- `n` bytes at an offset, as a little-endian number; a byte beyond the list reads as 0. -/
def leAt (bs : List Byte) (off n : Nat) : Nat := leNat ((List.range n).map fun i => bs.getD (off + i) 0)

/-- Bytes `off` to `off + n − 1` of a list. -/
def slice (bs : List Byte) (off n : Nat) : List Byte := (bs.drop off).take n

/-- Zero bytes up to the next multiple of four (R353). -/
def pad4 (bs : List Byte) : List Byte := bs ++ List.replicate ((4 - bs.length % 4) % 4) 0

/-- Big-endian bytes of a number: the Ethernet, IPv4 and UDP headers (R6), and the hashes. -/
def beBytes (n v : Nat) : List Byte := (leBytes n v).reverse

/-! ### Counts -/

/-- A 32-bit count that saturates. -/
def satInc (w : Word) : Word := if w = 0xFFFFFFFF then w else w + 1

/-- A 32-bit count that saturates, advanced by `n`. -/
def satAdd (w : Word) (n : Nat) : Word := if w.toNat + n ≥ 2 ^ 32 then 0xFFFFFFFF else w + wordOfNat n

/-- A number limited to `max`. -/
def satNat (max v : Nat) : Nat := if v ≤ max then v else max

/-- An integer limited to a signed width. -/
def satInt (width : Nat) (v : Int) : Int :=
  if v ≥ 2 ^ (width - 1) then 2 ^ (width - 1) - 1 else if v < -(2 ^ (width - 1)) then -(2 ^ (width - 1)) else v

/-- Division that is exact where the divisor divides, and otherwise rounds as the free value of Config says: the result is
one of the two neighbouring multiples (R129: to within rounding). DEDUCED: notes/assumptions/21.md. -/
def roundDiv (num : Int) (den : Nat) : Int :=
  let q := num.fdiv den
  if num = q * den then q else if Config.roundsUp num den then q + 1 else q

/-- Division rounded to the nearest integer, ties away from zero (R69, R142). -/
def roundNearest (num : Int) (den : Nat) : Int :=
  if num ≥ 0 then (2 * num + den).fdiv (2 * den) else -((-2 * num + den).fdiv (2 * den))

/-! ### The checks of R7 -/

/-- One bit of a reflected CRC. -/
def crcBit (poly c : Word) : Word := if c.getLsbD 0 then (c >>> 1) ^^^ poly else c >>> 1

/-- One byte of a reflected CRC. -/
def crcByte (poly c : Word) (b : Byte) : Word :=
  let x := c ^^^ b.setWidth 32
  (List.range 8).foldl (fun c _ => crcBit poly c) x

/-- A reflected CRC over bytes: initial value and final XOR 0xFFFF_FFFF (R7). -/
def crc (poly : Word) (bs : List Byte) : Word := bs.foldl (crcByte poly) 0xFFFFFFFF ^^^ 0xFFFFFFFF

/-- CRC-32C: polynomial 0x1EDC_6F41, bit-reversed. -/
def crc32c (bs : List Byte) : Word := crc 0x82F63B78 bs

/-- CRC-32: polynomial 0x04C1_1DB7, bit-reversed. -/
def crc32 (bs : List Byte) : Word := crc 0xEDB88320 bs

/-! ### The register file -/

/-- The stored value of the register at an address. -/
def Dev.reg (d : Dev) (addr : Nat) : Word := if smHas d.regs addr then smGet 0 d.regs addr else regReset addr

/-- Store a register's value. -/
def Dev.setReg (d : Dev) (addr : Nat) (v : Word) : Dev :=
  { d with regs := smSet (regReset addr) d.regs addr v }

/-- The next free value index. DESIGN CHOICE: notes/assumptions/4.md. -/
def Dev.nextFree (d : Dev) : Dev × Nat := ({ d with sys := { d.sys with free := d.sys.free + 1 } }, d.sys.free)

/-- Replace a field of a stored register. -/
def Dev.setRegFld (d : Dev) (addr lo width v : Nat) : Dev := d.setReg addr (setFld (d.reg addr) lo width v)

/-- Set bits of a stored register, as the device sets flags (R11). -/
def Dev.orReg (d : Dev) (addr : Nat) (bits : Word) : Dev := d.setReg addr (d.reg addr ||| bits)

/-- Advance a saturating 32-bit count. -/
def Dev.incReg (d : Dev) (addr : Nat) : Dev := d.setReg addr (satInc (d.reg addr))

/-- Advance a saturating count held in a field. -/
def Dev.incRegFld (d : Dev) (addr lo width : Nat) : Dev :=
  d.setRegFld addr lo width (satNat (2 ^ width - 1) (fld (d.reg addr) lo width + 1))

/-! ### The parts of the module -/

/-- The context of an axis. -/
def Dev.axis (d : Dev) (n : Nat) : Axis := smGet {} d.axes n

/-- Replace an axis's context. -/
def Dev.setAxis (d : Dev) (n : Nat) (a : Axis) : Dev := { d with axes := smPut d.axes n a }

/-- Change an axis's motion state. -/
def Dev.modMotion (d : Dev) (n : Nat) (f : Motion → Motion) : Dev :=
  let a := d.axis n
  d.setAxis n { a with motion := f a.motion }

/-- A core. -/
def Dev.core (d : Dev) (c : Nat) : Core := smGet {} d.cores c

/-- Replace a core. -/
def Dev.setCore (d : Dev) (c : Nat) (k : Core) : Dev := { d with cores := smPut d.cores c k }

/-- A task of a core. -/
def Dev.task (d : Dev) (c t : Nat) : Task := smGet {} (d.core c).tasks t

/-- Replace a task. -/
def Dev.setTask (d : Dev) (c t : Nat) (x : Task) : Dev :=
  let k := d.core c
  d.setCore c { k with tasks := smPut k.tasks t x }

/-- A stream port. -/
def Dev.port (d : Dev) (p : Nat) : Port := smGet {} d.ports p

/-- Replace a stream port. -/
def Dev.setPort (d : Dev) (p : Nat) (x : Port) : Dev := { d with ports := smPut d.ports p x }

/-- A node of a port. -/
def Port.node (p : Port) (n : Nat) : Node := smGet {} p.nodes n

/-- Replace a node of a port. -/
def Port.setNode (p : Port) (n : Nat) (x : Node) : Port := { p with nodes := smPut p.nodes n x }

/-- The slot configuration in force on a port: that of its last link start (R214). -/
def Port.inForce (x : Port) : PortLayout := x.layout.getD {}

/-- A node address is lost behind a break (R218). -/
def Port.beyond (x : Port) (node : Nat) : Bool := x.lostFrom != 0 && x.lostFrom ≤ node

/-- The port and the entry of an axis in the slot configurations in force (R214). -/
def Dev.linkOf (d : Dev) (n : Nat) : Option (Nat × PortAxis) :=
  (List.range 4).findSome? fun p => ((d.port p).inForce.axes.find? fun a => a.axis == n).map fun a => (p, a)

/-- The port that serves an axis is LOST (R217). -/
def Dev.portLost (d : Dev) (n : Nat) : Bool :=
  match d.linkOf n with
  | some (p, _) => (d.port p).st == .lost
  | none => false

/-- A sheaf queue: 2s inbound, 2s + 1 outbound (R226). -/
def Dev.queue (d : Dev) (q : Nat) : Queue := smGet {} d.queues q

/-- Replace a sheaf queue. -/
def Dev.setQueue (d : Dev) (q : Nat) (x : Queue) : Dev := { d with queues := smPut d.queues q x }

/-- A CAN controller. -/
def Dev.can (d : Dev) (c : Nat) : Can := smGet {} d.cans c

/-- Replace a CAN controller. -/
def Dev.setCan (d : Dev) (c : Nat) (x : Can) : Dev := { d with cans := smPut d.cans c x }

/-- A message object of a controller. -/
def Can.obj (c : Can) (o : Nat) : CanObj := smGet {} c.objs o

/-- Replace a message object. -/
def Can.setObj (c : Can) (o : Nat) (x : CanObj) : Can := { c with objs := smPut c.objs o x }

/-- The island's monitor of an axis. -/
def Dev.safe (d : Dev) (n : Nat) : AxSafe := smGet {} d.island.axes n

/-- Replace the island's monitor of an axis. -/
def Dev.setSafe (d : Dev) (n : Nat) (x : AxSafe) : Dev :=
  { d with island := { d.island with axes := smPut d.island.axes n x } }

/-- An HS channel of the husk. -/
def Field.chan (f : Field) (h : Nat) : Hs := smGet {} f.hs h

/-- Replace an HS channel. -/
def Dev.setChan (d : Dev) (h : Nat) (x : Hs) : Dev :=
  { d with field := { d.field with hs := smPut d.field.hs h x } }

/-! ### Time, roles and states -/

/-- The axis state codes of R126. -/
def AxState.code : AxState → Nat
  | .noconf => 0
  | .off => 1
  | .stand => 2
  | .move => 3
  | .stop => 4
  | .home => 5
  | .gear => 6

/-- The power state codes of R397. -/
def Power.code : Power → Nat
  | .off => 0
  | .keep => 1
  | .idle => 2
  | .run => 3
  | .roast => 4

/-- The role codes of PAIR_STATUS.ROLE. -/
def Role.code : Role → Nat
  | .unpaired => 0
  | .seek => 1
  | .active => 2
  | .standby => 3

/-- Operating time in ms. -/
def Dev.now (d : Dev) : Nat := d.sys.opTime.toNat

/-- Tasks of a core are dispatched: RUN, not in the stopping phase of a departure (R406), and, on a sheaf, not a standby
(R306); the supervisor core's system tasks go on in a standby. -/
def Dev.scheduling (d : Dev) (c : Nat) : Bool :=
  d.sys.power == .run && !d.sys.leaving && (c == 16 || d.pair.role != .standby)

/-- IDLE or RUN. -/
def Dev.operating (d : Dev) : Bool := d.sys.power == .idle || d.sys.power == .run

/-- Whether an axis is configured: AX_CFG.EN. -/
def Dev.axConfigured (d : Dev) (n : Nat) : Bool := n < 512 && bit (d.reg (Adr.axCfg n)) 0

/-- The configured axes, ascending. -/
def Dev.axes' (d : Dev) : List Nat :=
  d.regs.filterMap fun r =>
    if 0x100000 ≤ r.1 && r.1 ≤ 0x11FFFF && r.1 % 0x100 == 0 && bit r.2 0 then some ((r.1 - 0x100000) / 0x100) else none

/-- The stream port of an axis. -/
def Dev.axPort (d : Dev) (n : Nat) : Nat := fld (d.reg (Adr.axCfg n)) 1 2

/-- The stream slot of an axis. -/
def Dev.axSlot (d : Dev) (n : Nat) : Nat := fld (d.reg (Adr.axCfg n)) 8 7

/-- The number of a signal of an axis (R8). -/
def slotSig (axis slot : Nat) : Nat := axis * 1024 + slot

end Sys2Proof.Machine
end

