-- ==== Sys2Proof/Decode.lean ====
section
/-! DEFINITION. The bit encodings of the Falael instructions (R61–R63, R98): the decoder and the encoder of a code word, and
the command that a word of the opcode table's bits spells (the table gives no row bits). -/

namespace Sys2Proof

open Sys2Proof.Machine

/-- The command that a word spells by the bits of spec/opcode_table.json: no row gives bits, so there is none.
DESIGN CHOICE: notes/assumptions/5.md. -/
def decodeTableWord (_nbits _w : Nat) : Option Instr := none

/-- A word from its opcode and the four fields below it (formats A and M of R61). -/
def encA (op d a b fn : Nat) : Word := wordOfNat (op * 2 ^ 25 + d * 2 ^ 20 + a * 2 ^ 15 + b * 2 ^ 10 + fn)

/-- A word of format I. -/
def encI (op d a imm : Nat) : Word := wordOfNat (op * 2 ^ 25 + d * 2 ^ 20 + a * 2 ^ 15 + imm)

/-- A word of format S or SX: the absolute form has opcode `op`, the computed form `op + 4` (R63, R72). -/
def encS (op reg : Nat) : SigOp → Word
  | .abs sig => wordOfNat (op * 2 ^ 25 + reg * 2 ^ 20 + sig.toNat)
  | .rel a base off => wordOfNat ((op + 4) * 2 ^ 25 + reg * 2 ^ 20 + a.toNat * 2 ^ 15 + base.toNat * 2 ^ 13 + off.toNat)

/-- A word of format B. -/
def encB (op cond off : Nat) : Word := wordOfNat (op * 2 ^ 25 + cond * 2 ^ 21 + off)

/-- The services of R94. -/
def services : List Nat := [0x001, 0x002, 0x010, 0x011, 0x020, 0x030, 0x040]

/-- The code word of a Falael instruction; `none` for a command that is no instruction.  A call of a service that does not
exist and an undefined encoding have no word of their own in the table. -/
def encode : Instr → Option Word
  | .add _ d a b => some (encA 0x01 d.toNat a.toNat b.toNat 0x000)
  | .sub _ d a b => some (encA 0x01 d.toNat a.toNat b.toNat 0x001)
  | .and _ d a b => some (encA 0x01 d.toNat a.toNat b.toNat 0x002)
  | .or _ d a b => some (encA 0x01 d.toNat a.toNat b.toNat 0x003)
  | .xor _ d a b => some (encA 0x01 d.toNat a.toNat b.toNat 0x004)
  | .shl _ d a b => some (encA 0x01 d.toNat a.toNat b.toNat 0x005)
  | .shr _ d a b => some (encA 0x01 d.toNat a.toNat b.toNat 0x006)
  | .sar _ d a b => some (encA 0x01 d.toNat a.toNat b.toNat 0x007)
  | .min _ d a b => some (encA 0x01 d.toNat a.toNat b.toNat 0x008)
  | .max _ d a b => some (encA 0x01 d.toNat a.toNat b.toNat 0x009)
  | .cmp _ a b => some (encA 0x01 0 a.toNat b.toNat 0x00A)
  | .tst _ a b => some (encA 0x01 0 a.toNat b.toNat 0x00B)
  | .mul _ d a b => some (encA 0x01 d.toNat a.toNat b.toNat 0x00C)
  | .mulh _ d a b => some (encA 0x01 d.toNat a.toNat b.toNat 0x00D)
  | .mulhu _ d a b => some (encA 0x01 d.toNat a.toNat b.toNat 0x00E)
  | .div _ d a b => some (encA 0x01 d.toNat a.toNat b.toNat 0x010)
  | .divu _ d a b => some (encA 0x01 d.toNat a.toNat b.toNat 0x011)
  | .rem _ d a b => some (encA 0x01 d.toNat a.toNat b.toNat 0x012)
  | .adds _ d a b => some (encA 0x02 d.toNat a.toNat b.toNat 0x000)
  | .subs _ d a b => some (encA 0x02 d.toNat a.toNat b.toNat 0x001)
  | .mulq _ d a b => some (encA 0x02 d.toNat a.toNat b.toNat 0x002)
  | .divq _ d a b => some (encA 0x02 d.toNat a.toNat b.toNat 0x003)
  | .abss _ d a => some (encA 0x02 d.toNat a.toNat 0 0x004)
  | .negs _ d a => some (encA 0x02 d.toNat a.toNat 0 0x005)
  | .shls _ d a b => some (encA 0x02 d.toNat a.toNat b.toNat 0x006)
  | .clamp _ d a b => some (encA 0x02 d.toNat a.toNat b.toNat 0x007)
  | .addi _ d a imm => some (encI 0x08 d.toNat a.toNat imm.toNat)
  | .andi _ d a imm => some (encI 0x09 d.toNat a.toNat imm.toNat)
  | .ori _ d a imm => some (encI 0x0A d.toNat a.toNat imm.toNat)
  | .xori _ d a imm => some (encI 0x0B d.toNat a.toNat imm.toNat)
  | .shli _ d a k => some (encI 0x0C d.toNat a.toNat k.toNat)
  | .shri _ d a k => some (encI 0x0D d.toNat a.toNat k.toNat)
  | .sari _ d a k => some (encI 0x0E d.toNat a.toNat k.toNat)
  | .cmpi _ a imm => some (encI 0x0F 0 a.toNat imm.toNat)
  | .ldu _ d imm => some (wordOfNat (0x10 * 2 ^ 25 + d.toNat * 2 ^ 20 + imm.toNat))
  | .axsel _ a imm => some (encI 0x11 0 a.toNat imm.toNat)
  | .waitT _ a imm => some (encI 0x12 0 a.toNat imm.toNat)
  | .ldW _ d a imm => some (encI 0x18 d.toNat a.toNat imm.toNat)
  | .ldH _ d a imm => some (encI 0x19 d.toNat a.toNat imm.toNat)
  | .ldHU _ d a imm => some (encI 0x1A d.toNat a.toNat imm.toNat)
  | .ldB _ d a imm => some (encI 0x1B d.toNat a.toNat imm.toNat)
  | .ldBU _ d a imm => some (encI 0x1C d.toNat a.toNat imm.toNat)
  | .stW _ d a imm => some (encI 0x1D d.toNat a.toNat imm.toNat)
  | .stH _ d a imm => some (encI 0x1E d.toNat a.toNat imm.toNat)
  | .stB _ d a imm => some (encI 0x1F d.toNat a.toNat imm.toNat)
  | .ldcW _ d a imm => some (encI 0x20 d.toNat a.toNat imm.toNat)
  | .srd _ r op _ => some (encS 0x28 r.toNat op)
  | .srdq _ r op _ => some (encS 0x29 r.toNat op)
  | .swr _ r op => some (encS 0x2A r.toNat op)
  | .swri _ r op => some (encS 0x2B r.toNat op)
  | .b _ cond off => some (encB 0x30 cond.toNat off.toNat)
  | .bl _ cond off => some (encB 0x31 cond.toNat off.toNat)
  | .jr _ a => some (encA 0x03 0 a.toNat 0 0x000)
  | .callr _ a => some (encA 0x03 0 a.toNat 0 0x001)
  | .endTask _ => some (encA 0x04 0 0 0 0x000)
  | .yield _ => some (encA 0x04 0 0 0 0x001)
  | .waitEv _ => some (encA 0x04 0 0 0 0x002)
  | .waitF _ => some (encA 0x04 0 0 0 0x003)
  | .mvStart _ sub a profile rel => some (encA 0x40 sub.toNat a.toNat 0 (profile.toNat + b2n rel * 256))
  | .mvStop _ sub => some (encA 0x41 sub.toNat 0 0 0)
  | .mvSpeed _ sub a rm => some (encA 0x42 sub.toNat a.toNat 0 (b2n rm))
  | .mvAccel _ sub a rm => some (encA 0x43 sub.toNat a.toNat 0 (b2n rm))
  | .mvHome _ sub a pos src => some (encA 0x44 sub.toNat a.toNat 0 (b2n pos + src.toNat * 2))
  | .mvGear _ sub a table dis => some (encA 0x45 sub.toNat a.toNat 0 (table.toNat + b2n dis * 256))
  | .mvMode _ sub mode => some (encA 0x46 sub.toNat 0 0 mode.toNat)
  | .recPut _ sub a b ut => some (encA 0x48 sub.toNat a.toNat b.toNat ut.toNat)
  | .confirm _ sub => some (encA 0x49 sub.toNat 0 0 0)
  | .sysRegRead _ sub a b => some (encA 0x4A sub.toNat a.toNat b.toNat 0x001)
  | .sysRegWrite _ sub a b => some (encA 0x4A sub.toNat a.toNat b.toNat 0x002)
  | .trcMark _ sub a b => some (encA 0x4A sub.toNat a.toNat b.toNat 0x010)
  | .sysCntRead _ sub a b => some (encA 0x4A sub.toNat a.toNat b.toNat 0x011)
  | .imgState _ sub a b => some (encA 0x4A sub.toNat a.toNat b.toNat 0x020)
  | .axCtrl _ sub a b => some (encA 0x4A sub.toNat a.toNat b.toNat 0x030)
  | .instRestart _ sub a b => some (encA 0x4A sub.toNat a.toNat b.toNat 0x040)
  | .sysNoService _ sub a b fn => if services.contains fn.toNat then none else some (encA 0x4A sub.toNat a.toNat b.toNat fn.toNat)
  | _ => none

/-- The integer ALU by fn (R67); `d` must be 0 for CMP and TST. -/
def decodeAlu (c : CoreId) (d a b : Reg) (fn : Nat) : Option Instr :=
  match fn with
  | 0x000 => some (.add c d a b)
  | 0x001 => some (.sub c d a b)
  | 0x002 => some (.and c d a b)
  | 0x003 => some (.or c d a b)
  | 0x004 => some (.xor c d a b)
  | 0x005 => some (.shl c d a b)
  | 0x006 => some (.shr c d a b)
  | 0x007 => some (.sar c d a b)
  | 0x008 => some (.min c d a b)
  | 0x009 => some (.max c d a b)
  | 0x00A => if d = 0 then some (.cmp c a b) else none
  | 0x00B => if d = 0 then some (.tst c a b) else none
  | 0x00C => some (.mul c d a b)
  | 0x00D => some (.mulh c d a b)
  | 0x00E => some (.mulhu c d a b)
  | 0x010 => some (.div c d a b)
  | 0x011 => some (.divu c d a b)
  | 0x012 => some (.rem c d a b)
  | _ => none

/-- The saturating operations by fn (R69); `b` must be 0 for ABSS and NEGS. -/
def decodeSat (c : CoreId) (d a b : Reg) (fn : Nat) : Option Instr :=
  match fn with
  | 0x000 => some (.adds c d a b)
  | 0x001 => some (.subs c d a b)
  | 0x002 => some (.mulq c d a b)
  | 0x003 => some (.divq c d a b)
  | 0x004 => if b = 0 then some (.abss c d a) else none
  | 0x005 => if b = 0 then some (.negs c d a) else none
  | 0x006 => some (.shls c d a b)
  | 0x007 => some (.clamp c d a b)
  | _ => none

/-- Register jumps and task control by fn (R77, R78). -/
def decodeCtl (c : CoreId) (op : Nat) (d a b : Reg) (fn : Nat) : Option Instr :=
  if d = 0 ∧ b = 0 then
    if op = 0x03 then (if fn = 0 then some (.jr c a) else if fn = 1 then some (.callr c a) else none)
    else if a = 0 then
      match fn with
      | 0 => some (.endTask c)
      | 1 => some (.yield c)
      | 2 => some (.waitEv c)
      | 3 => some (.waitF c)
      | _ => none
    else none
  else none

/-- The immediates and the loads and stores by opcode (R68, R70, R71, R78, R81). -/
def decodeImm (c : CoreId) (op : Nat) (d a : Reg) (imm : BitVec 15) : Option Instr :=
  match op with
  | 0x08 => some (.addi c d a imm)
  | 0x09 => some (.andi c d a imm)
  | 0x0A => some (.ori c d a imm)
  | 0x0B => some (.xori c d a imm)
  | 0x0C => if imm.toNat < 32 then some (.shli c d a (imm.setWidth 5)) else none
  | 0x0D => if imm.toNat < 32 then some (.shri c d a (imm.setWidth 5)) else none
  | 0x0E => if imm.toNat < 32 then some (.sari c d a (imm.setWidth 5)) else none
  | 0x0F => if d = 0 then some (.cmpi c a imm) else none
  | 0x11 => if d = 0 then some (.axsel c a imm) else none
  | 0x12 => if d = 0 then some (.waitT c a imm) else none
  | 0x18 => some (.ldW c d a imm)
  | 0x19 => some (.ldH c d a imm)
  | 0x1A => some (.ldHU c d a imm)
  | 0x1B => some (.ldB c d a imm)
  | 0x1C => some (.ldBU c d a imm)
  | 0x1D => some (.stW c d a imm)
  | 0x1E => some (.stH c d a imm)
  | 0x1F => some (.stB c d a imm)
  | 0x20 => some (.ldcW c d a imm)
  | _ => none

/-- The signal instructions (R72, R73): base 3 and an odd register of SRDQ are undefined. -/
def decodeSig (c : CoreId) (op : Nat) (r : Reg) (so : SigOp) (stall : Nat) : Option Instr :=
  match op with
  | 0x28 => some (.srd c r so stall)
  | 0x29 => if r.toNat % 2 = 0 then some (.srdq c r so stall) else none
  | 0x2A => some (.swr c r so)
  | 0x2B => some (.swri c r so)
  | _ => none

/-- The motion instructions (R85): a field given as 0 must be 0. DEDUCED: notes/assumptions/20.md. -/
def decodeMotion (c : CoreId) (op : Nat) (sub a b : Reg) (fn : Nat) : Option Instr :=
  if b ≠ 0 then none
  else match op with
    | 0x40 => if fn < 512 then some (.mvStart c sub a (BitVec.ofNat 8 fn) (fn / 256 == 1)) else none
    | 0x41 => if fn = 0 ∧ a = 0 then some (.mvStop c sub) else none
    | 0x42 => if fn < 2 then some (.mvSpeed c sub a (fn == 1)) else none
    | 0x43 => if fn < 2 then some (.mvAccel c sub a (fn == 1)) else none
    | 0x44 => if fn < 8 then some (.mvHome c sub a (fn % 2 == 1) (BitVec.ofNat 2 (fn / 2))) else none
    | 0x45 => if fn ≤ 256 then some (.mvGear c sub a (BitVec.ofNat 8 fn) (fn == 256)) else none
    | 0x46 => if fn < 4 ∧ a = 0 then some (.mvMode c sub (BitVec.ofNat 2 fn)) else none
    | _ => none

/-- The services (R89, R92–R94): REC.PUT takes a type below 128, an odd `sub` of SYS is undefined, and a number with no
service is the service call that is refused. -/
def decodeService (c : CoreId) (op : Nat) (sub a b : Reg) (fn : Nat) : Option Instr :=
  if op = 0x48 then (if fn < 128 then some (.recPut c sub a b (BitVec.ofNat 7 fn)) else none)
  else if op = 0x49 then (if a = 0 ∧ b = 0 ∧ fn = 0 then some (.confirm c sub) else none)
  else if op = 0x4A then
    if sub.toNat % 2 = 1 then none
    else match fn with
      | 0x001 => some (.sysRegRead c sub a b)
      | 0x002 => some (.sysRegWrite c sub a b)
      | 0x010 => some (.trcMark c sub a b)
      | 0x011 => some (.sysCntRead c sub a b)
      | 0x020 => some (.imgState c sub a b)
      | 0x030 => some (.axCtrl c sub a b)
      | 0x040 => some (.instRestart c sub a b)
      | fn => some (.sysNoService c sub a b (BitVec.ofNat 10 fn))
  else none

/-- The instruction a code word stands for on a core, `none` for an undefined encoding (R98).  `stall` is the cost operand
of a signal read, which no bit of the word carries. -/
def decode (c : CoreId) (stall : Nat) (w : Word) : Option Instr :=
  let op := fld w 25 7
  let d : Reg := BitVec.ofNat 5 (fld w 20 5)
  let a : Reg := BitVec.ofNat 5 (fld w 15 5)
  let b : Reg := BitVec.ofNat 5 (fld w 10 5)
  let fn := fld w 0 10
  let imm : BitVec 15 := BitVec.ofNat 15 (fld w 0 15)
  if op = 0x01 then decodeAlu c d a b fn
  else if op = 0x02 then decodeSat c d a b fn
  else if op = 0x03 ∨ op = 0x04 then decodeCtl c op d a b fn
  else if op = 0x10 then some (.ldu c d (BitVec.ofNat 20 (fld w 0 20)))
  else if 0x08 ≤ op ∧ op ≤ 0x20 then decodeImm c op d a imm
  else if 0x28 ≤ op ∧ op ≤ 0x2B then decodeSig c op d (.abs (BitVec.ofNat 20 (fld w 0 20))) stall
  else if 0x2C ≤ op ∧ op ≤ 0x2F then
    if fld w 13 2 = 3 then none
    else decodeSig c (op - 4) d (.rel a (BitVec.ofNat 2 (fld w 13 2)) (BitVec.ofNat 13 (fld w 0 13))) stall
  else if op = 0x30 ∨ op = 0x31 then
    let cond : BitVec 4 := BitVec.ofNat 4 (fld w 21 4)
    let off : BitVec 21 := BitVec.ofNat 21 (fld w 0 21)
    if cond = 8 then none else if op = 0x30 then some (.b c cond off) else some (.bl c cond off)
  else if 0x40 ≤ op ∧ op ≤ 0x46 then decodeMotion c op d a b fn
  else decodeService c op d a b fn

end Sys2Proof
end

