-- ==== Sys2Proof/Machine/Hash.lean ====
section
/-! DEFINITION. The two hashes that the spec names, SHA-256 (R245, R366) and SHA-512 (in the Ed25519 of R373), as one function of
the word width, and HMAC-SHA-256.  The spec gives no arithmetic for them; it is that of the public standard, PRESUMED.  The tables
of constants are computed: they are the fractions of roots of the first primes. -/

namespace Sys2Proof.Machine

/-- The first `n` primes, by trial division with those found so far. -/
def firstPrimes (n : Nat) : List Nat :=
  (List.range 512).foldl (fun found k =>
    if found.length < n && 1 < k && found.all (fun p => k % p != 0) then found ++ [k] else found) []

/-- The integer `k`-th root of a number, bit by bit from bit `bits − 1` down. -/
def floorRoot (k n : Nat) : (bits : Nat) → Nat → Nat
  | 0, r => r
  | i + 1, r => floorRoot k n i (if (r + 2 ^ i) ^ k ≤ n then r + 2 ^ i else r)

/-- The first `w` bits after the binary point of the `k`-th root of a prime. -/
def rootFraction (w k p : Nat) : BitVec w := BitVec.ofNat w (floorRoot k (p * 2 ^ (k * w)) (w + 5) 0)

/-- A member of the family: word width, rounds, and the three distances of each of its four mixing functions. -/
structure Sha where
  w : Nat
  rounds : Nat
  sumA : List Nat
  sumE : List Nat
  near : List Nat
  far : List Nat
deriving DecidableEq, Repr

/-- SHA-256. -/
def Sha.s256 : Sha :=
  { w := 32, rounds := 64, sumA := [2, 13, 22], sumE := [6, 11, 25], near := [7, 18, 3], far := [17, 19, 10] }

/-- SHA-512. -/
def Sha.s512 : Sha :=
  { w := 64, rounds := 80, sumA := [28, 34, 39], sumE := [14, 18, 41], near := [1, 8, 7], far := [19, 61, 6] }

/-- One round constant a round: fractions of cube roots. -/
def Sha.constants (h : Sha) : List (BitVec h.w) := (firstPrimes h.rounds).map (rootFraction h.w 3)

/-- The eight words a hash begins with: fractions of square roots. -/
def Sha.initial (h : Sha) : List (BitVec h.w) := (firstPrimes 8).map (rootFraction h.w 2)

/-- Three rotations of a word, added without carries. -/
def rotations {w : Nat} (x : BitVec w) (by_ : List Nat) : BitVec w := by_.foldl (fun s n => s ^^^ x.rotateRight n) 0

/-- Two rotations and a shift of a word, added without carries. -/
def shifted {w : Nat} (x : BitVec w) (by_ : List Nat) : BitVec w := rotations x (by_.take 2) ^^^ (x >>> by_.getD 2 0)

/-- The word that follows a window of sixteen in the message schedule. -/
def Sha.nextWord (h : Sha) (window : List (BitVec h.w)) : BitVec h.w :=
  let at_ (i : Nat) : BitVec h.w := window.getD i 0
  shifted (at_ 14) h.far + at_ 9 + shifted (at_ 1) h.near + at_ 0

/-- One round on the eight working words; the round takes its constant and the first word of the window. -/
def Sha.mix (h : Sha) (v : List (BitVec h.w)) (constant word : BitVec h.w) : List (BitVec h.w) :=
  let at_ (i : Nat) : BitVec h.w := v.getD i 0
  let choice := at_ 6 ^^^ (at_ 4 &&& (at_ 5 ^^^ at_ 6))
  let most := (at_ 0 &&& at_ 1) ||| (at_ 2 &&& (at_ 0 ||| at_ 1))
  let t := constant + word + at_ 7 + choice + rotations (at_ 4) h.sumE
  [t + most + rotations (at_ 0) h.sumA, at_ 0, at_ 1, at_ 2, at_ 3 + t, at_ 4, at_ 5, at_ 6]

/-- The rounds of a block: the working words, and a window of sixteen words that slides along the schedule. -/
def Sha.rounds' (h : Sha) (v window : List (BitVec h.w)) : List (BitVec h.w) :=
  (h.constants.foldl (fun (s : List (BitVec h.w) × List (BitVec h.w)) k =>
    (h.mix s.1 k (s.2.getD 0 0), s.2.drop 1 ++ [h.nextWord s.2])) (v, window)).1

/-- The bytes of a word. -/
def Sha.wordBytes (h : Sha) : Nat := h.w / 8

/-- Take one block of sixteen words into the hash. -/
def Sha.block (h : Sha) (v : List (BitVec h.w)) (b : List Byte) : List (BitVec h.w) :=
  let words := (List.range 16).map fun i => BitVec.ofNat h.w (leNat (slice b (h.wordBytes * i) h.wordBytes).reverse)
  List.zipWith (· + ·) v (h.rounds' v words)

/-- A message with its padding: a one bit, zeros, and its length in bits in the last two words. -/
def Sha.pad (h : Sha) (m : List Byte) : List Byte :=
  let size := 16 * h.wordBytes
  let used := m.length + 1 + 2 * h.wordBytes
  m ++ 0x80 :: List.replicate ((size - used % size) % size) 0 ++ beBytes (2 * h.wordBytes) (8 * m.length)

/-- The hash of a byte string. -/
def Sha.hash (h : Sha) (m : List Byte) : List Byte :=
  let p := h.pad m
  let size := 16 * h.wordBytes
  let v := (List.range (p.length / size)).foldl (fun v i => h.block v (slice p (size * i) size)) h.initial
  v.flatMap fun x => beBytes h.wordBytes x.toNat

/-- SHA-256 of a byte string. PRESUMED: notes/assumptions/47.md. -/
def sha256 (m : List Byte) : List Byte := Sha.s256.hash m

/-- SHA-512 of a byte string. PRESUMED: notes/assumptions/47.md. -/
def sha512 (m : List Byte) : List Byte := Sha.s512.hash m

/-- HMAC-SHA-256 with a key of at most 64 bytes. -/
def hmac (key m : List Byte) : List Byte :=
  let masked (x : Byte) : List Byte := (key ++ List.replicate (64 - key.length) 0).map (· ^^^ x)
  sha256 (masked 0x5C ++ sha256 (masked 0x36 ++ m))

end Sys2Proof.Machine
end

