-- ==== Sys2Proof/Machine/Observe.lean ====
section
/-! DEFINITION. Observation (R389–R393): trace packets and event counters.  Neither changes anything a program can see. -/

namespace Sys2Proof.Machine

/-- A count of one event counter, which wraps and then sets CNTWRAP (R393). -/
def Dev.bumpCounter (d : Dev) (i n : Nat) : Dev :=
  let v := (smGet 0 d.trace.counters i).toNat + n
  let d := { d with trace := { d.trace with counters := smSet 0 d.trace.counters i (wordOfNat v) } }
  if v ≥ 2 ^ 32 then d.orReg Adr.trcFlags 2 else d

/-- The events of R393 that name no unit. -/
def eventUnitless (ev : Nat) : Bool := [1, 8, 12, 13, 15].contains ev

/-- Event `ev` of R393 happened `n` times in `unit`: every counter that selects it advances. -/
def Dev.countEvent (d : Dev) (ev unit n : Nat) : Dev :=
  d.regs.foldl (fun s r =>
    if 0x260100 ≤ r.1 && r.1 < 0x260500 && fld r.2 0 5 == ev && (eventUnitless ev || fld r.2 8 5 == unit)
    then s.bumpCounter ((r.1 - 0x260100) / 4) n else s) d

/-- The 64-byte bursts that bytes at a DRAM address touch (R420). -/
def bursts (a n : Nat) : Nat := if n = 0 then 0 else (a % 64 + n + 63) / 64

/-- DRAM operations that move bytes at an address, one for each burst of 64 (R393, R420). DEDUCED: notes/assumptions/60.md. -/
def Dev.dramBytes (d : Dev) (a n : Nat) : Dev := d.countEvent 8 0 (bursts a n)

/-- Put a packet into the trace unit's FIFO; a packet that does not fit is dropped and counted (R390).
DEDUCED: notes/assumptions/60.md. -/
def Dev.packet (d : Dev) (bytes : List Byte) : Dev :=
  let cfg := d.reg Adr.trcCfg
  if !bit cfg 0 || !(bit cfg 1 || bit cfg 2) || d.sys.power == .roast then d
  else if d.trace.fifo.length + bytes.length > 4096 then
    let d := { d with trace := { d.trace with dropped := d.trace.dropped + 1 } }
    (d.incReg Adr.trcDrop).orReg Adr.trcFlags 1
  else { d with trace := { d.trace with fifo := d.trace.fifo ++ bytes } }

/-- One byte into the trace buffer, a ring of 128 MiB (R392). -/
def Dev.traceByte (d : Dev) (b : Byte) : Dev :=
  let t := d.trace
  let d := { d with trace := { t with buffer := memWrite t.buffer t.wrpos b, wrpos := (t.wrpos + 1) % 2 ^ 27 } }
  if t.wrpos + 1 = 2 ^ 27 then d.incReg Adr.trcWraps else d

/-- The FIFO empties to the port and, unless frozen, into the buffer; an OVF packet follows dropped packets (R390, R391).
DEDUCED: notes/assumptions/60.md. -/
def Dev.drainTrace (d : Dev) : Dev :=
  let bytes := d.trace.fifo
  let dropped := d.trace.dropped
  let cfg := d.reg Adr.trcCfg
  let d := { d with trace := { d.trace with fifo := [], dropped := 0, port := if bit cfg 1 then bytes else [] } }
  let bursts := (d.trace.wrpos % 64 + bytes.length) / 64
  let d := if bit cfg 2 && !d.trace.frozen then (bytes.foldl Dev.traceByte d).countEvent 8 0 bursts else d
  if dropped > 0 then d.packet ([0x08, 0x13] ++ leBytes 2 (satNat 0xFFFF dropped)) else d

/-- The writer tag of a core (R21). -/
def coreTag (c : Nat) : Nat := c

/-- Whether the program flow of a core is traced (R390). -/
def Dev.flowTraced (d : Dev) (c : Nat) : Bool :=
  let cfg := d.reg Adr.trcCfg
  bit cfg 0 && bit cfg 3 && fld cfg 8 5 == c

/-- Send the branch outcomes gathered so far as a BRMAP packet (R391). -/
def Dev.flushBranches (d : Dev) (c : Nat) : Dev :=
  if d.trace.brCount = 0 then d
  else
    let d' := d.packet [0x03, BitVec.ofNat 8 (coreTag c), BitVec.ofNat 8 d.trace.brCount, d.trace.brBits]
    { d' with trace := { d'.trace with brCount := 0, brBits := 0 } }

/-- A program-flow packet of a core: DISPATCH, TARGET or TASKEV, after the branch outcomes before it. -/
def Dev.flowPacket (d : Dev) (c : Nat) (ptype : Byte) (payload : List Byte) : Dev :=
  if d.flowTraced c then (d.flushBranches c).packet ([ptype, BitVec.ofNat 8 (coreTag c)] ++ payload) else d

/-- The outcome of a conditional branch, gathered into BRMAP packets of up to eight (R391). -/
def Dev.traceBranch (d : Dev) (c : Nat) (taken : Bool) : Dev :=
  if !d.flowTraced c then d
  else
    let t := d.trace
    let d := { d with trace := { t with
      brBits := t.brBits ||| BitVec.ofNat 8 (b2n taken * 2 ^ t.brCount), brCount := t.brCount + 1 } }
    if t.brCount + 1 ≥ 8 then d.flushBranches c else d

/-- The TASKEV packet of an event of a task: 0 END, 1 WAIT, 2 YIELD, 3 preempted, 4 fault (R391). -/
def Dev.traceTask (d : Dev) (c t ev code : Nat) : Dev :=
  d.flowPacket c 0x05 (leBytes 1 t ++ leBytes 1 ev ++ leBytes 2 code)

/-- The SYNC packet of a frame boundary (R390). -/
def Dev.traceSync (d : Dev) : Dev := d.packet ([0x01, 0x13] ++ leBytes 4 d.sys.frame.toNat)

/-- The SWR packet of a signal write inside the filter TRC_SWLO to TRC_SWHI (R390). -/
def Dev.traceWrite (d : Dev) (sig tag : Nat) (value : Word) (q : BitVec 8) : Dev :=
  let cfg := d.reg Adr.trcCfg
  if bit cfg 0 && bit cfg 16 && (d.reg Adr.trcSwlo).toNat ≤ sig && sig ≤ (d.reg Adr.trcSwhi).toNat then
    d.packet ([0x06, BitVec.ofNat 8 tag] ++ leBytes 3 sig ++ leBytes 4 value.toNat ++ [q])
  else d

/-- The MARK packet of TRC.MARK (R95, R390). -/
def Dev.traceMark (d : Dev) (c : Nat) (marker : Word) : Dev :=
  d.packet ([0x07, BitVec.ofNat 8 (coreTag c)] ++ leBytes 4 marker.toNat)

/-! ### The commands of TRC_CMD (R392, R393, R396) -/

/-- TRC_CMD: each bit written as 1 triggers its action. -/
def Dev.trcCommand (d : Dev) (value : Word) : Dev :=
  let d := if bit value 0 then { d with trace := { d.trace with frozen := true } } else d
  let d := if bit value 1 then { d with trace := { d.trace with frozen := false } } else d
  if bit value 2 then { d with trace := { d.trace with counters := [] } } else d

/-- TRC_CMD.FREEZE: buffer writing stops until RESUME. -/
def execTrcCmdFreeze (value : Word) (s : State) : Host.Outcome State Fault Refusal :=
  if bit value 0 then .next { s with dev := s.dev.trcCommand value } else .next s

/-- TRC_CMD.RESUME: buffer writing resumes. -/
def execTrcCmdResume (value : Word) (s : State) : Host.Outcome State Fault Refusal :=
  if bit value 1 then .next { s with dev := s.dev.trcCommand value } else .next s

/-- TRC_CMD.CNTCLR: every counter becomes 0. -/
def execTrcCmdCntclr (value : Word) (s : State) : Host.Outcome State Fault Refusal :=
  if bit value 2 then .next { s with dev := s.dev.trcCommand value } else .next s

end Sys2Proof.Machine
end

