-- ==== Sys2Proof/Machine/Recorder.lean ====
section
/-! DEFINITION. The event recorder (chapter 13): the pending queue with its divisions and repeat counting, the commit of
records and lifetime blocks, anchors, the clear key and the clear. -/

namespace Sys2Proof.Machine

/-- The LENGTH of a record: header, padded payload and CRC (R353). -/
def Record.length (r : Record) : Nat := 28 + (pad4 r.payload).length

/-- The bytes a record occupies: LENGTH and the repeat word (R353). -/
def Record.size (r : Record) : Nat := r.length + 4

/-- The stored bytes of a record that no error struck (R353), the repeat word as last written. -/
def Record.written (r : Record) : List Byte :=
  let body := leBytes 2 0x5A7C ++ leBytes 2 r.length ++ leBytes 1 r.rtype ++ leBytes 1 r.flags ++ leBytes 2 r.code
    ++ leBytes 4 r.seq.toNat ++ leBytes 6 r.time ++ leBytes 4 r.pcyc.toNat ++ leBytes 2 r.subj ++ pad4 r.payload
  let rep := r.repStored % 2 ^ 16
  body ++ leBytes 4 (crc32c body).toNat ++ (match r.cutWord with
    | some w => leBytes 4 w.toNat
    | none => leBytes 2 rep ++ leBytes 2 (0xFFFF - rep))

/-- The stored bytes of a record: after an uncorrectable error they are any bytes (R365). DESIGN CHOICE: notes/assumptions/59.md. -/
def Record.bytes (r : Record) : List Byte :=
  match r.spoilt with
  | none => r.written
  | some k => (List.range r.size).map (Config.spoiltByte k)

/-- The end of a record's window: its repeat word is written once more where REPEAT moved (R358). -/
def Record.endWindow (r : Record) : Record :=
  { r with repStored := r.rep, windowEnded := true, cutWord := if r.rep = r.repStored then r.cutWord else none }

/-- Bytes in the Seed area. -/
def Recorder.seedUsed (r : Recorder) : Nat := r.seed.foldl (fun n x => n + x.size) 0

/-- REC_USED: bytes held in the Chaff ring. -/
def Recorder.used (r : Recorder) : Nat := r.chaff.foldl (fun n x => n + x.size) 0

/-- REC_OLDSEQ: the oldest record held in the Chaff ring, REC_NEXTSEQ when it is empty. -/
def Recorder.oldest (r : Recorder) : Word :=
  match r.chaff with
  | [] => r.nextSeq
  | x :: _ => x.seq

/-- The newest record held in the Chaff ring, the one before REC_NEXTSEQ when it is empty. -/
def Recorder.newest (r : Recorder) : Word :=
  match r.chaff.getLast? with
  | none => r.nextSeq - 1
  | some x => x.seq

/-- Entries pending in one division of the queue: 0 overflow, 1 reserved, 2 general (R359). -/
def Recorder.inPool (r : Recorder) (pool : Nat) : Nat := (r.pendq.filter fun p => p.pool == pool).length

/-- The REC.PUT entries of one core (R91). -/
def Recorder.share (r : Recorder) (core : Nat) : Nat := (r.pendq.filter fun p => p.core == some core).length

/-- Whether an occurrence is identical to an earlier record (R358). -/
def Record.repeats (earlier occ : Record) : Bool :=
  earlier.rtype == occ.rtype && earlier.code == occ.code && earlier.subj == occ.subj
    && (occ.rtype < 0x80 || earlier.payload == occ.payload)
    && earlier.flags % 2 == 1 && earlier.pcyc == occ.pcyc && occ.time < earlier.time + 1000 && !earlier.windowEnded

/-- Count one more occurrence in the last record of a list that it repeats; `none` where no record has an open window. -/
def repeatIn (occ : Record) : List Record → Option (List Record × Bool)
  | [] => none
  | r :: rs =>
    match repeatIn occ rs with
    | some (rs', sat) => some (r :: rs', sat)
    | none =>
      if r.repeats occ then
        some ({ r with rep := satNat 65535 (r.rep + 1) } :: rs, r.rep ≥ 65535)
      else none

/-- The same over the pending queue. -/
def repeatPending (occ : Record) (q : List Pend) : Option (List Pend × Bool) :=
  match repeatIn occ (q.map (·.record)) with
  | some (rs, sat) => some ((q.zip rs).map fun p => { p.1 with record := p.2 }, sat)
  | none => none

/-- Advance REC_REPSAT when REPEAT was saturated already. -/
def Recorder.repSatIf (r : Recorder) (sat : Bool) : Recorder :=
  if sat then { r with repSat := satInc r.repSat } else r

/-- Count an identical occurrence, in the queue or in the MRAM (R358). -/
def Recorder.countRepeat (r : Recorder) (occ : Record) : Option Recorder :=
  match repeatPending occ r.pendq with
  | some (q, sat) => some ({ r with pendq := q }.repSatIf sat)
  | none =>
    match repeatIn occ r.chaff with
    | some (c, sat) => some ({ r with chaff := c }.repSatIf sat)
    | none =>
      match repeatIn occ r.seed with
      | some (c, sat) => some ({ r with seed := c }.repSatIf sat)
      | none => none

/-- The payload of an overflow record (R360). -/
def overflowPayload (n t1 t2 dev put : Nat) (lost : Word) : List Byte :=
  leBytes 4 n ++ leBytes 6 t1 ++ leBytes 6 t2 ++ leBytes 2 (satNat 0xFFFF dev) ++ leBytes 2 (satNat 0xFFFF put)
    ++ leBytes 4 lost.toNat

/-- A lost event: REC_LOST advances and the overflow record opens or is updated in place (R360). -/
def Dev.lostEvent (d : Dev) (fromPut : Bool) : Dev :=
  let r := d.recorder
  let lost := satInc r.lost
  let now := d.now
  let upd (p : Pend) : Pend :=
    let b := p.record.payload
    let payload := overflowPayload (leAt b 0 4 + 1) (leAt b 4 6) now (leAt b 16 2 + b2n (!fromPut))
      (leAt b 18 2 + b2n fromPut) lost
    if p.pool = 0 then { p with record := { p.record with payload := payload } } else p
  let q := if r.inPool 0 > 0 then r.pendq.map upd
    else r.pendq ++ [{ record := { rtype := 0x02, flags := 2 * b2n (d.pair.role == .standby), code := 0x6004, time := now,
                                   pcyc := d.sys.pwrCyc, subj := 0xFFFF,
                                   payload := overflowPayload 1 now now (b2n (!fromPut)) (b2n fromPut) lost },
                       pool := 0 }]
  ({ d with recorder := { r with pendq := q, lost := lost, qpeak := max r.qpeak q.length } }).orReg Adr.recFlags 1

/-- The division an entry is put into: a general one, else a reserved one for codes 0x30xx and 0x80xx (R359). -/
def Recorder.poolFor (r : Recorder) (code : Nat) : Option Nat :=
  if r.inPool 2 < 991 then some 2
  else if (code / 256 == 0x30 || code / 256 == 0x80) && r.inPool 1 < 32 then some 1
  else none

/-- Put a record into a free entry at the queue's tail. -/
def Recorder.enter (r : Recorder) (x : Record) (pool : Nat) (core : Option Nat) : Recorder :=
  let q := r.pendq ++ [{ record := x, pool := pool, core := core }]
  { r with pendq := q, qpeak := max r.qpeak q.length }

/-- The remainder of a record beyond its entry of 160 bytes moves to or from the staging area (R359, R420).
DEDUCED: notes/assumptions/60.md. -/
def Dev.stage (d : Dev) (x : Record) : Dev := if x.size ≤ 160 then d else d.dramBytes 0 (x.size - 160)

/-- A record of the device: it repeats an open window, enters the queue with its stamps, or is lost (R356, R358, R359). -/
def Dev.putRecord (d : Dev) (rtype code subj : Nat) (rep : Bool) (payload : List Byte) : Dev :=
  let x : Record := { rtype := rtype, flags := b2n rep + 2 * b2n (d.pair.role == .standby), code := code, time := d.now,
                      pcyc := d.sys.pwrCyc, subj := subj, payload := payload }
  match (if rep then d.recorder.countRepeat x else none) with
  | some r => { d with recorder := r }
  | none =>
    match d.recorder.poolFor code with
    | some pool => ({ d with recorder := d.recorder.enter x pool none } : Dev).stage x
    | none => d.lostEvent false

/-- An event record (type 0x01) without repeat counting. -/
def Dev.event (d : Dev) (code subj : Nat) (payload : List Byte := []) : Dev := d.putRecord 0x01 code subj false payload

/-- An event record with repeat counting (R358). -/
def Dev.eventRep (d : Dev) (code subj : Nat) (payload : List Byte := []) : Dev := d.putRecord 0x01 code subj true payload

/-- REC.PUT's user record: queued, or refused with 0x6001 or 0x6003 and counted as a lost event (R89–R91).
DEDUCED: notes/assumptions/58.md. -/
def Dev.putUser (d : Dev) (core rtype subj : Nat) (payload : List Byte) : Dev × Nat :=
  let x : Record := { rtype := rtype, flags := 1 + 2 * b2n (d.pair.role == .standby), code := 0, time := d.now,
                      pcyc := d.sys.pwrCyc, subj := subj, payload := payload }
  match d.recorder.countRepeat x with
  | some r => ({ d with recorder := r }, 0)
  | none =>
    if d.recorder.inPool 2 ≥ 991 then (d.lostEvent true, 0x6001)
    else if d.recorder.share core ≥ (if core = 16 then 64 else 32) then (d.lostEvent true, 0x6003)
    else (({ d with recorder := d.recorder.enter x 2 (some core) } : Dev).stage x, 0)

/-! ### Commit (R351, R352, R361, R362, R423) -/

/-- The size of the Chaff ring (R350). -/
def ringSize : Nat := 234881024

/-- The size of the Seed area (R350). -/
def seedSize : Nat := 16777216

/-- Make room in the Chaff ring for a record: at a wrap the wrap word 0x0000_A5A5 stands at the write position and every record between
it and the ring's end leaves, then every record that would be overwritten, and the wrap word with them (R352). -/
def Recorder.makeRoom (r : Recorder) (x : Record) : Recorder :=
  let wraps := r.wpos + x.size > ringSize
  let held := if wraps then r.chaff.filter (fun y => y.offset < r.wpos) else r.chaff
  let at' := if wraps then 0 else r.wpos
  let word := if wraps then (if r.wpos < ringSize then some r.wpos else none) else r.wrapAt
  { r with chaff := held.filter (fun y => !(y.offset < at' + x.size && y.offset + y.size > at')), wpos := at',
           wrapAt := word.filter fun w => !(w < at' + x.size && w + 4 > at') }

/-- Place a record in the Chaff ring. -/
def Recorder.intoRing (r : Recorder) (x : Record) : Recorder :=
  let r := r.makeRoom x
  { r with chaff := r.chaff ++ [{ x with offset := r.wpos }], wpos := r.wpos + x.size }

/-- The next record goes into the Seed area (R351). -/
def Recorder.seedTakes (r : Recorder) (x : Record) : Bool :=
  r.seedOpen && r.seedUsed + x.size ≤ seedSize && r.seed.length < 131072

/-- Store a record with its sequence number: in the Seed area while that is open and has room, else in the ring. -/
def Recorder.store (r : Recorder) (x : Record) : Recorder :=
  let x := { x with seq := r.nextSeq, repStored := x.rep }
  let r := { r with nextSeq := r.nextSeq + 1 }
  if r.seedTakes x then
    { r with seed := r.seed ++ [{ x with offset := r.seedUsed }], seedOpen := decide (r.seed.length + 1 < 131072) }
  else { r with seedOpen := false }.intoRing x

/-- A checkpoint of the recorder as it stands (R362). -/
def Recorder.snapshot (r : Recorder) (wroteAt : Option Nat) : Checkpoint :=
  { ok := true, wroteAt := wroteAt, seedPos := r.seedUsed, wpos := r.wpos, oldest := r.oldest, nextSeq := r.nextSeq, lost := r.lost,
    seedOpen := r.seedOpen }

/-- Write a checkpoint into the next of the 64 slots (R362). -/
def Recorder.writeCheckpoint (r : Recorder) (wroteAt : Option Nat) : Recorder :=
  let i := (r.cpAt + 1) % 64
  { r with cpAt := i, slots := smPut r.slots i (r.snapshot wroteAt), sinceCp := 0, bytesCp := 0 }

/-- Write a checkpoint every 1,024 records or 1 MiB committed (R362). -/
def Recorder.checkpointDue (r : Recorder) (size now : Nat) : Recorder :=
  let n := r.sinceCp + 1
  let b := r.bytesCp + size
  if n ≥ 1024 || b ≥ 2 ^ 20 then r.writeCheckpoint (some now) else { r with sinceCp := n, bytesCp := b }

/-- The newest valid checkpoint: the slots are written in turn, so it is the first valid one back from the last (R363). -/
def Recorder.checkpoint (r : Recorder) : Checkpoint :=
  (((List.range 64).map fun i => smGet {} r.slots ((r.cpAt + 64 - i) % 64)).find? (·.ok)).getD {}

/-- The recorder engine runs: the module is in IDLE, RUN or ROAST, out of reset, with the start-up scan done. -/
def Dev.recorderRuns (d : Dev) : Bool :=
  (d.operating || d.sys.power == .roast) && d.sys.reset.isNone && !d.recorder.scan

/-- Commit the next pending record (R361). DESIGN CHOICE: notes/assumptions/59.md. -/
def Dev.commitRecord (d : Dev) : Dev :=
  match d.recorder.pendq with
  | [] => d
  | p :: q =>
    let r := { d.recorder with pendq := q, lifeTurn := !d.recorder.lifeQueue.isEmpty }
    (({ d with recorder := (r.store p.record).checkpointDue p.record.size d.now } : Dev).stage p.record).countEvent 12 0 1

/-- RECORD_COMMIT: the engine commits the entry at the head of the queue, unless it is a lifetime block's turn: while both wait they
alternate, beginning with a record (R423). -/
def execRecordCommit (s : State) : Host.Outcome State Fault Refusal :=
  let d := s.dev
  if d.recorderRuns && !d.recorder.pendq.isEmpty && (!d.recorder.lifeTurn || d.recorder.lifeQueue.isEmpty) then
    .next { s with dev := d.commitRecord }
  else .next s

/-- Request a lifetime commit of an axis; a second request merges into one that waits (R423). -/
def Dev.requestLifetime (d : Dev) (axis : Nat) : Dev :=
  let r := d.recorder
  if r.lifeQueue.contains axis then d else { d with recorder := { r with lifeQueue := r.lifeQueue ++ [axis] } }

/-- Commit an axis's lifetime block: the copy not in force takes the live counters with the next generation (R368). -/
def Dev.commitLifetime (d : Dev) (axis : Nat) : Dev :=
  let a := d.axis axis
  let live := { a.live with generation := a.stored.generation + 1, opTime := d.sys.opTime, copy := 1 - a.stored.copy, spoilt := none }
  d.setAxis axis { a with live := live, stored := live, older := some a.stored }

/-- LIFETIME_BLOCK_COMMIT: alternates with records one for one (R423). -/
def execLifetimeBlockCommit (s : State) : Host.Outcome State Fault Refusal :=
  let d := s.dev
  match d.recorder.lifeQueue with
  | [] => .next s
  | a :: rest =>
    if d.recorderRuns && (d.recorder.lifeTurn || d.recorder.pendq.isEmpty) then
      let d := { d with recorder := { d.recorder with lifeQueue := rest, lifeTurn := false } }
      .next { s with dev := (d.commitLifetime a).countEvent 12 0 1 }
    else .next s

/-! ### Repeat words (R358) -/

/-- Whether a stored record's repeat word is to be rewritten: REPEAT moved, its window is open, and 10 ms have passed since
it was last written. -/
def Record.rewriteDue (r : Record) (now : Nat) : Bool :=
  r.rep != r.repStored && !r.windowEnded && (match r.rewrittenAt with
    | some t => t + 10 ≤ now
    | none => true)

/-- Rewrite the first repeat word of a list that is due; `none` where none is. -/
def rewriteIn (now : Nat) : List Record → Option (List Record)
  | [] => none
  | r :: rs =>
    if r.rewriteDue now then some ({ r with repStored := r.rep, rewrittenAt := some now, cutWord := none } :: rs)
    else (rewriteIn now rs).map (r :: ·)

/-- REPEAT_WORD_REWRITE: one repeat word takes the count so far. -/
def execRepeatWordRewrite (s : State) : Host.Outcome State Fault Refusal :=
  let r := s.dev.recorder
  if !s.dev.recorderRuns then .next s
  else match rewriteIn s.dev.now r.chaff with
    | some c => .next { s with dev := { s.dev with recorder := { r with chaff := c } } }
    | none =>
      match rewriteIn s.dev.now r.seed with
      | some c => .next { s with dev := { s.dev with recorder := { r with seed := c } } }
      | none => .next s

/-- Close a record's window when its time is over: the repeat word is written once more (R358). -/
def Record.closeWindow (d : Dev) (r : Record) : Record :=
  if r.flags % 2 == 1 && !r.windowEnded && (r.pcyc != d.sys.pwrCyc || r.time + 1000 ≤ d.now)
  then r.endWindow else r

/-- REPEAT_WINDOW_END: every window whose 1,000 ms are over ends. -/
def execRepeatWindowEnd (s : State) : Host.Outcome State Fault Refusal :=
  let d := s.dev
  let r := d.recorder
  .next { s with dev := { d with recorder := { r with
    chaff := r.chaff.map (·.closeWindow d), seed := r.seed.map (·.closeWindow d),
    pendq := r.pendq.map fun p => { p with record := p.record.closeWindow d } } } }

/-! ### Anchors and the clear key (R357, R366) -/

/-- Set REC_CMDSTAT and the flags given. -/
def Dev.recCmdstat (d : Dev) (code : Nat) (flags : Word) : Dev :=
  (d.setReg Adr.recCmdstat (wordOfNat code)).orReg Adr.recFlags flags

/-- REC_ANCCMD: key 0xE1 stores the wall clock as a time anchor, at most one per 1,000 ms of operating time. -/
def Dev.anchorCommand (d : Dev) (value : Word) : Dev :=
  if fld value 0 8 ≠ 0xE1 then d.recCmdstat 0x600E 0x20
  else if (match d.recorder.lastAnchor with
      | some t => decide (d.now < t + 1000)
      | none => false) then d.recCmdstat 0x600A 0x20
  else
    let d := { d with recorder := { d.recorder with lastAnchor := some d.now } }
    let payload := leBytes 4 (d.reg Adr.recAnclo).toNat ++ leBytes 4 (d.reg Adr.recAnchi).toNat
    (d.putRecord 0x03 0 0xFFFF false payload).setReg Adr.recCmdstat 0

/-- REC_ANCCMD. -/
def execRecAnccmd (value : Word) (s : State) : Host.Outcome State Fault Refusal :=
  .next { s with dev := s.dev.anchorCommand value }

/-- The clear key as the eight key words hold it. -/
def Recorder.keyBytes (r : Recorder) : List Byte := (List.range 8).flatMap fun k => leBytes 4 (smGet 0 r.keyWords k).toNat

/-- REC_KEYCMD: key 0x4B seals the clear key, once, in IDLE; a wrong key is both a 0x600E and a refused sealing (R371). -/
def Dev.keyCommand (d : Dev) (value : Word) : Dev :=
  if fld value 0 8 ≠ 0x4B then d.recCmdstat 0x600E 0x30
  else if d.sys.power != .idle || d.recorder.keySealed.isSome then d.recCmdstat 0x600D 0x10
  else { d with recorder := { d.recorder with keySealed := some d.recorder.keyBytes } }.setReg Adr.recCmdstat 0

/-- REC_KEYCMD. -/
def execRecKeycmd (value : Word) (s : State) : Host.Outcome State Fault Refusal :=
  .next { s with dev := s.dev.keyCommand value }

/-- CLEAR_LOCKOUT_END: 10 minutes of operating time after the third wrong token the lockout ends (R366). -/
def execClearLockoutEnd (s : State) : Host.Outcome State Fault Refusal :=
  let r := s.dev.recorder
  match r.lockedAt with
  | some t =>
    if t + 600000 ≤ s.dev.now then
      .next { s with dev := { s.dev with recorder := { r with lockedAt := none, tokenRefusals := 0 } } }
    else .next s
  | none => .next s

/-! ### The clear (R366, R367) -/

/-- Refuse a clear: the code goes to REC_CMDSTAT, and a wrong token is recorded, repeat-counted.
DEDUCED: notes/assumptions/58.md. -/
def Dev.refuseClear (d : Dev) (code : Nat) : Dev × Nat :=
  let d := d.recCmdstat code 0x10
  if code = 0x6005 then
    let n := d.recorder.tokenRefusals + 1
    let lock := if n ≥ 3 then some d.now else d.recorder.lockedAt
    let d := { d with recorder := { d.recorder with tokenRefusals := n, lockedAt := lock } }
    (d.eventRep 0x6005 0xFFFF, code)
  else ({ d with recorder := { d.recorder with tokenRefusals := 0 } }, code)

/-- Close every window, as a clear does (R358). -/
def Recorder.endWindows (r : Recorder) : Recorder :=
  let close (x : Record) : Record := { x with windowEnded := true }
  { r with seed := r.seed.map Record.endWindow,
           pendq := r.pendq.map (fun p => { p with record := close p.record }) }

/-- Empty the Chaff ring and update both checkpoint slots in use (R366). -/
def Recorder.emptied (r : Recorder) : Recorder :=
  let r := { r.endWindows with chaff := [], wpos := 0, wrapAt := none }
  let cp := r.snapshot none
  { r with slots := smPut (smPut r.slots r.cpAt cp) ((r.cpAt + 63) % 64) cp, sinceCp := 0, bytesCp := 0 }

/-- Empty the Chaff ring, set the log entry to complete and commit the clear record: as the first of the new ring, and while the Seed area
is open into that (R351, R366). DEDUCED: notes/assumptions/58.md. -/
def Dev.emptyRing (d : Dev) (e : ClearEntry) (token : List Byte) : Dev :=
  let r := d.recorder
  let payload := leBytes 4 e.first.toNat ++ leBytes 4 e.last.toNat ++ leBytes 8 r.used ++ leBytes 4 r.clearLog.length
    ++ slice (token ++ [0, 0, 0, 0]) 0 4
  let x : Record := { rtype := 0x04, flags := 2 * b2n (d.pair.role == .standby), code := 0x6009, time := d.now,
                      pcyc := d.sys.pwrCyc, subj := 0xFFFF, payload := payload }
  let r := { r.emptied with clearLog := r.clearLog ++ [{ e with complete := true }], clears := satInc r.clears }
  ({ d with recorder := (r.store x).checkpointDue x.size d.now }.orReg Adr.recFlags 8).countEvent 12 0 1

/-- The token of a clear request (R366). -/
def clearToken (key : List Byte) (challenge : BitVec 128) (seq : Word) : List Byte :=
  hmac key (leBytes 16 challenge.toNat ++ leBytes 4 Config.serial.toNat ++ leBytes 4 seq.toNat)

/-- REC.CLEAR: the checks of R366 in order, then the clear; the answer is its status. -/
def Dev.clearRequest (d : Dev) (challenge : BitVec 128) (token : List Byte) : Dev × Nat :=
  let out := d.recorder.challenge
  let d := { d with recorder := { d.recorder with challenge := none } }
  if d.sys.power != .idle then d.refuseClear 0x6007
  else match d.recorder.keySealed with
    | none => d.refuseClear 0x6008
    | some key =>
      if d.recorder.lockedAt.isSome then d.refuseClear 0x600B
      else match out with
        | none => d.refuseClear 0x6006
        | some (c, issued, seq) =>
          if c ≠ challenge ∨ issued + 60000 ≤ d.now then d.refuseClear 0x6006
          else if token ≠ clearToken key challenge seq then d.refuseClear 0x6005
          else if d.recorder.clearLog.length ≥ 65536 then d.refuseClear 0x600C
          else
            let r := d.recorder
            let e : ClearEntry := { complete := false, first := r.oldest, last := r.newest, time := d.now,
                                    pcyc := d.sys.pwrCyc, challenge := challenge }
            let d := { d with recorder := { r with tokenRefusals := 0 } }
            ((d.emptyRing e token).setReg Adr.recCmdstat 0, 0)

/-- REC.CHAL: a new challenge from the random source replaces an outstanding one. -/
def Dev.newChallenge (d : Dev) (random : BitVec 128) : Dev :=
  { d with recorder := { d.recorder with challenge := some (random, d.now, d.recorder.nextSeq) } }

/-! ### Loss of power and start (R363, R364) -/

/-- The word of the first repeat word of a list that is due is left half written; `none` where none is due. -/
def cutWordIn (now : Nat) (w : Word) : List Record → Option (List Record)
  | [] => none
  | r :: rs => if r.rewriteDue now then some ({ r with cutWord := some w } :: rs) else (cutWordIn now w rs).map (r :: ·)

/-- The clear's record, where it is the newest record committed and was committed in this millisecond. -/
def Recorder.clearedNow (r : Recorder) (now : Nat) : Option Record :=
  (r.seed ++ r.chaff).find? fun x => x.rtype == 0x04 && x.seq == r.nextSeq - 1 && x.time == now

/-- A clear whose record was committed in this millisecond is found begun, the ring empty and the record not yet written (R367). -/
def Recorder.uncleared (r : Recorder) (x : Record) : Recorder :=
  let seed := r.seed.filter fun y => y.seq != x.seq
  { r with chaff := [], wpos := 0, nextSeq := x.seq, unfinished := some x, seed := seed,
           seedOpen := r.seedOpen || seed.length < r.seed.length,
           clearLog := r.clearLog.dropLast ++ (r.clearLog.getLast?.toList.map fun e => { e with complete := false }) }

/-- What the engine was writing when it is cut off stays partly written: a clear, a checkpoint, the record at the head of the queue, for
which room was made, or a repeat word (R352, R362, R364, R367). DESIGN CHOICE: notes/assumptions/59.md. -/
def Recorder.cutOff (r : Recorder) (now k : Nat) : Recorder :=
  let clear := if Config.clearCut k then r.clearedNow now else none
  let cp := smGet {} r.slots r.cpAt
  match clear, Config.checkpointCut k && cp.wroteAt == some now, r.pendq, Config.recordCut k, Config.repeatCut k with
  | some x, _, _, _, _ => r.uncleared x
  | _, true, _, _, _ => { r with slots := smPut r.slots r.cpAt { cp with ok := false } }
  | _, _, p :: _, true, _ => { (if r.seedTakes p.record then r else r.makeRoom p.record) with partly := true }
  | _, _, _, _, some w =>
    match cutWordIn now w r.chaff with
    | some l => { r with chaff := l }
    | none => { r with seed := (cutWordIn now w r.seed).getD r.seed }
  | _, _, _, _, none => r

/-- The axis whose lifetime block commit the engine is making when it is cut off. -/
def Recorder.lifeCut (r : Recorder) (k : Nat) : Option Nat :=
  if (r.lifeTurn || r.pendq.isEmpty) && Config.lifeCut k then r.lifeQueue.head? else none

/-- The engine is cut off: a lifetime block commit leaves the copy not in force without a valid CRC (R364, R368), anything else what
`cutOff` says. DESIGN CHOICE: notes/assumptions/59.md. -/
def Dev.cutEngine (d : Dev) (k : Nat) : Dev :=
  match d.recorder.lifeCut k with
  | some n =>
    let a := d.axis n
    d.setAxis n { a with older := some { a.live with copy := 1 - a.stored.copy, spoilt := some k } }
  | none => { d with recorder := d.recorder.cutOff d.now k }

/-- The engine stops at a power-fail warning: the pending count and the REPEAT counts go to the metadata. -/
def Recorder.powerFail (r : Recorder) : Recorder :=
  { r with lostPending := r.lostPending + r.pendq.length, pendq := [], lifeQueue := [],
           chaff := r.chaff.map (fun x => { x with repStored := x.rep }),
           seed := r.seed.map fun x => { x with repStored := x.rep } }

/-- A brownout or an RSTN reset: the pending count is latched, REPEAT counts not yet written are lost. -/
def Recorder.resetLoss (r : Recorder) : Recorder :=
  { r with lostPending := r.lostPending + r.pendq.length, pendq := [], lifeQueue := [],
           chaff := r.chaff.map (fun x => { x with rep := x.repStored }),
           seed := r.seed.map fun x => { x with rep := x.repStored } }

/-! ### The scan (R363, R365, R368) -/

/-- Where the scan's walk stands: the write positions of the Seed area and of the ring, and the SEQ it expects next. -/
structure Walk where
  seedPos : Nat
  wpos : Nat
  seq : Word

/-- The record with SYNC, a matching CRC and an expected SEQ at a position of an area. -/
def wholeAt (l : List Record) (pos : Nat) (seq : Word) : Option Record :=
  l.find? fun x => x.offset == pos && x.seq == seq && x.spoilt.isNone

/-- The ring's position that follows one: a wrap word, or the ring's end, leads to the ring's start (R352). -/
def Recorder.follow (r : Recorder) (pos : Nat) : Nat := if r.wrapAt = some pos ∨ ringSize ≤ pos then 0 else pos

/-- Walk forward over each whole record with the expected SEQ, in the Seed area or the ring, as far as they go (R363). -/
def Recorder.walk (r : Recorder) : Nat → Walk → Walk
  | 0, w => w
  | n + 1, w =>
    match wholeAt r.seed w.seedPos w.seq, wholeAt r.chaff w.wpos w.seq, wholeAt r.chaff (r.follow w.wpos) w.seq with
    | some x, _, _ => r.walk n { w with seedPos := w.seedPos + x.size, seq := w.seq + 1 }
    | _, some x, _ => r.walk n { w with wpos := w.wpos + x.size, seq := w.seq + 1 }
    | _, _, some x => r.walk n { w with wpos := r.follow w.wpos + x.size, seq := w.seq + 1 }
    | none, none, none => w

/-- The walk of the scan, from the newest valid checkpoint. -/
def Recorder.walked (r : Recorder) : Walk :=
  let c := r.checkpoint
  r.walk (r.seed.length + r.chaff.length) { seedPos := c.seedPos, wpos := c.wpos, seq := c.nextSeq }

/-- The records the walk went over. -/
def Recorder.walkedOver (r : Recorder) : List Record :=
  let c := r.checkpoint
  (r.seed ++ r.chaff).filter fun x => decide ((x.seq - c.nextSeq).toNat < (r.walked.seq - c.nextSeq).toNat)

/-- REC_LOST as the scan finds it: the larger of the checkpoint's value and that of the last overflow record walked over (R363). -/
def Recorder.scannedLost (r : Recorder) : Word :=
  match (r.walkedOver.filter fun x => x.rtype == 0x02).getLast? with
  | none => r.checkpoint.lost
  | some x => wordOfNat (Nat.max r.checkpoint.lost.toNat (leAt x.payload 20 4))

/-- The recorder as the scan leaves it: the write position where the walk ended, no record held that the walk did not reach, and the Seed
area closed where it is full or a record walked over lies in the ring (R351, R363). -/
def Recorder.scanned (r : Recorder) : Recorder :=
  let w := r.walked
  let c := r.checkpoint
  let seed := r.seed.filter fun x => decide (x.offset < w.seedPos)
  let closed := r.walkedOver.any fun x => r.chaff.any fun y => y.seq == x.seq
  { r with lost := r.scannedLost, seed := seed, wpos := w.wpos, nextSeq := w.seq,
           chaff := r.chaff.filter fun x => decide ((r.nextSeq - w.seq).toNat < (r.nextSeq - x.seq).toNat),
           seedOpen := c.seedOpen && !closed && decide (seed.length < 131072) }

/-- Uncorrectable MRAM errors: the records they struck by this start. DESIGN CHOICE: notes/assumptions/59.md. -/
def Recorder.spoil (r : Recorder) (k : Nat) : Recorder :=
  let hit (x : Record) : Record := if Config.mramBad k x.seq then { x with spoilt := some k } else x
  { r with seed := r.seed.map hit, chaff := r.chaff.map hit }

/-- The records that an error struck, counted. -/
def Recorder.spoiltCount (r : Recorder) : Nat := ((r.seed ++ r.chaff).filter fun x => x.spoilt.isSome).length

/-- The clear found begun at a start is completed, and its record written (R367). -/
def Dev.finishClear (d : Dev) : Dev :=
  let r := d.recorder
  match r.unfinished with
  | none => d
  | some x =>
    let log := r.clearLog.dropLast ++ (r.clearLog.getLast?.toList.map fun e => { e with complete := true })
    let r := { r.emptied with unfinished := none, clearLog := log }
    ({ d with recorder := (r.store x).checkpointDue x.size d.now }.orReg Adr.recFlags 8).countEvent 12 0 1

/-- The scan at a start: it finds the records that an error struck, with 0x6012, walks to the write position, discards a partly written
record, with 0x6010, and completes a clear found begun. DESIGN CHOICE: notes/assumptions/59.md. -/
def Dev.recorderScan (d : Dev) : Dev :=
  let torn := d.recorder.partly
  let before := d.recorder.spoiltCount
  let r := { d.recorder with challenge := none, qpeak := 0, lifeTurn := false, partly := false }
  let r := if r.scan then r.spoil d.sys.free else r
  let r' := if r.scan then r.scanned else r
  let d := ({ d.nextFree.1 with recorder := r' } : Dev).finishClear
  let d := if torn then
      ({ d with recorder := { d.recorder with torn := satInc d.recorder.torn } }.event 0x6010 0xFFFF).orReg Adr.recFlags 2
    else d
  if before < r.spoiltCount then (d.event 0x6012 0xFFFF).orReg Adr.recFlags 0x40 else d

/-- A copy of a lifetime block as a start finds it. -/
def Lifetime.found (l : Lifetime) (k axis : Nat) : Lifetime :=
  if l.spoilt.isNone && Config.lifeBad k axis l.copy then { l with spoilt := some k } else l

/-- What an axis keeps in a reset: its lifetime block. -/
def Axis.inReset (a : Axis) : Axis := { live := a.stored, stored := a.stored, older := a.older }

/-- What an axis keeps through a start: its lifetime block, with the valid copy of the higher generation in force; with no valid copy the
block starts from zero (R368). DESIGN CHOICE: notes/assumptions/59.md. -/
def Axis.atStart (a : Axis) (k axis : Nat) : Axis :=
  let s := a.stored.found k axis
  let o := a.older.map (·.found k axis)
  if s.spoilt.isNone then { live := s, stored := s, older := o }
  else match o with
    | some l =>
      if l.spoilt.isNone then { live := l, stored := l, older := some s }
      else { live := { copy := s.copy }, stored := { copy := s.copy, spoilt := s.spoilt }, older := o }
    | none => { live := { copy := s.copy }, stored := { copy := s.copy, spoilt := s.spoilt }, older := o }

/-- Record 0x6013 for every axis whose lifetime block starts from zero because neither copy is valid (R368). -/
def Dev.lifetimeChecks (d : Dev) : Dev :=
  d.axes.foldl (fun d a => if a.2.stored.spoilt.isSome then (d.event 0x6013 0xFFFF).orReg Adr.recFlags 0x40 else d) d

/-- At a start the entries lost are added to REC_LOST, which is kept through OFF with them (R360), and record 0x6011 is written when
there were any. DEDUCED: notes/assumptions/58.md. -/
def Dev.recorderLosses (d : Dev) : Dev :=
  let r := d.recorder
  let n := r.lostPending
  let r := { r with lostPending := 0, lost := satAdd r.lost n }
  let d := { d with recorder := if n > 0 then r.writeCheckpoint none else r }
  if n > 0 then (d.event 0x6011 0xFFFF (leBytes 4 n)).orReg Adr.recFlags 4 else d

/-- The recorder at a start. -/
def Dev.recorderStart (d : Dev) : Dev := d.recorderScan.recorderLosses.lifetimeChecks

end Sys2Proof.Machine
end

