-- ==== Sys2Proof/Machine/ImageOps.lean ====
section
/-! DEFINITION. What the running image says (R36, R449, R20): the door types, instances and declared signals. -/

namespace Sys2Proof.Machine

/-- A placeholder door type: no code, no tasks. -/
def DoorType.none : DoorType :=
  { code := [], consts := [], tasks := [], blockSize := 0, blockInit := [], axisUser := [] }

/-- The declaration of a door, by its index in the instance table. -/
def Image.door (im : Image) (d : Nat) : Option DoorDecl := im.doors[d]?

/-- The door type of a door. -/
def Image.doorType (im : Image) (d : Nat) : DoorType :=
  match im.door d with
  | some x => im.doorTypes.getD x.dtype DoorType.none
  | Option.none => DoorType.none

/-- The axes of a door, in the order of their index within it. -/
def Image.doorAxes (im : Image) (d : Nat) : List Nat :=
  match im.door d with
  | some x => x.axes
  | Option.none => []

/-- The door of an axis: R1 gives each axis one. -/
def Image.axisDoor (im : Image) (axis : Nat) : Option Nat := im.doors.findIdx? fun x => x.axes.contains axis

/-- The index of an axis within its door (slot 10). -/
def Image.axisIndex (im : Image) (axis : Nat) : Nat :=
  match im.axisDoor axis with
  | some d => (im.doorAxes d).idxOf axis
  | Option.none => 0

/-- The first signal of the block of door `d`; for `d` the number of doors, that of the system block (R449). -/
def Image.blockBase (im : Image) (d : Nat) : Nat :=
  0x88000 + ((List.range d).map fun i => (im.doorType i).blockSize).sum

/-- The first signal of the system block. -/
def Image.sysBase (im : Image) : Nat := im.blockBase im.doors.length

/-- The value a list of initial values gives, 0 where it gives none (R37). -/
def initOf (l : List (Nat × Word)) (k : Nat) : Word :=
  match l.find? fun p => p.1 == k with
  | some p => p.2
  | Option.none => 0

/-- The instance block that holds a signal: the door and the offset. -/
def Image.inBlockOf (im : Image) (n : Nat) : Option (Nat × Nat) :=
  (List.range im.doors.length).findSome? fun d =>
    let b := im.blockBase d
    if b ≤ n && n < b + (im.doorType d).blockSize then some (d, n - b) else Option.none

/-- The declared initial value of a user signal; `none` where the image does not declare it (R20). -/
def Image.declared (im : Image) (n : Nat) : Option Word :=
  if n < 0x80000 then
    let slot := n % 1024
    if slot < 256 then Option.none
    else match im.axisDoor (n / 1024) with
      | some d =>
        match (im.doorType d).axisUser.find? fun p => p.1 == slot with
        | some p => some p.2
        | Option.none => Option.none
      | Option.none => Option.none
  else if n < 0x88000 then Option.none
  else match im.inBlockOf n with
    | some (d, k) => some (initOf (im.doorType d).blockInit k)
    | Option.none =>
      if im.sysBase ≤ n && n < im.sysBase + im.sysBlockSize then some (initOf im.sysBlockInit (n - im.sysBase))
      else match im.globals.find? fun p => p.1 == n with
        | some p => some p.2
        | Option.none => Option.none

/-- The signals of every declared user signal of one door: its block and slots 256–1023 of its axes (R37). -/
def Image.doorSignals (im : Image) (d : Nat) : List (Nat × Word) :=
  let t := im.doorType d
  ((List.range t.blockSize).map fun k => (im.blockBase d + k, initOf t.blockInit k))
    ++ (im.doorAxes d).flatMap fun a => t.axisUser.map fun p => (slotSig a p.1, p.2)

/-- Every declared user signal with its initial value. -/
def Image.allSignals (im : Image) : List (Nat × Word) :=
  ((List.range im.doors.length).flatMap im.doorSignals)
    ++ ((List.range im.sysBlockSize).map fun k => (im.sysBase + k, initOf im.sysBlockInit k)) ++ im.globals

/-- The declarations of the tasks of a door type, or of the system tasks. -/
def Image.taskDecls (im : Image) (system : Bool) (door : Nat) : List TaskDecl :=
  if system then im.sysTasks else (im.doorType door).tasks

/-- The trigger signal of a trigger, 0 for a timer (R39). -/
def TrigKind.signal : TrigKind → Nat
  | .change n => n
  | .write n => n
  | .canObject c o => 0x81000 + c * 0x1000 + o * 16
  | .mailbox m => 0x85000 + m * 16
  | .timer _ => 0

/-- Whether a signal is named by a signal trigger of some EVENT task of the image, which makes it tracked (R22). -/
def Image.isTriggerSignal (im : Image) (n : Nat) : Bool :=
  let named (t : TaskDecl) : Bool := t.triggers.any fun g =>
    match g with
    | .change m => m == n
    | .write m => m == n
    | _ => false
  im.sysTasks.any named || im.doorTypes.any fun dt => dt.tasks.any named

/-- The value of a parameter that the image gives a signal (slots 64–95 and 128–191). -/
def Image.param (im : Image) (n : Nat) : Option Word :=
  match im.params.find? fun p => p.1 == n with
  | some p => some p.2
  | Option.none => Option.none

/-! ### The running image in the module -/

/-- The declaration of a task on a core. -/
def Dev.decl (d : Dev) (c t : Nat) : Option TaskDecl :=
  match d.image with
  | some im => (im.taskDecls (c == 16) (d.task c t).door)[(d.task c t).decl]?
  | Option.none => Option.none

/-- The code a task executes (R36). -/
def Dev.codeOf (d : Dev) (c t : Nat) : List Word :=
  match d.image with
  | some im => if c = 16 then im.sysCode else (im.doorType (d.task c t).door).code
  | Option.none => []

/-- The constants a task reads with LDC.W (R71). -/
def Dev.constsOf (d : Dev) (c t : Nat) : List Word :=
  match d.image with
  | some im => if c = 16 then im.sysConsts else (im.doorType (d.task c t).door).consts
  | Option.none => []

/-- The axes of a task's door; a system task has none. -/
def Dev.axesOf (d : Dev) (c t : Nat) : List Nat :=
  match d.image with
  | some im => if c = 16 then [] else im.doorAxes (d.task c t).door
  | Option.none => []

/-- ax at the start of a release (R39, R59). -/
def Dev.axStart (d : Dev) (c t : Nat) : Word :=
  match d.axesOf c t with
  | [] => 0
  | a :: _ => wordOfNat (slotSig a 0)

/-- ib of a task: the first signal of its block. -/
def Dev.ibOf (d : Dev) (c t : Nat) : Word :=
  match d.image with
  | some im => wordOfNat (if c = 16 then im.sysBase else im.blockBase (d.task c t).door)
  | Option.none => 0

end Sys2Proof.Machine
end

