-- ==== Sys2Proof/Machine/Tasks.lean ====
section
/-! DEFINITION. Tasks and scheduling on a Falael core (R34–R59): register contexts, the choice of the next task, releases,
event triggers, and taking a task fault. -/

namespace Sys2Proof.Machine

/-! ### Register contexts (R34) -/

/-- The value of a general register; g0 reads 0. -/
def Task.g (t : Task) (r : Reg) : Word := if r = 0 then 0 else smGet 0 t.regs r.toNat

/-- Write a general register; a write to g0 is discarded. -/
def Task.setG (t : Task) (r : Reg) (v : Word) : Task := if r = 0 then t else { t with regs := smSet 0 t.regs r.toNat v }

/-- The registers at the start of a release or activation (R39). -/
def Task.fresh' (t : Task) (g1 g2 g3 ax ib : Word) (entry : Nat) : Task :=
  let t := { t with regs := [], ax := ax, ib := ib, z := false, n := false, c := false, v := false,
                    pc := wordOfNat entry, count := 0 }
  ((t.setG 1 g1).setG 2 g2).setG 3 g3

/-- The count of a release reaches SF_TASKMAX, which saturates at 0xF_FFFF (R60). -/
def Task.noteMax (t : Task) : Task := { t with max := Nat.max t.max (satNat 0xFFFFF t.count) }

/-! ### Tables of a core -/

/-- The task numbers in use on a core, ascending. -/
def Core.used (k : Core) : List (Nat × Task) := k.tasks.filter fun p => p.2.used

/-- Whether posted writes of a task are still on their way (R79). -/
def Core.posting (k : Core) (t : Nat) : Bool := k.wbuf.any fun p => p.task == t

/-- Whether an EVENT task can be taken: resumed, or idle or waiting with a queued trigger and its writes at home; not before the
round that follows its restart (R58). -/
def Core.eventReady (k : Core) (p : Nat × Task) : Bool :=
  p.2.kind == .event && !p.2.halted && !p.2.held &&
    (match p.2.st with
     | .ready => !(p.2.gate && k.posting p.1)
     | .idle => !p.2.queue.isEmpty && !k.posting p.1
     | .waitEv => !p.2.queue.isEmpty && !k.posting p.1
     | _ => false)

/-- The place of an EVENT task in the order of queueing: its own where it resumes, its first trigger's where it starts. -/
def Task.order (t : Task) : Nat :=
  match t.st, t.queue with
  | .ready, _ => t.ord
  | _, g :: _ => g.ord
  | _, [] => t.ord

/-- Whether the first of two tasks comes before the second: by priority, then by order of queueing for EVENT tasks, then by
task number (R41). -/
def before (p q : Nat × Task) : Bool :=
  if p.2.prio ≠ q.2.prio then p.2.prio < q.2.prio
  else if p.2.kind == .event && p.2.order ≠ q.2.order then p.2.order < q.2.order
  else p.1 < q.1

/-- The first of a list of tasks. -/
def firstOf : List (Nat × Task) → Option (Nat × Task)
  | [] => none
  | p :: ps =>
    match firstOf ps with
    | none => some p
    | some q => if before q p then some q else some p

/-- The COARSE task to take, if any; one whose writes are still on their way waits for them (R51). -/
def Core.pickCoarse (k : Core) : Option (Nat × Task) :=
  firstOf (k.used.filter fun p => p.2.kind == .coarse && p.2.st == .ready && !p.2.halted &&
    !(p.2.gate && k.posting p.1))

/-- The EVENT task to take, if any. -/
def Core.pickEvent (k : Core) : Option (Nat × Task) := firstOf (k.used.filter k.eventReady)

/-- The BACKGROUND task to take: the next in round-robin order from `bgNext`. -/
def Core.pickBackground (k : Core) : Option (Nat × Task) :=
  let l := k.used.filter fun p =>
    p.2.kind == .background && p.2.st == .ready && !p.2.halted && !p.2.held && !(p.2.gate && k.posting p.1)
  match l.find? fun p => k.bgNext ≤ p.1 with
  | some p => some p
  | none => l.head?

/-- The task chosen at a choice point: COARSE, then EVENT, then BACKGROUND (R41). -/
def Core.pick (k : Core) : Option (Nat × Task) :=
  match k.pickCoarse with
  | some p => some p
  | none =>
    match k.pickEvent with
    | some p => some p
    | none => k.pickBackground

/-! ### Dispatch (R43) -/

/-- Spend cycles of a frame-task round: they count in the sheaf's load and in the door's share (R44, R111). -/
def Dev.roundCycles (d : Dev) (c : Nat) (door : Option Nat) (n : Nat) : Dev :=
  let k := d.core c
  let d := d.setCore c { k with tickCycles := k.tickCycles + n }
  match door with
  | none => d
  | some x =>
    match d.placer.doors.find? fun p => p.1 == x with
    | some p => { d with placer := { d.placer with doors := smPut d.placer.doors x { p.2 with cycles := p.2.cycles + n } } }
    | none => d

/-- Put a task on its core.  `starts` is the start of a release or activation, which costs the 16 cycles of dispatch and counts as one
(R43, R393); a BACKGROUND task begins a full turn. DESIGN CHOICE: notes/assumptions/71.md. -/
def Dev.run (d : Dev) (c t : Nat) (x : Task) (starts : Bool) : Dev :=
  let d := d.setTask c t { x with st := .running, gate := false, fresh := false }
  let k := d.core c
  let d := d.setCore c { k with cur := some t, turn := 0 }
  let d := if starts then d.countEvent 3 c 1 else d
  let d := d.flowPacket c 0x02 (leBytes 1 t ++ leBytes 4 x.pc.toNat)
  if starts && x.kind == .frame then d.roundCycles c (some x.door) 16 else d

/-- An EVENT task takes its first queued trigger: a new activation from END, or the continuation of one that waits, with
g1–g3 rewritten (R39, R40). -/
def Dev.activate (d : Dev) (c t : Nat) (x : Task) : Dev :=
  match x.queue with
  | [] => d
  | g :: rest =>
    let x' := if x.st == .waitEv then
        { (((x.setG 1 (wordOfNat g.idx)).setG 2 g.frame).setG 3 g.sig) with count := 0 }
      else
        let e := match d.decl c t with
          | some y => y.entry
          | none => 0
        x.fresh' (wordOfNat g.idx) g.frame g.sig (d.axStart c t) (d.ibOf c t) e
    d.run c t { x' with queue := rest, ord := g.ord, rels := satInc x.rels } true

/-- Dispatch or resume a task that was chosen. -/
def Dev.take (d : Dev) (c t : Nat) (x : Task) : Dev :=
  if x.kind == .event && x.st != .ready then d.activate c t x else d.run c t x x.fresh

/-- The end of a round: the tasks that WAIT.F suspended until it are ready (R40). -/
def Dev.endRound (d : Dev) (c : Nat) : Dev :=
  let k := d.core c
  d.setCore c { k with round := none }

/-- The next FRAME task of the round in progress that is still released. -/
def nextInRound (k : Core) : List Nat → Option (Nat × List Nat)
  | [] => none
  | t :: ts => if (smGet {} k.tasks t).st == .ready && !(smGet {} k.tasks t).halted then some (t, ts) else nextInRound k ts

/-- Tasks suspended by WAIT.F become ready: at the end of the round of the next frame, or at the boundary that starts no
round (R40); their place in the order of queueing is kept. DESIGN CHOICE: notes/assumptions/71.md. -/
def Dev.wakeFrame (d : Dev) (c : Nat) : Dev :=
  let k := d.core c
  let wake (x : Task) : Task := match x.st with
    | .waitFrame since => if since = d.sys.frame then x else { x with st := .ready, gate := true }
    | _ => x
  d.setCore c { k with tasks := k.tasks.map fun p => (p.1, wake p.2) }

/-- The copied door's source and target wait for the switch at the start of frame c + 1, within the round overhead (R116).
DEDUCED: notes/assumptions/41.md. -/
def Placer.awaits (p : Placer) (frame : Word) (c : Nat) : Bool :=
  match p.mig with
  | some m => m.phase == .copying && frame == m.copyFrame + 1
      && (c == m.target || p.doors.any fun x => x.1 == m.door && x.2.sheaf == c)
  | none => false

/-- A choice point (R41): the round's next FRAME task, else the round ends and a COARSE, EVENT or BACKGROUND task is
taken. -/
def Dev.choose (d : Dev) (c : Nat) : Dev :=
  let k := d.core c
  if k.cur.isSome || d.sys.boundary || !d.scheduling c || d.placer.awaits d.sys.frame c then d
  else
    let next := match k.round with
      | some l => nextInRound k l
      | none => none
    match next with
    | some (t, rest) =>
      let d := d.setCore c { k with round := some rest }
      d.take c t (d.task c t)
    | none =>
      let d := if k.round.isSome then (d.endRound c).wakeFrame c else d
      match (d.core c).pick with
      | some (t, x) => d.take c t x
      | none => d

/-- The running task leaves the core in a new state. -/
def Dev.leave (d : Dev) (c t : Nat) (x : Task) : Dev :=
  let d := d.setTask c t x.noteMax
  let k := d.core c
  d.setCore c { k with cur := none }

/-- A running COARSE, EVENT or BACKGROUND task is preempted and keeps its context, a BACKGROUND task its place in the turn order (R41).
DESIGN CHOICE: notes/assumptions/71.md. -/
def Dev.preempt (d : Dev) (c : Nat) : Dev :=
  match (d.core c).cur with
  | none => d
  | some t =>
    let x := d.task c t
    if x.kind == .frame then d
    else
      let d := d.leave c t { x with st := .ready }
      let k := d.core c
      let d := if x.kind == .background then d.setCore c { k with bgNext := t } else d
      d.traceTask c t 3 0

/-- An EVENT task stands ready to take a queued trigger. -/
def Core.triggered (k : Core) : Bool := k.used.any fun p => k.eventReady p && p.2.st != .ready

/-- Something became ready outside a choice point: an idle core takes it, and an EVENT trigger preempts a BACKGROUND task; nothing else
does before the next boundary (R41). -/
def Dev.kick (d : Dev) (c : Nat) : Dev :=
  match (d.core c).cur with
  | none => d.choose c
  | some t =>
    if (d.task c t).kind == .background && (d.core c).triggered then (d.preempt c).choose c else d

/-! ### Event triggers (R47) -/

/-- SUBJ of a task's records (R355). -/
def taskSubj (c t : Nat) : Nat := 0x100 * c + t

/-- The next number of the order of queueing: one order for the module, in which a migrated task and its triggers keep their place
(R41, R117). -/
def Dev.nextOrd (d : Dev) : Nat := d.cores.foldl (fun n k => Nat.max n k.2.ordNext) 0

/-- A core takes the next number of the order of queueing. -/
def Dev.takeOrd (d : Dev) (c : Nat) : Dev := d.setCore c { d.core c with ordNext := d.nextOrd + 1 }

/-- Queue a trigger for an EVENT task; at a full queue it is dropped, counted, flagged and recorded.  A halted task takes none, and
nothing is counted. DESIGN CHOICE: notes/assumptions/71.md. -/
def Dev.queueTrigger (d : Dev) (c t idx : Nat) (sig : Nat) : Dev :=
  let x := d.task c t
  let depth := match d.decl c t with
    | some y => y.depth
    | none => 0
  if x.halted || !d.scheduling c then d
  else if x.queue.length ≥ depth then
    let d := if c < 16 then (d.incReg (Adr.sfEvdrop c)).orReg (Adr.sfFlags c) 8 else d
    d.eventRep 0xA005 (taskSubj c t)
  else
    let g : Trig := { idx := idx, sig := wordOfNat sig, frame := d.sys.frame, ord := d.nextOrd }
    ((d.takeOrd c).setTask c t { x with queue := x.queue ++ [g] }).kick c

/-- Every EVENT task's triggers that meet a test, as core, task, index and trigger signal. -/
def Dev.triggersWhere (d : Dev) (test : TrigKind → Bool) : List (Nat × Nat × Nat × Nat) :=
  d.cores.flatMap fun k => k.2.used.flatMap fun p =>
    if p.2.kind == .event then
      match d.decl k.1 p.1 with
      | none => []
      | some y => y.triggers.zipIdx.filterMap fun g => if test g.1 then some (k.1, p.1, g.2, g.1.signal) else none
    else []

/-- Queue every trigger that meets a test. -/
def Dev.fireTriggers (d : Dev) (test : TrigKind → Bool) : Dev :=
  if d.scheduling 16 then
    (d.triggersWhere test).foldl (fun s x => s.queueTrigger x.1 x.2.1 x.2.2.1 x.2.2.2) d
  else d

/-! ### Stop requests (R134) -/

/-- Raise a stop request, taken up in the frame in progress. -/
def Dev.raiseStop (d : Dev) (axis cause ramp code : Nat) : Dev :=
  d.modMotion axis fun m => { m with stops := m.stops ++ [{ cause := cause, ramp := ramp, code := code }] }

/-- Raise a stop request that is taken up in the next frame. -/
def Dev.raiseStopNext (d : Dev) (axis cause ramp code : Nat) : Dev :=
  d.modMotion axis fun m => { m with stopNext := m.stopNext ++ [{ cause := cause, ramp := ramp, code := code }] }

/-! ### Task faults (R56, R57, R59, R450) -/

/-- The payload of a task-fault record (R450). -/
def Dev.faultPayload (d : Dev) (c t : Nat) (x : Task) (code : Nat) : List Byte :=
  leBytes 2 code ++ leBytes 1 t ++ leBytes 1 (if c = 16 then 0xFF else x.inst)
    ++ leBytes 2 (if c = 16 then 0xFFFF else x.door) ++ leBytes 1 c ++ [0]
    ++ leBytes 4 x.pc.toNat ++ leBytes 4 x.count ++ leBytes 4 d.sys.frame.toNat

/-- Halt a task: aborted, its context and triggers discarded. -/
def Task.halt (x : Task) : Task := { x with st := .stopped, halted := true, queue := [], fresh := true, gate := false }

/-- Halt every task of an instance of a sheaf, and mark the instance in SF_HALT. -/
def Dev.haltInstance (d : Dev) (c inst : Nat) : Dev :=
  let k := d.core c
  let cur := match k.cur with
    | some t => if (smGet {} k.tasks t).inst = inst then none else some t
    | none => none
  let d := d.setCore c { k with tasks := k.tasks.map (fun p => (p.1, if p.2.used && p.2.inst = inst then p.2.halt else p.2)), cur := cur }
  { d with halted := smSet 0 d.halted c (smGet 0 d.halted c ||| wordOfNat (2 ^ inst)) }

/-- What breaks a migration in its copy frame: a fault of the door's instance, or a lost port of one of its axes (R118). -/
def Dev.breakCopy (d : Dev) (door : Nat → Bool) : Dev :=
  let note (m : Mig) : Mig := if m.phase == .copying && door m.door then { m with broken := true } else m
  { d with placer := { d.placer with mig := d.placer.mig.map note } }

/-- A fault of an instance's task: the instance halts, its motion requests of the frame are discarded, and every axis of the
door gets a stop request for the next frame (R56). -/
def Dev.instanceFault (d : Dev) (c t : Nat) (x : Task) (code : Nat) : Dev :=
  let axes := d.axesOf c t
  let payload := d.faultPayload c t x code
  let d := (d.haltInstance c x.inst).breakCopy fun n => n == x.door
  let d := axes.foldl (fun s a => (s.modMotion a fun m => { m with posted := [] }).raiseStopNext a 10 2 code) d
  let d := (d.incReg (Adr.sfFltcnt c)).orReg (Adr.sfFlags c) 1
  let d := d.setReg (Adr.sfLastflt c) (fields [(0, code), (16, t), (24, x.inst)])
  let d := d.setReg (Adr.sfLastpc c) x.pc
  let k := d.core c
  d.setCore c { k with faultRecs := k.faultRecs ++ [(code, taskSubj c t, payload)] }

/-- A fault of a system task: that task alone halts until the next entry to RUN (R59). -/
def Dev.systemFault (d : Dev) (t : Nat) (x : Task) (code : Nat) : Dev :=
  let payload := d.faultPayload 16 t x code
  let k := d.core 16
  let cur := if k.cur = some t then none else k.cur
  let d := d.setCore 16 { k with tasks := smPut k.tasks t x.halt, cur := cur }
  let d := d.setReg Adr.sysSvflt (fields [(0, code), (16, t)])
  let d := ((d.setReg Adr.sysSvpc x.pc).incReg Adr.sysSvfcnt).orReg Adr.sysFlags 1
  d.event code (taskSubj 16 t) payload

/-- A task takes a fault with the count given, and the core goes on to its next choice; the cycles up to the fault count in the
sheaf's load (R44). DEDUCED: notes/assumptions/10.md. -/
def Dev.taskFault (d : Dev) (c t code count : Nat) : Dev :=
  let spent := count - (d.task c t).count
  let x := ({ d.task c t with count := count } : Task).noteMax
  let d := d.setTask c t x
  let d := d.traceTask c t 4 code
  let d := if x.kind == .frame then d.roundCycles c (some x.door) spent else d
  let d := if c = 16 then d.systemFault t x code else d.instanceFault c t x code
  d.choose c

/-- Give a task that starts from its entry its registers (R39). -/
def Dev.primeTask (d : Dev) (c t : Nat) (g1 g2 : Word) : Dev :=
  let x := d.task c t
  let e := match d.decl c t with
    | some y => y.entry
    | none => 0
  d.setTask c t { x.fresh' g1 g2 0 (d.axStart c t) (d.ibOf c t) e with fresh := true }

/-- Release a COARSE task, or, where it has not ended since its last release, let it take fault 0xA003 (R46).  One that has ended is not
released before its posted writes are at home (R79); the release is then made as the last of them arrives.
DESIGN CHOICE: notes/assumptions/71.md. -/
def Dev.releaseCoarse (d : Dev) (c t : Nat) : Dev :=
  let x := d.task c t
  if x.halted || x.held then d
  else if x.st != .idle then
    let d := if (d.core c).cur = some t then (let k := d.core c; d.setCore c { k with cur := none }) else d
    d.taskFault c t 0xA003 x.count
  else if (d.core c).posting t then d.setTask c t { x with relDue := true }
  else
    let tick := d.sys.frame / 8
    let since := if x.started then (tick - x.prevStart) &&& 0x1FFFFFFF else 0
    let d := d.primeTask c t since d.sys.frame
    let x := d.task c t
    (d.takeOrd c).setTask c t { x with st := .ready, started := true, prevStart := tick, rels := satInc x.rels, ord := d.nextOrd,
                                       gate := true, relDue := false }

/-- A COARSE task whose release waited for its writes is released once they are home (R79). -/
def Dev.releaseDue (d : Dev) (c t : Nat) : Dev :=
  let x := d.task c t
  if x.relDue && x.kind == .coarse && d.scheduling c && !(d.core c).posting t then d.releaseCoarse c t else d

/-- The budget-fault code of a kind (R57). -/
def budgetCode : TaskKind → Nat
  | .frame => 0xA001
  | .coarse => 0xA002
  | _ => 0xA004

/-! ### The commands of scheduling -/

/-- BUDGET_EXCEEDED: the running task has used its whole budget and has not ended; its count reaches the budget plus 1
(R45). DESIGN CHOICE: notes/assumptions/6.md. -/
def execBudgetExceeded (core : CoreId) (s : State) : Host.Outcome State Fault Refusal :=
  let d := s.dev
  match (d.core core.val).cur with
  | none => .next s
  | some t =>
    let x := d.task core.val t
    if x.kind != .background && x.budget ≤ x.count then
      .next { s with dev := d.taskFault core.val t (budgetCode x.kind) (x.budget + 1) }
    else .next s

/-- WAIT_TIME_EXPIRY: the count of frames of a WAIT on time has passed, and the task may resume once its writes are home,
in a new place of the order of queueing. DESIGN CHOICE: notes/assumptions/6.md. DESIGN CHOICE: notes/assumptions/71.md. -/
def execWaitTimeExpiry (core : CoreId) (task : Fin 256) (s : State) : Host.Outcome State Fault Refusal :=
  let d := s.dev
  let x := d.task core.val task.val
  match x.st with
  | .waitTime until_ =>
    if (until_ - d.sys.frame).toInt ≤ 0 && d.scheduling core.val then
      .next { s with dev :=
        ((d.takeOrd core.val).setTask core.val task.val { x with st := .ready, gate := true, ord := d.nextOrd }).kick core.val }
    else .next s
  | _ => .next s

/-- PERIODIC_TIMER: the period of a timer trigger has passed, counted in real frames from entry to RUN (R47). -/
def execPeriodicTimer (core : CoreId) (task : Fin 256) (trig : Fin 4) (s : State) : Host.Outcome State Fault Refusal :=
  let d := s.dev
  let x := d.task core.val task.val
  match d.decl core.val task.val with
  | none => .next s
  | some y =>
    match y.triggers[trig.val]? with
    | some (.timer period) =>
      let n := d.sys.runFrames
      if x.used && d.scheduling core.val && 0 < n && 0 < period && n % period = 0 && !x.due.contains (trig.val, d.sys.frame) then
        let x := { x with due := (x.due.filter fun p => p.1 != trig.val) ++ [(trig.val, d.sys.frame)] }
        .next { s with dev := (d.setTask core.val task.val x).queueTrigger core.val task.val trig.val 0 }
      else .next s
    | _ => .next s

/-- BACKGROUND_TURN_END: the 2,500 cycles of a turn are used, and the next task in round-robin order is taken (R41). -/
def execBackgroundTurnEnd (core : CoreId) (s : State) : Host.Outcome State Fault Refusal :=
  let d := s.dev
  let k := d.core core.val
  match k.cur with
  | none => .next s
  | some t =>
    let x := d.task core.val t
    if x.kind == .background && 2500 ≤ k.turn then
      let d := (d.leave core.val t { x with st := .ready }).traceTask core.val t 3 0
      let k := d.core core.val
      .next { s with dev := (d.setCore core.val { k with bgNext := t + 1 }).choose core.val }
    else .next s

end Sys2Proof.Machine
end

