-- ==== Sys2Proof/Machine/Signals.lean ====
section
/-! DEFINITION. The signal space (R19–R29, R49–R53): existence, permissions, homes, quality bits, and the one operation by
which a write reaches its home. -/

namespace Sys2Proof.Machine

/-- Who writes a signal (R19): an instance's task of a door, a system task, the host, a device unit, the safety island. -/
inductive Writer where
  | door (index : Nat)
  | system
  | host
  | device
  | island
deriving DecidableEq, Repr

/-- The regions of R19 and R27. -/
inductive Region where
  | fixed (axis slot : Nat)
  | axisUser (axis slot : Nat)
  | reserved
  | field
  | hsCommand
  | soReadback
  | can
  | mailboxCommand
  | mailboxReply
  | safety
  | system
  | user
deriving DecidableEq, Repr

/-- The fixed slots that read 0 with quality 0 and refuse writes (R25, R121, R152, R180, R223). -/
def reservedSlot (slot : Nat) : Bool :=
  (25 ≤ slot && slot ≤ 31) || (48 ≤ slot && slot ≤ 63) || (99 ≤ slot && slot ≤ 103) || 195 ≤ slot

/-- The region of a signal number below 2²⁰ (R27, R258, R290). -/
def regionOf (n : Nat) : Region :=
  if n < 0x80000 then
    let slot := n % 1024
    if slot ≥ 256 then .axisUser (n / 1024) slot
    else if reservedSlot slot then .reserved else .fixed (n / 1024) slot
  else if n ≥ 0x88000 then .user
  else if n ≤ 0x8007F then .field
  else if 0x80100 ≤ n ∧ n ≤ 0x8011F then .hsCommand
  else if 0x80120 ≤ n ∧ n ≤ 0x8015F then .field
  else if 0x80200 ≤ n ∧ n ≤ 0x80207 then .soReadback
  else if 0x80300 ≤ n ∧ n ≤ 0x80305 then .field
  else if 0x81000 ≤ n ∧ n ≤ 0x84FFF then .can
  else if 0x85000 ≤ n ∧ n ≤ 0x857FF then .mailboxCommand
  else if 0x85800 ≤ n ∧ n ≤ 0x85FFF then .mailboxReply
  else if 0x86000 ≤ n ∧ n ≤ 0x86243 then .safety
  else if 0x86280 ≤ n ∧ n ≤ 0x862BF then .safety
  else if 0x86300 ≤ n ∧ n ≤ 0x863FF then .safety
  else if (0x87000 ≤ n ∧ n ≤ 0x87004) ∨ n = 0x87008 ∨ n = 0x87010 ∨ (0x87020 ≤ n ∧ n ≤ 0x8702F) then .system
  else .reserved

/-- An object is double: an even number with DOUBLE set, while object o + 1 is disabled (R337). -/
def Dev.canDouble (d : Dev) (c o : Nat) : Bool :=
  o % 2 == 0 && bit (d.reg (Adr.canObjcfg c o)) 2 && !bit (d.reg (Adr.canObjcfg c (o + 1))) 0

/-- Where a CAN signal lies: controller, object and signal index within it, the second object of a double one counted as
signals 16–31 of the first (R338). -/
def Dev.canPlace (d : Dev) (n : Nat) : Nat × Nat × Nat :=
  let r := n - 0x81000
  let c := r / 0x1000
  let o := r % 0x1000 / 16
  let k := r % 16
  if o % 2 = 1 && d.canDouble c (o - 1) then (c, o - 1, k + 16) else (c, o, k)

/-- The region of a signal, with the reserved signals of a double CAN object told apart (R338). -/
def Dev.region (d : Dev) (n : Nat) : Region :=
  match regionOf n with
  | .can => if (d.canPlace n).2.2 ≥ 18 then .reserved else .can
  | r => r

/-- Whether a signal exists (R20). -/
def Dev.sigExists (d : Dev) (n : Nat) : Bool :=
  if n ≥ 2 ^ 20 then false
  else if 0x80000 ≤ n && n < 0x88000 then true
  else if n < 0x80000 && n % 1024 < 256 then d.axConfigured (n / 1024)
  else match d.image with
    | some im => (im.declared n).isSome
    | none => false

/-- The permissions of R19, R25 and R338 for a signal that exists. -/
def Dev.sigAllows (d : Dev) (n : Nat) (who : Writer) : Bool :=
  match d.region n with
  | .reserved => false
  | .fixed _ slot =>
    match who with
    | .device => slot != 13
    | .island => slot == 13
    | .host => d.sys.power == .idle && ((64 ≤ slot && slot ≤ 95) || (128 ≤ slot && slot ≤ 191))
    | _ => false
  | .axisUser axis _ =>
    match who with
    | .door i => (match d.image with
      | some im => im.axisDoor axis == some i
      | none => false)
    | .system => true
    | _ => false
  | .field => who == .device
  | .hsCommand =>
    match who with
    | .door _ => true
    | .system => true
    | .device => true
    | _ => false
  | .soReadback => who == .island
  | .can =>
    let p := d.canPlace n
    if !bit (d.reg (Adr.canObjcfg p.1 p.2.1)) 1 || p.2.2 = 1 then who == .device
    else match who with
      | .door _ => true
      | .system => true
      | _ => false
  | .mailboxCommand => who == .host
  | .mailboxReply =>
    match who with
    | .door _ => true
    | .system => true
    | _ => false
  | .safety => who == .island
  | .system => who == .device
  | .user =>
    match who with
    | .door _ => true
    | .system => true
    | .host => true
    | _ => false

/-- Signals the host may force (R24, R325): not the island's, not system status, not reserved ones. -/
def Dev.sigForceable (d : Dev) (n : Nat) : Bool :=
  match d.region n with
  | .reserved => false
  | .safety => false
  | .system => false
  | .soReadback => false
  | .fixed _ slot => slot != 13
  | _ => true

/-- Whether a signal is tracked (R22): CAN receive objects, host command mailboxes, EVENT trigger signals. -/
def Dev.sigTracked (d : Dev) (n : Nat) : Bool :=
  (match d.region n with
   | .mailboxCommand => true
   | .can => let p := d.canPlace n; !bit (d.reg (Adr.canObjcfg p.1 p.2.1)) 1
   | _ => false)
  || (match d.image with
    | some im => im.isTriggerSignal n
    | none => false)

/-- The home of a user signal; one that no placement homed is taken in tier 1. -/
def Dev.userHome (d : Dev) (n : Nat) : TierHome := smGet { tier := 1, sheaf := 0 } d.placer.homes n

/-- The home code a posted write travels to: 1 tier 1, 2 tier 2, 16 + s tier 0 of sheaf s. -/
def Dev.homeCode (d : Dev) (n : Nat) : Nat :=
  if 0x80000 ≤ n && n < 0x88000 then 1
  else if n < 0x80000 && n % 1024 < 256 then 1
  else
    let h := d.userHome n
    if h.tier = 0 then 16 + h.sheaf else h.tier

/-- A signal's store in tier 2 is one DRAM operation of 64 bytes (R29, R393, R420). DEDUCED: notes/assumptions/60.md.
DEDUCED: notes/assumptions/15.md. -/
def Dev.countStore (d : Dev) (n : Nat) : Dev := if d.homeCode n = 2 then d.countEvent 8 0 1 else d

/-! ### The store of a signal (R21, R22) -/

/-- The MIRROR bit, fixed by the image (R22). -/
def Dev.mirrorBit (d : Dev) (n : Nat) : BitVec 8 :=
  match d.image with
  | some im => if im.mirror.contains n then 0x20 else 0
  | none => 0

/-- The store of a signal as a reader finds it; one not written since the start holds its declared initial value with the
device's tag (R20), or 0 with tag and stamp 0. DESIGN CHOICE: notes/assumptions/70.md. -/
def Dev.sig (d : Dev) (n : Nat) : Sig :=
  if !d.sigExists n then {}
  else if d.region n = .reserved then {}
  else match d.sigs.find? fun p => p.1 == n with
    | some p => { p.2 with q := p.2.q ||| d.mirrorBit n }
    | none =>
      match d.image with
      | some im =>
        match im.declared n with
        | some v => { value := v, q := d.mirrorBit n, tag := 0x13 }
        | none => { q := d.mirrorBit n }
      | none => {}

/-- The value of a signal. -/
def Dev.sigVal (d : Dev) (n : Nat) : Word := (d.sig n).value

/-- VALID of a quality. -/
def Sig.valid (s : Sig) : Bool := s.q.getLsbD 0

/-- FORCED of a quality. -/
def Sig.forced (s : Sig) : Bool := s.q.getLsbD 4

/-- Replace a signal's store without any rule. -/
def Dev.setSig (d : Dev) (n : Nat) (s : Sig) : Dev := { d with sigs := smPut d.sigs n s }

/-- The triggers of a write of a signal: those on a write, and where it changes the value or VALID those on a change (R47). -/
def Dev.fireWrite (d : Dev) (n : Nat) (changed : Bool) : Dev :=
  d.fireTriggers fun g => match g with
    | .change m => m == n && changed
    | .write m => m == n
    | _ => false

/-- A write at its home: value, VALID and STALE as given, LOST where a tracked signal is unread, SAFE where the island
writes, tag and stamp, which is that of the frame of the arrival; then the SWR packet and the EVENT triggers (R21, R22, R47, R50).
DESIGN CHOICE: notes/assumptions/70.md. -/
def Dev.sigStore (d : Dev) (n : Nat) (v : Word) (valid stale : Bool) (tag : Nat) : Dev :=
  let old := d.sig n
  let tracked := d.sigTracked n
  let q : BitVec 8 := (old.q &&& 0x34) ||| BitVec.ofNat 8 (b2n valid + 2 * b2n stale + 8 * b2n (tag == 0x12))
  let q := if tracked && old.unread then q ||| 4 else q
  let d := d.setSig n { value := v, q := q &&& 0x1F, tag := BitVec.ofNat 8 tag,
                        stamp := BitVec.ofNat 16 d.sys.frame.toNat, unread := tracked }
  (d.traceWrite n tag v q).fireWrite n (old.value != v || old.valid != valid)

/-- What a signal holds, or would hold had the host never forced it: the value and VALID on which the safety functions act, since no
forced signal reaches them (R24, R33). -/
def Dev.plain (d : Dev) (n : Nat) : Word × Bool :=
  match d.hidden.find? fun p => p.1 == n with
  | some p => p.2
  | none => ((d.sig n).value, (d.sig n).valid)

/-- The host forces a signal over what it holds. -/
def Dev.hide (d : Dev) (n : Nat) : Dev := { d with hidden := smPut d.hidden n (d.plain n) }

/-- A write to a FORCED signal is discarded and counted in sig.87010 (R24). -/
def Dev.sigDiscard (d : Dev) : Dev := d.sigStore 0x87010 (satInc (d.sigVal 0x87010)) true false 0x13

/-- A write by a program, system task, device unit or the island reaches its home (R24, R50). -/
def Dev.sigHome (d : Dev) (n : Nat) (v : Word) (valid stale : Bool) (tag : Nat) : Dev :=
  if (d.sig n).forced then { d with hidden := smPut d.hidden n (v, valid) }.sigDiscard
  else { d with hidden := smDel d.hidden n }.sigStore n v valid stale tag

/-- A device write. -/
def Dev.devSig (d : Dev) (n : Nat) (v : Word) (valid : Bool := true) (stale : Bool := false) : Dev :=
  if d.sigExists n && d.region n != .reserved then d.sigHome n v valid stale 0x13 else d

/-- A device write of a number. -/
def Dev.devNat (d : Dev) (n v : Nat) : Dev := d.devSig n (wordOfNat v)

/-- An island write: tag 0x12, SAFE set (R22). -/
def Dev.islandSig (d : Dev) (n : Nat) (v : Word) (valid : Bool := true) : Dev :=
  if d.sigExists n then d.sigStore n v valid false 0x12 else d

/-- A mirror entry as a standby writes it to its own signal: value and quality as sent, the device's tag (R302), also where the signal is
FORCED; SAFE is never set by it, and a signal that the island writes is left to the island (R22).  What the signal would hold unforced
stays the module's own. DEDUCED: notes/assumptions/76.md. -/
def Dev.sigMirrored (d : Dev) (n : Nat) (v : Word) (q : BitVec 8) : Dev :=
  if d.sigExists n && d.region n != .reserved && !d.sigAllows n .island then
    let old := d.sig n
    let q := q &&& 0x17
    let hidden := if q.getLsbD 4 then smPut d.hidden n (d.plain n) else smDel d.hidden n
    let d := { d with hidden := hidden }.setSig n { value := v, q := q, tag := 0x13, stamp := BitVec.ofNat 16 d.sys.frame.toNat,
                                                    unread := d.sigTracked n }
    let d := d.countStore n
    (d.traceWrite n 0x13 v (q ||| d.mirrorBit n)).fireWrite n (old.value != v || old.valid != q.getLsbD 0)
  else d

/-- A change of quality that is no write: STALE set, VALID cleared (R22). -/
def Dev.sigQuality (d : Dev) (n : Nat) (setStale clearValid : Bool) : Dev :=
  if d.sigExists n && d.region n != .reserved then
    let s := d.sig n
    let q := if setStale then s.q ||| 2 else s.q
    let q := if clearValid then q &&& 0xFE else q
    let hidden := d.hidden.map fun p => if p.1 = n then (p.1, (p.2.1, p.2.2 && !clearValid)) else p
    { d with hidden := hidden }.setSig n { s with q := q &&& 0x1F }
  else d

/-- A task's read marks a tracked signal read, and LOST clears after this read has returned it, also on a signal that is tracked no more
(R22, R73). -/
def Dev.sigMark (d : Dev) (n : Nat) : Dev :=
  let s := d.sig n
  if s.unread || s.q.getLsbD 2 then d.setSig n { s with q := s.q &&& 0x1B, unread := false } else d

/-- The initial value of a declared signal, written by the device at entry to RUN or at a restart (R37): VALID, not STALE, not LOST,
and read as far as R22 goes; it is a write to the trace unit and to the EVENT triggers like any other (R47).
DESIGN CHOICE: notes/assumptions/70.md. -/
def Dev.sigInit (d : Dev) (n : Nat) (v : Word) : Dev :=
  if (d.sig n).forced then { d with hidden := smPut d.hidden n (v, true) }.sigDiscard
  else if d.sigExists n then
    let old := d.sig n
    let d := { d with hidden := smDel d.hidden n }.setSig n { value := v, q := 1, tag := 0x13, stamp := BitVec.ofNat 16 d.sys.frame.toNat }
    let d := d.countStore n
    (d.traceWrite n 0x13 v (1 ||| d.mirrorBit n)).fireWrite n (old.value != v || !old.valid)
  else d

/-! ### Homes and tiers (R26, R28, R29, R105) -/

/-- The placement of a door. -/
def Dev.doorPl (d : Dev) (door : Nat) : Option DoorPl :=
  match d.placer.doors.find? fun p => p.1 == door with
  | some p => some p.2
  | none => none

/-- The sheaf that holds an axis; an axis of no door of a placed image is on none (R16, R104). DESIGN CHOICE:
notes/assumptions/73.md. -/
def Dev.axisSheaf (d : Dev) (axis : Nat) : Option Nat :=
  match d.image with
  | none => none
  | some im =>
    match im.axisDoor axis with
    | none => none
    | some x => (d.doorPl x).map (·.sheaf)

/-- Where a core finds a signal: its own tier 0, tier 1, another sheaf, or tier 2 (R28). -/
inductive Tier where
  | own
  | pool
  | cross
  | dram
deriving DecidableEq, Repr

/-- The tier at which a core reads a signal. -/
def Dev.tierOf (d : Dev) (c n : Nat) : Tier :=
  if 0x80000 ≤ n && n < 0x88000 then .pool
  else if n < 0x80000 && n % 1024 < 256 then
    if d.axisSheaf (n / 1024) = some c then .own
    else if n % 1024 < 16 then .pool else .cross
  else
    let h := d.userHome n
    if h.tier = 2 then .dram else if h.tier = 1 then .pool else if h.sheaf = c then .own else .cross

/-- The writer a core's task is (R19). -/
def Dev.writerOf (d : Dev) (c t : Nat) : Writer := if c = 16 then .system else .door (d.task c t).door

/-- Slots 0–15 of an axis held on another sheaf are read from the pool summary (R26). -/
def Dev.sigFrom (d : Dev) (c n : Nat) : Sig :=
  if n < 0x80000 && n % 1024 < 16 && d.axisSheaf (n / 1024) != some c && d.sigExists n then
    { smGet {} d.summary n with unread := (d.sig n).unread }
  else d.sig n

/-- The value a task's own posted write will leave, which the task reads before it is home (R49).
DEDUCED: notes/assumptions/14.md. -/
def Dev.ownPost (d : Dev) (c t n : Nat) : Option Post :=
  ((d.core c).wbuf.filter fun p => p.task == t && p.sig == n).getLast?

/-- Copy slots 0–15 of every configured axis into the pool summary (R26). -/
def Dev.copySummary (d : Dev) : Dev :=
  let m := d.axes'.foldl (fun m a => (List.range 16).foldl (fun m k => smPut m (slotSig a k) (d.sig (slotSig a k))) m) d.summary
  { d with summary := m }

end Sys2Proof.Machine
end

