-- ==== Sys2Proof/Machine/Can.lean ====
section
/-! DEFINITION. The CAN controllers (chapter 12): bit timing, message objects, delivery and locks, transmission, errors. -/

namespace Sys2Proof.Machine

/-- The first signal of an object (R338). -/
def canSig (c o : Nat) : Nat := 0x81000 + c * 0x1000 + o * 16

/-- CAN_OBJCFG of an object. -/
def Dev.canCfg (d : Dev) (c o : Nat) : Word := d.reg (Adr.canObjcfg c o)

/-- SUBJ of an object's and of a controller's records (R355). -/
def canSubj (c o : Nat) : Nat := 0x100 * c + o

/-- The controller is on: EN, in IDLE or RUN (R336). -/
def Dev.canOn (d : Dev) (c : Nat) : Bool := bit (d.reg (Adr.canCtrl c)) 0 && d.operating

/-- Restricted operation mode is in force (R336). -/
def Dev.canRestricted (d : Dev) (c : Nat) : Bool := bit (d.reg (Adr.canCtrl c)) 1 || d.pair.role == .standby

/-- An enabled receive object. -/
def Dev.canReceives (d : Dev) (c o : Nat) : Bool := bit (d.canCfg c o) 0 && !bit (d.canCfg c o) 1

/-- An enabled transmit object. -/
def Dev.canTransmits (d : Dev) (c o : Nat) : Bool := bit (d.canCfg c o) 0 && bit (d.canCfg c o) 1

/-- The objects of a controller that have a stored configuration, ascending. -/
def Dev.canObjects (d : Dev) (c : Nat) : List Nat :=
  let lo := Adr.canObjcfg c 0
  d.regs.filterMap fun r => if lo ≤ r.1 && r.1 < lo + 0x800 && (r.1 - lo) % 8 == 0 then some ((r.1 - lo) / 8) else none

/-- The number of signals of an object (R338). -/
def Dev.canSignals (d : Dev) (c o : Nat) : Nat := if d.canDouble c o then 18 else 16

/-- The data bytes an object holds. -/
def Dev.canRoom (d : Dev) (c o : Nat) : Nat := if d.canDouble c o then 64 else 56

/-- Clear VALID on every signal of an object. -/
def Dev.canInvalidate (d : Dev) (c o : Nat) : Dev :=
  (List.range (d.canSignals c o)).foldl (fun s k => s.sigQuality (canSig c o + k) false true) d

/-- Clear VALID on every signal of a controller's objects whose DIR is receive, enabled or not; the second half of a double object
follows the direction of its first (R336, R338, R342). -/
def Dev.canClearReceive (d : Dev) (c : Nat) : Dev :=
  let mine (n : Nat) : Bool := regionOf n == .can && (d.canPlace n).1 == c && !bit (d.canCfg c (d.canPlace n).2.1) 1
  (d.sigs.filter fun p => mine p.1).foldl (fun s p => s.sigQuality p.1 false true) d

/-! ### Bit timing (R334, R335) -/

/-- Quanta times BRP of the nominal bit: the bit time in cycles of 80 MHz. -/
def canNominal (nbt : Word) : Nat := (fld nbt 0 5 + 1) * (1 + (fld nbt 8 8 + 1) + (fld nbt 16 7 + 1))

/-- The data bit time in cycles of 80 MHz. -/
def canData (dbt : Word) : Nat := (fld dbt 0 5 + 1) * (1 + (fld dbt 8 5 + 1) + (fld dbt 16 4 + 1))

/-- The ranges and rate limits of R334. -/
def canTimingOk (nbt dbt : Word) : Bool :=
  fld nbt 8 8 ≥ 1 && fld nbt 16 7 ≥ 1 && fld nbt 24 7 ≤ fld nbt 16 7 && canNominal nbt ≥ 80
    && fld dbt 24 4 ≤ fld dbt 16 4 && canData dbt ≥ 16 && canData dbt ≤ canNominal nbt

/-- Set CAN_CFGSTAT; a code other than 0 sets CFGIGN. -/
def Dev.canCfgstat (d : Dev) (c code : Nat) : Dev :=
  let d := d.setReg (Adr.canCfgstat c) (wordOfNat code)
  if code = 0 then d else d.orReg (Adr.canFlags c) 0x80

/-- The transition of EN from 0 to 1 (R334, R335). -/
def Dev.canEnable (d : Dev) (c : Nat) (value : Word) : Dev :=
  let v := value &&& 0x1F
  let nbt := d.reg (Adr.canNbt c)
  if canTimingOk nbt (d.reg (Adr.canDbt c)) then
    let slow := canNominal nbt ≥ 320
    let x := d.can c
    let d := d.setCan c { x with tec := 0, recCnt := 0, busOff := false, recovering := false, kept := none, triple := bit v 3 && slow }
    let d := d.setReg (Adr.canCtrl c) v
    if bit v 3 && !slow then (d.canCfgstat c 0x5804).event 0x5804 (0x400 + c) else d.canCfgstat c 0
  else (d.setReg (Adr.canCtrl c) (v &&& 0x1E)).canCfgstat c 0x5805

/-! ### Transmit status (R345) -/

/-- Write an object's transmit status word. -/
def Dev.canTxStatus (d : Dev) (c o code attempts : Nat) : Dev :=
  d.devSig (canSig c o + 1) (fields [(0, code), (8, satNat 255 attempts), (16, d.sys.frame.toNat % 2 ^ 16)])

/-- The request kept through bus-off is no longer an object's (R347). -/
def Can.unkeep (x : Can) (o : Nat) : Can := if x.kept = some o then { x with kept := none } else x

/-- Cancel an object's request with status 7. -/
def Dev.canCancel (d : Dev) (c o : Nat) : Dev :=
  let x := (d.can c).obj o
  if x.pending || x.onBus then
    let d := d.setCan c (((d.can c).unkeep o).setObj o { x with pending := false, onBus := false, next := none })
    d.canTxStatus c o 7 x.attempts
  else d

/-- The controller is switched off: requests are cancelled, VALID is cleared on the receive objects, and a frame that waits behind a lock
is not delivered any more (R336). DEDUCED: notes/assumptions/57.md. -/
def Dev.canDisable (d : Dev) (c : Nat) : Dev :=
  let objs := d.canObjects c
  let d := objs.foldl (fun s o => s.canCancel c o) d
  let d := d.canClearReceive c
  let x := d.can c
  let cleared := x.objs.map fun p => (p.1, { p.2 with shadow := none, shadowLost := false })
  d.setCan c { x with recovering := false, busOff := false, kept := none, triple := false, tec := 0, recCnt := 0, objs := cleared }

/-- CAN_CTRL_ENABLE: a write of CAN_CTRL that takes EN from 0 to 1. -/
def execCanCtrlEnable (can : CanId) (value : Word) (s : State) : Host.Outcome State Fault Refusal :=
  if bit value 0 && !bit (s.dev.reg (Adr.canCtrl can.val)) 0 then .next { s with dev := s.dev.canEnable can.val value }
  else .next s

/-- CAN_CTRL_DISABLE: a write of CAN_CTRL that takes EN from 1 to 0. -/
def execCanCtrlDisable (can : CanId) (value : Word) (s : State) : Host.Outcome State Fault Refusal :=
  if !bit value 0 && bit (s.dev.reg (Adr.canCtrl can.val)) 0 then
    .next { s with dev := (s.dev.canDisable can.val).setReg (Adr.canCtrl can.val) (value &&& 0x1F) }
  else .next s

/-- A write of CAN_NBT, CAN_DBT or CAN_TDC: accepted only while EN is 0 (R334). -/
def Dev.canTiming (d : Dev) (c addr : Nat) (value : Word) : Dev :=
  match rowOf addr with
  | none => d
  | some r =>
    if bit (d.reg (Adr.canCtrl c)) 0 then d.canCfgstat c 0x580E
    else (d.setReg addr (value &&& wordOfNat r.mask)).canCfgstat c 0

/-- CAN_TIMING_WRITE. -/
def execCanTimingWrite (can : CanId) (addr value : Word) (s : State) : Host.Outcome State Fault Refusal :=
  let a := addr.toNat
  if a = Adr.canNbt can.val ∨ a = Adr.canDbt can.val ∨ a = Adr.canTdc can.val then
    .next { s with dev := s.dev.canTiming can.val a value }
  else .next s

/-! ### Object configuration (R337) -/

/-- The identifier of an object as it is compared: 11 bits without IDE. -/
def canIdOf (objid : Word) : Nat × Bool := (if bit objid 29 then fld objid 0 29 else fld objid 0 11, bit objid 29)

/-- An object may be double: its number is even and object o + 1 is disabled (R337). -/
def Dev.canMayDouble (d : Dev) (c o : Nat) : Bool := o % 2 == 0 && !bit (d.canCfg c (o + 1)) 0

/-- Whether an object may be enabled with a configuration: its identifier is its own, and it is neither the second half of a double
object nor an impossible double (R337). -/
def Dev.canObjectOk (d : Dev) (c o : Nat) (cfg : Word) : Bool :=
  let id := canIdOf (d.reg (Adr.canObjid c o))
  (d.canObjects c).all (fun p => p == o || !bit (d.canCfg c p) 0 || canIdOf (d.reg (Adr.canObjid c p)) != id)
    && (!bit cfg 2 || d.canMayDouble c o) && !(o % 2 == 1 && bit (d.canCfg c (o - 1)) 2)

/-- A write of CAN_OBJCFG. DEDUCED: notes/assumptions/57.md. -/
def Dev.canObjcfgWrite (d : Dev) (c o : Nat) (value : Word) : Dev :=
  let a := Adr.canObjcfg c o
  let v := value &&& 0xFFFFFF07
  if bit (d.canCfg c o) 0 then
    if bit v 0 then d.canCfgstat c 0x580E
    else
      let d := d.canCancel c o
      let d := if bit (d.canCfg c o) 1 then d else d.canInvalidate c o
      let x := (d.can c).obj o
      let d := d.setCan c ((d.can c).setObj o { x with locked := false, shadow := none, shadowLost := false })
      (d.setReg a (d.canCfg c o &&& 0xFFFFFFFE)).canCfgstat c 0
  else if bit v 0 then
    if d.canObjectOk c o v then
      let x := (d.can c).obj o
      let d := d.setCan c ((d.can c).setObj o { x with locked := false, shadow := none, lastRx := d.now, rxTimedOut := false })
      (d.setReg a v).canCfgstat c 0
    else (d.setReg a (v &&& 0xFFFFFFFE)).canCfgstat c 0x5806
  else (d.setReg a v).canCfgstat c (if bit v 2 && !d.canMayDouble c o then 0x5806 else 0)

/-- A write of CAN_OBJID. -/
def Dev.canObjidWrite (d : Dev) (c o : Nat) (value : Word) : Dev :=
  if bit (d.canCfg c o) 0 then d.canCfgstat c 0x580E
  else (d.setReg (Adr.canObjid c o) (value &&& 0x3FFFFFFF)).canCfgstat c 0

/-- A write of an object's configuration by its address. -/
def Dev.canObjectWrite (d : Dev) (c addr : Nat) (value : Word) : Dev :=
  let off := addr - Adr.canObjid c 0
  if off % 8 = 0 then d.canObjidWrite c (off / 8) value
  else if off % 8 = 4 then d.canObjcfgWrite c (off / 8) value
  else d

/-- CAN_OBJECT_CONFIG_WRITE. -/
def execCanObjectConfigWrite (can : CanId) (addr value : Word) (s : State) : Host.Outcome State Fault Refusal :=
  let a := addr.toNat
  if Adr.canObjid can.val 0 ≤ a ∧ a < Adr.canObjid can.val 0 + 0x800 then
    .next { s with dev := s.dev.canObjectWrite can.val a value }
  else .next s

/-! ### Error counters (R346, R347) -/

/-- The order in which identifiers win arbitration: base identifier, then standard before extended, then the rest. -/
def canArbKey (objid : Word) : Nat :=
  if bit objid 29 then fld objid 18 11 * 2 ^ 19 + 2 ^ 18 + fld objid 0 18 else fld objid 0 11 * 2 ^ 19

/-- The pending request that wins arbitration. -/
def Dev.canWinner (d : Dev) (c : Nat) : Option Nat :=
  ((d.can c).objs.filter fun p => p.2.pending).foldl (fun (best : Option Nat) p =>
    match best with
    | none => some p.1
    | some q =>
      if canArbKey (d.reg (Adr.canObjid c p.1)) < canArbKey (d.reg (Adr.canObjid c q)) then some p.1 else some q) none

/-- Bus-off (R347): every pending request but the first in arbitration is cancelled, VALID is cleared on the receive
objects, and recovery begins where AUTOREC is set. -/
def Dev.canBusOff (d : Dev) (c : Nat) : Dev :=
  let x := d.can c
  let back (o : CanObj) : CanObj := if o.onBus then { o with onBus := false, pending := true } else o
  let d := d.setCan c { x with tec := 256, busOff := true, recovering := bit (d.reg (Adr.canCtrl c)) 2,
                               objs := x.objs.map fun p => (p.1, back p.2) }
  let keep := d.canWinner c
  let x := d.can c
  let d := d.setCan c { x with kept := keep }
  let d := (d.can c).objs.foldl (fun s p => if some p.1 = keep then s else s.canCancel c p.1) d
  let d := d.canClearReceive c
  ((d.incReg (Adr.canBoffcnt c)).orReg (Adr.canFlags c) 1).event 0x5801 (0x400 + c)

/-- Set the error counters: error passive is noted where either first reaches 128, bus-off where TEC exceeds 255.
PRESUMED: notes/assumptions/56.md. -/
def Dev.canCounters (d : Dev) (c tec recv : Nat) : Dev :=
  let x := d.can c
  let was := x.tec ≥ 128 || x.recCnt ≥ 128
  let d := d.setCan c { x with tec := tec, recCnt := satNat 255 recv }
  let d := if !was && (tec ≥ 128 || recv ≥ 128)
    then (d.orReg (Adr.canFlags c) 2).event 0x5803 (0x400 + c) else d
  if tec > 255 then d.canBusOff c else d

/-! ### Delivery (R339–R341) -/

/-- Word `k` of a frame's data. -/
def canWord (data : List Byte) (k : Nat) : Word := wordOfNat (leAt data (4 * k) 4)

/-- Deliver a frame to a receive object: data words, receive time, header, then the trigger (R340). -/
def Dev.canDeliver (d : Dev) (c o : Nat) (f : CanFrame) (sofFrame : Word) (lost : Bool) : Dev :=
  let len := f.data.length
  let room := d.canRoom c o
  let held := if len ≤ room then len else room
  let words := (held + 3) / 4
  let last := 1 + words
  let b := canSig c o
  let x := (d.can c).obj o
  let unread := (d.sig b).unread
  let count := (x.count + 1) % 256
  let data := f.data.take held
  let d := (List.range words).foldl (fun s k => s.devSig (b + 2 + k) (canWord data k)) d
  let d := d.devSig (b + 1) (fields [(0, f.sof64.toNat), (6, sofFrame.toNat % 2 ^ 26)])
  let d := d.devSig b (fields [(0, len), (8, b2n f.fdf), (9, b2n f.brs), (10, b2n f.esi), (11, b2n (len > room)),
    (16, last), (24, count)])
  let d := if unread || lost then d.orReg (Adr.canFlags c) 4 else d
  let d := if unread then d.incReg (Adr.canLostcnt c) else d
  let d := if lost then d.setSig b { d.sig b with q := ((d.sig b).q ||| 4) &&& 0x1F } else d
  let x := (d.can c).obj o
  let d := d.setCan c ((d.can c).setObj o { x with count := count, lastRx := d.now, rxTimedOut := false })
  let d := (d.incReg (Adr.canRxcnt c)).countEvent 14 c 1
  let d := if len > room then (d.orReg (Adr.canFlags c) 8).event 0x580C (canSubj c o) else d
  d.fireTriggers fun g => g == .canObject c o

/-- Release an object's lock and deliver a waiting shadow frame (R341). -/
def Dev.canRelease (d : Dev) (c o : Nat) : Dev :=
  let x := (d.can c).obj o
  let d := d.setCan c ((d.can c).setObj o { x with locked := false, shadow := none, shadowLost := false })
  match x.shadow with
  | some f => d.canDeliver c o f.frame f.sofFrame x.shadowLost
  | none => d

/-- A task's read of a CAN signal, after it returned: a header read locks its receive object, a read of the signal named by
LASTW releases it (R341). DEDUCED: notes/assumptions/57.md. -/
def Dev.canTaskRead (d : Dev) (n : Nat) : Dev :=
  match d.region n with
  | .can =>
    let p := d.canPlace n
    let c := p.1
    let o := p.2.1
    if d.canReceives c o then
      let x := (d.can c).obj o
      if x.locked then (if p.2.2 = x.lastw then d.canRelease c o else d)
      else if p.2.2 = 0 then
        d.setCan c ((d.can c).setObj o { x with locked := true, lockFrame := d.sys.frame, lastw := fld (d.sigVal n) 16 5 })
      else d
    else d
  | _ => d

/-- The enabled receive object a frame is delivered to (R337). -/
def Dev.canMatch (d : Dev) (c : Nat) (f : CanFrame) : Option Nat :=
  (d.canObjects c).find? fun o => d.canReceives c o &&
    canIdOf (d.reg (Adr.canObjid c o)) == (if f.ide then f.id.toNat else f.id.toNat % 2 ^ 11, f.ide)

/-- A good frame: REC falls, except in restricted mode (ISO 11898-1, R346). -/
def Dev.canGoodReceive (d : Dev) (c : Nat) : Dev :=
  if d.canRestricted c then d
  else
    let r := (d.can c).recCnt
    if r = 0 then d
    else if r ≤ 127 then d.setCan c { d.can c with recCnt := r - 1 }
    else
      let (d, k) := d.nextFree
      d.setCan c { d.can c with recCnt := 119 + Config.recReturn k % 9 }

/-- An error outside an attempt (R346): REC advances by 1, or by 8, and after its own frame TEC by 8, except in restricted mode. -/
def Dev.canReceiveError (d : Dev) (c : Nat) (kind : CanRxError) : Dev :=
  let d := if kind == .detected then d.incReg (Adr.canErrfrm c) else d
  if d.canRestricted c then d
  else if kind == .overloadFlag then d.canCounters c ((d.can c).tec + 8) (d.can c).recCnt
  else d.canCounters c (d.can c).tec ((d.can c).recCnt + (if kind == .detected then 1 else 8))

/-- A frame arrives (R333, R337, R340, R341). -/
def Dev.canReceive (d : Dev) (c : Nat) (f : CanFrame) : Dev :=
  if f.fdf && !bit (d.reg (Adr.canCtrl c)) 4 then d.canReceiveError c .detected
  else
    let d := d.canGoodReceive c
    let sof := d.sys.frame - wordOfNat f.sofAge
    match (if f.remote then none else d.canMatch c f) with
    | none => d.incReg (Adr.canRxunm c)
    | some o =>
      let x := (d.can c).obj o
      if x.locked then
        let full := x.shadow.isSome
        let d := d.setCan c ((d.can c).setObj o { x with shadow := some { frame := f, sofFrame := sof },
                                                         shadowLost := x.shadowLost || full })
        if full then (d.incReg (Adr.canLostcnt c)).orReg (Adr.canFlags c) 4 else d
      else d.canDeliver c o f sof false

/-- CAN_FRAME_RECEIVED. -/
def execCanFrameReceived (can : CanId) (frame : CanFrame) (s : State) : Host.Outcome State Fault Refusal :=
  if s.dev.canOn can.val && !(s.dev.can can.val).busOff then .next { s with dev := s.dev.canReceive can.val frame }
  else .next s

/-- CAN_LOCK_TIMEOUT: a lock not released within 16 frames ends at the 16th boundary with 0x5808 (R341). -/
def execCanLockTimeout (can : CanId) (object : Fin 256) (s : State) : Host.Outcome State Fault Refusal :=
  let d := s.dev
  let x := (d.can can.val).obj object.val
  if x.locked && 16 ≤ (d.sys.frame - x.lockFrame).toNat then
    let d := (d.orReg (Adr.canFlags can.val) 0x20).eventRep 0x5808 (canSubj can.val object.val)
    .next { s with dev := d.canRelease can.val object.val }
  else .next s

/-- CAN_RX_TIMEOUT: no delivery within RXTO ms sets STALE on the header, with 0x580D (R342). -/
def execCanRxTimeout (can : CanId) (object : Fin 256) (s : State) : Host.Outcome State Fault Refusal :=
  let d := s.dev
  let c := can.val
  let o := object.val
  let x := (d.can c).obj o
  let rxto := fld (d.canCfg c o) 16 16
  if d.canOn c && d.canReceives c o && 0 < rxto && x.lastRx + rxto ≤ d.now && !x.rxTimedOut then
    let d := d.setCan c ((d.can c).setObj o { x with rxTimedOut := true })
    let d := (d.sigQuality (canSig c o) true false).orReg (Adr.canFlags c) 0x40
    .next { s with dev := d.eventRep 0x580D (canSubj c o) }
  else .next s

/-! ### Transmission (R343–R345) -/

/-- The conditions on a request header (R343). -/
def Dev.canHeaderOk (d : Dev) (c o : Nat) (h : Word) (valid : Bool) : Bool :=
  let len := fld h 0 7
  let fd := bit h 8
  valid && fld h 7 1 == 0 && fld h 10 22 == 0 && (!fd || bit (d.reg (Adr.canCtrl c)) 4)
    && (len ≤ 8 || (fd && ([12, 16, 20, 24, 32, 48].contains len || (len == 64 && d.canDouble c o))))

/-- The data words a header names, copied at the request. -/
def Dev.canTxData (d : Dev) (c o : Nat) (h : Word) : List Word :=
  (List.range ((fld h 0 7 + 3) / 4)).map fun k => d.sigVal (canSig c o + 2 + k)

/-- Make a request pending, with status 1; `at'` is the operating time of its header's write, from which its age counts (R344). -/
def Dev.canSubmit (d : Dev) (c o : Nat) (h : Word) (data : List Word) (at' : Nat) : Dev :=
  let x := (d.can c).obj o
  let d := d.setCan c (((d.can c).unkeep o).setObj o { x with pending := true, onBus := false, header := h, data := data, attempts := 0,
                                                              reqOp := at', next := none })
  d.canTxStatus c o 1 0

/-- A request header reached its home: a transmit request where object and controller are enabled (R343). -/
def Dev.canRequest (d : Dev) (c o : Nat) (h : Word) (valid : Bool) : Dev :=
  if !(d.canTransmits c o && d.canOn c) then d
  else if !d.canHeaderOk c o h valid then
    ((d.canTxStatus c o 4 0).orReg (Adr.canFlags c) 0x10).event 0x5807 (canSubj c o)
  else
    let x := (d.can c).obj o
    let data := d.canTxData c o h
    if x.onBus then d.setCan c ((d.can c).setObj o { x with next := some (h, data, d.now) })
    else
      let d := if x.pending then d.canTxStatus c o 8 x.attempts else d
      d.canSubmit c o h data d.now

/-- A task's write reaches its home; a request header of a CAN transmit object then makes its request. -/
def Dev.taskHome (d : Dev) (n : Nat) (v : Word) (valid : Bool) (tag : Nat) : Dev :=
  let forced := (d.sig n).forced
  let d := d.sigHome n v valid false tag
  match d.region n with
  | .can =>
    let p := d.canPlace n
    if p.2.2 = 0 && !forced then d.canRequest p.1 p.2.1 v valid else d
  | _ => d

/-- Drop every pending request older than its EXPIRY (R344). -/
def Dev.canExpire (d : Dev) (c : Nat) : Dev :=
  (d.can c).objs.foldl (fun s p =>
    let e := fld (s.canCfg c p.1) 16 16
    if p.2.pending && 0 < e && p.2.reqOp + e < s.now then
      let s := s.setCan c (((s.can c).unkeep p.1).setObj p.1 { p.2 with pending := false })
      ((s.canTxStatus c p.1 5 p.2.attempts).orReg (Adr.canFlags c) 0x10).eventRep 0x5809 (canSubj c p.1)
    else s) d

/-- The request that goes onto the bus next: the one kept through bus-off first, then arbitration order (R344, R347). -/
def Dev.canNext (d : Dev) (c : Nat) : Option Nat :=
  match (d.can c).kept with
  | some o => if ((d.can c).obj o).pending then some o else d.canWinner c
  | none => d.canWinner c

/-- Start an attempt. -/
def Dev.canAttempt (d : Dev) (c : Nat) : Dev :=
  let d := d.canExpire c
  match d.canNext c with
  | none => d
  | some o =>
    let x := (d.can c).obj o
    let k := { (d.can c).setObj o { x with pending := false, onBus := true, attempts := x.attempts + 1 } with kept := none }
    (d.setCan c k).canTxStatus c o 2 (x.attempts + 1)

/-- CAN_TRANSMIT_ATTEMPT: no attempt runs in restricted mode, in bus-off, or beside another. -/
def execCanTransmitAttempt (can : CanId) (s : State) : Host.Outcome State Fault Refusal :=
  let d := s.dev
  let x := d.can can.val
  if d.canOn can.val && !d.canRestricted can.val && !x.busOff && !(x.objs.any fun p => p.2.onBus) then
    .next { s with dev := d.canAttempt can.val }
  else .next s

/-- A failed attempt: a request written meanwhile replaces it, the retry limit drops it, or it is pending again. -/
def Dev.canAttemptFailed (d : Dev) (c o : Nat) : Dev :=
  let x := (d.can c).obj o
  let retry := fld (d.canCfg c o) 8 8
  match x.next with
  | some (h, data, t) => (d.canTxStatus c o 8 x.attempts).canSubmit c o h data t
  | none =>
    if 0 < retry && retry + 1 ≤ x.attempts then
      let d := d.setCan c ((d.can c).setObj o { x with pending := false, onBus := false })
      ((d.canTxStatus c o 6 x.attempts).orReg (Adr.canFlags c) 0x10).eventRep 0x580A (canSubj c o)
    else
      let d := d.setCan c ((d.can c).setObj o { x with pending := true, onBus := false })
      d.canTxStatus c o 1 x.attempts

/-- A successful attempt: status 3, TEC falls, and a request written meanwhile follows. -/
def Dev.canAttemptSent (d : Dev) (c o : Nat) : Dev :=
  let x := (d.can c).obj o
  let d := d.setCan c ((d.can c).setObj o { x with pending := false, onBus := false, next := none })
  let d := (d.canTxStatus c o 3 x.attempts).incReg (Adr.canTxcnt c)
  let d := if d.canRestricted c then d else d.setCan c { d.can c with tec := (d.can c).tec - 1 }
  match x.next with
  | some (h, data, t) => d.canSubmit c o h data t
  | none => d

/-- Transmitter-side errors: TEC advances by 8 for each, except in restricted mode, where the counters stand (R336, R346). -/
def Dev.canTransmitError (d : Dev) (c tec recv : Nat) (times : Nat := 1) : Dev :=
  if d.canRestricted c then d else d.canCounters c (tec + 8 * times) recv

/-- The end of the attempt on the bus (R345, R346). -/
def Dev.canAttemptEnd (d : Dev) (c o : Nat) (r : CanAttemptResult) : Dev :=
  let x := d.can c
  match r with
  | .sent => d.canAttemptSent c o
  | .lostArbitration => d.canAttemptFailed c o
  | .error => ((d.incReg (Adr.canErrfrm c)).canAttemptFailed c o).canTransmitError c x.tec x.recCnt
  | .errorMore more => ((d.incReg (Adr.canErrfrm c)).canAttemptFailed c o).canTransmitError c x.tec x.recCnt (1 + more)
  | .stuffArbitration => (d.incReg (Adr.canErrfrm c)).canAttemptFailed c o
  | .ackPassive =>
    let passive := x.tec ≥ 128 || x.recCnt ≥ 128
    let d := (d.incReg (Adr.canErrfrm c)).canAttemptFailed c o
    if passive then d else d.canTransmitError c x.tec x.recCnt

/-- CAN_ATTEMPT_END. -/
def execCanAttemptEnd (can : CanId) (result : CanAttemptResult) (s : State) : Host.Outcome State Fault Refusal :=
  match (s.dev.can can.val).objs.find? fun p => p.2.onBus with
  | none => .next s
  | some p => .next { s with dev := s.dev.canAttemptEnd can.val p.1 result }

/-- CAN_CMD: RECOVER with key 0x7E starts the recovery in bus-off; outside bus-off it is ignored (R347). -/
def Dev.canRecover (d : Dev) (c : Nat) (value : Word) : Dev :=
  if !bit value 0 then d
  else if fld value 24 8 ≠ 0x7E then d.event 0x580F (0x400 + c)
  else if (d.can c).busOff then d.setCan c { d.can c with recovering := true }
  else d

/-- CAN_CMD_RECOVER. -/
def execCanCmdRecover (can : CanId) (value : Word) (s : State) : Host.Outcome State Fault Refusal :=
  .next { s with dev := s.dev.canRecover can.val value }

/-- CAN_RECOVERY_END: 128 times 11 recessive bits; both counters are 0 again (R347). -/
def execCanRecoveryEnd (can : CanId) (s : State) : Host.Outcome State Fault Refusal :=
  let d := s.dev
  let x := d.can can.val
  if x.busOff && x.recovering && d.canOn can.val then
    let d := d.setCan can.val { x with busOff := false, recovering := false, tec := 0, recCnt := 0 }
    .next { s with dev := d.event 0x5802 (0x400 + can.val) }
  else .next s

/-- CAN_BUS_ERROR: an error seen as a receiver, or in an overload flag. PRESUMED: notes/assumptions/56.md. -/
def execCanBusError (can : CanId) (kind : CanRxError) (s : State) : Host.Outcome State Fault Refusal :=
  if s.dev.canOn can.val && !(s.dev.can can.val).busOff then .next { s with dev := s.dev.canReceiveError can.val kind }
  else .next s

end Sys2Proof.Machine
end

