-- ==== Sys2Proof/Machine/Flags.lean ====
section
/-! DEFINITION. The results and flags of the arithmetic operations (R65, R67–R69). -/

namespace Sys2Proof.Machine

/-- What an operation computes: the result, C and V. -/
structure AluOut where
  r : Word
  c : Bool
  v : Bool
deriving DecidableEq, Repr

/-- Set Z and N from a result, and C and V. -/
def Task.setFlags (x : Task) (o : AluOut) : Task := { x with z := o.r == 0, n := o.r.msb, c := o.c, v := o.v }

/-- A result that clears C and V. -/
def logicOut (r : Word) : AluOut := { r := r, c := false, v := false }

/-- ADD: C is the carry out of bit 31, V signed overflow. -/
def addOut (a b : Word) : AluOut :=
  { r := a + b, c := decide (2 ^ 32 ≤ a.toNat + b.toNat), v := sval a + sval b != sval (a + b) }

/-- SUB and CMP: C is the borrow, V signed overflow. -/
def subOut (a b : Word) : AluOut :=
  { r := a - b, c := decide (a.toNat < b.toNat), v := sval a - sval b != sval (a - b) }

/-- SHL: C is the last bit shifted out, 0 for a shift of 0. -/
def shlOut (a : Word) (n : Nat) : AluOut := { r := a <<< n, c := n != 0 && a.getLsbD (32 - n), v := false }

/-- SHR: zero fill. -/
def shrOut (a : Word) (n : Nat) : AluOut := { r := a >>> n, c := n != 0 && a.getLsbD (n - 1), v := false }

/-- SAR: sign fill. -/
def sarOut (a : Word) (n : Nat) : AluOut := { r := a.sshiftRight n, c := n != 0 && a.getLsbD (n - 1), v := false }

/-- MIN, signed. -/
def minOut (a b : Word) : AluOut := logicOut (if sval a ≤ sval b then a else b)

/-- MAX, signed. -/
def maxOut (a b : Word) : AluOut := logicOut (if sval a ≤ sval b then b else a)

/-- Whether an integer fits a signed 32-bit word. -/
def fits32 (i : Int) : Bool := decide (-(2 ^ 31) ≤ i) && decide (i < 2 ^ 31)

/-- MUL: V when the signed product does not fit in 32 bits. -/
def mulOut (a b : Word) : AluOut := { r := a * b, c := false, v := !fits32 (sval a * sval b) }

/-- MULH: the high half of the signed product. -/
def mulhOut (a b : Word) : AluOut := logicOut (wordOfInt ((sval a * sval b).fdiv (2 ^ 32)))

/-- MULHU: the high half of the unsigned product. -/
def mulhuOut (a b : Word) : AluOut := logicOut (wordOfNat (a.toNat * b.toNat / 2 ^ 32))

/-- Whether a signed division overflows: 0x8000_0000 ÷ −1. -/
def divOverflows (a b : Word) : Bool := a == 0x80000000 && b == 0xFFFFFFFF

/-- DIV: truncated towards zero; 0 for a divisor of 0, 0x7FFF_FFFF on overflow, both with V. -/
def divOut (a b : Word) : AluOut :=
  if b = 0 then { r := 0, c := false, v := true }
  else if divOverflows a b then { r := 0x7FFFFFFF, c := false, v := true }
  else logicOut (wordOfInt ((sval a).tdiv (sval b)))

/-- DIVU. -/
def divuOut (a b : Word) : AluOut :=
  if b = 0 then { r := 0, c := false, v := true } else logicOut (wordOfNat (a.toNat / b.toNat))

/-- REM: the sign of a; a itself for a divisor of 0, 0 on overflow, both with V. -/
def remOut (a b : Word) : AluOut :=
  if b = 0 then { r := a, c := false, v := true }
  else if divOverflows a b then { r := 0, c := false, v := true }
  else logicOut (wordOfInt ((sval a).tmod (sval b)))

/-- A saturating result: the written word, C cleared, V where it was limited (R69). -/
def satOut (i : Int) : AluOut :=
  if i ≥ 2 ^ 31 then { r := 0x7FFFFFFF, c := false, v := true }
  else if i < -(2 ^ 31) then { r := 0x80000000, c := false, v := true }
  else logicOut (wordOfInt i)

/-- MULQ: the Q16.16 product, rounded to nearest with ties away from zero. -/
def mulqOut (a b : Word) : AluOut := satOut (roundNearest (sval a * sval b) (2 ^ 16))

/-- DIVQ: the Q16.16 quotient, truncated; for b = 0 the limit on a's side, or 0, with V. -/
def divqOut (a b : Word) : AluOut :=
  if b = 0 then
    { r := if sval a > 0 then 0x7FFFFFFF else if sval a < 0 then 0x80000000 else 0, c := false, v := true }
  else satOut ((sval a * 2 ^ 16).tdiv (sval b))

/-- ABSS. -/
def abssOut (a : Word) : AluOut := satOut (sval a).natAbs

/-- NEGS. -/
def negsOut (a : Word) : AluOut := satOut (-(sval a))

/-- SHLS: a times 2 to the power n. -/
def shlsOut (a : Word) (n : Nat) : AluOut := satOut (sval a * 2 ^ n)

/-- CLAMP: the previous value limited to a to b, a where a > b; V when it was limited. -/
def clampOut (p a b : Word) : AluOut :=
  let r := if sval a > sval b then a
    else if sval p < sval a then a
    else if sval p > sval b then b else p
  { r := r, c := false, v := r != p }

/-- The eight tests of a condition field, negated by bit 3 (R66). -/
def condHolds (x : Task) (cond : BitVec 4) : Bool :=
  let test := match cond.toNat % 8 with
    | 0 => true
    | 1 => x.z
    | 2 => x.c
    | 3 => x.n
    | 4 => x.v
    | 5 => !x.c && !x.z
    | 6 => x.n == x.v
    | _ => !x.z && x.n == x.v
  if cond.toNat ≥ 8 then !test else test

end Sys2Proof.Machine
end

