-- ==== Sys2Proof/Machine/Operands.lean ====
section
/-! DEFINITION. The operand forms of the Falael instructions, and the one operation by which an instruction of the running
task executes: fetch, the checks of R98 and R76, the budget, and the count of its cycles (R45). -/

namespace Sys2Proof.Machine

/-- imm15, sign-extended (R62). -/
def sext15 (imm : BitVec 15) : Word := imm.signExtend 32

/-- The signal number of a signal operand (R72), formed in 32 bits. -/
def Task.sigNumber (x : Task) : SigOp → Nat
  | .abs sig => sig.toNat
  | .rel a base off =>
    let b : Word := match base.toNat with
      | 1 => x.ib
      | 2 => x.ax
      | _ => 0
    (b + x.g a + wordOfNat off.toNat).toNat

/-- What an instruction does: it takes a task fault, or it completes in some cycles with a new context of its task and an
effect on the rest of the module. -/
inductive Effect where
  | fault (code : Nat)
  | done (cycles : Nat) (x : Task) (eff : Dev → Dev)

/-- The context with the program counter at the following instruction. -/
def Task.advance (x : Task) : Task := { x with pc := x.pc + 4 }

/-- An instruction that only changes its task's context. -/
def Effect.regs (cycles : Nat) (x : Task) : Effect := .done cycles x.advance id

/-- Whether a count of cycles takes a task beyond its budget (R45). -/
def Task.over (x : Task) (cycles : Nat) : Bool := x.kind != .background && decide (x.budget < x.count + cycles)

/-- The cycles an instruction spent: in a frame-task round they count in the sheaf's load, in a BACKGROUND turn they use the
turn. -/
def Dev.spend (d : Dev) (c : Nat) (x : Task) (cycles : Nat) : Dev :=
  match x.kind with
  | .frame => d.roundCycles c (some x.door) cycles
  | .background => let k := d.core c; d.setCore c { k with turn := k.turn + cycles }
  | _ => d

/-- Apply an instruction's effect to the running task. -/
def Dev.apply (d : Dev) (c t : Nat) (x : Task) : Effect → Dev
  | .fault code => d.taskFault c t code (x.count + 1)
  | .done cycles x' eff =>
    if x.over cycles then d.taskFault c t (budgetCode x.kind) (x.budget + 1)
    else eff ((d.setTask c t { x' with count := x.count + cycles }).spend c x cycles)

/-- The code word at the running task's program counter. DESIGN CHOICE: notes/assumptions/9.md. -/
def Dev.fetch (d : Dev) (c t : Nat) : Option Word :=
  let pc := (d.task c t).pc.toNat
  if pc % 4 = 0 then (d.codeOf c t)[pc / 4]? else none

/-- Execute an instruction on a core: the running task's word must be this instruction's.  A word beyond the code is task
fault 0xA010, an undefined encoding 0xA009 (R76, R98); where no task runs, or it is at another instruction, the command's
occasion is not there. -/
def Dev.instr (d : Dev) (core : CoreId) (i : Instr) (body : Nat → Task → Effect) : Dev :=
  let c := core.val
  match (d.core c).cur with
  | none => d
  | some t =>
    let x := d.task c t
    if !d.scheduling c then d
    else match d.fetch c t with
      | none => d.taskFault c t 0xA010 (x.count + 1)
      | some w =>
        if (decode core 0 w).isNone then d.taskFault c t 0xA009 (x.count + 1)
        else if encode i = some w then d.apply c t x (body t x)
        else d

/-- The step of an instruction command. DESIGN CHOICE: notes/assumptions/9.md. DEDUCED: notes/assumptions/10.md. -/
def execInstr (core : CoreId) (i : Instr) (s : State) (body : Nat → Task → Effect) : Host.Outcome State Fault Refusal :=
  .next { s with dev := s.dev.instr core i body }

end Sys2Proof.Machine
end

