-- ==== Sys2Proof/Machine/Alu.lean ====
section
/-! DEFINITION. The register instructions of Falael: integer ALU, saturating fixed-point and immediates (R67–R69). -/

namespace Sys2Proof.Machine

/-- A three-register operation: d and the flags take its result. -/
def aluEffect (cycles : Nat) (d : Reg) (o : AluOut) (x : Task) : Effect := .regs cycles ((x.setG d o.r).setFlags o)

/-- A comparison: only the flags change. -/
def flagsEffect (o : AluOut) (x : Task) : Effect := .regs 1 (x.setFlags o)

/-- ADD: d = a + b. -/
def execAdd (core : CoreId) (d a b : Reg) (s : State) : Host.Outcome State Fault Refusal :=
  execInstr core (.add core d a b) s fun _ x => aluEffect 1 d (addOut (x.g a) (x.g b)) x

/-- SUB: d = a − b. -/
def execSub (core : CoreId) (d a b : Reg) (s : State) : Host.Outcome State Fault Refusal :=
  execInstr core (.sub core d a b) s fun _ x => aluEffect 1 d (subOut (x.g a) (x.g b)) x

/-- AND. -/
def execAnd (core : CoreId) (d a b : Reg) (s : State) : Host.Outcome State Fault Refusal :=
  execInstr core (.and core d a b) s fun _ x => aluEffect 1 d (logicOut (x.g a &&& x.g b)) x

/-- OR. -/
def execOr (core : CoreId) (d a b : Reg) (s : State) : Host.Outcome State Fault Refusal :=
  execInstr core (.or core d a b) s fun _ x => aluEffect 1 d (logicOut (x.g a ||| x.g b)) x

/-- XOR. -/
def execXor (core : CoreId) (d a b : Reg) (s : State) : Host.Outcome State Fault Refusal :=
  execInstr core (.xor core d a b) s fun _ x => aluEffect 1 d (logicOut (x.g a ^^^ x.g b)) x

/-- SHL by g(b)[4:0]. -/
def execShl (core : CoreId) (d a b : Reg) (s : State) : Host.Outcome State Fault Refusal :=
  execInstr core (.shl core d a b) s fun _ x => aluEffect 1 d (shlOut (x.g a) ((x.g b).toNat % 32)) x

/-- SHR by g(b)[4:0]. -/
def execShr (core : CoreId) (d a b : Reg) (s : State) : Host.Outcome State Fault Refusal :=
  execInstr core (.shr core d a b) s fun _ x => aluEffect 1 d (shrOut (x.g a) ((x.g b).toNat % 32)) x

/-- SAR by g(b)[4:0]. -/
def execSar (core : CoreId) (d a b : Reg) (s : State) : Host.Outcome State Fault Refusal :=
  execInstr core (.sar core d a b) s fun _ x => aluEffect 1 d (sarOut (x.g a) ((x.g b).toNat % 32)) x

/-- MIN, signed. -/
def execMin (core : CoreId) (d a b : Reg) (s : State) : Host.Outcome State Fault Refusal :=
  execInstr core (.min core d a b) s fun _ x => aluEffect 1 d (minOut (x.g a) (x.g b)) x

/-- MAX, signed. -/
def execMax (core : CoreId) (d a b : Reg) (s : State) : Host.Outcome State Fault Refusal :=
  execInstr core (.max core d a b) s fun _ x => aluEffect 1 d (maxOut (x.g a) (x.g b)) x

/-- CMP: the flags of a − b. -/
def execCmp (core : CoreId) (a b : Reg) (s : State) : Host.Outcome State Fault Refusal :=
  execInstr core (.cmp core a b) s fun _ x => flagsEffect (subOut (x.g a) (x.g b)) x

/-- TST: the flags of a AND b. -/
def execTst (core : CoreId) (a b : Reg) (s : State) : Host.Outcome State Fault Refusal :=
  execInstr core (.tst core a b) s fun _ x => flagsEffect (logicOut (x.g a &&& x.g b)) x

/-- MUL: the low half of the product. -/
def execMul (core : CoreId) (d a b : Reg) (s : State) : Host.Outcome State Fault Refusal :=
  execInstr core (.mul core d a b) s fun _ x => aluEffect 2 d (mulOut (x.g a) (x.g b)) x

/-- MULH. -/
def execMulh (core : CoreId) (d a b : Reg) (s : State) : Host.Outcome State Fault Refusal :=
  execInstr core (.mulh core d a b) s fun _ x => aluEffect 2 d (mulhOut (x.g a) (x.g b)) x

/-- MULHU. -/
def execMulhu (core : CoreId) (d a b : Reg) (s : State) : Host.Outcome State Fault Refusal :=
  execInstr core (.mulhu core d a b) s fun _ x => aluEffect 2 d (mulhuOut (x.g a) (x.g b)) x

/-- DIV. -/
def execDiv (core : CoreId) (d a b : Reg) (s : State) : Host.Outcome State Fault Refusal :=
  execInstr core (.div core d a b) s fun _ x => aluEffect 18 d (divOut (x.g a) (x.g b)) x

/-- DIVU. -/
def execDivu (core : CoreId) (d a b : Reg) (s : State) : Host.Outcome State Fault Refusal :=
  execInstr core (.divu core d a b) s fun _ x => aluEffect 18 d (divuOut (x.g a) (x.g b)) x

/-- REM. -/
def execRem (core : CoreId) (d a b : Reg) (s : State) : Host.Outcome State Fault Refusal :=
  execInstr core (.rem core d a b) s fun _ x => aluEffect 18 d (remOut (x.g a) (x.g b)) x

/-- ADDS. -/
def execAdds (core : CoreId) (d a b : Reg) (s : State) : Host.Outcome State Fault Refusal :=
  execInstr core (.adds core d a b) s fun _ x => aluEffect 1 d (satOut (sval (x.g a) + sval (x.g b))) x

/-- SUBS. -/
def execSubs (core : CoreId) (d a b : Reg) (s : State) : Host.Outcome State Fault Refusal :=
  execInstr core (.subs core d a b) s fun _ x => aluEffect 1 d (satOut (sval (x.g a) - sval (x.g b))) x

/-- MULQ. -/
def execMulq (core : CoreId) (d a b : Reg) (s : State) : Host.Outcome State Fault Refusal :=
  execInstr core (.mulq core d a b) s fun _ x => aluEffect 2 d (mulqOut (x.g a) (x.g b)) x

/-- DIVQ. -/
def execDivq (core : CoreId) (d a b : Reg) (s : State) : Host.Outcome State Fault Refusal :=
  execInstr core (.divq core d a b) s fun _ x => aluEffect 20 d (divqOut (x.g a) (x.g b)) x

/-- ABSS. -/
def execAbss (core : CoreId) (d a : Reg) (s : State) : Host.Outcome State Fault Refusal :=
  execInstr core (.abss core d a) s fun _ x => aluEffect 1 d (abssOut (x.g a)) x

/-- NEGS. -/
def execNegs (core : CoreId) (d a : Reg) (s : State) : Host.Outcome State Fault Refusal :=
  execInstr core (.negs core d a) s fun _ x => aluEffect 1 d (negsOut (x.g a)) x

/-- SHLS by g(b)[4:0]. -/
def execShls (core : CoreId) (d a b : Reg) (s : State) : Host.Outcome State Fault Refusal :=
  execInstr core (.shls core d a b) s fun _ x => aluEffect 1 d (shlsOut (x.g a) ((x.g b).toNat % 32)) x

/-- CLAMP: the previous g(d) limited to g(a) to g(b). DEDUCED: notes/assumptions/16.md. -/
def execClamp (core : CoreId) (d a b : Reg) (s : State) : Host.Outcome State Fault Refusal :=
  execInstr core (.clamp core d a b) s fun _ x => aluEffect 1 d (clampOut (x.g d) (x.g a) (x.g b)) x

/-- ADDI. -/
def execAddi (core : CoreId) (d a : Reg) (imm : BitVec 15) (s : State) : Host.Outcome State Fault Refusal :=
  execInstr core (.addi core d a imm) s fun _ x => aluEffect 1 d (addOut (x.g a) (sext15 imm)) x

/-- ANDI. -/
def execAndi (core : CoreId) (d a : Reg) (imm : BitVec 15) (s : State) : Host.Outcome State Fault Refusal :=
  execInstr core (.andi core d a imm) s fun _ x => aluEffect 1 d (logicOut (x.g a &&& sext15 imm)) x

/-- ORI. -/
def execOri (core : CoreId) (d a : Reg) (imm : BitVec 15) (s : State) : Host.Outcome State Fault Refusal :=
  execInstr core (.ori core d a imm) s fun _ x => aluEffect 1 d (logicOut (x.g a ||| sext15 imm)) x

/-- XORI. -/
def execXori (core : CoreId) (d a : Reg) (imm : BitVec 15) (s : State) : Host.Outcome State Fault Refusal :=
  execInstr core (.xori core d a imm) s fun _ x => aluEffect 1 d (logicOut (x.g a ^^^ sext15 imm)) x

/-- SHLI: shift by imm[4:0]. -/
def execShli (core : CoreId) (d a : Reg) (amount : BitVec 5) (s : State) : Host.Outcome State Fault Refusal :=
  execInstr core (.shli core d a amount) s fun _ x => aluEffect 1 d (shlOut (x.g a) amount.toNat) x

/-- SHRI: shift by imm[4:0]. -/
def execShri (core : CoreId) (d a : Reg) (amount : BitVec 5) (s : State) : Host.Outcome State Fault Refusal :=
  execInstr core (.shri core d a amount) s fun _ x => aluEffect 1 d (shrOut (x.g a) amount.toNat) x

/-- SARI: shift by imm[4:0]. -/
def execSari (core : CoreId) (d a : Reg) (amount : BitVec 5) (s : State) : Host.Outcome State Fault Refusal :=
  execInstr core (.sari core d a amount) s fun _ x => aluEffect 1 d (sarOut (x.g a) amount.toNat) x

/-- CMPI: the flags of a − imm. -/
def execCmpi (core : CoreId) (a : Reg) (imm : BitVec 15) (s : State) : Host.Outcome State Fault Refusal :=
  execInstr core (.cmpi core a imm) s fun _ x => flagsEffect (subOut (x.g a) (sext15 imm)) x

/-- LDU: bits [19:0] of the word shifted left by 12; no flags. -/
def execLdu (core : CoreId) (d : Reg) (imm20 : BitVec 20) (s : State) : Host.Outcome State Fault Refusal :=
  execInstr core (.ldu core d imm20) s fun _ x => .regs 1 (x.setG d (imm20.setWidth 32 <<< 12))

end Sys2Proof.Machine
end

