-- ==== Sys2Proof/Machine/Control.lean ====
section
/-! DEFINITION. Branches, calls, jumps, task control, axis selection and the undefined encodings (R76–R81, R98). -/

namespace Sys2Proof.Machine

/-- Whether an address is that of a code word. -/
def inCode (code : List Word) (target : Int) : Bool :=
  decide (0 ≤ target) && decide (target < 4 * code.length) && target % 4 == 0

/-- B and BL: 1 cycle when not taken, 2 when taken; a taken branch out of the code is task fault 0xA010 (R76). -/
def branchEffect (c : Nat) (code : List Word) (cond : BitVec 4) (off : BitVec 21) (link : Bool) (x : Task) : Effect :=
  if condHolds x cond then
    let target : Int := (x.pc.toNat : Int) + 4 * off.toInt
    if inCode code target then
      let y := if link then x.setG 31 (x.pc + 4) else x
      .done 2 { y with pc := wordOfInt target } (fun d => d.traceBranch c true)
    else .fault 0xA010
  else .done 1 x.advance (fun d => d.traceBranch c false)

/-- B. -/
def execB (core : CoreId) (cond : BitVec 4) (off21 : BitVec 21) (s : State) : Host.Outcome State Fault Refusal :=
  execInstr core (.b core cond off21) s fun t x => branchEffect core.val (s.dev.codeOf core.val t) cond off21 false x

/-- BL: g31 takes the address of the following instruction when the branch is taken. -/
def execBl (core : CoreId) (cond : BitVec 4) (off21 : BitVec 21) (s : State) : Host.Outcome State Fault Refusal :=
  execInstr core (.bl core cond off21) s fun t x => branchEffect core.val (s.dev.codeOf core.val t) cond off21 true x

/-- JR and CALLR: the target is read before g31 is written (R77). -/
def jumpEffect (c : Nat) (code : List Word) (a : Reg) (link : Bool) (x : Task) : Effect :=
  let target := x.g a
  if inCode code target.toNat then
    let y := if link then x.setG 31 (x.pc + 4) else x
    .done 2 { y with pc := target } (fun d => d.flowPacket c 0x04 (leBytes 4 target.toNat))
  else .fault 0xA010

/-- JR. -/
def execJr (core : CoreId) (a : Reg) (s : State) : Host.Outcome State Fault Refusal :=
  execInstr core (.jr core a) s fun t x => jumpEffect core.val (s.dev.codeOf core.val t) a false x

/-- CALLR. -/
def execCallr (core : CoreId) (a : Reg) (s : State) : Host.Outcome State Fault Refusal :=
  execInstr core (.callr core a) s fun t x => jumpEffect core.val (s.dev.codeOf core.val t) a true x

/-! ### Task control (R78–R80) -/

/-- The running task stops in a state, and the core goes on to its next choice (R79). -/
def Dev.stopTask (d : Dev) (c t : Nat) (st : TaskSt) (event : Nat) : Dev :=
  let x := d.task c t
  let d := d.leave c t { x with st := st }
  let k := d.core c
  let d := if x.kind == .background then d.setCore c { k with bgNext := t + 1 } else d
  (d.traceTask c t event 0).choose c

/-- END: the release or activation ends; a BACKGROUND task stops until the next entry to RUN or restart (R38). -/
def endEffect (c t : Nat) (x : Task) : Effect :=
  let st := if x.kind == .background then TaskSt.stopped else TaskSt.idle
  .done 1 x.advance (fun d => d.stopTask c t st 0)

/-- END. -/
def execEndTask (core : CoreId) (s : State) : Host.Outcome State Fault Refusal :=
  execInstr core (.endTask core) s fun t x => endEffect core.val t x

/-- Whether a kind may WAIT or YIELD (R38). -/
def mayWait (k : TaskKind) : Bool := k == .event || k == .background

/-- YIELD: ready again at once, behind the tasks of its priority that are ready (R40). -/
def Dev.yieldTask (d : Dev) (c t : Nat) : Dev :=
  ((d.takeOrd c).setTask c t { d.task c t with ord := d.nextOrd }).stopTask c t .ready 2

/-- YIELD as an effect; task fault 0xA008 in a FRAME or COARSE task. -/
def yieldEffect (c t : Nat) (x : Task) : Effect :=
  if mayWait x.kind then .done 1 x.advance (fun d => d.yieldTask c t) else .fault 0xA008

/-- YIELD. -/
def execYield (core : CoreId) (s : State) : Host.Outcome State Fault Refusal :=
  execInstr core (.yield core) s fun t x => yieldEffect core.val t x

/-- A WAIT in a state; task fault 0xA008 in a FRAME or COARSE task. -/
def waitEffect (c t : Nat) (st : TaskSt) (x : Task) : Effect :=
  if mayWait x.kind then .done 1 x.advance (fun d => d.stopTask c t st 1) else .fault 0xA008

/-- WAIT.EV: until a trigger is queued; a BACKGROUND task, which has none, waits until the next entry to RUN or restart (R80). -/
def execWaitEv (core : CoreId) (s : State) : Host.Outcome State Fault Refusal :=
  execInstr core (.waitEv core) s fun t x =>
    waitEffect core.val t .waitEv x

/-- WAIT.F: until the round of the next frame has ended (R40). -/
def execWaitF (core : CoreId) (s : State) : Host.Outcome State Fault Refusal :=
  execInstr core (.waitF core) s fun t x => waitEffect core.val t (.waitFrame s.dev.sys.frame) x

/-- WAIT.T: a count of frames g(a) + imm, of at most 16,777,215; 0 or below acts as YIELD (R78); the sum
is formed in 32 bits and taken signed. DESIGN CHOICE: notes/assumptions/71.md. -/
def waitTimeEffect (c t : Nat) (frame : Word) (a : Reg) (imm : BitVec 15) (x : Task) : Effect :=
  let n := sval (x.g a + sext15 imm)
  if n ≤ 0 then yieldEffect c t x
  else waitEffect c t (.waitTime (frame + wordOfNat (satNat 16777215 n.toNat))) x

/-- WAIT.T. -/
def execWaitT (core : CoreId) (a : Reg) (imm : BitVec 15) (s : State) : Host.Outcome State Fault Refusal :=
  execInstr core (.waitT core a imm) s fun t x => waitTimeEffect core.val t s.dev.sys.frame a imm x

/-- AXSEL: ax takes slot 0 of the axis with index g(a) + imm in the door; task fault 0xA00C beyond it, and in a system task
(R81). -/
def axselEffect (axes : List Nat) (a : Reg) (imm : BitVec 15) (x : Task) : Effect :=
  let i := sval (x.g a + sext15 imm)
  match (if 0 ≤ i then axes[i.toNat]? else none) with
  | some n => .regs 1 { x with ax := wordOfNat (slotSig n 0) }
  | none => .fault 0xA00C

/-- AXSEL. -/
def execAxsel (core : CoreId) (a : Reg) (imm : BitVec 15) (s : State) : Host.Outcome State Fault Refusal :=
  execInstr core (.axsel core a imm) s fun t x => axselEffect (s.dev.axesOf core.val t) a imm x

/-- The running task meets an undefined encoding (0xA009), the end of its code (0xA010) or, where `ecc` says so, an uncorrectable
error (0xA00F); there is no effect before the fault (R98). -/
def Dev.badWord (d : Dev) (core : CoreId) (ecc : Bool) : Dev :=
  let c := core.val
  match (d.core c).cur with
  | none => d
  | some t =>
    let count := (d.task c t).count + 1
    if !d.scheduling c then d
    else match d.fetch c t with
      | none => d.taskFault c t 0xA010 count
      | some w =>
        if ecc then (if c < 16 then d.orReg (Adr.sfFlags c) 4 else d).taskFault c t 0xA00F count
        else if (decode core 0 w).isNone then d.taskFault c t 0xA009 count
        else d

/-- A single-bit error in a sheaf's SRAM is corrected and counted (R57, R60). -/
def Dev.eccCorrected (d : Dev) (c : Nat) : Dev :=
  if c < 16 then (d.incReg (Adr.sfEcccnt c)).orReg (Adr.sfFlags c) 2 else d

/-- An uncorrectable error in a fixed slot of an axis that a sheaf holds stops the axis with cause 12 (R57, R134).
DESIGN CHOICE: notes/assumptions/68.md. -/
def Dev.eccSlot (d : Dev) (c axis : Nat) : Dev :=
  if c < 16 && d.axisSheaf axis == some c && d.axConfigured axis then
    ((d.orReg (Adr.sfFlags c) 4).raiseStop axis 12 2 0xA00F).event 0xA00F 0xFFFF
  else d

/-- UNDEFINED_ENCODING: the word at the program counter is an undefined encoding, or an ECC error is met (R57, R98).
DESIGN CHOICE: notes/assumptions/68.md. -/
def execUndefinedEncoding (core : CoreId) (ecc : EccError) (s : State) : Host.Outcome State Fault Refusal :=
  .next { s with dev := match ecc with
    | .absent => s.dev.badWord core false
    | .task => s.dev.badWord core true
    | .corrected => if s.dev.operating then s.dev.eccCorrected core.val else s.dev
    | .slot axis => if s.dev.operating then s.dev.eccSlot core.val axis.val else s.dev }

end Sys2Proof.Machine
end

