-- ==== Sys2Proof/Machine/SignalInstr.lean ====
section
/-! DEFINITION. The signal instructions and the write buffer (R49–R53, R72–R75). -/

namespace Sys2Proof.Machine

/-- Limit a cost to a range. DEDUCED: notes/assumptions/11.md. -/
def clampNat (lo hi n : Nat) : Nat := if n < lo then lo else if hi < n then hi else n

/-- The cycles of a read (R28): fixed in tier 0 and for a signal that does not exist, else what the bus took, within the
tier's range; in tier 1 `wait` is the longest wait for a CAN delivery in progress (R340). DEDUCED: notes/assumptions/11.md. -/
def readCycles (tier : Tier) (sigExists : Bool) (wait stall : Nat) : Nat :=
  if !sigExists then 1
  else match tier with
    | .own => 1
    | .pool => clampNat 4 (6 + wait) stall
    | .cross => clampNat 12 16 stall
    | .dram => clampNat 1 240 stall

/-- The core cycles that a read of a signal may wait for a delivery: up to 40 for a receive object of a controller that is on (R340). -/
def Dev.canWait (d : Dev) (n : Nat) : Nat :=
  let p := d.canPlace n
  if d.region n = .can ∧ d.canReceives p.1 p.2.1 ∧ d.canOn p.1 then 40 else 0

/-- What a task reads (R49): its own write on its way, else the signal. DEDUCED: notes/assumptions/14.md. -/
def Dev.taskSees (d : Dev) (c t n : Nat) : Sig :=
  let s := d.sigFrom c n
  match (if s.forced then none else d.ownPost c t n) with
  | some p =>
    { value := p.value, q := (s.q &&& 0x2C) ||| BitVec.ofNat 8 (b2n p.valid), tag := BitVec.ofNat 8 (coreTag c),
      stamp := BitVec.ofNat 16 p.frame.toNat }
  | none => s

/-- The reads that event counters count (R393). DEDUCED: notes/assumptions/15.md. -/
def Dev.countRead (d : Dev) (c : Nat) (tier : Tier) (sigExists : Bool) : Dev :=
  if !sigExists then d
  else match tier with
    | .own => d
    | .pool => d.countEvent 4 c 1
    | .cross => d.countEvent 6 c 1
    | .dram => (d.countEvent 5 c 1).countEvent 8 0 1

/-- A read by a task: whether FRAME and tier 2 meet (R53), the cost, the flags, and the marks the read leaves. -/
def readEffect (d : Dev) (c t n stall : Nat) (put : Task → Sig → Task) (x : Task) : Effect :=
  let here := d.sigExists n
  let tier := d.tierOf c n
  if x.kind == .frame && here && tier == .dram then .fault 0xA00D
  else
    let s := if here then d.taskSees c t n else {}
    let own := (d.ownPost c t n).isSome && !(d.sig n).forced
    let x := put x s
    let x := { x with z := s.value == 0, n := s.value.msb, c := s.q.getLsbD 0, v := s.q.getLsbD 1 || s.q.getLsbD 2 }
    .done (readCycles tier here (d.canWait n) stall) x.advance (fun d =>
      let d := d.countRead c tier here
      if own || !here then d else (d.sigMark n).canTaskRead n)

/-- SRD. -/
def execSrd (core : CoreId) (reg : Reg) (op : SigOp) (stall : Nat) (s : State) : Host.Outcome State Fault Refusal :=
  execInstr core (.srd core reg op stall) s fun t x =>
    readEffect s.dev core.val t (x.sigNumber op) stall (fun x v => x.setG reg v.value) x

/-- The quality word of SRDQ: quality, writer tag, frame stamp (R73). -/
def Sig.qualityWord (v : Sig) : Word := fields [(0, v.q.toNat), (8, v.tag.toNat), (16, v.stamp.toNat)]

/-- SRDQ: the quality word goes to the next register. -/
def execSrdq (core : CoreId) (reg : Reg) (op : SigOp) (stall : Nat) (s : State) : Host.Outcome State Fault Refusal :=
  execInstr core (.srdq core reg op stall) s fun t x =>
    readEffect s.dev core.val t (x.sigNumber op) stall
      (fun x v => (x.setG reg v.value).setG (reg + 1) v.qualityWord) x

/-! ### Writes (R50, R51, R75) -/

/-- The posted write at an index of a core's buffer reaches its home; a task that waited for it may go on, or is released (R79).
DESIGN CHOICE: notes/assumptions/12.md. -/
def Dev.arrive (d : Dev) (c i : Nat) : Dev :=
  let k := d.core c
  match k.wbuf[i]? with
  | none => d
  | some p =>
    let d := d.setCore c { k with wbuf := k.wbuf.eraseIdx i }
    let d := d.countStore p.sig
    ((d.taskHome p.sig p.value p.valid (coreTag c)).releaseDue c p.task).kick c

/-- The entry of a full buffer that leaves first: the oldest of those that are home within 40 cycles, else the oldest (R51). -/
def firstHome (l : List Post) : Nat := (l.findIdx? fun p => p.home != 2).getD 0

/-- Bring entries home until one of the 16 is free; a migration may have left more (R75, R116). -/
def Dev.freeEntry (d : Dev) (c : Nat) : Nat → Dev
  | 0 => d
  | n + 1 => if (d.core c).wbuf.length < 16 then d else (d.arrive c (firstHome (d.core c).wbuf)).freeEntry c n

/-- Post a write; with all 16 entries in use the core stalls until one is free (R75).
DESIGN CHOICE: notes/assumptions/12.md. -/
def Dev.post (d : Dev) (c : Nat) (p : Post) : Dev :=
  let d := d.freeEntry c (d.core c).wbuf.length
  let k := d.core c
  d.setCore c { k with wbuf := k.wbuf ++ [p] }

/-- The stall of a write that finds the buffer full: up to 40 cycles where entries for tier 1 or another sheaf make the room, two frames
where an entry for tier 2 must (R51). DESIGN CHOICE: notes/assumptions/12.md. -/
def Dev.writeStall (d : Dev) (c : Nat) : Nat :=
  let l := (d.core c).wbuf
  if l.length < 16 then 0
  else Config.writeStall d.sys.free % (if l.length - 15 ≤ (l.filter fun p => p.home != 2).length then 41 else 25001)

/-- A write by a task: refused with C = 0, or C = 1 and home at once in the sheaf's own tier 0, else posted. -/
def writeEffect (d : Dev) (c t n : Nat) (v : Word) (valid : Bool) (x : Task) : Effect :=
  let here := d.sigExists n
  if x.kind == .frame && here && d.tierOf c n == .dram then .fault 0xA00D
  else if !here || !d.sigAllows n (d.writerOf c t) then .regs 1 { x with c := false }
  else if d.homeCode n = 16 + c then
    .done 1 { x with c := true }.advance (fun d => d.taskHome n v valid (coreTag c))
  else
    let stall := d.writeStall c
    let p : Post := { task := t, sig := n, value := v, valid := valid, home := d.homeCode n, frame := d.sys.frame }
    .done (1 + stall) { x with c := true }.advance (fun d =>
      let d := if (d.core c).wbuf.length ≥ 16 then (d.nextFree.1).countEvent 7 c stall else d
      d.post c p)

/-- SWR. -/
def execSwr (core : CoreId) (reg : Reg) (op : SigOp) (s : State) : Host.Outcome State Fault Refusal :=
  execInstr core (.swr core reg op) s fun t x => writeEffect s.dev core.val t (x.sigNumber op) (x.g reg) true x

/-- SWRI: the same with VALID cleared. -/
def execSwri (core : CoreId) (reg : Reg) (op : SigOp) (s : State) : Host.Outcome State Fault Refusal :=
  execInstr core (.swri core reg op) s fun t x => writeEffect s.dev core.val t (x.sigNumber op) (x.g reg) false x

/-- POSTED_WRITE_ARRIVES: an entry reaches its home, unless an earlier write of the same task to that home is still on its
way (R51). DESIGN CHOICE: notes/assumptions/13.md. -/
def execPostedWriteArrives (core : CoreId) (entry : Fin 16) (s : State) : Host.Outcome State Fault Refusal :=
  let d := s.dev
  let l := (d.core core.val).wbuf
  match l[entry.val]? with
  | none => .next s
  | some p =>
    if (l.take entry.val).any fun q => q.task == p.task && q.home == p.home then .next s
    else .next { s with dev := d.arrive core.val entry.val }

/-- Every write on its way that must be home by now: tier 1 and other sheaves before the next round, tier 2 within two
frames (R51). DESIGN CHOICE: notes/assumptions/13.md. -/
def Dev.drainPosts (d : Dev) (c : Nat) : Dev :=
  (d.core c).wbuf.foldl (fun s p =>
    if p.home = 2 && (s.sys.frame - p.frame).toNat < 2 then s
    else
      let k := s.core c
      match k.wbuf.findIdx? fun q => q == p with
      | some i => s.arrive c i
      | none => s) d

end Sys2Proof.Machine
end

