-- ==== Sys2Proof/Machine/Profile.lean ====
section
/-! DEFINITION. Profiles, caps, stop-ramp bands and gearing tables as numbers (R128–R133, R136, R144, R145). Positions and
velocities are in 1/65,536, profile time and the rate r in 1/2³². -/

namespace Sys2Proof.Machine

/-- One unit of a position or a velocity. -/
def one16 : Nat := 65536

/-- One frame of profile time; the rate r = 1. -/
def one32 : Nat := 4294967296

/-- A segment with its number, its start in coarse ticks, and the values at both of its ends (R129). -/
structure Piece where
  idx : Nat
  start : Nat
  dur : Nat
  e0 : Int
  v0 : Int
  e1 : Int
  v1 : Int
deriving DecidableEq, Repr

/-- The segments of a table as pieces; E(−1) = V(−1) = 0. -/
def pieces : (idx start : Nat) → (e v : Int) → List Segment → List Piece
  | _, _, _, _, [] => []
  | i, t, e, v, s :: ss =>
    { idx := i, start := t, dur := s.dur, e0 := e, v0 := v, e1 := s.endp, v1 := s.vel }
      :: pieces (i + 1) (t + s.dur) s.endp s.vel ss

/-- The length of a profile in coarse ticks, T(last). -/
def profTicks (segs : List Segment) : Nat := (segs.map (·.dur)).sum

/-- The end of a profile, 8 T(last), in profile time. -/
def profEnd (segs : List Segment) : Nat := 8 * profTicks segs * one32

/-- The piece that holds a profile time. -/
def pieceAt (tau : Nat) (ps : List Piece) : Option Piece := ps.find? fun p => tau < 8 * (p.start + p.dur) * one32

/-- The numerator p and denominator q of s at a profile time. -/
def Piece.s (c : Piece) (tau : Nat) : Int × Int := ((tau : Int) - 8 * c.start * one32, 8 * c.dur * one32)

/-- u(τ) as a numerator over q³·2³⁰ (R129). -/
def Piece.u (c : Piece) (p q : Int) : Int :=
  (2 * p ^ 3 - 3 * p ^ 2 * q + q ^ 3) * c.e0 + (p ^ 3 - 2 * p ^ 2 * q + p * q ^ 2) * (c.dur * c.v0)
    + (-2 * p ^ 3 + 3 * p ^ 2 * q) * c.e1 + (p ^ 3 - p ^ 2 * q) * (c.dur * c.v1)

/-- The coefficients of du/ds = A s² + B s + C, times 2³⁰. -/
def Piece.abc (c : Piece) : Int × Int × Int :=
  let t0 := c.dur * c.v0
  let t1 := c.dur * c.v1
  (6 * c.e0 + 3 * t0 - 6 * c.e1 + 3 * t1, -6 * c.e0 - 4 * t0 + 6 * c.e1 - 2 * t1, t0)

/-- du/ds at s = p/q as a numerator over q²·2³⁰. -/
def Piece.du (c : Piece) (p q : Int) : Int :=
  let (a, b, k) := c.abc
  a * p ^ 2 + b * p * q + k * q ^ 2

/-- The nominal position, from a start and a displacement (R129). DEDUCED: notes/assumptions/21.md. -/
def nominalX (start delta : Int) (c : Piece) (tau : Nat) : Int :=
  let (p, q) := c.s tau
  start + roundDiv (delta * c.u p q) (q ^ 3 * 2 ^ 30).toNat

/-- The nominal velocity as an exact fraction: numerator and denominator. -/
def nominalV (delta : Int) (c : Piece) (tau : Nat) : Int × Nat :=
  let (p, q) := c.s tau
  (delta * c.du p q, (q ^ 2 * 2 ^ 30 * (8 * c.dur)).toNat)

/-- An integer square root, limited to 2¹⁷ − 1. -/
def isqrt17 (n : Nat) : Nat :=
  (List.range 17).foldl (fun r i => let t := r + 2 ^ (16 - i); if t * t ≤ n then t else r) 0

/-- ⌊2¹⁶·cap ÷ peak⌋ for a peak speed num/den; no limit for a peak of 0. -/
def speedLimit (cap : Nat) (num den : Nat) : Nat := if num = 0 then one16 else one16 * cap * den / num

/-- ⌊2¹⁶·√(cap ÷ peak)⌋ for a peak acceleration num/den. -/
def accelLimit (cap : Nat) (num den : Nat) : Nat := if num = 0 then one16 else isqrt17 (2 ^ 32 * cap * den / num)

/-- The limit one piece sets on the stretch factor, from s = p/q on: the speeds at both ends and at the extremum between
them, and the accelerations at both ends (R131). -/
def Piece.limit (c : Piece) (delta : Int) (vcap acap : Nat) (p q : Int) : Nat :=
  let (a, b, k) := c.abc
  let v (num : Int) (den : Int) : Nat := speedLimit vcap (delta * num).natAbs (den.toNat * 2 ^ 30 * (8 * c.dur))
  let g (num : Int) (den : Int) : Nat := accelLimit acap (delta * num).natAbs (den.toNat * 2 ^ 30 * (64 * c.dur * c.dur))
  let inside : Bool := a != 0 && (if a > 0 then p * (2 * a) < -b * q && -b < 2 * a else p * (2 * a) > -b * q && -b > 2 * a)
  let vert : Nat := if inside then v (4 * a * k - b ^ 2) (4 * a.natAbs) else one16
  ([v (c.du p q) (q ^ 2), v (a + b + k) 1, vert, g (2 * a * p + b * q) q, g (2 * a + b) 1]).foldl Nat.min one16

/-- The target stretch factor over the rest of a move from τ onwards, in Q16.16 (R131); where τ lies on the boundary of two segments
only what follows counts. DESIGN CHOICE: notes/assumptions/77.md. -/
def stretchTarget (segs : List Segment) (delta : Int) (vcap acap tau : Nat) : Nat :=
  (pieces 0 0 0 0 segs).foldl (fun r c =>
    let (p, q) := c.s tau
    if p ≥ q then r else Nat.min r (c.limit delta vcap acap (if p < 0 then 0 else p) q)) one16

/-! ### Stop ramps (R133, R136) -/

/-- DEC of the band with the largest VFROM not above the speed. -/
def bandDec (bands : List Band) (speed : Nat) : Nat :=
  match bands.find? fun b => b.vfrom ≤ speed with
  | some b => b.dec
  | none => 0

/-- One frame of a ramp: the next velocity. -/
def rampV (bands : List Band) (v : Int) : Int :=
  let dec := bandDec bands v.natAbs
  if v ≥ 0 then v - Nat.min v.natAbs dec else v + Nat.min v.natAbs dec

/-- Velocity changed by at most `step` towards a target, without overshoot (R140). -/
def toward (v target : Int) (step : Nat) : Int :=
  if v < target then min (v + step) target else max (v - step) target

/-! ### Gearing tables (R144, R145) -/

/-- G(m), the integral of the ratio from M(0) to a master position in 1/65,536, as a fraction in units of 1/2³². -/
def gearIntegral : List GearEntry → (r0 : Int) → Int → Int × Nat
  | [], _, _ => (0, 1)
  | e :: es, r0, m =>
    let start := e.m * one16
    if m ≤ start then (0, 1)
    else
      let b : Int := e.blend * one16
      let stop : Int := match es with
        | f :: _ => min m (f.m * one16)
        | [] => m
      let t := stop - start
      let here : Int × Nat :=
        if t < b then ((2 * b * r0 * t + (e.ratio - r0) * t ^ 2), (2 * b).toNat)
        else ((r0 + e.ratio) * b + 2 * e.ratio * (t - b), 2)
      let rest := gearIntegral es e.ratio m
      (here.1 * rest.2 + rest.1 * here.2, here.2 * rest.2)

/-- The entry in use at a master position and the ratio in effect (R145). -/
def gearRatio : List GearEntry → (i : Nat) → (r0 : Int) → Int → Nat × Int
  | [], i, r0, _ => (i - 1, r0)
  | e :: es, i, r0, m =>
    let start := e.m * one16
    if m < start then (i - 1, r0)
    else
      let t := m - start
      let b : Int := e.blend * one16
      match es with
      | f :: _ =>
        if f.m * one16 ≤ m then gearRatio es (i + 1) e.ratio m
        else if t < b then (i, r0 + roundDiv ((e.ratio - r0) * t) b.toNat) else (i, e.ratio)
      | [] => if t < b then (i, r0 + roundDiv ((e.ratio - r0) * t) b.toNat) else (i, e.ratio)

/-- The slave's position: x_{g−1} + G(m_j) − G(m_e), in 1/65,536. -/
def gearX (t : List GearEntry) (slaveX me mj : Int) : Int :=
  let a := gearIntegral t 0 mj
  let b := gearIntegral t 0 me
  slaveX + roundDiv (a.1 * b.2 - b.1 * a.2) (a.2 * b.2 * one16)

end Sys2Proof.Machine
end

