-- ==== Sys2Proof/Machine/Motion.lean ====
section
/-! DEFINITION. The motion pipeline (R82–R88, R123–R154): requests and their checks, axis states, moves, stop ramps, homing,
gearing, current mode, and the slots it writes at the end of every frame. -/

namespace Sys2Proof.Machine

/-! ### Parameters and positions -/

/-- A fixed slot of an axis. -/
def Dev.par (d : Dev) (n slot : Nat) : Word := d.sigVal (slotSig n slot)

/-- A fixed slot read as a signed number. -/
def Dev.parI (d : Dev) (n slot : Nat) : Int := sval (d.par n slot)

/-- A fixed slot read as a magnitude; a negative one counts as 0. -/
def Dev.parN (d : Dev) (n slot : Nat) : Nat := (d.parI n slot).toNat

/-- The commanded position in user coordinates (R123). -/
def Motion.x (m : Motion) : Int := (m.raw + m.homeOff).toInt

/-- The motion state with a commanded position. -/
def Motion.atX (m : Motion) (x : Int) : Motion := { m with raw := BitVec.ofInt 48 x - m.homeOff }

/-- The way from one position to another: positions wrap at 48 bits (R123). -/
def wayTo (from_ to_ : Int) : Int := (BitVec.ofInt 48 (to_ - from_)).toInt

/-- The integer part of a position, rounded towards minus infinity. -/
def intPart (x : Int) : Int := x.fdiv one16

/-- The integer part of a position as a word. -/
def posWord (x : Int) : Word := wordOfInt (intPart x)

/-- The sign of an integer. -/
def sgn (x : Int) : Int := if x > 0 then 1 else if x < 0 then -1 else 0

/-- States in which an axis is under way. -/
def AxState.underway : AxState → Bool
  | .move => true
  | .stop => true
  | .home => true
  | .gear => true
  | _ => false

/-- Vcap: the lower of the MV.SPEED cap and VMAX (R131). -/
def Dev.vcap (d : Dev) (n : Nat) : Nat :=
  match (d.axis n).motion.spdCap with
  | some c => Nat.min c.toNat (d.parN n 128)
  | none => d.parN n 128

/-- Acap: the lower of the MV.ACCEL cap and AMAX (R131). -/
def Dev.acap (d : Dev) (n : Nat) : Nat :=
  match (d.axis n).motion.accCap with
  | some c => Nat.min c.toNat (d.parN n 129)
  | none => d.parN n 129

/-- The segments of a profile table of the running image. -/
def Dev.profile (d : Dev) (k : Nat) : Option (List Segment) :=
  match d.image with
  | some im => (im.profiles.find? fun p => p.1 == k).map (·.2)
  | none => none

/-- A gearing table of the running image. -/
def Dev.gearTable (d : Dev) (k : Nat) : Option (List GearEntry) :=
  match d.image with
  | some im => (im.gears.find? fun p => p.1 == k).map (·.2)
  | none => none

/-- The bands of an axis's stop ramp. -/
def Dev.bands (d : Dev) (n ramp : Nat) : List Band :=
  match d.image with
  | some im => match im.ramps.find? fun p => p.1 == n with
    | some p => p.2.getD ramp []
    | none => []
  | none => []

/-- The direction towards PCLOSED. -/
def Dev.closeDir (d : Dev) (n : Nat) : Int := sgn (d.parI n 72 - d.parI n 73)

/-! ### Availability of an axis -/

/-- The island holds the axis: STOPPING, HELD, TORQUEOFF or FAULT (R233). -/
def SafeState.holds : SafeState → Bool
  | .stopping => true
  | .held => true
  | .torqueOff => true
  | .fault => true
  | _ => false

/-- The island keeps the axis unenergised. -/
def SafeState.unpowered : SafeState → Bool
  | .torqueOff => true
  | .fault => true
  | _ => false

/-- The axis may leave OFF: RUN, not departing, its port UP with its node and channel in service, no torque-off (R126). -/
def Dev.restorable (d : Dev) (n : Nat) : Bool :=
  let up := match d.linkOf n with
    | some (p, a) => (d.port p).st == .up && !(d.port p).beyond a.node
    | none => false
  d.sys.power == .run && !d.sys.leaving && up && !(d.axis n).chLost && !(d.safe n).st.unpowered && d.island.fault == 0

/-! ### End of a move as the cycles see it (R163, R171, R176) -/

/-- The move, homing run or geared motion in progress is over, at its target or not. -/
def Axis.closeMove (a : Axis) (reached : Bool) : Axis :=
  match a.cycle.move with
  | some m => { a with cycle := { a.cycle with move := none, last := some { m with clean := m.clean && reached }, stood := false } }
  | none => a

/-- A move in progress ends without reaching its target. -/
def Axis.abandonMove (a : Axis) : Axis := a.closeMove false

/-- Set flags of the record of the door cycle in progress. -/
def Dev.doorFlag (d : Dev) (axis bits : Nat) : Dev :=
  match d.image with
  | some im => match im.axisDoor axis with
    | some i =>
      let c := smGet {} d.doorCyc i
      if c.active then { d with doorCyc := smPut d.doorCyc i { c with flags := c.flags ||| bits } } else d
    | none => d
  | none => d

/-- Whether a door cycle of the axis's door is in progress. -/
def Dev.inCycle (d : Dev) (axis : Nat) : Bool :=
  match d.image with
  | some im => match im.axisDoor axis with
    | some i => (smGet {} d.doorCyc i).active
    | none => false
  | none => false

/-- A ramp started or switched by a cause: the counts of slots 106–109 and the cause of the move concerned; the door cycle books it at
the end of the frame, also where it begins with this frame (R171). -/
def AxCycle.noteStop (c : AxCycle) (cause : Nat) : AxCycle :=
  let c := match cause with
    | 3 => { c with obst := satInc c.obst }
    | 4 => { c with stall := satInc c.stall }
    | 6 => { c with edge := satInc c.edge }
    | 5 => { c with lag := satInc c.lag }
    | _ => c
  { c with taken := c.taken ++ [cause], move := c.move.map fun m => { m with cause := cause }
           last := if c.move.isSome then c.last else c.last.map fun m => { m with cause := cause } }

/-- A ramp started or switched by a cause. -/
def Dev.countStop (d : Dev) (n cause : Nat) : Dev :=
  let a := d.axis n
  d.setAxis n { a with cycle := a.cycle.noteStop cause }

/-! ### Axis states (R126) -/

/-- Enter OFF: a homing run ends, gearing ends, HOMED clears when the axis was under way. -/
def Axis.enterOff (a : Axis) : Axis :=
  let m := a.motion
  if m.st == .noconf || m.st == .off then a
  else
    let phase := if m.st == .home || a.homing.phase == 3 then
        (if a.homing.phase == 3 then 5 else if a.homing.phase == 1 || a.homing.phase == 2 then 4 else a.homing.phase)
      else a.homing.phase
    let a := a.abandonMove
    { a with
      motion := { m with st := .off, v := 0, homed := m.homed && m.st == .stand, stretch := one32, stretchTo := one32,
                         hold := false, standFrames := 0, forced := false }
      homing := { a.homing with phase := phase, latch := false }
      gearing := { a.gearing with engaged := false } }

/-- Slot 4 (R127). -/
def Motion.slot4 (m : Motion) : Word :=
  fields [(0, m.st.code), (8, b2n m.safehold), (9, b2n m.homed), (10, b2n (m.stretch < one32)), (11, b2n m.attarget),
          (12, m.cause % 16), (16, m.seg % 64), (22, m.ramp % 4)]

/-- Write slot 4 and its copy in AX_STATE, at the end of a frame (R127, R154). -/
def Dev.showState (d : Dev) (n : Nat) : Dev :=
  let w := (d.axis n).motion.slot4
  (d.devSig (slotSig n 4) w).setReg (Adr.axState n) w

/-- An axis enters OFF: loss of its port, node or channel, entry to IDLE, link start (R126).  Slot 4 shows it at the end of the
frame (R26). -/
def Dev.axisOff (d : Dev) (n : Nat) : Dev := d.setAxis n (d.axis n).enterOff

/-- An axis in OFF enters STAND. -/
def Motion.toStand (m : Motion) : Motion :=
  { m with st := .stand, v := 0, stretch := one32, stretchTo := one32, standFrames := 0, hold := false }

/-- An axis in OFF that may leave it enters STAND. -/
def Dev.axisRestore (d : Dev) (n : Nat) : Dev :=
  if (d.axis n).motion.st == .off && d.restorable n then d.modMotion n Motion.toStand else d

/-! ### Stop requests (R134–R136) -/

/-- Whether the first of two stop requests applies: torque off, then the higher ramp, then the lower CAUSE. -/
def StopReq.beats (a b : StopReq) : Bool :=
  if a.torqueOff ≠ b.torqueOff then a.torqueOff
  else if a.ramp ≠ b.ramp then b.ramp < a.ramp else a.cause ≤ b.cause

/-- The stop request that applies among several. DEDUCED: notes/assumptions/22.md. -/
def bestStop : List StopReq → Option StopReq
  | [] => none
  | r :: rs => match bestStop rs with
    | none => some r
    | some b => if r.beats b then some r else some b

/-- The AX_FLAGS bits of a motion code (R154). -/
def stopFlag (code : Nat) : Word :=
  if code = 0x2013 then 2 else if code = 0x2014 then 4
  else if 0x2010 ≤ code ∧ code ≤ 0x2012 then 8 else if code = 0x2015 ∨ code = 0x2016 then 16 else 0

/-- A stop request taken up during a move makes it unclean (R163). -/
def Dev.uncleanMove (d : Dev) (n : Nat) : Dev :=
  let a := d.axis n
  match a.cycle.move with
  | some m => d.setAxis n { a with cycle := { a.cycle with move := some { m with clean := false } } }
  | none => d

/-- What every stop request taken up leaves: the count, and for a cause with a code slot 5, AX_FAULT, and the pipeline's own
record where the code is its own (R134, R150). -/
def Dev.noteStop (d : Dev) (n : Nat) (r : StopReq) : Dev :=
  let d := d.incReg (Adr.axStops n)
  let d := d.uncleanMove n
  if r.code = 0 then d
  else
    let d := d.devNat (slotSig n 5) r.code
    let d := d.setReg (Adr.axFault n) (fields [(0, r.code), (16, r.cause)])
    let d := d.orReg (Adr.axFlags n) (stopFlag r.code)
    if r.code / 256 = 0x20 then d.event r.code n else d

/-- A ramp starts from whatever the axis was doing; the move, homing run or gearing is abandoned (R136, R143). -/
def Dev.startRamp (d : Dev) (n cause ramp : Nat) : Dev :=
  let d := d.countStop n cause
  let a := (d.axis n).abandonMove
  let m := a.motion
  let phase := if m.st == .home && a.homing.phase != 3 then 4 else a.homing.phase
  let d := d.setAxis n { a with
    motion := { m with st := .stop, ramp := ramp, cause := cause, rampFrames := 0, attarget := false,
                       stretch := one32, stretchTo := one32 }
    homing := { a.homing with phase := phase, latch := false }
    gearing := { a.gearing with engaged := false } }
  if cause ≥ 3 then d.orReg (Adr.axFlags n) 1 else d

/-- Apply the stop request that won. DEDUCED: notes/assumptions/22.md. DESIGN CHOICE: notes/assumptions/77.md. -/
def Dev.applyStop (d : Dev) (n : Nat) (r : StopReq) : Dev :=
  let m := (d.axis n).motion
  if r.torqueOff then
    let d := if m.st.underway then d.countStop n r.cause else d
    (d.setAxis n (d.axis n).enterOff).modMotion n fun m => { m with cause := r.cause }
  else match m.st with
    | .noconf => d
    | .off => d.modMotion n fun m => { m with cause := r.cause }
    | .stand => d.modMotion n fun m => { m with cause := r.cause }
    | .stop =>
      if m.ramp < r.ramp then
        (d.countStop n r.cause).modMotion n fun m => { m with ramp := r.ramp, cause := r.cause }
      else d
    | _ => d.startRamp n r.cause r.ramp

/-- Take up the stop requests of a frame, each of them counted (R135). -/
def Dev.takeStops (d : Dev) (n : Nat) (l : List StopReq) : Dev :=
  match bestStop l with
  | none => d
  | some b => ((l.erase b).foldl (fun s r => s.noteStop n r) d |>.noteStop n b).applyStop n b

/-! ### Checks of the frame (R138, R139, R141, R143) -/

/-- Whether an enabled limit reads active in a direction; while homing, in every phase, the edge source's limit does not trip (R138).
DESIGN CHOICE: notes/assumptions/77.md. -/
def Dev.limitTrips (d : Dev) (n : Nat) (dir : Int) : Bool :=
  let en := d.par n 141
  let inp := d.par n 14
  let a := d.axis n
  let src := if a.motion.st == .home then a.homing.source else 0
  (dir < 0 && bit en 0 && bit inp 2 && src != 1) || (dir > 0 && bit en 1 && bit inp 3 && src != 2)

/-- The stop request of a limit switch. -/
def limitStop : StopReq := { cause := 7, ramp := 2, code := 0x2013 }

/-- Limit switches, in every frame in MOVE, HOME, GEAR and STOP. -/
def Dev.limitStops (d : Dev) (n : Nat) : List StopReq :=
  let m := (d.axis n).motion
  if m.st.underway && m.v != 0 && d.limitTrips n (sgn m.v) then [limitStop] else []

/-- Position lag above LAGMAX, in every state but OFF. -/
def Dev.lagStops (d : Dev) (n : Nat) : List StopReq :=
  let m := (d.axis n).motion
  let s := d.sig (slotSig n 8)
  if m.st != .off && m.st != .noconf && s.valid && (sval s.value).natAbs > (d.par n 139).toNat
  then [{ cause := 5, ramp := 1, code := 0x2014 }] else []

/-- The reading of the edge source in slot 14. -/
def Dev.homeActive (d : Dev) (n source : Nat) : Bool := bit (d.par n 14) (1 + source)

/-- s of R142: the sub-frame time when it is valid and the source is the only input that changed, else 32. -/
def edgeTime (inp : Word) (source : Nat) : Nat :=
  if bit inp 22 && fld inp 8 5 == 2 ^ (1 + source) then fld inp 16 6 else 32

/-- Fold one reading into a run of active readings (R141), with the positions of the edge's node frame: x_{k−3} and x_{k−4}
at frame k. -/
def Homing.read (h : Homing) (active : Bool) (inp : Word) (x3 x4 : Int) : Homing :=
  let h' := if h.run > 0 then
      (if active then { h with run := h.run + 1 } else { h with run := 0, chatter := h.chatter + 1 })
    else if active && !h.wasActive then
      { h with run := 1, edgeX1 := x3, edgeX2 := x4, edgeS := edgeTime inp h.source }
    else h
  { h' with wasActive := active }

/-- How far a search has run in its direction, modulo the 48 bits of a position (R123, R140). -/
def Homing.searched (h : Homing) (raw : Int) : Nat :=
  ((if h.positive then raw - h.from_ else h.from_ - raw).emod (2 ^ 48)).toNat

/-- One frame of the edge source during phases 1 and 2: the run, and the fault it ends with, if any; chatter is counted in phase 2 alone
(R141). DESIGN CHOICE: notes/assumptions/77.md. -/
def Dev.homeChecks (d : Dev) (n : Nat) : Dev × List StopReq :=
  let a := d.axis n
  let h := a.homing
  if a.motion.st != .home then (d, [])
  else
    let inp := d.par n 14
    let active := d.homeActive n h.source
    let p138 := d.par n 138
    let fault (code : Nat) : List StopReq := [{ cause := 8, ramp := 2, code := code }]
    let put (h : Homing) : Dev := d.setAxis n { a with homing := h }
    if h.phase = 1 then
      let idle := if h.slowing then h.idle else if active then 0 else h.idle + 1
      (put { h with idle := idle, slowing := h.slowing || fld p138 0 4 ≤ idle, wasActive := active }, [])
    else if h.phase = 2 then
      if h.source = 0 && bit inp (if h.positive then 3 else 2) then (d, fault 0x2012)
      else
        let pos (k : Nat) : Int := match a.estim.hist[k]? with
          | some y => y.raw
          | none => a.motion.raw.toInt
        let off := a.motion.homeOff.toInt
        let h' := h.read active inp (pos 2 + off) (pos 3 + off)
        if fld p138 8 4 < h'.chatter then (put h', fault 0x2011)
        else if fld p138 0 4 ≤ h'.run then (put { h' with latch := true }, [])
        else if h'.searched a.motion.raw.toInt ≥ d.parN n 137 * one16 then (put h', fault 0x2010)
        else (put h', [])
    else (d, [])

/-! ### Requests at take-up (R84, R86, R130–R132, R140, R145) -/

/-- A safety function holds the axis: its own state, or the torque-off of an island fault (R127, R229, R233). -/
def Dev.safeHeld (d : Dev) (n : Nat) : Bool := (d.safe n).st.holds || d.island.fault != 0

/-- The code that refuses a request needing standstill, 0 where none does: safety hold, axis state, gearing.  An axis that was OFF at
the end of the previous frame is judged as OFF (R126). -/
def Dev.standstillCode (d : Dev) (n : Nat) (start : Bool) : Nat :=
  let m := (d.axis n).motion
  let returns := start && (d.safe n).inReturn && d.island.fault == 0
  if d.safeHeld n && !returns then 0x2008
  else if m.wasOff then 0x2001
  else match m.st with
    | .move => 0x2001
    | .home => 0x2001
    | .off => 0x2001
    | .noconf => 0x2001
    | .stop => 0x2002
    | .gear => 0x200A
    | .stand => 0

/-- The target stretch factor from the axis's present profile time (R131). -/
def Dev.stretchNow (d : Dev) (n : Nat) : Nat :=
  let m := (d.axis n).motion
  match d.profile m.profile with
  | some segs => stretchTarget segs m.delta (d.vcap n) (d.acap n) m.tau * one16
  | none => one32

/-- One more reversal in the door's cycle. -/
def Dev.doorReversal (d : Dev) (n : Nat) : Dev :=
  match d.image with
  | some im => match im.axisDoor n with
    | some i =>
      let c := smGet {} d.doorCyc i
      if c.active then { d with doorCyc := smPut d.doorCyc i { c with reversals := c.reversals + 1 } } else d
    | none => d
  | none => d

/-- A homing run or a geared motion begins: a run that is never clean, in which anomalies may fall (R176). -/
def Axis.beginOther (a : Axis) (closing : Bool) : Axis :=
  { a with cycle := { a.cycle with
    move := some { closing := closing, cycle := (a.live.cycles + 1).setWidth 32 } } }

/-- The move as the envelopes see it, and a reversal within the cycle (R163, R171). -/
def Dev.beginRun (d : Dev) (n : Nat) (x delta : Int) : Dev :=
  let a := d.axis n
  let c := a.cycle
  let inZone (slot : Nat) : Bool := (x - d.parI n slot * one16).natAbs ≤ (d.par n 74).toNat * one16
  let dir := sgn delta
  let inCycle := d.inCycle n
  let rev := inCycle && c.prevDir != 0 && dir != 0 && dir != c.prevDir
  let run : MoveRun := { closing := dir == d.closeDir n, zone := if inZone 72 then 0 else if inZone 73 then 1 else 2,
                         clean := true, cycle := (a.live.cycles + 1).setWidth 32 }
  let d := d.setAxis n { a with cycle := { c with
    move := some run, runDir := some dir, prevDir := if dir = 0 || !inCycle then c.prevDir else dir, cRev := c.cRev + b2n rev } }
  if rev then (d.doorFlag n 128).doorReversal n else d

/-- MV.START in STAND (R130): the move, and the target stretch set directly (R132). -/
def Dev.startMove (d : Dev) (n : Nat) (target : Word) (profile : Nat) (relative : Bool) : Dev :=
  let m := (d.axis n).motion
  let x := m.x
  let tgt : Int := (if relative then intPart x + sval target else sval target) * one16
  let d := d.modMotion n fun m =>
    { m with st := .move, target := tgt, rawStart := x, delta := tgt - x, profile := profile, seg := 0, tau := 0,
             attarget := false, hold := false, standFrames := 0 }
  let d := d.incReg (Adr.axMoves n)
  let r := d.stretchNow n
  let d := d.modMotion n fun m => { m with stretch := r, stretchTo := r }
  d.beginRun n x (tgt - x)

/-- MV.HOME in STAND (R140): HOMED and the chatter count clear, and the first phase follows the edge source. -/
def Dev.startHome (d : Dev) (n : Nat) (pos : Word) (positive : Bool) (source : Nat) : Dev :=
  let active := d.homeActive n source
  let a := (d.axis n).beginOther ((if positive then 1 else -1) == d.closeDir n)
  d.setAxis n { a with
    motion := { a.motion with st := .home, homed := false, attarget := false, hold := false, standFrames := 0 }
    homing := { phase := if active then 1 else 2, positive := positive, source := source, assign := pos,
                from_ := a.motion.raw.toInt, wasActive := active, latched := a.homing.latched } }

/-- MV.GEAR engage in STAND (R145). -/
def Dev.startGear (d : Dev) (n : Nat) (master : Word) (table : Nat) : Dev :=
  let a := (d.axis n).beginOther false
  d.setAxis n { a with
    motion := { a.motion with st := .gear, attarget := false, hold := false, standFrames := 0 }
    gearing := { selector := master, table := table, engaged := true, fresh := true, slaveX := a.motion.x } }

/-- Take up one request and give its status. -/
def Dev.takeRequest (d : Dev) (n : Nat) (r : Req) : Dev × Nat :=
  let m := (d.axis n).motion
  let stopsel := fld (d.par n 134) 0 2
  match r with
  | .start target profile relative =>
    let c := d.standstillCode n true
    if c = 0 then (d.startMove n target profile relative, 0) else (d, c)
  | .home pos positive source =>
    let c := d.standstillCode n false
    if c = 0 then (d.startHome n pos positive source, 0) else (d, c)
  | .gear master table =>
    let c := d.standstillCode n false
    if c = 0 then (d.startGear n master table, 0) else (d, c)
  | .stop =>
    if m.st == .move || m.st == .home || m.st == .gear then
      let q : StopReq := { cause := 1, ramp := stopsel, code := 0 }
      ((d.noteStop n q).startRamp n 1 stopsel, 0)
    else (d, 0)
  | .ungear =>
    if m.st == .gear then
      let q : StopReq := { cause := 2, ramp := stopsel, code := 0 }
      ((d.noteStop n q).startRamp n 2 stopsel, 0)
    else (d, 0)
  | .speed cap =>
    if m.st == .stop then (d, 0x2002)
    else
      let d := d.modMotion n fun m => { m with spdCap := cap }
      (if m.st == .move then let r := d.stretchNow n; d.modMotion n fun m => { m with stretchTo := r } else d, 0)
  | .accel cap =>
    if m.st == .stop then (d, 0x2002)
    else
      let d := d.modMotion n fun m => { m with accCap := cap }
      (if m.st == .move then let r := d.stretchNow n; d.modMotion n fun m => { m with stretchTo := r } else d, 0)
  | .mode k => (d.modMotion n fun m => { m with modeSel := k }, 0)

/-- Take up the requests of a frame in order; slot 15 shows each in turn (R84). -/
def Dev.takeRequests (d : Dev) (n : Nat) (l : List (Nat × Req)) : Dev :=
  l.foldl (fun d q =>
    let (d, code) := d.takeRequest n q.2
    let d := d.devSig (slotSig n 15) (fields [(0, q.1), (16, code)])
    if code = 0 then d else (d.incReg (Adr.axRefused n)).orReg (Adr.axFlags n) 0x40) d

/-! ### Advancing one frame -/

/-- One frame of a move (R130, R132): r moves towards its target, by a step taken at the profile time of the frame before, and profile
time advances by r; in the frame in which it reaches the end the axis is at its target, in STAND with ATTARGET, and its envelope is left
to MOVE_END. DESIGN CHOICE: notes/assumptions/77.md. -/
def Dev.advanceMove (d : Dev) (n : Nat) : Dev :=
  let m := (d.axis n).motion
  match d.profile m.profile with
  | none => d
  | some segs =>
    let ps := pieces 0 0 0 0 segs
    let acap := d.acap n
    let step : Nat := match pieceAt m.tau ps with
      | some c =>
        let (num, den) := nominalV m.delta c m.tau
        if num.natAbs ≤ acap * den then one32 else acap * one32 * den / num.natAbs
      | none => one32
    let r := if m.stretch < m.stretchTo then Nat.min (m.stretch + step) m.stretchTo
      else Nat.max (m.stretch - step) m.stretchTo
    let tau := m.tau + r
    let m := { m with stretch := r, tau := tau }
    if m.delta.natAbs < one16 || profEnd segs ≤ tau then
      let d := d.modMotion n fun _ => { (m.atX m.target).toStand with attarget := true, atEnd := true }
      d.setAxis n ((d.axis n).closeMove true)
    else match pieceAt tau ps with
      | some c =>
        let (num, den) := nominalV m.delta c tau
        d.modMotion n fun _ =>
          ({ m with v := roundDiv (num * r) (den * one32), seg := c.idx }.atX (nominalX m.rawStart m.delta c tau))
      | none => d

/-- One frame on a ramp (R136). -/
def Dev.advanceRamp (d : Dev) (n : Nat) : Dev :=
  let a := d.axis n
  let m := a.motion
  let v := rampV (d.bands n m.ramp) m.v
  let m' := { m with v := v, rampFrames := satNat 0xFFFF (m.rampFrames + 1) }.atX (m.x + (m.v + v).fdiv 2)
  if v = 0 then
    d.setAxis n { a with motion := m'.toStand, homing := { a.homing with phase := if a.homing.phase = 3 then 5 else a.homing.phase } }
  else d.setAxis n { a with motion := m' }

/-- The latch of a homing run (R142): L, rounded itself to 1/65,536 microstep, the shift of every user-coordinate position, the
tracked rotor's among them (R158), and HOMED. -/
def Axis.latchHome (a : Axis) : Axis :=
  let h := a.homing
  let l := roundNearest (64 * h.edgeX2 + wayTo h.edgeX2 h.edgeX1 * h.edgeS) 64
  let shift := sval h.assign * one16 - l
  { a with
    motion := { a.motion with homeOff := a.motion.homeOff + BitVec.ofInt 48 shift, homed := true,
                              target := a.motion.target + shift }
    estim := { a.estim with rotor := a.estim.rotor.map (· + shift) }
    homing := { h with phase := 3, latch := false, latched := posWord l } }

/-- One frame of a homing run (R140). -/
def Dev.advanceHome (d : Dev) (n : Nat) : Dev :=
  let a := d.axis n
  let a := if a.homing.latch then a.latchHome else a
  let h := a.homing
  let m := a.motion
  let hspd : Int := d.parN n 135
  let dir : Int := if h.positive then 1 else -1
  let target : Int := if h.phase = 1 then (if h.slowing then 0 else -dir * hspd) else if h.phase = 2 then dir * hspd else 0
  let v := toward m.v target (d.parN n 136)
  let m' := { m with v := v }.atX (m.x + (m.v + v).fdiv 2)
  if h.phase = 1 && h.slowing && v = 0 then
    d.setAxis n { a with motion := m', homing := { h with phase := 2, from_ := m'.raw.toInt } }
  else if h.phase = 3 && v = 0 then
    d.setAxis n ({ a with motion := m'.toStand, homing := { h with phase := 5 } } : Axis).abandonMove
  else d.setAxis n { a with motion := m' }

/-- The master position of a geared axis (R146): from the master axis at the end of the frame before, or the encoder count as
latched, with the number of consecutive frames without VALID encoder data; `none` where the master axis is in OFF or
NOCONF.  The position has its 16 fraction bits, as the pipeline holds it. DEDUCED: notes/assumptions/23.md.
DESIGN CHOICE: notes/assumptions/77.md. -/
def Dev.masterPos (d0 : Dev) (g : Gearing) : Option (Int × Nat) :=
  if bit g.selector 16 then
    let p := fld g.selector 8 2
    let slot := fld g.selector 0 7
    match (d0.port p).inForce.encs.find? fun e => fld e.2 8 7 == slot with
    | some e => some (sval (d0.reg (Adr.strEncval p e.1)) * one16, if (d0.port p).encOk.contains e.1 then 0 else g.lostFrames + 1)
    | none => some (g.mj, g.lostFrames + 1)
  else
    let m := (d0.axis (fld g.selector 0 9)).motion
    if m.st == .off || m.st == .noconf then none else some (m.x + m.v, 0)

/-- One frame of gearing (R145, R147); v is the way between two positions of 48 bits that wrap (R123).  `d0` is the module before any
axis of this frame moved. -/
def Dev.advanceGear (d d0 : Dev) (n : Nat) : Dev :=
  let a := d.axis n
  let g := a.gearing
  let m := a.motion
  let lost (code : Nat) : Dev := (d.takeStops n [{ cause := 9, ramp := 2, code := code }]).advanceRamp n
  match d0.masterPos g, d.gearTable g.table with
  | none, _ => lost 0x2015
  | _, none => lost 0x2015
  | some (mj, miss), some t =>
    if 3 ≤ miss then lost 0x2015
    else
      let me := if g.fresh then mj else g.me
      let x := gearX t g.slaveX me mj
      let v := wayTo m.x x
      if (v.natAbs > d.parN n 128) || ((v - m.v).natAbs > d.parN n 129) then
        (d.setAxis n { a with gearing := { g with lostFrames := miss, mj := mj, me := me, fresh := false } }).takeStops n
          [{ cause := 9, ramp := 2, code := 0x2016 }] |>.advanceRamp n
      else
        let er := gearRatio t 0 0 mj
        d.setAxis n { a with
          motion := { m with v := v }.atX x
          gearing := { g with mj := mj, me := me, fresh := false, lostFrames := miss, entry := er.1, ratio := er.2 } }

/-- Advance an axis by one frame. -/
def Dev.advance (d d0 : Dev) (n : Nat) : Dev :=
  match (d.axis n).motion.st with
  | .move => d.advanceMove n
  | .stop => d.advanceRamp n
  | .home => d.advanceHome n
  | .gear => d.advanceGear d0 n
  | _ => d.modMotion n fun m => { m with v := 0 }

/-! ### Current mode and the slots (R125, R127, R148, R149, R152) -/

/-- The current mode: 0 off, 1 quiet, 2 strong, 3 brake; `onRamp` says that the axis was on ramp 1–3 in this frame.  The hysteresis of
automatic starts from the mode that the selection before it sent (R149). -/
def Dev.chooseMode (d : Dev) (n : Nat) (onRamp : Bool) : Dev × Nat :=
  let m := (d.axis n).motion
  if m.st == .off || m.st == .noconf then (d, if bit (d.par n 133) 16 then 3 else 0)
  else if onRamp then (d.modMotion n fun m => { m with forced := true }, 2)
  else
    let speed : Int := m.v.natAbs
    let auto : Bool := if m.strong && !m.forced then decide (d.parI n 131 ≤ speed) else decide (d.parI n 130 ≤ speed)
    let strong := m.modeSel == 2 || (m.modeSel == 0 && auto)
    (d.modMotion n fun m => { m with strong := strong, forced := false }, if strong then 2 else 1)

/-- The amplitude of a mode (R148). -/
def Dev.amplitude (d : Dev) (n mode : Nat) : Nat :=
  let p := d.par n 132
  if mode = 0 ∨ mode = 3 then 0
  else if (d.axis n).motion.hold then fld p 16 8
  else if mode = 2 then fld p 8 8 else fld p 0 8

/-- The table address (R125). -/
def Dev.tableAddr (d : Dev) (n : Nat) : Nat :=
  ((intPart (d.axis n).motion.raw.toInt + fld (d.par n 140) 0 10).emod 1024).toNat

/-- Write a device slot only when it changes. -/
def Dev.devChange (d : Dev) (n : Nat) (v : Word) : Dev :=
  let s := d.sig n
  if s.value = v && s.valid then d else d.devSig n v

/-- A cap as slot 32 or 33 shows it. -/
def capWord : Option Word → Word
  | some c => c
  | none => 0

/-- Slots 1 and 32–47 (R152). DESIGN CHOICE: notes/assumptions/77.md. -/
def Dev.motionSlots (d : Dev) (n : Nat) : Dev :=
  let a := d.axis n
  let m := a.motion
  let left := match m.st, d.profile m.profile with
    | .move, some segs => (profEnd segs - m.tau + one32 - 1) / one32
    | _, _ => 0
  let l : List (Nat × Word) :=
    [(1, posWord m.target), (32, capWord m.spdCap), (33, capWord m.accCap), (34, wordOfNat (m.stretch / one16)),
     (35, fields [(0, m.profile), (8, m.seg), (16, m.modeSel)]), (36, wordOfNat (m.tau / 2 ^ 24)), (37, wordOfNat left),
     (38, fields [(0, m.ramp), (8, m.cause), (16, m.rampFrames)]),
     (39, fields [(0, a.homing.phase), (8, satNat 255 a.homing.chatter)]), (40, a.homing.latched),
     (41, posWord m.homeOff.toInt), (42, a.gearing.selector),
     (43, fields [(0, a.gearing.table), (8, a.gearing.entry), (16, b2n a.gearing.engaged)]),
     (44, wordOfInt a.gearing.ratio), (45, posWord a.gearing.mj), (46, posWord a.gearing.me), (47, posWord a.gearing.slaveX)]
  l.foldl (fun d p => d.devChange (slotSig n p.1) p.2) d

/-- Publish an axis at the end of the frame: position, velocity, acceleration, state, mode and amplitude, the motion slots,
the set-point for the stream, and the history of the estimator; `stood` says that the axis stood before the frame's motion. -/
def Dev.publishAxis (d : Dev) (n : Nat) (stood onRamp stopCause : Bool) : Dev :=
  let held := d.safeHeld n
  let d := d.modMotion n fun m => { m with
    a := m.v - m.vPrev, vPrev := m.v, wasOff := m.st == .off || m.st == .noconf, safehold := held,
    standFrames := if stood && m.st == .stand then m.standFrames + 1 else 0, hold := m.hold && m.st == .stand }
  let (d, mode) := d.chooseMode n onRamp
  let amp := d.amplitude n mode
  let addr := d.tableAddr n
  let a := d.axis n
  let m := a.motion
  let h : Hist := { raw := m.raw.toInt, v := m.v, a := m.a, addr := addr }
  let d := d.setAxis n { a with
    estim := { a.estim with hist := (h :: a.estim.hist).take 4 }
    motion := { m with setAddr := addr, setAmp := amp, setMode := mode, setRamp := stopCause } }
  let d := d.devSig (slotSig n 0) (posWord m.x)
  let d := d.devSig (slotSig n 2) (wordOfInt m.v)
  let d := d.devSig (slotSig n 3) (wordOfInt m.a)
  let d := d.showState n
  let d := d.devSig (slotSig n 9) (fields [(0, mode), (8, amp)])
  d.motionSlots n

/-! ### Issue (R82–R86) -/

/-- Whether an upstream slot of a port reports a configured external encoder. -/
def Dev.encoderUsed (d : Dev) (p slot : Nat) : Bool :=
  (d.port p).inForce.encs.any fun e => fld e.2 8 7 == slot

/-- Whether a master selector names a valid master for an axis. DEDUCED: notes/assumptions/23.md. -/
def Dev.masterValid (d : Dev) (n : Nat) (sel : Word) : Bool :=
  if bit sel 16 then
    sel = fields [(0, fld sel 0 7), (8, fld sel 8 2), (16, 1)] && d.encoderUsed (fld sel 8 2) (fld sel 0 7)
  else sel.toNat < 512 && sel.toNat ≠ n && d.axConfigured sel.toNat

/-- The issue check of a request, 0 where it passes (R86). -/
def Dev.issueCode (d : Dev) (n : Nat) : Req → Nat
  | .start target profile relative =>
    if (d.profile profile).isNone then 0x2003
    else if relative && !fits32 (intPart (d.axis n).motion.x + sval target) then 0x2004 else 0
  | .speed (some cap) => if sval cap ≤ 0 || sval cap > d.parI n 128 then 0x2005 else 0
  | .accel (some cap) => if sval cap ≤ 0 || sval cap > d.parI n 129 then 0x2005 else 0
  | .home _ _ source => if source = 3 then 0x2009 else 0
  | .gear master table => if (d.gearTable table).isNone || !d.masterValid n master then 0x2006 else 0
  | .mode k => if k = 3 then 0x2009 else 0
  | _ => 0

/-- The sequence number of the next posted request (R83). -/
def nextSeq (s : Nat) : Nat := if s ≥ 0xFFFF then 1 else s + 1

/-- Execute a motion instruction: post the request to the selected axis, or refuse it at issue (R82–R84). -/
def motionEffect (d : Dev) (c : Nat) (x : Task) (sub : Reg) (r : Req) : Effect :=
  if c = 16 then .fault 0xA00E
  else
    let n := x.ax.toNat / 1024
    let m := (d.axis n).motion
    let code := d.issueCode n r
    let code := if code = 0 && m.posted.length ≥ 4 then 0x2007 else code
    if code ≠ 0 then .regs 2 (x.setG sub (wordOfNat code))
    else
      let s := nextSeq m.seq
      .done 2 (x.setG sub (wordOfNat (s * 65536))).advance fun d =>
        d.modMotion n fun m => { m with seq := s, posted := m.posted ++ [(s, r)] }

/-- MV.START. -/
def execMvStart (core : CoreId) (sub a : Reg) (profile : BitVec 8) (relative : Bool) (s : State) :
    Host.Outcome State Fault Refusal :=
  execInstr core (.mvStart core sub a profile relative) s fun _ x =>
    motionEffect s.dev core.val x sub (.start (x.g a) profile.toNat relative)

/-- MV.STOP. -/
def execMvStop (core : CoreId) (sub : Reg) (s : State) : Host.Outcome State Fault Refusal :=
  execInstr core (.mvStop core sub) s fun _ x => motionEffect s.dev core.val x sub .stop

/-- MV.SPEED. DEDUCED: notes/assumptions/20.md. -/
def execMvSpeed (core : CoreId) (sub a : Reg) (remove : Bool) (s : State) : Host.Outcome State Fault Refusal :=
  execInstr core (.mvSpeed core sub a remove) s fun _ x =>
    motionEffect s.dev core.val x sub (.speed (if remove then none else some (x.g a)))

/-- MV.ACCEL. -/
def execMvAccel (core : CoreId) (sub a : Reg) (remove : Bool) (s : State) : Host.Outcome State Fault Refusal :=
  execInstr core (.mvAccel core sub a remove) s fun _ x =>
    motionEffect s.dev core.val x sub (.accel (if remove then none else some (x.g a)))

/-- MV.HOME. -/
def execMvHome (core : CoreId) (sub a : Reg) (positive : Bool) (source : BitVec 2) (s : State) :
    Host.Outcome State Fault Refusal :=
  execInstr core (.mvHome core sub a positive source) s fun _ x =>
    motionEffect s.dev core.val x sub (.home (x.g a) positive source.toNat)

/-- MV.GEAR. -/
def execMvGear (core : CoreId) (sub a : Reg) (table : BitVec 8) (disengage : Bool) (s : State) :
    Host.Outcome State Fault Refusal :=
  execInstr core (.mvGear core sub a table disengage) s fun _ x =>
    motionEffect s.dev core.val x sub (if disengage then .ungear else .gear (x.g a) table.toNat)

/-- MV.MODE. -/
def execMvMode (core : CoreId) (sub : Reg) (mode : BitVec 2) (s : State) : Host.Outcome State Fault Refusal :=
  execInstr core (.mvMode core sub mode) s fun _ x => motionEffect s.dev core.val x sub (.mode mode.toNat)

/-- HOLD_AMPLITUDE: HOLDDLY consecutive frames in STAND have passed, and the amplitude is AMPH from then on (R148). -/
def execHoldAmplitude (axis : AxisId) (s : State) : Host.Outcome State Fault Refusal :=
  let n := axis.val
  let m := (s.dev.axis n).motion
  if m.st == .stand && fld (s.dev.par n 133) 0 16 ≤ m.standFrames then
    .next { s with dev := s.dev.modMotion n fun m => { m with hold := true } }
  else .next s

end Sys2Proof.Machine
end

