-- ==== Sys2Proof/Machine/Phasor.lean ====
section
/-! DEFINITION. The induced voltage and the rotor angle of R155 in fixed point: vectors are scaled by 2⁴⁸, voltages are in nV, and
an angle is found bit by bit down to 1/65,536 microstep.  Only the last rounding is free. -/

namespace Sys2Proof.Machine

/-- One electrical cycle, 1,024 microsteps, in 1/65,536 microstep. -/
def cycle16 : Int := 67108864

/-- The length 1 of a vector. -/
def phasorOne : Nat := 281474976710656

/-- A vector of the two phases. -/
structure Phasor where
  re : Int
  im : Int
deriving DecidableEq, Repr

/-- A vector turned forwards by a unit vector. -/
def Phasor.turn (p u : Phasor) : Phasor :=
  { re := (p.re * u.re - p.im * u.im).fdiv phasorOne, im := (p.re * u.im + p.im * u.re).fdiv phasorOne }

/-- A vector turned backwards by a unit vector. -/
def Phasor.turnBack (p u : Phasor) : Phasor := p.turn { u with im := -u.im }

/-- A multiple of a vector. -/
def Phasor.times (k : Int) (p : Phasor) : Phasor := { re := k * p.re, im := k * p.im }

/-- The difference of two vectors. -/
def Phasor.minus (p q : Phasor) : Phasor := { re := p.re - q.re, im := p.im - q.im }

/-- The unit vector at half the angle of one in the first quadrant. -/
def Phasor.halve (u : Phasor) : Phasor :=
  let c := floorRoot 2 (phasorOne * (phasorOne + u.re.toNat) / 2) 49 0
  { re := c, im := u.im * phasorOne / (2 * c) }

/-- The unit vectors at the successive halves of an angle. -/
def Phasor.halvings : Nat → Phasor → List Phasor
  | 0, _ => []
  | n + 1, u => u.halve :: halvings n u.halve

/-- The unit vectors at a half, a quarter, an eighth … of a turn, `n + 2` of them. -/
def turns (n : Nat) : List Phasor :=
  { re := -(phasorOne : Int), im := 0 } :: { re := 0, im := phasorOne } :: Phasor.halvings n { re := 0, im := phasorOne }

/-- The unit vector at a table address: 2π × address ÷ 1,024. -/
def unitAt (addr : Nat) : Phasor :=
  (turns 8).zipIdx.foldl (fun p w => if addr.testBit (9 - w.2) then p.turn w.1 else p) { re := phasorOne, im := 0 }

/-- The vector lies in the half turn that begins at angle 0. -/
def Phasor.upper (p : Phasor) : Bool := decide (p.im > 0) || (p.im == 0 && decide (p.re > 0))

/-- The angle of a vector, truncated to 1/65,536 microstep. -/
def Phasor.angle (p : Phasor) : Nat :=
  ((turns 24).zipIdx.foldl (fun (s : Phasor × Nat) w =>
    let q := s.1.turnBack w.1
    if q.upper then (q, s.2 + 2 ^ (25 - w.2)) else s) (p, 0)).2

/-- √3. -/
def rootThree : Nat := floorRoot 2 (3 * phasorOne ^ 2) 49 0

/-- The phase voltages u_A and u_B, in nV. -/
def estVoltage (i : Config.EstIn) : Phasor :=
  let a := i.va * i.vlsb * 1000 * phasorOne
  let b := i.vb * i.vlsb * 1000 * phasorOne
  if i.threePhase then { re := (2 * a + b).fdiv 3, im := (b * phasorOne).fdiv rootThree } else { re := a, im := b }

/-- The current vectors of the frame and of the frame before, in µA: the magnitude placed at the commanded electrical angle. -/
def estCurrents (i : Config.EstIn) : Phasor × Phasor :=
  let now := (unitAt i.addr).times (i.im * i.ilsb)
  (now, if i.inductive0 then now else (unitAt i.prevAddr).times (i.prevIm * i.ilsb))

/-- e = u − RPH·i − LPH·(i − i_prev) ÷ 62.5 µs, in nV: 1 mΩ·µA is 1 nV, and 1 µH·µA in 62.5 µs is 16 nV. -/
def estEmf (i : Config.EstIn) : Phasor :=
  let c := estCurrents i
  ((estVoltage i).minus (c.1.times i.rph)).minus ((c.1.minus c.2).times (16 * i.lph))

/-- θr in 1/65,536 microstep: atan2(e_B, e_A) less a quarter turn in the direction of v_{j−4}; the angle is rounded to within a unit,
and that of the zero vector is free. DESIGN CHOICE: notes/assumptions/25.md. -/
def estAngle (i : Config.EstIn) : Nat :=
  let e := estEmf i
  let a : Int := if e = { re := 0, im := 0 } then (Config.zeroAngle i : Int) else e.angle + (Config.angleRounding i).val - 1
  ((a - sgn i.vel * (cycle16 / 4)).emod cycle16).toNat

/-- |e| in µV, rounded to within a unit. DESIGN CHOICE: notes/assumptions/25.md. -/
def estMagnitude (i : Config.EstIn) : Nat :=
  let e := estEmf i
  floorRoot 2 (e.re ^ 2 + e.im ^ 2).toNat 104 0 / (1000 * phasorOne) + b2n (Config.voltageRounding i)

end Sys2Proof.Machine
end

