-- ==== Sys2Proof/Machine/Estimator.lean ====
section
/-! DEFINITION. The estimator (R155–R169): load angle, diverse speed and position lag of every configured axis, the reference
envelopes as they are judged, and the obstacle, stall and sensitive-edge decisions. -/

namespace Sys2Proof.Machine

/-- An angle difference wrapped into the half-open range of one period about 0. -/
def wrapAngle (period x : Int) : Int := (x + period / 2).emod period - period / 2

/-- The set-point of the frame `k + 1` frames ago; before enough frames have passed, the present position at rest. -/
def Dev.histAt (d : Dev) (n k : Nat) : Hist :=
  let a := d.axis n
  match a.estim.hist[k]? with
  | some h => h
  | none => { raw := a.motion.raw.toInt, v := 0, a := 0, addr := d.tableAddr n }

/-- A fixed slot as its writers left it, whatever the host forces: what reaches the diverse speed (R24, R33). -/
def Dev.raw (d : Dev) (n slot : Nat) : Word := (d.plain (slotSig n slot)).1

/-- The inputs of one evaluation (R155): the samples latched in slots 16–18 with the set-point of four frames before. -/
def Dev.estIn (d : Dev) (n : Nat) : Config.EstIn :=
  let e := (d.axis n).estim
  let h := d.histAt n 3
  { va := sval (d.raw n 16), vb := sval (d.raw n 17), im := sval (d.raw n 18), addr := h.addr, vel := h.v,
    prevIm := e.prevIm, prevAddr := e.prevAddr, inductive0 := !(e.prevOk && e.energised),
    rph := (d.raw n 144).toNat, lph := (d.raw n 145).toNat, ke := (d.raw n 146).toNat, threePhase := bit (d.raw n 147) 0,
    vlsb := (d.raw n 148).toNat, ilsb := (d.raw n 149).toNat }

/-- A sample of slots 16–18 is at full scale (R156). -/
def estFull (i : Config.EstIn) : Bool :=
  i.va == 2047 || i.va == -2048 || i.vb == 2047 || i.vb == -2048 || i.im == 0xFFF

/-- BELOW and the count of frames at or above the floor, judged on v_{j−1} (R159). -/
def Dev.judgeFloor (d : Dev) (n : Nat) : Bool × Nat :=
  let a := d.axis n
  let v := a.motion.v.natAbs
  let floor := (sval (d.raw n 64)).toNat
  if a.motion.st == .stand || a.motion.st == .off || a.motion.st == .noconf then (true, 0)
  else if a.estim.below then
    let k := if floor ≤ v then a.estim.floorFrames + 1 else 0
    if 16 ≤ k then (false, 0) else (true, k)
  else if 8 * v < 7 * floor then (true, 0) else (false, 0)

/-! ### Envelopes (R162) -/

/-- The working envelope of a direction. -/
def Lifetime.dir (l : Lifetime) (closing : Bool) : Direction := if closing then l.closing else l.opening

/-- Replace a direction's envelope. -/
def Lifetime.setDir (l : Lifetime) (closing : Bool) (x : Direction) : Lifetime :=
  if closing then { l with closing := x } else { l with opening := x }

/-- A bin of a direction. -/
def Direction.bin (x : Direction) (b : Nat) : Bin := smGet {} x.bins b

/-- The bin of a position in user coordinates (R162). -/
def Dev.binOf (d : Dev) (n : Nat) (x : Int) : Nat :=
  let pc := d.parI n 72
  let po := d.parI n 73
  Nat.min 63 ((64 * (x - pc * one16)).fdiv ((po - pc) * one16)).toNat

/-- U_b in 1/2²¹ microstep (R162). -/
def Dev.upperBound (d : Dev) (n : Nat) (closing : Bool) (b : Nat) : Int :=
  let x := (d.axis n).live.dir closing
  let y := x.bin b
  let obsfix := d.parI n 70
  if !x.learned then obsfix * one16
  else if !y.covered then (y.mean + obsfix) * one16
  else y.mean * one16 + max ((d.par n 68).toNat * y.spread) (d.parI n 69 * one16)

/-! ### Records of the estimator's stops (R169) -/

/-- The 28-byte payload of R169. -/
def Dev.stopPayload (d : Dev) (n cause code : Nat) (word : Word) : List Byte :=
  let a := d.axis n
  let e := a.estim
  let h := d.histAt n 3
  let door := match d.image with
    | some im => (im.axisDoor n).getD 0xFFFF
    | none => 0xFFFF
  leBytes 2 n ++ leBytes 2 door ++ leBytes 2 code ++ leBytes 1 cause ++ leBytes 1 e.bin
    ++ leBytes 2 (BitVec.ofInt 16 (satInt 16 (roundDiv e.dres one16))).toNat
    ++ leBytes 2 (BitVec.ofInt 16 (satInt 16 (roundDiv e.ub one16))).toNat
    ++ leBytes 4 word.toNat ++ leBytes 4 (wordOfInt h.v).toNat
    ++ leBytes 4 (posWord (h.raw + a.motion.homeOff.toInt)).toNat
    ++ leBytes 2 (satNat 0xFFFF (e.emf / 10000)) ++ leBytes 2 (a.live.cycles.toNat % 65536)

/-- Raise a stop of the estimator: the request and its record (R169, R170). -/
def Dev.estimStop (d : Dev) (n cause code : Nat) (word : Word) : Dev :=
  (d.raiseStop n cause 1 code).eventRep code n (d.stopPayload n cause code word)

/-! ### One frame (R155–R168) -/

/-- The rotor's tracked position and the lag (R158): seated to x_{j−4} minus the angle's difference from the command, then
advanced by the unwrapped change of the angle, which is known in a whole cycle from the seating on, `full`. -/
def Estim.track (e : Estim) (x4 : Int) (angle : Nat) (saliency : Bool) (seat : Int) (full : Nat) : Estim :=
  match e.rotor with
  | none => { e with rotor := some (x4 - seat), angle := full, lag := seat }
  | some r =>
    let period := if saliency then cycle16 / 2 else cycle16
    let step := wrapAngle period ((angle : Int) - e.angle)
    let r := r + step
    { e with rotor := some r, angle := ((e.angle : Int) + step).emod cycle16 |>.toNat,
             lag := wayTo r x4 }

/-- Evaluate one axis in frame j. DESIGN CHOICE: notes/assumptions/25.md. -/
def Dev.estimate (d : Dev) (n : Nat) : Dev :=
  let a := d.axis n
  let e := a.estim
  let i := d.estIn n
  let h := d.histAt n 3
  let x4 := h.raw + a.motion.homeOff.toInt
  let st := a.motion.st
  let (below, floorFrames) := d.judgeFloor n
  let good := (d.plain (slotSig n 16)).2
  let full := good && estFull i
  let d := if full then d.eventRep 0x2806 n else d
  let dir := sgn h.v
  let rotor := estAngle i
  let emf := estMagnitude i
  let delta := wrapAngle cycle16 (dir * ((h.addr : Int) * one16 - rotor))
  let delta32 := roundDiv delta 2048
  let turn : Int := match e.theta with
    | some t => wrapAngle cycle16 ((rotor : Int) - t)
    | none => 0
  let turns := if !good then [] else if e.theta.isNone then [] else (turn :: e.turns).take 8
  let valid := good && !full && !below
  let closing := if dir = 0 then e.closing else dir == d.closeDir n
  let bin := d.binOf n x4
  let dres := delta32 * one16 - d.parI n 71 * h.a
  let ub := d.upperBound n closing bin
  let excess := if below then 0 else satNat 255 ((dres - ub).fdiv (4 * one16)).toNat
  let mask := dir != 0 && dir == d.closeDir n && (x4 - d.parI n 72 * one16).natAbs ≤ d.parN n 75 * one16
  let obsN := if below || mask then 0 else if !valid then e.obsN else if dres > ub then e.obsN + 1 else 0
  let stallA := if below then 0 else if !valid then e.stallA
    else if delta32.natAbs ≥ (d.par n 66).toNat then e.stallA + 1 else 0
  let slow := emf * 100 * one16 < fld (d.par n 67) 0 8 * i.ke * h.v.natAbs
  let stallE := if below then 0 else if !valid then e.stallE else if slow then e.stallE + 1 else 0
  let p65 := d.par n 65
  let obs := (st == .move || st == .gear) && valid && !mask && fld p65 0 4 ≤ obsN
  let stall := (st == .move || st == .home || st == .gear || st == .stop) && valid
    && (fld p65 8 4 ≤ stallA || fld p65 8 4 ≤ stallE)
  let stallCode := if fld p65 8 4 ≤ stallA then 0x2802 else 0x2803
  let mode := fld p65 16 2
  let v1 := sgn a.motion.v
  let edge := bit (d.par n 14) 0 && (st == .move || st == .home || st == .gear) && v1 != 0
    && (mode == 2 || (mode == 1 && v1 == d.closeDir n))
  let unlearned := !(a.live.dir closing).learned
  let shown : Int := if below then 0 else delta32
  let word : Word := fields [(0, (BitVec.ofInt 16 shown).toNat), (16, b2n below), (17, b2n obs), (18, b2n stall),
    (19, b2n mask), (20, b2n edge), (21, b2n unlearned), (22, b2n closing), (24, excess)]
  let speedOk := !below && turns.length == 8
  let speed := if speedOk then roundDiv turns.sum 8 else 0
  let energised := st != .off && st != .noconf
  let sal := below && good && energised && bit (d.par n 147) 1
  let e := { e with
    below := below, floorFrames := floorFrames, prevIm := i.im, prevAddr := i.addr, prevOk := good, energised := energised,
    theta := if good then some rotor else none, turns := turns, obsN := obsN, stallA := stallA, stallE := stallE,
    valid := valid, delta := shown, dres := dres, ub := ub, bin := bin, closing := closing, excess := excess, emf := emf,
    im := i.im.toNat, slot6 := word, speed := speed }
  let e := if !e.energised then { e with rotor := none } else e
  let e :=
    if valid then e.track x4 rotor false delta rotor
    else if sal then
      let s := Config.saliencyAngle i (d.par n 150) % (cycle16.toNat / 2)
      let seat := wrapAngle (cycle16 / 2) ((h.addr : Int) * one16 - s)
      e.track x4 s true seat (((h.addr : Int) * one16 - seat).emod cycle16).toNat
    else { e with rotor := none }
  let d := d.setAxis n { a with estim := e }
  let d := d.devSig (slotSig n 6) word valid
  let d := d.devSig (slotSig n 7) (wordOfInt speed) speedOk
  let d := if e.rotor.isSome then d.devSig (slotSig n 8) (wordOfInt (satInt 32 (roundNearest e.lag one16)))
    else d.sigQuality (slotSig n 8) false true
  let d := d.devNat (slotSig n 111) (emf / 10000)
  let d := if obs then d.estimStop n 3 0x2801 word else d
  let d := if stall then d.estimStop n 4 stallCode word else d
  if edge then d.estimStop n 6 0x2804 word else d

/-- A move towards PCLOSED taken up while the sensitive-edge flag is active: EDGE, the record, and the stop of the same frame
(R168); `none` where the edge does not act. -/
def Dev.edgeAtTakeup (d : Dev) (n : Nat) (dir : Int) : Option (Dev × StopReq) :=
  let mode := fld (d.par n 65) 16 2
  if bit (d.par n 14) 0 && (mode == 1 || mode == 2) && dir != 0 && dir == d.closeDir n then
    let a := d.axis n
    let word := a.estim.slot6 ||| 0x100000
    let d := d.setAxis n { a with estim := { a.estim with slot6 := word } }
    let d := d.devSig (slotSig n 6) word a.estim.valid
    some (d.eventRep 0x2804 n (d.stopPayload n 6 0x2804 word), { cause := 6, ramp := 1, code := 0x2804 })
  else none

/-! ### The parameter check at entry to RUN (R179, R181) -/

/-- The lowest-numbered parameter slot of an axis that is out of its range, 0 where none is. -/
def Dev.estimCheck (d : Dev) (n : Nat) : Nat :=
  let i (slot : Nat) := d.parI n slot
  let f (slot lo width : Nat) := fld (d.par n slot) lo width
  let within (lo v hi : Int) : Bool := lo ≤ v && v ≤ hi
  let ok : List (Nat × Bool) :=
    [(64, within 0x4000 (i 64) 0x100000),
     (65, within 1 (f 65 0 4) 15 && within 1 (f 65 8 4) 15 && f 65 16 2 ≤ 2),
     (66, within 2048 (i 66) 16383), (67, within 10 (f 67 0 8) 90), (68, within 0x10000 (i 68) 0x100000),
     (69, within 32 (i 69) 8192), (70, within 32 (i 70) 16383), (73, 64 ≤ (i 73 - i 72).natAbs),
     (74, within 1 (i 74) 65535), (75, within 0 (i 75) 65535),
     (76, within 4 (f 76 0 8) 64 && within 4 (f 76 8 4) 12), (78, within 16 (f 78 0 8) 255)]
    ++ ((List.range 17).map fun k => (79 + k, d.par n (79 + k) == 0))
    ++ [(144, within 1 (i 144) 65535), (145, within 1 (i 145) 1000000), (146, within 1 (i 146) 1000000),
        (148, within 1 (i 148) 1000000), (149, within 1 (i 149) 100000), (150, !bit (d.par n 147) 1 || 0 < i 150)]
  match ok.find? fun p => !p.2 with
  | some p => p.1
  | none => 0

/-- Check every configured axis and show the result in slot 104; whether all pass. -/
def Dev.estimCheckAll (d : Dev) : Dev × Bool :=
  d.axes'.foldl (fun (s : Dev × Bool) n =>
    let k := s.1.estimCheck n
    (s.1.devNat (slotSig n 104) k, s.2 && k == 0)) (d, true)

end Sys2Proof.Machine
end

