-- ==== Sys2Proof/Machine/Cycles.lean ====
section
/-! DEFINITION. Door cycles, captures, signatures and wear drift (R163, R164, R171–R178, R180), the learning of envelopes at
the end of a clean move, and the end of a move itself (R130). -/

namespace Sys2Proof.Machine

/-! ### Parts of a door -/

/-- The axes of a door of the running image. -/
def Dev.doorAxesOf (d : Dev) (door : Nat) : List Nat :=
  match d.image with
  | some im => im.doorAxes door
  | none => []

/-- The number of doors of the running image. -/
def Dev.doorCount (d : Dev) : Nat :=
  match d.image with
  | some im => im.doors.length
  | none => 0

/-- The door of an axis. -/
def Dev.doorOf (d : Dev) (n : Nat) : Option Nat :=
  match d.image with
  | some im => im.axisDoor n
  | none => none

/-- A door's cycle. -/
def Dev.doorCycle (d : Dev) (door : Nat) : DoorCycle := smGet {} d.doorCyc door

/-- A capture buffer of an axis. -/
def AxCycle.capture (c : AxCycle) (q : Nat) : Capture := smGet {} c.buffers q

/-- Change an axis's cycle part. -/
def Dev.modCycle (d : Dev) (n : Nat) (f : AxCycle → AxCycle) : Dev :=
  let a := d.axis n
  d.setAxis n { a with cycle := f a.cycle }

/-- A position lies in the zone of CLZONE around a slot's position (R163, R171). -/
def Dev.inZone (d : Dev) (n : Nat) (x : Int) (slot : Nat) : Bool :=
  (x - d.parI n slot * one16).natAbs ≤ (d.par n 74).toNat * one16

/-- The axis is outside its closed zone (R171). -/
def Dev.outOfZone (d : Dev) (n : Nat) : Bool := !d.inZone n (d.axis n).motion.x 72

/-- Slots 12, 105–110 and 112–127 (R171, R180). -/
def Dev.cycleSlots (d : Dev) (n : Nat) : Dev :=
  let a := d.axis n
  let c := a.cycle
  let l := a.live
  let head : List (Nat × Word) :=
    [(12, l.cycles.setWidth 32),
     (105, fields [(0, l.opening.drift), (8, l.closing.drift), (16, b2n l.opening.learned), (17, b2n l.closing.learned),
                   (18, satNat 127 l.opening.clean), (25, satNat 127 l.closing.clean)]),
     (106, c.obst), (107, c.stall), (108, c.edge), (109, c.lag), (110, c.dropped)]
  let buf (q : Nat) : List (Nat × Word) :=
    let b := c.capture q
    [(112 + 4 * q, b.cycle), (113 + 4 * q, b.start), (114 + 4 * q, wordOfNat b.count),
     (115 + 4 * q, fields [(0, b2n b.truncated), (1, b2n b.inProgress), (2, b2n b.incomplete)])]
  (head ++ (List.range 4).flatMap buf).foldl (fun d p => d.devChange (slotSig n p.1) p.2) d

/-! ### Learning and drift (R163, R164, R178) -/

/-- A bin with the value of one more clean move: a plain average over the first LEARNN values, then 1/2^ADAPT of the
difference; the first value has no deviation. DEDUCED: notes/assumptions/26.md. -/
def Bin.learn (b : Bin) (m : MoveBin) (learnn adapt : Nat) : Bin :=
  let q := m.n * one16
  let div := if b.moves < learnn then b.moves + 1 else 2 ^ adapt
  let diff : Int := m.sum - b.mean * q
  let dev : Int := if b.moves = 0 then 0 else diff.natAbs
  let moves := satNat 255 (b.moves + 1)
  { b with mean := roundDiv (b.mean * (q * div) + diff) (q * div), spread := roundDiv (b.spread * (q * div) + (dev - b.spread * q)) (q * div),
           moves := moves, covered := b.covered || learnn ≤ moves }

/-- The drift score of a learned direction, from exact fractions. -/
def Direction.driftScore (x : Direction) (minband : Nat) : Nat :=
  let l := x.bins.filter fun p => p.2.covered
  let f := l.foldl (fun (s : Nat × Nat) p =>
    let den := Nat.max (4 * p.2.baseSpread.toNat) minband
    (s.1 * den + 4 * (p.2.mean - p.2.base).natAbs * s.2, s.2 * den)) (0, 1)
  satNat 255 (16 * f.1 / (f.2 * l.length))

/-- A clean move of a direction: its bins, the count, and the baseline when the direction becomes learned.
DEDUCED: notes/assumptions/26.md. -/
def Direction.learn (x : Direction) (m : MoveRun) (learnn adapt : Nat) : Direction :=
  let bins := m.bins.foldl (fun b p => if p.2.n = 0 then b else smPut b p.1 ((x.bin p.1).learn p.2 learnn adapt)) x.bins
  let clean := satNat 127 (x.clean + 1)
  if !x.learned && learnn ≤ clean then
    { x with bins := bins.map (fun p => (p.1, { p.2 with base := p.2.mean, baseSpread := p.2.spread })), clean := clean,
             learned := true }
  else { x with bins := bins, clean := clean }

/-- The supervisor's update at the end of a clean move (R163, R164, R178). -/
def Dev.learnMove (d : Dev) (n : Nat) (m : MoveRun) : Dev :=
  let p76 := d.par n 76
  let a := d.axis n
  let old := a.live.dir m.closing
  let x := old.learn m (fld p76 0 8) (fld p76 8 4)
  let lim := fld (d.par n 78) 0 8
  let score := if x.learned then x.driftScore (d.parN n 69) else x.drift
  let writes := x.learned && lim ≤ score && !x.disarmed
  let x := { x with drift := score,
                    disarmed := if writes then true else if x.learned && score + 16 < lim then false else x.disarmed }
  let d := d.setAxis n { a with live := a.live.setDir m.closing x, cycle := { a.cycle with envChanged := true } }
  let d := if x.learned && !old.learned then d.event 0x2813 n else d
  if writes then
    d.putRecord 0x22 0x2812 n false
      (leBytes 2 n ++ leBytes 1 (b2n m.closing) ++ leBytes 1 score ++ leBytes 4 (a.live.cycles.toNat % 2 ^ 32))
  else d

/-! ### Promotion and signatures (R176, R177) -/

/-- The first anomaly of a cycle waits for STAND. -/
def Dev.anomaly (d : Dev) (n : Nat) (m : Option MoveRun) (byCommand : Bool) : Dev :=
  match m with
  | some m => d.modCycle n fun c =>
      if c.anomalous then c else { c with anomalous := true, pend := c.pend ++ [{ move := m, byCommand := byCommand, final := byCommand }] }
  | none => d

/-- An anomaly enters the promotion list, or is dropped where the list is full. -/
def Dev.enlist (d : Dev) (n : Nat) (p : Anomaly) : Dev :=
  let m := if p.final then p.move else (d.axis n).cycle.last.getD p.move
  if d.promos.length ≥ 512 then
    (d.modCycle n fun c => { c with dropped := satInc c.dropped }).eventRep 0x2811 n
  else
    let q : Promo := { axis := n, door := (d.doorOf n).getD 0xFFFF, move := m, byCommand := p.byCommand,
                       tag := fld (d.par n 98) 0 8 }
    { d with promos := d.promos ++ [q] }.doorFlag n 256

/-- The axis has reached STAND after the move concerned: what waited for it enters the promotion list, oldest first.  The completed move
of a command may have stood before (R176). DEDUCED: notes/assumptions/27.md. -/
def Dev.promote (d : Dev) (n : Nat) : Dev :=
  let c := (d.axis n).cycle
  let stands := (d.axis n).motion.st == .stand
  let ready (p : Anomaly) : Bool := stands || (p.byCommand && c.stood)
  let d := d.modCycle n fun c => { c with pend := c.pend.filter fun p => !ready p }
  (c.pend.filter ready).foldl (fun d p => d.enlist n p) d

/-- A bin's largest deviation in a signature, in 1/8 microstep. -/
def MoveBin.peakBytes (b : MoveBin) : List Byte :=
  match b.maxDev with
  | some v => leBytes 2 (BitVec.ofInt 16 (satInt 16 (roundDiv v (4 * one16)))).toNat
  | none => leBytes 2 0x8000

/-- A bin's mean raw current over 16; a bin in which no sample was taken has none, and the byte is free. -/
def MoveBin.meanBytes (b : MoveBin) : List Byte :=
  if b.imN = 0 then [Config.emptyBinCurrent] else leBytes 1 (satNat 255 (roundDiv b.imSum (16 * b.imN)).toNat)

/-- The payload of a signature. -/
def Dev.signature (d : Dev) (p : Promo) : List Byte :=
  let m := p.move
  let at' : Option Nat := match m.decideAt with
    | some i => some i
    | none => m.peakAt
  let buf : Option Capture := m.buf.map fun b => (d.axis p.axis).cycle.capture b.1
  let held : Option (Capture × Nat) := match m.buf, buf, at' with
    | some b, some c, some i => if c.uses = b.2 then some (c, i) else none
    | _, _, _ => none
  let window : List Byte := match held with
    | some (c, i) =>
      let l := c.entries.reverse
      (List.range 32).flatMap fun k => leBytes 4 (if 24 ≤ i + k then (l.getD (i + k - 24) 0).toNat else 0)
    | none => List.replicate 128 0
  let trunc := m.trunc || (match m.buf, buf with
    | some b, some c => c.uses == b.2 && c.truncated
    | _, _ => false)
  leBytes 2 p.axis ++ leBytes 2 p.door ++ leBytes 4 m.cycle.toNat ++ leBytes 1 (b2n m.closing + 16 * (m.cause % 16))
    ++ leBytes 1 (b2n p.byCommand + 2 * b2n trunc + 4 * b2n held.isNone) ++ leBytes 1 p.tag ++ [0]
    ++ (List.range 64).flatMap (fun b => (smGet {} m.bins b : MoveBin).peakBytes)
    ++ (List.range 64).flatMap (fun b => (smGet {} m.bins b : MoveBin).meanBytes) ++ window

/-- Build up to `k` signatures, oldest first. -/
def Dev.buildSignatures (d : Dev) : Nat → Dev
  | 0 => d
  | k + 1 => match d.promos with
    | [] => d
    | p :: ps => ({ d with promos := ps }.putRecord 0x21 0x2810 p.axis false (d.signature p)).buildSignatures k

/-! ### The frame of an axis (R163, R174, R177) -/

/-- Gather the estimator's frame into the move in progress: the bin's sums, its largest deviation, the entry of the peak, and
whether the move is still clean; a frame without a valid deviation enters neither (R163, R177). DESIGN CHOICE:
notes/assumptions/80.md. -/
def Dev.observeMove (d : Dev) (n : Nat) : Dev :=
  let a := d.axis n
  let c := a.cycle
  match c.move with
  | none => d
  | some m =>
    let e := a.estim
    let mean := ((a.live.dir m.closing).bin e.bin).mean
    let b : MoveBin := smGet {} m.bins e.bin
    let b := if (d.sig (slotSig n 18)).valid then { b with imSum := b.imSum + e.im, imN := b.imN + 1 } else b
    let b := if e.valid then
        let v := e.dres - mean * one16
        { b with sum := b.sum + e.dres, n := b.n + 1, maxDev := some (match b.maxDev with
          | some w => max v w
          | none => v) }
      else b
    let buf := match c.buf with
      | some q => let y := c.capture q; if y.count < 65536 then some (q, y.uses, y.count) else none
      | none => none
    let m := { m with bins := smPut m.bins e.bin b, closing := if a.motion.st == .gear then e.closing else m.closing, clean := m.clean && e.excess == 0 && a.motion.stretch ≥ one32 }
    let m := match buf with
      | some (q, uses, i) =>
        let m := if m.buf.isNone then { m with buf := some (q, uses) } else m
        if m.peakAt.isNone || m.peak < e.excess then { m with peakAt := some i, peak := e.excess } else m
      | none => m
    d.setAxis n { a with cycle := { c with move := some m } }

/-- The capture entry of a frame (R174); sixteen entries make one burst of the DRAM (R420). DEDUCED: notes/assumptions/60.md. -/
def Dev.captureAxis (d : Dev) (n : Nat) : Dev :=
  let a := d.axis n
  let c := a.cycle
  let st := a.motion.st
  let code : Option Nat := match st with
    | .move => some 0
    | .stop => some 1
    | .home => some 2
    | .gear => some 3
    | _ => none
  let put (c : AxCycle) : AxCycle := match c.buf, code with
    | some q, some k =>
      let y := c.capture q
      if y.count < 65536 then
        let e := a.estim
        let w := fields [(0, (BitVec.ofInt 16 e.delta).toNat), (16, e.im % 4096), (28, b2n e.below),
                         (29, b2n (st != c.prevState)), (30, k)]
        { c with buffers := smPut c.buffers q { y with entries := w :: y.entries, count := y.count + 1 } }
      else { c with buffers := smPut c.buffers q { y with truncated := true } }
    | _, _ => c
  let d := d.setAxis n { a with cycle := { put c with prevState := st } }
  match c.buf, code with
  | some q, some _ =>
    let k := (c.capture q).count
    if k < 65536 && k % 16 == 15 then d.countEvent 8 0 1 else d
  | _, _ => d

/-! ### Door cycles (R171–R173) -/

/-- A buffer is taken again: a move captured in its last use keeps whether that capture was truncated. -/
def MoveRun.retake (m : MoveRun) (q : Nat) (old : Capture) : MoveRun :=
  if m.buf = some (q, old.uses) then { m with trunc := old.truncated } else m

/-- An axis takes its buffer for a cycle that begins; the cycle is named by the count it will end with (R174, R175). DESIGN CHOICE:
notes/assumptions/80.md. -/
def Dev.takeBuffer (d : Dev) (n : Nat) (frame : Word) : Dev :=
  let a := d.axis n
  let q := a.live.cycles.toNat % 4
  let old := a.cycle.capture q
  let fresh : Capture :=
    { cycle := (a.live.cycles + 1).setWidth 32, start := frame, inProgress := true, uses := old.uses + 1 }
  let c := { a.cycle with
    buf := some q, buffers := smPut a.cycle.buffers q fresh, move := a.cycle.move.map fun m => m.retake q old,
    last := a.cycle.last.map fun m => m.retake q old, lastIn := a.cycle.lastIn.map fun p => (p.1, p.2.retake q old), pend := a.cycle.pend.map fun p => { p with move := p.move.retake q old } }
  let promos := d.promos.map fun p => if p.axis = n then { p with move := p.move.retake q old } else p
  { d with promos := promos }.setAxis n { a with cycle := c }

/-- A move that a new cycle finds in progress, or over since this frame, goes on in that cycle: its cycle count, its buffer, and the peak
EXCESS of the cycle with its capture entry (R172, R177). DEDUCED: notes/assumptions/27.md. -/
def MoveRun.enterCycle (m : MoveRun) (cycle : Word) (buf : Option (Nat × Nat)) (excess : Nat) : MoveRun :=
  { m with cycle := cycle, buf := buf, peakAt := buf.map fun _ => 0, peak := excess, decideAt := none, trunc := false }

/-- Without a move in progress, the last one is still on its ramp or has ended in this frame. -/
def AxCycle.ranNow (c : AxCycle) : Bool := c.prevState.underway || c.runDir.isSome

/-- The move of an axis enters the cycle that begins. -/
def Dev.moveEnters (d : Dev) (n : Nat) : Dev :=
  let a := d.axis n
  let c := a.cycle
  let buf := c.buf.map fun q => (q, (c.capture q).uses)
  let enter (m : MoveRun) : MoveRun := m.enterCycle ((a.live.cycles + 1).setWidth 32) buf a.estim.excess
  d.setAxis n { a with cycle :=
    if c.move.isSome then { c with move := c.move.map enter }
    else if c.ranNow then { c with last := c.last.map enter } else c }

/-- A cycle of a door begins: what is counted within a cycle starts afresh, and every axis takes its buffer unless FREEZE is set. -/
def Dev.beginCycle (d : Dev) (door : Nat) (frame : Word) : Dev :=
  let d := { d with doorCyc := smPut d.doorCyc door { active := true, start := frame } }
  (d.doorAxesOf door).foldl (fun d n =>
    let d := d.modCycle n fun c => { c with
      left := false, anomalous := false, peak := 0, buf := none, prevDir := c.runDir.getD 0, serial := c.serial + 1, cRev := 0, cObst := 0, cStall := 0, cEdge := 0, cLag := 0 }
    (if bit (d.par n 97) 0 then d else d.takeBuffer n frame).moveEnters n) d

/-- What the end of a cycle does to one axis: the counts of an axis that left its closed zone, its buffer, and whether its block is to
be committed. DEDUCED: notes/assumptions/27.md. -/
def Dev.endAxisCycle (d : Dev) (n : Nat) (incomplete : Bool) : Dev :=
  let a := d.axis n
  let c := a.cycle
  let l := a.live
  let l := if c.left then
      { l with cycles := l.cycles + 1, reversals := satAdd l.reversals c.cRev, obst := satAdd l.obst c.cObst,
               stall := satAdd l.stall c.cStall, edge := satAdd l.edge c.cEdge, lag := satAdd l.lag c.cLag }
    else l
  let buffers := match c.buf with
    | some q => smPut c.buffers q (({ (c.capture q) with inProgress := false, incomplete := incomplete } : Capture))
    | none => c.buffers
  let close (p : Anomaly) : Anomaly :=
    if p.final then p else { p with move := c.move.getD (c.last.getD p.move), final := true }
  d.setAxis n { a with live := l, cycle := { c with
    buf := none, buffers := buffers, envChanged := c.left || c.envChanged, pend := c.pend.map close } }

/-- Whether some axis of a door has a direction not learned. -/
def Dev.doorUnlearned (d : Dev) (door : Nat) : Bool :=
  (d.doorAxesOf door).any fun n => !(d.axis n).live.opening.learned || !(d.axis n).live.closing.learned

/-- The books of a cycle that has ended are closed: the commits of its axes and its record (R164, R172). -/
def Dev.closeBooks (d : Dev) (door : Nat) (frame : Word) : Dev :=
  let c := d.doorCycle door
  let axes := d.doorAxesOf door
  let d := axes.foldl (fun d n =>
    if (d.axis n).cycle.envChanged then (d.modCycle n fun c => { c with envChanged := false }).requestLifetime n else d) d
  let drift := axes.foldl (fun k n => Nat.max k (Nat.max (d.axis n).live.opening.drift (d.axis n).live.closing.drift)) 0
  let n0 := axes.headD 0
  let flags := c.flags ||| (512 * b2n (d.doorUnlearned door))
  let payload := leBytes 2 door ++ leBytes 2 flags ++ leBytes 4 ((d.axis n0).live.cycles.toNat % 2 ^ 32)
    ++ leBytes 2 (satNat 0xFFFF ((frame - c.start).toNat / 160)) ++ leBytes 2 (satNat 0xFFFF (c.motionFrames / 16))
    ++ leBytes 1 c.peak ++ leBytes 1 (c.peakAxis % 8 + 16 * satNat 15 c.reversals) ++ leBytes 1 drift
    ++ leBytes 1 c.tag
  ({ d with doorCyc := smPut d.doorCyc door { c with ended := none } }).putRecord 0x20 0 door false payload

/-- A door's cycle ends (R171–R173): its axes count it in this frame, and its record follows once no axis of the door has an envelope
update of a move outstanding. DEDUCED: notes/assumptions/27.md. -/
def Dev.endCycle (d : Dev) (door : Nat) (frame : Word) (incomplete : Bool) : Dev :=
  let axes := d.doorAxesOf door
  let trunc := axes.any fun n => match (d.axis n).cycle.buf with
    | some q => ((d.axis n).cycle.capture q).truncated
    | none => false
  let d := axes.foldl (fun d n => d.endAxisCycle n incomplete) d
  let c := d.doorCycle door
  let c := { c with active := false, flags := c.flags ||| (64 * b2n incomplete) ||| (1024 * b2n trunc), ended := some frame,
                    tag := fld (d.par (axes.headD 0) 98) 0 8 }
  let d := { d with doorCyc := smPut d.doorCyc door c }
  let d := if axes.any fun n => (d.axis n).motion.atEnd then d else d.closeBooks door frame
  axes.foldl (fun d n => d.cycleSlots n) d

/-- Whether every axis of a door stands or is off inside its closed zone, in no homing run. -/
def Dev.cycleOver (d : Dev) (door : Nat) : Bool :=
  (d.doorAxesOf door).all fun n =>
    let st := (d.axis n).motion.st
    (st == .stand || st == .off) && !d.outOfZone n

/-- The move that a promotion by command concerns: the last completed one of the cycle in progress, or of the previous cycle when none
has completed (R176). -/
def AxCycle.concerned (c : AxCycle) (active : Bool) : Option MoveRun :=
  match c.lastIn with
  | some (k, m) => if k = c.serial ∨ (active = true ∧ k + 1 = c.serial) then some m else none
  | none => none

/-- A move that is over, in the frame in which it ended or on its ramp, is the last of the cycle in progress (R176). -/
def AxCycle.keepLast (c : AxCycle) : AxCycle :=
  match c.move, c.last with
  | none, some m => if c.ranNow then { c with lastIn := some (c.serial, m) } else c
  | _, _ => c

/-- One value of CYCCTL: 2 promotes, 1 on axis index 0 ends the cycle, which the answer says (R173, R176). -/
def Dev.cycleAct (d : Dev) (ends : Bool) (door n idx : Nat) (v : Word) : Dev × Bool :=
  let active := (d.doorCycle door).active
  if v = 2 then (d.anomaly n ((d.axis n).cycle.concerned active) true, ends) else (d, ends || (v == 1 && idx == 0 && active))

/-- CYCCTL of a door's axes, acted on in the frame after its write, which leaves slot 96 at 0 (R173, R176, R180); whether it ends the
cycle.  A value written in this frame waits for the next. DESIGN CHOICE: notes/assumptions/62.md. -/
def Dev.cycleControl (d : Dev) (door : Nat) (frame : Word) : Dev × Bool :=
  ((d.doorAxesOf door).zipIdx).foldl (fun (s : Dev × Bool) p =>
    let due := (s.1.axis p.1).cycle.ctl.filter fun w => w.2 != frame
    if due.isEmpty then s
    else
      let d := (s.1.modCycle p.1 fun c => { c with ctl := c.ctl.filter fun w => w.2 == frame }).devSig (slotSig p.1 96) 0
      due.foldl (fun s w => s.1.cycleAct s.2 door p.1 p.2 w.1) (d, s.2)) (d, false)

/-- The peak EXCESS of the frame, its share in the cycle record, and the anomaly of PROMEX. -/
def Dev.cyclePeak (d : Dev) (door n idx : Nat) : Dev :=
  let c := d.doorCycle door
  let a := d.axis n
  if !c.active then d
  else
    let ex := a.estim.excess
    let c := if c.peak < ex then { c with peak := ex, peakAxis := idx } else c
    let c := if a.motion.stretch < one32 then { c with flags := c.flags ||| 32 } else c
    let peak := Nat.max a.cycle.peak ex
    let d := { d with doorCyc := smPut d.doorCyc door c }.modCycle n fun y => { y with peak := peak }
    let promex := fld (d.par n 77) 0 8
    if promex ≠ 0 && promex ≤ peak then
      d.anomaly n (match a.cycle.move with
        | some m => some m
        | none => if a.cycle.ranNow then a.cycle.last else none) false
    else d

/-- The flag of the cycle record for a stop of a cause (R172). -/
def stopRecordFlag (cause : Nat) : Nat :=
  if cause = 3 then 1 else if cause = 4 then 2 else if cause = 6 then 4 else if cause = 5 then 8
  else if 7 ≤ cause ∧ cause ≤ 13 then 16 else 0

/-- The stops of the frame as the cycle in progress books them: its counts, its record flags, the capture entry of the deciding frame,
and the anomaly of R176. -/
def Dev.bookStops (d : Dev) (n : Nat) : Dev :=
  if !d.inCycle n then d
  else (d.axis n).cycle.taken.foldl (fun d cause =>
    let d := (d.doorFlag n (stopRecordFlag cause)).modCycle n fun c =>
      let at' : Option Nat := c.buf.map fun q => (c.capture q).count
      let c := { c with cObst := c.cObst + b2n (cause == 3), cStall := c.cStall + b2n (cause == 4), cEdge := c.cEdge + b2n (cause == 6),
                        cLag := c.cLag + b2n (cause == 5) }
      { c with last := c.last.map fun m => { m with decideAt := at' } }
    if 3 ≤ cause && cause ≤ 6 then d.anomaly n (d.axis n).cycle.last false else d) d

/-- One frame of a door (R171–R176).  CYCCTL = 1 and a departure end the cycle with this frame, as incomplete (R173, R406).
DEDUCED: notes/assumptions/27.md. DESIGN CHOICE: notes/assumptions/62.md. -/
def Dev.doorFrame (d : Dev) (door : Nat) (frame : Word) : Dev :=
  let axes := d.doorAxesOf door
  if !axes.all fun n => d.axConfigured n then d
  else
    let homing := axes.any fun n => (d.axis n).motion.st == .home
    let (d, forced) := d.cycleControl door frame
    let forced := forced || d.sys.leaving
    let out := axes.any fun n => d.outOfZone n
    let d := if !(d.doorCycle door).active && !forced && !homing && out then d.beginCycle door frame else d
    let d := axes.foldl (fun d n => d.bookStops n) d
    let d := if (d.doorCycle door).active then axes.foldl (fun d n => d.modCycle n AxCycle.keepLast) d else d
    let c := d.doorCycle door
    let moving := axes.any fun n => (d.axis n).motion.st != .stand
    let d := if c.active then
        let d := axes.foldl (fun d n => if d.outOfZone n then d.modCycle n fun c => { c with left := true } else d) d
        if moving then { d with doorCyc := smPut d.doorCyc door { c with motionFrames := c.motionFrames + 1 } } else d
      else d
    let d := axes.zipIdx.foldl (fun d p => (d.cyclePeak door p.1 p.2).captureAxis p.1) d
    let d := axes.foldl (fun d n => d.promote n) d
    let d := if c.active && forced then d.endCycle door frame true
      else if c.active && !homing && d.cycleOver door then d.endCycle door frame false else d
    axes.foldl (fun d n => d.cycleSlots n) d

/-- One frame of every door, in RUN; outside it a CYCCTL written before is still acted on (R171, R176, R180). -/
def Dev.doorFrames (d : Dev) (frame : Word) : Dev :=
  let d := (List.range d.doorCount).foldl (fun d i =>
    if d.sys.power == .run then d.doorFrame i frame
    else (d.doorAxesOf i).foldl (fun d n => d.promote n) (d.cycleControl i frame).1) d
  d.axes'.foldl (fun d n =>
    let st := (d.axis n).motion.st
    d.modCycle n fun c => { c with taken := [], stood := c.stood || st == .stand, runDir := if st == .move then c.runDir else none }) d

/-! ### The end of a move (R130) -/

/-- The axis is at its target, in STAND with ATTARGET unless it has been switched off since; what is left is the update of a clean
move's envelope and the books of a cycle that waited for it. DEDUCED: notes/assumptions/24.md. -/
def Dev.endMove (d : Dev) (n : Nat) : Dev :=
  let a := d.axis n
  let d := d.setAxis n { a with motion := { a.motion with
    st := if a.motion.st == .move then .stand else a.motion.st, attarget := true, atEnd := false } }
  let d := match a.cycle.last with
    | some m => if m.clean && ((m.zone == 0 && d.inZone n a.motion.x 73) || (m.zone == 1 && d.inZone n a.motion.x 72))
        then d.learnMove n m else d
    | none => d
  let d := match d.doorOf n with
    | some door => match (d.doorCycle door).ended with
      | some frame => if (d.doorAxesOf door).any fun k => (d.axis k).motion.atEnd then d else d.closeBooks door frame
      | none => d
    | none => d
  d.cycleSlots n

/-- MOVE_END: profile time has reached the end of the move. DEDUCED: notes/assumptions/24.md. -/
def execMoveEnd (axis : AxisId) (s : State) : Host.Outcome State Fault Refusal :=
  if (s.dev.axis axis.val).motion.atEnd then .next { s with dev := s.dev.endMove axis.val } else .next s

/-! ### Entry to RUN (R164) -/

/-- At entry to RUN every configured axis loads its block; RELEARN discards both envelopes and is cleared. -/
def Dev.cyclesRunEntry (d : Dev) : Dev :=
  let d := { d with doorCyc := [], promos := [] }
  d.axes'.foldl (fun d n =>
    let a := d.axis n
    let relearn := bit (d.par n 76) 16
    let live := if relearn then { a.stored with opening := {}, closing := {}, relearns := satInc a.stored.relearns } else a.stored
    let d := d.setAxis n { a with live := live, cycle := { buffers := a.cycle.buffers } }
    let d := if relearn then (d.devSig (slotSig n 76) (d.par n 76 &&& 0xFFFEFFFF)).requestLifetime n else d
    d.cycleSlots n) d

end Sys2Proof.Machine
end

