-- ==== Sys2Proof/Machine/Stream.lean ====
section
/-! DEFINITION. The axis stream ports (chapter 07): frames in both directions, bulk blocks with their credits and queues, link
start, and the losses of a port, of the nodes behind a break, and of a channel. -/

namespace Sys2Proof.Machine

/-! ### Layout and small parts -/

/-- SUBJ of a stream code of a port and node (R355). -/
def strSubj (p node : Nat) : Nat := 0x1000 + 0x100 * p + node

/-- Change a port. -/
def Dev.modPort (d : Dev) (p : Nat) (f : Port → Port) : Dev := d.setPort p (f (d.port p))

/-- The module drives its ports: unpaired, or the active module of a pair (R221). -/
def Dev.drivesPorts (d : Dev) : Bool := d.pair.role == .unpaired || d.pair.role == .active

/-- The slot configuration as the registers and parameters now give it. -/
def Dev.layoutNow (d : Dev) (p : Nat) : PortLayout :=
  { axes := (d.axes'.filter fun n => d.axPort n == p).map fun n =>
      { axis := n, slot := d.axSlot n, node := fld (d.par n 152) 0 7, chan := fld (d.par n 152) 8 3,
        table := fld (d.par n 151) 0 4, brake := bit (d.par n 153) 0 }
    encs := (List.range 8).filterMap fun e => let w := d.reg (Adr.strEnccfg p e); if bit w 0 then some (e, w) else none }

/-- Whether a change of the slot configuration waits for the next link start (R214). -/
def Dev.layoutPending (d : Dev) (p : Nat) : Bool := (d.port p).inForce != d.layoutNow p

/-- The slot configuration that a start leaves in force until the first link start (R214, R403). -/
def Dev.baseLayouts (d : Dev) : Dev :=
  (List.range 4).foldl (fun d p => let l := d.layoutNow p; d.modPort p fun x => { x with layout := some l }) d

/-- The nodes that a link start found. -/
def Port.found' (x : Port) : List (Nat × Node) := x.nodes.filter fun q => q.2.known

/-- Change a node of a port. -/
def Dev.modNode (d : Dev) (p n : Nat) (f : Node → Node) : Dev := d.modPort p fun x => x.setNode n (f (x.node n))

/-- The home sheaf of a node: that of its lowest-numbered configured axis (R207). -/
def Dev.homeSheaf (d : Dev) (p node : Nat) : Option Nat :=
  match ((d.port p).inForce.axes.filter fun a => a.node == node).map (·.axis) with
  | [] => none
  | a :: l => d.axisSheaf (l.foldl Nat.min a)

/-- Set STR_FLAGS bits of a port. -/
def Dev.strFlag (d : Dev) (p : Nat) (bits : Word) : Dev := d.orReg (Adr.strFlags p) bits

/-- Every axis of a port, in force or configured, enters OFF (R126). -/
def Dev.portAxesOff (d : Dev) (p : Nat) : Dev :=
  let l := (d.port p).inForce.axes.map (·.axis)
  let l := l ++ ((d.layoutNow p).axes.map (·.axis)).filter fun n => !l.contains n
  l.foldl (fun s n => s.axisOff n) d

/-! ### Queues (R207–R209) -/

/-- F of R209: bulk and event bytes held on die. -/
def Queue.fill (q : Queue) : Nat := 256 * q.onDie.length + q.events

/-- Bytes in the spill area. -/
def Queue.spilled (q : Queue) : Nat := 256 * q.spill.length

/-- The spill area of 8 MiB holds nothing more (R209, R226). -/
def Queue.areaFull (q : Queue) : Bool := decide (2 ^ 23 ≤ q.spilled)

/-- The spill area takes the blocks of a message; while entries go on die it is empty (R209). DESIGN CHOICE: notes/assumptions/29.md. -/
def Queue.takes (q : Queue) (blocks : Nat) : Bool := !q.spilling || decide (q.spilled + 256 * blocks ≤ 2 ^ 23)

/-- Once F has reached 43,008 new entries go to DRAM; the episode is counted and recorded under the newest block, or under no node where
only event entries are on die (R209). DESIGN CHOICE: notes/assumptions/29.md. -/
def Dev.beginSpill (d : Dev) (q : Nat) : Dev :=
  let x := d.queue q
  let subj := match x.onDie.getLast? with
    | some b => strSubj b.port b.node
    | none => 0xFFFF
  if !x.spilling && 43008 ≤ x.fill then
    (d.setQueue q { x with spilling := true, episodes := satNat 0xFF (x.episodes + 1) }).event 0x1021 subj
  else d

/-- Put a block into a sheaf queue (R209); a spilled one is 256 bytes, four bursts of the DRAM (R420). -/
def Dev.enqueue (d : Dev) (q : Nat) (b : Block) : Dev :=
  let x := d.queue q
  if x.spilling then
    let d := ((d.countEvent 11 q 1).countEvent 8 0 4).setQueue q { x with
      spill := x.spill ++ [b], full := x.full || (q % 2 == 0 && decide (2 ^ 23 ≤ x.spilled + 256)) }
    if 2 ^ 23 ≤ x.spilled + 256 && q % 2 == 0 && !x.fullNoted then
      (d.setQueue q { d.queue q with fullNoted := true }).event 0x1022 (strSubj b.port b.node)
    else d
  else (d.setQueue q { x with onDie := x.onDie ++ [b] }).beginSpill q

/-- The move of spilled blocks back on die, up to 28,672 bytes a frame; with the spill area empty new entries go on die again. -/
def Queue.refill (x : Queue) : Queue :=
  let x := if x.fill ≤ 14336 then { x with onDie := x.onDie ++ x.spill.take 112, spill := x.spill.drop 112 } else x
  let x := { x with spilling := x.spilling && (!x.spill.isEmpty || decide (43008 ≤ x.fill)) }
  if x.full && x.spilled + 2 ^ 20 ≤ 2 ^ 23 then { x with full := false, fullNoted := false } else x

/-- The event entries of a frame in a queue, a free number of bytes of the 57,344 that the queue has for them and its blocks (R208).
DESIGN CHOICE: notes/assumptions/29.md. -/
def Queue.withEvents (x : Queue) (bytes : Nat) : Queue := { x with events := Nat.min bytes (57344 - 256 * x.onDie.length) }

/-- The queues of every sheaf at a boundary: the event entries of the frame, which are free, the moves back on die, and episodes that
begin (R208, R209). DESIGN CHOICE: notes/assumptions/29.md. -/
def Dev.queuesFrame (d : Dev) : Dev :=
  let (d, k) := d.nextFree
  (List.range 32).foldl (fun d q =>
    let x := (d.queue q).withEvents (Config.queueEvents k q)
    let d := (d.setQueue q x.refill).countEvent 8 0 (4 * (x.spill.length - x.refill.spill.length))
    d.beginSpill q) d

/-! ### Submitting blocks (R203, R206, R207) -/

/-- The blocks of a message: up to 248 data bytes each, FRAG marking the first and the last. -/
def fragments (first : Bool) : Nat → List Byte → List (Nat × List Byte)
  | 0, _ => []
  | k + 1, bs =>
    if bs.length ≤ 248 then [(b2n first + 2, bs)] else (b2n first, bs.take 248) :: fragments false k (bs.drop 248)

/-- The blocks of a message to a node, with their sequence numbers. -/
def Node.message (x : Node) (p node btype : Nat) (data : List Byte) : List Block :=
  (fragments true 300 data).zipIdx.map fun f =>
    { port := p, node := node, btype := btype, mseq := (x.txSeq + f.2) % 65536, frag := f.1.1, data := f.1.2 }

/-- Blocks that wait enter the port engine's transmit buffer while it has room: 16 KiB, 64 blocks (R207). -/
def Port.topUp (x : Port) : Port :=
  let k := 64 - x.bulk.length
  { x with bulk := x.bulk ++ x.backlog.take k, backlog := x.backlog.drop k }

/-- Blocks take their places in the order of their port (R204). -/
def Port.number (x : Port) (l : List Block) : List Block := l.zipIdx.map fun b => { b.1 with ord := x.queued + b.2 + 1 }

/-- Queue blocks where their node's traffic goes: the home sheaf's outbound queue, else the port engine's buffer, once it has room; a
repeat is queued anew. DESIGN CHOICE: notes/assumptions/29.md. -/
def Dev.putBlocks (d : Dev) (p : Nat) (home : Option Nat) (l : List Block) : Dev :=
  let l := (d.port p).number l
  let d := d.modPort p fun x => { x with queued := x.queued + l.length }
  match home with
  | some s => l.foldl (fun d b => d.enqueue (2 * s + 1) b) d
  | none => d.modPort p fun x => ({ x with backlog := x.backlog ++ l }).topUp

/-- Send a message to a node from the device's own buffer; a request waits for its reply. -/
def Dev.sendMessage (d : Dev) (p node btype : Nat) (data : List Byte) (home : Option Nat) : Dev :=
  let x := (d.port p).node node
  let l := x.message p node btype data
  let req : List NodeReqSt := if node = 0xFF then [] else [{ btype := btype, age := 0, repeats := 0, blocks := l }]
  let d := d.modNode p node fun x => { x with txSeq := (x.txSeq + l.length) % 65536, requests := x.requests ++ req }
  d.putBlocks p home l

/-- Blocks for a node's home sheaf have room in its outbound spill area; the port engine's buffer has none of its own (R207, R209).
DESIGN CHOICE: notes/assumptions/29.md. -/
def Dev.outboundRoom (d : Dev) (home : Option Nat) (blocks : Nat) : Bool :=
  match home with
  | some s => (d.queue (2 * s + 1)).takes blocks
  | none => true

/-- A host's request to a node (R203, R209): refused with 0x1022 when the outbound spill area is full, that is, has no room for its
blocks. DESIGN CHOICE: notes/assumptions/29.md. -/
def Dev.hostMessage (d : Dev) (p node btype : Nat) (data : List Byte) : Dev × Nat :=
  let home := d.homeSheaf p node
  let blocks := (((d.port p).node node).message p node btype data).length
  if d.outboundRoom home blocks then (d.sendMessage p node btype data home, 0) else (d, 0x1022)

/-! ### Replies that wait (R206, R207) -/

/-- Put a block in its place by order of arrival. -/
def insertBlock (b : Block) : List Block → List Block
  | [] => [b]
  | c :: cs => if b.ord < c.ord then b :: c :: cs else c :: insertBlock b cs

/-- The reply blocks of a node that wait, wherever they are, oldest first: what an old home queue holds comes before what a new one
holds (R207). -/
def Dev.waitingReplies (d : Dev) (p node : Nat) : List Block :=
  let mine (b : Block) : Bool := b.port == p && b.node == node
  let l := d.queues.flatMap fun q => if q.1 % 2 = 0 then (q.2.onDie ++ q.2.spill).filter mine else []
  (l ++ ((d.port p).node node).replies).foldr insertBlock []

/-- Remove the reply blocks of a node that a test picks by their order of arrival. -/
def Dev.dropReplies (d : Dev) (p node : Nat) (out : Nat → Bool) : Dev :=
  let keep (b : Block) : Bool := !(b.port == p && b.node == node && out b.ord)
  let cut (q : Nat × Queue) : Nat × Queue :=
    (q.1, if q.1 % 2 = 0 then { q.2 with onDie := q.2.onDie.filter keep, spill := q.2.spill.filter keep } else q.2)
  { d with queues := d.queues.map cut }.modNode p node fun x => { x with replies := x.replies.filter keep }

/-- The last block of a message. -/
def Block.ends (b : Block) : Bool := b.frag / 2 % 2 == 1

/-- A gap in MSEQ: what waits of the node's unfinished message, in whichever queue or on its way into one, is discarded, and the request
it began to answer waits for its reply again (R206).  A message that is whole and was read in part is read to its end (R329). -/
def Dev.discardOpen (d : Dev) (p node : Nat) : Dev :=
  let coming := (d.port p).arriving.filter fun b => b.node == node
  let ended := (d.waitingReplies p node ++ coming).filter Block.ends
  let whole := ended.foldl (fun k b => Nat.max k b.ord) 0
  let d := (d.dropReplies p node fun k => decide (whole < k)).modNode p node fun x =>
    { x with requests := x.requests.map fun r => { r with answering := false } }
  d.modPort p fun x => { x with
    arriving := x.arriving.filter fun b => !(b.node == node && decide (whole < b.ord))
    readPart := if ended.isEmpty then x.readPart.filter (· != node) else x.readPart }

/-! ### Link start (R210–R214) -/

/-- What a link start keeps of a node: its MSEQ counts, the requests of the host that wait and what waits for the host (R206, R329). -/
def Node.relink (x : Node) : Node :=
  { txSeq := x.txSeq, rxSeq := x.rxSeq, requests := x.requests.filter fun r => 5 ≤ r.btype, gaveUp := x.gaveUp, replies := x.replies }

/-- Begin link start: the axes of the port enter OFF, lost nodes and channels are forgotten, a message that has not arrived whole is
discarded, TRAIN follows. DESIGN CHOICE: notes/assumptions/29.md. -/
def Dev.beginLink (d : Dev) (p : Nat) : Dev :=
  if !bit (d.reg (Adr.strCtrl p)) 0 || !d.drivesPorts then d
  else
    let d := d.portAxesOff p
    let l := d.layoutNow p
    let d := l.axes.foldl (fun d a => let x := d.axis a.axis; d.setAxis a.axis { x with chLost := false, chLostRun := 0 }) d
    let d := ((d.port p).nodes.filter fun q => q.2.rxOpen).foldl (fun d q => d.discardOpen p q.1) d
    d.modPort p fun x => { x with st := .train, warm := false, phaseFrames := 0, startAt := none, lostFrames := 0, badRun := 0,
                                  shortRun := 0, lostFrom := 0, layout := some l, rx := none, tx := none, found := 0, foundStart := 0,
                                  nodes := x.nodes.map fun q => (q.1, q.2.relink),
                                  bulk := [], backlog := [], granted := [], rrNode := 0, rrGrant := 0 }

/-- A failed link start (R210). -/
def Dev.linkFail (d : Dev) (p code : Nat) : Dev :=
  ((d.modPort p fun x => { x with st := .down, code := code, tx := none }).strFlag p 0x80).event code (strSubj p 0)

/-- A port goes to DOWN on STOP, on departure from IDLE and RUN, or when the module stops driving. -/
def Dev.portDown (d : Dev) (p : Nat) : Dev :=
  (d.portAxesOff p).modPort p fun x => { x with st := .down, tx := none, startAt := none }

/-- Tables that the axes of a port name, once each. -/
def PortLayout.tables (l : PortLayout) : List Nat := (l.axes.map (·.table)).foldl (fun m t => if m.contains t then m else m ++ [t]) []

/-- The bytes of a commutation table of the running image. -/
def Dev.tableBytes (d : Dev) (t : Nat) : Option (List Byte) :=
  match d.image with
  | some im => (im.tables.find? fun q => q.1 == t).map fun q =>
      (List.range 1024).flatMap fun i => leBytes 4 (q.2.getD i 0).toNat
  | none => none

/-- Every found node reports the CRC of a table. -/
def Dev.tableHeld (d : Dev) (p t : Nat) : Bool :=
  match d.tableBytes t with
  | some bs => (d.port p).found'.all fun q => q.2.tableCrc.getD t 0 == crc32c bs
  | none => false

/-- Every found node reports the CRC of every table needed. -/
def Dev.tablesHeld (d : Dev) (p : Nat) : Bool := (d.port p).inForce.tables.all fun t => d.tableHeld p t

/-- The nodes and channels named by axes and encoders. -/
def PortLayout.named (l : PortLayout) : List (Nat × Nat) :=
  l.axes.map (fun a => (a.node, a.chan)) ++ l.encs.map fun e => (fld e.2 16 7, fld e.2 24 3)

/-- The slots used. -/
def PortLayout.slots (l : PortLayout) : List Nat := l.axes.map (·.slot) ++ l.encs.map fun e => fld e.2 8 7

/-- Whether a list names something twice. -/
def repeated {α : Type} [BEq α] : List α → Bool
  | [] => false
  | x :: xs => xs.contains x || repeated xs

/-- The slot configuration is invalid (R214). -/
def Dev.layoutInvalid (d : Dev) (p : Nat) : Bool :=
  let l := (d.port p).inForce
  let nodes := fld (d.reg (Adr.strCtrl p)) 8 7
  repeated l.slots || l.named.any (fun q => q.1 == 0 || nodes < q.1) || l.tables.any (fun t => (d.tableBytes t).isNone)
    || repeated l.named

/-- An identity is unsuitable (R211). -/
def PortLayout.unsuitable (l : PortLayout) (addr : Nat) (x : Node) (revision safe : Nat) : Bool :=
  revision != 1 || x.buffer < 16 || 64 < x.buffer || safe % 2 == 0 || l.named.any fun q => q.1 == addr && x.channels < q.2 + 1

/-- The configuration block of a node (R212). -/
def PortLayout.configBlock (l : PortLayout) (addr : Nat) (x : Node) : List Byte :=
  let word (c : Nat) : Word :=
    match l.axes.find? fun a => a.node == addr && a.chan == c with
    | some a => fields [(0, a.slot), (7, 1), (8, a.table), (12, b2n a.brake)]
    | none => match l.encs.find? fun e => fld e.2 16 7 == addr && fld e.2 24 3 == c with
      | some e => fields [(0, fld e.2 8 7), (7, 1), (13, 1)]
      | none => 0
  leBytes 1 addr ++ [0, 0, 0] ++ leBytes 4 (9375 + x.ddown) ++ leBytes 4 (9055 - x.ddown)
    ++ (List.range 8).flatMap fun c => leBytes 4 (word c).toNat

/-- Enter CONFIG: one configuration block to each node. -/
def Dev.enterConfig (d : Dev) (p : Nat) : Dev :=
  let d := d.modPort p fun x => { x with st := .config, phaseFrames := 0,
                                         nodes := x.nodes.map fun q => (q.1, { q.2 with configured := false }) }
  (d.port p).found'.foldl (fun d q => d.sendMessage p q.1 0x02 ((d.port p).inForce.configBlock q.1 q.2) none) d

/-- The fragments of a table, broadcast (R203). -/
def Dev.broadcastTable (d : Dev) (p t : Nat) : Dev :=
  match d.tableBytes t with
  | none => d
  | some bs => (List.range 17).foldl (fun d k =>
      d.sendMessage p 0xFF 0x01 ([BitVec.ofNat 8 t, BitVec.ofNat 8 k, 0, 0] ++ slice bs (244 * k) 244) none) d

/-- Enter TABLES: every table needed is broadcast unless every node already reports it, and identity is requested again (R210). -/
def Dev.enterTables (d : Dev) (p : Nat) : Dev :=
  let missing := (d.port p).inForce.tables.filter fun t => !d.tableHeld p t
  let d := d.modPort p fun x => { x with st := .tables, phaseFrames := 0,
                                         nodes := x.nodes.map fun q => (q.1, { q.2 with tableCrc := [] }) }
  let d := missing.foldl (fun d t => d.broadcastTable p t) d
  (d.port p).found'.foldl (fun d q => d.sendMessage p q.1 0x04 [Config.identityRequest] none) d

/-- The first failure of ENUM that applies (R210), 0 where none does. DEDUCED: notes/assumptions/28.md. -/
def Dev.enumCode (d : Dev) (p ncount : Nat) : Nat :=
  let x := d.port p
  if ncount ≠ fld (d.reg (Adr.strCtrl p)) 8 7 then 0x1005
  else if x.found'.any fun q => x.inForce.unsuitable q.1 q.2 q.2.revision q.2.safeStates then 0x1006
  else if x.found'.any fun q => 6406 < q.2.ddown then 0x1007
  else if d.layoutInvalid p then 0x100A else 0

/-- All identities are in: ENUM ends in a failure, in TABLES, or, where no table needs sending, in CONFIG. -/
def Dev.enumEnd (d : Dev) (p ncount : Nat) : Dev :=
  let d := d.modPort p fun x => { x with found := ncount, foundStart := ncount }
  let code := d.enumCode p ncount
  if code ≠ 0 then d.linkFail p code
  else if d.tablesHeld p then (d.modPort p fun x => { x with warm := true }).enterConfig p
  else d.enterTables p

/-- All configurations are accepted: START with s eight frames on (R213). -/
def Dev.sendStart (d : Dev) (p : Nat) : Dev :=
  let s := d.sys.frame + 8
  (d.modPort p fun x => { x with startAt := some s }).sendMessage p 0xFF 0x03 (leBytes 4 s.toNat) none

/-- What the blocks of a frame complete in a link start. DEDUCED: notes/assumptions/28.md. -/
def Dev.linkAdvance (d : Dev) (p ncount : Nat) : Dev :=
  let x := d.port p
  match x.st with
  | .enum => if 0 < ncount && (List.range ncount).all (fun k => (x.node (k + 1)).known) then d.enumEnd p ncount else d
  | .tables => if x.found'.all (fun q => q.2.requests.all fun r => r.btype != 0x04) && d.tablesHeld p then d.enterConfig p else d
  | .config => if x.startAt.isNone && x.found'.all (fun q => q.2.configured) then d.sendStart p else d
  | _ => d

/-! ### Upstream blocks (R203, R206, R211) -/

/-- An identity block. -/
def Dev.identity (d : Dev) (p addr : Nat) (b : List Byte) (frame : Word) : Dev :=
  let tp := leAt b 12 4
  let t0 := Config.enumT0 (Fin.ofNat 4 p) addr frame
  let first := !((d.port p).node addr).known
  d.modNode p addr fun x => { x with
    known := true, ntype := leAt b 0 2, revision := leAt b 2 2, serial := wordOfNat (leAt b 4 4), channels := leAt b 8 1,
    buffer := leAt b 9 1, safeStates := leAt b 10 1, tp := tp, ddown := if first then (t0 - tp) / 2 else x.ddown,
    tableCrc := (List.range 16).map (fun t => wordOfNat (leAt b (16 + 4 * t) 4)),
    requests := x.requests.filter fun r => r.btype != 0x04 }

/-- A block for the host: the next boundary latches it (R421). -/
def Dev.inbound (d : Dev) (p : Nat) (b : Block) : Dev :=
  d.modPort p fun x => { x with arrived := x.arrived + 1, arriving := x.arriving ++ [{ b with ord := x.arrived + 1 }] }

/-- The boundary latches the blocks received: into the inbound queue of the node's home sheaf, else into the port engine's buffer (R207,
R421). -/
def Dev.latchBlocks (d : Dev) (p : Nat) : Dev :=
  let l := (d.port p).arriving
  l.foldl (fun d b => match d.homeSheaf p b.node with
    | some s => d.enqueue (2 * s) b
    | none => d.modNode p b.node fun x => { x with replies := x.replies ++ [b] }) (d.modPort p fun x => { x with arriving := [] })

/-- A reply message begins: it answers the oldest request of its kind that has none yet (R206). -/
def beginAnswer (t : Nat) : List NodeReqSt → List NodeReqSt
  | [] => []
  | r :: rs => if r.btype = t ∧ r.answering = false then { r with answering := true } :: rs else r :: beginAnswer t rs

/-- The requests of a node once a block of a reply message has arrived: the first begins the answer, the last ends the request (R206). -/
def answer (t : Nat) (b : Block) (l : List NodeReqSt) : List NodeReqSt :=
  let l := if b.frag % 2 = 1 then beginAnswer t l else l
  if b.ends then l.eraseP fun r => r.btype == t && r.answering else l

/-- One upstream block: counted, its message checked for gaps, and taken by its type. -/
def Dev.upBlock (d : Dev) (p : Nat) (frame : Word) (b : Block) : Dev :=
  let d := (d.incReg (Adr.strRxblk p)).countEvent 10 p 1
  let x := (d.port p).node b.node
  let first := b.frag % 2 = 1
  let ok := first || (x.rxOpen && b.mseq == x.rxSeq)
  let d := if x.rxOpen && (first || b.mseq != x.rxSeq) then d.discardOpen p b.node else d
  let d := d.modNode p b.node fun x => { x with rxSeq := (b.mseq + 1) % 65536, rxOpen := ok && b.frag / 2 % 2 == 0 }
  let answered (t : Nat) (d : Dev) : Dev := d.modNode p b.node fun x => { x with requests := answer t b x.requests }
  if !ok then d
  else match b.btype with
    | 0x81 => d.identity p b.node b.data frame
    | 0x82 => (answered 0x02 d).modNode p b.node fun x => { x with configured := leAt b.data 0 2 == 0 }
    | 0x85 => (answered 0x05 d).inbound p b
    | 0x86 => (answered 0x06 d).inbound p b
    | _ => d

/-- The blocks of an upstream frame. -/
def upBlocks (p : Nat) (bytes : List Byte) : List Block :=
  (List.range (Nat.min 10 (leAt bytes 8 1))).filterMap fun i =>
    let o := 1276 + 256 * i
    let node := leAt bytes o 1
    if node = 0 || 64 < node then none
    else some { port := p, node := node, btype := leAt bytes (o + 1) 1, mseq := leAt bytes (o + 2) 2, frag := leAt bytes (o + 6) 1,
                data := slice bytes (o + 8) (Nat.min 248 (leAt bytes (o + 4) 2)) }

/-- The slots of an upstream frame that are not all zeros. -/
def upSlots (bytes : List Byte) : SMap (BitVec 64) :=
  (List.range 128).filterMap fun s =>
    let v := leAt bytes (16 + 8 * s) 8
    if v = 0 then none else some (s, BitVec.ofNat 64 v)

/-- FREE, PEND and ERR of the nodes that answer and of those found before (R196, R226). -/
def Dev.upManagement (d : Dev) (p ncount : Nat) (bytes : List Byte) : Dev :=
  ((List.range 64).filter fun k => k < ncount || ((d.port p).node (k + 1)).known).foldl (fun d k => d.modNode p (k + 1) fun x => { x with
    free := leAt bytes (1040 + k) 1, pend := leAt bytes (1104 + k) 1, err := leAt bytes (1168 + k) 1 }) d

/-- A bad upstream frame, received or missing (R215). -/
def Dev.badUpFrame (d : Dev) (p : Nat) : Dev :=
  ((d.incReg (Adr.strBadcnt p)).strFlag p 1).eventRep 0x1010 (strSubj p 0)

/-- Whether an upstream frame is good (R215): in time, no code violation, TYPE, FRAME and CRC right.  Until it is configured a
chain end starts its frame as the downstream frame reaches it (R210), so the frame of a link start may arrive one later. -/
def Dev.upGood (d : Dev) (p : Nat) (onTime violation : Bool) (bytes : List Byte) : Bool :=
  let frame : Word := wordOfNat (leAt bytes 2 4)
  let st := (d.port p).st
  onTime && !violation && bytes.length == 3840 && leAt bytes 0 1 == 0x5D
    && (frame == d.sys.frame || ((st == .enum || st == .tables || st == .config) && frame + 1 == d.sys.frame))
    && wordOfNat (leAt bytes 3836 4) == crc32c (bytes.take 3836)

/-- A port that receives upstream frames: it drives, and is past training. -/
def Dev.portReceives (d : Dev) (p : Nat) : Bool :=
  d.operating && (match (d.port p).st with
    | .enum => true
    | .tables => true
    | .config => true
    | .up => true
    | .lost => true
    | _ => false)

/-- UPSTREAM_FRAME_RECEIVED: the frame is judged; a good one leaves its slots for the next boundary, its management bytes and
its blocks. -/
def execUpstreamFrameReceived (port : PortId) (onTime violation : Bool) (bytes : List Byte) (s : State) :
    Host.Outcome State Fault Refusal :=
  let p := port.val
  let d := s.dev
  if !d.portReceives p then .next s
  else if d.upGood p onTime violation bytes then
    let ncount := leAt bytes 6 1
    let frame : Word := wordOfNat (leAt bytes 2 4)
    let d := d.modPort p fun x => { x with rx := some { good := true, frame := d.sys.frame, ncount := ncount, slots := upSlots bytes } }
    let d := d.upManagement p ncount bytes
    let d := (upBlocks p bytes).foldl (fun d b => d.upBlock p frame b) d
    .next { s with dev := d.linkAdvance p ncount }
  else .next { s with dev := (d.badUpFrame p).modPort p fun x => { x with rx := some { frame := d.sys.frame } } }

/-! ### The boundary: latching (R215, R218, R219, R223) -/

/-- The word of slot 14 and slot 20 (R151, R223). -/
def edgeWord (w : BitVec 64) : Word :=
  let f (lo width : Nat) : Nat := (w.toNat >>> lo) % 2 ^ width
  fields [(0, f 36 5), (8, f 41 5), (16, f 46 6), (22, f 52 1)]

/-- Latch one axis from its upstream slot; `none` for a bad frame. DEDUCED: notes/assumptions/30.md. -/
def Dev.latchAxis (d : Dev) (n : Nat) (u : Word) (w : Option (BitVec 64)) : Dev :=
  let old (k : Nat) : Word := d.par n k
  let v : BitVec 64 := w.getD 0
  let f (lo width : Nat) : Nat := (v.toNat >>> lo) % 2 ^ width
  let ok := w.isSome && v.getLsbD 53 && !v.getLsbD 54
  let s12 (x : Nat) : Word := (BitVec.ofNat 12 x).signExtend 32
  let vals : List (Nat × Word) := match w with
    | some _ => [(16, s12 (f 0 12)), (17, s12 (f 12 12)), (18, wordOfNat (f 24 12)), (19, wordOfNat (f 53 11)), (20, edgeWord v)]
    | none => [(16, old 16), (17, old 17), (18, old 18), (19, old 19), (20, old 20)]
  let a := d.axis n
  let levels : BitVec 5 := if ok then BitVec.ofNat 5 (f 36 5) else a.levels
  let d := d.setAxis n { a with levels := levels, status := if w.isSome then BitVec.ofNat 11 (f 53 11) else a.status }
  let d := if ok then d.devSig (slotSig n 14) (edgeWord v)
    else d.devSig (slotSig n 14) (levels.setWidth 32) false true
  let d := vals.foldl (fun d q => d.devSig (slotSig n q.1) q.2 ok (!ok)) d
  let d := if w.isSome then d.devSig (slotSig n 21) u else d.devSig (slotSig n 21) (old 21) false true
  if ok || d.sys.power != .run then d
  else
    let a := d.axis n
    (d.setAxis n { a with unlatched := satInc a.unlatched }).devSig (slotSig n 24) (satInc a.unlatched)

/-- The status bits of an axis's slot in a good frame: the run towards CHANNEL_LOST, SPERR and stage faults (R219). -/
def Dev.latchStatus (d : Dev) (p : Nat) (a : PortAxis) (v : BitVec 64) : Dev :=
  let x := d.axis a.axis
  let lost := (!v.getLsbD 53 || v.getLsbD 54) && !x.chLost && !(d.port p).beyond a.node
  let d := d.setAxis a.axis { x with chLostRun := if lost then x.chLostRun + 1 else 0 }
  let d := if v.getLsbD 58 then (d.strFlag p 0x10).eventRep 0x1011 a.axis else d
  if v.getLsbD 55 || v.getLsbD 56 || v.getLsbD 57 || v.getLsbD 59 then (d.strFlag p 0x20).eventRep 0x1012 a.axis else d

/-- Latch the encoders of a port (R195, R226). -/
def Dev.latchEncoders (d : Dev) (p : Nat) (slots : Option (SMap (BitVec 64))) : Dev :=
  let l := (d.port p).inForce.encs
  match slots with
  | none => d.modPort p fun x => { x with encOk := [] }
  | some m =>
    let d := d.modPort p fun x => { x with encOk := [] }
    l.foldl (fun d e =>
      let v : BitVec 64 := smGet 0 m (fld e.2 8 7)
      if v.getLsbD 53 && !v.getLsbD 54 then
        (d.setReg (Adr.strEncval p e.1) (v.setWidth 32)).modPort p fun x => { x with encOk := x.encOk ++ [e.1] }
      else d) d

/-- An upstream frame is expected at this boundary: the port is past training, and in ENUM its first downstream frame is two boundaries
old (R210, R215). -/
def Dev.upExpected (d : Dev) (p : Nat) : Bool :=
  let x := d.port p
  d.portReceives p && (x.st != .enum || decide (2 ≤ x.phaseFrames))

/-- Latch a port at the boundary that opens frame u + 1. DEDUCED: notes/assumptions/30.md. -/
def Dev.latchPort (d : Dev) (p : Nat) (u : Word) : Dev :=
  let x := d.port p
  let d := if x.st != .up && x.rx.isNone && d.upExpected p then d.badUpFrame p else d
  let d := d.modPort p fun x => { x with rx := none }
  if x.st != .up then
    (x.inForce.axes.foldl (fun d a => d.latchAxis a.axis u none) d).latchEncoders p none
  else
    let limit := if x.lostFrom = 0 then fld (d.reg (Adr.strCtrl p)) 8 7 else x.lostFrom - 1
    match x.rx with
    | some r =>
      if r.good && r.frame == u then
        let d := d.modPort p fun x => { x with badRun := 0, found := r.ncount,
                                               shortRun := if r.ncount < limit then x.shortRun + 1 else 0 }
        let d := x.inForce.axes.foldl (fun d a =>
          let v := smGet 0 r.slots a.slot
          (d.latchAxis a.axis u (some v)).latchStatus p a v) d
        d.latchEncoders p (some r.slots)
      else
        let d := d.modPort p fun x => { x with badRun := x.badRun + 1 }
        (x.inForce.axes.foldl (fun d a => d.latchAxis a.axis u none) d).latchEncoders p none
    | none =>
      let d := (d.badUpFrame p).modPort p fun x => { x with badRun := x.badRun + 1 }
      (x.inForce.axes.foldl (fun d a => d.latchAxis a.axis u none) d).latchEncoders p none

/-! ### The boundary: sending (R191, R192, R204, R205) -/

/-- The downstream set-point word of an axis (R192). -/
def Dev.setPoint (d : Dev) (n : Nat) : Word :=
  let m := (d.axis n).motion
  fields [(0, m.setAddr % 1024), (10, m.setAmp % 256), (18, m.setMode % 4), (20, (d.sys.frame - 1).toNat % 16), (24, 1),
          (25, b2n m.setRamp)]

/-- Whether a block may be sent: every addressed node has a credit left (R204). -/
def Port.credit (x : Port) (b : Block) : Bool :=
  let left (n : Node) : Bool := n.sent3.sum < n.freeOld
  if b.node = 0xFF then x.found'.all fun q => left q.2 else left (x.node b.node)

/-- Whether a block for the same node that was queued earlier still waits somewhere else: in another sheaf's queue or, where the block is
in a sheaf's queue, in the port engine's buffer (R204, R207). -/
def Dev.olderElsewhere (d : Dev) (q : Option Nat) (b : Block) : Bool :=
  let earlier (c : Block) : Bool := c.port == b.port && (c.node == b.node || c.node == 0xFF) && decide (c.ord < b.ord)
  let x := d.port b.port
  (d.queues.any fun y => some y.1 != q && y.1 % 2 == 1 && (y.2.onDie ++ y.2.spill).any earlier)
    || (q.isSome && (x.bulk ++ x.backlog).any earlier)

/-- The first block of each node in a list; a broadcast comes after every earlier block and before every later one (R204). -/
def firstOfNodes (seen : List Nat) : List Block → List Block
  | [] => []
  | b :: bs =>
    if seen.contains 0xFF || seen.contains b.node || (b.node == 0xFF && !seen.isEmpty) then firstOfNodes (b.node :: seen) bs
    else b :: firstOfNodes (b.node :: seen) bs

/-- The blocks at the heads of the queues that a port may send, each with its queue (`none`: the port engine's buffer); types 0x01–0x04,
which the port engine's buffer holds, go before the others and wait for none of them. DESIGN CHOICE: notes/assumptions/29.md. -/
def Dev.sendable (d : Dev) (p : Nat) : List (Option Nat × Block) :=
  let x := d.port p
  let own : List (Option Nat × Block) := ((firstOfNodes [] x.bulk).filter fun b =>
    x.credit b && (decide (b.btype ≤ 4) || !d.olderElsewhere none b)).map fun b => (none, b)
  own ++ (List.range 16).filterMap fun s => match (d.queue (2 * s + 1)).onDie with
    | b :: _ => if b.port = p && x.credit b && !d.olderElsewhere (some (2 * s + 1)) b then some (some (2 * s + 1), b) else none
    | [] => none

/-- The block sent next: types 0x01–0x04 first, then round-robin among the nodes. -/
def chooseBlock (rr : Nat) (l : List (Option Nat × Block)) : Option (Option Nat × Block) :=
  let dist (b : Block) : Nat := (b.node + 256 - rr - 1) % 256
  let best (l : List (Option Nat × Block)) : Option (Option Nat × Block) := l.foldl (fun m c => match m with
    | none => some c
    | some y => if dist c.2 < dist y.2 then some c else some y) none
  match best (l.filter fun c => c.2.btype ≤ 4) with
  | some c => some c
  | none => best l

/-- Count a block sent against the credit of its nodes. -/
def Port.noteSent (x : Port) (b : Block) : Port :=
  let bump (n : Node) : Node := { n with sent3 := match n.sent3 with
    | k :: l => (k + 1) :: l
    | [] => [1] }
  if b.node = 0xFF then { x with nodes := x.nodes.map fun q => (q.1, if q.2.known then bump q.2 else q.2) }
  else { x.setNode b.node (bump (x.node b.node)) with rrNode := b.node }

/-- Take up to `k` blocks for the frame. DESIGN CHOICE: notes/assumptions/29.md. -/
def Dev.takeBlocks (d : Dev) (p : Nat) : Nat → Dev × List Block
  | 0 => (d, [])
  | k + 1 => match chooseBlock (d.port p).rrNode (d.sendable p) with
    | none => (d, [])
    | some (q, b) =>
      let d := match q with
        | none => d.modPort p fun x => ({ x with bulk := x.bulk.erase b }).topUp
        | some i => let y := d.queue i; d.setQueue i { y with onDie := y.onDie.drop 1 }
      let d := (d.modPort p fun x => x.noteSent b).incReg (Adr.strTxblk p)
      let d := d.countEvent 9 p 1
      let r := d.takeBlocks p k
      (r.1, b :: r.2)

/-- The blocks granted and not yet received that go where a node's blocks go: those of this frame, `now`, and of the two frames before
(R205). -/
def Dev.underGrant (d : Dev) (p node : Nat) (now : List Nat) : Nat :=
  let home := d.homeSheaf p node
  let mine (q : Nat) (l : List Nat) : Nat :=
    (l.filter fun a => d.homeSheaf q a == home && (home.isSome || q == p)).length
  mine p now + ((List.range 4).map fun q => (((d.port q).granted.take 3).map (mine q)).sum).sum

/-- The room for one more of a node's blocks: in the spill area of its home sheaf's inbound queue, not closed since it was full;
without a home, in the 64 blocks of the port engine's receive buffer (R205, R207, R209). -/
def Dev.grantable (d : Dev) (p node : Nat) (now : List Nat) : Bool :=
  let k := d.underGrant p node now
  match d.homeSheaf p node with
  | some s => let q := d.queue (2 * s); !q.full && decide (q.spilled + 256 * (k + 1) ≤ 2 ^ 23)
  | none => decide (((d.port p).nodes.map fun q => q.2.replies.length).sum + k + 1 ≤ 64)

/-- The blocks of a node that wait and have no grant: PEND of upstream frame f − 2, which counts what waits after that frame, less the
grants of frames f − 3 to f − 1, which answer it already (R205, R421). DESIGN CHOICE: notes/assumptions/29.md. -/
def Port.ungranted (x : Port) (node : Nat) : Nat := (x.node node).pendOld - ((x.granted.take 4).flatten.filter (· == node)).length

/-- The grants of a frame f, composed in frame f − 1 from the PEND of upstream frame f − 2 as the credits are (R204, R421): one block at a
time, round-robin by address over the nodes that have blocks waiting without a grant and room for them, at most ten; in ENUM one to each
node whose identity is awaited. -/
def Dev.grants (d : Dev) (p : Nat) : List Nat :=
  let x := d.port p
  let nodes := fld (d.reg (Adr.strCtrl p)) 8 7
  let order := (List.range 64).map fun k => (x.rrGrant + k) % 64 + 1
  if x.st == .enum then (order.filter fun a => a ≤ nodes && !(x.node a).known).take 10
  else
    let rounds := (List.range 10).flatMap fun r => order.filter fun a => r < x.ungranted a
    rounds.foldl (fun l a => if l.length < 10 && d.grantable p a l then l ++ [a] else l) []

/-- Compose and send the downstream frame of a port. -/
def Dev.sendPort (d : Dev) (p : Nat) : Dev :=
  let x := d.port p
  if !d.drivesPorts || x.st == .down || x.st == .train || x.st == .listen then d
  else
    let started := match x.startAt with
      | some s => (d.sys.frame + 1 - s).toInt ≥ 0
      | none => false
    let ls := !(x.st == .up || (x.st == .config && started))
    let d := d.modPort p fun x => { x with nodes := x.nodes.map fun q => (q.1, { q.2 with sent3 := 0 :: q.2.sent3.take 3 }) }
    let words := x.inForce.axes.map fun a => (a, d.setPoint a.axis)
    let grants := d.grants p
    let (d, blocks) := d.takeBlocks p 12
    let frame : DownFrame := { frame := d.sys.frame, ls := ls, warm := x.warm, paired := d.pair.role != .unpaired,
                               slots := words.foldl (fun m q => smPut m q.1.slot (q.2.setWidth 64)) [], grants := grants,
                               blocks := blocks }
    let d := d.modPort p fun x => { x with tx := some frame, granted := grants :: x.granted.drop 1, rrGrant := grants.getLastD x.rrGrant % 64,
                                           nodes := x.nodes.map fun q => (q.1, { q.2 with freeOld := q.2.free, pendOld := q.2.pend }) }
    words.foldl (fun d q => (d.devSig (slotSig q.1.axis 22) q.2).devSig (slotSig q.1.axis 23) d.sys.frame) d

/-- Whether blocks of this request of a node still wait to be sent. -/
def Dev.requestQueued (d : Dev) (p node : Nat) (r : NodeReqSt) : Bool :=
  let mine (b : Block) : Bool := b.port == p && b.node == node && b.btype == r.btype && r.blocks.any fun c => c.mseq == b.mseq
  ((d.port p).bulk ++ (d.port p).backlog).any mine || d.queues.any fun y => y.1 % 2 == 1 && (y.2.onDie ++ y.2.spill).any mine

/-- One frame of the port's counts: the phase of a link start, the frames since a loss, the ages of requests. -/
def Dev.agePort (d : Dev) (p : Nat) : Dev :=
  let x := d.port p
  let older (node : Nat) (r : NodeReqSt) : NodeReqSt := { r with age := if d.requestQueued p node r then 0 else r.age + 1 }
  let nodes := x.nodes.map fun q => (q.1, { q.2 with requests := q.2.requests.map (older q.1) })
  d.modPort p fun x => { x with nodes := nodes, granted := [] :: x.granted.take 3, phaseFrames := x.phaseFrames + 1,
                                lostFrames := if x.st == .lost then x.lostFrames + 1 else 0 }

/-- The configured axes that no port's link start has taken (R214, R223). -/
def Dev.strayAxes (d : Dev) : List Nat :=
  d.axes'.filter fun n => !(List.range 4).any fun p => (d.port p).inForce.axes.any fun a => a.axis == n

/-- The ports' part of the boundary that opens a frame: latch, then count, then send. -/
def Dev.portsFrame (d : Dev) (u : Word) : Dev :=
  let d := (List.range 4).foldl (fun d p => (d.latchBlocks p).latchPort p u) d
  let d := d.strayAxes.foldl (fun d n => d.latchAxis n u none) d
  let d := (List.range 4).foldl (fun d p => d.agePort p) d
  ((List.range 4).foldl (fun d p => d.sendPort p) d).queuesFrame

/-- The payload bytes of a downstream frame (R190–R192, R196–R198). -/
def DownFrame.bytes (f : DownFrame) (port : Nat) : List Byte :=
  let head := leBytes 1 0xD5 ++ leBytes 1 (b2n f.ls + 2 * b2n f.warm) ++ leBytes 4 f.frame.toNat ++ [0]
    ++ leBytes 1 (port + 4 * b2n f.paired) ++ leBytes 1 f.blocks.length ++ [0, 0, 0]
  let slots := (List.range 128).flatMap fun s => leBytes 4 (smGet 0 f.slots s).toNat
  let mgt := ((List.range 64).flatMap fun k => leBytes 1 (f.grants.filter (· == k + 1)).length) ++ List.replicate 172 0
  let block (b : Block) : List Byte := leBytes 1 b.node ++ leBytes 1 b.btype ++ leBytes 2 b.mseq ++ leBytes 2 b.data.length
    ++ leBytes 1 b.frag ++ [0] ++ (b.data ++ List.replicate (248 - b.data.length) 0)
  let body := head ++ leBytes 4 (crc32c (head ++ slots)).toNat ++ slots ++ mgt ++ f.blocks.flatMap block
    ++ List.replicate (256 * (12 - f.blocks.length)) 0
  body ++ leBytes 4 (crc32c body).toNat

/-! ### Losses and commands -/

/-- PORT_LOST: the third consecutive bad upstream frame has been latched (R217). -/
def execPortLost (port : PortId) (s : State) : Host.Outcome State Fault Refusal :=
  let p := port.val
  let d := s.dev
  if (d.port p).st == .up && 3 ≤ (d.port p).badRun then
    let d := (d.portAxesOff p).modPort p fun x => { x with st := .lost, code := 0x1001, lostFrames := 0, startAt := none }
    let d := (d.strFlag p 2).incReg (Adr.strLostcnt p)
    let carries (x : Nat) : Bool := match d.image with
      | some im => (im.doorAxes x).any fun n => (d.port p).inForce.axes.any fun a => a.axis == n
      | none => false
    .next { s with dev := (d.breakCopy carries).event 0x1001 (strSubj p 0) }
  else .next s

/-- NODES_BEYOND_BREAK_LOST: NCOUNT has been short in three consecutive good frames (R218). -/
def execNodesBeyondBreakLost (port : PortId) (s : State) : Host.Outcome State Fault Refusal :=
  let p := port.val
  let d := s.dev
  let x := d.port p
  if x.st == .up && 3 ≤ x.shortRun then
    let d := d.modPort p fun x => { x with lostFrom := x.found + 1, shortRun := 0 }
    let d := (x.inForce.axes.filter fun a => x.found < a.node).foldl (fun d a => d.axisOff a.axis) d
    .next { s with dev := (d.strFlag p 4).event 0x1002 (strSubj p (x.found + 1)) }
  else .next s

/-- CHANNEL_LOST: the channel showed PRESENT = 0 or SAFE = 1 in three consecutive good frames (R219). -/
def execChannelLost (axis : AxisId) (s : State) : Host.Outcome State Fault Refusal :=
  let n := axis.val
  let d := s.dev
  let a := d.axis n
  if !a.chLost && 3 ≤ a.chLostRun then
    let d := (d.setAxis n { a with chLost := true, chLostRun := 0 }).axisOff n
    .next { s with dev := (d.strFlag (((d.linkOf n).map (·.1)).getD (d.axPort n)) 8).event 0x1003 n }
  else .next s

/-- AUTORST_LINK_START: sixteen frames after a loss (R217). -/
def execAutorstLinkStart (port : PortId) (s : State) : Host.Outcome State Fault Refusal :=
  let p := port.val
  let d := s.dev
  if (d.port p).st == .lost && 16 ≤ (d.port p).lostFrames && bit (d.reg (Adr.strCtrl p)) 1 then
    .next { s with dev := d.beginLink p }
  else .next s

/-- STR_CMD of a port (R220). -/
def Dev.strCommand (d : Dev) (p : Nat) (value : Word) : Dev :=
  let stat (code : Nat) (d : Dev) : Dev := d.setReg (Adr.strCmdstat p) (wordOfNat code)
  let start := bit value 0
  let stop := bit value 1
  if fld value 24 8 ≠ 0xC3 || !bit (d.reg (Adr.strCtrl p)) 0 || start == stop then stat 0x1031 d
  else
    let still := ((d.layoutNow p).axes.map (·.axis) ++ (d.port p).inForce.axes.map (·.axis)).all fun n =>
      let st := (d.axis n).motion.st
      st == .stand || st == .off || st == .noconf
    if d.sys.power == .run && !still then stat 0x1030 d
    else stat 0 (if start then d.beginLink p else d.portDown p)

/-- STR_CMD with START set. -/
def execStrCmdStart (port : PortId) (value : Word) (s : State) : Host.Outcome State Fault Refusal :=
  if bit value 0 then .next { s with dev := s.dev.strCommand port.val value } else .next s

/-- STR_CMD with STOP set. -/
def execStrCmdStop (port : PortId) (value : Word) (s : State) : Host.Outcome State Fault Refusal :=
  if bit value 1 then .next { s with dev := s.dev.strCommand port.val value } else .next s

/-- TRAIN_COMPLETE: aligned idle on both upstream lanes for 64 columns (R210). -/
def execTrainComplete (port : PortId) (s : State) : Host.Outcome State Fault Refusal :=
  let p := port.val
  if (s.dev.port p).st == .train then
    .next { s with dev := s.dev.modPort p fun x => { x with st := .enum, phaseFrames := 0 } }
  else .next s

/-- The frame limit of a phase of link start and the code of exceeding it (R210). -/
def phaseLimit : PortState → Option (Nat × Nat)
  | .train => some (32, 0x1004)
  | .enum => some (16, 0x1005)
  | .tables => some (48, 0x1008)
  | .config => some (24, 0x1008)
  | _ => none

/-- LINK_START_TIMEOUT: a phase has exceeded its limit. -/
def execLinkStartTimeout (port : PortId) (s : State) : Host.Outcome State Fault Refusal :=
  let p := port.val
  match phaseLimit (s.dev.port p).st with
  | some (limit, code) =>
    if limit ≤ (s.dev.port p).phaseFrames then
      let d := if code = 0x1005 then s.dev.modPort p fun x => { x with foundStart := x.found'.length } else s.dev
      .next { s with dev := d.linkFail p code }
    else .next s
  | none => .next s

/-- START_FRAME: device boundary s has come, the port is UP, and its axes enter STAND (R213, R126). -/
def execStartFrame (port : PortId) (s : State) : Host.Outcome State Fault Refusal :=
  let p := port.val
  let d := s.dev
  let x := d.port p
  match x.st, x.startAt with
  | .config, some f =>
    if (d.sys.frame - f).toInt ≥ 0 then
      let d := d.modPort p fun x => { x with st := .up, code := 0, badRun := 0, shortRun := 0 }
      .next { s with dev := x.inForce.axes.foldl (fun d a => d.axisRestore a.axis) d }
    else .next s
  | _, _ => .next s

/-- BULK_REPLY_TIMEOUT: no reply 64 frames after a request's last block (R206); a repeat waits while the outbound spill area has no room for
it (R209). DESIGN CHOICE: notes/assumptions/29.md. -/
def execBulkReplyTimeout (port : PortId) (node : Fin 65) (s : State) : Host.Outcome State Fault Refusal :=
  let p := port.val
  let d := s.dev
  let l := ((d.port p).node node.val).requests
  let home (r : NodeReqSt) : Option Nat := if r.btype ≤ 4 then none else d.homeSheaf p node.val
  match l.find? fun r => 64 ≤ r.age && !r.answering with
  | none => .next s
  | some r =>
    if r.repeats < 3 && !d.outboundRoom (home r) r.blocks.length then .next s
    else if r.repeats < 3 then
      let d := d.modNode p node.val fun x => { x with requests := l.replace r { r with age := 0, repeats := r.repeats + 1 } }
      .next { s with dev := d.putBlocks p (home r) r.blocks }
    else
      let d := d.modNode p node.val fun x => { x with requests := l.erase r, gaveUp := x.gaveUp || decide (5 ≤ r.btype) }
      .next { s with dev := (d.strFlag p 0x40).event 0x1020 (strSubj p node.val) }

/-- FRAME of a frame heard in LISTEN goes on from the last one heard, by one for each frame since then (R191, R215); the frames of the two
modules are not aligned, so it may be one more or less.  The first is taken as it is. DESIGN CHOICE: notes/assumptions/78.md. -/
def Port.frameFits (x : Port) (frame now : Word) : Bool :=
  match x.heard with
  | some (f, at') =>
    let k := (frame - f).toNat
    let n := (now - at').toNat
    1 ≤ k && k ≤ n + 1 && n ≤ k + 1
  | none => true

/-- LISTEN_FRAME_RECEIVED: a standby judges a downstream frame that the last node forwards (R221).
DESIGN CHOICE: notes/assumptions/78.md. -/
def execListenFrameReceived (port : PortId) (onTime violation : Bool) (bytes : List Byte) (s : State) :
    Host.Outcome State Fault Refusal :=
  let p := port.val
  let d := s.dev
  if d.drivesPorts || !bit (d.reg (Adr.strCtrl p)) 0 then .next s
  else
    let body := bytes.take 6 ++ [0] ++ slice bytes 7 3829
    let whole := onTime && !violation && bytes.length == 3840 && leAt bytes 0 1 == 0xD5 && wordOfNat (leAt bytes 3836 4) == crc32c body
    let frame := wordOfNat (leAt bytes 2 4)
    let good := whole && (d.port p).frameFits frame d.sys.frame && leAt bytes 6 1 == fld (d.reg (Adr.strCtrl p)) 8 7
    .next { s with dev := d.modPort p fun x => { x with
      st := if good then .listen else .down, listenGood := good, heard := if whole then some (frame, d.sys.frame) else x.heard } }

end Sys2Proof.Machine
end

