-- ==== Sys2Proof/Machine/Island.lean ====
section
/-! DEFINITION. The safety island (chapter 08): the per-axis monitors of every frame, and the pairs, groups, loops and commands
of every safety cycle. -/

namespace Sys2Proof.Machine

/-! ### Parameters (R260) -/

/-- SAF_AXCFG and the other words of an axis's block. -/
structure AxParams where
  en : Bool
  sls : Bool
  slp : Bool
  sdi : Bool
  interlock : Bool
  react : Bool
  divchk : Bool
  clneg : Bool
  group : Nat
  sdin : Nat
  sdir : Nat
  slso : Int
  slsc : Int
  slpmin : Int
  slpmax : Int
  clpos : Int
  cltol : Nat
  stopmon : Nat
  dtolp : Nat
  dtola : Nat
  dtoln : Nat
  floorchk : Nat
deriving DecidableEq, Repr

/-- The parameters of an axis; speeds and positions in 1/65,536, STOPMON and the tolerances scaled to the same unit. -/
def Dev.axParams (d : Dev) (n : Nat) : AxParams :=
  let c := d.reg (Adr.safAxcfg n)
  let t := d.reg (Adr.safAxcltol n)
  let v := d.reg (Adr.safAxdiv n)
  { en := bit c 0, sls := bit c 1, slp := bit c 2, sdi := bit c 3, interlock := bit c 4, react := bit c 5, divchk := bit c 6,
    clneg := bit c 7, group := fld c 8 6, sdin := fld c 16 2, sdir := fld c 18 2,
    slso := sval (d.reg (Adr.safAxslso n)), slsc := sval (d.reg (Adr.safAxslsc n)),
    slpmin := sval (d.reg (Adr.safAxslpmin n)) * one16, slpmax := sval (d.reg (Adr.safAxslpmax n)) * one16,
    clpos := sval (d.reg (Adr.safAxclpos n)) * one16, cltol := fld t 0 16 * one16, stopmon := fld t 16 16 * 256,
    dtolp := fld v 0 8, dtola := fld v 8 8 * 4096, dtoln := fld v 16 8, floorchk := fld v 24 8 * 8192 }

/-- SAF_GRPCFG0 and SAF_GRPCFG1 of a group. -/
def Dev.grpCfg (d : Dev) (g : Nat) : Word × Word := (d.reg (Adr.safGrpcfg0 g), d.reg (Adr.safGrpcfg1 g))

/-- The lock pairs of a group. -/
def lockPairs (c0 : Word) : List Nat :=
  (if bit c0 9 then [fld c0 4 5] else []) ++ (if bit c0 15 then [fld c0 10 5] else [])

/-- Every input pair a group uses. -/
def groupPairs (c0 c1 : Word) : List Nat :=
  lockPairs c0 ++ (if bit c0 21 then [fld c0 16 5] else []) ++ (if fld c1 0 2 % 2 = 1 then [fld c1 2 5] else [])

/-- A group of the island. -/
def Island.group (x : Island) (g : Nat) : Group := smGet {} x.groups g

/-- A loop of the island. -/
def Island.loop (x : Island) (l : Nat) : Loop := smGet {} x.loops l

/-- A pair as the safety core sees it. -/
def Island.pair (x : Island) (i : Nat) : Pair := smGet {} x.pairs i

/-- A pair as the hard-wired safety logic sees it. -/
def Island.pairB (x : Island) (i : Nat) : Pair := smGet {} x.pairsB i

/-- A telegram source. -/
def Island.source (x : Island) (k : Nat) : TgSource := smGet {} x.sources k

/-- Change the island. -/
def Dev.modIsland (d : Dev) (f : Island → Island) : Dev := { d with island := f d.island }

/-- The axis's node and channel are out of service: its port is not UP, its channel or its node is lost. -/
def Dev.channelOut (d : Dev) (n : Nat) : Bool :=
  match d.linkOf n with
  | some (p, a) => !((d.port p).st == .up) || (d.axis n).chLost || (d.port p).beyond a.node
  | none => true

/-! ### Status signals (R258) -/

/-- An island write of a signal whose value changed. -/
def Dev.islandChange (d : Dev) (n : Nat) (v : Word) : Dev :=
  let s := d.sig n
  if s.value = v && s.valid && s.tag == 0x12 then d else d.islandSig n v

/-- The directions the axis may move in while its group is released or not: bit 0 opening, bit 1 closing (R231). -/
def AxParams.directions (p : AxParams) (released : Bool) : Nat := if !p.sdi then 3 else if released then p.sdir else p.sdin

/-- The directions the axis may move in as the safety core decides it. -/
def Dev.permitted (d : Dev) (p : AxParams) : Nat := p.directions (d.island.group p.group).released

/-- The directions the axis may move in as the second set of monitors decides it; in native mode there is none (R227). -/
def Dev.permittedB (d : Dev) (p : AxParams) : Nat :=
  if d.island.mode then p.directions (d.island.group p.group).releasedB else d.permitted p

/-- Motion of a sign lies in a direction that is not among those permitted (R231). -/
def AxParams.forbids (p : AxParams) (perm : Nat) (v : Int) : Bool :=
  let s := v * (if p.clneg then -1 else 1)
  (s > 0 && perm / 2 % 2 == 0) || (s < 0 && perm % 2 == 0)

/-- sig.86000 + n and slot 13 of an axis. -/
def Dev.showSafe (d : Dev) (n : Nat) : Dev :=
  let p := d.axParams n
  let x := d.safe n
  let m := (d.axis n).motion
  let perm := d.permitted p
  let word : Word := if !p.en then 0
    else fields [(0, match x.st with
        | .none => 0
        | .clear => 1
        | .stopping => 2
        | .held => 3
        | .torqueOff => 4
        | .fault => 5), (3, b2n (m.homed && (m.x - p.clpos).natAbs ≤ p.cltol)), (4, perm % 2), (5, perm / 2 % 2),
      (6, b2n x.divOk), (7, b2n x.inReturn), (16, x.code % 256)]
  (d.islandChange (0x86000 + n) word).islandChange (slotSig n 13) word

/-! ### Violations and states (R233, R234) -/

/-- The stop request of a code, with cause 11: on ramp 3, or with torque off in TORQUEOFF and FAULT (R234). -/
def Dev.safeStop (d : Dev) (n : Nat) (st : SafeState) (code : Nat) : Dev :=
  d.modMotion n fun m =>
    { m with stops := m.stops ++ [{ cause := 11, ramp := 3, code := code, torqueOff := st == .torqueOff || st == .fault }] }

/-- Enter a safety state because of a code. -/
def Dev.enterSafe (d : Dev) (n : Nat) (st : SafeState) (code : Nat) : Dev :=
  let x := d.safe n
  let off := st == .torqueOff || st == .fault
  let d := d.setSafe n { x with st := st, code := code, inReturn := if off || st == .stopping then false else x.inReturn,
                                stopAt := some d.sys.frame, stopV0 := none, stopFrames := 0, zeroFrames := 0, offFrames := 0 }
  d.safeStop n st code

/-- A code of R231, R232, R235 or R236: recorded, and the state changes as R234 says. DEDUCED: notes/assumptions/31.md. -/
def Dev.violate (d : Dev) (n code : Nat) : Dev :=
  let react := bit (d.reg (Adr.safAxcfg n)) 5
  let d := (d.event code n).orReg Adr.safFlags 1
  let x := d.safe n
  let d := d.setSafe n { x with code := code, slp := x.slp || code == 0x3004 }
  let target : SafeState := if code = 0x3006 ∨ code = 0x3007 then .fault
    else if code = 0x3005 ∨ (react ∧ code ≠ 0x3008) then .torqueOff else .stopping
  let enters := match x.st, target with
    | .none, _ => true
    | .clear, _ => true
    | .fault, _ => false
    | _, .fault => true
    | .stopping, .torqueOff => true
    | .held, .torqueOff => true
    | .held, .stopping => x.inReturn
    | _, _ => false
  if enters then d.enterSafe n target code else d.safeStop n x.st code

/-- The axis returns to CLEAR. -/
def Dev.clearSafe (d : Dev) (n : Nat) : Dev :=
  let x := d.safe n
  (d.setSafe n { x with st := .clear, slp := false, inReturn := false, zeroFrames := 0, offFrames := 0, stopAt := none, stopV0 := none,
                        active := [], slsN := 0, sdiN := 0, sdiNB := 0, divN := 0, floorN := 0 }).showSafe n

/-! ### The monitors of a frame (R230–R236) -/

/-- The conditions of one frame: each enabled check with its persistence count afterwards. -/
structure Judged where
  sls : Bool
  slp : Bool
  sdi : Bool
  slsN : Nat
  sdiN : Nat
  sdiNB : Nat
  divN : Nat
  floorN : Nat
  divOk : Bool

/-- Judge x_j, v_j and the diverse speed of an axis (R231, R232, R236).  In dual-technology mode the second set of monitors judges the
same values under its own release state, and either may find a violation (R227). DEDUCED: notes/assumptions/31.md. -/
def Dev.judge (d : Dev) (n : Nat) : Judged :=
  let p := d.axParams n
  let x := d.safe n
  let m := (d.axis n).motion
  let e := (d.axis n).estim
  let v := m.v
  let dv := e.speed
  let sign : Int := if p.clneg then -1 else 1
  let permA := d.permitted p
  let permB := d.permittedB p
  let diverse (perm : Nat) : Bool := p.sdi && !e.below && decide ((dv.natAbs : Int) > p.dtola) && p.forbids perm dv
  let limit (s : Int) : Int := if s * sign > 0 then p.slsc else p.slso
  let beyond (s lim : Int) : Bool := 100 * (s.natAbs : Int) > lim * (100 + p.dtolp) + 100 * p.dtola
  let stopping := x.st == .stopping
  let dist : Int := if m.x < p.slpmin then p.slpmin - m.x else if m.x > p.slpmax then m.x - p.slpmax else 0
  let slp := if x.inReturn && dist != 0 then dist > x.retDist else if m.homed then dist != 0 else v * sign < 0
  let chk := p.divchk && !e.below && !stopping
  let at' (k : Nat) : Int × Int := x.hist.getD k (m.x, 0)
  let d8 := (at' 4).1 - (at' 12).1
  let big : Int := Nat.max (8 * dv).natAbs d8.natAbs
  let bad := chk && decide (100 * ((8 * dv - d8).natAbs : Int) > p.dtolp * big + 800 * p.dtola)
  { sls := p.sls && decide ((v.natAbs : Int) > limit v), slp := p.slp && slp,
    sdi := p.sdi && (p.forbids permA v || p.forbids permB v),
    slsN := if p.sls && !e.below && beyond dv (limit dv) then x.slsN + 1 else 0,
    sdiN := if diverse permA then x.sdiN + 1 else 0,
    sdiNB := if diverse permB then x.sdiNB + 1 else 0,
    divN := if bad then x.divN + 1 else 0,
    floorN := if p.divchk && e.below && p.floorchk ≤ (at' 4).2.natAbs then x.floorN + 1 else 0,
    divOk := chk && !bad }

/-- The stop monitor and the course of STOPPING and HELD (R233, R235, R236).  The envelope starts from the speed of the frame j0 in
which STOPPING began, which is judged one frame later. -/
def Dev.stopMonitor (d : Dev) (n : Nat) : Dev :=
  let p := d.axParams n
  let x := d.safe n
  let m := (d.axis n).motion
  let e := (d.axis n).estim
  let v := m.v.natAbs
  let inside := decide (p.slpmin ≤ m.x) && decide (m.x ≤ p.slpmax)
  let dist : Int := if m.x < p.slpmin then p.slpmin - m.x else if m.x > p.slpmax then m.x - p.slpmax else 0
  match x.st with
  | .stopping =>
    if x.stopAt == some d.sys.frame then d
    else
    let v0 := x.stopV0.getD v
    let k := if x.stopV0.isNone then 0 else x.stopFrames + 1
    let lim := v0 - p.stopmon * k
    let d := d.setSafe n { x with stopV0 := some v0, stopFrames := k }
    if lim < v || (!e.below && 100 * e.speed.natAbs > lim * (100 + p.dtolp) + 100 * p.dtola) then d.violate n 0x3005
    else if v = 0 then
      d.setSafe n { x with st := .held, stopV0 := none, stopFrames := 0, zeroFrames := 0,
                           inReturn := x.slp && !inside, retDist := dist }
    else d
  | .held =>
    let count := if v = 0 && (!x.slp || inside) then x.zeroFrames + 1 else 0
    d.setSafe n { x with zeroFrames := count, retDist := dist, inReturn := x.slp && !inside }
  | _ => d

/-- One frame of an axis's monitor: the onset of each violation writes its code once. -/
def Dev.monitorAxis (d : Dev) (n : Nat) : Dev :=
  let p := d.axParams n
  if !p.en then (if (d.safe n).st == .none then d else (d.setSafe n {}).showSafe n)
  else
    let x := d.safe n
    let m := (d.axis n).motion
    let x := { x with st := if x.st == .none then .clear else x.st, hist := ((m.x, m.v) :: x.hist).take 13,
                      offFrames := if m.st == .off then x.offFrames + 1 else 0 }
    let d := d.setSafe n x
    let j := d.judge n
    let active := (if j.sls then [0x3001] else []) ++ (if j.slp then [0x3004] else []) ++ (if j.sdi then [0x3003] else [])
    let codes := active.filter (fun c => !x.active.contains c)
      ++ (if j.slsN = p.dtoln && j.slsN ≠ 0 then [0x3002] else []) ++ (if (j.sdiN = p.dtoln && j.sdiN ≠ 0) || (j.sdiNB = p.dtoln && j.sdiNB ≠ 0) then [0x3003] else [])
      ++ (if j.divN = p.dtoln && j.divN ≠ 0 then [0x3006] else []) ++ (if j.floorN = 24 then [0x3007] else [])
    let d := d.setSafe n { x with active := active, slsN := j.slsN, sdiN := j.sdiN, sdiNB := j.sdiNB, divN := j.divN, floorN := j.floorN,
                                  divOk := j.divOk }
    let d := codes.foldl (fun d c => d.violate n c) d
    (d.stopMonitor n).showSafe n

/-- The monitors of every configured axis, in every frame (R228). DEDUCED: notes/assumptions/34.md. -/
def Dev.monitors (d : Dev) : Dev := d.axes'.foldl (fun d n => d.monitorAxis n) d

/-- SAFETY_HOLD_RELEASE: sixteen frames at standstill end HELD, after an SLP violation only inside the window (R233). -/
def execSafetyHoldRelease (axis : AxisId) (s : State) : Host.Outcome State Fault Refusal :=
  let n := axis.val
  let x := s.dev.safe n
  if x.st == .held && 16 ≤ x.zeroFrames then .next { s with dev := s.dev.clearSafe n } else .next s

/-! ### Island fault (R229) -/

/-- Latch an island fault: the loops are off from this cycle, and every axis gets a torque-off request. -/
def Dev.islandFault (d : Dev) (code : Nat) : Dev :=
  if d.island.fault ≠ 0 then d
  else
    let d := (d.modIsland fun x => { x with fault := code }).event code 0xFFFF
    d.axes'.foldl (fun d n => d.modMotion n fun m =>
      { m with stops := m.stops ++ [{ cause := 11, ramp := 3, code := code, torqueOff := true }] }) d

/-! ### Input pairs (R243, R244) -/

/-- One tick of a pair; while FAULT is set the count stands at DT. -/
def Pair.tick (x : Pair) (a b : Bool) (dt : Nat) : Pair × Bool :=
  let x := { x with aActive := a, bActive := b }
  if a && b then ({ x with count := if x.fault then dt else 0, value := !x.fault }, false)
  else if !a && !b then ({ x with count := 0, value := false, fault := false }, false)
  else if x.fault then ({ x with count := dt, value := false }, false)
  else
    let k := x.count + 1
    ({ x with count := k, value := false, fault := decide (k = dt) }, decide (k = dt))

/-- One tick of every pair of one channel; `level i v` says that DI i is delivered at level v.  Whether pairs raised a
discrepancy fault comes with them. -/
def Dev.tickPairs (d : Dev) (pairs : SMap Pair) (level : Nat → Bool → Bool) : SMap Pair × List Nat :=
  (List.range 32).foldl (fun (s : SMap Pair × List Nat) i =>
    let c := d.reg (Adr.safPaircfg i)
    if bit c 15 then
      let r := (smGet {} s.1 i : Pair).tick (level (fld c 0 6) true) (level (fld c 8 6) (!bit c 14)) (fld c 16 11)
      (smSet {} s.1 i r.1, if r.2 then s.2 ++ [i] else s.2)
    else (smSet {} s.1 i {}, s.2)) (pairs, [])

/-- The DI levels as the safety core takes them (R266, R273). -/
def Island.coreLevel (x : Island) (i : Nat) (v : Bool) : Bool :=
  x.diOk && x.diA.getLsbD i == v && (x.mode || x.diB.getLsbD i == v)

/-- The DI levels as the hard-wired safety logic takes them: two equal consecutive samples of copy B (R254). -/
def Island.logicLevel (x : Island) (i : Nat) (v : Bool) : Bool := x.diOk && x.diFiltB.getLsbD i == v

/-- Every input pair, for both channels; a discrepancy of the core's pair is recorded. DEDUCED: notes/assumptions/32.md. -/
def Dev.cyclePairs (d : Dev) : Dev :=
  let x := d.island
  let same := ~~~ (x.diB ^^^ x.diPrevB)
  let filt := if !x.diOk then x.diFiltB else if x.mode then (x.diB &&& same) ||| (x.diFiltB &&& ~~~ same) else x.diB
  let x := { x with diFiltB := filt, diPrevB := if x.diOk then x.diB else x.diPrevB }
  let a := d.tickPairs x.pairs x.coreLevel
  let b := if x.mode then (d.tickPairs x.pairsB x.logicLevel).1 else a.1
  let d := { d with island := { x with pairs := a.1, pairsB := b } }
  a.2.foldl (fun d i => (d.event 0x3010 (0x200 + i)).orReg Adr.safFlags 2) d

/-! ### Groups (R237–R239) -/

/-- The configured axes of a group that count in CLOSED. -/
def Dev.interlockAxes (d : Dev) (g : Nat) : List Nat :=
  d.axes'.filter fun n => let p := d.axParams n; p.interlock && p.group == g

/-- CLOSED of one axis without its node status. -/
def Dev.atRest (d : Dev) (n : Nat) : Bool :=
  let p := d.axParams n
  let m := (d.axis n).motion
  let st := (d.safe n).st
  m.homed && (m.x - p.clpos).natAbs ≤ p.cltol && m.v == 0 && (st == .clear || st == .held)

/-- CLOSED of one axis on a standby in RUN: the mirrored position, HOMED and safety state (R306). -/
def Dev.mirrorRest (d : Dev) (n : Nat) : Bool :=
  let p := d.axParams n
  let y : MirrorAxis := smGet {} d.pair.axes n
  let x : Int := y.raw.toInt + y.homeOff.toInt * 65536
  y.slot4.getLsbD 9 && (x - p.clpos).natAbs ≤ p.cltol && [1, 3].contains y.safe

/-- The island takes CLOSED from the pair copy: a standby in RUN. -/
def Dev.mirrored (d : Dev) : Bool := d.pair.role == .standby && d.sys.power == .run

/-- The axis's node channel reports PRESENT = 1 and SAFE = 0. -/
def Dev.nodeFine (d : Dev) (n : Nat) : Bool := let s := (d.axis n).status; s.getLsbD 0 && !s.getLsbD 1

/-- The release source of a group asserts (R238). -/
def Dev.releaseAsserts (d : Dev) (c1 : Word) (value : Nat → Bool) : Bool :=
  let k := fld c1 0 2
  let src := d.island.source (fld c1 8 2)
  let tg := src.acceptedOp.isSome && !src.timedOut && src.rel.getLsbD (fld c1 10 6)
  k != 0 && (k % 2 == 0 || value (fld c1 2 5)) && (k / 2 == 0 || tg)

/-- RELEASED of a group as one channel sees its pairs. -/
def Dev.groupReleased (d : Dev) (g : Nat) (value : Nat → Bool) : Bool :=
  let c := d.grpCfg g
  d.releaseAsserts c.2 value && (!bit c.1 21 || value (fld c.1 16 5))

/-- A release withdrawal (R236): every axis of the group not yet stopping or without torque that moves in a direction the new state
forbids, an axis on a return move among them, stops with 0x3008. -/
def Dev.withdraw (d : Dev) (g : Nat) : Dev :=
  d.axes'.foldl (fun d n =>
    let p := d.axParams n
    let x := d.safe n
    if p.en && p.group == g && (x.st == .clear || x.st == .none || x.st == .held) && p.forbids p.sdin (d.axis n).motion.v then
      (((d.event 0x3008 n).orReg Adr.safFlags 1).enterSafe n .stopping 0x3008).showSafe n
    else d) d

/-- One safety cycle of a group.  In dual-technology mode the hard-wired logic decides the release from its own pairs, and a
withdrawal by either channel applies (R227). -/
def Dev.cycleGroup (d : Dev) (g : Nat) : Dev :=
  let c := d.grpCfg g
  let old := d.island.group g
  if !bit c.1 0 then d.modIsland fun x => { x with groups := smDel x.groups g }
  else
    let value (i : Nat) : Bool := (d.island.pair i).value
    let locked := (lockPairs c.1).all value
    let zs := !bit c.1 21 || value (fld c.1 16 5)
    let axes := d.interlockAxes g
    let out := if d.mirrored then [] else axes.filter fun n => d.channelOut n
    let rest (n : Nat) : Bool := if d.mirrored then d.mirrorRest n else d.atRest n
    let kept := if locked then old.waived.filter fun n => out.contains n else []
    let fresh := if locked && bit c.1 3 then out.filter fun n => old.restMet.contains n && !kept.contains n else []
    let waived := kept ++ fresh
    let closed := axes.all fun n =>
      rest n && ((!out.contains n && (d.mirrored || d.nodeFine n)) || waived.contains n)
    let released := d.groupReleased g value
    let releasedB := d.groupReleased g fun i => (d.island.pairB i).value
    let y : Group := { released := released, releasedB := releasedB, closed := closed, locked := locked, zerospd := zs, waiver := !waived.isEmpty,
                       waived := waived, restMet := axes.filter fun n => rest n && !out.contains n }
    let d := d.modIsland fun x => { x with groups := smPut x.groups g y }
    if (old.released && !released) || (d.island.mode && old.releasedB && !releasedB) then d.withdraw g else d

/-! ### Safety outputs and loops (R240–R242, R288, R289) -/

/-- One output's read-back of the cycle: whether it counts as a mismatch, and whether its test pulse was due and passed.
Read-back is held against the command decided two cycles before, which the husk applied in the cycle before; only an output that the
husk had on was pulsed, and one that reads off under an on command in undervoltage is not counted (R288, R289). -/
def Island.soMismatch (x : Island) (uv : Bool) (c k : Nat) : Bool × Option Bool :=
  let cmd := x.soSent.getLsbD k
  if !x.diOk then (cmd, none)
  else
    let rb := x.soOn.getLsbD k
    let due := cmd && x.soLive.getLsbD k && ((c + 99) % 100 == (if k % 2 = 0 then 0 else 50) || x.pulseBad.getLsbD k)
    let fell := x.soFell.getLsbD k
    ((rb != cmd || (due && !fell)) && !(uv && cmd && !rb), if due then some fell else none)

/-- Set or clear one bit. -/
def putBit {w : Nat} (x : BitVec w) (i : Nat) (v : Bool) : BitVec w :=
  if v then x ||| BitVec.ofNat w (2 ^ i) else x &&& ~~~ BitVec.ofNat w (2 ^ i)

/-- Read-back of every output (R242): two consecutive mismatches of an output latch the fault of its loop.
DEDUCED: notes/assumptions/32.md. -/
def Dev.cycleReadback (d : Dev) (c : Nat) : Dev :=
  let uv := d.field.uv
  (List.range 4).foldl (fun d l =>
    let x := d.island
    let e := x.soMismatch uv c (2 * l)
    let o := x.soMismatch uv c (2 * l + 1)
    let y := x.loop l
    let pulse (x : Island) (k : Nat) : Option Bool → Island
      | some ok => { x with soPulse := putBit x.soPulse k ok, pulseBad := putBit x.pulseBad k (!ok) }
      | none => x
    let off := x.diOk && !x.soOn.getLsbD (2 * l) && !x.soOn.getLsbD (2 * l + 1)
    let y' := { y with mismEven := if e.1 then y.mismEven + 1 else 0, mismOdd := if o.1 then y.mismOdd + 1 else 0,
                       offCycles := if off then y.offCycles + 1 else 0 }
    let bad := !y.rbFault && (2 ≤ y'.mismEven || 2 ≤ y'.mismOdd)
    let x := pulse (pulse x (2 * l) e.2) (2 * l + 1) o.2
    let d := { d with island := { x with loops := smPut x.loops l { y' with rbFault := y.rbFault || bad } } }
    if bad then (d.event 0x3011 (0x100 + l)).orReg Adr.safFlags 4 else d) d

/-- The condition of a loop as one channel sees the pairs (R240). -/
def Dev.loopCondition (d : Dev) (l : Nat) (pair : Nat → Pair) : Bool :=
  let x := d.island
  let groups := (List.range 64).filter fun g => let c := d.grpCfg g; bit c.1 0 && fld c.1 1 2 == l
  d.sys.power == .run && (d.pair.role == .unpaired || d.pair.role == .active) && x.comm
    && bit (d.reg (Adr.safLoopcfg l)) 0 && !groups.isEmpty && x.fault == 0 && !(x.loop l).rbFault
    && groups.all fun g =>
      let c := d.grpCfg g
      (x.group g).closed && (lockPairs c.1).all (fun i => (pair i).value)
        && (groupPairs c.1 c.2).all fun i => !(pair i).fault

/-- The two channels of dual-technology mode decide alike (R229). -/
def Dev.channelsAgree (d : Dev) : Bool :=
  (List.range 4).all (fun l => d.loopCondition l d.island.pair == d.loopCondition l d.island.pairB)
    && ((List.range 64).all fun g => (d.island.group g).released == (d.island.group g).releasedB)
    && (List.range 32).all fun i => (d.island.pair i).fault == (d.island.pairB i).fault

/-- One safety cycle of a loop: off in the first cycle in which the condition fails. -/
def Dev.cycleLoop (d : Dev) (l : Nat) : Dev :=
  let cond := d.loopCondition l d.island.pair && d.loopCondition l d.island.pairB
  let y := d.island.loop l
  let z : Loop := { y with cond := cond, held := if cond then y.held + 1 else 0, on := y.on && cond }
  d.modIsland fun x => { x with loops := smPut x.loops l z }

/-- The SO commands of a cycle: both outputs of every loop that is on. -/
def Island.soDecided (x : Island) : BitVec 8 :=
  (List.range 4).foldl (fun w l => if (x.loop l).on then w ||| BitVec.ofNat 8 (3 * 4 ^ l) else w) 0

/-- sig.86200 + g, sig.86240 + l, the pairs, the sources, and sig.86300–sig.86302 (R258). -/
def Dev.showCycle (d : Dev) : Dev :=
  let x := d.island
  let d := (List.range 64).foldl (fun d g =>
    let y := x.group g
    let c := d.grpCfg g
    d.islandChange (0x86200 + g) (if bit c.1 0 then fields [(0, b2n y.released), (1, b2n y.closed), (2, b2n y.locked),
      (3, b2n y.zerospd), (4, b2n (y.closed && y.locked)), (5, b2n y.waiver), (8, fld c.1 1 2)] else 0)) d
  let d := (List.range 4).foldl (fun d l =>
    let y := x.loop l
    let left := if y.on then 0 else fld (d.reg (Adr.safLoopcfg l)) 16 10 - y.held
    d.islandChange (0x86240 + l) (fields [(0, b2n y.on), (1, b2n y.cond), (2, b2n y.rbFault),
      (3, b2n (x.soOn.getLsbD (2 * l))), (4, b2n (x.soOn.getLsbD (2 * l + 1))), (16, left)])) d
  let d := (List.range 32).foldl (fun d i =>
    let y := x.pair i
    (d.islandChange (0x86280 + 2 * i) (fields [(0, b2n y.value), (1, b2n y.fault), (2, b2n y.aActive), (3, b2n y.bActive)])).islandChange
      (0x86281 + 2 * i) (fields [(0, y.count), (16, fld (d.reg (Adr.safPaircfg i)) 16 11)])) d
  let d := (List.range 4).foldl (fun d k =>
    let y := x.source k
    let live := y.acceptedOp.isSome && !y.timedOut
    let user := if live then y.user.toNat else 0
    ((d.islandChange (0x86308 + k) (fields [(0, b2n live), (1, b2n y.timedOut), (2, b2n y.single), (16, satNat 0xFFFF y.rejected)])).islandChange
      (0x86310 + 2 * k) (wordOfNat (user % 2 ^ 32))).islandChange (0x86311 + 2 * k) (wordOfNat (user / 2 ^ 32))) d
  let d := d.islandChange 0x86300 (fields [(0, b2n x.comm), (1, b2n x.mode), (2, b2n x.testDue), (3, b2n (x.fault != 0))])
  (d.islandChange 0x86301 x.check).islandChange 0x86302 x.testAge

/-! ### SAF_CMD (R233, R242, R260) -/

/-- ACK of an axis: TORQUEOFF ends once the commanded and the diverse speed are 0. -/
def Dev.ackAxis (d : Dev) (n : Nat) : Dev × Bool :=
  let a := d.axis n
  if (d.safe n).st == .torqueOff && a.motion.v == 0 && a.estim.speed == 0 then (d.clearSafe n, true) else (d, false)

/-- RESET of an axis: FAULT ends after sixteen frames in OFF. -/
def Dev.resetAxis (d : Dev) (n : Nat) : Dev × Bool :=
  if (d.safe n).st == .fault && 16 ≤ (d.safe n).offFrames then (d.clearSafe n, true) else (d, false)

/-- RESET of a loop: the read-back fault clears after sixteen cycles in which both outputs read off. -/
def Dev.resetLoop (d : Dev) (l : Nat) : Dev × Bool :=
  let y := d.island.loop l
  if y.rbFault && 16 ≤ y.offCycles then
    (d.modIsland fun x => { x with loops := smPut x.loops l { y with rbFault := false, mismEven := 0, mismOdd := 0 } }, true)
  else (d, false)

/-- Apply an action to each of a list, and say whether all took it. -/
def Dev.each (d : Dev) (l : List Nat) (f : Dev → Nat → Dev × Bool) : Dev × Bool :=
  l.foldl (fun (s : Dev × Bool) n => let r := f s.1 n; (r.1, s.2 && r.2)) (d, true)

/-- SAF_CMD: its status is 0, or 0x3034 for a wrong key or a condition still present. -/
def Dev.safCommand (d : Dev) (v : Word) : Dev :=
  let stat (r : Dev × Bool) : Dev := r.1.setReg Adr.safCmdstat (if r.2 then 0 else 0x3034)
  if fld v 24 8 ≠ 0x3C then stat (d, false)
  else
    let all' := bit v 12
    let one := fld v 0 9
    let inState (st : SafeState) : List Nat := if all' then d.axes'.filter fun n => (d.safe n).st == st else [one]
    let r1 := if bit v 13 then d.each (inState .torqueOff) Dev.ackAxis else (d, true)
    let r2 := if bit v 14 && (all' || !bit v 15) then r1.1.each (inState .fault) Dev.resetAxis else (r1.1, true)
    let loops := if all' then (List.range 4).filter fun l => (d.island.loop l).rbFault else [one % 4]
    let r3 := if bit v 14 && (all' || bit v 15) then r2.1.each loops Dev.resetLoop else (r2.1, true)
    stat (r3.1, r1.2 && r2.2 && r3.2)

/-- A write of SAF_CMD waits for the next safety cycle (R260). -/
def Dev.safCmdWrite (d : Dev) (v : Word) : Dev := d.modIsland fun x => { x with cmd := some v }

/-- SAF_CMD with ACK. -/
def execSafCmdAck (value : Word) (s : State) : Host.Outcome State Fault Refusal :=
  if bit value 13 then .next { s with dev := s.dev.safCmdWrite value } else .next s

/-- SAF_CMD with RESET. -/
def execSafCmdReset (value : Word) (s : State) : Host.Outcome State Fault Refusal :=
  if bit value 14 && !bit value 15 then .next { s with dev := s.dev.safCmdWrite value } else .next s

/-- SAF_CMD with RESET and LOOP. -/
def execSafCmdLoopReset (value : Word) (s : State) : Host.Outcome State Fault Refusal :=
  if bit value 14 && bit value 15 then .next { s with dev := s.dev.safCmdWrite value } else .next s

/-! ### The safety cycle (R228) -/

/-- What the island's own diagnostics report in the cycle (R227, R229). -/
def Dev.cycleDiag (d : Dev) (diag : IslandDiag) : Dev :=
  let cross := d.island.mode && (diag == .crossMismatch || !d.channelsAgree)
  let run := if cross then d.island.crossRun + 1 else 0
  let d := d.modIsland fun x => { x with crossRun := run }
  if diag == .coreFault then d.islandFault 0x3013 else if 2 ≤ run then d.islandFault 0x3012 else d

/-- One safety cycle: read-back, pairs, groups, diagnostics, loops, the command, the status signals. -/
def Dev.safetyCycle (d : Dev) (diag : IslandDiag) : Dev :=
  let d := d.modIsland fun x => { x with cycleAt := some d.sys.frame }
  let c := d.sys.frame.toNat / 16
  let d := (d.cycleReadback c).cyclePairs
  let d := (List.range 64).foldl (fun d g => d.cycleGroup g) d
  let d := d.cycleDiag diag
  let d := (List.range 4).foldl (fun d l => d.cycleLoop l) d
  let d := d.modIsland fun x => { x with soSent := x.soCmd, soCmd := x.soDecided }
  let d := match d.island.cmd with
    | some v => (d.modIsland fun x => { x with cmd := none }).safCommand v
    | none => d
  let d := d.axes'.foldl (fun d n => d.showSafe n) d
  d.showCycle

/-- The safety cycle of the present frame has its turn: c begins at the boundary of frame 16c, once (R228). -/
def Dev.cycleDue (d : Dev) : Bool := d.operating && d.sys.frame.toNat % 16 == 0 && d.island.cycleAt != some d.sys.frame

/-- SAFETY_CYCLE. -/
def execSafetyCycle (diag : IslandDiag) (s : State) : Host.Outcome State Fault Refusal :=
  if s.dev.cycleDue then .next { s with dev := s.dev.safetyCycle diag } else .next s

/-- LOOP_SWITCH_ON: the condition has held for LOOPDLY consecutive safety cycles, and it holds now (R241). -/
def execLoopSwitchOn (loop : Fin 4) (s : State) : Host.Outcome State Fault Refusal :=
  let l := loop.val
  let y := s.dev.island.loop l
  let d := s.dev
  let holds := y.cond && d.loopCondition l d.island.pair && d.loopCondition l d.island.pairB
  if holds && !y.on && fld (s.dev.reg (Adr.safLoopcfg l)) 16 10 ≤ y.held then
    let d := s.dev.modIsland fun x => { x with loops := smPut x.loops l { y with on := true } }
    .next { s with dev := (d.modIsland fun x => { x with soCmd := x.soDecided }).showCycle }
  else .next s

/-! ### Parameters and commissioning (R250–R253, R256) -/

/-- Parameter writes are accepted: IDLE, within 10 s after SAF_UNLOCK. -/
def Dev.safUnlocked (d : Dev) : Bool :=
  d.sys.power == .idle && (match d.island.unlockedAt with
    | some t => d.now < t + 10000
    | none => false)

/-- A write of SAF_UNLOCK: the key opens parameter writes for 10 s; another value does nothing. -/
def Dev.safUnlockWrite (d : Dev) (value : Word) : Dev :=
  if value = 0x5AFE0C1D then d.modIsland fun x => { x with unlockedAt := some d.now } else d

/-- SAF_UNLOCK. -/
def execSafUnlock (value : Word) (s : State) : Host.Outcome State Fault Refusal :=
  .next { s with dev := s.dev.safUnlockWrite value }

/-- UNLOCK_EXPIRY: ten seconds later parameter writes close again. -/
def execUnlockExpiry (s : State) : Host.Outcome State Fault Refusal :=
  match s.dev.island.unlockedAt with
  | some t => if t + 10000 ≤ s.dev.now then .next { s with dev := s.dev.modIsland fun x => { x with unlockedAt := none } }
      else .next s
  | none => .next s

/-- Whether an address lies in the parameter set (R250). -/
def inSafSet (addr : Nat) : Bool := 0x200100 ≤ addr && addr ≤ 0x204FFF

/-- A store of the parameter set begins: the copy in force becomes the other one (R250). -/
def Dev.beginStore (d : Dev) : Dev :=
  d.modIsland fun x => { x with older := some { since := d.now, words := d.regs.filter fun p => inSafSet p.1, comm := x.comm, mode := x.mode } }

/-- The other copy of the parameter set is in force again, and its check value with it. -/
def Dev.restoreCopy (d : Dev) (y : SafCopy) : Dev :=
  let d : Dev := { d with regs := y.words.foldl (fun m p => smPut m p.1 p.2) (d.regs.filter fun p => !inSafSet p.1) }
  d.modIsland fun x => { x with comm := y.comm, mode := y.mode, chkBusy := true, older := none }

/-- A power loss: a store that it cut off leaves the other copy in force (R250).  The spec gives the store no duration; it may be cut
off in the 10 ms of R251. DESIGN CHOICE: notes/assumptions/33.md. -/
def Dev.storeLost (d : Dev) : Dev :=
  match d.island.older with
  | none => d
  | some y =>
    if d.now < y.since + 10 then
      let r := d.nextFree
      if Config.storeCut r.2 then r.1.restoreCopy y else r.1
    else d

/-- A parameter write: accepted, it clears COMMISSIONED at once and the check value is recomputed; else 0x3030.
DESIGN CHOICE: notes/assumptions/33.md. -/
def Dev.safWrite (d : Dev) (addr : Nat) (value : Word) : Dev :=
  match rowOf addr with
  | none => d
  | some r =>
    if d.safUnlocked then
      ((d.beginStore.setReg addr (value &&& wordOfNat r.mask)).setReg Adr.safCmdstat 0).modIsland fun x =>
        { x with comm := false, chkBusy := true }
    else d.setReg Adr.safCmdstat 0x3030

/-- SAF_PARAMETER_WRITE. -/
def execSafParameterWrite (addr value : Word) (s : State) : Host.Outcome State Fault Refusal :=
  if inSafSet addr.toNat then .next { s with dev := s.dev.safWrite addr.toNat value } else .next s

/-- The check value over a sparse parameter set: CRC-32 of the words from 0x0020_0100 to 0x0020_4FFF (R251).
DESIGN CHOICE: notes/assumptions/33.md. -/
def Dev.safCheck (d : Dev) : Word :=
  crc32 ((List.range 0x13C0).flatMap fun k => leBytes 4 (d.reg (0x200100 + 4 * k)).toNat)

/-- CHECK_RECOMPUTED: within 10 ms of a write SAF_CHECK holds the new check value. -/
def execCheckRecomputed (s : State) : Host.Outcome State Fault Refusal :=
  if s.dev.island.chkBusy then
    let v := s.dev.safCheck
    .next { s with dev := s.dev.modIsland fun x => { x with chkBusy := false, check := v } }
  else .next s

/-- COMMISSION with a check value: its status (R252).  The pairs of the hard-wired logic start from those of the core when
dual-technology mode takes effect. -/
def Dev.commission (d : Dev) (value : Word) : Dev × Nat :=
  if d.sys.power == .idle && !d.island.chkBusy && value == d.island.check then
    let mode := bit (d.reg Adr.safMode) 0
    let d := d.beginStore.modIsland fun x => { x with comm := true, mode := mode, pairsB := x.pairs }
    (d.event 0x3035 0xFFFF (leBytes 4 value.toNat ++ leBytes 1 (b2n mode) ++ [0, 0, 0]), 0)
  else (d, 0x3031)

/-- TEST_DUE: SAF_TESTAGE has reached 1,440 minutes (R256). -/
def execTestDue (s : State) : Host.Outcome State Fault Refusal :=
  let x := s.dev.island
  if 1440 ≤ x.testAge.toNat && !x.testDue then
    let d := s.dev.modIsland fun x => { x with testDue := true, testTold := true }
    .next { s with dev := if x.testTold then d else d.event 0x3040 0xFFFF }
  else .next s

/-- The parameter set is invalid (R237, R253). -/
def Dev.safInvalid (d : Dev) : Bool :=
  let used (i : Nat) : Bool := bit (d.reg (Adr.safPaircfg i)) 15
  let dis := ((List.range 32).filter used).flatMap fun i =>
    [fld (d.reg (Adr.safPaircfg i)) 0 6, fld (d.reg (Adr.safPaircfg i)) 8 6]
  let loopOn (l : Nat) : Bool := bit (d.reg (Adr.safLoopcfg l)) 0
  let groupOn (g : Nat) : Bool := bit (d.grpCfg g).1 0
  let pairBad := (List.range 32).any fun i =>
    let t := fld (d.reg (Adr.safPaircfg i)) 16 11
    used i && (t < 10 || 2000 < t)
  let loopBad := (List.range 4).any fun l => loopOn l && 1000 < fld (d.reg (Adr.safLoopcfg l)) 16 10
  let srcBad := (List.range 4).any fun k =>
    let c := d.reg (Adr.safTgcfg k)
    bit c 0 && (fld c 1 11 < 20 || 2000 < fld c 1 11 || 5000 < fld c 16 13)
  let groupBad := (List.range 64).any fun g => groupOn g && !loopOn (fld (d.grpCfg g).1 1 2)
  let axisBad := (List.range 512).any fun n =>
    let p := d.axParams n
    p.en && (!d.axConfigured n || !groupOn p.group || fld (d.raw n 11) 0 6 ≠ p.group || p.slso ≤ 0 || p.slsc ≤ 0
      || p.slpmax < p.slpmin || p.cltol = 0 || p.stopmon = 0 || p.dtolp < 3 || 50 < p.dtolp || p.dtola < 2 * 4096
      || p.dtoln = 0 || p.floorchk = 0)
  repeated dis || pairBad || loopBad || srcBad || groupBad || axisBad

/-- Every axis in its first safety state: CLEAR where it is monitored, else NONE (R233). -/
def Dev.safeBase (d : Dev) : Dev :=
  d.axes'.foldl (fun d n =>
    let x : AxSafe := { st := if bit (d.reg (Adr.safAxcfg n)) 0 then .clear else .none, hist := (d.safe n).hist }
    (d.setSafe n x).showSafe n) d

/-- Entry to RUN (R233, R253, R256): every monitored axis is CLEAR; an uncommissioned set and an overdue ROAST are recorded. -/
def Dev.islandRunEntry (d : Dev) : Dev :=
  let d := d.safeBase
  let d := if d.island.comm then d else d.event 0x3032 0xFFFF
  if d.island.testTold then d.event 0x3040 0xFFFF else d

end Sys2Proof.Machine
end

