-- ==== Sys2Proof/Machine/Telegram.lean ====
section
/-! DEFINITION. Safe telegrams (R245–R249): the checks of a copy, the pairing of the two copies, single-path acceptance and the
watchdog of each source. -/

namespace Sys2Proof.Machine

/-- A SEQ exceeds a reference value (R249). -/
def seqExceeds (seq ref : Word) : Bool := let k := (seq - ref).toNat; 1 ≤ k && k ≤ 0x7FFFFFFF

/-- SEQ of a telegram (R245). -/
def tgSeq (b : List Byte) : Word := wordOfNat (leAt b 4 4)

/-- TIME of a telegram (R245). -/
def tgTime (b : List Byte) : Nat := leAt b 8 6

/-- The configured source that SRC names. -/
def Dev.tgSource (d : Dev) (src : Nat) : Option Nat :=
  (List.range 4).find? fun k => bit (d.reg (Adr.safTgcfg k)) 0 && fld (d.reg (Adr.safTgid k)) 0 16 == src

/-- The 256-bit key of a source. -/
def Dev.tgKey (d : Dev) (k : Nat) : List Byte := (List.range 8).flatMap fun j => leBytes 4 (d.reg (Adr.safTgkey k j)).toNat

/-- SEQ and TIME against what the source had accepted (R246, R249); stamps are in 0.1 ms. -/
def TgSource.fresh (x : TgSource) (seq : Word) (time stamp : Nat) : Bool :=
  if x.haveSeq then
    let advance : Int := ((time : Int) - x.time) * 10 - ((stamp : Int) - x.stamp)
    seqExceeds seq x.seq && advance.natAbs ≤ 500
  else if x.cpSet then seqExceeds seq (x.cpSeq + 65536) && x.cpTime < time
  else true

/-- The outcome of the checks of a copy (R246, R247): the source where one is named, and the code; `none` in place of the code
for a valid copy, and 0 for one that repeats the accepted SEQ.  No CODE verifies while the keys that test 1 of ROAST clears are not held (R385). DEDUCED: notes/assumptions/35.md. -/
def Dev.tgCheck (d : Dev) (b : List Byte) (stamp : Nat) : Option Nat × Option Nat :=
  if b.length ≠ 60 then (none, some 0x3020)
  else
    match d.tgSource (leAt b 0 2) with
    | none => (none, some 0x3020)
    | some k =>
      let x := d.island.source k
      if leAt b 2 2 ≠ fld (d.reg (Adr.safTgid k)) 16 16 ∨ leAt b 14 2 ≠ 0 ∨ leAt b 32 16 ≠ 0
        ∨ crc32c (slice b 0 48) ≠ wordOfNat (leAt b 48 4) then (some k, some 0x3020)
      else if d.sys.keysHeld = false ∨ (hmac (d.tgKey k) (slice b 0 52)).take 8 ≠ slice b 52 8 then (some k, some 0x3021)
      else if x.haveSeq ∧ tgSeq b = x.seq then (some k, some 0)
      else if x.fresh (tgSeq b) (tgTime b) stamp then (some k, none)
      else (some k, some 0x3022)

/-- Change a source. -/
def Dev.modSource (d : Dev) (k : Nat) (f : TgSource → TgSource) : Dev :=
  d.modIsland fun x => { x with sources := smPut x.sources k (f (x.source k)) }

/-- Count a copy of a source that was not accepted. DEDUCED: notes/assumptions/36.md. -/
def Dev.tgCount (d : Dev) (k : Nat) : Dev := d.modSource k fun x => { x with rejected := satNat 0xFFFF (x.rejected + 1) }

/-- A rejection: counted, flagged and recorded repeat-counted (R247, R355). DEDUCED: notes/assumptions/36.md. -/
def Dev.tgReject (d : Dev) (k : Option Nat) (code : Nat) : Dev :=
  let d := match k with
    | some k => d.tgCount k
    | none => d
  (d.eventRep code (match k with
    | some k => 0x300 + k
    | none => 0xFFFF)).orReg Adr.safFlags 8

/-- Accept a telegram of a source (R246, R248, R249): `at'` is the stamp of the moment of acceptance, `first` that of the first
copy, by which the TIME check is judged. -/
def Dev.tgAccept (d : Dev) (k : Nat) (b : List Byte) (first at' : Nat) (single : Bool) : Dev :=
  let seq := tgSeq b
  let time := tgTime b
  let now := d.now
  let d := d.modSource k fun x =>
    let cp := !x.haveSeq || x.seq.toNat / 65536 != seq.toNat / 65536
    { x with acceptedOp := some now, haveSeq := true, seq := seq, time := time, stamp := first,
             cpSet := x.cpSet || cp, cpSeq := if cp then seq else x.cpSeq, cpTime := if cp then time else x.cpTime,
             pairStamp := if single then x.pairStamp else some at', rel := BitVec.ofNat 64 (leAt b 16 8),
             user := BitVec.ofNat 64 (leAt b 24 8), timedOut := false, single := single }
  if single then (d.event 0x3025 (0x300 + k)).orReg Adr.safFlags 0x20 else d

/-- Whether ALLOW lets a copy whose partner did not come be accepted alone at the end of its window (R246). -/
def Dev.tgAlone (d : Dev) (k : Nat) (c : TgCopy) : Bool :=
  let x := d.island.source k
  let allow := fld (d.reg (Adr.safTgcfg k)) 16 13
  match x.pairStamp with
  | some p => decide (0 < allow) && decide (c.stamp + 200 ≤ p + 10 * allow) && x.fresh (tgSeq c.bytes) (tgTime c.bytes) c.stamp
  | none => false

/-- Whether the partner of a waiting copy is in the receive buffer of the other port: same source and SEQ, stamped within 20 ms (R246,
R330). -/
def Dev.tgPartner (d : Dev) (c : TgCopy) : Bool :=
  (if c.port = 0 then d.host.tgB else d.host.tgA).any fun y =>
    leAt y.bytes 0 2 == leAt c.bytes 0 2 && tgSeq y.bytes == tgSeq c.bytes && decide (y.stamp ≤ c.stamp + 200)
      && decide (c.stamp ≤ y.stamp + 200)

/-- The end of a waiting copy's window (R246): accepted alone under ALLOW, or dropped. -/
def Dev.tgWindow (d : Dev) (k : Nat) (c : TgCopy) : Dev :=
  let d := d.modSource k fun x => { x with waiting := x.waiting.filter (· != c) }
  if d.tgAlone k c then d.tgAccept k c.bytes c.stamp (c.stamp + 200) true else d

/-- The windows of a source that ended before a stamp, oldest first; one whose partner is on its way to the island stays open. -/
def Dev.tgWindows (d : Dev) (k stamp : Nat) : Dev :=
  ((d.island.source k).waiting.filter fun c => decide (c.stamp + 200 < stamp) && !d.tgPartner c).foldl (fun d c => d.tgWindow k c) d

/-- A copy handed to the island: validated and, by the stamps and in whichever order the two come, paired (R246, R247, R330). DEDUCED: notes/assumptions/35.md. -/
def Dev.tgCopy (d : Dev) (port stamp : Nat) (b : List Byte) : Dev :=
  let d := (List.range 4).foldl (fun d k => d.tgWindows k stamp) d
  let mine : TgCopy := { port := port, stamp := stamp, bytes := b, op := d.now }
  match d.tgCheck b stamp with
  | (k, some code) => if code = 0 then (match k with
      | some k => d.tgCount k
      | none => d) else d.tgReject k code
  | (none, none) => d
  | (some k, none) =>
    match (d.island.source k).waiting.find? fun c => tgSeq c.bytes == tgSeq b with
    | none => d.modSource k fun x => { x with waiting := x.waiting ++ [mine] }
    | some c =>
      let first := Nat.min c.stamp stamp
      let drop (d : Dev) : Dev := d.modSource k fun x => { x with waiting := x.waiting.filter (· != c) }
      if c.bytes ≠ b then ((drop d).tgReject (some k) 0x3023).tgReject (some k) 0x3023
      else if c.port = port then d.tgCount k
      else if stamp + 200 < c.stamp then d.modSource k fun x => { x with waiting := x.waiting ++ [mine] }
      else (drop d).tgAccept k b first (Nat.max c.stamp stamp) false

/-- SAFE_TELEGRAM_COPY: the oldest copy in a port's receive buffer is handed to the island (R330). -/
def execSafeTelegramCopy (port : HostPort) (s : State) : Host.Outcome State Fault Refusal :=
  let h := s.dev.host
  match if port.val = 0 then h.tgA else h.tgB with
  | [] => .next s
  | c :: rest =>
    let h := if port.val = 0 then { h with tgA := rest } else { h with tgB := rest }
    let d : Dev := { s.dev with host := h }
    .next { s with dev := (d.incReg Adr.hostTgcnt).tgCopy port.val c.stamp c.bytes }

/-- SINGLE_PATH_WINDOW_END: a copy has waited 20 ms, by stamps, for its partner, which is not on its way to the island either. -/
def execSinglePathWindowEnd (source : Fin 4) (stamp : Nat) (s : State) : Host.Outcome State Fault Refusal :=
  match (s.dev.island.source source.val).waiting.find? fun c =>
      decide (c.stamp + 200 ≤ stamp) && !s.dev.tgPartner c with
  | some c => .next { s with dev := s.dev.tgWindow source.val c }
  | none => .next s

/-- A valid copy of a source still waits in a receive buffer, or one with the island is to be accepted alone now that 20 ms have passed,
so that its acceptance comes before an expiry (R248). DEDUCED: notes/assumptions/35.md. -/
def Dev.tgComing (d : Dev) (k : Nat) : Bool :=
  (d.host.tgA ++ d.host.tgB).any (fun c => d.tgCheck c.bytes c.stamp == (some k, none))
    || (d.island.source k).waiting.any fun c => decide (c.op + 20 ≤ d.now) && d.tgAlone k c

/-- TELEGRAM_TIMEOUT: WD passed since the source's last accepted telegram, and no acceptance is to be handled first (R248). -/
def execTelegramTimeout (source : Fin 4) (s : State) : Host.Outcome State Fault Refusal :=
  let k := source.val
  let x := s.dev.island.source k
  let c := s.dev.reg (Adr.safTgcfg k)
  match x.acceptedOp with
  | some t =>
    if bit c 0 && !x.timedOut && t + fld c 1 11 ≤ s.dev.now && !s.dev.tgComing k then
      let d := s.dev.modSource k fun x => { x with timedOut := true }
      .next { s with dev := (d.event 0x3024 (0x300 + k)).orReg Adr.safFlags 0x10 }
    else .next s
  | none => .next s

end Sys2Proof.Machine
end

