-- ==== Sys2Proof/Machine/Field.lean ====
section
/-! DEFINITION. The isolated field section (chapter 09): the barrier link seen from both sides, the inputs, the high-side
channels with their trips and retries, the safety outputs as the husk drives them, and the FLD_ registers. -/

namespace Sys2Proof.Machine

/-- Change the field section. -/
def Dev.modField (d : Dev) (f : Field → Field) : Dev := { d with field := f d.field }

/-- Set flags of FLD_FLAGS. -/
def Dev.fldFlag (d : Dev) (bits : Word) : Dev := d.orReg Adr.fldFlags bits

/-! ### The configuration, gangs and maps (R264, R281, R285) -/

/-- Whether an address holds field configuration. -/
def inFldConfig (addr : Nat) : Bool :=
  addr == Adr.fldBlcfg || addr == Adr.fldGang || (0x210020 ≤ addr && addr < 0x210030 && addr % 4 == 0)
    || (0x210100 ≤ addr && addr < 0x210280 && addr % 4 == 0)

/-- A configuration word as the husk holds it, its reset value before one reaches it. -/
def Dev.huskReg (d : Dev) (a : Nat) : Word := if smHas d.field.cfg a then smGet 0 d.field.cfg a else regReset a

/-- Whether channel h belongs to a ganged quad. -/
def Dev.ganged (d : Dev) (h : Nat) : Bool := bit (d.huskReg Adr.fldGang) (h / 4)

/-- The channel whose state stands for channel h: the first of a ganged quad, or itself. -/
def Dev.lead (d : Dev) (h : Nat) : Nat := if d.ganged h then h / 4 * 4 else h

/-- The husk's own time in ms: operating time, and the safety cycles of a reset, in which the husk runs on while operating time stands
still (R263). DEDUCED: notes/assumptions/38.md. -/
def Dev.huskNow (d : Dev) : Nat := d.now + d.field.aside

/-- The channels that have a state of their own. -/
def Dev.leads (d : Dev) : List Nat := (List.range 32).filter fun h => d.lead h == h

/-- The DRV pin that drives channel h. -/
def Dev.drvPin (d : Dev) (h : Nat) : Option Nat := (List.range 4).find? fun p => bit (d.huskReg (Adr.fldDrvmap p)) h

/-- FAILSAFE of a channel. -/
def Dev.hsFailsafe (d : Dev) (h : Nat) : Nat := fld (d.huskReg (Adr.fldHscfg h)) 4 2

/-- The DRV condition of a channel: unmapped, or its pin is high. -/
def Dev.drvHigh (d : Dev) (h : Nat) : Bool :=
  match d.drvPin h with
  | some p => d.field.drv.getLsbD p
  | none => true

/-! ### Switching (R262, R268, R276, R277) -/

/-- The state a channel is to take: its fail-safe state during recovery, its command otherwise. -/
def Dev.hsWanted (d : Dev) (h : Nat) : Bool :=
  let x := d.field.chan h
  let fs := d.hsFailsafe h
  if x.failsafe && fs != 2 then fs == 1 else x.cmd

/-- Nothing holds the channel off: no latch, no pending retry, no undervoltage, no ROAST, the husk has power, and a paired
module is ACTIVE (R297). -/
def Dev.hsFree (d : Dev) (h : Nat) : Bool :=
  let x := d.field.chan h
  d.drivesPorts && !x.limitLatch && !x.thermLatch && !x.retryPending && !d.field.uv && !d.field.roastHold && d.field.powered

/-- Bring a channel's output to what its state asks for.  `fresh` marks a turn-on that starts the times of R279 and R281. -/
def Dev.hsSettle (d : Dev) (h : Nat) (fresh : Bool) : Dev :=
  let x := d.field.chan h
  let wanted := d.hsWanted h
  let on := wanted && d.hsFree h && d.drvHigh h
  let start := fresh && wanted && d.hsFree h
  let d := d.setChan h { x with on := on, phase := if on then x.phase else 0, uvOff := wanted && d.field.uv, onSince := if start then d.huskNow else x.onSince }
  let q := h / 4
  if d.ganged h then d.modField fun f =>
    { f with raised := if start then putBit f.raised q true else if wanted && d.hsFree h then f.raised else putBit f.raised q false }
  else d

/-- A change of command is applied: off ends the retry count and the trip latch, and a thermal latch once it has cooled;
on is a turn-on (R277, R279). DEDUCED: notes/assumptions/38.md. -/
def Dev.hsApply (d : Dev) (h : Nat) (want : Bool) : Dev :=
  let x := d.field.chan h
  let x : Hs := { x with cmd := want, lastChange := some d.huskNow, deferred := none }
  let x : Hs := if want then x
    else { x with retries := 0, retryPending := false, limitLatch := false, waitCool := x.thermLatch && x.hot,
                  thermLatch := x.thermLatch && x.hot }
  (d.setChan h x).hsSettle h want

/-- A command as a downstream frame brings it: a change is applied at most once per 20 ms, a sooner one is deferred (R276).
DEDUCED: notes/assumptions/38.md. -/
def Dev.hsCommand (d : Dev) (h : Nat) (want : Bool) : Dev :=
  let x := d.field.chan h
  if want = x.cmd then d.setChan h { x with deferred := none }
  else
    let soon := match x.lastChange with
      | some t => d.huskNow < t + 20
      | none => false
    if !soon then d.hsApply h want
    else if x.deferred = some want then d
    else ((d.setChan h { x with deferred := some want }).eventRep 0x4015 (0x100 + h)).fldFlag 0x200

/-! ### The husk's downstream side (R264–R269) -/

/-- Set an SO output as the last good downstream frame commands it: an output that was switched off for overload stays off until
its command goes off (R287). -/
def Dev.soSettle (d : Dev) (k : Nat) : Dev :=
  let f := d.field
  let x : So := smGet {} f.so k
  let cmd := f.soCmd.getLsbD k
  let x : So := { x with overload := x.overload && cmd }
  let x : So := { x with on := cmd && !x.overload && !f.uv && !f.roastHold && f.powered }
  d.modField fun f => { f with so := smPut f.so k x }

/-- The configuration words due reach the husk.  A channel that joins or leaves a gang starts afresh, and a gang takes no retries
(R281). DEDUCED: notes/assumptions/38.md. -/
def Dev.huskConfigure (d : Dev) : Dev :=
  let f := d.field
  let cfg := if f.cfgFull then d.regs.filter (fun p => inFldConfig p.1)
    else f.cfgWords.foldl (fun m a => smPut m a (d.reg a)) f.cfg
  let e := d.modField fun f => { f with cfg := cfg, cfgFull := false, cfgWords := [] }
  let e := e.modField fun f => { f with raised := f.raised &&& BitVec.ofNat 8 (fld (e.huskReg Adr.fldGang) 0 8) }
  (List.range 32).foldl (fun e h =>
    if e.lead h ≠ d.lead h then e.setChan h {}
    else if e.ganged h && !d.ganged h then e.setChan h { e.field.chan h with retryPending := false } else e) e

/-- A good downstream frame: configuration words where they are due, the SO commands of the island, the HS commands. -/
def Dev.huskGood (d : Dev) : Dev :=
  let full := d.field.cfgFull
  let d := if full || !d.field.cfgWords.isEmpty then d.huskConfigure else d
  let d := d.modField fun f =>
    { f with dnBadRun := 0, cfgComplete := f.cfgComplete || full, configured := f.configured || full,
             recGood := if full then 0 else if f.cfgComplete then f.recGood + 1 else 0,
             soCmd := if f.roastHold then 0 else d.island.soCmd }
  let d := (List.range 8).foldl (fun d k => d.soSettle k) d
  if d.field.recovery || d.field.roastHold then d
  else d.leads.foldl (fun d h =>
    let d := d.hsCommand h (d.field.hsCmd.getLsbD h)
    d.hsSettle h ((d.drvPin h).isNone && !(d.field.chan h).on)) d

/-- The barrier frame that the module still sends after a power-fail warning reaches the husk: the SO outputs go off with it, and the
recorder has stopped (R364, R413). -/
def Dev.lastFrame (d : Dev) : Dev := { d.huskGood with recorder := d.recorder }

/-- HUSK_FRAME_RECEIVED: the downstream frame of a safety cycle, good or bad; the module sends none outside IDLE and RUN, but for the one
after a power-fail warning. -/
def execHuskFrameReceived (good : Bool) (s : State) : Host.Outcome State Fault Refusal :=
  let d := s.dev
  if !d.field.powered then .next s
  else if d.operating && good then .next { s with dev := d.huskGood }
  else if good && d.field.offDue then
    .next { s with dev := d.lastFrame.modField fun f => { f with offDue := false, aside := f.aside + 1 } }
  else if good then .next s
  else
    .next { s with dev := d.modField fun f =>
      { f with offDue := false, dnBadRun := if f.roastHold then f.dnBadRun else f.dnBadRun + 1, recGood := 0, dnNew := f.dnNew + 1,
               aside := if d.operating then f.aside else f.aside + 1 } }

/-- SO_COMMAND_LOSS_OFF: two consecutive bad downstream frames switch every SO output off (R267). -/
def execSoCommandLossOff (s : State) : Host.Outcome State Fault Refusal :=
  if s.dev.field.powered && 2 ≤ s.dev.field.dnBadRun then
    let off := s.dev.field.so.map fun p => (p.1, ({ p.2 with on := false } : So))
    .next { s with dev := s.dev.modField fun f => { f with so := off } }
  else .next s

/-- The husk enters recovery with every channel in its fail-safe state (R268); one that holds its last command keeps its deferral and
its retry. -/
def Dev.watchdogTrip (d : Dev) : Dev :=
  let d := d.modField fun f => { f with recovery := true, tripped := true, cfgComplete := false, recGood := 0 }
  d.leads.foldl (fun d h =>
    let x := d.field.chan h
    let was := x.on
    if d.hsFailsafe h = 2 then d.setChan h { x with failsafe := true }
    else (d.setChan h { x with failsafe := true, deferred := none, retryPending := false }).hsSettle h (!was)) d

/-- BARRIER_WATCHDOG_TRIP: WDT safety cycles without a good downstream frame. -/
def execBarrierWatchdogTrip (s : State) : Host.Outcome State Fault Refusal :=
  let f := s.dev.field
  if f.powered && !f.recovery && !f.roastHold && fld (s.dev.huskReg Adr.fldBlcfg) 0 8 ≤ f.dnBadRun then
    .next { s with dev := s.dev.watchdogTrip }
  else .next s

/-- Recovery ends: each channel follows its command, one that goes on from off as a new turn-on (R269). -/
def Dev.recoveryEnd (d : Dev) : Dev :=
  let d := d.modField fun f => { f with recovery := false, tripped := false }
  d.leads.foldl (fun d h =>
    let x := d.field.chan h
    let was := x.on
    let held := x.thermLatch && (x.hot || !x.waitCool)
    let d := (d.setChan h { x with failsafe := false, thermLatch := held, waitCool := held && x.waitCool }).hsCommand h
      (d.field.hsCmd.getLsbD h)
    d.hsSettle h (!was)) d

/-- RECOVERY_END: the sixteenth consecutive good downstream frame after a complete configuration. -/
def execRecoveryEnd (s : State) : Host.Outcome State Fault Refusal :=
  let f := s.dev.field
  if f.recovery && f.cfgComplete && 16 ≤ f.recGood then .next { s with dev := s.dev.recoveryEnd } else .next s

/-! ### The husk's own measurements (R277, R278, R281–R283, R285) -/

/-- IC in mA (R278): 2 A for a single channel, and by WIRE for a ganged quad. -/
def curveIc (wire : Nat) (gang : Bool) : Nat := if gang then [3000, 4500, 6000, 8000].getD wire 0 else 2000

/-- K by WIRE (R278), in mA² times 100 µs. -/
def curveK (wire : Nat) : Nat := [20, 45, 80, 180].getD wire 0 * 10 ^ 10

/-- WIRE of a channel. -/
def Dev.hsWire (d : Dev) (l : Nat) : Nat := fld (d.huskReg (Adr.fldHscfg l)) 0 2

/-- The fuse-curve integral takes the 100 µs evaluations of the output's current since the last latch, each once (R277); it is never
below 0. DEDUCED: notes/assumptions/37.md. -/
def Dev.hsIntegrate (d : Dev) (l : Nat) (fast : List Nat) : Dev :=
  let ic := curveIc (d.hsWire l) (d.ganged l)
  let x := d.field.chan l
  d.setChan l { x with curve := (fast.drop x.curveTaken).foldl (fun acc i => acc + i * i - ic * ic) x.curve,
                       curveTaken := Nat.max x.curveTaken fast.length }

/-- A latch begins the count of the evaluations again. -/
def Dev.hsLatched (d : Dev) (l : Nat) : Dev := d.setChan l { d.field.chan l with curveTaken := 0 }

/-- The integral has reached K. -/
def Dev.curveReached (d : Dev) (l : Nat) : Bool := curveK (d.hsWire l) ≤ (d.field.chan l).curve

/-- The current of an output out of those of the 32 channels: of its whole quad where it is ganged (R281). -/
def Dev.hsCurrentOf (d : Dev) (currents : List (BitVec 16)) (h : Nat) : Nat :=
  if d.ganged h then (List.range 4).foldl (fun s k => s + (currents.getD (h / 4 * 4 + k) 0).toNat) 0
  else (currents.getD h 0).toNat

/-- The on-state open-load check of a channel stands still: a channel of its quad at the limit now or less than 1 ms ago (R282), or
V24F below 16.8 V (R262). -/
def Dev.olBlanked (d : Dev) (l : Nat) : Bool :=
  (d.field.limitNow ||| d.field.limitPrev).getLsbD (l / 4) || d.field.v24fHusk.toNat < 1680

/-- The open-load counts of a channel at a latch: of a mapped channel only on-phases of 1 ms or longer count (R283, R285).
DESIGN CHOICE: notes/assumptions/74.md. -/
def Dev.olCount (d : Dev) (currents : List (BitVec 16)) (l : Nat) : Dev :=
  let y := d.field.chan l
  let mapped := (d.drvPin l).isSome
  let y : Hs := { y with phase := if y.on then satNat 2 (y.phase + 1) else 0 }
  if y.on && (!mapped || 2 ≤ y.phase) && !d.olBlanked l then
    let low := decide (d.hsCurrentOf currents l < fld (d.huskReg (Adr.fldHscfg l)) 8 5)
    d.setChan l { y with olLow := if low then satNat 51 (y.olLow + 1) else 0, olHigh := if low then 0 else satNat 51 (y.olHigh + 1) }
  else if y.on || mapped then d.setChan l y
  else d.setChan l { y with olLow := 0, olHigh := 0 }

/-- What the husk measures up to a latch, whether or not its frame reaches the logic side. -/
def Dev.huskSample (d : Dev) (x : FieldSample) : Dev :=
  let quads : BitVec 8 := (List.range 32).foldl (fun w h => if x.hsAtLimit.getLsbD h then putBit w (h / 4) true else w) 0
  let d := d.modField fun f => { f with v24fHusk := x.v24f, limitPrev := f.limitNow, limitNow := quads }
  d.leads.foldl (fun d l => ((d.hsIntegrate l (x.hsFast.map fun c => d.hsCurrentOf c l)).hsLatched l).olCount x.hsCurrent l) d

/-! ### The logic side of the barrier link (R265, R266, R269, R273, R274, R284, R290) -/

/-- Pulsed sampling of all inputs (R272). -/
def Field.pulsed (f : Field) : Bool := f.powered && (!f.configured || f.roastHold || f.recovery)

/-- The signals the husk produces, apart from the SO read-back: the inputs, the channels and the supplies. -/
def huskSignals : List Nat :=
  (List.range 128).map (0x80000 + ·) ++ (List.range 64).map (0x80120 + ·) ++ (List.range 6).map (0x80300 + ·)

/-- The SO read-back signals. -/
def soSignals : List Nat := (List.range 8).map (0x80200 + ·)

/-- One input of a good frame. -/
def Dev.fieldInput (d : Dev) (x : FieldSample) (i : Nat) : Dev :=
  let cfg := d.reg (Adr.fldDicfg i)
  let y : Di := smGet {} d.field.di i
  let a := x.diA.getLsbD i
  let diff := if a != x.diB.getLsbD i then y.diff + 1 else 0
  let n := if a != y.logical then y.deb + 1 else 0
  let turn := a != y.logical && Nat.max 1 (fld cfg 0 8) ≤ n
  let logical := if turn then a else y.logical
  let changes := if a != y.a then (y.changes + 1) % 256 else y.changes
  let volt := if d.field.cycle % 8 = 0 then x.diVolt.getD i 0 else y.volt
  let z : Di := { logical := logical, a := a, deb := if turn then 0 else n, diff := satNat 3 diff, differs := decide (3 ≤ diff),
                  changes := changes, volt := volt }
  let d := d.modField fun f => { f with di := smPut f.di i z }
  let d := if diff = 3 && !y.differs then (d.eventRep 0x4007 i).fldFlag 0x10 else d
  let ok := d.field.linkUp
  let d := d.devSig (0x80000 + i) (fields [(0, b2n (logical != bit cfg 9)), (1, b2n a)]) ok
  d.devSig (0x80040 + i) (fields [(0, volt.toNat), (16, b2n (d.field.pulsed || bit (d.huskReg (Adr.fldDicfg i)) 8)), (17, b2n z.differs),
    (24, changes)]) ok

/-- One channel of a good frame: read-back and status. -/
def Dev.fieldChannel (d : Dev) (x : FieldSample) (h : Nat) : Dev :=
  let y := d.field.chan h
  let high := x.hsHigh.getLsbD h
  let bad := high != y.on
  let n := if bad then satNat 3 (y.mismatch + 1) else 0
  let z : Hs := { y with high := high, atLimit := x.hsAtLimit.getLsbD h, mismatch := n, rbBad := decide (3 ≤ n),
                         current := BitVec.ofNat 16 (satNat 0xFFFF (d.hsCurrentOf x.hsCurrent h)) }
  let d := d.setChan h z
  if 3 ≤ n && !y.rbBad then (d.event 0x4016 (0x100 + h)).fldFlag 0x400 else d

/-- sig.80120 + h and sig.80140 + h; the channels of a gang repeat its first. -/
def Dev.showChannel (d : Dev) (h : Nat) : Dev :=
  let l := d.lead h
  let y := d.field.chan l
  let ok := d.field.linkUp
  let raised := d.ganged h && d.field.raised.getLsbD (h / 4)
  let mapped := (d.drvPin h).isSome && d.drvHigh h
  let d := d.devSig (0x80120 + h) (fields [(0, b2n y.high)]) ok
  d.devSig (0x80140 + h) (fields [(0, y.current.toNat), (16, b2n y.on), (17, b2n y.atLimit), (18, b2n y.limitLatch),
    (19, b2n y.thermLatch), (20, b2n y.openLoad), (21, b2n y.feed), (22, b2n y.uvOff), (23, b2n y.failsafe),
    (24, satNat 15 y.retries), (28, b2n raised), (29, b2n mapped), (30, b2n y.rbBad)]) ok

/-- sig.80200 + k, which the island writes; bit [2] takes the result of a test pulse in the frame that carries it (R264, R290). -/
def Dev.showOutput (d : Dev) (x : FieldSample) (k : Nat) : Dev :=
  let y : So := smGet {} d.field.so k
  let cur := x.soCurrent.getD k 0
  let d := d.modField fun f => { f with so := smPut f.so k { y with current := cur } }
  d.sigStore (0x80200 + k) (fields [(0, b2n (x.soOn.getLsbD k)), (1, b2n (d.field.soCmd.getLsbD k)),
    (2, b2n (((d.island.soMismatch d.field.uv (d.sys.frame.toNat / 16) k).2).getD (d.island.soPulse.getLsbD k))), (3, b2n y.overload), (16, cur.toNat)]) d.field.linkUp false 0x12

/-- What the logic side learns of the husk in a good frame while the link is up (R263, R269). -/
def Dev.huskReports (d : Dev) : Dev :=
  let d := if d.field.linkUp && d.field.supplyLost then
      ((d.modField fun f => { f with supplyLost := false, cfgFull := true }).event 0x4003 0xFFFF).fldFlag 4
    else d
  if !d.field.tripped then d.modField fun f => { f with wdSeen := false }
  else if d.field.linkUp && !d.field.wdSeen then
    ((d.modField fun f => { f with wdSeen := true, cfgFull := true }).event 0x4002 0xFFFF).fldFlag 2
  else d

/-- A good upstream frame. DEDUCED: notes/assumptions/39.md. -/
def Dev.barrierGood (d : Dev) (x : FieldSample) : Dev :=
  let d := d.modField fun f =>
    { f with upBad := 0, upGood := satNat 16 (f.upGood + 1), cycle := f.cycle + 1, v24f := x.v24f,
             v24fLow := if x.v24f.toNat < f.v24fLow.toNat then x.v24f else f.v24fLow,
             huskSupply := x.huskSupply, caseTemp := x.caseTemp }
  let bad := fld (d.reg Adr.fldBlcnt) 16 16 + d.field.dnNew
  let d := (d.setRegFld Adr.fldBlcnt 16 16 (satNat 0xFFFF bad)).modField fun f => { f with dnNew := 0 }
  let d := d.huskReports
  let live : BitVec 8 := (List.range 8).foldl (fun w k => putBit w k (smGet ({} : So) d.field.so k).on) 0
  let d := d.modIsland fun y => { y with soLive := live, diA := x.diA, diB := x.diB, diOk := true, soOn := x.soOn, soFell := x.soPulseFell }
  let d := (List.range 64).foldl (fun d i => d.fieldInput x i) d
  let d := d.leads.foldl (fun d h => d.fieldChannel x h) d
  let d := (List.range 32).foldl (fun d h => d.showChannel h) d
  let d := (List.range 8).foldl (fun d k => d.showOutput x k) d
  let sum := (List.range 32).foldl (fun s h => s + (x.hsCurrent.getD h 0).toNat) 0
  let ok := d.field.linkUp
  let d := (d.devSig 0x80300 x.v24f ok).devSig 0x80301 d.field.v24fLow ok
  let d := (d.devSig 0x80302 x.huskSupply ok).devSig 0x80303 x.caseTemp ok
  (d.devSig 0x80304 (wordOfNat sum) ok).devSig 0x80305 d.field.uvEpisodes ok

/-- A bad upstream frame: the signals keep their values with STALE set, and the island takes every input as safe (R266).
DEDUCED: notes/assumptions/39.md. -/
def Dev.barrierBad (d : Dev) : Dev :=
  let d := d.modField fun f => { f with upBad := f.upBad + 1, upGood := 0, cycle := f.cycle + 1 }
  let d := (d.incRegFld Adr.fldBlcnt 0 16).modIsland fun y => { y with diOk := false }
  let d := huskSignals.foldl (fun d n => d.devSig n (d.sigVal n) (d.sig n).valid true) d
  soSignals.foldl (fun d n => d.sigStore n (d.sigVal n) (d.sig n).valid true 0x12) d

/-- BARRIER_FRAME_RECEIVED: the upstream frame of a safety cycle. -/
def execBarrierFrameReceived (sample : FieldSample) (s : State) : Host.Outcome State Fault Refusal :=
  let d := if s.dev.field.powered then s.dev.huskSample sample else s.dev
  if !s.dev.operating then .next { s with dev := d }
  else .next { s with dev := if sample.good && d.field.powered then d.barrierGood sample else d.barrierBad }

/-- BARRIER_LINK_LOST: three consecutive bad upstream frames; VALID clears on every signal the husk produces. -/
def execBarrierLinkLost (s : State) : Host.Outcome State Fault Refusal :=
  if s.dev.field.linkUp && 3 ≤ s.dev.field.upBad then
    let d := ((s.dev.modField fun f => { f with linkUp := false }).event 0x4001 0xFFFF).fldFlag 1
    .next { s with dev := (huskSignals ++ soSignals).foldl (fun d n => d.sigQuality n false true) d }
  else .next s

/-- BARRIER_LINK_UP: sixteen consecutive good upstream frames; the whole configuration is sent again. -/
def execBarrierLinkUp (s : State) : Host.Outcome State Fault Refusal :=
  if !s.dev.field.linkUp && 16 ≤ s.dev.field.upGood then
    let d := (s.dev.modField fun f => { f with linkUp := true, cfgFull := true }).event 0x4006 0xFFFF
    .next { s with dev := d.huskReports }
  else .next s

/-! ### Supplies (R262, R263) -/

/-- V24F_UNDERVOLTAGE: every HS and SO output is switched off. -/
def execV24fUndervoltage (s : State) : Host.Outcome State Fault Refusal :=
  if s.dev.field.powered && !s.dev.field.uv then
    let d := s.dev.modField fun f => { f with uv := true, uvEpisodes := satInc f.uvEpisodes }
    let d := (d.event 0x4004 0xFFFF).fldFlag 8
    let d := d.leads.foldl (fun d h => (d.setChan h { d.field.chan h with retryPending := false }).hsSettle h false) d
    .next { s with dev := (List.range 8).foldl (fun d k => d.soSettle k) d }
  else .next s

/-- UNDERVOLTAGE_END: each channel commanded on turns on as a new turn-on; the SO outputs follow the next downstream frame. -/
def execUndervoltageEnd (s : State) : Host.Outcome State Fault Refusal :=
  if s.dev.field.uv then
    let d := (s.dev.modField fun f => { f with uv := false }).event 0x4005 0xFFFF
    .next { s with dev := d.leads.foldl (fun d h => d.hsSettle h true) d }
  else .next s

/-- The husk's own state after a reset of the husk: every output off, no configuration (R263). -/
def Field.fresh (f : Field) : Field :=
  { f with recovery := false, recGood := 0, cfgComplete := false, dnBadRun := 0, tripped := false, uv := false,
           configured := false, roastHold := false, cfg := [], dnNew := 0, limitNow := 0, limitPrev := 0, hs := [], raised := 0, so := [], soCmd := 0 }

/-- HUSK_RESET: the isolated converter leaves its range. -/
def execHuskReset (s : State) : Host.Outcome State Fault Refusal :=
  if s.dev.field.powered then
    .next { s with dev := s.dev.modField fun f => { f.fresh with supplyLost := true } }
  else .next s

/-! ### High-side events (R276–R285) -/

/-- HS_DEFERRED_APPLY: twenty ms after the previous change. -/
def execHsDeferredApply (h : Fin 32) (s : State) : Host.Outcome State Fault Refusal :=
  let d := s.dev
  let l := d.lead h.val
  let x := d.field.chan l
  match x.deferred, x.lastChange with
  | some want, some t =>
    if t + 20 ≤ d.huskNow && !d.field.roastHold then .next { s with dev := d.hsApply l want } else .next s
  | _, _ => .next s

/-- Count a limit or curve trip. -/
def Dev.countTrip (d : Dev) (h : Nat) : Dev := d.incRegFld (Adr.fldHscnt h) 0 16

/-- A latched limit or curve trip. -/
def Dev.latchTrip (d : Dev) (h : Nat) : Dev :=
  let x := d.field.chan h
  (((d.setChan h { x with limitLatch := true }).hsSettle h false).eventRep 0x4010 (0x100 + h)).fldFlag 0x20

/-- HS_LIMIT_TRIP: retried within 100 ms of the turn-on up to eight times, or latched (R279, R281, R285).
DEDUCED: notes/assumptions/37.md. -/
def execHsLimitTrip (h : Fin 32) (s : State) : Host.Outcome State Fault Refusal :=
  let d := s.dev
  let l := d.lead h.val
  let x := d.field.chan l
  if !x.on then .next s
  else
    let d := d.countTrip l
    let d := d.modField fun f => { f with limitNow := putBit f.limitNow (l / 4) true }
    let retry := !d.ganged l && bit (d.huskReg (Adr.fldHscfg l)) 2 && (d.drvPin l).isNone && !(x.failsafe && d.hsFailsafe l == 1)
      && x.retries < 8
      && d.huskNow ≤ x.onSince + 100
    .next { s with dev := if retry then (d.setChan l { x with retryPending := true }).hsSettle l false else d.latchTrip l }

/-- HS_CURVE_TRIP: the currents of the evaluations since the last frame enter the integral; where it has reached K the channel is
latched off at once. DEDUCED: notes/assumptions/37.md. -/
def execHsCurveTrip (x : HsCurve) (s : State) : Host.Outcome State Fault Refusal :=
  let l := s.dev.lead x.h.val
  if (s.dev.field.chan l).on then
    let d := s.dev.hsIntegrate l (x.fast.map (·.toNat))
    .next { s with dev := if d.curveReached l then (d.countTrip l).latchTrip l else d }
  else .next s

/-- HS_THERMAL_TRIP: the thermal latch, which wins over a retry (R280); one channel latches its whole gang (R281).  It stays until the
command goes off after it, also where the channel was on in its fail-safe state (R277). -/
def execHsThermalTrip (h : Fin 32) (s : State) : Host.Outcome State Fault Refusal :=
  let d := s.dev
  let l := d.lead h.val
  let x := d.field.chan l
  if x.on || x.retryPending then
    let d := d.setChan l { x with thermLatch := true, hot := true, waitCool := false, retryPending := false }
    let d := (d.hsSettle l false).incRegFld (Adr.fldHscnt l) 16 16
    .next { s with dev := (d.event 0x4012 (0x100 + l)).fldFlag 0x80 }
  else .next s

/-- HS_RETRY: two ms after the trip the channel is switched on again. -/
def execHsRetry (h : Fin 32) (s : State) : Host.Outcome State Fault Refusal :=
  let d := s.dev
  let l := d.lead h.val
  let x := d.field.chan l
  if x.retryPending then
    let d := (d.setChan l { x with retryPending := false, retries := x.retries + 1 }).hsSettle l false
    .next { s with dev := (d.eventRep 0x4011 (0x100 + l)).fldFlag 0x40 }
  else .next s

/-- HS_COOLED: a thermally latched channel has cooled; where its command has gone off since, the latch ends, and a channel
commanded on again turns on.  In its fail-safe state a channel with its command off waits for the end of recovery. -/
def execHsCooled (h : Fin 32) (s : State) : Host.Outcome State Fault Refusal :=
  let d := s.dev
  let l := d.lead h.val
  let x := d.field.chan l
  if x.thermLatch && x.hot then
    let ends := x.waitCool && (x.cmd || !d.hsWanted l)
    let d := d.setChan l { x with hot := false, thermLatch := !ends, waitCool := x.waitCool && !ends }
    .next { s with dev := if ends then d.hsSettle l true else d }
  else .next s

/-- GANG_RAISED_LIMIT_END: 40 ms after the turn-on of a gang. -/
def execGangRaisedLimitEnd (q : Fin 8) (s : State) : Host.Outcome State Fault Refusal :=
  let f := s.dev.field
  if f.raised.getLsbD q.val && (f.chan (4 * q.val)).onSince + 40 ≤ s.dev.huskNow then
    .next { s with dev := s.dev.modField fun f => { f with raised := putBit f.raised q.val false } }
  else .next s

/-- Report an open load or an external feed: recorded at its onset. -/
def Dev.hsReport (d : Dev) (h : Nat) (openLoad feed : Bool) : Dev :=
  let x := d.field.chan h
  let d := d.setChan h { x with openLoad := openLoad, feed := feed }
  let d := if openLoad && !x.openLoad then (d.event 0x4013 (0x100 + h)).fldFlag 0x100 else d
  if feed && !x.feed then (d.event 0x4014 (0x100 + h)).fldFlag 0x100 else d

/-- The on-state open-load check judges the channel: OLEN with OLMODE 0, the channel on, V24F at least 16.8 V, outside the blanking. -/
def Dev.olChecks (d : Dev) (l : Nat) : Bool :=
  let c := d.huskReg (Adr.fldHscfg l)
  d.drivesPorts && bit c 6 && !bit c 7 && ((d.field.chan l).on || (d.drvPin l).isSome) && !d.olBlanked l

/-- HS_OPEN_LOAD_ONSTATE: current below OLTHR for 50 ms outside the blanking of R282.
DESIGN CHOICE: notes/assumptions/74.md. -/
def execHsOpenLoadOnstate (h : Fin 32) (s : State) : Host.Outcome State Fault Refusal :=
  let d := s.dev
  let l := d.lead h.val
  let x := d.field.chan l
  if d.olChecks l && 51 ≤ x.olLow then .next { s with dev := d.hsReport l true x.feed } else .next s

/-- ONSTATE_OPEN_LOAD_CLEAR: current at or above OLTHR for 50 ms. -/
def execOnstateOpenLoadClear (h : Fin 32) (s : State) : Host.Outcome State Fault Refusal :=
  let d := s.dev
  let l := d.lead h.val
  let x := d.field.chan l
  if d.olChecks l && 51 ≤ x.olHigh && x.openLoad then .next { s with dev := d.hsReport l false x.feed } else .next s

/-- OFFSTATE_OPEN_LOAD_CHECK: the pull-up check of a channel that is off. -/
def execOffstateOpenLoadCheck (h : Fin 32) (above3v5 above8v : Bool) (s : State) : Host.Outcome State Fault Refusal :=
  let d := s.dev
  let l := d.lead h.val
  let c := d.huskReg (Adr.fldHscfg l)
  let x := d.field.chan l
  if d.drivesPorts && bit c 6 && bit c 7 && !x.on && (d.drvPin l).isNone && 1680 ≤ d.field.v24fHusk.toNat then
    .next { s with dev := d.hsReport l above3v5 above8v }
  else .next s

/-- SO_OVERLOAD_OFF: held at 0.8 A for 1.0 ms (R287). -/
def execSoOverloadOff (k : Fin 8) (s : State) : Host.Outcome State Fault Refusal :=
  let x : So := smGet {} s.dev.field.so k.val
  if x.on then
    let y : So := { x with on := false, overload := true }
    .next { s with dev := s.dev.modField fun f => { f with so := smPut f.so k.val y } }
  else .next s

/-- DRV_EDGE: the channels mapped to the pin follow it (R285). -/
def execDrvEdge (pin : Fin 4) (level : Bool) (s : State) : Host.Outcome State Fault Refusal :=
  if s.dev.field.powered then
    let d := s.dev.modField fun f => { f with drv := putBit f.drv pin.val level }
    .next { s with dev := (d.leads.filter fun h => d.drvPin h == some pin.val).foldl (fun d h => d.hsSettle h false) d }
  else .next s

/-! ### Registers and hooks (R276, R292, R401, R404) -/

/-- A value that FLD_BLCFG or FLD_HSCFG does not take (R292, R293). -/
def fldOutOfRange (addr : Nat) (v : Word) : Bool :=
  (addr == Adr.fldBlcfg && (fld v 0 8 < 2 || 250 < fld v 0 8))
    || (0x210200 ≤ addr && addr < 0x210280 && (fld v 8 5 < 1 || 20 < fld v 8 5))

/-- A write of a field configuration register (R292). -/
def Dev.fldWrite (d : Dev) (addr : Nat) (value : Word) : Dev :=
  match rowOf addr with
  | none => d
  | some r =>
    let v := value &&& wordOfNat r.mask
    let hs := decide (0x210200 ≤ addr)
    let di := decide (0x210100 ≤ addr) && !hs
    let bad := fldOutOfRange addr v
    let code := if di then 0 else if d.sys.power != .idle then 0x4031 else if bad then 0x4032 else 0
    let d := d.setReg Adr.fldCfgstat (wordOfNat code)
    if code = 0 then (d.setReg addr v).modField fun f => { f with cfgWords := if f.cfgWords.contains addr then f.cfgWords else f.cfgWords ++ [addr] }
    else (d.event code (if hs then 0x100 + (addr - 0x210200) / 4 else 0xFFFF)).fldFlag 0x800

/-- FLD_CONFIG_WRITE. -/
def execFldConfigWrite (addr value : Word) (s : State) : Host.Outcome State Fault Refusal :=
  if inFldConfig addr.toNat then .next { s with dev := s.dev.fldWrite addr.toNat value } else .next s

/-- The field configuration refuses entry to RUN with 0x4030 (R292). -/
def Dev.fldInvalid (d : Dev) : Bool :=
  let maps (h : Nat) : List Nat := (List.range 4).filter fun p => bit (d.reg (Adr.fldDrvmap p)) h
  (List.range 32).any (fun h => 1 < (maps h).length || fld (d.reg (Adr.fldHscfg h)) 4 2 == 3)
    || (List.range 8).any fun q => bit (d.reg Adr.fldGang) q
        && !((List.range 4).all fun k => maps (4 * q + k) == maps (4 * q))

/-- The device writes every HS command signal to 0 (R276). -/
def Dev.hsZero (d : Dev) : Dev := (List.range 32).foldl (fun d h => d.devNat (0x80100 + h) 0) d

/-- The HS commands that the next downstream frame carries: the signals as they stand at the start of the frame before (R265). -/
def Dev.hsSnapshot (d : Dev) : Dev :=
  let cmd : BitVec 32 := (List.range 32).foldl (fun w h =>
    let x := d.sig (0x80100 + h)
    putBit w h (x.value.getLsbD 0 && x.valid)) 0
  d.modField fun f => { f with hsCmd := cmd }

/-- The converter is switched on in a cold or wake start: the husk starts fresh, its link is up and it is configured before
IDLE (R263, R401). -/
def Dev.fieldOn (d : Dev) : Dev :=
  d.modField fun f => { f.fresh with powered := true, linkUp := true, cfgComplete := true, configured := true, upBad := 0,
                                     upGood := 0, supplyLost := false, wdSeen := false, cfgFull := false, cfgWords := [],
                                     cfg := d.regs.filter (fun p => inFldConfig p.1), hsCmd := 0,
                                     di := [], v24fLow := 0xFFFFFFFF }

/-- The converter is switched off: every output is off. -/
def Dev.fieldOff (d : Dev) : Dev :=
  d.modField fun f => { f.fresh with powered := false, linkUp := false, upBad := 0, upGood := 0, hsCmd := 0 }

/-- The logic side after a reset start: the husk kept running under its watchdog and is brought back before IDLE (R401, R414). -/
def Dev.fieldRejoin (d : Dev) : Dev :=
  let d := if d.field.supplyLost then (d.event 0x4003 0xFFFF).fldFlag 4 else d
  let d := d.modField fun f => { f with linkUp := true, upBad := 0, upGood := 0, hsCmd := 0, di := [], v24fLow := 0xFFFFFFFF,
                                        cfgFull := true, cfgComplete := true, configured := true, dnBadRun := 0, supplyLost := false }
  let d := d.huskConfigure
  let d := if d.field.tripped then (d.event 0x4002 0xFFFF).fldFlag 2 else d
  d.recoveryEnd

/-- ROAST begins or ends: every output off whatever FAILSAFE, the watchdog suspended, pulsed sampling (R384). -/
def Dev.fieldRoast (d : Dev) (hold : Bool) : Dev :=
  let d := d.modField fun f => { f with roastHold := hold, dnBadRun := 0, soCmd := 0 }
  let d := d.leads.foldl (fun d h => d.hsSettle h false) d
  (List.range 8).foldl (fun d k => d.soSettle k) d

/-- Entry to RUN: the lowest V24F starts again. -/
def Dev.fieldRunEntry (d : Dev) : Dev := d.modField fun f => { f with v24fLow := f.v24f }

end Sys2Proof.Machine
end

