-- ==== Sys2Proof/Machine/Placer.lean ====
section
/-! DEFINITION. Placement (R99–R109, R121): doors to sheaves, lanes, instance and task numbers, signals to tiers; and loading a
placement into the cores (R37, R58). -/

namespace Sys2Proof.Machine

/-! ### Door cost and needs (R102, R103) -/

/-- The cost of a door: its FRAME tasks' budgets, each plus 16. -/
def Image.doorCost (im : Image) (x : Nat) : Nat :=
  (((im.doorType x).tasks.filter fun t => t.kind == .frame).map fun t => t.budget + 16).sum

/-- Bytes of code and constants of a door type. -/
def Image.typeBytes (im : Image) (t : Nat) : Nat :=
  let y := im.doorTypes.getD t DoorType.none
  4 * (y.code.length + y.consts.length)

/-- Bytes of task-local memory of a door. -/
def Image.localBytes (im : Image) (x : Nat) : Nat := ((im.doorType x).tasks.map (·.localSize)).sum

/-- The number of a door's type. -/
def Image.typeOf (im : Image) (x : Nat) : Nat :=
  match im.door x with
  | some y => y.dtype
  | none => 0

/-- Each member of a list once, the first time it stands. -/
def once (l : List Nat) : List Nat := l.foldl (fun m x => if m.contains x then m else m ++ [x]) []

/-- A list in ascending order, each number once. -/
def ascending (l : List Nat) : List Nat := (l.foldl (fun (m : SMap Unit) n => smPut m n ()) []).map (·.1)

/-- The first `n` numbers below a limit that are not in use. -/
def lowestFree (used : List Nat) (limit n : Nat) : List Nat := ((List.range limit).filter fun k => !used.contains k).take n

/-- The doors of a placement on a sheaf, ascending. -/
def onSheaf (m : SMap DoorPl) (s : Nat) : List (Nat × DoorPl) := m.filter fun p => p.2.sheaf == s

/-- The costs on a sheaf. -/
def Image.sheafCost (im : Image) (m : SMap DoorPl) (s : Nat) : Nat := ((onSheaf m s).map fun p => im.doorCost p.1).sum

/-- The declared load of a sheaf (R43, R102): SF_DECL. -/
def Image.declaredLoad (im : Image) (m : SMap DoorPl) (s : Nat) : Nat := 64 + im.sheafCost m s

/-- The lanes in use on a sheaf. -/
def sheafLanes (m : SMap DoorPl) (s : Nat) : List Nat := (onSheaf m s).flatMap fun p => p.2.lanes

/-- The door types a sheaf holds. -/
def Image.sheafTypes (im : Image) (m : SMap DoorPl) (s : Nat) : List Nat := once ((onSheaf m s).map fun p => im.typeOf p.1)

/-- Sheaf SRAM in use for code, constants and task-local memory. -/
def Image.sheafBytes (im : Image) (m : SMap DoorPl) (s : Nat) : Nat :=
  ((im.sheafTypes m s).map im.typeBytes).sum + ((onSheaf m s).map fun p => im.localBytes p.1).sum

/-- Sheaf SRAM that the placer divides: 448 KiB. -/
def sheafSram : Nat := 458752

/-- Tier-0 user signals homed on a sheaf. -/
def tier0Count (homes : SMap TierHome) (s : Nat) : Nat := (homes.filter fun h => h.2.tier == 0 && h.2.sheaf == s).length

/-- What the sheaf SRAM still holds beside code, constants, task-local memory and tier-0 user signals, in bytes; 0 while nothing is
placed (R122). -/
def Dev.sheafFree (d : Dev) (s : Nat) : Nat :=
  match d.image with
  | some im =>
    if d.placer.placed then sheafSram - im.sheafBytes d.placer.doors s - 8 * tier0Count d.placer.homes s else 0
  | none => 0

/-- A sheaf's declared load is above the target of R103 (R122). -/
def Dev.overTarget (d : Dev) : Bool :=
  match d.image with
  | some im => d.placer.placed && (List.range 16).any fun s => 8750 < im.declaredLoad d.placer.doors s
  | none => false

/-- The conditions of fits(u, s, limit) that fail, by their codes: 0x9001 the limit, 0x9002 the lanes, 0x9003 the SRAM. -/
def Image.fitFails (im : Image) (m : SMap DoorPl) (u : List Nat) (s limit : Nat) : List Nat :=
  let axes := (u.map fun x => (im.doorAxes x).length).sum
  let fresh := (once (u.map im.typeOf)).filter fun t => !(im.sheafTypes m s).contains t
  let need := (fresh.map im.typeBytes).sum + (u.map im.localBytes).sum
  (if im.sheafCost m s + (u.map im.doorCost).sum ≤ limit then [] else [0x9001])
    ++ (if (sheafLanes m s).length + axes ≤ 32 then [] else [0x9002])
    ++ (if im.sheafBytes m s + need ≤ sheafSram then [] else [0x9003])

/-- Put one door on a sheaf: the lowest free instance index, task numbers and lanes (R104). -/
def Image.putDoor (im : Image) (m : SMap DoorPl) (x s : Nat) (pinned grouped : Bool) : SMap DoorPl :=
  let here := onSheaf m s
  let y : DoorPl := { sheaf := s, inst := (lowestFree (here.map fun p => p.2.inst) 32 1).getD 0 0,
                      lanes := lowestFree (sheafLanes m s) 32 (im.doorAxes x).length,
                      tasks := lowestFree (here.flatMap fun p => p.2.tasks) 256 (im.doorType x).tasks.length,
                      pinned := pinned, grouped := grouped }
  smPut m x y

/-- The limit 12,436 of R103. -/
def sheafLimit : Nat := 12436

/-! ### Hints (R107, R108) -/

/-- Join lists that share a door. -/
def joinGroups (gs : List (List Nat)) : List (List Nat) :=
  gs.foldl (fun m g =>
    let touching := m.filter fun h => h.any fun x => g.contains x
    let apart := m.filter fun h => !h.any fun x => g.contains x
    apart ++ [ascending (g ++ touching.flatten)]) []

/-- What a placement came to: the doors, the homes, the failure code with its subject (0 for success), the warnings with their
subjects. -/
structure Placed where
  doors : SMap DoorPl := []
  homes : SMap TierHome := []
  code : Nat := 0
  subj : Nat := 0xFFFF
  warns : List (Nat × Nat) := []
deriving DecidableEq, Repr

/-- The PIN doors, ascending, each on its sheaf where it fits there; of two pins of one door the first in the image counts.
DESIGN CHOICE: notes/assumptions/73.md. -/
def Image.placePins (im : Image) (r : Placed) : Placed :=
  (ascending (im.pins.map (·.1))).foldl (fun r x =>
    let s := match im.pins.find? fun p => p.1 == x with
      | some p => p.2
      | none => 0
    if (im.fitFails r.doors [x] s sheafLimit).isEmpty then { r with doors := im.putDoor r.doors x s true false }
    else { r with warns := r.warns ++ [(0x9010, x)] }) r

/-- The units of R103 after the pins: GROUP units that are honoured, with their mark, and single doors; and a
warning for every GROUP hint that stands in a unit that is not honoured. -/
def Image.units (im : Image) (doors : SMap DoorPl) : List (List Nat × Bool) × List (Nat × Nat) :=
  let left (g : List Nat) : List Nat := g.filter fun x => !smHas doors x
  let gs := ((joinGroups im.groups).map left).filter fun g => 2 ≤ g.length
  let ok (g : List Nat) : Bool := (im.fitFails [] g 0 sheafLimit).isEmpty
  let honoured := gs.filter ok
  let grouped := honoured.flatten
  let singles := (List.range im.doors.length).filter fun x => !smHas doors x && !grouped.contains x
  let byDoor := honoured.foldl (fun (m : SMap (List Nat × Bool)) g => smPut m (g.headD 0) (g, true)) []
  let byDoor := singles.foldl (fun m x => smPut m x ([x], false)) byDoor
  let lost := (gs.filter fun g => !ok g).flatten
  let overruled := (im.groups.map left).filter fun g => g.any fun x => lost.contains x
  (byDoor.map (·.2), overruled.map fun g => (0x9011, (ascending g).headD 0))

/-- The sheaf for a unit by the fallback of R103: the lowest declared load, then the lowest number. -/
def Image.fallback (im : Image) (doors : SMap DoorPl) (u : List Nat) : Option Nat :=
  ((List.range 16).filter fun s => (im.fitFails doors u s sheafLimit).isEmpty).foldl (fun best s =>
    match best with
    | none => some s
    | some b => if im.sheafCost doors s < im.sheafCost doors b then some s else some b) none

/-- The failure code of a unit that fits nowhere (R109). -/
def Image.unplaceable (im : Image) (doors : SMap DoorPl) (u : List Nat) : Nat :=
  let fails := (List.range 16).map fun s => im.fitFails doors u s sheafLimit
  let every := [0x9001, 0x9002, 0x9003].filter fun c => fails.all fun f => f.contains c
  let some' := [0x9001, 0x9002, 0x9003].filter fun c => fails.any fun f => f.contains c
  (every ++ some').headD 0

/-- The first sheaf from `s` on that takes a unit under a limit. -/
def Image.scanFit (im : Image) (doors : SMap DoorPl) (u : List Nat) (limit : Nat) : (fuel s : Nat) → Nat
  | 0, s => s
  | k + 1, s => if (im.fitFails doors u s limit).isEmpty then s else im.scanFit doors u limit k (s + 1)

/-- Place the units in fill order (R103). -/
def Image.placeUnits (im : Image) (t : Nat) : (s : Nat) → List (List Nat × Bool) → Placed → Placed
  | _, [], r => r
  | s, (u, grouped) :: rest, r =>
    let limit := Nat.min (Nat.max t (u.map im.doorCost).sum) sheafLimit
    let s' := im.scanFit r.doors u limit (16 - s) s
    let put (sh : Nat) : Placed := { r with doors := u.foldl (fun m x => im.putDoor m x sh false grouped) r.doors }
    if s' < 16 then im.placeUnits t s' rest (put s')
    else match im.fallback r.doors u with
      | some sh => im.placeUnits t 16 rest (put sh)
      | none => { r with code := im.unplaceable r.doors u, subj := u.headD 0 }

/-! ### Signals to tiers (R105, R106) -/

/-- The signals that a name stands for in a task of a door, or of the system. -/
def SigName.signals (base : Nat) (axes : List Nat) : SigName → List Nat
  | .abs n => [n]
  | .ib off => [base + off]
  | .ax slot => axes.map fun a => slotSig a slot

/-- Whether a task names a signal. -/
def TaskDecl.names (t : TaskDecl) (base : Nat) (axes : List Nat) (n : Nat) : Bool :=
  t.named.any fun x => (x.signals base axes).contains n

/-- Whether a task of a door, of a kind the test takes, names a signal. -/
def Image.doorNames (im : Image) (x n : Nat) (test : TaskKind → Bool) : Bool :=
  (im.doorType x).tasks.any fun t => test t.kind && t.names (im.blockBase x) (im.doorAxes x) n

/-- Whether a system task names a signal. -/
def Image.sysNames (im : Image) (n : Nat) : Bool := im.sysTasks.any fun t => t.names im.sysBase [0] n

/-- Whether some FRAME task names a signal. -/
def Image.frameNamed (im : Image) (n : Nat) : Bool := (List.range im.doors.length).any fun x => im.doorNames x n (· == .frame)

/-- Whether some task names a signal. -/
def Image.named (im : Image) (n : Nat) : Bool :=
  im.sysNames n || (List.range im.doors.length).any fun x => im.doorNames x n fun _ => true

/-- The one instance that names a signal that no system task names. -/
def Image.owner (im : Image) (n : Nat) : Option Nat :=
  if im.sysNames n then none
  else match (List.range im.doors.length).filter fun x => im.doorNames x n fun _ => true with
    | [x] => some x
    | _ => none

/-- The tier-1 area holds 458,752 user signals (R29). -/
def tier1Area : Nat := 458752

/-- Home a signal in tier 0 of its owner's sheaf where the SRAM lasts. -/
def Image.homeOwn (im : Image) (r : Placed) (n x : Nat) : Option Placed :=
  let s := (smGet { sheaf := 0, inst := 0, lanes := [], tasks := [] } r.doors x).sheaf
  if im.sheafBytes r.doors s + 8 * (tier0Count r.homes s + 1) ≤ sheafSram then
    some { r with homes := smPut r.homes n { tier := 0, sheaf := s } }
  else none

/-- Home a signal in tier 1 while the area lasts. -/
def Placed.homePool (r : Placed) (n : Nat) : Option Placed :=
  if (r.homes.filter fun h => h.2.tier == 1).length < tier1Area then some { r with homes := smPut r.homes n { tier := 1, sheaf := 0 } }
  else none

/-- The hinted home of a signal where the hint is honoured (R107). -/
def Image.hinted (im : Image) (r : Placed) (n tier : Nat) : Option Placed :=
  if tier = 0 then
    match im.owner n with
    | some x => if im.doorNames x n (· == .frame) then im.homeOwn r n x else none
    | none => none
  else if tier = 1 then r.homePool n
  else if im.frameNamed n then none
  else some { r with homes := smPut r.homes n { tier := 2, sheaf := 0 } }

/-- Step 3 for one signal: the last hint that names it, the earlier ones overruled; overruled hints are noted by their place in
the image. -/
def Image.homeHint (im : Image) (n : Nat) (s : Placed × List Nat) : Placed × List Nat :=
  let hits := im.tiers.zipIdx.filter fun h => h.1.lo ≤ n && n ≤ h.1.hi
  match hits.getLast? with
  | none => s
  | some h =>
    let earlier := s.2 ++ (hits.dropLast.map (·.2))
    match im.hinted s.1 n h.1.tier with
    | some r => (r, earlier)
    | none => (s.1, earlier ++ [h.2])

/-- One step of R105 for every signal not yet homed. -/
def homeStep (sigs : List Nat) (test : Nat → Bool) (home : Placed → Nat → Option Placed) (r : Placed) : Placed :=
  sigs.foldl (fun r n => if !smHas r.homes n && test n then (home r n).getD r else r) r

/-- A TIER hint names a signal of the global regions or a fixed slot of a configured axis, whose home is not the hint's to choose
(R26, R29, R107). -/
def TierHint.touchesFixed (h : TierHint) (configured : Nat → Bool) : Bool :=
  (h.lo ≤ 0x87FFF && 0x80000 ≤ h.hi)
    || (List.range 512).any fun a => configured a && decide (h.lo ≤ slotSig a 255) && decide (slotSig a 0 ≤ h.hi)

/-- Home every existing user signal, steps 3 to 8; 0x9004 where a signal named by a FRAME task reaches step 8. -/
def Image.homeSignals (im : Image) (configured : Nat → Bool) (r : Placed) : Placed :=
  let sigs := ascending (im.allSignals.map (·.1))
  let r3 := sigs.foldl (fun s n => im.homeHint n s) (r, [])
  let global := (im.tiers.zipIdx.filter fun h => h.1.touchesFixed configured).map (·.2)
  let r := { r3.1 with warns := r3.1.warns ++ (ascending (global ++ r3.2)).map fun _ => (0x9012, 0xFFFF) }
  let own (r : Placed) (n : Nat) : Option Placed := (im.owner n).bind fun x => im.homeOwn r n x
  let ownedBy (k : TaskKind) (n : Nat) : Bool := match im.owner n with
    | some x => im.doorNames x n (· == k)
    | none => false
  let r := homeStep sigs (ownedBy .frame) own r
  let r := homeStep sigs (ownedBy .coarse) own r
  let r := homeStep sigs im.frameNamed (fun r n => r.homePool n) r
  let r := homeStep sigs im.named (fun r n => r.homePool n) r
  let left := sigs.filter fun n => !smHas r.homes n
  let r := { r with homes := left.foldl (fun m n => smPut m n { tier := 2, sheaf := 0 }) r.homes }
  if left.any im.frameNamed then { r with code := 0x9004 } else r

/-! ### The whole placement (R99, R101, R109) -/

/-- The first door that names an axis twice or one that is not configured (0x9005). -/
def Image.badDoor (im : Image) (configured : Nat → Bool) : Option Nat :=
  (List.range im.doors.length).find? fun x =>
    let earlier := (List.range x).flatMap im.doorAxes
    (im.doorAxes x).any (fun a => !configured a || earlier.contains a) || repeated (im.doorAxes x)

/-- A system task of kind FRAME or COARSE, with which an image is not placed (R38). -/
def Image.badSystemTask (im : Image) : Bool := im.sysTasks.any fun t => t.kind == .frame || t.kind == .coarse

/-- The placement of an image. DEDUCED: notes/assumptions/40.md. DESIGN CHOICE: notes/assumptions/73.md. -/
def Image.place (im : Image) (configured : Nat → Bool) : Placed :=
  match im.badDoor configured with
  | some x => { code := 0x9005, subj := x }
  | none =>
    if im.badSystemTask then { code := 0x9001 + Config.systemTaskCode.val } else
    let all' := List.range im.doors.length
    let t := ((all'.map im.doorCost).sum + 15) / 16
    let r := im.placePins {}
    let us := im.units r.doors
    let r := im.placeUnits t 0 us.1 { r with warns := r.warns ++ us.2 }
    if r.code ≠ 0 then r
    else
      let r := im.homeSignals configured r
      if r.code = 0 && (List.range 16).any fun s => 8750 < im.declaredLoad r.doors s
      then { r with warns := r.warns ++ [(0x9013, 0xFFFF)] } else r

/-- Replace the placer's state. -/
def Dev.modPlacer (d : Dev) (f : Placer → Placer) : Dev := { d with placer := f d.placer }

/-- Slots 10, 11 and 192–194 of the axes of a door (R25, R121); a switch writes all five again. DESIGN CHOICE: notes/assumptions/73.md. -/
def Dev.showDoor (d : Dev) (im : Image) (x : Nat) (y : DoorPl) (migs : Nat) (frame : Word) : Dev :=
  let group := match im.door x with
    | some z => z.group
    | none => 0
  (im.doorAxes x).zipIdx.foldl (fun d a =>
    let d := d.devNat (slotSig a.1 10) (x % 512 + 65536 * a.2)
    let d := d.devNat (slotSig a.1 11) (group % 64)
    let d := d.devNat (slotSig a.1 192) (y.sheaf + 256 * y.lanes.getD a.2 0)
    (d.devNat (slotSig a.1 193) migs).devSig (slotSig a.1 194) frame) d

/-- Place the running image: the code, records and warnings; a placement that can be made stands (R99, R101, R107).
DEDUCED: notes/assumptions/40.md. -/
def Dev.placeImage (d : Dev) : Dev × Nat :=
  match d.image with
  | none => (d, 0)
  | some im =>
    let r := im.place d.axConfigured
    let d := d.setReg Adr.plcResult (wordOfNat r.code)
    let has (c : Nat) : Nat := b2n (r.warns.any fun w => w.1 == c)
    let bits := fields [(0, has 0x9010), (1, has 0x9011), (2, has 0x9012), (3, has 0x9013)]
    let d := d.setReg Adr.plcWarn ((d.reg Adr.plcWarn &&& 0x10) ||| bits)
    let d := if r.code = 0 then d else d.event r.code r.subj
    let d := r.warns.foldl (fun d w => d.event w.1 w.2) d
    if r.code ≠ 0 then (d.modPlacer fun p => { p with placed := false, doors := [], homes := [] }, r.code)
    else
      let d := d.modPlacer fun p => { p with placed := true, doors := r.doors, homes := r.homes }
      (r.doors.foldl (fun d p => d.showDoor im p.1 p.2 0 0) d, 0)

/-! ### Instances in the cores (R37, R38, R58, R59) -/

/-- A task as it stands before its first release: initial contents of its local memory, a BACKGROUND task ready. -/
def freshTask (y : TaskDecl) (k inst door : Nat) : Task :=
  let bg := y.kind == .background
  { used := true, kind := y.kind, prio := y.prio, budget := if bg then 0 else y.budget, inst := inst, door := door, decl := k,
    st := if bg then .ready else .idle, gate := bg, memSize := y.localSize,
    mem := y.localInit.foldl (fun m c => if c.1 < y.localSize then memWrite m c.1 c.2 else m) [],
    rels := if bg then 1 else 0 }

/-- Put the tasks of a door on its sheaf, as at an entry to RUN or a restart; SF_TASKMAX and SF_TASKREL start again only at an
entry to RUN, and restarted tasks are held until the next round (R58). -/
def Dev.loadDoor (d : Dev) (im : Image) (x : Nat) (y : DoorPl) (restart : Bool) : Dev :=
  let d := (im.doorType x).tasks.zipIdx.foldl (fun d q =>
    let t := y.tasks.getD q.2 0
    let old := d.task y.sheaf t
    let z := freshTask q.1 q.2 y.inst x
    let z : Task := if restart then { z with max := old.max, rels := old.rels, held := true } else z
    (d.setTask y.sheaf t z).primeTask y.sheaf t 0 0) d
  let bit' : Word := wordOfNat (2 ^ y.inst)
  { d with halted := smSet 0 d.halted y.sheaf (smGet 0 d.halted y.sheaf &&& ~~~ bit') }

/-- Load the system tasks on the supervisor core. -/
def Dev.loadSystem (d : Dev) (im : Image) : Dev :=
  im.sysTasks.zipIdx.foldl (fun d q => (d.setTask 16 q.2 (freshTask q.1 q.2 0 0)).primeTask 16 q.2 0 0) d

/-- Load every instance and every system task into empty cores, and give every declared signal its initial value: entry to
RUN (R37). -/
def Dev.loadImage (d : Dev) : Dev :=
  match d.image with
  | none => d
  | some im =>
    let d : Dev := { d with cores := (List.range 17).map (fun c => (c, ({ ordNext := (d.core c).ordNext } : Core))), halted := [] }
    let d := d.placer.doors.foldl (fun d p => d.loadDoor im p.1 p.2 false) d
    let d := d.loadSystem im
    im.allSignals.foldl (fun d p => d.sigInit p.1 p.2) d

/-- Restart one instance (R37, R58): its tasks, its task-local memory, its block and the user slots of its axes.  Writes it posted
before go on to their homes (R51). -/
def Dev.restartDoor (d : Dev) (x : Nat) : Dev :=
  match d.image, d.doorPl x with
  | some im, some y =>
    let k := d.core y.sheaf
    let cur := match k.cur with
      | some t => if y.tasks.contains t then none else some t
      | none => none
    let d := d.setCore y.sheaf { k with cur := cur }
    let d := d.loadDoor im x y true
    (im.doorSignals x).foldl (fun d p => d.sigInit p.1 p.2) d
  | _, _ => d

/-- The door of an instance index on a sheaf. -/
def Dev.instanceDoor (d : Dev) (s inst : Nat) : Option Nat :=
  ((onSheaf d.placer.doors s).find? fun p => p.2.inst == inst).map (·.1)

/-- SF_INSTRST is checked: the key, the instance, that it is halted, that every axis of the door is at standstill (R58).
DESIGN CHOICE: notes/assumptions/67.md. -/
def Dev.restartCheck (d : Dev) (s : Nat) (v : Word) : Dev :=
  let stat (d : Dev) (code : Nat) : Dev := d.setReg (Adr.sfRststat s) (wordOfNat code)
  if fld v 24 8 ≠ 0xA5 then stat d 0xA032
  else match d.instanceDoor s (fld v 0 5) with
    | none => stat d 0xA033
    | some x =>
      let axes := match d.image with
        | some im => im.doorAxes x
        | none => []
      if !(smGet 0 d.halted s).getLsbD (fld v 0 5) then stat d 0xA030
      else if !axes.all fun a => (d.axis a).motion.st == .stand || (d.axis a).motion.st == .off then stat d 0xA031
      else stat (d.restartDoor x) 0

/-- A restart request waits for its check in the next frame (R58). -/
def Dev.requestRestart (d : Dev) (sheaf : Nat) (value : Word) : Dev :=
  { d with rstReq := smPut d.rstReq sheaf (value, d.sys.frame) }

/-- SF_INSTRST. -/
def execSfInstrst (sheaf : SheafId) (value : Word) (s : State) : Host.Outcome State Fault Refusal :=
  .next { s with dev := s.dev.requestRestart sheaf.val value }

/-- RESTART_CHECK: a restart request of an earlier frame is checked and its result written to SF_RSTSTAT.
DESIGN CHOICE: notes/assumptions/67.md. -/
def execRestartCheck (sheaf : SheafId) (s : State) : Host.Outcome State Fault Refusal :=
  let n := sheaf.val
  let v := smGet (0, s.dev.sys.frame) s.dev.rstReq n
  if smHas s.dev.rstReq n && v.2 != s.dev.sys.frame then
    let d : Dev := { s.dev with rstReq := smDel s.dev.rstReq n }
    .next { s with dev := d.restartCheck n v.1 }
  else .next s

/-- SF_PEAKCLR: any write clears SF_LOAD.PEAK (R60). -/
def execSfPeakclr (sheaf : SheafId) (value : Word) (s : State) : Host.Outcome State Fault Refusal :=
  let _ := value
  .next { s with dev := s.dev.setRegFld (Adr.sfLoad sheaf.val) 16 10 0 }

end Sys2Proof.Machine
end

