-- ==== Sys2Proof/Machine/Ed25519.lean ====
section
/-! DEFINITION. The Ed25519 signature check (R373, R378).  The spec names Ed25519 and gives no arithmetic; this is the
public algorithm of that name (RFC 8032), PRESUMED. -/

namespace Sys2Proof.Machine

/-- The prime of the field. -/
def Ed.p : Nat := 2 ^ 255 - 19

/-- The order of the base point. -/
def Ed.l : Nat := 2 ^ 252 + 27742317777372353535851937790883648493

/-- The curve constant d. -/
def Ed.d : Nat := 0x52036cee2b6ffe738cc740797779e89800700a4d4141d8ab75eb4dca135978a3

/-- Powers by squaring, over the exponent's bits. -/
def Ed.pow (b e : Nat) : Nat :=
  ((List.range 256).foldl (fun (s : Nat × Nat) i =>
    (if e.testBit i then s.1 * s.2 % Ed.p else s.1, s.2 * s.2 % Ed.p)) (1, b % Ed.p)).1

/-- A point in extended coordinates. -/
structure Ed.Pt where
  x : Nat
  y : Nat
  z : Nat
  t : Nat
deriving DecidableEq, Repr

/-- The neutral point. -/
def Ed.zero : Ed.Pt := { x := 0, y := 1, z := 1, t := 0 }

/-- Subtraction in the field. -/
def Ed.sub (a b : Nat) : Nat := (a + Ed.p - b % Ed.p) % Ed.p

/-- The sum of two points. -/
def Ed.add (q r : Ed.Pt) : Ed.Pt :=
  let a := Ed.sub q.y q.x * Ed.sub r.y r.x % Ed.p
  let b := (q.y + q.x) * (r.y + r.x) % Ed.p
  let c := 2 * q.t * r.t * Ed.d % Ed.p
  let d := 2 * q.z * r.z % Ed.p
  let e := Ed.sub b a
  let f := Ed.sub d c
  let g := (d + c) % Ed.p
  let h := (b + a) % Ed.p
  { x := e * f % Ed.p, y := g * h % Ed.p, z := f * g % Ed.p, t := e * h % Ed.p }

/-- A multiple of a point, over 256 bits. -/
def Ed.mul (n : Nat) (q : Ed.Pt) : Ed.Pt :=
  ((List.range 256).foldl (fun (s : Ed.Pt × Ed.Pt) i =>
    (if n.testBit i then Ed.add s.1 s.2 else s.1, Ed.add s.2 s.2)) (Ed.zero, q)).1

/-- The base point. -/
def Ed.base : Ed.Pt :=
  let x := 0x216936d3cd6e53fec0a4e231fdd6dc5c692cc7609525a7b2c9562d608f25d51a
  let y := 0x6666666666666666666666666666666666666666666666666666666666666658
  { x := x, y := y, z := 1, t := x * y % Ed.p }

/-- The same point. -/
def Ed.same (q r : Ed.Pt) : Bool := q.x * r.z % Ed.p = r.x * q.z % Ed.p && q.y * r.z % Ed.p = r.y * q.z % Ed.p

/-- The point of 32 encoded bytes, if there is one. -/
def Ed.decode (b : List Byte) : Option Ed.Pt :=
  let v := leAt b 0 32
  let sign := v / 2 ^ 255
  let y := v % 2 ^ 255
  let yy := y * y % Ed.p
  let u := Ed.sub yy 1
  let w := (Ed.d * yy + 1) % Ed.p
  let xx := u * Ed.pow w (Ed.p - 2) % Ed.p
  let r := Ed.pow xx ((Ed.p + 3) / 8)
  let x := if r * r % Ed.p = xx then r else r * Ed.pow 2 ((Ed.p - 1) / 4) % Ed.p
  if y ≥ Ed.p || x * x % Ed.p ≠ xx || (x = 0 && sign = 1) then none
  else
    let x := if x % 2 = sign then x else Ed.p - x
    some { x := x, y := y, z := 1, t := x * y % Ed.p }

/-- Whether a 64-byte signature verifies over a message under a public key.  The algorithm allows the equation with or without
the cofactor 8; which one the module uses is free. -/
def edVerify (key msg sig : List Byte) : Bool :=
  match Ed.decode key, Ed.decode (sig.take 32) with
  | some a, some r =>
    let s := leAt sig 32 32
    let k := leNat (sha512 (sig.take 32 ++ key ++ msg)) % Ed.l
    let c := if Config.cofactored then 8 else 1
    s < Ed.l && key.length = 32 && sig.length = 64 && Ed.same (Ed.mul c (Ed.mul s Ed.base)) (Ed.mul c (Ed.add r (Ed.mul k a)))
  | _, _ => false

end Sys2Proof.Machine
end

