-- ==== Sys2Proof/Machine/Migration.lean ====
section
/-! DEFINITION. Migration of doors between sheaves (R110–R119). -/

namespace Sys2Proof.Machine

/-- SF_LOAD.LAST of a sheaf. -/
def Dev.loadLast (d : Dev) (s : Nat) : Nat := fld (d.reg (Adr.sfLoad s)) 0 10

/-- The tier-0 user signals of a door. -/
def Dev.doorTier0 (d : Dev) (im : Image) (x : Nat) : List Nat :=
  (d.placer.homes.filter fun h => h.2.tier == 0 && im.owner h.1 == some x).map (·.1)

/-- The bytes of a door's migrating state as R117 counts them. -/
def Dev.stateBytes (d : Dev) (im : Image) (x : Nat) : Nat :=
  3072 * (im.doorAxes x).length + ((im.doorType x).tasks.map fun t => 160 + 16 * t.depth + t.localSize).sum
    + 8 * (d.doorTier0 im x).length

/-- The door's migrating state exceeds 256 KiB: immovable (R111). -/
def Dev.immovable (d : Dev) (im : Image) (x : Nat) : Bool := 262144 < d.stateBytes im x

/-- The instance of a door is halted. -/
def Dev.doorHalted (d : Dev) (y : DoorPl) : Bool := (smGet 0 d.halted y.sheaf).getLsbD y.inst

/-- A door that may be moved (R111). -/
def Dev.candidate (d : Dev) (im : Image) (x : Nat) (y : DoorPl) : Bool :=
  !y.pinned && !y.grouped && !d.doorHalted y && !d.immovable im x

/-- A sheaf takes the door, apart from the condition on LAST (R112). -/
def Dev.takesDoor (d : Dev) (im : Image) (x tgt : Nat) : Bool :=
  let m := d.placer.doors
  let fresh := if (im.sheafTypes m tgt).contains (im.typeOf x) then 0 else im.typeBytes (im.typeOf x)
  let need := fresh + im.localBytes x + 8 * (d.doorTier0 im x).length
  (sheafLanes m tgt).length + (im.doorAxes x).length ≤ 32
    && im.sheafBytes m tgt + 8 * tier0Count d.placer.homes tgt + need ≤ sheafSram
    && im.sheafCost m tgt + im.doorCost x ≤ sheafLimit

/-- No axis of the door has its port lost, and no role change of the pair is under way (R113). -/
def Dev.mayMove (d : Dev) (im : Image) (x : Nat) : Bool :=
  (im.doorAxes x).all (fun a => !d.portLost a) && !d.pair.handover && !d.pair.releasing && !d.pair.releaseDue && !d.pair.yielding

/-- Take up a migration: the target's lanes, instance index and task numbers are reserved (R115). -/
def Dev.beginMigration (d : Dev) (im : Image) (x tgt : Nat) (cmd : Bool) : Dev :=
  match d.doorPl x with
  | none => d
  | some y =>
    let z := smGet { sheaf := 0, inst := 0, lanes := [], tasks := [] } (im.putDoor d.placer.doors x tgt false false) x
    let m : Mig := { door := x, target := tgt, cmd := cmd, phase := .preparing, lanes := z.lanes, inst := z.inst, tasks := z.tasks,
                     srcLast := d.loadLast y.sheaf, dstLast := d.loadLast tgt }
    d.modPlacer fun p => { p with mig := some m }

/-! ### The decision at the end of a coarse tick (R110–R113) -/

/-- The door to move from a hot sheaf: the smallest share that brings LAST to 700 or below, else the largest share; the lowest
index on a tie.  A door that R113 bars is passed over as one that is no candidate. DESIGN CHOICE: notes/assumptions/73.md. -/
def Dev.doorToMove (d : Dev) (im : Image) (s : Nat) : Option Nat :=
  let cands := (onSheaf d.placer.doors s).filter fun p => d.candidate im p.1 p.2 && d.mayMove im p.1
  let enough := cands.filter fun p => d.loadLast s ≤ 700 + p.2.share
  let better (a b : Nat × DoorPl) : Bool := if enough.isEmpty then a.2.share < b.2.share else b.2.share < a.2.share
  ((if enough.isEmpty then cands else enough).foldl (fun best p => match best with
    | none => some p
    | some b => if better b p then some p else some b) none).map (·.1)

/-- The target for a door: one that holds the door type already, then the lowest LAST, then the lowest number (R112). -/
def Dev.targetFor (d : Dev) (im : Image) (x : Nat) (y : DoorPl) : Option Nat :=
  let m := d.placer.doors
  let ok := (List.range 16).filter fun t => t ≠ y.sheaf ∧ d.takesDoor im x t ∧ d.loadLast t + y.share ≤ 700
  let key (t : Nat) : Nat := (if (im.sheafTypes m t).contains (im.typeOf x) then 0 else 1024) + d.loadLast t
  ok.foldl (fun best t => match best with
    | none => some t
    | some b => if key t < key b then some t else some b) none

/-- The decision for one hot sheaf; without a target the record names the door chosen, without a door none (R112, R355).
DESIGN CHOICE: notes/assumptions/73.md. -/
def Dev.decideMigration (d : Dev) (s : Nat) : Dev :=
  match d.image with
  | none => d
  | some im =>
    let door := d.doorToMove im s
    let pick := door.bind fun x => (d.doorPl x).bind fun y => (d.targetFor im x y).map fun t => (x, t)
    match pick with
    | some (x, t) => d.beginMigration im x t false
    | none =>
      if smGet false d.placer.noted s then d
      else
        let d := d.modPlacer fun p => { p with noted := smPut p.noted s true, migCode := 0x9023, migCmd := false }
        (d.event 0x9023 (door.getD 0xFFFF)).orReg Adr.plcWarn 0x10

/-- HOT of every sheaf at the end of a tick, and the placer's decision; of several hot sheaves the lowest is served first.
DESIGN CHOICE: notes/assumptions/73.md. -/
def Dev.migrationDecision (d : Dev) : Dev :=
  let d := (List.range 16).foldl (fun d s =>
    let n := if 850 < d.loadLast s then satNat 32 (smGet 0 d.placer.hot s + 1) else 0
    d.modPlacer fun p => { p with hot := smSet 0 p.hot s n, noted := if n < 32 then smDel p.noted s else p.noted }) d
  (List.range 16).foldl (fun d s =>
    if smGet 0 d.placer.hot s = 32 && d.placer.mig.isNone && d.sys.power == .run && !d.sys.leaving
      && bit (d.reg Adr.plcCtrl) 0 then d.decideMigration s else d) d

/-! ### Commanded migration (R114) -/

/-- PLC_MIGREQ: the request waits for the start of the next coarse tick; a newer one replaces one that waits.
DESIGN CHOICE: notes/assumptions/73.md. -/
def execPlcMigreq (value : Word) (s : State) : Host.Outcome State Fault Refusal :=
  .next { s with dev := s.dev.modPlacer fun p => { p with req := some value } }

/-- The refusal of a commanded migration; 0 where it is taken up.  A door of the image that no placement holds is refused as outside
RUN. DEDUCED: notes/assumptions/41.md. -/
def Dev.migrationCode (d : Dev) (v : Word) : Nat :=
  let x := fld v 0 9
  let t := fld v 16 4
  let inImage := match d.image with
    | some im => decide (x < im.doors.length)
    | none => false
  match d.image, d.doorPl x with
  | some im, some y =>
    if fld v 24 8 ≠ 0x5A ∨ !inImage ∨ y.sheaf = t then 0x9034
    else if !d.candidate im x y then 0x9031
    else if !d.takesDoor im x t then 0x9032
    else if d.sys.power != .run || d.sys.leaving || !bit (d.reg Adr.plcCtrl) 0 || !d.mayMove im x then 0x9030
    else if d.placer.mig.isSome then 0x9033
    else 0
  | _, _ => if fld v 24 8 ≠ 0x5A ∨ !inImage then 0x9034 else 0x9030

/-- A waiting request is taken up or refused. -/
def Dev.migrationTakeup (d : Dev) : Dev :=
  match d.placer.req, d.image with
  | some v, im =>
    let d := d.modPlacer fun p => { p with req := none }
    let code := d.migrationCode v
    if code ≠ 0 then d.modPlacer fun p => { p with migCode := code, migCmd := true }
    else match im with
      | some im => d.beginMigration im (fld v 0 9) (fld v 16 4) true
      | none => d
  | none, _ => d

/-! ### Preparation, copy frame and switch (R115–R119) -/

/-- MIGRATION_PREPARATION_END. -/
def execMigrationPreparationEnd (s : State) : Host.Outcome State Fault Refusal :=
  match s.dev.placer.mig with
  | some m =>
    if m.phase == .preparing then
      .next { s with dev := s.dev.modPlacer fun p => { p with mig := some { m with phase := .ready, readyFrame := s.dev.sys.frame } } }
    else .next s
  | none => .next s

/-- MIGRATION_COPY_FRAME: the first frame after preparation whose boundary had d = 1, no earlier than 64 frames after the
previous switch or abort (R113, R116). -/
def execMigrationCopyFrame (s : State) : Host.Outcome State Fault Refusal :=
  let d := s.dev
  match d.placer.mig, d.image with
  | some m, some im =>
    let spaced := match d.placer.lastSwitch with
      | some f => 64 ≤ (d.sys.frame - f).toNat
      | none => true
    let div := match d.doorPl m.door with
      | some y => (d.core y.sheaf).div
      | none => d.sys.div
    if m.phase == .ready && d.sys.frame != m.readyFrame && div = 1 && spaced && d.sys.power == .run && !d.sys.leaving && d.mayMove im m.door then
      .next { s with dev := d.modPlacer fun p => { p with mig := some { m with phase := .copying, copyFrame := d.sys.frame,
                                                                                 dRose := decide (d.sys.div ≠ 1) } } }
    else .next s
  | _, _ => .next s

/-- The record of R119. DESIGN CHOICE: notes/assumptions/42.md. -/
def Dev.migrationRecord (d : Dev) (im : Image) (m : Mig) (y : DoorPl) (code : Nat) (crc : Word) : Dev :=
  let axes := im.doorAxes m.door
  let lane (l : List Nat) : List Byte := (List.range 8).map fun i => BitVec.ofNat 8 (if i < axes.length then l.getD i 0 else 0xFF)
  let slots := (List.range 8).flatMap fun i => leBytes 4 (match axes[i]? with
    | some a => (d.sigVal (slotSig a 4)).toNat
    | none => 0)
  d.event code m.door (leBytes 2 m.door ++ leBytes 1 y.sheaf ++ leBytes 1 m.target ++ lane y.lanes ++ lane m.lanes
    ++ leBytes 4 d.sys.frame.toNat ++ leBytes 4 (d.stateBytes im m.door) ++ leBytes 4 crc.toNat ++ leBytes 2 m.srcLast
    ++ leBytes 2 m.dstLast ++ slots)

/-- A migration ends, completed or aborted: its code, HOT of the source, the spacing of R113. -/
def Dev.closeMigration (d : Dev) (m : Mig) (src code : Nat) : Dev :=
  let d := d.modPlacer fun p => { p with mig := none, lastSwitch := some d.sys.frame, hot := smDel p.hot src,
                                         migCode := code, migCmd := m.cmd }
  d.incReg (if code = 0x9020 then Adr.plcMigcnt else Adr.plcMigfail)

/-- An abort: the source keeps the door. -/
def Dev.abortMigration (d : Dev) (im : Image) (m : Mig) (y : DoorPl) (code : Nat) (crc : Word) : Dev :=
  (d.migrationRecord im m y code crc).closeMigration m y.sheaf code

/-- Move one task of the instance with its context, queue, memory and counts; it goes on at the target once its writes are home, a
FRAME task at once (R116).  Its posted writes go into the target's buffer and arrive with the target's tag.
DESIGN CHOICE: notes/assumptions/12.md. -/
def Dev.moveTask (d : Dev) (src t dst t' inst : Nat) : Dev :=
  let k := d.core src
  let x := smGet {} k.tasks t
  let running := k.cur == some t
  let x : Task := { x with inst := inst, st := if running then .ready else x.st, gate := x.gate || x.kind != .frame }
  let inRound := match k.round with
    | some l => running || l.contains t
    | none => false
  let posts := (k.wbuf.filter fun p => p.task == t).map fun p =>
    ({ p with task := t', home := if p.home = 16 + src then 16 + dst else p.home } : Post)
  let d := d.setCore src { k with tasks := smDel k.tasks t, cur := if running then none else k.cur,
                                  round := k.round.map fun l => l.filter (· != t), wbuf := k.wbuf.filter fun p => p.task != t }
  let q := d.core dst
  let tasks := smPut q.tasks t' x
  let key (n : Nat) : Nat × Task := (n, smGet {} tasks n)
  let sorted (l : List Nat) : List Nat := (l.filter fun n => before (key n) (key t')) ++ [t'] ++ l.filter fun n => !before (key n) (key t')
  d.setCore dst { q with tasks := tasks, wbuf := q.wbuf ++ posts,
                         round := if inRound && x.kind == .frame then some (sorted (q.round.getD [])) else q.round }

/-- The switch: the target's lanes hold the door's axes from here on (R116). -/
def Dev.switchDoor (d : Dev) (im : Image) (m : Mig) (y : DoorPl) : Dev :=
  let x := m.door
  let own := d.doorTier0 im x
  let z : DoorPl := { y with sheaf := m.target, inst := m.inst, lanes := m.lanes, tasks := m.tasks, migs := satNat 0xFFFFFFFF (y.migs + 1) }
  let d := y.tasks.zip m.tasks |>.foldl (fun d p => d.moveTask y.sheaf p.1 m.target p.2 m.inst) d
  let d := d.modPlacer fun p =>
    { p with doors := smPut p.doors x z, homes := p.homes.map fun h => if own.contains h.1 then (h.1, { h.2 with sheaf := m.target }) else h }
  let d := d.showDoor im x z z.migs d.sys.frame
  let d := d.setReg Adr.plcLastmig (fields [(0, x), (16, y.sheaf), (20, m.target)])
  d.setReg Adr.plcLastfrm d.sys.frame

/-- MIGRATION_SWITCH: at the start of the frame after the copy frame the CRCs are compared and the door switches, or the
migration aborts; of several causes the first in the order of R118 gives the code.  Then the two cores go on (R116, R118).
DEDUCED: notes/assumptions/41.md. -/
def execMigrationSwitch (copiesAgree : Bool) (s : State) : Host.Outcome State Fault Refusal :=
  let d := s.dev
  match d.placer.mig, d.image with
  | some m, some im =>
    match d.doorPl m.door with
    | some y =>
      if m.phase == .copying && d.sys.frame == m.copyFrame + 1 then
        let n := d.sys.free
        let crc := Config.migrationCrc n
        let d : Dev := { d with sys := { d.sys with free := n + 1 } }
        let lost := (im.doorAxes m.door).any d.portLost
        let code := if !copiesAgree then 0x9021 else if m.dRose then 0x9022
          else if m.broken || d.doorHalted y || lost || d.sys.power != .run || d.sys.leaving then 0x9024 else 0x9020
        let d := if code = 0x9020 then ((d.switchDoor im m y).migrationRecord im m y code crc).closeMigration m y.sheaf code
          else d.abortMigration im m y code crc
        .next { s with dev := (d.choose y.sheaf).choose m.target }
      else .next s
    | none => .next s
  | _, _ => .next s

/-- Leaving RUN aborts a migration in progress with 0x9024 (R118, R406): one that is being prepared at once, with no CRC computed, and one
being copied at the start of the next frame, by MIGRATION_SWITCH. DEDUCED: notes/assumptions/41.md. -/
def Dev.dropMigration (d : Dev) : Dev :=
  match d.placer.mig, d.image with
  | some m, some im =>
    if m.phase == .copying then d
    else match d.doorPl m.door with
      | some y => d.abortMigration im m y 0x9024 0
      | none => d.modPlacer fun p => { p with mig := none }
  | some m, none => if m.phase == .copying then d else d.modPlacer fun p => { p with mig := none }
  | none, _ => d

/-- Entry to RUN: the counts of the placer start again (R99, R110, R122), that of the hot ticks with them; a request that waits is judged
in the tick that begins. DESIGN CHOICE: notes/assumptions/73.md. -/
def Dev.placerRunEntry (d : Dev) : Dev :=
  let d := d.modPlacer fun p => { p with hot := [], noted := [], mig := none, lastSwitch := none }
  let d := ((d.setReg Adr.plcMigcnt 0).setReg Adr.plcMigfail 0)
  (List.range 16).foldl (fun d s => d.setRegFld (Adr.sfLoad s) 16 10 0) d

end Sys2Proof.Machine
end

