-- ==== Sys2Proof/Machine/Pair.lean ====
section
/-! DEFINITION. The redundant pair (chapter 10): roles, the mirror and status frames, take-over and commanded swap. -/

namespace Sys2Proof.Machine

/-- Change the pair unit. -/
def Dev.modPair (d : Dev) (f : PairUnit → PairUnit) : Dev := { d with pair := f d.pair }

/-- A pair code: recorded, shown in PAIR_STATUS.CODE, flagged (R311, R312). -/
def Dev.pairEvent (d : Dev) (code : Nat) (flag : Word) : Dev :=
  ((d.event code 0xFFFF).setRegFld Adr.pairStatus 16 16 code).orReg Adr.pairFlags flag

/-- The enabled ports. -/
def Dev.enabledPorts (d : Dev) : List Nat := (List.range 4).filter fun p => bit (d.reg (Adr.strCtrl p)) 0

/-- Some loop has its read-back fault latched. -/
def Dev.anyRbFault (d : Dev) : Bool := (List.range 4).any fun l => (d.island.loop l).rbFault

/-- An SO output reads on under an off command, as the last upstream frame showed it. -/
def Dev.soStuck (d : Dev) : Bool := d.island.diOk && (d.island.soOn &&& ~~~ d.island.soSent) != 0

/-- The standby is eligible (R305). -/
def Dev.eligible (d : Dev) : Bool :=
  let p := d.pair
  p.role == .standby && d.operating && p.partnerPairId == d.upd.runPairId && p.partnerCheck == d.island.check && d.island.comm
    && d.island.fault == 0 && !d.anyRbFault && p.complete

/-! ### Frames (R301, R304) -/

/-- The codes of the safety states. -/
def SafeState.code : SafeState → Nat
  | .none => 0
  | .clear => 1
  | .stopping => 2
  | .held => 3
  | .torqueOff => 4
  | .fault => 5

/-- The safety state of a code. -/
def SafeState.ofCode : Nat → SafeState
  | 1 => .clear
  | 2 => .stopping
  | 3 => .held
  | 4 => .torqueOff
  | 5 => .fault
  | _ => .none

/-- The MIRROR signals of the image, ascending. -/
def Dev.mirrorSignals (d : Dev) : List Nat :=
  match d.image with
  | some im => ascending im.mirror
  | none => []

/-- The MIRROR entries of this frame: up to 256, cyclically (R302). -/
def Dev.mirrorEntries (d : Dev) : List Nat :=
  let l := d.mirrorSignals
  let k := Nat.min 256 l.length
  (List.range k).map fun i => l.getD ((d.pair.mirrorNext + i) % l.length) 0

/-- The axis block, the slow block and the safety block of the mirror frame. -/
def Dev.mirrorAxisBlock (d : Dev) : List Byte :=
  (List.range 512).flatMap fun n =>
    let m := (d.axis n).motion
    leBytes 4 (m.raw.toNat / 65536) ++ leBytes 2 (m.raw.toNat % 65536) ++ leBytes 2 (d.sigVal (slotSig n 4)).toNat

/-- Slots 41 and 12 of the axes whose turn it is. -/
def Dev.mirrorSlowBlock (d : Dev) (k : Nat) : List Byte :=
  (List.range 32).flatMap fun i => leBytes 4 (d.sigVal (slotSig (32 * k + i) 41)).toNat ++ leBytes 4 (d.sigVal (slotSig (32 * k + i) 12)).toNat

/-- Safety states, pair faults and counts, loop faults, SAF_CHECK. -/
def Dev.mirrorSafetyBlock (d : Dev) : List Byte :=
  let st (n : Nat) : Nat := (d.safe n).st.code
  let x := d.island
  let faults := (List.range 32).foldl (fun s i => s + b2n (x.pair i).fault * 2 ^ i) 0
  let loops := (List.range 4).foldl (fun s l => s + b2n (x.loop l).rbFault * 2 ^ l) 0
  ((List.range 256).map fun k => BitVec.ofNat 8 (st (2 * k) + 16 * st (2 * k + 1))) ++ leBytes 4 faults
    ++ ((List.range 32).flatMap fun i => leBytes 2 (x.pair i).count) ++ leBytes 4 loops ++ leBytes 4 x.check.toNat
    ++ List.replicate 180 0

/-- The mirror frame of the active module. -/
def Dev.mirrorFrame (d : Dev) : List Byte :=
  let k := d.sys.frame.toNat % 16
  let es := d.mirrorEntries
  let entry (n : Nat) : List Byte :=
    let s := d.sig n
    leBytes 4 s.value.toNat ++ leBytes 3 n ++ [s.q]
  let head := [0xA7, BitVec.ofNat 8 (b2n d.pair.releasing + 2 * b2n (d.sys.power == .run))] ++ leBytes 4 d.sys.frame.toNat
    ++ leBytes 2 k ++ leBytes 2 es.length ++ [0, 0] ++ leBytes 4 d.upd.runPairId.toNat
  let body := head ++ d.mirrorAxisBlock ++ d.mirrorSlowBlock k ++ d.mirrorSafetyBlock
    ++ es.flatMap entry ++ List.replicate (8 * (256 - es.length)) 0
    ++ leBytes 4 d.recorder.nextSeq.toNat ++ leBytes 4 d.recorder.lost.toNat ++ List.replicate 24 0
  body ++ leBytes 4 (crc32c body).toNat

/-- The status frame of a module that is not ACTIVE. -/
def Dev.statusFrame (d : Dev) : List Byte :=
  let p := d.pair
  let flags := p.role.code + 8 * b2n d.eligible + 16 * b2n (d.island.fault != 0) + 32 * b2n d.anyRbFault + 64 * b2n d.soStuck
    + 128 * b2n d.island.testDue
  let body := [0xA8] ++ leBytes 1 flags ++ leBytes 4 p.mirrorFrame.toNat ++ leBytes 2 (satNat 0xFFFF p.age)
    ++ leBytes 4 p.actAge.toNat ++ leBytes 4 d.upd.runPairId.toNat ++ leBytes 4 d.island.check.toNat
    ++ leBytes 1 (b2n d.sys.noRoast) ++ List.replicate 39 0
  body ++ leBytes 4 (crc32c body).toNat

/-- The frame a paired module sends at a boundary; each tier-2 entry of a mirror frame is read from DRAM (R420).
DESIGN CHOICE: notes/assumptions/79.md. -/
def Dev.sendPair (d : Dev) : Dev :=
  if d.pair.role == .unpaired || !d.operating then d
  else if d.pair.role == .active then
    let n := d.mirrorSignals.length
    let bytes := d.mirrorFrame
    let d := d.mirrorEntries.foldl (fun d n => d.countStore n) d
    d.modPair fun p => { p with tx := bytes, mirrorNext := if n = 0 then 0 else (p.mirrorNext + Nat.min 256 n) % n }
  else let bytes := d.statusFrame; d.modPair fun p => { p with tx := bytes }

/-- A received pair frame is good: a valid TYPE, its length and its CRC (R294). -/
def pairGood (bytes : List Byte) : Option PairRx :=
  let mirror := leAt bytes 0 1 = 0xA7
  let n := if mirror then 6964 else 64
  if (mirror || leAt bytes 0 1 = 0xA8) && bytes.length = n && wordOfNat (leAt bytes (n - 4) 4) == crc32c (bytes.take (n - 4))
  then some { mirror := mirror, bytes := bytes } else none

/-- PAIR_FRAME_RECEIVED: the last complete, good frame waits for the next boundary. -/
def execPairFrameReceived (bytes : List Byte) (s : State) : Host.Outcome State Fault Refusal :=
  match pairGood bytes with
  | some x => if s.dev.pair.role == .unpaired || !s.dev.operating then .next s
      else .next { s with dev := s.dev.modPair fun p => { p with rx := some x } }
  | none => .next s

/-! ### Latching (R294, R301, R304, R305) -/

/-- One axis of the pair copy from a mirror frame. -/
def mirrorAxis (old : MirrorAxis) (b : List Byte) (k n : Nat) : MirrorAxis :=
  let a := 16 + 8 * n
  let slow := n / 32 = k
  let s := 4112 + 8 * (n % 32)
  { raw := BitVec.ofNat 48 (leAt b a 4 * 65536 + leAt b (a + 4) 2), slot4 := BitVec.ofNat 16 (leAt b (a + 6) 2),
    homeOff := if slow then wordOfNat (leAt b s 4) else old.homeOff,
    cycles := if slow then wordOfNat (leAt b (s + 4) 4) else old.cycles,
    safe := leAt b (4368 + n / 2) 1 / (if n % 2 = 0 then 1 else 16) % 16 }

/-- A mismatch of PAIRID or SAF_CHECK writes 0x8005 once per episode (R305). -/
def Dev.pairMismatch (d : Dev) : Dev :=
  let bad := d.pair.partnerPairId != d.upd.runPairId || d.pair.partnerCheck != d.island.check
  let d' := if bad && !d.pair.mismatched then d.pairEvent 0x8005 0x10 else d
  d'.modPair fun p => { p with mismatched := bad }

/-- A mirror frame says that its sender is ACTIVE: it reports no eligibility, and its PAIR_ACTAGE is 0 (R304, R310, R311). -/
def PairUnit.partnerActive (p : PairUnit) : PairUnit :=
  { p with partnerRole := 2, partnerElig := false, partnerActAge := 0, partnerSeen := true }

/-- A mirror frame updates the pair copy, and each entry the standby's own signal (R302). DEDUCED: notes/assumptions/44.md.
DEDUCED: notes/assumptions/76.md. -/
def Dev.latchMirror (d : Dev) (b : List Byte) : Dev :=
  let p := d.pair
  let k := leAt b 6 1 % 16
  let axes := (List.range 512).foldl (fun m n => smSet {} m n (mirrorAxis (smGet {} m n) b k n)) p.axes
  let used := Nat.min 256 (leAt b 8 2)
  let sigs := (List.range used).foldl (fun m i =>
    let e := 4880 + 8 * i
    let q := BitVec.ofNat 8 (leAt b (e + 7) 1)
    let x : Sig := { value := wordOfNat (leAt b e 4), q := q, tag := 0x13, stamp := BitVec.ofNat 16 d.sys.frame.toNat }
    smPut m (leAt b (e + 4) 3 % 2 ^ 20) x) p.signals
  let d := (List.range used).foldl (fun d i =>
    let e := 4880 + 8 * i
    d.sigMirrored (leAt b (e + 4) 3 % 2 ^ 20) (wordOfNat (leAt b e 4)) (BitVec.ofNat 8 (leAt b (e + 7) 1))) d
  let d := d.modPair fun p =>
    { p.partnerActive with
        handover := leAt b 1 1 % 2 == 1, partnerRun := leAt b 1 1 / 2 % 2 == 1,
        mirrorFrame := wordOfNat (leAt b 2 4), partnerPairId := wordOfNat (leAt b 12 4),
        partnerCheck := wordOfNat (leAt b 4696 4), axes := axes, signals := sigs,
        pairFaults := BitVec.ofNat 32 (leAt b 4624 4),
        pairCounts := (List.range 32).map (fun i => BitVec.ofNat 16 (leAt b (4628 + 2 * i) 2)),
        recSeq := wordOfNat (leAt b 6928 4), recLost := wordOfNat (leAt b 6932 4),
        missed := 0, notTaken := false, goodFrames := satNat 16 (p.goodFrames + 1),
        complete := decide (16 ≤ p.goodFrames + 1) }
  let d := d.pairMismatch
  let e := d.eligible
  d.modPair fun p => { p with eligAtLast := e }

/-- The active module latches a read-back fault on its own loop that uses an output of the standby that reads on under an off command
(R304). -/
def Dev.latchStuck (d : Dev) (l : Nat) : Dev :=
  let d := (d.pairEvent 0x8012 0x80).modPair fun p => { p with stuckLoop := some l }
  let y : Loop := { d.island.loop l with rbFault := true }
  ((d.modIsland fun x => { x with loops := smPut x.loops l y }).event 0x3011 (0x100 + l)).orReg Adr.safFlags 4

/-- The standby reports a stuck output: the loop is latched, and latched again whenever it has been reset while the report lasts.  The
status frame does not name the output, so the loop is free once for each report. DEDUCED: notes/assumptions/44.md. -/
def Dev.partnerStuck (d : Dev) : Dev :=
  match d.pair.stuckLoop with
  | some l => if (d.island.loop l).rbFault then d else d.latchStuck l
  | none =>
    let r := d.nextFree
    r.1.latchStuck ((Config.stuckOutput r.2).toNat / 2)

/-- A status frame. -/
def Dev.latchStatusFrame (d : Dev) (b : List Byte) : Dev :=
  let f := BitVec.ofNat 8 (leAt b 1 1)
  let d := d.modPair fun p =>
    { p with partnerFlags := f, partnerRole := f.toNat % 8, partnerElig := f.getLsbD 3, partnerSeen := true,
             partnerActAge := wordOfNat (leAt b 8 4), partnerPairId := wordOfNat (leAt b 12 4),
             partnerCheck := wordOfNat (leAt b 16 4), partnerNoRoast := leAt b 20 1 % 2 == 1 }
  let d := d.pairMismatch
  if !f.getLsbD 6 then d.modPair fun p => { p with stuckLoop := none }
  else if d.pair.role == .active then d.partnerStuck else d

/-! ### Role changes (R298–R300, R308, R309) -/

/-- Every loop off at once. -/
def Dev.loopsOff (d : Dev) : Dev :=
  d.modIsland fun x => { x with loops := x.loops.map fun l => (l.1, ({ l.2 with on := false, cond := false, held := 0 } : Loop)), soCmd := 0 }

/-- The sheaves stop: their running tasks leave the cores. -/
def Dev.stopSheaves (d : Dev) : Dev :=
  { d with cores := d.cores.map fun k => if k.1 < 16 then (k.1, ({ k.2 with cur := none, round := none } : Core)) else k }

/-- Become STANDBY: the enabled ports listen, every axis is OFF, the outputs are off, the sheaves release no task (R297, R306). -/
def Dev.enterStandby (d : Dev) : Dev :=
  let d := d.modPair fun p => { p with role := .standby, roleOut := false, releasing := false, releaseDue := false, yielding := false,
                                       claiming := false, stuckLoop := none, missed := 0, goodFrames := 0, complete := false, notTaken := false, handover := false,
                                       eligAtLast := false, claimFrames := 0, roleInHigh := 0, swapDue := false,
                                       partnerElig := false }
  let d := d.enabledPorts.foldl (fun d p => (d.portDown p).modPort p fun x => { x with listenGood := false, heard := none }) d
  let d := d.axes'.foldl (fun d n => d.axisOff n) d
  d.loopsOff.stopSheaves

/-- One axis from the pair copy (R308): of the cycle count the low half is mirrored, and the other lifetime counters are the module's
own; of slot 4, SAFEHOLD, ATTARGET and CAUSE are taken, and HOMED where the axis stood or was OFF. -/
def Dev.adoptAxis (d : Dev) (n : Nat) : Dev :=
  let c : MirrorAxis := smGet {} d.pair.axes n
  let st := c.slot4.toNat % 16
  let keep := c.slot4.getLsbD 9 && (st == 2 || st == 1)
  let a := d.axis n
  let m : Motion := { a.motion with raw := c.raw, homeOff := BitVec.ofInt 48 (sval c.homeOff * one16), v := 0, a := 0, homed := keep,
                                    safehold := c.slot4.getLsbD 8, attarget := c.slot4.getLsbD 11, cause := fld (c.slot4.setWidth 32) 12 4,
                                    st := if a.motion.st == .noconf then .noconf else .off }
  let l : Lifetime := { a.live with cycles := BitVec.ofNat 64 (a.live.cycles.toNat / 2 ^ 32 * 2 ^ 32 + c.cycles.toNat) }
  let d := (d.setAxis n { a with motion := m, live := l }).showState n
  let d := ((d.devSig (slotSig n 41) c.homeOff).devSig (slotSig n 12) c.cycles)
  let y := d.safe n
  let s := SafeState.ofCode c.safe
  (d.setSafe n { y with st := if s == .stopping then .held else s, zeroFrames := 0, offFrames := 0, stopAt := none, stopV0 := none }).showSafe n

/-- Take the ACTIVE role from the pair copy: take-over (0x8010) or commanded swap (0x8011).  The next record sequence number is the
larger of the module's own and the mirrored one plus 4,096, in the order modulo 2³² of R361. -/
def Dev.takeRole (d : Dev) (swap : Bool) : Dev :=
  let d := d.modPair fun p => { p with role := .active, roleOut := true, actAge := 0, swapDue := false, handover := false,
                                       claiming := false, roleInHigh := 0, mirrorNext := 0, stuckLoop := none, partnerElig := false,
                                       partnerActAge := 0 }
  let d := d.pairEvent (if swap then 0x8011 else 0x8010) (if swap then 0x40 else 0x20)
  let d := d.setReg Adr.pairLastlo (wordOfNat d.now)
  let d := d.setReg Adr.pairLasthi (wordOfNat (d.now / 2 ^ 32))
  let d := d.incRegFld Adr.pairRolecnt (if swap then 0 else 16) 16
  let d := d.axes'.foldl (fun d n => d.adoptAxis n) d
  let faults := d.pair.pairFaults
  let counts := d.pair.pairCounts
  let adopt (m : SMap Pair) : SMap Pair := (List.range 32).foldl (fun m i =>
    let y : Pair := { smGet {} m i with fault := faults.getLsbD i, count := (counts.getD i 0).toNat, value := false }
    smSet {} m i y) m
  let d := d.modIsland fun x => { x with pairs := adopt x.pairs, pairsB := adopt x.pairsB }
  let seq := d.pair.recSeq + 4096
  let r := d.recorder
  let d : Dev := if seqExceeds seq r.nextSeq then { d with recorder := ({ r with nextSeq := seq } : Recorder).writeCheckpoint none } else d
  let d := if d.sys.power == .run then
      let d := d.placer.doors.foldl (fun d p => d.restartDoor p.1) d
      let marked := d.mirrorSignals
      (d.pair.signals.filter fun s => marked.contains s.1 && !d.sigAllows s.1 .island).foldl (fun d s =>
        (d.countStore s.1).sigHome s.1 s.2.value s.2.valid (s.2.q.getLsbD 1) 0x13) d
    else d
  d.enabledPorts.foldl (fun d p => d.beginLink p) d

/-- ROLE_CLAIM: the claim window has passed without a partner; link start begins at the next boundary (R298). -/
def execRoleClaim (s : State) : Host.Outcome State Fault Refusal :=
  let p := s.dev.pair
  if s.dev.operating && p.role == .seek && (if p.unit1 then 128 else 64) ≤ p.claimFrames then
    .next { s with dev := s.dev.modPair fun p => { p with role := .active, roleOut := true, claiming := true, actAge := 0, roleInHigh := 0,
                                                          mirrorNext := 0, swapDue := false } }
  else .next s

/-- TAKEOVER: three boundaries without a mirror frame; where another condition fails, the reason is recorded (R307, R308).
DEDUCED: notes/assumptions/43.md. -/
def execTakeover (s : State) : Host.Outcome State Fault Refusal :=
  let d := s.dev
  let p := d.pair
  if p.role == .standby && 3 ≤ p.missed && !p.notTaken && d.operating then
    if p.roleIn || p.listenMissed = 0 then
      .next { s with dev := (d.pairEvent 0x8002 2).modPair fun p => { p with notTaken := true } }
    else if !p.eligAtLast then .next { s with dev := (d.pairEvent 0x8006 2).modPair fun p => { p with notTaken := true } }
    else .next { s with dev := d.takeRole false }
  else .next s

/-- A write of PAIR_CMD: a swap request is checked in the next frame (R309). -/
def Dev.pairCmdWrite (d : Dev) (value : Word) : Dev :=
  if bit value 0 then d.modPair fun p => { p with swapReq := some value } else d

/-- PAIR_CMD_SWAP. -/
def execPairCmdSwap (value : Word) (s : State) : Host.Outcome State Fault Refusal :=
  .next { s with dev := s.dev.pairCmdWrite value }

/-- The result of a swap request; 0 on acceptance. DEDUCED: notes/assumptions/44.md. -/
def Dev.swapCode (d : Dev) (v : Word) : Nat :=
  let resting (n : Nat) : Bool := let st := (d.axis n).motion.st; st == .stand || st == .off
  if fld v 24 8 ≠ 0x6B ∨ d.pair.role ≠ .active then 0x8022
  else if !d.axes'.all resting then 0x8020
  else if !d.pair.partnerElig then 0x8021
  else if d.placer.mig.isSome then 0x8023
  else 0

/-- A waiting swap request. -/
def Dev.swapCheck (d : Dev) : Dev :=
  match d.pair.swapReq with
  | none => d
  | some v =>
    let code := d.swapCode v
    let d := (d.modPair fun p => { p with swapReq := none }).setReg Adr.pairCmdstat (wordOfNat code)
    if code = 0 then d.modPair fun p => { p with releasing := true } else d.setRegFld Adr.pairStatus 16 16 code

/-- SWAP_TAKE_ROLE: the partner released the role after HANDOVER, and ROLE_IN reads low. -/
def execSwapTakeRole (roleIn : Bool) (s : State) : Host.Outcome State Fault Refusal :=
  let p := s.dev.pair
  if s.dev.operating && p.role == .standby && p.handover && !roleIn && p.eligAtLast then
    .next { s with dev := (s.dev.modPair fun p => { p with roleIn := roleIn }).takeRole true }
  else .next s

/-- SWAP_DUE: the standby's PAIR_ACTAGE has reached SWAPINT hours (R310). -/
def execSwapDue (s : State) : Host.Outcome State Fault Refusal :=
  let d := s.dev
  let lim := 60 * fld (d.reg Adr.pairCfg) 8 16
  let age := if d.pair.role == .standby then d.pair.actAge.toNat else if d.pair.role == .active then d.pair.partnerActAge.toNat else 0
  if lim ≠ 0 && !d.pair.swapDue && lim ≤ age then
    .next { s with dev := (d.pairEvent 0x8030 0).modPair fun p => { p with swapDue := true } }
  else .next s

/-- PAIR_PORT_DOWN: no good pair frame for three frames. -/
def execPairPortDown (s : State) : Host.Outcome State Fault Refusal :=
  let p := s.dev.pair
  if p.role != .unpaired && 3 ≤ p.linkAge && !p.linkDown then
    .next { s with dev := (s.dev.pairEvent 0x8001 1).modPair fun p => { p with linkDown := true } }
  else .next s

/-- ROLE_DISAGREE: ROLE_IN has disagreed with the partner's reported role for three frames. -/
def execRoleDisagree (s : State) : Host.Outcome State Fault Refusal :=
  let p := s.dev.pair
  if 3 ≤ p.disagree && !p.disagreed then
    .next { s with dev := (s.dev.pairEvent 0x8003 4).modPair fun p => { p with disagreed := true } }
  else .next s

/-- A write of PAIR_CFG: stored in IDLE, ignored elsewhere (R298). -/
def Dev.pairCfgWrite (d : Dev) (v : Word) : Dev := if d.sys.power == .idle then d.setReg Adr.pairCfg (v &&& 0xFFFF03) else d

/-- PAIR_CFG_WRITE. -/
def execPairCfgWrite (value : Word) (s : State) : Host.Outcome State Fault Refusal :=
  .next { s with dev := s.dev.pairCfgWrite value }

/-- ROLE_OUT_FRAME_ENGINE_TIMEOUT: the frame engine has completed no boundary for two frames (R295). -/
def execRoleOutFrameEngineTimeout (s : State) : Host.Outcome State Fault Refusal :=
  .next { s with dev := s.dev.modPair fun p => { p with roleOut := false } }

/-! ### The pair at a frame boundary (R294, R298, R299, R307) -/

/-- ROLE_IN against the role the partner reports in the frame latched. DEDUCED: notes/assumptions/43.md. -/
def PairUnit.judgeRole (p : PairUnit) (got : Bool) : PairUnit :=
  let bad := got && ((p.partnerRole == 2) != p.roleIn)
  { p with disagree := if bad then satNat 3 (p.disagree + 1) else 0, disagreed := p.disagreed && bad }

/-- The role rules at the start of a frame: changes due from the frame before, the latch, and what ROLE_IN and the partner ask for. -/
def Dev.pairRules (d : Dev) (roleIn : Bool) : Dev :=
  let d : Dev := d.modPair fun p => { p with roleIn := roleIn }
  if d.pair.role == .unpaired || !d.operating then d
  else
    let heard := d.enabledPorts.any fun p => (d.port p).listenGood
    let d : Dev := d.enabledPorts.foldl (fun d p => d.modPort p fun x =>
      { x with listenGood := false, st := if x.st == .listen && !x.listenGood then .down else x.st }) d
    let d : Dev := d.modPair fun p => { p with listenMissed := if heard then 0 else p.listenMissed + 1 }
    let d : Dev := if d.pair.yielding then (d.enterStandby).pairEvent 0x8004 8 else if d.pair.releasing then d.enterStandby else d
    let d : Dev := if d.pair.claiming then
        (d.enabledPorts.foldl (fun d p => d.beginLink p) d).modPair fun p => { p with claiming := false }
      else d
    let rx := d.pair.rx
    let d : Dev := d.modPair fun p => { p with rx := none, linkAge := (if rx.isSome then 0 else satNat 3 (p.linkAge + 1)),
                                               linkDown := p.linkDown && rx.isNone,
                                               partnerElig := p.partnerElig && (rx.isSome || p.linkAge + 1 < 3) }
    let mirror : Bool := match rx with
      | some x => x.mirror
      | none => false
    let d : Dev := d.modPair fun p => { p with age := if mirror then 0 else satNat 0xFFFF (p.age + 1) }
    let d : Dev := if d.pair.role == .seek && (roleIn || mirror) then d.enterStandby else d
    let d : Dev := match rx with
      | some (x : PairRx) => if !x.mirror then d.latchStatusFrame x.bytes else if d.pair.role == Role.active then d.modPair PairUnit.partnerActive else d.latchMirror x.bytes
      | none => d
    let d : Dev := if mirror || d.pair.role != .standby then d
      else (d.modPair fun p => { p with missed := p.missed + 1, complete := false, goodFrames := 0,
                                        missMax := Nat.max p.missMax (satNat 0xFF (p.missed + 1)) }).incReg Adr.pairMisscnt
    let d : Dev := d.modPair fun p => p.judgeRole rx.isSome
    match d.pair.role with
    | .seek => d.modPair fun p => { p with claimFrames := p.claimFrames + 1 }
    | .active =>
      let n := if roleIn then d.pair.roleInHigh + 1 else 0
      d.modPair fun p => { p with roleInHigh := n, yielding := p.unit1 && (mirror || decide (3 ≤ n)),
                                  releasing := p.releasing || p.releaseDue, releaseDue := false }
    | _ => d

/-- The pair unit at the start of a frame: the role rules, then the check of a waiting swap request (R309). -/
def Dev.pairBoundary (d : Dev) (roleIn : Bool) : Dev := (d.pairRules roleIn).swapCheck

end Sys2Proof.Machine
end

