-- ==== Sys2Proof/Machine/Update.lean ====
section
/-! DEFINITION. Image update (chapter 14): slots, download, verification, boot choice, trial and confirmation, and the operating
minute. -/

namespace Sys2Proof.Machine

/-! ### Slots and headers (R372–R374) -/

/-- The size of an image slot. -/
def slotSize : Nat := 25165824

/-- The codes of the slot states (R374). -/
def SlotState.code : SlotState → Nat
  | .empty => 0
  | .erasing => 1
  | .open_ => 2
  | .loaded => 3
  | .trial => 4
  | .current => 5
  | .previous => 6
  | .rejected => 7

/-- A slot. -/
def Update.slot (u : Update) (i : Nat) : Slot := if i = 0 then u.slot0 else u.slot1

/-- Replace a slot. -/
def Update.setSlot (u : Update) (i : Nat) (x : Slot) : Update := if i = 0 then { u with slot0 := x } else { u with slot1 := x }

/-- Give a slot a state (R374). -/
def Update.mark (u : Update) (i : Nat) (st : SlotState) : Update := u.setSlot i { u.slot i with st := st }

/-- The first slot in a state. -/
def Update.withState (u : Update) (st : SlotState) : Option Nat :=
  if u.slot0.st == st then some 0 else if u.slot1.st == st then some 1 else none

/-- The CURRENT slot. -/
def Update.current (u : Update) : Nat := if u.slot0.st == .current then 0 else 1

/-- The inactive slot. -/
def Update.inactive (u : Update) : Nat := 1 - u.current

/-- A byte of a slot as the flash reads it: an erased byte reads 0xFF (PRESUMED of NOR flash).
PRESUMED: notes/assumptions/45.md. -/
def Slot.byte (x : Slot) (a : Nat) : Byte := if smHas x.written a then memRead x.bytes a else 0xFF

/-- Bytes of a slot. -/
def Slot.read (x : Slot) (a n : Nat) : List Byte := (List.range n).map fun i => x.byte (a + i)

/-- The header of the image in a slot, where it passes the header check of R375. -/
def Slot.header (x : Slot) : Option ImageHeader :=
  let h := x.read 0 256
  let len := leAt h 8 4
  if leAt h 0 4 = 0x4B534931 && leAt h 4 4 = 1 && 4096 ≤ len && len ≤ slotSize && len % 4 = 0
      && 1 ≤ leAt h 20 2 && 1 ≤ leAt h 22 1 && leAt h 23 1 ≤ 3 && (slice h 28 164).all (· == 0)
  then some { length := len, version := wordOfNat (leAt h 12 4), pairId := wordOfNat (leAt h 16 4), minutes := leAt h 20 2,
              boots := leAt h 22 1, keyIdx := leAt h 23 1, secver := wordOfNat (leAt h 24 4) }
  else none

/-! ### State records (R372, R374) -/

/-- The valid record with the higher generation number of two. -/
def StateRec.newer (a b : StateRec) : StateRec := if b.ok && (!a.ok || a.gen < b.gen) then b else a

/-- The record in force: the valid one with the highest generation number in the two sectors (R374). -/
def Update.inForce (u : Update) : StateRec :=
  (u.sector0 ++ u.sector1).foldl StateRec.newer { st0 := .current, st1 := .empty, ok := false }

/-- What a state record written now holds. -/
def Update.content (u : Update) : StateRec :=
  { st0 := u.slot0.st, st1 := u.slot1.st, boots := u.trialBoots,
    minutes := if u.slot0.st == .trial || u.slot1.st == .trial then Nat.max 1 u.trialMinutes else u.trialMinutes,
    floor := u.secFloor, expired := u.expired }

/-- Two records of the same content. -/
def StateRec.same (a b : StateRec) : Bool :=
  a.ok && b.ok && a.st0 == b.st0 && a.st1 == b.st1 && a.boots == b.boots && a.minutes == b.minutes && a.floor == b.floor
    && a.expired == b.expired

/-- Put a record at the start of the sector that is not in use, and use that one. -/
def Update.turn (u : Update) (r : StateRec) : Update :=
  if u.sector then { u with sector0 := [r], sector := false } else { u with sector1 := [r], sector := true }

/-- The records of the sector in use, and of the other. -/
def Update.used (u : Update) : List StateRec := if u.sector then u.sector1 else u.sector0

/-- Append a record to the sector in use, or, where that is full with 1,024, put it at the start of the other; the full sector is erased
only when that record stands (R374).  A sector full of records that were all cut off is erased itself. -/
def Update.append (u : Update) (r : StateRec) : Update :=
  if 1024 ≤ u.used.length && u.used.any (·.ok) then u.turn r
  else
    let l := if u.used.length < 1024 then u.used ++ [r] else [r]
    if u.sector then { u with sector1 := l } else { u with sector0 := l }

/-- Erase the full sector once a record in the other has been written, in a millisecond before this one (R374).
DESIGN CHOICE: notes/assumptions/46.md. -/
def Update.eraseFull (u : Update) (now : Nat) : Update :=
  if u.used.any fun r => r.ok && r.wroteAt != some now then
    (if u.sector then { u with sector0 := [] } else { u with sector1 := [] })
  else u

/-- Write the next state record where what it holds has changed (R374, R379). -/
def Update.record (u : Update) (now : Nat) : Update :=
  let u := u.eraseFull now
  let last := u.inForce
  if last.same u.content then u else u.append { u.content with gen := last.gen + 1, wroteAt := some now }

/-- What the boot loader reads from the state sectors at a start, when no record is being written any more (R374, R401). -/
def Update.reload (u : Update) : Update :=
  let r := u.inForce
  let done (l : List StateRec) : List StateRec := l.map fun x => { x with wroteAt := none }
  { u with sector0 := done u.sector0, sector1 := done u.sector1, slot0 := { u.slot0 with st := r.st0 }, slot1 := { u.slot1 with st := r.st1 }, trialBoots := r.boots, trialMinutes := r.minutes,
           secFloor := r.floor, expired := r.expired }

/-- The state record written in this millisecond is cut off by a loss of power, so the one before it stays in force (R374, R381).
DESIGN CHOICE: notes/assumptions/46.md. -/
def Update.cutOff (u : Update) (now k : Nat) : Update :=
  let hit (l : List StateRec) : List StateRec :=
    match l.getLast? with
    | some r => if r.wroteAt = some now && Config.stateCut k then l.dropLast ++ [{ r with ok := false }] else l
    | none => l
  if u.sector then { u with sector1 := hit u.sector1 } else { u with sector0 := hit u.sector0 }

/-- The 64 bytes of a state record, with its CRC-32C in the last four (R374). DESIGN CHOICE: notes/assumptions/46.md. -/
def StateRec.bytes (r : StateRec) : List Byte :=
  let body := (List.range 60).map (Config.stateRecord [r.gen, r.st0.code, r.st1.code, r.boots, r.minutes, r.floor.toNat, b2n r.expired])
  body ++ leBytes 4 (crc32c body).toNat

/-- A byte of the state sectors; one that no record fills is erased, and one of a record cut off is whatever the write left. -/
def stateSectorByte (l : List StateRec) (a : Nat) : Byte :=
  match l[a / 64]? with
  | some r => if r.ok then r.bytes.getD (a % 64) 0 else Config.cutStateByte r.gen a
  | none => 0xFF

/-- A byte of the 64 MiB flash (R372). -/
def Update.flash (u : Update) (a : Nat) : Byte :=
  if a < 0x200000 then Config.bootLoader a
  else if a < 0x210000 then stateSectorByte u.sector0 (a - 0x200000)
  else if a < 0x220000 then stateSectorByte u.sector1 (a - 0x210000)
  else if a < 0x1000000 then Config.factoryArea a
  else if a < 0x2800000 then u.slot0.byte (a - 0x1000000)
  else u.slot1.byte (a - 0x2800000)

/-- Change the update unit; what changes in the states of the slots, the trial counters or the floor is written as a state record
(R374). -/
def Dev.modUpd (d : Dev) (f : Update → Update) : Dev := { d with upd := (f d.upd).record d.now }

/-- A code of R394 in 0x70xx occurred: UPD_LAST and its flag (R395). -/
def Dev.updCode (d : Dev) (code : Nat) : Dev :=
  let flag : Word :=
    if code = 0x7010 || code = 0x7011 then 1
    else if code = 0x7009 || code = 0x7012 || code = 0x7022 then 2
    else if code = 0x7024 then 4
    else if code = 0x7025 then 8
    else if code = 0x7023 then 16
    else 0
  if code = 0 then d else (d.modUpd fun u => { u with last := code }).orReg Adr.updFlags flag

/-- A code of R394 that is written as a record. -/
def Dev.updEvent (d : Dev) (code : Nat) : Dev := (d.event code 0xFFFF).updCode code

/-! ### Download (R375, R376) -/

/-- BEGIN: 0 where accepted. PRESUMED: notes/assumptions/45.md. -/
def Dev.updBegin (d : Dev) : Dev × Nat :=
  let u := d.upd
  if (u.withState .trial).isSome then (d, 0x7003)
  else if (u.withState .erasing).isSome || u.confirming then (d, 0x7006)
  else
    let i := u.inactive
    let n := satInc (u.slot i).erases
    let y : Slot := { st := .erasing, erases := n, bytes := [], written := [] }
    let d := d.modUpd fun u => u.setSlot i y
    (if n.toNat = 90001 then d.updEvent 0x7032 else d, 0)

/-- Operations on the update unit's map of written bytes, which lies in DRAM with one bit for a byte, for the bits of `n` bytes of the
slot from `a` (R376, R393, R420). DESIGN CHOICE: notes/assumptions/79.md. -/
def Dev.mapOps (d : Dev) (a n : Nat) : Dev := d.dramBytes (a / 8) (if n = 0 then 0 else (a + n - 1) / 8 + 1 - a / 8)

/-- FINISH: 0 where accepted. -/
def Dev.updFinish (d : Dev) : Dev × Nat :=
  match d.upd.withState .open_ with
  | none => (d, 0x7004)
  | some i =>
    let x := d.upd.slot i
    match x.header with
    | none => (d, 0x7007)
    | some h =>
      let d := d.mapOps 0 h.length
      if (x.written.filter fun p => decide (p.1 < h.length)).length < h.length then (d, 0x7008)
      else (d.modUpd fun u => u.mark i .loaded, 0)

/-- ABORT: 0 where accepted. -/
def Dev.updAbort (d : Dev) : Dev × Nat :=
  let i := d.upd.inactive
  let st := (d.upd.slot i).st
  if st == .open_ || st == .loaded then (d.modUpd fun u => u.mark i .rejected, 0) else (d, 0x7004)

/-- UPD_CMD: key 0xD2, then the command's own conditions; OP 0 commands nothing (R375). -/
def Dev.updCommand (d : Dev) (value : Word) : Dev :=
  let op := fld value 0 2
  if op = 0 then d
  else
    let r := if fld value 24 8 ≠ 0xD2 then (d, 0x7001)
      else if op = 1 then d.updBegin else if op = 2 then d.updFinish else d.updAbort
    (r.1.updCode r.2).setReg Adr.updCmdstat (wordOfNat r.2)

/-- UPD_CMD_BEGIN. -/
def execUpdCmdBegin (value : Word) (s : State) : Host.Outcome State Fault Refusal :=
  if fld value 0 2 = 1 && s.dev.operating then .next { s with dev := s.dev.updCommand value } else .next s

/-- UPD_CMD_FINISH. -/
def execUpdCmdFinish (value : Word) (s : State) : Host.Outcome State Fault Refusal :=
  if fld value 0 2 = 2 && s.dev.operating then .next { s with dev := s.dev.updCommand value } else .next s

/-- UPD_CMD_ABORT. -/
def execUpdCmdAbort (value : Word) (s : State) : Host.Outcome State Fault Refusal :=
  if fld value 0 2 = 3 && s.dev.operating then .next { s with dev := s.dev.updCommand value } else .next s

/-- ERASE_COMPLETE: the slot becomes OPEN with an empty written map; a failed erase rejects it with 0x7009. -/
def execEraseComplete (erased : Bool) (s : State) : Host.Outcome State Fault Refusal :=
  match s.dev.upd.withState .erasing with
  | none => .next s
  | some i =>
    if erased then .next { s with dev := (s.dev.mapOps 0 slotSize).modUpd fun u => u.mark i .open_ }
    else .next { s with dev := (s.dev.modUpd fun u => u.mark i .rejected).updEvent 0x7009 }

/-- An update block: bytes already written must be identical, the others are programmed (R376). -/
def Dev.updBlock (d : Dev) (off : Nat) (data : List Byte) (programmed : Bool) : Dev × Nat :=
  let u := d.upd
  match u.withState .open_ with
  | none => (d, if (u.withState .erasing).isSome then 0x7006 else 0x7004)
  | some i =>
    let x := u.slot i
    let cells := data.zipIdx.map fun b => (off + b.2, b.1)
    let fresh := cells.filter fun c => !smHas x.written c.1
    let d := d.mapOps off data.length
    if cells.any fun c => smHas x.written c.1 && memRead x.bytes c.1 != c.2 then (d, 0x7005)
    else if fresh.isEmpty then (d, 0)
    else if !programmed then (d.modUpd fun u => u.mark i .rejected, 0x7009)
    else
      let y := fresh.foldl (fun (x : Slot) c =>
        ({ x with bytes := memWrite x.bytes c.1 c.2, written := smPut x.written c.1 true } : Slot)) x
      ((d.mapOps off data.length).modUpd fun u => u.setSlot i y, 0)

/-! ### Verification and boot (R377, R378) -/

/-- The signature of R373: over bytes 0 to L − 1 with bytes 192–255 taken as 0. -/
def Slot.signed (x : Slot) (h : ImageHeader) : Bool :=
  match Config.publicKey h.keyIdx with
  | none => false
  | some key => edVerify key (x.read 0 192 ++ List.replicate 64 0 ++ x.read 256 (h.length - 256)) (x.read 192 64)

/-- Verification: 0 where it passes. -/
def Update.verify (u : Update) (i : Nat) : Nat :=
  match (u.slot i).header with
  | none => 0x7010
  | some h => if !(u.slot i).signed h then 0x7010 else if h.secver.toNat < u.secFloor.toNat then 0x7011 else 0

/-- Copy the image of a slot into the running-image area and take it as the running image. -/
def Dev.runSlot (d : Dev) (i : Nat) (trial : Bool) : Dev :=
  let x := d.upd.slot i
  match x.header with
  | none => { d with image := none }
  | some h =>
    let body := Config.imageBody (x.read 256 (h.length - 256))
    let d : Dev := { d with image := some body }
    d.modUpd fun u => { u with runSlot := decide (i = 1), runVersion := h.version, runPairId := h.pairId, runSecver := h.secver,
                               onTrial := trial }

/-- Whether the second copy of a start succeeds: a free value (R377). DESIGN CHOICE: notes/assumptions/46.md. -/
def Dev.copyAgain (d : Dev) : Dev × Bool :=
  (d.nextFree.1, Config.secondCopyOk d.nextFree.2)

/-- An uncorrectable flash error in the copy, 0x7012: PREVIOUS is booted and becomes CURRENT, or there is no running image; an error in
that copy too is another 0x7012, and no slot is left to boot. DESIGN CHOICE: notes/assumptions/46.md. -/
def Dev.copyFailed (d : Dev) (i : Nat) : Dev :=
  let d := (d.updEvent 0x7012).modUpd fun u => { u with fellBack := true }
  match d.upd.withState .previous with
  | none => { d with image := none }
  | some j =>
    let r := (d.modUpd fun u => (u.mark i .rejected).mark j .current).copyAgain
    if r.2 then r.1.runSlot j false else { r.1.updEvent 0x7012 with image := none }

/-- Boot CURRENT, without verification; an image that failed the factory check is not booted (R377). -/
def Dev.bootCurrent (d : Dev) (copyOk : Bool) : Dev :=
  let i := d.upd.current
  if (d.upd.slot i).barred then { d with image := none }
  else if copyOk then d.runSlot i false else d.copyFailed i

/-- Boot CURRENT after another image failed verification: the second copy of the start. -/
def Dev.bootAgain (d : Dev) : Dev :=
  let r := d.copyAgain
  r.1.bootCurrent r.2

/-- 0x7025: this start falls back to CURRENT. -/
def Dev.fallback (d : Dev) : Dev := (d.updEvent 0x7025).modUpd fun u => { u with fellBack := true }

/-- The boot loader's choice of image at every start (R377, R379); a trial whose expiry record was not written has 1 minute left
(R381). DESIGN CHOICE: notes/assumptions/46.md. -/
def Dev.bootImage (d : Dev) (copyOk : Bool) : Dev :=
  let d : Dev := { d with image := none, upd := d.upd.reload }
  let expired := d.upd.expired
  let d := d.modUpd fun u => { u with expired := false, fellBack := false, confirming := false, onTrial := false, runVersion := 0,
                                      runPairId := 0, runSecver := 0 }
  let d := if expired then d.fallback else d
  match d.upd.withState .trial with
  | some i =>
    if d.upd.trialBoots = 0 then (d.modUpd fun u => u.mark i .rejected).fallback.bootCurrent copyOk
    else if !copyOk then d.copyFailed i
    else
      let v := d.upd.verify i
      if v = 0 then (d.modUpd fun u => { u with trialBoots := u.trialBoots - 1, trialMinutes := Nat.max 1 u.trialMinutes }).runSlot i true
      else ((d.modUpd fun u => u.mark i .rejected).updEvent v).bootAgain
  | none =>
    match d.upd.withState .loaded with
    | some i =>
      if !copyOk then d.copyFailed i
      else
        let v := d.upd.verify i
        match (d.upd.slot i).header with
        | some h =>
          if v = 0 then
            ((d.modUpd fun u => { u.mark i .trial with trialBoots := h.boots - 1, trialMinutes := h.minutes }).updEvent 0x7026).runSlot
              i true
          else ((d.modUpd fun u => u.mark i .rejected).updEvent v).bootAgain
        | none => ((d.modUpd fun u => u.mark i .rejected).updEvent v).bootAgain
    | none =>
      let reject (u : Update) (i : Nat) : Update :=
        let st := (u.slot i).st
        if st == .open_ || st == .erasing then u.mark i .rejected else u
      (d.modUpd fun u => reject (reject u 0) 1).bootCurrent copyOk

/-! ### Trial and confirmation (R379, R380, R96) -/

/-- The running image is an unconfirmed trial image. -/
def Update.unconfirmed (u : Update) : Bool := u.onTrial && !u.expired

/-- The window's last minute has passed and no confirmation posted before it is in progress: the trial has expired (R379, R380). -/
def Update.windowOver (u : Update) : Bool := u.unconfirmed && u.trialMinutes == 0 && !u.confirming

/-- The IMG.STATE word. -/
def Update.stateWord (u : Update) : Word :=
  let t := u.unconfirmed && !u.windowOver
  fields [(0, b2n t), (1, b2n u.confirming), (8, if t then u.trialBoots else 0), (16, if t then satNat 0xFFFF u.trialMinutes else 0)]

/-- CONFIRM: 0x0000 posts the confirmation, or finds one in progress (R92, R380). -/
def Dev.postConfirm (d : Dev) (system : Bool) : Dev × Nat :=
  if !system then (d, 0x7020)
  else if d.upd.confirming then (d, 0)
  else if !d.upd.unconfirmed || d.upd.windowOver then (d, 0x7021)
  else (d.modUpd fun u => { u with confirming := true }, 0)

/-- CONFIRM_COMPLETE: the state record makes the trial slot CURRENT, the old CURRENT PREVIOUS, and raises the floor; where it
cannot be written, 0x7022 and the image stays on trial. -/
def execConfirmComplete (written : Bool) (s : State) : Host.Outcome State Fault Refusal :=
  let d := s.dev
  if !d.upd.confirming then .next s
  else
    let d := d.modUpd fun u => { u with confirming := false }
    if written then
      let i := b2n d.upd.runSlot
      let floor := if d.upd.secFloor.toNat < d.upd.runSecver.toNat then d.upd.runSecver else d.upd.secFloor
      let u : Update := { (d.upd.mark (1 - i) .previous).mark i .current with secFloor := floor, onTrial := false }
      .next { s with dev := (d.modUpd fun _ => u).updEvent 0x7023 }
    else .next { s with dev := d.updEvent 0x7022 }

/-- OPERATING_MINUTE: a whole operating minute has passed (R15, R256, R310, R379). -/
def execOperatingMinute (s : State) : Host.Outcome State Fault Refusal :=
  let d := s.dev
  if d.now / 60000 ≤ d.sys.minutes then .next s
  else
    let d : Dev := { d with sys := { d.sys with minutes := d.sys.minutes + 1 } }
    let d : Dev := { d with island := { d.island with testAge := satInc d.island.testAge } }
    let d := d.modPair fun p => { p with actAge := if p.role == .active then 0 else satInc p.actAge }
    .next { s with dev := if d.upd.unconfirmed then d.modUpd fun u => { u with trialMinutes := u.trialMinutes - 1 } else d }

/-- TRIAL_EXPIRY: minutes left has reached 0, and no confirmation is in progress (R379, R380). -/
def execTrialExpiry (s : State) : Host.Outcome State Fault Refusal :=
  let u := s.dev.upd
  if u.windowOver then
    let v : Update := { u.mark (b2n u.runSlot) .rejected with expired := true }
    .next { s with dev := (s.dev.modUpd fun _ => v).updEvent 0x7024 }
  else .next s

/-! ### The registers of the update unit (R395) -/

/-- UPD_STATUS. -/
def Dev.updStatus (d : Dev) : Word :=
  let u := d.upd
  fields [(0, b2n u.runSlot), (1, u.slot0.st.code), (4, u.slot1.st.code), (8, b2n ((u.withState .erasing).isSome || u.confirming)),
    (9, b2n u.expired), (10, b2n u.fellBack), (11, b2n d.image.isNone)]

/-- UPD_WRITTEN: bytes written in the OPEN slot. -/
def Update.openBytes (u : Update) : Nat :=
  match u.withState .open_ with
  | some i => (u.slot i).written.length
  | none => 0

end Sys2Proof.Machine
end

