-- ==== Sys2Proof/Machine/RegFile.lean ====
section
/-! DEFINITION. The registers as the host and the system tasks read and write them (R9–R12): what each RO register shows, and what
a write to each register does. -/

namespace Sys2Proof.Machine

/-! ### Reads (R10, R12) -/

/-- STR_STATUS.STATE (R226). -/
def PortState.code : PortState → Nat
  | .down => 0
  | .train => 1
  | .enum => 2
  | .tables => 3
  | .config => 4
  | .up => 5
  | .lost => 6
  | .listen => 7

/-- SF_TASKINFO.KIND (R60). -/
def TaskKind.code : TaskKind → Nat
  | .frame => 0
  | .coarse => 1
  | .event => 2
  | .background => 3

/-- A task of a sheaf as SF_TASKSEL shows it (R60). -/
def Dev.shownTask (d : Dev) (s : Nat) : Option Task :=
  let x := d.task s (fld (d.reg (Adr.sfTasksel s)) 0 8)
  if x.used then some x else none

/-- The task is released or triggered and has not ended; one that waits for an event counts as not ended, and a restarted one as not
released before the next round (R58, R60). DESIGN CHOICE: notes/assumptions/71.md. -/
def Task.isReady (x : Task) : Bool :=
  !x.halted && (match x.st with
    | .idle => !x.queue.isEmpty
    | .stopped => false
    | _ => !x.held)

/-- The doors placed on a sheaf. -/
def Dev.sheafDoors (d : Dev) (s : Nat) : List DoorPl := (onSheaf d.placer.doors s).map (·.2)

/-- The registers of SYS (R418). -/
def Dev.readSys (d : Dev) (a : Nat) : Option Word :=
  let halted (k : Nat) : Word := fields ((List.range 32).map fun i => (i, b2n (d.task 16 (32 * k + i)).halted))
  if a = 0x0 then some (fields [(0, 0xD512), (16, Config.stepping.toNat)])
  else if a = 0x4 then some Config.serial
  else if a = 0x8 then some d.sys.frame
  else if a = 0xC then some (wordOfNat d.now)
  else if a = 0x10 then some (d.sys.optHi.setWidth 32)
  else if a = 0x14 then some d.sys.pwrCyc
  else if a = 0x2C then some (halted 0)
  else if a = 0x30 then some (halted 1)
  else none

/-- The registers of PWR (R388, R419). -/
def Dev.readPwr (d : Dev) (a : Nat) : Option Word :=
  let s := d.sys
  if a = 0x10000 then
    some (fields [(0, s.power.code), (8, b2n s.entering), (9, b2n s.leaving), (16, s.div), (20, b2n s.rstIgn)])
  else if a = 0x10014 then some (fields [(0, s.rail.toNat), (16, s.railLow.toNat)])
  else if a = 0x10018 then some (fields [(0, s.vin.toNat), (16, s.vinLow.toNat)])
  else if a = 0x1001C then some s.pll
  else if a = 0x10100 then
    let test := if s.power == .roast then s.roastTest else fld (d.reg a) 8 4
    some (setFld (d.reg a) 8 4 test ||| fields [(4, b2n s.noRoast), (5, b2n s.runHold)])
  else none

/-- The common and port registers of STR (R226). -/
def Dev.readStr (d : Dev) (a : Nat) : Option Word :=
  let ports (st : PortState) : Nat := (List.range 4).foldl (fun s p => s + b2n ((d.port p).st == st) * 2 ^ p) 0
  let q := d.queue (fld (d.reg 0x20010) 0 5)
  if a = 0x20004 then some (fields [(0, b2n (bit d.sys.pll 2)), (4, ports .up), (8, ports .lost)])
  else if a = 0x20014 then some (fields [(0, q.fill % 65536), (16, b2n q.spilling), (17, b2n q.areaFull), (24, satNat 0xFF q.episodes)])
  else if a = 0x20018 then some (wordOfNat q.spilled)
  else
    let p := (a - 0x21000) / 0x1000
    let o := (a - 0x21000) % 0x1000
    let x := d.port p
    let n := x.node (fld (d.reg (Adr.strNodesel p)) 0 7)
    if a < 0x21000 || 4 ≤ p then none
    else if o = 0x4 then some (fields [(0, x.st.code), (3, b2n x.warm), (8, (if x.st == .up then x.found else x.foundStart) % 128), (16, x.code)])
    else if o = 0x34 then some (if n.known then fields [(0, n.ntype % 65536), (16, n.channels % 16), (24, n.buffer % 128)] else 0)
    else if o = 0x38 then some (if n.known then fields [(0, n.ddown % 65536), (16, n.tp % 65536)] else 0)
    else if o = 0x3C then some (if n.known then fields [(0, n.free % 256), (8, n.pend % 256), (16, n.err % 256)] else 0)
    else none

/-- The registers of a sheaf (R60). -/
def Dev.readSf (d : Dev) (a : Nat) : Option Word :=
  let s := (a - 0x40000) / 0x1000
  let o := (a - 0x40000) % 0x1000
  let k := d.core s
  let on := d.sheafDoors s
  let task (f : Task → Word) : Option Word := match d.shownTask s with
    | some x => some (f x)
    | none => some 0
  if o = 0x0 then some (fields [(0, b2n (d.scheduling s)), (8, on.length % 64), (16, (on.map fun y => y.tasks.length).sum % 512)])
  else if o = 0x8 then
    match d.image with
    | some im => some (if d.placer.placed then wordOfNat (im.declaredLoad d.placer.doors s) else 0)
    | none => some 0
  else if o = 0xC then some (fields [(0, k.div % 8), (8, satNat 0xFF k.own), (16, b2n k.round.isSome)])
  else if o = 0x28 then some (smGet 0 d.halted s)
  else if o = 0x44 then
    task fun x => fields [(0, x.kind.code), (8, x.prio % 256), (16, x.inst % 32), (24, b2n x.halted), (25, b2n x.isReady)]
  else if o = 0x48 then task fun x => wordOfNat (x.budget % 2 ^ 20)
  else if o = 0x4C then task fun x => wordOfNat (satNat 0xFFFFF x.max)
  else if o = 0x50 then task fun x => x.rels
  else none

/-- The registers of an axis (R154). -/
def Dev.readAx (d : Dev) (a : Nat) : Option Word :=
  let n := (a - 0x100000) / 0x100
  if (a - 0x100000) % 0x100 = 0x10 then some (wordOfInt ((d.axis n).motion.raw.toInt.fdiv 65536)) else none

/-- The registers of SAF (R260). -/
def Dev.readSaf (d : Dev) (a : Nat) : Option Word :=
  let x := d.island
  let loops := (List.range 4).foldl (fun s l => s + b2n (x.loop l).on * 2 ^ l) 0
  if a = 0x200000 then
    some (fields [(0, b2n x.comm), (1, b2n x.mode), (2, b2n x.testDue), (3, b2n (x.fault != 0)), (4, b2n x.chkBusy),
      (5, b2n d.safUnlocked), (8, loops)])
  else if a = 0x200008 then some (wordOfNat x.fault)
  else if a = 0x20000C then some x.check
  else if a = 0x20001C then some x.testAge
  else none

/-- The registers of FLD (R293). -/
def Dev.readFld (d : Dev) (a : Nat) : Option Word :=
  let f := d.field
  if a = 0x210000 then
    some (fields [(0, b2n f.linkUp), (1, b2n f.pulsed), (2, b2n f.uv), (3, b2n f.recovery), (4, b2n (f.powered && !f.supplyLost)),
      (8, f.drv.toNat)])
  else none

/-- The registers of a CAN controller (R349). -/
def Dev.readCan (d : Dev) (a : Nat) : Option Word :=
  let c := (a - 0x220000) / 0x4000
  let o := (a - 0x220000) % 0x4000
  let x := d.can c
  let st := if !d.canOn c then 0 else if x.busOff then 3 else if 128 ≤ x.tec || 128 ≤ x.recCnt then 2 else 1
  if o = 0x4 then
    some (fields [(0, st), (2, b2n x.recovering), (3, b2n (d.canRestricted c)), (4, b2n (96 ≤ x.tec || 96 ≤ x.recCnt)),
      (5, b2n x.triple)])
  else if o = 0x8 then some (fields [(0, if x.busOff then 256 else satNat 511 x.tec), (16, satNat 255 x.recCnt)])
  else none

/-- The registers of HOST (R332). -/
def Dev.readHost (d : Dev) (a : Nat) : Option Word :=
  let h := d.host
  let pending := h.storedIpA != h.liveIpA || h.storedIpB != h.liveIpB || h.storedNet != h.liveNet
  if a = 0x230000 then
    some (fields [(0, b2n h.linkA), (1, b2n h.fdxA), (2, b2n h.linkB), (3, b2n h.fdxB), (4, b2n h.wdExp), (5, b2n pending),
      (8, h.queue.length % 64)])
  else if a = 0x230020 then some ((Config.mac 0).setWidth 32)
  else if a = 0x230024 then some (((Config.mac 0) >>> 32).setWidth 32)
  else if a = 0x230028 then some ((Config.mac 1).setWidth 32)
  else if a = 0x23002C then some (((Config.mac 1) >>> 32).setWidth 32)
  else none

/-- The registers of REC (R371). -/
def Dev.readRec (d : Dev) (a : Nat) : Option Word :=
  let r := d.recorder
  if a = 0x240000 then
    some (fields [(0, b2n r.seedOpen), (1, b2n r.keySealed.isSome), (2, b2n r.challenge.isSome), (3, b2n (0 < r.inPool 0)),
      (4, b2n r.lockedAt.isSome), (5, b2n r.scan), (16, satNat 2047 r.pendq.length)])
  else if a = 0x240008 then some r.nextSeq
  else if a = 0x24000C then some r.oldest
  else if a = 0x240010 then some (wordOfNat r.seed.length)
  else if a = 0x240014 then some (wordOfNat r.used)
  else if a = 0x240018 then some r.lost
  else if a = 0x24001C then some r.repSat
  else if a = 0x240020 then some r.torn
  else if a = 0x240024 then some r.clears
  else if a = 0x240028 then some (wordOfNat r.qpeak)
  else none

/-- The registers of UPD (R395). -/
def Dev.readUpd (d : Dev) (a : Nat) : Option Word :=
  let u := d.upd
  if a = 0x250000 then some d.updStatus
  else if a = 0x250010 then some (wordOfNat u.openBytes)
  else if a = 0x250014 then some u.runVersion
  else if a = 0x250018 then some u.stateWord
  else if a = 0x25001C then some (wordOfNat u.last)
  else if a = 0x250020 then some u.slot0.erases
  else if a = 0x250024 then some u.slot1.erases
  else if a = 0x250028 then some u.secFloor
  else none

/-- The registers of TRC (R396). -/
def Dev.readTrc (d : Dev) (a : Nat) : Option Word :=
  let t := d.trace
  if a = 0x260004 then some (fields [(0, b2n t.frozen), (16, satNat 4096 t.fifo.length)])
  else if a = 0x260014 then some (wordOfNat t.wrpos)
  else if 0x260500 ≤ a && a < 0x260900 then some (smGet 0 t.counters ((a - 0x260500) / 4))
  else none

/-- The registers of PAIR (R312). -/
def Dev.readPair (d : Dev) (a : Nat) : Option Word :=
  let p := d.pair
  if a = 0x270004 then
    some ((d.reg a &&& 0xFFFF0000) ||| fields [(0, p.role.code), (3, b2n d.eligible), (4, b2n p.partnerElig),
      (5, b2n (p.role != .unpaired && p.partnerSeen && !p.linkDown)), (6, b2n p.roleIn), (7, b2n p.roleOut), (8, b2n p.swapDue)])
  else if a = 0x270014 then some (fields [(0, satNat 0xFFFF p.age), (16, satNat 0xFF p.missMax), (24, b2n p.complete)])
  else if a = 0x270028 then some p.actAge
  else if a = 0x27002C then
    some (fields [(0, p.partnerFlags.toNat), (8, b2n p.partnerNoRoast), (16, satNat 0xFFFF (p.partnerActAge.toNat / 60))])
  else none

/-- The registers of PLC (R121). -/
def Dev.readPlc (d : Dev) (a : Nat) : Option Word :=
  let p := d.placer
  let used := (List.range 16).filter fun s => !(onSheaf p.doors s).isEmpty
  if a = 0x280000 then
    some (fields [(0, b2n p.placed), (1, b2n d.overTarget), (2, b2n p.mig.isSome), (16, used.length)])
  else if a = 0x280014 then
    let st := match p.mig with
      | none => 0
      | some m => if m.phase == .copying then 2 else 1
    some (fields [(0, p.migCode), (16, st), (18, b2n p.migCmd)])
  else if a = 0x280034 then
    let s := fld (d.reg Adr.plcShsel) 0 4
    some (fields [(0, (sheafLanes p.doors s).length % 64), (8, satNat 32 (smGet 0 p.hot s)), (16, d.sheafFree s / 1024 % 512)])
  else if a = 0x280044 then
    let x := fld (d.reg Adr.plcDoorsel) 0 9
    match d.image, d.doorPl x with
    | some im, some y =>
      some (fields [(0, y.sheaf % 16), (4, y.inst % 32), (9, (im.doorAxes x).length % 16), (13, b2n y.pinned), (14, b2n y.grouped),
        (15, b2n (d.immovable im x)), (16, satNat 0xFFFF y.migs)])
    | _, _ => some 0
  else none

/-- What a register shows that is not its stored value. -/
def Dev.readDerived (d : Dev) (a : Nat) : Option Word :=
  if a < 0x10000 then d.readSys a
  else if a < 0x20000 then d.readPwr a
  else if a < 0x40000 then d.readStr a
  else if a < 0x50000 then d.readSf a
  else if a < 0x200000 then d.readAx a
  else if a < 0x210000 then d.readSaf a
  else if a < 0x220000 then d.readFld a
  else if a < 0x230000 then d.readCan a
  else if a < 0x240000 then d.readHost a
  else if a < 0x250000 then d.readRec a
  else if a < 0x260000 then d.readUpd a
  else if a < 0x270000 then d.readTrc a
  else if a < 0x280000 then d.readPair a
  else d.readPlc a

/-- Read the register at an address inside a block: 0 where none is assigned and where it is write-only (R10, R12). -/
def Dev.readReg (d : Dev) (a : Nat) : Word :=
  match rowOf a with
  | none => 0
  | some r =>
    if r.access == .wo then 0
    else (match d.readDerived a with
      | some v => v
      | none => d.reg a) &&& wordOfNat r.mask

/-- A read with its side effect: a read of SYS_OPTLO latches SYS_OPTHI (R418). -/
def Dev.readRegLatch (d : Dev) (a : Nat) : Dev × Word :=
  let v := d.readReg a
  (if a = 0xC then { d with sys := { d.sys with optHi := BitVec.ofNat 16 (d.now / 2 ^ 32) } } else d, v)

/-- SYS_OPTLO_READ: SYS_OPTHI is latched. -/
def execSysOptloRead (s : State) : Host.Outcome State Fault Refusal :=
  .next { s with dev := (s.dev.readRegLatch 0xC).1 }

/-! ### Writes (R10, R11) -/

/-- AX_CFG: configures the axis in IDLE, and is ignored elsewhere (R154, R126); slot 4 and AX_STATE show the state at the end of the
frame. -/
def Dev.axCfgWrite (d : Dev) (n : Nat) (value : Word) : Dev :=
  if d.sys.power != .idle then d
  else
    let d := d.setReg (Adr.axCfg n) (value &&& 0x7F07)
    let st : AxState := (d.axis n).motion.st
    let st' : AxState := if bit value 0 then (if st == .noconf then .off else st) else .noconf
    d.modMotion n fun m => { m with st := st' }

/-- AX_CFG_WRITE. -/
def execAxCfgWrite (axis : AxisId) (value : Word) (s : State) : Host.Outcome State Fault Refusal :=
  .next { s with dev := s.dev.axCfgWrite axis.val value }

/-- An address in 0.0.0.0/8, 127.0.0.0/8 or from 224.0.0.0 up. -/
def ipReserved (ip : Word) : Bool :=
  let o := fld ip 24 8
  o == 0 || o == 127 || decide (224 ≤ o)

/-- The network number of an address under a prefix. -/
def ipNet (ip : Word) (len : Nat) : Nat := ip.toNat / 2 ^ (32 - len)

/-- The check of HOST_CFGSAVE (R315). -/
def netConfigOk (ipA ipB net : Word) : Bool :=
  let pa := fld net 0 5
  let pb := fld net 8 5
  let ends (ip : Word) (len : Nat) : Bool :=
    let h := ip.toNat % 2 ^ (32 - len)
    h == 0 || h == 2 ^ (32 - len) - 1
  let m := Nat.min pa pb
  8 ≤ pa && pa ≤ 30 && 8 ≤ pb && pb ≤ 30 && !ipReserved ipA && !ipReserved ipB && !ends ipA pa && !ends ipB pb
    && ipNet ipA m != ipNet ipB m

/-- HOST_CFGSAVE: key 0xB4 checks the three registers and stores them (R315). -/
def Dev.hostCfgsave (d : Dev) (value : Word) : Dev :=
  if fld value 0 8 ≠ 0xB4 then d
  else
    let a := d.reg Adr.hostIpa
    let b := d.reg Adr.hostIpb
    let n := d.reg Adr.hostNetcfg
    if netConfigOk a b n then
      let d := d.setReg Adr.hostCfgstat 0
      { d with host := { d.host with storedIpA := a, storedIpB := b, storedNet := n } }
    else d.setReg Adr.hostCfgstat 0x5020

/-- HOST_CFGSAVE. -/
def execHostCfgsave (value : Word) (s : State) : Host.Outcome State Fault Refusal :=
  .next { s with dev := s.dev.hostCfgsave value }

/-- HOST_WDCFG: 0 or 10–60,000 ms; other values are ignored (R332).  A new time counts from the write. -/
def Dev.hostWdcfg (d : Dev) (value : Word) : Dev :=
  let t := fld value 0 16
  if t = 0 || (10 ≤ t && t ≤ 60000) then
    let d := d.setReg Adr.hostWdcfg (wordOfNat t)
    { d with host := { d.host with wdSince := d.now } }
  else d

/-- CAN_CTRL: a change of EN enables or disables the controller; other bits are stored, and TRIPLE acts at once (R334, R335). -/
def Dev.canCtrlWrite (d : Dev) (c : Nat) (value : Word) : Dev :=
  let on := bit (d.reg (Adr.canCtrl c)) 0
  if bit value 0 && !on then d.canEnable c value
  else if !bit value 0 && on then (d.canDisable c).setReg (Adr.canCtrl c) (value &&& 0x1F)
  else
    let triple := on && bit value 3 && 320 ≤ canNominal (d.reg (Adr.canNbt c))
    (d.setCan c { d.can c with triple := triple }).setReg (Adr.canCtrl c) (value &&& 0x1F)

/-- A register of a CAN controller. -/
def Dev.canWrite (d : Dev) (a : Nat) (value : Word) : Option Dev :=
  let c := (a - 0x220000) / 0x4000
  let o := (a - 0x220000) % 0x4000
  if o = 0x0 then some (d.canCtrlWrite c value)
  else if o = 0x10 then some (d.canRecover c value)
  else if o = 0x14 || o = 0x18 || o = 0x1C then some (d.canTiming c a value)
  else if 0x1000 ≤ o && o < 0x1800 then some (d.canObjectWrite c a value)
  else none

/-- PLC_CTRL: clearing MIGEN during preparation cancels the migration (R115). -/
def Dev.plcCtrlWrite (d : Dev) (value : Word) : Dev :=
  let d := d.setReg Adr.plcCtrl (value &&& 1)
  match d.placer.mig with
  | some m => if !bit value 0 && m.phase != .copying then d.modPlacer fun p => { p with mig := none } else d
  | none => d

/-- TRC_CFG: the branch outcomes gathered for the core that FLOW named go out before another configuration holds (R390). -/
def Dev.trcCfgWrite (d : Dev) (value : Word) : Dev :=
  let old := d.reg Adr.trcCfg
  let new := value &&& 0x1F0F ||| value &&& 0x10000
  (if new = old then d else d.flushBranches (fld old 8 5)).setReg Adr.trcCfg new

/-- A write that triggers an action, or that its unit accepts only under its own conditions. -/
def Dev.writeAction (d : Dev) (a : Nat) (value : Word) : Option Dev :=
  if 0x100000 ≤ a && a < 0x120000 && a % 0x100 = 0 then some (d.axCfgWrite ((a - 0x100000) / 0x100) value)
  else if 0x21000 ≤ a && a < 0x25000 && a % 0x1000 = 8 then some (d.strCommand ((a - 0x21000) / 0x1000) value)
  else if 0x40000 ≤ a && a < 0x50000 && a % 0x1000 = 0x2C then
    some (d.requestRestart ((a - 0x40000) / 0x1000) value)
  else if 0x40000 ≤ a && a < 0x50000 && a % 0x1000 = 0x34 then
    some (d.setRegFld (Adr.sfLoad ((a - 0x40000) / 0x1000)) 16 10 0)
  else if a = Adr.safCmd then some (d.safCmdWrite value)
  else if a = Adr.safUnlock then some (d.safUnlockWrite value)
  else if inSafSet a then some (d.safWrite a value)
  else if inFldConfig a then some (d.fldWrite a value)
  else if 0x220000 ≤ a && a < 0x230000 then d.canWrite a value
  else if a = Adr.hostCfgsave then some (d.hostCfgsave value)
  else if a = Adr.hostWdcfg then some (d.hostWdcfg value)
  else if a = Adr.recAnccmd then some (d.anchorCommand value)
  else if a = Adr.recKeycmd then some (d.keyCommand value)
  else if 0x240040 ≤ a && a < 0x240060 then
    some { d with recorder := { d.recorder with keyWords := smSet 0 d.recorder.keyWords ((a - 0x240040) / 4) value } }
  else if a = Adr.updCmd then some (d.updCommand value)
  else if a = Adr.trcCmd then some (d.trcCommand value)
  else if a = Adr.trcCfg then some (d.trcCfgWrite value)
  else if a = Adr.pairCfg then some (d.pairCfgWrite value)
  else if a = Adr.pairCmd then some (d.pairCmdWrite value)
  else if a = Adr.plcMigreq then some (d.modPlacer fun p => { p with req := some value })
  else if a = Adr.plcCtrl then some (d.plcCtrlWrite value)
  else none

/-- Write the register at an address inside a block (R10): RW stores its implemented bits, W1C clears the bits written 1, RO and an
unassigned address ignore the write. DESIGN CHOICE: notes/assumptions/8.md. -/
def Dev.writeReg (d : Dev) (a : Nat) (value : Word) : Dev :=
  match rowOf a with
  | none => d
  | some r =>
    match d.writeAction a value with
    | some d' => d'
    | none =>
      match r.access with
      | .rw => d.setReg a (value &&& wordOfNat r.mask)
      | .w1c => d.setReg a (d.reg a &&& ~~~ value)
      | .ro => d
      | .wo => d

/-- REGISTER_WRITE: a write to a register without a row of its own. DESIGN CHOICE: notes/assumptions/8.md. -/
def execRegisterWrite (addr value : Word) (s : State) : Host.Outcome State Fault Refusal :=
  .next { s with dev := s.dev.writeReg addr.toNat value }

end Sys2Proof.Machine
end

