-- ==== Sys2Proof/Machine/Services.lean ====
section
/-! DEFINITION. REC.PUT, CONFIRM and the SYS services (R89–R97). -/

namespace Sys2Proof.Machine

/-! ### REC.PUT (R89–R91) -/

/-- The 8-byte prefix of a user record (R90). -/
def userPrefix (c t : Nat) (x : Task) (length : Nat) : List Byte :=
  leBytes 2 (if c = 16 then 0xFFFF else x.door) ++ leBytes 2 (if c = 16 then 0xFFFF else x.ax.toNat / 1024) ++ leBytes 1 t
    ++ leBytes 1 c ++ leBytes 2 length

/-- REC.PUT: the checks in order, then the queue. -/
def recPutEffect (d : Dev) (c t : Nat) (sub a b : Reg) (utype : BitVec 7) (x : Task) : Effect :=
  let addr := (x.g a).toNat
  let len := (x.g b).toNat
  if addr % 4 ≠ 0 then .fault 0xA00B
  else if len % 4 ≠ 0 ∨ len < 4 ∨ 1024 < len then .done 6 (x.setG sub 0x6002).advance id
  else if x.memSize < addr + len then .fault 0xA00A
  else
    let payload := userPrefix c t x len ++ memReads x.mem addr len
    let subj := if c = 16 then 0xFFFF else x.door
    let put (d : Dev) : Dev × Nat := d.putUser c (0x80 + utype.toNat) subj payload
    let code := (put d).2
    .done (if code = 0 then 6 + len / 4 else 6) (x.setG sub (wordOfNat code)).advance fun d => (put d).1

/-- REC.PUT. -/
def execRecPut (core : CoreId) (sub a b : Reg) (utype : BitVec 7) (s : State) : Host.Outcome State Fault Refusal :=
  execInstr core (.recPut core sub a b utype) s fun t x => recPutEffect s.dev core.val t sub a b utype x

/-! ### CONFIRM (R92) -/

/-- CONFIRM: the answer of the update unit. -/
def confirmEffect (d : Dev) (system : Bool) (sub : Reg) (x : Task) : Effect :=
  let code := (d.postConfirm system).2
  .done 4 (x.setG sub (wordOfNat code)).advance fun d => (d.postConfirm system).1.updCode code

/-- CONFIRM. -/
def execConfirm (core : CoreId) (sub : Reg) (s : State) : Host.Outcome State Fault Refusal :=
  execInstr core (.confirm core sub) s fun _ x => confirmEffect s.dev (core.val == 16) sub x

/-! ### SYS (R93–R97) -/

/-- A service completes: status to g(sub), result to g(sub + 1), and its effect. -/
def Effect.service (cycles : Nat) (x : Task) (sub : Reg) (status : Nat) (result : Word) (eff : Dev → Dev) : Effect :=
  .done cycles ((x.setG sub (wordOfNat status)).setG (sub + 1) result).advance eff

/-- A service is refused: nothing changes, and the result is 0. -/
def Effect.refused (cycles : Nat) (x : Task) (sub : Reg) (status : Nat) : Effect := .service cycles x sub status 0 id

/-- The status of R32 for an address; one outside every block is refused as such, aligned or not.
DESIGN CHOICE: notes/assumptions/72.md. -/
def addrStatus (a : Nat) : Nat := if !inBlock a then 0x0101 else if a % 4 ≠ 0 then 0x0102 else 0

/-- The block of an address is SAF. -/
def inSaf (a : Nat) : Bool := 0x200000 ≤ a && a < 0x210000

/-- REG.WRITE reaches the address: the SF, CAN and TRC blocks, and W1C registers outside SAF (R95). -/
def sysWritable (a : Nat) : Bool :=
  (0x40000 ≤ a && a < 0x50000) || (0x220000 ≤ a && a < 0x230000) || (0x260000 ≤ a && a < 0x270000)
    || (!inSaf a && match rowOf a with
      | some r => r.access == .w1c
      | none => false)

/-- REG.READ; of several statuses that apply, the first in the order written here is given. DESIGN CHOICE: notes/assumptions/72.md. -/
def regReadEffect (d : Dev) (system : Bool) (sub a : Reg) (x : Task) : Effect :=
  let addr := (x.g a).toNat
  if !system then .refused 24 x sub 0x0105
  else if addrStatus addr ≠ 0 then .refused 24 x sub (addrStatus addr)
  else if inSaf addr then .refused 24 x sub 0x0103
  else .service 24 x sub 0 (d.readReg addr) fun d => (d.readRegLatch addr).1

/-- SYS_REG_READ. -/
def execSysRegRead (core : CoreId) (sub a b : Reg) (s : State) : Host.Outcome State Fault Refusal :=
  execInstr core (.sysRegRead core sub a b) s fun _ x => regReadEffect s.dev (core.val == 16) sub a x

/-- REG.WRITE. -/
def regWriteEffect (system : Bool) (sub a b : Reg) (x : Task) : Effect :=
  let addr := (x.g a).toNat
  let v := x.g b
  if !system then .refused 24 x sub 0x0105
  else if addrStatus addr ≠ 0 then .refused 24 x sub (addrStatus addr)
  else if !sysWritable addr then .refused 24 x sub 0x0103
  else .service 24 x sub 0 0 fun d => d.writeReg addr v

/-- SYS_REG_WRITE. -/
def execSysRegWrite (core : CoreId) (sub a b : Reg) (s : State) : Host.Outcome State Fault Refusal :=
  execInstr core (.sysRegWrite core sub a b) s fun _ x => regWriteEffect (core.val == 16) sub a b x

/-- TRC.MARK: the marker enters the trace stream. -/
def trcMarkEffect (c : Nat) (sub a : Reg) (x : Task) : Effect :=
  let v := x.g a
  .service 4 x sub 0 0 fun d => (d.traceMark c v).countEvent 15 0 1

/-- TRC_MARK. -/
def execTrcMark (core : CoreId) (sub a b : Reg) (s : State) : Host.Outcome State Fault Refusal :=
  execInstr core (.trcMark core sub a b) s fun _ x => trcMarkEffect core.val sub a x

/-- CNT.READ. -/
def cntReadEffect (d : Dev) (sub a : Reg) (x : Task) : Effect :=
  let i := (x.g a).toNat
  if 255 < i then .refused 8 x sub 0x0106 else .service 8 x sub 0 (smGet 0 d.trace.counters i) id

/-- SYS_CNT_READ. -/
def execSysCntRead (core : CoreId) (sub a b : Reg) (s : State) : Host.Outcome State Fault Refusal :=
  execInstr core (.sysCntRead core sub a b) s fun _ x => cntReadEffect s.dev sub a x

/-- IMG_STATE: the image state word (R96). -/
def execImgState (core : CoreId) (sub a b : Reg) (s : State) : Host.Outcome State Fault Refusal :=
  execInstr core (.imgState core sub a b) s fun _ x => .service 8 x sub 0 s.dev.upd.stateWord id

/-- AX.CTRL writes slots 96–98 of the axis selected by ax, with VALID set; on slots 99–127 it changes nothing (R95, R180).  A write
of CYCCTL to an unforced slot 96 is acted on in the next frame; of several in one frame the last stands. -/
def Dev.axControl (d : Dev) (c axis slot : Nat) (v : Word) : Dev :=
  if 98 < slot then d
  else
    let n := slotSig axis slot
    let forced := (d.sig n).forced
    let d := d.sigHome n v true false c
    if slot = 96 && !forced then d.modCycle axis fun y => { y with ctl := (y.ctl.filter fun w => w.2 != d.sys.frame) ++ [(v, d.sys.frame)] }
    else d

/-- AX.CTRL. -/
def axCtrlEffect (c : Nat) (sub a b : Reg) (x : Task) : Effect :=
  let slot := (x.g a).toNat
  let v := x.g b
  let axis := x.ax.toNat / 1024
  if c = 16 then .refused 4 x sub 0x0105
  else if slot < 96 ∨ 127 < slot then .refused 4 x sub 0x0106
  else .service 4 x sub 0 0 fun d => d.axControl c axis slot v

/-- AX_CTRL. -/
def execAxCtrl (core : CoreId) (sub a b : Reg) (s : State) : Host.Outcome State Fault Refusal :=
  execInstr core (.axCtrl core sub a b) s fun _ x => axCtrlEffect core.val sub a b x

/-- INST.RESTART: the same request as SF_INSTRST with the key of R58. -/
def instRestartEffect (c : Nat) (sub a b : Reg) (x : Task) : Effect :=
  let sheaf := (x.g a).toNat
  let inst := (x.g b).toNat
  if c ≠ 16 then .refused 8 x sub 0x0105
  else if 15 < sheaf ∨ 31 < inst then .refused 8 x sub 0x0106
  else .service 8 x sub 0 0 fun d => d.requestRestart sheaf (fields [(0, inst), (24, 0xA5)])

/-- INST_RESTART. -/
def execInstRestart (core : CoreId) (sub a b : Reg) (s : State) : Host.Outcome State Fault Refusal :=
  execInstr core (.instRestart core sub a b) s fun _ x => instRestartEffect core.val sub a b x

/-- SYS_NO_SERVICE: refused with 0x0104. -/
def execSysNoService (core : CoreId) (sub a b : Reg) (service : BitVec 10) (s : State) : Host.Outcome State Fault Refusal :=
  execInstr core (.sysNoService core sub a b service) s fun _ x => .refused 4 x sub 0x0104

end Sys2Proof.Machine
end

