-- ==== Sys2Proof/Machine/Vhp.lean ====
section
/-! DEFINITION. The Vobry host protocol (R316–R327, R329): the datagram, its checks and the request queue, the endpoints with
their held responses, and the requests other than STATE.  A row that executes a request acts on the front of the queue, and
only when that request is of its kind. -/

namespace Sys2Proof.Machine

/-! ### Datagrams (R316) -/

/-- A VHP datagram. -/
def vhpDatagram (vtype : Nat) (seq : Word) (status : Nat) (frame : Word) (payload : List Byte) : List Byte :=
  let body := [0x56, 0x48, 0x01] ++ leBytes 1 vtype ++ leBytes 4 seq.toNat ++ leBytes 2 payload.length ++ leBytes 2 status
    ++ leBytes 4 frame.toNat ++ payload
  body ++ leBytes 4 (crc32c body).toNat

/-- The host ports are up: IDLE, RUN and ROAST, out of reset (R314). -/
def Dev.hostPortsUp (d : Dev) : Bool :=
  (d.operating || d.sys.power == .roast) && d.sys.reset.isNone && d.sys.starting.isNone

/-- Change the host unit. -/
def Dev.modHost (d : Dev) (f : HostUnit → HostUnit) : Dev := { d with host := f d.host }

/-- A frame is sent or received on a port (R443). -/
def HostUnit.seen (h : HostUnit) (port now : Nat) : HostUnit :=
  if port = 0 then { h with lastA := some now } else { h with lastB := some now }

/-- The port takes a frame (R443). -/
def Dev.frameSeen (d : Dev) (port : Nat) : Dev := d.modHost fun h => h.seen port d.now

/-- A frame that comes to nothing has reached the port all the same, where it is powered (R443). DEDUCED: notes/assumptions/54.md. -/
def Dev.frameCame (d : Dev) (port : Nat) : Dev := if d.hostPortsUp then d.frameSeen port else d

/-- A host port's IPv4 address in effect. -/
def HostUnit.ip (h : HostUnit) (port : Nat) : Word := if port = 0 then h.liveIpA else h.liveIpB

/-- A host port's own MAC address (R315). -/
def ownMac (port : Nat) : BitVec 48 := Config.mac (if port = 0 then 0 else 1)

/-- The Ethernet broadcast address. -/
def broadcastMac : BitVec 48 := 0xFFFFFFFFFFFF

/-- The port takes a received frame of a length (R313): Ethernet II without a tag, at most 1,518 bytes, a good FCS, the port's own
address, or broadcast for ARP. -/
def linkTaken (l : LinkIn) (size : Nat) (arp : Bool) : Bool :=
  l.fcsGood && !l.vlan && size ≤ 1518 && (l.dst == ownMac l.port.val || (arp && l.dst == broadcastMac))

/-- The port takes a received IPv4 datagram with a UDP or ICMP payload of a length: no options, no fragment, its own address (R313). -/
def linkIpTaken (l : LinkIn) (h : HostUnit) (n : Nat) : Bool :=
  linkTaken l (46 + n) false && l.header == 20 && !l.fragment && l.toIp == h.ip l.port.val

/-- The port takes a received UDP datagram to one of its UDP ports; a checksum of 0 is accepted (R313).
DEDUCED: notes/assumptions/54.md. -/
def linkUdpTaken (l : LinkIn) (h : HostUnit) (n : Nat) (udp : BitVec 16) : Bool :=
  linkIpTaken l h n && l.toPort == udp && l.sum != .bad

/-- The 16-bit words of a byte sequence, the first byte of each the upper one, an odd last byte padded with 0. -/
def words16 : List Byte → List Nat
  | a :: b :: r => (a.toNat * 256 + b.toNat) :: words16 r
  | [a] => [a.toNat * 256]
  | [] => []

/-- The checksum of a UDP datagram from a port: the one's complement of the one's-complement sum over the pseudo-header, the header
and the payload, with 0 sent as 0xFFFF. PRESUMED: notes/assumptions/75.md. -/
def udpSum (src dst : Word) (udp : BitVec 16) (bytes : List Byte) : BitVec 16 :=
  let n := bytes.length + 8
  let l := words16 (beBytes 4 src.toNat ++ beBytes 4 dst.toNat ++ beBytes 2 17 ++ beBytes 2 n ++ beBytes 2 48200 ++ beBytes 2 udp.toNat
    ++ beBytes 2 n ++ bytes)
  let s := l.foldl (fun s w => if s + w < 65536 then s + w else s + w - 65535) 0
  if s = 65535 then 0xFFFF else BitVec.ofNat 16 (65535 - s)

/-- Send a datagram from the command port to an endpoint, with DF set, TTL 64 and a checksum (R313). -/
def Dev.sendVhp (d : Dev) (port : Nat) (mac : BitVec 48) (ip : Word) (udp : BitVec 16) (bytes : List Byte) : Dev :=
  (d.frameSeen port).modHost fun h => { h with tx := h.tx ++ [{ port := port, kind := 0, mac := mac, df := true, ttl := 64,
                                                                  sum := udpSum (h.ip port) ip udp bytes, ip := ip, udp := udp, bytes := bytes }] }

/-! ### Acceptance and shape (R317, R321–R324) -/

/-- The command types (R320). -/
def vhpTypes : List Nat := [0x01, 0x02, 0x03, 0x04, 0x05, 0x06, 0x07, 0x10, 0x11, 0x20, 0x21, 0x22, 0x40, 0x41, 0x50, 0x51]

/-- The words a register request names all lie in the PAIR block. -/
def inPairBlock (p : List Byte) : Bool :=
  0x270000 ≤ leAt p 0 4 && leAt p 0 4 + 4 * leAt p 4 2 ≤ 0x280000

/-- Check 8: accepted in the power state and the role (R321); 0 where it is. -/
def Dev.vhpAccept (d : Dev) (t : Nat) (p : List Byte) : Nat :=
  if d.sys.power == .roast then (if t = 0x01 ∨ t = 0x07 then 0 else 0x500A)
  else if d.pair.role == .standby then
    if [0x01, 0x07, 0x03, 0x11, 0x20, 0x40, 0x41].contains t || (t == 0x02 && inPairBlock p) then 0 else 0x5009
  else 0

/-- Whether a number lies in a range. -/
def within (v lo hi : Nat) : Bool := lo ≤ v && v ≤ hi

/-- A length field that is a multiple of four, from 4 to 1,024. -/
def length4 (v : Nat) : Bool := within v 4 1024 && v % 4 == 0

/-- What checks 9, 10 and 11 find in a payload: its fields are in range, the bytes its listed fields take, whether its length is fixed
at that by a count or length field or by the word Empty, and offset plus length within the buffer.  Bytes beyond the payload read 0.
DEDUCED: notes/assumptions/49.md. -/
structure Shape where
  ok : Bool
  size : Nat
  exact : Bool
  fits : Bool

/-- The shape of a payload of a type. DEDUCED: notes/assumptions/49.md. -/
def vhpShape (t : Nat) (p : List Byte) : Shape :=
  let f (o n : Nat) : Nat := leAt p o n
  match t with
  | 0x01 => ⟨within (f 4 2) 1 256, 6, false, true⟩
  | 0x02 => ⟨within (f 4 2) 1 256 && f 6 2 == 0, 8 + 4 * f 4 2, true, true⟩
  | 0x03 => ⟨within (f 0 2) 1 176 && within (f 2 1) 0 1 && f 3 1 == 0, 4 + 4 * (if f 2 1 = 1 then 1 else f 0 2), true, true⟩
  | 0x04 =>
    ⟨within (f 0 2) 1 175 && within (f 2 1) 0 3 && f 3 1 == 0
      && (List.range (Nat.min 175 (f 0 2))).all (fun i => decide (f (4 + 8 * i) 4 < 2 ^ 20)), 4 + 8 * f 0 2, true, true⟩
  | 0x05 => ⟨true, 1, false, true⟩
  | 0x06 => ⟨true, 4, false, true⟩
  | 0x10 => ⟨within (f 4 2) 1 1024 && f 6 2 == 0, 8 + f 4 2, true, decide (f 0 4 + f 4 2 ≤ slotSize)⟩
  | 0x20 =>
    if f 0 1 = 0 then ⟨f 1 1 == 0, 8, false, true⟩
    else if f 0 1 = 1 then ⟨f 1 1 == 0, 12, false, true⟩
    else ⟨f 0 1 == 2 && f 1 1 == 0 && decide (f 2 2 < 512) && f 4 2 % 4 == 0 && length4 (f 6 2), 8, false, decide (f 4 2 + f 6 2 ≤ 8192)⟩
  | 0x22 => ⟨true, 48, false, true⟩
  | 0x40 => ⟨length4 (f 4 2), 6, false, decide (f 0 4 + f 4 2 ≤ 134217728)⟩
  | 0x41 => ⟨f 1 1 == 0 && within (f 2 2) 1 256, 4, false, decide (f 0 1 + f 2 2 ≤ 256)⟩
  | 0x50 => ⟨within (f 0 1) 0 3 && f 3 1 == 0 && within (f 4 2) 1 1392 && f 6 2 == 0, 8 + f 4 2, true, true⟩
  | 0x51 => ⟨within (f 0 1) 0 3, 2, false, true⟩
  | _ => ⟨true, 0, true, true⟩

/-- Checks 9 to 11: 0 where the payload passes.  Bytes after the listed fields are fields not listed, and so must be 0.
DEDUCED: notes/assumptions/49.md. -/
def vhpParse (t : Nat) (p : List Byte) : Nat :=
  let s := vhpShape t p
  let zeros := s.exact || (p.drop s.size).all fun b => b == 0
  let long := if s.exact then p.length == s.size else decide (s.size ≤ p.length)
  if !s.ok || !zeros then 0x5005 else if !long then 0x5006 else if !s.fits then 0x5007 else 0

/-! ### Endpoints and held responses (R318) -/

/-- An endpoint's held entry of a SEQ. -/
def Endpoint.find (e : Endpoint) (seq : Word) : Option Held := e.held.find? fun h => h.seq == seq

/-- The endpoint of an address, an empty one where it is not kept. -/
def HostUnit.endpoint (h : HostUnit) (ip : Word) (udp : BitVec 16) : Endpoint :=
  match h.endpoints.find? fun e => e.ip == ip && e.udp == udp with
  | some e => e
  | none => { ip := ip, udp := udp, held := [] }

/-- Keep an endpoint as the one heard from last, of the eight. -/
def HostUnit.hear (h : HostUnit) (e : Endpoint) : HostUnit :=
  { h with endpoints := (e :: h.endpoints.filter fun x => !(x.ip == e.ip && x.udp == e.udp)).take 8 }

/-- Hold a new SEQ, the newest of the sixteen. -/
def Endpoint.hold (e : Endpoint) (h : Held) : Endpoint := { e with held := (h :: e.held).take 16 }

/-- Hold the response of a request. -/
def HostUnit.answer (h : HostUnit) (q : VReq) (bytes : List Byte) : HostUnit :=
  let put (x : Held) : Held := if x.seq == q.seq && x.crc == q.crc then { x with response := some bytes } else x
  { h with endpoints := h.endpoints.map fun e => if e.ip == q.ip && e.udp == q.udp then { e with held := e.held.map put } else e }

/-- Answer a request: the response is held and sent once on each port on which a copy arrived. -/
def Dev.vhpReply (d : Dev) (q : VReq) (status : Nat) (payload : List Byte) (frame : Word) : Dev :=
  let bytes := vhpDatagram ((q.vtype + 0x80) % 256) q.seq status frame payload
  q.ports.foldl (fun d p => d.sendVhp p.1 p.2 q.ip q.udp bytes) (d.modHost fun h => h.answer q bytes)

/-- The request at the front of the queue completes. -/
def Dev.respond (d : Dev) (q : VReq) (status : Nat) (payload : List Byte) (frame : Word) : Dev :=
  let d := d.vhpReply q status payload frame
  ((d.modHost fun h => { h with queue := h.queue.drop 1, executing := false }).incReg Adr.hostRxcnt).countEvent 13 0 1

/-- A further port on which a copy of a waiting request arrived. -/
def HostUnit.copyOn (h : HostUnit) (q : VReq) : HostUnit :=
  let same (x : VReq) : Bool := x.ip == q.ip && x.udp == q.udp && x.seq == q.seq && x.crc == q.crc
  { h with queue := h.queue.map fun x =>
      if same x && !x.ports.any (fun p => p.1 == q.port) then { x with ports := x.ports ++ [(q.port, q.mac)] } else x }

/-! ### Receiving (R317) -/

/-- Check 7 and later, on a request whose SEQ is new. DEDUCED: notes/assumptions/50.md. -/
def Dev.vhpNew (d : Dev) (q : VReq) : Dev :=
  let e := (d.host.endpoint q.ip q.udp).hold { seq := q.seq, crc := q.crc, response := none }
  let d := d.modHost fun h => h.hear e
  if 32 ≤ d.host.queue.length then d.vhpReply q 0x5008 [] d.sys.frame
  else
    let a := d.vhpAccept q.vtype q.payload
    if a ≠ 0 then d.vhpReply q a [] d.sys.frame
    else
      let d := d.modHost fun h => { h with wdSince := d.now, wdExp := false }
      let c := vhpParse q.vtype q.payload
      if c ≠ 0 then d.vhpReply q c [] d.sys.frame
      else d.modHost fun h => { h with queue := h.queue ++ [q] }

/-- Check 6: a SEQ held for the endpoint is a repeat, or is refused with 0x500B. DEDUCED: notes/assumptions/50.md. -/
def Dev.vhpRepeat (d : Dev) (q : VReq) (x : Held) : Dev :=
  let d := d.modHost fun h => h.hear (h.endpoint q.ip q.udp)
  if x.crc ≠ q.crc then d.sendVhp q.port q.mac q.ip q.udp (vhpDatagram ((q.vtype + 0x80) % 256) q.seq 0x500B d.sys.frame [])
  else match x.response with
    | some bytes => d.sendVhp q.port q.mac q.ip q.udp bytes
    | none => d.modHost fun h => h.copyOn q

/-- The first of checks 2 to 5 that a datagram fails; 0 where it passes them. -/
def vhpHeader (bytes : List Byte) : Nat :=
  let len := leAt bytes 8 2
  if leAt bytes 2 1 ≠ 1 then 0x5001
  else if !vhpTypes.contains (leAt bytes 3 1) then 0x5002
  else if 1408 < len then 0x5003
  else if bytes.length ≠ 20 + len then 0x5004
  else 0

/-- Check 1. -/
def vhpIntact (bytes : List Byte) : Bool :=
  let n := bytes.length
  20 ≤ n && leAt bytes 0 2 == 0x4856 && wordOfNat (leAt bytes (n - 4) 4) == crc32c (bytes.take (n - 4))

/-- A command datagram: the checks of R317 in order. -/
def Dev.vhpReceive (d : Dev) (port : Nat) (mac : BitVec 48) (ip : Word) (udp : BitVec 16) (bytes : List Byte) : Dev :=
  let t := leAt bytes 3 1
  let seq := wordOfNat (leAt bytes 4 4)
  let code := vhpHeader bytes
  if !vhpIntact bytes then d.incReg Adr.hostRxdrop
  else if code ≠ 0 then d.sendVhp port mac ip udp (vhpDatagram ((t + 0x80) % 256) seq code d.sys.frame [])
  else
    let q : VReq := { port := port, ip := ip, udp := udp, vtype := t, seq := seq,
                      crc := wordOfNat (leAt bytes (bytes.length - 4) 4), payload := slice bytes 16 (leAt bytes 8 2), mac := mac, ports := [(port, mac)] }
    match (d.host.endpoint ip udp).find seq with
    | some x => d.vhpRepeat q x
    | none => d.vhpNew q

/-- What is held in DRAM is lost: the capture buffers and the trace buffer (R385, test 7). -/
def Dev.wipeDram (d : Dev) : Dev :=
  { d with axes := d.axes.map (fun a => (a.1, ({ a.2 with cycle := { a.2.cycle with buffers := [] } } : Axis))),
           trace := { d.trace with buffer := [] } }

/-- In ROAST the test in progress is a free value that never falls back to an earlier test; in test 3 the host unit is scanned and the
datagram is discarded unanswered (R385). DESIGN CHOICE: notes/assumptions/53.md. -/
def Dev.roastTestNow (d : Dev) : Dev × Nat :=
  let lo := Nat.max 1 d.sys.roastTest
  let t := lo + Config.roastTest d.sys.free % (12 - lo)
  let d : Dev := { d with sys := { d.sys with free := d.sys.free + 1, roastTest := t } }
  (if 7 < t then d.wipeDram else d, t)

/-- VHP_DATAGRAM_RECEIVED: a frame that the port does not take is discarded silently (R313); one that finds the receive buffer full is
discarded and counted, with 0x5042 (R331, R332). DEDUCED: notes/assumptions/54.md. -/
def execVhpDatagramReceived (link : LinkIn) (ip : Word) (udp : BitVec 16) (bytes : List Byte) (s : State) : Host.Outcome State Fault Refusal :=
  let d := s.dev
  let p := link.port.val
  if !d.hostPortsUp || !linkUdpTaken link d.host bytes.length 48200 then .next { s with dev := d.frameCame p }
  else if link.full then .next { s with dev := (((d.frameSeen p).incReg Adr.hostRxdrop).orReg Adr.hostFlags 8).eventRep 0x5042 0xFFFF }
  else if d.sys.power == .roast then
    let r := (d.frameSeen p).roastTestNow
    .next { s with dev := if r.2 = 3 then r.1 else r.1.vhpReceive p link.src ip udp bytes }
  else .next { s with dev := (d.frameSeen p).vhpReceive p link.src ip udp bytes }

/-! ### Executing (R319) -/

/-- The request that executes next, where it meets a test. -/
def Dev.vhpFront (d : Dev) (test : VReq → Bool) : Option VReq :=
  match d.host.queue with
  | [] => none
  | q :: _ => if !d.host.executing && d.hostPortsUp && test q then some q else none

/-- Execute a request: one no longer accepted is refused, otherwise its effect gives the status and the payload. -/
def Dev.vhpRun (d : Dev) (q : VReq) (f : Dev → VReq → Dev × Nat × List Byte) : Dev :=
  let a := d.vhpAccept q.vtype q.payload
  if a ≠ 0 then d.respond q a [] d.sys.frame
  else
    let r := f d q
    r.1.respond q r.2.1 r.2.2 d.sys.frame

/-- Execute the request at the front of the queue, where it meets a test. -/
def vhpServe (test : VReq → Bool) (f : Dev → VReq → Dev × Nat × List Byte) (s : State) : Host.Outcome State Fault Refusal :=
  match s.dev.vhpFront test with
  | none => .next s
  | some q => .next { s with dev := s.dev.vhpRun q f }

/-! ### Registers and identity (R322) -/

/-- The addresses of a register request. -/
def VReq.addresses (q : VReq) : List Nat := (List.range (leAt q.payload 4 2)).map fun i => leAt q.payload 0 4 + 4 * i

/-- The first address of a list that fails the check of R32, as its status; 0 where none does. -/
def addrsStatus (l : List Nat) : Nat :=
  match l.find? fun a => addrStatus a != 0 with
  | some a => addrStatus a
  | none => 0

/-- REG.READ: the words one at a time in ascending order. -/
def Dev.vhpRegRead (d : Dev) (q : VReq) : Dev × Nat × List Byte :=
  let l := q.addresses
  let c := addrsStatus l
  if c ≠ 0 then (d, c, [])
  else
    let r := l.foldl (fun (r : Dev × List Byte) a =>
      let y := r.1.readRegLatch a
      (y.1, r.2 ++ leBytes 4 y.2.toNat)) (d, [])
    (r.1, 0, r.2)

/-- VHP_REG_READ. -/
def execVhpRegRead (s : State) : Host.Outcome State Fault Refusal := vhpServe (fun q => q.vtype == 0x01) Dev.vhpRegRead s

/-- REG.WRITE. -/
def Dev.vhpRegWrite (d : Dev) (q : VReq) : Dev × Nat × List Byte :=
  let l := q.addresses
  let c := addrsStatus l
  if c ≠ 0 then (d, c, [])
  else (l.zipIdx.foldl (fun d a => d.writeReg a.1 (wordOfNat (leAt q.payload (8 + 4 * a.2) 4))) d, 0, [])

/-- VHP_REG_WRITE. -/
def execVhpRegWrite (s : State) : Host.Outcome State Fault Refusal := vhpServe (fun q => q.vtype == 0x02) Dev.vhpRegWrite s

/-- IDENT. -/
def Dev.vhpIdent (d : Dev) (_ : VReq) : Dev × Nat × List Byte :=
  (d, 0, leBytes 4 Config.serial.toNat ++ leBytes 4 Config.bootVersion.toNat ++ leBytes 4 d.upd.runPairId.toNat
    ++ leBytes 1 d.sys.power.code ++ leBytes 1 d.pair.role.code ++ [1, 0] ++ leBytes 2 1408)

/-- IDENT. -/
def execIdent (s : State) : Host.Outcome State Fault Refusal := vhpServe (fun q => q.vtype == 0x07) Dev.vhpIdent s

/-- COMMISSION: the island's answer (R252). -/
def Dev.vhpCommission (d : Dev) (q : VReq) : Dev × Nat × List Byte :=
  let r := d.commission (wordOfNat (leAt q.payload 0 4))
  (r.1, r.2, [])

/-- COMMISSION. -/
def execCommission (s : State) : Host.Outcome State Fault Refusal := vhpServe (fun q => q.vtype == 0x06) Dev.vhpCommission s

/-! ### Signals (R322, R325–R327) -/

/-- The signal numbers of SIG.READ: a list, or a range from the first. -/
def VReq.readSignals (q : VReq) : List Nat :=
  (List.range (leAt q.payload 0 2)).map fun i =>
    if leAt q.payload 2 1 = 1 then leAt q.payload 4 4 + i else leAt q.payload (4 + 4 * i) 4

/-- SIG.READ: value and quality word of each; a host read never marks a signal read, and it returns the live store of slots 0–15 of an
axis, not the pool's copy. DESIGN CHOICE: notes/assumptions/70.md. -/
def Dev.vhpSigRead (d : Dev) (q : VReq) : Dev × Nat × List Byte :=
  (q.readSignals.foldl (fun d n => if d.sigExists n then d.countStore n else d) d, 0, q.readSignals.flatMap fun n => let x := d.sig n; leBytes 4 x.value.toNat ++ leBytes 4 x.qualityWord.toNat)

/-- SIG_READ. -/
def execSigRead (s : State) : Host.Outcome State Fault Refusal := vhpServe (fun q => q.vtype == 0x03) Dev.vhpSigRead s

/-- The entries of SIG.WRITE: signal number and value. -/
def VReq.entries (q : VReq) : List (Nat × Word) :=
  (List.range (leAt q.payload 0 2)).map fun i => (leAt q.payload (4 + 8 * i) 4 % 2 ^ 20, wordOfNat (leAt q.payload (8 + 8 * i) 4))

/-- A write or write-invalid by the host: a FORCED signal takes the value and stays FORCED. -/
def Dev.hostWrite (d : Dev) (n : Nat) (v : Word) (valid : Bool) : Dev × Nat :=
  if !d.sigExists n then (d, 0x5011)
  else if !d.sigAllows n .host then (d, 0x5010)
  else
    let d : Dev := if (d.sig n).forced then d else { d with hidden := smDel d.hidden n }
    ((d.countStore n).sigStore n v valid false 0x11, 0)

/-- A force: the value is stored and FORCED set; a forced request header reaches its home as any write does (R343). -/
def Dev.hostForce (d : Dev) (n : Nat) (v : Word) : Dev × Nat :=
  if !d.sigExists n then (d, 0x5011)
  else if !d.sigForceable n then (d, 0x5012)
  else
    let d := (d.hide n).countStore n
    let x := d.sig n
    let d := (d.setSig n { x with q := (x.q ||| 0x10) &&& 0x1F }).sigStore n v true false 0x11
    match d.region n with
    | .can =>
      let p := d.canPlace n
      (if p.2.2 = 0 then d.canRequest p.1 p.2.1 v true else d, 0)
    | _ => (d, 0)

/-- A release: FORCED clears and the value stays; in tier 2 that is a write of its store (R420). DESIGN CHOICE:
notes/assumptions/79.md. -/
def Dev.hostRelease (d : Dev) (n : Nat) : Dev × Nat :=
  let x := d.sig n
  if !d.sigExists n then (d, 0x5011)
  else if !x.forced then (d, 0x5012)
  else ((d.countStore n).setSig n { x with q := x.q &&& 0x0F }, 0)

/-- One entry of a SIG.WRITE in its mode. DEDUCED: notes/assumptions/51.md. -/
def Dev.hostEntry (d : Dev) (mode : Nat) (e : Nat × Word) : Dev × Nat :=
  match mode with
  | 0 => d.hostWrite e.1 e.2 true
  | 1 => d.hostWrite e.1 e.2 false
  | 2 => d.hostForce e.1 e.2
  | _ => d.hostRelease e.1

/-- The command mailbox of a signal. -/
def mailboxOf (n : Nat) : Option Nat := if 0x85000 ≤ n && n ≤ 0x857FF then some ((n - 0x85000) / 16) else none

/-- What a SIG.WRITE has done so far: the module, the first refused entry with its code, the mailboxes written. -/
structure SigRun where
  dev : Dev
  bad : Option (Nat × Nat)
  boxes : List Nat

/-- SIG.WRITE: the entries in the order listed, each accepted or refused by itself, then one trigger for each command mailbox
written. DEDUCED: notes/assumptions/51.md. -/
def Dev.vhpSigWrite (d : Dev) (q : VReq) : Dev × Nat × List Byte :=
  let mode := leAt q.payload 2 1
  let start : SigRun := { dev := d, bad := none, boxes := [] }
  let r := q.entries.zipIdx.foldl (fun (r : SigRun) e =>
    let y := r.dev.hostEntry mode e.1
    if y.2 ≠ 0 then { r with bad := (match r.bad with
      | some b => some b
      | none => some (e.2, y.2)) }
    else
      let boxes := match mailboxOf e.1.1 with
        | some m => if mode < 3 && !r.boxes.contains m then r.boxes ++ [m] else r.boxes
        | none => r.boxes
      { r with dev := y.1, boxes := boxes }) start
  let d := r.boxes.foldl (fun d m => d.fireTriggers fun g => match g with
    | .mailbox k => k == m
    | _ => false) r.dev
  match r.bad with
  | some (i, c) => (d, c, leBytes 2 i)
  | none => (d, 0, [])

/-- A SIG.WRITE of one mode. -/
def sigMode (mode : Nat) (q : VReq) : Bool := q.vtype == 0x04 && leAt q.payload 2 1 == mode

/-- SIG_WRITE, mode 0. -/
def execSigWrite (s : State) : Host.Outcome State Fault Refusal := vhpServe (sigMode 0) Dev.vhpSigWrite s

/-- SIG_WRITE_INVALID, mode 1. -/
def execSigWriteInvalid (s : State) : Host.Outcome State Fault Refusal := vhpServe (sigMode 1) Dev.vhpSigWrite s

/-- SIG_FORCE, mode 2. -/
def execSigForce (s : State) : Host.Outcome State Fault Refusal := vhpServe (sigMode 2) Dev.vhpSigWrite s

/-- SIG_RELEASE, mode 3. -/
def execSigRelease (s : State) : Host.Outcome State Fault Refusal := vhpServe (sigMode 3) Dev.vhpSigWrite s

/-! ### Update, trace and counters (R323) -/

/-- UPD_BLOCK: `programmed` says whether the flash took the bytes. -/
def execUpdBlock (programmed : Bool) (s : State) : Host.Outcome State Fault Refusal :=
  vhpServe (fun q => q.vtype == 0x10) (fun d q =>
    let r := d.updBlock (leAt q.payload 0 4) (q.payload.drop 8) programmed
    (r.1.updCode r.2, r.2, [])) s

/-- UPD_STATUS: the registers at offsets 0x000–0x01C. -/
def execUpdStatus (s : State) : Host.Outcome State Fault Refusal :=
  vhpServe (fun q => q.vtype == 0x11) (fun d _ =>
    (d, 0, (List.range 8).flatMap fun i => leBytes 4 (d.readReg (0x250000 + 4 * i)).toNat)) s

/-- TRC_READ: bytes of the trace buffer. -/
def execTrcRead (s : State) : Host.Outcome State Fault Refusal :=
  vhpServe (fun q => q.vtype == 0x40) (fun d q =>
    (d.dramBytes (leAt q.payload 0 4) (leAt q.payload 4 2), 0, memReads d.trace.buffer (leAt q.payload 0 4) (leAt q.payload 4 2))) s

/-- VHP_CNT_READ: event counters. -/
def execVhpCntRead (s : State) : Host.Outcome State Fault Refusal :=
  vhpServe (fun q => q.vtype == 0x41) (fun d q =>
    (d, 0, (List.range (leAt q.payload 2 2)).flatMap fun i =>
      leBytes 4 (smGet 0 d.trace.counters (leAt q.payload 0 1 + i)).toNat)) s

/-! ### The recorder's requests (R323, R365, R366, R368) -/

/-- The bytes of consecutive records from an offset in the first, up to a room, with the record and offset that follow. -/
def gatherRecords : List Record → Nat → Nat → List Byte × Option (Record × Nat)
  | [], _, _ => ([], none)
  | r :: rs, off, room =>
    if room = 0 then ([], some (r, off))
    else
      let b := r.bytes.drop off
      if room < b.length then (b.take room, some (r, off + room))
      else
        let y := gatherRecords rs 0 (room - b.length)
        (b ++ y.1, y.2)

/-- The response payload of a record read. -/
def recordPayload (seq : Word) (off : Nat) (data : List Byte) (nextSeq : Word) (nextOff flags : Nat) : List Byte :=
  leBytes 4 seq.toNat ++ leBytes 2 off ++ leBytes 2 data.length ++ leBytes 4 nextSeq.toNat ++ leBytes 2 nextOff
    ++ leBytes 1 flags ++ [0] ++ data

/-- Whether a sequence number that no held record has names an earlier place: it is at most 2³¹ before REC_NEXTSEQ (R361), or nearer after a
record of the Seed area than after REC_NEXTSEQ. DEDUCED: notes/assumptions/52.md. -/
def Recorder.named (r : Recorder) (seq : Word) : Bool :=
  let age := (r.nextSeq - seq).toNat
  let ahead := (seq - r.nextSeq).toNat
  (0 < age && age ≤ 2 ^ 31) || r.seed.any fun x => decide ((seq - x.seq).toNat < ahead)

/-- The record with a sequence number, or the next one held after it, and all that follow: the Seed area, then the ring (R365). -/
def Recorder.readFrom (r : Recorder) (seq : Word) : List Record :=
  let all := r.seed ++ r.chaff
  let ahead (x : Record) : Nat := (x.seq - seq).toNat
  if all.any fun x => x.seq == seq then all.dropWhile fun x => x.seq != seq
  else if !r.named seq then []
  else
    let later := (all.map ahead).filter (· < (r.nextSeq - seq).toNat)
    let least := later.foldl Nat.min (2 ^ 32)
    all.dropWhile fun x => ahead x != least

/-- REC.READ form 0: the Seed area, then the ring, by sequence number (R365). DEDUCED: notes/assumptions/52.md. -/
def Recorder.readRecords (r : Recorder) (seq : Word) (off : Nat) : List Byte :=
  let after := r.readFrom seq
  let gone := match after with
    | x :: _ => x.seq != seq
    | [] => false
  let off := if gone then 0 else off
  let past := match after with
    | x :: _ => decide (x.size ≤ off)
    | [] => false
  let l := if past then after.drop 1 else after
  let off := if past then 0 else off
  match l with
  | [] => recordPayload r.nextSeq 0 [] r.nextSeq 0 (b2n gone + 2)
  | x :: _ =>
    let y := gatherRecords l off 1392
    let next := match y.2 with
      | some (z, o) => (z.seq, o)
      | none => (r.nextSeq, 0)
    recordPayload x.seq off y.1 next.1 next.2 (b2n gone)

/-- REC_READ_RECORDS. -/
def execRecReadRecords (s : State) : Host.Outcome State Fault Refusal :=
  vhpServe (fun q => q.vtype == 0x20 && leAt q.payload 0 1 == 0) (fun d q =>
    (d, 0, d.recorder.readRecords (wordOfNat (leAt q.payload 4 4)) (leAt q.payload 2 2))) s

/-- REC.READ form 1: a capture buffer by axis cycle count (R175). -/
def Dev.captureRead (d : Dev) (axis : Nat) (cycle : Word) (first : Nat) : Nat × List Byte :=
  if !d.axConfigured axis then (0x2821, [])
  else
    match (d.axis axis).cycle.buffers.find? fun b => b.2.cycle == cycle with
    | none => (0x2820, [])
    | some b =>
      let x := b.2
      let l := (x.entries.reverse.drop first).take 350
      (0, leBytes 4 x.count ++ leBytes 2 l.length ++ leBytes 1 (b2n x.truncated + 2 * b2n x.inProgress + 4 * b2n x.incomplete) ++ [0]
        ++ l.flatMap fun w => leBytes 4 w.toNat)

/-- REC_READ_CAPTURE. DEDUCED: notes/assumptions/52.md. -/
def execRecReadCapture (s : State) : Host.Outcome State Fault Refusal :=
  vhpServe (fun q => q.vtype == 0x20 && leAt q.payload 0 1 == 1) (fun d q =>
    let r := d.captureRead (leAt q.payload 2 2) (wordOfNat (leAt q.payload 4 4)) (leAt q.payload 8 4)
    (d.dramBytes (4 * leAt q.payload 8 4) (r.2.length - 8), r.1, r.2)) s

/-- A bin's mean and spread as stored. -/
def envelopeBytes (l : List (Int × Int)) : List Byte :=
  l.flatMap fun p => leBytes 2 (BitVec.ofInt 16 p.1).toNat ++ leBytes 2 (BitVec.ofInt 16 p.2).toNat

/-- The 64 bins of a direction. -/
def Direction.all (x : Direction) : List Bin := (List.range 64).map fun b => smGet {} x.bins b

/-- One copy of a lifetime block as a commit writes it (R368). -/
def Lifetime.written (l : Lifetime) : List Byte :=
  let o := l.opening.all
  let c := l.closing.all
  let covered (bins : List Bin) : Nat := bins.zipIdx.foldl (fun s b => s + b2n b.1.covered * 2 ^ b.2) 0
  let head := leBytes 8 l.generation.toNat ++ leBytes 8 l.cycles.toNat ++ leBytes 4 l.reversals.toNat ++ leBytes 4 l.obst.toNat
    ++ leBytes 4 l.stall.toNat ++ leBytes 4 l.edge.toNat ++ leBytes 4 l.lag.toNat ++ leBytes 4 0 ++ leBytes 8 l.opTime.toNat
    ++ leBytes 1 (satNat 255 l.opening.drift) ++ leBytes 1 (satNat 255 l.closing.drift)
    ++ leBytes 1 (b2n l.opening.learned + 2 * b2n l.closing.learned)
    ++ leBytes 1 (b2n l.opening.disarmed + 2 * b2n l.closing.disarmed) ++ leBytes 4 l.relearns.toNat
    ++ leBytes 1 (satNat 127 l.opening.clean) ++ leBytes 1 (satNat 127 l.closing.clean) ++ leBytes 6 0
  let body := head ++ envelopeBytes (o.map fun b => (b.mean, b.spread)) ++ envelopeBytes (c.map fun b => (b.mean, b.spread))
    ++ envelopeBytes (o.map fun b => (b.base, b.baseSpread)) ++ envelopeBytes (c.map fun b => (b.base, b.baseSpread))
    ++ leBytes 8 (covered o) ++ leBytes 8 (covered c) ++ (o ++ c).flatMap (fun b => leBytes 1 (satNat 255 b.moves))
    ++ List.replicate 2860 0
  body ++ leBytes 4 (crc32c body).toNat

/-- One copy of a lifetime block as the MRAM holds it: one that is not valid may hold any bytes. DESIGN CHOICE: notes/assumptions/59.md. -/
def Lifetime.bytes (l : Lifetime) : List Byte :=
  match l.spoilt with
  | none => l.written
  | some k => (List.range 4096).map (Config.spoiltByte k)

/-- The 8 KiB block of an axis: the copy in force in its place, and in the other the commit before it; a copy never written
reads 0. -/
def Axis.block (a : Axis) : List Byte :=
  let other := match a.older with
    | some l => l.bytes
    | none => List.replicate 4096 0
  if a.stored.copy = 0 then a.stored.bytes ++ other else other ++ a.stored.bytes

/-- REC_READ_LIFETIME. DEDUCED: notes/assumptions/52.md. -/
def execRecReadLifetime (s : State) : Host.Outcome State Fault Refusal :=
  vhpServe (fun q => q.vtype == 0x20 && leAt q.payload 0 1 == 2) (fun d q =>
    (d, 0, slice (d.axis (leAt q.payload 2 2)).block (leAt q.payload 4 2) (leAt q.payload 6 2))) s

/-- REC_CHAL: a new challenge. -/
def execRecChal (random : BitVec 128) (s : State) : Host.Outcome State Fault Refusal :=
  vhpServe (fun q => q.vtype == 0x21) (fun d _ => (d.newChallenge random, 0, leBytes 16 random.toNat)) s

/-- REC_CLEAR. -/
def execRecClear (s : State) : Host.Outcome State Fault Refusal :=
  vhpServe (fun q => q.vtype == 0x22) (fun d q =>
    let r := d.clearRequest (BitVec.ofNat 128 (leAt q.payload 0 16)) (slice q.payload 16 32)
    (r.1, r.2, [])) s

/-! ### Nodes (R329) -/

/-- NODE.REQ: the port, the node, the block type, then the queue. -/
def Dev.nodeRequest (d : Dev) (p node btype : Nat) (data : List Byte) : Dev × Nat :=
  let x := d.port p
  if x.st != .up then (d, 0x5030)
  else if !(within node 1 64 && (x.node node).known) then (d, 0x5031)
  else if btype ≠ 5 ∧ btype ≠ 6 then (d, 0x5032)
  else d.hostMessage p node btype data

/-- NODE_REQ. -/
def execNodeReq (s : State) : Host.Outcome State Fault Refusal :=
  vhpServe (fun q => q.vtype == 0x50) (fun d q =>
    let f (o n : Nat) : Nat := leAt q.payload o n
    let r := d.nodeRequest (f 0 1) (f 1 1) (f 2 1) (q.payload.drop 8)
    (r.1, r.2, [])) s

/-- Remove the oldest `n` reply blocks of a node from where they wait. -/
def Dev.takeReplies (d : Dev) (p node n : Nat) : Dev :=
  let gone := ((d.waitingReplies p node).take n).map (·.ord)
  d.dropReplies p node gone.contains

/-- Up to five consecutive blocks of one message. -/
def messagePart : Nat → List Block → List Block
  | 0, _ => []
  | _, [] => []
  | k + 1, b :: bs => if b.frag / 2 % 2 = 1 then [b] else b :: messagePart k bs

/-- The node NODE.READ serves: the one named; for node 0 the one whose message was returned in part, else the next in
round-robin order that has a reply. -/
def Dev.readNode (d : Dev) (p node : Nat) : Option Nat :=
  let x := d.port p
  let waits (n : Nat) : Bool := !(d.waitingReplies p n).isEmpty
  if node ≠ 0 then (if waits node then some node else none)
  else match x.readPart with
    | n :: _ => if waits n then some n else none
    | [] => ((List.range 64).map fun k => (x.readRr + k) % 64 + 1).find? waits

/-- More reply data wait on the port, whichever node answered (R329). -/
def Dev.repliesWait (d : Dev) (p : Nat) : Bool := ((List.range 64).map (· + 1)).any fun m => !(d.waitingReplies p m).isEmpty

/-- NODE.READ. -/
def Dev.nodeRead (d : Dev) (p node : Nat) : Dev × Nat × List Byte :=
  let x := d.port p
  let failed (n : Nat) : Bool := (x.node n).gaveUp && (node == 0 || node == n)
  match ((List.range 64).map (· + 1)).find? failed with
  | some n => (d.modNode p n fun y => { y with gaveUp := false }, 0x1020, leBytes 1 p ++ leBytes 1 n ++ leBytes 6 0)
  | none =>
    match d.readNode p node with
    | none => (d, 0, leBytes 1 p ++ leBytes 1 node ++ [0] ++ leBytes 1 (4 * b2n (d.repliesWait p)) ++ leBytes 4 0)
    | some n =>
      let l := messagePart 5 (d.waitingReplies p n)
      let data := l.flatMap (·.data)
      let first := match l with
        | b :: _ => b.frag % 2
        | [] => 0
      let last := match l.getLast? with
        | some b => b.frag / 2 % 2
        | none => 0
      let btype := match l with
        | b :: _ => b.btype
        | [] => 0
      let d := (d.takeReplies p n l.length).modPort p fun y => { y with readRr := n % 64, readPart := (if last = 1 then [] else [n]) ++ y.readPart.filter (· != n) }
      (d, 0, leBytes 1 p ++ leBytes 1 n ++ leBytes 1 btype ++ leBytes 1 (first + 2 * last + 4 * b2n (d.repliesWait p)) ++ leBytes 2 data.length
        ++ [0, 0] ++ data)

/-- NODE_READ. -/
def execNodeRead (s : State) : Host.Outcome State Fault Refusal :=
  vhpServe (fun q => q.vtype == 0x51) (fun d q => d.nodeRead (leAt q.payload 0 1) (leAt q.payload 1 1)) s

end Sys2Proof.Machine
end

