-- ==== Sys2Proof/Machine/Power.lean ====
section
/-! DEFINITION. Power states (chapter 15): the STATE request, entry to RUN and departure from it, the commanded shutdown, ROAST,
the starts, supply sag, power failure and the reset input. -/

namespace Sys2Proof.Machine

/-- Change the system state. -/
def Dev.modSys (d : Dev) (f : Sys → Sys) : Dev := { d with sys := f d.sys }

/-- sig.87000: the power state with ENTERING and LEAVING (R398). -/
def Dev.showPower (d : Dev) : Dev :=
  d.devSig 0x87000 (fields [(0, d.sys.power.code), (8, b2n d.sys.entering), (9, b2n d.sys.leaving)])

/-! ### The STATE request (R322, R399) -/

/-- Answer a STATE request: its status in PWR_CMDSTAT, and the state after execution; a refusal has no payload (R317, R322). -/
def Dev.answerState (d : Dev) (q : VReq) (status : Nat) (state : Power) (frame : Word) : Dev :=
  (d.setReg Adr.pwrCmdstat (wordOfNat status)).respond q status (if status = 0 then leBytes 1 state.code else []) frame

/-- Answer the STATE request that executes at the front of the queue. -/
def Dev.answerFront (d : Dev) (status : Nat) (state : Power) : Dev :=
  match d.host.queue with
  | q :: _ => if d.host.executing then d.answerState q status state d.host.execFrame else d
  | [] => d

/-- The front request keeps executing until its state is reached. -/
def Dev.holdFront (d : Dev) : Dev := d.modHost fun h => { h with executing := true, execFrame := d.sys.frame }

/-- Execute a STATE request with a target code that meets a test. -/
def stateServe (target : Nat → Bool) (f : Dev → VReq → Dev) (s : State) : Host.Outcome State Fault Refusal :=
  match s.dev.vhpFront fun q => q.vtype == 0x05 && target (leAt q.payload 0 1) with
  | none => .next s
  | some q =>
    let a := s.dev.vhpAccept q.vtype q.payload
    .next { s with dev := if a ≠ 0 then s.dev.respond q a [] s.dev.sys.frame else f s.dev q }

/-- STATE_INVALID_TARGET: a target code above 4. -/
def execStateInvalidTarget (s : State) : Host.Outcome State Fault Refusal :=
  stateServe (fun t => decide (4 < t)) (fun d q => d.answerState q 0x0201 d.sys.power d.sys.frame) s

/-! ### Entry to RUN (R404, R405) -/

/-- The motion parameters of an axis are in their ranges and its four stop ramps exist (R153, R133). -/
def Dev.motionValid (d : Dev) (n : Nat) : Bool :=
  let i (k : Nat) : Int := d.parI n k
  let u (k : Nat) : Nat := (d.par n k).toNat
  0 < i 128 && i 128 ≤ 128 * 65536 && 0 < i 129 && i 129 ≤ 16 * 65536 && 0 ≤ i 131 && i 131 < i 130 && u 134 ≤ 3
    && 0 < i 135 && i 135 ≤ i 128 && 0 < i 136 && i 136 ≤ i 129 && 1 ≤ i 137 && fld (d.par n 138) 0 4 != 0
    && fld (d.par n 138) 8 4 != 0 && within (u 139) 1 65535 && u 140 ≤ 1023 && u 142 == 0 && u 143 == 0
    && (List.range 4).all fun r => !(d.bands n r).isEmpty

/-- Check every configured axis; one that fails sets CFGERR and shows 0x2020 in slot 5 (R150, R153). -/
def Dev.motionCheckAll (d : Dev) : Dev × Bool :=
  let bad := d.axes'.filter fun n => !d.motionValid n
  (bad.foldl (fun d n => ((d.orReg (Adr.axFlags n) 0x20).devNat (slotSig n 5) 0x2020).setReg (Adr.axFault n) 0x2020) d, bad.isEmpty)

/-- The ports that carry a configured axis. -/
def Dev.carryingPorts (d : Dev) : List Nat := (List.range 4).filter fun p => d.axes'.any fun n => d.axPort n == p

/-- The refusal of the stream ports: 0x1035, then 0x1034; 0 where they pass (R214). -/
def Dev.streamCode (d : Dev) : Nat :=
  let serves (p : Nat) : Bool := (d.port p).st == .up || (d.pair.role == .standby && (d.port p).st == .listen)
  if (List.range 4).any fun p => d.layoutPending p then 0x1035
  else if !d.carryingPorts.all serves then 0x1034 else 0

/-- The checks of R404 in order: the first failure, 0 where all pass; the image is then placed. -/
def Dev.runChecks (d : Dev) : Dev × Nat :=
  if d.image.isNone then (d, 0x7031)
  else if d.sys.runHold then (d, 0x7811)
  else if d.safInvalid then (d, 0x3033)
  else if d.fldInvalid then (d, 0x4030)
  else if d.streamCode ≠ 0 then (d, d.streamCode)
  else
    let m := d.motionCheckAll
    if !m.2 then (m.1, 0x2020)
    else
      let e := m.1.estimCheckAll
      if !e.2 then (e.1, 0x2805) else e.1.placeImage

/-- STATE RUN from IDLE. -/
def Dev.enterRun (d : Dev) (q : VReq) : Dev :=
  let r := d.runChecks
  if r.2 ≠ 0 then (if r.2 = 0x7031 then r.1.updCode r.2 else r.1).answerState q r.2 .idle d.sys.frame
  else ((r.1.modSys fun y => { y with entering := true, enterAt := some d.sys.frame }).holdFront).showPower

/-- STATE_RUN. DEDUCED: notes/assumptions/61.md. -/
def execStateRun (s : State) : Host.Outcome State Fault Refusal :=
  stateServe (fun t => t == 3) (fun d q =>
    if d.sys.power == .run then d.answerState q 0 .run d.sys.frame else d.enterRun q) s

/-- A restarted task is released from the next round on; a BACKGROUND task is released by it (R58, R60). -/
def Task.unhold (x : Task) : Task :=
  { x with held := false, rels := if x.held && x.kind == .background then satInc x.rels else x.rels }

/-- Start a round of a sheaf's FRAME tasks, with g1 the frames since each task last started and g2 the
frame count (R43, R54, R55); restarted tasks are released from here on (R58). -/
def Dev.startRound (d : Dev) (c : Nat) : Dev :=
  let k := d.core c
  let d := d.setCore c { k with tasks := k.tasks.map fun p => (p.1, p.2.unhold) }
  let k := d.core c
  let order := ((k.used.filter fun p => p.2.kind == .frame && !p.2.halted && p.2.st == .idle)).foldl (fun l p =>
    l.filter (fun t => before (t, smGet {} k.tasks t) p) ++ [p.1] ++ l.filter (fun t => !before (t, smGet {} k.tasks t) p)) []
  let d := order.foldl (fun d t =>
    let x := d.task c t
    let since := if x.started then d.sys.frame - x.prevStart else 0
    let d := d.primeTask c t since d.sys.frame
    let x := d.task c t
    d.setTask c t { x with st := .ready, started := true, prevStart := d.sys.frame, rels := satInc x.rels }) d
  let k := d.core c
  let d := d.setCore c { k with round := some order, roundFrame := d.sys.frame, rose := false, own := k.div,
                                tickCycles := k.tickCycles + 64, tickRounds := k.tickRounds + 1 }
  d.countEvent 2 c 1

/-- The COARSE releases of the coarse tick that begins. -/
def Dev.coarseReleases (d : Dev) : Dev :=
  (List.range 16).foldl (fun d c =>
    let k := d.core c
    if !d.scheduling c || (d.sys.frame / 8).toNat % k.div ≠ 0 then d
    else (k.used.filter fun p => p.2.kind == .coarse).foldl (fun d p => d.releaseCoarse c p.1) d) d

/-- RUN begins (R405): caps removed, counts and envelopes loaded, BELOW set, every instance initialised, the axes of ports that
are UP in STAND, and the first round and COARSE release of its first frame. -/
def Dev.runEntry (d : Dev) : Dev :=
  let d := d.modSys fun y => { y with power := .run, entering := false, enterAt := none, runFrame := y.frame, runFrames := 0,
                                      railLow := y.rail, lastTick := some y.frame, boundary := true }
  let d := d.axes'.foldl (fun d n =>
    let a := d.axis n
    let d := d.setAxis n { a with motion := { a.motion with spdCap := none, accCap := none, posted := [], due := [], stops := [],
                                                            stopNext := [], seq := 0, modeSel := 0, strong := false, forced := false },
                                  homing := { latched := a.homing.latched }, estim := {} }
    let d := (d.setAxis n { d.axis n with unlatched := 0 }).devSig (slotSig n 24) 0
    (((d.setReg (Adr.axMoves n) 0).setReg (Adr.axStops n) 0).setReg (Adr.axRefused n) 0).motionSlots n) d
  let d := (d.cyclesRunEntry).islandRunEntry
  let d := (d.placerRunEntry).loadImage
  let d := d.fieldRunEntry
  let d : Dev := { d with recorder := { d.recorder with qpeak := d.recorder.pendq.length } }
  let d := d.modPair fun p => { p with missMax := 0 }
  let d : Dev := { d with queues := d.queues.map fun q => (q.1, ({ q.2 with episodes := 0 } : Queue)) }
  let d := d.axes'.foldl (fun d n => d.axisRestore n) d
  let d := d.showPower
  let d := (List.range 17).foldl (fun d c =>
    let k := d.core c
    let d := d.setCore c { k with div := d.sys.div }
    if c < 16 && d.scheduling c && d.sys.frame.toNat % d.sys.div = 0 then d.startRound c else d) d
  let d := d.migrationTakeup.coarseReleases
  let d := d.modSys fun y => { y with boundary := false }
  (List.range 17).foldl (fun d c => d.choose c) d

/-- RUN_BEGIN: the first coarse-tick boundary at least 46 ms, 736 frames, after the command executed.
DEDUCED: notes/assumptions/61.md. -/
def execRunBegin (s : State) : Host.Outcome State Fault Refusal :=
  let d := s.dev
  match d.sys.enterAt with
  | none => .next s
  | some f =>
    if d.sys.power == .idle && d.sys.entering && d.sys.frame.toNat % 8 = 0 && 736 ≤ (d.sys.frame - f).toNat then
      .next { s with dev := d.runEntry.answerFront 0 .run }
    else .next s

/-! ### Departure from RUN (R406) -/

/-- The departure's own frame: LEAVING, the tasks stop, every axis under way gets its stop request, the HS commands go to 0 and a
migration in progress aborts; the door cycles end with the frame, once it has taken the stops up (R406).
DESIGN CHOICE: notes/assumptions/62.md. -/
def Dev.depart (d : Dev) : Dev :=
  let d := d.modSys fun y => { y with leaving := true, departAt := some y.frame }
  let d : Dev := { d with cores := d.cores.map fun k => (k.1, ({ k.2 with cur := none, round := none } : Core)) }
  let d := d.axes'.foldl (fun d n =>
    let st := (d.axis n).motion.st
    if st == .stand || st == .off then d else d.raiseStop n 13 2 0) d
  ((d.hsZero).dropMigration).showPower

/-- The stage of a commanded shutdown that empties the recorder; an active role is released first (R300, R407). -/
def Dev.drain (d : Dev) (target : Power) : Dev :=
  let d := if d.pair.role == .active then d.modPair fun p => { p with releaseDue := true } else d
  d.modSys fun y => { y with shutdown := some (target, .draining) }

/-- STATE KEEP, ROAST or OFF (R407). -/
def Dev.shutDown (d : Dev) (target : Power) : Dev :=
  let d := d.holdFront
  if d.sys.power == .run then (d.modSys fun y => { y with shutdown := some (target, .departing) }).depart else d.drain target

/-- STATE_IDLE. -/
def execStateIdle (s : State) : Host.Outcome State Fault Refusal :=
  stateServe (fun t => t == 2) (fun d q =>
    if d.sys.power == .run then d.holdFront.depart else d.answerState q 0 .idle d.sys.frame) s

/-- STATE_KEEP. -/
def execStateKeep (s : State) : Host.Outcome State Fault Refusal := stateServe (fun t => t == 1) (fun d _ => d.shutDown .keep) s

/-- STATE_ROAST. -/
def execStateRoast (s : State) : Host.Outcome State Fault Refusal :=
  stateServe (fun t => t == 4) (fun d _ => d.shutDown .roast) s

/-- STATE_OFF. -/
def execStateOff (s : State) : Host.Outcome State Fault Refusal := stateServe (fun t => t == 0) (fun d _ => d.shutDown .off) s

/-- Every axis is in STAND or OFF. -/
def Dev.allAtRest (d : Dev) : Bool := d.axes'.all fun n => let st := (d.axis n).motion.st; st == .stand || st == .off

/-- The module enters IDLE: every axis OFF, one still moving with 0x0205 and FORCEOFF; link start begins on every enabled port (R210). -/
def Dev.leaveRun (d : Dev) : Dev :=
  let d := d.axes'.foldl (fun d n =>
    let st := (d.axis n).motion.st
    let d := if st == .stand || st == .off then d else (d.event 0x0205 n).orReg Adr.pwrFlags 0x40
    d.axisOff n) d
  let d := (d.hsZero.loopsOff.modSys fun y => { y with
    power := .idle, leaving := false, departAt := none, runSinceRoast := true, vinLow := y.vin }).showPower
  d.enabledPorts.foldl (fun d p => d.beginLink p) d

/-- DEPARTURE_COMPLETE: the first boundary after f at which every axis is in STAND or OFF, or f + 4,000. -/
def execDepartureComplete (s : State) : Host.Outcome State Fault Refusal :=
  let d := s.dev
  match d.sys.departAt with
  | none => .next s
  | some f =>
    let n := (d.sys.frame - f).toNat
    if d.sys.leaving && 0 < n && (d.allAtRest || 4000 ≤ n) then
      let d := d.leaveRun
      match d.sys.shutdown with
      | some (target, _) => .next { s with dev := d.drain target }
      | none => .next { s with dev := d.answerFront 0 .idle }
    else .next s

/-! ### Starts (R401–R403) -/

/-- What a register holds at a start. -/
def keepReg (cold : Bool) (r : Nat × Word) : Option (Nat × Word) :=
  if r.1 = Adr.pwrFlags then (if r.2 &&& 0x3C = 0 then none else some (r.1, r.2 &&& 0x3C))
  else match rowOf r.1 with
    | none => none
    | some y =>
      match y.keep with
      | .stored => some r
      | .island => some r
      | .cold => if cold then none else some r
      | .reset => none
      | .image => none

/-- The registers loaded from the image (R403), each within the rules of its register: a CAN controller or message object it enables is
checked as if EN had been written 1, and a value out of range is ignored. -/
def Dev.loadConfig (d : Dev) (im : Image) : Dev :=
  let known (a : Nat) : Bool := match rowOf a with
    | some y => y.keep == .image
    | none => false
  let isCtrl (a : Nat) : Bool := 0x220000 ≤ a && a < 0x230000 && a % 0x4000 == 0
  let isObject (a : Nat) : Bool := 0x220000 ≤ a && a < 0x230000 && 0x1000 ≤ a % 0x4000 && a % 8 == 4
  let l := im.config.filter fun p => known p.1
  let d := (l.filter fun p => !isCtrl p.1 && !isObject p.1).foldl (fun d p =>
    let mask := match rowOf p.1 with
      | some y => y.mask
      | none => 0
    if p.1 = Adr.hostWdcfg then d.hostWdcfg p.2
    else if fldOutOfRange p.1 p.2 then d
    else d.setReg p.1 (p.2 &&& wordOfNat mask)) d
  let d := (l.filter fun p => isObject p.1).foldl (fun d p => d.canObjectWrite ((p.1 - 0x220000) / 0x4000) p.1 p.2) d
  let d := (l.filter fun p => isCtrl p.1).foldl (fun d p => d.canCtrlWrite ((p.1 - 0x220000) / 0x4000) p.2) d
  d.axes'.foldl (fun d n => d.modMotion n fun m => { m with st := .off }) d

/-- The parameter values of the image, with VALID clear until they are written again (R22, R153). -/
def Dev.loadParams (d : Dev) (im : Image) : Dev :=
  im.params.foldl (fun d p => d.setSig p.1 { value := p.2, tag := 0x13 }) d

/-- What the island keeps through a start: its store with SAF_CHECK computed again (R401), whether 0x3040 is written (R256), the telegram sequence state with its checkpoints, the island-fault latch
unless the start clears it. -/
def Island.atStart (x : Island) (cold clears : Bool) (check : Word) : Island :=
  { comm := x.comm, mode := x.mode, check := check, testAge := x.testAge, testTold := x.testTold, fault := if clears then 0 else x.fault,
    sources := x.sources.map fun s => (s.1, ({ haveSeq := s.2.haveSeq && !cold, seq := s.2.seq, time := s.2.time, stamp := s.2.stamp,
                                               cpSet := s.2.cpSet, cpSeq := s.2.cpSeq, cpTime := s.2.cpTime } : TgSource)) }

/-- The flag of PWR_FLAGS that a code of a start sets. -/
def startFlag (code : Nat) : Word :=
  if code = 0x0212 then 4 else if code = 0x0213 then 8 else if code = 0x0220 then 16 else if code = 0x0221 then 32 else 0

/-- A start begins (R401): everything but what is kept takes its reset value, the boot loader chooses the image, the recorder
scans, and the configuration is loaded.  The signals are cleared here, so those that the boot placement writes are VALID in IDLE (R22,
R99). DEDUCED: notes/assumptions/63.md. DESIGN CHOICE: notes/assumptions/70.md. -/
def Dev.start (d : Dev) (kind : StartKind) (copyOk : Bool) : Dev :=
  let cold := kind == .cold
  let y := d.sys
  let clears := cold || kind == .rstn
  let isle := d.island.atStart cold clears d.safCheck
  let codes := y.startCodes
  let sys : Sys := { power := .keep, frame := 0, opTime := y.opTime, pwrCyc := if cold then y.pwrCyc + 1 else y.pwrCyc,
                     minutes := y.minutes, starting := some kind, rstnLow := y.rstnLow, rstIgn := y.rstIgn,
                     optHi := BitVec.ofNat 16 (y.opTime.toNat / 2 ^ 32), noRoast := y.noRoast,
                     runHold := y.runHold, roastIsland := y.roastIsland, runSinceRoast := y.runSinceRoast,
                     roastAborted := y.roastAborted, free := y.free }
  let d : Dev := { d with sys := sys, regs := d.regs.filterMap (keepReg cold), sigs := [], hidden := [], summary := [], cores := [], halted := [],
                          rstReq := [], axes := d.axes.map (fun a => (a.1, if kind = .wake then a.2.inReset else a.2.atStart y.free a.1)), doorCyc := [], promos := [],
                          placer := {},
                          ports := [], queues := [], island := isle, pair := { actAge := d.pair.actAge },
                          host := { storedIpA := d.host.storedIpA, storedIpB := d.host.storedIpB, storedNet := d.host.storedNet },
                          cans := [], trace := {},
                          recorder := { d.recorder with scan := decide (kind ≠ .wake), keyWords := [], tokenRefusals := 0, lockedAt := none },
                          upd := { d.upd with last := 0 } }
  let d := d.modField fun f => { f with offDue := false, uvEpisodes := if cold then 0 else f.uvEpisodes }
  let d := d.recorderStart
  let d := codes.foldl (fun d c => (d.event c 0xFFFF).orReg Adr.pwrFlags (startFlag c)) d
  let d := d.bootImage copyOk
  match d.image with
  | none => d
  | some im => ((d.loadConfig im).loadParams im).placeImage.1

/-- COLD_START: VIN rising through 10.8 V or a WAKE edge in OFF.  An edge during a commanded shutdown or ROAST waits (R400). -/
def execColdStart (copyOk : Bool) (s : State) : Host.Outcome State Fault Refusal :=
  let y := s.dev.sys
  if y.power == .off then .next { s with dev := s.dev.start .cold copyOk }
  else if y.shutdown.isSome || y.power == .roast then .next { s with dev := s.dev.modSys fun y => { y with wake := some copyOk } }
  else .next s

/-- WAKE_START: a WAKE edge in KEEP. -/
def execWakeStart (copyOk : Bool) (s : State) : Host.Outcome State Fault Refusal :=
  let y := s.dev.sys
  if y.power == .keep && y.reset.isNone && y.starting.isNone then .next { s with dev := s.dev.start .wake copyOk }
  else if y.shutdown.isSome || y.power == .roast then .next { s with dev := s.dev.modSys fun y => { y with wake := some copyOk } }
  else .next s

/-- The start kind of a reset. -/
def ResetCause.kind : ResetCause → StartKind
  | .rstn => .rstn
  | .brown => .brown
  | .pfail => .pfail

/-- RESET_START: the reset is released, with RSTN high or ignored. -/
def execResetStart (copyOk : Bool) (s : State) : Host.Outcome State Fault Refusal :=
  let y := s.dev.sys
  match y.reset with
  | none => .next s
  | some c =>
    if (!y.rstnLow || y.rstIgn) && y.power != .off then .next { s with dev := s.dev.start c.kind copyOk } else .next s

/-- The codes of PWR_START.KIND. -/
def StartKind.code : StartKind → Nat
  | .cold => 1
  | .wake => 2
  | .rstn => 3
  | .brown => 4
  | .pfail => 5

/-- The last ROAST stands unfinished or is out of date (R387). -/
def Sys.roastMissing (y : Sys) : Bool := y.runSinceRoast || y.roastAborted

/-- The lowest of the readings so far and a new one; 0 stands for no reading yet. DESIGN CHOICE: notes/assumptions/66.md. -/
def lowest (low mv : BitVec 16) : BitVec 16 := if low = 0 ∨ mv.toNat < low.toNat then mv else low

/-- The rail as the monitor reads it. DESIGN CHOICE: notes/assumptions/66.md. -/
def Dev.sampleRail (d : Dev) (mv : BitVec 16) : Dev := d.modSys fun y => { y with rail := mv, railLow := lowest y.railLow mv }

/-- VIN as the monitor reads it. DESIGN CHOICE: notes/assumptions/66.md. -/
def Dev.sampleVin (d : Dev) (v : BitVec 16) : Dev := d.modSys fun y => { y with vin := v, vinLow := lowest y.vinLow v }

/-- PWR_RAIL and PWR_VIN follow the supplies: their readings at entry to IDLE and at each boundary, where no command brings one, are free
values (R419). DESIGN CHOICE: notes/assumptions/66.md. -/
def Dev.sampleSupplies (d : Dev) : Dev :=
  let r := d.nextFree
  (r.1.sampleRail (Config.railNow r.2)).sampleVin (Config.vinNow r.2)

/-- Entry to IDLE from OFF or KEEP (R14, R298, R315, R387, R401).  The husk's converter, off in KEEP, is on from here; operating time has
taken in what the husk's own time counted beside it. DEDUCED: notes/assumptions/63.md. -/
def Dev.reachIdle (d : Dev) (kind : StartKind) (ms opMs : BitVec 16) : Dev :=
  let op := d.now + opMs.toNat
  let d := d.modSys fun y => { y with power := .idle, starting := none, frame := 0, opTime := BitVec.ofNat 48 op, pll := 0x1F, keysHeld := true,
                                      vinLow := 0, noRoast := y.noRoast || y.roastMissing }
  let d := d.sampleSupplies
  let d := d.modField fun f => { f with aside := f.aside - opMs.toNat }
  let d := d.setReg Adr.pwrStart (fields [(0, kind.code), (16, ms.toNat)])
  let d := if d.sys.roastMissing then d.event 0x7820 0xFFFF else d
  let d := if d.sys.roastIsland then d.islandFault 0x3013 else d
  let h := d.host
  let d := ((d.setReg Adr.hostIpa h.storedIpA).setReg Adr.hostIpb h.storedIpB).setReg Adr.hostNetcfg h.storedNet
  let d := d.modHost fun h => { h with liveIpA := h.storedIpA, liveIpB := h.storedIpB, liveNet := h.storedNet, wdSince := op }
  let d := d.hsZero
  let d := if kind == .cold || kind == .wake || !d.field.powered then d.fieldOn else d.fieldRejoin
  let d := (((d.showPower).devSig 0x87001 0).devNat 0x87002 (op % 2 ^ 32)).devNat 0x87003 (op / 2 ^ 32 % 65536)
  let d := (d.devSig 0x87004 d.sys.pwrCyc).devNat 0x87008 d.sys.div
  let d := (d.axes'.foldl (fun d n => d.motionSlots n) d).safeBase
  let d := d.baseLayouts
  let cfg := d.reg Adr.pairCfg
  if bit cfg 0 then d.modPair fun p => { p with role := .seek, unit1 := bit cfg 1 }
  else d.enabledPorts.foldl (fun d p => d.beginLink p) d

/-- START_REACHES_IDLE: `ms` is the duration of the start, `opMs` how far operating time advanced in it.
DEDUCED: notes/assumptions/63.md. -/
def execStartReachesIdle (ms opMs : BitVec 16) (s : State) : Host.Outcome State Fault Refusal :=
  match s.dev.sys.starting with
  | none => .next s
  | some k => .next { s with dev := s.dev.reachIdle k ms opMs }

/-! ### The end of a shutdown (R407) -/

/-- Stream, pair and CAN stop; in KEEP and OFF the host ports stop too. -/
def Dev.portsStop (d : Dev) (host : Bool) : Dev :=
  let d : Dev := { d with ports := [], queues := [], cans := [] }
  let d := d.modPair fun p => { p with roleOut := false, rx := none, tx := [] }
  if host then d.modHost fun h => { h with linkA := false, fdxA := false, linkB := false, fdxB := false, queue := [],
                                           executing := false, endpoints := [], tgA := [], tgB := [], echoes := [] }
  else d

/-- KEEP or OFF is reached: the converter off, PLLs and DRAM stopped; a latched WAKE edge starts the module (R400). -/
def Dev.toRest (d : Dev) (target : Power) : Dev :=
  ((((d.portsStop true).loopsOff).fieldOff).modSys fun y => { y with
    power := target, shutdown := none, pll := 0, wake := none, rstnLow := target != .off && y.rstnLow }).showPower

/-- A WAKE edge that waited is acted on. -/
def Dev.actWake (d : Dev) (latched : Option Bool) : Dev :=
  match latched with
  | some ok => d.start (if d.sys.power == .off then .cold else .wake) ok
  | none => d

/-- ROAST begins: outputs off, the husk in ROAST hold (R384), and test 1 clears the volatile key copies (R385). -/
def Dev.beginRoast (d : Dev) : Dev :=
  (((d.portsStop false).loopsOff.fieldRoast true).modSys fun y =>
    { y with power := .roast, shutdown := none, roastAt := y.opTime.toNat, roastTest := 1, keysHeld := false }).showPower

/-- SHUTDOWN_DRAIN_COMPLETE: the queue is empty, no lifetime block waits and the role is released; the request is answered and the
state entered. -/
def execShutdownDrainComplete (s : State) : Host.Outcome State Fault Refusal :=
  let d := s.dev
  match d.sys.shutdown with
  | some (target, .draining) =>
    if d.recorder.pendq.isEmpty && d.recorder.lifeQueue.isEmpty && d.pair.role != .active then
      let d := d.answerFront 0 target
      if target == .roast then .next { s with dev := d.beginRoast }
      else .next { s with dev := (d.toRest target).actWake d.sys.wake }
    else .next s
  | _ => .next s

/-! ### ROAST (R383–R388) -/

/-- Commit every pending record, as test 11 and the engine do before KEEP. -/
def Dev.commitAll (d : Dev) : Dev := (List.range d.recorder.pendq.length).foldl (fun d _ => d.commitRecord) d

/-- The result registers of ROAST. -/
def Dev.roastResult (d : Dev) (result code test : Nat) (map ms : Nat) : Dev :=
  ((d.setReg Adr.pwrRoastres (fields [(0, result), (8, test), (16, code)])).setReg Adr.pwrRoastmap (wordOfNat map)).setReg
    Adr.pwrRoastdur (wordOfNat ms)

/-- Operating time stands at least at the beginning of ROAST plus the duration of the tests (R15, R388). -/
def Dev.elapse (d : Dev) (ms : Nat) : Dev :=
  d.modSys fun y => { y with opTime := BitVec.ofNat 48 (Nat.max y.opTime.toNat (y.roastAt + ms)) }

/-- Every test has run. DEDUCED: notes/assumptions/64.md. -/
def Dev.roastDone (d : Dev) (fails : List Nat) (safetyPart : Bool) (ms : Nat) : Dev :=
  let map := fails.foldl (fun n t => n + 2 ^ t) 0
  let d := d.wipeDram.elapse ms
  let d := d.modSys fun y => { y with noRoast := false, runSinceRoast := false, roastAborted := false }
  let d := if fails.isEmpty then
      let d := ((d.roastResult 1 0 0 0 ms).event 0x7821 0xFFFF).modIsland fun x => { x with testAge := 0, testDue := false, testTold := false }
      d.modSys fun y => { y with runHold := false, roastIsland := false }
    else
      let d := fails.foldl (fun d t => d.event 0x7810 t) (d.roastResult 2 0x7810 0 map ms)
      d.modSys fun y => { y with runHold := true, roastIsland := y.roastIsland || fails.contains 4 || (fails.contains 9 && safetyPart) }
  let w := d.sys.wake
  (d.commitAll.toRest .keep).actWake w

/-- ROAST_END: `failMap` has bit t for each failed test t; `safetyPart` says that test 9 failed in its SO read-back or barrier
parts. -/
def execRoastEnd (failMap : BitVec 12) (safetyPart : Bool) (ms : BitVec 16) (s : State) : Host.Outcome State Fault Refusal :=
  if s.dev.sys.power == .roast && s.dev.sys.reset.isNone then
    let fails := (List.range 12).filter fun t => 1 ≤ t && failMap.getLsbD t
    .next { s with dev := s.dev.roastDone fails safetyPart ms.toNat }
  else .next s

/-- ROAST_ABORT: the rail left ±3 % (0x7801) or a PLL lost lock (0x7802); the module goes to KEEP, and the map shows the tests that
failed before. DEDUCED: notes/assumptions/64.md. -/
def execRoastAbort (pll : Bool) (test : BitVec 4) (ms : BitVec 16) (s : State) : Host.Outcome State Fault Refusal :=
  let d := s.dev
  if d.sys.power == .roast && d.sys.reset.isNone then
    let map := (Config.roastFails d.sys.free).toNat % 2 ^ test.toNat / 2 * 2
    let d := if 7 ≤ test.toNat then d.wipeDram else d
    let d := (d.elapse ms.toNat).roastResult 3 (if pll then 0x7802 else 0x7801) test.toNat map ms.toNat
    let d := d.modSys fun y => { y with roastAborted := true, free := y.free + 1 }
    .next { s with dev := (d.commitAll.toRest .keep).actWake d.sys.wake }
  else .next s

/-! ### Supply sag (R410, R411) -/

/-- The core clock runs and a sag divides it: IDLE, RUN, or a start in progress; a ROAST aborts before any droop that would (R410). -/
def Dev.coreRuns (d : Dev) : Bool := (d.operating || d.sys.starting.isSome) && d.sys.reset.isNone

/-- The division factor changes: sig.87008; a rise is noted by every round in progress (R55). -/
def Dev.setDiv (d : Dev) (n : Nat) : Dev :=
  let note (k : Core) : Core := if k.round.isSome && d.sys.div < n then { k with rose := true } else k
  let d : Dev := { d with cores := d.cores.map fun k => (k.1, note k.2) }
  (d.modSys fun y => { y with div := n }).devNat 0x87008 n

/-- SAG_DIVIDE: droop of 5 % or more takes d to 2, of 8 % or more to 4. -/
def execSagDivide (div4 : Bool) (railMv : BitVec 16) (s : State) : Host.Outcome State Fault Refusal :=
  let d := s.dev
  let lvl := if div4 then 4 else 2
  if d.coreRuns && d.sys.div < lvl then
    let d := ((d.sampleRail railMv).setDiv lvl).incRegFld Adr.pwrSagcnt (if div4 then 16 else 0) 16
    let d := (d.orReg Adr.pwrFlags (if div4 then 2 else 1)).eventRep (if div4 then 0x0211 else 0x0210) 0xFFFF
    .next { s with dev := d.modPlacer fun p => { p with mig := p.mig.map fun m =>
      if m.phase == .copying then { m with dRose := true } else m } }
  else .next s

/-- SAG_STEP_BACK: the droop has stayed below the level's threshold for 10 µs, and d steps back by one level. -/
def execSagStepBack (railMv : BitVec 16) (s : State) : Host.Outcome State Fault Refusal :=
  let d := s.dev
  if d.coreRuns && 1 < d.sys.div then .next { s with dev := (d.sampleRail railMv).setDiv (d.sys.div / 2) } else .next s

/-! ### Resets and power failure (R412–R416) -/

/-- The module is held in reset: the outputs are off, nothing is answered, a start in progress begins again, and what the start
will record is noted. DEDUCED: notes/assumptions/65.md. -/
def Dev.holdReset (d : Dev) (cause : ResetCause) (code : Nat) (lose : Recorder → Recorder) : Dev :=
  let y := d.sys
  let roast := y.power == .roast
  let d := (d.portsStop true).loopsOff
  let d := if d.recorderRuns then d.cutEngine y.free else d
  let d : Dev := { d with recorder := lose d.recorder, cores := [], axes := d.axes.map (fun a => (a.1, a.2.inReset)), doorCyc := [],
                          promos := [], upd := d.upd.cutOff d.now y.free }
  d.modSys fun y => { y with
    power := .keep, entering := false, leaving := false, enterAt := none, departAt := none, shutdown := none, starting := none,
    wake := none, pll := 0, div := 1, reset := (match y.reset with
      | some c => some c
      | none => some cause),
    startCodes := if y.startCodes.contains code then y.startCodes else y.startCodes ++ [code],
    runSinceRoast := y.runSinceRoast || y.power == .run, roastAborted := y.roastAborted || roast, free := y.free + 1 }

/-- Clocks run: the module is not in OFF or KEEP, or a start is in progress. -/
def Dev.powered (d : Dev) : Bool := d.operating || d.sys.power == .roast || d.sys.starting.isSome

/-- BROWNOUT: droop of 12 % or more. DEDUCED: notes/assumptions/65.md. -/
def execBrownout (s : State) : Host.Outcome State Fault Refusal :=
  if s.dev.powered then .next { s with dev := s.dev.holdReset .brown 0x0212 Recorder.resetLoss } else .next s

/-- POWER_FAIL_WARNING: VIN below 10.0 V for 10 µs.  The hold-up outlasts one more barrier frame, which commands every SO output off
(R413). -/
def execPowerFailWarning (vin : BitVec 16) (s : State) : Host.Outcome State Fault Refusal :=
  let d := s.dev
  if d.sys.power != .off && !d.sys.vinFailed then
    let due := d.operating
    let d := d.holdReset .pfail 0x0213 Recorder.powerFail
    .next { s with dev := ((d.modField fun f => { f with offDue := due }).modSys fun y => { y with vinFailed := true }).sampleVin vin }
  else .next s

/-- POWER_FAIL_OFF: VIN falls below 6.0 V, or does not return in time; the module reaches OFF. -/
def execPowerFailOff (s : State) : Host.Outcome State Fault Refusal :=
  if s.dev.sys.vinFailed then
    .next { s with dev := s.dev.storeLost.fieldOff.modSys fun y =>
      { y with power := .off, reset := none, vinFailed := false, rstnLow := false } }
  else .next s

/-- RSTN_ASSERT: RSTN low for 21 µs; ignored in OFF, where it is not sampled, and while the pin is taken as failed, when only its level
is noted (R415). -/
def execRstnAssert (s : State) : Host.Outcome State Fault Refusal :=
  let d := s.dev
  if d.sys.power == .off || d.sys.rstnLow then .next s
  else if d.sys.rstIgn then .next { s with dev := d.modSys fun y => { y with rstnLow := true } }
  else .next { s with dev := (d.holdReset .rstn 0x0220 Recorder.resetLoss).modSys fun y => { y with rstnLow := true } }

/-- RSTN_RELEASE: the pin goes high. -/
def execRstnRelease (s : State) : Host.Outcome State Fault Refusal :=
  .next { s with dev := s.dev.modSys fun y => { y with rstnLow := false } }

/-- RSTN_STUCK: still low 8 s after the reset: the pin is taken as failed closed, and 0x0221 stands in place of 0x0220 (R415). -/
def execRstnStuck (s : State) : Host.Outcome State Fault Refusal :=
  let y := s.dev.sys
  if y.rstnLow && y.reset.isSome && !y.rstIgn then
    .next { s with dev := s.dev.modSys fun y => { y with rstIgn := true, startCodes := y.startCodes.filter (· != 0x0220) ++ [0x0221] } }
  else .next s

/-- RSTN_BACK_IN_SERVICE: an ignored pin has been high for 100 ms; in KEEP or a reset, where no record is queued, the next start
writes 0x0222. DEDUCED: notes/assumptions/65.md. -/
def execRstnBackInService (s : State) : Host.Outcome State Fault Refusal :=
  let y := s.dev.sys
  if y.rstIgn && !y.rstnLow && y.power != .off then
    let d := s.dev.modSys fun y => { y with rstIgn := false }
    .next { s with dev := if s.dev.powered && y.reset.isNone then d.event 0x0222 0xFFFF
                          else d.modSys fun y => { y with startCodes := y.startCodes ++ [0x0222] } }
  else .next s

end Sys2Proof.Machine
end

