-- ==== Sys2Proof/Machine/Ethernet.lean ====
section
/-! DEFINITION. The host ports below VHP (R313, R314, R328, R330): links, ARP, ICMP, the telegram port, and the host watchdog. -/

namespace Sys2Proof.Machine

/-- Send something that is no VHP response: 1 ARP, 2 ICMP, which is IPv4 with DF set and TTL 64 (R313).
DESIGN CHOICE: notes/assumptions/55.md. -/
def Dev.sendRaw (d : Dev) (port kind : Nat) (mac : BitVec 48) (ip : Word) (bytes : List Byte) : Dev :=
  (d.frameSeen port).modHost fun h => { h with tx := h.tx ++ [{ port := port, kind := kind, mac := mac, df := kind == 2, ttl := if kind = 2 then 64 else 0,
                                                                  sum := 0, ip := ip, udp := 0, bytes := bytes }] }

/-- An ARP packet of a port: operation 1 (request) or 2 (reply), addressed to a MAC and an IPv4 address. -/
def Dev.arpBytes (d : Dev) (port op : Nat) (mac : BitVec 48) (ip : Word) : List Byte :=
  beBytes 2 1 ++ beBytes 2 0x0800 ++ [6, 4] ++ beBytes 2 op ++ beBytes 6 (ownMac port).toNat
    ++ beBytes 4 (d.host.ip port).toNat ++ beBytes 6 mac.toNat ++ beBytes 4 ip.toNat

/-- ARP_REQUEST: a request for the port's own address is answered. -/
def execArpRequest (link : LinkIn) (target senderIp : Word) (senderMac : BitVec 48) (s : State) :
    Host.Outcome State Fault Refusal :=
  let d := s.dev
  let p := link.port.val
  if d.hostPortsUp && linkTaken link 64 true && target == d.host.ip p then
    .next { s with dev := d.sendRaw p 1 senderMac senderIp (d.arpBytes p 2 senderMac senderIp) }
  else .next { s with dev := d.frameCame p }

/-- The echoes of a port answered within the last second, as 2·time + port. -/
def HostUnit.recentEchoes (h : HostUnit) (port now : Nat) : List Nat := h.echoes.filter fun e => e % 2 == port && now < e / 2 + 1000

/-- ICMP_ECHO_REQUEST: up to 1,472 bytes of data, at most 20 answers per second and port; `echo` is the identifier and the sequence
number, which the answer returns with the data. -/
def execIcmpEchoRequest (link : LinkIn) (senderIp echo : Word) (data : List Byte) (s : State) :
    Host.Outcome State Fault Refusal :=
  let d := s.dev
  let p := link.port.val
  if d.hostPortsUp && linkIpTaken link d.host data.length && data.length ≤ 1472 && (d.host.recentEchoes p d.now).length < 20 then
    let d := d.modHost fun h => { h with echoes := h.recentEchoes (1 - p) d.now ++ h.recentEchoes p d.now ++ [2 * d.now + p] }
    .next { s with dev := d.sendRaw p 2 link.src senderIp (beBytes 4 echo.toNat ++ data) }
  else .next { s with dev := d.frameCame p }

/-- The link of a port. -/
def HostUnit.setLink (h : HostUnit) (port : Nat) (up fdx : Bool) : HostUnit :=
  if port = 0 then { h with linkA := up, fdxA := fdx } else { h with linkB := up, fdxB := fdx }

/-- ETHERNET_LINK_UP: the link with its duplex, full where it is forced, and one gratuitous ARP.
DEDUCED: notes/assumptions/54.md. -/
def execEthernetLinkUp (port : HostPort) (fullDuplex : Bool) (s : State) : Host.Outcome State Fault Refusal :=
  let d := s.dev
  let p := port.val
  if d.hostPortsUp then
    let forced := bit d.host.liveNet (16 + p)
    let d := d.modHost fun h => h.setLink p true (fullDuplex || forced)
    .next { s with dev := d.sendRaw p 1 broadcastMac (d.host.ip p) (d.arpBytes p 1 0 (d.host.ip p)) }
  else .next s

/-- ETHERNET_LINK_LOST: 0x5041 with the port. DEDUCED: notes/assumptions/54.md. -/
def execEthernetLinkLost (port : HostPort) (s : State) : Host.Outcome State Fault Refusal :=
  let d := s.dev
  let p := port.val
  if d.hostPortsUp && (if p = 0 then d.host.linkA else d.host.linkB) then
    let d := (d.modHost fun h => h.setLink p false false).orReg Adr.hostFlags (if p = 0 then 1 else 2)
    .next { s with dev := d.event 0x5041 p }
  else .next s

/-! ### Safe telegrams (R330) -/

/-- A datagram to UDP port 48201 that carries a telegram. -/
def telegramDatagram (bytes : List Byte) : Bool :=
  vhpIntact bytes && leAt bytes 2 1 == 1 && leAt bytes 3 1 == 0x30 && leAt bytes 8 2 == 60

/-- The receive buffer of a port. -/
def HostUnit.tg (h : HostUnit) (port : Nat) : List TgDatagram := if port = 0 then h.tgA else h.tgB

/-- A datagram to UDP port 48201: stamped on arrival and kept for the island; one that is no telegram is discarded and counted, and so
is one that finds its buffer full, with 0x5042.  In test 3 of ROAST the host unit is scanned, and the datagram is lost (R385). -/
def Dev.tgReceive (d : Dev) (p stamp : Nat) (bytes : List Byte) : Dev :=
  if !telegramDatagram bytes then d.incReg Adr.hostTgdrop
  else if 16 ≤ (d.host.tg p).length then ((d.incReg Adr.hostTgdrop).orReg Adr.hostFlags 0x10).eventRep 0x5042 0xFFFF
  else
    let x : TgDatagram := { stamp := stamp, bytes := slice (bytes.take (bytes.length - 4)) 16 60 }
    d.modHost fun h => if p = 0 then { h with tgA := h.tgA ++ [x] } else { h with tgB := h.tgB ++ [x] }

/-- TELEGRAM_DATAGRAM_RECEIVED. -/
def execTelegramDatagramReceived (link : LinkIn) (stamp : Nat) (bytes : List Byte) (s : State) : Host.Outcome State Fault Refusal :=
  let d := s.dev
  let p := link.port.val
  if !d.hostPortsUp || !linkUdpTaken link d.host bytes.length 48201 then .next { s with dev := d.frameCame p }
  else if d.sys.power == .roast then
    let r := (d.frameSeen p).roastTestNow
    .next { s with dev := if r.2 = 3 then r.1 else r.1.tgReceive p stamp bytes }
  else .next { s with dev := (d.frameSeen p).tgReceive p stamp bytes }

/-! ### The host watchdog (R328) -/

/-- HOST_WATCHDOG_EXPIRY: no request has passed check 8 for HOST_WDCFG.TIME ms: every command mailbox is STALE, 0x5040. -/
def execHostWatchdogExpiry (s : State) : Host.Outcome State Fault Refusal :=
  let d := s.dev
  let t := fld (d.reg Adr.hostWdcfg) 0 16
  if d.hostPortsUp && t ≠ 0 && !d.host.wdExp && d.host.wdSince + t ≤ d.now then
    let d := (d.modHost fun h => { h with wdExp := true }).orReg Adr.hostFlags 4
    let d := (List.range 2048).foldl (fun d i => d.sigQuality (0x85000 + i) true false) d
    .next { s with dev := d.event 0x5040 0xFFFF }
  else .next s

end Sys2Proof.Machine
end

