-- ==== Sys2Proof/Machine/Frame.lean ====
section
/-! DEFINITION. The frame boundary (R14, R18, R41) and the coarse tick (R46): the frame in progress closes, with the estimators,
the island's monitors, the motion pipelines and the door cycles, and the next one opens, with the pair, the stream ports and the
scheduler. -/

namespace Sys2Proof.Machine

/-- Whether the motion pipelines and the estimators work: not in a standby (R306). DEDUCED: notes/assumptions/34.md. -/
def Dev.pipelinesRun (d : Dev) : Bool := d.pair.role != .standby

/-! ### The close of a frame -/

/-- A move taken up in this frame towards an active limit, or towards PCLOSED under an active sensitive edge, stops in the same frame
(R138, R168). -/
def Dev.lateStops (d : Dev) (n : Nat) : Dev :=
  let dir : Int := sgn (d.axis n).motion.delta
  let late := if d.limitTrips n dir then [limitStop] else []
  match d.edgeAtTakeup n dir with
  | some r => r.1.takeStops n (late ++ [r.2])
  | none => d.takeStops n late

/-- The stop requests and motion requests of a frame are taken up (R84, R87, R134), after the checks of the frame, so those of a homing run
begin with the frame after its take-up (R143). DESIGN CHOICE: notes/assumptions/77.md. -/
def Dev.motionTakeup (d : Dev) (n : Nat) : Dev :=
  let stops := d.limitStops n ++ d.lagStops n
  let r := d.homeChecks n
  let d := r.1
  let m := (d.axis n).motion
  let all := m.stops ++ stops ++ r.2
  let due := m.due
  let d := d.modMotion n fun m => { m with stops := [], due := [] }
  let d := d.takeStops n all
  let was := (d.axis n).motion.st
  let d := d.takeRequests n due
  let st := (d.axis n).motion.st
  if was == .stand && st == .move then d.lateStops n else d

/-- The pipeline's frame of one axis; `d0` is the module before any axis of the frame moved.  What was posted is judged before the
axis may leave OFF (R126), and the axis is on a ramp from the frame that takes the stop up to the one in which it stands (R149). -/
def Dev.motionFrame (d d0 : Dev) (n : Nat) : Dev :=
  let d := (d.motionTakeup n).axisRestore n
  let was := (d.axis n).motion.st
  let d := d.advance d0 n
  let m := (d.axis n).motion
  let onRamp := was == .stop || m.st == .stop || (was == .gear && m.st == .stand)
  d.publishAxis n (was == .stand) (onRamp && 0 < m.ramp) (onRamp && 3 ≤ m.cause)

/-- What was posted in the frame is taken up in the next (R18, R56). -/
def Motion.turnOver (m : Motion) : Motion := { m with due := m.posted, posted := [], stops := m.stops ++ m.stopNext, stopNext := [] }

/-- An idle pipeline takes nothing up (R306). -/
def Motion.idle (m : Motion) : Motion := { m with due := [], posted := [], stops := [], stopNext := [] }

/-- Axes that AX_CFG configures no more and that AX_STATE still shows: they show NOCONF from the end of the frame on (R126, R154). -/
def Dev.leftAxes (d : Dev) : List Nat :=
  d.regs.filterMap fun r =>
    let n := (r.1 - 0x100000) / 0x100
    if 0x100000 ≤ r.1 && r.1 ≤ 0x11FFFF && r.1 % 0x100 == 4 && !bit (d.reg (Adr.axCfg n)) 0 then some n else none

/-- Close the frame in progress: the ends of moves not yet acted on, the monitors, the estimators, the pipelines, the door cycles,
and the pool summary. DESIGN CHOICE: notes/assumptions/18.md. -/
def Dev.closeFrame (d : Dev) : Dev :=
  let axes := d.axes'
  let d := axes.foldl (fun d n => if (d.axis n).motion.atEnd then d.endMove n else d) d
  let d :=
    if d.pipelinesRun then
      let d := d.monitors
      let d := axes.foldl (fun d n => d.estimate n) d
      let d := axes.foldl (fun d n => d.observeMove n) d
      let d0 := d
      let d := axes.foldl (fun d n => d.motionFrame d0 n) d
      let d := d.doorFrames d.sys.frame
      axes.foldl (fun d n => d.modMotion n Motion.turnOver) d
    else axes.foldl (fun d n => (d.modMotion n Motion.idle).showState n) d
  (d.leftAxes.foldl (fun d n => d.showState n) d).copySummary

/-! ### The opening of a frame -/

/-- The fault records of the frame before enter the pending queue (R56). -/
def Dev.flushFaults (d : Dev) (c : Nat) : Dev :=
  let k := d.core c
  if k.faultRecs.isEmpty then d
  else k.faultRecs.foldl (fun d r => d.event r.1 r.2.1 r.2.2) (d.setCore c { k with faultRecs := [] })

/-- The statistics of the coarse tick that ends are kept for its report (R44, R111). DEDUCED: notes/assumptions/19.md. -/
def Dev.closeTick (d : Dev) : Dev :=
  let shift (k : Core) : Core := { k with doneCycles := k.tickCycles, doneRounds := k.tickRounds, tickCycles := 0, tickRounds := 0 }
  let d : Dev := { d with cores := d.cores.map fun k => (k.1, shift k.2) }
  d.modPlacer fun p => { p with doors := p.doors.map fun x => (x.1, ({ x.2 with done := x.2.cycles, cycles := 0 } : DoorPl)) }

/-- Operating time advances by 1 ms every 16 frames; sig.87001–87003 follow the counts (R15, R27), and in RUN the frames of R47
count. -/
def Dev.openClock (d : Dev) : Dev :=
  let d := d.modSys fun y => { y with frame := y.frame + 1, runFrames := if y.power == .run then y.runFrames + 1 else y.runFrames,
                                      opTime := if (y.frame + 1).toNat % 16 = 0 then y.opTime + 1 else y.opTime }
  let d := d.devSig 0x87001 d.sys.frame
  (d.devNat 0x87002 (d.now % 2 ^ 32)).devNat 0x87003 (d.now / 2 ^ 32)

/-- A core at the boundary: it samples d, its running task is preempted, and its posted writes reach home (R41, R51, R54). -/
def Dev.openCore (d : Dev) (c : Nat) : Dev :=
  let d := d.setCore c { d.core c with div := d.sys.div }
  (d.preempt c).drainPosts c

/-- A round still in progress at the boundary that ends its frames goes on and owns the next one (R55).
DEDUCED: notes/assumptions/19.md. -/
def Dev.extendRound (d : Dev) (c : Nat) : Dev :=
  let k := d.core c
  if (d.sys.frame - k.roundFrame).toNat < k.own then d
  else
    let d := d.setCore c { k with own := k.own + 1 }
    if k.rose then d.orReg (Adr.sfFlags c) 0x10 else d

/-- The frame-task round of a sheaf that begins with the frame, or none (R40, R54, R55). -/
def Dev.openRound (d : Dev) (c : Nat) : Dev :=
  let k := d.core c
  if !d.scheduling c then d
  else if k.round.isSome then (d.extendRound c).wakeFrame c
  else if c < 16 && d.sys.frame.toNat % k.div = 0 then d.startRound c
  else d.wakeFrame c

/-- The cores of the module, the supervisor core last. -/
def allCores : List Nat := List.range 17

/-- The scheduler's part of a boundary. -/
def Dev.openCores (d : Dev) : Dev :=
  let d := allCores.foldl (fun d c => d.openRound c) d
  let d := d.modSys fun y => { y with boundary := false }
  allCores.foldl (fun d c => d.choose c) d

/-- The turn of the frame: the clock, the supplies, what a coarse tick keeps, and the cores at the boundary. -/
def Dev.turnFrame (d : Dev) : Dev :=
  let d := d.modSys fun y => { y with boundary := true }
  let d : Dev := { d with recorder := { d.recorder with scan := false }, host := { d.host with tx := [] } }
  let d := d.openClock.sampleSupplies
  let d := if d.sys.frame.toNat % 16 = 15 then d.hsSnapshot else d
  let d := if d.sys.frame.toNat % 8 = 0 then d.closeTick else d
  allCores.foldl (fun d c => (d.openCore c).flushFaults c) d

/-- Open the next frame. DESIGN CHOICE: notes/assumptions/18.md. -/
def Dev.openFrame (d : Dev) (roleIn : Bool) : Dev :=
  let u := d.sys.frame
  let d := ((d.turnFrame.pairBoundary roleIn).portsFrame u).sendPair
  let d := (d.traceSync.drainTrace).countEvent 1 0 1
  d.openCores

/-- A boundary in ROAST: the counts of frames and of operating time go on, and nothing else of a frame does (R15, R383). -/
def Dev.roastFrame (d : Dev) : Dev := { d with host := { d.host with tx := [] } }.openClock.sampleSupplies

/-- FRAME_BOUNDARY: a boundary of the module's frames, in IDLE, RUN and ROAST; `roleIn` is the level of ROLE_IN there. -/
def execFrameBoundary (roleIn : Bool) (s : State) : Host.Outcome State Fault Refusal :=
  if s.dev.operating then .next { s with dev := s.dev.closeFrame.openFrame roleIn }
  else if s.dev.sys.power == .roast && s.dev.sys.reset.isNone then .next { s with dev := s.dev.roastFrame }
  else .next s

/-! ### The coarse tick (R44, R46, R110, R114, R176) -/

/-- The frame-task load of a sheaf over the tick that ended, truncated to 0.1 %, or the previous value where no round started
(R44). -/
def Core.load (k : Core) (last : Nat) : Nat :=
  if k.doneRounds = 0 then last else satNat 1000 (k.doneCycles * 1000 / (12500 * k.doneRounds))

/-- The load report of a sheaf: sig.87020 + n, SF_LOAD.LAST and PEAK, and the shares of its doors (R44, R111), truncated to 0.1 %.
DEDUCED: notes/assumptions/19.md. DESIGN CHOICE: notes/assumptions/71.md. -/
def Dev.reportLoad (d : Dev) (c : Nat) : Dev :=
  let k := d.core c
  let a := Adr.sfLoad c
  let last := k.load (fld (d.reg a) 0 10)
  let d := (d.setRegFld a 0 10 last).setRegFld a 16 10 (Nat.max (fld (d.reg a) 16 10) last)
  let d := d.devNat (0x87020 + c) last
  let share (y : DoorPl) : DoorPl :=
    if y.sheaf = c ∧ k.doneRounds ≠ 0 then { y with share := y.done * 1000 / (12500 * k.doneRounds) } else y
  d.modPlacer fun p => { p with doors := p.doors.map fun x => (x.1, share x.2) }

/-- A released COARSE task takes the core from a task of a lower class (R41). -/
def Dev.yieldToCoarse (d : Dev) (c : Nat) : Dev :=
  let k := d.core c
  match k.cur with
  | none => d.choose c
  | some t =>
    let low := (d.task c t).kind == .event || (d.task c t).kind == .background
    if low && k.pickCoarse.isSome then (d.preempt c).choose c else d

/-- COARSE_TICK: the coarse tick that begins at the present frame, once. -/
def Dev.coarseTick (d : Dev) : Dev :=
  let d := d.modSys fun y => { y with lastTick := some y.frame }
  let d := (List.range 16).foldl (fun d c => d.reportLoad c) d
  let d := (d.migrationDecision.migrationTakeup).coarseReleases
  let d := allCores.foldl (fun d c => d.yieldToCoarse c) d
  d.buildSignatures 8

/-- COARSE_TICK. -/
def execCoarseTick (s : State) : Host.Outcome State Fault Refusal :=
  let y := s.dev.sys
  if s.dev.operating && y.frame.toNat % 8 = 0 && y.lastTick != some y.frame then .next { s with dev := s.dev.coarseTick }
  else .next s

end Sys2Proof.Machine
end

