-- ==== Sys2Proof/Machine/LocalMemory.lean ====
section
/-! DEFINITION. Loads and stores of task-local memory, and the constants (R48, R70, R71). -/

namespace Sys2Proof.Machine

/-- The task-local address of an operand: g(a) + imm, in 32 bits. -/
def Task.localAddr (x : Task) (a : Reg) (imm : BitVec 15) : Nat := (x.g a + sext15 imm).toNat

/-- The fault of an access of `size` bytes, alignment checked first (R48). -/
def Task.localFault (x : Task) (addr size : Nat) : Option Nat :=
  if addr % size ≠ 0 then some 0xA00B else if x.memSize < addr + size then some 0xA00A else none

/-- A load of `size` bytes, sign-extended from its top bit where `signed`. -/
def loadEffect (size : Nat) (signed : Bool) (d a : Reg) (imm : BitVec 15) (x : Task) : Effect :=
  let addr := x.localAddr a imm
  match x.localFault addr size with
  | some code => .fault code
  | none =>
    let v := leNat (memReads x.mem addr size)
    let w := if signed && 2 ^ (8 * size - 1) ≤ v then wordOfInt ((v : Int) - 2 ^ (8 * size)) else wordOfNat v
    .regs 1 (x.setG d w)

/-- A store of the low `size` bytes of g(d). -/
def storeEffect (size : Nat) (d a : Reg) (imm : BitVec 15) (x : Task) : Effect :=
  let addr := x.localAddr a imm
  match x.localFault addr size with
  | some code => .fault code
  | none => .regs 1 { x with mem := memWrites x.mem addr (leBytes size (x.g d).toNat) }

/-- LD.W. -/
def execLdW (core : CoreId) (d a : Reg) (imm : BitVec 15) (s : State) : Host.Outcome State Fault Refusal :=
  execInstr core (.ldW core d a imm) s fun _ x => loadEffect 4 false d a imm x

/-- LD.H: sign-extended. -/
def execLdH (core : CoreId) (d a : Reg) (imm : BitVec 15) (s : State) : Host.Outcome State Fault Refusal :=
  execInstr core (.ldH core d a imm) s fun _ x => loadEffect 2 true d a imm x

/-- LD.HU: zero-extended. -/
def execLdHU (core : CoreId) (d a : Reg) (imm : BitVec 15) (s : State) : Host.Outcome State Fault Refusal :=
  execInstr core (.ldHU core d a imm) s fun _ x => loadEffect 2 false d a imm x

/-- LD.B: sign-extended. -/
def execLdB (core : CoreId) (d a : Reg) (imm : BitVec 15) (s : State) : Host.Outcome State Fault Refusal :=
  execInstr core (.ldB core d a imm) s fun _ x => loadEffect 1 true d a imm x

/-- LD.BU: zero-extended. -/
def execLdBU (core : CoreId) (d a : Reg) (imm : BitVec 15) (s : State) : Host.Outcome State Fault Refusal :=
  execInstr core (.ldBU core d a imm) s fun _ x => loadEffect 1 false d a imm x

/-- ST.W. -/
def execStW (core : CoreId) (d a : Reg) (imm : BitVec 15) (s : State) : Host.Outcome State Fault Refusal :=
  execInstr core (.stW core d a imm) s fun _ x => storeEffect 4 d a imm x

/-- ST.H. -/
def execStH (core : CoreId) (d a : Reg) (imm : BitVec 15) (s : State) : Host.Outcome State Fault Refusal :=
  execInstr core (.stH core d a imm) s fun _ x => storeEffect 2 d a imm x

/-- ST.B. -/
def execStB (core : CoreId) (d a : Reg) (imm : BitVec 15) (s : State) : Host.Outcome State Fault Refusal :=
  execInstr core (.stB core d a imm) s fun _ x => storeEffect 1 d a imm x

/-- LDC.W: the constant word at byte g(a) + imm with Z and N, V cleared; any other address gives 0 with Z and V set. -/
def ldcEffect (consts : List Word) (d a : Reg) (imm : BitVec 15) (x : Task) : Effect :=
  let addr := x.localAddr a imm
  let w := if addr % 4 = 0 then consts[addr / 4]? else none
  match w with
  | some v => .regs 1 { x.setG d v with z := v == 0, n := v.msb, v := false }
  | none => .regs 1 { x.setG d 0 with z := true, n := false, v := true }

/-- LDC.W. -/
def execLdcW (core : CoreId) (d a : Reg) (imm : BitVec 15) (s : State) : Host.Outcome State Fault Refusal :=
  execInstr core (.ldcW core d a imm) s fun t x => ldcEffect (s.dev.constsOf core.val t) d a imm x

end Sys2Proof.Machine
end

