-- ==== Sys2Proof/Machine/Dispatch.lean ====
section
/-! DEFINITION. One arm for each command: its meaning, called once. -/

namespace Sys2Proof.Machine

/-- The effect of a command on everything but the queue. -/
def exec (i : Instr) (s : State) : Host.Outcome State Fault Refusal :=
  match i with
  | .frameBoundary roleIn => Sys2Proof.Machine.execFrameBoundary roleIn s
  | .coarseTick => Sys2Proof.Machine.execCoarseTick s
  | .budgetExceeded core => Sys2Proof.Machine.execBudgetExceeded core s
  | .waitTimeExpiry core task => Sys2Proof.Machine.execWaitTimeExpiry core task s
  | .periodicTimer core task trig => Sys2Proof.Machine.execPeriodicTimer core task trig s
  | .backgroundTurnEnd core => Sys2Proof.Machine.execBackgroundTurnEnd core s
  | .postedWriteArrives core entry => Sys2Proof.Machine.execPostedWriteArrives core entry s
  | .add core d a b => Sys2Proof.Machine.execAdd core d a b s
  | .sub core d a b => Sys2Proof.Machine.execSub core d a b s
  | .and core d a b => Sys2Proof.Machine.execAnd core d a b s
  | .or core d a b => Sys2Proof.Machine.execOr core d a b s
  | .xor core d a b => Sys2Proof.Machine.execXor core d a b s
  | .shl core d a b => Sys2Proof.Machine.execShl core d a b s
  | .shr core d a b => Sys2Proof.Machine.execShr core d a b s
  | .sar core d a b => Sys2Proof.Machine.execSar core d a b s
  | .min core d a b => Sys2Proof.Machine.execMin core d a b s
  | .max core d a b => Sys2Proof.Machine.execMax core d a b s
  | .cmp core a b => Sys2Proof.Machine.execCmp core a b s
  | .tst core a b => Sys2Proof.Machine.execTst core a b s
  | .mul core d a b => Sys2Proof.Machine.execMul core d a b s
  | .mulh core d a b => Sys2Proof.Machine.execMulh core d a b s
  | .mulhu core d a b => Sys2Proof.Machine.execMulhu core d a b s
  | .div core d a b => Sys2Proof.Machine.execDiv core d a b s
  | .divu core d a b => Sys2Proof.Machine.execDivu core d a b s
  | .rem core d a b => Sys2Proof.Machine.execRem core d a b s
  | .adds core d a b => Sys2Proof.Machine.execAdds core d a b s
  | .subs core d a b => Sys2Proof.Machine.execSubs core d a b s
  | .mulq core d a b => Sys2Proof.Machine.execMulq core d a b s
  | .divq core d a b => Sys2Proof.Machine.execDivq core d a b s
  | .abss core d a => Sys2Proof.Machine.execAbss core d a s
  | .negs core d a => Sys2Proof.Machine.execNegs core d a s
  | .shls core d a b => Sys2Proof.Machine.execShls core d a b s
  | .clamp core d a b => Sys2Proof.Machine.execClamp core d a b s
  | .addi core d a imm => Sys2Proof.Machine.execAddi core d a imm s
  | .andi core d a imm => Sys2Proof.Machine.execAndi core d a imm s
  | .ori core d a imm => Sys2Proof.Machine.execOri core d a imm s
  | .xori core d a imm => Sys2Proof.Machine.execXori core d a imm s
  | .shli core d a amount => Sys2Proof.Machine.execShli core d a amount s
  | .shri core d a amount => Sys2Proof.Machine.execShri core d a amount s
  | .sari core d a amount => Sys2Proof.Machine.execSari core d a amount s
  | .cmpi core a imm => Sys2Proof.Machine.execCmpi core a imm s
  | .ldu core d imm20 => Sys2Proof.Machine.execLdu core d imm20 s
  | .ldW core d a imm => Sys2Proof.Machine.execLdW core d a imm s
  | .ldH core d a imm => Sys2Proof.Machine.execLdH core d a imm s
  | .ldHU core d a imm => Sys2Proof.Machine.execLdHU core d a imm s
  | .ldB core d a imm => Sys2Proof.Machine.execLdB core d a imm s
  | .ldBU core d a imm => Sys2Proof.Machine.execLdBU core d a imm s
  | .stW core d a imm => Sys2Proof.Machine.execStW core d a imm s
  | .stH core d a imm => Sys2Proof.Machine.execStH core d a imm s
  | .stB core d a imm => Sys2Proof.Machine.execStB core d a imm s
  | .ldcW core d a imm => Sys2Proof.Machine.execLdcW core d a imm s
  | .srd core reg op stall => Sys2Proof.Machine.execSrd core reg op stall s
  | .srdq core reg op stall => Sys2Proof.Machine.execSrdq core reg op stall s
  | .swr core reg op => Sys2Proof.Machine.execSwr core reg op s
  | .swri core reg op => Sys2Proof.Machine.execSwri core reg op s
  | .b core cond off21 => Sys2Proof.Machine.execB core cond off21 s
  | .bl core cond off21 => Sys2Proof.Machine.execBl core cond off21 s
  | .jr core a => Sys2Proof.Machine.execJr core a s
  | .callr core a => Sys2Proof.Machine.execCallr core a s
  | .endTask core => Sys2Proof.Machine.execEndTask core s
  | .yield core => Sys2Proof.Machine.execYield core s
  | .waitEv core => Sys2Proof.Machine.execWaitEv core s
  | .waitF core => Sys2Proof.Machine.execWaitF core s
  | .waitT core a imm => Sys2Proof.Machine.execWaitT core a imm s
  | .axsel core a imm => Sys2Proof.Machine.execAxsel core a imm s
  | .mvStart core sub a profile relative => Sys2Proof.Machine.execMvStart core sub a profile relative s
  | .mvStop core sub => Sys2Proof.Machine.execMvStop core sub s
  | .mvSpeed core sub a remove => Sys2Proof.Machine.execMvSpeed core sub a remove s
  | .mvAccel core sub a remove => Sys2Proof.Machine.execMvAccel core sub a remove s
  | .mvHome core sub a positive source => Sys2Proof.Machine.execMvHome core sub a positive source s
  | .mvGear core sub a table disengage => Sys2Proof.Machine.execMvGear core sub a table disengage s
  | .mvMode core sub mode => Sys2Proof.Machine.execMvMode core sub mode s
  | .recPut core sub a b utype => Sys2Proof.Machine.execRecPut core sub a b utype s
  | .confirm core sub => Sys2Proof.Machine.execConfirm core sub s
  | .sysRegRead core sub a b => Sys2Proof.Machine.execSysRegRead core sub a b s
  | .sysRegWrite core sub a b => Sys2Proof.Machine.execSysRegWrite core sub a b s
  | .trcMark core sub a b => Sys2Proof.Machine.execTrcMark core sub a b s
  | .sysCntRead core sub a b => Sys2Proof.Machine.execSysCntRead core sub a b s
  | .imgState core sub a b => Sys2Proof.Machine.execImgState core sub a b s
  | .axCtrl core sub a b => Sys2Proof.Machine.execAxCtrl core sub a b s
  | .instRestart core sub a b => Sys2Proof.Machine.execInstRestart core sub a b s
  | .sysNoService core sub a b service => Sys2Proof.Machine.execSysNoService core sub a b service s
  | .undefinedEncoding core ecc => Sys2Proof.Machine.execUndefinedEncoding core ecc s
  | .sfInstrst sheaf value => Sys2Proof.Machine.execSfInstrst sheaf value s
  | .restartCheck sheaf => Sys2Proof.Machine.execRestartCheck sheaf s
  | .sfPeakclr sheaf value => Sys2Proof.Machine.execSfPeakclr sheaf value s
  | .registerWrite addr value => Sys2Proof.Machine.execRegisterWrite addr value s
  | .sysOptloRead => Sys2Proof.Machine.execSysOptloRead s
  | .axCfgWrite axis value => Sys2Proof.Machine.execAxCfgWrite axis value s
  | .plcMigreq value => Sys2Proof.Machine.execPlcMigreq value s
  | .migrationPreparationEnd => Sys2Proof.Machine.execMigrationPreparationEnd s
  | .migrationCopyFrame => Sys2Proof.Machine.execMigrationCopyFrame s
  | .migrationSwitch copiesAgree => Sys2Proof.Machine.execMigrationSwitch copiesAgree s
  | .moveEnd axis => Sys2Proof.Machine.execMoveEnd axis s
  | .holdAmplitude axis => Sys2Proof.Machine.execHoldAmplitude axis s
  | .upstreamFrameReceived port onTime violation bytes => Sys2Proof.Machine.execUpstreamFrameReceived port onTime violation bytes s
  | .portLost port => Sys2Proof.Machine.execPortLost port s
  | .nodesBeyondBreakLost port => Sys2Proof.Machine.execNodesBeyondBreakLost port s
  | .channelLost axis => Sys2Proof.Machine.execChannelLost axis s
  | .autorstLinkStart port => Sys2Proof.Machine.execAutorstLinkStart port s
  | .strCmdStart port value => Sys2Proof.Machine.execStrCmdStart port value s
  | .strCmdStop port value => Sys2Proof.Machine.execStrCmdStop port value s
  | .trainComplete port => Sys2Proof.Machine.execTrainComplete port s
  | .linkStartTimeout port => Sys2Proof.Machine.execLinkStartTimeout port s
  | .startFrame port => Sys2Proof.Machine.execStartFrame port s
  | .bulkReplyTimeout port node => Sys2Proof.Machine.execBulkReplyTimeout port node s
  | .listenFrameReceived port onTime violation bytes => Sys2Proof.Machine.execListenFrameReceived port onTime violation bytes s
  | .safetyHoldRelease axis => Sys2Proof.Machine.execSafetyHoldRelease axis s
  | .safetyCycle diag => Sys2Proof.Machine.execSafetyCycle diag s
  | .loopSwitchOn loop => Sys2Proof.Machine.execLoopSwitchOn loop s
  | .safeTelegramCopy port => Sys2Proof.Machine.execSafeTelegramCopy port s
  | .singlePathWindowEnd source stamp => Sys2Proof.Machine.execSinglePathWindowEnd source stamp s
  | .telegramTimeout source => Sys2Proof.Machine.execTelegramTimeout source s
  | .safCmdAck value => Sys2Proof.Machine.execSafCmdAck value s
  | .safCmdReset value => Sys2Proof.Machine.execSafCmdReset value s
  | .safCmdLoopReset value => Sys2Proof.Machine.execSafCmdLoopReset value s
  | .safUnlock value => Sys2Proof.Machine.execSafUnlock value s
  | .unlockExpiry => Sys2Proof.Machine.execUnlockExpiry s
  | .safParameterWrite addr value => Sys2Proof.Machine.execSafParameterWrite addr value s
  | .checkRecomputed => Sys2Proof.Machine.execCheckRecomputed s
  | .commission => Sys2Proof.Machine.execCommission s
  | .testDue => Sys2Proof.Machine.execTestDue s
  | .barrierFrameReceived sample => Sys2Proof.Machine.execBarrierFrameReceived sample s
  | .barrierLinkLost => Sys2Proof.Machine.execBarrierLinkLost s
  | .barrierLinkUp => Sys2Proof.Machine.execBarrierLinkUp s
  | .huskFrameReceived good => Sys2Proof.Machine.execHuskFrameReceived good s
  | .soCommandLossOff => Sys2Proof.Machine.execSoCommandLossOff s
  | .barrierWatchdogTrip => Sys2Proof.Machine.execBarrierWatchdogTrip s
  | .recoveryEnd => Sys2Proof.Machine.execRecoveryEnd s
  | .v24fUndervoltage => Sys2Proof.Machine.execV24fUndervoltage s
  | .undervoltageEnd => Sys2Proof.Machine.execUndervoltageEnd s
  | .huskReset => Sys2Proof.Machine.execHuskReset s
  | .hsDeferredApply h => Sys2Proof.Machine.execHsDeferredApply h s
  | .hsLimitTrip h => Sys2Proof.Machine.execHsLimitTrip h s
  | .hsCurveTrip x => Sys2Proof.Machine.execHsCurveTrip x s
  | .hsThermalTrip h => Sys2Proof.Machine.execHsThermalTrip h s
  | .hsRetry h => Sys2Proof.Machine.execHsRetry h s
  | .hsCooled h => Sys2Proof.Machine.execHsCooled h s
  | .gangRaisedLimitEnd q => Sys2Proof.Machine.execGangRaisedLimitEnd q s
  | .hsOpenLoadOnstate h => Sys2Proof.Machine.execHsOpenLoadOnstate h s
  | .offstateOpenLoadCheck h above3v5 above8v => Sys2Proof.Machine.execOffstateOpenLoadCheck h above3v5 above8v s
  | .soOverloadOff k => Sys2Proof.Machine.execSoOverloadOff k s
  | .drvEdge pin level => Sys2Proof.Machine.execDrvEdge pin level s
  | .fldConfigWrite addr value => Sys2Proof.Machine.execFldConfigWrite addr value s
  | .pairFrameReceived bytes => Sys2Proof.Machine.execPairFrameReceived bytes s
  | .roleClaim => Sys2Proof.Machine.execRoleClaim s
  | .takeover => Sys2Proof.Machine.execTakeover s
  | .pairCmdSwap value => Sys2Proof.Machine.execPairCmdSwap value s
  | .swapTakeRole roleIn => Sys2Proof.Machine.execSwapTakeRole roleIn s
  | .swapDue => Sys2Proof.Machine.execSwapDue s
  | .pairPortDown => Sys2Proof.Machine.execPairPortDown s
  | .roleDisagree => Sys2Proof.Machine.execRoleDisagree s
  | .pairCfgWrite value => Sys2Proof.Machine.execPairCfgWrite value s
  | .vhpDatagramReceived link ip udp bytes => Sys2Proof.Machine.execVhpDatagramReceived link ip udp bytes s
  | .vhpRegRead => Sys2Proof.Machine.execVhpRegRead s
  | .vhpRegWrite => Sys2Proof.Machine.execVhpRegWrite s
  | .sigRead => Sys2Proof.Machine.execSigRead s
  | .sigWrite => Sys2Proof.Machine.execSigWrite s
  | .sigWriteInvalid => Sys2Proof.Machine.execSigWriteInvalid s
  | .sigForce => Sys2Proof.Machine.execSigForce s
  | .sigRelease => Sys2Proof.Machine.execSigRelease s
  | .stateRun => Sys2Proof.Machine.execStateRun s
  | .runBegin => Sys2Proof.Machine.execRunBegin s
  | .stateIdle => Sys2Proof.Machine.execStateIdle s
  | .departureComplete => Sys2Proof.Machine.execDepartureComplete s
  | .stateKeep => Sys2Proof.Machine.execStateKeep s
  | .stateRoast => Sys2Proof.Machine.execStateRoast s
  | .stateOff => Sys2Proof.Machine.execStateOff s
  | .stateInvalidTarget => Sys2Proof.Machine.execStateInvalidTarget s
  | .shutdownDrainComplete => Sys2Proof.Machine.execShutdownDrainComplete s
  | .ident => Sys2Proof.Machine.execIdent s
  | .updBlock programmed => Sys2Proof.Machine.execUpdBlock programmed s
  | .updStatus => Sys2Proof.Machine.execUpdStatus s
  | .recReadRecords => Sys2Proof.Machine.execRecReadRecords s
  | .recReadCapture => Sys2Proof.Machine.execRecReadCapture s
  | .recReadLifetime => Sys2Proof.Machine.execRecReadLifetime s
  | .recChal random => Sys2Proof.Machine.execRecChal random s
  | .recClear => Sys2Proof.Machine.execRecClear s
  | .trcRead => Sys2Proof.Machine.execTrcRead s
  | .vhpCntRead => Sys2Proof.Machine.execVhpCntRead s
  | .nodeReq => Sys2Proof.Machine.execNodeReq s
  | .nodeRead => Sys2Proof.Machine.execNodeRead s
  | .telegramDatagramReceived link stamp bytes => Sys2Proof.Machine.execTelegramDatagramReceived link stamp bytes s
  | .arpRequest link target senderIp senderMac => Sys2Proof.Machine.execArpRequest link target senderIp senderMac s
  | .icmpEchoRequest link senderIp echo data => Sys2Proof.Machine.execIcmpEchoRequest link senderIp echo data s
  | .ethernetLinkUp port fullDuplex => Sys2Proof.Machine.execEthernetLinkUp port fullDuplex s
  | .ethernetLinkLost port => Sys2Proof.Machine.execEthernetLinkLost port s
  | .hostWatchdogExpiry => Sys2Proof.Machine.execHostWatchdogExpiry s
  | .hostCfgsave value => Sys2Proof.Machine.execHostCfgsave value s
  | .canCtrlEnable can value => Sys2Proof.Machine.execCanCtrlEnable can value s
  | .canCtrlDisable can value => Sys2Proof.Machine.execCanCtrlDisable can value s
  | .canTimingWrite can addr value => Sys2Proof.Machine.execCanTimingWrite can addr value s
  | .canObjectConfigWrite can addr value => Sys2Proof.Machine.execCanObjectConfigWrite can addr value s
  | .canFrameReceived can frame => Sys2Proof.Machine.execCanFrameReceived can frame s
  | .canLockTimeout can object => Sys2Proof.Machine.execCanLockTimeout can object s
  | .canRxTimeout can object => Sys2Proof.Machine.execCanRxTimeout can object s
  | .canTransmitAttempt can => Sys2Proof.Machine.execCanTransmitAttempt can s
  | .canAttemptEnd can result => Sys2Proof.Machine.execCanAttemptEnd can result s
  | .canCmdRecover can value => Sys2Proof.Machine.execCanCmdRecover can value s
  | .canRecoveryEnd can => Sys2Proof.Machine.execCanRecoveryEnd can s
  | .recordCommit => Sys2Proof.Machine.execRecordCommit s
  | .lifetimeBlockCommit => Sys2Proof.Machine.execLifetimeBlockCommit s
  | .repeatWordRewrite => Sys2Proof.Machine.execRepeatWordRewrite s
  | .repeatWindowEnd => Sys2Proof.Machine.execRepeatWindowEnd s
  | .recAnccmd value => Sys2Proof.Machine.execRecAnccmd value s
  | .recKeycmd value => Sys2Proof.Machine.execRecKeycmd value s
  | .clearLockoutEnd => Sys2Proof.Machine.execClearLockoutEnd s
  | .updCmdBegin value => Sys2Proof.Machine.execUpdCmdBegin value s
  | .updCmdFinish value => Sys2Proof.Machine.execUpdCmdFinish value s
  | .updCmdAbort value => Sys2Proof.Machine.execUpdCmdAbort value s
  | .eraseComplete erased => Sys2Proof.Machine.execEraseComplete erased s
  | .confirmComplete written => Sys2Proof.Machine.execConfirmComplete written s
  | .operatingMinute => Sys2Proof.Machine.execOperatingMinute s
  | .trialExpiry => Sys2Proof.Machine.execTrialExpiry s
  | .roastEnd failMap safetyPart ms => Sys2Proof.Machine.execRoastEnd failMap safetyPart ms s
  | .roastAbort pll test ms => Sys2Proof.Machine.execRoastAbort pll test ms s
  | .trcCmdFreeze value => Sys2Proof.Machine.execTrcCmdFreeze value s
  | .trcCmdResume value => Sys2Proof.Machine.execTrcCmdResume value s
  | .trcCmdCntclr value => Sys2Proof.Machine.execTrcCmdCntclr value s
  | .coldStart copyOk => Sys2Proof.Machine.execColdStart copyOk s
  | .wakeStart copyOk => Sys2Proof.Machine.execWakeStart copyOk s
  | .resetStart copyOk => Sys2Proof.Machine.execResetStart copyOk s
  | .startReachesIdle ms opMs => Sys2Proof.Machine.execStartReachesIdle ms opMs s
  | .sagDivide div4 railMv => Sys2Proof.Machine.execSagDivide div4 railMv s
  | .sagStepBack railMv => Sys2Proof.Machine.execSagStepBack railMv s
  | .brownout => Sys2Proof.Machine.execBrownout s
  | .powerFailWarning vin => Sys2Proof.Machine.execPowerFailWarning vin s
  | .powerFailOff => Sys2Proof.Machine.execPowerFailOff s
  | .rstnAssert => Sys2Proof.Machine.execRstnAssert s
  | .rstnRelease => Sys2Proof.Machine.execRstnRelease s
  | .rstnStuck => Sys2Proof.Machine.execRstnStuck s
  | .rstnBackInService => Sys2Proof.Machine.execRstnBackInService s
  | .canBusError can kind => Sys2Proof.Machine.execCanBusError can kind s
  | .onstateOpenLoadClear h => Sys2Proof.Machine.execOnstateOpenLoadClear h s
  | .roleOutFrameEngineTimeout => Sys2Proof.Machine.execRoleOutFrameEngineTimeout s

end Sys2Proof.Machine
end

