-- ==== Sys2Proof/WellFormed.lean ====
section
/-! DEFINITION. Which commands are well formed: the fields of an instruction are ones its encoding admits (R62, R66, R72, R73, R93,
R94, R85), a register write names a register of its own row, and a frame, a sample or a datagram has a form the bus admits. -/

namespace Sys2Proof

open Sys2Proof.Machine

/-- A signal operand: base 3 of the computed form is undefined (R72). -/
def SigOp.wf : SigOp → Bool
  | .abs _ => true
  | .rel _ base _ => base != 3

/-- A CAN frame that ISO 11898-1 admits (R333): the identifier fits its format; a data length that a frame can have; BRS and ESI
only in FD frames, a remote frame only in classical ones and without data. -/
def CanFrame.wf (f : CanFrame) : Bool :=
  let lengths : List Nat := if f.fdf then [0, 1, 2, 3, 4, 5, 6, 7, 8, 12, 16, 20, 24, 32, 48, 64] else [0, 1, 2, 3, 4, 5, 6, 7, 8]
  (f.ide || f.id.toNat < 2048) && lengths.contains f.data.length && (f.fdf || (!f.brs && !f.esi))
    && (!f.remote || (!f.fdf && f.data.isEmpty))

/-- A sample of the field section has a value for each of its inputs and channels (R264). -/
def FieldSample.wf (x : FieldSample) : Bool :=
  x.diVolt.length == 64 && x.hsCurrent.length == 32 && x.soCurrent.length == 8 && x.hsFast.all fun c => c.length == 32

/-- An even register number, as SRDQ and SYS need (R73, R93). -/
def evenReg (r : Reg) : Bool := r.toNat % 2 == 0

/-- Whether a command is well formed. -/
def Instr.wf : Instr → Bool
  | .srd _ _ op _ => op.wf
  | .srdq _ r op _ => op.wf && evenReg r
  | .swr _ _ op => op.wf
  | .swri _ _ op => op.wf
  | .b _ cond _ => cond != 8
  | .bl _ cond _ => cond != 8
  | .mvGear _ _ _ table disengage => !disengage || table == 0
  | .sysRegRead _ r _ _ => evenReg r
  | .sysRegWrite _ r _ _ => evenReg r
  | .trcMark _ r _ _ => evenReg r
  | .sysCntRead _ r _ _ => evenReg r
  | .imgState _ r _ _ => evenReg r
  | .axCtrl _ r _ _ => evenReg r
  | .instRestart _ r _ _ => evenReg r
  | .sysNoService _ r _ _ service => evenReg r && !services.contains service.toNat
  | .registerWrite addr _ => inBlock addr.toNat && addr.toNat % 4 == 0
  | .safParameterWrite addr _ => inSafSet addr.toNat && addr.toNat % 4 == 0
  | .fldConfigWrite addr _ => inFldConfig addr.toNat
  | .canTimingWrite can addr _ =>
    [Adr.canNbt can.val, Adr.canDbt can.val, Adr.canTdc can.val].contains addr.toNat
  | .canObjectConfigWrite can addr _ =>
    decide (Adr.canObjid can.val 0 ≤ addr.toNat) && decide (addr.toNat < Adr.canObjid can.val 0 + 0x800) && addr.toNat % 4 == 0
  | .canFrameReceived _ frame => frame.wf
  | .barrierFrameReceived sample => sample.wf
  | .roastAbort _ test _ => decide (1 ≤ test.toNat) && decide (test.toNat ≤ 11)
  | .add _ _ _ _ | .sub _ _ _ _ | .and _ _ _ _ | .or _ _ _ _ | .xor _ _ _ _ | .shl _ _ _ _ | .shr _ _ _ _ | .sar _ _ _ _
  | .min _ _ _ _ | .max _ _ _ _ | .cmp _ _ _ | .tst _ _ _ | .mul _ _ _ _ | .mulh _ _ _ _ | .mulhu _ _ _ _ | .div _ _ _ _
  | .divu _ _ _ _ | .rem _ _ _ _ | .adds _ _ _ _ | .subs _ _ _ _ | .mulq _ _ _ _ | .divq _ _ _ _ | .abss _ _ _ | .negs _ _ _
  | .shls _ _ _ _ | .clamp _ _ _ _ | .addi _ _ _ _ | .andi _ _ _ _ | .ori _ _ _ _ | .xori _ _ _ _ | .shli _ _ _ _
  | .shri _ _ _ _ | .sari _ _ _ _ | .cmpi _ _ _ | .ldu _ _ _ | .ldW _ _ _ _ | .ldH _ _ _ _ | .ldHU _ _ _ _ | .ldB _ _ _ _
  | .ldBU _ _ _ _ | .stW _ _ _ _ | .stH _ _ _ _ | .stB _ _ _ _ | .ldcW _ _ _ _ | .jr _ _ | .callr _ _ | .endTask _ | .yield _
  | .waitEv _ | .waitF _ | .waitT _ _ _ | .axsel _ _ _ | .mvStart _ _ _ _ _ | .mvStop _ _ | .mvSpeed _ _ _ _ | .mvAccel _ _ _ _
  | .mvHome _ _ _ _ _ | .mvMode _ _ _ | .recPut _ _ _ _ _ | .confirm _ _ | .undefinedEncoding _ _ => true
  | .frameBoundary _ | .coarseTick | .budgetExceeded _ | .waitTimeExpiry _ _ | .periodicTimer _ _ _ | .backgroundTurnEnd _
  | .postedWriteArrives _ _ | .sfInstrst _ _ | .restartCheck _ | .sfPeakclr _ _ | .sysOptloRead | .axCfgWrite _ _ | .plcMigreq _
  | .migrationPreparationEnd | .migrationCopyFrame | .migrationSwitch _ | .moveEnd _ | .holdAmplitude _
  | .upstreamFrameReceived _ _ _ _ | .portLost _ | .nodesBeyondBreakLost _ | .channelLost _ | .autorstLinkStart _
  | .strCmdStart _ _ | .strCmdStop _ _ | .trainComplete _ | .linkStartTimeout _ | .startFrame _ | .bulkReplyTimeout _ _
  | .listenFrameReceived _ _ _ _ | .safetyHoldRelease _ | .safetyCycle _ | .loopSwitchOn _ | .safeTelegramCopy _
  | .singlePathWindowEnd _ _ | .telegramTimeout _ | .safCmdAck _ | .safCmdReset _ | .safCmdLoopReset _ | .safUnlock _
  | .unlockExpiry | .checkRecomputed | .commission | .testDue | .barrierLinkLost | .barrierLinkUp | .huskFrameReceived _
  | .soCommandLossOff | .barrierWatchdogTrip | .recoveryEnd | .v24fUndervoltage | .undervoltageEnd | .huskReset
  | .hsDeferredApply _ | .hsLimitTrip _ | .hsCurveTrip _ | .hsThermalTrip _ | .hsRetry _ | .hsCooled _ | .gangRaisedLimitEnd _
  | .hsOpenLoadOnstate _ | .offstateOpenLoadCheck _ _ _ | .soOverloadOff _ | .drvEdge _ _ | .pairFrameReceived _ | .roleClaim
  | .takeover | .pairCmdSwap _ | .swapTakeRole _ | .swapDue | .pairPortDown | .roleDisagree | .pairCfgWrite _ => true
  | .vhpRegRead | .vhpRegWrite | .sigRead | .sigWrite | .sigWriteInvalid | .sigForce | .sigRelease | .stateRun | .runBegin
  | .stateIdle | .departureComplete | .stateKeep | .stateRoast | .stateOff | .stateInvalidTarget | .shutdownDrainComplete | .ident
  | .updBlock _ | .updStatus | .recReadRecords | .recReadCapture | .recReadLifetime | .recChal _ | .recClear | .trcRead
  | .vhpCntRead | .nodeReq | .nodeRead | .vhpDatagramReceived _ _ _ _ | .telegramDatagramReceived _ _ _ | .arpRequest _ _ _ _
  | .icmpEchoRequest _ _ _ _ | .ethernetLinkUp _ _
  | .ethernetLinkLost _ | .hostWatchdogExpiry | .hostCfgsave _ | .canCtrlEnable _ _ | .canCtrlDisable _ _ | .canLockTimeout _ _
  | .canRxTimeout _ _ | .canTransmitAttempt _ | .canAttemptEnd _ _ | .canCmdRecover _ _ | .canRecoveryEnd _ | .recordCommit
  | .lifetimeBlockCommit | .repeatWordRewrite | .repeatWindowEnd | .recAnccmd _ | .recKeycmd _ | .clearLockoutEnd
  | .updCmdBegin _ | .updCmdFinish _ | .updCmdAbort _ | .eraseComplete _ | .confirmComplete _ | .operatingMinute | .trialExpiry
  | .roastEnd _ _ _ | .trcCmdFreeze _ | .trcCmdResume _ | .trcCmdCntclr _ | .coldStart _ | .wakeStart _ | .resetStart _
  | .startReachesIdle _ _ | .sagDivide _ _ | .sagStepBack _ | .brownout | .powerFailWarning _ | .powerFailOff | .rstnAssert
  | .rstnRelease | .rstnStuck | .rstnBackInService | .canBusError _ _ | .onstateOpenLoadClear _ | .roleOutFrameEngineTimeout => true

end Sys2Proof
end

