-- ==== Sys2Proof/Safety.lean ====
section
/-! DEFINITION. The words the statements are written in: when an instruction of a core is due, what the state is once it has
executed, and the parts of the module a command leaves alone. -/

namespace Sys2Proof.Safety

open Sys2Proof.Machine

/-- A command answers a next state with a property. -/
def Answers (i : Instr) (s : State) (post : Dev → Prop) : Prop :=
  ∃ t, exec i s = .next t ∧ t.pending = s.pending ∧ post t.dev

/-! ### Instructions of a core -/

/-- Task `t` runs on a core whose tasks are dispatched, and the word at its program counter is that of instruction `i`
(R41, R76, R98). -/
def due (s : State) (core : CoreId) (t : Nat) (i : Instr) : Bool :=
  s.dev.scheduling core.val && (s.dev.core core.val).cur == some t
    && s.dev.fetch core.val t == encode i && (encode i).any (fun w => (decode core 0 w).isSome)

/-- Instruction `i` is due and its task's budget holds `cycles` more cycles; a BACKGROUND task has none (R45). -/
def ready (s : State) (core : CoreId) (t : Nat) (i : Instr) (cycles : Nat) : Bool :=
  let x := s.dev.task core.val t
  due s core t i && (x.kind == .background || decide (x.count + cycles ≤ x.budget))

/-- The state once the running task's instruction has executed in some cycles: its context is `x`, its count has gained the
cycles, they are in the accounts of its core, and `eff` has happened to the rest of the module. -/
def executed (s : State) (core : CoreId) (t cycles : Nat) (x : Task) (eff : Dev → Dev := id) : State :=
  let y := s.dev.task core.val t
  { s with dev := eff ((s.dev.setTask core.val t { x with count := y.count + cycles }).spend core.val y cycles) }

/-- A due instruction whose cycles the budget holds executes: the task's context becomes `y`. -/
def Runs (s : State) (core : CoreId) (t : Nat) (i : Instr) (cycles : Nat) (y : Task) (eff : Dev → Dev := id) : Prop :=
  ready s core t i cycles = true → exec i s = .next (executed s core t cycles y eff)

/-- A due instruction takes a task fault, with one more cycle counted than before it (R45). -/
def Faults (s : State) (core : CoreId) (t : Nat) (i : Instr) (code : Nat) : Prop :=
  due s core t i = true →
    exec i s = .next { s with dev := s.dev.taskFault core.val t code ((s.dev.task core.val t).count + 1) }

/-- A context with the program counter at the following instruction. -/
def next (x : Task) : Task := { x with pc := x.pc + 4 }

/-- A context that went on with new flags: Z and N of a result, and C and V (R65). -/
def withFlags (x : Task) (r : Word) (c v : Bool) : Task :=
  next { x with z := decide (r = 0), n := r.msb, c := c, v := v }

/-- A context that went on with a result in a register, and the flags of that result. -/
def result (x : Task) (d : Reg) (r : Word) (c v : Bool) : Task := withFlags (x.setG d r) r c v

/-- A word of formats A and M: opcode and the fields d, a, b and fn (R61). -/
def wordA (op : BitVec 7) (d a b : Reg) (fn : BitVec 10) : Word := op ++ d ++ a ++ b ++ fn

/-- A word of format I: opcode and the fields d, a and imm15 (R61). -/
def wordI (op : BitVec 7) (d a : Reg) (imm : BitVec 15) : Word := op ++ d ++ a ++ imm

/-- The signed integer limited to 32 bits, and whether it was limited (R69). -/
def limited (i : Int) : Word × Bool :=
  if i > 2147483647 then (0x7FFFFFFF, true) else if i < -2147483648 then (0x80000000, true) else (wordOfInt i, false)

/-- The sixteen conditions of B and BL (R66). -/
def condition (x : Task) (cond : BitVec 4) : Bool :=
  match cond.toNat with
  | 0 => true
  | 1 => x.z
  | 2 => x.c
  | 3 => x.n
  | 4 => x.v
  | 5 => !x.c && !x.z
  | 6 => x.n == x.v
  | 7 => !x.z && x.n == x.v
  | 9 => !x.z
  | 10 => !x.c
  | 11 => !x.n
  | 12 => !x.v
  | 13 => x.c || x.z
  | 14 => x.n != x.v
  | 15 => x.z || x.n != x.v
  | _ => false

/-- An address is that of a word of the task's code. -/
def codeAddress (s : State) (core : CoreId) (t : Nat) (a : Int) : Prop :=
  0 ≤ a ∧ a < 4 * (s.dev.codeOf core.val t).length ∧ a % 4 = 0

/-- The address of a load, a store or a constant: g(a) + imm in 32 bits. -/
def address (x : Task) (a : Reg) (imm : BitVec 15) : Nat := (x.g a + imm.signExtend 32).toNat

/-- The signal a signal operand names: its number, or the base register, g(a) and the offset summed in 32 bits (R72). -/
def signal (x : Task) : SigOp → Nat
  | .abs sig => sig.toNat
  | .rel a base off =>
    ((if base = 0 then 0 else if base = 1 then x.ib else x.ax) + x.g a + off.setWidth 32 : Word).toNat

/-- What a completed read leaves beside the registers: the event counters of its tier, and, unless the task saw its own posted
write, the marks of a signal that was read (R22, R341, R393). -/
def readMarks (s : State) (core : CoreId) (t n : Nat) (d : Dev) : Dev :=
  let d := d.countRead core.val (s.dev.tierOf core.val n) true
  if (s.dev.ownPost core.val t n).isSome && !(s.dev.sig n).forced then d else (d.sigMark n).canTaskRead n

/-- Two modules differ at most in one task's context and in the accounts of cycles: of its core, and of its door's share. -/
def SameButTask (d d' : Dev) (c t : Nat) : Prop :=
  (∀ c' t', (c', t') ≠ (c, t) → d'.task c' t' = d.task c' t') ∧
  (∀ c', c' ≠ c → d'.core c' = d.core c') ∧
  ({ d'.core c with tasks := [], tickCycles := 0, turn := 0 } : Core) = { d.core c with tasks := [], tickCycles := 0, turn := 0 } ∧
  (∀ x, (d'.doorPl x).map (fun y => { y with cycles := 0 }) = (d.doorPl x).map (fun y => { y with cycles := 0 })) ∧
  ({ d' with cores := [], placer := { d'.placer with doors := [] } } : Dev)
    = { d with cores := [], placer := { d.placer with doors := [] } }

/-! ### Commands and events of the units -/

/-- A command ends by writing an event record: the module before the record has a property, and the record follows. -/
def Records (i : Instr) (s : State) (code subj : Nat) (post : Dev → Prop) : Prop :=
  ∃ d' : Dev, exec i s = .next { s with dev := d'.event code subj } ∧ post d'

/-- A command that its state does not call for changes nothing. -/
def Ignored (i : Instr) (s : State) : Prop := exec i s = .next s

/-- An axis is in OFF, or in NOCONF. -/
def parked (d : Dev) (n : Nat) : Prop := (d.axis n).motion.st = .off ∨ (d.axis n).motion.st = .noconf

/-- The axes of the slot configuration in force on a port. -/
def portAxes (d : Dev) (p : Nat) : List Nat := (d.port p).inForce.axes.map (·.axis)

/-- No port but `p` differs. -/
def SamePorts (d d' : Dev) (p : Nat) : Prop := ∀ q, q ≠ p → d'.port q = d.port q

/-- A request is at the front of the queue and may execute: the host ports are up and no other request is executing (R319). -/
def fronts (s : State) (q : VReq) : Prop :=
  s.dev.host.queue.head? = some q ∧ s.dev.host.executing = false ∧ s.dev.hostPortsUp = true

/-- A request that executes and is accepted is answered with a status and a payload, after an effect. -/
def Serves (i : Instr) (s : State) (q : VReq) (status : Nat) (payload : List Byte) (post : Dev → Prop) : Prop :=
  ∃ d' : Dev, exec i s = .next { s with dev := d'.respond q status payload s.dev.sys.frame } ∧ post d'

/-- What the states of a module that no step leaves have in common: ENTERING only in IDLE and LEAVING only in RUN, each while its
request executes; a shutdown drains in IDLE; a start and a reset are in KEEP, and never both; the division is 1, 2 or 4. -/
def powerInv (d : Dev) : Prop :=
  let y := d.sys
  (y.entering = true → y.power = .idle ∧ d.host.executing = true ∧ y.shutdown = none) ∧
  (y.leaving = true → y.power = .run ∧ d.host.executing = true ∧ ∀ p, y.shutdown ≠ some (p, .draining)) ∧
  (∀ p, y.shutdown = some (p, .draining) → y.power = .idle ∧ d.host.executing = true) ∧
  (∀ p, y.shutdown = some (p, .departing) → y.leaving = true) ∧
  (y.starting ≠ none → y.power = .keep ∧ y.reset = none) ∧ (y.reset ≠ none → y.power = .keep) ∧
  (y.vinFailed = true → y.power = .keep ∧ y.reset ≠ none) ∧ (y.div = 1 ∨ y.div = 2 ∨ y.div = 4)

/-- What the queues of a module that no step leaves have in common: of pending records one overflow entry, 32 reserved and 991 general
ones at most, with the shares of REC.PUT (R91, R359); 32 host requests (R319); 512 promotions (R176); 4,096 bytes of trace packets (R390);
the trace buffer in its canonical form. -/
def queueInv (d : Dev) : Prop :=
  let r := d.recorder
  r.inPool 0 ≤ 1 ∧ r.inPool 1 ≤ 32 ∧ r.inPool 2 ≤ 991 ∧ (∀ c, r.share c ≤ if c = 16 then 64 else 32) ∧
  d.host.queue.length ≤ 32 ∧ d.promos.length ≤ 512 ∧ d.trace.fifo.length ≤ 4096 ∧ Memory.wf d.trace.buffer = true

end Sys2Proof.Safety
end

