-- ==== Sys2Proof/Certificates/Slice0/Obligations.lean ====
section
/-! DEFINITION. The statements for the provers, family by family. -/

open Sys2Proof Sys2Proof.Machine Sys2Proof.Safety

/-! ### The queue of commands -/

/-- The command at the front of the queue is the one that runs, on the state with the rest of the queue. -/
def Obligations.StepRunsFront : Prop :=
  ∀ (s : State) (c : Instr) (rest : List Instr),
    step { s with pending := c :: rest } = exec c { s with pending := rest }

/-- The module never stops: any number of steps from any state answers a next state, and takes the commands in the order in
which they wait.

Model's choices here: notes/assumptions/2.md. -/
def Obligations.QueueServed : Prop :=
  ∀ (k : Nat) (s : State), ∃ t, Sys2Proof.core.run k s = .next t ∧ t.pending = s.pending.drop k

/-! ### Encodings (R61–R98) -/

/-- Every instruction with fields its encoding admits is the one its word decodes to.

A word that decodes is the word of the instruction it decodes to, but for the operand no bit carries. -/
def Obligations.DecodeEncode : Prop :=
  (∀ (i : Instr) (w : Word), i.wf = true → encode i = some w → ∃ c stall, decode c stall w = some i) ∧
  (∀ (c : CoreId) (stall : Nat) (w : Word) (i : Instr), decode c stall w = some i → i.wf = true ∧ encode i = some w)

/-! ### What one instruction changes -/

/-- An instruction that only changes its task's context changes nothing else in the module but the accounts of cycles, for any
context it leaves.

g0 reads 0 and discards writes; any other general register holds what was written last, and no other register, flag or
field of the context changes (R34). -/
def Obligations.InstructionFrame : Prop :=
  (∀ (s : State) (core : CoreId) (t cycles : Nat) (x : Task),
    let s' := executed s core t cycles x
    s'.pending = s.pending ∧ SameButTask s.dev s'.dev core.val t ∧
      s'.dev.task core.val t = { x with count := (s.dev.task core.val t).count + cycles }) ∧
  (∀ (x : Task) (d e : Reg) (r : Word),
    x.g 0 = 0 ∧ x.setG 0 r = x ∧
    (x.setG d r).g e = (if e = 0 then 0 else if e = d then r else x.g e) ∧
    ({ x.setG d r with regs := [] } : Task) = { x with regs := [] })

/-! ### Register instructions (R67–R69) -/

/-- The integer ALU: word, result, flags and cycles of each operation, shift amounts being g(b)[4:0]; a fn not listed, and a CMP or
TST whose d is not 0, is an undefined encoding. -/
def Obligations.IntegerAlu : Prop :=
  ∀ (s : State) (core : CoreId) (t : Nat) (d a b : Reg),
    let x := s.dev.task core.val t
    let p := x.g a
    let q := x.g b
    let n := q.toNat % 32
    let signed (i : Int) : Word := BitVec.ofInt 32 i
    let zeroDiv := q = 0
    let outOfRange := p = 0x80000000 ∧ q = 0xFFFFFFFF
    let rows : List (Instr × Reg × BitVec 10) :=
      [(.add core d a b, d, 0x000), (.sub core d a b, d, 0x001), (.and core d a b, d, 0x002), (.or core d a b, d, 0x003),
       (.xor core d a b, d, 0x004), (.shl core d a b, d, 0x005), (.shr core d a b, d, 0x006), (.sar core d a b, d, 0x007),
       (.min core d a b, d, 0x008), (.max core d a b, d, 0x009), (.cmp core a b, 0, 0x00A), (.tst core a b, 0, 0x00B),
       (.mul core d a b, d, 0x00C), (.mulh core d a b, d, 0x00D), (.mulhu core d a b, d, 0x00E), (.div core d a b, d, 0x010),
       (.divu core d a b, d, 0x011), (.rem core d a b, d, 0x012)]
    (∀ i e fn, (i, e, fn) ∈ rows → encode i = some (wordA 0x01 e a b fn)) ∧
    (∀ stall fn, (∀ i, (i, d, fn) ∉ rows) → decode core stall (wordA 0x01 d a b fn) = none) ∧
    Runs s core t (.add core d a b) 1
      (result x d (p + q) (decide (2 ^ 32 ≤ p.toNat + q.toNat)) (decide (p.toInt + q.toInt ≠ (p + q).toInt))) ∧
    Runs s core t (.sub core d a b) 1
      (result x d (p - q) (decide (p.toNat < q.toNat)) (decide (p.toInt - q.toInt ≠ (p - q).toInt))) ∧
    Runs s core t (.and core d a b) 1 (result x d (p &&& q) false false) ∧
    Runs s core t (.or core d a b) 1 (result x d (p ||| q) false false) ∧
    Runs s core t (.xor core d a b) 1 (result x d (p ^^^ q) false false) ∧
    Runs s core t (.shl core d a b) 1 (result x d (p <<< n) (decide (0 < n) && p.getLsbD (32 - n)) false) ∧
    Runs s core t (.shr core d a b) 1 (result x d (p >>> n) (decide (0 < n) && p.getLsbD (n - 1)) false) ∧
    Runs s core t (.sar core d a b) 1 (result x d (p.sshiftRight n) (decide (0 < n) && p.getLsbD (n - 1)) false) ∧
    Runs s core t (.min core d a b) 1 (result x d (signed (min p.toInt q.toInt)) false false) ∧
    Runs s core t (.max core d a b) 1 (result x d (signed (max p.toInt q.toInt)) false false) ∧
    Runs s core t (.cmp core a b) 1
      (withFlags x (p - q) (decide (p.toNat < q.toNat)) (decide (p.toInt - q.toInt ≠ (p - q).toInt))) ∧
    Runs s core t (.tst core a b) 1 (withFlags x (p &&& q) false false) ∧
    Runs s core t (.mul core d a b) 2 (result x d (p * q) false (decide (p.toInt * q.toInt ≠ (p * q).toInt))) ∧
    Runs s core t (.mulh core d a b) 2 (result x d (signed (p.toInt * q.toInt / 2 ^ 32)) false false) ∧
    Runs s core t (.mulhu core d a b) 2 (result x d (BitVec.ofNat 32 (p.toNat * q.toNat / 2 ^ 32)) false false) ∧
    (zeroDiv → Runs s core t (.div core d a b) 18 (result x d 0 false true)) ∧
    (outOfRange → Runs s core t (.div core d a b) 18 (result x d 0x7FFFFFFF false true)) ∧
    (¬zeroDiv → ¬outOfRange → Runs s core t (.div core d a b) 18 (result x d (signed (p.toInt.tdiv q.toInt)) false false)) ∧
    (zeroDiv → Runs s core t (.divu core d a b) 18 (result x d 0 false true)) ∧
    (¬zeroDiv → Runs s core t (.divu core d a b) 18 (result x d (BitVec.ofNat 32 (p.toNat / q.toNat)) false false)) ∧
    (zeroDiv → Runs s core t (.rem core d a b) 18 (result x d p false true)) ∧
    (outOfRange → Runs s core t (.rem core d a b) 18 (result x d 0 false true)) ∧
    (¬zeroDiv → ¬outOfRange → Runs s core t (.rem core d a b) 18 (result x d (signed (p.toInt.tmod q.toInt)) false false))

/-- The immediate instructions: word, result and flags; imm15 is sign-extended, a shift takes imm[4:0] with imm[14:5] 0, the d of
CMPI is 0, and LDU changes no flag. -/
def Obligations.Immediates : Prop :=
  ∀ (s : State) (core : CoreId) (t : Nat) (d a : Reg) (imm : BitVec 15) (amount : BitVec 5) (imm20 : BitVec 20),
    let x := s.dev.task core.val t
    let p := x.g a
    let q : Word := imm.signExtend 32
    let n := amount.toNat
    let rows : List (Instr × BitVec 7 × Reg × BitVec 15) :=
      [(.addi core d a imm, 0x08, d, imm), (.andi core d a imm, 0x09, d, imm), (.ori core d a imm, 0x0A, d, imm),
       (.xori core d a imm, 0x0B, d, imm), (.shli core d a amount, 0x0C, d, amount.setWidth 15),
       (.shri core d a amount, 0x0D, d, amount.setWidth 15), (.sari core d a amount, 0x0E, d, amount.setWidth 15),
       (.cmpi core a imm, 0x0F, 0, imm)]
    (∀ i op e k, (i, op, e, k) ∈ rows → encode i = some (wordI op e a k)) ∧
    encode (.ldu core d imm20) = some ((0x10 : BitVec 7) ++ d ++ imm20) ∧ encode (.add core 0 0 0) = some 0x02000000 ∧
    (∀ stall, 31 < imm.toNat → ∀ op ∈ [0x0C, 0x0D, 0x0E], decode core stall (wordI op d a imm) = none) ∧
    (∀ stall, d ≠ 0 → decode core stall (wordI 0x0F d a imm) = none) ∧
    Runs s core t (.addi core d a imm) 1
      (result x d (p + q) (decide (2 ^ 32 ≤ p.toNat + q.toNat)) (decide (p.toInt + q.toInt ≠ (p + q).toInt))) ∧
    Runs s core t (.andi core d a imm) 1 (result x d (p &&& q) false false) ∧
    Runs s core t (.ori core d a imm) 1 (result x d (p ||| q) false false) ∧
    Runs s core t (.xori core d a imm) 1 (result x d (p ^^^ q) false false) ∧
    Runs s core t (.shli core d a amount) 1 (result x d (p <<< n) (decide (0 < n) && p.getLsbD (32 - n)) false) ∧
    Runs s core t (.shri core d a amount) 1 (result x d (p >>> n) (decide (0 < n) && p.getLsbD (n - 1)) false) ∧
    Runs s core t (.sari core d a amount) 1 (result x d (p.sshiftRight n) (decide (0 < n) && p.getLsbD (n - 1)) false) ∧
    Runs s core t (.cmpi core a imm) 1
      (withFlags x (p - q) (decide (p.toNat < q.toNat)) (decide (p.toInt - q.toInt ≠ (p - q).toInt))) ∧
    Runs s core t (.ldu core d imm20) 1 (next (x.setG d (BitVec.ofNat 32 (imm20.toNat * 4096))))

/-- The saturating operations, word, result, flags and cycles: a result beyond the signed range is replaced by the limit on its side with V set, C is cleared;
MULQ rounds to nearest with ties away from zero, DIVQ truncates.

Model's choices here: notes/assumptions/16.md. -/
def Obligations.Saturating : Prop :=
  ∀ (s : State) (core : CoreId) (t : Nat) (d a b : Reg),
    let x := s.dev.task core.val t
    let p := (x.g a).toInt
    let q := (x.g b).toInt
    let prev := (x.g d).toInt
    let product := p * q
    let rounded : Int := if 0 ≤ product then (product + 2 ^ 15) / 2 ^ 16 else -((-product + 2 ^ 15) / 2 ^ 16)
    let held := if q < p then p else max p (min prev q)
    let sat (i : Int) : Task := result x d (limited i).1 false (limited i).2
    let rows : List (Instr × Reg × BitVec 10) :=
      [(.adds core d a b, b, 0x000), (.subs core d a b, b, 0x001), (.mulq core d a b, b, 0x002), (.divq core d a b, b, 0x003),
       (.abss core d a, 0, 0x004), (.negs core d a, 0, 0x005), (.shls core d a b, b, 0x006), (.clamp core d a b, b, 0x007)]
    (∀ i e fn, (i, e, fn) ∈ rows → encode i = some (wordA 0x02 d a e fn)) ∧
    (∀ stall fn, (∀ i, (i, b, fn) ∉ rows) → decode core stall (wordA 0x02 d a b fn) = none) ∧
    Runs s core t (.adds core d a b) 1 (sat (p + q)) ∧
    Runs s core t (.subs core d a b) 1 (sat (p - q)) ∧
    Runs s core t (.mulq core d a b) 2 (sat rounded) ∧
    (q ≠ 0 → Runs s core t (.divq core d a b) 20 (sat ((p * 2 ^ 16).tdiv q))) ∧
    (q = 0 → 0 < p → Runs s core t (.divq core d a b) 20 (result x d 0x7FFFFFFF false true)) ∧
    (q = 0 → p < 0 → Runs s core t (.divq core d a b) 20 (result x d 0x80000000 false true)) ∧
    (q = 0 → p = 0 → Runs s core t (.divq core d a b) 20 (result x d 0 false true)) ∧
    Runs s core t (.abss core d a) 1 (sat |p|) ∧
    Runs s core t (.negs core d a) 1 (sat (-p)) ∧
    Runs s core t (.shls core d a b) 1 (sat (p * 2 ^ ((x.g b).toNat % 32))) ∧
    Runs s core t (.clamp core d a b) 1 (result x d (BitVec.ofInt 32 held) false (decide (held ≠ prev)))

/-! ### Task-local memory and constants (R48, R70, R71) -/

/-- Loads read the task's own block little-endian and change no flag; an address that is not a multiple of the access size is
task fault 0xA00B, one beyond the block 0xA00A, in that order.

Stores write the low bytes of g(d), little-endian, at g(a) + imm; every other byte of the block, every register and every
flag is as before, and the memory keeps its canonical form; the faults are those of the loads. -/
def Obligations.LoadsAndStores : Prop :=
  (∀ (s : State) (core : CoreId) (t : Nat) (d a : Reg) (imm : BitVec 15),
    let x := s.dev.task core.val t
    let p := address x a imm
    let m (k : Nat) : Byte := memRead x.mem (p + k)
    let word : Word := m 3 ++ m 2 ++ m 1 ++ m 0
    let half : BitVec 16 := m 1 ++ m 0
    let ok (size : Nat) : Prop := p % size = 0 ∧ p + size ≤ x.memSize
    let rows : List (Instr × BitVec 7) := [(.ldW core d a imm, 0x18), (.ldH core d a imm, 0x19), (.ldHU core d a imm, 0x1A),
      (.ldB core d a imm, 0x1B), (.ldBU core d a imm, 0x1C)]
    (∀ i op, (i, op) ∈ rows → encode i = some (wordI op d a imm)) ∧
    (ok 4 → Runs s core t (.ldW core d a imm) 1 (next (x.setG d word))) ∧
    (ok 2 → Runs s core t (.ldH core d a imm) 1 (next (x.setG d (half.signExtend 32)))) ∧
    (ok 2 → Runs s core t (.ldHU core d a imm) 1 (next (x.setG d (half.setWidth 32)))) ∧
    (ok 1 → Runs s core t (.ldB core d a imm) 1 (next (x.setG d ((m 0).signExtend 32)))) ∧
    (ok 1 → Runs s core t (.ldBU core d a imm) 1 (next (x.setG d ((m 0).setWidth 32)))) ∧
    (p % 4 ≠ 0 → Faults s core t (.ldW core d a imm) 0xA00B) ∧
    (p % 2 ≠ 0 → Faults s core t (.ldH core d a imm) 0xA00B ∧ Faults s core t (.ldHU core d a imm) 0xA00B) ∧
    (p % 4 = 0 → x.memSize < p + 4 → Faults s core t (.ldW core d a imm) 0xA00A) ∧
    (p % 2 = 0 → x.memSize < p + 2 → Faults s core t (.ldH core d a imm) 0xA00A ∧ Faults s core t (.ldHU core d a imm) 0xA00A) ∧
    (x.memSize < p + 1 → Faults s core t (.ldB core d a imm) 0xA00A ∧ Faults s core t (.ldBU core d a imm) 0xA00A)) ∧
  (∀ (s : State) (core : CoreId) (t : Nat) (d a : Reg) (imm : BitVec 15),
    let x := s.dev.task core.val t
    let p := address x a imm
    let ok (size : Nat) : Prop := p % size = 0 ∧ p + size ≤ x.memSize
    let stored (size : Nat) (m : List Host.Cell) : Prop :=
      (∀ k, memRead m k = if p ≤ k ∧ k < p + size then BitVec.ofNat 8 ((x.g d).toNat / 256 ^ (k - p)) else memRead x.mem k) ∧
      (Memory.wf x.mem = true → Memory.wf m = true)
    let stores (i : Instr) (size : Nat) : Prop := ∃ m, stored size m ∧ Runs s core t i 1 (next { x with mem := m })
    let rows : List (Instr × BitVec 7) := [(.stW core d a imm, 0x1D), (.stH core d a imm, 0x1E), (.stB core d a imm, 0x1F)]
    (∀ i op, (i, op) ∈ rows → encode i = some (wordI op d a imm)) ∧
    (ok 4 → stores (.stW core d a imm) 4) ∧ (ok 2 → stores (.stH core d a imm) 2) ∧ (ok 1 → stores (.stB core d a imm) 1) ∧
    (p % 4 ≠ 0 → Faults s core t (.stW core d a imm) 0xA00B) ∧
    (p % 2 ≠ 0 → Faults s core t (.stH core d a imm) 0xA00B) ∧
    (p % 4 = 0 → x.memSize < p + 4 → Faults s core t (.stW core d a imm) 0xA00A) ∧
    (p % 2 = 0 → x.memSize < p + 2 → Faults s core t (.stH core d a imm) 0xA00A) ∧
    (x.memSize < p + 1 → Faults s core t (.stB core d a imm) 0xA00A))

/-- LDC.W reads the constants of the door type, or the system constants, with Z and N from the word and V cleared; any other
address gives 0 with Z and V set and N cleared, and no fault. C keeps its value.

AXSEL selects slot 0 of the door's axis with the index given; an index outside the door, and every AXSEL of a system task,
is task fault 0xA00C; no flag changes. -/
def Obligations.Constants : Prop :=
  (∀ (s : State) (core : CoreId) (t : Nat) (d a : Reg) (imm : BitVec 15),
    let x := s.dev.task core.val t
    let consts := s.dev.constsOf core.val t
    let p := address x a imm
    encode (.ldcW core d a imm) = some (wordI 0x20 d a imm) ∧
    (∀ w, p % 4 = 0 → consts[p / 4]? = some w →
      Runs s core t (.ldcW core d a imm) 1 (next { x.setG d w with z := decide (w = 0), n := w.msb, v := false })) ∧
    ((p % 4 ≠ 0 ∨ consts.length ≤ p / 4) →
      Runs s core t (.ldcW core d a imm) 1 (next { x.setG d 0 with z := true, n := false, v := true }))) ∧
  (∀ (s : State) (core : CoreId) (t : Nat) (a : Reg) (imm : BitVec 15),
    let x := s.dev.task core.val t
    let i := (x.g a + imm.signExtend 32).toInt
    let axes := s.dev.axesOf core.val t
    encode (.axsel core a imm) = some (wordI 0x11 0 a imm) ∧ (∀ d stall, d ≠ 0 → decode core stall (wordI 0x11 d a imm) = none) ∧
    (∀ n, 0 ≤ i → axes[i.toNat]? = some n →
      Runs s core t (.axsel core a imm) 1 (next { x with ax := BitVec.ofNat 32 (n * 1024) })) ∧
    ((i < 0 ∨ axes.length ≤ i.toNat) → Faults s core t (.axsel core a imm) 0xA00C) ∧
    (core = 16 → Faults s core t (.axsel core a imm) 0xA00C))

/-! ### Branches, jumps, task control, axis selection (R76–R81) -/

/-- B and BL: 2 cycles to pc + 4 × off21 when the condition holds, 1 cycle to the next instruction when it does not; BL writes
g31 only when taken; a taken branch out of the code is task fault 0xA010; no flag changes.

JR and CALLR: 2 cycles to g(a), read before g31 is written; a target that is no address of the code is task fault 0xA010. -/
def Obligations.Branches : Prop :=
  (∀ (s : State) (core : CoreId) (t : Nat) (cond : BitVec 4) (off : BitVec 21),
    let x := s.dev.task core.val t
    let target : Int := x.pc.toNat + 4 * off.toInt
    let y := { x with pc := BitVec.ofInt 32 target }
    let traced (taken : Bool) (d : Dev) : Dev := d.traceBranch core.val taken
    (cond ≠ 8 → encode (.b core cond off) = some ((0x30 : BitVec 7) ++ cond ++ off) ∧
      encode (.bl core cond off) = some ((0x31 : BitVec 7) ++ cond ++ off)) ∧
    (∀ stall, decode core stall ((0x30 : BitVec 7) ++ 8#4 ++ off) = none ∧
      decode core stall ((0x31 : BitVec 7) ++ 8#4 ++ off) = none) ∧
    (condition x cond = true → codeAddress s core t target →
      Runs s core t (.b core cond off) 2 y (traced true) ∧
      Runs s core t (.bl core cond off) 2 { x.setG 31 (x.pc + 4) with pc := BitVec.ofInt 32 target } (traced true)) ∧
    (condition x cond = true → ¬codeAddress s core t target →
      Faults s core t (.b core cond off) 0xA010 ∧ Faults s core t (.bl core cond off) 0xA010) ∧
    (condition x cond = false → cond ≠ 8 →
      Runs s core t (.b core cond off) 1 (next x) (traced false) ∧ Runs s core t (.bl core cond off) 1 (next x) (traced false))) ∧
  (∀ (s : State) (core : CoreId) (t : Nat) (a : Reg),
    let x := s.dev.task core.val t
    let target := x.g a
    let traced (d : Dev) : Dev := d.flowPacket core.val 0x04 (leBytes 4 target.toNat)
    encode (.jr core a) = some (wordA 0x03 0 a 0 0x000) ∧ encode (.callr core a) = some (wordA 0x03 0 a 0 0x001) ∧
    (codeAddress s core t target.toNat →
      Runs s core t (.jr core a) 2 { x with pc := target } traced ∧
      Runs s core t (.callr core a) 2 { x.setG 31 (x.pc + 4) with pc := target } traced) ∧
    (¬codeAddress s core t target.toNat →
      Faults s core t (.jr core a) 0xA010 ∧ Faults s core t (.callr core a) 0xA010))

/-- END, YIELD and the WAIT forms take 1 cycle and leave the core to its next choice: END ends the release (a BACKGROUND task is stopped), YIELD makes the task ready again, WAIT.EV, WAIT.F and WAIT.T suspend it; WAIT.T takes at most 16,777,215
frames and acts as YIELD for 0 or below; in a FRAME or COARSE task all but END are task fault 0xA008.

A task that stops leaves its core: the core goes on to its next choice from a module in which no task runs on it, the task
is in its new state with its registers kept, and a BACKGROUND task gave its turn on. After YIELD the task is ready, with its registers,
memory, program counter, count and trigger queue kept, in the last place of the order of queueing.

Model's choices here: notes/assumptions/71.md. -/
def Obligations.TaskControl : Prop :=
  (∀ (s : State) (core : CoreId) (t : Nat) (a : Reg) (imm : BitVec 15),
    let x := s.dev.task core.val t
    let may := x.kind = .event ∨ x.kind = .background
    let frames := (x.g a + imm.signExtend 32).toInt
    let until_ := s.dev.sys.frame + BitVec.ofInt 32 (min frames 16777215)
    let stops (i : Instr) (st : TaskSt) (event : Nat) : Prop :=
      Runs s core t i 1 (next x) (fun d => d.stopTask core.val t st event)
    let yields (i : Instr) : Prop := Runs s core t i 1 (next x) (fun d => d.yieldTask core.val t)
    stops (.endTask core) (if x.kind = .background then .stopped else .idle) 0 ∧
    (may → yields (.yield core) ∧ stops (.waitEv core) .waitEv 1 ∧ stops (.waitF core) (.waitFrame s.dev.sys.frame) 1 ∧
      (0 < frames → stops (.waitT core a imm) (.waitTime until_) 1) ∧ (frames ≤ 0 → yields (.waitT core a imm))) ∧
    (¬may → Faults s core t (.yield core) 0xA008 ∧ Faults s core t (.waitEv core) 0xA008 ∧ Faults s core t (.waitF core) 0xA008 ∧
      Faults s core t (.waitT core a imm) 0xA008)) ∧
  ((∀ (d : Dev) (c t : Nat),
    let x := d.task c t
    ∃ d' : Dev, d.yieldTask c t = d'.choose c ∧ (d'.core c).cur = none ∧
      (let y := d'.task c t
       y.st = .ready ∧ y.regs = x.regs ∧ y.mem = x.mem ∧ y.pc = x.pc ∧ y.count = x.count ∧ y.queue = x.queue ∧
         y.ord = d.nextOrd) ∧
      (∀ t', t' ≠ t → d'.task c t' = d.task c t') ∧ (∀ k, k ≠ c → d'.core k = d.core k) ∧
      (x.kind = .background → (d'.core c).bgNext = t + 1) ∧ (d'.core c).round = (d.core c).round ∧
      (d'.core c).wbuf = (d.core c).wbuf ∧ d'.sigs = d.sigs ∧ d'.axes = d.axes ∧ d'.sys = d.sys) ∧
  ∀ (d : Dev) (c t : Nat) (st : TaskSt) (event : Nat),
    ∃ d' : Dev, d.stopTask c t st event = d'.choose c ∧ (d'.core c).cur = none ∧ (d'.task c t).st = st ∧
      (d'.task c t).regs = (d.task c t).regs ∧ (d'.task c t).mem = (d.task c t).mem ∧ (d'.task c t).pc = (d.task c t).pc ∧
      ((d.task c t).kind = .background → (d'.core c).bgNext = t + 1) ∧ (d'.core c).round = (d.core c).round ∧
      (d'.core c).wbuf = (d.core c).wbuf ∧ d'.sigs = d.sigs ∧ d'.axes = d.axes ∧ d'.sys = d.sys)

/-! ### Signals (R49–R53, R72–R75) -/

/-- SRD and SRDQ: the value, Z and N from it, C = VALID, V = STALE or LOST; SRDQ puts quality, tag and stamp in the next
register. The cost is that of the signal's tier: 1, 4 to 6, 12 to 16 or 1 to 240 cycles, and for a receive object of a CAN controller
that is on up to 40 more. A signal that does not exist reads 0 with quality 0 in one cycle. A FRAME task's access to tier 2 is task fault
0xA00D.

Model's choices here: notes/assumptions/9.md, notes/assumptions/11.md, notes/assumptions/14.md, notes/assumptions/57.md, notes/assumptions/70.md. -/
def Obligations.SignalReads : Prop :=
  ∀ (s : State) (core : CoreId) (t : Nat) (r : Reg) (op : SigOp) (stall : Nat), op.wf = true →
    let x := s.dev.task core.val t
    let n := signal x op
    let v := s.dev.taskSees core.val t n
    let flags (y : Task) (v : Sig) : Task :=
      next { y with z := decide (v.value = 0), n := v.value.msb, c := v.q.getLsbD 0, v := v.q.getLsbD 1 || v.q.getLsbD 2 }
    let quality (v : Sig) : Word := v.stamp ++ v.tag ++ v.q
    let tier := s.dev.tierOf core.val n
    let barred := x.kind = .frame ∧ s.dev.sigExists n = true ∧ tier = .dram
    let cycles := match tier with
      | .own => 1
      | .pool => max 4 (min stall (6 + s.dev.canWait n))
      | .cross => max 12 (min stall 16)
      | .dram => max 1 (min stall 240)
    (s.dev.sigExists n = true → ¬barred →
      Runs s core t (.srd core r op stall) cycles (flags (x.setG r v.value) v) (readMarks s core t n) ∧
      Runs s core t (.srdq core r op stall) cycles (flags ((x.setG r v.value).setG (r + 1) (quality v)) v)
        (readMarks s core t n)) ∧
    (s.dev.sigExists n = false →
      Runs s core t (.srd core r op stall) 1 (flags (x.setG r 0) {}) ∧
      Runs s core t (.srdq core r op stall) 1 (flags ((x.setG r 0).setG (r + 1) 0) {})) ∧
    (barred → Faults s core t (.srd core r op stall) 0xA00D ∧ Faults s core t (.srdq core r op stall) 0xA00D)

/-- SWR and SWRI: refused with C = 0 and no other effect where the signal does not exist or may not be written; accepted with
C = 1 and at home at once in the sheaf's own tier 0, else posted in one cycle into the write buffer; a FRAME task's access to
tier 2 is task fault 0xA00D, before the access.

Model's choices here: notes/assumptions/9.md, notes/assumptions/12.md. -/
def Obligations.SignalWrites : Prop :=
  ∀ (s : State) (core : CoreId) (t : Nat) (r : Reg) (op : SigOp), op.wf = true →
    let x := s.dev.task core.val t
    let n := signal x op
    let allowed := s.dev.sigExists n = true ∧ s.dev.sigAllows n (s.dev.writerOf core.val t) = true
    let barred := x.kind = .frame ∧ s.dev.sigExists n = true ∧ s.dev.tierOf core.val n = .dram
    let home := s.dev.homeCode n
    let queued (valid : Bool) : Post :=
      { task := t, sig := n, value := x.g r, valid := valid, home := home, frame := s.dev.sys.frame }
    let post (valid : Bool) (d : Dev) : Dev :=
      d.setCore core.val { d.core core.val with wbuf := (d.core core.val).wbuf ++ [queued valid] }
    let write (valid : Bool) : Instr := if valid then .swr core r op else .swri core r op
    ∀ valid : Bool,
      (¬allowed → ¬barred → Runs s core t (write valid) 1 (next { x with c := false })) ∧
      (allowed → ¬barred → home = 16 + core.val →
        Runs s core t (write valid) 1 (next { x with c := true }) (fun d => d.taskHome n (x.g r) valid core.val)) ∧
      (allowed → ¬barred → home ≠ 16 + core.val → (s.dev.core core.val).wbuf.length < 16 →
        Runs s core t (write valid) 1 (next { x with c := true }) (post valid)) ∧
      (allowed → ¬barred → home ≠ 16 + core.val → 16 ≤ (s.dev.core core.val).wbuf.length →
        let stall := s.dev.writeStall core.val
        let near := ((s.dev.core core.val).wbuf.filter fun p => p.home != 2).length
        stall ≤ 25000 ∧ ((s.dev.core core.val).wbuf.length ≤ near + 15 → stall ≤ 40) ∧ Runs s core t (write valid) (1 + stall) (next { x with c := true })
          (fun d => (d.nextFree.1.countEvent 7 core.val stall).post core.val (queued valid))) ∧
      (barred → Faults s core t (write valid) 0xA00D)

/-! ### Motion requests at issue (R82–R86) -/

/-- The seven motion instructions: 2 cycles and no flags; a request refused by its own checks is not posted and puts the code
in g(sub); the fifth of a frame is refused with 0x2007; a posted one takes the axis's next sequence number, 0xFFFF being
followed by 1, which g(sub) shows in its upper half; in a system task each is task fault 0xA00E.

A master selector names another configured axis, or a configured encoder of a stream port; every other bit is 0.

Model's choices here: notes/assumptions/9.md, notes/assumptions/20.md, notes/assumptions/23.md. -/
def Obligations.MotionIssue : Prop :=
  (∀ (s : State) (core : CoreId) (t : Nat) (sub a : Reg) (profile table : BitVec 8) (relative remove positive disengage : Bool)
    (source mode : BitVec 2),
    let x := s.dev.task core.val t
    let n := x.ax.toNat / 1024
    let m := (s.dev.axis n).motion
    let seq := if 65535 ≤ m.seq then 1 else m.seq + 1
    let arg := (x.g a).toInt
    let target := m.x / 65536 + arg
    let status (code : Nat) : Task := next (x.setG sub (BitVec.ofNat 32 code))
    let issue (i : Instr) (r : Req) (refusal : Nat) : Prop :=
      (core = 16 → Faults s core t i 0xA00E) ∧
      (core ≠ 16 → refusal ≠ 0 → Runs s core t i 2 (status refusal)) ∧
      (core ≠ 16 → refusal = 0 → 4 ≤ m.posted.length → Runs s core t i 2 (status 0x2007)) ∧
      (core ≠ 16 → refusal = 0 → m.posted.length < 4 →
        Runs s core t i 2 (status (seq * 65536))
          (fun d => d.modMotion n fun m => { m with seq := seq, posted := m.posted ++ [(seq, r)] }))
    let badCap (slot : Nat) : Prop := remove = false ∧ (arg ≤ 0 ∨ (s.dev.sigVal (slotSig n slot)).toInt < arg)
    let cap := if remove then none else some (x.g a)
    issue (.mvStart core sub a profile relative) (.start (x.g a) profile.toNat relative)
      (if (s.dev.profile profile.toNat).isNone then 0x2003
       else if relative = true ∧ ¬(-2147483648 ≤ target ∧ target ≤ 2147483647) then 0x2004 else 0) ∧
    issue (.mvStop core sub) .stop 0 ∧
    (badCap 128 → issue (.mvSpeed core sub a remove) (.speed cap) 0x2005) ∧
    (¬badCap 128 → issue (.mvSpeed core sub a remove) (.speed cap) 0) ∧
    (badCap 129 → issue (.mvAccel core sub a remove) (.accel cap) 0x2005) ∧
    (¬badCap 129 → issue (.mvAccel core sub a remove) (.accel cap) 0) ∧
    issue (.mvHome core sub a positive source) (.home (x.g a) positive source.toNat) (if source = 3 then 0x2009 else 0) ∧
    issue (.mvGear core sub a table false) (.gear (x.g a) table.toNat)
      (if (s.dev.gearTable table.toNat).isNone ∨ s.dev.masterValid n (x.g a) = false then 0x2006 else 0) ∧
    (disengage = true → table = 0 → issue (.mvGear core sub a table disengage) .ungear 0) ∧
    issue (.mvMode core sub mode) (.mode mode.toNat) (if mode = 3 then 0x2009 else 0)) ∧
  (∀ (d : Dev) (n : Nat) (sel : Word),
    d.masterValid n sel = true ↔
      (sel.getLsbD 16 = false ∧ sel.toNat < 512 ∧ sel.toNat ≠ n ∧ d.axConfigured sel.toNat = true) ∨
      (∃ port slot, port < 4 ∧ slot < 128 ∧ sel = BitVec.ofNat 32 (65536 + port * 256 + slot) ∧ d.encoderUsed port slot = true))

/-! ### Services (R89–R97) -/

/-- REC.PUT: the checks in their order; a queued record takes 6 + length ÷ 4 cycles and carries the prefix of the device and
the task's bytes, a refusal takes 6 cycles, and one for want of room counts as a lost event. One that repeats no record with an open
window is refused with 0x6001 where 991 general entries are pending, with 0x6003 where its core has 32 pending, 64 for the supervisor
core, and enters the queue at its tail otherwise.

CONFIRM: 4 cycles; 0x7020 outside a system task, 0x7021 where the running image is no unconfirmed trial image or its window is over, else the
confirmation is posted, or was already, with 0x0000.

Model's choices here: notes/assumptions/9.md, notes/assumptions/46.md, notes/assumptions/58.md. -/
def Obligations.RecPut : Prop :=
  (∀ (s : State) (core : CoreId) (t : Nat) (sub a b : Reg) (utype : BitVec 7),
    let x := s.dev.task core.val t
    let i : Instr := .recPut core sub a b utype
    let addr := (x.g a).toNat
    let len := (x.g b).toNat
    let system := core = 16
    let who (n : Nat) : Nat := if system then 0xFFFF else n
    let payload := leBytes 2 (who x.door) ++ leBytes 2 (who (x.ax.toNat / 1024)) ++ [BitVec.ofNat 8 t, BitVec.ofNat 8 core.val]
      ++ leBytes 2 len ++ (List.range len).map fun k => memRead x.mem (addr + k)
    let put (d : Dev) : Dev × Nat := d.putUser core.val (0x80 + utype.toNat) (who x.door) payload
    let code := (put s.dev).2
    let badLength := len % 4 ≠ 0 ∨ len < 4 ∨ 1024 < len
    (addr % 4 ≠ 0 → Faults s core t i 0xA00B) ∧
    (addr % 4 = 0 → badLength → Runs s core t i 6 (next (x.setG sub 0x6002))) ∧
    (addr % 4 = 0 → ¬badLength → x.memSize < addr + len → Faults s core t i 0xA00A) ∧
    (addr % 4 = 0 → ¬badLength → addr + len ≤ x.memSize →
      Runs s core t i (if code = 0 then 6 + len / 4 else 6) (next (x.setG sub (BitVec.ofNat 32 code))) (fun d => (put d).1)) ∧
    (code = 0 ∨ code = 0x6001 ∨ code = 0x6003) ∧
    (code ≠ 0 → (put s.dev).1.recorder.lost = satInc s.dev.recorder.lost) ∧
    (let r := s.dev.recorder
     let occ : Record := { rtype := 0x80 + utype.toNat, flags := 1 + 2 * (decide (s.dev.pair.role = .standby)).toNat, code := 0,
                           time := s.dev.now, pcyc := s.dev.sys.pwrCyc, subj := who x.door, payload := payload }
     let again := ∃ p ∈ r.pendq.map (·.record) ++ r.chaff ++ r.seed, p.repeats occ = true
     let full := 991 ≤ (r.pendq.filter fun p => p.pool == 2).length
     let used := (if core = 16 then 64 else 32) ≤ (r.pendq.filter fun p => p.core == some core.val).length
     (code = 0x6001 ↔ ¬again ∧ full) ∧ (code = 0x6003 ↔ ¬again ∧ ¬full ∧ used) ∧
     (again → (put s.dev).1.recorder.pendq.length = r.pendq.length) ∧
     (¬again → ¬full → ¬used →
       (put s.dev).1.recorder.pendq = r.pendq ++ [{ record := occ, pool := 2, core := some core.val }]))) ∧
  (∀ (s : State) (core : CoreId) (t : Nat) (sub : Reg),
    let x := s.dev.task core.val t
    let u := s.dev.upd
    let i : Instr := .confirm core sub
    (core ≠ 16 → Runs s core t i 4 (next (x.setG sub 0x7020)) (fun d => d.updCode 0x7020)) ∧
    (core = 16 → u.confirming = false → u.unconfirmed = false ∨ u.trialMinutes = 0 →
      Runs s core t i 4 (next (x.setG sub 0x7021)) (fun d => d.updCode 0x7021)) ∧
    (core = 16 → u.confirming = false → u.unconfirmed = true → u.trialMinutes ≠ 0 →
      Runs s core t i 4 (next (x.setG sub 0)) (fun d => d.modUpd fun u => { u with confirming := true })) ∧
    (core = 16 → u.confirming = true → Runs s core t i 4 (next (x.setG sub 0))))

/-- The SYS services: status to g(sub), result to g(sub + 1), 0 where there is none; a refused service has no other effect, and of
several statuses that apply the first in the order 0x0105, 0x0101, 0x0102, 0x0103, or 0x0105, 0x0106, is given. REG.READ reads every
register outside SAF; REG.WRITE writes the SF, CAN and TRC blocks and the W1C registers outside SAF; TRC.MARK enters the marker in the
trace; CNT.READ reads a counter, IMG.STATE the image state word; AX.CTRL writes a slot from 96 to 127 of the task's axis; INST.RESTART
leaves the restart request of its sheaf; another service is 0x0104.

Model's choices here: notes/assumptions/9.md, notes/assumptions/52.md, notes/assumptions/72.md. -/
def Obligations.Services : Prop :=
  ∀ (s : State) (core : CoreId) (t : Nat) (sub a b : Reg) (fn : BitVec 10),
    let x := s.dev.task core.val t
    let p := (x.g a).toNat
    let q := x.g b
    let answers (i : Instr) (cycles status : Nat) (value : Word) (eff : Dev → Dev) : Prop :=
      Runs s core t i cycles (next ((x.setG sub (BitVec.ofNat 32 status)).setG (sub + 1) value)) eff
    let refused (i : Instr) (cycles status : Nat) : Prop := answers i cycles status 0 id
    let system := core = 16
    let saf := 0x200000 ≤ p ∧ p < 0x210000
    let writable := (0x40000 ≤ p ∧ p < 0x50000) ∨ (0x220000 ≤ p ∧ p < 0x230000) ∨ (0x260000 ≤ p ∧ p < 0x270000) ∨
      (¬saf ∧ (rowOf p).any (fun r => r.access == .w1c) = true)
    let read : Instr := .sysRegRead core sub a b
    let write : Instr := .sysRegWrite core sub a b
    let ctrl : Instr := .axCtrl core sub a b
    let restart : Instr := .instRestart core sub a b
    (¬system → refused read 24 0x0105 ∧ refused write 24 0x0105 ∧ refused restart 8 0x0105) ∧
    (system → inBlock p = false → refused read 24 0x0101 ∧ refused write 24 0x0101) ∧
    (system → inBlock p = true → p % 4 ≠ 0 → refused read 24 0x0102 ∧ refused write 24 0x0102) ∧
    (system → inBlock p = true → p % 4 = 0 → saf → refused read 24 0x0103) ∧
    (system → inBlock p = true → p % 4 = 0 → ¬writable → refused write 24 0x0103) ∧
    (system → inBlock p = true → p % 4 = 0 → ¬saf → answers read 24 0 (s.dev.readReg p) (fun d => (d.readRegLatch p).1)) ∧
    (system → inBlock p = true → p % 4 = 0 → writable → answers write 24 0 0 (fun d => d.writeReg p q)) ∧
    answers (.trcMark core sub a b) 4 0 0 (fun d => (d.traceMark core.val (x.g a)).countEvent 15 0 1) ∧
    (255 < p → refused (.sysCntRead core sub a b) 8 0x0106) ∧
    (p ≤ 255 → answers (.sysCntRead core sub a b) 8 0 (smGet 0 s.dev.trace.counters p) id) ∧
    answers (.imgState core sub a b) 8 0 s.dev.upd.stateWord id ∧
    (system → refused ctrl 4 0x0105) ∧
    (¬system → (p < 96 ∨ 127 < p) → refused ctrl 4 0x0106) ∧
    (¬system → 96 ≤ p → p ≤ 127 → answers ctrl 4 0 0 (fun d => d.axControl core.val (x.ax.toNat / 1024) p q)) ∧
    (system → (15 < p ∨ 31 < q.toNat) → refused restart 8 0x0106) ∧
    (system → p ≤ 15 → q.toNat ≤ 31 → answers restart 8 0 0
      (fun d => { d with rstReq := smPut d.rstReq p (BitVec.ofNat 32 (q.toNat + 0xA5 * 2 ^ 24), d.sys.frame) })) ∧
    refused (.sysNoService core sub a b fn) 4 0x0104

/-! ### Faults and budgets (R45, R56–R59, R98) -/

/-- An undefined encoding at the program counter of the running task is task fault 0xA009, an uncorrectable ECC error at its
instruction 0xA00F, and a program counter beyond the code 0xA010; each is taken before any effect of the word. A corrected error is
counted and flagged, and an uncorrectable one in a fixed slot of an axis gives the axis a stop request of cause 12 with ramp 2 and code
0xA00F, which is recorded.

A running task whose budget is used up takes the budget fault of its kind, with its count one beyond the budget, both when
the core reports it and when its next instruction would exceed it; a BACKGROUND task has no budget.

Model's choices here: notes/assumptions/9.md, notes/assumptions/10.md, notes/assumptions/68.md. -/
def Obligations.InstructionFaults : Prop :=
  (∀ (s : State) (core : CoreId) (t : Nat),
    let x := s.dev.task core.val t
    let c := core.val
    let faults (ecc : EccError) (d : Dev) (code : Nat) : Prop :=
      exec (.undefinedEncoding core ecc) s = .next { s with dev := d.taskFault c t code (x.count + 1) }
    (s.dev.scheduling c = true → (s.dev.core c).cur = some t →
      (s.dev.fetch c t = none → faults .absent s.dev 0xA010 ∧ faults .task s.dev 0xA010) ∧
      (∀ w, s.dev.fetch c t = some w →
        (decode core 0 w = none → faults .absent s.dev 0xA009) ∧
        (decode core 0 w ≠ none → Ignored (.undefinedEncoding core .absent) s) ∧
        faults .task (if c < 16 then s.dev.orReg (Adr.sfFlags c) 4 else s.dev) 0xA00F)) ∧
    (s.dev.operating = true → c < 16 → Answers (.undefinedEncoding core .corrected) s fun d' =>
      d'.reg (Adr.sfEcccnt c) = satInc (s.dev.reg (Adr.sfEcccnt c)) ∧ (d'.reg (Adr.sfFlags c)).getLsbD 1 = true ∧
      d'.cores = s.dev.cores ∧ d'.axes = s.dev.axes ∧ d'.sigs = s.dev.sigs) ∧
    (∀ axis : AxisId, s.dev.operating = true → c < 16 → s.dev.axisSheaf axis.val = some c → s.dev.axConfigured axis.val = true →
      Records (.undefinedEncoding core (.slot axis)) s 0xA00F 0xFFFF fun d' =>
        (d'.reg (Adr.sfFlags c)).getLsbD 2 = true ∧ d'.cores = s.dev.cores ∧ (∀ n, n ≠ axis.val → d'.axis n = s.dev.axis n) ∧
        (d'.axis axis.val).motion.stops = (s.dev.axis axis.val).motion.stops ++ [{ cause := 12, ramp := 2, code := 0xA00F }])) ∧
  (∀ (s : State) (core : CoreId) (t : Nat),
    let x := s.dev.task core.val t
    let code := match x.kind with
      | .frame => 0xA001
      | .coarse => 0xA002
      | .event => 0xA004
      | .background => 0
    let s' : State := { s with dev := s.dev.taskFault core.val t code (x.budget + 1) }
    x.kind ≠ .background →
      ((s.dev.core core.val).cur = some t → x.budget ≤ x.count → exec (.budgetExceeded core) s = .next s') ∧
      (∀ (i : Instr) (body : Nat → Task → Effect) (cycles : Nat) (y : Task) (eff : Dev → Dev),
        due s core t i = true → body t x = .done cycles y eff → x.budget < x.count + cycles → execInstr core i s body = .next s'))

/-- A fault of an instance's task: the instance is halted and marked in SF_HALT, every task of it, the one that faulted too, is stopped
with its triggers discarded and taken from its core, the requests its axes posted in the frame are discarded, each axis of the door has a stop request for the next frame, SF_LASTFLT and SF_LASTPC name the fault, SF_FLTCNT
counts it, and its record waits; then the core goes on to its next choice. No other instance is halted, and the other tasks of the core,
the other cores, the other axes and the signals stay as they were.

A fault of a system task halts that task alone: the supervisor's fault registers name it, and no axis is touched and no
other task and no instance is halted.

Model's choices here: notes/assumptions/58.md. -/
def Obligations.TaskFaults : Prop :=
  (∀ (d : Dev) (c t code count : Nat), c < 16 → code < 65536 → t < 256 →
    let x := d.task c t
    let d' := d.taskFault c t code count
    x.inst < 32 →
      (smGet 0 d'.halted c).getLsbD x.inst = true ∧
      (∀ a ∈ d.axesOf c t, (d'.axis a).motion.posted = [] ∧
        ∃ r ∈ (d'.axis a).motion.stopNext, r.cause = 10 ∧ r.ramp = 2 ∧ r.code = code) ∧
      (∀ a, a ∉ d.axesOf c t → d'.axis a = d.axis a) ∧
      d'.reg (Adr.sfLastflt c) = BitVec.ofNat 32 (code + t * 2 ^ 16 + x.inst * 2 ^ 24) ∧
      d'.reg (Adr.sfLastpc c) = x.pc ∧ d'.reg (Adr.sfFltcnt c) = satInc (d.reg (Adr.sfFltcnt c)) ∧
      (∃ p, (code, taskSubj c t, p) ∈ (d'.core c).faultRecs) ∧
      d'.sigs = d.sigs ∧ (∀ k, k ≠ c → d'.core k = d.core k ∧ smGet 0 d'.halted k = smGet 0 d.halted k) ∧
      (∀ i, i ≠ x.inst → (smGet 0 d'.halted c).getLsbD i = (smGet 0 d.halted c).getLsbD i) ∧
      ∃ e : Dev, d' = e.choose c ∧ (e.core c).cur ≠ some t ∧ ∀ t',
        let y := d.task c t'
        let z := e.task c t'
        (y.used = true → y.inst = x.inst → z.halted = true ∧ z.st = .stopped ∧ z.queue = [] ∧ (e.core c).cur ≠ some t') ∧
        (t' ≠ t → y.used = false ∨ y.inst ≠ x.inst → z = y)) ∧
  (∀ (d : Dev) (t code count : Nat), code < 65536 → t < 256 →
    let d' := d.taskFault 16 t code count
    (d'.task 16 t).halted = true ∧ (∀ t', t' ≠ t → (d'.task 16 t').halted = (d.task 16 t').halted) ∧
    d'.axes = d.axes ∧ d'.halted = d.halted ∧
    d'.reg Adr.sysSvflt = BitVec.ofNat 32 (code + t * 2 ^ 16) ∧ d'.reg Adr.sysSvpc = (d.task 16 t).pc ∧
    d'.reg Adr.sysSvfcnt = satInc (d.reg Adr.sysSvfcnt) ∧ (d'.reg Adr.sysFlags).getLsbD 0 = true)

/-! ### The signal store (R21–R24, R50) -/

/-- A write that reaches its home leaves the signal with the value, the writer's tag, the frame's stamp, VALID and STALE as the
writer set them, SAFE exactly for the island's tag, FORCED as it was, MIRROR as the image has it, and LOST set where the signal is tracked
and its previous value was unread, and as it was elsewhere; no other signal changes.

A write by a program, a system task or a device unit to a FORCED signal is discarded: the signal keeps its value and
quality, and the count sig.87010 gains one, up to 0xFFFF_FFFF.

Model's choices here: notes/assumptions/70.md. -/
def Obligations.SignalStore : Prop :=
  (∀ (d : Dev) (n m : Nat) (v : Word) (valid stale : Bool) (tag : Nat),
    d.sigExists n = true → d.region n ≠ .reserved → tag < 256 →
    let old := d.sig n
    let new := (d.sigStore n v valid stale tag).sig n
    new.value = v ∧ new.tag.toNat = tag ∧ new.stamp.toNat = d.sys.frame.toNat % 65536 ∧
    new.q.getLsbD 0 = valid ∧ new.q.getLsbD 1 = stale ∧ (new.q.getLsbD 3 = true ↔ tag = 0x12) ∧
    new.q.getLsbD 4 = old.q.getLsbD 4 ∧ new.q.getLsbD 5 = (d.mirrorBit n).getLsbD 5 ∧ 
    new.q.getLsbD 2 = (old.q.getLsbD 2 || (d.sigTracked n && old.unread)) ∧
    new.q.getLsbD 6 = false ∧ new.q.getLsbD 7 = false ∧ new.unread = d.sigTracked n ∧
    (m ≠ n → (d.sigStore n v valid stale tag).sig m = d.sig m)) ∧
  (∀ (d : Dev) (n : Nat) (v : Word) (valid stale : Bool) (tag : Nat),
    n ≠ 0x87010 → (d.sig n).forced = true →
    let d' := d.sigHome n v valid stale tag
    d'.sig n = d.sig n ∧ d'.sigVal 0x87010 = satInc (d.sigVal 0x87010))

/-! ### Time and scheduling (R14–R18, R40–R55) -/

/-- FRAME_BOUNDARY, in IDLE and RUN, and in ROAST unless the module is held in reset: the frame count gains one, operating time gains
1 ms every 16 frames, and the power state, d and the counts of starts stay as they are; in ROAST no axis, no core and no
port changes. In OFF and KEEP, and while held in reset, there is no frame.

Model's choices here: notes/assumptions/18.md, notes/assumptions/64.md. -/
def Obligations.FrameBoundary : Prop :=
  ∀ (s : State) (roleIn : Bool),
    let y := s.dev.sys
    let clock (d : Dev) : Prop :=
      d.sys.frame = y.frame + 1 ∧ d.sys.opTime = (if (y.frame + 1).toNat % 16 = 0 then y.opTime + 1 else y.opTime) ∧
      d.sys.power = y.power ∧ d.sys.div = y.div ∧ d.sys.pwrCyc = y.pwrCyc ∧ d.sys.runFrame = y.runFrame ∧
      d.sys.runFrames = (if y.power = .run then y.runFrames + 1 else y.runFrames) ∧
      d.sys.leaving = y.leaving ∧ d.sys.entering = y.entering
    (y.power = .idle ∨ y.power = .run → Answers (.frameBoundary roleIn) s clock) ∧
    (y.power = .roast → y.reset = none → Answers (.frameBoundary roleIn) s fun d =>
      clock d ∧ d.axes = s.dev.axes ∧ d.cores = s.dev.cores ∧ d.ports = s.dev.ports) ∧
    (y.power = .off ∨ y.power = .keep ∨ (y.power = .roast ∧ y.reset ≠ none) → Ignored (.frameBoundary roleIn) s)

/-- COARSE_TICK, in IDLE and RUN, in a frame whose number is a multiple of 8 and once in it: the load of every sheaf is reported, and
from there the placer decides and takes up a migration, the COARSE tasks are released, a sheaf's core goes to one where it runs a task
of a lower class, and the signatures are built, in this order (the model's, notes/assumptions/18.md). It moves neither the frame count
nor operating time nor the power state. In any other frame and state it has no effect, nor a second time in its frame.

The load of a sheaf over a coarse tick: its frame-task cycles in tenths of a percent of 12,500 cycles for each round, rounded
down and limited to 1000, kept where no round started; SF_LOAD shows it and its peak, and the peak only rises. A COARSE task that has
ended its release is released: ready, with its registers 0 but g1, the coarse ticks since its last release, and g2, the frame; where its
posted writes are not at home yet it is released once they are; one
that has not ended takes task fault 0xA003 (notes/assumptions/19.md). -/
def Obligations.CoarseTick : Prop :=
  (∀ s : State,
    let d := s.dev
    let y := d.sys
    let due := d.operating = true ∧ y.frame.toNat % 8 = 0 ∧ y.lastTick ≠ some y.frame
    (due → Answers .coarseTick s fun d' =>
      d'.sys.lastTick = some y.frame ∧ d'.sys.frame = y.frame ∧ d'.sys.opTime = y.opTime ∧ d'.sys.power = y.power ∧ d'.sys.div = y.div) ∧
    (due → ∃ d1 : Dev, d1.axes = d.axes ∧
      (∀ c, c < 16 → fld (d1.reg (Adr.sfLoad c)) 0 10 = (d.core c).load (fld (d.reg (Adr.sfLoad c)) 0 10) ∧
        fld (d1.reg (Adr.sfLoad c)) 16 10
          = max (fld (d.reg (Adr.sfLoad c)) 16 10) ((d.core c).load (fld (d.reg (Adr.sfLoad c)) 0 10))) ∧
      exec .coarseTick s = .next { s with dev := ((allCores.foldl (fun d c => d.yieldToCoarse c)
        (d1.migrationDecision.migrationTakeup.coarseReleases)).buildSignatures 8) }) ∧
    (¬due → Ignored .coarseTick s)) ∧
  (∀ (d : Dev) (c t : Nat), c < 16 →
    let k := d.core c
    let was := d.reg (Adr.sfLoad c)
    let now := (d.reportLoad c).reg (Adr.sfLoad c)
    let load := if k.doneRounds = 0 then fld was 0 10 else min (k.doneCycles * 1000 / (12500 * k.doneRounds)) 1000
    let x := d.task c t
    let ticks := if x.started then (d.sys.frame.toNat / 8 + 2 ^ 29 - x.prevStart.toNat % 2 ^ 29) % 2 ^ 29 else 0
    fld now 0 10 = load ∧ fld now 16 10 = max (fld was 16 10) load ∧
    (x.halted = false → x.held = false → x.st = .idle → (d.core c).posting t = true →
      d.releaseCoarse c t = d.setTask c t { x with relDue := true }) ∧
    (x.relDue = true → x.kind = .coarse → d.scheduling c = true →
      d.releaseDue c t = if (d.core c).wbuf.any (fun p => p.task == t) then d else d.releaseCoarse c t) ∧
    (x.halted = false → x.held = false → x.st = .idle → (d.core c).posting t = false →
      let x' := (d.releaseCoarse c t).task c t
      x'.st = .ready ∧ x'.count = 0 ∧ x'.mem = x.mem ∧ (x'.g 1).toNat = ticks ∧ x'.g 2 = d.sys.frame ∧
        (∀ r : Reg, 2 < r.toNat → x'.g r = 0) ∧ ∀ t', t' ≠ t → (d.releaseCoarse c t).task c t' = d.task c t') ∧
    (x.halted = false → x.held = false → x.st ≠ .idle →
      ∃ d' : Dev, d'.task c t = x ∧ d'.axes = d.axes ∧ d.releaseCoarse c t = d'.taskFault c t 0xA003 x.count) ∧
    (x.halted = true ∨ x.held = true → d.releaseCoarse c t = d))

/-- The end of a WAIT on time, a timer trigger and the end of a BACKGROUND turn: a task whose time has come is ready again, a
period that has passed since the entry to RUN queues its trigger, and a second time in the same frame does nothing, and a turn of 2,500
cycles leaves the core to its next choice, the task behind the other BACKGROUND tasks. Before its time each does nothing.

Model's choices here: notes/assumptions/6.md, notes/assumptions/71.md. -/
def Obligations.TimedEvents : Prop :=
  ∀ (s : State) (core : CoreId) (task : Fin 256) (trig : Fin 4),
    let d := s.dev
    let c := core.val
    let k := d.core c
    let x := d.task c task.val
    d.scheduling c = true →
    (∀ until_, x.st = .waitTime until_ → (until_ - d.sys.frame).toInt ≤ 0 →
      ∃ d' : Dev, exec (.waitTimeExpiry core task) s = .next { s with dev := d'.kick c } ∧ (d'.task c task.val).st = .ready ∧
        (d'.task c task.val).regs = x.regs ∧ (d'.core c).cur = k.cur ∧ d'.sigs = d.sigs ∧ d'.axes = d.axes) ∧
    (∀ y period, d.decl c task.val = some y → y.triggers[trig.val]? = some (.timer period) → x.used = true → 0 < period →
      0 < d.sys.runFrames → d.sys.runFrames % period = 0 →
      x.due.contains (trig.val, d.sys.frame) = false →
      ∃ d' : Dev, exec (.periodicTimer core task trig) s = .next { s with dev := d'.queueTrigger c task.val trig.val 0 } ∧
        (d'.task c task.val).due.contains (trig.val, d.sys.frame) = true ∧ (d'.task c task.val).queue = x.queue) ∧
    (∀ t, k.cur = some t → (d.task c t).kind = .background → 2500 ≤ k.turn →
      ∃ d' : Dev, exec (.backgroundTurnEnd core) s = .next { s with dev := d'.choose c } ∧ (d'.core c).cur = none ∧
        (d'.core c).bgNext = t + 1 ∧ (d'.task c t).st = .ready ∧ (d'.task c t).regs = (d.task c t).regs) ∧
    (∀ until_, x.st = .waitTime until_ → 0 < (until_ - d.sys.frame).toInt → Ignored (.waitTimeExpiry core task) s) ∧
    (x.due.contains (trig.val, d.sys.frame) = true → Ignored (.periodicTimer core task trig) s) ∧
    (∀ y period, d.decl c task.val = some y → y.triggers[trig.val]? = some (.timer period) →
      d.sys.runFrames = 0 ∨ d.sys.runFrames % period ≠ 0 → Ignored (.periodicTimer core task trig) s) ∧
    (k.turn < 2500 → Ignored (.backgroundTurnEnd core) s)

/-- A posted write reaches its home before none of its task's earlier writes to the same home: the entry leaves the buffer and the
others keep their order, and a COARSE task whose release waited for it is released; an entry that must wait changes nothing.

A full trigger queue drops a trigger, counts it in SF_EVDROP and flags it; one with room takes it at its end.

Model's choices here: notes/assumptions/6.md, notes/assumptions/13.md, notes/assumptions/71.md. -/
def Obligations.PostedWritesAndTriggers : Prop :=
  (∀ (s : State) (core : CoreId) (entry : Fin 16) (p : Post),
    let l := (s.dev.core core.val).wbuf
    l[entry.val]? = some p →
    let waits := ∃ q ∈ l.take entry.val, q.task = p.task ∧ q.home = p.home
    (¬waits → ∃ d' : Dev, (d'.core core.val).wbuf = l.eraseIdx entry.val ∧ d'.sigs = s.dev.sigs ∧
      exec (.postedWriteArrives core entry) s =
        .next { s with dev := ((d'.taskHome p.sig p.value p.valid core.val).releaseDue core.val p.task).kick core.val }) ∧
    (waits → exec (.postedWriteArrives core entry) s = .next s)) ∧
  (∀ (d : Dev) (c t idx sig : Nat) (y : TaskDecl), c < 16 →
    let x := d.task c t
    d.scheduling c = true → x.halted = false → d.decl c t = some y →
      (y.depth ≤ x.queue.length →
        let d' := d.queueTrigger c t idx sig
        d'.task c t = x ∧ d'.reg (Adr.sfEvdrop c) = satInc (d.reg (Adr.sfEvdrop c)) ∧ (d'.reg (Adr.sfFlags c)).getLsbD 3 = true) ∧
      (x.queue.length < y.depth →
        ∃ d' : Dev, d.queueTrigger c t idx sig = d'.kick c ∧ ∃ g : Trig, (d'.task c t).queue = x.queue ++ [g] ∧
          g.idx = idx ∧ g.sig = BitVec.ofNat 32 sig ∧ g.frame = d.sys.frame))

/-! ### Registers (R9–R12, R58, R60, R126, R418) -/

/-- Registers with rows of their own: SF_INSTRST and PLC_MIGREQ keep the request for its check, SF_PEAKCLR clears the peak and
keeps the load, a read of SYS_OPTLO latches bits 47 to 32 of operating time, AX_CFG takes effect in IDLE only: an axis it configures
leaves NOCONF for OFF, and one it takes out of the configuration is in NOCONF.

RESTART_CHECK takes the waiting request of a sheaf, in a frame after that of the request, and answers in SF_RSTSTAT: a wrong key
0xA032, no such instance 0xA033, an instance that is not halted 0xA030, an axis of its door not at standstill 0xA031, else 0x0000, and
the instance is initialised and no longer halted: each of its tasks starts from its entry with registers and count 0 and its memory at
its initial contents, not released before the next round, with SF_TASKMAX and SF_TASKREL kept.

A register write without an action of its own: an RW register stores its implemented bits, a W1C register clears the bits
written as 1, an RO or WO register and an unassigned address ignore it; no other register and no other part of the module
changes.

Model's choices here: notes/assumptions/8.md, notes/assumptions/67.md, notes/assumptions/71.md. -/
def Obligations.ActionRegisters : Prop :=
  (∀ (s : State) (sheaf : SheafId) (axis : AxisId) (v : Word),
    let d := s.dev
    exec (.sfInstrst sheaf v) s = .next { s with dev := { d with rstReq := smPut d.rstReq sheaf.val (v, d.sys.frame) } } ∧
    exec (.plcMigreq v) s = .next { s with dev := { d with placer := { d.placer with req := some v } } } ∧
    (Answers (.sfPeakclr sheaf v) s fun d' =>
      fld (d'.reg (Adr.sfLoad sheaf.val)) 16 10 = 0 ∧ fld (d'.reg (Adr.sfLoad sheaf.val)) 0 10 = fld (d.reg (Adr.sfLoad sheaf.val)) 0 10 ∧
      ∀ b, b ≠ Adr.sfLoad sheaf.val → d'.reg b = d.reg b) ∧
    exec .sysOptloRead s =
      .next { s with dev := { d with sys := { d.sys with optHi := BitVec.ofNat 16 (d.sys.opTime.toNat / 2 ^ 32) } } } ∧
    (d.sys.power ≠ .idle → exec (.axCfgWrite axis v) s = .next s) ∧
    (d.sys.power = .idle → Answers (.axCfgWrite axis v) s fun d' =>
      let st := (d.axis axis.val).motion.st
      d'.reg (Adr.axCfg axis.val) = v &&& 0x7F07 ∧ (∀ n, n ≠ axis.val → d'.axis n = d.axis n) ∧
      (d'.axis axis.val).motion.st = (if v.getLsbD 0 then (if st = .noconf then .off else st) else .noconf))) ∧
  (∀ (s : State) (sheaf : SheafId) (im : Image) (v frame : Word), s.dev.image = some im →
    smHas s.dev.rstReq sheaf.val = true → smGet (0, 0) s.dev.rstReq sheaf.val = (v, frame) →
    let d := s.dev
    let inst := v.toNat % 32
    let door := d.instanceDoor sheaf.val inst
    let key := v.toNat / 2 ^ 24 = 0xA5
    let still (a : Nat) : Prop := (d.axis a).motion.st = .stand ∨ (d.axis a).motion.st = .off
    let answer (code : Word) : Prop := Answers (.restartCheck sheaf) s fun d' =>
      d'.reg (Adr.sfRststat sheaf.val) = code ∧ smHas d'.rstReq sheaf.val = false
    let halted := (smGet 0 d.halted sheaf.val).getLsbD inst = true
    (d.sys.frame = frame → Ignored (.restartCheck sheaf) s) ∧
    (d.sys.frame ≠ frame →
      (¬key → answer 0xA032) ∧ (key → door = none → answer 0xA033) ∧
      (∀ x, key → door = some x → ¬halted → answer 0xA030) ∧
      (∀ x, key → door = some x → halted → (∃ a ∈ im.doorAxes x, ¬still a) → answer 0xA031) ∧
      (∀ x, key → door = some x → halted → (∀ a ∈ im.doorAxes x, still a) → answer 0 ∧
        ∀ y, d.doorPl x = some y → y.sheaf = sheaf.val → y.inst = inst → Answers (.restartCheck sheaf) s fun d' =>
          (smGet 0 d'.halted sheaf.val).getLsbD inst = false ∧ d'.axes = d.axes ∧
          (y.tasks.Nodup → (im.doorType x).tasks.length ≤ y.tasks.length → ∀ k y0 t, (im.doorType x).tasks[k]? = some y0 →
            y.tasks[k]? = some t →
            let old := d.task sheaf.val t
            let z := d'.task sheaf.val t
            z.used = true ∧ z.kind = y0.kind ∧ z.halted = false ∧ z.held = true ∧ z.inst = inst ∧ z.door = x ∧
              z.st = (if y0.kind = .background then .ready else .idle) ∧ z.pc = BitVec.ofNat 32 y0.entry ∧ z.count = 0 ∧
              (∀ r, z.g r = 0) ∧ z.memSize = y0.localSize ∧ z.mem = (freshTask y0 k inst x).mem ∧ z.max = old.max ∧ z.rels = old.rels)))) ∧
  (∀ (s : State) (a v : Word),
    let d := s.dev
    let rest (d' : Dev) : Prop := (∀ b, b ≠ a.toNat → d'.reg b = d.reg b) ∧ ({ d' with regs := [] } : Dev) = { d with regs := [] }
    (rowOf a.toNat = none → exec (.registerWrite a v) s = .next s) ∧
    (∀ r, rowOf a.toNat = some r → d.writeAction a.toNat v = none →
      (r.access = .rw → Answers (.registerWrite a v) s fun d' => d'.reg a.toNat = v &&& BitVec.ofNat 32 r.mask ∧ rest d') ∧
      (r.access = .w1c → Answers (.registerWrite a v) s fun d' => d'.reg a.toNat = d.reg a.toNat &&& ~~~v ∧ rest d') ∧
      (r.access = .ro ∨ r.access = .wo → exec (.registerWrite a v) s = .next s)) ∧
    (∀ r d', rowOf a.toNat = some r → d.writeAction a.toNat v = some d' →
      exec (.registerWrite a v) s = .next { s with dev := d' }))

/-! ### Migration (R113–R119) -/

/-- A commanded migration is taken up in RUN only, not in a departure, with no other in progress, no axis of the door with its port lost and
no role change under way. The end of preparation makes a migration ready, and the copy frame follows in RUN, in a later frame whose boundary the source met at
d = 1, 64 frames or more after the last switch or abort; elsewhere it does not begin.

The switch in the frame after the copy frame: the door's lanes, instance and tasks are the target's from here on and PLC_MIGCNT
counts it; with copies that differ (0x9021), a d that rose (0x9022), or, with 0x9024, a task fault of the instance or a lost port of one
of its axes, in the copy frame or still there, or RUN left, the source keeps the door and PLC_MIGFAIL counts the abort.

Model's choices here: notes/assumptions/6.md, notes/assumptions/41.md, notes/assumptions/42.md, notes/assumptions/73.md. -/
def Obligations.Migration : Prop :=
  (∀ (s : State) (m : Mig) (im : Image), s.dev.placer.mig = some m → s.dev.image = some im →
    let d := s.dev
    let becomes (m' : Mig) : State := { s with dev := { d with placer := { d.placer with mig := some m' } } }
    let spaced := ∀ f, d.placer.lastSwitch = some f → 64 ≤ (d.sys.frame - f).toNat
    let may := m.phase = .ready ∧ d.sys.frame ≠ m.readyFrame ∧ d.sys.power = .run ∧ d.sys.leaving = false ∧ d.mayMove im m.door = true ∧
      spaced
    (∀ v : Word, d.migrationCode v ≠ 0) ∧
    (∀ (d1 : Dev) (v : Word), d1.image = some im → d1.migrationCode v = 0 → d1.sys.power = .run ∧ d1.sys.leaving = false ∧ d1.placer.mig = none ∧
      d1.mayMove im (v.toNat % 512) = true) ∧
    (m.phase = .preparing →
      exec .migrationPreparationEnd s = .next (becomes { m with phase := .ready, readyFrame := d.sys.frame })) ∧
    (m.phase ≠ .preparing → Ignored .migrationPreparationEnd s) ∧
    (∀ y, d.doorPl m.door = some y →
      (may → (d.core y.sheaf).div = 1 → exec .migrationCopyFrame s =
        .next (becomes { m with phase := .copying, copyFrame := d.sys.frame, dRose := decide (d.sys.div ≠ 1) })) ∧
      (¬may ∨ (d.core y.sheaf).div ≠ 1 → Ignored .migrationCopyFrame s))) ∧
  (∀ (s : State) (agree : Bool) (m : Mig) (im : Image) (y : DoorPl),
    let d := s.dev
    d.placer.mig = some m → d.image = some im → d.doorPl m.door = some y → m.phase = .copying → d.sys.frame = m.copyFrame + 1 →
    let lost := m.broken = true ∨ d.doorHalted y = true ∨ (∃ a ∈ im.doorAxes m.door, d.portLost a = true) ∨ d.sys.power ≠ .run ∨
      d.sys.leaving = true
    let kept (d' : Dev) : Prop := ∃ z, d'.doorPl m.door = some z ∧ { z with cycles := y.cycles } = y
    let ends (code : Nat) (d' : Dev) : Prop :=
      d'.placer.mig = none ∧ d'.placer.lastSwitch = some d.sys.frame ∧ d'.placer.migCode = code ∧ d'.placer.migCmd = m.cmd
    (agree = true → m.dRose = false → ¬lost → Answers (.migrationSwitch agree) s fun d' =>
      ends 0x9020 d' ∧ (∃ z, d'.doorPl m.door = some z ∧ z.sheaf = m.target ∧ z.inst = m.inst ∧ z.lanes = m.lanes ∧ z.tasks = m.tasks) ∧
      d'.reg Adr.plcMigcnt = satInc (d.reg Adr.plcMigcnt)) ∧
    (agree = false → Answers (.migrationSwitch agree) s fun d' =>
      ends 0x9021 d' ∧ kept d' ∧ d'.reg Adr.plcMigfail = satInc (d.reg Adr.plcMigfail)) ∧
    (agree = true → m.dRose = true → Answers (.migrationSwitch agree) s fun d' =>
      ends 0x9022 d' ∧ kept d' ∧ d'.reg Adr.plcMigfail = satInc (d.reg Adr.plcMigfail)) ∧
    (agree = true → m.dRose = false → lost → Answers (.migrationSwitch agree) s fun d' =>
      ends 0x9024 d' ∧ kept d' ∧ d'.reg Adr.plcMigfail = satInc (d.reg Adr.plcMigfail)))

/-! ### Motion and monitor events (R130, R148, R233) -/

/-- The frame in which unstretched profile time reaches the end of a move leaves the axis at its target, in STAND with ATTARGET;
MOVE_END then closes the move once, and leaves the position of the axis, every other axis and every port; HOLD_AMPLITUDE makes the
amplitude AMPH of parameter 132, in place of AMPQ or AMPS by the mode, after HOLDDLY frames in STAND; SAFETY_HOLD_RELEASE returns a held axis to CLEAR after 16 frames at standstill, and
changes no other axis. Before its condition each changes nothing.

Model's choices here: notes/assumptions/6.md, notes/assumptions/24.md. -/
def Obligations.MotionEvents : Prop :=
  ∀ (s : State) (axis : AxisId),
    let d := s.dev
    let n := axis.val
    let m := (d.axis n).motion
    (∀ segs, d.profile m.profile = some segs → m.stretch = 2 ^ 32 → m.stretchTo = 2 ^ 32 → profEnd segs ≤ m.tau + 2 ^ 32 →
      let m' := ((d.advanceMove n).axis n).motion
      m'.st = .stand ∧ m'.v = 0 ∧ m'.attarget = true ∧ m'.atEnd = true ∧ m'.homeOff = m.homeOff ∧
        m'.raw = BitVec.ofInt 48 m.target - m.homeOff) ∧
    (m.atEnd = true → Answers (.moveEnd axis) s fun d' =>
      (d'.axis n).motion = { m with st := if m.st = .move then .stand else m.st, attarget := true, atEnd := false } ∧
        (∀ k, k ≠ n → (d'.axis k).motion = (d.axis k).motion) ∧ d'.ports = d.ports) ∧
    (m.atEnd = false → Ignored (.moveEnd axis) s) ∧
    (m.st = .stand → fld (d.par n 133) 0 16 ≤ m.standFrames →
      let e := d.modMotion n fun m => { m with hold := true }
      exec (.holdAmplitude axis) s = .next { s with dev := e } ∧
        ∀ mode, mode ≠ 0 → mode ≠ 3 → e.amplitude n mode = fld (d.par n 132) 16 8) ∧
    (m.hold = false → ∀ mode, mode ≠ 0 → mode ≠ 3 →
      d.amplitude n mode = if mode = 2 then fld (d.par n 132) 8 8 else fld (d.par n 132) 0 8) ∧
    (m.st ≠ .stand ∨ m.standFrames < fld (d.par n 133) 0 16 → Ignored (.holdAmplitude axis) s) ∧
    ((d.safe n).st = .held → 16 ≤ (d.safe n).zeroFrames → Answers (.safetyHoldRelease axis) s fun d' =>
      (d'.safe n).st = .clear ∧ (∀ k, k ≠ n → d'.safe k = d.safe k) ∧ d'.axes = d.axes) ∧
    ((d.safe n).st ≠ .held ∨ (d.safe n).zeroFrames < 16 → Ignored (.safetyHoldRelease axis) s)

/-! ### Axis stream (R202–R221) -/

/-- The phases of a link start: training ends in ENUM; a phase that reaches its limit takes the port down with its code, the flag
and the record; at frame s the port is UP and its axes in OFF that may leave it enter STAND; AUTORST begins link start 16 frames after
a loss. In any other state of the port each of the four changes nothing.

STR_CMD: refused with 0x1031 for a wrong key, a port that is not enabled, or START and STOP both set or both clear; with 0x1030
in RUN while an axis of the port is under way; else accepted, with the axes of the port in OFF and the port in TRAIN or DOWN. A
module that does not drive its ports starts none: START shows 0 and changes nothing else there. STR_CMDSTAT shows the result, and a
refusal changes nothing else.

Model's choices here: notes/assumptions/6.md, notes/assumptions/28.md. -/
def Obligations.StreamLinkStart : Prop :=
  (∀ (s : State) (port : PortId),
    let d := s.dev
    let p := port.val
    let x := d.port p
    let limits : List (PortState × Nat × Nat) := [(.train, 32, 0x1004), (.enum, 16, 0x1005), (.tables, 48, 0x1008), (.config, 24, 0x1008)]
    (x.st = .train → Answers (.trainComplete port) s fun d' =>
      (d'.port p).st = .enum ∧ (d'.port p).phaseFrames = 0 ∧ SamePorts d d' p ∧ { d' with ports := [] } = { d with ports := [] }) ∧
    (x.st ≠ .train → Ignored (.trainComplete port) s) ∧
    (x.st ≠ .train ∧ x.st ≠ .enum ∧ x.st ≠ .tables ∧ x.st ≠ .config → Ignored (.linkStartTimeout port) s) ∧
    (∀ limit code, (x.st, limit, code) ∈ limits →
      (limit ≤ x.phaseFrames → Records (.linkStartTimeout port) s code (0x1000 + 0x100 * p) fun d' =>
        (d'.port p).st = .down ∧ (d'.port p).code = code ∧ (d'.reg (Adr.strFlags p)).getLsbD 7 = true ∧ SamePorts d d' p) ∧
      (x.phaseFrames < limit → Ignored (.linkStartTimeout port) s)) ∧
    (∀ f, x.st = .config → x.startAt = some f → 0 ≤ (d.sys.frame - f).toInt → Answers (.startFrame port) s fun d' =>
      (d'.port p).st = .up ∧ (d'.port p).code = 0 ∧ SamePorts d d' p ∧
      (∀ n ∈ portAxes d p, (d.axis n).motion.st = .off → d'.restorable n = true → (d'.axis n).motion.st = .stand) ∧
      (∀ n, (d.axis n).motion.st ≠ .off → (d'.axis n).motion = (d.axis n).motion)) ∧
    (x.st ≠ .config ∨ x.startAt = none ∨ (∃ f, x.startAt = some f ∧ (d.sys.frame - f).toInt < 0) → Ignored (.startFrame port) s) ∧
    (let due := x.st = .lost ∧ 16 ≤ x.lostFrames ∧ (d.reg (Adr.strCtrl p)).getLsbD 1 = true ∧
       (d.reg (Adr.strCtrl p)).getLsbD 0 = true ∧ d.drivesPorts = true
     (due → Answers (.autorstLinkStart port) s fun d' =>
       (d'.port p).st = .train ∧ (d'.port p).layout = some (d.layoutNow p) ∧ SamePorts d d' p ∧ ∀ n ∈ portAxes d p, parked d' n) ∧
     (¬due → Ignored (.autorstLinkStart port) s))) ∧
  (∀ (s : State) (port : PortId) (v : Word),
    let d := s.dev
    let p := port.val
    let start := v.getLsbD 0
    let stop := v.getLsbD 1
    let badForm := v.toNat / 2 ^ 24 ≠ 0xC3 ∨ (d.reg (Adr.strCtrl p)).getLsbD 0 = false ∨ start = stop
    let all := portAxes d p ++ (d.layoutNow p).axes.map (·.axis)
    let moving := d.sys.power = .run ∧ ∃ n ∈ all, (d.axis n).motion.st ≠ .stand ∧ ¬parked d n
    let refused (i : Instr) (code : Word) : Prop := exec i s = .next { s with dev := d.setReg (Adr.strCmdstat p) code }
    let both (post : Instr → Prop) : Prop :=
      (start = true → post (.strCmdStart port v)) ∧ (stop = true → post (.strCmdStop port v))
    (badForm → both fun i => refused i 0x1031) ∧
    (¬badForm → moving → both fun i => refused i 0x1030) ∧
    (¬badForm → ¬moving → stop = true ∨ d.drivesPorts = true → both fun i => Answers i s fun d' =>
      d'.reg (Adr.strCmdstat p) = 0 ∧ (d'.port p).st = (if start then .train else .down) ∧ SamePorts d d' p ∧
      ∀ n ∈ all, parked d' n) ∧
    (¬badForm → ¬moving → start = true → d.drivesPorts = false → refused (.strCmdStart port v) 0) ∧
    (start = false → Ignored (.strCmdStart port v) s) ∧ (stop = false → Ignored (.strCmdStop port v) s))

/-- The losses: three bad frames lose a port, three short ones the nodes beyond NCOUNT, three of a channel out of service the
channel; the axes concerned are in OFF, a migration that copies a door of one of them is noted as broken, and the record follows. Before
the third each changes nothing.

Model's choices here: notes/assumptions/6.md, notes/assumptions/28.md. -/
def Obligations.StreamLosses : Prop :=
  ∀ (s : State) (port : PortId) (axis : AxisId),
    let d := s.dev
    let p := port.val
    let x := d.port p
    let a := d.axis axis.val
    (x.st = .up → 3 ≤ x.badRun → Records (.portLost port) s 0x1001 (0x1000 + 0x100 * p) fun d' =>
      (d'.port p).st = .lost ∧ (d'.port p).code = 0x1001 ∧ (d'.reg (Adr.strFlags p)).getLsbD 1 = true ∧
      (∀ im m, d.image = some im → d.placer.mig = some m → m.phase = .copying → (∃ n ∈ im.doorAxes m.door, n ∈ portAxes d p) →
        d'.placer.mig = some { m with broken := true }) ∧
      d'.reg (Adr.strLostcnt p) = satInc (d.reg (Adr.strLostcnt p)) ∧ SamePorts d d' p ∧ ∀ n ∈ portAxes d p, parked d' n) ∧
    (x.st ≠ .up ∨ x.badRun < 3 → Ignored (.portLost port) s) ∧
    (x.st = .up → 3 ≤ x.shortRun → Records (.nodesBeyondBreakLost port) s 0x1002 (0x1000 + 0x100 * p + (x.found + 1)) fun d' =>
      (d'.port p).st = .up ∧ (d'.port p).lostFrom = x.found + 1 ∧ (d'.reg (Adr.strFlags p)).getLsbD 2 = true ∧ SamePorts d d' p ∧
      (∀ y ∈ x.inForce.axes, x.found < y.node → parked d' y.axis) ∧
      (∀ n, (∀ y ∈ x.inForce.axes, y.axis = n → y.node ≤ x.found) → d'.axis n = d.axis n)) ∧
    (x.st ≠ .up ∨ x.shortRun < 3 → Ignored (.nodesBeyondBreakLost port) s) ∧
    (a.chLost = false → 3 ≤ a.chLostRun → Records (.channelLost axis) s 0x1003 axis.val fun d' =>
      (d'.axis axis.val).chLost = true ∧ parked d' axis.val ∧
      (∀ q y, d.linkOf axis.val = some (q, y) → (d'.reg (Adr.strFlags q)).getLsbD 3 = true) ∧
      (∀ n, n ≠ axis.val → d'.axis n = d.axis n) ∧ d'.ports = d.ports) ∧
    (a.chLost = true ∨ a.chLostRun < 3 → Ignored (.channelLost axis) s)

/-- Frames received: a good upstream frame waits with its slots for the next boundary, a bad one is counted and flagged with its
repeat-counted record; until it is configured a chain end may answer with the number of the frame before. A listening standby shows
LISTEN after a good frame, whose FRAME goes on from the last one heard to within one frame (the model's choice,
notes/assumptions/78.md), and DOWN after another; a port that drives, or is not enabled, does not listen. The oldest request of a node
without any block of a reply for 64 frames is repeated three times, once the outbound queue of its home has room, and then given up with
0x1020; with no such request nothing happens.

Model's choices here: notes/assumptions/6.md, notes/assumptions/29.md. -/
def Obligations.StreamFrames : Prop :=
  ∀ (s : State) (port : PortId) (onTime violation : Bool) (bytes : List Byte) (node : Fin 65),
    let d := s.dev
    let p := port.val
    let x := d.port p
    let u := d.sys.frame
    let receives := d.operating = true ∧ x.st ≠ .down ∧ x.st ≠ .train ∧ x.st ≠ .listen
    let f := BitVec.ofNat 32 (leAt bytes 2 4)
    let timely := f = u ∨ ((x.st = .enum ∨ x.st = .tables ∨ x.st = .config) ∧ f + 1 = u)
    let shapely := onTime = true ∧ violation = false ∧ bytes.length = 3840
    let crcOf (b : List Byte) : Prop := leAt bytes 3836 4 = (crc32c b).toNat
    let up : Instr := .upstreamFrameReceived port onTime violation bytes
    let follows := ∀ g at', x.heard = some (g, at') →
      1 ≤ (f - g).toNat ∧ (f - g).toNat ≤ (u - at').toNat + 1 ∧ (u - at').toNat ≤ (f - g).toNat + 1
    (receives → shapely → leAt bytes 0 1 = 0x5D → timely → crcOf (bytes.take 3836) →
      Answers up s fun d' => d'.axes = d.axes ∧ SamePorts d d' p ∧
        (d'.port p).rx = some { good := true, frame := u, ncount := leAt bytes 6 1, slots := upSlots bytes }) ∧
    (receives → ¬shapely ∨ leAt bytes 0 1 ≠ 0x5D ∨ ¬crcOf (bytes.take 3836) ∨ ¬timely →
      let d' := ((d.incReg (Adr.strBadcnt p)).orReg (Adr.strFlags p) 1).eventRep 0x1010 (0x1000 + 0x100 * p)
      exec up s = .next { s with dev := d'.setPort p { d'.port p with rx := some { good := false, frame := u } } }) ∧
    (¬receives → Ignored up s) ∧
    (d.drivesPorts = false → (d.reg (Adr.strCtrl p)).getLsbD 0 = true →
      Answers (.listenFrameReceived port onTime violation bytes) s fun d' =>
        ((d'.port p).st = .listen ↔ shapely ∧ leAt bytes 0 1 = 0xD5 ∧ follows ∧ leAt bytes 6 1 = fld (d.reg (Adr.strCtrl p)) 8 7 ∧
          crcOf (bytes.take 6 ++ [0] ++ (bytes.drop 7).take 3829)) ∧
        ((d'.port p).st = .listen ∨ (d'.port p).st = .down) ∧ SamePorts d d' p) ∧
    (d.drivesPorts = true ∨ (d.reg (Adr.strCtrl p)).getLsbD 0 = false →
      Ignored (.listenFrameReceived port onTime violation bytes) s) ∧
    ((∀ r ∈ (x.node node.val).requests, r.age < 64 ∨ r.answering = true) → Ignored (.bulkReplyTimeout port node) s) ∧
    (∀ before r after, (x.node node.val).requests = before ++ r :: after → (∀ q ∈ before, q.age < 64 ∨ q.answering = true) →
      64 ≤ r.age → r.answering = false →
      let room := r.btype ≤ 4 ∨ ∀ h, d.homeSheaf p node.val = some h →
        (d.queue (2 * h + 1)).spilling = false ∨ (d.queue (2 * h + 1)).spilled + 256 * r.blocks.length ≤ 2 ^ 23
      (r.repeats < 3 → ¬room → Ignored (.bulkReplyTimeout port node) s) ∧
      (r.repeats < 3 → room → Answers (.bulkReplyTimeout port node) s fun d' =>
        ((d'.port p).node node.val).requests = before ++ { r with age := 0, repeats := r.repeats + 1 } :: after ∧ d'.axes = d.axes) ∧
      (3 ≤ r.repeats → Records (.bulkReplyTimeout port node) s 0x1020 (0x1000 + 0x100 * p + node.val) fun d' =>
        ((d'.port p).node node.val).requests = before ++ after ∧ (d'.reg (Adr.strFlags p)).getLsbD 6 = true ∧ SamePorts d d' p))

/-! ### Safety island (R227–R260) -/

/-- After a safety cycle a loop is on only where it was on and every condition of R240 holds: RUN, the active role or none,
commissioned, enabled, an enabled group that names it, every such group closed and locked, no discrepancy, no island and no
read-back fault; both outputs of a loop are commanded alike, the cycles in which the condition held are counted, and a waiting SAF_CMD
is carried out once the loops are decided. The cycle has its turn once in a frame divisible by 16 of an operating module, and at any other time nothing happens.
LOOP_SWITCH_ON switches a loop on once its condition has held for LOOPDLY cycles and holds now, and otherwise changes nothing.

Model's choices here: notes/assumptions/6.md, notes/assumptions/32.md. -/
def Obligations.SafetyLoops : Prop :=
  ∀ (s : State) (diag : IslandDiag) (loop : Fin 4),
    let d := s.dev
    let l := loop.val
    let names (c0 : Word) : Prop := c0.getLsbD 0 = true ∧ fld c0 1 2 = l
    let due := d.operating = true ∧ d.sys.frame.toNat % 16 = 0 ∧ d.island.cycleAt ≠ some d.sys.frame
    let outputs (d' : Dev) : Prop :=
      d'.island.soCmd.getLsbD (2 * l) = (d'.island.loop l).on ∧ d'.island.soCmd.getLsbD (2 * l + 1) = (d'.island.loop l).on
    (∀ v, due → d.island.cmd = some v → ∃ e : Dev, e.island.cmd = none ∧ e.island.cycleAt = some d.sys.frame ∧
      let e' := e.safCommand v
      exec (.safetyCycle diag) s = .next { s with dev := (e'.axes'.foldl (fun d n => d.showSafe n) e').showCycle }) ∧
    (due → Answers (.safetyCycle diag) s fun d' =>
      outputs d' ∧ d'.island.cmd = none ∧ d'.island.cycleAt = some d.sys.frame ∧
      (let y := d.island.loop l
       let y' := d'.island.loop l
       y'.on = (y.on && y'.cond) ∧ y'.held = if y'.cond then y.held + 1 else 0) ∧
      ((d'.island.loop l).on = true →
        (d.island.loop l).on = true ∧ d.sys.power = .run ∧ (d.pair.role = .unpaired ∨ d.pair.role = .active) ∧ d.island.comm = true ∧
        (d.reg (Adr.safLoopcfg l)).getLsbD 0 = true ∧ d'.island.fault = 0 ∧ (d'.island.loop l).rbFault = false ∧
        (∃ g, g < 64 ∧ names (d.reg (Adr.safGrpcfg0 g))) ∧
        ∀ g, g < 64 → names (d.reg (Adr.safGrpcfg0 g)) → (d'.island.group g).closed = true ∧ (d'.island.group g).locked = true ∧
          ∀ i ∈ groupPairs (d.reg (Adr.safGrpcfg0 g)) (d.reg (Adr.safGrpcfg1 g)), (d'.island.pair i).fault = false) ∧
      (diag = .coreFault → d'.island.fault ≠ 0) ∧ (d.island.fault ≠ 0 → d'.island.fault = d.island.fault) ∧
      d'.island.comm = d.island.comm ∧ d'.sys.power = d.sys.power) ∧
    (¬due → Ignored (.safetyCycle diag) s) ∧
    (let y := d.island.loop l
     let due := y.cond = true ∧ d.loopCondition l d.island.pair = true ∧ d.loopCondition l d.island.pairB = true ∧ y.on = false ∧
       fld (d.reg (Adr.safLoopcfg l)) 16 10 ≤ y.held
     (due → Answers (.loopSwitchOn loop) s fun d' =>
       d'.island.loop l = { y with on := true } ∧ outputs d' ∧ ∀ k, k ≠ l → d'.island.loop k = d.island.loop k) ∧
     (¬due → Ignored (.loopSwitchOn loop) s))

/-- SAF_CMD waits for the next safety cycle; there a wrong key or a condition still present is 0x3034, ACK ends TORQUEOFF at
standstill, RESET ends FAULT after 16 frames in OFF and a read-back fault after 16 cycles with both outputs read off; with ALL they act
on every axis of the image, and on every loop, whose condition allows it. A form whose bits the value lacks is ignored.

Model's choices here: notes/assumptions/32.md. -/
def Obligations.SafetyCommands : Prop :=
  ∀ (s : State) (v : Word) (axis : AxisId) (loop : Fin 4),
    let d := s.dev
    let n := axis.val
    let l := loop.val
    let waits (i : Instr) : Prop := exec i s = .next { s with dev := { d with island := { d.island with cmd := some v } } }
    let refuses (d : Dev) (v : Word) : Prop := d.safCommand v = d.setReg Adr.safCmdstat 0x3034
    let word (bits i : Nat) : Word := BitVec.ofNat 32 (0x3C000000 + bits + i)
    let stopped := (d.axis n).motion.v = 0 ∧ (d.axis n).estim.speed = 0
    (v.getLsbD 13 = true → waits (.safCmdAck v)) ∧
    (v.getLsbD 14 = true → v.getLsbD 15 = false → waits (.safCmdReset v)) ∧
    (v.getLsbD 14 = true → v.getLsbD 15 = true → waits (.safCmdLoopReset v)) ∧
    (v.getLsbD 13 = false → Ignored (.safCmdAck v) s) ∧
    (v.getLsbD 14 = false ∨ v.getLsbD 15 = true → Ignored (.safCmdReset v) s) ∧
    (v.getLsbD 14 = false ∨ v.getLsbD 15 = false → Ignored (.safCmdLoopReset v) s) ∧
    (v.toNat / 2 ^ 24 ≠ 0x3C → refuses d v) ∧
    (∀ k ∈ d.axes', ((d.safCommand 0x3C003000).safe k).st =
      if (d.safe k).st = .torqueOff ∧ (d.axis k).motion.v = 0 ∧ (d.axis k).estim.speed = 0 then .clear else (d.safe k).st) ∧
    (∀ k ∈ d.axes', ((d.safCommand 0x3C005000).safe k).st =
      if (d.safe k).st = .fault ∧ 16 ≤ (d.safe k).offFrames then .clear else (d.safe k).st) ∧
    (((d.safCommand 0x3C005000).island.loop l).rbFault = true ↔ (d.island.loop l).rbFault = true ∧ (d.island.loop l).offCycles < 16) ∧
    ((d.safe n).st = .torqueOff → stopped → let d' := d.safCommand (word 0x2000 n)
      (d'.safe n).st = .clear ∧ d'.reg Adr.safCmdstat = 0 ∧ ∀ k, k ≠ n → d'.safe k = d.safe k) ∧
    ((d.safe n).st ≠ .torqueOff ∨ ¬stopped → refuses d (word 0x2000 n)) ∧
    ((d.safe n).st = .fault → 16 ≤ (d.safe n).offFrames → let d' := d.safCommand (word 0x4000 n)
      (d'.safe n).st = .clear ∧ d'.reg Adr.safCmdstat = 0 ∧ ∀ k, k ≠ n → d'.safe k = d.safe k) ∧
    ((d.safe n).st ≠ .fault ∨ (d.safe n).offFrames < 16 → refuses d (word 0x4000 n)) ∧
    ((d.island.loop l).rbFault = true → 16 ≤ (d.island.loop l).offCycles → let d' := d.safCommand (word 0xC000 l)
      (d'.island.loop l).rbFault = false ∧ d'.reg Adr.safCmdstat = 0 ∧ ∀ k, k ≠ l → d'.island.loop k = d.island.loop k) ∧
    ((d.island.loop l).rbFault = false ∨ (d.island.loop l).offCycles < 16 → refuses d (word 0xC000 l))

/-- Parameters: SAF_UNLOCK with its key opens parameter writes for 10 s in IDLE, after which they close; an accepted write stores
the implemented bits, clears COMMISSIONED at once and leaves the check value to be computed, any other is refused with 0x3030; the
check value follows; COMMISSION with the check value in IDLE commissions the set with its mode and records 0x3035 with both, else 0x3031;
the test is due after 1,440 minutes, which is recorded once. Each does nothing before its condition.

Model's choices here: notes/assumptions/6.md, notes/assumptions/33.md. -/
def Obligations.SafetyParameters : Prop :=
  ∀ (s : State) (addr v : Word) (q : VReq),
    let d := s.dev
    let x := d.island
    let island (i : Island) : State := { s with dev := { d with island := i } }
    let unlocked := d.sys.power = .idle ∧ ∃ t, x.unlockedAt = some t ∧ d.now < t + 10000
    let given := BitVec.ofNat 32 (leAt q.payload 0 4)
    exec (.safUnlock 0x5AFE0C1D) s = .next (island { x with unlockedAt := some d.now }) ∧
    (v ≠ 0x5AFE0C1D → Ignored (.safUnlock v) s) ∧
    (∀ t, x.unlockedAt = some t → t + 10000 ≤ d.now → exec .unlockExpiry s = .next (island { x with unlockedAt := none })) ∧
    (x.unlockedAt = none ∨ (∃ t, x.unlockedAt = some t ∧ d.now < t + 10000) → Ignored .unlockExpiry s) ∧
    (inSafSet addr.toNat = false ∨ rowOf addr.toNat = none → Ignored (.safParameterWrite addr v) s) ∧
    (∀ r, inSafSet addr.toNat = true → rowOf addr.toNat = some r →
      (unlocked → Answers (.safParameterWrite addr v) s fun d' =>
        d'.reg addr.toNat = v &&& BitVec.ofNat 32 r.mask ∧ d'.island.comm = false ∧ d'.island.chkBusy = true ∧ d'.reg Adr.safCmdstat = 0 ∧
        ∀ b, b ≠ addr.toNat → b ≠ Adr.safCmdstat → d'.reg b = d.reg b) ∧
      (¬unlocked → exec (.safParameterWrite addr v) s = .next { s with dev := d.setReg Adr.safCmdstat 0x3030 })) ∧
    (x.chkBusy = true → exec .checkRecomputed s = .next (island { x with chkBusy := false, check := d.safCheck })) ∧
    (x.chkBusy = false → Ignored .checkRecomputed s) ∧
    (fronts s q → q.vtype = 0x06 → d.vhpAccept 0x06 q.payload = 0 →
      (d.sys.power = .idle → x.chkBusy = false → given = x.check → Serves .commission s q 0 [] fun d' =>
        d'.island.comm = true ∧ d'.island.mode = (d.reg Adr.safMode).getLsbD 0 ∧ ∃ d1 : Dev, d1.recorder = d.recorder ∧
          d' = d1.event 0x3035 0xFFFF (leBytes 4 given.toNat ++ [BitVec.ofNat 8 (d.reg Adr.safMode).toNat &&& 1, 0, 0, 0])) ∧
      (d.sys.power ≠ .idle ∨ x.chkBusy = true ∨ given ≠ x.check →
        exec .commission s = .next { s with dev := d.respond q 0x3031 [] d.sys.frame })) ∧
    (1440 ≤ x.testAge.toNat → x.testDue = false → x.testTold = false → Records .testDue s 0x3040 0xFFFF fun d' =>
      d' = { d with island := { x with testDue := true, testTold := true } }) ∧
    (1440 ≤ x.testAge.toNat → x.testDue = false → x.testTold = true →
      exec .testDue s = .next (island { x with testDue := true })) ∧
    (x.testAge.toNat < 1440 ∨ x.testDue = true → Ignored .testDue s)

/-- Safe telegrams: a copy leaves the receive buffer for the island; one that fails a check is counted where it names a source, flagged
and recorded and alters nothing its source has accepted; both copies of a pair whose bytes differ are rejected so with 0x3023; a valid copy waits for its partner, and the second copy from the other port with the same
bytes and stamps within 20 ms is accepted, with its signals and its time, the telegram's stamps being the earlier and the later of the
two; a copy whose window of 20 ms ends without partner, none being in the receive buffer of the other port, is accepted
alone where ALLOW admits it and is dropped elsewhere; a source without a telegram for WD is timed out, unless a valid copy of it waits in
a receive buffer or one is to be accepted alone.

Model's choices here: notes/assumptions/6.md, notes/assumptions/35.md, notes/assumptions/36.md, notes/assumptions/53.md. -/
def Obligations.SafeTelegrams : Prop :=
  ∀ (s : State) (port : HostPort) (source : Fin 4) (stamp : Nat) (b : List Byte),
    let d := s.dev
    let k := source.val
    let x := d.island.source k
    let recent := ∀ j, ∀ c ∈ (d.island.source j).waiting, stamp ≤ c.stamp + 200
    let allow := fld (d.reg (Adr.safTgcfg k)) 16 13
    let alone (c : TgCopy) : Prop := ∃ p, x.pairStamp = some p ∧ 0 < allow ∧ c.stamp + 200 ≤ p + 10 * allow ∧
      x.fresh (tgSeq c.bytes) (tgTime c.bytes) c.stamp = true
    let accepted (y : TgSource) := (y.acceptedOp, y.haveSeq, y.seq, y.time, y.rel, y.user, y.pairStamp, y.timedOut)
    (∀ c rest, (if port.val = 0 then d.host.tgA else d.host.tgB) = c :: rest →
      ∃ d' : Dev, exec (.safeTelegramCopy port) s = .next { s with dev := d'.tgCopy port.val c.stamp c.bytes } ∧
        (if port.val = 0 then d'.host.tgA else d'.host.tgB) = rest ∧ d'.island = d.island ∧
        d'.reg Adr.hostTgcnt = satInc (d.reg Adr.hostTgcnt)) ∧
    (recent → ∀ j code, code ≠ 0 → d.tgCheck b stamp = (some j, some code) →
      let d' := d.tgCopy port.val stamp b
      let y := d'.island.source j
      accepted y = accepted (d.island.source j) ∧ y.rejected = min 0xFFFF ((d.island.source j).rejected + 1) ∧
      (d'.reg Adr.safFlags).getLsbD 3 = true ∧
      ∃ d1 : Dev, d1.recorder = d.recorder ∧ d1.sys = d.sys ∧ d' = (d1.eventRep code (0x300 + j)).orReg Adr.safFlags 8) ∧
    (recent → b.length ≠ 60 ∨ d.tgSource (leAt b 0 2) = none →
      d.tgCopy port.val stamp b = (d.eventRep 0x3020 0xFFFF).orReg Adr.safFlags 8) ∧
    (recent → d.tgCheck b stamp = (some k, none) →
      (b.length = 60 ∧ leAt b 48 4 = (crc32c (b.take 48)).toNat ∧ (hmac (d.tgKey k) (b.take 52)).take 8 = (b.drop 52).take 8) ∧
      ((∀ c ∈ x.waiting, tgSeq c.bytes ≠ tgSeq b) → d.tgCopy port.val stamp b = d.modSource k fun x =>
        { x with waiting := x.waiting ++ [{ port := port.val, stamp := stamp, bytes := b, op := d.now }] }) ∧
      (∀ c, x.waiting.find? (fun c => tgSeq c.bytes == tgSeq b) = some c → c.bytes ≠ b →
        let d' := d.tgCopy port.val stamp b
        let y := d'.island.source k
        accepted y = accepted x ∧ y.rejected = min 0xFFFF (x.rejected + 2) ∧ c ∉ y.waiting ∧ (d'.reg Adr.safFlags).getLsbD 3 = true ∧
        ∃ d1 d2 : Dev, d1.recorder = d.recorder ∧ d1.sys = d.sys ∧ d2.recorder = (d1.eventRep 0x3023 (0x300 + k)).recorder ∧
          d' = (d2.eventRep 0x3023 (0x300 + k)).orReg Adr.safFlags 8) ∧
      (∀ c, x.waiting.find? (fun c => tgSeq c.bytes == tgSeq b) = some c → c.bytes = b → c.port ≠ port.val → stamp + 200 < c.stamp →
        d.tgCopy port.val stamp b = d.modSource k fun x =>
          { x with waiting := x.waiting ++ [{ port := port.val, stamp := stamp, bytes := b, op := d.now }] }) ∧
      (∀ c, x.waiting.find? (fun c => tgSeq c.bytes == tgSeq b) = some c → c.bytes = b → c.port ≠ port.val → c.stamp ≤ stamp + 200 →
        let y := (d.tgCopy port.val stamp b).island.source k
        y.acceptedOp = some d.now ∧ y.haveSeq = true ∧ y.seq = tgSeq b ∧ y.time = tgTime b ∧
        y.pairStamp = some (max c.stamp stamp) ∧ y.stamp = min c.stamp stamp ∧
        y.timedOut = false ∧ y.single = false ∧ y.rel.toNat = leAt b 16 8 ∧ y.user.toNat = leAt b 24 8 ∧ c ∉ y.waiting)) ∧
    (∀ c, d.tgPartner c = true ↔ ∃ y ∈ (if c.port = 0 then d.host.tgB else d.host.tgA), leAt y.bytes 0 2 = leAt c.bytes 0 2 ∧
      tgSeq y.bytes = tgSeq c.bytes ∧ y.stamp ≤ c.stamp + 200 ∧ c.stamp ≤ y.stamp + 200) ∧
    (∀ c, x.waiting.find? (fun c => decide (c.stamp + 200 ≤ stamp) && !d.tgPartner c) = some c →
      Answers (.singlePathWindowEnd source stamp) s fun d' =>
      let y := d'.island.source k
      c ∉ y.waiting ∧ (¬alone c → accepted y = accepted x) ∧
      (alone c → y.single = true ∧ y.acceptedOp = some d.now ∧ y.seq = tgSeq c.bytes ∧ y.time = tgTime c.bytes ∧ y.timedOut = false ∧
        y.rel.toNat = leAt c.bytes 16 8 ∧ y.user.toNat = leAt c.bytes 24 8 ∧ (d'.reg Adr.safFlags).getLsbD 5 = true)) ∧
    ((∀ c ∈ x.waiting, stamp < c.stamp + 200 ∨ d.tgPartner c = true) → Ignored (.singlePathWindowEnd source stamp) s) ∧
    ((if port.val = 0 then d.host.tgA else d.host.tgB) = [] → Ignored (.safeTelegramCopy port) s) ∧
    (x.acceptedOp = none ∨ x.timedOut = true ∨ (d.reg (Adr.safTgcfg k)).getLsbD 0 = false → Ignored (.telegramTimeout source) s) ∧
    (∀ t, x.acceptedOp = some t → x.timedOut = false → (d.reg (Adr.safTgcfg k)).getLsbD 0 = true →
      let coming := (∃ c ∈ d.host.tgA ++ d.host.tgB, d.tgCheck c.bytes c.stamp = (some k, none)) ∨
        ∃ c ∈ x.waiting, c.op + 20 ≤ d.now ∧ alone c
      (coming → Ignored (.telegramTimeout source) s) ∧
      (t + fld (d.reg (Adr.safTgcfg k)) 1 11 ≤ d.now → ¬coming →
        let d' := (d.modSource k fun x => { x with timedOut := true }).event 0x3024 (0x300 + k)
        exec (.telegramTimeout source) s = .next { s with dev := d'.orReg Adr.safFlags 0x10 }) ∧
      (d.now < t + fld (d.reg (Adr.safTgcfg k)) 1 11 → Ignored (.telegramTimeout source) s))

/-! ### Motion, load angle, cycles, queues, monitors and trace within a frame -/

/-- What FRAME_BOUNDARY does with an axis in IDLE and RUN, where the module is no standby: it runs the motion frame of every axis. A
request is taken up or refused by its first failing check (0x2008, 0x2001, 0x2002, 0x200A), which slot 15 shows and AX_REFUSED counts; of
the stop requests torque-off wins, then the higher ramp, then the lower cause, and it switches the axis off, starts its ramp, or replaces
a lower one; on a ramp the speed falls by the band and the position by the mean of two speeds; homing approaches its speed by HACC and
ends in STAND; gearing follows its master, or stops with 0x2015 or 0x2016.

Model's choices here: notes/assumptions/21.md, notes/assumptions/22.md, notes/assumptions/23.md, notes/assumptions/77.md. -/
def Obligations.MotionFrames : Prop :=
  (∀ (s : State) (roleIn : Bool), s.dev.operating = true → s.dev.pair.role ≠ .standby → ∃ d1 d2 : Dev,
    d1 = s.dev.axes'.foldl (fun d n => d.observeMove n) (s.dev.axes'.foldl (fun d n => d.estimate n)
      (s.dev.axes'.foldl (fun d n => if (d.axis n).motion.atEnd then d.endMove n else d) s.dev).monitors) ∧
    d2 = s.dev.axes'.foldl (fun d n => d.motionFrame d1 n) d1 ∧
    let d3 := s.dev.axes'.foldl (fun d n => d.modMotion n Motion.turnOver) (d2.doorFrames d2.sys.frame)
    exec (.frameBoundary roleIn) s = .next { s with dev :=
      (d3.leftAxes.foldl (fun d n => d.showState n) d3).copySummary.openFrame roleIn }) ∧
  ∀ (d d0 : Dev) (n : Nat), n < 512 →
    let a := d.axis n
    let m := a.motion
    let sel := fld (d.par n 134) 0 2
    let busy (start : Bool) : Nat :=
      if ((d.safe n).st.holds = true ∨ d.island.fault ≠ 0) ∧ ¬(start = true ∧ (d.safe n).inReturn = true ∧ d.island.fault = 0) then 0x2008
      else if m.wasOff = true ∨ m.st = .move ∨ m.st = .home ∨ m.st = .off ∨ m.st = .noconf then 0x2001
      else if m.st = .stop then 0x2002 else if m.st = .gear then 0x200A else 0
    let moves := m.st = .move ∨ m.st = .home ∨ m.st = .gear
    let takes (r : Req) (code : Nat) (post : Axis → Prop) : Prop :=
      (d.takeRequest n r).2 = code ∧ (code ≠ 0 → (d.takeRequest n r).1 = d) ∧ (code = 0 → post ((d.takeRequest n r).1.axis n))
    let ramp (cause : Nat) (x : Axis) : Prop := x.motion.st = .stop ∧ x.motion.cause = cause ∧ x.motion.ramp = sel ∧ x.motion.rampFrames = 0
    -- requests
    (∀ t p rel, takes (.start t p rel) (busy true) fun x => x.motion.st = .move ∧ x.motion.tau = 0 ∧ x.motion.profile = p ∧
      x.motion.rawStart = m.x ∧ x.motion.delta = x.motion.target - m.x ∧
      x.motion.target = (if rel then intPart m.x + t.toInt else t.toInt) * 65536) ∧
    (∀ p positive src, takes (.home p positive src) (busy false) fun x => x.motion.st = .home ∧ x.motion.homed = false ∧
      x.homing.phase = (if d.homeActive n src then 1 else 2)) ∧
    (∀ sig t, takes (.gear sig t) (busy false) fun x => x.motion.st = .gear ∧ x.gearing.engaged = true ∧ x.gearing.selector = sig ∧
      x.gearing.table = t ∧ x.gearing.slaveX = m.x) ∧
    takes .stop 0 (fun x => if moves then ramp 1 x else x = a) ∧ takes .ungear 0 (fun x => if m.st = .gear then ramp 2 x else x = a) ∧
    (∀ c, takes (.speed c) (if m.st = .stop then 0x2002 else 0) fun x => x.motion.spdCap = c ∧ x.motion.st = m.st) ∧
    (∀ c, takes (.accel c) (if m.st = .stop then 0x2002 else 0) fun x => x.motion.accCap = c ∧ x.motion.st = m.st) ∧
    (∀ seq r, let e := d.takeRequests n [(seq, r)]
      let code := (d.takeRequest n r).2
      (e.axis n).motion = ((d.takeRequest n r).1.axis n).motion ∧
      (d.axConfigured n = true → (d.sig (slotSig n 15)).forced = false →
        e.sigVal (slotSig n 15) = BitVec.ofNat 32 (seq + code * 65536)) ∧
      (code ≠ 0 → e.reg (Adr.axRefused n) = satInc (d.reg (Adr.axRefused n)) ∧ (e.reg (Adr.axFlags n)).getLsbD 6 = true)) ∧
    -- stop requests
    d.takeStops n [] = d ∧
    (∀ l, l ≠ [] → ∃ b ∈ l, (∀ r ∈ l, (r.torqueOff = true → b.torqueOff = true) ∧ (r.torqueOff = b.torqueOff → r.ramp ≤ b.ramp) ∧
        (r.torqueOff = b.torqueOff → r.ramp = b.ramp → b.cause ≤ r.cause)) ∧
      let m' := ((d.takeStops n l).axis n).motion
      (b.torqueOff = true → m.st ≠ .noconf → m'.st = .off ∧ m'.cause = b.cause) ∧
      (b.torqueOff = false → moves → m'.st = .stop ∧ m'.ramp = b.ramp ∧ m'.cause = b.cause ∧ m'.v = m.v ∧ m'.raw = m.raw) ∧
      (b.torqueOff = false → m.st = .stop → m' = if m.ramp < b.ramp then { m with ramp := b.ramp, cause := b.cause } else m) ∧
      (b.torqueOff = false → m.st = .stand ∨ m.st = .off → m' = { m with cause := b.cause })) ∧
    -- ramps
    (m.st = .stop → let m' := ((d.advance d0 n).axis n).motion
      let v := rampV (d.bands n m.ramp) m.v
      v.natAbs ≤ m.v.natAbs ∧ m'.v = v ∧ m'.raw = BitVec.ofInt 48 (m.x + (m.v + v).fdiv 2) - m.homeOff ∧
        m'.st = (if v = 0 then .stand else .stop) ∧ m'.homeOff = m.homeOff) ∧
    -- homing
    (m.st = .home → let x := (d.advance d0 n).axis n
      (x.motion.v - m.v).natAbs ≤ d.parN n 136 ∧ (a.homing.latch = true → x.motion.homed = true ∧ 3 ≤ x.homing.phase) ∧
        (a.homing.latch = false → x.motion.homeOff = m.homeOff ∧ x.motion.homed = m.homed) ∧
        (x.motion.st = .home ∨ (x.motion.st = .stand ∧ x.motion.v = 0 ∧ x.homing.phase = 5))) ∧
    -- gearing
    (m.st = .gear →
      let x := ((d.advance d0 n).axis n).motion
      let stops := x.cause = 9 ∧ (x.st = .stop ∨ x.st = .stand)
      let lost := stops ∧ d.advance d0 n = (d.takeStops n [{ cause := 9, ramp := 2, code := 0x2015 }]).advanceRamp n
      (d0.masterPos a.gearing = none ∨ d.gearTable a.gearing.table = none → lost) ∧
      (∀ mj miss t, d0.masterPos a.gearing = some (mj, miss) → d.gearTable a.gearing.table = some t →
        let v := (BitVec.ofInt 48 (gearX t a.gearing.slaveX (if a.gearing.fresh then mj else a.gearing.me) mj - m.x)).toInt
        (3 ≤ miss → lost) ∧
        (miss < 3 → d.parN n 128 < v.natAbs ∨ d.parN n 129 < (v - m.v).natAbs → stops ∧ ∃ g, d.advance d0 n =
          ((d.setAxis n { a with gearing := g }).takeStops n [{ cause := 9, ramp := 2, code := 0x2016 }]).advanceRamp n) ∧
        (miss < 3 → v.natAbs ≤ d.parN n 128 → (v - m.v).natAbs ≤ d.parN n 129 → x.st = .gear ∧ x.v = v ∧ x.homeOff = m.homeOff)))

/-- The estimator's frame and the door's cycle. The validity floor holds at rest, ends after 16 frames at or above it and returns below
seven eighths; the counts of obstacle and stall move as the estimate is above its bound, masked, not valid or below; a decision that
its count, the state and the mask allow raises a stop on ramp 1 with 0x2801, 0x2802, 0x2803 or 0x2804, and no other axis changes. A
cycle begins in the frame in which an axis is outside its closed zone, and ends when all stand or are off within it; an axis that left
its zone then counts the cycle and adds its counts; the buffers are taken by turns, hold one entry a frame while the axis is under way,
65,536 at most, and the list of promotions never passes 512.

Model's choices here: notes/assumptions/25.md, notes/assumptions/26.md, notes/assumptions/27.md, notes/assumptions/62.md, notes/assumptions/80.md. -/
def Obligations.LoadAngleAndCycles : Prop :=
  ∀ (d : Dev) (n : Nat),
    let a := d.axis n
    let m := a.motion
    let e := a.estim
    let d' := d.estimate n
    let e' := (d'.axis n).estim
    let h := d.histAt n 3
    let v := m.v.natAbs
    let floor := (d.raw n 64).toInt.toNat
    let rest := m.st = .stand ∨ m.st = .off ∨ m.st = .noconf
    let p65 := d.par n 65
    let close := d.closeDir n
    let masked := sgn h.v ≠ 0 ∧ sgn h.v = close ∧ (h.raw + m.homeOff.toInt - d.parI n 72 * 65536).natAbs ≤ d.parN n 75 * 65536
    let obstacle := (m.st = .move ∨ m.st = .gear) ∧ e'.valid = true ∧ ¬masked ∧ fld p65 0 4 ≤ e'.obsN
    let stall := m.st.underway = true ∧ e'.valid = true ∧ (fld p65 8 4 ≤ e'.stallA ∨ fld p65 8 4 ≤ e'.stallE)
    let edge := (d.par n 14).getLsbD 0 = true ∧ (m.st = .move ∨ m.st = .home ∨ m.st = .gear) ∧ sgn m.v ≠ 0 ∧
      (fld p65 16 2 = 2 ∨ (fld p65 16 2 = 1 ∧ sgn m.v = close))
    let stop (p : Prop) [Decidable p] (cause code : Nat) : List StopReq := if p then [{ cause := cause, ramp := 1, code := code }] else []
    let raised := stop obstacle 3 0x2801 ++ stop stall 4 (if fld p65 8 4 ≤ e'.stallA then 0x2802 else 0x2803) ++ stop edge 6 0x2804
    -- the floor
    (rest → e'.below = true ∧ e'.floorFrames = 0) ∧ (¬rest → e.below = false → e'.below = decide (8 * v < 7 * floor)) ∧
    (¬rest → e.below = true → e'.below = !decide (floor ≤ v ∧ 16 ≤ e.floorFrames + 1)) ∧
    (e'.valid = true → e'.below = false) ∧
    -- the counts and the decisions
    e'.obsN = (if e'.below ∨ masked then 0 else if e'.valid = false then e.obsN else if e'.ub < e'.dres then e.obsN + 1 else 0) ∧
    e'.stallA = (if e'.below then 0 else if e'.valid = false then e.stallA
      else if (d.par n 66).toNat ≤ e'.delta.natAbs then e.stallA + 1 else 0) ∧
    e'.stallE = (if e'.below then 0 else if e'.valid = false then e.stallE
      else if e'.emf * 100 * 65536 < fld (d.par n 67) 0 8 * (d.estIn n).ke * h.v.natAbs then e.stallE + 1 else 0) ∧
    e'.ub = d.upperBound n e'.closing e'.bin ∧
    (d'.axis n).motion = { m with stops := m.stops ++ raised } ∧
    (∀ k, k ≠ n → d'.axis k = d.axis k) ∧
    -- the cycle
    (∀ door frame, (∀ k ∈ d.doorAxesOf door, d.axConfigured k = true ∧ (d.axis k).cycle.ctl = [] ∧ (d.axis k).motion.st ≠ .home) →
      d.sys.leaving = false → let c := (d.doorFrame door frame).doorCycle door
      ((d.doorCycle door).active = false → (∃ k ∈ d.doorAxesOf door, d.outOfZone k = true) → c.active = true ∧ c.start = frame) ∧
      ((d.doorCycle door).active = false → (∀ k ∈ d.doorAxesOf door, d.outOfZone k = false) → c.active = false) ∧
      ((d.doorCycle door).active = true → d.cycleOver door = false → c.active = true ∧ c.start = (d.doorCycle door).start) ∧
      ((d.doorCycle door).active = true → d.cycleOver door = true → c.active = false)) ∧
    (∀ incomplete, let x := (d.endAxisCycle n incomplete).axis n
      let l := a.live
      let c := a.cycle
      let counted : Lifetime :=
        { l with cycles := l.cycles + 1, reversals := satAdd l.reversals c.cRev, obst := satAdd l.obst c.cObst,
                 stall := satAdd l.stall c.cStall, edge := satAdd l.edge c.cEdge, lag := satAdd l.lag c.cLag }
      x.motion = m ∧ x.cycle.buf = none ∧ x.live = (if c.left then counted else l)) ∧
    -- captures and promotions
    (∀ frame, let c := ((d.takeBuffer n frame).axis n).cycle
      let q := a.live.cycles.toNat % 4
      c.buf = some q ∧ (c.capture q).entries = [] ∧ (c.capture q).cycle = (a.live.cycles + 1).setWidth 32 ∧ (c.capture q).start = frame ∧
        ∀ k, k ≠ q → c.capture k = a.cycle.capture k) ∧
    (∀ q, a.cycle.buf = some q → let y := a.cycle.capture q
      let z := ((d.captureAxis n).axis n).cycle.capture q
      (m.st.underway = false → z = y) ∧
      (m.st.underway = true → y.count < 65536 → z.count = y.count + 1 ∧ z.truncated = y.truncated ∧ ∃ w, z.entries = w :: y.entries) ∧
      (m.st.underway = true → 65536 ≤ y.count → z = { y with truncated := true })) ∧
    (∀ p, d.promos.length ≤ 512 → (d.enlist n p).promos.length ≤ 512)

/-- A sheaf queue keeps its order: a block goes on die until 43,008 bytes are there, which begins a spill with 0x1021, and into the spill
area from then on, and moves back on die in order, at most 112 a frame, when 14,336 bytes or less are left there. An axis monitor holds the
violations of the frame, speed, position and direction; one of code 0x3006 or 0x3007 faults the axis, 0x3005 or the reaction switches its
torque off, any other stops it, none weakens what is in force, and each raises a stop on ramp 3. A trace packet that fits enters the FIFO, one that does not is counted; the
FIFO drains into the ring in order; an event advances the counters that select it by its number and no other.

Model's choices here: notes/assumptions/29.md, notes/assumptions/31.md, notes/assumptions/60.md. -/
def Obligations.QueuesMonitorsTrace : Prop :=
  ∀ d : Dev,
    -- queues
    (∀ q b, let x := d.queue q
      let e := d.enqueue q b
      let y := e.queue q
      (∀ k, k ≠ q → e.queue k = d.queue k) ∧
      (x.spilling = false → x.fill + 256 < 43008 → e = d.setQueue q { x with onDie := x.onDie ++ [b] }) ∧
      (x.spilling = false → 43008 ≤ x.fill + 256 → ∃ z : Dev, e = z.event 0x1021 (strSubj b.port b.node) ∧
        y = { x with onDie := x.onDie ++ [b], spilling := true, episodes := min 255 (x.episodes + 1) }) ∧
      (x.spilling = true → y.onDie = x.onDie ∧ y.spill = x.spill ++ [b] ∧ y.spilling = true ∧ y.episodes = x.episodes ∧
        y.full = (x.full || (q % 2 == 0 && decide (2 ^ 23 ≤ 256 * (x.spill.length + 1)))))) ∧
    (∀ x : Queue, let y := x.refill
      y.onDie ++ y.spill = x.onDie ++ x.spill ∧ (14336 < x.fill → y.onDie = x.onDie) ∧
      (x.fill ≤ 14336 → y.onDie.length = x.onDie.length + min 112 x.spill.length) ∧
      (y.spilling = true → x.spilling = true) ∧ (y.spill = [] → y.fill < 43008 → y.spilling = false) ∧
      (y.full = true ↔ x.full = true ∧ 2 ^ 23 < 256 * y.spill.length + 2 ^ 20)) ∧
    -- monitors
    (∀ n, n < 512 → let p := d.axParams n
      let x := d.safe n
      let m := (d.axis n).motion
      let sign : Int := if p.clneg then -1 else 1
      let out : Int := if m.x < p.slpmin then p.slpmin - m.x else if p.slpmax < m.x then m.x - p.slpmax else 0
      let open' (perm : Nat) : Prop := (0 < m.v * sign → perm / 2 % 2 = 1) ∧ (m.v * sign < 0 → perm % 2 = 1)
      let y := ((d.monitorAxis n).safe n).active
      (p.en = false → (d.monitorAxis n).safe n = if x.st = .none then x else {}) ∧
      (p.en = true → (0x3001 ∈ y ↔ p.sls = true ∧ (if 0 < m.v * sign then p.slsc else p.slso) < m.v.natAbs) ∧
        (0x3003 ∈ y ↔ p.sdi = true ∧ ¬(open' (d.permitted p) ∧ open' (d.permittedB p))) ∧
        (0x3004 ∈ y ↔ p.slp = true ∧ (if x.inReturn = true ∧ out ≠ 0 then x.retDist < out else if m.homed then out ≠ 0
          else m.v * sign < 0)))) ∧
    (∀ n code, n < 512 → let x := d.safe n
      let e := d.violate n code
      let y := e.safe n
      let react := (d.reg (Adr.safAxcfg n)).getLsbD 5 = true
      let off := code = 0x3005 ∨ (react ∧ code ≠ 0x3008)
      y.code = code ∧ (e.reg Adr.safFlags).getLsbD 0 = true ∧ (∀ k, k ≠ n → e.safe k = d.safe k ∧ e.axis k = d.axis k) ∧
      y.st = (if code = 0x3006 ∨ code = 0x3007 ∨ x.st = .fault then .fault else if off ∨ x.st = .torqueOff then .torqueOff
        else if x.st = .held ∧ x.inReturn = false then .held else .stopping) ∧
      (e.axis n).motion.stops = (d.axis n).motion.stops ++
        [{ cause := 11, ramp := 3, code := code, torqueOff := decide (y.st = .torqueOff ∨ y.st = .fault) }]) ∧
    -- trace
    (∀ bytes, let cfg := d.reg Adr.trcCfg
      let on := cfg.getLsbD 0 = true ∧ (cfg.getLsbD 1 = true ∨ cfg.getLsbD 2 = true) ∧ d.sys.power ≠ .roast
      let t := (d.packet bytes).trace
      (¬on → d.packet bytes = d) ∧
      (on → d.trace.fifo.length + bytes.length ≤ 4096 → t = { d.trace with fifo := d.trace.fifo ++ bytes }) ∧
      (on → 4096 < d.trace.fifo.length + bytes.length → t = { d.trace with dropped := d.trace.dropped + 1 } ∧
        (d.packet bytes).reg Adr.trcDrop = satInc (d.reg Adr.trcDrop) ∧ ((d.packet bytes).reg Adr.trcFlags).getLsbD 0 = true)) ∧
    (let cfg := d.reg Adr.trcCfg
      let t := d.drainTrace.trace
      let l := d.trace.fifo
      t.port = (if cfg.getLsbD 1 then l else []) ∧ (d.trace.dropped = 0 → t.fifo = []) ∧
      (cfg.getLsbD 2 = true → d.trace.frozen = false → d.trace.wrpos < 2 ^ 27 → l.length ≤ 2 ^ 27 →
        t.wrpos = (d.trace.wrpos + l.length) % 2 ^ 27 ∧
        (∀ i, ∀ hi : i < l.length, memRead t.buffer ((d.trace.wrpos + i) % 2 ^ 27) = l[i])) ∧
      (cfg.getLsbD 2 = false ∨ d.trace.frozen = true → t.buffer = d.trace.buffer ∧ t.wrpos = d.trace.wrpos)) ∧
    (∀ ev unit k, 0 < ev → (d.regs.map (·.1)).Nodup → (∀ r ∈ d.regs, r.1 % 4 = 0) → ∀ i, i < 256 →
      let sel := d.reg (0x260100 + 4 * i)
      let counted := fld sel 0 5 = ev ∧ (ev ∈ [1, 8, 12, 13, 15] ∨ fld sel 8 5 = unit)
      smGet 0 (d.countEvent ev unit k).trace.counters i = smGet 0 d.trace.counters i + (if counted then BitVec.ofNat 32 k else 0))

/-! ### Isolated field section (R261–R292) -/

/-- The barrier link from both sides: a good upstream frame gives the island its inputs and the supply signal its value, a bad one
takes every input as safe; three bad ones lose the link with VALID cleared on every husk signal, sixteen good ones bring it up and the
whole configuration is sent again; a good downstream frame brings the SO commands and the HS commands, of which a change within 20 ms of
the one before is deferred, by the husk's own time, which runs on in a reset with the frames it misses; the one after a power-fail warning brings every SO command
off and, as any other, no record; two bad ones switch every SO
output off, WDT bad ones put the husk in recovery with each channel in its fail-safe state, which sixteen good frames after a configuration end. Each does nothing before its condition.

Model's choices here: notes/assumptions/6.md, notes/assumptions/39.md. -/
def Obligations.BarrierLink : Prop :=
  ∀ (s : State) (x : FieldSample) (good : Bool),
    let d := s.dev
    let f := d.field
    let frame : Instr := .barrierFrameReceived x
    let husk : Instr := .huskFrameReceived good
    let fs (h : Nat) : Nat := d.hsFailsafe h
    let leads (post : Nat → Prop) : Prop := ∀ h, h < 32 → d.lead h = h → post h
    let tripDue := f.powered = true ∧ f.recovery = false ∧ f.roastHold = false ∧ fld (d.huskReg Adr.fldBlcfg) 0 8 ≤ f.dnBadRun
    let recovered := f.recovery = true ∧ f.cfgComplete = true ∧ 16 ≤ f.recGood
    let sets (d' : Dev) : Prop := d'.field.dnBadRun = 0 ∧ d'.field.soCmd = (if f.roastHold then 0 else d.island.soCmd) ∧
      ∀ k, k < 8 → (smGet {} d'.field.so k : So).on =
        (d'.field.soCmd.getLsbD k && !(smGet {} f.so k : So).overload && !f.uv && !f.roastHold)
    (d.operating = true → x.good = true → f.powered = true → Answers frame s fun d' =>
      d'.field.upBad = 0 ∧ d'.field.upGood = min 16 (f.upGood + 1) ∧ d'.field.linkUp = f.linkUp ∧ d'.island.diOk = true ∧
      d'.island.diA = x.diA ∧ d'.island.diB = x.diB ∧ d'.island.soOn = x.soOn ∧
      ((d.sig 0x80302).forced = false → d'.sigVal 0x80302 = x.huskSupply ∧ (d'.sig 0x80302).valid = f.linkUp)) ∧
    (d.operating = true → x.good = false ∨ f.powered = false → Answers frame s fun d' =>
      d'.field.upBad = f.upBad + 1 ∧ d'.field.upGood = 0 ∧ d'.field.linkUp = f.linkUp ∧ d'.island.diOk = false) ∧
    (f.linkUp = true → 3 ≤ f.upBad → Answers .barrierLinkLost s fun d' =>
      d'.field.linkUp = false ∧ (d'.reg Adr.fldFlags).getLsbD 0 = true ∧ ∀ n ∈ huskSignals ++ soSignals, (d'.sig n).valid = false) ∧
    (f.linkUp = false ∨ f.upBad < 3 → Ignored .barrierLinkLost s) ∧
    (f.linkUp = false → 16 ≤ f.upGood → Answers .barrierLinkUp s fun d' => d'.field.linkUp = true ∧ d'.field.cfgFull = true) ∧
    (f.linkUp = true ∨ f.upGood < 16 → Ignored .barrierLinkUp s) ∧
    (f.powered = false → Ignored husk s ∧ Ignored .soCommandLossOff s) ∧
    (f.powered = true → good = true → d.operating = false → f.offDue = false → Ignored husk s) ∧
    (f.powered = true → good = true → d.operating = false → f.offDue = true → Answers husk s fun d' => sets d' ∧
      d'.field.offDue = false ∧ d'.recorder = d.recorder ∧ d'.huskNow = d.huskNow + 1) ∧
    (f.powered = true → good = true → d.operating = true → f.recovery = false → f.roastHold = false → f.cfgFull = false →
      f.cfgWords = [] → Answers husk s fun d' => leads fun h =>
        let x := f.chan h
        let z := d'.field.chan h
        let want := f.hsCmd.getLsbD h
        (want = x.cmd → z.cmd = want ∧ z.deferred = none) ∧
        (want ≠ x.cmd → (∃ t, x.lastChange = some t ∧ d.huskNow < t + 20) → z.cmd = x.cmd ∧ z.deferred = some want) ∧
        (want ≠ x.cmd → (∀ t, x.lastChange = some t → t + 20 ≤ d.huskNow) →
          z.cmd = want ∧ z.deferred = none ∧ z.lastChange = some d.huskNow)) ∧
    (f.powered = true → good = true → d.operating = true → Answers husk s sets) ∧
    (f.powered = true → good = false → Answers husk s fun d' =>
      d'.field.dnBadRun = (if f.roastHold then f.dnBadRun else f.dnBadRun + 1) ∧ d'.field.recGood = 0 ∧ d'.field.hs = f.hs ∧
        d'.field.dnNew = f.dnNew + 1 ∧ d'.huskNow = (if d.operating = true then d.huskNow else d.huskNow + 1)) ∧
    (f.powered = true → 2 ≤ f.dnBadRun → Answers .soCommandLossOff s fun d' =>
      (∀ k, (smGet {} d'.field.so k : So).on = false) ∧ d'.field.hs = f.hs) ∧
    (f.powered = true → f.dnBadRun < 2 → Ignored .soCommandLossOff s) ∧
    (tripDue → Answers .barrierWatchdogTrip s fun d' => d'.field.recovery = true ∧ d'.field.cfgComplete = false ∧
      leads fun h => (d'.field.chan h).failsafe = true ∧ (fs h = 0 → (d'.field.chan h).on = false) ∧
        (fs h = 1 → (d'.field.chan h).on = (d.drivesPorts && !(f.chan h).limitLatch && !(f.chan h).thermLatch && !f.uv && d.drvHigh h)) ∧
        (fs h = 2 → d'.field.chan h = { f.chan h with failsafe := true })) ∧
    (¬tripDue → Ignored .barrierWatchdogTrip s) ∧
    (recovered → Answers .recoveryEnd s fun d' =>
      d'.field.recovery = false ∧ leads fun h => (d'.field.chan h).failsafe = false) ∧
    (¬recovered → Ignored .recoveryEnd s)

/-- Supplies, DRV pins and configuration: undervoltage switches every HS and SO output off, its end turns commanded channels on
again, a reset of the husk leaves every output off and no configuration; a DRV edge moves the channels of its pin and no other;
configuration is accepted in IDLE within its ranges, input configuration in any state, and waits to be sent; a refusal is flagged. Each
does nothing before its condition.

Model's choices here: notes/assumptions/6.md, notes/assumptions/38.md, notes/assumptions/39.md. -/
def Obligations.FieldSupplies : Prop :=
  ∀ (s : State) (pin : Fin 4) (level : Bool) (addr v : Word),
    let d := s.dev
    let f := d.field
    let leads (post : Nat → Prop) : Prop := ∀ h, h < 32 → d.lead h = h → post h
    let free (x : Hs) : Bool := !x.limitLatch && !x.thermLatch && !x.retryPending
    (f.powered = true → f.uv = false → Answers .v24fUndervoltage s fun d' =>
      d'.field.uv = true ∧ d'.field.uvEpisodes = satInc f.uvEpisodes ∧ (d'.reg Adr.fldFlags).getLsbD 3 = true ∧
      leads (fun h => (d'.field.chan h).on = false) ∧ ∀ k, k < 8 → (smGet {} d'.field.so k : So).on = false) ∧
    (f.powered = false ∨ f.uv = true → Ignored .v24fUndervoltage s) ∧ (f.uv = false → Ignored .undervoltageEnd s) ∧
    (f.powered = false → Ignored .huskReset s ∧ Ignored (.drvEdge pin level) s) ∧
    (inFldConfig addr.toNat = false → Ignored (.fldConfigWrite addr v) s) ∧
    (f.uv = true → f.powered = true → f.roastHold = false → d.drivesPorts = true → Answers .undervoltageEnd s fun d' =>
      d'.field.uv = false ∧ leads fun h => (d'.field.chan h).on = (d.hsWanted h && free (f.chan h) && d.drvHigh h)) ∧
    (f.powered = true → Answers .huskReset s fun d' =>
      (∀ h, (d'.field.chan h).on = false) ∧ (∀ k, (smGet {} d'.field.so k : So).on = false) ∧ d'.field.configured = false ∧
      d'.field.supplyLost = true ∧ d'.regs = d.regs ∧ d'.sigs = d.sigs) ∧
    (f.powered = true → Answers (.drvEdge pin level) s fun d' =>
      d'.field.drv.getLsbD pin.val = level ∧ (∀ k, k < 4 → k ≠ pin.val → d'.field.drv.getLsbD k = f.drv.getLsbD k) ∧
      (∀ h, d.drvPin h ≠ some pin.val → d'.field.chan h = f.chan h) ∧
      leads fun h => d.drvPin h = some pin.val → (d'.field.chan h).on = (d.hsWanted h && d.hsFree h && level)) ∧
    (∀ r, inFldConfig addr.toNat = true → rowOf addr.toNat = some r →
      let w := v &&& BitVec.ofNat 32 r.mask
      let input := 0x210100 ≤ addr.toNat ∧ addr.toNat < 0x210200
      let channel := 0x210200 ≤ addr.toNat
      let bad := (addr.toNat = Adr.fldBlcfg ∧ ¬(2 ≤ fld w 0 8 ∧ fld w 0 8 ≤ 250)) ∨ (channel ∧ ¬(1 ≤ fld w 8 5 ∧ fld w 8 5 ≤ 20))
      let refuses (d' : Dev) : Prop :=
        d'.reg addr.toNat = d.reg addr.toNat ∧ d'.field = f ∧ (d'.reg Adr.fldFlags).getLsbD 11 = true
      let takes (code : Word) (post : Dev → Prop) : Prop := Answers (.fldConfigWrite addr v) s fun d' =>
        d'.reg Adr.fldCfgstat = code ∧ post d'
      (input ∨ (d.sys.power = .idle ∧ ¬bad) → takes 0 fun d' => d'.reg addr.toNat = w ∧ addr.toNat ∈ d'.field.cfgWords) ∧
      (¬input → d.sys.power ≠ .idle → takes 0x4031 refuses) ∧
      (¬input → d.sys.power = .idle → bad → takes 0x4032 refuses))

/-- The high-side channels and safety outputs as the husk protects them, a ganged quad by its first channel: deferred commands, the
limit trip with its eight retries, the curve trip where the integral of I² − IC², which takes each evaluation once, reaches K, the thermal
latch, which ends once the channel has cooled and its command has gone off since, the raised limit of a gang, open loads outside the blanking, and the overload of an output. Each does nothing before its condition.

Model's choices here: notes/assumptions/6.md, notes/assumptions/37.md, notes/assumptions/38.md, notes/assumptions/74.md. -/
def Obligations.FieldChannels : Prop :=
  ∀ (s : State) (h : Fin 32) (q : Fin 8) (above3v5 above8v : Bool) (fast : List (BitVec 16)),
    let d := s.dev
    let l := d.lead h.val
    let x := d.field.chan l
    let c := d.huskReg (Adr.fldHscfg l)
    let count (lo : Nat) (d : Dev) : Nat := fld (d.reg (Adr.fldHscnt l)) lo 16
    let retry := d.ganged l = false ∧ c.getLsbD 2 = true ∧ d.drvPin l = none ∧ (x.failsafe = true → d.hsFailsafe l ≠ 1) ∧ x.retries < 8 ∧
      d.huskNow ≤ x.onSince + 100
    let flag (k : Nat) (d : Dev) : Prop := (d.reg Adr.fldFlags).getLsbD k = true
    let judged := d.drivesPorts = true ∧ c.getLsbD 6 = true ∧ c.getLsbD 7 = false ∧ (x.on = true ∨ d.drvPin l ≠ none) ∧
      (d.field.limitNow ||| d.field.limitPrev).getLsbD (l / 4) = false ∧ 1680 ≤ d.field.v24fHusk.toNat
    let checked := d.drivesPorts = true ∧ c.getLsbD 6 = true ∧ c.getLsbD 7 = true ∧ x.on = false ∧ d.drvPin l = none ∧
      1680 ≤ d.field.v24fHusk.toNat
    let ic := curveIc (fld c 0 2) (d.ganged l)
    let integral := (fast.drop x.curveTaken).foldl (fun acc i => acc + i.toNat * i.toNat - ic * ic) x.curve
    let curve : Instr := .hsCurveTrip { h := h, fast := fast }
    (∀ want t, x.deferred = some want → x.lastChange = some t →
      (t + 20 ≤ d.huskNow → d.field.roastHold = false → Answers (.hsDeferredApply h) s fun d' =>
        let z := d'.field.chan l
        z.cmd = want ∧ z.deferred = none ∧ z.lastChange = some d.huskNow ∧
          (want = false → ((x.failsafe = true → d.hsFailsafe l ≠ 1) → z.on = false) ∧ z.retries = 0 ∧ z.limitLatch = false ∧
            z.thermLatch = (x.thermLatch && x.hot)) ∧
          (want = true → x.failsafe = false → z.on = (d.hsFree l && d.drvHigh l))) ∧
      (d.huskNow < t + 20 ∨ d.field.roastHold = true → Ignored (.hsDeferredApply h) s)) ∧
    (x.deferred = none ∨ x.lastChange = none → Ignored (.hsDeferredApply h) s) ∧
    (x.on = true → retry → Answers (.hsLimitTrip h) s fun d' =>
      let z := d'.field.chan l
      z.on = false ∧ z.retryPending = true ∧ z.limitLatch = x.limitLatch ∧ count 0 d' = min 0xFFFF (count 0 d + 1)) ∧
    (x.on = true → ¬retry → Answers (.hsLimitTrip h) s fun d' =>
      let z := d'.field.chan l
      z.on = false ∧ z.limitLatch = true ∧ flag 5 d' ∧ count 0 d' = min 0xFFFF (count 0 d + 1)) ∧
    (x.on = true → curveK (fld c 0 2) ≤ integral → Answers curve s fun d' =>
      let z := d'.field.chan l
      z.curve = integral ∧ z.on = false ∧ z.limitLatch = true ∧ flag 5 d' ∧ count 0 d' = min 0xFFFF (count 0 d + 1)) ∧
    (x.on = true → integral < curveK (fld c 0 2) → Answers curve s fun d' =>
      d'.field.chan l = { x with curve := integral, curveTaken := max x.curveTaken fast.length } ∧ d'.regs = d.regs) ∧
    (x.on = false → Ignored (.hsLimitTrip h) s ∧ Ignored curve s) ∧
    (x.on = false → x.retryPending = false → Ignored (.hsThermalTrip h) s) ∧
    (x.retryPending = false → Ignored (.hsRetry h) s) ∧ (x.thermLatch = false ∨ x.hot = false → Ignored (.hsCooled h) s) ∧
    (d.field.raised.getLsbD q.val = false ∨ d.huskNow < (d.field.chan (4 * q.val)).onSince + 40 → Ignored (.gangRaisedLimitEnd q) s) ∧
    (¬judged ∨ x.olLow < 51 → Ignored (.hsOpenLoadOnstate h) s) ∧
    (¬judged ∨ x.olHigh < 51 ∨ x.openLoad = false → Ignored (.onstateOpenLoadClear h) s) ∧
    (¬checked → Ignored (.offstateOpenLoadCheck h above3v5 above8v) s) ∧
    ((smGet {} d.field.so q.val : So).on = false → Ignored (.soOverloadOff q) s) ∧
    (x.on = true ∨ x.retryPending = true → Answers (.hsThermalTrip h) s fun d' =>
      let z := d'.field.chan l
      z.on = false ∧ z.thermLatch = true ∧ z.waitCool = false ∧ z.retryPending = false ∧ flag 7 d' ∧ count 16 d' = min 0xFFFF (count 16 d + 1)) ∧
    (x.retryPending = true → Answers (.hsRetry h) s fun d' =>
      let z := d'.field.chan l
      z.retryPending = false ∧ z.retries = x.retries + 1 ∧ flag 6 d' ∧
        z.on = (d.hsWanted l && (d.drivesPorts && !x.limitLatch && !x.thermLatch && !d.field.uv && !d.field.roastHold &&
          d.field.powered) && d.drvHigh l)) ∧
    (x.thermLatch = true → x.hot = true → Answers (.hsCooled h) s fun d' =>
      (d'.field.chan l).hot = false ∧ (d'.field.chan l).thermLatch = !(x.waitCool && (x.cmd || !d.hsWanted l))) ∧
    (d.field.raised.getLsbD q.val = true → (d.field.chan (4 * q.val)).onSince + 40 ≤ d.huskNow →
      Answers (.gangRaisedLimitEnd q) s fun d' => d'.field.raised.getLsbD q.val = false ∧
        (∀ k, k < 8 → k ≠ q.val → d'.field.raised.getLsbD k = d.field.raised.getLsbD k) ∧ d'.field.hs = d.field.hs) ∧
    (judged → 51 ≤ x.olLow → Answers (.hsOpenLoadOnstate h) s fun d' =>
      d'.field.chan l = { x with openLoad := true } ∧ (x.openLoad = false → flag 8 d')) ∧
    (judged → 51 ≤ x.olHigh → x.openLoad = true → Answers (.onstateOpenLoadClear h) s fun d' =>
      d'.field.chan l = { x with openLoad := false } ∧ d'.recorder = d.recorder) ∧
    (checked → Answers (.offstateOpenLoadCheck h above3v5 above8v) s fun d' =>
      d'.field.chan l = { x with openLoad := above3v5, feed := above8v } ∧
        ((above3v5 = true ∧ x.openLoad = false) ∨ (above8v = true ∧ x.feed = false) → flag 8 d')) ∧
    (∀ o : So, o = smGet {} d.field.so q.val → o.on = true → Answers (.soOverloadOff q) s fun d' =>
      (smGet {} d'.field.so q.val : So) = { o with on := false, overload := true } ∧
      ∀ k, k ≠ q.val → (smGet {} d'.field.so k : So) = smGet {} d.field.so k)

/-! ### Redundant pair (R293–R312) -/

/-- A pair frame of the right TYPE, length and CRC waits for the next boundary, and another is discarded; a module that finds no
partner claims the role once its claim window has passed; ROLE_OUT falls with the frame engine; a loss and a disagreement are shown in
PAIR_STATUS and flagged, once; so is a swap that is due; PAIR_CFG is written in IDLE only.

Model's choices here: notes/assumptions/6.md, notes/assumptions/43.md, notes/assumptions/44.md. -/
def Obligations.PairEvents : Prop :=
  ∀ (s : State) (bytes : List Byte) (v : Word),
    let d := s.dev
    let p := d.pair
    let pair (p : PairUnit) : State := { s with dev := { d with pair := p } }
    let n := if leAt bytes 0 1 = 0xA7 then 6964 else 64
    let intact := (leAt bytes 0 1 = 0xA7 ∨ leAt bytes 0 1 = 0xA8) ∧ bytes.length = n ∧
      leAt bytes (n - 4) 4 = (crc32c (bytes.take (n - 4))).toNat
    let shown (code flag : Nat) (d' : Dev) : Prop :=
      fld (d'.reg Adr.pairStatus) 16 16 = code ∧ (d'.reg Adr.pairFlags).getLsbD flag = true
    let age := if p.role = .standby then p.actAge.toNat else p.partnerActAge.toNat
    let limit := 60 * fld (d.reg Adr.pairCfg) 8 16
    (intact → p.role ≠ .unpaired → d.operating = true → exec (.pairFrameReceived bytes) s =
      .next (pair { p with rx := some { mirror := decide (leAt bytes 0 1 = 0xA7), bytes := bytes } })) ∧
    (¬intact ∨ p.role = .unpaired ∨ d.operating = false → Ignored (.pairFrameReceived bytes) s) ∧
    (d.operating = true → p.role = .seek → (if p.unit1 then 128 else 64) ≤ p.claimFrames → Answers .roleClaim s fun d' =>
      d'.pair.role = .active ∧ d'.pair.roleOut = true ∧ d'.pair.actAge = 0 ∧ d'.pair.claiming = true) ∧
    (d.operating = false ∨ p.role ≠ .seek ∨ p.claimFrames < (if p.unit1 then 128 else 64) → Ignored .roleClaim s) ∧
    (p.role = .unpaired ∨ p.linkAge < 3 ∨ p.linkDown = true → Ignored .pairPortDown s) ∧
    (p.disagree < 3 ∨ p.disagreed = true → Ignored .roleDisagree s) ∧
    ((p.role ≠ .standby ∧ p.role ≠ .active) ∨ limit = 0 ∨ age < limit ∨ p.swapDue = true → Ignored .swapDue s) ∧
    exec .roleOutFrameEngineTimeout s = .next (pair { p with roleOut := false }) ∧
    (p.role ≠ .unpaired → 3 ≤ p.linkAge → p.linkDown = false → Answers .pairPortDown s fun d' =>
      d'.pair = { p with linkDown := true } ∧ shown 0x8001 0 d') ∧
    (3 ≤ p.disagree → p.disagreed = false → Answers .roleDisagree s fun d' =>
      d'.pair = { p with disagreed := true } ∧ shown 0x8003 2 d') ∧
    (p.role = .standby ∨ p.role = .active → limit ≠ 0 → limit ≤ age → p.swapDue = false → Answers .swapDue s fun d' =>
      d'.pair = { p with swapDue := true } ∧ fld (d'.reg Adr.pairStatus) 16 16 = 0x8030) ∧
    (d.sys.power = .idle → exec (.pairCfgWrite v) s = .next { s with dev := d.setReg Adr.pairCfg (v &&& 0xFFFF03) }) ∧
    (d.sys.power ≠ .idle → Ignored (.pairCfgWrite v) s)

/-- Take-over and commanded swap: a standby three boundaries without a mirror frame takes the role where ROLE_IN is low, a
downstream frame failed too and it was eligible, else it records why not; a swap takes the role after HANDOVER; both count and
stamp PAIR_LAST; a swap request waits for FRAME_BOUNDARY, which checks it after the role rules and answers it in PAIR_CMDSTAT, by the
first check that fails.

Model's choices here: notes/assumptions/6.md, notes/assumptions/43.md, notes/assumptions/44.md. -/
def Obligations.RoleChanges : Prop :=
  ∀ (s : State) (v : Word) (roleIn : Bool),
    let d := s.dev
    let p := d.pair
    let took (lo : Nat) (code : Nat) (d' : Dev) : Prop :=
      d'.pair.role = .active ∧ d'.pair.roleOut = true ∧ fld (d'.reg Adr.pairStatus) 16 16 = code ∧
      fld (d'.reg Adr.pairRolecnt) lo 16 = min 0xFFFF (fld (d.reg Adr.pairRolecnt) lo 16 + 1) ∧
      d'.reg Adr.pairLastlo = BitVec.ofNat 32 d.now ∧ d'.pair.partnerElig = false ∧ d'.pair.partnerActAge = 0 ∧
      ∀ n ∈ d.axes', (d'.axis n).motion.raw = (smGet {} p.axes n : MirrorAxis).raw
    let due := p.role = .standby ∧ 3 ≤ p.missed ∧ p.notTaken = false ∧ d.operating = true
    let blocked := p.roleIn = true ∨ p.listenMissed = 0
    let request := v.getLsbD 0 = true
    let still := ∀ n ∈ d.axes', (d.axis n).motion.st = .stand ∨ (d.axis n).motion.st = .off
    let key := v.toNat / 2 ^ 24 = 0x6B ∧ p.role = .active
    (due → ¬blocked → p.eligAtLast = true → Answers .takeover s fun d' => took 16 0x8010 d') ∧
    (due → blocked → Answers .takeover s fun d' =>
      d'.pair = { p with notTaken := true } ∧ fld (d'.reg Adr.pairStatus) 16 16 = 0x8002) ∧
    (due → ¬blocked → p.eligAtLast = false → Answers .takeover s fun d' =>
      d'.pair = { p with notTaken := true } ∧ fld (d'.reg Adr.pairStatus) 16 16 = 0x8006) ∧
    (¬due → Ignored .takeover s) ∧
    (let swap := d.operating = true ∧ p.role = .standby ∧ p.handover = true ∧ p.eligAtLast = true
     (swap → Answers (.swapTakeRole false) s fun d' => took 0 0x8011 d') ∧
     (¬swap → Ignored (.swapTakeRole false) s) ∧ Ignored (.swapTakeRole true) s) ∧
    (request → exec (.pairCmdSwap v) s = .next { s with dev := { d with pair := { p with swapReq := some v } } }) ∧
    (¬request → Ignored (.pairCmdSwap v) s) ∧
    (d.operating = true → let e := d.closeFrame
      let ruled := e.turnFrame.pairRules roleIn
      exec (.frameBoundary roleIn) s = .next { s with dev :=
        (((ruled.swapCheck.portsFrame e.sys.frame).sendPair.traceSync.drainTrace).countEvent 1 0 1).openCores }) ∧
    (p.swapReq = some v →
      (d.swapCheck.reg Adr.pairCmdstat).toNat = (if ¬key then 0x8022 else if ¬still then 0x8020
        else if p.partnerElig = false then 0x8021 else if d.placer.mig.isSome then 0x8023 else 0) ∧
      (d.swapCheck.pair.releasing = true ↔ p.releasing = true ∨ (key ∧ still ∧ p.partnerElig = true ∧ d.placer.mig = none)))

/-! ### Ethernet (R313–R330) -/

/-- The host ports below VHP: ARP for the port's own address and up to 20 echoes a second are answered to their sender, and a frame that
comes to nothing changes no more than the port's LED, where the port is powered; a link that
comes up sends one gratuitous ARP, one that is lost is flagged and recorded; telegrams are kept in order of arrival, other datagrams
are discarded and counted; what the headers do not let in is discarded silently; the watchdog makes every command mailbox STALE, once;
CFGSAVE with its key stores the network configuration where it is valid, else answers 0x5020.

Model's choices here: notes/assumptions/6.md, notes/assumptions/53.md, notes/assumptions/54.md, notes/assumptions/55.md. -/
def Obligations.HostPorts : Prop :=
  ∀ (s : State) (x : LinkIn) (target ip echo : Word) (mac : BitVec 48) (data bytes : List Byte) (fdx : Bool) (stamp : Nat)
    (v : Word),
    let d := s.dev
    let h := d.host
    let port := x.port
    let p := port.val
    let up := d.hostPortsUp = true
    let sent (kind : Nat) (mac : BitVec 48) (ip : Word) (b : List Byte) (d' : Dev) : Prop :=
      d'.host.tx = h.tx ++ [{ port := p, kind := kind, mac := mac, df := kind == 2, ttl := if kind = 2 then 64 else 0, sum := 0,
                              ip := ip, udp := 0, bytes := b }]
    let frame := x.fcsGood = true ∧ x.vlan = false
    let arpIn := frame ∧ (x.dst = ownMac p ∨ x.dst = broadcastMac)
    let ipIn (n : Nat) : Prop := frame ∧ x.dst = ownMac p ∧ 46 + n ≤ 1518 ∧ x.header = 20 ∧ x.fragment = false ∧ x.toIp = h.ip p
    let tgIn := ipIn bytes.length ∧ x.toPort = 48201 ∧ x.sum ≠ .bad
    let arp : Instr := .arpRequest x target ip mac
    let ping : Instr := .icmpEchoRequest x ip echo data
    let tg : Instr := .telegramDatagramReceived x stamp bytes
    let link (d : Dev) : Bool := if p = 0 then d.host.linkA else d.host.linkB
    let duplex (d : Dev) : Bool := if p = 0 then d.host.fdxA else d.host.fdxB
    let flag (k : Nat) (d : Dev) : Prop := (d.reg Adr.hostFlags).getLsbD k = true
    let t := fld (d.reg Adr.hostWdcfg) 0 16
    let came (i : Instr) : Prop := exec i s = .next { s with dev := { d with host := h.seen p d.now } }
    (up → arpIn → target = h.ip p → Answers arp s (sent 1 mac ip (d.arpBytes p 2 mac ip))) ∧
    (¬up → Ignored arp s ∧ Ignored ping s ∧ Ignored tg s) ∧
    (up → ¬arpIn ∨ target ≠ h.ip p → came arp) ∧
    (up → ipIn data.length → data.length ≤ 1472 → (h.recentEchoes p d.now).length < 20 →
      Answers ping s (sent 2 x.src ip (beBytes 4 echo.toNat ++ data))) ∧
    (up → ¬ipIn data.length ∨ 1472 < data.length ∨ 20 ≤ (h.recentEchoes p d.now).length → came ping) ∧
    (up → Answers (.ethernetLinkUp port fdx) s fun d' =>
      link d' = true ∧ duplex d' = (fdx || h.liveNet.getLsbD (16 + p)) ∧
        sent 1 broadcastMac (h.ip p) (d.arpBytes p 1 0 (h.ip p)) d') ∧
    (¬up → Ignored (.ethernetLinkUp port fdx) s ∧ Ignored (.ethernetLinkLost port) s ∧ Ignored .hostWatchdogExpiry s) ∧
    (up → ¬tgIn → came tg) ∧
    (up → link d = true → Records (.ethernetLinkLost port) s 0x5041 p fun d' => link d' = false ∧ flag p d') ∧
    (link d = false → Ignored (.ethernetLinkLost port) s) ∧
    (up → tgIn → d.sys.power ≠ .roast →
      (telegramDatagram bytes = true → (h.tg p).length < 16 → Answers tg s fun d' =>
        d'.host.tg p = h.tg p ++ [{ stamp := stamp, bytes := ((bytes.take (bytes.length - 4)).drop 16).take 60 }] ∧
          d'.host.tg (1 - p) = h.tg (1 - p)) ∧
      (telegramDatagram bytes = true → 16 ≤ (h.tg p).length → Answers tg s fun d' =>
        d'.host = h.seen p d.now ∧ d'.reg Adr.hostTgdrop = satInc (d.reg Adr.hostTgdrop) ∧ flag 4 d') ∧
      (telegramDatagram bytes = false → Answers tg s fun d' =>
        d'.host = h.seen p d.now ∧ d'.reg Adr.hostTgdrop = satInc (d.reg Adr.hostTgdrop))) ∧
    (up → t ≠ 0 → h.wdExp = false → h.wdSince + t ≤ d.now → Records .hostWatchdogExpiry s 0x5040 0xFFFF fun d' =>
      d'.host.wdExp = true ∧ flag 2 d' ∧ ∀ i, i < 2048 → (d'.sig (0x85000 + i)).q.getLsbD 1 = true ∧
        d'.sigVal (0x85000 + i) = d.sigVal (0x85000 + i)) ∧
    (t = 0 ∨ h.wdExp = true ∨ d.now < h.wdSince + t → Ignored .hostWatchdogExpiry s) ∧
    (let a := d.reg Adr.hostIpa
     let b := d.reg Adr.hostIpb
     let n := d.reg Adr.hostNetcfg
     (v.toNat % 256 ≠ 0xB4 → Ignored (.hostCfgsave v) s) ∧
     (v.toNat % 256 = 0xB4 → netConfigOk a b n = true → Answers (.hostCfgsave v) s fun d' =>
       d'.host = { h with storedIpA := a, storedIpB := b, storedNet := n } ∧ d'.reg Adr.hostCfgstat = 0) ∧
     (v.toNat % 256 = 0xB4 → netConfigOk a b n = false →
       exec (.hostCfgsave v) s = .next { s with dev := d.setReg Adr.hostCfgstat 0x5020 }))

/-! ### Vobry host protocol (R314–R330) -/

/-- A command datagram meets the checks of R317 in order: a damaged one is discarded and counted, a failed header check is
answered, a repeat gets its held response or 0x500B, or waits with its copy, a full queue 0x5008; a new request that passes every
check joins the queue at its end, and feeds the host watchdog. What the headers do not let in is discarded silently, and what finds the
receive buffer full is counted with 0x5042, either seen at the port; in ROAST the datagram is lost while the host unit is scanned, and the test in progress never
falls back to an earlier one.

Model's choices here: notes/assumptions/50.md, notes/assumptions/53.md, notes/assumptions/54.md, notes/assumptions/55.md. -/
def Obligations.VhpDatagrams : Prop :=
  ∀ (s : State) (x : LinkIn) (ip : Word) (udp : BitVec 16) (b : List Byte),
    let d := s.dev
    let h := d.host
    let port := x.port
    let i : Instr := .vhpDatagramReceived x ip udp b
    let taken := x.fcsGood = true ∧ x.vlan = false ∧ 46 + b.length ≤ 1518 ∧ x.dst = ownMac port.val ∧ x.header = 20 ∧
      x.fragment = false ∧ x.toIp = h.ip port.val ∧ x.toPort = 48200 ∧ x.sum ≠ .bad
    let n := b.length
    let len := leAt b 8 2
    let vtype := leAt b 3 1
    let seq : Word := BitVec.ofNat 32 (leAt b 4 4)
    let crc : Word := BitVec.ofNat 32 (leAt b (n - 4) 4)
    let payload := (b.drop 16).take len
    let q : VReq := { port := port.val, ip := ip, udp := udp, vtype := vtype, seq := seq, crc := crc, payload := payload,
                      mac := x.src, ports := [(port.val, x.src)] }
    let intact := 20 ≤ n ∧ leAt b 0 2 = 0x4856 ∧ crc = crc32c (b.take (n - 4))
    let code := if leAt b 2 1 ≠ 1 then 0x5001
      else if vtype ∉ [0x01, 0x02, 0x03, 0x04, 0x05, 0x06, 0x07, 0x10, 0x11, 0x20, 0x21, 0x22, 0x40, 0x41, 0x50, 0x51] then 0x5002
      else if 1408 < len then 0x5003 else if n ≠ 20 + len then 0x5004 else 0
    let response (status : Nat) : List Byte := vhpDatagram ((vtype + 0x80) % 256) seq status d.sys.frame []
    let answered (bytes : List Byte) (d' : Dev) : Prop :=
      d'.host.queue = h.queue ∧ d'.host.tx = h.tx ++ [
        { port := port.val, kind := 0, mac := x.src, df := true, ttl := 64, sum := udpSum (h.ip port.val) ip udp bytes,
          ip := ip, udp := udp, bytes := bytes }]
    let held := (h.endpoint ip udp).find seq
    let accept := d.vhpAccept vtype payload
    let e := d.frameSeen port.val
    let roast := e.roastTestNow
    (d.sys.roastTest < 12 → 1 ≤ roast.2 ∧ d.sys.roastTest ≤ roast.2 ∧ roast.2 < 12 ∧ roast.1.sys.roastTest = roast.2) ∧
    (d.hostPortsUp = false → Ignored i s) ∧ (d.hostPortsUp = true → ¬taken → exec i s = .next { s with dev := e }) ∧
    (d.hostPortsUp = true → taken → x.full = true →
      exec i s = .next { s with dev := ((e.incReg Adr.hostRxdrop).orReg Adr.hostFlags 8).eventRep 0x5042 0xFFFF }) ∧
    (d.hostPortsUp = true → taken → x.full = false → d.sys.power = .roast →
      exec i s = .next { s with dev := if roast.2 = 3 then roast.1 else roast.1.vhpReceive port.val x.src ip udp b }) ∧
    (d.hostPortsUp = true → taken → x.full = false → d.sys.power ≠ .roast →
      (¬intact → exec i s = .next { s with dev := e.incReg Adr.hostRxdrop }) ∧
      (intact → code ≠ 0 → Answers i s (answered (response code))) ∧
      (intact → code = 0 →
        (∀ y bytes, held = some y → y.crc = crc → y.response = some bytes → Answers i s (answered bytes)) ∧
        (∀ y, held = some y → y.crc = crc → y.response = none → Answers i s fun d' => d'.host.tx = h.tx ∧
          d'.host.queue = h.queue.map fun r =>
            if r.ip = ip ∧ r.udp = udp ∧ r.seq = seq ∧ r.crc = crc ∧ ∀ p ∈ r.ports, p.1 ≠ port.val
            then { r with ports := r.ports ++ [(port.val, x.src)] } else r) ∧
        (∀ y, held = some y → y.crc ≠ crc → Answers i s (answered (response 0x500B))) ∧
        (held = none → 32 ≤ h.queue.length → Answers i s (answered (response 0x5008))) ∧
        (held = none → h.queue.length < 32 → accept ≠ 0 → Answers i s (answered (response accept))) ∧
        (held = none → h.queue.length < 32 → accept = 0 → vhpParse vtype payload ≠ 0 →
          Answers i s (answered (response (vhpParse vtype payload)))) ∧
        (held = none → h.queue.length < 32 → accept = 0 → vhpParse vtype payload = 0 → Answers i s fun d' =>
          d'.host.queue = h.queue ++ [q] ∧ d'.host.tx = h.tx ∧ d'.host.wdExp = false ∧ d'.host.wdSince = d.now ∧
          (d'.host.endpoint ip udp).find seq = some { seq := seq, crc := crc, response := none })))

/-- A response leaves once on each port on which a copy of its request arrived, to the address of that copy, is held with its sequence
number for a repeat, takes the request from the queue and counts it; ROAST accepts REG.READ and IDENT, a standby the requests that read and REG.WRITE of the PAIR block, any other
module every request. A request at the front that is not accepted is answered with 0x500A or 0x5009 and changes nothing else; with no
request of its type and form at the front a request's command does nothing.

Model's choices here: notes/assumptions/50.md, notes/assumptions/55.md. -/
def Obligations.VhpResponses : Prop :=
  ∀ (s : State) (q : VReq) (status : Nat) (payload : List Byte) (frame : Word) (ok : Bool) (random : BitVec 128),
    let d := s.dev
    let any : List Byte → Prop := fun _ => True
    let byte (off v : Nat) : List Byte → Prop := fun p => leAt p off 1 = v
    let rows : List (Nat × (List Byte → Prop) × Instr) := [(0x01, any, .vhpRegRead), (0x02, any, .vhpRegWrite), (0x03, any, .sigRead),
      (0x04, byte 2 0, .sigWrite), (0x04, byte 2 1, .sigWriteInvalid), (0x04, byte 2 2, .sigForce), (0x04, byte 2 3, .sigRelease),
      (0x05, byte 0 0, .stateOff), (0x05, byte 0 1, .stateKeep), (0x05, byte 0 2, .stateIdle), (0x05, byte 0 3, .stateRun),
      (0x05, byte 0 4, .stateRoast), (0x05, (fun p => 4 < leAt p 0 1), .stateInvalidTarget), (0x06, any, .commission), (0x07, any, .ident),
      (0x10, any, .updBlock ok), (0x11, any, .updStatus), (0x20, byte 0 0, .recReadRecords), (0x20, byte 0 1, .recReadCapture),
      (0x20, byte 0 2, .recReadLifetime), (0x21, any, .recChal random), (0x22, any, .recClear), (0x40, any, .trcRead),
      (0x41, any, .vhpCntRead), (0x50, any, .nodeReq), (0x51, any, .nodeRead)]
    let d' := d.respond q status payload frame
    let bytes := vhpDatagram ((q.vtype + 0x80) % 256) q.seq status frame payload
    let refused := d.respond q (d.vhpAccept q.vtype q.payload) [] d.sys.frame
    let standby := d.sys.power ≠ .roast ∧ d.pair.role = .standby
    d'.host.queue = d.host.queue.drop 1 ∧ d'.host.executing = false ∧ d'.reg Adr.hostRxcnt = satInc (d.reg Adr.hostRxcnt) ∧
    d'.host.tx = d.host.tx ++ (q.ports.map fun p =>
      { port := p.1, kind := 0, mac := p.2, df := true, ttl := 64, sum := udpSum (d.host.ip p.1) q.ip q.udp bytes,
        ip := q.ip, udp := q.udp, bytes := bytes }) ∧
    d'.sigs = d.sigs ∧ d'.axes = d.axes ∧ d'.cores = d.cores ∧
    (∀ y, (d.host.endpoint q.ip q.udp).find q.seq = some y → y.crc = q.crc →
      (d'.host.endpoint q.ip q.udp).find q.seq = some { y with response := some bytes }) ∧
    (∀ t p, (d.sys.power = .roast → (d.vhpAccept t p = 0 ↔ t = 0x01 ∨ t = 0x07) ∧ (d.vhpAccept t p = 0 ∨ d.vhpAccept t p = 0x500A)) ∧
      (standby → t ∈ [0x04, 0x05, 0x06, 0x10, 0x21, 0x22, 0x50, 0x51] → d.vhpAccept t p = 0x5009) ∧
      (standby → t ∈ [0x01, 0x03, 0x07, 0x11, 0x20, 0x40, 0x41] → d.vhpAccept t p = 0) ∧
      (standby → (d.vhpAccept 0x02 p = 0 ↔ 0x270000 ≤ leAt p 0 4 ∧ leAt p 0 4 + 4 * leAt p 4 2 ≤ 0x280000) ∧
        (d.vhpAccept 0x02 p = 0 ∨ d.vhpAccept 0x02 p = 0x5009)) ∧
      (d.sys.power ≠ .roast → d.pair.role ≠ .standby → d.vhpAccept t p = 0)) ∧
    (∀ r ∈ rows,
      (fronts s q → q.vtype = r.1 → r.2.1 q.payload → d.vhpAccept q.vtype q.payload ≠ 0 →
        exec r.2.2 s = .next { s with dev := refused }) ∧
      ((∀ y, fronts s y → y.vtype = r.1 → ¬r.2.1 y.payload) → Ignored r.2.2 s))

/-- Requests that read: registers, where SYS_OPTLO latches SYS_OPTHI, identity with its 18 bytes, update status, the trace buffer, event
counters, and the recorder's forms: from a held record on, its bytes and those of the records after it, up to 1,392, a capture buffer by
its cycle, and a lifetime block; REG.WRITE writes its words in ascending order; an address outside the blocks or unaligned refuses the
whole request with no effect.

Model's choices here: notes/assumptions/49.md, notes/assumptions/51.md, notes/assumptions/52.md. -/
def Obligations.VhpRegistersAndReads : Prop :=
  ∀ (s : State) (q : VReq), fronts s q → s.dev.vhpAccept q.vtype q.payload = 0 →
    let d := s.dev
    let f (off n : Nat) : Nat := leAt q.payload off n
    let first := f 0 4
    let n := f 4 2
    let addrs := (List.range n).map fun i => first + 4 * i
    let good := ∀ a ∈ addrs, inBlock a = true ∧ a % 4 = 0
    let unchanged (d' : Dev) : Prop := d' = d
    (q.vtype = 0x01 → good → (∀ a ∈ addrs, a ≠ Adr.sysOptlo) →
      Serves .vhpRegRead s q 0 (addrs.flatMap fun a => leBytes 4 (d.readReg a).toNat) unchanged) ∧
    (q.vtype = 0x01 → good → Serves .vhpRegRead s q 0
      (List.foldl (fun (r : Dev × List Byte) a => ((r.1.readRegLatch a).1, r.2 ++ leBytes 4 (r.1.readRegLatch a).2.toNat)) (d, []) addrs).2
      fun d' => d' = addrs.foldl (fun d a => (d.readRegLatch a).1) d) ∧
    (∀ a, (d.readRegLatch a).2 = d.readReg a ∧ (a ≠ Adr.sysOptlo → (d.readRegLatch a).1 = d) ∧
      (a = Adr.sysOptlo → (d.readRegLatch a).1 = { d with sys := { d.sys with optHi := BitVec.ofNat 16 (d.now / 2 ^ 32) } })) ∧
    (q.vtype = 0x02 → good → Serves .vhpRegWrite s q 0 [] fun d' =>
      d' = (List.range n).foldl (fun d i => d.writeReg (first + 4 * i) (BitVec.ofNat 32 (f (8 + 4 * i) 4))) d) ∧
    (¬good → ∃ code, (code = 0x0101 ∨ code = 0x0102) ∧ (q.vtype = 0x01 → Serves .vhpRegRead s q code [] unchanged) ∧
      (q.vtype = 0x02 → Serves .vhpRegWrite s q code [] unchanged)) ∧
    (q.vtype = 0x07 → Serves .ident s q 0 (leBytes 4 Config.serial.toNat ++ leBytes 4 Config.bootVersion.toNat ++
      leBytes 4 d.upd.runPairId.toNat ++ [BitVec.ofNat 8 d.sys.power.code, BitVec.ofNat 8 d.pair.role.code, 1, 0] ++ leBytes 2 1408) unchanged) ∧
    (q.vtype = 0x11 → Serves .updStatus s q 0 ((List.range 8).flatMap fun i => leBytes 4 (d.readReg (0x250000 + 4 * i)).toNat) unchanged) ∧
    (q.vtype = 0x40 → Serves .trcRead s q 0 ((List.range n).map fun k => memRead d.trace.buffer (first + k)) fun d' =>
      d' = d.dramBytes first n) ∧
    (q.vtype = 0x41 → Serves .vhpCntRead s q 0
      ((List.range (f 2 2)).flatMap fun k => leBytes 4 (smGet 0 d.trace.counters (f 0 1 + k)).toNat) unchanged) ∧
    (q.vtype = 0x20 → f 0 1 = 0 → Serves .recReadRecords s q 0 (d.recorder.readRecords (BitVec.ofNat 32 (f 4 4)) (f 2 2)) unchanged) ∧
    (∀ seq off, 16 ≤ (d.recorder.readRecords seq off).length ∧ (d.recorder.readRecords seq off).length ≤ 1408 ∧
      (d.recorder.seed ++ d.recorder.chaff = [] → off = 0 → leAt (d.recorder.readRecords d.recorder.nextSeq off) 14 1 = 2)) ∧
    (∀ before x after, d.recorder.seed ++ d.recorder.chaff = before ++ x :: after → (∀ z ∈ before, z.seq ≠ x.seq) → ∀ off, off < x.size →
      let p := d.recorder.readRecords x.seq off
      leAt p 0 4 = x.seq.toNat ∧ leAt p 4 2 = off % 65536 ∧ leAt p 14 1 = 0 ∧
        p.drop 16 = (((x.bytes.drop off) ++ after.flatMap (·.bytes)).take 1392)) ∧
    (q.vtype = 0x20 → f 0 1 = 1 →
      let axis := f 2 2
      let held := (d.axis axis).cycle.buffers.find? fun b => b.2.cycle == BitVec.ofNat 32 (f 4 4)
      (d.axConfigured axis = false → Serves .recReadCapture s q 0x2821 [] fun d' => d'.regs = d.regs) ∧
      (d.axConfigured axis = true → held = none → Serves .recReadCapture s q 0x2820 [] fun d' => d'.regs = d.regs) ∧
      (∀ b, d.axConfigured axis = true → held = some b →
        let l := (b.2.entries.reverse.drop (f 8 4)).take 350
        Serves .recReadCapture s q 0 (leBytes 4 b.2.count ++ leBytes 2 l.length ++
          [BitVec.ofNat 8 (b.2.truncated.toNat + 2 * b.2.inProgress.toNat + 4 * b.2.incomplete.toNat), 0] ++
          l.flatMap fun w => leBytes 4 w.toNat) fun d' => d' = d.dramBytes (4 * f 8 4) (4 * l.length))) ∧
    (q.vtype = 0x20 → f 0 1 = 2 → Serves .recReadLifetime s q 0 (((d.axis (f 2 2)).block.drop (f 4 2)).take (f 6 2)) unchanged)

/-- SIG.READ answers value and quality of each signal and marks none; SIG.WRITE in its four modes accepts or refuses each entry by
itself: an accepted write stores the value with tag 0x11, VALID but in mode 1, a force sets FORCED, a release clears it and keeps the
value; the answer names the first refused entry with its code, and a request of one refused entry leaves the module as it was.

Model's choices here: notes/assumptions/49.md, notes/assumptions/51.md. -/
def Obligations.VhpSignals : Prop :=
  ∀ (s : State) (q : VReq), fronts s q → s.dev.vhpAccept q.vtype q.payload = 0 →
    let d := s.dev
    let f (off n : Nat) : Nat := leAt q.payload off n
    let wanted := (List.range (f 0 2)).map fun i => if f 2 1 = 1 then f 4 4 + i else f (4 + 4 * i) 4
    let row (mode : Nat) : Instr := match mode with
      | 0 => .sigWrite
      | 1 => .sigWriteInvalid
      | 2 => .sigForce
      | _ => .sigRelease
    let entries : List (Nat × Word) := (List.range (f 0 2)).map fun i => (f (4 + 8 * i) 4 % 2 ^ 20, BitVec.ofNat 32 (f (8 + 8 * i) 4))
    let refusal (mode n : Nat) : Nat := if d.sigExists n = false then 0x5011
      else if mode < 2 ∧ d.sigAllows n .host = false then 0x5010
      else if mode = 2 ∧ d.sigForceable n = false then 0x5012
      else if mode = 3 ∧ (d.sig n).forced = false then 0x5012 else 0
    (q.vtype = 0x03 → Serves .sigRead s q 0
      (wanted.flatMap fun n => let x := d.sig n; leBytes 4 x.value.toNat ++ leBytes 4 (x.stamp ++ x.tag ++ x.q).toNat) fun d' =>
        d' = wanted.foldl (fun d n => if d.sigExists n then d.countStore n else d) d ∧ d'.sigs = d.sigs) ∧
    (∀ mode, mode < 4 → q.vtype = 0x04 → f 2 1 = mode → (entries.map (·.1)).Nodup →
      let bad := entries.zipIdx.find? fun e => refusal mode e.1.1 != 0
      let status := match bad with
        | some e => refusal mode e.1.1
        | none => 0
      let payload := match bad with
        | some e => leBytes 2 e.2
        | none => []
      Serves (row mode) s q status payload fun d' => (f 0 2 = 1 → status ≠ 0 → d' = d) ∧ ∀ e ∈ entries, refusal mode e.1 = 0 →
        let n := e.1
        let x := d'.sig n
        x.value = (if mode = 3 then (d.sig n).value else e.2) ∧ (mode ≠ 3 → x.tag = 0x11 ∧ x.valid = decide (mode ≠ 1)) ∧
        (mode < 2 → x.forced = (d.sig n).forced) ∧ (mode = 2 → x.forced = true) ∧ (mode = 3 → x.forced = false))

/-- NODE.REQ is refused for a port that is not UP, a node not found, or another block type, or with 0x1022 where the outbound area is
full, and queues its message otherwise; NODE.READ reports a request given up on once, an empty reply where none waits, which says whether
other nodes' replies do, and else blocks of one message, a message of one block whole.

Model's choices here: notes/assumptions/29.md, notes/assumptions/49.md, notes/assumptions/52.md. -/
def Obligations.VhpNodes : Prop :=
  ∀ (s : State) (q : VReq), fronts s q → s.dev.vhpAccept q.vtype q.payload = 0 →
    let d := s.dev
    let f (off n : Nat) : Nat := leAt q.payload off n
    let p := f 0 1
    let node := f 1 1
    let x := d.port p
    let known := 1 ≤ node ∧ node ≤ 64 ∧ (x.node node).known = true
    let r := d.hostMessage p node (f 2 1) (q.payload.drop 8)
    let none4 := leBytes 1 p ++ leBytes 1 node ++ leBytes 6 0
    (q.vtype = 0x50 →
      (x.st ≠ .up → Serves .nodeReq s q 0x5030 [] fun d' => d' = d) ∧
      (x.st = .up → ¬known → Serves .nodeReq s q 0x5031 [] fun d' => d' = d) ∧
      (x.st = .up → known → f 2 1 ≠ 5 → f 2 1 ≠ 6 → Serves .nodeReq s q 0x5032 [] fun d' => d' = d) ∧
      (x.st = .up → known → f 2 1 = 5 ∨ f 2 1 = 6 → (r.2 = 0 ∨ r.2 = 0x1022) ∧
        (r.2 = 0x1022 ↔ ∃ h, d.homeSheaf p node = some h ∧ (d.queue (2 * h + 1)).spilling = true ∧
          2 ^ 23 < (d.queue (2 * h + 1)).spilled + 256 * ((x.node node).message p node (f 2 1) (q.payload.drop 8)).length) ∧ Serves .nodeReq s q r.2 [] fun d' =>
        d' = r.1 ∧ (r.2 = 0x1022 → r.1 = d) ∧ (r.2 = 0 → ((r.1.port p).node node).requests.length = (x.node node).requests.length + 1))) ∧
    (q.vtype = 0x51 → (∀ k, 1 ≤ k → k ≤ 64 → (x.node k).gaveUp = false) →
      ((∀ k, d.waitingReplies p k = []) → Serves .nodeRead s q 0 none4 fun d' => d' = d) ∧
      (1 ≤ node → d.waitingReplies p node = [] → (∃ k, 1 ≤ k ∧ k ≤ 64 ∧ d.waitingReplies p k ≠ []) →
        Serves .nodeRead s q 0 (leBytes 1 p ++ leBytes 1 node ++ [0, 4, 0, 0, 0, 0]) fun d' => d' = d) ∧
      (1 ≤ node → node ≤ 64 → ∀ b l, d.waitingReplies p node = b :: l → ∃ payload, payload[1]? = some (BitVec.ofNat 8 node) ∧
        payload[2]? = some (BitVec.ofNat 8 b.btype) ∧
        (b.frag % 2 = 1 → b.frag / 2 % 2 = 1 → payload.drop 8 = b.data) ∧ Serves .nodeRead s q 0 payload fun d' =>
          (d'.port p).readRr = node % 64)) ∧
    (q.vtype = 0x51 → 1 ≤ node → node ≤ 64 → (x.node node).gaveUp = true → Serves .nodeRead s q 0x1020 none4 fun d' =>
      ((d'.port p).node node).gaveUp = false)

/-! ### Power (R397–R417) -/

/-- STATE: the present state is answered with 0x0000 and nothing done, a code above 4 with 0x0201; an entry to RUN that fails a check
is answered with its code, one that passes shows ENTERING and is answered when RUN begins; leaving RUN shows LEAVING, takes every task
from its core and aborts a migration still in preparation with 0x9024; KEEP, ROAST and OFF from IDLE begin the shutdown, which releases
an active role.

Model's choices here: notes/assumptions/61.md, notes/assumptions/62.md. -/
def Obligations.StateRequests : Prop :=
  ∀ (s : State) (q : VReq), fronts s q → s.dev.vhpAccept q.vtype q.payload = 0 → q.vtype = 0x05 →
    let d := s.dev
    let y := d.sys
    let target := leAt q.payload 0 1
    let replies (i : Instr) (status code : Nat) (post : Dev → Prop) : Prop :=
      Serves i s q status (if status = 0 then [BitVec.ofNat 8 code] else []) fun d' => d'.reg Adr.pwrCmdstat = BitVec.ofNat 32 status ∧ post d'
    let r := d.runChecks
    let departs (d' : Dev) : Prop := d'.sys.power = .run ∧ d'.sys.leaving = true ∧ d'.sys.departAt = some y.frame ∧
      d'.host.executing = true ∧ (∀ k ∈ d'.cores, k.2.cur = none ∧ k.2.round = none) ∧
      (∀ m, d.placer.mig = some m → m.phase ≠ .copying → d'.placer.mig = none ∧
        ∀ z, d.image.isSome → d.doorPl m.door = some z →
          d'.placer.migCode = 0x9024 ∧ d'.reg Adr.plcMigfail = satInc (d.reg Adr.plcMigfail)) ∧
      (∀ m, d.placer.mig = some m → m.phase = .copying → d'.placer.mig = some m)
    let shut (i : Instr) (code : Nat) (to' : Power) : Prop := target = code →
      (y.power = .idle → Answers i s fun d' => d'.sys.shutdown = some (to', .draining) ∧ d'.sys.power = .idle ∧
        d'.host.executing = true ∧ (d'.pair.releaseDue = true ↔ d.pair.role = .active ∨ d.pair.releaseDue = true)) ∧
      (y.power = .run → Answers i s fun d' => d'.sys.shutdown = some (to', .departing) ∧ departs d')
    (4 < target → replies .stateInvalidTarget 0x0201 y.power.code fun d' => d'.sys = y) ∧
    (target = 3 → y.power = .run → replies .stateRun 0 3 fun d' => d'.sys = y) ∧
    (target = 3 → y.power = .idle → r.2 ≠ 0 → replies .stateRun r.2 2 fun d' => d'.sys.entering = y.entering ∧ d'.sys.power = .idle) ∧
    (target = 3 → y.power = .idle → r.2 = 0 → Answers .stateRun s fun d' =>
      d'.sys.entering = true ∧ d'.sys.power = .idle ∧ d'.sys.enterAt = some y.frame ∧ d'.host.executing = true ∧
      d'.host.queue = d.host.queue) ∧
    (target = 2 → y.power = .idle → replies .stateIdle 0 2 fun d' => d'.sys = y) ∧
    (target = 2 → y.power = .run → Answers .stateIdle s departs) ∧
    shut .stateKeep 1 .keep ∧ shut .stateRoast 4 .roast ∧ shut .stateOff 0 .off ∧
    (d.image = none → r.2 = 0x7031) ∧ (d.image.isSome → y.runHold = true → r.2 = 0x7811) ∧
    (d.image.isSome → y.runHold = false → d.safInvalid = true → r.2 = 0x3033) ∧
    (d.image.isSome → y.runHold = false → d.safInvalid = false → d.fldInvalid = true → r.2 = 0x4030)

/-- The state changes that follow: RUN begins at a coarse-tick boundary at least 736 frames after its command; a departure ends in IDLE
with every axis in OFF, at rest or after 4,000 frames; each answers the STATE request that waits for it with 0x0000 and the state
entered; a shutdown ends in its state once the recorder is empty and the role released. Before its condition each does nothing.

Model's choices here: notes/assumptions/6.md, notes/assumptions/61.md. -/
def Obligations.StateChanges : Prop :=
  ∀ s : State,
    let d := s.dev
    let y := d.sys
    let rest := ∀ n ∈ d.axes', (d.axis n).motion.st = .stand ∨ (d.axis n).motion.st = .off
    let drained := d.recorder.pendq = [] ∧ d.recorder.lifeQueue = [] ∧ d.pair.role ≠ .active
    let waits (q : VReq) := d.host.queue.head? = some q ∧ d.host.executing = true
    let replied (i : Instr) (q : VReq) (code : Nat) : Prop := ∃ d' : Dev, d'.host = d.host ∧
      exec i s = .next { s with dev := (d'.setReg Adr.pwrCmdstat 0).respond q 0 [BitVec.ofNat 8 code] d.host.execFrame }
    (∀ f, y.enterAt = some f → y.power = .idle → y.entering = true → y.frame.toNat % 8 = 0 → 736 ≤ (y.frame - f).toNat →
      Answers .runBegin s fun d' => d'.sys.power = .run ∧ d'.sys.entering = false ∧ d'.sys.runFrame = y.frame ∧ d'.sys.frame = y.frame ∧
        ∀ n ∈ d.axes', (d'.axis n).motion.spdCap = none ∧ (d'.axis n).motion.accCap = none) ∧
    (∀ f q, y.enterAt = some f → y.power = .idle → y.entering = true → y.frame.toNat % 8 = 0 → 736 ≤ (y.frame - f).toNat →
      waits q → replied .runBegin q 3) ∧
    (∀ f q, y.departAt = some f → y.leaving = true → 0 < (y.frame - f).toNat → rest ∨ 4000 ≤ (y.frame - f).toNat →
      y.shutdown = none → waits q → replied .departureComplete q 2) ∧
    (∀ q to', y.shutdown = some (to', .draining) → drained → waits q → y.wake = none → Answers .shutdownDrainComplete s fun d' =>
      d'.reg Adr.pwrCmdstat = 0) ∧
    (y.enterAt = none ∨ y.power ≠ .idle ∨ y.entering = false → Ignored .runBegin s) ∧
    (y.departAt = none ∨ y.leaving = false → Ignored .departureComplete s) ∧
    ((∀ to', y.shutdown ≠ some (to', .draining)) → Ignored .shutdownDrainComplete s) ∧
    (∀ f, y.enterAt = some f → y.frame.toNat % 8 ≠ 0 ∨ (y.frame - f).toNat < 736 → Ignored .runBegin s) ∧
    (∀ f, y.departAt = some f → y.leaving = true → 0 < (y.frame - f).toNat → rest ∨ 4000 ≤ (y.frame - f).toNat →
      Answers .departureComplete s fun d' => d'.sys.power = .idle ∧ d'.sys.leaving = false ∧ (∀ n ∈ d.axes', parked d' n) ∧
        ∀ to' st, y.shutdown = some (to', st) → d'.sys.shutdown = some (to', .draining)) ∧
    (∀ f, y.departAt = some f → y.frame = f ∨ (¬rest ∧ (y.frame - f).toNat < 4000) → Ignored .departureComplete s) ∧
    (∀ to', y.shutdown = some (to', .draining) → drained →
      (to' = .roast → Answers .shutdownDrainComplete s fun d' => d'.sys.power = .roast ∧ d'.field.roastHold = true ∧
        d'.ports = [] ∧ d'.cans = [] ∧ (∀ l, l < 4 → (d'.island.loop l).on = false)) ∧
      (to' ≠ .roast → y.wake = none → Answers .shutdownDrainComplete s fun d' => d'.sys.power = to' ∧ d'.sys.pll = 0 ∧
        d'.field.powered = false ∧ d'.ports = [] ∧ d'.host.queue = [] ∧ d'.sys.frame = y.frame)) ∧
    (∀ to', y.shutdown = some (to', .draining) → ¬drained → Ignored .shutdownDrainComplete s)

/-- Starts: from OFF, from KEEP at a WAKE edge, or after a reset, the module is in KEEP with the start under way, operating time kept
with its upper half in SYS_OPTHI and, in a cold start, one more power cycle, and no request waits; an edge during a shutdown or ROAST
waits; IDLE follows with a frame count of 0, the field converter on, the duration and the kind in PWR_START, and the role SEEK where the module is paired. At another time each does nothing.

Model's choices here: notes/assumptions/6.md, notes/assumptions/63.md, notes/assumptions/66.md. -/
def Obligations.Starts : Prop :=
  ∀ (s : State) (ok : Bool) (ms opMs : BitVec 16),
    let d := s.dev
    let y := d.sys
    let begun (kind : StartKind) (d' : Dev) : Prop :=
      d'.sys.power = .keep ∧ d'.sys.starting = some kind ∧ d'.sys.frame = 0 ∧ d'.sys.opTime = y.opTime ∧ d'.sys.reset = none ∧
      d'.sys.optHi = BitVec.ofNat 16 (y.opTime.toNat / 2 ^ 32) ∧
      d'.sys.pwrCyc = (if kind = .cold then y.pwrCyc + 1 else y.pwrCyc) ∧ d'.host.queue = [] ∧ d'.pair.role = .unpaired
    (y.power = .off → Answers (.coldStart ok) s (begun .cold)) ∧
    (y.power = .idle ∨ y.power = .run → y.shutdown = none → Ignored (.coldStart ok) s ∧ Ignored (.wakeStart ok) s) ∧
    (y.power = .roast ∨ ((y.power = .idle ∨ y.power = .run) ∧ y.shutdown ≠ none) →
      exec (.coldStart ok) s = .next { s with dev := { d with sys := { y with wake := some ok } } } ∧
      exec (.wakeStart ok) s = .next { s with dev := { d with sys := { y with wake := some ok } } }) ∧
    (y.reset = none ∨ y.power = .off → Ignored (.resetStart ok) s) ∧
    (y.power = .keep → y.reset = none → y.starting = none → Answers (.wakeStart ok) s (begun .wake)) ∧
    (∀ cause, y.reset = some cause → y.power ≠ .off → y.rstnLow = false ∨ y.rstIgn = true →
      Answers (.resetStart ok) s (begun cause.kind)) ∧
    (∀ cause, y.reset = some cause → y.rstnLow = true → y.rstIgn = false → Ignored (.resetStart ok) s) ∧
    (∀ kind, y.starting = some kind → Answers (.startReachesIdle ms opMs) s fun d' =>
      d'.sys.power = .idle ∧ d'.sys.starting = none ∧ d'.sys.frame = 0 ∧ d'.field.powered = true ∧ d'.field.linkUp = true ∧ d'.sys.vinLow = d'.sys.vin ∧ d'.sys.opTime = y.opTime + BitVec.ofNat 48 opMs.toNat ∧
      d'.reg Adr.pwrStart = BitVec.ofNat 32 (kind.code + ms.toNat * 2 ^ 16) ∧ d'.sys.pwrCyc = y.pwrCyc ∧
      (((d.reg Adr.pairCfg).getLsbD 0 = true → d'.pair.role = .seek) ∧ ((d.reg Adr.pairCfg).getLsbD 0 = false → d'.pair.role = d.pair.role))) ∧
    (y.starting = none → Ignored (.startReachesIdle ms opMs) s)

/-- Supply and reset: a sag raises the division and its end halves it; a brownout, a power failure or RSTN holds the module in
reset, in KEEP with every loop off and every core stopped, and a power failure leaves one barrier frame to send; the monitors' lowest readings follow; a power failure that lasts ends in OFF;
RSTN held too long is taken as failed, when only its level is noted, and is back in service once it has been high, with 0x0222 now or,
where no record is queued, at the next start. At another time each does nothing.

Model's choices here: notes/assumptions/6.md, notes/assumptions/65.md, notes/assumptions/66.md. -/
def Obligations.SupplyAndReset : Prop :=
  ∀ (s : State) (div4 : Bool) (mv vin : BitVec 16),
    let d := s.dev
    let y := d.sys
    let level := if div4 then 4 else 2
    let clocked := d.operating = true ∨ y.power = .roast ∨ y.starting ≠ none
    let clockRuns := (d.operating = true ∨ y.starting ≠ none) ∧ y.reset = none
    let least (low mv : BitVec 16) : BitVec 16 := if low = 0 ∨ mv.toNat < low.toNat then mv else low
    let heldBy (cause : ResetCause) (code : Nat) (d' : Dev) : Prop :=
      d'.sys.power = .keep ∧ d'.sys.reset = some (y.reset.getD cause) ∧ code ∈ d'.sys.startCodes ∧ d'.sys.div = 1 ∧ d'.cores = [] ∧
      d'.host.queue = [] ∧ d'.recorder.pendq = [] ∧ d'.recorder.lostPending = d.recorder.lostPending + d.recorder.pendq.length ∧
      (∀ l, (d'.island.loop l).on = false) ∧ d'.pair.roleOut = false ∧ d'.sys.opTime = y.opTime
    (clockRuns → y.div < level → Answers (.sagDivide div4 mv) s fun d' =>
      d'.sys.div = level ∧ d'.sys.rail = mv ∧ d'.sys.railLow = least y.railLow mv ∧ d'.sys.power = y.power ∧ (d'.reg Adr.pwrFlags).getLsbD (if div4 then 1 else 0) = true) ∧
    (¬clockRuns ∨ level ≤ y.div → Ignored (.sagDivide div4 mv) s) ∧
    (y.power = .off ∨ y.vinFailed = true → Ignored (.powerFailWarning vin) s) ∧ (y.vinFailed = false → Ignored .powerFailOff s) ∧
    (y.rstnLow = false ∨ y.reset = none ∨ y.rstIgn = true → Ignored .rstnStuck s) ∧
    (y.rstIgn = false ∨ y.rstnLow = true ∨ y.power = .off → Ignored .rstnBackInService s) ∧
    (clockRuns → 1 < y.div → Answers (.sagStepBack mv) s fun d' => d'.sys.div = y.div / 2 ∧ d'.sys.power = y.power) ∧
    (¬clockRuns ∨ y.div ≤ 1 → Ignored (.sagStepBack mv) s) ∧
    (clocked → Answers .brownout s (heldBy .brown 0x0212)) ∧ (¬clocked → Ignored .brownout s) ∧
    (y.power ≠ .off → y.vinFailed = false → Answers (.powerFailWarning vin) s fun d' =>
      heldBy .pfail 0x0213 d' ∧ d'.island.soCmd = 0 ∧ (d'.field.offDue = true ↔ d.operating = true) ∧ d'.sys.vin = vin ∧ d'.sys.vinLow = least y.vinLow vin ∧ d'.sys.vinFailed = true) ∧
    (y.vinFailed = true → Answers .powerFailOff s fun d' => d'.sys.power = .off ∧ d'.sys.reset = none ∧ d'.sys.rstnLow = false ∧
      d'.field.powered = false) ∧
    (y.power ≠ .off → y.rstIgn = false → y.rstnLow = false → Answers .rstnAssert s fun d' =>
      heldBy .rstn 0x0220 d' ∧ d'.sys.rstnLow = true) ∧
    (y.power = .off ∨ y.rstnLow = true → Ignored .rstnAssert s) ∧
    (y.power ≠ .off → y.rstnLow = false → y.rstIgn = true →
      exec .rstnAssert s = .next { s with dev := { d with sys := { y with rstnLow := true } } }) ∧
    exec .rstnRelease s = .next { s with dev := { d with sys := { y with rstnLow := false } } } ∧
    (y.rstnLow = true → y.reset ≠ none → y.rstIgn = false → exec .rstnStuck s =
      .next { s with dev := { d with sys := { y with rstIgn := true, startCodes := y.startCodes.filter (· != 0x0220) ++ [0x0221] } } }) ∧
    (y.rstIgn = true → y.rstnLow = false → clocked → y.power ≠ .off → y.reset = none → Records .rstnBackInService s 0x0222 0xFFFF fun d' =>
      d' = { d with sys := { y with rstIgn := false } }) ∧
    (y.rstIgn = true → y.rstnLow = false → y.power ≠ .off → ¬clocked ∨ y.reset ≠ none → exec .rstnBackInService s =
      .next { s with dev := { d with sys := { y with rstIgn := false, startCodes := y.startCodes ++ [0x0222] } } })

/-- The power state moves in no other way: every command but the starts, the beginning of RUN, the ends of a departure, of a
shutdown and of ROAST, and the resets leaves it as it was, and so every command but these and FRAME_BOUNDARY leaves the frame count.

Model's choices here: notes/assumptions/6.md. -/
def Obligations.PowerStateMoves : Prop :=
  ∀ (i : Instr) (s t : State), exec i s = .next t →
    (∀ ok, i ≠ .coldStart ok) → (∀ ok, i ≠ .wakeStart ok) → (∀ ok, i ≠ .resetStart ok) → (∀ a b, i ≠ .startReachesIdle a b) →
    i ≠ .runBegin → i ≠ .departureComplete → i ≠ .shutdownDrainComplete → (∀ a b c, i ≠ .roastEnd a b c) →
    (∀ a b c, i ≠ .roastAbort a b c) → i ≠ .brownout → (∀ v, i ≠ .powerFailWarning v) → i ≠ .powerFailOff → i ≠ .rstnAssert →
    t.dev.sys.power = s.dev.sys.power ∧ ((∀ r, i ≠ .frameBoundary r) → t.dev.sys.frame = s.dev.sys.frame)

/-- Every step keeps the invariant of the power states. -/
def Obligations.PowerInvariant : Prop :=
  ∀ s t : State, powerInv s.dev → step s = .next t → powerInv t.dev

/-- Every step keeps the bounds of the queues and the canonical form of the trace buffer: of pending records one overflow, 32 reserved and
991 general entries at most, 64 of the supervisor's REC.PUT and 32 of each sheaf's; 32 requests of the host; 512 promotions; 4,096 bytes of
trace packets. -/
def Obligations.QueueInvariant : Prop :=
  ∀ s t : State, queueInv s.dev → step s = .next t → queueInv t.dev

/-! ### CAN (R333–R349) -/

/-- The CAN registers: EN from 0 to 1 switches the controller on with both error counters 0 where its timing is in range, else
it stays off with 0x5805; EN to 0 switches it off; timing and an enabled object's configuration are refused with 0x580E, an object that
may not be enabled or double with 0x5806; RECOVER takes its key and only in bus-off, and the end of a recovery clears the counters; a
receiver's error moves REC but in restricted mode. A command that its registers or its address do not call for does nothing.

Model's choices here: notes/assumptions/6.md, notes/assumptions/56.md, notes/assumptions/57.md. -/
def Obligations.CanControl : Prop :=
  ∀ (s : State) (can : CanId) (object : Fin 256) (v addr : Word) (kind : CanRxError),
    let d := s.dev
    let c := can.val
    let o := object.val
    let x := d.can c
    let ctrl := d.reg (Adr.canCtrl c)
    let enabled := (d.canCfg c o).getLsbD 0
    let fits := canTimingOk (d.reg (Adr.canNbt c)) (d.reg (Adr.canDbt c))
    let shows (code : Word) (post : Dev → Prop) (d' : Dev) : Prop := d'.reg (Adr.canCfgstat c) = code ∧ post d'
    let restricted := ctrl.getLsbD 1 = true ∨ d.pair.role = .standby
    let idReg := BitVec.ofNat 32 (Adr.canObjid c o)
    let cfgReg := BitVec.ofNat 32 (Adr.canObjcfg c o)
    (v.getLsbD 0 = true → ctrl.getLsbD 0 = false →
      (fits = true → Answers (.canCtrlEnable can v) s fun d' => d'.reg (Adr.canCtrl c) = v &&& 0x1F ∧ (d'.can c).tec = 0 ∧
        (d'.can c).recCnt = 0 ∧ (d'.can c).busOff = false ∧ (∀ k, k ≠ c → d'.can k = d.can k) ∧
        (let slow := 320 ≤ canNominal (d.reg (Adr.canNbt c))
         (d'.can c).triple = (v.getLsbD 3 && decide slow) ∧
           d'.reg (Adr.canCfgstat c) = if v.getLsbD 3 = true ∧ ¬slow then 0x5804 else 0)) ∧
      (fits = false → Answers (.canCtrlEnable can v) s (shows 0x5805 fun d' => d'.reg (Adr.canCtrl c) = v &&& 0x1E))) ∧
    (v.getLsbD 0 = false ∨ ctrl.getLsbD 0 = true → Ignored (.canCtrlEnable can v) s) ∧
    (v.getLsbD 0 = true ∨ ctrl.getLsbD 0 = false → Ignored (.canCtrlDisable can v) s) ∧
    (addr.toNat ≠ Adr.canNbt c → addr.toNat ≠ Adr.canDbt c → addr.toNat ≠ Adr.canTdc c → Ignored (.canTimingWrite can addr v) s) ∧
    (addr.toNat < Adr.canObjid c 0 ∨ Adr.canObjid c 0 + 0x800 ≤ addr.toNat → Ignored (.canObjectConfigWrite can addr v) s) ∧
    (d.canOn c = false ∨ x.busOff = true → Ignored (.canBusError can kind) s) ∧
    (v.getLsbD 0 = false → ctrl.getLsbD 0 = true → Answers (.canCtrlDisable can v) s fun d' =>
      d'.reg (Adr.canCtrl c) = v &&& 0x1F ∧ (d'.can c).tec = 0 ∧ (d'.can c).recCnt = 0 ∧ (d'.can c).busOff = false ∧ (d'.can c).recovering = false ∧
      ∀ k, k ≠ c → d'.can k = d.can k) ∧
    (∀ a r, a = Adr.canNbt c ∨ a = Adr.canDbt c ∨ a = Adr.canTdc c → rowOf a = some r →
      let i : Instr := .canTimingWrite can (BitVec.ofNat 32 a) v
      (ctrl.getLsbD 0 = true → Answers i s (shows 0x580E fun d' => d'.reg a = d.reg a)) ∧
      (ctrl.getLsbD 0 = false → Answers i s (shows 0 fun d' => d'.reg a = v &&& BitVec.ofNat 32 r.mask))) ∧
    (enabled = true → Answers (.canObjectConfigWrite can idReg v) s (shows 0x580E fun d' =>
      d'.reg (Adr.canObjid c o) = d.reg (Adr.canObjid c o))) ∧
    (enabled = false → Answers (.canObjectConfigWrite can idReg v) s (shows 0 fun d' =>
      d'.reg (Adr.canObjid c o) = v &&& 0x3FFFFFFF)) ∧
    (enabled = true → v.getLsbD 0 = true → Answers (.canObjectConfigWrite can cfgReg v) s (shows 0x580E fun d' =>
      d'.canCfg c o = d.canCfg c o)) ∧
    (enabled = true → v.getLsbD 0 = false → Answers (.canObjectConfigWrite can cfgReg v) s (shows 0 fun d' =>
      d'.canCfg c o = d.canCfg c o &&& 0xFFFFFFFE ∧ ((d'.can c).obj o).locked = false ∧ ((d'.can c).obj o).pending = false)) ∧
    (enabled = false → v.getLsbD 0 = true → d.canObjectOk c o (v &&& 0xFFFFFF07) = false →
      Answers (.canObjectConfigWrite can cfgReg v) s (shows 0x5806 fun d' => d'.canCfg c o = v &&& 0xFFFFFF06)) ∧
    (enabled = false → v.getLsbD 0 = true → d.canObjectOk c o (v &&& 0xFFFFFF07) = true →
      Answers (.canObjectConfigWrite can cfgReg v) s (shows 0 fun d' => d'.canCfg c o = v &&& 0xFFFFFF07)) ∧
    (enabled = false → v.getLsbD 0 = false → Answers (.canObjectConfigWrite can cfgReg v) s
      (shows (if v.getLsbD 2 = true ∧ d.canMayDouble c o = false then 0x5806 else 0) fun d' => d'.canCfg c o = v &&& 0xFFFFFF07)) ∧
    (v.getLsbD 0 = true → v.toNat / 2 ^ 24 = 0x7E → x.busOff = true → exec (.canCmdRecover can v) s =
      .next { s with dev := d.setCan c { x with recovering := true } }) ∧
    (v.getLsbD 0 = false ∨ (v.toNat / 2 ^ 24 = 0x7E ∧ x.busOff = false) → Ignored (.canCmdRecover can v) s) ∧
    (v.getLsbD 0 = true → v.toNat / 2 ^ 24 ≠ 0x7E → Records (.canCmdRecover can v) s 0x580F (0x400 + c) fun d' => d' = d) ∧
    (d.canOn c = true → x.busOff = true → x.recovering = true → Records (.canRecoveryEnd can) s 0x5802 (0x400 + c) fun d' =>
      d' = d.setCan c { x with busOff := false, recovering := false, tec := 0, recCnt := 0 }) ∧
    (d.canOn c = false ∨ x.busOff = false ∨ x.recovering = false → Ignored (.canRecoveryEnd can) s) ∧
    (d.canOn c = true → x.busOff = false → x.tec ≤ 255 →
      (¬restricted → kind ≠ .overloadFlag → Answers (.canBusError can kind) s fun d' => (d'.can c).tec = x.tec ∧
        (d'.can c).recCnt = min 255 (x.recCnt + (if kind = .detected then 1 else 8))) ∧
      (¬restricted → kind = .overloadFlag → x.tec + 8 ≤ 255 → Answers (.canBusError can kind) s fun d' =>
        (d'.can c).tec = x.tec + 8 ∧ (d'.can c).recCnt = min 255 x.recCnt) ∧
      (restricted → Answers (.canBusError can kind) s fun d' => d'.can c = x))

/-- The traffic: a frame for an enabled receive object is delivered with a VALID header and counted, waits in the shadow buffer
while the object is locked, where it replaces and counts as lost a frame that waits, and is counted as unmatched where no object takes
it; an FD frame without FDOE is an error frame; a lock ends after 16 frames; the receive timeout sets STALE; the request that wins
arbitration goes onto the bus; its end takes it off, and pending again, dropped at its retry limit or replaced by a request written
meanwhile where it failed; TEC moves but in restricted mode, above 255 into bus-off. Each does nothing before its condition.

Model's choices here: notes/assumptions/6.md, notes/assumptions/56.md, notes/assumptions/57.md. -/
def Obligations.CanTraffic : Prop :=
  ∀ (s : State) (can : CanId) (object : Fin 256) (f : CanFrame),
    let d := s.dev
    let c := can.val
    let o := object.val
    let x := d.can c
    let y := x.obj o
    let b := canSig c o
    let got : Instr := .canFrameReceived can f
    let room := if d.canDouble c o then 64 else 56
    let words := (min f.data.length room + 3) / 4
    let listens := d.canOn c = true ∧ x.busOff = false ∧ (f.fdf = true → (d.reg (Adr.canCtrl c)).getLsbD 4 = true)
    let takes := f.remote = false ∧ d.canMatch c f = some o
    let rxto := fld (d.canCfg c o) 16 16
    let idleBus := d.canOn c = true ∧ d.canRestricted c = false ∧ x.busOff = false ∧ ∀ p ∈ x.objs, p.2.onBus = false
    let sending := x.objs.find? (fun p => p.2.onBus) = some (o, y) ∧ y.next = none
    let tries := fld (d.canCfg c o) 8 8
    (listens → takes → f.data.length ≤ 64 → y.locked = false → d.region b = .can → (d.sig b).forced = false → Answers got s fun d' =>
      ((d'.can c).obj o).count = (y.count + 1) % 256 ∧ d'.reg (Adr.canRxcnt c) = satInc (d.reg (Adr.canRxcnt c)) ∧
      (d'.sig b).valid = true ∧ fld (d'.sigVal b) 16 5 = (1 + words) % 32 ∧ fld (d'.sigVal b) 8 1 = f.fdf.toNat) ∧
    (listens → takes → y.locked = true → y.shadow = none → Answers got s fun d' =>
      ((d'.can c).obj o).shadow = some { frame := f, sofFrame := d.sys.frame - BitVec.ofNat 32 f.sofAge } ∧
        ((d'.can c).obj o).locked = true ∧ d'.sigs = d.sigs) ∧
    (listens → takes → y.locked = true → y.shadow ≠ none → Answers got s fun d' =>
      ((d'.can c).obj o).shadow = some { frame := f, sofFrame := d.sys.frame - BitVec.ofNat 32 f.sofAge } ∧
        ((d'.can c).obj o).shadowLost = true ∧ d'.reg (Adr.canLostcnt c) = satInc (d.reg (Adr.canLostcnt c)) ∧ d'.sigs = d.sigs) ∧
    (d.canOn c = true → x.busOff = false → f.fdf = true → (d.reg (Adr.canCtrl c)).getLsbD 4 = false → x.tec ≤ 255 →
      Answers got s fun d' => d'.reg (Adr.canErrfrm c) = satInc (d.reg (Adr.canErrfrm c)) ∧ d'.sigs = d.sigs ∧
        (d'.can c).recCnt = (if d.canRestricted c then x.recCnt else min 255 (x.recCnt + 1))) ∧
    (listens → f.remote = true ∨ d.canMatch c f = none → Answers got s fun d' =>
      d'.reg (Adr.canRxunm c) = satInc (d.reg (Adr.canRxunm c)) ∧ d'.sigs = d.sigs) ∧
    (d.canOn c = false ∨ x.busOff = true → Ignored got s) ∧
    (y.locked = true → 16 ≤ (d.sys.frame - y.lockFrame).toNat → Answers (.canLockTimeout can object) s fun d' =>
      ((d'.can c).obj o).locked = false ∧ ((d'.can c).obj o).shadow = none ∧ (d'.reg (Adr.canFlags c)).getLsbD 5 = true) ∧
    (y.locked = false ∨ (d.sys.frame - y.lockFrame).toNat < 16 → Ignored (.canLockTimeout can object) s) ∧
    (d.canOn c = true → d.canReceives c o = true → 0 < rxto → y.lastRx + rxto ≤ d.now → y.rxTimedOut = false → d.region b = .can →
      Answers (.canRxTimeout can object) s fun d' => ((d'.can c).obj o).rxTimedOut = true ∧ (d'.sig b).q.getLsbD 1 = true ∧
        d'.sigVal b = d.sigVal b ∧ (d'.reg (Adr.canFlags c)).getLsbD 6 = true) ∧
    (d.canOn c = false ∨ d.canReceives c o = false ∨ rxto = 0 ∨ d.now < y.lastRx + rxto ∨ y.rxTimedOut = true → Ignored (.canRxTimeout can object) s) ∧
    (¬idleBus → Ignored (.canTransmitAttempt can) s) ∧
    (idleBus → (∀ p ∈ x.objs, p.2.pending = false) → Ignored (.canTransmitAttempt can) s) ∧
    (idleBus → (d.canExpire c).canNext c = some o → Answers (.canTransmitAttempt can) s fun d' =>
      ((d'.can c).obj o).onBus = true ∧ ((d'.can c).obj o).pending = false ∧ (d'.can c).kept = none ∧
      ((d'.can c).obj o).attempts = (((d.canExpire c).can c).obj o).attempts + 1) ∧
    ((∀ p ∈ x.objs, p.2.onBus = false) → ∀ r, Ignored (.canAttemptEnd can r) s) ∧
    (sending → Answers (.canAttemptEnd can .sent) s fun d' =>
      ((d'.can c).obj o).onBus = false ∧ ((d'.can c).obj o).pending = false ∧ 
      (d'.can c).tec = (if d.canRestricted c then x.tec else x.tec - 1) ∧
      d'.reg (Adr.canTxcnt c) = satInc (d.reg (Adr.canTxcnt c))) ∧
    (sending → tries = 0 ∨ y.attempts ≤ tries →
      (Answers (.canAttemptEnd can .lostArbitration) s fun d' =>
        ((d'.can c).obj o).onBus = false ∧ ((d'.can c).obj o).pending = true ∧ (d'.can c).tec = x.tec) ∧
      (d.canRestricted c = true ∨ x.tec + 8 ≤ 255 → Answers (.canAttemptEnd can .error) s fun d' =>
        ((d'.can c).obj o).onBus = false ∧ ((d'.can c).obj o).pending = true ∧
        (d'.can c).tec = (if d.canRestricted c then x.tec else x.tec + 8)) ∧
      (∀ more, d.canRestricted c = true ∨ x.tec + 8 * (1 + more) ≤ 255 → Answers (.canAttemptEnd can (.errorMore more)) s fun d' =>
        ((d'.can c).obj o).onBus = false ∧ ((d'.can c).obj o).pending = true ∧
        (d'.can c).tec = (if d.canRestricted c then x.tec else x.tec + 8 * (1 + more))) ∧
      (Answers (.canAttemptEnd can .stuffArbitration) s fun d' =>
        ((d'.can c).obj o).onBus = false ∧ ((d'.can c).obj o).pending = true ∧ (d'.can c).tec = x.tec) ∧
      (d.canRestricted c = true ∨ 128 ≤ x.tec ∨ 128 ≤ x.recCnt → Answers (.canAttemptEnd can .ackPassive) s fun d' =>
        ((d'.can c).obj o).onBus = false ∧ ((d'.can c).obj o).pending = true ∧ (d'.can c).tec = x.tec) ∧
      (d.canRestricted c = false → x.tec < 128 → x.recCnt < 128 → Answers (.canAttemptEnd can .ackPassive) s fun d' =>
        ((d'.can c).obj o).onBus = false ∧ ((d'.can c).obj o).pending = true ∧ (d'.can c).tec = x.tec + 8)) ∧
    (sending → d.canRestricted c = false → 255 < x.tec + 8 → Answers (.canAttemptEnd can .error) s fun d' =>
      (d'.can c).busOff = true ∧ (d'.can c).tec = 256 ∧ d'.reg (Adr.canBoffcnt c) = satInc (d.reg (Adr.canBoffcnt c))) ∧
    (∀ h data asked, x.objs.find? (fun p => p.2.onBus) = some (o, y) → y.next = some (h, data, asked) → ∀ r, r = .sent ∨ r = .lostArbitration →
      Answers (.canAttemptEnd can r) s fun d' => let z := (d'.can c).obj o
        z.onBus = false ∧ z.pending = true ∧ z.header = h ∧ z.data = data ∧ z.attempts = 0 ∧ z.reqOp = asked) ∧
    (sending → tries ≠ 0 → tries < y.attempts → Answers (.canAttemptEnd can .lostArbitration) s fun d' =>
      ((d'.can c).obj o).onBus = false ∧ ((d'.can c).obj o).pending = false ∧ (d'.reg (Adr.canFlags c)).getLsbD 4 = true)

/-! ### Event recorder (R350–R370) -/

/-- The engine commits the oldest pending record under the next sequence number, with a checkpoint in the next of the 64 slots every
1,024 records or 1 MiB, and lifetime blocks by turns; a repeat word of the
Chaff ring that is due is rewritten while its window is open, and a stored window ends after 1,000 ms; anchors, the clear key and the
clear are accepted or refused in REC_CMDSTAT by the first check that fails, the third wrong token in a row begins the lockout, and that ends after 10 minutes. An engine that does
not run, or has nothing to write, does nothing.

Model's choices here: notes/assumptions/6.md, notes/assumptions/58.md, notes/assumptions/59.md. -/
def Obligations.Recorder : Prop :=
  ∀ (s : State) (q : VReq) (v : Word) (random : BitVec 128),
    let d := s.dev
    let r := d.recorder
    let runs := d.recorderRuns = true
    let stat (code : Word) (d' : Dev) : Prop := d'.reg Adr.recCmdstat = code
    let requested (vtype : Nat) := fronts s q ∧ d.vhpAccept q.vtype q.payload = 0 ∧ q.vtype = vtype
    let challenge := BitVec.ofNat 128 (leAt q.payload 0 16)
    let token := (q.payload.drop 16).take 32
    let clears (code : Nat) (post : Dev → Prop) : Prop := Serves .recClear s q code [] fun d' =>
      d'.recorder.challenge = none ∧ stat (BitVec.ofNat 32 code) d' ∧ post d'
    let kept (d' : Dev) : Prop := d'.recorder.chaff.length = r.chaff.length ∧ d'.recorder.clears = r.clears
    let refused (code : Nat) : Prop := clears code fun d' => kept d' ∧ d'.recorder.tokenRefusals = 0 ∧ d'.recorder.lockedAt = r.lockedAt
    let takes := r.seedOpen = true ∧ r.seedUsed + 56 ≤ 2 ^ 24 ∧ r.seed.length < 131072
    let key := v.toNat % 256
    let soon := ∃ t, r.lastAnchor = some t ∧ d.now < t + 1000
    (∀ p rest, runs → r.pendq = p :: rest → r.lifeTurn = false ∨ r.lifeQueue = [] → Answers .recordCommit s fun d' =>
      d'.recorder.pendq = rest ∧ d'.recorder.nextSeq = r.nextSeq + 1 ∧ d'.recorder.lifeTurn = !r.lifeQueue.isEmpty ∧
      (∃ x ∈ d'.recorder.seed ++ d'.recorder.chaff, x.seq = r.nextSeq ∧ x.code = p.record.code ∧ x.payload = p.record.payload) ∧
      let z := d'.recorder
      let slot := (r.cpAt + 1) % 64
      if 1024 ≤ r.sinceCp + 1 ∨ 2 ^ 20 ≤ r.bytesCp + p.record.size then
        z.cpAt = slot ∧ z.sinceCp = 0 ∧ z.bytesCp = 0 ∧ (∀ k, k ≠ slot → smGet {} z.slots k = smGet {} r.slots k) ∧
        smGet {} z.slots slot = { ok := true, wroteAt := some d.now, seedPos := z.seedUsed, wpos := z.wpos, oldest := z.oldest,
                                  nextSeq := z.nextSeq, lost := r.lost, seedOpen := z.seedOpen }
      else z.cpAt = r.cpAt ∧ z.slots = r.slots ∧ z.sinceCp = r.sinceCp + 1 ∧ z.bytesCp = r.bytesCp + p.record.size) ∧
    (¬runs ∨ r.pendq = [] ∨ (r.lifeTurn = true ∧ r.lifeQueue ≠ []) → Ignored .recordCommit s) ∧
    (∀ a rest, runs → r.lifeQueue = a :: rest → r.lifeTurn = true ∨ r.pendq = [] → Answers .lifetimeBlockCommit s fun d' =>
      let x := d.axis a
      let y := d'.axis a
      d'.recorder.lifeQueue = rest ∧ d'.recorder.lifeTurn = false ∧ y.stored.spoilt = none ∧ y.stored.generation = x.stored.generation + 1 ∧
      y.stored.copy = 1 - x.stored.copy ∧ y.older = some x.stored ∧ y.live = y.stored ∧ ∀ n, n ≠ a → d'.axis n = d.axis n) ∧
    (¬runs ∨ r.lifeQueue = [] ∨ (r.lifeTurn = false ∧ r.pendq ≠ []) → Ignored .lifetimeBlockCommit s) ∧
    (¬runs ∨ (∀ z ∈ r.chaff ++ r.seed, z.rewriteDue d.now = false) → Ignored .repeatWordRewrite s) ∧
    (r.lockedAt = none → Ignored .clearLockoutEnd s) ∧
    (∀ before x after, runs → r.chaff = before ++ x :: after → (∀ z ∈ before, z.rewriteDue d.now = false) → x.rewriteDue d.now = true →
      exec .repeatWordRewrite s = .next { s with dev := { d with recorder := { r with
        chaff := before ++ { x with repStored := x.rep, rewrittenAt := some d.now, cutWord := none } :: after } } }) ∧
    (Answers .repeatWindowEnd s fun d' => ∀ x ∈ d'.recorder.seed ++ d'.recorder.chaff, x.flags % 2 = 1 → x.time + 1000 ≤ d.now →
      x.windowEnded = true) ∧
    (key ≠ 0xE1 → Answers (.recAnccmd v) s fun d' => stat 0x600E d' ∧ d'.recorder = r) ∧
    (key = 0xE1 → soon → Answers (.recAnccmd v) s fun d' => stat 0x600A d' ∧ d'.recorder = r) ∧
    (key = 0xE1 → ¬soon → Answers (.recAnccmd v) s fun d' => stat 0 d' ∧ d'.recorder.lastAnchor = some d.now) ∧
    (key ≠ 0x4B → Answers (.recKeycmd v) s fun d' => stat 0x600E d' ∧ d'.recorder = r) ∧
    (key = 0x4B → d.sys.power ≠ .idle ∨ r.keySealed ≠ none → Answers (.recKeycmd v) s fun d' => stat 0x600D d' ∧ d'.recorder = r) ∧
    (key = 0x4B → d.sys.power = .idle → r.keySealed = none → Answers (.recKeycmd v) s fun d' =>
      stat 0 d' ∧ d'.recorder = { r with keySealed := some r.keyBytes }) ∧
    (∀ t, r.lockedAt = some t →
      (t + 600000 ≤ d.now → exec .clearLockoutEnd s =
        .next { s with dev := { d with recorder := { r with lockedAt := none, tokenRefusals := 0 } } }) ∧
      (d.now < t + 600000 → Ignored .clearLockoutEnd s)) ∧
    (requested 0x21 → Serves (.recChal random) s q 0 (leBytes 16 random.toNat) fun d' =>
      d' = { d with recorder := { r with challenge := some (random, d.now, r.nextSeq) } }) ∧
    (requested 0x22 →
      (d.sys.power ≠ .idle → refused 0x6007) ∧ (d.sys.power = .idle → r.keySealed = none → refused 0x6008) ∧
      (∀ k, d.sys.power = .idle → r.keySealed = some k →
        (r.lockedAt ≠ none → refused 0x600B) ∧
        (r.lockedAt = none → r.challenge = none → refused 0x6006) ∧
        (∀ given issued seq, r.lockedAt = none → r.challenge = some (given, issued, seq) →
          (given ≠ challenge ∨ issued + 60000 ≤ d.now → refused 0x6006) ∧
          (given = challenge → d.now < issued + 60000 → token ≠ clearToken k challenge seq → clears 0x6005 fun d' => kept d' ∧
            d'.recorder.tokenRefusals = r.tokenRefusals + 1 ∧
            d'.recorder.lockedAt = if 3 ≤ r.tokenRefusals + 1 then some d.now else none) ∧
          (given = challenge → d.now < issued + 60000 → token = clearToken k challenge seq → 65536 ≤ r.clearLog.length → refused 0x600C) ∧
          (given = challenge → d.now < issued + 60000 → token = clearToken k challenge seq → r.clearLog.length < 65536 →
            clears 0 fun d' => d'.recorder.clears = satInc r.clears ∧ d'.recorder.nextSeq = r.nextSeq + 1 ∧
              d'.recorder.clearLog = r.clearLog ++ [{ complete := true, first := r.oldest, last := r.newest, time := d.now,
                                                       pcyc := d.sys.pwrCyc, challenge := challenge }] ∧
              d'.recorder.sinceCp = 1 ∧ ∃ x, x.code = 0x6009 ∧ x.seq = r.nextSeq ∧
                (takes → d'.recorder.chaff = [] ∧ d'.recorder.seed.getLast? = some x) ∧ (¬takes → d'.recorder.chaff = [x] ∧ x.offset = 0)))))

/-! ### Image update (R371–R382) -/

/-- The update commands by the first condition that fails, the erase, the blocks that program the OPEN slot, the confirmation that
makes the running image CURRENT and raises the floor, the operating minute and the end of a trial; after each change the state record
in force holds the states of the slots, the boots and minutes left and the floor, and one that a loss of power cuts off leaves the record
before it in force. A command of another operation, or
outside IDLE and RUN, and an event that its state does not call for do nothing.

Model's choices here: notes/assumptions/6.md, notes/assumptions/45.md, notes/assumptions/46.md. -/
def Obligations.ImageUpdate : Prop :=
  ∀ (s : State) (q : VReq) (v : Word) (ok : Bool),
    let d := s.dev
    let u := d.upd
    let key := v.toNat / 2 ^ 24 = 0xD2
    let slotSt (k : Nat) (d' : Dev) : SlotState := (d'.upd.slot k).st
    let stat (code : Word) (post : Dev → Prop) (d' : Dev) : Prop := d'.reg Adr.updCmdstat = code ∧ post d'
    let keeps (d' : Dev) : Prop := d'.upd.slot0 = u.slot0 ∧ d'.upd.slot1 = u.slot1
    let busy := u.withState .erasing ≠ none ∨ u.confirming = true
    let k := u.inactive
    let run := b2n u.runSlot
    (∀ now j, u.inForce ∈ u.used → u.inForce.ok = true → (((u.sector0 ++ u.sector1).filter (·.ok)).map (·.gen)).Nodup →
      u.inForce.same u.content = false →
      ((u.record now).cutOff now j).inForce = if Config.stateCut j then u.inForce else (u.record now).inForce) ∧
    (∀ f, let e := (d.modUpd f).upd
      e.inForce.same e.content = true ∧ e.slot0 = (f u).slot0 ∧ e.slot1 = (f u).slot1 ∧ e.secFloor = (f u).secFloor) ∧
    (d.operating = true → v.toNat % 4 = 1 →
      (¬key → Answers (.updCmdBegin v) s (stat 0x7001 keeps)) ∧
      (key → u.withState .trial ≠ none → Answers (.updCmdBegin v) s (stat 0x7003 keeps)) ∧
      (key → u.withState .trial = none → busy → Answers (.updCmdBegin v) s (stat 0x7006 keeps)) ∧
      (key → u.withState .trial = none → ¬busy → Answers (.updCmdBegin v) s (stat 0 fun d' =>
        slotSt k d' = .erasing ∧ (d'.upd.slot k).erases = satInc (u.slot k).erases ∧ (d'.upd.slot k).written = [] ∧
        d'.upd.slot (1 - k) = u.slot (1 - k)))) ∧
    (d.operating = true → v.toNat % 4 = 2 →
      (¬key → Answers (.updCmdFinish v) s (stat 0x7001 keeps)) ∧
      (key → u.withState .open_ = none → Answers (.updCmdFinish v) s (stat 0x7004 keeps)) ∧
      (∀ j, key → u.withState .open_ = some j →
        ((u.slot j).header = none → Answers (.updCmdFinish v) s (stat 0x7007 keeps)) ∧
        (∀ h, (u.slot j).header = some h →
          let missing := ((u.slot j).written.filter fun p => decide (p.1 < h.length)).length < h.length
          (missing → Answers (.updCmdFinish v) s (stat 0x7008 keeps)) ∧
          (¬missing → Answers (.updCmdFinish v) s (stat 0 fun d' => slotSt j d' = .loaded))))) ∧
    (d.operating = false ∨ v.toNat % 4 ≠ 1 → Ignored (.updCmdBegin v) s) ∧ (d.operating = false ∨ v.toNat % 4 ≠ 2 → Ignored (.updCmdFinish v) s) ∧
    (d.operating = false ∨ v.toNat % 4 ≠ 3 → Ignored (.updCmdAbort v) s) ∧
    (d.operating = true → v.toNat % 4 = 3 → ¬key → Answers (.updCmdAbort v) s (stat 0x7001 keeps)) ∧
    (d.operating = true → v.toNat % 4 = 3 → key →
      (slotSt k d = .open_ ∨ slotSt k d = .loaded → Answers (.updCmdAbort v) s (stat 0 fun d' => slotSt k d' = .rejected)) ∧
      (slotSt k d ≠ .open_ → slotSt k d ≠ .loaded → Answers (.updCmdAbort v) s (stat 0x7004 keeps))) ∧
    (∀ j, u.withState .erasing = some j → Answers (.eraseComplete ok) s fun d' =>
      slotSt j d' = (if ok then .open_ else .rejected) ∧ (d'.upd.slot j).written = (u.slot j).written) ∧
    (u.withState .erasing = none → Ignored (.eraseComplete ok) s) ∧
    (fronts s q → d.vhpAccept q.vtype q.payload = 0 → q.vtype = 0x10 →
      let at' := leAt q.payload 0 4
      let data := q.payload.drop 8
      (u.withState .open_ = none → Serves (.updBlock ok) s q (if u.withState .erasing = none then 0x7004 else 0x7006) [] keeps) ∧
      (∀ j, u.withState .open_ = some j →
        let x := u.slot j
        let clash := ∃ i, ∃ h : i < data.length, smHas x.written (at' + i) = true ∧ memRead x.bytes (at' + i) ≠ data[i]
        let fresh := ∃ i, i < data.length ∧ smHas x.written (at' + i) = false
        (clash → Serves (.updBlock ok) s q 0x7005 [] keeps) ∧
        (¬clash → fresh → ok = false → Serves (.updBlock ok) s q 0x7009 [] fun d' => slotSt j d' = .rejected) ∧
        (¬clash → ok = true ∨ ¬fresh → Serves (.updBlock ok) s q 0 [] fun d' =>
          (∀ i, ∀ h : i < data.length, (d'.upd.slot j).byte (at' + i) = data[i]) ∧
          ∀ a, a < at' ∨ at' + data.length ≤ a → (d'.upd.slot j).byte a = x.byte a))) ∧
    (u.confirming = true → ok = true → Answers (.confirmComplete ok) s fun d' =>
      slotSt run d' = .current ∧ slotSt (1 - run) d' = .previous ∧ d'.upd.onTrial = false ∧ d'.upd.confirming = false ∧
      d'.upd.secFloor.toNat = max u.secFloor.toNat u.runSecver.toNat) ∧
    (u.confirming = true → ok = false → Answers (.confirmComplete ok) s fun d' =>
      keeps d' ∧ d'.upd.onTrial = u.onTrial ∧ d'.upd.confirming = false ∧ d'.upd.secFloor = u.secFloor) ∧
    (u.confirming = false → Ignored (.confirmComplete ok) s) ∧
    (d.sys.minutes < d.now / 60000 → Answers .operatingMinute s fun d' =>
      d'.sys.minutes = d.sys.minutes + 1 ∧ d'.island.testAge = satInc d.island.testAge ∧
      d'.upd.trialMinutes = (if u.unconfirmed then u.trialMinutes - 1 else u.trialMinutes) ∧
      d'.pair.actAge = (if d.pair.role = .active then 0 else satInc d.pair.actAge)) ∧
    (d.now / 60000 ≤ d.sys.minutes → Ignored .operatingMinute s) ∧
    (u.unconfirmed = true → u.trialMinutes = 0 → u.confirming = false → Answers .trialExpiry s fun d' =>
      slotSt run d' = .rejected ∧ d'.upd.expired = true ∧ d'.image = d.image) ∧
    (u.unconfirmed = false ∨ u.trialMinutes ≠ 0 ∨ u.confirming = true → Ignored .trialExpiry s)

/-! ### ROAST and trace (R383–R396) -/

/-- The end of ROAST shows its result and goes to KEEP, and on into a start where a WAKE edge waited: every test passed clears the hold
on RUN and the safety test's age, a failed one sets the hold; an abort shows its code and, in the map, no test from the one in progress
on, and leaves the hold; outside ROAST, and in a
reset, neither does anything. TRC_CMD freezes and resumes the buffer and clears the counters by its bits, RESUME after FREEZE.

Model's choices here: notes/assumptions/6.md, notes/assumptions/64.md. -/
def Obligations.RoastAndTrace : Prop :=
  ∀ (s : State) (map : BitVec 12) (safety pll : Bool) (test : BitVec 4) (ms : BitVec 16) (v : Word),
    let d := s.dev
    let y := d.sys
    let tests := y.power = .roast ∧ y.reset = none ∧ y.wake = none
    let ended (d' : Dev) : Prop := d'.sys.power = .keep ∧ 
      d'.sys.opTime = BitVec.ofNat 48 (max y.opTime.toNat (y.roastAt + ms.toNat)) ∧
      d'.reg Adr.pwrRoastdur = BitVec.ofNat 32 ms.toNat ∧ d'.recorder.pendq = [] ∧ d'.field.powered = false ∧ d'.host.queue = []
    let failed := ∃ t, 1 ≤ t ∧ t < 12 ∧ map.getLsbD t = true
    let trace (t : Trace) : State := { s with dev := { d with trace := t } }
    (tests → ¬failed → Answers (.roastEnd map safety ms) s fun d' => ended d' ∧ d'.sys.runHold = false ∧ d'.sys.noRoast = false ∧
      d'.island.testAge = 0 ∧ d'.island.testDue = false ∧ d'.island.testTold = false ∧ d'.reg Adr.pwrRoastres = 1) ∧
    (tests → failed → Answers (.roastEnd map safety ms) s fun d' => ended d' ∧ d'.sys.runHold = true ∧
      d'.reg Adr.pwrRoastres = 0x78100002 ∧ (∀ t, 1 ≤ t → t < 12 → (d'.reg Adr.pwrRoastmap).getLsbD t = map.getLsbD t) ∧
      (map.getLsbD 4 = true → d'.sys.roastIsland = true)) ∧
    (tests → Answers (.roastAbort pll test ms) s fun d' => ended d' ∧ d'.sys.runHold = y.runHold ∧ d'.sys.roastAborted = true ∧
      (∀ t, (d'.reg Adr.pwrRoastmap).getLsbD t = (decide (1 ≤ t ∧ t < test.toNat) && (Config.roastFails y.free).getLsbD t)) ∧
      (d'.reg Adr.pwrRoastres).toNat = 3 + test.toNat * 2 ^ 8 + (if pll then 0x7802 else 0x7801) * 2 ^ 16) ∧
    (∀ ok, y.power = .roast → y.reset = none → y.wake = some ok →
      ∀ i : Instr, i = .roastEnd map safety ms ∨ i = .roastAbort pll test ms → Answers i s fun d' =>
        d'.sys.power = .keep ∧ d'.sys.starting = some .wake) ∧
    (y.power ≠ .roast ∨ y.reset ≠ none → Ignored (.roastEnd map safety ms) s ∧ Ignored (.roastAbort pll test ms) s) ∧
    (∀ k, ∀ i : Instr, (k = 0 ∧ i = .trcCmdFreeze v) ∨ (k = 1 ∧ i = .trcCmdResume v) ∨ (k = 2 ∧ i = .trcCmdCntclr v) →
      (v.getLsbD k = true → exec i s = .next (trace { d.trace with
        frozen := if v.getLsbD 1 then false else v.getLsbD 0 || d.trace.frozen
        counters := if v.getLsbD 2 then [] else d.trace.counters })) ∧
      (v.getLsbD k = false → Ignored i s))

/-! ### Reset (R9, R14, R20) -/

/-- The module right after reset: no command waits, every register holds its table's reset value, the system status shows IDLE and
the division 1, every signal but those of the system status reads 0 with quality 0, the frame count is 0, no core, axis, port, queue or
controller has any content, and the invariant of the power states holds. IDLE with no running image is the model's choice
(notes/assumptions/1.md).

Model's choices here: notes/assumptions/3.md, notes/assumptions/39.md. -/
def Obligations.ResetState : Prop :=
  let d := State.reset.dev
  State.reset.pending = [] ∧ (∀ a, d.reg a = regReset a) ∧ (∀ n, n < 0x87000 ∨ 0x87008 < n → d.sig n = {}) ∧
  d.sigVal 0x87000 = 2 ∧ d.sigVal 0x87008 = 1 ∧ d.sys.frame = 0 ∧ d.sys.div = 1 ∧
  d.sys.power = .idle ∧ d.image = none ∧ (∀ c t, d.task c t = {}) ∧ (∀ n, d.axis n = {}) ∧ (∀ p, (d.port p).st = .down) ∧
  (∀ q, d.queue q = {}) ∧ (∀ c, (d.can c).objs = []) ∧ d.pair.role = .unpaired ∧ d.recorder.pendq = [] ∧ d.host.queue = [] ∧
  (∀ l, (d.island.loop l).on = false) ∧ (∀ h, (d.field.chan h).on = false) ∧ powerInv d
end

