-- ==== Sys2Proof/Laws/Bytes.lean ====
section
/-! SUPPORT. Little-endian fields of byte lists: what was written as the last four bytes reads back. -/

namespace Sys2Proof.Machine

@[simp] theorem length_leBytes (n v : Nat) : (leBytes n v).length = n := by simp [leBytes]

theorem leNat_leBytes_four (n : Nat) (h : n < 2 ^ 32) : leNat (leBytes 4 n) = n := by
  simp [leBytes, leNat, List.range, List.range.loop, Nat.shiftRight_eq_div_pow]
  omega

theorem leAt_append_leBytes (b : List Byte) (w : Word) : leAt (b ++ leBytes 4 w.toNat) b.length 4 = w.toNat := by
  have h : ((List.range 4).map fun i => (b ++ leBytes 4 w.toNat).getD (b.length + i) 0) = leBytes 4 w.toNat := by
    simp [leBytes, List.range, List.range.loop]
  rw [leAt, h]
  exact leNat_leBytes_four _ w.isLt

end Sys2Proof.Machine
end

