-- ==== Sys2Proof/Laws/Map.lean ====
section
/-! SUPPORT. Laws of the sparse tables and of addressed memory: read after write, other places untouched, and the canonical form
kept by every operation. -/

namespace Sys2Proof.Machine

variable {α : Type}

/-! ### Reading and writing a table -/

theorem smGet_smPut_self (dflt : α) (m : SMap α) (n : Nat) (v : α) : smGet dflt (smPut m n v) n = v := by
  induction m with
  | nil => simp [smPut, smGet]
  | cons p m ih =>
    simp only [smPut]
    split_ifs with h1 h2
    · simp [smGet]
    · simp [smGet]
    · simp [smGet, h2, ih]

theorem smGet_smPut_other (dflt : α) (m : SMap α) (n k : Nat) (v : α) (h : k ≠ n) :
    smGet dflt (smPut m n v) k = smGet dflt m k := by
  induction m with
  | nil => simp [smPut, smGet, h]
  | cons p m ih =>
    simp only [smPut]
    split_ifs with h1 h2
    · simp [smGet, h]
    · subst h2; simp [smGet, h]
    · simp [smGet, ih]

theorem smGet_smDel_other (dflt : α) (m : SMap α) (n k : Nat) (h : k ≠ n) :
    smGet dflt (smDel m n) k = smGet dflt m k := by
  induction m with
  | nil => rfl
  | cons p m ih =>
    simp only [smDel]
    split_ifs with h2
    · subst h2; simp [smGet, h, ih]
    · simp [smGet, ih]

theorem smGet_smDel_self (dflt : α) (m : SMap α) (n : Nat) : smGet dflt (smDel m n) n = dflt := by
  induction m with
  | nil => rfl
  | cons p m ih =>
    simp only [smDel]
    split_ifs with h2
    · exact ih
    · simp [smGet, h2, ih]

theorem smHas_smPut (m : SMap α) (n k : Nat) (v : α) : smHas (smPut m n v) k = (k == n || smHas m k) := by
  induction m with
  | nil => simp [smPut, smHas]
  | cons p m ih =>
    simp only [smPut]
    split_ifs with h1 h2
    · simp [smHas]
    · subst h2; simp [smHas]
    · simp only [smHas, ih]
      cases (k == p.1) <;> cases (k == n) <;> rfl

theorem smHas_smDel (m : SMap α) (n k : Nat) : smHas (smDel m n) k = (k != n && smHas m k) := by
  induction m with
  | nil => simp [smDel, smHas]
  | cons p m ih =>
    simp only [smDel]
    have hp (h : k ≠ n) : (k != n) = true := bne_iff_ne.2 h
    split_ifs with h2
    · subst h2
      by_cases hk : k = p.1
      · rw [ih]; simp [hk]
      · simp only [smHas, ih, beq_eq_false_iff_ne.2 hk, Bool.false_or]
    · by_cases hk : k = n
      · simp only [smHas, ih]; simp [hk, h2]
      · simp [smHas, ih, hp hk]

/-! ### Rising tables -/

/-- Every number of a table lies above a bound. -/
def smAbove (b : Nat) (m : SMap α) : Prop := ∀ p ∈ m, b < p.1

theorem smRising_cons (p : Nat × α) (m : SMap α) : smRising (p :: m) = true ↔ smAbove p.1 m ∧ smRising m = true := by
  induction m generalizing p with
  | nil => simp [smRising, smAbove]
  | cons q m ih =>
    simp only [smRising, Bool.and_eq_true, decide_eq_true_eq]
    constructor
    · rintro ⟨h, hr⟩
      refine ⟨fun x hx => ?_, hr⟩
      rcases List.mem_cons.1 hx with rfl | hx
      · exact h
      · exact lt_trans h (((ih q).1 hr).1 x hx)
    · rintro ⟨ha, hr⟩
      exact ⟨ha q (by simp), hr⟩

theorem smGet_above (dflt : α) (b : Nat) (m : SMap α) (h : smAbove b m) : smGet dflt m b = dflt := by
  induction m with
  | nil => rfl
  | cons p m ih =>
    have hp := h p (by simp)
    have : b ≠ p.1 := by omega
    simp [smGet, this, ih fun x hx => h x (by simp [hx])]

theorem smAbove_smPut {b n : Nat} {v : α} {m : SMap α} (hm : smAbove b m) (hn : b < n) : smAbove b (smPut m n v) := by
  induction m with
  | nil => simp [smPut, smAbove, hn]
  | cons p m ih =>
    have hm' : smAbove b m := fun x hx => hm x (by simp [hx])
    simp only [smPut]
    split_ifs with h1 h2
    · intro x hx; rcases List.mem_cons.1 hx with rfl | hx; exacts [hn, hm x hx]
    · intro x hx; rcases List.mem_cons.1 hx with rfl | hx; exacts [hn, hm' x hx]
    · intro x hx; rcases List.mem_cons.1 hx with rfl | hx; exacts [hm _ (by simp), ih hm' x hx]

theorem smRising_smPut (m : SMap α) (n : Nat) (v : α) (h : smRising m = true) : smRising (smPut m n v) = true := by
  induction m with
  | nil => rfl
  | cons p m ih =>
    obtain ⟨ha, hr⟩ := (smRising_cons p m).1 h
    simp only [smPut]
    split_ifs with h1 h2
    · refine (smRising_cons _ _).2 ⟨fun x hx => ?_, h⟩
      rcases List.mem_cons.1 hx with rfl | hx
      exacts [h1, lt_trans h1 (ha x hx)]
    · subst h2; exact (smRising_cons _ _).2 ⟨ha, hr⟩
    · exact (smRising_cons _ _).2 ⟨smAbove_smPut ha (by omega), ih hr⟩

theorem mem_of_mem_smDel {m : SMap α} {n : Nat} {x : Nat × α} (h : x ∈ smDel m n) : x ∈ m := by
  induction m with
  | nil => exact h
  | cons p m ih =>
    simp only [smDel] at h
    split_ifs at h
    · exact List.mem_cons_of_mem _ (ih h)
    · rcases List.mem_cons.1 h with rfl | h
      · simp
      · exact List.mem_cons_of_mem _ (ih h)

theorem smRising_smDel (m : SMap α) (n : Nat) (h : smRising m = true) : smRising (smDel m n) = true := by
  induction m with
  | nil => rfl
  | cons p m ih =>
    obtain ⟨ha, hr⟩ := (smRising_cons p m).1 h
    simp only [smDel]
    split_ifs
    · exact ih hr
    · exact (smRising_cons _ _).2 ⟨fun x hx => ha x (mem_of_mem_smDel hx), ih hr⟩

theorem smRising_smSet [DecidableEq α] (dflt : α) (m : SMap α) (n : Nat) (v : α) (h : smRising m = true) :
    smRising (smSet dflt m n v) = true := by
  unfold smSet; split_ifs
  · exact smRising_smDel m n h
  · exact smRising_smPut m n v h

theorem smGet_smSet_other [DecidableEq α] (dflt : α) (m : SMap α) (n k : Nat) (v : α) (h : k ≠ n) :
    smGet dflt (smSet dflt m n v) k = smGet dflt m k := by
  unfold smSet; split_ifs
  · exact smGet_smDel_other dflt m n k h
  · exact smGet_smPut_other dflt m n k v h

theorem smGet_smSet_self [DecidableEq α] (dflt : α) (m : SMap α) (n : Nat) (v : α) :
    smGet dflt (smSet dflt m n v) n = v := by
  unfold smSet; split_ifs with hv
  · rw [smGet_smDel_self dflt m n, hv]
  · exact smGet_smPut_self dflt m n v

/-! ### Addressed bytes -/

theorem memRead_memWrite_self (m : List Host.Cell) (a : Nat) (b : Byte) : memRead (memWrite m a b) a = b :=
  smGet_smSet_self 0 m a b

theorem memRead_memWrite_other (m : List Host.Cell) (a k : Nat) (b : Byte) (h : k ≠ a) :
    memRead (memWrite m a b) k = memRead m k := smGet_smSet_other 0 m a k b h

theorem mem_smPut {m : SMap α} {n : Nat} {v : α} {x : Nat × α} (h : x ∈ smPut m n v) : x = (n, v) ∨ x ∈ m := by
  induction m with
  | nil => left; simpa [smPut] using h
  | cons p m ih =>
    simp only [smPut] at h
    split_ifs at h with h1 h2
    · rcases List.mem_cons.1 h with rfl | h
      exacts [.inl rfl, .inr h]
    · rcases List.mem_cons.1 h with rfl | h
      exacts [.inl rfl, .inr (List.mem_cons_of_mem _ h)]
    · rcases List.mem_cons.1 h with rfl | h
      · exact .inr (by simp)
      · rcases ih h with h | h
        exacts [.inl h, .inr (List.mem_cons_of_mem _ h)]

/-- A write of a byte keeps the canonical form. -/
theorem wf_memWrite (m : List Host.Cell) (a : Nat) (b : Byte) (h : Memory.wf m = true) : Memory.wf (memWrite m a b) = true := by
  simp only [Memory.wf, Bool.and_eq_true, List.all_eq_true] at h ⊢
  refine ⟨smRising_smSet 0 m a b h.1, fun x hx => ?_⟩
  simp only [memWrite, smSet] at hx
  split_ifs at hx with hb
  · exact h.2 x (mem_of_mem_smDel hx)
  · rcases mem_smPut hx with rfl | hx
    · simpa using hb
    · exact h.2 x hx

/-- A write of consecutive bytes keeps the canonical form. -/
theorem wf_memWrites (bs : List Byte) (m : List Host.Cell) (a : Nat) (h : Memory.wf m = true) :
    Memory.wf (memWrites m a bs) = true := by
  induction bs generalizing m a with
  | nil => exact h
  | cons b bs ih => exact ih (memWrite m a b) (a + 1) (wf_memWrite m a b h)

/-- Bytes outside the written ones read as before. -/
theorem memRead_memWrites_outside (bs : List Byte) (m : List Host.Cell) (a k : Nat) (h : k < a ∨ a + bs.length ≤ k) :
    memRead (memWrites m a bs) k = memRead m k := by
  induction bs generalizing m a with
  | nil => rfl
  | cons b bs ih =>
    simp only [List.length_cons] at h
    have hk : k ≠ a := by omega
    show memRead (memWrites (memWrite m a b) (a + 1) bs) k = _
    rw [ih (memWrite m a b) (a + 1) (by omega), memRead_memWrite_other m a k b hk]

/-- A written byte reads as written. -/
theorem memRead_memWrites_inside (bs : List Byte) (m : List Host.Cell) (a i : Nat) (hi : i < bs.length) :
    memRead (memWrites m a bs) (a + i) = bs.getD i 0 := by
  induction bs generalizing m a i with
  | nil => simp at hi
  | cons b bs ih =>
    show memRead (memWrites (memWrite m a b) (a + 1) bs) (a + i) = _
    cases i with
    | zero =>
      rw [memRead_memWrites_outside bs _ (a + 1) (a + 0) (by omega)]
      simpa using memRead_memWrite_self m a b
    | succ i =>
      have := ih (memWrite m a b) (a + 1) i (by simpa using hi)
      simpa [Nat.add_assoc, Nat.add_comm 1 i] using this

end Sys2Proof.Machine
end

