-- ==== Sys2Proof/Laws/Instr.lean ====
section
/-! SUPPORT. What the one operation of an instruction can do: complete, take a task fault of its own, or run out of budget.  The
meanings of the instructions are cited through these lemmas and never unfolded. -/

namespace Sys2Proof.Safety

open Sys2Proof.Machine

variable {s : State} {core : CoreId} {t : Nat} {i : Instr} {body : Nat → Task → Effect} {cycles code : Nat} {y : Task} {eff : Dev → Dev}

/-- A due instruction finds its own word, which decodes. -/
theorem due_word (h : due s core t i = true) :
    ∃ w, s.dev.scheduling core.val = true ∧ (s.dev.core core.val).cur = some t ∧ s.dev.fetch core.val t = some w ∧
      encode i = some w ∧ (decode core 0 w).isNone = false := by
  simp only [due, Bool.and_eq_true, beq_iff_eq] at h
  obtain ⟨⟨⟨h1, h2⟩, h3⟩, h4⟩ := h
  cases hw : encode i with
  | none => simp [hw] at h4
  | some w =>
    simp only [hw, Option.any_some] at h4
    exact ⟨w, h1, h2, by rw [h3, hw], rfl, by simpa using h4⟩

/-- A due instruction is its effect on the running task. -/
theorem instr_apply (h : due s core t i = true) :
    s.dev.instr core i body = s.dev.apply core.val t (s.dev.task core.val t) (body t (s.dev.task core.val t)) := by
  obtain ⟨w, h1, h2, h3, h4, h5⟩ := due_word h
  simp [Dev.instr, h1, h2, h3, h4, h5]

/-- A ready instruction is due and its budget holds. -/
theorem ready_due (h : ready s core t i cycles = true) :
    due s core t i = true ∧ (s.dev.task core.val t).over cycles = false := by
  simp only [ready, Bool.and_eq_true, Bool.or_eq_true, beq_iff_eq, decide_eq_true_eq] at h
  refine ⟨h.1, ?_⟩
  rcases h.2 with hk | hk
  · simp [Task.over, hk]
  · simp only [Task.over, Bool.and_eq_false_iff]
    exact .inr (by simp; omega)

/-- A ready instruction completes: its task's context, its cycles and its effect. -/
theorem instr_done (h : ready s core t i cycles = true) (hb : body t (s.dev.task core.val t) = .done cycles y eff) :
    execInstr core i s body = .next (executed s core t cycles y eff) := by
  obtain ⟨hd, ho⟩ := ready_due h
  simp [execInstr, instr_apply hd, hb, Dev.apply, ho, executed]

/-- An instruction that only changes its task's context. -/
theorem instr_regs (h : ready s core t i cycles = true) (hb : body t (s.dev.task core.val t) = .regs cycles y) :
    execInstr core i s body = .next (executed s core t cycles (next y)) :=
  instr_done h hb

/-- A due instruction takes its own task fault. -/
theorem instr_fault (h : due s core t i = true) (hb : body t (s.dev.task core.val t) = .fault code) :
    execInstr core i s body =
      .next { s with dev := s.dev.taskFault core.val t code ((s.dev.task core.val t).count + 1) } := by
  simp [execInstr, instr_apply h, hb, Dev.apply]

/-- A due instruction that its budget no longer holds takes the budget fault. -/
theorem instr_over (h : due s core t i = true) (hb : body t (s.dev.task core.val t) = .done cycles y eff)
    (ho : (s.dev.task core.val t).over cycles = true) :
    execInstr core i s body =
      .next { s with dev := s.dev.taskFault core.val t (budgetCode (s.dev.task core.val t).kind) ((s.dev.task core.val t).budget + 1) } := by
  simp [execInstr, instr_apply h, hb, Dev.apply, ho]

end Sys2Proof.Safety
end

