-- ==== Sys2Proof/Laws/Outer.lean ====
section
/-! SUPPORT. What the scheduler, the signal store, the recorder, the trace unit and the register file leave alone: one lemma for each
operation that changes no axis, no stream port, no island state, no field section, no pair, no host unit, no CAN controller, no update
unit and no image. -/

set_option linter.unusedTactic false
set_option linter.unreachableTactic false

namespace Sys2Proof.Machine

/-- A module without the parts that the scheduler, the signal store, the recorder and the trace unit write. -/
def Dev.outer (d : Dev) : Dev :=
  { d with sys := {}, regs := [], sigs := [], hidden := [], cores := [], placer := {}, recorder := {}, trace := {} }

/-- A module whose other parts are those of `σ`. -/
def Outer (σ : Dev) (d : Dev) : Prop := d.outer = σ

variable {σ : Dev}

theorem Outer.mk {d : Dev} {sys regs sigs hidden cores placer recorder trace} (h : Outer σ d) :
    Outer σ (Dev.mk sys d.image regs sigs hidden d.summary cores d.halted d.rstReq d.axes d.doorCyc d.promos placer d.ports d.queues d.island
      d.field d.pair d.host d.cans recorder d.upd trace) := h
theorem Outer.ite {c : Prop} [Decidable c] {a b : Dev} (ha : Outer σ a) (hb : Outer σ b) : Outer σ (if c then a else b) := by split <;> assumption
theorem Outer.ite1 {γ : Type} {c : Prop} [Decidable c] {a b : Dev × γ} (ha : Outer σ a.1) (hb : Outer σ b.1) : Outer σ (if c then a else b).1 := by split <;> assumption
theorem Outer.pair {γ : Type} {a : Dev} {b : γ} (ha : Outer σ a) : Outer σ (a, b).1 := ha
theorem Outer.foldl {β : Type} {l : List β} {f : Dev → β → Dev} {d : Dev} (h : ∀ x a, Outer σ x → Outer σ (f x a)) (hd : Outer σ d) : Outer σ (l.foldl f d) := by
  induction l generalizing d with
  | nil => exact hd
  | cons x l ih => exact ih (h d x hd)
theorem Outer.foldlOn {α β : Type} (g : α → Dev) {l : List β} {f : α → β → α} {x : α} (h : ∀ x e, Outer σ (g x) → Outer σ (g (f x e))) (hx : Outer σ (g x)) : Outer σ (g (l.foldl f x)) := by
  induction l generalizing x with
  | nil => exact hx
  | cons e l ih => exact ih (h x e hx)
theorem Outer.foldl1 {β γ : Type} {l : List β} {f : Dev × γ → β → Dev × γ} {d : Dev × γ} (h : ∀ x a, Outer σ x.1 → Outer σ (f x a).1) (hd : Outer σ d.1) : Outer σ (l.foldl f d).1 := by
  induction l generalizing d with
  | nil => exact hd
  | cons x l ih => exact ih (h d x hd)

theorem Dev_setReg_outer {d : Dev} {addr : Nat} {v : Word} (h : Outer σ d) : Outer σ (Dev.setReg d addr v) := by
  unfold Dev.setReg
  repeat' first
    | with_reducible assumption
    | (extract_lets +onlyGivenNames z; clear_value z)
    | with_reducible exact Outer.mk (by with_reducible assumption)
    | fail_if_no_progress beta_reduce

theorem Dev_nextFree_outer {d : Dev} (h : Outer σ d) : Outer σ (Dev.nextFree d).1 := by
  unfold Dev.nextFree
  repeat' first
    | with_reducible assumption
    | (extract_lets +onlyGivenNames z; clear_value z)
    | with_reducible exact Outer.mk (by with_reducible assumption)
    | (with_reducible refine Outer.pair ?_; first | with_reducible assumption | with_reducible exact Outer.mk (by with_reducible assumption))
    | fail_if_no_progress beta_reduce
theorem Dev_nextFree_outerEq {d : Dev} {z : Dev} {w : Nat} (e : Dev.nextFree d = (z, w)) (h : Outer σ d) : Outer σ z := by
  have := Dev_nextFree_outer (σ := σ) (d := d) h; rw [e] at this; exact this

theorem Dev_setRegFld_outer {d : Dev} {addr lo width v : Nat} (h : Outer σ d) : Outer σ (Dev.setRegFld d addr lo width v) := by
  unfold Dev.setRegFld
  repeat' first
    | with_reducible assumption
    | with_reducible refine Dev_setReg_outer ?_

theorem Dev_orReg_outer {d : Dev} {addr : Nat} {bits : Word} (h : Outer σ d) : Outer σ (Dev.orReg d addr bits) := by
  unfold Dev.orReg
  repeat' first
    | with_reducible assumption
    | with_reducible refine Dev_setReg_outer ?_

theorem Dev_incReg_outer {d : Dev} {addr : Nat} (h : Outer σ d) : Outer σ (Dev.incReg d addr) := by
  unfold Dev.incReg
  repeat' first
    | with_reducible assumption
    | with_reducible refine Dev_setReg_outer ?_

theorem Dev_incRegFld_outer {d : Dev} {addr lo width : Nat} (h : Outer σ d) : Outer σ (Dev.incRegFld d addr lo width) := by
  unfold Dev.incRegFld
  repeat' first
    | with_reducible assumption
    | with_reducible refine Dev_setRegFld_outer ?_

theorem Dev_setCore_outer {d : Dev} {c : Nat} {k : Core} (h : Outer σ d) : Outer σ (Dev.setCore d c k) := by
  unfold Dev.setCore
  repeat' first
    | with_reducible assumption
    | (extract_lets +onlyGivenNames z; clear_value z)
    | with_reducible exact Outer.mk (by with_reducible assumption)
    | fail_if_no_progress beta_reduce

theorem Dev_setTask_outer {d : Dev} {c t : Nat} {x : Task} (h : Outer σ d) : Outer σ (Dev.setTask d c t x) := by
  unfold Dev.setTask
  repeat' first
    | with_reducible assumption
    | (extract_lets +onlyGivenNames z; first | (refine (have hz : Outer σ z := ?_; ?_); (on_goal 1 => (unfold z; clear z)); (on_goal 2 => clear_value z)) | (refine (have hz : Outer σ z.1 := ?_; ?_); (on_goal 1 => (unfold z; clear z)); (on_goal 2 => clear_value z)) | clear_value z)
    | with_reducible refine Dev_setCore_outer ?_
    | with_reducible exact Outer.mk (by with_reducible assumption)
    | fail_if_no_progress beta_reduce

theorem Dev_bumpCounter_outer {d : Dev} {i n : Nat} (h : Outer σ d) : Outer σ (Dev.bumpCounter d i n) := by
  unfold Dev.bumpCounter
  repeat' first
    | with_reducible assumption
    | (extract_lets +onlyGivenNames z; first | (refine (have hz : Outer σ z := ?_; ?_); (on_goal 1 => (unfold z; clear z)); (on_goal 2 => clear_value z)) | (refine (have hz : Outer σ z.1 := ?_; ?_); (on_goal 1 => (unfold z; clear z)); (on_goal 2 => clear_value z)) | clear_value z)
    | with_reducible refine Outer.ite ?_ ?_
    | with_reducible refine Dev_orReg_outer ?_
    | with_reducible exact Outer.mk (by with_reducible assumption)
    | split
    | fail_if_no_progress beta_reduce

theorem Dev_countEvent_outer {d : Dev} {ev unit n : Nat} (h : Outer σ d) : Outer σ (Dev.countEvent d ev unit n) := by
  unfold Dev.countEvent
  repeat' first
    | with_reducible assumption
    | with_reducible refine Outer.ite ?_ ?_
    | with_reducible refine Dev_bumpCounter_outer ?_
    | with_reducible refine Outer.foldl (fun _ _ _ => ?_) ?_
    | with_reducible refine Outer.foldl1 (fun _ _ _ => ?_) ?_
    | split
    | fail_if_no_progress beta_reduce

theorem Dev_dramBytes_outer {d : Dev} {a n : Nat} (h : Outer σ d) : Outer σ (Dev.dramBytes d a n) := by
  unfold Dev.dramBytes
  repeat' first
    | with_reducible assumption
    | with_reducible refine Dev_countEvent_outer ?_

theorem Dev_packet_outer {d : Dev} {bytes : List Byte} (h : Outer σ d) : Outer σ (Dev.packet d bytes) := by
  unfold Dev.packet
  repeat' first
    | with_reducible assumption
    | (extract_lets +onlyGivenNames z; first | (refine (have hz : Outer σ z := ?_; ?_); (on_goal 1 => (unfold z; clear z)); (on_goal 2 => clear_value z)) | (refine (have hz : Outer σ z.1 := ?_; ?_); (on_goal 1 => (unfold z; clear z)); (on_goal 2 => clear_value z)) | clear_value z)
    | with_reducible refine Outer.ite ?_ ?_
    | with_reducible refine Dev_orReg_outer ?_
    | with_reducible refine Dev_incReg_outer ?_
    | with_reducible exact Outer.mk (by with_reducible assumption)
    | split
    | fail_if_no_progress beta_reduce

theorem Dev_traceByte_outer {d : Dev} {b : Byte} (h : Outer σ d) : Outer σ (Dev.traceByte d b) := by
  unfold Dev.traceByte
  repeat' first
    | with_reducible assumption
    | (extract_lets +onlyGivenNames z; first | (refine (have hz : Outer σ z := ?_; ?_); (on_goal 1 => (unfold z; clear z)); (on_goal 2 => clear_value z)) | (refine (have hz : Outer σ z.1 := ?_; ?_); (on_goal 1 => (unfold z; clear z)); (on_goal 2 => clear_value z)) | clear_value z)
    | with_reducible refine Outer.ite ?_ ?_
    | with_reducible refine Dev_incReg_outer ?_
    | with_reducible exact Outer.mk (by with_reducible assumption)
    | split
    | fail_if_no_progress beta_reduce

theorem Dev_drainTrace_outer {d : Dev} (h : Outer σ d) : Outer σ (Dev.drainTrace d) := by
  unfold Dev.drainTrace
  repeat' first
    | with_reducible assumption
    | (extract_lets +onlyGivenNames z; first | (refine (have hz : Outer σ z := ?_; ?_); (on_goal 1 => (unfold z; clear z)); (on_goal 2 => clear_value z)) | (refine (have hz : Outer σ z.1 := ?_; ?_); (on_goal 1 => (unfold z; clear z)); (on_goal 2 => clear_value z)) | clear_value z)
    | with_reducible refine Outer.ite ?_ ?_
    | with_reducible refine Dev_countEvent_outer ?_
    | with_reducible refine Dev_packet_outer ?_
    | with_reducible refine Dev_traceByte_outer ?_
    | with_reducible refine Outer.foldl (fun _ _ _ => ?_) ?_
    | with_reducible exact Outer.mk (by with_reducible assumption)
    | split
    | fail_if_no_progress beta_reduce

theorem Dev_flushBranches_outer {d : Dev} {c : Nat} (h : Outer σ d) : Outer σ (Dev.flushBranches d c) := by
  unfold Dev.flushBranches
  repeat' first
    | with_reducible assumption
    | (extract_lets +onlyGivenNames z; first | (refine (have hz : Outer σ z := ?_; ?_); (on_goal 1 => (unfold z; clear z)); (on_goal 2 => clear_value z)) | (refine (have hz : Outer σ z.1 := ?_; ?_); (on_goal 1 => (unfold z; clear z)); (on_goal 2 => clear_value z)) | clear_value z)
    | with_reducible refine Outer.ite ?_ ?_
    | with_reducible refine Dev_packet_outer ?_
    | with_reducible exact Outer.mk (by with_reducible assumption)
    | split
    | fail_if_no_progress beta_reduce

theorem Dev_flowPacket_outer {d : Dev} {c : Nat} {ptype : Byte} {payload : List Byte} (h : Outer σ d) : Outer σ (Dev.flowPacket d c ptype payload) := by
  unfold Dev.flowPacket
  repeat' first
    | with_reducible assumption
    | with_reducible refine Outer.ite ?_ ?_
    | with_reducible refine Dev_packet_outer ?_
    | with_reducible refine Dev_flushBranches_outer ?_
    | split

theorem Dev_traceBranch_outer {d : Dev} {c : Nat} {taken : Bool} (h : Outer σ d) : Outer σ (Dev.traceBranch d c taken) := by
  unfold Dev.traceBranch
  repeat' first
    | with_reducible assumption
    | (extract_lets +onlyGivenNames z; first | (refine (have hz : Outer σ z := ?_; ?_); (on_goal 1 => (unfold z; clear z)); (on_goal 2 => clear_value z)) | (refine (have hz : Outer σ z.1 := ?_; ?_); (on_goal 1 => (unfold z; clear z)); (on_goal 2 => clear_value z)) | clear_value z)
    | with_reducible refine Outer.ite ?_ ?_
    | with_reducible refine Dev_flushBranches_outer ?_
    | with_reducible exact Outer.mk (by with_reducible assumption)
    | split
    | fail_if_no_progress beta_reduce

theorem Dev_traceTask_outer {d : Dev} {c t ev code : Nat} (h : Outer σ d) : Outer σ (Dev.traceTask d c t ev code) := by
  unfold Dev.traceTask
  repeat' first
    | with_reducible assumption
    | with_reducible refine Dev_flowPacket_outer ?_

theorem Dev_traceSync_outer {d : Dev} (h : Outer σ d) : Outer σ (Dev.traceSync d) := by
  unfold Dev.traceSync
  repeat' first
    | with_reducible assumption
    | with_reducible refine Dev_packet_outer ?_

theorem Dev_traceWrite_outer {d : Dev} {sig tag : Nat} {value : Word} {q : BitVec 8} (h : Outer σ d) : Outer σ (Dev.traceWrite d sig tag value q) := by
  unfold Dev.traceWrite
  repeat' first
    | with_reducible assumption
    | (extract_lets +onlyGivenNames z; first | (refine (have hz : Outer σ z := ?_; ?_); (on_goal 1 => (unfold z; clear z)); (on_goal 2 => clear_value z)) | (refine (have hz : Outer σ z.1 := ?_; ?_); (on_goal 1 => (unfold z; clear z)); (on_goal 2 => clear_value z)) | clear_value z)
    | with_reducible refine Outer.ite ?_ ?_
    | with_reducible refine Dev_packet_outer ?_
    | split
    | fail_if_no_progress beta_reduce

theorem Dev_traceMark_outer {d : Dev} {c : Nat} {marker : Word} (h : Outer σ d) : Outer σ (Dev.traceMark d c marker) := by
  unfold Dev.traceMark
  repeat' first
    | with_reducible assumption
    | with_reducible refine Dev_packet_outer ?_

theorem Dev_trcCommand_outer {d : Dev} {value : Word} (h : Outer σ d) : Outer σ (Dev.trcCommand d value) := by
  unfold Dev.trcCommand
  repeat' first
    | with_reducible assumption
    | (extract_lets +onlyGivenNames z; first | (refine (have hz : Outer σ z := ?_; ?_); (on_goal 1 => (unfold z; clear z)); (on_goal 2 => clear_value z)) | (refine (have hz : Outer σ z.1 := ?_; ?_); (on_goal 1 => (unfold z; clear z)); (on_goal 2 => clear_value z)) | clear_value z)
    | with_reducible refine Outer.ite ?_ ?_
    | with_reducible exact Outer.mk (by with_reducible assumption)
    | split
    | fail_if_no_progress beta_reduce

theorem Dev_lostEvent_outer {d : Dev} {fromPut : Bool} (h : Outer σ d) : Outer σ (Dev.lostEvent d fromPut) := by
  unfold Dev.lostEvent
  repeat' first
    | with_reducible assumption
    | (extract_lets +onlyGivenNames z; first | (refine (have hz : Outer σ z := ?_; ?_); (on_goal 1 => (unfold z; clear z)); (on_goal 2 => clear_value z)) | (refine (have hz : Outer σ z.1 := ?_; ?_); (on_goal 1 => (unfold z; clear z)); (on_goal 2 => clear_value z)) | clear_value z)
    | with_reducible refine Outer.ite ?_ ?_
    | with_reducible refine Dev_orReg_outer ?_
    | with_reducible exact Outer.mk (by with_reducible assumption)
    | split
    | fail_if_no_progress beta_reduce

theorem Dev_stage_outer {d : Dev} {x : Record} (h : Outer σ d) : Outer σ (Dev.stage d x) := by
  unfold Dev.stage
  repeat' first
    | with_reducible assumption
    | with_reducible refine Outer.ite ?_ ?_
    | with_reducible refine Dev_dramBytes_outer ?_
    | split

theorem Dev_putRecord_outer {d : Dev} {rtype code subj : Nat} {rep : Bool} {payload : List Byte} (h : Outer σ d) : Outer σ (Dev.putRecord d rtype code subj rep payload) := by
  unfold Dev.putRecord
  repeat' first
    | with_reducible assumption
    | (extract_lets +onlyGivenNames z; first | (refine (have hz : Outer σ z.1 := ?_; ?_); (on_goal 1 => (unfold z; clear z)); (on_goal 2 => clear_value z)) | clear_value z)
    | with_reducible refine Outer.ite ?_ ?_
    | with_reducible refine Dev_lostEvent_outer ?_
    | with_reducible refine Dev_stage_outer ?_
    | with_reducible exact Outer.mk (by with_reducible assumption)
    | split
    | fail_if_no_progress beta_reduce

theorem Dev_event_outer {d : Dev} {code subj : Nat} {payload : List Byte} (h : Outer σ d) : Outer σ (Dev.event d code subj payload) := by
  unfold Dev.event
  repeat' first
    | with_reducible assumption
    | with_reducible refine Dev_putRecord_outer ?_

theorem Dev_eventRep_outer {d : Dev} {code subj : Nat} {payload : List Byte} (h : Outer σ d) : Outer σ (Dev.eventRep d code subj payload) := by
  unfold Dev.eventRep
  repeat' first
    | with_reducible assumption
    | with_reducible refine Dev_putRecord_outer ?_

theorem Dev_putUser_outer {d : Dev} {core rtype subj : Nat} {payload : List Byte} (h : Outer σ d) : Outer σ (Dev.putUser d core rtype subj payload).1 := by
  unfold Dev.putUser
  repeat' first
    | with_reducible assumption
    | (extract_lets +onlyGivenNames z; first | (refine (have hz : Outer σ z.1 := ?_; ?_); (on_goal 1 => (unfold z; clear z)); (on_goal 2 => clear_value z)) | clear_value z)
    | with_reducible refine Outer.ite ?_ ?_
    | with_reducible refine Outer.ite1 ?_ ?_
    | with_reducible refine Dev_lostEvent_outer ?_
    | with_reducible refine Dev_stage_outer ?_
    | with_reducible exact Outer.mk (by with_reducible assumption)
    | (with_reducible refine Outer.pair ?_; first | with_reducible assumption | with_reducible refine Dev_lostEvent_outer ?_ | with_reducible refine Dev_stage_outer ?_ | with_reducible exact Outer.mk (by with_reducible assumption))
    | split
    | fail_if_no_progress beta_reduce
theorem Dev_putUser_outerEq {d : Dev} {core rtype subj : Nat} {payload : List Byte} {z : Dev} {w : Nat} (e : Dev.putUser d core rtype subj payload = (z, w)) (h : Outer σ d) : Outer σ z := by
  have := Dev_putUser_outer (σ := σ) (d := d) (core := core) (rtype := rtype) (subj := subj) (payload := payload) h; rw [e] at this; exact this

theorem Dev_commitRecord_outer {d : Dev} (h : Outer σ d) : Outer σ (Dev.commitRecord d) := by
  unfold Dev.commitRecord
  repeat' first
    | with_reducible assumption
    | (extract_lets +onlyGivenNames z; first | (refine (have hz : Outer σ z := ?_; ?_); (on_goal 1 => (unfold z; clear z)); (on_goal 2 => clear_value z)) | (refine (have hz : Outer σ z.1 := ?_; ?_); (on_goal 1 => (unfold z; clear z)); (on_goal 2 => clear_value z)) | clear_value z)
    | with_reducible refine Dev_countEvent_outer ?_
    | with_reducible refine Dev_stage_outer ?_
    | with_reducible exact Outer.mk (by with_reducible assumption)
    | split
    | fail_if_no_progress beta_reduce

theorem Dev_requestLifetime_outer {d : Dev} {axis : Nat} (h : Outer σ d) : Outer σ (Dev.requestLifetime d axis) := by
  unfold Dev.requestLifetime
  repeat' first
    | with_reducible assumption
    | (extract_lets +onlyGivenNames z; first | (refine (have hz : Outer σ z := ?_; ?_); (on_goal 1 => (unfold z; clear z)); (on_goal 2 => clear_value z)) | (refine (have hz : Outer σ z.1 := ?_; ?_); (on_goal 1 => (unfold z; clear z)); (on_goal 2 => clear_value z)) | clear_value z)
    | with_reducible refine Outer.ite ?_ ?_
    | with_reducible exact Outer.mk (by with_reducible assumption)
    | split
    | fail_if_no_progress beta_reduce

theorem Dev_recCmdstat_outer {d : Dev} {code : Nat} {flags : Word} (h : Outer σ d) : Outer σ (Dev.recCmdstat d code flags) := by
  unfold Dev.recCmdstat
  repeat' first
    | with_reducible assumption
    | with_reducible refine Dev_setReg_outer ?_
    | with_reducible refine Dev_orReg_outer ?_

theorem Dev_anchorCommand_outer {d : Dev} {value : Word} (h : Outer σ d) : Outer σ (Dev.anchorCommand d value) := by
  unfold Dev.anchorCommand
  repeat' first
    | with_reducible assumption
    | (extract_lets +onlyGivenNames z; first | (refine (have hz : Outer σ z := ?_; ?_); (on_goal 1 => (unfold z; clear z)); (on_goal 2 => clear_value z)) | (refine (have hz : Outer σ z.1 := ?_; ?_); (on_goal 1 => (unfold z; clear z)); (on_goal 2 => clear_value z)) | clear_value z)
    | with_reducible refine Outer.ite ?_ ?_
    | with_reducible refine Dev_setReg_outer ?_
    | with_reducible refine Dev_putRecord_outer ?_
    | with_reducible refine Dev_recCmdstat_outer ?_
    | with_reducible exact Outer.mk (by with_reducible assumption)
    | split
    | fail_if_no_progress beta_reduce

theorem Dev_keyCommand_outer {d : Dev} {value : Word} (h : Outer σ d) : Outer σ (Dev.keyCommand d value) := by
  unfold Dev.keyCommand
  repeat' first
    | with_reducible assumption
    | (extract_lets +onlyGivenNames z; clear_value z)
    | with_reducible refine Outer.ite ?_ ?_
    | with_reducible refine Dev_setReg_outer ?_
    | with_reducible refine Dev_recCmdstat_outer ?_
    | with_reducible exact Outer.mk (by with_reducible assumption)
    | split
    | fail_if_no_progress beta_reduce

theorem Dev_refuseClear_outer {d : Dev} {code : Nat} (h : Outer σ d) : Outer σ (Dev.refuseClear d code).1 := by
  unfold Dev.refuseClear
  repeat' first
    | with_reducible assumption
    | (extract_lets +onlyGivenNames z; first | (refine (have hz : Outer σ z := ?_; ?_); (on_goal 1 => (unfold z; clear z)); (on_goal 2 => clear_value z)) | (refine (have hz : Outer σ z.1 := ?_; ?_); (on_goal 1 => (unfold z; clear z)); (on_goal 2 => clear_value z)) | clear_value z)
    | with_reducible refine Outer.ite ?_ ?_
    | with_reducible refine Outer.ite1 ?_ ?_
    | with_reducible refine Dev_eventRep_outer ?_
    | with_reducible refine Dev_recCmdstat_outer ?_
    | with_reducible exact Outer.mk (by with_reducible assumption)
    | (with_reducible refine Outer.pair ?_; first | with_reducible assumption | with_reducible refine Dev_eventRep_outer ?_ | with_reducible refine Dev_recCmdstat_outer ?_ | with_reducible exact Outer.mk (by with_reducible assumption))
    | split
    | fail_if_no_progress beta_reduce
theorem Dev_refuseClear_outerEq {d : Dev} {code : Nat} {z : Dev} {w : Nat} (e : Dev.refuseClear d code = (z, w)) (h : Outer σ d) : Outer σ z := by
  have := Dev_refuseClear_outer (σ := σ) (d := d) (code := code) h; rw [e] at this; exact this

theorem Dev_emptyRing_outer {d : Dev} {e9 : ClearEntry} {token : List Byte} (h : Outer σ d) : Outer σ (Dev.emptyRing d e9 token) := by
  unfold Dev.emptyRing
  repeat' first
    | with_reducible assumption
    | (extract_lets +onlyGivenNames z; first | (refine (have hz : Outer σ z := ?_; ?_); (on_goal 1 => (unfold z; clear z)); (on_goal 2 => clear_value z)) | (refine (have hz : Outer σ z.1 := ?_; ?_); (on_goal 1 => (unfold z; clear z)); (on_goal 2 => clear_value z)) | clear_value z)
    | with_reducible refine Dev_orReg_outer ?_
    | with_reducible refine Dev_countEvent_outer ?_
    | with_reducible exact Outer.mk (by with_reducible assumption)
    | fail_if_no_progress beta_reduce

theorem Dev_clearRequest_outer {d : Dev} {challenge : BitVec 128} {token : List Byte} (h : Outer σ d) : Outer σ (Dev.clearRequest d challenge token).1 := by
  unfold Dev.clearRequest
  repeat' first
    | with_reducible assumption
    | (extract_lets +onlyGivenNames z; first | (refine (have hz : Outer σ z := ?_; ?_); (on_goal 1 => (unfold z; clear z)); (on_goal 2 => clear_value z)) | (refine (have hz : Outer σ z.1 := ?_; ?_); (on_goal 1 => (unfold z; clear z)); (on_goal 2 => clear_value z)) | clear_value z)
    | with_reducible refine Outer.ite ?_ ?_
    | with_reducible refine Outer.ite1 ?_ ?_
    | with_reducible refine Dev_setReg_outer ?_
    | with_reducible refine Dev_recCmdstat_outer ?_
    | with_reducible refine Dev_refuseClear_outer ?_
    | exact Dev_refuseClear_outerEq ‹_› ‹_›
    | with_reducible refine Dev_emptyRing_outer ?_
    | with_reducible exact Outer.mk (by with_reducible assumption)
    | (with_reducible refine Outer.pair ?_; first | with_reducible assumption | with_reducible refine Dev_setReg_outer ?_ | with_reducible refine Dev_recCmdstat_outer ?_ | with_reducible refine Dev_refuseClear_outer ?_ | with_reducible refine Dev_emptyRing_outer ?_ | with_reducible exact Outer.mk (by with_reducible assumption))
    | split
    | fail_if_no_progress beta_reduce
theorem Dev_clearRequest_outerEq {d : Dev} {challenge : BitVec 128} {token : List Byte} {z : Dev} {w : Nat} (e : Dev.clearRequest d challenge token = (z, w)) (h : Outer σ d) : Outer σ z := by
  have := Dev_clearRequest_outer (σ := σ) (d := d) (challenge := challenge) (token := token) h; rw [e] at this; exact this

theorem Dev_newChallenge_outer {d : Dev} {random : BitVec 128} (h : Outer σ d) : Outer σ (Dev.newChallenge d random) := by
  unfold Dev.newChallenge
  repeat' first
    | with_reducible assumption
    | (extract_lets +onlyGivenNames z; clear_value z)
    | with_reducible exact Outer.mk (by with_reducible assumption)
    | fail_if_no_progress beta_reduce

theorem Dev_finishClear_outer {d : Dev} (h : Outer σ d) : Outer σ (Dev.finishClear d) := by
  unfold Dev.finishClear
  repeat' first
    | with_reducible assumption
    | (extract_lets +onlyGivenNames z; first | (refine (have hz : Outer σ z := ?_; ?_); (on_goal 1 => (unfold z; clear z)); (on_goal 2 => clear_value z)) | (refine (have hz : Outer σ z.1 := ?_; ?_); (on_goal 1 => (unfold z; clear z)); (on_goal 2 => clear_value z)) | clear_value z)
    | with_reducible refine Dev_orReg_outer ?_
    | with_reducible refine Dev_countEvent_outer ?_
    | with_reducible exact Outer.mk (by with_reducible assumption)
    | split
    | fail_if_no_progress beta_reduce

theorem Dev_recorderScan_outer {d : Dev} (h : Outer σ d) : Outer σ (Dev.recorderScan d) := by
  unfold Dev.recorderScan
  repeat' first
    | with_reducible assumption
    | (extract_lets +onlyGivenNames z; first | (refine (have hz : Outer σ z := ?_; ?_); (on_goal 1 => (unfold z; clear z)); (on_goal 2 => clear_value z)) | (refine (have hz : Outer σ z.1 := ?_; ?_); (on_goal 1 => (unfold z; clear z)); (on_goal 2 => clear_value z)) | clear_value z)
    | with_reducible refine Outer.ite ?_ ?_
    | with_reducible refine Dev_nextFree_outer ?_
    | exact Dev_nextFree_outerEq ‹_› ‹_›
    | with_reducible refine Dev_orReg_outer ?_
    | with_reducible refine Dev_event_outer ?_
    | with_reducible refine Dev_finishClear_outer ?_
    | with_reducible exact Outer.mk (by with_reducible assumption)
    | split
    | fail_if_no_progress beta_reduce

theorem Dev_lifetimeChecks_outer {d : Dev} (h : Outer σ d) : Outer σ (Dev.lifetimeChecks d) := by
  unfold Dev.lifetimeChecks
  repeat' first
    | with_reducible assumption
    | with_reducible refine Outer.ite ?_ ?_
    | with_reducible refine Dev_orReg_outer ?_
    | with_reducible refine Dev_event_outer ?_
    | with_reducible refine Outer.foldl (fun _ _ _ => ?_) ?_
    | split
    | fail_if_no_progress beta_reduce


theorem Dev_recorderLosses_outer {d : Dev} (h : Outer σ d) : Outer σ (Dev.recorderLosses d) := by
  unfold Dev.recorderLosses
  repeat' first
    | with_reducible assumption
    | (extract_lets +onlyGivenNames z; first | (refine (have hz : Outer σ z := ?_; ?_); (on_goal 1 => (unfold z; clear z)); (on_goal 2 => clear_value z)) | (refine (have hz : Outer σ z.1 := ?_; ?_); (on_goal 1 => (unfold z; clear z)); (on_goal 2 => clear_value z)) | clear_value z)
    | with_reducible refine Outer.ite ?_ ?_
    | with_reducible refine Dev_orReg_outer ?_
    | with_reducible refine Dev_event_outer ?_
    | with_reducible exact Outer.mk (by with_reducible assumption)
    | split
    | fail_if_no_progress beta_reduce

theorem Dev_recorderStart_outer {d : Dev} (h : Outer σ d) : Outer σ (Dev.recorderStart d) := by
  unfold Dev.recorderStart
  repeat' first
    | with_reducible assumption
    | with_reducible refine Dev_recorderScan_outer ?_
    | with_reducible refine Dev_lifetimeChecks_outer ?_
    | with_reducible refine Dev_recorderLosses_outer ?_

theorem Dev_roundCycles_outer {d : Dev} {c : Nat} {door : Option Nat} {n : Nat} (h : Outer σ d) : Outer σ (Dev.roundCycles d c door n) := by
  unfold Dev.roundCycles
  repeat' first
    | with_reducible assumption
    | (extract_lets +onlyGivenNames z; first | (refine (have hz : Outer σ z := ?_; ?_); (on_goal 1 => (unfold z; clear z)); (on_goal 2 => clear_value z)) | (refine (have hz : Outer σ z.1 := ?_; ?_); (on_goal 1 => (unfold z; clear z)); (on_goal 2 => clear_value z)) | clear_value z)
    | with_reducible refine Dev_setCore_outer ?_
    | with_reducible exact Outer.mk (by with_reducible assumption)
    | split
    | fail_if_no_progress beta_reduce

theorem Dev_run_outer {d : Dev} {c t : Nat} {x : Task} {starts : Bool} (h : Outer σ d) : Outer σ (Dev.run d c t x starts) := by
  unfold Dev.run
  repeat' first
    | with_reducible assumption
    | (extract_lets +onlyGivenNames z; first | (refine (have hz : Outer σ z := ?_; ?_); (on_goal 1 => (unfold z; clear z)); (on_goal 2 => clear_value z)) | (refine (have hz : Outer σ z.1 := ?_; ?_); (on_goal 1 => (unfold z; clear z)); (on_goal 2 => clear_value z)) | clear_value z)
    | with_reducible refine Outer.ite ?_ ?_
    | with_reducible refine Dev_setCore_outer ?_
    | with_reducible refine Dev_setTask_outer ?_
    | with_reducible refine Dev_countEvent_outer ?_
    | with_reducible refine Dev_flowPacket_outer ?_
    | with_reducible refine Dev_roundCycles_outer ?_
    | with_reducible exact Outer.mk (by with_reducible assumption)
    | split
    | fail_if_no_progress beta_reduce

theorem Dev_activate_outer {d : Dev} {c t : Nat} {x : Task} (h : Outer σ d) : Outer σ (Dev.activate d c t x) := by
  unfold Dev.activate
  repeat' first
    | with_reducible assumption
    | (extract_lets +onlyGivenNames z; first | (refine (have hz : Outer σ z := ?_; ?_); (on_goal 1 => (unfold z; clear z)); (on_goal 2 => clear_value z)) | (refine (have hz : Outer σ z.1 := ?_; ?_); (on_goal 1 => (unfold z; clear z)); (on_goal 2 => clear_value z)) | clear_value z)
    | with_reducible refine Outer.ite ?_ ?_
    | with_reducible refine Dev_run_outer ?_
    | with_reducible exact Outer.mk (by with_reducible assumption)
    | split
    | fail_if_no_progress beta_reduce

theorem Dev_take_outer {d : Dev} {c t : Nat} {x : Task} (h : Outer σ d) : Outer σ (Dev.take d c t x) := by
  unfold Dev.take
  repeat' first
    | with_reducible assumption
    | with_reducible refine Outer.ite ?_ ?_
    | with_reducible refine Dev_event_outer ?_
    | with_reducible refine Dev_run_outer ?_
    | with_reducible refine Dev_activate_outer ?_
    | split

theorem Dev_endRound_outer {d : Dev} {c : Nat} (h : Outer σ d) : Outer σ (Dev.endRound d c) := by
  unfold Dev.endRound
  repeat' first
    | with_reducible assumption
    | (extract_lets +onlyGivenNames z; first | (refine (have hz : Outer σ z := ?_; ?_); (on_goal 1 => (unfold z; clear z)); (on_goal 2 => clear_value z)) | (refine (have hz : Outer σ z.1 := ?_; ?_); (on_goal 1 => (unfold z; clear z)); (on_goal 2 => clear_value z)) | clear_value z)
    | with_reducible refine Dev_setCore_outer ?_
    | with_reducible exact Outer.mk (by with_reducible assumption)
    | fail_if_no_progress beta_reduce

theorem Dev_wakeFrame_outer {d : Dev} {c : Nat} (h : Outer σ d) : Outer σ (Dev.wakeFrame d c) := by
  unfold Dev.wakeFrame
  repeat' first
    | with_reducible assumption
    | (extract_lets +onlyGivenNames z; first | (refine (have hz : Outer σ z := ?_; ?_); (on_goal 1 => (unfold z; clear z)); (on_goal 2 => clear_value z)) | (refine (have hz : Outer σ z.1 := ?_; ?_); (on_goal 1 => (unfold z; clear z)); (on_goal 2 => clear_value z)) | clear_value z)
    | with_reducible refine Outer.ite ?_ ?_
    | with_reducible refine Dev_setCore_outer ?_
    | with_reducible exact Outer.mk (by with_reducible assumption)
    | split
    | fail_if_no_progress beta_reduce

theorem Dev_choose_outer {d : Dev} {c : Nat} (h : Outer σ d) : Outer σ (Dev.choose d c) := by
  unfold Dev.choose
  repeat' first
    | with_reducible assumption
    | (extract_lets +onlyGivenNames z; first | (refine (have hz : Outer σ z := ?_; ?_); (on_goal 1 => (unfold z; clear z)); (on_goal 2 => clear_value z)) | (refine (have hz : Outer σ z.1 := ?_; ?_); (on_goal 1 => (unfold z; clear z)); (on_goal 2 => clear_value z)) | clear_value z)
    | with_reducible refine Outer.ite ?_ ?_
    | with_reducible refine Dev_setCore_outer ?_
    | with_reducible refine Dev_take_outer ?_
    | with_reducible refine Dev_endRound_outer ?_
    | with_reducible refine Dev_wakeFrame_outer ?_
    | with_reducible exact Outer.mk (by with_reducible assumption)
    | split
    | fail_if_no_progress beta_reduce

theorem Dev_leave_outer {d : Dev} {c t : Nat} {x : Task} (h : Outer σ d) : Outer σ (Dev.leave d c t x) := by
  unfold Dev.leave
  repeat' first
    | with_reducible assumption
    | (extract_lets +onlyGivenNames z; first | (refine (have hz : Outer σ z := ?_; ?_); (on_goal 1 => (unfold z; clear z)); (on_goal 2 => clear_value z)) | (refine (have hz : Outer σ z.1 := ?_; ?_); (on_goal 1 => (unfold z; clear z)); (on_goal 2 => clear_value z)) | clear_value z)
    | with_reducible refine Dev_setCore_outer ?_
    | with_reducible refine Dev_setTask_outer ?_
    | with_reducible exact Outer.mk (by with_reducible assumption)
    | fail_if_no_progress beta_reduce

theorem Dev_preempt_outer {d : Dev} {c : Nat} (h : Outer σ d) : Outer σ (Dev.preempt d c) := by
  unfold Dev.preempt
  repeat' first
    | with_reducible assumption
    | (extract_lets +onlyGivenNames z; first | (refine (have hz : Outer σ z := ?_; ?_); (on_goal 1 => (unfold z; clear z)); (on_goal 2 => clear_value z)) | (refine (have hz : Outer σ z.1 := ?_; ?_); (on_goal 1 => (unfold z; clear z)); (on_goal 2 => clear_value z)) | clear_value z)
    | with_reducible refine Outer.ite ?_ ?_
    | with_reducible refine Dev_setCore_outer ?_
    | with_reducible refine Dev_traceTask_outer ?_
    | with_reducible refine Dev_leave_outer ?_
    | with_reducible exact Outer.mk (by with_reducible assumption)
    | split
    | fail_if_no_progress beta_reduce

theorem Dev_kick_outer {d : Dev} {c : Nat} (h : Outer σ d) : Outer σ (Dev.kick d c) := by
  unfold Dev.kick
  repeat' first
    | with_reducible assumption
    | with_reducible refine Outer.ite ?_ ?_
    | with_reducible refine Dev_choose_outer ?_
    | with_reducible refine Dev_preempt_outer ?_
    | split

theorem Dev_takeOrd_outer {d : Dev} {c : Nat} (h : Outer σ d) : Outer σ (Dev.takeOrd d c) := by
  unfold Dev.takeOrd
  repeat' first
    | with_reducible assumption
    | (extract_lets +onlyGivenNames z; clear_value z)
    | with_reducible refine Dev_setCore_outer ?_
    | with_reducible exact Outer.mk (by with_reducible assumption)
    | fail_if_no_progress beta_reduce

theorem Dev_queueTrigger_outer {d : Dev} {c t idx : Nat} {sig : Nat} (h : Outer σ d) : Outer σ (Dev.queueTrigger d c t idx sig) := by
  unfold Dev.queueTrigger
  repeat' first
    | with_reducible assumption
    | (extract_lets +onlyGivenNames z; first | (refine (have hz : Outer σ z := ?_; ?_); (on_goal 1 => (unfold z; clear z)); (on_goal 2 => clear_value z)) | (refine (have hz : Outer σ z.1 := ?_; ?_); (on_goal 1 => (unfold z; clear z)); (on_goal 2 => clear_value z)) | clear_value z)
    | with_reducible refine Outer.ite ?_ ?_
    | with_reducible refine Dev_orReg_outer ?_
    | with_reducible refine Dev_incReg_outer ?_
    | with_reducible refine Dev_setTask_outer ?_
    | with_reducible refine Dev_eventRep_outer ?_
    | with_reducible refine Dev_kick_outer ?_
    | with_reducible refine Dev_takeOrd_outer ?_
    | with_reducible exact Outer.mk (by with_reducible assumption)
    | split
    | fail_if_no_progress beta_reduce

theorem Dev_fireTriggers_outer {d : Dev} {test : TrigKind → Bool} (h : Outer σ d) : Outer σ (Dev.fireTriggers d test) := by
  unfold Dev.fireTriggers
  repeat' first
    | with_reducible assumption
    | with_reducible refine Outer.ite ?_ ?_
    | with_reducible refine Dev_queueTrigger_outer ?_
    | with_reducible refine Outer.foldl (fun _ _ _ => ?_) ?_
    | with_reducible refine Outer.foldl1 (fun _ _ _ => ?_) ?_
    | split
    | fail_if_no_progress beta_reduce

theorem Dev_breakCopy_outer {d : Dev} {door : Nat → Bool} (h : Outer σ d) : Outer σ (Dev.breakCopy d door) := by
  unfold Dev.breakCopy
  repeat' first
    | with_reducible assumption
    | (extract_lets +onlyGivenNames z; first | (refine (have hz : Outer σ z.1 := ?_; ?_); (on_goal 1 => (unfold z; clear z)); (on_goal 2 => clear_value z)) | clear_value z)
    | with_reducible refine Outer.ite ?_ ?_
    | with_reducible exact Outer.mk (by with_reducible assumption)
    | split
    | fail_if_no_progress beta_reduce

theorem Dev_systemFault_outer {d : Dev} {t : Nat} {x : Task} {code : Nat} (h : Outer σ d) : Outer σ (Dev.systemFault d t x code) := by
  unfold Dev.systemFault
  repeat' first
    | with_reducible assumption
    | (extract_lets +onlyGivenNames z; first | (refine (have hz : Outer σ z := ?_; ?_); (on_goal 1 => (unfold z; clear z)); (on_goal 2 => clear_value z)) | (refine (have hz : Outer σ z.1 := ?_; ?_); (on_goal 1 => (unfold z; clear z)); (on_goal 2 => clear_value z)) | clear_value z)
    | with_reducible refine Outer.ite ?_ ?_
    | with_reducible refine Dev_setReg_outer ?_
    | with_reducible refine Dev_orReg_outer ?_
    | with_reducible refine Dev_incReg_outer ?_
    | with_reducible refine Dev_setCore_outer ?_
    | with_reducible refine Dev_event_outer ?_
    | with_reducible exact Outer.mk (by with_reducible assumption)
    | split
    | fail_if_no_progress beta_reduce

theorem Dev_primeTask_outer {d : Dev} {c t : Nat} {g1 g2 : Word} (h : Outer σ d) : Outer σ (Dev.primeTask d c t g1 g2) := by
  unfold Dev.primeTask
  repeat' first
    | with_reducible assumption
    | (extract_lets +onlyGivenNames z; first | (refine (have hz : Outer σ z := ?_; ?_); (on_goal 1 => (unfold z; clear z)); (on_goal 2 => clear_value z)) | (refine (have hz : Outer σ z.1 := ?_; ?_); (on_goal 1 => (unfold z; clear z)); (on_goal 2 => clear_value z)) | clear_value z)
    | with_reducible refine Dev_setTask_outer ?_
    | with_reducible exact Outer.mk (by with_reducible assumption)
    | split
    | fail_if_no_progress beta_reduce

theorem Dev_countStore_outer {d : Dev} {n : Nat} (h : Outer σ d) : Outer σ (Dev.countStore d n) := by
  unfold Dev.countStore
  repeat' first
    | with_reducible assumption
    | with_reducible refine Outer.ite ?_ ?_
    | with_reducible refine Dev_countEvent_outer ?_
    | split

theorem Dev_setSig_outer {d : Dev} {n : Nat} {s : Sig} (h : Outer σ d) : Outer σ (Dev.setSig d n s) := by
  unfold Dev.setSig
  repeat' first
    | with_reducible assumption
    | (extract_lets +onlyGivenNames z; clear_value z)
    | with_reducible exact Outer.mk (by with_reducible assumption)
    | fail_if_no_progress beta_reduce

theorem Dev_fireWrite_outer {d : Dev} {n : Nat} {changed : Bool} (h : Outer σ d) : Outer σ (Dev.fireWrite d n changed) := by
  unfold Dev.fireWrite
  repeat' first
    | with_reducible assumption
    | with_reducible refine Dev_fireTriggers_outer ?_
    | split
    | fail_if_no_progress beta_reduce

theorem Dev_sigStore_outer {d : Dev} {n : Nat} {v : Word} {valid stale : Bool} {tag : Nat} (h : Outer σ d) : Outer σ (Dev.sigStore d n v valid stale tag) := by
  unfold Dev.sigStore
  repeat' first
    | with_reducible assumption
    | (extract_lets +onlyGivenNames z; first | (refine (have hz : Outer σ z := ?_; ?_); (on_goal 1 => (unfold z; clear z)); (on_goal 2 => clear_value z)) | (refine (have hz : Outer σ z.1 := ?_; ?_); (on_goal 1 => (unfold z; clear z)); (on_goal 2 => clear_value z)) | clear_value z)
    | with_reducible refine Outer.ite ?_ ?_
    | with_reducible refine Dev_traceWrite_outer ?_
    | with_reducible refine Dev_setSig_outer ?_
    | with_reducible refine Dev_fireWrite_outer ?_
    | split
    | fail_if_no_progress beta_reduce

theorem Dev_hide_outer {d : Dev} {n : Nat} (h : Outer σ d) : Outer σ (Dev.hide d n) := by
  unfold Dev.hide
  repeat' first
    | with_reducible assumption
    | (extract_lets +onlyGivenNames z; clear_value z)
    | with_reducible exact Outer.mk (by with_reducible assumption)
    | fail_if_no_progress beta_reduce

theorem Dev_sigDiscard_outer {d : Dev} (h : Outer σ d) : Outer σ (Dev.sigDiscard d) := by
  unfold Dev.sigDiscard
  repeat' first
    | with_reducible assumption
    | with_reducible refine Dev_sigStore_outer ?_

theorem Dev_sigHome_outer {d : Dev} {n : Nat} {v : Word} {valid stale : Bool} {tag : Nat} (h : Outer σ d) : Outer σ (Dev.sigHome d n v valid stale tag) := by
  unfold Dev.sigHome
  repeat' first
    | with_reducible assumption
    | (extract_lets +onlyGivenNames z; clear_value z)
    | with_reducible refine Outer.ite ?_ ?_
    | with_reducible refine Dev_sigStore_outer ?_
    | with_reducible refine Dev_sigDiscard_outer ?_
    | with_reducible exact Outer.mk (by with_reducible assumption)
    | split
    | fail_if_no_progress beta_reduce

theorem Dev_devSig_outer {d : Dev} {n : Nat} {v : Word} {valid : Bool} {stale : Bool} (h : Outer σ d) : Outer σ (Dev.devSig d n v valid stale) := by
  unfold Dev.devSig
  repeat' first
    | with_reducible assumption
    | with_reducible refine Outer.ite ?_ ?_
    | with_reducible refine Dev_sigHome_outer ?_
    | split

theorem Dev_devNat_outer {d : Dev} {n v : Nat} (h : Outer σ d) : Outer σ (Dev.devNat d n v) := by
  unfold Dev.devNat
  repeat' first
    | with_reducible assumption
    | with_reducible refine Dev_devSig_outer ?_

theorem Dev_islandSig_outer {d : Dev} {n : Nat} {v : Word} {valid : Bool} (h : Outer σ d) : Outer σ (Dev.islandSig d n v valid) := by
  unfold Dev.islandSig
  repeat' first
    | with_reducible assumption
    | with_reducible refine Outer.ite ?_ ?_
    | with_reducible refine Dev_sigStore_outer ?_
    | split

theorem Dev_sigMirrored_outer {d : Dev} {n : Nat} {v : Word} {q : BitVec 8} (h : Outer σ d) : Outer σ (Dev.sigMirrored d n v q) := by
  unfold Dev.sigMirrored
  repeat' first
    | with_reducible assumption
    | (extract_lets +onlyGivenNames z; first | (refine (have hz : Outer σ z := ?_; ?_); (on_goal 1 => (unfold z; clear z)); (on_goal 2 => clear_value z)) | (refine (have hz : Outer σ z.1 := ?_; ?_); (on_goal 1 => (unfold z; clear z)); (on_goal 2 => clear_value z)) | clear_value z)
    | with_reducible refine Outer.ite ?_ ?_
    | with_reducible refine Dev_traceWrite_outer ?_
    | with_reducible refine Dev_countStore_outer ?_
    | with_reducible refine Dev_setSig_outer ?_
    | with_reducible refine Dev_fireWrite_outer ?_
    | with_reducible exact Outer.mk (by with_reducible assumption)
    | split
    | fail_if_no_progress beta_reduce

theorem Dev_sigQuality_outer {d : Dev} {n : Nat} {setStale clearValid : Bool} (h : Outer σ d) : Outer σ (Dev.sigQuality d n setStale clearValid) := by
  unfold Dev.sigQuality
  repeat' first
    | with_reducible assumption
    | (extract_lets +onlyGivenNames z; first | (refine (have hz : Outer σ z := ?_; ?_); (on_goal 1 => (unfold z; clear z)); (on_goal 2 => clear_value z)) | (refine (have hz : Outer σ z.1 := ?_; ?_); (on_goal 1 => (unfold z; clear z)); (on_goal 2 => clear_value z)) | clear_value z)
    | with_reducible refine Outer.ite ?_ ?_
    | with_reducible refine Dev_setSig_outer ?_
    | with_reducible exact Outer.mk (by with_reducible assumption)
    | split
    | fail_if_no_progress beta_reduce

theorem Dev_sigMark_outer {d : Dev} {n : Nat} (h : Outer σ d) : Outer σ (Dev.sigMark d n) := by
  unfold Dev.sigMark
  repeat' first
    | with_reducible assumption
    | (extract_lets +onlyGivenNames z; first | (refine (have hz : Outer σ z := ?_; ?_); (on_goal 1 => (unfold z; clear z)); (on_goal 2 => clear_value z)) | (refine (have hz : Outer σ z.1 := ?_; ?_); (on_goal 1 => (unfold z; clear z)); (on_goal 2 => clear_value z)) | clear_value z)
    | with_reducible refine Outer.ite ?_ ?_
    | with_reducible refine Dev_setSig_outer ?_
    | with_reducible exact Outer.mk (by with_reducible assumption)
    | split
    | fail_if_no_progress beta_reduce

theorem Dev_sigInit_outer {d : Dev} {n : Nat} {v : Word} (h : Outer σ d) : Outer σ (Dev.sigInit d n v) := by
  unfold Dev.sigInit
  repeat' first
    | with_reducible assumption
    | (extract_lets +onlyGivenNames z; first | (refine (have hz : Outer σ z := ?_; ?_); (on_goal 1 => (unfold z; clear z)); (on_goal 2 => clear_value z)) | (refine (have hz : Outer σ z.1 := ?_; ?_); (on_goal 1 => (unfold z; clear z)); (on_goal 2 => clear_value z)) | clear_value z)
    | with_reducible refine Outer.ite ?_ ?_
    | with_reducible refine Dev_traceWrite_outer ?_
    | with_reducible refine Dev_countStore_outer ?_
    | with_reducible refine Dev_setSig_outer ?_
    | with_reducible refine Dev_fireWrite_outer ?_
    | with_reducible refine Dev_sigDiscard_outer ?_
    | with_reducible exact Outer.mk (by with_reducible assumption)
    | split
    | fail_if_no_progress beta_reduce

theorem Dev_canInvalidate_outer {d : Dev} {c o : Nat} (h : Outer σ d) : Outer σ (Dev.canInvalidate d c o) := by
  unfold Dev.canInvalidate
  repeat' first
    | with_reducible assumption
    | with_reducible refine Dev_sigQuality_outer ?_
    | with_reducible refine Outer.foldl (fun _ _ _ => ?_) ?_
    | fail_if_no_progress beta_reduce

theorem Dev_canClearReceive_outer {d : Dev} {c : Nat} (h : Outer σ d) : Outer σ (Dev.canClearReceive d c) := by
  unfold Dev.canClearReceive
  repeat' first
    | with_reducible assumption
    | (extract_lets +onlyGivenNames z; first | (refine (have hz : Outer σ z.1 := ?_; ?_); (on_goal 1 => (unfold z; clear z)); (on_goal 2 => clear_value z)) | clear_value z)
    | with_reducible refine Dev_sigQuality_outer ?_
    | with_reducible refine Outer.foldl (fun _ _ _ => ?_) ?_
    | with_reducible refine Outer.foldl1 (fun _ _ _ => ?_) ?_
    | fail_if_no_progress beta_reduce

theorem Dev_canCfgstat_outer {d : Dev} {c code : Nat} (h : Outer σ d) : Outer σ (Dev.canCfgstat d c code) := by
  unfold Dev.canCfgstat
  repeat' first
    | with_reducible assumption
    | (extract_lets +onlyGivenNames z; first | (refine (have hz : Outer σ z := ?_; ?_); (on_goal 1 => (unfold z; clear z)); (on_goal 2 => clear_value z)) | (refine (have hz : Outer σ z.1 := ?_; ?_); (on_goal 1 => (unfold z; clear z)); (on_goal 2 => clear_value z)) | clear_value z)
    | with_reducible refine Outer.ite ?_ ?_
    | with_reducible refine Dev_setReg_outer ?_
    | with_reducible refine Dev_orReg_outer ?_
    | split
    | fail_if_no_progress beta_reduce

theorem Dev_canTxStatus_outer {d : Dev} {c o code attempts : Nat} (h : Outer σ d) : Outer σ (Dev.canTxStatus d c o code attempts) := by
  unfold Dev.canTxStatus
  repeat' first
    | with_reducible assumption
    | with_reducible refine Dev_devSig_outer ?_

theorem Dev_canTiming_outer {d : Dev} {c addr : Nat} {value : Word} (h : Outer σ d) : Outer σ (Dev.canTiming d c addr value) := by
  unfold Dev.canTiming
  repeat' first
    | with_reducible assumption
    | with_reducible refine Outer.ite ?_ ?_
    | with_reducible refine Dev_setReg_outer ?_
    | with_reducible refine Dev_canCfgstat_outer ?_
    | split

theorem Dev_canObjidWrite_outer {d : Dev} {c o : Nat} {value : Word} (h : Outer σ d) : Outer σ (Dev.canObjidWrite d c o value) := by
  unfold Dev.canObjidWrite
  repeat' first
    | with_reducible assumption
    | with_reducible refine Outer.ite ?_ ?_
    | with_reducible refine Dev_setReg_outer ?_
    | with_reducible refine Dev_canCfgstat_outer ?_
    | split

theorem Dev_spend_outer {d : Dev} {c : Nat} {x : Task} {cycles : Nat} (h : Outer σ d) : Outer σ (Dev.spend d c x cycles) := by
  unfold Dev.spend
  repeat' first
    | with_reducible assumption
    | (extract_lets +onlyGivenNames z; first | (refine (have hz : Outer σ z := ?_; ?_); (on_goal 1 => (unfold z; clear z)); (on_goal 2 => clear_value z)) | (refine (have hz : Outer σ z.1 := ?_; ?_); (on_goal 1 => (unfold z; clear z)); (on_goal 2 => clear_value z)) | clear_value z)
    | with_reducible refine Dev_setCore_outer ?_
    | with_reducible refine Dev_roundCycles_outer ?_
    | with_reducible exact Outer.mk (by with_reducible assumption)
    | split
    | fail_if_no_progress beta_reduce

theorem Dev_countRead_outer {d : Dev} {c : Nat} {tier : Tier} {sigExists : Bool} (h : Outer σ d) : Outer σ (Dev.countRead d c tier sigExists) := by
  unfold Dev.countRead
  repeat' first
    | with_reducible assumption
    | with_reducible refine Outer.ite ?_ ?_
    | with_reducible refine Dev_countEvent_outer ?_
    | split


theorem Dev_devChange_outer {d : Dev} {n : Nat} {v : Word} (h : Outer σ d) : Outer σ (Dev.devChange d n v) := by
  unfold Dev.devChange
  repeat' first
    | with_reducible assumption
    | (extract_lets +onlyGivenNames z; first | (refine (have hz : Outer σ z := ?_; ?_); (on_goal 1 => (unfold z; clear z)); (on_goal 2 => clear_value z)) | (refine (have hz : Outer σ z.1 := ?_; ?_); (on_goal 1 => (unfold z; clear z)); (on_goal 2 => clear_value z)) | clear_value z)
    | with_reducible refine Outer.ite ?_ ?_
    | with_reducible refine Dev_devSig_outer ?_
    | split
    | fail_if_no_progress beta_reduce

theorem Dev_motionSlots_outer {d : Dev} {n : Nat} (h : Outer σ d) : Outer σ (Dev.motionSlots d n) := by
  unfold Dev.motionSlots
  repeat' first
    | with_reducible assumption
    | (extract_lets +onlyGivenNames z; first | (refine (have hz : Outer σ z := ?_; ?_); (on_goal 1 => (unfold z; clear z)); (on_goal 2 => clear_value z)) | (refine (have hz : Outer σ z.1 := ?_; ?_); (on_goal 1 => (unfold z; clear z)); (on_goal 2 => clear_value z)) | clear_value z)
    | with_reducible refine Dev_devChange_outer ?_
    | with_reducible refine Outer.foldl (fun _ _ _ => ?_) ?_
    | with_reducible refine Outer.foldl1 (fun _ _ _ => ?_) ?_
    | split
    | fail_if_no_progress beta_reduce

theorem Dev_estimCheckAll_outer {d : Dev} (h : Outer σ d) : Outer σ (Dev.estimCheckAll d).1 := by
  unfold Dev.estimCheckAll
  repeat' first
    | with_reducible assumption
    | (extract_lets +onlyGivenNames z; first | (refine (have hz : Outer σ z := ?_; ?_); (on_goal 1 => (unfold z; clear z)); (on_goal 2 => clear_value z)) | (refine (have hz : Outer σ z.1 := ?_; ?_); (on_goal 1 => (unfold z; clear z)); (on_goal 2 => clear_value z)) | clear_value z)
    | with_reducible refine Dev_devNat_outer ?_
    | with_reducible refine Outer.foldl (fun _ _ _ => ?_) ?_
    | with_reducible refine Outer.foldl1 (fun _ _ _ => ?_) ?_
    | (with_reducible refine Outer.pair ?_; first | with_reducible assumption | with_reducible refine Dev_devNat_outer ?_ | with_reducible exact Outer.mk (by with_reducible assumption))
    | fail_if_no_progress beta_reduce
theorem Dev_estimCheckAll_outerEq {d : Dev} {z : Dev} {w : Bool} (e : Dev.estimCheckAll d = (z, w)) (h : Outer σ d) : Outer σ z := by
  have := Dev_estimCheckAll_outer (σ := σ) (d := d) h; rw [e] at this; exact this

theorem Dev_cycleSlots_outer {d : Dev} {n : Nat} (h : Outer σ d) : Outer σ (Dev.cycleSlots d n) := by
  unfold Dev.cycleSlots
  repeat' first
    | with_reducible assumption
    | (extract_lets +onlyGivenNames z; first | (refine (have hz : Outer σ z := ?_; ?_); (on_goal 1 => (unfold z; clear z)); (on_goal 2 => clear_value z)) | (refine (have hz : Outer σ z.1 := ?_; ?_); (on_goal 1 => (unfold z; clear z)); (on_goal 2 => clear_value z)) | clear_value z)
    | with_reducible refine Dev_devChange_outer ?_
    | with_reducible refine Outer.foldl (fun _ _ _ => ?_) ?_
    | with_reducible refine Outer.foldl1 (fun _ _ _ => ?_) ?_
    | fail_if_no_progress beta_reduce

theorem Dev_strFlag_outer {d : Dev} {p : Nat} {bits : Word} (h : Outer σ d) : Outer σ (Dev.strFlag d p bits) := by
  unfold Dev.strFlag
  repeat' first
    | with_reducible assumption
    | with_reducible refine Dev_orReg_outer ?_

theorem Dev_badUpFrame_outer {d : Dev} {p : Nat} (h : Outer σ d) : Outer σ (Dev.badUpFrame d p) := by
  unfold Dev.badUpFrame
  repeat' first
    | with_reducible assumption
    | with_reducible refine Dev_incReg_outer ?_
    | with_reducible refine Dev_eventRep_outer ?_
    | with_reducible refine Dev_strFlag_outer ?_

theorem Dev_islandChange_outer {d : Dev} {n : Nat} {v : Word} (h : Outer σ d) : Outer σ (Dev.islandChange d n v) := by
  unfold Dev.islandChange
  repeat' first
    | with_reducible assumption
    | (extract_lets +onlyGivenNames z; first | (refine (have hz : Outer σ z := ?_; ?_); (on_goal 1 => (unfold z; clear z)); (on_goal 2 => clear_value z)) | (refine (have hz : Outer σ z.1 := ?_; ?_); (on_goal 1 => (unfold z; clear z)); (on_goal 2 => clear_value z)) | clear_value z)
    | with_reducible refine Outer.ite ?_ ?_
    | with_reducible refine Dev_islandSig_outer ?_
    | split
    | fail_if_no_progress beta_reduce

theorem Dev_showSafe_outer {d : Dev} {n : Nat} (h : Outer σ d) : Outer σ (Dev.showSafe d n) := by
  unfold Dev.showSafe
  repeat' first
    | with_reducible assumption
    | (extract_lets +onlyGivenNames z; first | (refine (have hz : Outer σ z := ?_; ?_); (on_goal 1 => (unfold z; clear z)); (on_goal 2 => clear_value z)) | (refine (have hz : Outer σ z.1 := ?_; ?_); (on_goal 1 => (unfold z; clear z)); (on_goal 2 => clear_value z)) | clear_value z)
    | with_reducible refine Outer.ite ?_ ?_
    | with_reducible refine Dev_islandChange_outer ?_
    | split
    | fail_if_no_progress beta_reduce

theorem Dev_showCycle_outer {d : Dev} (h : Outer σ d) : Outer σ (Dev.showCycle d) := by
  unfold Dev.showCycle
  repeat' first
    | with_reducible assumption
    | (extract_lets +onlyGivenNames z; first | (refine (have hz : Outer σ z := ?_; ?_); (on_goal 1 => (unfold z; clear z)); (on_goal 2 => clear_value z)) | (refine (have hz : Outer σ z.1 := ?_; ?_); (on_goal 1 => (unfold z; clear z)); (on_goal 2 => clear_value z)) | clear_value z)
    | with_reducible refine Outer.ite ?_ ?_
    | with_reducible refine Dev_islandChange_outer ?_
    | with_reducible refine Outer.foldl (fun _ _ _ => ?_) ?_
    | with_reducible refine Outer.foldl1 (fun _ _ _ => ?_) ?_
    | split
    | fail_if_no_progress beta_reduce

theorem Dev_fldFlag_outer {d : Dev} {bits : Word} (h : Outer σ d) : Outer σ (Dev.fldFlag d bits) := by
  unfold Dev.fldFlag
  repeat' first
    | with_reducible assumption
    | with_reducible refine Dev_orReg_outer ?_

theorem Dev_showChannel_outer {d : Dev} {h1 : Nat} (h : Outer σ d) : Outer σ (Dev.showChannel d h1) := by
  unfold Dev.showChannel
  repeat' first
    | with_reducible assumption
    | (extract_lets +onlyGivenNames z; first | (refine (have hz : Outer σ z := ?_; ?_); (on_goal 1 => (unfold z; clear z)); (on_goal 2 => clear_value z)) | (refine (have hz : Outer σ z.1 := ?_; ?_); (on_goal 1 => (unfold z; clear z)); (on_goal 2 => clear_value z)) | clear_value z)
    | with_reducible refine Dev_devSig_outer ?_
    | fail_if_no_progress beta_reduce

theorem Dev_countTrip_outer {d : Dev} {h1 : Nat} (h : Outer σ d) : Outer σ (Dev.countTrip d h1) := by
  unfold Dev.countTrip
  repeat' first
    | with_reducible assumption
    | with_reducible refine Dev_incRegFld_outer ?_

theorem Dev_hsZero_outer {d : Dev} (h : Outer σ d) : Outer σ (Dev.hsZero d) := by
  unfold Dev.hsZero
  repeat' first
    | with_reducible assumption
    | with_reducible refine Dev_devNat_outer ?_
    | with_reducible refine Outer.foldl (fun _ _ _ => ?_) ?_
    | fail_if_no_progress beta_reduce

theorem Dev_modPlacer_outer {d : Dev} {f : Placer → Placer} (h : Outer σ d) : Outer σ (Dev.modPlacer d f) := by
  unfold Dev.modPlacer
  repeat' first
    | with_reducible assumption
    | (extract_lets +onlyGivenNames z; clear_value z)
    | with_reducible exact Outer.mk (by with_reducible assumption)
    | fail_if_no_progress beta_reduce

theorem Dev_showDoor_outer {d : Dev} {im : Image} {x : Nat} {y : DoorPl} {migs : Nat} {frame : Word} (h : Outer σ d) : Outer σ (Dev.showDoor d im x y migs frame) := by
  unfold Dev.showDoor
  repeat' first
    | with_reducible assumption
    | (extract_lets +onlyGivenNames z; first | (refine (have hz : Outer σ z := ?_; ?_); (on_goal 1 => (unfold z; clear z)); (on_goal 2 => clear_value z)) | (refine (have hz : Outer σ z.1 := ?_; ?_); (on_goal 1 => (unfold z; clear z)); (on_goal 2 => clear_value z)) | clear_value z)
    | with_reducible refine Dev_devSig_outer ?_
    | with_reducible refine Dev_devNat_outer ?_
    | with_reducible refine Outer.foldl (fun _ _ _ => ?_) ?_
    | with_reducible refine Outer.foldl1 (fun _ _ _ => ?_) ?_
    | split
    | fail_if_no_progress beta_reduce

theorem Dev_placeImage_outer {d : Dev} (h : Outer σ d) : Outer σ (Dev.placeImage d).1 := by
  unfold Dev.placeImage
  repeat' first
    | with_reducible assumption
    | (extract_lets +onlyGivenNames z; first | (refine (have hz : Outer σ z := ?_; ?_); (on_goal 1 => (unfold z; clear z)); (on_goal 2 => clear_value z)) | (refine (have hz : Outer σ z.1 := ?_; ?_); (on_goal 1 => (unfold z; clear z)); (on_goal 2 => clear_value z)) | clear_value z)
    | with_reducible refine Outer.ite ?_ ?_
    | with_reducible refine Outer.ite1 ?_ ?_
    | with_reducible refine Dev_setReg_outer ?_
    | with_reducible refine Dev_event_outer ?_
    | with_reducible refine Dev_modPlacer_outer ?_
    | with_reducible refine Dev_showDoor_outer ?_
    | with_reducible refine Outer.foldl (fun _ _ _ => ?_) ?_
    | with_reducible refine Outer.foldl1 (fun _ _ _ => ?_) ?_
    | with_reducible exact Outer.mk (by with_reducible assumption)
    | (with_reducible refine Outer.pair ?_; first | with_reducible assumption | with_reducible refine Dev_setReg_outer ?_ | with_reducible refine Dev_event_outer ?_ | with_reducible refine Dev_modPlacer_outer ?_ | with_reducible refine Dev_showDoor_outer ?_ | with_reducible exact Outer.mk (by with_reducible assumption))
    | split
    | fail_if_no_progress beta_reduce
theorem Dev_placeImage_outerEq {d : Dev} {z : Dev} {w : Nat} (e : Dev.placeImage d = (z, w)) (h : Outer σ d) : Outer σ z := by
  have := Dev_placeImage_outer (σ := σ) (d := d) h; rw [e] at this; exact this

theorem Dev_loadSystem_outer {d : Dev} {im : Image} (h : Outer σ d) : Outer σ (Dev.loadSystem d im) := by
  unfold Dev.loadSystem
  repeat' first
    | with_reducible assumption
    | with_reducible refine Dev_setTask_outer ?_
    | with_reducible refine Dev_primeTask_outer ?_
    | with_reducible refine Outer.foldl (fun _ _ _ => ?_) ?_
    | with_reducible refine Outer.foldl1 (fun _ _ _ => ?_) ?_
    | fail_if_no_progress beta_reduce

theorem Dev_beginMigration_outer {d : Dev} {im : Image} {x tgt : Nat} {cmd : Bool} (h : Outer σ d) : Outer σ (Dev.beginMigration d im x tgt cmd) := by
  unfold Dev.beginMigration
  repeat' first
    | with_reducible assumption
    | (extract_lets +onlyGivenNames z; first | (refine (have hz : Outer σ z := ?_; ?_); (on_goal 1 => (unfold z; clear z)); (on_goal 2 => clear_value z)) | (refine (have hz : Outer σ z.1 := ?_; ?_); (on_goal 1 => (unfold z; clear z)); (on_goal 2 => clear_value z)) | clear_value z)
    | with_reducible refine Dev_modPlacer_outer ?_
    | with_reducible exact Outer.mk (by with_reducible assumption)
    | split
    | fail_if_no_progress beta_reduce

theorem Dev_decideMigration_outer {d : Dev} {s : Nat} (h : Outer σ d) : Outer σ (Dev.decideMigration d s) := by
  unfold Dev.decideMigration
  repeat' first
    | with_reducible assumption
    | (extract_lets +onlyGivenNames z; first | (refine (have hz : Outer σ z := ?_; ?_); (on_goal 1 => (unfold z; clear z)); (on_goal 2 => clear_value z)) | (refine (have hz : Outer σ z.1 := ?_; ?_); (on_goal 1 => (unfold z; clear z)); (on_goal 2 => clear_value z)) | clear_value z)
    | with_reducible refine Outer.ite ?_ ?_
    | with_reducible refine Dev_orReg_outer ?_
    | with_reducible refine Dev_event_outer ?_
    | with_reducible refine Dev_modPlacer_outer ?_
    | with_reducible refine Dev_beginMigration_outer ?_
    | with_reducible exact Outer.mk (by with_reducible assumption)
    | split
    | fail_if_no_progress beta_reduce

theorem Dev_migrationDecision_outer {d : Dev} (h : Outer σ d) : Outer σ (Dev.migrationDecision d) := by
  unfold Dev.migrationDecision
  repeat' first
    | with_reducible assumption
    | (extract_lets +onlyGivenNames z; first | (refine (have hz : Outer σ z := ?_; ?_); (on_goal 1 => (unfold z; clear z)); (on_goal 2 => clear_value z)) | (refine (have hz : Outer σ z.1 := ?_; ?_); (on_goal 1 => (unfold z; clear z)); (on_goal 2 => clear_value z)) | clear_value z)
    | with_reducible refine Outer.ite ?_ ?_
    | with_reducible refine Dev_run_outer ?_
    | with_reducible refine Dev_modPlacer_outer ?_
    | with_reducible refine Dev_decideMigration_outer ?_
    | with_reducible refine Outer.foldl (fun _ _ _ => ?_) ?_
    | with_reducible exact Outer.mk (by with_reducible assumption)
    | split
    | fail_if_no_progress beta_reduce

theorem Dev_migrationTakeup_outer {d : Dev} (h : Outer σ d) : Outer σ (Dev.migrationTakeup d) := by
  unfold Dev.migrationTakeup
  repeat' first
    | with_reducible assumption
    | (extract_lets +onlyGivenNames z; first | (refine (have hz : Outer σ z := ?_; ?_); (on_goal 1 => (unfold z; clear z)); (on_goal 2 => clear_value z)) | (refine (have hz : Outer σ z.1 := ?_; ?_); (on_goal 1 => (unfold z; clear z)); (on_goal 2 => clear_value z)) | clear_value z)
    | with_reducible refine Outer.ite ?_ ?_
    | with_reducible refine Dev_modPlacer_outer ?_
    | with_reducible refine Dev_beginMigration_outer ?_
    | with_reducible exact Outer.mk (by with_reducible assumption)
    | split
    | fail_if_no_progress beta_reduce

theorem Dev_migrationRecord_outer {d : Dev} {im : Image} {m : Mig} {y : DoorPl} {code : Nat} {crc : Word} (h : Outer σ d) : Outer σ (Dev.migrationRecord d im m y code crc) := by
  unfold Dev.migrationRecord
  repeat' first
    | with_reducible assumption
    | (extract_lets +onlyGivenNames z; first | (refine (have hz : Outer σ z := ?_; ?_); (on_goal 1 => (unfold z; clear z)); (on_goal 2 => clear_value z)) | (refine (have hz : Outer σ z.1 := ?_; ?_); (on_goal 1 => (unfold z; clear z)); (on_goal 2 => clear_value z)) | clear_value z)
    | with_reducible refine Outer.ite ?_ ?_
    | with_reducible refine Dev_event_outer ?_
    | split
    | fail_if_no_progress beta_reduce

theorem Dev_closeMigration_outer {d : Dev} {m : Mig} {src code : Nat} (h : Outer σ d) : Outer σ (Dev.closeMigration d m src code) := by
  unfold Dev.closeMigration
  repeat' first
    | with_reducible assumption
    | (extract_lets +onlyGivenNames z; first | (refine (have hz : Outer σ z := ?_; ?_); (on_goal 1 => (unfold z; clear z)); (on_goal 2 => clear_value z)) | (refine (have hz : Outer σ z.1 := ?_; ?_); (on_goal 1 => (unfold z; clear z)); (on_goal 2 => clear_value z)) | clear_value z)
    | with_reducible refine Outer.ite ?_ ?_
    | with_reducible refine Dev_incReg_outer ?_
    | with_reducible refine Dev_modPlacer_outer ?_
    | with_reducible exact Outer.mk (by with_reducible assumption)
    | split
    | fail_if_no_progress beta_reduce

theorem Dev_abortMigration_outer {d : Dev} {im : Image} {m : Mig} {y : DoorPl} {code : Nat} {crc : Word} (h : Outer σ d) : Outer σ (Dev.abortMigration d im m y code crc) := by
  unfold Dev.abortMigration
  repeat' first
    | with_reducible assumption
    | with_reducible refine Dev_migrationRecord_outer ?_
    | with_reducible refine Dev_closeMigration_outer ?_

theorem Dev_moveTask_outer {d : Dev} {src t dst t' inst : Nat} (h : Outer σ d) : Outer σ (Dev.moveTask d src t dst t' inst) := by
  unfold Dev.moveTask
  repeat' first
    | with_reducible assumption
    | (extract_lets +onlyGivenNames z; first | (refine (have hz : Outer σ z := ?_; ?_); (on_goal 1 => (unfold z; clear z)); (on_goal 2 => clear_value z)) | (refine (have hz : Outer σ z.1 := ?_; ?_); (on_goal 1 => (unfold z; clear z)); (on_goal 2 => clear_value z)) | clear_value z)
    | with_reducible refine Outer.ite ?_ ?_
    | with_reducible refine Dev_setCore_outer ?_
    | with_reducible exact Outer.mk (by with_reducible assumption)
    | split
    | fail_if_no_progress beta_reduce

theorem Dev_switchDoor_outer {d : Dev} {im : Image} {m : Mig} {y : DoorPl} (h : Outer σ d) : Outer σ (Dev.switchDoor d im m y) := by
  unfold Dev.switchDoor
  repeat' first
    | with_reducible assumption
    | (extract_lets +onlyGivenNames z; first | (refine (have hz : Outer σ z := ?_; ?_); (on_goal 1 => (unfold z; clear z)); (on_goal 2 => clear_value z)) | (refine (have hz : Outer σ z.1 := ?_; ?_); (on_goal 1 => (unfold z; clear z)); (on_goal 2 => clear_value z)) | clear_value z)
    | with_reducible refine Outer.ite ?_ ?_
    | with_reducible refine Dev_setReg_outer ?_
    | with_reducible refine Dev_modPlacer_outer ?_
    | with_reducible refine Dev_showDoor_outer ?_
    | with_reducible refine Dev_moveTask_outer ?_
    | with_reducible refine Outer.foldl (fun _ _ _ => ?_) ?_
    | with_reducible refine Outer.foldl1 (fun _ _ _ => ?_) ?_
    | with_reducible exact Outer.mk (by with_reducible assumption)
    | split
    | fail_if_no_progress beta_reduce

theorem Dev_dropMigration_outer {d : Dev} (h : Outer σ d) : Outer σ (Dev.dropMigration d) := by
  unfold Dev.dropMigration
  repeat' first
    | with_reducible assumption
    | (extract_lets +onlyGivenNames z; clear_value z)
    | with_reducible refine Outer.ite ?_ ?_
    | with_reducible refine Dev_modPlacer_outer ?_
    | with_reducible refine Dev_abortMigration_outer ?_
    | with_reducible exact Outer.mk (by with_reducible assumption)
    | split
    | fail_if_no_progress beta_reduce

theorem Dev_placerRunEntry_outer {d : Dev} (h : Outer σ d) : Outer σ (Dev.placerRunEntry d) := by
  unfold Dev.placerRunEntry
  repeat' first
    | with_reducible assumption
    | (extract_lets +onlyGivenNames z; first | (refine (have hz : Outer σ z := ?_; ?_); (on_goal 1 => (unfold z; clear z)); (on_goal 2 => clear_value z)) | (refine (have hz : Outer σ z.1 := ?_; ?_); (on_goal 1 => (unfold z; clear z)); (on_goal 2 => clear_value z)) | clear_value z)
    | with_reducible refine Dev_setReg_outer ?_
    | with_reducible refine Dev_setRegFld_outer ?_
    | with_reducible refine Dev_modPlacer_outer ?_
    | with_reducible refine Outer.foldl (fun _ _ _ => ?_) ?_
    | with_reducible exact Outer.mk (by with_reducible assumption)
    | fail_if_no_progress beta_reduce

theorem Dev_pairEvent_outer {d : Dev} {code : Nat} {flag : Word} (h : Outer σ d) : Outer σ (Dev.pairEvent d code flag) := by
  unfold Dev.pairEvent
  repeat' first
    | with_reducible assumption
    | with_reducible refine Dev_setRegFld_outer ?_
    | with_reducible refine Dev_orReg_outer ?_
    | with_reducible refine Dev_event_outer ?_

theorem Dev_stopSheaves_outer {d : Dev} (h : Outer σ d) : Outer σ (Dev.stopSheaves d) := by
  unfold Dev.stopSheaves
  repeat' first
    | with_reducible assumption
    | (extract_lets +onlyGivenNames z; clear_value z)
    | with_reducible refine Outer.ite ?_ ?_
    | with_reducible exact Outer.mk (by with_reducible assumption)
    | split
    | fail_if_no_progress beta_reduce

theorem Dev_pairCfgWrite_outer {d : Dev} {v : Word} (h : Outer σ d) : Outer σ (Dev.pairCfgWrite d v) := by
  unfold Dev.pairCfgWrite
  repeat' first
    | with_reducible assumption
    | with_reducible refine Outer.ite ?_ ?_
    | with_reducible refine Dev_setReg_outer ?_
    | split

theorem Dev_mapOps_outer {d : Dev} {a n : Nat} (h : Outer σ d) : Outer σ (Dev.mapOps d a n) := by
  unfold Dev.mapOps
  repeat' first
    | with_reducible assumption
    | with_reducible refine Outer.ite ?_ ?_
    | with_reducible refine Dev_dramBytes_outer ?_
    | split

theorem Dev_copyAgain_outer {d : Dev} (h : Outer σ d) : Outer σ (Dev.copyAgain d).1 := by
  unfold Dev.copyAgain
  repeat' first
    | with_reducible assumption
    | with_reducible refine Dev_nextFree_outer ?_
    | exact Dev_nextFree_outerEq ‹_› ‹_›
    | (with_reducible refine Outer.pair ?_; first | with_reducible assumption | with_reducible refine Dev_nextFree_outer ?_ | with_reducible exact Outer.mk (by with_reducible assumption))
theorem Dev_copyAgain_outerEq {d : Dev} {z : Dev} {w : Bool} (e : Dev.copyAgain d = (z, w)) (h : Outer σ d) : Outer σ z := by
  have := Dev_copyAgain_outer (σ := σ) (d := d) h; rw [e] at this; exact this

theorem Dev_readRegLatch_outer {d : Dev} {a : Nat} (h : Outer σ d) : Outer σ (Dev.readRegLatch d a).1 := by
  unfold Dev.readRegLatch
  repeat' first
    | with_reducible assumption
    | (extract_lets +onlyGivenNames z; first | (refine (have hz : Outer σ z := ?_; ?_); (on_goal 1 => (unfold z; clear z)); (on_goal 2 => clear_value z)) | (refine (have hz : Outer σ z.1 := ?_; ?_); (on_goal 1 => (unfold z; clear z)); (on_goal 2 => clear_value z)) | clear_value z)
    | with_reducible refine Outer.ite ?_ ?_
    | with_reducible refine Outer.ite1 ?_ ?_
    | with_reducible exact Outer.mk (by with_reducible assumption)
    | (with_reducible refine Outer.pair ?_; first | with_reducible assumption | with_reducible exact Outer.mk (by with_reducible assumption))
    | split
    | fail_if_no_progress beta_reduce
theorem Dev_readRegLatch_outerEq {d : Dev} {a : Nat} {z : Dev} {w : Word} (e : Dev.readRegLatch d a = (z, w)) (h : Outer σ d) : Outer σ z := by
  have := Dev_readRegLatch_outer (σ := σ) (d := d) (a := a) h; rw [e] at this; exact this

theorem Dev_plcCtrlWrite_outer {d : Dev} {value : Word} (h : Outer σ d) : Outer σ (Dev.plcCtrlWrite d value) := by
  unfold Dev.plcCtrlWrite
  repeat' first
    | with_reducible assumption
    | (extract_lets +onlyGivenNames z; first | (refine (have hz : Outer σ z := ?_; ?_); (on_goal 1 => (unfold z; clear z)); (on_goal 2 => clear_value z)) | (refine (have hz : Outer σ z.1 := ?_; ?_); (on_goal 1 => (unfold z; clear z)); (on_goal 2 => clear_value z)) | clear_value z)
    | with_reducible refine Outer.ite ?_ ?_
    | with_reducible refine Dev_setReg_outer ?_
    | with_reducible refine Dev_modPlacer_outer ?_
    | with_reducible exact Outer.mk (by with_reducible assumption)
    | split
    | fail_if_no_progress beta_reduce

theorem Dev_trcCfgWrite_outer {d : Dev} {value : Word} (h : Outer σ d) : Outer σ (Dev.trcCfgWrite d value) := by
  unfold Dev.trcCfgWrite
  repeat' first
    | with_reducible assumption
    | (extract_lets +onlyGivenNames z; first | (refine (have hz : Outer σ z := ?_; ?_); (on_goal 1 => (unfold z; clear z)); (on_goal 2 => clear_value z)) | (refine (have hz : Outer σ z.1 := ?_; ?_); (on_goal 1 => (unfold z; clear z)); (on_goal 2 => clear_value z)) | clear_value z)
    | with_reducible refine Outer.ite ?_ ?_
    | with_reducible refine Dev_setReg_outer ?_
    | with_reducible refine Dev_flushBranches_outer ?_
    | split
    | fail_if_no_progress beta_reduce

theorem Dev_vhpRegRead_outer {d : Dev} {q : VReq} (h : Outer σ d) : Outer σ (Dev.vhpRegRead d q).1 := by
  unfold Dev.vhpRegRead
  repeat' first
    | with_reducible assumption
    | (extract_lets +onlyGivenNames z; first | (refine (have hz : Outer σ z := ?_; ?_); (on_goal 1 => (unfold z; clear z)); (on_goal 2 => clear_value z)) | (refine (have hz : Outer σ z.1 := ?_; ?_); (on_goal 1 => (unfold z; clear z)); (on_goal 2 => clear_value z)) | clear_value z)
    | with_reducible refine Outer.ite ?_ ?_
    | with_reducible refine Outer.ite1 ?_ ?_
    | with_reducible refine Dev_readRegLatch_outer ?_
    | exact Dev_readRegLatch_outerEq ‹_› ‹_›
    | with_reducible refine Outer.foldl (fun _ _ _ => ?_) ?_
    | with_reducible refine Outer.foldl1 (fun _ _ _ => ?_) ?_
    | (with_reducible refine Outer.pair ?_; first | with_reducible assumption | with_reducible refine Dev_readRegLatch_outer ?_ | with_reducible exact Outer.mk (by with_reducible assumption))
    | split
    | fail_if_no_progress beta_reduce
theorem Dev_vhpRegRead_outerEq {d : Dev} {q : VReq} {z : Dev} {w : Nat × List Byte} (e : Dev.vhpRegRead d q = (z, w)) (h : Outer σ d) : Outer σ z := by
  have := Dev_vhpRegRead_outer (σ := σ) (d := d) (q := q) h; rw [e] at this; exact this

theorem Dev_vhpIdent_outer {d : Dev} {u9 : VReq} (h : Outer σ d) : Outer σ (Dev.vhpIdent d u9).1 := by
  unfold Dev.vhpIdent
  repeat' first
    | with_reducible assumption
    | (with_reducible refine Outer.pair ?_; first | with_reducible assumption | with_reducible exact Outer.mk (by with_reducible assumption))
theorem Dev_vhpIdent_outerEq {d : Dev} {u9 : VReq} {z : Dev} {w : Nat × List Byte} (e : Dev.vhpIdent d u9 = (z, w)) (h : Outer σ d) : Outer σ z := by
  have := Dev_vhpIdent_outer (σ := σ) (d := d) (u9 := u9) h; rw [e] at this; exact this

theorem Dev_vhpSigRead_outer {d : Dev} {q : VReq} (h : Outer σ d) : Outer σ (Dev.vhpSigRead d q).1 := by
  unfold Dev.vhpSigRead
  repeat' first
    | with_reducible assumption
    | (extract_lets +onlyGivenNames z; first | (refine (have hz : Outer σ z := ?_; ?_); (on_goal 1 => (unfold z; clear z)); (on_goal 2 => clear_value z)) | (refine (have hz : Outer σ z.1 := ?_; ?_); (on_goal 1 => (unfold z; clear z)); (on_goal 2 => clear_value z)) | clear_value z)
    | with_reducible refine Outer.ite ?_ ?_
    | with_reducible refine Outer.ite1 ?_ ?_
    | with_reducible refine Dev_countStore_outer ?_
    | with_reducible refine Outer.foldl (fun _ _ _ => ?_) ?_
    | with_reducible refine Outer.foldl1 (fun _ _ _ => ?_) ?_
    | (with_reducible refine Outer.pair ?_; first | with_reducible assumption | with_reducible refine Dev_countStore_outer ?_ | with_reducible exact Outer.mk (by with_reducible assumption))
    | split
    | fail_if_no_progress beta_reduce
theorem Dev_vhpSigRead_outerEq {d : Dev} {q : VReq} {z : Dev} {w : Nat × List Byte} (e : Dev.vhpSigRead d q = (z, w)) (h : Outer σ d) : Outer σ z := by
  have := Dev_vhpSigRead_outer (σ := σ) (d := d) (q := q) h; rw [e] at this; exact this

theorem Dev_hostWrite_outer {d : Dev} {n : Nat} {v : Word} {valid : Bool} (h : Outer σ d) : Outer σ (Dev.hostWrite d n v valid).1 := by
  unfold Dev.hostWrite
  repeat' first
    | with_reducible assumption
    | (extract_lets +onlyGivenNames z; first | (refine (have hz : Outer σ z := ?_; ?_); (on_goal 1 => (unfold z; clear z)); (on_goal 2 => clear_value z)) | (refine (have hz : Outer σ z.1 := ?_; ?_); (on_goal 1 => (unfold z; clear z)); (on_goal 2 => clear_value z)) | clear_value z)
    | with_reducible refine Outer.ite ?_ ?_
    | with_reducible refine Outer.ite1 ?_ ?_
    | with_reducible refine Dev_countStore_outer ?_
    | with_reducible refine Dev_sigStore_outer ?_
    | with_reducible exact Outer.mk (by with_reducible assumption)
    | (with_reducible refine Outer.pair ?_; first | with_reducible assumption | with_reducible refine Dev_countStore_outer ?_ | with_reducible refine Dev_sigStore_outer ?_ | with_reducible exact Outer.mk (by with_reducible assumption))
    | split
    | fail_if_no_progress beta_reduce
theorem Dev_hostWrite_outerEq {d : Dev} {n : Nat} {v : Word} {valid : Bool} {z : Dev} {w : Nat} (e : Dev.hostWrite d n v valid = (z, w)) (h : Outer σ d) : Outer σ z := by
  have := Dev_hostWrite_outer (σ := σ) (d := d) (n := n) (v := v) (valid := valid) h; rw [e] at this; exact this


theorem Dev_hostRelease_outer {d : Dev} {n : Nat} (h : Outer σ d) : Outer σ (Dev.hostRelease d n).1 := by
  unfold Dev.hostRelease
  repeat' first
    | with_reducible assumption
    | (extract_lets +onlyGivenNames z; first | (refine (have hz : Outer σ z := ?_; ?_); (on_goal 1 => (unfold z; clear z)); (on_goal 2 => clear_value z)) | (refine (have hz : Outer σ z.1 := ?_; ?_); (on_goal 1 => (unfold z; clear z)); (on_goal 2 => clear_value z)) | clear_value z)
    | with_reducible refine Outer.ite ?_ ?_
    | with_reducible refine Outer.ite1 ?_ ?_
    | with_reducible refine Dev_countStore_outer ?_
    | with_reducible refine Dev_setSig_outer ?_
    | with_reducible exact Outer.mk (by with_reducible assumption)
    | (with_reducible refine Outer.pair ?_; first | with_reducible assumption | with_reducible refine Dev_countStore_outer ?_ | with_reducible refine Dev_setSig_outer ?_ | with_reducible exact Outer.mk (by with_reducible assumption))
    | split
    | fail_if_no_progress beta_reduce
theorem Dev_hostRelease_outerEq {d : Dev} {n : Nat} {z : Dev} {w : Nat} (e : Dev.hostRelease d n = (z, w)) (h : Outer σ d) : Outer σ z := by
  have := Dev_hostRelease_outer (σ := σ) (d := d) (n := n) h; rw [e] at this; exact this

theorem Dev_modSys_outer {d : Dev} {f : Sys → Sys} (h : Outer σ d) : Outer σ (Dev.modSys d f) := by
  unfold Dev.modSys
  repeat' first
    | with_reducible assumption
    | (extract_lets +onlyGivenNames z; clear_value z)
    | with_reducible exact Outer.mk (by with_reducible assumption)
    | fail_if_no_progress beta_reduce

theorem Dev_showPower_outer {d : Dev} (h : Outer σ d) : Outer σ (Dev.showPower d) := by
  unfold Dev.showPower
  repeat' first
    | with_reducible assumption
    | with_reducible refine Dev_devSig_outer ?_

theorem Dev_motionCheckAll_outer {d : Dev} (h : Outer σ d) : Outer σ (Dev.motionCheckAll d).1 := by
  unfold Dev.motionCheckAll
  repeat' first
    | with_reducible assumption
    | (extract_lets +onlyGivenNames z; first | (refine (have hz : Outer σ z := ?_; ?_); (on_goal 1 => (unfold z; clear z)); (on_goal 2 => clear_value z)) | (refine (have hz : Outer σ z.1 := ?_; ?_); (on_goal 1 => (unfold z; clear z)); (on_goal 2 => clear_value z)) | clear_value z)
    | with_reducible refine Dev_setReg_outer ?_
    | with_reducible refine Dev_orReg_outer ?_
    | with_reducible refine Dev_devNat_outer ?_
    | with_reducible refine Outer.foldl (fun _ _ _ => ?_) ?_
    | with_reducible refine Outer.foldl1 (fun _ _ _ => ?_) ?_
    | (with_reducible refine Outer.pair ?_; first | with_reducible assumption | with_reducible refine Dev_setReg_outer ?_ | with_reducible refine Dev_orReg_outer ?_ | with_reducible refine Dev_devNat_outer ?_ | with_reducible exact Outer.mk (by with_reducible assumption))
    | fail_if_no_progress beta_reduce
theorem Dev_motionCheckAll_outerEq {d : Dev} {z : Dev} {w : Bool} (e : Dev.motionCheckAll d = (z, w)) (h : Outer σ d) : Outer σ z := by
  have := Dev_motionCheckAll_outer (σ := σ) (d := d) h; rw [e] at this; exact this

theorem Dev_runChecks_outer {d : Dev} (h : Outer σ d) : Outer σ (Dev.runChecks d).1 := by
  unfold Dev.runChecks
  repeat' first
    | with_reducible assumption
    | (extract_lets +onlyGivenNames z; first | (refine (have hz : Outer σ z := ?_; ?_); (on_goal 1 => (unfold z; clear z)); (on_goal 2 => clear_value z)) | (refine (have hz : Outer σ z.1 := ?_; ?_); (on_goal 1 => (unfold z; clear z)); (on_goal 2 => clear_value z)) | clear_value z)
    | with_reducible refine Outer.ite ?_ ?_
    | with_reducible refine Outer.ite1 ?_ ?_
    | with_reducible refine Dev_estimCheckAll_outer ?_
    | exact Dev_estimCheckAll_outerEq ‹_› ‹_›
    | with_reducible refine Dev_placeImage_outer ?_
    | exact Dev_placeImage_outerEq ‹_› ‹_›
    | with_reducible refine Dev_motionCheckAll_outer ?_
    | exact Dev_motionCheckAll_outerEq ‹_› ‹_›
    | (with_reducible refine Outer.pair ?_; first | with_reducible assumption | with_reducible refine Dev_estimCheckAll_outer ?_ | with_reducible refine Dev_placeImage_outer ?_ | with_reducible refine Dev_motionCheckAll_outer ?_ | with_reducible exact Outer.mk (by with_reducible assumption))
    | split
    | fail_if_no_progress beta_reduce
theorem Dev_runChecks_outerEq {d : Dev} {z : Dev} {w : Nat} (e : Dev.runChecks d = (z, w)) (h : Outer σ d) : Outer σ z := by
  have := Dev_runChecks_outer (σ := σ) (d := d) h; rw [e] at this; exact this

theorem Dev_startRound_outer {d : Dev} {c : Nat} (h : Outer σ d) : Outer σ (Dev.startRound d c) := by
  unfold Dev.startRound
  repeat' first
    | with_reducible assumption
    | (extract_lets +onlyGivenNames z; first | (refine (have hz : Outer σ z := ?_; ?_); (on_goal 1 => (unfold z; clear z)); (on_goal 2 => clear_value z)) | (refine (have hz : Outer σ z.1 := ?_; ?_); (on_goal 1 => (unfold z; clear z)); (on_goal 2 => clear_value z)) | clear_value z)
    | with_reducible refine Outer.ite ?_ ?_
    | with_reducible refine Dev_setCore_outer ?_
    | with_reducible refine Dev_setTask_outer ?_
    | with_reducible refine Dev_countEvent_outer ?_
    | with_reducible refine Dev_primeTask_outer ?_
    | with_reducible refine Outer.foldl (fun _ _ _ => ?_) ?_
    | with_reducible refine Outer.foldl1 (fun _ _ _ => ?_) ?_
    | with_reducible exact Outer.mk (by with_reducible assumption)
    | split
    | fail_if_no_progress beta_reduce

theorem Dev_loadParams_outer {d : Dev} {im : Image} (h : Outer σ d) : Outer σ (Dev.loadParams d im) := by
  unfold Dev.loadParams
  repeat' first
    | with_reducible assumption
    | with_reducible refine Dev_setSig_outer ?_
    | with_reducible refine Outer.foldl (fun _ _ _ => ?_) ?_
    | with_reducible refine Outer.foldl1 (fun _ _ _ => ?_) ?_
    | fail_if_no_progress beta_reduce

theorem Dev_commitAll_outer {d : Dev} (h : Outer σ d) : Outer σ (Dev.commitAll d) := by
  unfold Dev.commitAll
  repeat' first
    | with_reducible assumption
    | with_reducible refine Dev_commitRecord_outer ?_
    | with_reducible refine Outer.foldl (fun _ _ _ => ?_) ?_
    | fail_if_no_progress beta_reduce

theorem Dev_roastResult_outer {d : Dev} {result code test : Nat} {map ms : Nat} (h : Outer σ d) : Outer σ (Dev.roastResult d result code test map ms) := by
  unfold Dev.roastResult
  repeat' first
    | with_reducible assumption
    | with_reducible refine Dev_setReg_outer ?_

theorem Dev_flushFaults_outer {d : Dev} {c : Nat} (h : Outer σ d) : Outer σ (Dev.flushFaults d c) := by
  unfold Dev.flushFaults
  repeat' first
    | with_reducible assumption
    | (extract_lets +onlyGivenNames z; first | (refine (have hz : Outer σ z := ?_; ?_); (on_goal 1 => (unfold z; clear z)); (on_goal 2 => clear_value z)) | (refine (have hz : Outer σ z.1 := ?_; ?_); (on_goal 1 => (unfold z; clear z)); (on_goal 2 => clear_value z)) | clear_value z)
    | with_reducible refine Outer.ite ?_ ?_
    | with_reducible refine Dev_setCore_outer ?_
    | with_reducible refine Dev_event_outer ?_
    | with_reducible refine Outer.foldl (fun _ _ _ => ?_) ?_
    | with_reducible refine Outer.foldl1 (fun _ _ _ => ?_) ?_
    | with_reducible exact Outer.mk (by with_reducible assumption)
    | split
    | fail_if_no_progress beta_reduce

theorem Dev_closeTick_outer {d : Dev} (h : Outer σ d) : Outer σ (Dev.closeTick d) := by
  unfold Dev.closeTick
  repeat' first
    | with_reducible assumption
    | (extract_lets +onlyGivenNames z; first | (refine (have hz : Outer σ z := ?_; ?_); (on_goal 1 => (unfold z; clear z)); (on_goal 2 => clear_value z)) | (refine (have hz : Outer σ z.1 := ?_; ?_); (on_goal 1 => (unfold z; clear z)); (on_goal 2 => clear_value z)) | clear_value z)
    | with_reducible refine Dev_modPlacer_outer ?_
    | with_reducible exact Outer.mk (by with_reducible assumption)
    | fail_if_no_progress beta_reduce

theorem Dev_extendRound_outer {d : Dev} {c : Nat} (h : Outer σ d) : Outer σ (Dev.extendRound d c) := by
  unfold Dev.extendRound
  repeat' first
    | with_reducible assumption
    | (extract_lets +onlyGivenNames z; first | (refine (have hz : Outer σ z := ?_; ?_); (on_goal 1 => (unfold z; clear z)); (on_goal 2 => clear_value z)) | (refine (have hz : Outer σ z.1 := ?_; ?_); (on_goal 1 => (unfold z; clear z)); (on_goal 2 => clear_value z)) | clear_value z)
    | with_reducible refine Outer.ite ?_ ?_
    | with_reducible refine Dev_orReg_outer ?_
    | with_reducible refine Dev_setCore_outer ?_
    | with_reducible exact Outer.mk (by with_reducible assumption)
    | split
    | fail_if_no_progress beta_reduce

theorem Dev_openRound_outer {d : Dev} {c : Nat} (h : Outer σ d) : Outer σ (Dev.openRound d c) := by
  unfold Dev.openRound
  repeat' first
    | with_reducible assumption
    | (extract_lets +onlyGivenNames z; first | (refine (have hz : Outer σ z := ?_; ?_); (on_goal 1 => (unfold z; clear z)); (on_goal 2 => clear_value z)) | (refine (have hz : Outer σ z.1 := ?_; ?_); (on_goal 1 => (unfold z; clear z)); (on_goal 2 => clear_value z)) | clear_value z)
    | with_reducible refine Outer.ite ?_ ?_
    | with_reducible refine Dev_wakeFrame_outer ?_
    | with_reducible refine Dev_startRound_outer ?_
    | with_reducible refine Dev_extendRound_outer ?_
    | split
    | fail_if_no_progress beta_reduce

theorem Dev_reportLoad_outer {d : Dev} {c : Nat} (h : Outer σ d) : Outer σ (Dev.reportLoad d c) := by
  unfold Dev.reportLoad
  repeat' first
    | with_reducible assumption
    | (extract_lets +onlyGivenNames z; first | (refine (have hz : Outer σ z := ?_; ?_); (on_goal 1 => (unfold z; clear z)); (on_goal 2 => clear_value z)) | (refine (have hz : Outer σ z.1 := ?_; ?_); (on_goal 1 => (unfold z; clear z)); (on_goal 2 => clear_value z)) | clear_value z)
    | with_reducible refine Outer.ite ?_ ?_
    | with_reducible refine Dev_setRegFld_outer ?_
    | with_reducible refine Dev_devNat_outer ?_
    | with_reducible refine Dev_modPlacer_outer ?_
    | with_reducible exact Outer.mk (by with_reducible assumption)
    | split
    | fail_if_no_progress beta_reduce

theorem Dev_yieldToCoarse_outer {d : Dev} {c : Nat} (h : Outer σ d) : Outer σ (Dev.yieldToCoarse d c) := by
  unfold Dev.yieldToCoarse
  repeat' first
    | with_reducible assumption
    | (extract_lets +onlyGivenNames z; first | (refine (have hz : Outer σ z := ?_; ?_); (on_goal 1 => (unfold z; clear z)); (on_goal 2 => clear_value z)) | (refine (have hz : Outer σ z.1 := ?_; ?_); (on_goal 1 => (unfold z; clear z)); (on_goal 2 => clear_value z)) | clear_value z)
    | with_reducible refine Outer.ite ?_ ?_
    | with_reducible refine Dev_event_outer ?_
    | with_reducible refine Dev_choose_outer ?_
    | with_reducible refine Dev_preempt_outer ?_
    | split
    | fail_if_no_progress beta_reduce

end Sys2Proof.Machine
end

