-- ==== Sys2Proof/Laws/State.lean ====
section
/-! SUPPORT. One lemma for each part of the module and each of its named updates: the part is as it was, or holds what was put there.
No proof need unfold a record update. -/

namespace Sys2Proof.Machine

/-! Dev.setReg -/

@[simp] theorem setReg_sys (d : Dev) (a : Nat) (v : Word) : (d.setReg a v).sys = d.sys := rfl
@[simp] theorem setReg_image (d : Dev) (a : Nat) (v : Word) : (d.setReg a v).image = d.image := rfl
@[simp] theorem setReg_sigs (d : Dev) (a : Nat) (v : Word) : (d.setReg a v).sigs = d.sigs := rfl
@[simp] theorem setReg_summary (d : Dev) (a : Nat) (v : Word) : (d.setReg a v).summary = d.summary := rfl
@[simp] theorem setReg_hidden (d : Dev) (a : Nat) (v : Word) : (d.setReg a v).hidden = d.hidden := rfl
@[simp] theorem setReg_cores (d : Dev) (a : Nat) (v : Word) : (d.setReg a v).cores = d.cores := rfl
@[simp] theorem setReg_halted (d : Dev) (a : Nat) (v : Word) : (d.setReg a v).halted = d.halted := rfl
@[simp] theorem setReg_rstReq (d : Dev) (a : Nat) (v : Word) : (d.setReg a v).rstReq = d.rstReq := rfl
@[simp] theorem setReg_axes (d : Dev) (a : Nat) (v : Word) : (d.setReg a v).axes = d.axes := rfl
@[simp] theorem setReg_doorCyc (d : Dev) (a : Nat) (v : Word) : (d.setReg a v).doorCyc = d.doorCyc := rfl
@[simp] theorem setReg_promos (d : Dev) (a : Nat) (v : Word) : (d.setReg a v).promos = d.promos := rfl
@[simp] theorem setReg_placer (d : Dev) (a : Nat) (v : Word) : (d.setReg a v).placer = d.placer := rfl
@[simp] theorem setReg_ports (d : Dev) (a : Nat) (v : Word) : (d.setReg a v).ports = d.ports := rfl
@[simp] theorem setReg_queues (d : Dev) (a : Nat) (v : Word) : (d.setReg a v).queues = d.queues := rfl
@[simp] theorem setReg_island (d : Dev) (a : Nat) (v : Word) : (d.setReg a v).island = d.island := rfl
@[simp] theorem setReg_field (d : Dev) (a : Nat) (v : Word) : (d.setReg a v).field = d.field := rfl
@[simp] theorem setReg_pair (d : Dev) (a : Nat) (v : Word) : (d.setReg a v).pair = d.pair := rfl
@[simp] theorem setReg_host (d : Dev) (a : Nat) (v : Word) : (d.setReg a v).host = d.host := rfl
@[simp] theorem setReg_cans (d : Dev) (a : Nat) (v : Word) : (d.setReg a v).cans = d.cans := rfl
@[simp] theorem setReg_recorder (d : Dev) (a : Nat) (v : Word) : (d.setReg a v).recorder = d.recorder := rfl
@[simp] theorem setReg_upd (d : Dev) (a : Nat) (v : Word) : (d.setReg a v).upd = d.upd := rfl
@[simp] theorem setReg_trace (d : Dev) (a : Nat) (v : Word) : (d.setReg a v).trace = d.trace := rfl

/-! Dev.setRegFld -/

@[simp] theorem setRegFld_sys (d : Dev) (a lo width v : Nat) : (d.setRegFld a lo width v).sys = d.sys := rfl
@[simp] theorem setRegFld_image (d : Dev) (a lo width v : Nat) : (d.setRegFld a lo width v).image = d.image := rfl
@[simp] theorem setRegFld_sigs (d : Dev) (a lo width v : Nat) : (d.setRegFld a lo width v).sigs = d.sigs := rfl
@[simp] theorem setRegFld_summary (d : Dev) (a lo width v : Nat) : (d.setRegFld a lo width v).summary = d.summary := rfl
@[simp] theorem setRegFld_hidden (d : Dev) (a lo width v : Nat) : (d.setRegFld a lo width v).hidden = d.hidden := rfl
@[simp] theorem setRegFld_cores (d : Dev) (a lo width v : Nat) : (d.setRegFld a lo width v).cores = d.cores := rfl
@[simp] theorem setRegFld_halted (d : Dev) (a lo width v : Nat) : (d.setRegFld a lo width v).halted = d.halted := rfl
@[simp] theorem setRegFld_rstReq (d : Dev) (a lo width v : Nat) : (d.setRegFld a lo width v).rstReq = d.rstReq := rfl
@[simp] theorem setRegFld_axes (d : Dev) (a lo width v : Nat) : (d.setRegFld a lo width v).axes = d.axes := rfl
@[simp] theorem setRegFld_doorCyc (d : Dev) (a lo width v : Nat) : (d.setRegFld a lo width v).doorCyc = d.doorCyc := rfl
@[simp] theorem setRegFld_promos (d : Dev) (a lo width v : Nat) : (d.setRegFld a lo width v).promos = d.promos := rfl
@[simp] theorem setRegFld_placer (d : Dev) (a lo width v : Nat) : (d.setRegFld a lo width v).placer = d.placer := rfl
@[simp] theorem setRegFld_ports (d : Dev) (a lo width v : Nat) : (d.setRegFld a lo width v).ports = d.ports := rfl
@[simp] theorem setRegFld_queues (d : Dev) (a lo width v : Nat) : (d.setRegFld a lo width v).queues = d.queues := rfl
@[simp] theorem setRegFld_island (d : Dev) (a lo width v : Nat) : (d.setRegFld a lo width v).island = d.island := rfl
@[simp] theorem setRegFld_field (d : Dev) (a lo width v : Nat) : (d.setRegFld a lo width v).field = d.field := rfl
@[simp] theorem setRegFld_pair (d : Dev) (a lo width v : Nat) : (d.setRegFld a lo width v).pair = d.pair := rfl
@[simp] theorem setRegFld_host (d : Dev) (a lo width v : Nat) : (d.setRegFld a lo width v).host = d.host := rfl
@[simp] theorem setRegFld_cans (d : Dev) (a lo width v : Nat) : (d.setRegFld a lo width v).cans = d.cans := rfl
@[simp] theorem setRegFld_recorder (d : Dev) (a lo width v : Nat) : (d.setRegFld a lo width v).recorder = d.recorder := rfl
@[simp] theorem setRegFld_upd (d : Dev) (a lo width v : Nat) : (d.setRegFld a lo width v).upd = d.upd := rfl
@[simp] theorem setRegFld_trace (d : Dev) (a lo width v : Nat) : (d.setRegFld a lo width v).trace = d.trace := rfl

/-! Dev.orReg -/

@[simp] theorem orReg_sys (d : Dev) (a : Nat) (v : Word) : (d.orReg a v).sys = d.sys := rfl
@[simp] theorem orReg_image (d : Dev) (a : Nat) (v : Word) : (d.orReg a v).image = d.image := rfl
@[simp] theorem orReg_sigs (d : Dev) (a : Nat) (v : Word) : (d.orReg a v).sigs = d.sigs := rfl
@[simp] theorem orReg_summary (d : Dev) (a : Nat) (v : Word) : (d.orReg a v).summary = d.summary := rfl
@[simp] theorem orReg_hidden (d : Dev) (a : Nat) (v : Word) : (d.orReg a v).hidden = d.hidden := rfl
@[simp] theorem orReg_cores (d : Dev) (a : Nat) (v : Word) : (d.orReg a v).cores = d.cores := rfl
@[simp] theorem orReg_halted (d : Dev) (a : Nat) (v : Word) : (d.orReg a v).halted = d.halted := rfl
@[simp] theorem orReg_rstReq (d : Dev) (a : Nat) (v : Word) : (d.orReg a v).rstReq = d.rstReq := rfl
@[simp] theorem orReg_axes (d : Dev) (a : Nat) (v : Word) : (d.orReg a v).axes = d.axes := rfl
@[simp] theorem orReg_doorCyc (d : Dev) (a : Nat) (v : Word) : (d.orReg a v).doorCyc = d.doorCyc := rfl
@[simp] theorem orReg_promos (d : Dev) (a : Nat) (v : Word) : (d.orReg a v).promos = d.promos := rfl
@[simp] theorem orReg_placer (d : Dev) (a : Nat) (v : Word) : (d.orReg a v).placer = d.placer := rfl
@[simp] theorem orReg_ports (d : Dev) (a : Nat) (v : Word) : (d.orReg a v).ports = d.ports := rfl
@[simp] theorem orReg_queues (d : Dev) (a : Nat) (v : Word) : (d.orReg a v).queues = d.queues := rfl
@[simp] theorem orReg_island (d : Dev) (a : Nat) (v : Word) : (d.orReg a v).island = d.island := rfl
@[simp] theorem orReg_field (d : Dev) (a : Nat) (v : Word) : (d.orReg a v).field = d.field := rfl
@[simp] theorem orReg_pair (d : Dev) (a : Nat) (v : Word) : (d.orReg a v).pair = d.pair := rfl
@[simp] theorem orReg_host (d : Dev) (a : Nat) (v : Word) : (d.orReg a v).host = d.host := rfl
@[simp] theorem orReg_cans (d : Dev) (a : Nat) (v : Word) : (d.orReg a v).cans = d.cans := rfl
@[simp] theorem orReg_recorder (d : Dev) (a : Nat) (v : Word) : (d.orReg a v).recorder = d.recorder := rfl
@[simp] theorem orReg_upd (d : Dev) (a : Nat) (v : Word) : (d.orReg a v).upd = d.upd := rfl
@[simp] theorem orReg_trace (d : Dev) (a : Nat) (v : Word) : (d.orReg a v).trace = d.trace := rfl

/-! Dev.incReg -/

@[simp] theorem incReg_sys (d : Dev) (a : Nat) : (d.incReg a).sys = d.sys := rfl
@[simp] theorem incReg_image (d : Dev) (a : Nat) : (d.incReg a).image = d.image := rfl
@[simp] theorem incReg_sigs (d : Dev) (a : Nat) : (d.incReg a).sigs = d.sigs := rfl
@[simp] theorem incReg_summary (d : Dev) (a : Nat) : (d.incReg a).summary = d.summary := rfl
@[simp] theorem incReg_hidden (d : Dev) (a : Nat) : (d.incReg a).hidden = d.hidden := rfl
@[simp] theorem incReg_cores (d : Dev) (a : Nat) : (d.incReg a).cores = d.cores := rfl
@[simp] theorem incReg_halted (d : Dev) (a : Nat) : (d.incReg a).halted = d.halted := rfl
@[simp] theorem incReg_rstReq (d : Dev) (a : Nat) : (d.incReg a).rstReq = d.rstReq := rfl
@[simp] theorem incReg_axes (d : Dev) (a : Nat) : (d.incReg a).axes = d.axes := rfl
@[simp] theorem incReg_doorCyc (d : Dev) (a : Nat) : (d.incReg a).doorCyc = d.doorCyc := rfl
@[simp] theorem incReg_promos (d : Dev) (a : Nat) : (d.incReg a).promos = d.promos := rfl
@[simp] theorem incReg_placer (d : Dev) (a : Nat) : (d.incReg a).placer = d.placer := rfl
@[simp] theorem incReg_ports (d : Dev) (a : Nat) : (d.incReg a).ports = d.ports := rfl
@[simp] theorem incReg_queues (d : Dev) (a : Nat) : (d.incReg a).queues = d.queues := rfl
@[simp] theorem incReg_island (d : Dev) (a : Nat) : (d.incReg a).island = d.island := rfl
@[simp] theorem incReg_field (d : Dev) (a : Nat) : (d.incReg a).field = d.field := rfl
@[simp] theorem incReg_pair (d : Dev) (a : Nat) : (d.incReg a).pair = d.pair := rfl
@[simp] theorem incReg_host (d : Dev) (a : Nat) : (d.incReg a).host = d.host := rfl
@[simp] theorem incReg_cans (d : Dev) (a : Nat) : (d.incReg a).cans = d.cans := rfl
@[simp] theorem incReg_recorder (d : Dev) (a : Nat) : (d.incReg a).recorder = d.recorder := rfl
@[simp] theorem incReg_upd (d : Dev) (a : Nat) : (d.incReg a).upd = d.upd := rfl
@[simp] theorem incReg_trace (d : Dev) (a : Nat) : (d.incReg a).trace = d.trace := rfl

/-! Dev.setAxis -/

@[simp] theorem setAxis_sys (d : Dev) (n : Nat) (x : Axis) : (d.setAxis n x).sys = d.sys := rfl
@[simp] theorem setAxis_image (d : Dev) (n : Nat) (x : Axis) : (d.setAxis n x).image = d.image := rfl
@[simp] theorem setAxis_regs (d : Dev) (n : Nat) (x : Axis) : (d.setAxis n x).regs = d.regs := rfl
@[simp] theorem setAxis_sigs (d : Dev) (n : Nat) (x : Axis) : (d.setAxis n x).sigs = d.sigs := rfl
@[simp] theorem setAxis_summary (d : Dev) (n : Nat) (x : Axis) : (d.setAxis n x).summary = d.summary := rfl
@[simp] theorem setAxis_hidden (d : Dev) (n : Nat) (x : Axis) : (d.setAxis n x).hidden = d.hidden := rfl
@[simp] theorem setAxis_cores (d : Dev) (n : Nat) (x : Axis) : (d.setAxis n x).cores = d.cores := rfl
@[simp] theorem setAxis_halted (d : Dev) (n : Nat) (x : Axis) : (d.setAxis n x).halted = d.halted := rfl
@[simp] theorem setAxis_rstReq (d : Dev) (n : Nat) (x : Axis) : (d.setAxis n x).rstReq = d.rstReq := rfl
@[simp] theorem setAxis_doorCyc (d : Dev) (n : Nat) (x : Axis) : (d.setAxis n x).doorCyc = d.doorCyc := rfl
@[simp] theorem setAxis_promos (d : Dev) (n : Nat) (x : Axis) : (d.setAxis n x).promos = d.promos := rfl
@[simp] theorem setAxis_placer (d : Dev) (n : Nat) (x : Axis) : (d.setAxis n x).placer = d.placer := rfl
@[simp] theorem setAxis_ports (d : Dev) (n : Nat) (x : Axis) : (d.setAxis n x).ports = d.ports := rfl
@[simp] theorem setAxis_queues (d : Dev) (n : Nat) (x : Axis) : (d.setAxis n x).queues = d.queues := rfl
@[simp] theorem setAxis_island (d : Dev) (n : Nat) (x : Axis) : (d.setAxis n x).island = d.island := rfl
@[simp] theorem setAxis_field (d : Dev) (n : Nat) (x : Axis) : (d.setAxis n x).field = d.field := rfl
@[simp] theorem setAxis_pair (d : Dev) (n : Nat) (x : Axis) : (d.setAxis n x).pair = d.pair := rfl
@[simp] theorem setAxis_host (d : Dev) (n : Nat) (x : Axis) : (d.setAxis n x).host = d.host := rfl
@[simp] theorem setAxis_cans (d : Dev) (n : Nat) (x : Axis) : (d.setAxis n x).cans = d.cans := rfl
@[simp] theorem setAxis_recorder (d : Dev) (n : Nat) (x : Axis) : (d.setAxis n x).recorder = d.recorder := rfl
@[simp] theorem setAxis_upd (d : Dev) (n : Nat) (x : Axis) : (d.setAxis n x).upd = d.upd := rfl
@[simp] theorem setAxis_trace (d : Dev) (n : Nat) (x : Axis) : (d.setAxis n x).trace = d.trace := rfl

/-! Dev.modMotion -/

@[simp] theorem modMotion_sys (d : Dev) (n : Nat) (f : Motion → Motion) : (d.modMotion n f).sys = d.sys := rfl
@[simp] theorem modMotion_image (d : Dev) (n : Nat) (f : Motion → Motion) : (d.modMotion n f).image = d.image := rfl
@[simp] theorem modMotion_regs (d : Dev) (n : Nat) (f : Motion → Motion) : (d.modMotion n f).regs = d.regs := rfl
@[simp] theorem modMotion_sigs (d : Dev) (n : Nat) (f : Motion → Motion) : (d.modMotion n f).sigs = d.sigs := rfl
@[simp] theorem modMotion_summary (d : Dev) (n : Nat) (f : Motion → Motion) : (d.modMotion n f).summary = d.summary := rfl
@[simp] theorem modMotion_hidden (d : Dev) (n : Nat) (f : Motion → Motion) : (d.modMotion n f).hidden = d.hidden := rfl
@[simp] theorem modMotion_cores (d : Dev) (n : Nat) (f : Motion → Motion) : (d.modMotion n f).cores = d.cores := rfl
@[simp] theorem modMotion_halted (d : Dev) (n : Nat) (f : Motion → Motion) : (d.modMotion n f).halted = d.halted := rfl
@[simp] theorem modMotion_rstReq (d : Dev) (n : Nat) (f : Motion → Motion) : (d.modMotion n f).rstReq = d.rstReq := rfl
@[simp] theorem modMotion_doorCyc (d : Dev) (n : Nat) (f : Motion → Motion) : (d.modMotion n f).doorCyc = d.doorCyc := rfl
@[simp] theorem modMotion_promos (d : Dev) (n : Nat) (f : Motion → Motion) : (d.modMotion n f).promos = d.promos := rfl
@[simp] theorem modMotion_placer (d : Dev) (n : Nat) (f : Motion → Motion) : (d.modMotion n f).placer = d.placer := rfl
@[simp] theorem modMotion_ports (d : Dev) (n : Nat) (f : Motion → Motion) : (d.modMotion n f).ports = d.ports := rfl
@[simp] theorem modMotion_queues (d : Dev) (n : Nat) (f : Motion → Motion) : (d.modMotion n f).queues = d.queues := rfl
@[simp] theorem modMotion_island (d : Dev) (n : Nat) (f : Motion → Motion) : (d.modMotion n f).island = d.island := rfl
@[simp] theorem modMotion_field (d : Dev) (n : Nat) (f : Motion → Motion) : (d.modMotion n f).field = d.field := rfl
@[simp] theorem modMotion_pair (d : Dev) (n : Nat) (f : Motion → Motion) : (d.modMotion n f).pair = d.pair := rfl
@[simp] theorem modMotion_host (d : Dev) (n : Nat) (f : Motion → Motion) : (d.modMotion n f).host = d.host := rfl
@[simp] theorem modMotion_cans (d : Dev) (n : Nat) (f : Motion → Motion) : (d.modMotion n f).cans = d.cans := rfl
@[simp] theorem modMotion_recorder (d : Dev) (n : Nat) (f : Motion → Motion) : (d.modMotion n f).recorder = d.recorder := rfl
@[simp] theorem modMotion_upd (d : Dev) (n : Nat) (f : Motion → Motion) : (d.modMotion n f).upd = d.upd := rfl
@[simp] theorem modMotion_trace (d : Dev) (n : Nat) (f : Motion → Motion) : (d.modMotion n f).trace = d.trace := rfl

/-! Dev.setCore -/

@[simp] theorem setCore_sys (d : Dev) (c : Nat) (k : Core) : (d.setCore c k).sys = d.sys := rfl
@[simp] theorem setCore_image (d : Dev) (c : Nat) (k : Core) : (d.setCore c k).image = d.image := rfl
@[simp] theorem setCore_regs (d : Dev) (c : Nat) (k : Core) : (d.setCore c k).regs = d.regs := rfl
@[simp] theorem setCore_sigs (d : Dev) (c : Nat) (k : Core) : (d.setCore c k).sigs = d.sigs := rfl
@[simp] theorem setCore_summary (d : Dev) (c : Nat) (k : Core) : (d.setCore c k).summary = d.summary := rfl
@[simp] theorem setCore_hidden (d : Dev) (c : Nat) (k : Core) : (d.setCore c k).hidden = d.hidden := rfl
@[simp] theorem setCore_halted (d : Dev) (c : Nat) (k : Core) : (d.setCore c k).halted = d.halted := rfl
@[simp] theorem setCore_rstReq (d : Dev) (c : Nat) (k : Core) : (d.setCore c k).rstReq = d.rstReq := rfl
@[simp] theorem setCore_axes (d : Dev) (c : Nat) (k : Core) : (d.setCore c k).axes = d.axes := rfl
@[simp] theorem setCore_doorCyc (d : Dev) (c : Nat) (k : Core) : (d.setCore c k).doorCyc = d.doorCyc := rfl
@[simp] theorem setCore_promos (d : Dev) (c : Nat) (k : Core) : (d.setCore c k).promos = d.promos := rfl
@[simp] theorem setCore_placer (d : Dev) (c : Nat) (k : Core) : (d.setCore c k).placer = d.placer := rfl
@[simp] theorem setCore_ports (d : Dev) (c : Nat) (k : Core) : (d.setCore c k).ports = d.ports := rfl
@[simp] theorem setCore_queues (d : Dev) (c : Nat) (k : Core) : (d.setCore c k).queues = d.queues := rfl
@[simp] theorem setCore_island (d : Dev) (c : Nat) (k : Core) : (d.setCore c k).island = d.island := rfl
@[simp] theorem setCore_field (d : Dev) (c : Nat) (k : Core) : (d.setCore c k).field = d.field := rfl
@[simp] theorem setCore_pair (d : Dev) (c : Nat) (k : Core) : (d.setCore c k).pair = d.pair := rfl
@[simp] theorem setCore_host (d : Dev) (c : Nat) (k : Core) : (d.setCore c k).host = d.host := rfl
@[simp] theorem setCore_cans (d : Dev) (c : Nat) (k : Core) : (d.setCore c k).cans = d.cans := rfl
@[simp] theorem setCore_recorder (d : Dev) (c : Nat) (k : Core) : (d.setCore c k).recorder = d.recorder := rfl
@[simp] theorem setCore_upd (d : Dev) (c : Nat) (k : Core) : (d.setCore c k).upd = d.upd := rfl
@[simp] theorem setCore_trace (d : Dev) (c : Nat) (k : Core) : (d.setCore c k).trace = d.trace := rfl

/-! Dev.setTask -/

@[simp] theorem setTask_sys (d : Dev) (c t : Nat) (x : Task) : (d.setTask c t x).sys = d.sys := rfl
@[simp] theorem setTask_image (d : Dev) (c t : Nat) (x : Task) : (d.setTask c t x).image = d.image := rfl
@[simp] theorem setTask_regs (d : Dev) (c t : Nat) (x : Task) : (d.setTask c t x).regs = d.regs := rfl
@[simp] theorem setTask_sigs (d : Dev) (c t : Nat) (x : Task) : (d.setTask c t x).sigs = d.sigs := rfl
@[simp] theorem setTask_summary (d : Dev) (c t : Nat) (x : Task) : (d.setTask c t x).summary = d.summary := rfl
@[simp] theorem setTask_hidden (d : Dev) (c t : Nat) (x : Task) : (d.setTask c t x).hidden = d.hidden := rfl
@[simp] theorem setTask_halted (d : Dev) (c t : Nat) (x : Task) : (d.setTask c t x).halted = d.halted := rfl
@[simp] theorem setTask_rstReq (d : Dev) (c t : Nat) (x : Task) : (d.setTask c t x).rstReq = d.rstReq := rfl
@[simp] theorem setTask_axes (d : Dev) (c t : Nat) (x : Task) : (d.setTask c t x).axes = d.axes := rfl
@[simp] theorem setTask_doorCyc (d : Dev) (c t : Nat) (x : Task) : (d.setTask c t x).doorCyc = d.doorCyc := rfl
@[simp] theorem setTask_promos (d : Dev) (c t : Nat) (x : Task) : (d.setTask c t x).promos = d.promos := rfl
@[simp] theorem setTask_placer (d : Dev) (c t : Nat) (x : Task) : (d.setTask c t x).placer = d.placer := rfl
@[simp] theorem setTask_ports (d : Dev) (c t : Nat) (x : Task) : (d.setTask c t x).ports = d.ports := rfl
@[simp] theorem setTask_queues (d : Dev) (c t : Nat) (x : Task) : (d.setTask c t x).queues = d.queues := rfl
@[simp] theorem setTask_island (d : Dev) (c t : Nat) (x : Task) : (d.setTask c t x).island = d.island := rfl
@[simp] theorem setTask_field (d : Dev) (c t : Nat) (x : Task) : (d.setTask c t x).field = d.field := rfl
@[simp] theorem setTask_pair (d : Dev) (c t : Nat) (x : Task) : (d.setTask c t x).pair = d.pair := rfl
@[simp] theorem setTask_host (d : Dev) (c t : Nat) (x : Task) : (d.setTask c t x).host = d.host := rfl
@[simp] theorem setTask_cans (d : Dev) (c t : Nat) (x : Task) : (d.setTask c t x).cans = d.cans := rfl
@[simp] theorem setTask_recorder (d : Dev) (c t : Nat) (x : Task) : (d.setTask c t x).recorder = d.recorder := rfl
@[simp] theorem setTask_upd (d : Dev) (c t : Nat) (x : Task) : (d.setTask c t x).upd = d.upd := rfl
@[simp] theorem setTask_trace (d : Dev) (c t : Nat) (x : Task) : (d.setTask c t x).trace = d.trace := rfl

/-! Dev.setPort -/

@[simp] theorem setPort_sys (d : Dev) (p : Nat) (x : Port) : (d.setPort p x).sys = d.sys := rfl
@[simp] theorem setPort_image (d : Dev) (p : Nat) (x : Port) : (d.setPort p x).image = d.image := rfl
@[simp] theorem setPort_regs (d : Dev) (p : Nat) (x : Port) : (d.setPort p x).regs = d.regs := rfl
@[simp] theorem setPort_sigs (d : Dev) (p : Nat) (x : Port) : (d.setPort p x).sigs = d.sigs := rfl
@[simp] theorem setPort_summary (d : Dev) (p : Nat) (x : Port) : (d.setPort p x).summary = d.summary := rfl
@[simp] theorem setPort_hidden (d : Dev) (p : Nat) (x : Port) : (d.setPort p x).hidden = d.hidden := rfl
@[simp] theorem setPort_cores (d : Dev) (p : Nat) (x : Port) : (d.setPort p x).cores = d.cores := rfl
@[simp] theorem setPort_halted (d : Dev) (p : Nat) (x : Port) : (d.setPort p x).halted = d.halted := rfl
@[simp] theorem setPort_rstReq (d : Dev) (p : Nat) (x : Port) : (d.setPort p x).rstReq = d.rstReq := rfl
@[simp] theorem setPort_axes (d : Dev) (p : Nat) (x : Port) : (d.setPort p x).axes = d.axes := rfl
@[simp] theorem setPort_doorCyc (d : Dev) (p : Nat) (x : Port) : (d.setPort p x).doorCyc = d.doorCyc := rfl
@[simp] theorem setPort_promos (d : Dev) (p : Nat) (x : Port) : (d.setPort p x).promos = d.promos := rfl
@[simp] theorem setPort_placer (d : Dev) (p : Nat) (x : Port) : (d.setPort p x).placer = d.placer := rfl
@[simp] theorem setPort_queues (d : Dev) (p : Nat) (x : Port) : (d.setPort p x).queues = d.queues := rfl
@[simp] theorem setPort_island (d : Dev) (p : Nat) (x : Port) : (d.setPort p x).island = d.island := rfl
@[simp] theorem setPort_field (d : Dev) (p : Nat) (x : Port) : (d.setPort p x).field = d.field := rfl
@[simp] theorem setPort_pair (d : Dev) (p : Nat) (x : Port) : (d.setPort p x).pair = d.pair := rfl
@[simp] theorem setPort_host (d : Dev) (p : Nat) (x : Port) : (d.setPort p x).host = d.host := rfl
@[simp] theorem setPort_cans (d : Dev) (p : Nat) (x : Port) : (d.setPort p x).cans = d.cans := rfl
@[simp] theorem setPort_recorder (d : Dev) (p : Nat) (x : Port) : (d.setPort p x).recorder = d.recorder := rfl
@[simp] theorem setPort_upd (d : Dev) (p : Nat) (x : Port) : (d.setPort p x).upd = d.upd := rfl
@[simp] theorem setPort_trace (d : Dev) (p : Nat) (x : Port) : (d.setPort p x).trace = d.trace := rfl

/-! Dev.setQueue -/

@[simp] theorem setQueue_sys (d : Dev) (q : Nat) (x : Queue) : (d.setQueue q x).sys = d.sys := rfl
@[simp] theorem setQueue_image (d : Dev) (q : Nat) (x : Queue) : (d.setQueue q x).image = d.image := rfl
@[simp] theorem setQueue_regs (d : Dev) (q : Nat) (x : Queue) : (d.setQueue q x).regs = d.regs := rfl
@[simp] theorem setQueue_sigs (d : Dev) (q : Nat) (x : Queue) : (d.setQueue q x).sigs = d.sigs := rfl
@[simp] theorem setQueue_summary (d : Dev) (q : Nat) (x : Queue) : (d.setQueue q x).summary = d.summary := rfl
@[simp] theorem setQueue_hidden (d : Dev) (q : Nat) (x : Queue) : (d.setQueue q x).hidden = d.hidden := rfl
@[simp] theorem setQueue_cores (d : Dev) (q : Nat) (x : Queue) : (d.setQueue q x).cores = d.cores := rfl
@[simp] theorem setQueue_halted (d : Dev) (q : Nat) (x : Queue) : (d.setQueue q x).halted = d.halted := rfl
@[simp] theorem setQueue_rstReq (d : Dev) (q : Nat) (x : Queue) : (d.setQueue q x).rstReq = d.rstReq := rfl
@[simp] theorem setQueue_axes (d : Dev) (q : Nat) (x : Queue) : (d.setQueue q x).axes = d.axes := rfl
@[simp] theorem setQueue_doorCyc (d : Dev) (q : Nat) (x : Queue) : (d.setQueue q x).doorCyc = d.doorCyc := rfl
@[simp] theorem setQueue_promos (d : Dev) (q : Nat) (x : Queue) : (d.setQueue q x).promos = d.promos := rfl
@[simp] theorem setQueue_placer (d : Dev) (q : Nat) (x : Queue) : (d.setQueue q x).placer = d.placer := rfl
@[simp] theorem setQueue_ports (d : Dev) (q : Nat) (x : Queue) : (d.setQueue q x).ports = d.ports := rfl
@[simp] theorem setQueue_island (d : Dev) (q : Nat) (x : Queue) : (d.setQueue q x).island = d.island := rfl
@[simp] theorem setQueue_field (d : Dev) (q : Nat) (x : Queue) : (d.setQueue q x).field = d.field := rfl
@[simp] theorem setQueue_pair (d : Dev) (q : Nat) (x : Queue) : (d.setQueue q x).pair = d.pair := rfl
@[simp] theorem setQueue_host (d : Dev) (q : Nat) (x : Queue) : (d.setQueue q x).host = d.host := rfl
@[simp] theorem setQueue_cans (d : Dev) (q : Nat) (x : Queue) : (d.setQueue q x).cans = d.cans := rfl
@[simp] theorem setQueue_recorder (d : Dev) (q : Nat) (x : Queue) : (d.setQueue q x).recorder = d.recorder := rfl
@[simp] theorem setQueue_upd (d : Dev) (q : Nat) (x : Queue) : (d.setQueue q x).upd = d.upd := rfl
@[simp] theorem setQueue_trace (d : Dev) (q : Nat) (x : Queue) : (d.setQueue q x).trace = d.trace := rfl

/-! Dev.setCan -/

@[simp] theorem setCan_sys (d : Dev) (c : Nat) (x : Can) : (d.setCan c x).sys = d.sys := rfl
@[simp] theorem setCan_image (d : Dev) (c : Nat) (x : Can) : (d.setCan c x).image = d.image := rfl
@[simp] theorem setCan_regs (d : Dev) (c : Nat) (x : Can) : (d.setCan c x).regs = d.regs := rfl
@[simp] theorem setCan_sigs (d : Dev) (c : Nat) (x : Can) : (d.setCan c x).sigs = d.sigs := rfl
@[simp] theorem setCan_summary (d : Dev) (c : Nat) (x : Can) : (d.setCan c x).summary = d.summary := rfl
@[simp] theorem setCan_hidden (d : Dev) (c : Nat) (x : Can) : (d.setCan c x).hidden = d.hidden := rfl
@[simp] theorem setCan_cores (d : Dev) (c : Nat) (x : Can) : (d.setCan c x).cores = d.cores := rfl
@[simp] theorem setCan_halted (d : Dev) (c : Nat) (x : Can) : (d.setCan c x).halted = d.halted := rfl
@[simp] theorem setCan_rstReq (d : Dev) (c : Nat) (x : Can) : (d.setCan c x).rstReq = d.rstReq := rfl
@[simp] theorem setCan_axes (d : Dev) (c : Nat) (x : Can) : (d.setCan c x).axes = d.axes := rfl
@[simp] theorem setCan_doorCyc (d : Dev) (c : Nat) (x : Can) : (d.setCan c x).doorCyc = d.doorCyc := rfl
@[simp] theorem setCan_promos (d : Dev) (c : Nat) (x : Can) : (d.setCan c x).promos = d.promos := rfl
@[simp] theorem setCan_placer (d : Dev) (c : Nat) (x : Can) : (d.setCan c x).placer = d.placer := rfl
@[simp] theorem setCan_ports (d : Dev) (c : Nat) (x : Can) : (d.setCan c x).ports = d.ports := rfl
@[simp] theorem setCan_queues (d : Dev) (c : Nat) (x : Can) : (d.setCan c x).queues = d.queues := rfl
@[simp] theorem setCan_island (d : Dev) (c : Nat) (x : Can) : (d.setCan c x).island = d.island := rfl
@[simp] theorem setCan_field (d : Dev) (c : Nat) (x : Can) : (d.setCan c x).field = d.field := rfl
@[simp] theorem setCan_pair (d : Dev) (c : Nat) (x : Can) : (d.setCan c x).pair = d.pair := rfl
@[simp] theorem setCan_host (d : Dev) (c : Nat) (x : Can) : (d.setCan c x).host = d.host := rfl
@[simp] theorem setCan_recorder (d : Dev) (c : Nat) (x : Can) : (d.setCan c x).recorder = d.recorder := rfl
@[simp] theorem setCan_upd (d : Dev) (c : Nat) (x : Can) : (d.setCan c x).upd = d.upd := rfl
@[simp] theorem setCan_trace (d : Dev) (c : Nat) (x : Can) : (d.setCan c x).trace = d.trace := rfl

/-! Dev.setSafe -/

@[simp] theorem setSafe_sys (d : Dev) (n : Nat) (x : AxSafe) : (d.setSafe n x).sys = d.sys := rfl
@[simp] theorem setSafe_image (d : Dev) (n : Nat) (x : AxSafe) : (d.setSafe n x).image = d.image := rfl
@[simp] theorem setSafe_regs (d : Dev) (n : Nat) (x : AxSafe) : (d.setSafe n x).regs = d.regs := rfl
@[simp] theorem setSafe_sigs (d : Dev) (n : Nat) (x : AxSafe) : (d.setSafe n x).sigs = d.sigs := rfl
@[simp] theorem setSafe_summary (d : Dev) (n : Nat) (x : AxSafe) : (d.setSafe n x).summary = d.summary := rfl
@[simp] theorem setSafe_hidden (d : Dev) (n : Nat) (x : AxSafe) : (d.setSafe n x).hidden = d.hidden := rfl
@[simp] theorem setSafe_cores (d : Dev) (n : Nat) (x : AxSafe) : (d.setSafe n x).cores = d.cores := rfl
@[simp] theorem setSafe_halted (d : Dev) (n : Nat) (x : AxSafe) : (d.setSafe n x).halted = d.halted := rfl
@[simp] theorem setSafe_rstReq (d : Dev) (n : Nat) (x : AxSafe) : (d.setSafe n x).rstReq = d.rstReq := rfl
@[simp] theorem setSafe_axes (d : Dev) (n : Nat) (x : AxSafe) : (d.setSafe n x).axes = d.axes := rfl
@[simp] theorem setSafe_doorCyc (d : Dev) (n : Nat) (x : AxSafe) : (d.setSafe n x).doorCyc = d.doorCyc := rfl
@[simp] theorem setSafe_promos (d : Dev) (n : Nat) (x : AxSafe) : (d.setSafe n x).promos = d.promos := rfl
@[simp] theorem setSafe_placer (d : Dev) (n : Nat) (x : AxSafe) : (d.setSafe n x).placer = d.placer := rfl
@[simp] theorem setSafe_ports (d : Dev) (n : Nat) (x : AxSafe) : (d.setSafe n x).ports = d.ports := rfl
@[simp] theorem setSafe_queues (d : Dev) (n : Nat) (x : AxSafe) : (d.setSafe n x).queues = d.queues := rfl
@[simp] theorem setSafe_field (d : Dev) (n : Nat) (x : AxSafe) : (d.setSafe n x).field = d.field := rfl
@[simp] theorem setSafe_pair (d : Dev) (n : Nat) (x : AxSafe) : (d.setSafe n x).pair = d.pair := rfl
@[simp] theorem setSafe_host (d : Dev) (n : Nat) (x : AxSafe) : (d.setSafe n x).host = d.host := rfl
@[simp] theorem setSafe_cans (d : Dev) (n : Nat) (x : AxSafe) : (d.setSafe n x).cans = d.cans := rfl
@[simp] theorem setSafe_recorder (d : Dev) (n : Nat) (x : AxSafe) : (d.setSafe n x).recorder = d.recorder := rfl
@[simp] theorem setSafe_upd (d : Dev) (n : Nat) (x : AxSafe) : (d.setSafe n x).upd = d.upd := rfl
@[simp] theorem setSafe_trace (d : Dev) (n : Nat) (x : AxSafe) : (d.setSafe n x).trace = d.trace := rfl

/-! Dev.setChan -/

@[simp] theorem setChan_sys (d : Dev) (h : Nat) (x : Hs) : (d.setChan h x).sys = d.sys := rfl
@[simp] theorem setChan_image (d : Dev) (h : Nat) (x : Hs) : (d.setChan h x).image = d.image := rfl
@[simp] theorem setChan_regs (d : Dev) (h : Nat) (x : Hs) : (d.setChan h x).regs = d.regs := rfl
@[simp] theorem setChan_sigs (d : Dev) (h : Nat) (x : Hs) : (d.setChan h x).sigs = d.sigs := rfl
@[simp] theorem setChan_summary (d : Dev) (h : Nat) (x : Hs) : (d.setChan h x).summary = d.summary := rfl
@[simp] theorem setChan_hidden (d : Dev) (h : Nat) (x : Hs) : (d.setChan h x).hidden = d.hidden := rfl
@[simp] theorem setChan_cores (d : Dev) (h : Nat) (x : Hs) : (d.setChan h x).cores = d.cores := rfl
@[simp] theorem setChan_halted (d : Dev) (h : Nat) (x : Hs) : (d.setChan h x).halted = d.halted := rfl
@[simp] theorem setChan_rstReq (d : Dev) (h : Nat) (x : Hs) : (d.setChan h x).rstReq = d.rstReq := rfl
@[simp] theorem setChan_axes (d : Dev) (h : Nat) (x : Hs) : (d.setChan h x).axes = d.axes := rfl
@[simp] theorem setChan_doorCyc (d : Dev) (h : Nat) (x : Hs) : (d.setChan h x).doorCyc = d.doorCyc := rfl
@[simp] theorem setChan_promos (d : Dev) (h : Nat) (x : Hs) : (d.setChan h x).promos = d.promos := rfl
@[simp] theorem setChan_placer (d : Dev) (h : Nat) (x : Hs) : (d.setChan h x).placer = d.placer := rfl
@[simp] theorem setChan_ports (d : Dev) (h : Nat) (x : Hs) : (d.setChan h x).ports = d.ports := rfl
@[simp] theorem setChan_queues (d : Dev) (h : Nat) (x : Hs) : (d.setChan h x).queues = d.queues := rfl
@[simp] theorem setChan_island (d : Dev) (h : Nat) (x : Hs) : (d.setChan h x).island = d.island := rfl
@[simp] theorem setChan_pair (d : Dev) (h : Nat) (x : Hs) : (d.setChan h x).pair = d.pair := rfl
@[simp] theorem setChan_host (d : Dev) (h : Nat) (x : Hs) : (d.setChan h x).host = d.host := rfl
@[simp] theorem setChan_cans (d : Dev) (h : Nat) (x : Hs) : (d.setChan h x).cans = d.cans := rfl
@[simp] theorem setChan_recorder (d : Dev) (h : Nat) (x : Hs) : (d.setChan h x).recorder = d.recorder := rfl
@[simp] theorem setChan_upd (d : Dev) (h : Nat) (x : Hs) : (d.setChan h x).upd = d.upd := rfl
@[simp] theorem setChan_trace (d : Dev) (h : Nat) (x : Hs) : (d.setChan h x).trace = d.trace := rfl

/-! Dev.setSig -/

@[simp] theorem setSig_sys (d : Dev) (n : Nat) (x : Sig) : (d.setSig n x).sys = d.sys := rfl
@[simp] theorem setSig_image (d : Dev) (n : Nat) (x : Sig) : (d.setSig n x).image = d.image := rfl
@[simp] theorem setSig_regs (d : Dev) (n : Nat) (x : Sig) : (d.setSig n x).regs = d.regs := rfl
@[simp] theorem setSig_summary (d : Dev) (n : Nat) (x : Sig) : (d.setSig n x).summary = d.summary := rfl
@[simp] theorem setSig_hidden (d : Dev) (n : Nat) (x : Sig) : (d.setSig n x).hidden = d.hidden := rfl
@[simp] theorem setSig_cores (d : Dev) (n : Nat) (x : Sig) : (d.setSig n x).cores = d.cores := rfl
@[simp] theorem setSig_halted (d : Dev) (n : Nat) (x : Sig) : (d.setSig n x).halted = d.halted := rfl
@[simp] theorem setSig_rstReq (d : Dev) (n : Nat) (x : Sig) : (d.setSig n x).rstReq = d.rstReq := rfl
@[simp] theorem setSig_axes (d : Dev) (n : Nat) (x : Sig) : (d.setSig n x).axes = d.axes := rfl
@[simp] theorem setSig_doorCyc (d : Dev) (n : Nat) (x : Sig) : (d.setSig n x).doorCyc = d.doorCyc := rfl
@[simp] theorem setSig_promos (d : Dev) (n : Nat) (x : Sig) : (d.setSig n x).promos = d.promos := rfl
@[simp] theorem setSig_placer (d : Dev) (n : Nat) (x : Sig) : (d.setSig n x).placer = d.placer := rfl
@[simp] theorem setSig_ports (d : Dev) (n : Nat) (x : Sig) : (d.setSig n x).ports = d.ports := rfl
@[simp] theorem setSig_queues (d : Dev) (n : Nat) (x : Sig) : (d.setSig n x).queues = d.queues := rfl
@[simp] theorem setSig_island (d : Dev) (n : Nat) (x : Sig) : (d.setSig n x).island = d.island := rfl
@[simp] theorem setSig_field (d : Dev) (n : Nat) (x : Sig) : (d.setSig n x).field = d.field := rfl
@[simp] theorem setSig_pair (d : Dev) (n : Nat) (x : Sig) : (d.setSig n x).pair = d.pair := rfl
@[simp] theorem setSig_host (d : Dev) (n : Nat) (x : Sig) : (d.setSig n x).host = d.host := rfl
@[simp] theorem setSig_cans (d : Dev) (n : Nat) (x : Sig) : (d.setSig n x).cans = d.cans := rfl
@[simp] theorem setSig_recorder (d : Dev) (n : Nat) (x : Sig) : (d.setSig n x).recorder = d.recorder := rfl
@[simp] theorem setSig_upd (d : Dev) (n : Nat) (x : Sig) : (d.setSig n x).upd = d.upd := rfl
@[simp] theorem setSig_trace (d : Dev) (n : Nat) (x : Sig) : (d.setSig n x).trace = d.trace := rfl

/-! Dev.modPort -/

@[simp] theorem modPort_sys (d : Dev) (p : Nat) (f : Port → Port) : (d.modPort p f).sys = d.sys := rfl
@[simp] theorem modPort_image (d : Dev) (p : Nat) (f : Port → Port) : (d.modPort p f).image = d.image := rfl
@[simp] theorem modPort_regs (d : Dev) (p : Nat) (f : Port → Port) : (d.modPort p f).regs = d.regs := rfl
@[simp] theorem modPort_sigs (d : Dev) (p : Nat) (f : Port → Port) : (d.modPort p f).sigs = d.sigs := rfl
@[simp] theorem modPort_summary (d : Dev) (p : Nat) (f : Port → Port) : (d.modPort p f).summary = d.summary := rfl
@[simp] theorem modPort_hidden (d : Dev) (p : Nat) (f : Port → Port) : (d.modPort p f).hidden = d.hidden := rfl
@[simp] theorem modPort_cores (d : Dev) (p : Nat) (f : Port → Port) : (d.modPort p f).cores = d.cores := rfl
@[simp] theorem modPort_halted (d : Dev) (p : Nat) (f : Port → Port) : (d.modPort p f).halted = d.halted := rfl
@[simp] theorem modPort_rstReq (d : Dev) (p : Nat) (f : Port → Port) : (d.modPort p f).rstReq = d.rstReq := rfl
@[simp] theorem modPort_axes (d : Dev) (p : Nat) (f : Port → Port) : (d.modPort p f).axes = d.axes := rfl
@[simp] theorem modPort_doorCyc (d : Dev) (p : Nat) (f : Port → Port) : (d.modPort p f).doorCyc = d.doorCyc := rfl
@[simp] theorem modPort_promos (d : Dev) (p : Nat) (f : Port → Port) : (d.modPort p f).promos = d.promos := rfl
@[simp] theorem modPort_placer (d : Dev) (p : Nat) (f : Port → Port) : (d.modPort p f).placer = d.placer := rfl
@[simp] theorem modPort_queues (d : Dev) (p : Nat) (f : Port → Port) : (d.modPort p f).queues = d.queues := rfl
@[simp] theorem modPort_island (d : Dev) (p : Nat) (f : Port → Port) : (d.modPort p f).island = d.island := rfl
@[simp] theorem modPort_field (d : Dev) (p : Nat) (f : Port → Port) : (d.modPort p f).field = d.field := rfl
@[simp] theorem modPort_pair (d : Dev) (p : Nat) (f : Port → Port) : (d.modPort p f).pair = d.pair := rfl
@[simp] theorem modPort_host (d : Dev) (p : Nat) (f : Port → Port) : (d.modPort p f).host = d.host := rfl
@[simp] theorem modPort_cans (d : Dev) (p : Nat) (f : Port → Port) : (d.modPort p f).cans = d.cans := rfl
@[simp] theorem modPort_recorder (d : Dev) (p : Nat) (f : Port → Port) : (d.modPort p f).recorder = d.recorder := rfl
@[simp] theorem modPort_upd (d : Dev) (p : Nat) (f : Port → Port) : (d.modPort p f).upd = d.upd := rfl
@[simp] theorem modPort_trace (d : Dev) (p : Nat) (f : Port → Port) : (d.modPort p f).trace = d.trace := rfl

/-! Dev.modIsland -/

@[simp] theorem modIsland_sys (d : Dev) (f : Island → Island) : (d.modIsland f).sys = d.sys := rfl
@[simp] theorem modIsland_image (d : Dev) (f : Island → Island) : (d.modIsland f).image = d.image := rfl
@[simp] theorem modIsland_regs (d : Dev) (f : Island → Island) : (d.modIsland f).regs = d.regs := rfl
@[simp] theorem modIsland_sigs (d : Dev) (f : Island → Island) : (d.modIsland f).sigs = d.sigs := rfl
@[simp] theorem modIsland_summary (d : Dev) (f : Island → Island) : (d.modIsland f).summary = d.summary := rfl
@[simp] theorem modIsland_hidden (d : Dev) (f : Island → Island) : (d.modIsland f).hidden = d.hidden := rfl
@[simp] theorem modIsland_cores (d : Dev) (f : Island → Island) : (d.modIsland f).cores = d.cores := rfl
@[simp] theorem modIsland_halted (d : Dev) (f : Island → Island) : (d.modIsland f).halted = d.halted := rfl
@[simp] theorem modIsland_rstReq (d : Dev) (f : Island → Island) : (d.modIsland f).rstReq = d.rstReq := rfl
@[simp] theorem modIsland_axes (d : Dev) (f : Island → Island) : (d.modIsland f).axes = d.axes := rfl
@[simp] theorem modIsland_doorCyc (d : Dev) (f : Island → Island) : (d.modIsland f).doorCyc = d.doorCyc := rfl
@[simp] theorem modIsland_promos (d : Dev) (f : Island → Island) : (d.modIsland f).promos = d.promos := rfl
@[simp] theorem modIsland_placer (d : Dev) (f : Island → Island) : (d.modIsland f).placer = d.placer := rfl
@[simp] theorem modIsland_ports (d : Dev) (f : Island → Island) : (d.modIsland f).ports = d.ports := rfl
@[simp] theorem modIsland_queues (d : Dev) (f : Island → Island) : (d.modIsland f).queues = d.queues := rfl
@[simp] theorem modIsland_field (d : Dev) (f : Island → Island) : (d.modIsland f).field = d.field := rfl
@[simp] theorem modIsland_pair (d : Dev) (f : Island → Island) : (d.modIsland f).pair = d.pair := rfl
@[simp] theorem modIsland_host (d : Dev) (f : Island → Island) : (d.modIsland f).host = d.host := rfl
@[simp] theorem modIsland_cans (d : Dev) (f : Island → Island) : (d.modIsland f).cans = d.cans := rfl
@[simp] theorem modIsland_recorder (d : Dev) (f : Island → Island) : (d.modIsland f).recorder = d.recorder := rfl
@[simp] theorem modIsland_upd (d : Dev) (f : Island → Island) : (d.modIsland f).upd = d.upd := rfl
@[simp] theorem modIsland_trace (d : Dev) (f : Island → Island) : (d.modIsland f).trace = d.trace := rfl

/-! Dev.modField -/

@[simp] theorem modField_sys (d : Dev) (f : Field → Field) : (d.modField f).sys = d.sys := rfl
@[simp] theorem modField_image (d : Dev) (f : Field → Field) : (d.modField f).image = d.image := rfl
@[simp] theorem modField_regs (d : Dev) (f : Field → Field) : (d.modField f).regs = d.regs := rfl
@[simp] theorem modField_sigs (d : Dev) (f : Field → Field) : (d.modField f).sigs = d.sigs := rfl
@[simp] theorem modField_summary (d : Dev) (f : Field → Field) : (d.modField f).summary = d.summary := rfl
@[simp] theorem modField_hidden (d : Dev) (f : Field → Field) : (d.modField f).hidden = d.hidden := rfl
@[simp] theorem modField_cores (d : Dev) (f : Field → Field) : (d.modField f).cores = d.cores := rfl
@[simp] theorem modField_halted (d : Dev) (f : Field → Field) : (d.modField f).halted = d.halted := rfl
@[simp] theorem modField_rstReq (d : Dev) (f : Field → Field) : (d.modField f).rstReq = d.rstReq := rfl
@[simp] theorem modField_axes (d : Dev) (f : Field → Field) : (d.modField f).axes = d.axes := rfl
@[simp] theorem modField_doorCyc (d : Dev) (f : Field → Field) : (d.modField f).doorCyc = d.doorCyc := rfl
@[simp] theorem modField_promos (d : Dev) (f : Field → Field) : (d.modField f).promos = d.promos := rfl
@[simp] theorem modField_placer (d : Dev) (f : Field → Field) : (d.modField f).placer = d.placer := rfl
@[simp] theorem modField_ports (d : Dev) (f : Field → Field) : (d.modField f).ports = d.ports := rfl
@[simp] theorem modField_queues (d : Dev) (f : Field → Field) : (d.modField f).queues = d.queues := rfl
@[simp] theorem modField_island (d : Dev) (f : Field → Field) : (d.modField f).island = d.island := rfl
@[simp] theorem modField_pair (d : Dev) (f : Field → Field) : (d.modField f).pair = d.pair := rfl
@[simp] theorem modField_host (d : Dev) (f : Field → Field) : (d.modField f).host = d.host := rfl
@[simp] theorem modField_cans (d : Dev) (f : Field → Field) : (d.modField f).cans = d.cans := rfl
@[simp] theorem modField_recorder (d : Dev) (f : Field → Field) : (d.modField f).recorder = d.recorder := rfl
@[simp] theorem modField_upd (d : Dev) (f : Field → Field) : (d.modField f).upd = d.upd := rfl
@[simp] theorem modField_trace (d : Dev) (f : Field → Field) : (d.modField f).trace = d.trace := rfl

/-! Dev.modPair -/

@[simp] theorem modPair_sys (d : Dev) (f : PairUnit → PairUnit) : (d.modPair f).sys = d.sys := rfl
@[simp] theorem modPair_image (d : Dev) (f : PairUnit → PairUnit) : (d.modPair f).image = d.image := rfl
@[simp] theorem modPair_regs (d : Dev) (f : PairUnit → PairUnit) : (d.modPair f).regs = d.regs := rfl
@[simp] theorem modPair_sigs (d : Dev) (f : PairUnit → PairUnit) : (d.modPair f).sigs = d.sigs := rfl
@[simp] theorem modPair_summary (d : Dev) (f : PairUnit → PairUnit) : (d.modPair f).summary = d.summary := rfl
@[simp] theorem modPair_hidden (d : Dev) (f : PairUnit → PairUnit) : (d.modPair f).hidden = d.hidden := rfl
@[simp] theorem modPair_cores (d : Dev) (f : PairUnit → PairUnit) : (d.modPair f).cores = d.cores := rfl
@[simp] theorem modPair_halted (d : Dev) (f : PairUnit → PairUnit) : (d.modPair f).halted = d.halted := rfl
@[simp] theorem modPair_rstReq (d : Dev) (f : PairUnit → PairUnit) : (d.modPair f).rstReq = d.rstReq := rfl
@[simp] theorem modPair_axes (d : Dev) (f : PairUnit → PairUnit) : (d.modPair f).axes = d.axes := rfl
@[simp] theorem modPair_doorCyc (d : Dev) (f : PairUnit → PairUnit) : (d.modPair f).doorCyc = d.doorCyc := rfl
@[simp] theorem modPair_promos (d : Dev) (f : PairUnit → PairUnit) : (d.modPair f).promos = d.promos := rfl
@[simp] theorem modPair_placer (d : Dev) (f : PairUnit → PairUnit) : (d.modPair f).placer = d.placer := rfl
@[simp] theorem modPair_ports (d : Dev) (f : PairUnit → PairUnit) : (d.modPair f).ports = d.ports := rfl
@[simp] theorem modPair_queues (d : Dev) (f : PairUnit → PairUnit) : (d.modPair f).queues = d.queues := rfl
@[simp] theorem modPair_island (d : Dev) (f : PairUnit → PairUnit) : (d.modPair f).island = d.island := rfl
@[simp] theorem modPair_field (d : Dev) (f : PairUnit → PairUnit) : (d.modPair f).field = d.field := rfl
@[simp] theorem modPair_host (d : Dev) (f : PairUnit → PairUnit) : (d.modPair f).host = d.host := rfl
@[simp] theorem modPair_cans (d : Dev) (f : PairUnit → PairUnit) : (d.modPair f).cans = d.cans := rfl
@[simp] theorem modPair_recorder (d : Dev) (f : PairUnit → PairUnit) : (d.modPair f).recorder = d.recorder := rfl
@[simp] theorem modPair_upd (d : Dev) (f : PairUnit → PairUnit) : (d.modPair f).upd = d.upd := rfl
@[simp] theorem modPair_trace (d : Dev) (f : PairUnit → PairUnit) : (d.modPair f).trace = d.trace := rfl

/-! Dev.modHost -/

@[simp] theorem modHost_sys (d : Dev) (f : HostUnit → HostUnit) : (d.modHost f).sys = d.sys := rfl
@[simp] theorem modHost_image (d : Dev) (f : HostUnit → HostUnit) : (d.modHost f).image = d.image := rfl
@[simp] theorem modHost_regs (d : Dev) (f : HostUnit → HostUnit) : (d.modHost f).regs = d.regs := rfl
@[simp] theorem modHost_sigs (d : Dev) (f : HostUnit → HostUnit) : (d.modHost f).sigs = d.sigs := rfl
@[simp] theorem modHost_summary (d : Dev) (f : HostUnit → HostUnit) : (d.modHost f).summary = d.summary := rfl
@[simp] theorem modHost_hidden (d : Dev) (f : HostUnit → HostUnit) : (d.modHost f).hidden = d.hidden := rfl
@[simp] theorem modHost_cores (d : Dev) (f : HostUnit → HostUnit) : (d.modHost f).cores = d.cores := rfl
@[simp] theorem modHost_halted (d : Dev) (f : HostUnit → HostUnit) : (d.modHost f).halted = d.halted := rfl
@[simp] theorem modHost_rstReq (d : Dev) (f : HostUnit → HostUnit) : (d.modHost f).rstReq = d.rstReq := rfl
@[simp] theorem modHost_axes (d : Dev) (f : HostUnit → HostUnit) : (d.modHost f).axes = d.axes := rfl
@[simp] theorem modHost_doorCyc (d : Dev) (f : HostUnit → HostUnit) : (d.modHost f).doorCyc = d.doorCyc := rfl
@[simp] theorem modHost_promos (d : Dev) (f : HostUnit → HostUnit) : (d.modHost f).promos = d.promos := rfl
@[simp] theorem modHost_placer (d : Dev) (f : HostUnit → HostUnit) : (d.modHost f).placer = d.placer := rfl
@[simp] theorem modHost_ports (d : Dev) (f : HostUnit → HostUnit) : (d.modHost f).ports = d.ports := rfl
@[simp] theorem modHost_queues (d : Dev) (f : HostUnit → HostUnit) : (d.modHost f).queues = d.queues := rfl
@[simp] theorem modHost_island (d : Dev) (f : HostUnit → HostUnit) : (d.modHost f).island = d.island := rfl
@[simp] theorem modHost_field (d : Dev) (f : HostUnit → HostUnit) : (d.modHost f).field = d.field := rfl
@[simp] theorem modHost_pair (d : Dev) (f : HostUnit → HostUnit) : (d.modHost f).pair = d.pair := rfl
@[simp] theorem modHost_cans (d : Dev) (f : HostUnit → HostUnit) : (d.modHost f).cans = d.cans := rfl
@[simp] theorem modHost_recorder (d : Dev) (f : HostUnit → HostUnit) : (d.modHost f).recorder = d.recorder := rfl
@[simp] theorem modHost_upd (d : Dev) (f : HostUnit → HostUnit) : (d.modHost f).upd = d.upd := rfl
@[simp] theorem modHost_trace (d : Dev) (f : HostUnit → HostUnit) : (d.modHost f).trace = d.trace := rfl

/-! Dev.modPlacer -/

@[simp] theorem modPlacer_sys (d : Dev) (f : Placer → Placer) : (d.modPlacer f).sys = d.sys := rfl
@[simp] theorem modPlacer_image (d : Dev) (f : Placer → Placer) : (d.modPlacer f).image = d.image := rfl
@[simp] theorem modPlacer_regs (d : Dev) (f : Placer → Placer) : (d.modPlacer f).regs = d.regs := rfl
@[simp] theorem modPlacer_sigs (d : Dev) (f : Placer → Placer) : (d.modPlacer f).sigs = d.sigs := rfl
@[simp] theorem modPlacer_summary (d : Dev) (f : Placer → Placer) : (d.modPlacer f).summary = d.summary := rfl
@[simp] theorem modPlacer_hidden (d : Dev) (f : Placer → Placer) : (d.modPlacer f).hidden = d.hidden := rfl
@[simp] theorem modPlacer_cores (d : Dev) (f : Placer → Placer) : (d.modPlacer f).cores = d.cores := rfl
@[simp] theorem modPlacer_halted (d : Dev) (f : Placer → Placer) : (d.modPlacer f).halted = d.halted := rfl
@[simp] theorem modPlacer_rstReq (d : Dev) (f : Placer → Placer) : (d.modPlacer f).rstReq = d.rstReq := rfl
@[simp] theorem modPlacer_axes (d : Dev) (f : Placer → Placer) : (d.modPlacer f).axes = d.axes := rfl
@[simp] theorem modPlacer_doorCyc (d : Dev) (f : Placer → Placer) : (d.modPlacer f).doorCyc = d.doorCyc := rfl
@[simp] theorem modPlacer_promos (d : Dev) (f : Placer → Placer) : (d.modPlacer f).promos = d.promos := rfl
@[simp] theorem modPlacer_ports (d : Dev) (f : Placer → Placer) : (d.modPlacer f).ports = d.ports := rfl
@[simp] theorem modPlacer_queues (d : Dev) (f : Placer → Placer) : (d.modPlacer f).queues = d.queues := rfl
@[simp] theorem modPlacer_island (d : Dev) (f : Placer → Placer) : (d.modPlacer f).island = d.island := rfl
@[simp] theorem modPlacer_field (d : Dev) (f : Placer → Placer) : (d.modPlacer f).field = d.field := rfl
@[simp] theorem modPlacer_pair (d : Dev) (f : Placer → Placer) : (d.modPlacer f).pair = d.pair := rfl
@[simp] theorem modPlacer_host (d : Dev) (f : Placer → Placer) : (d.modPlacer f).host = d.host := rfl
@[simp] theorem modPlacer_cans (d : Dev) (f : Placer → Placer) : (d.modPlacer f).cans = d.cans := rfl
@[simp] theorem modPlacer_recorder (d : Dev) (f : Placer → Placer) : (d.modPlacer f).recorder = d.recorder := rfl
@[simp] theorem modPlacer_upd (d : Dev) (f : Placer → Placer) : (d.modPlacer f).upd = d.upd := rfl
@[simp] theorem modPlacer_trace (d : Dev) (f : Placer → Placer) : (d.modPlacer f).trace = d.trace := rfl

/-! Dev.modSys -/

@[simp] theorem modSys_image (d : Dev) (f : Sys → Sys) : (d.modSys f).image = d.image := rfl
@[simp] theorem modSys_regs (d : Dev) (f : Sys → Sys) : (d.modSys f).regs = d.regs := rfl
@[simp] theorem modSys_sigs (d : Dev) (f : Sys → Sys) : (d.modSys f).sigs = d.sigs := rfl
@[simp] theorem modSys_summary (d : Dev) (f : Sys → Sys) : (d.modSys f).summary = d.summary := rfl
@[simp] theorem modSys_hidden (d : Dev) (f : Sys → Sys) : (d.modSys f).hidden = d.hidden := rfl
@[simp] theorem modSys_cores (d : Dev) (f : Sys → Sys) : (d.modSys f).cores = d.cores := rfl
@[simp] theorem modSys_halted (d : Dev) (f : Sys → Sys) : (d.modSys f).halted = d.halted := rfl
@[simp] theorem modSys_rstReq (d : Dev) (f : Sys → Sys) : (d.modSys f).rstReq = d.rstReq := rfl
@[simp] theorem modSys_axes (d : Dev) (f : Sys → Sys) : (d.modSys f).axes = d.axes := rfl
@[simp] theorem modSys_doorCyc (d : Dev) (f : Sys → Sys) : (d.modSys f).doorCyc = d.doorCyc := rfl
@[simp] theorem modSys_promos (d : Dev) (f : Sys → Sys) : (d.modSys f).promos = d.promos := rfl
@[simp] theorem modSys_placer (d : Dev) (f : Sys → Sys) : (d.modSys f).placer = d.placer := rfl
@[simp] theorem modSys_ports (d : Dev) (f : Sys → Sys) : (d.modSys f).ports = d.ports := rfl
@[simp] theorem modSys_queues (d : Dev) (f : Sys → Sys) : (d.modSys f).queues = d.queues := rfl
@[simp] theorem modSys_island (d : Dev) (f : Sys → Sys) : (d.modSys f).island = d.island := rfl
@[simp] theorem modSys_field (d : Dev) (f : Sys → Sys) : (d.modSys f).field = d.field := rfl
@[simp] theorem modSys_pair (d : Dev) (f : Sys → Sys) : (d.modSys f).pair = d.pair := rfl
@[simp] theorem modSys_host (d : Dev) (f : Sys → Sys) : (d.modSys f).host = d.host := rfl
@[simp] theorem modSys_cans (d : Dev) (f : Sys → Sys) : (d.modSys f).cans = d.cans := rfl
@[simp] theorem modSys_recorder (d : Dev) (f : Sys → Sys) : (d.modSys f).recorder = d.recorder := rfl
@[simp] theorem modSys_upd (d : Dev) (f : Sys → Sys) : (d.modSys f).upd = d.upd := rfl
@[simp] theorem modSys_trace (d : Dev) (f : Sys → Sys) : (d.modSys f).trace = d.trace := rfl

/-! Dev.modUpd -/

@[simp] theorem modUpd_sys (d : Dev) (f : Update → Update) : (d.modUpd f).sys = d.sys := rfl
@[simp] theorem modUpd_image (d : Dev) (f : Update → Update) : (d.modUpd f).image = d.image := rfl
@[simp] theorem modUpd_regs (d : Dev) (f : Update → Update) : (d.modUpd f).regs = d.regs := rfl
@[simp] theorem modUpd_sigs (d : Dev) (f : Update → Update) : (d.modUpd f).sigs = d.sigs := rfl
@[simp] theorem modUpd_summary (d : Dev) (f : Update → Update) : (d.modUpd f).summary = d.summary := rfl
@[simp] theorem modUpd_hidden (d : Dev) (f : Update → Update) : (d.modUpd f).hidden = d.hidden := rfl
@[simp] theorem modUpd_cores (d : Dev) (f : Update → Update) : (d.modUpd f).cores = d.cores := rfl
@[simp] theorem modUpd_halted (d : Dev) (f : Update → Update) : (d.modUpd f).halted = d.halted := rfl
@[simp] theorem modUpd_rstReq (d : Dev) (f : Update → Update) : (d.modUpd f).rstReq = d.rstReq := rfl
@[simp] theorem modUpd_axes (d : Dev) (f : Update → Update) : (d.modUpd f).axes = d.axes := rfl
@[simp] theorem modUpd_doorCyc (d : Dev) (f : Update → Update) : (d.modUpd f).doorCyc = d.doorCyc := rfl
@[simp] theorem modUpd_promos (d : Dev) (f : Update → Update) : (d.modUpd f).promos = d.promos := rfl
@[simp] theorem modUpd_placer (d : Dev) (f : Update → Update) : (d.modUpd f).placer = d.placer := rfl
@[simp] theorem modUpd_ports (d : Dev) (f : Update → Update) : (d.modUpd f).ports = d.ports := rfl
@[simp] theorem modUpd_queues (d : Dev) (f : Update → Update) : (d.modUpd f).queues = d.queues := rfl
@[simp] theorem modUpd_island (d : Dev) (f : Update → Update) : (d.modUpd f).island = d.island := rfl
@[simp] theorem modUpd_field (d : Dev) (f : Update → Update) : (d.modUpd f).field = d.field := rfl
@[simp] theorem modUpd_pair (d : Dev) (f : Update → Update) : (d.modUpd f).pair = d.pair := rfl
@[simp] theorem modUpd_host (d : Dev) (f : Update → Update) : (d.modUpd f).host = d.host := rfl
@[simp] theorem modUpd_cans (d : Dev) (f : Update → Update) : (d.modUpd f).cans = d.cans := rfl
@[simp] theorem modUpd_recorder (d : Dev) (f : Update → Update) : (d.modUpd f).recorder = d.recorder := rfl
@[simp] theorem modUpd_trace (d : Dev) (f : Update → Update) : (d.modUpd f).trace = d.trace := rfl

/-! Dev.modCycle -/

@[simp] theorem modCycle_sys (d : Dev) (n : Nat) (f : AxCycle → AxCycle) : (d.modCycle n f).sys = d.sys := rfl
@[simp] theorem modCycle_image (d : Dev) (n : Nat) (f : AxCycle → AxCycle) : (d.modCycle n f).image = d.image := rfl
@[simp] theorem modCycle_regs (d : Dev) (n : Nat) (f : AxCycle → AxCycle) : (d.modCycle n f).regs = d.regs := rfl
@[simp] theorem modCycle_sigs (d : Dev) (n : Nat) (f : AxCycle → AxCycle) : (d.modCycle n f).sigs = d.sigs := rfl
@[simp] theorem modCycle_summary (d : Dev) (n : Nat) (f : AxCycle → AxCycle) : (d.modCycle n f).summary = d.summary := rfl
@[simp] theorem modCycle_hidden (d : Dev) (n : Nat) (f : AxCycle → AxCycle) : (d.modCycle n f).hidden = d.hidden := rfl
@[simp] theorem modCycle_cores (d : Dev) (n : Nat) (f : AxCycle → AxCycle) : (d.modCycle n f).cores = d.cores := rfl
@[simp] theorem modCycle_halted (d : Dev) (n : Nat) (f : AxCycle → AxCycle) : (d.modCycle n f).halted = d.halted := rfl
@[simp] theorem modCycle_rstReq (d : Dev) (n : Nat) (f : AxCycle → AxCycle) : (d.modCycle n f).rstReq = d.rstReq := rfl
@[simp] theorem modCycle_doorCyc (d : Dev) (n : Nat) (f : AxCycle → AxCycle) : (d.modCycle n f).doorCyc = d.doorCyc := rfl
@[simp] theorem modCycle_promos (d : Dev) (n : Nat) (f : AxCycle → AxCycle) : (d.modCycle n f).promos = d.promos := rfl
@[simp] theorem modCycle_placer (d : Dev) (n : Nat) (f : AxCycle → AxCycle) : (d.modCycle n f).placer = d.placer := rfl
@[simp] theorem modCycle_ports (d : Dev) (n : Nat) (f : AxCycle → AxCycle) : (d.modCycle n f).ports = d.ports := rfl
@[simp] theorem modCycle_queues (d : Dev) (n : Nat) (f : AxCycle → AxCycle) : (d.modCycle n f).queues = d.queues := rfl
@[simp] theorem modCycle_island (d : Dev) (n : Nat) (f : AxCycle → AxCycle) : (d.modCycle n f).island = d.island := rfl
@[simp] theorem modCycle_field (d : Dev) (n : Nat) (f : AxCycle → AxCycle) : (d.modCycle n f).field = d.field := rfl
@[simp] theorem modCycle_pair (d : Dev) (n : Nat) (f : AxCycle → AxCycle) : (d.modCycle n f).pair = d.pair := rfl
@[simp] theorem modCycle_host (d : Dev) (n : Nat) (f : AxCycle → AxCycle) : (d.modCycle n f).host = d.host := rfl
@[simp] theorem modCycle_cans (d : Dev) (n : Nat) (f : AxCycle → AxCycle) : (d.modCycle n f).cans = d.cans := rfl
@[simp] theorem modCycle_recorder (d : Dev) (n : Nat) (f : AxCycle → AxCycle) : (d.modCycle n f).recorder = d.recorder := rfl
@[simp] theorem modCycle_upd (d : Dev) (n : Nat) (f : AxCycle → AxCycle) : (d.modCycle n f).upd = d.upd := rfl
@[simp] theorem modCycle_trace (d : Dev) (n : Nat) (f : AxCycle → AxCycle) : (d.modCycle n f).trace = d.trace := rfl

/-! What was put is what is read -/

theorem reg_setReg_other (d : Dev) {a b : Nat} (v : Word) (h : b ≠ a) : (d.setReg a v).reg b = d.reg b := by
  have hb : (b == a) = false := by simp [h]
  simp only [Dev.reg, Dev.setReg, smSet]
  split_ifs <;> simp_all [smHas_smDel, smHas_smPut, smGet_smDel_other, smGet_smPut_other]

theorem reg_setReg_self (d : Dev) (a : Nat) (v : Word) : (d.setReg a v).reg a = v := by
  simp only [Dev.reg, Dev.setReg, smSet]
  split_ifs <;> simp_all [smHas_smDel, smHas_smPut, smGet_smPut_self]

theorem axis_setAxis_self (d : Dev) (n : Nat) (x : Axis) : (d.setAxis n x).axis n = x := smGet_smPut_self _ _ _ _

theorem axis_setAxis_other (d : Dev) {n k : Nat} (x : Axis) (h : k ≠ n) : (d.setAxis n x).axis k = d.axis k :=
  smGet_smPut_other _ _ _ _ _ h

theorem core_setCore_self (d : Dev) (c : Nat) (k : Core) : (d.setCore c k).core c = k := smGet_smPut_self _ _ _ _

theorem core_setCore_other (d : Dev) {c e : Nat} (k : Core) (h : e ≠ c) : (d.setCore c k).core e = d.core e :=
  smGet_smPut_other _ _ _ _ _ h

theorem task_setTask_self (d : Dev) (c t : Nat) (x : Task) : (d.setTask c t x).task c t = x := by
  simp [Dev.task, Dev.setTask, core_setCore_self, smGet_smPut_self]

theorem task_setTask_other (d : Dev) {c t e u : Nat} (x : Task) (h : e ≠ c ∨ u ≠ t) : (d.setTask c t x).task e u = d.task e u := by
  by_cases he : e = c
  · subst he
    have hu : u ≠ t := by rcases h with h | h <;> simp_all
    simp [Dev.task, Dev.setTask, core_setCore_self, smGet_smPut_other _ _ _ _ _ hu]
  · simp [Dev.task, Dev.setTask, core_setCore_other _ _ he]

theorem port_setPort_self (d : Dev) (p : Nat) (x : Port) : (d.setPort p x).port p = x := smGet_smPut_self _ _ _ _

theorem port_setPort_other (d : Dev) {p q : Nat} (x : Port) (h : q ≠ p) : (d.setPort p x).port q = d.port q :=
  smGet_smPut_other _ _ _ _ _ h

theorem can_setCan_self (d : Dev) (c : Nat) (x : Can) : (d.setCan c x).can c = x := smGet_smPut_self _ _ _ _

theorem can_setCan_other (d : Dev) {c e : Nat} (x : Can) (h : e ≠ c) : (d.setCan c x).can e = d.can e :=
  smGet_smPut_other _ _ _ _ _ h

theorem safe_setSafe_self (d : Dev) (n : Nat) (x : AxSafe) : (d.setSafe n x).safe n = x := smGet_smPut_self _ _ _ _

theorem safe_setSafe_other (d : Dev) {n k : Nat} (x : AxSafe) (h : k ≠ n) : (d.setSafe n x).safe k = d.safe k :=
  smGet_smPut_other _ _ _ _ _ h

theorem chan_setChan_self (d : Dev) (h : Nat) (x : Hs) : (d.setChan h x).field.chan h = x := smGet_smPut_self _ _ _ _

theorem chan_setChan_other (d : Dev) {h k : Nat} (x : Hs) (hk : k ≠ h) : (d.setChan h x).field.chan k = d.field.chan k :=
  smGet_smPut_other _ _ _ _ _ hk

end Sys2Proof.Machine
end

