-- ==== Sys2Proof/Laws/Sys.lean ====
section
/-! SUPPORT. What leaves the system's state alone: one lemma for each operation of the module that changes neither the power state
nor the counts of frames and operating time.  A proof about a command that is no matter of power cites these. -/

set_option linter.unusedTactic false
set_option linter.unreachableTactic false

namespace Sys2Proof.Machine

/-- What of the system's state only the frame boundary, the power states, starts and resets change. -/
def Sys.fixed (y : Sys) : Sys := { y with free := 0, optHi := 0, minutes := 0, roastTest := 0 }

/-- A module whose system state is `y`. -/
def Kept (σ : Sys) (d : Dev) : Prop := d.sys.fixed = σ

variable {σ : Sys}

theorem Kept.mk {sys : Sys} {image} {regs} {sigs} {hidden} {summary} {cores} {halted} {rstReq} {axes} {doorCyc} {promos} {placer} {ports} {queues} {island} {field} {pair} {host} {cans} {recorder} {upd} {trace} (h : sys.fixed = σ) : Kept σ (Dev.mk sys image regs sigs hidden summary cores halted rstReq axes doorCyc promos placer ports queues island field pair host cans recorder upd trace) := h
theorem Kept.eq {d : Dev} (h : Kept σ d) : d.sys.fixed = σ := h
theorem Kept.ite {c : Prop} [Decidable c] {a b : Dev} (ha : Kept σ a) (hb : Kept σ b) : Kept σ (if c then a else b) := by split <;> assumption
theorem Kept.ite1 {γ : Type} {c : Prop} [Decidable c] {a b : Dev × γ} (ha : Kept σ a.1) (hb : Kept σ b.1) : Kept σ (if c then a else b).1 := by split <;> assumption
theorem Kept.pair {γ : Type} {a : Dev} {b : γ} (ha : Kept σ a) : Kept σ (a, b).1 := ha
theorem Kept.foldl {β : Type} {l : List β} {f : Dev → β → Dev} {d : Dev} (h : ∀ x a, Kept σ x → Kept σ (f x a)) (hd : Kept σ d) : Kept σ (l.foldl f d) := by
  induction l generalizing d with
  | nil => exact hd
  | cons x l ih => exact ih (h d x hd)
theorem Kept.foldlOn {α β : Type} (g : α → Dev) {l : List β} {f : α → β → α} {x : α} (h : ∀ x e, Kept σ (g x) → Kept σ (g (f x e))) (hx : Kept σ (g x)) : Kept σ (g (l.foldl f x)) := by
  induction l generalizing x with
  | nil => exact hx
  | cons e l ih => exact ih (h x e hx)
theorem Kept.foldl1 {β γ : Type} {l : List β} {f : Dev × γ → β → Dev × γ} {d : Dev × γ} (h : ∀ x a, Kept σ x.1 → Kept σ (f x a).1) (hd : Kept σ d.1) : Kept σ (l.foldl f d).1 := by
  induction l generalizing d with
  | nil => exact hd
  | cons x l ih => exact ih (h d x hd)

theorem Dev_setReg_kept {d : Dev} {addr : Nat} {v : Word} (h : Kept σ d) : Kept σ (Dev.setReg d addr v) := by
  unfold Dev.setReg
  repeat' first
    | with_reducible assumption
    | (extract_lets +onlyGivenNames z; clear_value z)
    | with_reducible exact Kept.mk (Kept.eq (by with_reducible assumption))
    | fail_if_no_progress beta_reduce

theorem Dev_nextFree_kept {d : Dev} (h : Kept σ d) : Kept σ (Dev.nextFree d).1 := by
  exact h

theorem Dev_nextFree_keq {d : Dev} {z : Dev} {w : Nat} (e : Dev.nextFree d = (z, w)) (h : Kept σ d) : Kept σ z := by
  have := Dev_nextFree_kept (σ := σ) (d := d) h; rw [e] at this; exact this

theorem Dev_setRegFld_kept {d : Dev} {addr lo width v : Nat} (h : Kept σ d) : Kept σ (Dev.setRegFld d addr lo width v) := by
  unfold Dev.setRegFld
  repeat' first
    | with_reducible assumption
    | with_reducible refine Dev_setReg_kept ?_

theorem Dev_orReg_kept {d : Dev} {addr : Nat} {bits : Word} (h : Kept σ d) : Kept σ (Dev.orReg d addr bits) := by
  unfold Dev.orReg
  repeat' first
    | with_reducible assumption
    | with_reducible refine Dev_setReg_kept ?_

theorem Dev_incReg_kept {d : Dev} {addr : Nat} (h : Kept σ d) : Kept σ (Dev.incReg d addr) := by
  unfold Dev.incReg
  repeat' first
    | with_reducible assumption
    | with_reducible refine Dev_setReg_kept ?_

theorem Dev_incRegFld_kept {d : Dev} {addr lo width : Nat} (h : Kept σ d) : Kept σ (Dev.incRegFld d addr lo width) := by
  unfold Dev.incRegFld
  repeat' first
    | with_reducible assumption
    | with_reducible refine Dev_setRegFld_kept ?_

theorem Dev_setAxis_kept {d : Dev} {n : Nat} {a : Axis} (h : Kept σ d) : Kept σ (Dev.setAxis d n a) := by
  unfold Dev.setAxis
  repeat' first
    | with_reducible assumption
    | (extract_lets +onlyGivenNames z; clear_value z)
    | with_reducible exact Kept.mk (Kept.eq (by with_reducible assumption))
    | fail_if_no_progress beta_reduce

theorem Dev_modMotion_kept {d : Dev} {n : Nat} {f : Motion → Motion} (h : Kept σ d) : Kept σ (Dev.modMotion d n f) := by
  unfold Dev.modMotion
  repeat' first
    | with_reducible assumption
    | (extract_lets +onlyGivenNames z; first | (refine (have hz : Kept σ z := ?_; ?_); (on_goal 1 => (unfold z; clear z)); (on_goal 2 => clear_value z)) | (refine (have hz : Kept σ z.1 := ?_; ?_); (on_goal 1 => (unfold z; clear z)); (on_goal 2 => clear_value z)) | clear_value z)
    | with_reducible refine Dev_setAxis_kept ?_
    | with_reducible exact Kept.mk (Kept.eq (by with_reducible assumption))
    | fail_if_no_progress beta_reduce

theorem Dev_setCore_kept {d : Dev} {c : Nat} {k : Core} (h : Kept σ d) : Kept σ (Dev.setCore d c k) := by
  unfold Dev.setCore
  repeat' first
    | with_reducible assumption
    | (extract_lets +onlyGivenNames z; clear_value z)
    | with_reducible exact Kept.mk (Kept.eq (by with_reducible assumption))
    | fail_if_no_progress beta_reduce

theorem Dev_setTask_kept {d : Dev} {c t : Nat} {x : Task} (h : Kept σ d) : Kept σ (Dev.setTask d c t x) := by
  unfold Dev.setTask
  repeat' first
    | with_reducible assumption
    | (extract_lets +onlyGivenNames z; first | (refine (have hz : Kept σ z := ?_; ?_); (on_goal 1 => (unfold z; clear z)); (on_goal 2 => clear_value z)) | (refine (have hz : Kept σ z.1 := ?_; ?_); (on_goal 1 => (unfold z; clear z)); (on_goal 2 => clear_value z)) | clear_value z)
    | with_reducible refine Dev_setCore_kept ?_
    | with_reducible exact Kept.mk (Kept.eq (by with_reducible assumption))
    | fail_if_no_progress beta_reduce

theorem Dev_setPort_kept {d : Dev} {p : Nat} {x : Port} (h : Kept σ d) : Kept σ (Dev.setPort d p x) := by
  unfold Dev.setPort
  repeat' first
    | with_reducible assumption
    | (extract_lets +onlyGivenNames z; clear_value z)
    | with_reducible exact Kept.mk (Kept.eq (by with_reducible assumption))
    | fail_if_no_progress beta_reduce

theorem Dev_setQueue_kept {d : Dev} {q : Nat} {x : Queue} (h : Kept σ d) : Kept σ (Dev.setQueue d q x) := by
  unfold Dev.setQueue
  repeat' first
    | with_reducible assumption
    | (extract_lets +onlyGivenNames z; clear_value z)
    | with_reducible exact Kept.mk (Kept.eq (by with_reducible assumption))
    | fail_if_no_progress beta_reduce

theorem Dev_setCan_kept {d : Dev} {c : Nat} {x : Can} (h : Kept σ d) : Kept σ (Dev.setCan d c x) := by
  unfold Dev.setCan
  repeat' first
    | with_reducible assumption
    | (extract_lets +onlyGivenNames z; clear_value z)
    | with_reducible exact Kept.mk (Kept.eq (by with_reducible assumption))
    | fail_if_no_progress beta_reduce

theorem Dev_setSafe_kept {d : Dev} {n : Nat} {x : AxSafe} (h : Kept σ d) : Kept σ (Dev.setSafe d n x) := by
  unfold Dev.setSafe
  repeat' first
    | with_reducible assumption
    | (extract_lets +onlyGivenNames z; clear_value z)
    | with_reducible exact Kept.mk (Kept.eq (by with_reducible assumption))
    | fail_if_no_progress beta_reduce

theorem Dev_setChan_kept {d : Dev} {h1 : Nat} {x : Hs} (h : Kept σ d) : Kept σ (Dev.setChan d h1 x) := by
  unfold Dev.setChan
  repeat' first
    | with_reducible assumption
    | (extract_lets +onlyGivenNames z; clear_value z)
    | with_reducible exact Kept.mk (Kept.eq (by with_reducible assumption))
    | fail_if_no_progress beta_reduce

theorem Dev_bumpCounter_kept {d : Dev} {i n : Nat} (h : Kept σ d) : Kept σ (Dev.bumpCounter d i n) := by
  unfold Dev.bumpCounter
  repeat' first
    | with_reducible assumption
    | (extract_lets +onlyGivenNames z; first | (refine (have hz : Kept σ z := ?_; ?_); (on_goal 1 => (unfold z; clear z)); (on_goal 2 => clear_value z)) | (refine (have hz : Kept σ z.1 := ?_; ?_); (on_goal 1 => (unfold z; clear z)); (on_goal 2 => clear_value z)) | clear_value z)
    | with_reducible refine Kept.ite ?_ ?_
    | with_reducible refine Dev_orReg_kept ?_
    | with_reducible exact Kept.mk (Kept.eq (by with_reducible assumption))
    | split
    | fail_if_no_progress beta_reduce

theorem Dev_countEvent_kept {d : Dev} {ev unit n : Nat} (h : Kept σ d) : Kept σ (Dev.countEvent d ev unit n) := by
  unfold Dev.countEvent
  repeat' first
    | with_reducible assumption
    | with_reducible refine Kept.ite ?_ ?_
    | with_reducible refine Dev_bumpCounter_kept ?_
    | with_reducible refine Kept.foldl (fun _ _ _ => ?_) ?_
    | with_reducible refine Kept.foldl1 (fun _ _ _ => ?_) ?_
    | split
    | fail_if_no_progress beta_reduce

theorem Dev_dramBytes_kept {d : Dev} {a n : Nat} (h : Kept σ d) : Kept σ (Dev.dramBytes d a n) := by
  unfold Dev.dramBytes
  repeat' first
    | with_reducible assumption
    | with_reducible refine Dev_countEvent_kept ?_

theorem Dev_packet_kept {d : Dev} {bytes : List Byte} (h : Kept σ d) : Kept σ (Dev.packet d bytes) := by
  unfold Dev.packet
  repeat' first
    | with_reducible assumption
    | (extract_lets +onlyGivenNames z; first | (refine (have hz : Kept σ z := ?_; ?_); (on_goal 1 => (unfold z; clear z)); (on_goal 2 => clear_value z)) | (refine (have hz : Kept σ z.1 := ?_; ?_); (on_goal 1 => (unfold z; clear z)); (on_goal 2 => clear_value z)) | clear_value z)
    | with_reducible refine Kept.ite ?_ ?_
    | with_reducible refine Dev_orReg_kept ?_
    | with_reducible refine Dev_incReg_kept ?_
    | with_reducible exact Kept.mk (Kept.eq (by with_reducible assumption))
    | split
    | fail_if_no_progress beta_reduce

theorem Dev_traceByte_kept {d : Dev} {b : Byte} (h : Kept σ d) : Kept σ (Dev.traceByte d b) := by
  unfold Dev.traceByte
  repeat' first
    | with_reducible assumption
    | (extract_lets +onlyGivenNames z; first | (refine (have hz : Kept σ z := ?_; ?_); (on_goal 1 => (unfold z; clear z)); (on_goal 2 => clear_value z)) | (refine (have hz : Kept σ z.1 := ?_; ?_); (on_goal 1 => (unfold z; clear z)); (on_goal 2 => clear_value z)) | clear_value z)
    | with_reducible refine Kept.ite ?_ ?_
    | with_reducible refine Dev_incReg_kept ?_
    | with_reducible exact Kept.mk (Kept.eq (by with_reducible assumption))
    | split
    | fail_if_no_progress beta_reduce

theorem Dev_drainTrace_kept {d : Dev} (h : Kept σ d) : Kept σ (Dev.drainTrace d) := by
  unfold Dev.drainTrace
  repeat' first
    | with_reducible assumption
    | (extract_lets +onlyGivenNames z; first | (refine (have hz : Kept σ z := ?_; ?_); (on_goal 1 => (unfold z; clear z)); (on_goal 2 => clear_value z)) | (refine (have hz : Kept σ z.1 := ?_; ?_); (on_goal 1 => (unfold z; clear z)); (on_goal 2 => clear_value z)) | clear_value z)
    | with_reducible refine Kept.ite ?_ ?_
    | with_reducible refine Dev_countEvent_kept ?_
    | with_reducible refine Dev_packet_kept ?_
    | with_reducible refine Dev_traceByte_kept ?_
    | with_reducible refine Kept.foldl (fun _ _ _ => ?_) ?_
    | with_reducible exact Kept.mk (Kept.eq (by with_reducible assumption))
    | split
    | fail_if_no_progress beta_reduce

theorem Dev_flushBranches_kept {d : Dev} {c : Nat} (h : Kept σ d) : Kept σ (Dev.flushBranches d c) := by
  unfold Dev.flushBranches
  repeat' first
    | with_reducible assumption
    | (extract_lets +onlyGivenNames z; first | (refine (have hz : Kept σ z := ?_; ?_); (on_goal 1 => (unfold z; clear z)); (on_goal 2 => clear_value z)) | (refine (have hz : Kept σ z.1 := ?_; ?_); (on_goal 1 => (unfold z; clear z)); (on_goal 2 => clear_value z)) | clear_value z)
    | with_reducible refine Kept.ite ?_ ?_
    | with_reducible refine Dev_packet_kept ?_
    | with_reducible exact Kept.mk (Kept.eq (by with_reducible assumption))
    | split
    | fail_if_no_progress beta_reduce

theorem Dev_flowPacket_kept {d : Dev} {c : Nat} {ptype : Byte} {payload : List Byte} (h : Kept σ d) : Kept σ (Dev.flowPacket d c ptype payload) := by
  unfold Dev.flowPacket
  repeat' first
    | with_reducible assumption
    | with_reducible refine Kept.ite ?_ ?_
    | with_reducible refine Dev_packet_kept ?_
    | with_reducible refine Dev_flushBranches_kept ?_
    | split

theorem Dev_traceBranch_kept {d : Dev} {c : Nat} {taken : Bool} (h : Kept σ d) : Kept σ (Dev.traceBranch d c taken) := by
  unfold Dev.traceBranch
  repeat' first
    | with_reducible assumption
    | (extract_lets +onlyGivenNames z; first | (refine (have hz : Kept σ z := ?_; ?_); (on_goal 1 => (unfold z; clear z)); (on_goal 2 => clear_value z)) | (refine (have hz : Kept σ z.1 := ?_; ?_); (on_goal 1 => (unfold z; clear z)); (on_goal 2 => clear_value z)) | clear_value z)
    | with_reducible refine Kept.ite ?_ ?_
    | with_reducible refine Dev_flushBranches_kept ?_
    | with_reducible exact Kept.mk (Kept.eq (by with_reducible assumption))
    | split
    | fail_if_no_progress beta_reduce

theorem Dev_traceTask_kept {d : Dev} {c t ev code : Nat} (h : Kept σ d) : Kept σ (Dev.traceTask d c t ev code) := by
  unfold Dev.traceTask
  repeat' first
    | with_reducible assumption
    | with_reducible refine Dev_flowPacket_kept ?_

theorem Dev_traceSync_kept {d : Dev} (h : Kept σ d) : Kept σ (Dev.traceSync d) := by
  unfold Dev.traceSync
  repeat' first
    | with_reducible assumption
    | with_reducible refine Dev_packet_kept ?_

theorem Dev_traceWrite_kept {d : Dev} {sig tag : Nat} {value : Word} {q : BitVec 8} (h : Kept σ d) : Kept σ (Dev.traceWrite d sig tag value q) := by
  unfold Dev.traceWrite
  repeat' first
    | with_reducible assumption
    | (extract_lets +onlyGivenNames z; first | (refine (have hz : Kept σ z := ?_; ?_); (on_goal 1 => (unfold z; clear z)); (on_goal 2 => clear_value z)) | (refine (have hz : Kept σ z.1 := ?_; ?_); (on_goal 1 => (unfold z; clear z)); (on_goal 2 => clear_value z)) | clear_value z)
    | with_reducible refine Kept.ite ?_ ?_
    | with_reducible refine Dev_packet_kept ?_
    | split
    | fail_if_no_progress beta_reduce

theorem Dev_traceMark_kept {d : Dev} {c : Nat} {marker : Word} (h : Kept σ d) : Kept σ (Dev.traceMark d c marker) := by
  unfold Dev.traceMark
  repeat' first
    | with_reducible assumption
    | with_reducible refine Dev_packet_kept ?_

theorem Dev_trcCommand_kept {d : Dev} {value : Word} (h : Kept σ d) : Kept σ (Dev.trcCommand d value) := by
  unfold Dev.trcCommand
  repeat' first
    | with_reducible assumption
    | (extract_lets +onlyGivenNames z; first | (refine (have hz : Kept σ z := ?_; ?_); (on_goal 1 => (unfold z; clear z)); (on_goal 2 => clear_value z)) | (refine (have hz : Kept σ z.1 := ?_; ?_); (on_goal 1 => (unfold z; clear z)); (on_goal 2 => clear_value z)) | clear_value z)
    | with_reducible refine Kept.ite ?_ ?_
    | with_reducible exact Kept.mk (Kept.eq (by with_reducible assumption))
    | split
    | fail_if_no_progress beta_reduce

theorem Dev_lostEvent_kept {d : Dev} {fromPut : Bool} (h : Kept σ d) : Kept σ (Dev.lostEvent d fromPut) := by
  unfold Dev.lostEvent
  repeat' first
    | with_reducible assumption
    | (extract_lets +onlyGivenNames z; first | (refine (have hz : Kept σ z := ?_; ?_); (on_goal 1 => (unfold z; clear z)); (on_goal 2 => clear_value z)) | (refine (have hz : Kept σ z.1 := ?_; ?_); (on_goal 1 => (unfold z; clear z)); (on_goal 2 => clear_value z)) | clear_value z)
    | with_reducible refine Kept.ite ?_ ?_
    | with_reducible refine Dev_orReg_kept ?_
    | with_reducible exact Kept.mk (Kept.eq (by with_reducible assumption))
    | split
    | fail_if_no_progress beta_reduce

theorem Dev_stage_kept {d : Dev} {x : Record} (h : Kept σ d) : Kept σ (Dev.stage d x) := by
  unfold Dev.stage
  repeat' first
    | with_reducible assumption
    | with_reducible refine Kept.ite ?_ ?_
    | with_reducible refine Dev_dramBytes_kept ?_
    | split

theorem Dev_putRecord_kept {d : Dev} {rtype code subj : Nat} {rep : Bool} {payload : List Byte} (h : Kept σ d) : Kept σ (Dev.putRecord d rtype code subj rep payload) := by
  unfold Dev.putRecord
  repeat' first
    | with_reducible assumption
    | (extract_lets +onlyGivenNames z; first | (refine (have hz : Kept σ z.1 := ?_; ?_); (on_goal 1 => (unfold z; clear z)); (on_goal 2 => clear_value z)) | clear_value z)
    | with_reducible refine Kept.ite ?_ ?_
    | with_reducible refine Dev_lostEvent_kept ?_
    | with_reducible refine Dev_stage_kept ?_
    | with_reducible exact Kept.mk (Kept.eq (by with_reducible assumption))
    | split
    | fail_if_no_progress beta_reduce

theorem Dev_event_kept {d : Dev} {code subj : Nat} {payload : List Byte} (h : Kept σ d) : Kept σ (Dev.event d code subj payload) := by
  unfold Dev.event
  repeat' first
    | with_reducible assumption
    | with_reducible refine Dev_putRecord_kept ?_

theorem Dev_eventRep_kept {d : Dev} {code subj : Nat} {payload : List Byte} (h : Kept σ d) : Kept σ (Dev.eventRep d code subj payload) := by
  unfold Dev.eventRep
  repeat' first
    | with_reducible assumption
    | with_reducible refine Dev_putRecord_kept ?_

theorem Dev_putUser_kept {d : Dev} {core rtype subj : Nat} {payload : List Byte} (h : Kept σ d) : Kept σ (Dev.putUser d core rtype subj payload).1 := by
  unfold Dev.putUser
  repeat' first
    | with_reducible assumption
    | (extract_lets +onlyGivenNames z; first | (refine (have hz : Kept σ z.1 := ?_; ?_); (on_goal 1 => (unfold z; clear z)); (on_goal 2 => clear_value z)) | clear_value z)
    | with_reducible refine Kept.ite ?_ ?_
    | with_reducible refine Kept.ite1 ?_ ?_
    | with_reducible refine Dev_lostEvent_kept ?_
    | with_reducible refine Dev_stage_kept ?_
    | with_reducible exact Kept.mk (Kept.eq (by with_reducible assumption))
    | (with_reducible refine Kept.pair ?_; first | with_reducible assumption | with_reducible refine Dev_lostEvent_kept ?_ | with_reducible refine Dev_stage_kept ?_ | with_reducible exact Kept.mk (Kept.eq (by with_reducible assumption)))
    | split
    | fail_if_no_progress beta_reduce
theorem Dev_putUser_keq {d : Dev} {core rtype subj : Nat} {payload : List Byte} {z : Dev} {w : Nat} (e : Dev.putUser d core rtype subj payload = (z, w)) (h : Kept σ d) : Kept σ z := by
  have := Dev_putUser_kept (σ := σ) (d := d) (core := core) (rtype := rtype) (subj := subj) (payload := payload) h; rw [e] at this; exact this

theorem Dev_commitRecord_kept {d : Dev} (h : Kept σ d) : Kept σ (Dev.commitRecord d) := by
  unfold Dev.commitRecord
  repeat' first
    | with_reducible assumption
    | (extract_lets +onlyGivenNames z; first | (refine (have hz : Kept σ z := ?_; ?_); (on_goal 1 => (unfold z; clear z)); (on_goal 2 => clear_value z)) | (refine (have hz : Kept σ z.1 := ?_; ?_); (on_goal 1 => (unfold z; clear z)); (on_goal 2 => clear_value z)) | clear_value z)
    | with_reducible refine Dev_countEvent_kept ?_
    | with_reducible refine Dev_stage_kept ?_
    | with_reducible exact Kept.mk (Kept.eq (by with_reducible assumption))
    | split
    | fail_if_no_progress beta_reduce

theorem Dev_requestLifetime_kept {d : Dev} {axis : Nat} (h : Kept σ d) : Kept σ (Dev.requestLifetime d axis) := by
  unfold Dev.requestLifetime
  repeat' first
    | with_reducible assumption
    | (extract_lets +onlyGivenNames z; first | (refine (have hz : Kept σ z := ?_; ?_); (on_goal 1 => (unfold z; clear z)); (on_goal 2 => clear_value z)) | (refine (have hz : Kept σ z.1 := ?_; ?_); (on_goal 1 => (unfold z; clear z)); (on_goal 2 => clear_value z)) | clear_value z)
    | with_reducible refine Kept.ite ?_ ?_
    | with_reducible exact Kept.mk (Kept.eq (by with_reducible assumption))
    | split
    | fail_if_no_progress beta_reduce

theorem Dev_commitLifetime_kept {d : Dev} {axis : Nat} (h : Kept σ d) : Kept σ (Dev.commitLifetime d axis) := by
  unfold Dev.commitLifetime
  repeat' first
    | with_reducible assumption
    | (extract_lets +onlyGivenNames z; first | (refine (have hz : Kept σ z := ?_; ?_); (on_goal 1 => (unfold z; clear z)); (on_goal 2 => clear_value z)) | (refine (have hz : Kept σ z.1 := ?_; ?_); (on_goal 1 => (unfold z; clear z)); (on_goal 2 => clear_value z)) | clear_value z)
    | with_reducible refine Dev_setAxis_kept ?_
    | with_reducible exact Kept.mk (Kept.eq (by with_reducible assumption))
    | fail_if_no_progress beta_reduce

theorem Dev_recCmdstat_kept {d : Dev} {code : Nat} {flags : Word} (h : Kept σ d) : Kept σ (Dev.recCmdstat d code flags) := by
  unfold Dev.recCmdstat
  repeat' first
    | with_reducible assumption
    | with_reducible refine Dev_setReg_kept ?_
    | with_reducible refine Dev_orReg_kept ?_

theorem Dev_anchorCommand_kept {d : Dev} {value : Word} (h : Kept σ d) : Kept σ (Dev.anchorCommand d value) := by
  unfold Dev.anchorCommand
  repeat' first
    | with_reducible assumption
    | (extract_lets +onlyGivenNames z; first | (refine (have hz : Kept σ z := ?_; ?_); (on_goal 1 => (unfold z; clear z)); (on_goal 2 => clear_value z)) | (refine (have hz : Kept σ z.1 := ?_; ?_); (on_goal 1 => (unfold z; clear z)); (on_goal 2 => clear_value z)) | clear_value z)
    | with_reducible refine Kept.ite ?_ ?_
    | with_reducible refine Dev_setReg_kept ?_
    | with_reducible refine Dev_putRecord_kept ?_
    | with_reducible refine Dev_recCmdstat_kept ?_
    | with_reducible exact Kept.mk (Kept.eq (by with_reducible assumption))
    | split
    | fail_if_no_progress beta_reduce


theorem Dev_keyCommand_kept {d : Dev} {value : Word} (h : Kept σ d) : Kept σ (Dev.keyCommand d value) := by
  unfold Dev.keyCommand
  repeat' first
    | with_reducible assumption
    | (extract_lets +onlyGivenNames z; clear_value z)
    | with_reducible refine Kept.ite ?_ ?_
    | with_reducible refine Dev_setReg_kept ?_
    | with_reducible refine Dev_recCmdstat_kept ?_
    | with_reducible exact Kept.mk (Kept.eq (by with_reducible assumption))
    | split
    | fail_if_no_progress beta_reduce

theorem Dev_refuseClear_kept {d : Dev} {code : Nat} (h : Kept σ d) : Kept σ (Dev.refuseClear d code).1 := by
  unfold Dev.refuseClear
  repeat' first
    | with_reducible assumption
    | (extract_lets +onlyGivenNames z; first | (refine (have hz : Kept σ z := ?_; ?_); (on_goal 1 => (unfold z; clear z)); (on_goal 2 => clear_value z)) | (refine (have hz : Kept σ z.1 := ?_; ?_); (on_goal 1 => (unfold z; clear z)); (on_goal 2 => clear_value z)) | clear_value z)
    | with_reducible refine Kept.ite ?_ ?_
    | with_reducible refine Kept.ite1 ?_ ?_
    | with_reducible refine Dev_eventRep_kept ?_
    | with_reducible refine Dev_recCmdstat_kept ?_
    | with_reducible exact Kept.mk (Kept.eq (by with_reducible assumption))
    | (with_reducible refine Kept.pair ?_; first | with_reducible assumption | with_reducible refine Dev_eventRep_kept ?_ | with_reducible refine Dev_recCmdstat_kept ?_ | with_reducible exact Kept.mk (Kept.eq (by with_reducible assumption)))
    | split
    | fail_if_no_progress beta_reduce
theorem Dev_refuseClear_keq {d : Dev} {code : Nat} {z : Dev} {w : Nat} (e : Dev.refuseClear d code = (z, w)) (h : Kept σ d) : Kept σ z := by
  have := Dev_refuseClear_kept (σ := σ) (d := d) (code := code) h; rw [e] at this; exact this

theorem Dev_emptyRing_kept {d : Dev} {e9 : ClearEntry} {token : List Byte} (h : Kept σ d) : Kept σ (Dev.emptyRing d e9 token) := by
  unfold Dev.emptyRing
  repeat' first
    | with_reducible assumption
    | (extract_lets +onlyGivenNames z; first | (refine (have hz : Kept σ z := ?_; ?_); (on_goal 1 => (unfold z; clear z)); (on_goal 2 => clear_value z)) | (refine (have hz : Kept σ z.1 := ?_; ?_); (on_goal 1 => (unfold z; clear z)); (on_goal 2 => clear_value z)) | clear_value z)
    | with_reducible refine Dev_orReg_kept ?_
    | with_reducible refine Dev_countEvent_kept ?_
    | with_reducible exact Kept.mk (Kept.eq (by with_reducible assumption))
    | fail_if_no_progress beta_reduce

theorem Dev_clearRequest_kept {d : Dev} {challenge : BitVec 128} {token : List Byte} (h : Kept σ d) : Kept σ (Dev.clearRequest d challenge token).1 := by
  unfold Dev.clearRequest
  repeat' first
    | with_reducible assumption
    | (extract_lets +onlyGivenNames z; first | (refine (have hz : Kept σ z := ?_; ?_); (on_goal 1 => (unfold z; clear z)); (on_goal 2 => clear_value z)) | (refine (have hz : Kept σ z.1 := ?_; ?_); (on_goal 1 => (unfold z; clear z)); (on_goal 2 => clear_value z)) | clear_value z)
    | with_reducible refine Kept.ite ?_ ?_
    | with_reducible refine Kept.ite1 ?_ ?_
    | with_reducible refine Dev_setReg_kept ?_
    | with_reducible refine Dev_recCmdstat_kept ?_
    | with_reducible refine Dev_refuseClear_kept ?_
    | exact Dev_refuseClear_keq ‹_› ‹_›
    | with_reducible refine Dev_emptyRing_kept ?_
    | with_reducible exact Kept.mk (Kept.eq (by with_reducible assumption))
    | (with_reducible refine Kept.pair ?_; first | with_reducible assumption | with_reducible refine Dev_setReg_kept ?_ | with_reducible refine Dev_recCmdstat_kept ?_ | with_reducible refine Dev_refuseClear_kept ?_ | with_reducible refine Dev_emptyRing_kept ?_ | with_reducible exact Kept.mk (Kept.eq (by with_reducible assumption)))
    | split
    | fail_if_no_progress beta_reduce
theorem Dev_clearRequest_keq {d : Dev} {challenge : BitVec 128} {token : List Byte} {z : Dev} {w : Nat} (e : Dev.clearRequest d challenge token = (z, w)) (h : Kept σ d) : Kept σ z := by
  have := Dev_clearRequest_kept (σ := σ) (d := d) (challenge := challenge) (token := token) h; rw [e] at this; exact this

theorem Dev_newChallenge_kept {d : Dev} {random : BitVec 128} (h : Kept σ d) : Kept σ (Dev.newChallenge d random) := by
  unfold Dev.newChallenge
  repeat' first
    | with_reducible assumption
    | (extract_lets +onlyGivenNames z; clear_value z)
    | with_reducible exact Kept.mk (Kept.eq (by with_reducible assumption))
    | fail_if_no_progress beta_reduce

theorem Dev_cutEngine_kept {d : Dev} {k : Nat} (h : Kept σ d) : Kept σ (Dev.cutEngine d k) := by
  unfold Dev.cutEngine
  repeat' first
    | with_reducible assumption
    | (extract_lets +onlyGivenNames z; first | (refine (have hz : Kept σ z := ?_; ?_); (on_goal 1 => (unfold z; clear z)); (on_goal 2 => clear_value z)) | (refine (have hz : Kept σ z.1 := ?_; ?_); (on_goal 1 => (unfold z; clear z)); (on_goal 2 => clear_value z)) | clear_value z)
    | with_reducible refine Dev_setAxis_kept ?_
    | with_reducible exact Kept.mk (Kept.eq (by with_reducible assumption))
    | split
    | fail_if_no_progress beta_reduce

theorem Dev_finishClear_kept {d : Dev} (h : Kept σ d) : Kept σ (Dev.finishClear d) := by
  unfold Dev.finishClear
  repeat' first
    | with_reducible assumption
    | (extract_lets +onlyGivenNames z; first | (refine (have hz : Kept σ z := ?_; ?_); (on_goal 1 => (unfold z; clear z)); (on_goal 2 => clear_value z)) | (refine (have hz : Kept σ z.1 := ?_; ?_); (on_goal 1 => (unfold z; clear z)); (on_goal 2 => clear_value z)) | clear_value z)
    | with_reducible refine Dev_orReg_kept ?_
    | with_reducible refine Dev_countEvent_kept ?_
    | with_reducible exact Kept.mk (Kept.eq (by with_reducible assumption))
    | split
    | fail_if_no_progress beta_reduce

theorem Dev_recorderScan_kept {d : Dev} (h : Kept σ d) : Kept σ (Dev.recorderScan d) := by
  unfold Dev.recorderScan
  repeat' first
    | with_reducible assumption
    | (extract_lets +onlyGivenNames z; first | (refine (have hz : Kept σ z := ?_; ?_); (on_goal 1 => (unfold z; clear z)); (on_goal 2 => clear_value z)) | (refine (have hz : Kept σ z.1 := ?_; ?_); (on_goal 1 => (unfold z; clear z)); (on_goal 2 => clear_value z)) | clear_value z)
    | with_reducible refine Kept.ite ?_ ?_
    | with_reducible refine Dev_nextFree_kept ?_
    | exact Dev_nextFree_keq ‹_› ‹_›
    | with_reducible refine Dev_orReg_kept ?_
    | with_reducible refine Dev_event_kept ?_
    | with_reducible refine Dev_finishClear_kept ?_
    | with_reducible exact Kept.mk (Kept.eq (by with_reducible assumption))
    | split
    | fail_if_no_progress beta_reduce

theorem Dev_lifetimeChecks_kept {d : Dev} (h : Kept σ d) : Kept σ (Dev.lifetimeChecks d) := by
  unfold Dev.lifetimeChecks
  repeat' first
    | with_reducible assumption
    | with_reducible refine Kept.ite ?_ ?_
    | with_reducible refine Dev_orReg_kept ?_
    | with_reducible refine Dev_event_kept ?_
    | with_reducible refine Kept.foldl (fun _ _ _ => ?_) ?_
    | split
    | fail_if_no_progress beta_reduce

theorem Dev_recorderLosses_kept {d : Dev} (h : Kept σ d) : Kept σ (Dev.recorderLosses d) := by
  unfold Dev.recorderLosses
  repeat' first
    | with_reducible assumption
    | (extract_lets +onlyGivenNames z; first | (refine (have hz : Kept σ z := ?_; ?_); (on_goal 1 => (unfold z; clear z)); (on_goal 2 => clear_value z)) | (refine (have hz : Kept σ z.1 := ?_; ?_); (on_goal 1 => (unfold z; clear z)); (on_goal 2 => clear_value z)) | clear_value z)
    | with_reducible refine Kept.ite ?_ ?_
    | with_reducible refine Dev_orReg_kept ?_
    | with_reducible refine Dev_event_kept ?_
    | with_reducible exact Kept.mk (Kept.eq (by with_reducible assumption))
    | split
    | fail_if_no_progress beta_reduce

theorem Dev_recorderStart_kept {d : Dev} (h : Kept σ d) : Kept σ (Dev.recorderStart d) := by
  unfold Dev.recorderStart
  repeat' first
    | with_reducible assumption
    | with_reducible refine Dev_recorderScan_kept ?_
    | with_reducible refine Dev_lifetimeChecks_kept ?_
    | with_reducible refine Dev_recorderLosses_kept ?_

theorem Dev_roundCycles_kept {d : Dev} {c : Nat} {door : Option Nat} {n : Nat} (h : Kept σ d) : Kept σ (Dev.roundCycles d c door n) := by
  unfold Dev.roundCycles
  repeat' first
    | with_reducible assumption
    | (extract_lets +onlyGivenNames z; first | (refine (have hz : Kept σ z := ?_; ?_); (on_goal 1 => (unfold z; clear z)); (on_goal 2 => clear_value z)) | (refine (have hz : Kept σ z.1 := ?_; ?_); (on_goal 1 => (unfold z; clear z)); (on_goal 2 => clear_value z)) | clear_value z)
    | with_reducible refine Dev_setCore_kept ?_
    | with_reducible exact Kept.mk (Kept.eq (by with_reducible assumption))
    | split
    | fail_if_no_progress beta_reduce

theorem Dev_run_kept {d : Dev} {c t : Nat} {x : Task} {starts : Bool} (h : Kept σ d) : Kept σ (Dev.run d c t x starts) := by
  unfold Dev.run
  repeat' first
    | with_reducible assumption
    | (extract_lets +onlyGivenNames z; first | (refine (have hz : Kept σ z := ?_; ?_); (on_goal 1 => (unfold z; clear z)); (on_goal 2 => clear_value z)) | (refine (have hz : Kept σ z.1 := ?_; ?_); (on_goal 1 => (unfold z; clear z)); (on_goal 2 => clear_value z)) | clear_value z)
    | with_reducible refine Kept.ite ?_ ?_
    | with_reducible refine Dev_setCore_kept ?_
    | with_reducible refine Dev_setTask_kept ?_
    | with_reducible refine Dev_countEvent_kept ?_
    | with_reducible refine Dev_flowPacket_kept ?_
    | with_reducible refine Dev_roundCycles_kept ?_
    | with_reducible exact Kept.mk (Kept.eq (by with_reducible assumption))
    | split
    | fail_if_no_progress beta_reduce

theorem Dev_activate_kept {d : Dev} {c t : Nat} {x : Task} (h : Kept σ d) : Kept σ (Dev.activate d c t x) := by
  unfold Dev.activate
  repeat' first
    | with_reducible assumption
    | (extract_lets +onlyGivenNames z; first | (refine (have hz : Kept σ z := ?_; ?_); (on_goal 1 => (unfold z; clear z)); (on_goal 2 => clear_value z)) | (refine (have hz : Kept σ z.1 := ?_; ?_); (on_goal 1 => (unfold z; clear z)); (on_goal 2 => clear_value z)) | clear_value z)
    | with_reducible refine Kept.ite ?_ ?_
    | with_reducible refine Dev_run_kept ?_
    | with_reducible exact Kept.mk (Kept.eq (by with_reducible assumption))
    | split
    | fail_if_no_progress beta_reduce

theorem Dev_take_kept {d : Dev} {c t : Nat} {x : Task} (h : Kept σ d) : Kept σ (Dev.take d c t x) := by
  unfold Dev.take
  repeat' first
    | with_reducible assumption
    | with_reducible refine Kept.ite ?_ ?_
    | with_reducible refine Dev_event_kept ?_
    | with_reducible refine Dev_run_kept ?_
    | with_reducible refine Dev_activate_kept ?_
    | split

theorem Dev_endRound_kept {d : Dev} {c : Nat} (h : Kept σ d) : Kept σ (Dev.endRound d c) := by
  unfold Dev.endRound
  repeat' first
    | with_reducible assumption
    | (extract_lets +onlyGivenNames z; first | (refine (have hz : Kept σ z := ?_; ?_); (on_goal 1 => (unfold z; clear z)); (on_goal 2 => clear_value z)) | (refine (have hz : Kept σ z.1 := ?_; ?_); (on_goal 1 => (unfold z; clear z)); (on_goal 2 => clear_value z)) | clear_value z)
    | with_reducible refine Dev_setCore_kept ?_
    | with_reducible exact Kept.mk (Kept.eq (by with_reducible assumption))
    | fail_if_no_progress beta_reduce

theorem Dev_wakeFrame_kept {d : Dev} {c : Nat} (h : Kept σ d) : Kept σ (Dev.wakeFrame d c) := by
  unfold Dev.wakeFrame
  repeat' first
    | with_reducible assumption
    | (extract_lets +onlyGivenNames z; first | (refine (have hz : Kept σ z := ?_; ?_); (on_goal 1 => (unfold z; clear z)); (on_goal 2 => clear_value z)) | (refine (have hz : Kept σ z.1 := ?_; ?_); (on_goal 1 => (unfold z; clear z)); (on_goal 2 => clear_value z)) | clear_value z)
    | with_reducible refine Kept.ite ?_ ?_
    | with_reducible refine Dev_setCore_kept ?_
    | with_reducible exact Kept.mk (Kept.eq (by with_reducible assumption))
    | split
    | fail_if_no_progress beta_reduce

theorem Dev_choose_kept {d : Dev} {c : Nat} (h : Kept σ d) : Kept σ (Dev.choose d c) := by
  unfold Dev.choose
  repeat' first
    | with_reducible assumption
    | (extract_lets +onlyGivenNames z; first | (refine (have hz : Kept σ z := ?_; ?_); (on_goal 1 => (unfold z; clear z)); (on_goal 2 => clear_value z)) | (refine (have hz : Kept σ z.1 := ?_; ?_); (on_goal 1 => (unfold z; clear z)); (on_goal 2 => clear_value z)) | clear_value z)
    | with_reducible refine Kept.ite ?_ ?_
    | with_reducible refine Dev_setCore_kept ?_
    | with_reducible refine Dev_take_kept ?_
    | with_reducible refine Dev_endRound_kept ?_
    | with_reducible refine Dev_wakeFrame_kept ?_
    | with_reducible exact Kept.mk (Kept.eq (by with_reducible assumption))
    | split
    | fail_if_no_progress beta_reduce

theorem Dev_leave_kept {d : Dev} {c t : Nat} {x : Task} (h : Kept σ d) : Kept σ (Dev.leave d c t x) := by
  unfold Dev.leave
  repeat' first
    | with_reducible assumption
    | (extract_lets +onlyGivenNames z; first | (refine (have hz : Kept σ z := ?_; ?_); (on_goal 1 => (unfold z; clear z)); (on_goal 2 => clear_value z)) | (refine (have hz : Kept σ z.1 := ?_; ?_); (on_goal 1 => (unfold z; clear z)); (on_goal 2 => clear_value z)) | clear_value z)
    | with_reducible refine Dev_setCore_kept ?_
    | with_reducible refine Dev_setTask_kept ?_
    | with_reducible exact Kept.mk (Kept.eq (by with_reducible assumption))
    | fail_if_no_progress beta_reduce

theorem Dev_preempt_kept {d : Dev} {c : Nat} (h : Kept σ d) : Kept σ (Dev.preempt d c) := by
  unfold Dev.preempt
  repeat' first
    | with_reducible assumption
    | (extract_lets +onlyGivenNames z; first | (refine (have hz : Kept σ z := ?_; ?_); (on_goal 1 => (unfold z; clear z)); (on_goal 2 => clear_value z)) | (refine (have hz : Kept σ z.1 := ?_; ?_); (on_goal 1 => (unfold z; clear z)); (on_goal 2 => clear_value z)) | clear_value z)
    | with_reducible refine Kept.ite ?_ ?_
    | with_reducible refine Dev_setCore_kept ?_
    | with_reducible refine Dev_traceTask_kept ?_
    | with_reducible refine Dev_leave_kept ?_
    | with_reducible exact Kept.mk (Kept.eq (by with_reducible assumption))
    | split
    | fail_if_no_progress beta_reduce

theorem Dev_kick_kept {d : Dev} {c : Nat} (h : Kept σ d) : Kept σ (Dev.kick d c) := by
  unfold Dev.kick
  repeat' first
    | with_reducible assumption
    | with_reducible refine Kept.ite ?_ ?_
    | with_reducible refine Dev_choose_kept ?_
    | with_reducible refine Dev_preempt_kept ?_
    | split

theorem Dev_takeOrd_kept {d : Dev} {c : Nat} (h : Kept σ d) : Kept σ (Dev.takeOrd d c) := by
  unfold Dev.takeOrd
  repeat' first
    | with_reducible assumption
    | (extract_lets +onlyGivenNames z; clear_value z)
    | with_reducible refine Dev_setCore_kept ?_
    | with_reducible exact Kept.mk (Kept.eq (by with_reducible assumption))
    | fail_if_no_progress beta_reduce

theorem Dev_queueTrigger_kept {d : Dev} {c t idx : Nat} {sig : Nat} (h : Kept σ d) : Kept σ (Dev.queueTrigger d c t idx sig) := by
  unfold Dev.queueTrigger
  repeat' first
    | with_reducible assumption
    | (extract_lets +onlyGivenNames z; first | (refine (have hz : Kept σ z := ?_; ?_); (on_goal 1 => (unfold z; clear z)); (on_goal 2 => clear_value z)) | (refine (have hz : Kept σ z.1 := ?_; ?_); (on_goal 1 => (unfold z; clear z)); (on_goal 2 => clear_value z)) | clear_value z)
    | with_reducible refine Kept.ite ?_ ?_
    | with_reducible refine Dev_orReg_kept ?_
    | with_reducible refine Dev_incReg_kept ?_
    | with_reducible refine Dev_setTask_kept ?_
    | with_reducible refine Dev_eventRep_kept ?_
    | with_reducible refine Dev_kick_kept ?_
    | with_reducible refine Dev_takeOrd_kept ?_
    | with_reducible exact Kept.mk (Kept.eq (by with_reducible assumption))
    | split
    | fail_if_no_progress beta_reduce

theorem Dev_fireTriggers_kept {d : Dev} {test : TrigKind → Bool} (h : Kept σ d) : Kept σ (Dev.fireTriggers d test) := by
  unfold Dev.fireTriggers
  repeat' first
    | with_reducible assumption
    | with_reducible refine Kept.ite ?_ ?_
    | with_reducible refine Dev_queueTrigger_kept ?_
    | with_reducible refine Kept.foldl (fun _ _ _ => ?_) ?_
    | with_reducible refine Kept.foldl1 (fun _ _ _ => ?_) ?_
    | split
    | fail_if_no_progress beta_reduce

theorem Dev_raiseStop_kept {d : Dev} {axis cause ramp code : Nat} (h : Kept σ d) : Kept σ (Dev.raiseStop d axis cause ramp code) := by
  unfold Dev.raiseStop
  repeat' first
    | with_reducible assumption
    | (extract_lets +onlyGivenNames z; clear_value z)
    | with_reducible refine Dev_modMotion_kept ?_
    | with_reducible exact Kept.mk (Kept.eq (by with_reducible assumption))
    | fail_if_no_progress beta_reduce

theorem Dev_raiseStopNext_kept {d : Dev} {axis cause ramp code : Nat} (h : Kept σ d) : Kept σ (Dev.raiseStopNext d axis cause ramp code) := by
  unfold Dev.raiseStopNext
  repeat' first
    | with_reducible assumption
    | (extract_lets +onlyGivenNames z; clear_value z)
    | with_reducible refine Dev_modMotion_kept ?_
    | with_reducible exact Kept.mk (Kept.eq (by with_reducible assumption))
    | fail_if_no_progress beta_reduce

theorem Dev_haltInstance_kept {d : Dev} {c inst : Nat} (h : Kept σ d) : Kept σ (Dev.haltInstance d c inst) := by
  unfold Dev.haltInstance
  repeat' first
    | with_reducible assumption
    | (extract_lets +onlyGivenNames z; first | (refine (have hz : Kept σ z := ?_; ?_); (on_goal 1 => (unfold z; clear z)); (on_goal 2 => clear_value z)) | (refine (have hz : Kept σ z.1 := ?_; ?_); (on_goal 1 => (unfold z; clear z)); (on_goal 2 => clear_value z)) | clear_value z)
    | with_reducible refine Kept.ite ?_ ?_
    | with_reducible refine Dev_setCore_kept ?_
    | with_reducible exact Kept.mk (Kept.eq (by with_reducible assumption))
    | split
    | fail_if_no_progress beta_reduce

theorem Dev_breakCopy_kept {d : Dev} {door : Nat → Bool} (h : Kept σ d) : Kept σ (Dev.breakCopy d door) := by
  unfold Dev.breakCopy
  repeat' first
    | with_reducible assumption
    | (extract_lets +onlyGivenNames z; first | (refine (have hz : Kept σ z.1 := ?_; ?_); (on_goal 1 => (unfold z; clear z)); (on_goal 2 => clear_value z)) | clear_value z)
    | with_reducible refine Kept.ite ?_ ?_
    | with_reducible exact Kept.mk (Kept.eq (by with_reducible assumption))
    | split
    | fail_if_no_progress beta_reduce

theorem Dev_instanceFault_kept {d : Dev} {c t : Nat} {x : Task} {code : Nat} (h : Kept σ d) : Kept σ (Dev.instanceFault d c t x code) := by
  unfold Dev.instanceFault
  repeat' first
    | with_reducible assumption
    | (extract_lets +onlyGivenNames z; first | (refine (have hz : Kept σ z := ?_; ?_); (on_goal 1 => (unfold z; clear z)); (on_goal 2 => clear_value z)) | (refine (have hz : Kept σ z.1 := ?_; ?_); (on_goal 1 => (unfold z; clear z)); (on_goal 2 => clear_value z)) | clear_value z)
    | with_reducible refine Dev_setReg_kept ?_
    | with_reducible refine Dev_orReg_kept ?_
    | with_reducible refine Dev_incReg_kept ?_
    | with_reducible refine Dev_modMotion_kept ?_
    | with_reducible refine Dev_setCore_kept ?_
    | with_reducible refine Dev_raiseStopNext_kept ?_
    | with_reducible refine Dev_haltInstance_kept ?_
    | with_reducible refine Dev_breakCopy_kept ?_
    | with_reducible refine Kept.foldl (fun _ _ _ => ?_) ?_
    | with_reducible exact Kept.mk (Kept.eq (by with_reducible assumption))
    | fail_if_no_progress beta_reduce

theorem Dev_systemFault_kept {d : Dev} {t : Nat} {x : Task} {code : Nat} (h : Kept σ d) : Kept σ (Dev.systemFault d t x code) := by
  unfold Dev.systemFault
  repeat' first
    | with_reducible assumption
    | (extract_lets +onlyGivenNames z; first | (refine (have hz : Kept σ z := ?_; ?_); (on_goal 1 => (unfold z; clear z)); (on_goal 2 => clear_value z)) | (refine (have hz : Kept σ z.1 := ?_; ?_); (on_goal 1 => (unfold z; clear z)); (on_goal 2 => clear_value z)) | clear_value z)
    | with_reducible refine Kept.ite ?_ ?_
    | with_reducible refine Dev_setReg_kept ?_
    | with_reducible refine Dev_orReg_kept ?_
    | with_reducible refine Dev_incReg_kept ?_
    | with_reducible refine Dev_setCore_kept ?_
    | with_reducible refine Dev_event_kept ?_
    | with_reducible exact Kept.mk (Kept.eq (by with_reducible assumption))
    | split
    | fail_if_no_progress beta_reduce

theorem Dev_taskFault_kept {d : Dev} {c t code count : Nat} (h : Kept σ d) : Kept σ (Dev.taskFault d c t code count) := by
  unfold Dev.taskFault
  repeat' first
    | with_reducible assumption
    | (extract_lets +onlyGivenNames z; first | (refine (have hz : Kept σ z := ?_; ?_); (on_goal 1 => (unfold z; clear z)); (on_goal 2 => clear_value z)) | (refine (have hz : Kept σ z.1 := ?_; ?_); (on_goal 1 => (unfold z; clear z)); (on_goal 2 => clear_value z)) | clear_value z)
    | with_reducible refine Kept.ite ?_ ?_
    | with_reducible refine Dev_setTask_kept ?_
    | with_reducible refine Dev_traceTask_kept ?_
    | with_reducible refine Dev_roundCycles_kept ?_
    | with_reducible refine Dev_choose_kept ?_
    | with_reducible refine Dev_instanceFault_kept ?_
    | with_reducible refine Dev_systemFault_kept ?_
    | with_reducible exact Kept.mk (Kept.eq (by with_reducible assumption))
    | split
    | fail_if_no_progress beta_reduce

theorem Dev_primeTask_kept {d : Dev} {c t : Nat} {g1 g2 : Word} (h : Kept σ d) : Kept σ (Dev.primeTask d c t g1 g2) := by
  unfold Dev.primeTask
  repeat' first
    | with_reducible assumption
    | (extract_lets +onlyGivenNames z; first | (refine (have hz : Kept σ z := ?_; ?_); (on_goal 1 => (unfold z; clear z)); (on_goal 2 => clear_value z)) | (refine (have hz : Kept σ z.1 := ?_; ?_); (on_goal 1 => (unfold z; clear z)); (on_goal 2 => clear_value z)) | clear_value z)
    | with_reducible refine Dev_setTask_kept ?_
    | with_reducible exact Kept.mk (Kept.eq (by with_reducible assumption))
    | split
    | fail_if_no_progress beta_reduce

theorem Dev_releaseCoarse_kept {d : Dev} {c t : Nat} (h : Kept σ d) : Kept σ (Dev.releaseCoarse d c t) := by
  unfold Dev.releaseCoarse
  repeat' first
    | with_reducible assumption
    | (extract_lets +onlyGivenNames z; first | (refine (have hz : Kept σ z := ?_; ?_); (on_goal 1 => (unfold z; clear z)); (on_goal 2 => clear_value z)) | (refine (have hz : Kept σ z.1 := ?_; ?_); (on_goal 1 => (unfold z; clear z)); (on_goal 2 => clear_value z)) | clear_value z)
    | with_reducible refine Kept.ite ?_ ?_
    | with_reducible refine Dev_setCore_kept ?_
    | with_reducible refine Dev_setTask_kept ?_
    | with_reducible refine Dev_takeOrd_kept ?_
    | with_reducible refine Dev_taskFault_kept ?_
    | with_reducible refine Dev_primeTask_kept ?_
    | with_reducible exact Kept.mk (Kept.eq (by with_reducible assumption))
    | split
    | fail_if_no_progress beta_reduce

theorem Dev_releaseDue_kept {d : Dev} {c t : Nat} (h : Kept σ d) : Kept σ (Dev.releaseDue d c t) := by
  unfold Dev.releaseDue
  repeat' first
    | with_reducible assumption
    | (extract_lets +onlyGivenNames z; first | (refine (have hz : Kept σ z := ?_; ?_); (on_goal 1 => (unfold z; clear z)); (on_goal 2 => clear_value z)) | (refine (have hz : Kept σ z.1 := ?_; ?_); (on_goal 1 => (unfold z; clear z)); (on_goal 2 => clear_value z)) | clear_value z)
    | with_reducible refine Kept.ite ?_ ?_
    | with_reducible refine Dev_releaseCoarse_kept ?_
    | split
    | fail_if_no_progress beta_reduce

theorem Dev_countStore_kept {d : Dev} {n : Nat} (h : Kept σ d) : Kept σ (Dev.countStore d n) := by
  unfold Dev.countStore
  repeat' first
    | with_reducible assumption
    | with_reducible refine Kept.ite ?_ ?_
    | with_reducible refine Dev_countEvent_kept ?_
    | split

theorem Dev_setSig_kept {d : Dev} {n : Nat} {s : Sig} (h : Kept σ d) : Kept σ (Dev.setSig d n s) := by
  unfold Dev.setSig
  repeat' first
    | with_reducible assumption
    | (extract_lets +onlyGivenNames z; clear_value z)
    | with_reducible exact Kept.mk (Kept.eq (by with_reducible assumption))
    | fail_if_no_progress beta_reduce

theorem Dev_fireWrite_kept {d : Dev} {n : Nat} {changed : Bool} (h : Kept σ d) : Kept σ (Dev.fireWrite d n changed) := by
  unfold Dev.fireWrite
  repeat' first
    | with_reducible assumption
    | with_reducible refine Dev_fireTriggers_kept ?_
    | split
    | fail_if_no_progress beta_reduce

theorem Dev_sigStore_kept {d : Dev} {n : Nat} {v : Word} {valid stale : Bool} {tag : Nat} (h : Kept σ d) : Kept σ (Dev.sigStore d n v valid stale tag) := by
  unfold Dev.sigStore
  repeat' first
    | with_reducible assumption
    | (extract_lets +onlyGivenNames z; first | (refine (have hz : Kept σ z := ?_; ?_); (on_goal 1 => (unfold z; clear z)); (on_goal 2 => clear_value z)) | (refine (have hz : Kept σ z.1 := ?_; ?_); (on_goal 1 => (unfold z; clear z)); (on_goal 2 => clear_value z)) | clear_value z)
    | with_reducible refine Kept.ite ?_ ?_
    | with_reducible refine Dev_traceWrite_kept ?_
    | with_reducible refine Dev_setSig_kept ?_
    | with_reducible refine Dev_fireWrite_kept ?_
    | split
    | fail_if_no_progress beta_reduce

theorem Dev_hide_kept {d : Dev} {n : Nat} (h : Kept σ d) : Kept σ (Dev.hide d n) := by
  unfold Dev.hide
  repeat' first
    | with_reducible assumption
    | (extract_lets +onlyGivenNames z; clear_value z)
    | with_reducible exact Kept.mk (Kept.eq (by with_reducible assumption))
    | fail_if_no_progress beta_reduce

theorem Dev_sigDiscard_kept {d : Dev} (h : Kept σ d) : Kept σ (Dev.sigDiscard d) := by
  unfold Dev.sigDiscard
  repeat' first
    | with_reducible assumption
    | with_reducible refine Dev_sigStore_kept ?_


theorem Dev_sigHome_kept {d : Dev} {n : Nat} {v : Word} {valid stale : Bool} {tag : Nat} (h : Kept σ d) : Kept σ (Dev.sigHome d n v valid stale tag) := by
  unfold Dev.sigHome
  repeat' first
    | with_reducible assumption
    | (extract_lets +onlyGivenNames z; clear_value z)
    | with_reducible refine Kept.ite ?_ ?_
    | with_reducible refine Dev_sigStore_kept ?_
    | with_reducible refine Dev_sigDiscard_kept ?_
    | with_reducible exact Kept.mk (Kept.eq (by with_reducible assumption))
    | split
    | fail_if_no_progress beta_reduce

theorem Dev_devSig_kept {d : Dev} {n : Nat} {v : Word} {valid : Bool} {stale : Bool} (h : Kept σ d) : Kept σ (Dev.devSig d n v valid stale) := by
  unfold Dev.devSig
  repeat' first
    | with_reducible assumption
    | with_reducible refine Kept.ite ?_ ?_
    | with_reducible refine Dev_sigHome_kept ?_
    | split

theorem Dev_devNat_kept {d : Dev} {n v : Nat} (h : Kept σ d) : Kept σ (Dev.devNat d n v) := by
  unfold Dev.devNat
  repeat' first
    | with_reducible assumption
    | with_reducible refine Dev_devSig_kept ?_

theorem Dev_islandSig_kept {d : Dev} {n : Nat} {v : Word} {valid : Bool} (h : Kept σ d) : Kept σ (Dev.islandSig d n v valid) := by
  unfold Dev.islandSig
  repeat' first
    | with_reducible assumption
    | with_reducible refine Kept.ite ?_ ?_
    | with_reducible refine Dev_sigStore_kept ?_
    | split

theorem Dev_sigMirrored_kept {d : Dev} {n : Nat} {v : Word} {q : BitVec 8} (h : Kept σ d) : Kept σ (Dev.sigMirrored d n v q) := by
  unfold Dev.sigMirrored
  repeat' first
    | with_reducible assumption
    | (extract_lets +onlyGivenNames z; first | (refine (have hz : Kept σ z := ?_; ?_); (on_goal 1 => (unfold z; clear z)); (on_goal 2 => clear_value z)) | (refine (have hz : Kept σ z.1 := ?_; ?_); (on_goal 1 => (unfold z; clear z)); (on_goal 2 => clear_value z)) | clear_value z)
    | with_reducible refine Kept.ite ?_ ?_
    | with_reducible refine Dev_traceWrite_kept ?_
    | with_reducible refine Dev_countStore_kept ?_
    | with_reducible refine Dev_setSig_kept ?_
    | with_reducible refine Dev_fireWrite_kept ?_
    | with_reducible exact Kept.mk (Kept.eq (by with_reducible assumption))
    | split
    | fail_if_no_progress beta_reduce

theorem Dev_sigQuality_kept {d : Dev} {n : Nat} {setStale clearValid : Bool} (h : Kept σ d) : Kept σ (Dev.sigQuality d n setStale clearValid) := by
  unfold Dev.sigQuality
  repeat' first
    | with_reducible assumption
    | (extract_lets +onlyGivenNames z; first | (refine (have hz : Kept σ z := ?_; ?_); (on_goal 1 => (unfold z; clear z)); (on_goal 2 => clear_value z)) | (refine (have hz : Kept σ z.1 := ?_; ?_); (on_goal 1 => (unfold z; clear z)); (on_goal 2 => clear_value z)) | clear_value z)
    | with_reducible refine Kept.ite ?_ ?_
    | with_reducible refine Dev_setSig_kept ?_
    | with_reducible exact Kept.mk (Kept.eq (by with_reducible assumption))
    | split
    | fail_if_no_progress beta_reduce

theorem Dev_sigMark_kept {d : Dev} {n : Nat} (h : Kept σ d) : Kept σ (Dev.sigMark d n) := by
  unfold Dev.sigMark
  repeat' first
    | with_reducible assumption
    | (extract_lets +onlyGivenNames z; first | (refine (have hz : Kept σ z := ?_; ?_); (on_goal 1 => (unfold z; clear z)); (on_goal 2 => clear_value z)) | (refine (have hz : Kept σ z.1 := ?_; ?_); (on_goal 1 => (unfold z; clear z)); (on_goal 2 => clear_value z)) | clear_value z)
    | with_reducible refine Kept.ite ?_ ?_
    | with_reducible refine Dev_setSig_kept ?_
    | with_reducible exact Kept.mk (Kept.eq (by with_reducible assumption))
    | split
    | fail_if_no_progress beta_reduce

theorem Dev_sigInit_kept {d : Dev} {n : Nat} {v : Word} (h : Kept σ d) : Kept σ (Dev.sigInit d n v) := by
  unfold Dev.sigInit
  repeat' first
    | with_reducible assumption
    | (extract_lets +onlyGivenNames z; first | (refine (have hz : Kept σ z := ?_; ?_); (on_goal 1 => (unfold z; clear z)); (on_goal 2 => clear_value z)) | (refine (have hz : Kept σ z.1 := ?_; ?_); (on_goal 1 => (unfold z; clear z)); (on_goal 2 => clear_value z)) | clear_value z)
    | with_reducible refine Kept.ite ?_ ?_
    | with_reducible refine Dev_traceWrite_kept ?_
    | with_reducible refine Dev_countStore_kept ?_
    | with_reducible refine Dev_setSig_kept ?_
    | with_reducible refine Dev_fireWrite_kept ?_
    | with_reducible refine Dev_sigDiscard_kept ?_
    | with_reducible exact Kept.mk (Kept.eq (by with_reducible assumption))
    | split
    | fail_if_no_progress beta_reduce

theorem Dev_copySummary_kept {d : Dev} (h : Kept σ d) : Kept σ (Dev.copySummary d) := by
  unfold Dev.copySummary
  repeat' first
    | with_reducible assumption
    | (extract_lets +onlyGivenNames z; first | (refine (have hz : Kept σ z := ?_; ?_); (on_goal 1 => (unfold z; clear z)); (on_goal 2 => clear_value z)) | (refine (have hz : Kept σ z.1 := ?_; ?_); (on_goal 1 => (unfold z; clear z)); (on_goal 2 => clear_value z)) | clear_value z)
    | with_reducible refine Kept.foldl (fun _ _ _ => ?_) ?_
    | with_reducible exact Kept.mk (Kept.eq (by with_reducible assumption))
    | fail_if_no_progress beta_reduce

theorem Dev_canInvalidate_kept {d : Dev} {c o : Nat} (h : Kept σ d) : Kept σ (Dev.canInvalidate d c o) := by
  unfold Dev.canInvalidate
  repeat' first
    | with_reducible assumption
    | with_reducible refine Dev_sigQuality_kept ?_
    | with_reducible refine Kept.foldl (fun _ _ _ => ?_) ?_
    | fail_if_no_progress beta_reduce

theorem Dev_canClearReceive_kept {d : Dev} {c : Nat} (h : Kept σ d) : Kept σ (Dev.canClearReceive d c) := by
  unfold Dev.canClearReceive
  repeat' first
    | with_reducible assumption
    | (extract_lets +onlyGivenNames z; first | (refine (have hz : Kept σ z.1 := ?_; ?_); (on_goal 1 => (unfold z; clear z)); (on_goal 2 => clear_value z)) | clear_value z)
    | with_reducible refine Dev_sigQuality_kept ?_
    | with_reducible refine Kept.foldl (fun _ _ _ => ?_) ?_
    | with_reducible refine Kept.foldl1 (fun _ _ _ => ?_) ?_
    | fail_if_no_progress beta_reduce

theorem Dev_canCfgstat_kept {d : Dev} {c code : Nat} (h : Kept σ d) : Kept σ (Dev.canCfgstat d c code) := by
  unfold Dev.canCfgstat
  repeat' first
    | with_reducible assumption
    | (extract_lets +onlyGivenNames z; first | (refine (have hz : Kept σ z := ?_; ?_); (on_goal 1 => (unfold z; clear z)); (on_goal 2 => clear_value z)) | (refine (have hz : Kept σ z.1 := ?_; ?_); (on_goal 1 => (unfold z; clear z)); (on_goal 2 => clear_value z)) | clear_value z)
    | with_reducible refine Kept.ite ?_ ?_
    | with_reducible refine Dev_setReg_kept ?_
    | with_reducible refine Dev_orReg_kept ?_
    | split
    | fail_if_no_progress beta_reduce

theorem Dev_canEnable_kept {d : Dev} {c : Nat} {value : Word} (h : Kept σ d) : Kept σ (Dev.canEnable d c value) := by
  unfold Dev.canEnable
  repeat' first
    | with_reducible assumption
    | (extract_lets +onlyGivenNames z; first | (refine (have hz : Kept σ z := ?_; ?_); (on_goal 1 => (unfold z; clear z)); (on_goal 2 => clear_value z)) | (refine (have hz : Kept σ z.1 := ?_; ?_); (on_goal 1 => (unfold z; clear z)); (on_goal 2 => clear_value z)) | clear_value z)
    | with_reducible refine Kept.ite ?_ ?_
    | with_reducible refine Dev_setReg_kept ?_
    | with_reducible refine Dev_setCan_kept ?_
    | with_reducible refine Dev_event_kept ?_
    | with_reducible refine Dev_canCfgstat_kept ?_
    | with_reducible exact Kept.mk (Kept.eq (by with_reducible assumption))
    | split
    | fail_if_no_progress beta_reduce

theorem Dev_canTxStatus_kept {d : Dev} {c o code attempts : Nat} (h : Kept σ d) : Kept σ (Dev.canTxStatus d c o code attempts) := by
  unfold Dev.canTxStatus
  repeat' first
    | with_reducible assumption
    | with_reducible refine Dev_devSig_kept ?_

theorem Dev_canCancel_kept {d : Dev} {c o : Nat} (h : Kept σ d) : Kept σ (Dev.canCancel d c o) := by
  unfold Dev.canCancel
  repeat' first
    | with_reducible assumption
    | (extract_lets +onlyGivenNames z; first | (refine (have hz : Kept σ z := ?_; ?_); (on_goal 1 => (unfold z; clear z)); (on_goal 2 => clear_value z)) | (refine (have hz : Kept σ z.1 := ?_; ?_); (on_goal 1 => (unfold z; clear z)); (on_goal 2 => clear_value z)) | clear_value z)
    | with_reducible refine Kept.ite ?_ ?_
    | with_reducible refine Dev_setCan_kept ?_
    | with_reducible refine Dev_canTxStatus_kept ?_
    | with_reducible exact Kept.mk (Kept.eq (by with_reducible assumption))
    | split
    | fail_if_no_progress beta_reduce

theorem Dev_canDisable_kept {d : Dev} {c : Nat} (h : Kept σ d) : Kept σ (Dev.canDisable d c) := by
  unfold Dev.canDisable
  repeat' first
    | with_reducible assumption
    | (extract_lets +onlyGivenNames z; first | (refine (have hz : Kept σ z := ?_; ?_); (on_goal 1 => (unfold z; clear z)); (on_goal 2 => clear_value z)) | (refine (have hz : Kept σ z.1 := ?_; ?_); (on_goal 1 => (unfold z; clear z)); (on_goal 2 => clear_value z)) | clear_value z)
    | with_reducible refine Dev_setCan_kept ?_
    | with_reducible refine Dev_canClearReceive_kept ?_
    | with_reducible refine Dev_canCancel_kept ?_
    | with_reducible refine Kept.foldl (fun _ _ _ => ?_) ?_
    | with_reducible refine Kept.foldl1 (fun _ _ _ => ?_) ?_
    | with_reducible exact Kept.mk (Kept.eq (by with_reducible assumption))
    | fail_if_no_progress beta_reduce

theorem Dev_canTiming_kept {d : Dev} {c addr : Nat} {value : Word} (h : Kept σ d) : Kept σ (Dev.canTiming d c addr value) := by
  unfold Dev.canTiming
  repeat' first
    | with_reducible assumption
    | with_reducible refine Kept.ite ?_ ?_
    | with_reducible refine Dev_setReg_kept ?_
    | with_reducible refine Dev_canCfgstat_kept ?_
    | split

theorem Dev_canObjcfgWrite_kept {d : Dev} {c o : Nat} {value : Word} (h : Kept σ d) : Kept σ (Dev.canObjcfgWrite d c o value) := by
  unfold Dev.canObjcfgWrite
  repeat' first
    | with_reducible assumption
    | (extract_lets +onlyGivenNames z; first | (refine (have hz : Kept σ z := ?_; ?_); (on_goal 1 => (unfold z; clear z)); (on_goal 2 => clear_value z)) | (refine (have hz : Kept σ z.1 := ?_; ?_); (on_goal 1 => (unfold z; clear z)); (on_goal 2 => clear_value z)) | clear_value z)
    | with_reducible refine Kept.ite ?_ ?_
    | with_reducible refine Dev_setReg_kept ?_
    | with_reducible refine Dev_setCan_kept ?_
    | with_reducible refine Dev_canInvalidate_kept ?_
    | with_reducible refine Dev_canCfgstat_kept ?_
    | with_reducible refine Dev_canCancel_kept ?_
    | with_reducible exact Kept.mk (Kept.eq (by with_reducible assumption))
    | split
    | fail_if_no_progress beta_reduce

theorem Dev_canObjidWrite_kept {d : Dev} {c o : Nat} {value : Word} (h : Kept σ d) : Kept σ (Dev.canObjidWrite d c o value) := by
  unfold Dev.canObjidWrite
  repeat' first
    | with_reducible assumption
    | with_reducible refine Kept.ite ?_ ?_
    | with_reducible refine Dev_setReg_kept ?_
    | with_reducible refine Dev_canCfgstat_kept ?_
    | split

theorem Dev_canObjectWrite_kept {d : Dev} {c addr : Nat} {value : Word} (h : Kept σ d) : Kept σ (Dev.canObjectWrite d c addr value) := by
  unfold Dev.canObjectWrite
  repeat' first
    | with_reducible assumption
    | (extract_lets +onlyGivenNames z; first | (refine (have hz : Kept σ z := ?_; ?_); (on_goal 1 => (unfold z; clear z)); (on_goal 2 => clear_value z)) | (refine (have hz : Kept σ z.1 := ?_; ?_); (on_goal 1 => (unfold z; clear z)); (on_goal 2 => clear_value z)) | clear_value z)
    | with_reducible refine Kept.ite ?_ ?_
    | with_reducible refine Dev_canObjcfgWrite_kept ?_
    | with_reducible refine Dev_canObjidWrite_kept ?_
    | split
    | fail_if_no_progress beta_reduce

theorem Dev_canBusOff_kept {d : Dev} {c : Nat} (h : Kept σ d) : Kept σ (Dev.canBusOff d c) := by
  unfold Dev.canBusOff
  repeat' first
    | with_reducible assumption
    | (extract_lets +onlyGivenNames z; first | (refine (have hz : Kept σ z := ?_; ?_); (on_goal 1 => (unfold z; clear z)); (on_goal 2 => clear_value z)) | (refine (have hz : Kept σ z.1 := ?_; ?_); (on_goal 1 => (unfold z; clear z)); (on_goal 2 => clear_value z)) | clear_value z)
    | with_reducible refine Kept.ite ?_ ?_
    | with_reducible refine Dev_orReg_kept ?_
    | with_reducible refine Dev_incReg_kept ?_
    | with_reducible refine Dev_setCan_kept ?_
    | with_reducible refine Dev_event_kept ?_
    | with_reducible refine Dev_canClearReceive_kept ?_
    | with_reducible refine Dev_canCancel_kept ?_
    | with_reducible refine Kept.foldl (fun _ _ _ => ?_) ?_
    | with_reducible refine Kept.foldl1 (fun _ _ _ => ?_) ?_
    | with_reducible exact Kept.mk (Kept.eq (by with_reducible assumption))
    | split
    | fail_if_no_progress beta_reduce

theorem Dev_canCounters_kept {d : Dev} {c tec recv : Nat} (h : Kept σ d) : Kept σ (Dev.canCounters d c tec recv) := by
  unfold Dev.canCounters
  repeat' first
    | with_reducible assumption
    | (extract_lets +onlyGivenNames z; first | (refine (have hz : Kept σ z := ?_; ?_); (on_goal 1 => (unfold z; clear z)); (on_goal 2 => clear_value z)) | (refine (have hz : Kept σ z.1 := ?_; ?_); (on_goal 1 => (unfold z; clear z)); (on_goal 2 => clear_value z)) | clear_value z)
    | with_reducible refine Kept.ite ?_ ?_
    | with_reducible refine Dev_orReg_kept ?_
    | with_reducible refine Dev_setCan_kept ?_
    | with_reducible refine Dev_event_kept ?_
    | with_reducible refine Dev_canBusOff_kept ?_
    | with_reducible exact Kept.mk (Kept.eq (by with_reducible assumption))
    | split
    | fail_if_no_progress beta_reduce

theorem Dev_canDeliver_kept {d : Dev} {c o : Nat} {f : CanFrame} {sofFrame : Word} {lost : Bool} (h : Kept σ d) : Kept σ (Dev.canDeliver d c o f sofFrame lost) := by
  unfold Dev.canDeliver
  repeat' first
    | with_reducible assumption
    | (extract_lets +onlyGivenNames z; first | (refine (have hz : Kept σ z := ?_; ?_); (on_goal 1 => (unfold z; clear z)); (on_goal 2 => clear_value z)) | (refine (have hz : Kept σ z.1 := ?_; ?_); (on_goal 1 => (unfold z; clear z)); (on_goal 2 => clear_value z)) | clear_value z)
    | with_reducible refine Kept.ite ?_ ?_
    | with_reducible refine Dev_orReg_kept ?_
    | with_reducible refine Dev_incReg_kept ?_
    | with_reducible refine Dev_setCan_kept ?_
    | with_reducible refine Dev_countEvent_kept ?_
    | with_reducible refine Dev_event_kept ?_
    | with_reducible refine Dev_take_kept ?_
    | with_reducible refine Dev_fireTriggers_kept ?_
    | with_reducible refine Dev_setSig_kept ?_
    | with_reducible refine Dev_devSig_kept ?_
    | with_reducible refine Kept.foldl (fun _ _ _ => ?_) ?_
    | with_reducible exact Kept.mk (Kept.eq (by with_reducible assumption))
    | split
    | fail_if_no_progress beta_reduce

theorem Dev_canRelease_kept {d : Dev} {c o : Nat} (h : Kept σ d) : Kept σ (Dev.canRelease d c o) := by
  unfold Dev.canRelease
  repeat' first
    | with_reducible assumption
    | (extract_lets +onlyGivenNames z; first | (refine (have hz : Kept σ z := ?_; ?_); (on_goal 1 => (unfold z; clear z)); (on_goal 2 => clear_value z)) | (refine (have hz : Kept σ z.1 := ?_; ?_); (on_goal 1 => (unfold z; clear z)); (on_goal 2 => clear_value z)) | clear_value z)
    | with_reducible refine Dev_setCan_kept ?_
    | with_reducible refine Dev_canDeliver_kept ?_
    | with_reducible exact Kept.mk (Kept.eq (by with_reducible assumption))
    | split
    | fail_if_no_progress beta_reduce

theorem Dev_canTaskRead_kept {d : Dev} {n : Nat} (h : Kept σ d) : Kept σ (Dev.canTaskRead d n) := by
  unfold Dev.canTaskRead
  repeat' first
    | with_reducible assumption
    | (extract_lets +onlyGivenNames z; first | (refine (have hz : Kept σ z := ?_; ?_); (on_goal 1 => (unfold z; clear z)); (on_goal 2 => clear_value z)) | (refine (have hz : Kept σ z.1 := ?_; ?_); (on_goal 1 => (unfold z; clear z)); (on_goal 2 => clear_value z)) | clear_value z)
    | with_reducible refine Kept.ite ?_ ?_
    | with_reducible refine Dev_setCan_kept ?_
    | with_reducible refine Dev_canRelease_kept ?_
    | with_reducible exact Kept.mk (Kept.eq (by with_reducible assumption))
    | split
    | fail_if_no_progress beta_reduce

theorem Dev_canGoodReceive_kept {d : Dev} {c : Nat} (h : Kept σ d) : Kept σ (Dev.canGoodReceive d c) := by
  unfold Dev.canGoodReceive
  repeat' first
    | with_reducible assumption
    | (extract_lets +onlyGivenNames z; first | (refine (have hz : Kept σ z := ?_; ?_); (on_goal 1 => (unfold z; clear z)); (on_goal 2 => clear_value z)) | (refine (have hz : Kept σ z.1 := ?_; ?_); (on_goal 1 => (unfold z; clear z)); (on_goal 2 => clear_value z)) | clear_value z)
    | with_reducible refine Kept.ite ?_ ?_
    | with_reducible refine Dev_nextFree_kept ?_
    | exact Dev_nextFree_keq ‹_› ‹_›
    | with_reducible refine Dev_setCan_kept ?_
    | with_reducible exact Kept.mk (Kept.eq (by with_reducible assumption))
    | split
    | fail_if_no_progress beta_reduce

theorem Dev_canReceiveError_kept {d : Dev} {c : Nat} {kind : CanRxError} (h : Kept σ d) : Kept σ (Dev.canReceiveError d c kind) := by
  unfold Dev.canReceiveError
  repeat' first
    | with_reducible assumption
    | (extract_lets +onlyGivenNames z; first | (refine (have hz : Kept σ z := ?_; ?_); (on_goal 1 => (unfold z; clear z)); (on_goal 2 => clear_value z)) | (refine (have hz : Kept σ z.1 := ?_; ?_); (on_goal 1 => (unfold z; clear z)); (on_goal 2 => clear_value z)) | clear_value z)
    | with_reducible refine Kept.ite ?_ ?_
    | with_reducible refine Dev_incReg_kept ?_
    | with_reducible refine Dev_canCounters_kept ?_
    | split
    | fail_if_no_progress beta_reduce

theorem Dev_canReceive_kept {d : Dev} {c : Nat} {f : CanFrame} (h : Kept σ d) : Kept σ (Dev.canReceive d c f) := by
  unfold Dev.canReceive
  repeat' first
    | with_reducible assumption
    | (extract_lets +onlyGivenNames z; first | (refine (have hz : Kept σ z := ?_; ?_); (on_goal 1 => (unfold z; clear z)); (on_goal 2 => clear_value z)) | (refine (have hz : Kept σ z.1 := ?_; ?_); (on_goal 1 => (unfold z; clear z)); (on_goal 2 => clear_value z)) | clear_value z)
    | with_reducible refine Kept.ite ?_ ?_
    | with_reducible refine Dev_orReg_kept ?_
    | with_reducible refine Dev_incReg_kept ?_
    | with_reducible refine Dev_setCan_kept ?_
    | with_reducible refine Dev_canDeliver_kept ?_
    | with_reducible refine Dev_canGoodReceive_kept ?_
    | with_reducible refine Dev_canReceiveError_kept ?_
    | with_reducible exact Kept.mk (Kept.eq (by with_reducible assumption))
    | split
    | fail_if_no_progress beta_reduce

theorem Dev_canSubmit_kept {d : Dev} {c o : Nat} {h1 : Word} {data : List Word} {at' : Nat} (h : Kept σ d) : Kept σ (Dev.canSubmit d c o h1 data at') := by
  unfold Dev.canSubmit
  repeat' first
    | with_reducible assumption
    | (extract_lets +onlyGivenNames z; first | (refine (have hz : Kept σ z := ?_; ?_); (on_goal 1 => (unfold z; clear z)); (on_goal 2 => clear_value z)) | (refine (have hz : Kept σ z.1 := ?_; ?_); (on_goal 1 => (unfold z; clear z)); (on_goal 2 => clear_value z)) | clear_value z)
    | with_reducible refine Dev_setCan_kept ?_
    | with_reducible refine Dev_canTxStatus_kept ?_
    | with_reducible exact Kept.mk (Kept.eq (by with_reducible assumption))
    | fail_if_no_progress beta_reduce

theorem Dev_canRequest_kept {d : Dev} {c o : Nat} {h1 : Word} {valid : Bool} (h : Kept σ d) : Kept σ (Dev.canRequest d c o h1 valid) := by
  unfold Dev.canRequest
  repeat' first
    | with_reducible assumption
    | (extract_lets +onlyGivenNames z; first | (refine (have hz : Kept σ z := ?_; ?_); (on_goal 1 => (unfold z; clear z)); (on_goal 2 => clear_value z)) | (refine (have hz : Kept σ z.1 := ?_; ?_); (on_goal 1 => (unfold z; clear z)); (on_goal 2 => clear_value z)) | clear_value z)
    | with_reducible refine Kept.ite ?_ ?_
    | with_reducible refine Dev_orReg_kept ?_
    | with_reducible refine Dev_setCan_kept ?_
    | with_reducible refine Dev_event_kept ?_
    | with_reducible refine Dev_canTxStatus_kept ?_
    | with_reducible refine Dev_canSubmit_kept ?_
    | with_reducible exact Kept.mk (Kept.eq (by with_reducible assumption))
    | split
    | fail_if_no_progress beta_reduce

theorem Dev_taskHome_kept {d : Dev} {n : Nat} {v : Word} {valid : Bool} {tag : Nat} (h : Kept σ d) : Kept σ (Dev.taskHome d n v valid tag) := by
  unfold Dev.taskHome
  repeat' first
    | with_reducible assumption
    | (extract_lets +onlyGivenNames z; first | (refine (have hz : Kept σ z := ?_; ?_); (on_goal 1 => (unfold z; clear z)); (on_goal 2 => clear_value z)) | (refine (have hz : Kept σ z.1 := ?_; ?_); (on_goal 1 => (unfold z; clear z)); (on_goal 2 => clear_value z)) | clear_value z)
    | with_reducible refine Kept.ite ?_ ?_
    | with_reducible refine Dev_sigHome_kept ?_
    | with_reducible refine Dev_canRequest_kept ?_
    | split
    | fail_if_no_progress beta_reduce

theorem Dev_canExpire_kept {d : Dev} {c : Nat} (h : Kept σ d) : Kept σ (Dev.canExpire d c) := by
  unfold Dev.canExpire
  repeat' first
    | with_reducible assumption
    | (extract_lets +onlyGivenNames z; first | (refine (have hz : Kept σ z := ?_; ?_); (on_goal 1 => (unfold z; clear z)); (on_goal 2 => clear_value z)) | (refine (have hz : Kept σ z.1 := ?_; ?_); (on_goal 1 => (unfold z; clear z)); (on_goal 2 => clear_value z)) | clear_value z)
    | with_reducible refine Kept.ite ?_ ?_
    | with_reducible refine Dev_orReg_kept ?_
    | with_reducible refine Dev_setCan_kept ?_
    | with_reducible refine Dev_eventRep_kept ?_
    | with_reducible refine Dev_canTxStatus_kept ?_
    | with_reducible refine Kept.foldl (fun _ _ _ => ?_) ?_
    | with_reducible refine Kept.foldl1 (fun _ _ _ => ?_) ?_
    | with_reducible exact Kept.mk (Kept.eq (by with_reducible assumption))
    | split
    | fail_if_no_progress beta_reduce

theorem Dev_canAttempt_kept {d : Dev} {c : Nat} (h : Kept σ d) : Kept σ (Dev.canAttempt d c) := by
  unfold Dev.canAttempt
  repeat' first
    | with_reducible assumption
    | (extract_lets +onlyGivenNames z; first | (refine (have hz : Kept σ z := ?_; ?_); (on_goal 1 => (unfold z; clear z)); (on_goal 2 => clear_value z)) | (refine (have hz : Kept σ z.1 := ?_; ?_); (on_goal 1 => (unfold z; clear z)); (on_goal 2 => clear_value z)) | clear_value z)
    | with_reducible refine Dev_setCan_kept ?_
    | with_reducible refine Dev_canTxStatus_kept ?_
    | with_reducible refine Dev_canExpire_kept ?_
    | with_reducible exact Kept.mk (Kept.eq (by with_reducible assumption))
    | split
    | fail_if_no_progress beta_reduce

theorem Dev_canAttemptFailed_kept {d : Dev} {c o : Nat} (h : Kept σ d) : Kept σ (Dev.canAttemptFailed d c o) := by
  unfold Dev.canAttemptFailed
  repeat' first
    | with_reducible assumption
    | (extract_lets +onlyGivenNames z; first | (refine (have hz : Kept σ z := ?_; ?_); (on_goal 1 => (unfold z; clear z)); (on_goal 2 => clear_value z)) | (refine (have hz : Kept σ z.1 := ?_; ?_); (on_goal 1 => (unfold z; clear z)); (on_goal 2 => clear_value z)) | clear_value z)
    | with_reducible refine Kept.ite ?_ ?_
    | with_reducible refine Dev_orReg_kept ?_
    | with_reducible refine Dev_setCan_kept ?_
    | with_reducible refine Dev_eventRep_kept ?_
    | with_reducible refine Dev_canTxStatus_kept ?_
    | with_reducible refine Dev_canSubmit_kept ?_
    | with_reducible exact Kept.mk (Kept.eq (by with_reducible assumption))
    | split
    | fail_if_no_progress beta_reduce

theorem Dev_canAttemptSent_kept {d : Dev} {c o : Nat} (h : Kept σ d) : Kept σ (Dev.canAttemptSent d c o) := by
  unfold Dev.canAttemptSent
  repeat' first
    | with_reducible assumption
    | (extract_lets +onlyGivenNames z; first | (refine (have hz : Kept σ z := ?_; ?_); (on_goal 1 => (unfold z; clear z)); (on_goal 2 => clear_value z)) | (refine (have hz : Kept σ z.1 := ?_; ?_); (on_goal 1 => (unfold z; clear z)); (on_goal 2 => clear_value z)) | clear_value z)
    | with_reducible refine Kept.ite ?_ ?_
    | with_reducible refine Dev_incReg_kept ?_
    | with_reducible refine Dev_setCan_kept ?_
    | with_reducible refine Dev_canTxStatus_kept ?_
    | with_reducible refine Dev_canSubmit_kept ?_
    | with_reducible exact Kept.mk (Kept.eq (by with_reducible assumption))
    | split
    | fail_if_no_progress beta_reduce

theorem Dev_canTransmitError_kept {d : Dev} {c tec recv : Nat} {times : Nat} (h : Kept σ d) : Kept σ (Dev.canTransmitError d c tec recv times) := by
  unfold Dev.canTransmitError
  repeat' first
    | with_reducible assumption
    | with_reducible refine Kept.ite ?_ ?_
    | with_reducible refine Dev_canCounters_kept ?_
    | split

theorem Dev_canAttemptEnd_kept {d : Dev} {c o : Nat} {r : CanAttemptResult} (h : Kept σ d) : Kept σ (Dev.canAttemptEnd d c o r) := by
  unfold Dev.canAttemptEnd
  repeat' first
    | with_reducible assumption
    | (extract_lets +onlyGivenNames z; first | (refine (have hz : Kept σ z := ?_; ?_); (on_goal 1 => (unfold z; clear z)); (on_goal 2 => clear_value z)) | (refine (have hz : Kept σ z.1 := ?_; ?_); (on_goal 1 => (unfold z; clear z)); (on_goal 2 => clear_value z)) | clear_value z)
    | with_reducible refine Kept.ite ?_ ?_
    | with_reducible refine Dev_incReg_kept ?_
    | with_reducible refine Dev_canAttemptFailed_kept ?_
    | with_reducible refine Dev_canAttemptSent_kept ?_
    | with_reducible refine Dev_canTransmitError_kept ?_
    | split
    | fail_if_no_progress beta_reduce

theorem Dev_canRecover_kept {d : Dev} {c : Nat} {value : Word} (h : Kept σ d) : Kept σ (Dev.canRecover d c value) := by
  unfold Dev.canRecover
  repeat' first
    | with_reducible assumption
    | (extract_lets +onlyGivenNames z; clear_value z)
    | with_reducible refine Kept.ite ?_ ?_
    | with_reducible refine Dev_setCan_kept ?_
    | with_reducible refine Dev_event_kept ?_
    | with_reducible exact Kept.mk (Kept.eq (by with_reducible assumption))
    | split
    | fail_if_no_progress beta_reduce

theorem Dev_spend_kept {d : Dev} {c : Nat} {x : Task} {cycles : Nat} (h : Kept σ d) : Kept σ (Dev.spend d c x cycles) := by
  unfold Dev.spend
  repeat' first
    | with_reducible assumption
    | (extract_lets +onlyGivenNames z; first | (refine (have hz : Kept σ z := ?_; ?_); (on_goal 1 => (unfold z; clear z)); (on_goal 2 => clear_value z)) | (refine (have hz : Kept σ z.1 := ?_; ?_); (on_goal 1 => (unfold z; clear z)); (on_goal 2 => clear_value z)) | clear_value z)
    | with_reducible refine Dev_setCore_kept ?_
    | with_reducible refine Dev_roundCycles_kept ?_
    | with_reducible exact Kept.mk (Kept.eq (by with_reducible assumption))
    | split
    | fail_if_no_progress beta_reduce

/-- An instruction's effect leaves the system state alone. -/
def Effect.Kept (σ : Sys) : Effect → Prop
  | .fault _ => True
  | .done _ _ eff => ∀ d, Machine.Kept σ d → Machine.Kept σ (eff d)
theorem Dev_apply_kept {d : Dev} {c t : Nat} {x : Task} {e : Effect} (he : e.Kept σ) (h : Kept σ d) : Kept σ (Dev.apply d c t x e) := by
  cases e with
  | fault code => exact Dev_taskFault_kept h
  | done n x' eff =>
    simp only [Dev.apply]
    split
    · exact Dev_taskFault_kept h
    · exact he _ (Dev_spend_kept (Dev_setTask_kept h))
theorem Dev_instr_kept {d : Dev} {core : CoreId} {i : Instr} {body : Nat → Task → Effect} (he : ∀ t x, (body t x).Kept σ) (h : Kept σ d) : Kept σ (Dev.instr d core i body) := by
  unfold Dev.instr
  repeat' first
    | with_reducible assumption
    | (extract_lets +onlyGivenNames z; clear_value z)
    | with_reducible refine Kept.ite ?_ ?_
    | with_reducible refine Dev_taskFault_kept ?_
    | with_reducible refine Dev_apply_kept (he _ _) ?_
    | split


theorem Dev_countRead_kept {d : Dev} {c : Nat} {tier : Tier} {sigExists : Bool} (h : Kept σ d) : Kept σ (Dev.countRead d c tier sigExists) := by
  unfold Dev.countRead
  repeat' first
    | with_reducible assumption
    | with_reducible refine Kept.ite ?_ ?_
    | with_reducible refine Dev_countEvent_kept ?_
    | split

theorem Dev_arrive_kept {d : Dev} {c i : Nat} (h : Kept σ d) : Kept σ (Dev.arrive d c i) := by
  unfold Dev.arrive
  repeat' first
    | with_reducible assumption
    | (extract_lets +onlyGivenNames z; first | (refine (have hz : Kept σ z := ?_; ?_); (on_goal 1 => (unfold z; clear z)); (on_goal 2 => clear_value z)) | (refine (have hz : Kept σ z.1 := ?_; ?_); (on_goal 1 => (unfold z; clear z)); (on_goal 2 => clear_value z)) | clear_value z)
    | with_reducible refine Dev_setCore_kept ?_
    | with_reducible refine Dev_kick_kept ?_
    | with_reducible refine Dev_releaseDue_kept ?_
    | with_reducible refine Dev_countStore_kept ?_
    | with_reducible refine Dev_taskHome_kept ?_
    | with_reducible exact Kept.mk (Kept.eq (by with_reducible assumption))
    | split
    | fail_if_no_progress beta_reduce

theorem Dev_freeEntry_kept {d : Dev} {c : Nat} {q9 : Nat} (h : Kept σ d) : Kept σ (Dev.freeEntry d c q9) := by
  induction q9 generalizing d with
  | zero => exact h
  | succ q9 ih =>
  unfold Dev.freeEntry
  repeat' first
    | with_reducible refine ih ?_
    | with_reducible assumption
    | with_reducible refine Kept.ite ?_ ?_
    | with_reducible refine Dev_arrive_kept ?_
    | split

theorem Dev_post_kept {d : Dev} {c : Nat} {p : Post} (h : Kept σ d) : Kept σ (Dev.post d c p) := by
  unfold Dev.post
  repeat' first
    | with_reducible assumption
    | (extract_lets +onlyGivenNames z; first | (refine (have hz : Kept σ z := ?_; ?_); (on_goal 1 => (unfold z; clear z)); (on_goal 2 => clear_value z)) | (refine (have hz : Kept σ z.1 := ?_; ?_); (on_goal 1 => (unfold z; clear z)); (on_goal 2 => clear_value z)) | clear_value z)
    | with_reducible refine Dev_setCore_kept ?_
    | with_reducible refine Dev_freeEntry_kept ?_
    | with_reducible exact Kept.mk (Kept.eq (by with_reducible assumption))
    | fail_if_no_progress beta_reduce

theorem Dev_drainPosts_kept {d : Dev} {c : Nat} (h : Kept σ d) : Kept σ (Dev.drainPosts d c) := by
  unfold Dev.drainPosts
  repeat' first
    | with_reducible assumption
    | (extract_lets +onlyGivenNames z; first | (refine (have hz : Kept σ z := ?_; ?_); (on_goal 1 => (unfold z; clear z)); (on_goal 2 => clear_value z)) | (refine (have hz : Kept σ z.1 := ?_; ?_); (on_goal 1 => (unfold z; clear z)); (on_goal 2 => clear_value z)) | clear_value z)
    | with_reducible refine Kept.ite ?_ ?_
    | with_reducible refine Dev_arrive_kept ?_
    | with_reducible refine Kept.foldl (fun _ _ _ => ?_) ?_
    | split
    | fail_if_no_progress beta_reduce

theorem Dev_doorFlag_kept {d : Dev} {axis bits : Nat} (h : Kept σ d) : Kept σ (Dev.doorFlag d axis bits) := by
  unfold Dev.doorFlag
  repeat' first
    | with_reducible assumption
    | (extract_lets +onlyGivenNames z; first | (refine (have hz : Kept σ z := ?_; ?_); (on_goal 1 => (unfold z; clear z)); (on_goal 2 => clear_value z)) | (refine (have hz : Kept σ z.1 := ?_; ?_); (on_goal 1 => (unfold z; clear z)); (on_goal 2 => clear_value z)) | clear_value z)
    | with_reducible refine Kept.ite ?_ ?_
    | with_reducible exact Kept.mk (Kept.eq (by with_reducible assumption))
    | split
    | fail_if_no_progress beta_reduce

theorem Dev_countStop_kept {d : Dev} {n cause : Nat} (h : Kept σ d) : Kept σ (Dev.countStop d n cause) := by
  unfold Dev.countStop
  repeat' first
    | with_reducible assumption
    | (extract_lets +onlyGivenNames z; first | (refine (have hz : Kept σ z := ?_; ?_); (on_goal 1 => (unfold z; clear z)); (on_goal 2 => clear_value z)) | (refine (have hz : Kept σ z.1 := ?_; ?_); (on_goal 1 => (unfold z; clear z)); (on_goal 2 => clear_value z)) | clear_value z)
    | with_reducible refine Dev_setAxis_kept ?_
    | with_reducible exact Kept.mk (Kept.eq (by with_reducible assumption))
    | fail_if_no_progress beta_reduce

theorem Dev_showState_kept {d : Dev} {n : Nat} (h : Kept σ d) : Kept σ (Dev.showState d n) := by
  unfold Dev.showState
  repeat' first
    | with_reducible assumption
    | (extract_lets +onlyGivenNames z; first | (refine (have hz : Kept σ z := ?_; ?_); (on_goal 1 => (unfold z; clear z)); (on_goal 2 => clear_value z)) | (refine (have hz : Kept σ z.1 := ?_; ?_); (on_goal 1 => (unfold z; clear z)); (on_goal 2 => clear_value z)) | clear_value z)
    | with_reducible refine Dev_setReg_kept ?_
    | with_reducible refine Dev_devSig_kept ?_
    | fail_if_no_progress beta_reduce

theorem Dev_axisOff_kept {d : Dev} {n : Nat} (h : Kept σ d) : Kept σ (Dev.axisOff d n) := by
  unfold Dev.axisOff
  repeat' first
    | with_reducible assumption
    | with_reducible refine Dev_setAxis_kept ?_

theorem Dev_axisRestore_kept {d : Dev} {n : Nat} (h : Kept σ d) : Kept σ (Dev.axisRestore d n) := by
  unfold Dev.axisRestore
  repeat' first
    | with_reducible assumption
    | with_reducible refine Kept.ite ?_ ?_
    | with_reducible refine Dev_modMotion_kept ?_
    | split

theorem Dev_uncleanMove_kept {d : Dev} {n : Nat} (h : Kept σ d) : Kept σ (Dev.uncleanMove d n) := by
  unfold Dev.uncleanMove
  repeat' first
    | with_reducible assumption
    | (extract_lets +onlyGivenNames z; first | (refine (have hz : Kept σ z := ?_; ?_); (on_goal 1 => (unfold z; clear z)); (on_goal 2 => clear_value z)) | (refine (have hz : Kept σ z.1 := ?_; ?_); (on_goal 1 => (unfold z; clear z)); (on_goal 2 => clear_value z)) | clear_value z)
    | with_reducible refine Dev_setAxis_kept ?_
    | with_reducible exact Kept.mk (Kept.eq (by with_reducible assumption))
    | split
    | fail_if_no_progress beta_reduce

theorem Dev_noteStop_kept {d : Dev} {n : Nat} {r : StopReq} (h : Kept σ d) : Kept σ (Dev.noteStop d n r) := by
  unfold Dev.noteStop
  repeat' first
    | with_reducible assumption
    | (extract_lets +onlyGivenNames z; first | (refine (have hz : Kept σ z := ?_; ?_); (on_goal 1 => (unfold z; clear z)); (on_goal 2 => clear_value z)) | (refine (have hz : Kept σ z.1 := ?_; ?_); (on_goal 1 => (unfold z; clear z)); (on_goal 2 => clear_value z)) | clear_value z)
    | with_reducible refine Kept.ite ?_ ?_
    | with_reducible refine Dev_setReg_kept ?_
    | with_reducible refine Dev_orReg_kept ?_
    | with_reducible refine Dev_incReg_kept ?_
    | with_reducible refine Dev_event_kept ?_
    | with_reducible refine Dev_devNat_kept ?_
    | with_reducible refine Dev_uncleanMove_kept ?_
    | split
    | fail_if_no_progress beta_reduce

theorem Dev_startRamp_kept {d : Dev} {n cause ramp : Nat} (h : Kept σ d) : Kept σ (Dev.startRamp d n cause ramp) := by
  unfold Dev.startRamp
  repeat' first
    | with_reducible assumption
    | (extract_lets +onlyGivenNames z; first | (refine (have hz : Kept σ z := ?_; ?_); (on_goal 1 => (unfold z; clear z)); (on_goal 2 => clear_value z)) | (refine (have hz : Kept σ z.1 := ?_; ?_); (on_goal 1 => (unfold z; clear z)); (on_goal 2 => clear_value z)) | clear_value z)
    | with_reducible refine Kept.ite ?_ ?_
    | with_reducible refine Dev_orReg_kept ?_
    | with_reducible refine Dev_setAxis_kept ?_
    | with_reducible refine Dev_countStop_kept ?_
    | with_reducible exact Kept.mk (Kept.eq (by with_reducible assumption))
    | split
    | fail_if_no_progress beta_reduce

theorem Dev_applyStop_kept {d : Dev} {n : Nat} {r : StopReq} (h : Kept σ d) : Kept σ (Dev.applyStop d n r) := by
  unfold Dev.applyStop
  repeat' first
    | with_reducible assumption
    | (extract_lets +onlyGivenNames z; first | (refine (have hz : Kept σ z := ?_; ?_); (on_goal 1 => (unfold z; clear z)); (on_goal 2 => clear_value z)) | (refine (have hz : Kept σ z.1 := ?_; ?_); (on_goal 1 => (unfold z; clear z)); (on_goal 2 => clear_value z)) | clear_value z)
    | with_reducible refine Kept.ite ?_ ?_
    | with_reducible refine Dev_setAxis_kept ?_
    | with_reducible refine Dev_modMotion_kept ?_
    | with_reducible refine Dev_countStop_kept ?_
    | with_reducible refine Dev_startRamp_kept ?_
    | with_reducible exact Kept.mk (Kept.eq (by with_reducible assumption))
    | split
    | fail_if_no_progress beta_reduce

theorem Dev_takeStops_kept {d : Dev} {n : Nat} {l : List StopReq} (h : Kept σ d) : Kept σ (Dev.takeStops d n l) := by
  unfold Dev.takeStops
  repeat' first
    | with_reducible assumption
    | with_reducible refine Dev_noteStop_kept ?_
    | with_reducible refine Dev_applyStop_kept ?_
    | with_reducible refine Kept.foldl (fun _ _ _ => ?_) ?_
    | split
    | fail_if_no_progress beta_reduce

theorem Dev_homeChecks_kept {d : Dev} {n : Nat} (h : Kept σ d) : Kept σ (Dev.homeChecks d n).1 := by
  unfold Dev.homeChecks
  repeat' first
    | with_reducible assumption
    | (extract_lets +onlyGivenNames z; first | (refine (have hz : Kept σ z := ?_; ?_); (on_goal 1 => (unfold z; clear z)); (on_goal 2 => clear_value z)) | (refine (have hz : Kept σ z.1 := ?_; ?_); (on_goal 1 => (unfold z; clear z)); (on_goal 2 => clear_value z)) | (refine (have hz : ∀ x, Kept σ x → Kept σ (z x) := ?_; ?_); (on_goal 1 => (intro _ _; unfold z; clear z)); (on_goal 2 => clear_value z)) | (refine (have hz : ∀ x, Kept σ x.1 → Kept σ (z x) := ?_; ?_); (on_goal 1 => (intro _ _; unfold z; clear z)); (on_goal 2 => clear_value z)) | (refine (have hz : ∀ a, Kept σ (z a) := ?_; ?_); (on_goal 1 => (intro _; unfold z; clear z)); (on_goal 2 => clear_value z)) | (refine (have hz : ∀ x a, Kept σ x → Kept σ (z x a) := ?_; ?_); (on_goal 1 => (intro _ _ _; unfold z; clear z)); (on_goal 2 => clear_value z)) | clear_value z)
    | with_reducible refine Kept.ite ?_ ?_
    | with_reducible refine Kept.ite1 ?_ ?_
    | with_reducible refine Dev_setAxis_kept ?_
    | with_reducible refine Dev_run_kept ?_
    | with_reducible exact Kept.mk (Kept.eq (by with_reducible assumption))
    | (with_reducible refine Kept.pair ?_; first | with_reducible assumption | with_reducible refine Dev_setAxis_kept ?_ | with_reducible refine Dev_run_kept ?_ | with_reducible exact Kept.mk (Kept.eq (by with_reducible assumption)))
    | split
    | with_reducible apply_assumption
    | fail_if_no_progress beta_reduce
theorem Dev_homeChecks_keq {d : Dev} {n : Nat} {z : Dev} {w : List StopReq} (e : Dev.homeChecks d n = (z, w)) (h : Kept σ d) : Kept σ z := by
  have := Dev_homeChecks_kept (σ := σ) (d := d) (n := n) h; rw [e] at this; exact this

theorem Dev_doorReversal_kept {d : Dev} {n : Nat} (h : Kept σ d) : Kept σ (Dev.doorReversal d n) := by
  unfold Dev.doorReversal
  repeat' first
    | with_reducible assumption
    | (extract_lets +onlyGivenNames z; first | (refine (have hz : Kept σ z := ?_; ?_); (on_goal 1 => (unfold z; clear z)); (on_goal 2 => clear_value z)) | (refine (have hz : Kept σ z.1 := ?_; ?_); (on_goal 1 => (unfold z; clear z)); (on_goal 2 => clear_value z)) | clear_value z)
    | with_reducible refine Kept.ite ?_ ?_
    | with_reducible exact Kept.mk (Kept.eq (by with_reducible assumption))
    | split
    | fail_if_no_progress beta_reduce

theorem Dev_beginRun_kept {d : Dev} {n : Nat} {x delta : Int} (h : Kept σ d) : Kept σ (Dev.beginRun d n x delta) := by
  unfold Dev.beginRun
  repeat' first
    | with_reducible assumption
    | (extract_lets +onlyGivenNames z; first | (refine (have hz : Kept σ z := ?_; ?_); (on_goal 1 => (unfold z; clear z)); (on_goal 2 => clear_value z)) | (refine (have hz : Kept σ z.1 := ?_; ?_); (on_goal 1 => (unfold z; clear z)); (on_goal 2 => clear_value z)) | clear_value z)
    | with_reducible refine Kept.ite ?_ ?_
    | with_reducible refine Dev_setAxis_kept ?_
    | with_reducible refine Dev_run_kept ?_
    | with_reducible refine Dev_doorFlag_kept ?_
    | with_reducible refine Dev_doorReversal_kept ?_
    | with_reducible exact Kept.mk (Kept.eq (by with_reducible assumption))
    | split
    | fail_if_no_progress beta_reduce

theorem Dev_startMove_kept {d : Dev} {n : Nat} {target : Word} {profile : Nat} {relative : Bool} (h : Kept σ d) : Kept σ (Dev.startMove d n target profile relative) := by
  unfold Dev.startMove
  repeat' first
    | with_reducible assumption
    | (extract_lets +onlyGivenNames z; first | (refine (have hz : Kept σ z := ?_; ?_); (on_goal 1 => (unfold z; clear z)); (on_goal 2 => clear_value z)) | (refine (have hz : Kept σ z.1 := ?_; ?_); (on_goal 1 => (unfold z; clear z)); (on_goal 2 => clear_value z)) | clear_value z)
    | with_reducible refine Kept.ite ?_ ?_
    | with_reducible refine Dev_incReg_kept ?_
    | with_reducible refine Dev_modMotion_kept ?_
    | with_reducible refine Dev_beginRun_kept ?_
    | with_reducible exact Kept.mk (Kept.eq (by with_reducible assumption))
    | split
    | fail_if_no_progress beta_reduce

theorem Dev_startHome_kept {d : Dev} {n : Nat} {pos : Word} {positive : Bool} {source : Nat} (h : Kept σ d) : Kept σ (Dev.startHome d n pos positive source) := by
  unfold Dev.startHome
  repeat' first
    | with_reducible assumption
    | (extract_lets +onlyGivenNames z; first | (refine (have hz : Kept σ z := ?_; ?_); (on_goal 1 => (unfold z; clear z)); (on_goal 2 => clear_value z)) | (refine (have hz : Kept σ z.1 := ?_; ?_); (on_goal 1 => (unfold z; clear z)); (on_goal 2 => clear_value z)) | clear_value z)
    | with_reducible refine Kept.ite ?_ ?_
    | with_reducible refine Dev_setAxis_kept ?_
    | with_reducible exact Kept.mk (Kept.eq (by with_reducible assumption))
    | split
    | fail_if_no_progress beta_reduce

theorem Dev_startGear_kept {d : Dev} {n : Nat} {master : Word} {table : Nat} (h : Kept σ d) : Kept σ (Dev.startGear d n master table) := by
  unfold Dev.startGear
  repeat' first
    | with_reducible assumption
    | (extract_lets +onlyGivenNames z; first | (refine (have hz : Kept σ z := ?_; ?_); (on_goal 1 => (unfold z; clear z)); (on_goal 2 => clear_value z)) | (refine (have hz : Kept σ z.1 := ?_; ?_); (on_goal 1 => (unfold z; clear z)); (on_goal 2 => clear_value z)) | clear_value z)
    | with_reducible refine Dev_setAxis_kept ?_
    | with_reducible exact Kept.mk (Kept.eq (by with_reducible assumption))
    | fail_if_no_progress beta_reduce

theorem Dev_takeRequest_kept {d : Dev} {n : Nat} {r : Req} (h : Kept σ d) : Kept σ (Dev.takeRequest d n r).1 := by
  unfold Dev.takeRequest
  repeat' first
    | with_reducible assumption
    | (extract_lets +onlyGivenNames z; first | (refine (have hz : Kept σ z := ?_; ?_); (on_goal 1 => (unfold z; clear z)); (on_goal 2 => clear_value z)) | (refine (have hz : Kept σ z.1 := ?_; ?_); (on_goal 1 => (unfold z; clear z)); (on_goal 2 => clear_value z)) | clear_value z)
    | with_reducible refine Kept.ite ?_ ?_
    | with_reducible refine Kept.ite1 ?_ ?_
    | with_reducible refine Dev_modMotion_kept ?_
    | with_reducible refine Dev_noteStop_kept ?_
    | with_reducible refine Dev_startRamp_kept ?_
    | with_reducible refine Dev_startMove_kept ?_
    | with_reducible refine Dev_startHome_kept ?_
    | with_reducible refine Dev_startGear_kept ?_
    | with_reducible exact Kept.mk (Kept.eq (by with_reducible assumption))
    | (with_reducible refine Kept.pair ?_; first | with_reducible assumption | with_reducible refine Dev_modMotion_kept ?_ | with_reducible refine Dev_noteStop_kept ?_ | with_reducible refine Dev_startRamp_kept ?_ | with_reducible refine Dev_startMove_kept ?_ | with_reducible refine Dev_startHome_kept ?_ | with_reducible refine Dev_startGear_kept ?_ | with_reducible exact Kept.mk (Kept.eq (by with_reducible assumption)))
    | split
    | fail_if_no_progress beta_reduce
theorem Dev_takeRequest_keq {d : Dev} {n : Nat} {r : Req} {z : Dev} {w : Nat} (e : Dev.takeRequest d n r = (z, w)) (h : Kept σ d) : Kept σ z := by
  have := Dev_takeRequest_kept (σ := σ) (d := d) (n := n) (r := r) h; rw [e] at this; exact this

theorem Dev_takeRequests_kept {d : Dev} {n : Nat} {l : List (Nat × Req)} (h : Kept σ d) : Kept σ (Dev.takeRequests d n l) := by
  unfold Dev.takeRequests
  repeat' first
    | with_reducible assumption
    | (extract_lets +onlyGivenNames z; first | (refine (have hz : Kept σ z := ?_; ?_); (on_goal 1 => (unfold z; clear z)); (on_goal 2 => clear_value z)) | (refine (have hz : Kept σ z.1 := ?_; ?_); (on_goal 1 => (unfold z; clear z)); (on_goal 2 => clear_value z)) | clear_value z)
    | with_reducible refine Kept.ite ?_ ?_
    | with_reducible refine Dev_orReg_kept ?_
    | with_reducible refine Dev_incReg_kept ?_
    | with_reducible refine Dev_devSig_kept ?_
    | with_reducible refine Dev_takeRequest_kept ?_
    | exact Dev_takeRequest_keq ‹_› ‹_›
    | with_reducible refine Kept.foldl (fun _ _ _ => ?_) ?_
    | with_reducible refine Kept.foldl1 (fun _ _ _ => ?_) ?_
    | split
    | fail_if_no_progress beta_reduce

theorem Dev_advanceMove_kept {d : Dev} {n : Nat} (h : Kept σ d) : Kept σ (Dev.advanceMove d n) := by
  unfold Dev.advanceMove
  repeat' first
    | with_reducible assumption
    | (extract_lets +onlyGivenNames z; first | (refine (have hz : Kept σ z := ?_; ?_); (on_goal 1 => (unfold z; clear z)); (on_goal 2 => clear_value z)) | (refine (have hz : Kept σ z.1 := ?_; ?_); (on_goal 1 => (unfold z; clear z)); (on_goal 2 => clear_value z)) | clear_value z)
    | with_reducible refine Kept.ite ?_ ?_
    | with_reducible refine Dev_setAxis_kept ?_
    | with_reducible refine Dev_modMotion_kept ?_
    | with_reducible exact Kept.mk (Kept.eq (by with_reducible assumption))
    | split
    | fail_if_no_progress beta_reduce

theorem Dev_advanceRamp_kept {d : Dev} {n : Nat} (h : Kept σ d) : Kept σ (Dev.advanceRamp d n) := by
  unfold Dev.advanceRamp
  repeat' first
    | with_reducible assumption
    | (extract_lets +onlyGivenNames z; first | (refine (have hz : Kept σ z := ?_; ?_); (on_goal 1 => (unfold z; clear z)); (on_goal 2 => clear_value z)) | (refine (have hz : Kept σ z.1 := ?_; ?_); (on_goal 1 => (unfold z; clear z)); (on_goal 2 => clear_value z)) | clear_value z)
    | with_reducible refine Kept.ite ?_ ?_
    | with_reducible refine Dev_setAxis_kept ?_
    | with_reducible exact Kept.mk (Kept.eq (by with_reducible assumption))
    | split
    | fail_if_no_progress beta_reduce

theorem Dev_advanceHome_kept {d : Dev} {n : Nat} (h : Kept σ d) : Kept σ (Dev.advanceHome d n) := by
  unfold Dev.advanceHome
  repeat' first
    | with_reducible assumption
    | (extract_lets +onlyGivenNames z; first | (refine (have hz : Kept σ z := ?_; ?_); (on_goal 1 => (unfold z; clear z)); (on_goal 2 => clear_value z)) | (refine (have hz : Kept σ z.1 := ?_; ?_); (on_goal 1 => (unfold z; clear z)); (on_goal 2 => clear_value z)) | clear_value z)
    | with_reducible refine Kept.ite ?_ ?_
    | with_reducible refine Dev_setAxis_kept ?_
    | with_reducible exact Kept.mk (Kept.eq (by with_reducible assumption))
    | split
    | fail_if_no_progress beta_reduce

theorem Dev_advanceGear_kept {d d0 : Dev} {n : Nat} (h : Kept σ d) : Kept σ (Dev.advanceGear d d0 n) := by
  unfold Dev.advanceGear
  repeat' first
    | with_reducible assumption
    | (extract_lets +onlyGivenNames z; first | (refine (have hz : Kept σ z := ?_; ?_); (on_goal 1 => (unfold z; clear z)); (on_goal 2 => clear_value z)) | (refine (have hz : Kept σ z.1 := ?_; ?_); (on_goal 1 => (unfold z; clear z)); (on_goal 2 => clear_value z)) | (refine (have hz : ∀ x, Kept σ x → Kept σ (z x) := ?_; ?_); (on_goal 1 => (intro _ _; unfold z; clear z)); (on_goal 2 => clear_value z)) | (refine (have hz : ∀ x, Kept σ x.1 → Kept σ (z x) := ?_; ?_); (on_goal 1 => (intro _ _; unfold z; clear z)); (on_goal 2 => clear_value z)) | (refine (have hz : ∀ a, Kept σ (z a) := ?_; ?_); (on_goal 1 => (intro _; unfold z; clear z)); (on_goal 2 => clear_value z)) | (refine (have hz : ∀ x a, Kept σ x → Kept σ (z x a) := ?_; ?_); (on_goal 1 => (intro _ _ _; unfold z; clear z)); (on_goal 2 => clear_value z)) | clear_value z)
    | with_reducible refine Kept.ite ?_ ?_
    | with_reducible refine Dev_setAxis_kept ?_
    | with_reducible refine Dev_takeStops_kept ?_
    | with_reducible refine Dev_advanceRamp_kept ?_
    | with_reducible exact Kept.mk (Kept.eq (by with_reducible assumption))
    | split
    | with_reducible apply_assumption
    | fail_if_no_progress beta_reduce

theorem Dev_advance_kept {d d0 : Dev} {n : Nat} (h : Kept σ d) : Kept σ (Dev.advance d d0 n) := by
  unfold Dev.advance
  repeat' first
    | with_reducible assumption
    | (extract_lets +onlyGivenNames z; clear_value z)
    | with_reducible refine Dev_modMotion_kept ?_
    | with_reducible refine Dev_advanceMove_kept ?_
    | with_reducible refine Dev_advanceRamp_kept ?_
    | with_reducible refine Dev_advanceHome_kept ?_
    | with_reducible refine Dev_advanceGear_kept ?_
    | with_reducible exact Kept.mk (Kept.eq (by with_reducible assumption))
    | split
    | fail_if_no_progress beta_reduce

theorem Dev_chooseMode_kept {d : Dev} {n : Nat} {onRamp : Bool} (h : Kept σ d) : Kept σ (Dev.chooseMode d n onRamp).1 := by
  unfold Dev.chooseMode
  repeat' first
    | with_reducible assumption
    | (extract_lets +onlyGivenNames z; first | (refine (have hz : Kept σ z := ?_; ?_); (on_goal 1 => (unfold z; clear z)); (on_goal 2 => clear_value z)) | (refine (have hz : Kept σ z.1 := ?_; ?_); (on_goal 1 => (unfold z; clear z)); (on_goal 2 => clear_value z)) | clear_value z)
    | with_reducible refine Kept.ite ?_ ?_
    | with_reducible refine Kept.ite1 ?_ ?_
    | with_reducible refine Dev_modMotion_kept ?_
    | with_reducible exact Kept.mk (Kept.eq (by with_reducible assumption))
    | (with_reducible refine Kept.pair ?_; first | with_reducible assumption | with_reducible refine Dev_modMotion_kept ?_ | with_reducible exact Kept.mk (Kept.eq (by with_reducible assumption)))
    | split
    | fail_if_no_progress beta_reduce
theorem Dev_chooseMode_keq {d : Dev} {n : Nat} {onRamp : Bool} {z : Dev} {w : Nat} (e : Dev.chooseMode d n onRamp = (z, w)) (h : Kept σ d) : Kept σ z := by
  have := Dev_chooseMode_kept (σ := σ) (d := d) (n := n) (onRamp := onRamp) h; rw [e] at this; exact this

theorem Dev_devChange_kept {d : Dev} {n : Nat} {v : Word} (h : Kept σ d) : Kept σ (Dev.devChange d n v) := by
  unfold Dev.devChange
  repeat' first
    | with_reducible assumption
    | (extract_lets +onlyGivenNames z; first | (refine (have hz : Kept σ z := ?_; ?_); (on_goal 1 => (unfold z; clear z)); (on_goal 2 => clear_value z)) | (refine (have hz : Kept σ z.1 := ?_; ?_); (on_goal 1 => (unfold z; clear z)); (on_goal 2 => clear_value z)) | clear_value z)
    | with_reducible refine Kept.ite ?_ ?_
    | with_reducible refine Dev_devSig_kept ?_
    | split
    | fail_if_no_progress beta_reduce

theorem Dev_motionSlots_kept {d : Dev} {n : Nat} (h : Kept σ d) : Kept σ (Dev.motionSlots d n) := by
  unfold Dev.motionSlots
  repeat' first
    | with_reducible assumption
    | (extract_lets +onlyGivenNames z; first | (refine (have hz : Kept σ z := ?_; ?_); (on_goal 1 => (unfold z; clear z)); (on_goal 2 => clear_value z)) | (refine (have hz : Kept σ z.1 := ?_; ?_); (on_goal 1 => (unfold z; clear z)); (on_goal 2 => clear_value z)) | clear_value z)
    | with_reducible refine Dev_devChange_kept ?_
    | with_reducible refine Kept.foldl (fun _ _ _ => ?_) ?_
    | with_reducible refine Kept.foldl1 (fun _ _ _ => ?_) ?_
    | split
    | fail_if_no_progress beta_reduce

theorem Dev_publishAxis_kept {d : Dev} {n : Nat} {stood onRamp stopCause : Bool} (h : Kept σ d) : Kept σ (Dev.publishAxis d n stood onRamp stopCause) := by
  unfold Dev.publishAxis
  repeat' first
    | with_reducible assumption
    | (extract_lets +onlyGivenNames z; first | (refine (have hz : Kept σ z := ?_; ?_); (on_goal 1 => (unfold z; clear z)); (on_goal 2 => clear_value z)) | (refine (have hz : Kept σ z.1 := ?_; ?_); (on_goal 1 => (unfold z; clear z)); (on_goal 2 => clear_value z)) | clear_value z)
    | with_reducible refine Kept.ite ?_ ?_
    | with_reducible refine Dev_setAxis_kept ?_
    | with_reducible refine Dev_modMotion_kept ?_
    | with_reducible refine Dev_take_kept ?_
    | with_reducible refine Dev_devSig_kept ?_
    | with_reducible refine Dev_showState_kept ?_
    | with_reducible refine Dev_chooseMode_kept ?_
    | exact Dev_chooseMode_keq ‹_› ‹_›
    | with_reducible refine Dev_motionSlots_kept ?_
    | with_reducible exact Kept.mk (Kept.eq (by with_reducible assumption))
    | split
    | fail_if_no_progress beta_reduce

theorem Dev_estimStop_kept {d : Dev} {n cause code : Nat} {word : Word} (h : Kept σ d) : Kept σ (Dev.estimStop d n cause code word) := by
  unfold Dev.estimStop
  repeat' first
    | with_reducible assumption
    | with_reducible refine Dev_eventRep_kept ?_
    | with_reducible refine Dev_raiseStop_kept ?_

theorem Dev_estimate_kept {d : Dev} {n : Nat} (h : Kept σ d) : Kept σ (Dev.estimate d n) := by
  unfold Dev.estimate
  repeat' first
    | with_reducible assumption
    | (extract_lets +onlyGivenNames z; first | (refine (have hz : Kept σ z := ?_; ?_); (on_goal 1 => (unfold z; clear z)); (on_goal 2 => clear_value z)) | (refine (have hz : Kept σ z.1 := ?_; ?_); (on_goal 1 => (unfold z; clear z)); (on_goal 2 => clear_value z)) | clear_value z)
    | with_reducible refine Kept.ite ?_ ?_
    | with_reducible refine Dev_setAxis_kept ?_
    | with_reducible refine Dev_eventRep_kept ?_
    | with_reducible refine Dev_take_kept ?_
    | with_reducible refine Dev_devSig_kept ?_
    | with_reducible refine Dev_devNat_kept ?_
    | with_reducible refine Dev_sigQuality_kept ?_
    | with_reducible refine Dev_estimStop_kept ?_
    | with_reducible exact Kept.mk (Kept.eq (by with_reducible assumption))
    | split
    | fail_if_no_progress beta_reduce

theorem Dev_edgeAtTakeup_keq {d : Dev} {n : Nat} {dir : Int} {z : Dev × StopReq} (e : Dev.edgeAtTakeup d n dir = some z) (h : Kept σ d) : Kept σ z.1 := by
  unfold Dev.edgeAtTakeup at e
  rcases ite_eq_iff.1 e with ⟨-, e⟩ | ⟨-, e⟩
  · rw [← Option.some.inj e]
    exact Dev_eventRep_kept (Dev_devSig_kept (Dev_setAxis_kept h))
  · exact absurd e nofun


theorem Dev_estimCheckAll_kept {d : Dev} (h : Kept σ d) : Kept σ (Dev.estimCheckAll d).1 := by
  unfold Dev.estimCheckAll
  repeat' first
    | with_reducible assumption
    | (extract_lets +onlyGivenNames z; first | (refine (have hz : Kept σ z := ?_; ?_); (on_goal 1 => (unfold z; clear z)); (on_goal 2 => clear_value z)) | (refine (have hz : Kept σ z.1 := ?_; ?_); (on_goal 1 => (unfold z; clear z)); (on_goal 2 => clear_value z)) | clear_value z)
    | with_reducible refine Dev_devNat_kept ?_
    | with_reducible refine Kept.foldl (fun _ _ _ => ?_) ?_
    | with_reducible refine Kept.foldl1 (fun _ _ _ => ?_) ?_
    | (with_reducible refine Kept.pair ?_; first | with_reducible assumption | with_reducible refine Dev_devNat_kept ?_ | with_reducible exact Kept.mk (Kept.eq (by with_reducible assumption)))
    | fail_if_no_progress beta_reduce
theorem Dev_estimCheckAll_keq {d : Dev} {z : Dev} {w : Bool} (e : Dev.estimCheckAll d = (z, w)) (h : Kept σ d) : Kept σ z := by
  have := Dev_estimCheckAll_kept (σ := σ) (d := d) h; rw [e] at this; exact this

theorem Dev_modCycle_kept {d : Dev} {n : Nat} {f : AxCycle → AxCycle} (h : Kept σ d) : Kept σ (Dev.modCycle d n f) := by
  unfold Dev.modCycle
  repeat' first
    | with_reducible assumption
    | (extract_lets +onlyGivenNames z; first | (refine (have hz : Kept σ z := ?_; ?_); (on_goal 1 => (unfold z; clear z)); (on_goal 2 => clear_value z)) | (refine (have hz : Kept σ z.1 := ?_; ?_); (on_goal 1 => (unfold z; clear z)); (on_goal 2 => clear_value z)) | clear_value z)
    | with_reducible refine Dev_setAxis_kept ?_
    | with_reducible exact Kept.mk (Kept.eq (by with_reducible assumption))
    | fail_if_no_progress beta_reduce

theorem Dev_cycleSlots_kept {d : Dev} {n : Nat} (h : Kept σ d) : Kept σ (Dev.cycleSlots d n) := by
  unfold Dev.cycleSlots
  repeat' first
    | with_reducible assumption
    | (extract_lets +onlyGivenNames z; first | (refine (have hz : Kept σ z := ?_; ?_); (on_goal 1 => (unfold z; clear z)); (on_goal 2 => clear_value z)) | (refine (have hz : Kept σ z.1 := ?_; ?_); (on_goal 1 => (unfold z; clear z)); (on_goal 2 => clear_value z)) | clear_value z)
    | with_reducible refine Dev_devChange_kept ?_
    | with_reducible refine Kept.foldl (fun _ _ _ => ?_) ?_
    | with_reducible refine Kept.foldl1 (fun _ _ _ => ?_) ?_
    | fail_if_no_progress beta_reduce

theorem Dev_learnMove_kept {d : Dev} {n : Nat} {m : MoveRun} (h : Kept σ d) : Kept σ (Dev.learnMove d n m) := by
  unfold Dev.learnMove
  repeat' first
    | with_reducible assumption
    | (extract_lets +onlyGivenNames z; first | (refine (have hz : Kept σ z := ?_; ?_); (on_goal 1 => (unfold z; clear z)); (on_goal 2 => clear_value z)) | (refine (have hz : Kept σ z.1 := ?_; ?_); (on_goal 1 => (unfold z; clear z)); (on_goal 2 => clear_value z)) | clear_value z)
    | with_reducible refine Kept.ite ?_ ?_
    | with_reducible refine Dev_setAxis_kept ?_
    | with_reducible refine Dev_putRecord_kept ?_
    | with_reducible refine Dev_event_kept ?_
    | with_reducible exact Kept.mk (Kept.eq (by with_reducible assumption))
    | split
    | fail_if_no_progress beta_reduce

theorem Dev_anomaly_kept {d : Dev} {n : Nat} {m : Option MoveRun} {byCommand : Bool} (h : Kept σ d) : Kept σ (Dev.anomaly d n m byCommand) := by
  unfold Dev.anomaly
  repeat' first
    | with_reducible assumption
    | (extract_lets +onlyGivenNames z; clear_value z)
    | with_reducible refine Kept.ite ?_ ?_
    | with_reducible refine Dev_modCycle_kept ?_
    | with_reducible exact Kept.mk (Kept.eq (by with_reducible assumption))
    | split
    | fail_if_no_progress beta_reduce


theorem Dev_enlist_kept {d : Dev} {n : Nat} {p : Anomaly} (h : Kept σ d) : Kept σ (Dev.enlist d n p) := by
  unfold Dev.enlist
  repeat' first
    | with_reducible assumption
    | (extract_lets +onlyGivenNames z; first | (refine (have hz : Kept σ z := ?_; ?_); (on_goal 1 => (unfold z; clear z)); (on_goal 2 => clear_value z)) | (refine (have hz : Kept σ z.1 := ?_; ?_); (on_goal 1 => (unfold z; clear z)); (on_goal 2 => clear_value z)) | clear_value z)
    | with_reducible refine Kept.ite ?_ ?_
    | with_reducible refine Dev_eventRep_kept ?_
    | with_reducible refine Dev_doorFlag_kept ?_
    | with_reducible refine Dev_modCycle_kept ?_
    | with_reducible exact Kept.mk (Kept.eq (by with_reducible assumption))
    | split
    | fail_if_no_progress beta_reduce

theorem Dev_promote_kept {d : Dev} {n : Nat} (h : Kept σ d) : Kept σ (Dev.promote d n) := by
  unfold Dev.promote
  repeat' first
    | with_reducible assumption
    | (extract_lets +onlyGivenNames z; first | (refine (have hz : Kept σ z := ?_; ?_); (on_goal 1 => (unfold z; clear z)); (on_goal 2 => clear_value z)) | (refine (have hz : Kept σ z.1 := ?_; ?_); (on_goal 1 => (unfold z; clear z)); (on_goal 2 => clear_value z)) | clear_value z)
    | with_reducible refine Dev_modCycle_kept ?_
    | with_reducible refine Dev_enlist_kept ?_
    | with_reducible refine Kept.foldl (fun _ _ _ => ?_) ?_
    | with_reducible exact Kept.mk (Kept.eq (by with_reducible assumption))
    | fail_if_no_progress beta_reduce

theorem Dev_buildSignatures_kept {d : Dev} {q9 : Nat} (h : Kept σ d) : Kept σ (Dev.buildSignatures d q9) := by
  induction q9 generalizing d with
  | zero => exact h
  | succ q9 ih =>
  unfold Dev.buildSignatures
  repeat' first
    | with_reducible refine ih ?_
    | with_reducible assumption
    | (extract_lets +onlyGivenNames z; clear_value z)
    | with_reducible refine Dev_putRecord_kept ?_
    | with_reducible exact Kept.mk (Kept.eq (by with_reducible assumption))
    | split
    | fail_if_no_progress beta_reduce

theorem Dev_observeMove_kept {d : Dev} {n : Nat} (h : Kept σ d) : Kept σ (Dev.observeMove d n) := by
  unfold Dev.observeMove
  repeat' first
    | with_reducible assumption
    | (extract_lets +onlyGivenNames z; first | (refine (have hz : Kept σ z := ?_; ?_); (on_goal 1 => (unfold z; clear z)); (on_goal 2 => clear_value z)) | (refine (have hz : Kept σ z.1 := ?_; ?_); (on_goal 1 => (unfold z; clear z)); (on_goal 2 => clear_value z)) | clear_value z)
    | with_reducible refine Kept.ite ?_ ?_
    | with_reducible refine Dev_setAxis_kept ?_
    | with_reducible exact Kept.mk (Kept.eq (by with_reducible assumption))
    | split
    | fail_if_no_progress beta_reduce

theorem Dev_captureAxis_kept {d : Dev} {n : Nat} (h : Kept σ d) : Kept σ (Dev.captureAxis d n) := by
  unfold Dev.captureAxis
  repeat' first
    | with_reducible assumption
    | (extract_lets +onlyGivenNames z; first | (refine (have hz : Kept σ z := ?_; ?_); (on_goal 1 => (unfold z; clear z)); (on_goal 2 => clear_value z)) | (refine (have hz : Kept σ z.1 := ?_; ?_); (on_goal 1 => (unfold z; clear z)); (on_goal 2 => clear_value z)) | clear_value z)
    | with_reducible refine Kept.ite ?_ ?_
    | with_reducible refine Dev_setAxis_kept ?_
    | with_reducible refine Dev_countEvent_kept ?_
    | with_reducible exact Kept.mk (Kept.eq (by with_reducible assumption))
    | split
    | fail_if_no_progress beta_reduce

theorem Dev_takeBuffer_kept {d : Dev} {n : Nat} {frame : Word} (h : Kept σ d) : Kept σ (Dev.takeBuffer d n frame) := by
  unfold Dev.takeBuffer
  repeat' first
    | with_reducible assumption
    | (extract_lets +onlyGivenNames z; first | (refine (have hz : Kept σ z := ?_; ?_); (on_goal 1 => (unfold z; clear z)); (on_goal 2 => clear_value z)) | (refine (have hz : Kept σ z.1 := ?_; ?_); (on_goal 1 => (unfold z; clear z)); (on_goal 2 => clear_value z)) | clear_value z)
    | with_reducible refine Kept.ite ?_ ?_
    | with_reducible refine Dev_setAxis_kept ?_
    | with_reducible exact Kept.mk (Kept.eq (by with_reducible assumption))
    | split
    | fail_if_no_progress beta_reduce

theorem Dev_moveEnters_kept {d : Dev} {n : Nat} (h : Kept σ d) : Kept σ (Dev.moveEnters d n) := by
  unfold Dev.moveEnters
  repeat' first
    | with_reducible assumption
    | (extract_lets +onlyGivenNames z; first | (refine (have hz : Kept σ z := ?_; ?_); (on_goal 1 => (unfold z; clear z)); (on_goal 2 => clear_value z)) | (refine (have hz : Kept σ z.1 := ?_; ?_); (on_goal 1 => (unfold z; clear z)); (on_goal 2 => clear_value z)) | clear_value z)
    | with_reducible refine Kept.ite ?_ ?_
    | with_reducible refine Dev_setAxis_kept ?_
    | with_reducible exact Kept.mk (Kept.eq (by with_reducible assumption))
    | split
    | fail_if_no_progress beta_reduce

theorem Dev_beginCycle_kept {d : Dev} {door : Nat} {frame : Word} (h : Kept σ d) : Kept σ (Dev.beginCycle d door frame) := by
  unfold Dev.beginCycle
  repeat' first
    | with_reducible assumption
    | (extract_lets +onlyGivenNames z; first | (refine (have hz : Kept σ z := ?_; ?_); (on_goal 1 => (unfold z; clear z)); (on_goal 2 => clear_value z)) | (refine (have hz : Kept σ z.1 := ?_; ?_); (on_goal 1 => (unfold z; clear z)); (on_goal 2 => clear_value z)) | clear_value z)
    | with_reducible refine Kept.ite ?_ ?_
    | with_reducible refine Dev_modCycle_kept ?_
    | with_reducible refine Dev_takeBuffer_kept ?_
    | with_reducible refine Dev_moveEnters_kept ?_
    | with_reducible refine Kept.foldl (fun _ _ _ => ?_) ?_
    | with_reducible exact Kept.mk (Kept.eq (by with_reducible assumption))
    | split
    | fail_if_no_progress beta_reduce

theorem Dev_endAxisCycle_kept {d : Dev} {n : Nat} {incomplete : Bool} (h : Kept σ d) : Kept σ (Dev.endAxisCycle d n incomplete) := by
  unfold Dev.endAxisCycle
  repeat' first
    | with_reducible assumption
    | (extract_lets +onlyGivenNames z; first | (refine (have hz : Kept σ z := ?_; ?_); (on_goal 1 => (unfold z; clear z)); (on_goal 2 => clear_value z)) | (refine (have hz : Kept σ z.1 := ?_; ?_); (on_goal 1 => (unfold z; clear z)); (on_goal 2 => clear_value z)) | clear_value z)
    | with_reducible refine Kept.ite ?_ ?_
    | with_reducible refine Dev_setAxis_kept ?_
    | with_reducible exact Kept.mk (Kept.eq (by with_reducible assumption))
    | split
    | fail_if_no_progress beta_reduce

theorem Dev_closeBooks_kept {d : Dev} {door : Nat} {frame : Word} (h : Kept σ d) : Kept σ (Dev.closeBooks d door frame) := by
  unfold Dev.closeBooks
  repeat' first
    | with_reducible assumption
    | (extract_lets +onlyGivenNames z; first | (refine (have hz : Kept σ z := ?_; ?_); (on_goal 1 => (unfold z; clear z)); (on_goal 2 => clear_value z)) | (refine (have hz : Kept σ z.1 := ?_; ?_); (on_goal 1 => (unfold z; clear z)); (on_goal 2 => clear_value z)) | clear_value z)
    | with_reducible refine Kept.ite ?_ ?_
    | with_reducible refine Dev_putRecord_kept ?_
    | with_reducible refine Dev_requestLifetime_kept ?_
    | with_reducible refine Dev_modCycle_kept ?_
    | with_reducible refine Kept.foldl (fun _ _ _ => ?_) ?_
    | with_reducible exact Kept.mk (Kept.eq (by with_reducible assumption))
    | split
    | fail_if_no_progress beta_reduce

theorem Dev_endCycle_kept {d : Dev} {door : Nat} {frame : Word} {incomplete : Bool} (h : Kept σ d) : Kept σ (Dev.endCycle d door frame incomplete) := by
  unfold Dev.endCycle
  repeat' first
    | with_reducible assumption
    | (extract_lets +onlyGivenNames z; first | (refine (have hz : Kept σ z := ?_; ?_); (on_goal 1 => (unfold z; clear z)); (on_goal 2 => clear_value z)) | (refine (have hz : Kept σ z.1 := ?_; ?_); (on_goal 1 => (unfold z; clear z)); (on_goal 2 => clear_value z)) | clear_value z)
    | with_reducible refine Kept.ite ?_ ?_
    | with_reducible refine Dev_cycleSlots_kept ?_
    | with_reducible refine Dev_endAxisCycle_kept ?_
    | with_reducible refine Dev_closeBooks_kept ?_
    | with_reducible refine Kept.foldl (fun _ _ _ => ?_) ?_
    | with_reducible exact Kept.mk (Kept.eq (by with_reducible assumption))
    | split
    | fail_if_no_progress beta_reduce

theorem Dev_cycleAct_kept {d : Dev} {ends : Bool} {door n idx : Nat} {v : Word} (h : Kept σ d) : Kept σ (Dev.cycleAct d ends door n idx v).1 := by
  unfold Dev.cycleAct
  repeat' first
    | with_reducible assumption
    | (extract_lets +onlyGivenNames z; first | (refine (have hz : Kept σ z := ?_; ?_); (on_goal 1 => (unfold z; clear z)); (on_goal 2 => clear_value z)) | (refine (have hz : Kept σ z.1 := ?_; ?_); (on_goal 1 => (unfold z; clear z)); (on_goal 2 => clear_value z)) | clear_value z)
    | with_reducible refine Kept.ite ?_ ?_
    | with_reducible refine Kept.ite1 ?_ ?_
    | with_reducible refine Dev_anomaly_kept ?_
    | (with_reducible refine Kept.pair ?_; first | with_reducible assumption | with_reducible refine Dev_anomaly_kept ?_ | with_reducible exact Kept.mk (Kept.eq (by with_reducible assumption)))
    | split
    | fail_if_no_progress beta_reduce
theorem Dev_cycleAct_keq {d : Dev} {ends : Bool} {door n idx : Nat} {v : Word} {z : Dev} {w : Bool} (e : Dev.cycleAct d ends door n idx v = (z, w)) (h : Kept σ d) : Kept σ z := by
  have := Dev_cycleAct_kept (σ := σ) (d := d) (ends := ends) (door := door) (n := n) (idx := idx) (v := v) h; rw [e] at this; exact this

theorem Dev_cycleControl_kept {d : Dev} {door : Nat} {frame : Word} (h : Kept σ d) : Kept σ (Dev.cycleControl d door frame).1 := by
  unfold Dev.cycleControl
  repeat' first
    | with_reducible assumption
    | (extract_lets +onlyGivenNames z; first | (refine (have hz : Kept σ z := ?_; ?_); (on_goal 1 => (unfold z; clear z)); (on_goal 2 => clear_value z)) | (refine (have hz : Kept σ z.1 := ?_; ?_); (on_goal 1 => (unfold z; clear z)); (on_goal 2 => clear_value z)) | clear_value z)
    | with_reducible refine Kept.ite ?_ ?_
    | with_reducible refine Kept.ite1 ?_ ?_
    | with_reducible refine Dev_devSig_kept ?_
    | with_reducible refine Dev_modCycle_kept ?_
    | with_reducible refine Dev_cycleAct_kept ?_
    | exact Dev_cycleAct_keq ‹_› ‹_›
    | with_reducible refine Kept.foldl (fun _ _ _ => ?_) ?_
    | with_reducible refine Kept.foldl1 (fun _ _ _ => ?_) ?_
    | with_reducible exact Kept.mk (Kept.eq (by with_reducible assumption))
    | (with_reducible refine Kept.pair ?_; first | with_reducible assumption | with_reducible refine Dev_devSig_kept ?_ | with_reducible refine Dev_modCycle_kept ?_ | with_reducible refine Dev_cycleAct_kept ?_ | with_reducible exact Kept.mk (Kept.eq (by with_reducible assumption)))
    | split
    | fail_if_no_progress beta_reduce
theorem Dev_cycleControl_keq {d : Dev} {door : Nat} {frame : Word} {z : Dev} {w : Bool} (e : Dev.cycleControl d door frame = (z, w)) (h : Kept σ d) : Kept σ z := by
  have := Dev_cycleControl_kept (σ := σ) (d := d) (door := door) (frame := frame) h; rw [e] at this; exact this

theorem Dev_cyclePeak_kept {d : Dev} {door n idx : Nat} (h : Kept σ d) : Kept σ (Dev.cyclePeak d door n idx) := by
  unfold Dev.cyclePeak
  repeat' first
    | with_reducible assumption
    | (extract_lets +onlyGivenNames z; first | (refine (have hz : Kept σ z := ?_; ?_); (on_goal 1 => (unfold z; clear z)); (on_goal 2 => clear_value z)) | (refine (have hz : Kept σ z.1 := ?_; ?_); (on_goal 1 => (unfold z; clear z)); (on_goal 2 => clear_value z)) | clear_value z)
    | with_reducible refine Kept.ite ?_ ?_
    | with_reducible refine Dev_modCycle_kept ?_
    | with_reducible refine Dev_anomaly_kept ?_
    | with_reducible exact Kept.mk (Kept.eq (by with_reducible assumption))
    | split
    | fail_if_no_progress beta_reduce

theorem Dev_bookStops_kept {d : Dev} {n : Nat} (h : Kept σ d) : Kept σ (Dev.bookStops d n) := by
  unfold Dev.bookStops
  repeat' first
    | with_reducible assumption
    | (extract_lets +onlyGivenNames z; first | (refine (have hz : Kept σ z := ?_; ?_); (on_goal 1 => (unfold z; clear z)); (on_goal 2 => clear_value z)) | (refine (have hz : Kept σ z.1 := ?_; ?_); (on_goal 1 => (unfold z; clear z)); (on_goal 2 => clear_value z)) | clear_value z)
    | with_reducible refine Kept.ite ?_ ?_
    | with_reducible refine Dev_doorFlag_kept ?_
    | with_reducible refine Dev_modCycle_kept ?_
    | with_reducible refine Dev_anomaly_kept ?_
    | with_reducible refine Kept.foldl (fun _ _ _ => ?_) ?_
    | with_reducible exact Kept.mk (Kept.eq (by with_reducible assumption))
    | split
    | fail_if_no_progress beta_reduce

theorem Dev_doorFrame_kept {d : Dev} {door : Nat} {frame : Word} (h : Kept σ d) : Kept σ (Dev.doorFrame d door frame) := by
  unfold Dev.doorFrame
  repeat' first
    | with_reducible assumption
    | (extract_lets +onlyGivenNames z; first | (refine (have hz : Kept σ z := ?_; ?_); (on_goal 1 => (unfold z; clear z)); (on_goal 2 => clear_value z)) | (refine (have hz : Kept σ z.1 := ?_; ?_); (on_goal 1 => (unfold z; clear z)); (on_goal 2 => clear_value z)) | clear_value z)
    | with_reducible refine Kept.ite ?_ ?_
    | with_reducible refine Dev_modCycle_kept ?_
    | with_reducible refine Dev_cycleSlots_kept ?_
    | with_reducible refine Dev_promote_kept ?_
    | with_reducible refine Dev_captureAxis_kept ?_
    | with_reducible refine Dev_beginCycle_kept ?_
    | with_reducible refine Dev_endCycle_kept ?_
    | with_reducible refine Dev_cycleControl_kept ?_
    | exact Dev_cycleControl_keq ‹_› ‹_›
    | with_reducible refine Dev_cyclePeak_kept ?_
    | with_reducible refine Dev_bookStops_kept ?_
    | with_reducible refine Kept.foldl (fun _ _ _ => ?_) ?_
    | with_reducible refine Kept.foldl1 (fun _ _ _ => ?_) ?_
    | with_reducible exact Kept.mk (Kept.eq (by with_reducible assumption))
    | split
    | fail_if_no_progress beta_reduce

theorem Dev_doorFrames_kept {d : Dev} {frame : Word} (h : Kept σ d) : Kept σ (Dev.doorFrames d frame) := by
  unfold Dev.doorFrames
  repeat' first
    | with_reducible assumption
    | (extract_lets +onlyGivenNames z; first | (refine (have hz : Kept σ z := ?_; ?_); (on_goal 1 => (unfold z; clear z)); (on_goal 2 => clear_value z)) | (refine (have hz : Kept σ z.1 := ?_; ?_); (on_goal 1 => (unfold z; clear z)); (on_goal 2 => clear_value z)) | clear_value z)
    | with_reducible refine Kept.ite ?_ ?_
    | with_reducible refine Dev_run_kept ?_
    | with_reducible refine Dev_modCycle_kept ?_
    | with_reducible refine Dev_promote_kept ?_
    | with_reducible refine Dev_cycleControl_kept ?_
    | exact Dev_cycleControl_keq ‹_› ‹_›
    | with_reducible refine Dev_doorFrame_kept ?_
    | with_reducible refine Kept.foldl (fun _ _ _ => ?_) ?_
    | with_reducible refine Kept.foldl1 (fun _ _ _ => ?_) ?_
    | with_reducible exact Kept.mk (Kept.eq (by with_reducible assumption))
    | split
    | fail_if_no_progress beta_reduce

theorem Dev_endMove_kept {d : Dev} {n : Nat} (h : Kept σ d) : Kept σ (Dev.endMove d n) := by
  unfold Dev.endMove
  repeat' first
    | with_reducible assumption
    | (extract_lets +onlyGivenNames z; first | (refine (have hz : Kept σ z := ?_; ?_); (on_goal 1 => (unfold z; clear z)); (on_goal 2 => clear_value z)) | (refine (have hz : Kept σ z.1 := ?_; ?_); (on_goal 1 => (unfold z; clear z)); (on_goal 2 => clear_value z)) | clear_value z)
    | with_reducible refine Kept.ite ?_ ?_
    | with_reducible refine Dev_setAxis_kept ?_
    | with_reducible refine Dev_cycleSlots_kept ?_
    | with_reducible refine Dev_learnMove_kept ?_
    | with_reducible refine Dev_closeBooks_kept ?_
    | with_reducible exact Kept.mk (Kept.eq (by with_reducible assumption))
    | split
    | fail_if_no_progress beta_reduce

theorem Dev_cyclesRunEntry_kept {d : Dev} (h : Kept σ d) : Kept σ (Dev.cyclesRunEntry d) := by
  unfold Dev.cyclesRunEntry
  repeat' first
    | with_reducible assumption
    | (extract_lets +onlyGivenNames z; first | (refine (have hz : Kept σ z := ?_; ?_); (on_goal 1 => (unfold z; clear z)); (on_goal 2 => clear_value z)) | (refine (have hz : Kept σ z.1 := ?_; ?_); (on_goal 1 => (unfold z; clear z)); (on_goal 2 => clear_value z)) | clear_value z)
    | with_reducible refine Kept.ite ?_ ?_
    | with_reducible refine Dev_setAxis_kept ?_
    | with_reducible refine Dev_requestLifetime_kept ?_
    | with_reducible refine Dev_devSig_kept ?_
    | with_reducible refine Dev_cycleSlots_kept ?_
    | with_reducible refine Kept.foldl (fun _ _ _ => ?_) ?_
    | with_reducible exact Kept.mk (Kept.eq (by with_reducible assumption))
    | split
    | fail_if_no_progress beta_reduce

theorem Dev_modPort_kept {d : Dev} {p : Nat} {f : Port → Port} (h : Kept σ d) : Kept σ (Dev.modPort d p f) := by
  unfold Dev.modPort
  repeat' first
    | with_reducible assumption
    | with_reducible refine Dev_setPort_kept ?_

theorem Dev_baseLayouts_kept {d : Dev} (h : Kept σ d) : Kept σ (Dev.baseLayouts d) := by
  unfold Dev.baseLayouts
  repeat' first
    | with_reducible assumption
    | (extract_lets +onlyGivenNames z; first | (refine (have hz : Kept σ z := ?_; ?_); (on_goal 1 => (unfold z; clear z)); (on_goal 2 => clear_value z)) | (refine (have hz : Kept σ z.1 := ?_; ?_); (on_goal 1 => (unfold z; clear z)); (on_goal 2 => clear_value z)) | clear_value z)
    | with_reducible refine Dev_modPort_kept ?_
    | with_reducible refine Kept.foldl (fun _ _ _ => ?_) ?_
    | with_reducible exact Kept.mk (Kept.eq (by with_reducible assumption))
    | fail_if_no_progress beta_reduce

theorem Dev_modNode_kept {d : Dev} {p n : Nat} {f : Node → Node} (h : Kept σ d) : Kept σ (Dev.modNode d p n f) := by
  unfold Dev.modNode
  repeat' first
    | with_reducible assumption
    | with_reducible refine Dev_modPort_kept ?_
    | fail_if_no_progress beta_reduce

theorem Dev_strFlag_kept {d : Dev} {p : Nat} {bits : Word} (h : Kept σ d) : Kept σ (Dev.strFlag d p bits) := by
  unfold Dev.strFlag
  repeat' first
    | with_reducible assumption
    | with_reducible refine Dev_orReg_kept ?_

theorem Dev_portAxesOff_kept {d : Dev} {p : Nat} (h : Kept σ d) : Kept σ (Dev.portAxesOff d p) := by
  unfold Dev.portAxesOff
  repeat' first
    | with_reducible assumption
    | (extract_lets +onlyGivenNames z; first | (refine (have hz : Kept σ z := ?_; ?_); (on_goal 1 => (unfold z; clear z)); (on_goal 2 => clear_value z)) | (refine (have hz : Kept σ z.1 := ?_; ?_); (on_goal 1 => (unfold z; clear z)); (on_goal 2 => clear_value z)) | clear_value z)
    | with_reducible refine Dev_axisOff_kept ?_
    | with_reducible refine Kept.foldl (fun _ _ _ => ?_) ?_
    | fail_if_no_progress beta_reduce

theorem Dev_beginSpill_kept {d : Dev} {q : Nat} (h : Kept σ d) : Kept σ (Dev.beginSpill d q) := by
  unfold Dev.beginSpill
  repeat' first
    | with_reducible assumption
    | (extract_lets +onlyGivenNames z; first | (refine (have hz : Kept σ z := ?_; ?_); (on_goal 1 => (unfold z; clear z)); (on_goal 2 => clear_value z)) | (refine (have hz : Kept σ z.1 := ?_; ?_); (on_goal 1 => (unfold z; clear z)); (on_goal 2 => clear_value z)) | clear_value z)
    | with_reducible refine Kept.ite ?_ ?_
    | with_reducible refine Dev_setQueue_kept ?_
    | with_reducible refine Dev_event_kept ?_
    | with_reducible exact Kept.mk (Kept.eq (by with_reducible assumption))
    | split
    | fail_if_no_progress beta_reduce

theorem Dev_enqueue_kept {d : Dev} {q : Nat} {b : Block} (h : Kept σ d) : Kept σ (Dev.enqueue d q b) := by
  unfold Dev.enqueue
  repeat' first
    | with_reducible assumption
    | (extract_lets +onlyGivenNames z; first | (refine (have hz : Kept σ z := ?_; ?_); (on_goal 1 => (unfold z; clear z)); (on_goal 2 => clear_value z)) | (refine (have hz : Kept σ z.1 := ?_; ?_); (on_goal 1 => (unfold z; clear z)); (on_goal 2 => clear_value z)) | clear_value z)
    | with_reducible refine Kept.ite ?_ ?_
    | with_reducible refine Dev_setQueue_kept ?_
    | with_reducible refine Dev_countEvent_kept ?_
    | with_reducible refine Dev_event_kept ?_
    | with_reducible refine Dev_beginSpill_kept ?_
    | with_reducible exact Kept.mk (Kept.eq (by with_reducible assumption))
    | split
    | fail_if_no_progress beta_reduce

theorem Dev_queuesFrame_kept {d : Dev} (h : Kept σ d) : Kept σ (Dev.queuesFrame d) := by
  unfold Dev.queuesFrame
  repeat' first
    | with_reducible assumption
    | (extract_lets +onlyGivenNames z; first | (refine (have hz : Kept σ z := ?_; ?_); (on_goal 1 => (unfold z; clear z)); (on_goal 2 => clear_value z)) | (refine (have hz : Kept σ z.1 := ?_; ?_); (on_goal 1 => (unfold z; clear z)); (on_goal 2 => clear_value z)) | clear_value z)
    | with_reducible refine Dev_nextFree_kept ?_
    | exact Dev_nextFree_keq ‹_› ‹_›
    | with_reducible refine Dev_setQueue_kept ?_
    | with_reducible refine Dev_countEvent_kept ?_
    | with_reducible refine Dev_beginSpill_kept ?_
    | with_reducible refine Kept.foldl (fun _ _ _ => ?_) ?_
    | split
    | fail_if_no_progress beta_reduce

theorem Dev_putBlocks_kept {d : Dev} {p : Nat} {home : Option Nat} {l : List Block} (h : Kept σ d) : Kept σ (Dev.putBlocks d p home l) := by
  unfold Dev.putBlocks
  repeat' first
    | with_reducible assumption
    | (extract_lets +onlyGivenNames z; first | (refine (have hz : Kept σ z := ?_; ?_); (on_goal 1 => (unfold z; clear z)); (on_goal 2 => clear_value z)) | (refine (have hz : Kept σ z.1 := ?_; ?_); (on_goal 1 => (unfold z; clear z)); (on_goal 2 => clear_value z)) | clear_value z)
    | with_reducible refine Dev_modPort_kept ?_
    | with_reducible refine Dev_enqueue_kept ?_
    | with_reducible refine Kept.foldl (fun _ _ _ => ?_) ?_
    | with_reducible exact Kept.mk (Kept.eq (by with_reducible assumption))
    | split
    | fail_if_no_progress beta_reduce

theorem Dev_sendMessage_kept {d : Dev} {p node btype : Nat} {data : List Byte} {home : Option Nat} (h : Kept σ d) : Kept σ (Dev.sendMessage d p node btype data home) := by
  unfold Dev.sendMessage
  repeat' first
    | with_reducible assumption
    | (extract_lets +onlyGivenNames z; first | (refine (have hz : Kept σ z := ?_; ?_); (on_goal 1 => (unfold z; clear z)); (on_goal 2 => clear_value z)) | (refine (have hz : Kept σ z.1 := ?_; ?_); (on_goal 1 => (unfold z; clear z)); (on_goal 2 => clear_value z)) | clear_value z)
    | with_reducible refine Kept.ite ?_ ?_
    | with_reducible refine Dev_modNode_kept ?_
    | with_reducible refine Dev_putBlocks_kept ?_
    | with_reducible exact Kept.mk (Kept.eq (by with_reducible assumption))
    | split
    | fail_if_no_progress beta_reduce

theorem Dev_hostMessage_kept {d : Dev} {p node btype : Nat} {data : List Byte} (h : Kept σ d) : Kept σ (Dev.hostMessage d p node btype data).1 := by
  unfold Dev.hostMessage
  repeat' first
    | with_reducible assumption
    | (extract_lets +onlyGivenNames z; first | (refine (have hz : Kept σ z := ?_; ?_); (on_goal 1 => (unfold z; clear z)); (on_goal 2 => clear_value z)) | (refine (have hz : Kept σ z.1 := ?_; ?_); (on_goal 1 => (unfold z; clear z)); (on_goal 2 => clear_value z)) | clear_value z)
    | with_reducible refine Kept.ite ?_ ?_
    | with_reducible refine Kept.ite1 ?_ ?_
    | with_reducible refine Dev_sendMessage_kept ?_
    | (with_reducible refine Kept.pair ?_; first | with_reducible assumption | with_reducible refine Dev_sendMessage_kept ?_ | with_reducible exact Kept.mk (Kept.eq (by with_reducible assumption)))
    | split
    | fail_if_no_progress beta_reduce
theorem Dev_hostMessage_keq {d : Dev} {p node btype : Nat} {data : List Byte} {z : Dev} {w : Nat} (e : Dev.hostMessage d p node btype data = (z, w)) (h : Kept σ d) : Kept σ z := by
  have := Dev_hostMessage_kept (σ := σ) (d := d) (p := p) (node := node) (btype := btype) (data := data) h; rw [e] at this; exact this

theorem Dev_dropReplies_kept {d : Dev} {p node : Nat} {out : Nat → Bool} (h : Kept σ d) : Kept σ (Dev.dropReplies d p node out) := by
  unfold Dev.dropReplies
  repeat' first
    | with_reducible assumption
    | (extract_lets +onlyGivenNames z; first | (refine (have hz : Kept σ z.1 := ?_; ?_); (on_goal 1 => (unfold z; clear z)); (on_goal 2 => clear_value z)) | clear_value z)
    | with_reducible refine Kept.ite ?_ ?_
    | with_reducible refine Dev_modNode_kept ?_
    | with_reducible exact Kept.mk (Kept.eq (by with_reducible assumption))
    | split
    | fail_if_no_progress beta_reduce

theorem Dev_discardOpen_kept {d : Dev} {p node : Nat} (h : Kept σ d) : Kept σ (Dev.discardOpen d p node) := by
  unfold Dev.discardOpen
  repeat' first
    | with_reducible assumption
    | (extract_lets +onlyGivenNames z; first | (refine (have hz : Kept σ z := ?_; ?_); (on_goal 1 => (unfold z; clear z)); (on_goal 2 => clear_value z)) | (refine (have hz : Kept σ z.1 := ?_; ?_); (on_goal 1 => (unfold z; clear z)); (on_goal 2 => clear_value z)) | clear_value z)
    | with_reducible refine Kept.ite ?_ ?_
    | with_reducible refine Dev_modPort_kept ?_
    | with_reducible refine Dev_modNode_kept ?_
    | with_reducible refine Dev_dropReplies_kept ?_
    | with_reducible refine Kept.foldl (fun _ _ _ => ?_) ?_
    | with_reducible exact Kept.mk (Kept.eq (by with_reducible assumption))
    | split
    | fail_if_no_progress beta_reduce

theorem Dev_beginLink_kept {d : Dev} {p : Nat} (h : Kept σ d) : Kept σ (Dev.beginLink d p) := by
  unfold Dev.beginLink
  repeat' first
    | with_reducible assumption
    | (extract_lets +onlyGivenNames z; first | (refine (have hz : Kept σ z := ?_; ?_); (on_goal 1 => (unfold z; clear z)); (on_goal 2 => clear_value z)) | (refine (have hz : Kept σ z.1 := ?_; ?_); (on_goal 1 => (unfold z; clear z)); (on_goal 2 => clear_value z)) | clear_value z)
    | with_reducible refine Kept.ite ?_ ?_
    | with_reducible refine Dev_setAxis_kept ?_
    | with_reducible refine Dev_modPort_kept ?_
    | with_reducible refine Dev_portAxesOff_kept ?_
    | with_reducible refine Dev_discardOpen_kept ?_
    | with_reducible refine Kept.foldl (fun _ _ _ => ?_) ?_
    | with_reducible refine Kept.foldl1 (fun _ _ _ => ?_) ?_
    | with_reducible exact Kept.mk (Kept.eq (by with_reducible assumption))
    | split
    | fail_if_no_progress beta_reduce

theorem Dev_linkFail_kept {d : Dev} {p code : Nat} (h : Kept σ d) : Kept σ (Dev.linkFail d p code) := by
  unfold Dev.linkFail
  repeat' first
    | with_reducible assumption
    | (extract_lets +onlyGivenNames z; clear_value z)
    | with_reducible refine Dev_event_kept ?_
    | with_reducible refine Dev_modPort_kept ?_
    | with_reducible refine Dev_strFlag_kept ?_
    | with_reducible exact Kept.mk (Kept.eq (by with_reducible assumption))
    | fail_if_no_progress beta_reduce

theorem Dev_portDown_kept {d : Dev} {p : Nat} (h : Kept σ d) : Kept σ (Dev.portDown d p) := by
  unfold Dev.portDown
  repeat' first
    | with_reducible assumption
    | (extract_lets +onlyGivenNames z; clear_value z)
    | with_reducible refine Dev_modPort_kept ?_
    | with_reducible refine Dev_portAxesOff_kept ?_
    | with_reducible exact Kept.mk (Kept.eq (by with_reducible assumption))
    | fail_if_no_progress beta_reduce

theorem Dev_enterConfig_kept {d : Dev} {p : Nat} (h : Kept σ d) : Kept σ (Dev.enterConfig d p) := by
  unfold Dev.enterConfig
  repeat' first
    | with_reducible assumption
    | (extract_lets +onlyGivenNames z; first | (refine (have hz : Kept σ z := ?_; ?_); (on_goal 1 => (unfold z; clear z)); (on_goal 2 => clear_value z)) | (refine (have hz : Kept σ z.1 := ?_; ?_); (on_goal 1 => (unfold z; clear z)); (on_goal 2 => clear_value z)) | clear_value z)
    | with_reducible refine Dev_modPort_kept ?_
    | with_reducible refine Dev_sendMessage_kept ?_
    | with_reducible refine Kept.foldl (fun _ _ _ => ?_) ?_
    | with_reducible refine Kept.foldl1 (fun _ _ _ => ?_) ?_
    | with_reducible exact Kept.mk (Kept.eq (by with_reducible assumption))
    | fail_if_no_progress beta_reduce

theorem Dev_broadcastTable_kept {d : Dev} {p t : Nat} (h : Kept σ d) : Kept σ (Dev.broadcastTable d p t) := by
  unfold Dev.broadcastTable
  repeat' first
    | with_reducible assumption
    | with_reducible refine Dev_sendMessage_kept ?_
    | with_reducible refine Kept.foldl (fun _ _ _ => ?_) ?_
    | split
    | fail_if_no_progress beta_reduce

theorem Dev_enterTables_kept {d : Dev} {p : Nat} (h : Kept σ d) : Kept σ (Dev.enterTables d p) := by
  unfold Dev.enterTables
  repeat' first
    | with_reducible assumption
    | (extract_lets +onlyGivenNames z; first | (refine (have hz : Kept σ z := ?_; ?_); (on_goal 1 => (unfold z; clear z)); (on_goal 2 => clear_value z)) | (refine (have hz : Kept σ z.1 := ?_; ?_); (on_goal 1 => (unfold z; clear z)); (on_goal 2 => clear_value z)) | clear_value z)
    | with_reducible refine Dev_modPort_kept ?_
    | with_reducible refine Dev_sendMessage_kept ?_
    | with_reducible refine Dev_broadcastTable_kept ?_
    | with_reducible refine Kept.foldl (fun _ _ _ => ?_) ?_
    | with_reducible refine Kept.foldl1 (fun _ _ _ => ?_) ?_
    | with_reducible exact Kept.mk (Kept.eq (by with_reducible assumption))
    | fail_if_no_progress beta_reduce

theorem Dev_enumEnd_kept {d : Dev} {p ncount : Nat} (h : Kept σ d) : Kept σ (Dev.enumEnd d p ncount) := by
  unfold Dev.enumEnd
  repeat' first
    | with_reducible assumption
    | (extract_lets +onlyGivenNames z; first | (refine (have hz : Kept σ z := ?_; ?_); (on_goal 1 => (unfold z; clear z)); (on_goal 2 => clear_value z)) | (refine (have hz : Kept σ z.1 := ?_; ?_); (on_goal 1 => (unfold z; clear z)); (on_goal 2 => clear_value z)) | clear_value z)
    | with_reducible refine Kept.ite ?_ ?_
    | with_reducible refine Dev_modPort_kept ?_
    | with_reducible refine Dev_linkFail_kept ?_
    | with_reducible refine Dev_enterConfig_kept ?_
    | with_reducible refine Dev_enterTables_kept ?_
    | with_reducible exact Kept.mk (Kept.eq (by with_reducible assumption))
    | split
    | fail_if_no_progress beta_reduce

theorem Dev_sendStart_kept {d : Dev} {p : Nat} (h : Kept σ d) : Kept σ (Dev.sendStart d p) := by
  unfold Dev.sendStart
  repeat' first
    | with_reducible assumption
    | (extract_lets +onlyGivenNames z; first | (refine (have hz : Kept σ z := ?_; ?_); (on_goal 1 => (unfold z; clear z)); (on_goal 2 => clear_value z)) | (refine (have hz : Kept σ z.1 := ?_; ?_); (on_goal 1 => (unfold z; clear z)); (on_goal 2 => clear_value z)) | clear_value z)
    | with_reducible refine Dev_modPort_kept ?_
    | with_reducible refine Dev_sendMessage_kept ?_
    | with_reducible exact Kept.mk (Kept.eq (by with_reducible assumption))
    | fail_if_no_progress beta_reduce


theorem Dev_linkAdvance_kept {d : Dev} {p ncount : Nat} (h : Kept σ d) : Kept σ (Dev.linkAdvance d p ncount) := by
  unfold Dev.linkAdvance
  repeat' first
    | with_reducible assumption
    | (extract_lets +onlyGivenNames z; first | (refine (have hz : Kept σ z := ?_; ?_); (on_goal 1 => (unfold z; clear z)); (on_goal 2 => clear_value z)) | (refine (have hz : Kept σ z.1 := ?_; ?_); (on_goal 1 => (unfold z; clear z)); (on_goal 2 => clear_value z)) | clear_value z)
    | with_reducible refine Kept.ite ?_ ?_
    | with_reducible refine Dev_enterConfig_kept ?_
    | with_reducible refine Dev_enumEnd_kept ?_
    | with_reducible refine Dev_sendStart_kept ?_
    | split
    | fail_if_no_progress beta_reduce

theorem Dev_identity_kept {d : Dev} {p addr : Nat} {b : List Byte} {frame : Word} (h : Kept σ d) : Kept σ (Dev.identity d p addr b frame) := by
  unfold Dev.identity
  repeat' first
    | with_reducible assumption
    | (extract_lets +onlyGivenNames z; first | (refine (have hz : Kept σ z := ?_; ?_); (on_goal 1 => (unfold z; clear z)); (on_goal 2 => clear_value z)) | (refine (have hz : Kept σ z.1 := ?_; ?_); (on_goal 1 => (unfold z; clear z)); (on_goal 2 => clear_value z)) | clear_value z)
    | with_reducible refine Kept.ite ?_ ?_
    | with_reducible refine Dev_modNode_kept ?_
    | split
    | fail_if_no_progress beta_reduce

theorem Dev_inbound_kept {d : Dev} {p : Nat} {b : Block} (h : Kept σ d) : Kept σ (Dev.inbound d p b) := by
  unfold Dev.inbound
  repeat' first
    | with_reducible assumption
    | (extract_lets +onlyGivenNames z; clear_value z)
    | with_reducible refine Dev_modPort_kept ?_
    | with_reducible exact Kept.mk (Kept.eq (by with_reducible assumption))
    | fail_if_no_progress beta_reduce

theorem Dev_latchBlocks_kept {d : Dev} {p : Nat} (h : Kept σ d) : Kept σ (Dev.latchBlocks d p) := by
  unfold Dev.latchBlocks
  repeat' first
    | with_reducible assumption
    | (extract_lets +onlyGivenNames z; first | (refine (have hz : Kept σ z := ?_; ?_); (on_goal 1 => (unfold z; clear z)); (on_goal 2 => clear_value z)) | (refine (have hz : Kept σ z.1 := ?_; ?_); (on_goal 1 => (unfold z; clear z)); (on_goal 2 => clear_value z)) | clear_value z)
    | with_reducible refine Dev_modPort_kept ?_
    | with_reducible refine Dev_modNode_kept ?_
    | with_reducible refine Dev_enqueue_kept ?_
    | with_reducible refine Kept.foldl (fun _ _ _ => ?_) ?_
    | with_reducible exact Kept.mk (Kept.eq (by with_reducible assumption))
    | split
    | fail_if_no_progress beta_reduce

theorem Dev_upBlock_kept {d : Dev} {p : Nat} {frame : Word} {b : Block} (h : Kept σ d) : Kept σ (Dev.upBlock d p frame b) := by
  unfold Dev.upBlock
  repeat' first
    | with_reducible assumption
    | (extract_lets +onlyGivenNames z; first | (refine (have hz : Kept σ z := ?_; ?_); (on_goal 1 => (unfold z; clear z)); (on_goal 2 => clear_value z)) | (refine (have hz : Kept σ z.1 := ?_; ?_); (on_goal 1 => (unfold z; clear z)); (on_goal 2 => clear_value z)) | (refine (have hz : ∀ x, Kept σ x → Kept σ (z x) := ?_; ?_); (on_goal 1 => (intro _ _; unfold z; clear z)); (on_goal 2 => clear_value z)) | (refine (have hz : ∀ x, Kept σ x.1 → Kept σ (z x) := ?_; ?_); (on_goal 1 => (intro _ _; unfold z; clear z)); (on_goal 2 => clear_value z)) | (refine (have hz : ∀ a, Kept σ (z a) := ?_; ?_); (on_goal 1 => (intro _; unfold z; clear z)); (on_goal 2 => clear_value z)) | (refine (have hz : ∀ x a, Kept σ x → Kept σ (z x a) := ?_; ?_); (on_goal 1 => (intro _ _ _; unfold z; clear z)); (on_goal 2 => clear_value z)) | clear_value z)
    | with_reducible refine Kept.ite ?_ ?_
    | with_reducible refine Dev_incReg_kept ?_
    | with_reducible refine Dev_countEvent_kept ?_
    | with_reducible refine Dev_modNode_kept ?_
    | with_reducible refine Dev_discardOpen_kept ?_
    | with_reducible refine Dev_identity_kept ?_
    | with_reducible refine Dev_inbound_kept ?_
    | with_reducible exact Kept.mk (Kept.eq (by with_reducible assumption))
    | split
    | with_reducible apply_assumption
    | fail_if_no_progress beta_reduce

theorem Dev_upManagement_kept {d : Dev} {p ncount : Nat} {bytes : List Byte} (h : Kept σ d) : Kept σ (Dev.upManagement d p ncount bytes) := by
  unfold Dev.upManagement
  repeat' first
    | with_reducible assumption
    | with_reducible refine Dev_modNode_kept ?_
    | with_reducible refine Kept.foldl (fun _ _ _ => ?_) ?_
    | fail_if_no_progress beta_reduce

theorem Dev_badUpFrame_kept {d : Dev} {p : Nat} (h : Kept σ d) : Kept σ (Dev.badUpFrame d p) := by
  unfold Dev.badUpFrame
  repeat' first
    | with_reducible assumption
    | with_reducible refine Dev_incReg_kept ?_
    | with_reducible refine Dev_eventRep_kept ?_
    | with_reducible refine Dev_strFlag_kept ?_

theorem Dev_latchAxis_kept {d : Dev} {n : Nat} {u : Word} {w9 : Option (BitVec 64)} (h : Kept σ d) : Kept σ (Dev.latchAxis d n u w9) := by
  unfold Dev.latchAxis
  repeat' first
    | with_reducible assumption
    | (extract_lets +onlyGivenNames z; first | (refine (have hz : Kept σ z := ?_; ?_); (on_goal 1 => (unfold z; clear z)); (on_goal 2 => clear_value z)) | (refine (have hz : Kept σ z.1 := ?_; ?_); (on_goal 1 => (unfold z; clear z)); (on_goal 2 => clear_value z)) | clear_value z)
    | with_reducible refine Kept.ite ?_ ?_
    | with_reducible refine Dev_setAxis_kept ?_
    | with_reducible refine Dev_run_kept ?_
    | with_reducible refine Dev_devSig_kept ?_
    | with_reducible refine Kept.foldl (fun _ _ _ => ?_) ?_
    | with_reducible refine Kept.foldl1 (fun _ _ _ => ?_) ?_
    | with_reducible exact Kept.mk (Kept.eq (by with_reducible assumption))
    | split
    | fail_if_no_progress beta_reduce

theorem Dev_latchStatus_kept {d : Dev} {p : Nat} {a : PortAxis} {v : BitVec 64} (h : Kept σ d) : Kept σ (Dev.latchStatus d p a v) := by
  unfold Dev.latchStatus
  repeat' first
    | with_reducible assumption
    | (extract_lets +onlyGivenNames z; first | (refine (have hz : Kept σ z := ?_; ?_); (on_goal 1 => (unfold z; clear z)); (on_goal 2 => clear_value z)) | (refine (have hz : Kept σ z.1 := ?_; ?_); (on_goal 1 => (unfold z; clear z)); (on_goal 2 => clear_value z)) | clear_value z)
    | with_reducible refine Kept.ite ?_ ?_
    | with_reducible refine Dev_setAxis_kept ?_
    | with_reducible refine Dev_eventRep_kept ?_
    | with_reducible refine Dev_strFlag_kept ?_
    | with_reducible exact Kept.mk (Kept.eq (by with_reducible assumption))
    | split
    | fail_if_no_progress beta_reduce

theorem Dev_latchEncoders_kept {d : Dev} {p : Nat} {slots : Option (SMap (BitVec 64))} (h : Kept σ d) : Kept σ (Dev.latchEncoders d p slots) := by
  unfold Dev.latchEncoders
  repeat' first
    | with_reducible assumption
    | (extract_lets +onlyGivenNames z; first | (refine (have hz : Kept σ z := ?_; ?_); (on_goal 1 => (unfold z; clear z)); (on_goal 2 => clear_value z)) | (refine (have hz : Kept σ z.1 := ?_; ?_); (on_goal 1 => (unfold z; clear z)); (on_goal 2 => clear_value z)) | clear_value z)
    | with_reducible refine Kept.ite ?_ ?_
    | with_reducible refine Dev_setReg_kept ?_
    | with_reducible refine Dev_modPort_kept ?_
    | with_reducible refine Kept.foldl (fun _ _ _ => ?_) ?_
    | with_reducible refine Kept.foldl1 (fun _ _ _ => ?_) ?_
    | with_reducible exact Kept.mk (Kept.eq (by with_reducible assumption))
    | split
    | fail_if_no_progress beta_reduce

theorem Dev_latchPort_kept {d : Dev} {p : Nat} {u : Word} (h : Kept σ d) : Kept σ (Dev.latchPort d p u) := by
  unfold Dev.latchPort
  repeat' first
    | with_reducible assumption
    | (extract_lets +onlyGivenNames z; first | (refine (have hz : Kept σ z := ?_; ?_); (on_goal 1 => (unfold z; clear z)); (on_goal 2 => clear_value z)) | (refine (have hz : Kept σ z.1 := ?_; ?_); (on_goal 1 => (unfold z; clear z)); (on_goal 2 => clear_value z)) | clear_value z)
    | with_reducible refine Kept.ite ?_ ?_
    | with_reducible refine Dev_modPort_kept ?_
    | with_reducible refine Dev_badUpFrame_kept ?_
    | with_reducible refine Dev_latchAxis_kept ?_
    | with_reducible refine Dev_latchStatus_kept ?_
    | with_reducible refine Dev_latchEncoders_kept ?_
    | with_reducible refine Kept.foldl (fun _ _ _ => ?_) ?_
    | with_reducible exact Kept.mk (Kept.eq (by with_reducible assumption))
    | split
    | fail_if_no_progress beta_reduce

theorem Dev_takeBlocks_kept {d : Dev} {p : Nat} {q9 : Nat} (h : Kept σ d) : Kept σ (Dev.takeBlocks d p q9).1 := by
  induction q9 generalizing d with
  | zero => exact h
  | succ q9 ih =>
  unfold Dev.takeBlocks
  repeat' first
    | with_reducible refine ih ?_
    | with_reducible assumption
    | (extract_lets +onlyGivenNames z; first | (refine (have hz : Kept σ z := ?_; ?_); (on_goal 1 => (unfold z; clear z)); (on_goal 2 => clear_value z)) | (refine (have hz : Kept σ z.1 := ?_; ?_); (on_goal 1 => (unfold z; clear z)); (on_goal 2 => clear_value z)) | clear_value z)
    | with_reducible refine Dev_incReg_kept ?_
    | with_reducible refine Dev_setQueue_kept ?_
    | with_reducible refine Dev_countEvent_kept ?_
    | with_reducible refine Dev_modPort_kept ?_
    | with_reducible exact Kept.mk (Kept.eq (by with_reducible assumption))
    | (with_reducible refine Kept.pair ?_; first | with_reducible assumption | with_reducible refine Dev_incReg_kept ?_ | with_reducible refine Dev_setQueue_kept ?_ | with_reducible refine Dev_countEvent_kept ?_ | with_reducible refine Dev_modPort_kept ?_ | with_reducible exact Kept.mk (Kept.eq (by with_reducible assumption)))
    | split
    | fail_if_no_progress beta_reduce
theorem Dev_takeBlocks_keq {d : Dev} {p : Nat} {q9 : Nat} {z : Dev} {w : List Block} (e : Dev.takeBlocks d p q9 = (z, w)) (h : Kept σ d) : Kept σ z := by
  have := Dev_takeBlocks_kept (σ := σ) (d := d) (p := p) (q9 := q9) h; rw [e] at this; exact this

theorem Dev_sendPort_kept {d : Dev} {p : Nat} (h : Kept σ d) : Kept σ (Dev.sendPort d p) := by
  unfold Dev.sendPort
  repeat' first
    | with_reducible assumption
    | (extract_lets +onlyGivenNames z; first | (refine (have hz : Kept σ z := ?_; ?_); (on_goal 1 => (unfold z; clear z)); (on_goal 2 => clear_value z)) | (refine (have hz : Kept σ z.1 := ?_; ?_); (on_goal 1 => (unfold z; clear z)); (on_goal 2 => clear_value z)) | clear_value z)
    | with_reducible refine Kept.ite ?_ ?_
    | with_reducible refine Dev_take_kept ?_
    | with_reducible refine Dev_devSig_kept ?_
    | with_reducible refine Dev_modPort_kept ?_
    | with_reducible refine Dev_takeBlocks_kept ?_
    | exact Dev_takeBlocks_keq ‹_› ‹_›
    | with_reducible refine Kept.foldl (fun _ _ _ => ?_) ?_
    | with_reducible refine Kept.foldl1 (fun _ _ _ => ?_) ?_
    | with_reducible exact Kept.mk (Kept.eq (by with_reducible assumption))
    | split
    | fail_if_no_progress beta_reduce

theorem Dev_agePort_kept {d : Dev} {p : Nat} (h : Kept σ d) : Kept σ (Dev.agePort d p) := by
  unfold Dev.agePort
  repeat' first
    | with_reducible assumption
    | (extract_lets +onlyGivenNames z; first | (refine (have hz : Kept σ z := ?_; ?_); (on_goal 1 => (unfold z; clear z)); (on_goal 2 => clear_value z)) | (refine (have hz : Kept σ z.1 := ?_; ?_); (on_goal 1 => (unfold z; clear z)); (on_goal 2 => clear_value z)) | clear_value z)
    | with_reducible refine Kept.ite ?_ ?_
    | with_reducible refine Dev_take_kept ?_
    | with_reducible refine Dev_modPort_kept ?_
    | with_reducible exact Kept.mk (Kept.eq (by with_reducible assumption))
    | split
    | fail_if_no_progress beta_reduce

theorem Dev_portsFrame_kept {d : Dev} {u : Word} (h : Kept σ d) : Kept σ (Dev.portsFrame d u) := by
  unfold Dev.portsFrame
  repeat' first
    | with_reducible assumption
    | (extract_lets +onlyGivenNames z; first | (refine (have hz : Kept σ z := ?_; ?_); (on_goal 1 => (unfold z; clear z)); (on_goal 2 => clear_value z)) | (refine (have hz : Kept σ z.1 := ?_; ?_); (on_goal 1 => (unfold z; clear z)); (on_goal 2 => clear_value z)) | clear_value z)
    | with_reducible refine Dev_queuesFrame_kept ?_
    | with_reducible refine Dev_latchBlocks_kept ?_
    | with_reducible refine Dev_latchAxis_kept ?_
    | with_reducible refine Dev_latchPort_kept ?_
    | with_reducible refine Dev_sendPort_kept ?_
    | with_reducible refine Dev_agePort_kept ?_
    | with_reducible refine Kept.foldl (fun _ _ _ => ?_) ?_
    | fail_if_no_progress beta_reduce

theorem Dev_strCommand_kept {d : Dev} {p : Nat} {value : Word} (h : Kept σ d) : Kept σ (Dev.strCommand d p value) := by
  unfold Dev.strCommand
  extract_lets stat start stop still
  have hs (n : Nat) {x : Dev} (hx : Kept σ x) : Kept σ (stat n x) := Dev_setReg_kept hx
  repeat' first
    | with_reducible assumption
    | with_reducible refine Kept.ite ?_ ?_
    | with_reducible refine hs _ ?_
    | with_reducible refine Dev_beginLink_kept ?_
    | with_reducible refine Dev_portDown_kept ?_


theorem Dev_modIsland_kept {d : Dev} {f : Island → Island} (h : Kept σ d) : Kept σ (Dev.modIsland d f) := by
  unfold Dev.modIsland
  repeat' first
    | with_reducible assumption
    | (extract_lets +onlyGivenNames z; clear_value z)
    | with_reducible exact Kept.mk (Kept.eq (by with_reducible assumption))
    | fail_if_no_progress beta_reduce

theorem Dev_islandChange_kept {d : Dev} {n : Nat} {v : Word} (h : Kept σ d) : Kept σ (Dev.islandChange d n v) := by
  unfold Dev.islandChange
  repeat' first
    | with_reducible assumption
    | (extract_lets +onlyGivenNames z; first | (refine (have hz : Kept σ z := ?_; ?_); (on_goal 1 => (unfold z; clear z)); (on_goal 2 => clear_value z)) | (refine (have hz : Kept σ z.1 := ?_; ?_); (on_goal 1 => (unfold z; clear z)); (on_goal 2 => clear_value z)) | clear_value z)
    | with_reducible refine Kept.ite ?_ ?_
    | with_reducible refine Dev_islandSig_kept ?_
    | split
    | fail_if_no_progress beta_reduce

theorem Dev_showSafe_kept {d : Dev} {n : Nat} (h : Kept σ d) : Kept σ (Dev.showSafe d n) := by
  unfold Dev.showSafe
  repeat' first
    | with_reducible assumption
    | (extract_lets +onlyGivenNames z; first | (refine (have hz : Kept σ z := ?_; ?_); (on_goal 1 => (unfold z; clear z)); (on_goal 2 => clear_value z)) | (refine (have hz : Kept σ z.1 := ?_; ?_); (on_goal 1 => (unfold z; clear z)); (on_goal 2 => clear_value z)) | clear_value z)
    | with_reducible refine Kept.ite ?_ ?_
    | with_reducible refine Dev_islandChange_kept ?_
    | split
    | fail_if_no_progress beta_reduce

theorem Dev_safeStop_kept {d : Dev} {n : Nat} {st : SafeState} {code : Nat} (h : Kept σ d) : Kept σ (Dev.safeStop d n st code) := by
  unfold Dev.safeStop
  repeat' first
    | with_reducible assumption
    | (extract_lets +onlyGivenNames z; clear_value z)
    | with_reducible refine Dev_modMotion_kept ?_
    | with_reducible exact Kept.mk (Kept.eq (by with_reducible assumption))
    | fail_if_no_progress beta_reduce

theorem Dev_enterSafe_kept {d : Dev} {n : Nat} {st : SafeState} {code : Nat} (h : Kept σ d) : Kept σ (Dev.enterSafe d n st code) := by
  unfold Dev.enterSafe
  repeat' first
    | with_reducible assumption
    | (extract_lets +onlyGivenNames z; first | (refine (have hz : Kept σ z := ?_; ?_); (on_goal 1 => (unfold z; clear z)); (on_goal 2 => clear_value z)) | (refine (have hz : Kept σ z.1 := ?_; ?_); (on_goal 1 => (unfold z; clear z)); (on_goal 2 => clear_value z)) | clear_value z)
    | with_reducible refine Kept.ite ?_ ?_
    | with_reducible refine Dev_setSafe_kept ?_
    | with_reducible refine Dev_safeStop_kept ?_
    | with_reducible exact Kept.mk (Kept.eq (by with_reducible assumption))
    | split
    | fail_if_no_progress beta_reduce

theorem Dev_violate_kept {d : Dev} {n code : Nat} (h : Kept σ d) : Kept σ (Dev.violate d n code) := by
  unfold Dev.violate
  repeat' first
    | with_reducible assumption
    | (extract_lets +onlyGivenNames z; first | (refine (have hz : Kept σ z := ?_; ?_); (on_goal 1 => (unfold z; clear z)); (on_goal 2 => clear_value z)) | (refine (have hz : Kept σ z.1 := ?_; ?_); (on_goal 1 => (unfold z; clear z)); (on_goal 2 => clear_value z)) | clear_value z)
    | with_reducible refine Kept.ite ?_ ?_
    | with_reducible refine Dev_orReg_kept ?_
    | with_reducible refine Dev_setSafe_kept ?_
    | with_reducible refine Dev_event_kept ?_
    | with_reducible refine Dev_safeStop_kept ?_
    | with_reducible refine Dev_enterSafe_kept ?_
    | with_reducible exact Kept.mk (Kept.eq (by with_reducible assumption))
    | split
    | fail_if_no_progress beta_reduce

theorem Dev_clearSafe_kept {d : Dev} {n : Nat} (h : Kept σ d) : Kept σ (Dev.clearSafe d n) := by
  unfold Dev.clearSafe
  repeat' first
    | with_reducible assumption
    | (extract_lets +onlyGivenNames z; first | (refine (have hz : Kept σ z := ?_; ?_); (on_goal 1 => (unfold z; clear z)); (on_goal 2 => clear_value z)) | (refine (have hz : Kept σ z.1 := ?_; ?_); (on_goal 1 => (unfold z; clear z)); (on_goal 2 => clear_value z)) | clear_value z)
    | with_reducible refine Dev_setSafe_kept ?_
    | with_reducible refine Dev_showSafe_kept ?_
    | with_reducible exact Kept.mk (Kept.eq (by with_reducible assumption))
    | fail_if_no_progress beta_reduce

theorem Dev_stopMonitor_kept {d : Dev} {n : Nat} (h : Kept σ d) : Kept σ (Dev.stopMonitor d n) := by
  unfold Dev.stopMonitor
  repeat' first
    | with_reducible assumption
    | (extract_lets +onlyGivenNames z; first | (refine (have hz : Kept σ z := ?_; ?_); (on_goal 1 => (unfold z; clear z)); (on_goal 2 => clear_value z)) | (refine (have hz : Kept σ z.1 := ?_; ?_); (on_goal 1 => (unfold z; clear z)); (on_goal 2 => clear_value z)) | clear_value z)
    | with_reducible refine Kept.ite ?_ ?_
    | with_reducible refine Dev_setSafe_kept ?_
    | with_reducible refine Dev_violate_kept ?_
    | with_reducible exact Kept.mk (Kept.eq (by with_reducible assumption))
    | split
    | fail_if_no_progress beta_reduce

theorem Dev_monitorAxis_kept {d : Dev} {n : Nat} (h : Kept σ d) : Kept σ (Dev.monitorAxis d n) := by
  unfold Dev.monitorAxis
  repeat' first
    | with_reducible assumption
    | (extract_lets +onlyGivenNames z; first | (refine (have hz : Kept σ z := ?_; ?_); (on_goal 1 => (unfold z; clear z)); (on_goal 2 => clear_value z)) | (refine (have hz : Kept σ z.1 := ?_; ?_); (on_goal 1 => (unfold z; clear z)); (on_goal 2 => clear_value z)) | clear_value z)
    | with_reducible refine Kept.ite ?_ ?_
    | with_reducible refine Dev_setSafe_kept ?_
    | with_reducible refine Dev_take_kept ?_
    | with_reducible refine Dev_showSafe_kept ?_
    | with_reducible refine Dev_violate_kept ?_
    | with_reducible refine Dev_stopMonitor_kept ?_
    | with_reducible refine Kept.foldl (fun _ _ _ => ?_) ?_
    | with_reducible exact Kept.mk (Kept.eq (by with_reducible assumption))
    | split
    | fail_if_no_progress beta_reduce

theorem Dev_monitors_kept {d : Dev} (h : Kept σ d) : Kept σ (Dev.monitors d) := by
  unfold Dev.monitors
  repeat' first
    | with_reducible assumption
    | with_reducible refine Dev_monitorAxis_kept ?_
    | with_reducible refine Kept.foldl (fun _ _ _ => ?_) ?_
    | fail_if_no_progress beta_reduce

theorem Dev_islandFault_kept {d : Dev} {code : Nat} (h : Kept σ d) : Kept σ (Dev.islandFault d code) := by
  unfold Dev.islandFault
  repeat' first
    | with_reducible assumption
    | (extract_lets +onlyGivenNames z; first | (refine (have hz : Kept σ z := ?_; ?_); (on_goal 1 => (unfold z; clear z)); (on_goal 2 => clear_value z)) | (refine (have hz : Kept σ z.1 := ?_; ?_); (on_goal 1 => (unfold z; clear z)); (on_goal 2 => clear_value z)) | clear_value z)
    | with_reducible refine Kept.ite ?_ ?_
    | with_reducible refine Dev_modMotion_kept ?_
    | with_reducible refine Dev_event_kept ?_
    | with_reducible refine Dev_modIsland_kept ?_
    | with_reducible refine Kept.foldl (fun _ _ _ => ?_) ?_
    | with_reducible exact Kept.mk (Kept.eq (by with_reducible assumption))
    | split
    | fail_if_no_progress beta_reduce

theorem Dev_cyclePairs_kept {d : Dev} (h : Kept σ d) : Kept σ (Dev.cyclePairs d) := by
  unfold Dev.cyclePairs
  repeat' first
    | with_reducible assumption
    | (extract_lets +onlyGivenNames z; first | (refine (have hz : Kept σ z := ?_; ?_); (on_goal 1 => (unfold z; clear z)); (on_goal 2 => clear_value z)) | (refine (have hz : Kept σ z.1 := ?_; ?_); (on_goal 1 => (unfold z; clear z)); (on_goal 2 => clear_value z)) | clear_value z)
    | with_reducible refine Kept.ite ?_ ?_
    | with_reducible refine Dev_orReg_kept ?_
    | with_reducible refine Dev_event_kept ?_
    | with_reducible refine Kept.foldl (fun _ _ _ => ?_) ?_
    | with_reducible refine Kept.foldl1 (fun _ _ _ => ?_) ?_
    | with_reducible exact Kept.mk (Kept.eq (by with_reducible assumption))
    | split
    | fail_if_no_progress beta_reduce

theorem Dev_withdraw_kept {d : Dev} {g : Nat} (h : Kept σ d) : Kept σ (Dev.withdraw d g) := by
  unfold Dev.withdraw
  repeat' first
    | with_reducible assumption
    | (extract_lets +onlyGivenNames z; first | (refine (have hz : Kept σ z := ?_; ?_); (on_goal 1 => (unfold z; clear z)); (on_goal 2 => clear_value z)) | (refine (have hz : Kept σ z.1 := ?_; ?_); (on_goal 1 => (unfold z; clear z)); (on_goal 2 => clear_value z)) | clear_value z)
    | with_reducible refine Kept.ite ?_ ?_
    | with_reducible refine Dev_orReg_kept ?_
    | with_reducible refine Dev_event_kept ?_
    | with_reducible refine Dev_showSafe_kept ?_
    | with_reducible refine Dev_enterSafe_kept ?_
    | with_reducible refine Kept.foldl (fun _ _ _ => ?_) ?_
    | split
    | fail_if_no_progress beta_reduce

theorem Dev_cycleGroup_kept {d : Dev} {g : Nat} (h : Kept σ d) : Kept σ (Dev.cycleGroup d g) := by
  unfold Dev.cycleGroup
  repeat' first
    | with_reducible assumption
    | (extract_lets +onlyGivenNames z; first | (refine (have hz : Kept σ z := ?_; ?_); (on_goal 1 => (unfold z; clear z)); (on_goal 2 => clear_value z)) | (refine (have hz : Kept σ z.1 := ?_; ?_); (on_goal 1 => (unfold z; clear z)); (on_goal 2 => clear_value z)) | clear_value z)
    | with_reducible refine Kept.ite ?_ ?_
    | with_reducible refine Dev_modIsland_kept ?_
    | with_reducible refine Dev_withdraw_kept ?_
    | with_reducible exact Kept.mk (Kept.eq (by with_reducible assumption))
    | split
    | fail_if_no_progress beta_reduce

theorem Dev_cycleReadback_kept {d : Dev} {c : Nat} (h : Kept σ d) : Kept σ (Dev.cycleReadback d c) := by
  unfold Dev.cycleReadback
  repeat' first
    | with_reducible assumption
    | (extract_lets +onlyGivenNames z; first | (refine (have hz : Kept σ z := ?_; ?_); (on_goal 1 => (unfold z; clear z)); (on_goal 2 => clear_value z)) | (refine (have hz : Kept σ z.1 := ?_; ?_); (on_goal 1 => (unfold z; clear z)); (on_goal 2 => clear_value z)) | clear_value z)
    | with_reducible refine Kept.ite ?_ ?_
    | with_reducible refine Dev_orReg_kept ?_
    | with_reducible refine Dev_event_kept ?_
    | with_reducible refine Kept.foldl (fun _ _ _ => ?_) ?_
    | with_reducible refine Kept.foldl1 (fun _ _ _ => ?_) ?_
    | with_reducible exact Kept.mk (Kept.eq (by with_reducible assumption))
    | split
    | fail_if_no_progress beta_reduce

theorem Dev_cycleLoop_kept {d : Dev} {l : Nat} (h : Kept σ d) : Kept σ (Dev.cycleLoop d l) := by
  unfold Dev.cycleLoop
  repeat' first
    | with_reducible assumption
    | (extract_lets +onlyGivenNames z; first | (refine (have hz : Kept σ z := ?_; ?_); (on_goal 1 => (unfold z; clear z)); (on_goal 2 => clear_value z)) | (refine (have hz : Kept σ z.1 := ?_; ?_); (on_goal 1 => (unfold z; clear z)); (on_goal 2 => clear_value z)) | clear_value z)
    | with_reducible refine Kept.ite ?_ ?_
    | with_reducible refine Dev_modIsland_kept ?_
    | with_reducible exact Kept.mk (Kept.eq (by with_reducible assumption))
    | split
    | fail_if_no_progress beta_reduce

theorem Dev_showCycle_kept {d : Dev} (h : Kept σ d) : Kept σ (Dev.showCycle d) := by
  unfold Dev.showCycle
  repeat' first
    | with_reducible assumption
    | (extract_lets +onlyGivenNames z; first | (refine (have hz : Kept σ z := ?_; ?_); (on_goal 1 => (unfold z; clear z)); (on_goal 2 => clear_value z)) | (refine (have hz : Kept σ z.1 := ?_; ?_); (on_goal 1 => (unfold z; clear z)); (on_goal 2 => clear_value z)) | clear_value z)
    | with_reducible refine Kept.ite ?_ ?_
    | with_reducible refine Dev_islandChange_kept ?_
    | with_reducible refine Kept.foldl (fun _ _ _ => ?_) ?_
    | with_reducible refine Kept.foldl1 (fun _ _ _ => ?_) ?_
    | split
    | fail_if_no_progress beta_reduce

theorem Dev_ackAxis_kept {d : Dev} {n : Nat} (h : Kept σ d) : Kept σ (Dev.ackAxis d n).1 := by
  unfold Dev.ackAxis
  repeat' first
    | with_reducible assumption
    | (extract_lets +onlyGivenNames z; first | (refine (have hz : Kept σ z := ?_; ?_); (on_goal 1 => (unfold z; clear z)); (on_goal 2 => clear_value z)) | (refine (have hz : Kept σ z.1 := ?_; ?_); (on_goal 1 => (unfold z; clear z)); (on_goal 2 => clear_value z)) | clear_value z)
    | with_reducible refine Kept.ite ?_ ?_
    | with_reducible refine Kept.ite1 ?_ ?_
    | with_reducible refine Dev_clearSafe_kept ?_
    | (with_reducible refine Kept.pair ?_; first | with_reducible assumption | with_reducible refine Dev_clearSafe_kept ?_ | with_reducible exact Kept.mk (Kept.eq (by with_reducible assumption)))
    | split
    | fail_if_no_progress beta_reduce
theorem Dev_ackAxis_keq {d : Dev} {n : Nat} {z : Dev} {w : Bool} (e : Dev.ackAxis d n = (z, w)) (h : Kept σ d) : Kept σ z := by
  have := Dev_ackAxis_kept (σ := σ) (d := d) (n := n) h; rw [e] at this; exact this

theorem Dev_resetAxis_kept {d : Dev} {n : Nat} (h : Kept σ d) : Kept σ (Dev.resetAxis d n).1 := by
  unfold Dev.resetAxis
  repeat' first
    | with_reducible assumption
    | with_reducible refine Kept.ite ?_ ?_
    | with_reducible refine Kept.ite1 ?_ ?_
    | with_reducible refine Dev_clearSafe_kept ?_
    | (with_reducible refine Kept.pair ?_; first | with_reducible assumption | with_reducible refine Dev_clearSafe_kept ?_ | with_reducible exact Kept.mk (Kept.eq (by with_reducible assumption)))
    | split
theorem Dev_resetAxis_keq {d : Dev} {n : Nat} {z : Dev} {w : Bool} (e : Dev.resetAxis d n = (z, w)) (h : Kept σ d) : Kept σ z := by
  have := Dev_resetAxis_kept (σ := σ) (d := d) (n := n) h; rw [e] at this; exact this

theorem Dev_resetLoop_kept {d : Dev} {l : Nat} (h : Kept σ d) : Kept σ (Dev.resetLoop d l).1 := by
  unfold Dev.resetLoop
  repeat' first
    | with_reducible assumption
    | (extract_lets +onlyGivenNames z; first | (refine (have hz : Kept σ z := ?_; ?_); (on_goal 1 => (unfold z; clear z)); (on_goal 2 => clear_value z)) | (refine (have hz : Kept σ z.1 := ?_; ?_); (on_goal 1 => (unfold z; clear z)); (on_goal 2 => clear_value z)) | clear_value z)
    | with_reducible refine Kept.ite ?_ ?_
    | with_reducible refine Kept.ite1 ?_ ?_
    | with_reducible refine Dev_modIsland_kept ?_
    | with_reducible exact Kept.mk (Kept.eq (by with_reducible assumption))
    | (with_reducible refine Kept.pair ?_; first | with_reducible assumption | with_reducible refine Dev_modIsland_kept ?_ | with_reducible exact Kept.mk (Kept.eq (by with_reducible assumption)))
    | split
    | fail_if_no_progress beta_reduce
theorem Dev_resetLoop_keq {d : Dev} {l : Nat} {z : Dev} {w : Bool} (e : Dev.resetLoop d l = (z, w)) (h : Kept σ d) : Kept σ z := by
  have := Dev_resetLoop_kept (σ := σ) (d := d) (l := l) h; rw [e] at this; exact this

theorem Dev_each_kept {d : Dev} {l : List Nat} {f : Dev → Nat → Dev × Bool} (hf : ∀ x n, Kept σ x → Kept σ (f x n).1) (h : Kept σ d) : Kept σ (Dev.each d l f).1 := by
  unfold Dev.each
  exact Kept.foldl1 (fun x n hx => hf _ _ hx) h

theorem Dev_safCommand_kept {d : Dev} {v : Word} (h : Kept σ d) : Kept σ (Dev.safCommand d v) := by
  unfold Dev.safCommand
  extract_lets stat all one inState r1 r2 loops r3
  have hs (r : Dev × Bool) (hr : Kept σ r.1) : Kept σ (stat r) := Dev_setReg_kept hr
  refine Kept.ite (hs _ h) (hs _ ?_)
  have h1 : Kept σ r1.1 := Kept.ite1 (Dev_each_kept (fun _ _ => Dev_ackAxis_kept) h) h
  have h2 : Kept σ r2.1 := Kept.ite1 (Dev_each_kept (fun _ _ => Dev_resetAxis_kept) h1) h1
  exact Kept.ite1 (Dev_each_kept (fun _ _ => Dev_resetLoop_kept) h2) h2


theorem Dev_safCmdWrite_kept {d : Dev} {v : Word} (h : Kept σ d) : Kept σ (Dev.safCmdWrite d v) := by
  unfold Dev.safCmdWrite
  repeat' first
    | with_reducible assumption
    | (extract_lets +onlyGivenNames z; clear_value z)
    | with_reducible refine Dev_modIsland_kept ?_
    | with_reducible exact Kept.mk (Kept.eq (by with_reducible assumption))
    | fail_if_no_progress beta_reduce

theorem Dev_cycleDiag_kept {d : Dev} {diag : IslandDiag} (h : Kept σ d) : Kept σ (Dev.cycleDiag d diag) := by
  unfold Dev.cycleDiag
  repeat' first
    | with_reducible assumption
    | (extract_lets +onlyGivenNames z; first | (refine (have hz : Kept σ z := ?_; ?_); (on_goal 1 => (unfold z; clear z)); (on_goal 2 => clear_value z)) | (refine (have hz : Kept σ z.1 := ?_; ?_); (on_goal 1 => (unfold z; clear z)); (on_goal 2 => clear_value z)) | clear_value z)
    | with_reducible refine Kept.ite ?_ ?_
    | with_reducible refine Dev_run_kept ?_
    | with_reducible refine Dev_modIsland_kept ?_
    | with_reducible refine Dev_islandFault_kept ?_
    | with_reducible exact Kept.mk (Kept.eq (by with_reducible assumption))
    | split
    | fail_if_no_progress beta_reduce


theorem Dev_safetyCycle_kept {d : Dev} {diag : IslandDiag} (h : Kept σ d) : Kept σ (Dev.safetyCycle d diag) := by
  unfold Dev.safetyCycle
  repeat' first
    | with_reducible assumption
    | (extract_lets +onlyGivenNames z; first | (refine (have hz : Kept σ z := ?_; ?_); (on_goal 1 => (unfold z; clear z)); (on_goal 2 => clear_value z)) | (refine (have hz : Kept σ z.1 := ?_; ?_); (on_goal 1 => (unfold z; clear z)); (on_goal 2 => clear_value z)) | clear_value z)
    | with_reducible refine Dev_modIsland_kept ?_
    | with_reducible refine Dev_showSafe_kept ?_
    | with_reducible refine Dev_cyclePairs_kept ?_
    | with_reducible refine Dev_cycleGroup_kept ?_
    | with_reducible refine Dev_cycleReadback_kept ?_
    | with_reducible refine Dev_cycleLoop_kept ?_
    | with_reducible refine Dev_showCycle_kept ?_
    | with_reducible refine Dev_safCommand_kept ?_
    | with_reducible refine Dev_cycleDiag_kept ?_
    | with_reducible refine Kept.foldl (fun _ _ _ => ?_) ?_
    | with_reducible exact Kept.mk (Kept.eq (by with_reducible assumption))
    | split
    | fail_if_no_progress beta_reduce

theorem Dev_safUnlockWrite_kept {d : Dev} {value : Word} (h : Kept σ d) : Kept σ (Dev.safUnlockWrite d value) := by
  unfold Dev.safUnlockWrite
  repeat' first
    | with_reducible assumption
    | (extract_lets +onlyGivenNames z; clear_value z)
    | with_reducible refine Kept.ite ?_ ?_
    | with_reducible refine Dev_modIsland_kept ?_
    | with_reducible exact Kept.mk (Kept.eq (by with_reducible assumption))
    | split
    | fail_if_no_progress beta_reduce

theorem Dev_beginStore_kept {d : Dev} (h : Kept σ d) : Kept σ (Dev.beginStore d) := by
  unfold Dev.beginStore
  repeat' first
    | with_reducible assumption
    | (extract_lets +onlyGivenNames z; clear_value z)
    | with_reducible refine Dev_modIsland_kept ?_
    | with_reducible exact Kept.mk (Kept.eq (by with_reducible assumption))
    | fail_if_no_progress beta_reduce

theorem Dev_restoreCopy_kept {d : Dev} {y : SafCopy} (h : Kept σ d) : Kept σ (Dev.restoreCopy d y) := by
  unfold Dev.restoreCopy
  repeat' first
    | with_reducible assumption
    | (extract_lets +onlyGivenNames z; first | (refine (have hz : Kept σ z := ?_; ?_); (on_goal 1 => (unfold z; clear z)); (on_goal 2 => clear_value z)) | (refine (have hz : Kept σ z.1 := ?_; ?_); (on_goal 1 => (unfold z; clear z)); (on_goal 2 => clear_value z)) | clear_value z)
    | with_reducible refine Dev_modIsland_kept ?_
    | with_reducible refine Kept.foldl (fun _ _ _ => ?_) ?_
    | with_reducible refine Kept.foldl1 (fun _ _ _ => ?_) ?_
    | with_reducible exact Kept.mk (Kept.eq (by with_reducible assumption))
    | fail_if_no_progress beta_reduce

theorem Dev_storeLost_kept {d : Dev} (h : Kept σ d) : Kept σ (Dev.storeLost d) := by
  unfold Dev.storeLost
  repeat' first
    | with_reducible assumption
    | (extract_lets +onlyGivenNames z; first | (refine (have hz : Kept σ z := ?_; ?_); (on_goal 1 => (unfold z; clear z)); (on_goal 2 => clear_value z)) | (refine (have hz : Kept σ z.1 := ?_; ?_); (on_goal 1 => (unfold z; clear z)); (on_goal 2 => clear_value z)) | clear_value z)
    | with_reducible refine Kept.ite ?_ ?_
    | with_reducible refine Dev_nextFree_kept ?_
    | exact Dev_nextFree_keq ‹_› ‹_›
    | with_reducible refine Dev_restoreCopy_kept ?_
    | split
    | fail_if_no_progress beta_reduce

theorem Dev_safWrite_kept {d : Dev} {addr : Nat} {value : Word} (h : Kept σ d) : Kept σ (Dev.safWrite d addr value) := by
  unfold Dev.safWrite
  repeat' first
    | with_reducible assumption
    | (extract_lets +onlyGivenNames z; clear_value z)
    | with_reducible refine Kept.ite ?_ ?_
    | with_reducible refine Dev_setReg_kept ?_
    | with_reducible refine Dev_modIsland_kept ?_
    | with_reducible refine Dev_beginStore_kept ?_
    | with_reducible exact Kept.mk (Kept.eq (by with_reducible assumption))
    | split
    | fail_if_no_progress beta_reduce

theorem Dev_commission_kept {d : Dev} {value : Word} (h : Kept σ d) : Kept σ (Dev.commission d value).1 := by
  unfold Dev.commission
  repeat' first
    | with_reducible assumption
    | (extract_lets +onlyGivenNames z; first | (refine (have hz : Kept σ z := ?_; ?_); (on_goal 1 => (unfold z; clear z)); (on_goal 2 => clear_value z)) | (refine (have hz : Kept σ z.1 := ?_; ?_); (on_goal 1 => (unfold z; clear z)); (on_goal 2 => clear_value z)) | clear_value z)
    | with_reducible refine Kept.ite ?_ ?_
    | with_reducible refine Kept.ite1 ?_ ?_
    | with_reducible refine Dev_event_kept ?_
    | with_reducible refine Dev_modIsland_kept ?_
    | with_reducible refine Dev_beginStore_kept ?_
    | with_reducible exact Kept.mk (Kept.eq (by with_reducible assumption))
    | (with_reducible refine Kept.pair ?_; first | with_reducible assumption | with_reducible refine Dev_event_kept ?_ | with_reducible refine Dev_modIsland_kept ?_ | with_reducible refine Dev_beginStore_kept ?_ | with_reducible exact Kept.mk (Kept.eq (by with_reducible assumption)))
    | split
    | fail_if_no_progress beta_reduce
theorem Dev_commission_keq {d : Dev} {value : Word} {z : Dev} {w : Nat} (e : Dev.commission d value = (z, w)) (h : Kept σ d) : Kept σ z := by
  have := Dev_commission_kept (σ := σ) (d := d) (value := value) h; rw [e] at this; exact this

theorem Dev_safeBase_kept {d : Dev} (h : Kept σ d) : Kept σ (Dev.safeBase d) := by
  unfold Dev.safeBase
  repeat' first
    | with_reducible assumption
    | (extract_lets +onlyGivenNames z; first | (refine (have hz : Kept σ z.1 := ?_; ?_); (on_goal 1 => (unfold z; clear z)); (on_goal 2 => clear_value z)) | clear_value z)
    | with_reducible refine Kept.ite ?_ ?_
    | with_reducible refine Dev_setSafe_kept ?_
    | with_reducible refine Dev_showSafe_kept ?_
    | with_reducible refine Kept.foldl (fun _ _ _ => ?_) ?_
    | split
    | fail_if_no_progress beta_reduce

theorem Dev_islandRunEntry_kept {d : Dev} (h : Kept σ d) : Kept σ (Dev.islandRunEntry d) := by
  unfold Dev.islandRunEntry
  repeat' first
    | with_reducible assumption
    | (extract_lets +onlyGivenNames z; first | (refine (have hz : Kept σ z := ?_; ?_); (on_goal 1 => (unfold z; clear z)); (on_goal 2 => clear_value z)) | (refine (have hz : Kept σ z.1 := ?_; ?_); (on_goal 1 => (unfold z; clear z)); (on_goal 2 => clear_value z)) | clear_value z)
    | with_reducible refine Kept.ite ?_ ?_
    | with_reducible refine Dev_event_kept ?_
    | with_reducible refine Dev_safeBase_kept ?_
    | split
    | fail_if_no_progress beta_reduce

theorem Dev_modSource_kept {d : Dev} {k : Nat} {f : TgSource → TgSource} (h : Kept σ d) : Kept σ (Dev.modSource d k f) := by
  unfold Dev.modSource
  repeat' first
    | with_reducible assumption
    | (extract_lets +onlyGivenNames z; clear_value z)
    | with_reducible refine Dev_modIsland_kept ?_
    | with_reducible exact Kept.mk (Kept.eq (by with_reducible assumption))
    | fail_if_no_progress beta_reduce

theorem Dev_tgCount_kept {d : Dev} {k : Nat} (h : Kept σ d) : Kept σ (Dev.tgCount d k) := by
  unfold Dev.tgCount
  repeat' first
    | with_reducible assumption
    | (extract_lets +onlyGivenNames z; clear_value z)
    | with_reducible refine Dev_modSource_kept ?_
    | with_reducible exact Kept.mk (Kept.eq (by with_reducible assumption))
    | fail_if_no_progress beta_reduce

theorem Dev_tgReject_kept {d : Dev} {k : Option Nat} {code : Nat} (h : Kept σ d) : Kept σ (Dev.tgReject d k code) := by
  unfold Dev.tgReject
  repeat' first
    | with_reducible assumption
    | (extract_lets +onlyGivenNames z; first | (refine (have hz : Kept σ z := ?_; ?_); (on_goal 1 => (unfold z; clear z)); (on_goal 2 => clear_value z)) | (refine (have hz : Kept σ z.1 := ?_; ?_); (on_goal 1 => (unfold z; clear z)); (on_goal 2 => clear_value z)) | clear_value z)
    | with_reducible refine Dev_orReg_kept ?_
    | with_reducible refine Dev_eventRep_kept ?_
    | with_reducible refine Dev_tgCount_kept ?_
    | split
    | fail_if_no_progress beta_reduce

theorem Dev_tgAccept_kept {d : Dev} {k : Nat} {b : List Byte} {first at' : Nat} {single : Bool} (h : Kept σ d) : Kept σ (Dev.tgAccept d k b first at' single) := by
  unfold Dev.tgAccept
  repeat' first
    | with_reducible assumption
    | (extract_lets +onlyGivenNames z; first | (refine (have hz : Kept σ z := ?_; ?_); (on_goal 1 => (unfold z; clear z)); (on_goal 2 => clear_value z)) | (refine (have hz : Kept σ z.1 := ?_; ?_); (on_goal 1 => (unfold z; clear z)); (on_goal 2 => clear_value z)) | clear_value z)
    | with_reducible refine Kept.ite ?_ ?_
    | with_reducible refine Dev_orReg_kept ?_
    | with_reducible refine Dev_event_kept ?_
    | with_reducible refine Dev_modSource_kept ?_
    | with_reducible exact Kept.mk (Kept.eq (by with_reducible assumption))
    | split
    | fail_if_no_progress beta_reduce

theorem Dev_tgWindow_kept {d : Dev} {k : Nat} {c : TgCopy} (h : Kept σ d) : Kept σ (Dev.tgWindow d k c) := by
  unfold Dev.tgWindow
  repeat' first
    | with_reducible assumption
    | (extract_lets +onlyGivenNames z; first | (refine (have hz : Kept σ z := ?_; ?_); (on_goal 1 => (unfold z; clear z)); (on_goal 2 => clear_value z)) | (refine (have hz : Kept σ z.1 := ?_; ?_); (on_goal 1 => (unfold z; clear z)); (on_goal 2 => clear_value z)) | clear_value z)
    | with_reducible refine Kept.ite ?_ ?_
    | with_reducible refine Dev_modSource_kept ?_
    | with_reducible refine Dev_tgAccept_kept ?_
    | with_reducible exact Kept.mk (Kept.eq (by with_reducible assumption))
    | split
    | fail_if_no_progress beta_reduce

theorem Dev_tgWindows_kept {d : Dev} {k stamp : Nat} (h : Kept σ d) : Kept σ (Dev.tgWindows d k stamp) := by
  unfold Dev.tgWindows
  repeat' first
    | with_reducible assumption
    | with_reducible refine Dev_tgWindow_kept ?_
    | with_reducible refine Kept.foldl (fun _ _ _ => ?_) ?_
    | fail_if_no_progress beta_reduce

theorem Dev_tgCopy_kept {d : Dev} {port stamp : Nat} {b : List Byte} (h : Kept σ d) : Kept σ (Dev.tgCopy d port stamp b) := by
  unfold Dev.tgCopy
  repeat' first
    | with_reducible assumption
    | (extract_lets +onlyGivenNames z; first | (refine (have hz : Kept σ z := ?_; ?_); (on_goal 1 => (unfold z; clear z)); (on_goal 2 => clear_value z)) | (refine (have hz : Kept σ z.1 := ?_; ?_); (on_goal 1 => (unfold z; clear z)); (on_goal 2 => clear_value z)) | (refine (have hz : ∀ x, Kept σ x → Kept σ (z x) := ?_; ?_); (on_goal 1 => (intro _ _; unfold z; clear z)); (on_goal 2 => clear_value z)) | (refine (have hz : ∀ x, Kept σ x.1 → Kept σ (z x) := ?_; ?_); (on_goal 1 => (intro _ _; unfold z; clear z)); (on_goal 2 => clear_value z)) | (refine (have hz : ∀ a, Kept σ (z a) := ?_; ?_); (on_goal 1 => (intro _; unfold z; clear z)); (on_goal 2 => clear_value z)) | (refine (have hz : ∀ x a, Kept σ x → Kept σ (z x a) := ?_; ?_); (on_goal 1 => (intro _ _ _; unfold z; clear z)); (on_goal 2 => clear_value z)) | clear_value z)
    | with_reducible refine Kept.ite ?_ ?_
    | with_reducible refine Dev_modSource_kept ?_
    | with_reducible refine Dev_tgCount_kept ?_
    | with_reducible refine Dev_tgReject_kept ?_
    | with_reducible refine Dev_tgAccept_kept ?_
    | with_reducible refine Dev_tgWindows_kept ?_
    | with_reducible refine Kept.foldl (fun _ _ _ => ?_) ?_
    | with_reducible exact Kept.mk (Kept.eq (by with_reducible assumption))
    | split
    | with_reducible apply_assumption
    | fail_if_no_progress beta_reduce

theorem Dev_modField_kept {d : Dev} {f : Field → Field} (h : Kept σ d) : Kept σ (Dev.modField d f) := by
  unfold Dev.modField
  repeat' first
    | with_reducible assumption
    | (extract_lets +onlyGivenNames z; clear_value z)
    | with_reducible exact Kept.mk (Kept.eq (by with_reducible assumption))
    | fail_if_no_progress beta_reduce

theorem Dev_fldFlag_kept {d : Dev} {bits : Word} (h : Kept σ d) : Kept σ (Dev.fldFlag d bits) := by
  unfold Dev.fldFlag
  repeat' first
    | with_reducible assumption
    | with_reducible refine Dev_orReg_kept ?_

theorem Dev_hsSettle_kept {d : Dev} {h1 : Nat} {fresh : Bool} (h : Kept σ d) : Kept σ (Dev.hsSettle d h1 fresh) := by
  unfold Dev.hsSettle
  repeat' first
    | with_reducible assumption
    | (extract_lets +onlyGivenNames z; first | (refine (have hz : Kept σ z := ?_; ?_); (on_goal 1 => (unfold z; clear z)); (on_goal 2 => clear_value z)) | (refine (have hz : Kept σ z.1 := ?_; ?_); (on_goal 1 => (unfold z; clear z)); (on_goal 2 => clear_value z)) | clear_value z)
    | with_reducible refine Kept.ite ?_ ?_
    | with_reducible refine Dev_setChan_kept ?_
    | with_reducible refine Dev_modField_kept ?_
    | with_reducible exact Kept.mk (Kept.eq (by with_reducible assumption))
    | split
    | fail_if_no_progress beta_reduce

theorem Dev_hsApply_kept {d : Dev} {h1 : Nat} {want : Bool} (h : Kept σ d) : Kept σ (Dev.hsApply d h1 want) := by
  unfold Dev.hsApply
  repeat' first
    | with_reducible assumption
    | (extract_lets +onlyGivenNames z; first | (refine (have hz : Kept σ z := ?_; ?_); (on_goal 1 => (unfold z; clear z)); (on_goal 2 => clear_value z)) | (refine (have hz : Kept σ z.1 := ?_; ?_); (on_goal 1 => (unfold z; clear z)); (on_goal 2 => clear_value z)) | clear_value z)
    | with_reducible refine Kept.ite ?_ ?_
    | with_reducible refine Dev_setChan_kept ?_
    | with_reducible refine Dev_hsSettle_kept ?_
    | with_reducible exact Kept.mk (Kept.eq (by with_reducible assumption))
    | split
    | fail_if_no_progress beta_reduce

theorem Dev_hsCommand_kept {d : Dev} {h1 : Nat} {want : Bool} (h : Kept σ d) : Kept σ (Dev.hsCommand d h1 want) := by
  unfold Dev.hsCommand
  repeat' first
    | with_reducible assumption
    | (extract_lets +onlyGivenNames z; first | (refine (have hz : Kept σ z := ?_; ?_); (on_goal 1 => (unfold z; clear z)); (on_goal 2 => clear_value z)) | (refine (have hz : Kept σ z.1 := ?_; ?_); (on_goal 1 => (unfold z; clear z)); (on_goal 2 => clear_value z)) | clear_value z)
    | with_reducible refine Kept.ite ?_ ?_
    | with_reducible refine Dev_setChan_kept ?_
    | with_reducible refine Dev_eventRep_kept ?_
    | with_reducible refine Dev_fldFlag_kept ?_
    | with_reducible refine Dev_hsApply_kept ?_
    | with_reducible exact Kept.mk (Kept.eq (by with_reducible assumption))
    | split
    | fail_if_no_progress beta_reduce

theorem Dev_soSettle_kept {d : Dev} {k : Nat} (h : Kept σ d) : Kept σ (Dev.soSettle d k) := by
  unfold Dev.soSettle
  repeat' first
    | with_reducible assumption
    | (extract_lets +onlyGivenNames z; first | (refine (have hz : Kept σ z := ?_; ?_); (on_goal 1 => (unfold z; clear z)); (on_goal 2 => clear_value z)) | (refine (have hz : Kept σ z.1 := ?_; ?_); (on_goal 1 => (unfold z; clear z)); (on_goal 2 => clear_value z)) | clear_value z)
    | with_reducible refine Dev_modField_kept ?_
    | with_reducible exact Kept.mk (Kept.eq (by with_reducible assumption))
    | fail_if_no_progress beta_reduce

theorem Dev_huskConfigure_kept {d : Dev} (h : Kept σ d) : Kept σ (Dev.huskConfigure d) := by
  unfold Dev.huskConfigure
  repeat' first
    | with_reducible assumption
    | (extract_lets +onlyGivenNames z; first | (refine (have hz : Kept σ z := ?_; ?_); (on_goal 1 => (unfold z; clear z)); (on_goal 2 => clear_value z)) | (refine (have hz : Kept σ z.1 := ?_; ?_); (on_goal 1 => (unfold z; clear z)); (on_goal 2 => clear_value z)) | clear_value z)
    | with_reducible refine Kept.ite ?_ ?_
    | with_reducible refine Dev_setChan_kept ?_
    | with_reducible refine Dev_modField_kept ?_
    | with_reducible refine Kept.foldl (fun _ _ _ => ?_) ?_
    | with_reducible refine Kept.foldl1 (fun _ _ _ => ?_) ?_
    | with_reducible exact Kept.mk (Kept.eq (by with_reducible assumption))
    | split
    | fail_if_no_progress beta_reduce

theorem Dev_huskGood_kept {d : Dev} (h : Kept σ d) : Kept σ (Dev.huskGood d) := by
  unfold Dev.huskGood
  repeat' first
    | with_reducible assumption
    | (extract_lets +onlyGivenNames z; first | (refine (have hz : Kept σ z := ?_; ?_); (on_goal 1 => (unfold z; clear z)); (on_goal 2 => clear_value z)) | (refine (have hz : Kept σ z.1 := ?_; ?_); (on_goal 1 => (unfold z; clear z)); (on_goal 2 => clear_value z)) | clear_value z)
    | with_reducible refine Kept.ite ?_ ?_
    | with_reducible refine Dev_modField_kept ?_
    | with_reducible refine Dev_hsSettle_kept ?_
    | with_reducible refine Dev_hsCommand_kept ?_
    | with_reducible refine Dev_soSettle_kept ?_
    | with_reducible refine Dev_huskConfigure_kept ?_
    | with_reducible refine Kept.foldl (fun _ _ _ => ?_) ?_
    | with_reducible exact Kept.mk (Kept.eq (by with_reducible assumption))
    | split
    | fail_if_no_progress beta_reduce

theorem Dev_lastFrame_kept {d : Dev} (h : Kept σ d) : Kept σ (Dev.lastFrame d) := by
  unfold Dev.lastFrame
  exact Kept.mk (Kept.eq (Dev_huskGood_kept h))


theorem Dev_watchdogTrip_kept {d : Dev} (h : Kept σ d) : Kept σ (Dev.watchdogTrip d) := by
  unfold Dev.watchdogTrip
  repeat' first
    | with_reducible assumption
    | (extract_lets +onlyGivenNames z; first | (refine (have hz : Kept σ z := ?_; ?_); (on_goal 1 => (unfold z; clear z)); (on_goal 2 => clear_value z)) | (refine (have hz : Kept σ z.1 := ?_; ?_); (on_goal 1 => (unfold z; clear z)); (on_goal 2 => clear_value z)) | clear_value z)
    | with_reducible refine Kept.ite ?_ ?_
    | with_reducible refine Dev_setChan_kept ?_
    | with_reducible refine Dev_modField_kept ?_
    | with_reducible refine Dev_hsSettle_kept ?_
    | with_reducible refine Kept.foldl (fun _ _ _ => ?_) ?_
    | with_reducible exact Kept.mk (Kept.eq (by with_reducible assumption))
    | split
    | fail_if_no_progress beta_reduce

theorem Dev_recoveryEnd_kept {d : Dev} (h : Kept σ d) : Kept σ (Dev.recoveryEnd d) := by
  unfold Dev.recoveryEnd
  repeat' first
    | with_reducible assumption
    | (extract_lets +onlyGivenNames z; first | (refine (have hz : Kept σ z := ?_; ?_); (on_goal 1 => (unfold z; clear z)); (on_goal 2 => clear_value z)) | (refine (have hz : Kept σ z.1 := ?_; ?_); (on_goal 1 => (unfold z; clear z)); (on_goal 2 => clear_value z)) | clear_value z)
    | with_reducible refine Dev_setChan_kept ?_
    | with_reducible refine Dev_modField_kept ?_
    | with_reducible refine Dev_hsSettle_kept ?_
    | with_reducible refine Dev_hsCommand_kept ?_
    | with_reducible refine Kept.foldl (fun _ _ _ => ?_) ?_
    | with_reducible exact Kept.mk (Kept.eq (by with_reducible assumption))
    | fail_if_no_progress beta_reduce

theorem Dev_hsIntegrate_kept {d : Dev} {l : Nat} {fast : List Nat} (h : Kept σ d) : Kept σ (Dev.hsIntegrate d l fast) := by
  unfold Dev.hsIntegrate
  repeat' first
    | with_reducible assumption
    | (extract_lets +onlyGivenNames z; first | (refine (have hz : Kept σ z := ?_; ?_); (on_goal 1 => (unfold z; clear z)); (on_goal 2 => clear_value z)) | (refine (have hz : Kept σ z.1 := ?_; ?_); (on_goal 1 => (unfold z; clear z)); (on_goal 2 => clear_value z)) | clear_value z)
    | with_reducible refine Dev_setChan_kept ?_
    | with_reducible refine Kept.foldl (fun _ _ _ => ?_) ?_
    | with_reducible exact Kept.mk (Kept.eq (by with_reducible assumption))
    | fail_if_no_progress beta_reduce

theorem Dev_hsLatched_kept {d : Dev} {l : Nat} (h : Kept σ d) : Kept σ (Dev.hsLatched d l) := by
  unfold Dev.hsLatched
  repeat' first
    | with_reducible assumption
    | (extract_lets +onlyGivenNames z; clear_value z)
    | with_reducible refine Dev_setChan_kept ?_
    | with_reducible exact Kept.mk (Kept.eq (by with_reducible assumption))
    | fail_if_no_progress beta_reduce

theorem Dev_olCount_kept {d : Dev} {currents : List (BitVec 16)} {l : Nat} (h : Kept σ d) : Kept σ (Dev.olCount d currents l) := by
  unfold Dev.olCount
  repeat' first
    | with_reducible assumption
    | (extract_lets +onlyGivenNames z; first | (refine (have hz : Kept σ z := ?_; ?_); (on_goal 1 => (unfold z; clear z)); (on_goal 2 => clear_value z)) | (refine (have hz : Kept σ z.1 := ?_; ?_); (on_goal 1 => (unfold z; clear z)); (on_goal 2 => clear_value z)) | clear_value z)
    | with_reducible refine Kept.ite ?_ ?_
    | with_reducible refine Dev_setChan_kept ?_
    | with_reducible exact Kept.mk (Kept.eq (by with_reducible assumption))
    | split
    | fail_if_no_progress beta_reduce

theorem Dev_huskSample_kept {d : Dev} {x : FieldSample} (h : Kept σ d) : Kept σ (Dev.huskSample d x) := by
  unfold Dev.huskSample
  repeat' first
    | with_reducible assumption
    | (extract_lets +onlyGivenNames z; first | (refine (have hz : Kept σ z := ?_; ?_); (on_goal 1 => (unfold z; clear z)); (on_goal 2 => clear_value z)) | (refine (have hz : Kept σ z.1 := ?_; ?_); (on_goal 1 => (unfold z; clear z)); (on_goal 2 => clear_value z)) | clear_value z)
    | with_reducible refine Kept.ite ?_ ?_
    | with_reducible refine Dev_modField_kept ?_
    | with_reducible refine Dev_hsIntegrate_kept ?_
    | with_reducible refine Dev_hsLatched_kept ?_
    | with_reducible refine Dev_olCount_kept ?_
    | with_reducible refine Kept.foldl (fun _ _ _ => ?_) ?_
    | with_reducible exact Kept.mk (Kept.eq (by with_reducible assumption))
    | split
    | fail_if_no_progress beta_reduce

theorem Dev_fieldInput_kept {d : Dev} {x : FieldSample} {i : Nat} (h : Kept σ d) : Kept σ (Dev.fieldInput d x i) := by
  unfold Dev.fieldInput
  repeat' first
    | with_reducible assumption
    | (extract_lets +onlyGivenNames z; first | (refine (have hz : Kept σ z := ?_; ?_); (on_goal 1 => (unfold z; clear z)); (on_goal 2 => clear_value z)) | (refine (have hz : Kept σ z.1 := ?_; ?_); (on_goal 1 => (unfold z; clear z)); (on_goal 2 => clear_value z)) | clear_value z)
    | with_reducible refine Kept.ite ?_ ?_
    | with_reducible refine Dev_eventRep_kept ?_
    | with_reducible refine Dev_devSig_kept ?_
    | with_reducible refine Dev_modField_kept ?_
    | with_reducible refine Dev_fldFlag_kept ?_
    | with_reducible exact Kept.mk (Kept.eq (by with_reducible assumption))
    | split
    | fail_if_no_progress beta_reduce

theorem Dev_fieldChannel_kept {d : Dev} {x : FieldSample} {h1 : Nat} (h : Kept σ d) : Kept σ (Dev.fieldChannel d x h1) := by
  unfold Dev.fieldChannel
  repeat' first
    | with_reducible assumption
    | (extract_lets +onlyGivenNames z; first | (refine (have hz : Kept σ z := ?_; ?_); (on_goal 1 => (unfold z; clear z)); (on_goal 2 => clear_value z)) | (refine (have hz : Kept σ z.1 := ?_; ?_); (on_goal 1 => (unfold z; clear z)); (on_goal 2 => clear_value z)) | clear_value z)
    | with_reducible refine Kept.ite ?_ ?_
    | with_reducible refine Dev_setChan_kept ?_
    | with_reducible refine Dev_event_kept ?_
    | with_reducible refine Dev_fldFlag_kept ?_
    | with_reducible exact Kept.mk (Kept.eq (by with_reducible assumption))
    | split
    | fail_if_no_progress beta_reduce

theorem Dev_showChannel_kept {d : Dev} {h1 : Nat} (h : Kept σ d) : Kept σ (Dev.showChannel d h1) := by
  unfold Dev.showChannel
  repeat' first
    | with_reducible assumption
    | (extract_lets +onlyGivenNames z; first | (refine (have hz : Kept σ z := ?_; ?_); (on_goal 1 => (unfold z; clear z)); (on_goal 2 => clear_value z)) | (refine (have hz : Kept σ z.1 := ?_; ?_); (on_goal 1 => (unfold z; clear z)); (on_goal 2 => clear_value z)) | clear_value z)
    | with_reducible refine Dev_devSig_kept ?_
    | fail_if_no_progress beta_reduce

theorem Dev_showOutput_kept {d : Dev} {x : FieldSample} {k : Nat} (h : Kept σ d) : Kept σ (Dev.showOutput d x k) := by
  unfold Dev.showOutput
  repeat' first
    | with_reducible assumption
    | (extract_lets +onlyGivenNames z; first | (refine (have hz : Kept σ z := ?_; ?_); (on_goal 1 => (unfold z; clear z)); (on_goal 2 => clear_value z)) | (refine (have hz : Kept σ z.1 := ?_; ?_); (on_goal 1 => (unfold z; clear z)); (on_goal 2 => clear_value z)) | clear_value z)
    | with_reducible refine Dev_sigStore_kept ?_
    | with_reducible refine Dev_modField_kept ?_
    | with_reducible exact Kept.mk (Kept.eq (by with_reducible assumption))
    | split
    | fail_if_no_progress beta_reduce

theorem Dev_huskReports_kept {d : Dev} (h : Kept σ d) : Kept σ (Dev.huskReports d) := by
  unfold Dev.huskReports
  repeat' first
    | with_reducible assumption
    | (extract_lets +onlyGivenNames z; first | (refine (have hz : Kept σ z := ?_; ?_); (on_goal 1 => (unfold z; clear z)); (on_goal 2 => clear_value z)) | (refine (have hz : Kept σ z.1 := ?_; ?_); (on_goal 1 => (unfold z; clear z)); (on_goal 2 => clear_value z)) | clear_value z)
    | with_reducible refine Kept.ite ?_ ?_
    | with_reducible refine Dev_event_kept ?_
    | with_reducible refine Dev_modField_kept ?_
    | with_reducible refine Dev_fldFlag_kept ?_
    | with_reducible exact Kept.mk (Kept.eq (by with_reducible assumption))
    | split
    | fail_if_no_progress beta_reduce

theorem Dev_barrierGood_kept {d : Dev} {x : FieldSample} (h : Kept σ d) : Kept σ (Dev.barrierGood d x) := by
  unfold Dev.barrierGood
  repeat' first
    | with_reducible assumption
    | (extract_lets +onlyGivenNames z; first | (refine (have hz : Kept σ z := ?_; ?_); (on_goal 1 => (unfold z; clear z)); (on_goal 2 => clear_value z)) | (refine (have hz : Kept σ z.1 := ?_; ?_); (on_goal 1 => (unfold z; clear z)); (on_goal 2 => clear_value z)) | clear_value z)
    | with_reducible refine Kept.ite ?_ ?_
    | with_reducible refine Dev_setRegFld_kept ?_
    | with_reducible refine Dev_devSig_kept ?_
    | with_reducible refine Dev_modIsland_kept ?_
    | with_reducible refine Dev_modField_kept ?_
    | with_reducible refine Dev_fieldInput_kept ?_
    | with_reducible refine Dev_fieldChannel_kept ?_
    | with_reducible refine Dev_showChannel_kept ?_
    | with_reducible refine Dev_showOutput_kept ?_
    | with_reducible refine Dev_huskReports_kept ?_
    | with_reducible refine Kept.foldl (fun _ _ _ => ?_) ?_
    | with_reducible exact Kept.mk (Kept.eq (by with_reducible assumption))
    | split
    | fail_if_no_progress beta_reduce

theorem Dev_barrierBad_kept {d : Dev} (h : Kept σ d) : Kept σ (Dev.barrierBad d) := by
  unfold Dev.barrierBad
  repeat' first
    | with_reducible assumption
    | (extract_lets +onlyGivenNames z; first | (refine (have hz : Kept σ z := ?_; ?_); (on_goal 1 => (unfold z; clear z)); (on_goal 2 => clear_value z)) | (refine (have hz : Kept σ z.1 := ?_; ?_); (on_goal 1 => (unfold z; clear z)); (on_goal 2 => clear_value z)) | clear_value z)
    | with_reducible refine Dev_incRegFld_kept ?_
    | with_reducible refine Dev_sigStore_kept ?_
    | with_reducible refine Dev_devSig_kept ?_
    | with_reducible refine Dev_modIsland_kept ?_
    | with_reducible refine Dev_modField_kept ?_
    | with_reducible refine Kept.foldl (fun _ _ _ => ?_) ?_
    | with_reducible exact Kept.mk (Kept.eq (by with_reducible assumption))
    | fail_if_no_progress beta_reduce

theorem Dev_countTrip_kept {d : Dev} {h1 : Nat} (h : Kept σ d) : Kept σ (Dev.countTrip d h1) := by
  unfold Dev.countTrip
  repeat' first
    | with_reducible assumption
    | with_reducible refine Dev_incRegFld_kept ?_

theorem Dev_latchTrip_kept {d : Dev} {h1 : Nat} (h : Kept σ d) : Kept σ (Dev.latchTrip d h1) := by
  unfold Dev.latchTrip
  repeat' first
    | with_reducible assumption
    | (extract_lets +onlyGivenNames z; first | (refine (have hz : Kept σ z := ?_; ?_); (on_goal 1 => (unfold z; clear z)); (on_goal 2 => clear_value z)) | (refine (have hz : Kept σ z.1 := ?_; ?_); (on_goal 1 => (unfold z; clear z)); (on_goal 2 => clear_value z)) | clear_value z)
    | with_reducible refine Dev_setChan_kept ?_
    | with_reducible refine Dev_eventRep_kept ?_
    | with_reducible refine Dev_fldFlag_kept ?_
    | with_reducible refine Dev_hsSettle_kept ?_
    | with_reducible exact Kept.mk (Kept.eq (by with_reducible assumption))
    | fail_if_no_progress beta_reduce


theorem Dev_hsReport_kept {d : Dev} {h1 : Nat} {openLoad feed : Bool} (h : Kept σ d) : Kept σ (Dev.hsReport d h1 openLoad feed) := by
  unfold Dev.hsReport
  repeat' first
    | with_reducible assumption
    | (extract_lets +onlyGivenNames z; first | (refine (have hz : Kept σ z := ?_; ?_); (on_goal 1 => (unfold z; clear z)); (on_goal 2 => clear_value z)) | (refine (have hz : Kept σ z.1 := ?_; ?_); (on_goal 1 => (unfold z; clear z)); (on_goal 2 => clear_value z)) | clear_value z)
    | with_reducible refine Kept.ite ?_ ?_
    | with_reducible refine Dev_setChan_kept ?_
    | with_reducible refine Dev_event_kept ?_
    | with_reducible refine Dev_fldFlag_kept ?_
    | with_reducible exact Kept.mk (Kept.eq (by with_reducible assumption))
    | split
    | fail_if_no_progress beta_reduce

theorem Dev_fldWrite_kept {d : Dev} {addr : Nat} {value : Word} (h : Kept σ d) : Kept σ (Dev.fldWrite d addr value) := by
  unfold Dev.fldWrite
  repeat' first
    | with_reducible assumption
    | (extract_lets +onlyGivenNames z; first | (refine (have hz : Kept σ z := ?_; ?_); (on_goal 1 => (unfold z; clear z)); (on_goal 2 => clear_value z)) | (refine (have hz : Kept σ z.1 := ?_; ?_); (on_goal 1 => (unfold z; clear z)); (on_goal 2 => clear_value z)) | clear_value z)
    | with_reducible refine Kept.ite ?_ ?_
    | with_reducible refine Dev_setReg_kept ?_
    | with_reducible refine Dev_event_kept ?_
    | with_reducible refine Dev_modField_kept ?_
    | with_reducible refine Dev_fldFlag_kept ?_
    | with_reducible exact Kept.mk (Kept.eq (by with_reducible assumption))
    | split
    | fail_if_no_progress beta_reduce

theorem Dev_hsZero_kept {d : Dev} (h : Kept σ d) : Kept σ (Dev.hsZero d) := by
  unfold Dev.hsZero
  repeat' first
    | with_reducible assumption
    | with_reducible refine Dev_devNat_kept ?_
    | with_reducible refine Kept.foldl (fun _ _ _ => ?_) ?_
    | fail_if_no_progress beta_reduce

theorem Dev_hsSnapshot_kept {d : Dev} (h : Kept σ d) : Kept σ (Dev.hsSnapshot d) := by
  unfold Dev.hsSnapshot
  repeat' first
    | with_reducible assumption
    | (extract_lets +onlyGivenNames z; first | (refine (have hz : Kept σ z := ?_; ?_); (on_goal 1 => (unfold z; clear z)); (on_goal 2 => clear_value z)) | (refine (have hz : Kept σ z.1 := ?_; ?_); (on_goal 1 => (unfold z; clear z)); (on_goal 2 => clear_value z)) | clear_value z)
    | with_reducible refine Dev_modField_kept ?_
    | with_reducible refine Kept.foldl (fun _ _ _ => ?_) ?_
    | with_reducible exact Kept.mk (Kept.eq (by with_reducible assumption))
    | fail_if_no_progress beta_reduce

theorem Dev_fieldOn_kept {d : Dev} (h : Kept σ d) : Kept σ (Dev.fieldOn d) := by
  unfold Dev.fieldOn
  repeat' first
    | with_reducible assumption
    | (extract_lets +onlyGivenNames z; clear_value z)
    | with_reducible refine Dev_modField_kept ?_
    | with_reducible exact Kept.mk (Kept.eq (by with_reducible assumption))
    | fail_if_no_progress beta_reduce

theorem Dev_fieldOff_kept {d : Dev} (h : Kept σ d) : Kept σ (Dev.fieldOff d) := by
  unfold Dev.fieldOff
  repeat' first
    | with_reducible assumption
    | (extract_lets +onlyGivenNames z; clear_value z)
    | with_reducible refine Dev_modField_kept ?_
    | with_reducible exact Kept.mk (Kept.eq (by with_reducible assumption))
    | fail_if_no_progress beta_reduce

theorem Dev_fieldRejoin_kept {d : Dev} (h : Kept σ d) : Kept σ (Dev.fieldRejoin d) := by
  unfold Dev.fieldRejoin
  repeat' first
    | with_reducible assumption
    | (extract_lets +onlyGivenNames z; first | (refine (have hz : Kept σ z := ?_; ?_); (on_goal 1 => (unfold z; clear z)); (on_goal 2 => clear_value z)) | (refine (have hz : Kept σ z.1 := ?_; ?_); (on_goal 1 => (unfold z; clear z)); (on_goal 2 => clear_value z)) | clear_value z)
    | with_reducible refine Kept.ite ?_ ?_
    | with_reducible refine Dev_event_kept ?_
    | with_reducible refine Dev_modField_kept ?_
    | with_reducible refine Dev_fldFlag_kept ?_
    | with_reducible refine Dev_huskConfigure_kept ?_
    | with_reducible refine Dev_recoveryEnd_kept ?_
    | with_reducible exact Kept.mk (Kept.eq (by with_reducible assumption))
    | split
    | fail_if_no_progress beta_reduce

theorem Dev_fieldRoast_kept {d : Dev} {hold : Bool} (h : Kept σ d) : Kept σ (Dev.fieldRoast d hold) := by
  unfold Dev.fieldRoast
  repeat' first
    | with_reducible assumption
    | (extract_lets +onlyGivenNames z; first | (refine (have hz : Kept σ z := ?_; ?_); (on_goal 1 => (unfold z; clear z)); (on_goal 2 => clear_value z)) | (refine (have hz : Kept σ z.1 := ?_; ?_); (on_goal 1 => (unfold z; clear z)); (on_goal 2 => clear_value z)) | clear_value z)
    | with_reducible refine Dev_modField_kept ?_
    | with_reducible refine Dev_hsSettle_kept ?_
    | with_reducible refine Dev_soSettle_kept ?_
    | with_reducible refine Kept.foldl (fun _ _ _ => ?_) ?_
    | with_reducible exact Kept.mk (Kept.eq (by with_reducible assumption))
    | fail_if_no_progress beta_reduce

theorem Dev_fieldRunEntry_kept {d : Dev} (h : Kept σ d) : Kept σ (Dev.fieldRunEntry d) := by
  unfold Dev.fieldRunEntry
  repeat' first
    | with_reducible assumption
    | (extract_lets +onlyGivenNames z; clear_value z)
    | with_reducible refine Dev_modField_kept ?_
    | with_reducible exact Kept.mk (Kept.eq (by with_reducible assumption))
    | fail_if_no_progress beta_reduce

theorem Dev_modPlacer_kept {d : Dev} {f : Placer → Placer} (h : Kept σ d) : Kept σ (Dev.modPlacer d f) := by
  unfold Dev.modPlacer
  repeat' first
    | with_reducible assumption
    | (extract_lets +onlyGivenNames z; clear_value z)
    | with_reducible exact Kept.mk (Kept.eq (by with_reducible assumption))
    | fail_if_no_progress beta_reduce

theorem Dev_showDoor_kept {d : Dev} {im : Image} {x : Nat} {y : DoorPl} {migs : Nat} {frame : Word} (h : Kept σ d) : Kept σ (Dev.showDoor d im x y migs frame) := by
  unfold Dev.showDoor
  repeat' first
    | with_reducible assumption
    | (extract_lets +onlyGivenNames z; first | (refine (have hz : Kept σ z := ?_; ?_); (on_goal 1 => (unfold z; clear z)); (on_goal 2 => clear_value z)) | (refine (have hz : Kept σ z.1 := ?_; ?_); (on_goal 1 => (unfold z; clear z)); (on_goal 2 => clear_value z)) | clear_value z)
    | with_reducible refine Dev_devSig_kept ?_
    | with_reducible refine Dev_devNat_kept ?_
    | with_reducible refine Kept.foldl (fun _ _ _ => ?_) ?_
    | with_reducible refine Kept.foldl1 (fun _ _ _ => ?_) ?_
    | split
    | fail_if_no_progress beta_reduce

theorem Dev_placeImage_kept {d : Dev} (h : Kept σ d) : Kept σ (Dev.placeImage d).1 := by
  unfold Dev.placeImage
  repeat' first
    | with_reducible assumption
    | (extract_lets +onlyGivenNames z; first | (refine (have hz : Kept σ z := ?_; ?_); (on_goal 1 => (unfold z; clear z)); (on_goal 2 => clear_value z)) | (refine (have hz : Kept σ z.1 := ?_; ?_); (on_goal 1 => (unfold z; clear z)); (on_goal 2 => clear_value z)) | clear_value z)
    | with_reducible refine Kept.ite ?_ ?_
    | with_reducible refine Kept.ite1 ?_ ?_
    | with_reducible refine Dev_setReg_kept ?_
    | with_reducible refine Dev_event_kept ?_
    | with_reducible refine Dev_modPlacer_kept ?_
    | with_reducible refine Dev_showDoor_kept ?_
    | with_reducible refine Kept.foldl (fun _ _ _ => ?_) ?_
    | with_reducible refine Kept.foldl1 (fun _ _ _ => ?_) ?_
    | with_reducible exact Kept.mk (Kept.eq (by with_reducible assumption))
    | (with_reducible refine Kept.pair ?_; first | with_reducible assumption | with_reducible refine Dev_setReg_kept ?_ | with_reducible refine Dev_event_kept ?_ | with_reducible refine Dev_modPlacer_kept ?_ | with_reducible refine Dev_showDoor_kept ?_ | with_reducible exact Kept.mk (Kept.eq (by with_reducible assumption)))
    | split
    | fail_if_no_progress beta_reduce
theorem Dev_placeImage_keq {d : Dev} {z : Dev} {w : Nat} (e : Dev.placeImage d = (z, w)) (h : Kept σ d) : Kept σ z := by
  have := Dev_placeImage_kept (σ := σ) (d := d) h; rw [e] at this; exact this

theorem Dev_loadDoor_kept {d : Dev} {im : Image} {x : Nat} {y : DoorPl} {restart : Bool} (h : Kept σ d) : Kept σ (Dev.loadDoor d im x y restart) := by
  unfold Dev.loadDoor
  repeat' first
    | with_reducible assumption
    | (extract_lets +onlyGivenNames z; first | (refine (have hz : Kept σ z := ?_; ?_); (on_goal 1 => (unfold z; clear z)); (on_goal 2 => clear_value z)) | (refine (have hz : Kept σ z.1 := ?_; ?_); (on_goal 1 => (unfold z; clear z)); (on_goal 2 => clear_value z)) | clear_value z)
    | with_reducible refine Kept.ite ?_ ?_
    | with_reducible refine Dev_setTask_kept ?_
    | with_reducible refine Dev_primeTask_kept ?_
    | with_reducible refine Kept.foldl (fun _ _ _ => ?_) ?_
    | with_reducible refine Kept.foldl1 (fun _ _ _ => ?_) ?_
    | with_reducible exact Kept.mk (Kept.eq (by with_reducible assumption))
    | split
    | fail_if_no_progress beta_reduce

theorem Dev_loadSystem_kept {d : Dev} {im : Image} (h : Kept σ d) : Kept σ (Dev.loadSystem d im) := by
  unfold Dev.loadSystem
  repeat' first
    | with_reducible assumption
    | with_reducible refine Dev_setTask_kept ?_
    | with_reducible refine Dev_primeTask_kept ?_
    | with_reducible refine Kept.foldl (fun _ _ _ => ?_) ?_
    | with_reducible refine Kept.foldl1 (fun _ _ _ => ?_) ?_
    | fail_if_no_progress beta_reduce

theorem Dev_loadImage_kept {d : Dev} (h : Kept σ d) : Kept σ (Dev.loadImage d) := by
  unfold Dev.loadImage
  repeat' first
    | with_reducible assumption
    | (extract_lets +onlyGivenNames z; first | (refine (have hz : Kept σ z := ?_; ?_); (on_goal 1 => (unfold z; clear z)); (on_goal 2 => clear_value z)) | (refine (have hz : Kept σ z.1 := ?_; ?_); (on_goal 1 => (unfold z; clear z)); (on_goal 2 => clear_value z)) | clear_value z)
    | with_reducible refine Dev_sigInit_kept ?_
    | with_reducible refine Dev_loadDoor_kept ?_
    | with_reducible refine Dev_loadSystem_kept ?_
    | with_reducible refine Kept.foldl (fun _ _ _ => ?_) ?_
    | with_reducible refine Kept.foldl1 (fun _ _ _ => ?_) ?_
    | with_reducible exact Kept.mk (Kept.eq (by with_reducible assumption))
    | split
    | fail_if_no_progress beta_reduce

theorem Dev_restartDoor_kept {d : Dev} {x : Nat} (h : Kept σ d) : Kept σ (Dev.restartDoor d x) := by
  unfold Dev.restartDoor
  repeat' first
    | with_reducible assumption
    | (extract_lets +onlyGivenNames z; first | (refine (have hz : Kept σ z := ?_; ?_); (on_goal 1 => (unfold z; clear z)); (on_goal 2 => clear_value z)) | (refine (have hz : Kept σ z.1 := ?_; ?_); (on_goal 1 => (unfold z; clear z)); (on_goal 2 => clear_value z)) | clear_value z)
    | with_reducible refine Kept.ite ?_ ?_
    | with_reducible refine Dev_setCore_kept ?_
    | with_reducible refine Dev_sigInit_kept ?_
    | with_reducible refine Dev_loadDoor_kept ?_
    | with_reducible refine Kept.foldl (fun _ _ _ => ?_) ?_
    | with_reducible refine Kept.foldl1 (fun _ _ _ => ?_) ?_
    | with_reducible exact Kept.mk (Kept.eq (by with_reducible assumption))
    | split
    | fail_if_no_progress beta_reduce

theorem Dev_restartCheck_kept {d : Dev} {s : Nat} {v : Word} (h : Kept σ d) : Kept σ (Dev.restartCheck d s v) := by
  unfold Dev.restartCheck
  repeat' first
    | with_reducible assumption
    | (extract_lets +onlyGivenNames z; first | (refine (have hz : Kept σ z := ?_; ?_); (on_goal 1 => (unfold z; clear z)); (on_goal 2 => clear_value z)) | (refine (have hz : Kept σ z.1 := ?_; ?_); (on_goal 1 => (unfold z; clear z)); (on_goal 2 => clear_value z)) | (refine (have hz : ∀ x, Kept σ x → Kept σ (z x) := ?_; ?_); (on_goal 1 => (intro _ _; unfold z; clear z)); (on_goal 2 => clear_value z)) | (refine (have hz : ∀ x, Kept σ x.1 → Kept σ (z x) := ?_; ?_); (on_goal 1 => (intro _ _; unfold z; clear z)); (on_goal 2 => clear_value z)) | (refine (have hz : ∀ a, Kept σ (z a) := ?_; ?_); (on_goal 1 => (intro _; unfold z; clear z)); (on_goal 2 => clear_value z)) | (refine (have hz : ∀ x a, Kept σ x → Kept σ (z x a) := ?_; ?_); (on_goal 1 => (intro _ _ _; unfold z; clear z)); (on_goal 2 => clear_value z)) | clear_value z)
    | with_reducible refine Kept.ite ?_ ?_
    | with_reducible refine Dev_setReg_kept ?_
    | with_reducible refine Dev_restartDoor_kept ?_
    | split
    | with_reducible apply_assumption
    | fail_if_no_progress beta_reduce

theorem Dev_requestRestart_kept {d : Dev} {sheaf : Nat} {value : Word} (h : Kept σ d) : Kept σ (Dev.requestRestart d sheaf value) := by
  unfold Dev.requestRestart
  repeat' first
    | with_reducible assumption
    | (extract_lets +onlyGivenNames z; clear_value z)
    | with_reducible exact Kept.mk (Kept.eq (by with_reducible assumption))
    | fail_if_no_progress beta_reduce

theorem Dev_beginMigration_kept {d : Dev} {im : Image} {x tgt : Nat} {cmd : Bool} (h : Kept σ d) : Kept σ (Dev.beginMigration d im x tgt cmd) := by
  unfold Dev.beginMigration
  repeat' first
    | with_reducible assumption
    | (extract_lets +onlyGivenNames z; first | (refine (have hz : Kept σ z := ?_; ?_); (on_goal 1 => (unfold z; clear z)); (on_goal 2 => clear_value z)) | (refine (have hz : Kept σ z.1 := ?_; ?_); (on_goal 1 => (unfold z; clear z)); (on_goal 2 => clear_value z)) | clear_value z)
    | with_reducible refine Dev_modPlacer_kept ?_
    | with_reducible exact Kept.mk (Kept.eq (by with_reducible assumption))
    | split
    | fail_if_no_progress beta_reduce

theorem Dev_decideMigration_kept {d : Dev} {s : Nat} (h : Kept σ d) : Kept σ (Dev.decideMigration d s) := by
  unfold Dev.decideMigration
  repeat' first
    | with_reducible assumption
    | (extract_lets +onlyGivenNames z; first | (refine (have hz : Kept σ z := ?_; ?_); (on_goal 1 => (unfold z; clear z)); (on_goal 2 => clear_value z)) | (refine (have hz : Kept σ z.1 := ?_; ?_); (on_goal 1 => (unfold z; clear z)); (on_goal 2 => clear_value z)) | clear_value z)
    | with_reducible refine Kept.ite ?_ ?_
    | with_reducible refine Dev_orReg_kept ?_
    | with_reducible refine Dev_event_kept ?_
    | with_reducible refine Dev_modPlacer_kept ?_
    | with_reducible refine Dev_beginMigration_kept ?_
    | with_reducible exact Kept.mk (Kept.eq (by with_reducible assumption))
    | split
    | fail_if_no_progress beta_reduce

theorem Dev_migrationDecision_kept {d : Dev} (h : Kept σ d) : Kept σ (Dev.migrationDecision d) := by
  unfold Dev.migrationDecision
  repeat' first
    | with_reducible assumption
    | (extract_lets +onlyGivenNames z; first | (refine (have hz : Kept σ z := ?_; ?_); (on_goal 1 => (unfold z; clear z)); (on_goal 2 => clear_value z)) | (refine (have hz : Kept σ z.1 := ?_; ?_); (on_goal 1 => (unfold z; clear z)); (on_goal 2 => clear_value z)) | clear_value z)
    | with_reducible refine Kept.ite ?_ ?_
    | with_reducible refine Dev_run_kept ?_
    | with_reducible refine Dev_modPlacer_kept ?_
    | with_reducible refine Dev_decideMigration_kept ?_
    | with_reducible refine Kept.foldl (fun _ _ _ => ?_) ?_
    | with_reducible exact Kept.mk (Kept.eq (by with_reducible assumption))
    | split
    | fail_if_no_progress beta_reduce

theorem Dev_migrationTakeup_kept {d : Dev} (h : Kept σ d) : Kept σ (Dev.migrationTakeup d) := by
  unfold Dev.migrationTakeup
  repeat' first
    | with_reducible assumption
    | (extract_lets +onlyGivenNames z; first | (refine (have hz : Kept σ z := ?_; ?_); (on_goal 1 => (unfold z; clear z)); (on_goal 2 => clear_value z)) | (refine (have hz : Kept σ z.1 := ?_; ?_); (on_goal 1 => (unfold z; clear z)); (on_goal 2 => clear_value z)) | clear_value z)
    | with_reducible refine Kept.ite ?_ ?_
    | with_reducible refine Dev_modPlacer_kept ?_
    | with_reducible refine Dev_beginMigration_kept ?_
    | with_reducible exact Kept.mk (Kept.eq (by with_reducible assumption))
    | split
    | fail_if_no_progress beta_reduce

theorem Dev_migrationRecord_kept {d : Dev} {im : Image} {m : Mig} {y : DoorPl} {code : Nat} {crc : Word} (h : Kept σ d) : Kept σ (Dev.migrationRecord d im m y code crc) := by
  unfold Dev.migrationRecord
  repeat' first
    | with_reducible assumption
    | (extract_lets +onlyGivenNames z; first | (refine (have hz : Kept σ z := ?_; ?_); (on_goal 1 => (unfold z; clear z)); (on_goal 2 => clear_value z)) | (refine (have hz : Kept σ z.1 := ?_; ?_); (on_goal 1 => (unfold z; clear z)); (on_goal 2 => clear_value z)) | clear_value z)
    | with_reducible refine Kept.ite ?_ ?_
    | with_reducible refine Dev_event_kept ?_
    | split
    | fail_if_no_progress beta_reduce

theorem Dev_closeMigration_kept {d : Dev} {m : Mig} {src code : Nat} (h : Kept σ d) : Kept σ (Dev.closeMigration d m src code) := by
  unfold Dev.closeMigration
  repeat' first
    | with_reducible assumption
    | (extract_lets +onlyGivenNames z; first | (refine (have hz : Kept σ z := ?_; ?_); (on_goal 1 => (unfold z; clear z)); (on_goal 2 => clear_value z)) | (refine (have hz : Kept σ z.1 := ?_; ?_); (on_goal 1 => (unfold z; clear z)); (on_goal 2 => clear_value z)) | clear_value z)
    | with_reducible refine Kept.ite ?_ ?_
    | with_reducible refine Dev_incReg_kept ?_
    | with_reducible refine Dev_modPlacer_kept ?_
    | with_reducible exact Kept.mk (Kept.eq (by with_reducible assumption))
    | split
    | fail_if_no_progress beta_reduce

theorem Dev_abortMigration_kept {d : Dev} {im : Image} {m : Mig} {y : DoorPl} {code : Nat} {crc : Word} (h : Kept σ d) : Kept σ (Dev.abortMigration d im m y code crc) := by
  unfold Dev.abortMigration
  repeat' first
    | with_reducible assumption
    | with_reducible refine Dev_migrationRecord_kept ?_
    | with_reducible refine Dev_closeMigration_kept ?_

theorem Dev_moveTask_kept {d : Dev} {src t dst t' inst : Nat} (h : Kept σ d) : Kept σ (Dev.moveTask d src t dst t' inst) := by
  unfold Dev.moveTask
  repeat' first
    | with_reducible assumption
    | (extract_lets +onlyGivenNames z; first | (refine (have hz : Kept σ z := ?_; ?_); (on_goal 1 => (unfold z; clear z)); (on_goal 2 => clear_value z)) | (refine (have hz : Kept σ z.1 := ?_; ?_); (on_goal 1 => (unfold z; clear z)); (on_goal 2 => clear_value z)) | clear_value z)
    | with_reducible refine Kept.ite ?_ ?_
    | with_reducible refine Dev_setCore_kept ?_
    | with_reducible exact Kept.mk (Kept.eq (by with_reducible assumption))
    | split
    | fail_if_no_progress beta_reduce

theorem Dev_switchDoor_kept {d : Dev} {im : Image} {m : Mig} {y : DoorPl} (h : Kept σ d) : Kept σ (Dev.switchDoor d im m y) := by
  unfold Dev.switchDoor
  repeat' first
    | with_reducible assumption
    | (extract_lets +onlyGivenNames z; first | (refine (have hz : Kept σ z := ?_; ?_); (on_goal 1 => (unfold z; clear z)); (on_goal 2 => clear_value z)) | (refine (have hz : Kept σ z.1 := ?_; ?_); (on_goal 1 => (unfold z; clear z)); (on_goal 2 => clear_value z)) | clear_value z)
    | with_reducible refine Kept.ite ?_ ?_
    | with_reducible refine Dev_setReg_kept ?_
    | with_reducible refine Dev_modPlacer_kept ?_
    | with_reducible refine Dev_showDoor_kept ?_
    | with_reducible refine Dev_moveTask_kept ?_
    | with_reducible refine Kept.foldl (fun _ _ _ => ?_) ?_
    | with_reducible refine Kept.foldl1 (fun _ _ _ => ?_) ?_
    | with_reducible exact Kept.mk (Kept.eq (by with_reducible assumption))
    | split
    | fail_if_no_progress beta_reduce

theorem Dev_dropMigration_kept {d : Dev} (h : Kept σ d) : Kept σ (Dev.dropMigration d) := by
  unfold Dev.dropMigration
  repeat' first
    | with_reducible assumption
    | (extract_lets +onlyGivenNames z; clear_value z)
    | with_reducible refine Kept.ite ?_ ?_
    | with_reducible refine Dev_modPlacer_kept ?_
    | with_reducible refine Dev_abortMigration_kept ?_
    | with_reducible exact Kept.mk (Kept.eq (by with_reducible assumption))
    | split
    | fail_if_no_progress beta_reduce

theorem Dev_placerRunEntry_kept {d : Dev} (h : Kept σ d) : Kept σ (Dev.placerRunEntry d) := by
  unfold Dev.placerRunEntry
  repeat' first
    | with_reducible assumption
    | (extract_lets +onlyGivenNames z; first | (refine (have hz : Kept σ z := ?_; ?_); (on_goal 1 => (unfold z; clear z)); (on_goal 2 => clear_value z)) | (refine (have hz : Kept σ z.1 := ?_; ?_); (on_goal 1 => (unfold z; clear z)); (on_goal 2 => clear_value z)) | clear_value z)
    | with_reducible refine Dev_setReg_kept ?_
    | with_reducible refine Dev_setRegFld_kept ?_
    | with_reducible refine Dev_modPlacer_kept ?_
    | with_reducible refine Kept.foldl (fun _ _ _ => ?_) ?_
    | with_reducible exact Kept.mk (Kept.eq (by with_reducible assumption))
    | fail_if_no_progress beta_reduce

theorem Dev_modPair_kept {d : Dev} {f : PairUnit → PairUnit} (h : Kept σ d) : Kept σ (Dev.modPair d f) := by
  unfold Dev.modPair
  repeat' first
    | with_reducible assumption
    | (extract_lets +onlyGivenNames z; clear_value z)
    | with_reducible exact Kept.mk (Kept.eq (by with_reducible assumption))
    | fail_if_no_progress beta_reduce

theorem Dev_pairEvent_kept {d : Dev} {code : Nat} {flag : Word} (h : Kept σ d) : Kept σ (Dev.pairEvent d code flag) := by
  unfold Dev.pairEvent
  repeat' first
    | with_reducible assumption
    | with_reducible refine Dev_setRegFld_kept ?_
    | with_reducible refine Dev_orReg_kept ?_
    | with_reducible refine Dev_event_kept ?_

theorem Dev_sendPair_kept {d : Dev} (h : Kept σ d) : Kept σ (Dev.sendPair d) := by
  unfold Dev.sendPair
  repeat' first
    | with_reducible assumption
    | (extract_lets +onlyGivenNames z; first | (refine (have hz : Kept σ z := ?_; ?_); (on_goal 1 => (unfold z; clear z)); (on_goal 2 => clear_value z)) | (refine (have hz : Kept σ z.1 := ?_; ?_); (on_goal 1 => (unfold z; clear z)); (on_goal 2 => clear_value z)) | clear_value z)
    | with_reducible refine Kept.ite ?_ ?_
    | with_reducible refine Dev_countStore_kept ?_
    | with_reducible refine Dev_modPair_kept ?_
    | with_reducible refine Kept.foldl (fun _ _ _ => ?_) ?_
    | with_reducible exact Kept.mk (Kept.eq (by with_reducible assumption))
    | split
    | fail_if_no_progress beta_reduce

theorem Dev_pairMismatch_kept {d : Dev} (h : Kept σ d) : Kept σ (Dev.pairMismatch d) := by
  unfold Dev.pairMismatch
  repeat' first
    | with_reducible assumption
    | (extract_lets +onlyGivenNames z; first | (refine (have hz : Kept σ z := ?_; ?_); (on_goal 1 => (unfold z; clear z)); (on_goal 2 => clear_value z)) | (refine (have hz : Kept σ z.1 := ?_; ?_); (on_goal 1 => (unfold z; clear z)); (on_goal 2 => clear_value z)) | clear_value z)
    | with_reducible refine Kept.ite ?_ ?_
    | with_reducible refine Dev_modPair_kept ?_
    | with_reducible refine Dev_pairEvent_kept ?_
    | with_reducible exact Kept.mk (Kept.eq (by with_reducible assumption))
    | split
    | fail_if_no_progress beta_reduce

theorem Dev_latchMirror_kept {d : Dev} {b : List Byte} (h : Kept σ d) : Kept σ (Dev.latchMirror d b) := by
  unfold Dev.latchMirror
  repeat' first
    | with_reducible assumption
    | (extract_lets +onlyGivenNames z; first | (refine (have hz : Kept σ z := ?_; ?_); (on_goal 1 => (unfold z; clear z)); (on_goal 2 => clear_value z)) | (refine (have hz : Kept σ z.1 := ?_; ?_); (on_goal 1 => (unfold z; clear z)); (on_goal 2 => clear_value z)) | clear_value z)
    | with_reducible refine Dev_sigMirrored_kept ?_
    | with_reducible refine Dev_modPair_kept ?_
    | with_reducible refine Dev_pairMismatch_kept ?_
    | with_reducible refine Kept.foldl (fun _ _ _ => ?_) ?_
    | with_reducible exact Kept.mk (Kept.eq (by with_reducible assumption))
    | split
    | fail_if_no_progress beta_reduce

theorem Dev_latchStuck_kept {d : Dev} {l : Nat} (h : Kept σ d) : Kept σ (Dev.latchStuck d l) := by
  unfold Dev.latchStuck
  repeat' first
    | with_reducible assumption
    | (extract_lets +onlyGivenNames z; first | (refine (have hz : Kept σ z := ?_; ?_); (on_goal 1 => (unfold z; clear z)); (on_goal 2 => clear_value z)) | (refine (have hz : Kept σ z.1 := ?_; ?_); (on_goal 1 => (unfold z; clear z)); (on_goal 2 => clear_value z)) | clear_value z)
    | with_reducible refine Dev_orReg_kept ?_
    | with_reducible refine Dev_event_kept ?_
    | with_reducible refine Dev_modIsland_kept ?_
    | with_reducible refine Dev_modPair_kept ?_
    | with_reducible refine Dev_pairEvent_kept ?_
    | with_reducible exact Kept.mk (Kept.eq (by with_reducible assumption))
    | fail_if_no_progress beta_reduce

theorem Dev_partnerStuck_kept {d : Dev} (h : Kept σ d) : Kept σ (Dev.partnerStuck d) := by
  unfold Dev.partnerStuck
  split
  · exact Kept.ite h (Dev_latchStuck_kept h)
  · exact Dev_latchStuck_kept (d := { d with sys := { d.sys with free := d.sys.free + 1 } }) h


theorem Dev_latchStatusFrame_kept {d : Dev} {b : List Byte} (h : Kept σ d) : Kept σ (Dev.latchStatusFrame d b) := by
  unfold Dev.latchStatusFrame
  repeat' first
    | with_reducible assumption
    | (extract_lets +onlyGivenNames z; first | (refine (have hz : Kept σ z := ?_; ?_); (on_goal 1 => (unfold z; clear z)); (on_goal 2 => clear_value z)) | (refine (have hz : Kept σ z.1 := ?_; ?_); (on_goal 1 => (unfold z; clear z)); (on_goal 2 => clear_value z)) | clear_value z)
    | with_reducible refine Kept.ite ?_ ?_
    | with_reducible refine Dev_modPair_kept ?_
    | with_reducible refine Dev_pairMismatch_kept ?_
    | with_reducible refine Dev_partnerStuck_kept ?_
    | with_reducible exact Kept.mk (Kept.eq (by with_reducible assumption))
    | split
    | fail_if_no_progress beta_reduce

theorem Dev_loopsOff_kept {d : Dev} (h : Kept σ d) : Kept σ (Dev.loopsOff d) := by
  unfold Dev.loopsOff
  repeat' first
    | with_reducible assumption
    | (extract_lets +onlyGivenNames z; clear_value z)
    | with_reducible refine Dev_modIsland_kept ?_
    | with_reducible exact Kept.mk (Kept.eq (by with_reducible assumption))
    | fail_if_no_progress beta_reduce

theorem Dev_stopSheaves_kept {d : Dev} (h : Kept σ d) : Kept σ (Dev.stopSheaves d) := by
  unfold Dev.stopSheaves
  repeat' first
    | with_reducible assumption
    | (extract_lets +onlyGivenNames z; clear_value z)
    | with_reducible refine Kept.ite ?_ ?_
    | with_reducible exact Kept.mk (Kept.eq (by with_reducible assumption))
    | split
    | fail_if_no_progress beta_reduce

theorem Dev_enterStandby_kept {d : Dev} (h : Kept σ d) : Kept σ (Dev.enterStandby d) := by
  unfold Dev.enterStandby
  repeat' first
    | with_reducible assumption
    | (extract_lets +onlyGivenNames z; first | (refine (have hz : Kept σ z := ?_; ?_); (on_goal 1 => (unfold z; clear z)); (on_goal 2 => clear_value z)) | (refine (have hz : Kept σ z.1 := ?_; ?_); (on_goal 1 => (unfold z; clear z)); (on_goal 2 => clear_value z)) | clear_value z)
    | with_reducible refine Dev_releaseDue_kept ?_
    | with_reducible refine Dev_axisOff_kept ?_
    | with_reducible refine Dev_modPort_kept ?_
    | with_reducible refine Dev_portDown_kept ?_
    | with_reducible refine Dev_modPair_kept ?_
    | with_reducible refine Dev_loopsOff_kept ?_
    | with_reducible refine Dev_stopSheaves_kept ?_
    | with_reducible refine Kept.foldl (fun _ _ _ => ?_) ?_
    | with_reducible exact Kept.mk (Kept.eq (by with_reducible assumption))
    | fail_if_no_progress beta_reduce


theorem Dev_adoptAxis_kept {d : Dev} {n : Nat} (h : Kept σ d) : Kept σ (Dev.adoptAxis d n) := by
  unfold Dev.adoptAxis
  repeat' first
    | with_reducible assumption
    | (extract_lets +onlyGivenNames z; first | (refine (have hz : Kept σ z := ?_; ?_); (on_goal 1 => (unfold z; clear z)); (on_goal 2 => clear_value z)) | (refine (have hz : Kept σ z.1 := ?_; ?_); (on_goal 1 => (unfold z; clear z)); (on_goal 2 => clear_value z)) | clear_value z)
    | with_reducible refine Kept.ite ?_ ?_
    | with_reducible refine Dev_setAxis_kept ?_
    | with_reducible refine Dev_setSafe_kept ?_
    | with_reducible refine Dev_devSig_kept ?_
    | with_reducible refine Dev_showState_kept ?_
    | with_reducible refine Dev_showSafe_kept ?_
    | with_reducible exact Kept.mk (Kept.eq (by with_reducible assumption))
    | split
    | fail_if_no_progress beta_reduce

theorem Dev_takeRole_kept {d : Dev} {swap : Bool} (h : Kept σ d) : Kept σ (Dev.takeRole d swap) := by
  unfold Dev.takeRole
  repeat' first
    | with_reducible assumption
    | (extract_lets +onlyGivenNames z; first | (refine (have hz : Kept σ z := ?_; ?_); (on_goal 1 => (unfold z; clear z)); (on_goal 2 => clear_value z)) | (refine (have hz : Kept σ z.1 := ?_; ?_); (on_goal 1 => (unfold z; clear z)); (on_goal 2 => clear_value z)) | clear_value z)
    | with_reducible refine Kept.ite ?_ ?_
    | with_reducible refine Dev_setReg_kept ?_
    | with_reducible refine Dev_incRegFld_kept ?_
    | with_reducible refine Dev_run_kept ?_
    | with_reducible refine Dev_countStore_kept ?_
    | with_reducible refine Dev_sigHome_kept ?_
    | with_reducible refine Dev_beginLink_kept ?_
    | with_reducible refine Dev_modIsland_kept ?_
    | with_reducible refine Dev_restartDoor_kept ?_
    | with_reducible refine Dev_modPair_kept ?_
    | with_reducible refine Dev_pairEvent_kept ?_
    | with_reducible refine Dev_adoptAxis_kept ?_
    | with_reducible refine Kept.foldl (fun _ _ _ => ?_) ?_
    | with_reducible refine Kept.foldl1 (fun _ _ _ => ?_) ?_
    | with_reducible exact Kept.mk (Kept.eq (by with_reducible assumption))
    | split
    | fail_if_no_progress beta_reduce

theorem Dev_pairCmdWrite_kept {d : Dev} {value : Word} (h : Kept σ d) : Kept σ (Dev.pairCmdWrite d value) := by
  unfold Dev.pairCmdWrite
  repeat' first
    | with_reducible assumption
    | (extract_lets +onlyGivenNames z; clear_value z)
    | with_reducible refine Kept.ite ?_ ?_
    | with_reducible refine Dev_modPair_kept ?_
    | with_reducible exact Kept.mk (Kept.eq (by with_reducible assumption))
    | split
    | fail_if_no_progress beta_reduce

theorem Dev_swapCheck_kept {d : Dev} (h : Kept σ d) : Kept σ (Dev.swapCheck d) := by
  unfold Dev.swapCheck
  repeat' first
    | with_reducible assumption
    | (extract_lets +onlyGivenNames z; first | (refine (have hz : Kept σ z := ?_; ?_); (on_goal 1 => (unfold z; clear z)); (on_goal 2 => clear_value z)) | (refine (have hz : Kept σ z.1 := ?_; ?_); (on_goal 1 => (unfold z; clear z)); (on_goal 2 => clear_value z)) | clear_value z)
    | with_reducible refine Kept.ite ?_ ?_
    | with_reducible refine Dev_setReg_kept ?_
    | with_reducible refine Dev_setRegFld_kept ?_
    | with_reducible refine Dev_modPair_kept ?_
    | with_reducible exact Kept.mk (Kept.eq (by with_reducible assumption))
    | split
    | fail_if_no_progress beta_reduce

theorem Dev_pairCfgWrite_kept {d : Dev} {v : Word} (h : Kept σ d) : Kept σ (Dev.pairCfgWrite d v) := by
  unfold Dev.pairCfgWrite
  repeat' first
    | with_reducible assumption
    | with_reducible refine Kept.ite ?_ ?_
    | with_reducible refine Dev_setReg_kept ?_
    | split

theorem Dev_pairRules_kept {d : Dev} {roleIn : Bool} (h : Kept σ d) : Kept σ (Dev.pairRules d roleIn) := by
  unfold Dev.pairRules
  repeat' first
    | with_reducible assumption
    | (extract_lets +onlyGivenNames z; first | (refine (have hz : Kept σ z := ?_; ?_); (on_goal 1 => (unfold z; clear z)); (on_goal 2 => clear_value z)) | (refine (have hz : Kept σ z.1 := ?_; ?_); (on_goal 1 => (unfold z; clear z)); (on_goal 2 => clear_value z)) | clear_value z)
    | with_reducible refine Kept.ite ?_ ?_
    | with_reducible refine Dev_incReg_kept ?_
    | with_reducible refine Dev_releaseDue_kept ?_
    | with_reducible refine Dev_modPort_kept ?_
    | with_reducible refine Dev_beginLink_kept ?_
    | with_reducible refine Dev_modPair_kept ?_
    | with_reducible refine Dev_pairEvent_kept ?_
    | with_reducible refine Dev_latchMirror_kept ?_
    | with_reducible refine Dev_latchStatusFrame_kept ?_
    | with_reducible refine Dev_enterStandby_kept ?_
    | with_reducible refine Kept.foldl (fun _ _ _ => ?_) ?_
    | with_reducible exact Kept.mk (Kept.eq (by with_reducible assumption))
    | split
    | fail_if_no_progress beta_reduce

theorem Dev_pairBoundary_kept {d : Dev} {roleIn : Bool} (h : Kept σ d) : Kept σ (Dev.pairBoundary d roleIn) := by
  unfold Dev.pairBoundary
  repeat' first
    | with_reducible assumption
    | with_reducible refine Dev_swapCheck_kept ?_
    | with_reducible refine Dev_pairRules_kept ?_

theorem Dev_modUpd_kept {d : Dev} {f : Update → Update} (h : Kept σ d) : Kept σ (Dev.modUpd d f) := by
  unfold Dev.modUpd
  repeat' first
    | with_reducible assumption
    | (extract_lets +onlyGivenNames z; clear_value z)
    | with_reducible exact Kept.mk (Kept.eq (by with_reducible assumption))
    | fail_if_no_progress beta_reduce

theorem Dev_updCode_kept {d : Dev} {code : Nat} (h : Kept σ d) : Kept σ (Dev.updCode d code) := by
  unfold Dev.updCode
  repeat' first
    | with_reducible assumption
    | (extract_lets +onlyGivenNames z; first | (refine (have hz : Kept σ z.1 := ?_; ?_); (on_goal 1 => (unfold z; clear z)); (on_goal 2 => clear_value z)) | clear_value z)
    | with_reducible refine Kept.ite ?_ ?_
    | with_reducible refine Dev_orReg_kept ?_
    | with_reducible refine Dev_modUpd_kept ?_
    | with_reducible exact Kept.mk (Kept.eq (by with_reducible assumption))
    | split
    | fail_if_no_progress beta_reduce

theorem Dev_updEvent_kept {d : Dev} {code : Nat} (h : Kept σ d) : Kept σ (Dev.updEvent d code) := by
  unfold Dev.updEvent
  repeat' first
    | with_reducible assumption
    | with_reducible refine Dev_event_kept ?_
    | with_reducible refine Dev_updCode_kept ?_

theorem Dev_updBegin_kept {d : Dev} (h : Kept σ d) : Kept σ (Dev.updBegin d).1 := by
  unfold Dev.updBegin
  repeat' first
    | with_reducible assumption
    | (extract_lets +onlyGivenNames z; first | (refine (have hz : Kept σ z := ?_; ?_); (on_goal 1 => (unfold z; clear z)); (on_goal 2 => clear_value z)) | (refine (have hz : Kept σ z.1 := ?_; ?_); (on_goal 1 => (unfold z; clear z)); (on_goal 2 => clear_value z)) | clear_value z)
    | with_reducible refine Kept.ite ?_ ?_
    | with_reducible refine Kept.ite1 ?_ ?_
    | with_reducible refine Dev_modUpd_kept ?_
    | with_reducible refine Dev_updEvent_kept ?_
    | (with_reducible refine Kept.pair ?_; first | with_reducible assumption | with_reducible refine Dev_modUpd_kept ?_ | with_reducible refine Dev_updEvent_kept ?_ | with_reducible exact Kept.mk (Kept.eq (by with_reducible assumption)))
    | split
    | fail_if_no_progress beta_reduce
theorem Dev_updBegin_keq {d : Dev} {z : Dev} {w : Nat} (e : Dev.updBegin d = (z, w)) (h : Kept σ d) : Kept σ z := by
  have := Dev_updBegin_kept (σ := σ) (d := d) h; rw [e] at this; exact this

theorem Dev_mapOps_kept {d : Dev} {a n : Nat} (h : Kept σ d) : Kept σ (Dev.mapOps d a n) := by
  unfold Dev.mapOps
  repeat' first
    | with_reducible assumption
    | with_reducible refine Kept.ite ?_ ?_
    | with_reducible refine Dev_dramBytes_kept ?_
    | split

theorem Dev_updFinish_kept {d : Dev} (h : Kept σ d) : Kept σ (Dev.updFinish d).1 := by
  unfold Dev.updFinish
  repeat' first
    | with_reducible assumption
    | (extract_lets +onlyGivenNames z; first | (refine (have hz : Kept σ z := ?_; ?_); (on_goal 1 => (unfold z; clear z)); (on_goal 2 => clear_value z)) | (refine (have hz : Kept σ z.1 := ?_; ?_); (on_goal 1 => (unfold z; clear z)); (on_goal 2 => clear_value z)) | clear_value z)
    | with_reducible refine Kept.ite ?_ ?_
    | with_reducible refine Kept.ite1 ?_ ?_
    | with_reducible refine Dev_modUpd_kept ?_
    | with_reducible refine Dev_mapOps_kept ?_
    | (with_reducible refine Kept.pair ?_; first | with_reducible assumption | with_reducible refine Dev_modUpd_kept ?_ | with_reducible refine Dev_mapOps_kept ?_ | with_reducible exact Kept.mk (Kept.eq (by with_reducible assumption)))
    | split
    | fail_if_no_progress beta_reduce
theorem Dev_updFinish_keq {d : Dev} {z : Dev} {w : Nat} (e : Dev.updFinish d = (z, w)) (h : Kept σ d) : Kept σ z := by
  have := Dev_updFinish_kept (σ := σ) (d := d) h; rw [e] at this; exact this

theorem Dev_updAbort_kept {d : Dev} (h : Kept σ d) : Kept σ (Dev.updAbort d).1 := by
  unfold Dev.updAbort
  repeat' first
    | with_reducible assumption
    | (extract_lets +onlyGivenNames z; first | (refine (have hz : Kept σ z := ?_; ?_); (on_goal 1 => (unfold z; clear z)); (on_goal 2 => clear_value z)) | (refine (have hz : Kept σ z.1 := ?_; ?_); (on_goal 1 => (unfold z; clear z)); (on_goal 2 => clear_value z)) | clear_value z)
    | with_reducible refine Kept.ite ?_ ?_
    | with_reducible refine Kept.ite1 ?_ ?_
    | with_reducible refine Dev_modUpd_kept ?_
    | (with_reducible refine Kept.pair ?_; first | with_reducible assumption | with_reducible refine Dev_modUpd_kept ?_ | with_reducible exact Kept.mk (Kept.eq (by with_reducible assumption)))
    | split
    | fail_if_no_progress beta_reduce
theorem Dev_updAbort_keq {d : Dev} {z : Dev} {w : Nat} (e : Dev.updAbort d = (z, w)) (h : Kept σ d) : Kept σ z := by
  have := Dev_updAbort_kept (σ := σ) (d := d) h; rw [e] at this; exact this

theorem Dev_updCommand_kept {d : Dev} {value : Word} (h : Kept σ d) : Kept σ (Dev.updCommand d value) := by
  unfold Dev.updCommand
  repeat' first
    | with_reducible assumption
    | (extract_lets +onlyGivenNames z; first | (refine (have hz : Kept σ z := ?_; ?_); (on_goal 1 => (unfold z; clear z)); (on_goal 2 => clear_value z)) | (refine (have hz : Kept σ z.1 := ?_; ?_); (on_goal 1 => (unfold z; clear z)); (on_goal 2 => clear_value z)) | clear_value z)
    | with_reducible refine Kept.ite ?_ ?_
    | with_reducible refine Dev_setReg_kept ?_
    | with_reducible refine Dev_updCode_kept ?_
    | with_reducible refine Dev_updBegin_kept ?_
    | exact Dev_updBegin_keq ‹_› ‹_›
    | with_reducible refine Dev_updFinish_kept ?_
    | exact Dev_updFinish_keq ‹_› ‹_›
    | with_reducible refine Dev_updAbort_kept ?_
    | exact Dev_updAbort_keq ‹_› ‹_›
    | split
    | fail_if_no_progress beta_reduce

theorem Dev_updBlock_kept {d : Dev} {off : Nat} {data : List Byte} {programmed : Bool} (h : Kept σ d) : Kept σ (Dev.updBlock d off data programmed).1 := by
  unfold Dev.updBlock
  repeat' first
    | with_reducible assumption
    | (extract_lets +onlyGivenNames z; first | (refine (have hz : Kept σ z := ?_; ?_); (on_goal 1 => (unfold z; clear z)); (on_goal 2 => clear_value z)) | (refine (have hz : Kept σ z.1 := ?_; ?_); (on_goal 1 => (unfold z; clear z)); (on_goal 2 => clear_value z)) | clear_value z)
    | with_reducible refine Kept.ite ?_ ?_
    | with_reducible refine Kept.ite1 ?_ ?_
    | with_reducible refine Dev_modUpd_kept ?_
    | with_reducible refine Dev_mapOps_kept ?_
    | with_reducible refine Kept.foldl (fun _ _ _ => ?_) ?_
    | with_reducible refine Kept.foldl1 (fun _ _ _ => ?_) ?_
    | with_reducible exact Kept.mk (Kept.eq (by with_reducible assumption))
    | (with_reducible refine Kept.pair ?_; first | with_reducible assumption | with_reducible refine Dev_modUpd_kept ?_ | with_reducible refine Dev_mapOps_kept ?_ | with_reducible exact Kept.mk (Kept.eq (by with_reducible assumption)))
    | split
    | fail_if_no_progress beta_reduce
theorem Dev_updBlock_keq {d : Dev} {off : Nat} {data : List Byte} {programmed : Bool} {z : Dev} {w : Nat} (e : Dev.updBlock d off data programmed = (z, w)) (h : Kept σ d) : Kept σ z := by
  have := Dev_updBlock_kept (σ := σ) (d := d) (off := off) (data := data) (programmed := programmed) h; rw [e] at this; exact this

theorem Dev_runSlot_kept {d : Dev} {i : Nat} {trial : Bool} (h : Kept σ d) : Kept σ (Dev.runSlot d i trial) := by
  unfold Dev.runSlot
  repeat' first
    | with_reducible assumption
    | (extract_lets +onlyGivenNames z; first | (refine (have hz : Kept σ z := ?_; ?_); (on_goal 1 => (unfold z; clear z)); (on_goal 2 => clear_value z)) | (refine (have hz : Kept σ z.1 := ?_; ?_); (on_goal 1 => (unfold z; clear z)); (on_goal 2 => clear_value z)) | clear_value z)
    | with_reducible refine Dev_modUpd_kept ?_
    | with_reducible exact Kept.mk (Kept.eq (by with_reducible assumption))
    | split
    | fail_if_no_progress beta_reduce

theorem Dev_copyAgain_kept {d : Dev} (h : Kept σ d) : Kept σ (Dev.copyAgain d).1 := by
  unfold Dev.copyAgain
  repeat' first
    | with_reducible assumption
    | with_reducible refine Dev_nextFree_kept ?_
    | exact Dev_nextFree_keq ‹_› ‹_›
    | (with_reducible refine Kept.pair ?_; first | with_reducible assumption | with_reducible refine Dev_nextFree_kept ?_ | with_reducible exact Kept.mk (Kept.eq (by with_reducible assumption)))
theorem Dev_copyAgain_keq {d : Dev} {z : Dev} {w : Bool} (e : Dev.copyAgain d = (z, w)) (h : Kept σ d) : Kept σ z := by
  have := Dev_copyAgain_kept (σ := σ) (d := d) h; rw [e] at this; exact this

theorem Dev_copyFailed_kept {d : Dev} {i : Nat} (h : Kept σ d) : Kept σ (Dev.copyFailed d i) := by
  unfold Dev.copyFailed
  repeat' first
    | with_reducible assumption
    | (extract_lets +onlyGivenNames z; first | (refine (have hz : Kept σ z := ?_; ?_); (on_goal 1 => (unfold z; clear z)); (on_goal 2 => clear_value z)) | (refine (have hz : Kept σ z.1 := ?_; ?_); (on_goal 1 => (unfold z; clear z)); (on_goal 2 => clear_value z)) | clear_value z)
    | with_reducible refine Kept.ite ?_ ?_
    | with_reducible refine Dev_modUpd_kept ?_
    | with_reducible refine Dev_updEvent_kept ?_
    | with_reducible refine Dev_runSlot_kept ?_
    | with_reducible refine Dev_copyAgain_kept ?_
    | exact Dev_copyAgain_keq ‹_› ‹_›
    | with_reducible exact Kept.mk (Kept.eq (by with_reducible assumption))
    | split
    | fail_if_no_progress beta_reduce

theorem Dev_bootCurrent_kept {d : Dev} {copyOk : Bool} (h : Kept σ d) : Kept σ (Dev.bootCurrent d copyOk) := by
  unfold Dev.bootCurrent
  repeat' first
    | with_reducible assumption
    | (extract_lets +onlyGivenNames z; first | (refine (have hz : Kept σ z := ?_; ?_); (on_goal 1 => (unfold z; clear z)); (on_goal 2 => clear_value z)) | (refine (have hz : Kept σ z.1 := ?_; ?_); (on_goal 1 => (unfold z; clear z)); (on_goal 2 => clear_value z)) | clear_value z)
    | with_reducible refine Kept.ite ?_ ?_
    | with_reducible refine Dev_runSlot_kept ?_
    | with_reducible refine Dev_copyFailed_kept ?_
    | with_reducible exact Kept.mk (Kept.eq (by with_reducible assumption))
    | split
    | fail_if_no_progress beta_reduce

theorem Dev_bootAgain_kept {d : Dev} (h : Kept σ d) : Kept σ (Dev.bootAgain d) := by
  unfold Dev.bootAgain
  repeat' first
    | with_reducible assumption
    | (extract_lets +onlyGivenNames z; first | (refine (have hz : Kept σ z := ?_; ?_); (on_goal 1 => (unfold z; clear z)); (on_goal 2 => clear_value z)) | (refine (have hz : Kept σ z.1 := ?_; ?_); (on_goal 1 => (unfold z; clear z)); (on_goal 2 => clear_value z)) | clear_value z)
    | with_reducible refine Dev_copyAgain_kept ?_
    | exact Dev_copyAgain_keq ‹_› ‹_›
    | with_reducible refine Dev_bootCurrent_kept ?_
    | fail_if_no_progress beta_reduce

theorem Dev_fallback_kept {d : Dev} (h : Kept σ d) : Kept σ (Dev.fallback d) := by
  unfold Dev.fallback
  repeat' first
    | with_reducible assumption
    | (extract_lets +onlyGivenNames z; clear_value z)
    | with_reducible refine Dev_modUpd_kept ?_
    | with_reducible refine Dev_updEvent_kept ?_
    | with_reducible exact Kept.mk (Kept.eq (by with_reducible assumption))
    | fail_if_no_progress beta_reduce

theorem Dev_bootImage_kept {d : Dev} {copyOk : Bool} (h : Kept σ d) : Kept σ (Dev.bootImage d copyOk) := by
  unfold Dev.bootImage
  repeat' first
    | with_reducible assumption
    | (extract_lets +onlyGivenNames z; first | (refine (have hz : Kept σ z := ?_; ?_); (on_goal 1 => (unfold z; clear z)); (on_goal 2 => clear_value z)) | (refine (have hz : Kept σ z.1 := ?_; ?_); (on_goal 1 => (unfold z; clear z)); (on_goal 2 => clear_value z)) | clear_value z)
    | with_reducible refine Kept.ite ?_ ?_
    | with_reducible refine Dev_modUpd_kept ?_
    | with_reducible refine Dev_updEvent_kept ?_
    | with_reducible refine Dev_runSlot_kept ?_
    | with_reducible refine Dev_copyFailed_kept ?_
    | with_reducible refine Dev_bootCurrent_kept ?_
    | with_reducible refine Dev_bootAgain_kept ?_
    | with_reducible refine Dev_fallback_kept ?_
    | with_reducible exact Kept.mk (Kept.eq (by with_reducible assumption))
    | split
    | fail_if_no_progress beta_reduce

theorem Dev_postConfirm_kept {d : Dev} {system : Bool} (h : Kept σ d) : Kept σ (Dev.postConfirm d system).1 := by
  unfold Dev.postConfirm
  repeat' first
    | with_reducible assumption
    | (extract_lets +onlyGivenNames z; clear_value z)
    | with_reducible refine Kept.ite ?_ ?_
    | with_reducible refine Kept.ite1 ?_ ?_
    | with_reducible refine Dev_modUpd_kept ?_
    | with_reducible exact Kept.mk (Kept.eq (by with_reducible assumption))
    | (with_reducible refine Kept.pair ?_; first | with_reducible assumption | with_reducible refine Dev_modUpd_kept ?_ | with_reducible exact Kept.mk (Kept.eq (by with_reducible assumption)))
    | split
    | fail_if_no_progress beta_reduce
theorem Dev_postConfirm_keq {d : Dev} {system : Bool} {z : Dev} {w : Nat} (e : Dev.postConfirm d system = (z, w)) (h : Kept σ d) : Kept σ z := by
  have := Dev_postConfirm_kept (σ := σ) (d := d) (system := system) h; rw [e] at this; exact this

theorem Dev_readRegLatch_kept {d : Dev} {a : Nat} (h : Kept σ d) : Kept σ (Dev.readRegLatch d a).1 := by
  unfold Dev.readRegLatch
  split
  · exact h
  · exact h

theorem Dev_readRegLatch_keq {d : Dev} {a : Nat} {z : Dev} {w : Word} (e : Dev.readRegLatch d a = (z, w)) (h : Kept σ d) : Kept σ z := by
  have := Dev_readRegLatch_kept (σ := σ) (d := d) (a := a) h; rw [e] at this; exact this

theorem Dev_axCfgWrite_kept {d : Dev} {n : Nat} {value : Word} (h : Kept σ d) : Kept σ (Dev.axCfgWrite d n value) := by
  unfold Dev.axCfgWrite
  repeat' first
    | with_reducible assumption
    | (extract_lets +onlyGivenNames z; first | (refine (have hz : Kept σ z := ?_; ?_); (on_goal 1 => (unfold z; clear z)); (on_goal 2 => clear_value z)) | (refine (have hz : Kept σ z.1 := ?_; ?_); (on_goal 1 => (unfold z; clear z)); (on_goal 2 => clear_value z)) | clear_value z)
    | with_reducible refine Kept.ite ?_ ?_
    | with_reducible refine Dev_setReg_kept ?_
    | with_reducible refine Dev_modMotion_kept ?_
    | with_reducible exact Kept.mk (Kept.eq (by with_reducible assumption))
    | split
    | fail_if_no_progress beta_reduce

theorem Dev_hostCfgsave_kept {d : Dev} {value : Word} (h : Kept σ d) : Kept σ (Dev.hostCfgsave d value) := by
  unfold Dev.hostCfgsave
  repeat' first
    | with_reducible assumption
    | (extract_lets +onlyGivenNames z; first | (refine (have hz : Kept σ z := ?_; ?_); (on_goal 1 => (unfold z; clear z)); (on_goal 2 => clear_value z)) | (refine (have hz : Kept σ z.1 := ?_; ?_); (on_goal 1 => (unfold z; clear z)); (on_goal 2 => clear_value z)) | clear_value z)
    | with_reducible refine Kept.ite ?_ ?_
    | with_reducible refine Dev_setReg_kept ?_
    | with_reducible exact Kept.mk (Kept.eq (by with_reducible assumption))
    | split
    | fail_if_no_progress beta_reduce

theorem Dev_hostWdcfg_kept {d : Dev} {value : Word} (h : Kept σ d) : Kept σ (Dev.hostWdcfg d value) := by
  unfold Dev.hostWdcfg
  repeat' first
    | with_reducible assumption
    | (extract_lets +onlyGivenNames z; first | (refine (have hz : Kept σ z := ?_; ?_); (on_goal 1 => (unfold z; clear z)); (on_goal 2 => clear_value z)) | (refine (have hz : Kept σ z.1 := ?_; ?_); (on_goal 1 => (unfold z; clear z)); (on_goal 2 => clear_value z)) | clear_value z)
    | with_reducible refine Kept.ite ?_ ?_
    | with_reducible refine Dev_setReg_kept ?_
    | with_reducible exact Kept.mk (Kept.eq (by with_reducible assumption))
    | split
    | fail_if_no_progress beta_reduce

theorem Dev_canCtrlWrite_kept {d : Dev} {c : Nat} {value : Word} (h : Kept σ d) : Kept σ (Dev.canCtrlWrite d c value) := by
  unfold Dev.canCtrlWrite
  repeat' first
    | with_reducible assumption
    | (extract_lets +onlyGivenNames z; first | (refine (have hz : Kept σ z := ?_; ?_); (on_goal 1 => (unfold z; clear z)); (on_goal 2 => clear_value z)) | (refine (have hz : Kept σ z.1 := ?_; ?_); (on_goal 1 => (unfold z; clear z)); (on_goal 2 => clear_value z)) | clear_value z)
    | with_reducible refine Kept.ite ?_ ?_
    | with_reducible refine Dev_setReg_kept ?_
    | with_reducible refine Dev_setCan_kept ?_
    | with_reducible refine Dev_canEnable_kept ?_
    | with_reducible refine Dev_canDisable_kept ?_
    | with_reducible exact Kept.mk (Kept.eq (by with_reducible assumption))
    | split
    | fail_if_no_progress beta_reduce

theorem Dev_canWrite_keq {d : Dev} {a : Nat} {value : Word} {z : Dev} (e : Dev.canWrite d a value = some z) (h : Kept σ d) : Kept σ z := by
  unfold Dev.canWrite at e
  extract_lets c o at e
  clear_value o c
  by_cases h1 : o = 0x0
  · rw [if_pos h1] at e; exact Option.some.inj e ▸ Dev_canCtrlWrite_kept h
  rw [if_neg h1] at e
  by_cases h2 : o = 0x10
  · rw [if_pos h2] at e; exact Option.some.inj e ▸ Dev_canRecover_kept h
  rw [if_neg h2] at e
  split at e
  · exact Option.some.inj e ▸ Dev_canTiming_kept h
  split at e
  · exact Option.some.inj e ▸ Dev_canObjectWrite_kept h
  exact absurd e nofun


theorem Dev_plcCtrlWrite_kept {d : Dev} {value : Word} (h : Kept σ d) : Kept σ (Dev.plcCtrlWrite d value) := by
  unfold Dev.plcCtrlWrite
  repeat' first
    | with_reducible assumption
    | (extract_lets +onlyGivenNames z; first | (refine (have hz : Kept σ z := ?_; ?_); (on_goal 1 => (unfold z; clear z)); (on_goal 2 => clear_value z)) | (refine (have hz : Kept σ z.1 := ?_; ?_); (on_goal 1 => (unfold z; clear z)); (on_goal 2 => clear_value z)) | clear_value z)
    | with_reducible refine Kept.ite ?_ ?_
    | with_reducible refine Dev_setReg_kept ?_
    | with_reducible refine Dev_modPlacer_kept ?_
    | with_reducible exact Kept.mk (Kept.eq (by with_reducible assumption))
    | split
    | fail_if_no_progress beta_reduce

theorem Dev_trcCfgWrite_kept {d : Dev} {value : Word} (h : Kept σ d) : Kept σ (Dev.trcCfgWrite d value) := by
  unfold Dev.trcCfgWrite
  repeat' first
    | with_reducible assumption
    | (extract_lets +onlyGivenNames z; first | (refine (have hz : Kept σ z := ?_; ?_); (on_goal 1 => (unfold z; clear z)); (on_goal 2 => clear_value z)) | (refine (have hz : Kept σ z.1 := ?_; ?_); (on_goal 1 => (unfold z; clear z)); (on_goal 2 => clear_value z)) | clear_value z)
    | with_reducible refine Kept.ite ?_ ?_
    | with_reducible refine Dev_setReg_kept ?_
    | with_reducible refine Dev_flushBranches_kept ?_
    | split
    | fail_if_no_progress beta_reduce

theorem Dev_writeAction_keq {d : Dev} {a : Nat} {value : Word} {z : Dev} (e : Dev.writeAction d a value = some z) (h : Kept σ d) : Kept σ z := by
  have inj {v : Dev} (e : some v = some z) (hv : Kept σ v) : Kept σ z := Option.some.inj e ▸ hv
  unfold Dev.writeAction at e
  rcases ite_eq_iff.1 e with ⟨-, e⟩ | ⟨-, e⟩
  · exact inj e (Dev_axCfgWrite_kept h)
  rcases ite_eq_iff.1 e with ⟨-, e⟩ | ⟨-, e⟩
  · exact inj e (Dev_strCommand_kept h)
  rcases ite_eq_iff.1 e with ⟨-, e⟩ | ⟨-, e⟩
  · exact inj e (h)
  rcases ite_eq_iff.1 e with ⟨-, e⟩ | ⟨-, e⟩
  · exact inj e (Dev_setRegFld_kept h)
  rcases ite_eq_iff.1 e with ⟨-, e⟩ | ⟨-, e⟩
  · exact inj e (Dev_safCmdWrite_kept h)
  rcases ite_eq_iff.1 e with ⟨-, e⟩ | ⟨-, e⟩
  · exact inj e (Dev_safUnlockWrite_kept h)
  rcases ite_eq_iff.1 e with ⟨-, e⟩ | ⟨-, e⟩
  · exact inj e (Dev_safWrite_kept h)
  rcases ite_eq_iff.1 e with ⟨-, e⟩ | ⟨-, e⟩
  · exact inj e (Dev_fldWrite_kept h)
  rcases ite_eq_iff.1 e with ⟨-, e⟩ | ⟨-, e⟩
  · exact Dev_canWrite_keq e h
  rcases ite_eq_iff.1 e with ⟨-, e⟩ | ⟨-, e⟩
  · exact inj e (Dev_hostCfgsave_kept h)
  rcases ite_eq_iff.1 e with ⟨-, e⟩ | ⟨-, e⟩
  · exact inj e (Dev_hostWdcfg_kept h)
  rcases ite_eq_iff.1 e with ⟨-, e⟩ | ⟨-, e⟩
  · exact inj e (Dev_anchorCommand_kept h)
  rcases ite_eq_iff.1 e with ⟨-, e⟩ | ⟨-, e⟩
  · exact inj e (Dev_keyCommand_kept h)
  rcases ite_eq_iff.1 e with ⟨-, e⟩ | ⟨-, e⟩
  · exact inj e (h)
  rcases ite_eq_iff.1 e with ⟨-, e⟩ | ⟨-, e⟩
  · exact inj e (Dev_updCommand_kept h)
  rcases ite_eq_iff.1 e with ⟨-, e⟩ | ⟨-, e⟩
  · exact inj e (Dev_trcCommand_kept h)
  rcases ite_eq_iff.1 e with ⟨-, e⟩ | ⟨-, e⟩
  · exact inj e (Dev_trcCfgWrite_kept h)
  rcases ite_eq_iff.1 e with ⟨-, e⟩ | ⟨-, e⟩
  · exact inj e (Dev_pairCfgWrite_kept h)
  rcases ite_eq_iff.1 e with ⟨-, e⟩ | ⟨-, e⟩
  · exact inj e (Dev_pairCmdWrite_kept h)
  rcases ite_eq_iff.1 e with ⟨-, e⟩ | ⟨-, e⟩
  · exact inj e (Dev_modPlacer_kept h)
  rcases ite_eq_iff.1 e with ⟨-, e⟩ | ⟨-, e⟩
  · exact inj e (Dev_plcCtrlWrite_kept h)
  exact absurd e nofun


theorem Dev_writeReg_kept {d : Dev} {a : Nat} {value : Word} (h : Kept σ d) : Kept σ (Dev.writeReg d a value) := by
  unfold Dev.writeReg
  repeat' first
    | with_reducible assumption
    | with_reducible refine Dev_setReg_kept ?_
    | exact Dev_writeAction_keq ‹_› ‹_›
    | split

theorem Dev_axControl_kept {d : Dev} {c axis slot : Nat} {v : Word} (h : Kept σ d) : Kept σ (Dev.axControl d c axis slot v) := by
  unfold Dev.axControl
  repeat' first
    | with_reducible assumption
    | (extract_lets +onlyGivenNames z; first | (refine (have hz : Kept σ z := ?_; ?_); (on_goal 1 => (unfold z; clear z)); (on_goal 2 => clear_value z)) | (refine (have hz : Kept σ z.1 := ?_; ?_); (on_goal 1 => (unfold z; clear z)); (on_goal 2 => clear_value z)) | clear_value z)
    | with_reducible refine Kept.ite ?_ ?_
    | with_reducible refine Dev_sigHome_kept ?_
    | with_reducible refine Dev_modCycle_kept ?_
    | with_reducible exact Kept.mk (Kept.eq (by with_reducible assumption))
    | split
    | fail_if_no_progress beta_reduce

theorem Dev_modHost_kept {d : Dev} {f : HostUnit → HostUnit} (h : Kept σ d) : Kept σ (Dev.modHost d f) := by
  unfold Dev.modHost
  repeat' first
    | with_reducible assumption
    | (extract_lets +onlyGivenNames z; clear_value z)
    | with_reducible exact Kept.mk (Kept.eq (by with_reducible assumption))
    | fail_if_no_progress beta_reduce

theorem Dev_frameSeen_kept {d : Dev} {port : Nat} (h : Kept σ d) : Kept σ (Dev.frameSeen d port) := by
  unfold Dev.frameSeen
  repeat' first
    | with_reducible assumption
    | with_reducible refine Dev_modHost_kept ?_
    | fail_if_no_progress beta_reduce

theorem Dev_frameCame_kept {d : Dev} {port : Nat} (h : Kept σ d) : Kept σ (Dev.frameCame d port) := by
  unfold Dev.frameCame
  repeat' first
    | with_reducible assumption
    | with_reducible refine Kept.ite ?_ ?_
    | with_reducible refine Dev_frameSeen_kept ?_
    | split

theorem Dev_sendVhp_kept {d : Dev} {port : Nat} {mac : BitVec 48} {ip : Word} {udp : BitVec 16} {bytes : List Byte} (h : Kept σ d) : Kept σ (Dev.sendVhp d port mac ip udp bytes) := by
  unfold Dev.sendVhp
  repeat' first
    | with_reducible assumption
    | (extract_lets +onlyGivenNames z; clear_value z)
    | with_reducible refine Dev_modHost_kept ?_
    | with_reducible refine Dev_frameSeen_kept ?_
    | with_reducible exact Kept.mk (Kept.eq (by with_reducible assumption))
    | fail_if_no_progress beta_reduce

theorem Dev_vhpReply_kept {d : Dev} {q : VReq} {status : Nat} {payload : List Byte} {frame : Word} (h : Kept σ d) : Kept σ (Dev.vhpReply d q status payload frame) := by
  unfold Dev.vhpReply
  repeat' first
    | with_reducible assumption
    | (extract_lets +onlyGivenNames z; first | (refine (have hz : Kept σ z := ?_; ?_); (on_goal 1 => (unfold z; clear z)); (on_goal 2 => clear_value z)) | (refine (have hz : Kept σ z.1 := ?_; ?_); (on_goal 1 => (unfold z; clear z)); (on_goal 2 => clear_value z)) | clear_value z)
    | with_reducible refine Dev_modHost_kept ?_
    | with_reducible refine Dev_sendVhp_kept ?_
    | with_reducible refine Kept.foldl (fun _ _ _ => ?_) ?_
    | with_reducible refine Kept.foldl1 (fun _ _ _ => ?_) ?_
    | fail_if_no_progress beta_reduce


theorem Dev_respond_kept {d : Dev} {q : VReq} {status : Nat} {payload : List Byte} {frame : Word} (h : Kept σ d) : Kept σ (Dev.respond d q status payload frame) := by
  unfold Dev.respond
  repeat' first
    | with_reducible assumption
    | (extract_lets +onlyGivenNames z; first | (refine (have hz : Kept σ z := ?_; ?_); (on_goal 1 => (unfold z; clear z)); (on_goal 2 => clear_value z)) | (refine (have hz : Kept σ z.1 := ?_; ?_); (on_goal 1 => (unfold z; clear z)); (on_goal 2 => clear_value z)) | clear_value z)
    | with_reducible refine Dev_incReg_kept ?_
    | with_reducible refine Dev_countEvent_kept ?_
    | with_reducible refine Dev_modHost_kept ?_
    | with_reducible refine Dev_vhpReply_kept ?_
    | with_reducible exact Kept.mk (Kept.eq (by with_reducible assumption))
    | fail_if_no_progress beta_reduce

theorem Dev_vhpNew_kept {d : Dev} {q : VReq} (h : Kept σ d) : Kept σ (Dev.vhpNew d q) := by
  unfold Dev.vhpNew
  repeat' first
    | with_reducible assumption
    | (extract_lets +onlyGivenNames z; first | (refine (have hz : Kept σ z := ?_; ?_); (on_goal 1 => (unfold z; clear z)); (on_goal 2 => clear_value z)) | (refine (have hz : Kept σ z.1 := ?_; ?_); (on_goal 1 => (unfold z; clear z)); (on_goal 2 => clear_value z)) | clear_value z)
    | with_reducible refine Kept.ite ?_ ?_
    | with_reducible refine Dev_modHost_kept ?_
    | with_reducible refine Dev_vhpReply_kept ?_
    | with_reducible exact Kept.mk (Kept.eq (by with_reducible assumption))
    | split
    | fail_if_no_progress beta_reduce

theorem Dev_vhpRepeat_kept {d : Dev} {q : VReq} {x : Held} (h : Kept σ d) : Kept σ (Dev.vhpRepeat d q x) := by
  unfold Dev.vhpRepeat
  repeat' first
    | with_reducible assumption
    | (extract_lets +onlyGivenNames z; first | (refine (have hz : Kept σ z := ?_; ?_); (on_goal 1 => (unfold z; clear z)); (on_goal 2 => clear_value z)) | (refine (have hz : Kept σ z.1 := ?_; ?_); (on_goal 1 => (unfold z; clear z)); (on_goal 2 => clear_value z)) | clear_value z)
    | with_reducible refine Kept.ite ?_ ?_
    | with_reducible refine Dev_modHost_kept ?_
    | with_reducible refine Dev_sendVhp_kept ?_
    | split
    | fail_if_no_progress beta_reduce

theorem Dev_vhpReceive_kept {d : Dev} {port : Nat} {mac : BitVec 48} {ip : Word} {udp : BitVec 16} {bytes : List Byte} (h : Kept σ d) : Kept σ (Dev.vhpReceive d port mac ip udp bytes) := by
  unfold Dev.vhpReceive
  repeat' first
    | with_reducible assumption
    | (extract_lets +onlyGivenNames z; first | (refine (have hz : Kept σ z := ?_; ?_); (on_goal 1 => (unfold z; clear z)); (on_goal 2 => clear_value z)) | (refine (have hz : Kept σ z.1 := ?_; ?_); (on_goal 1 => (unfold z; clear z)); (on_goal 2 => clear_value z)) | clear_value z)
    | with_reducible refine Kept.ite ?_ ?_
    | with_reducible refine Dev_incReg_kept ?_
    | with_reducible refine Dev_sendVhp_kept ?_
    | with_reducible refine Dev_vhpNew_kept ?_
    | with_reducible refine Dev_vhpRepeat_kept ?_
    | split
    | fail_if_no_progress beta_reduce

theorem Dev_wipeDram_kept {d : Dev} (h : Kept σ d) : Kept σ (Dev.wipeDram d) := by
  unfold Dev.wipeDram
  repeat' first
    | with_reducible assumption
    | (extract_lets +onlyGivenNames z; clear_value z)
    | with_reducible exact Kept.mk (Kept.eq (by with_reducible assumption))
    | fail_if_no_progress beta_reduce

theorem Dev_roastTestNow_kept {d : Dev} (h : Kept σ d) : Kept σ (Dev.roastTestNow d).1 := by
  unfold Dev.roastTestNow
  extract_lets +onlyGivenNames lo t y d2
  have h2 : Kept σ d2 := h
  split
  · exact Dev_wipeDram_kept h2
  · exact h2

theorem Dev_roastTestNow_keq {d : Dev} {z : Dev} {w : Nat} (e : Dev.roastTestNow d = (z, w)) (h : Kept σ d) : Kept σ z := by
  have := Dev_roastTestNow_kept (σ := σ) (d := d) h; rw [e] at this; exact this

theorem Dev_vhpRun_kept {d : Dev} {q : VReq} {f : Dev → VReq → Dev × Nat × List Byte} (hf : ∀ x, Kept σ x → Kept σ (f x q).1) (h : Kept σ d) : Kept σ (Dev.vhpRun d q f) := by
  unfold Dev.vhpRun
  extract_lets a r
  exact Kept.ite (Dev_respond_kept h) (Dev_respond_kept (hf _ h))

theorem Dev_vhpRegRead_kept {d : Dev} {q : VReq} (h : Kept σ d) : Kept σ (Dev.vhpRegRead d q).1 := by
  unfold Dev.vhpRegRead
  repeat' first
    | with_reducible assumption
    | (extract_lets +onlyGivenNames z; first | (refine (have hz : Kept σ z := ?_; ?_); (on_goal 1 => (unfold z; clear z)); (on_goal 2 => clear_value z)) | (refine (have hz : Kept σ z.1 := ?_; ?_); (on_goal 1 => (unfold z; clear z)); (on_goal 2 => clear_value z)) | clear_value z)
    | with_reducible refine Kept.ite ?_ ?_
    | with_reducible refine Kept.ite1 ?_ ?_
    | with_reducible refine Dev_readRegLatch_kept ?_
    | exact Dev_readRegLatch_keq ‹_› ‹_›
    | with_reducible refine Kept.foldl (fun _ _ _ => ?_) ?_
    | with_reducible refine Kept.foldl1 (fun _ _ _ => ?_) ?_
    | (with_reducible refine Kept.pair ?_; first | with_reducible assumption | with_reducible refine Dev_readRegLatch_kept ?_ | with_reducible exact Kept.mk (Kept.eq (by with_reducible assumption)))
    | split
    | fail_if_no_progress beta_reduce
theorem Dev_vhpRegRead_keq {d : Dev} {q : VReq} {z : Dev} {w : Nat × List Byte} (e : Dev.vhpRegRead d q = (z, w)) (h : Kept σ d) : Kept σ z := by
  have := Dev_vhpRegRead_kept (σ := σ) (d := d) (q := q) h; rw [e] at this; exact this

theorem Dev_vhpRegWrite_kept {d : Dev} {q : VReq} (h : Kept σ d) : Kept σ (Dev.vhpRegWrite d q).1 := by
  unfold Dev.vhpRegWrite
  repeat' first
    | with_reducible assumption
    | (extract_lets +onlyGivenNames z; first | (refine (have hz : Kept σ z := ?_; ?_); (on_goal 1 => (unfold z; clear z)); (on_goal 2 => clear_value z)) | (refine (have hz : Kept σ z.1 := ?_; ?_); (on_goal 1 => (unfold z; clear z)); (on_goal 2 => clear_value z)) | clear_value z)
    | with_reducible refine Kept.ite ?_ ?_
    | with_reducible refine Kept.ite1 ?_ ?_
    | with_reducible refine Dev_writeReg_kept ?_
    | with_reducible refine Kept.foldl (fun _ _ _ => ?_) ?_
    | with_reducible refine Kept.foldl1 (fun _ _ _ => ?_) ?_
    | (with_reducible refine Kept.pair ?_; first | with_reducible assumption | with_reducible refine Dev_writeReg_kept ?_ | with_reducible exact Kept.mk (Kept.eq (by with_reducible assumption)))
    | split
    | fail_if_no_progress beta_reduce
theorem Dev_vhpRegWrite_keq {d : Dev} {q : VReq} {z : Dev} {w : Nat × List Byte} (e : Dev.vhpRegWrite d q = (z, w)) (h : Kept σ d) : Kept σ z := by
  have := Dev_vhpRegWrite_kept (σ := σ) (d := d) (q := q) h; rw [e] at this; exact this

theorem Dev_vhpIdent_kept {d : Dev} {u9 : VReq} (h : Kept σ d) : Kept σ (Dev.vhpIdent d u9).1 := by
  unfold Dev.vhpIdent
  repeat' first
    | with_reducible assumption
    | (with_reducible refine Kept.pair ?_; first | with_reducible assumption | with_reducible exact Kept.mk (Kept.eq (by with_reducible assumption)))
theorem Dev_vhpIdent_keq {d : Dev} {u9 : VReq} {z : Dev} {w : Nat × List Byte} (e : Dev.vhpIdent d u9 = (z, w)) (h : Kept σ d) : Kept σ z := by
  have := Dev_vhpIdent_kept (σ := σ) (d := d) (u9 := u9) h; rw [e] at this; exact this

theorem Dev_vhpCommission_kept {d : Dev} {q : VReq} (h : Kept σ d) : Kept σ (Dev.vhpCommission d q).1 := by
  unfold Dev.vhpCommission
  repeat' first
    | with_reducible assumption
    | (extract_lets +onlyGivenNames z; first | (refine (have hz : Kept σ z := ?_; ?_); (on_goal 1 => (unfold z; clear z)); (on_goal 2 => clear_value z)) | (refine (have hz : Kept σ z.1 := ?_; ?_); (on_goal 1 => (unfold z; clear z)); (on_goal 2 => clear_value z)) | clear_value z)
    | with_reducible refine Dev_commission_kept ?_
    | exact Dev_commission_keq ‹_› ‹_›
    | (with_reducible refine Kept.pair ?_; first | with_reducible assumption | with_reducible refine Dev_commission_kept ?_ | with_reducible exact Kept.mk (Kept.eq (by with_reducible assumption)))
    | fail_if_no_progress beta_reduce
theorem Dev_vhpCommission_keq {d : Dev} {q : VReq} {z : Dev} {w : Nat × List Byte} (e : Dev.vhpCommission d q = (z, w)) (h : Kept σ d) : Kept σ z := by
  have := Dev_vhpCommission_kept (σ := σ) (d := d) (q := q) h; rw [e] at this; exact this

theorem Dev_vhpSigRead_kept {d : Dev} {q : VReq} (h : Kept σ d) : Kept σ (Dev.vhpSigRead d q).1 := by
  unfold Dev.vhpSigRead
  repeat' first
    | with_reducible assumption
    | (extract_lets +onlyGivenNames z; first | (refine (have hz : Kept σ z := ?_; ?_); (on_goal 1 => (unfold z; clear z)); (on_goal 2 => clear_value z)) | (refine (have hz : Kept σ z.1 := ?_; ?_); (on_goal 1 => (unfold z; clear z)); (on_goal 2 => clear_value z)) | clear_value z)
    | with_reducible refine Kept.ite ?_ ?_
    | with_reducible refine Kept.ite1 ?_ ?_
    | with_reducible refine Dev_countStore_kept ?_
    | with_reducible refine Kept.foldl (fun _ _ _ => ?_) ?_
    | with_reducible refine Kept.foldl1 (fun _ _ _ => ?_) ?_
    | (with_reducible refine Kept.pair ?_; first | with_reducible assumption | with_reducible refine Dev_countStore_kept ?_ | with_reducible exact Kept.mk (Kept.eq (by with_reducible assumption)))
    | split
    | fail_if_no_progress beta_reduce
theorem Dev_vhpSigRead_keq {d : Dev} {q : VReq} {z : Dev} {w : Nat × List Byte} (e : Dev.vhpSigRead d q = (z, w)) (h : Kept σ d) : Kept σ z := by
  have := Dev_vhpSigRead_kept (σ := σ) (d := d) (q := q) h; rw [e] at this; exact this

theorem Dev_hostWrite_kept {d : Dev} {n : Nat} {v : Word} {valid : Bool} (h : Kept σ d) : Kept σ (Dev.hostWrite d n v valid).1 := by
  unfold Dev.hostWrite
  repeat' first
    | with_reducible assumption
    | (extract_lets +onlyGivenNames z; first | (refine (have hz : Kept σ z := ?_; ?_); (on_goal 1 => (unfold z; clear z)); (on_goal 2 => clear_value z)) | (refine (have hz : Kept σ z.1 := ?_; ?_); (on_goal 1 => (unfold z; clear z)); (on_goal 2 => clear_value z)) | clear_value z)
    | with_reducible refine Kept.ite ?_ ?_
    | with_reducible refine Kept.ite1 ?_ ?_
    | with_reducible refine Dev_countStore_kept ?_
    | with_reducible refine Dev_sigStore_kept ?_
    | with_reducible exact Kept.mk (Kept.eq (by with_reducible assumption))
    | (with_reducible refine Kept.pair ?_; first | with_reducible assumption | with_reducible refine Dev_countStore_kept ?_ | with_reducible refine Dev_sigStore_kept ?_ | with_reducible exact Kept.mk (Kept.eq (by with_reducible assumption)))
    | split
    | fail_if_no_progress beta_reduce
theorem Dev_hostWrite_keq {d : Dev} {n : Nat} {v : Word} {valid : Bool} {z : Dev} {w : Nat} (e : Dev.hostWrite d n v valid = (z, w)) (h : Kept σ d) : Kept σ z := by
  have := Dev_hostWrite_kept (σ := σ) (d := d) (n := n) (v := v) (valid := valid) h; rw [e] at this; exact this

theorem Dev_hostForce_kept {d : Dev} {n : Nat} {v : Word} (h : Kept σ d) : Kept σ (Dev.hostForce d n v).1 := by
  unfold Dev.hostForce
  repeat' first
    | with_reducible assumption
    | (extract_lets +onlyGivenNames z; first | (refine (have hz : Kept σ z := ?_; ?_); (on_goal 1 => (unfold z; clear z)); (on_goal 2 => clear_value z)) | (refine (have hz : Kept σ z.1 := ?_; ?_); (on_goal 1 => (unfold z; clear z)); (on_goal 2 => clear_value z)) | clear_value z)
    | with_reducible refine Kept.ite ?_ ?_
    | with_reducible refine Kept.ite1 ?_ ?_
    | with_reducible refine Dev_countStore_kept ?_
    | with_reducible refine Dev_setSig_kept ?_
    | with_reducible refine Dev_sigStore_kept ?_
    | with_reducible refine Dev_hide_kept ?_
    | with_reducible refine Dev_canRequest_kept ?_
    | with_reducible exact Kept.mk (Kept.eq (by with_reducible assumption))
    | (with_reducible refine Kept.pair ?_; first | with_reducible assumption | with_reducible refine Dev_countStore_kept ?_ | with_reducible refine Dev_setSig_kept ?_ | with_reducible refine Dev_sigStore_kept ?_ | with_reducible refine Dev_hide_kept ?_ | with_reducible refine Dev_canRequest_kept ?_ | with_reducible exact Kept.mk (Kept.eq (by with_reducible assumption)))
    | split
    | fail_if_no_progress beta_reduce
theorem Dev_hostForce_keq {d : Dev} {n : Nat} {v : Word} {z : Dev} {w : Nat} (e : Dev.hostForce d n v = (z, w)) (h : Kept σ d) : Kept σ z := by
  have := Dev_hostForce_kept (σ := σ) (d := d) (n := n) (v := v) h; rw [e] at this; exact this

theorem Dev_hostRelease_kept {d : Dev} {n : Nat} (h : Kept σ d) : Kept σ (Dev.hostRelease d n).1 := by
  unfold Dev.hostRelease
  repeat' first
    | with_reducible assumption
    | (extract_lets +onlyGivenNames z; first | (refine (have hz : Kept σ z := ?_; ?_); (on_goal 1 => (unfold z; clear z)); (on_goal 2 => clear_value z)) | (refine (have hz : Kept σ z.1 := ?_; ?_); (on_goal 1 => (unfold z; clear z)); (on_goal 2 => clear_value z)) | clear_value z)
    | with_reducible refine Kept.ite ?_ ?_
    | with_reducible refine Kept.ite1 ?_ ?_
    | with_reducible refine Dev_countStore_kept ?_
    | with_reducible refine Dev_setSig_kept ?_
    | with_reducible exact Kept.mk (Kept.eq (by with_reducible assumption))
    | (with_reducible refine Kept.pair ?_; first | with_reducible assumption | with_reducible refine Dev_countStore_kept ?_ | with_reducible refine Dev_setSig_kept ?_ | with_reducible exact Kept.mk (Kept.eq (by with_reducible assumption)))
    | split
    | fail_if_no_progress beta_reduce
theorem Dev_hostRelease_keq {d : Dev} {n : Nat} {z : Dev} {w : Nat} (e : Dev.hostRelease d n = (z, w)) (h : Kept σ d) : Kept σ z := by
  have := Dev_hostRelease_kept (σ := σ) (d := d) (n := n) h; rw [e] at this; exact this

theorem Dev_hostEntry_kept {d : Dev} {mode : Nat} {e9 : Nat × Word} (h : Kept σ d) : Kept σ (Dev.hostEntry d mode e9).1 := by
  unfold Dev.hostEntry
  repeat' first
    | with_reducible assumption
    | with_reducible refine Dev_hostWrite_kept ?_
    | exact Dev_hostWrite_keq ‹_› ‹_›
    | with_reducible refine Dev_hostForce_kept ?_
    | exact Dev_hostForce_keq ‹_› ‹_›
    | with_reducible refine Dev_hostRelease_kept ?_
    | exact Dev_hostRelease_keq ‹_› ‹_›
    | (with_reducible refine Kept.pair ?_; first | with_reducible assumption | with_reducible refine Dev_hostWrite_kept ?_ | with_reducible refine Dev_hostForce_kept ?_ | with_reducible refine Dev_hostRelease_kept ?_ | with_reducible exact Kept.mk (Kept.eq (by with_reducible assumption)))
    | split
theorem Dev_hostEntry_keq {d : Dev} {mode : Nat} {e9 : Nat × Word} {z : Dev} {w : Nat} (e : Dev.hostEntry d mode e9 = (z, w)) (h : Kept σ d) : Kept σ z := by
  have := Dev_hostEntry_kept (σ := σ) (d := d) (mode := mode) (e9 := e9) h; rw [e] at this; exact this

theorem Dev_vhpSigWrite_kept {d : Dev} {q : VReq} (h : Kept σ d) : Kept σ (Dev.vhpSigWrite d q).1 := by
  unfold Dev.vhpSigWrite
  extract_lets mode start r b
  have hr : Kept σ r.dev := by
    refine Kept.foldlOn SigRun.dev (fun x e hx => ?_) (show Kept σ start.dev from h)
    dsimp only
    split
    · exact hx
    · exact Dev_hostEntry_kept hx
  have hb : Kept σ b := Kept.foldl (fun _ _ => Dev_fireTriggers_kept) hr
  split <;> exact hb

theorem Dev_vhpSigWrite_keq {d : Dev} {q : VReq} {z : Dev} {w : Nat × List Byte} (e : Dev.vhpSigWrite d q = (z, w)) (h : Kept σ d) : Kept σ z := by
  have := Dev_vhpSigWrite_kept (σ := σ) (d := d) (q := q) h; rw [e] at this; exact this

theorem Dev_nodeRequest_kept {d : Dev} {p node btype : Nat} {data : List Byte} (h : Kept σ d) : Kept σ (Dev.nodeRequest d p node btype data).1 := by
  unfold Dev.nodeRequest
  repeat' first
    | with_reducible assumption
    | (extract_lets +onlyGivenNames z; first | (refine (have hz : Kept σ z := ?_; ?_); (on_goal 1 => (unfold z; clear z)); (on_goal 2 => clear_value z)) | (refine (have hz : Kept σ z.1 := ?_; ?_); (on_goal 1 => (unfold z; clear z)); (on_goal 2 => clear_value z)) | clear_value z)
    | with_reducible refine Kept.ite ?_ ?_
    | with_reducible refine Kept.ite1 ?_ ?_
    | with_reducible refine Dev_hostMessage_kept ?_
    | exact Dev_hostMessage_keq ‹_› ‹_›
    | (with_reducible refine Kept.pair ?_; first | with_reducible assumption | with_reducible refine Dev_hostMessage_kept ?_ | with_reducible exact Kept.mk (Kept.eq (by with_reducible assumption)))
    | split
    | fail_if_no_progress beta_reduce
theorem Dev_nodeRequest_keq {d : Dev} {p node btype : Nat} {data : List Byte} {z : Dev} {w : Nat} (e : Dev.nodeRequest d p node btype data = (z, w)) (h : Kept σ d) : Kept σ z := by
  have := Dev_nodeRequest_kept (σ := σ) (d := d) (p := p) (node := node) (btype := btype) (data := data) h; rw [e] at this; exact this

theorem Dev_takeReplies_kept {d : Dev} {p node n : Nat} (h : Kept σ d) : Kept σ (Dev.takeReplies d p node n) := by
  unfold Dev.takeReplies
  repeat' first
    | with_reducible assumption
    | (extract_lets +onlyGivenNames z; first | (refine (have hz : Kept σ z := ?_; ?_); (on_goal 1 => (unfold z; clear z)); (on_goal 2 => clear_value z)) | (refine (have hz : Kept σ z.1 := ?_; ?_); (on_goal 1 => (unfold z; clear z)); (on_goal 2 => clear_value z)) | clear_value z)
    | with_reducible refine Dev_take_kept ?_
    | with_reducible refine Dev_dropReplies_kept ?_
    | fail_if_no_progress beta_reduce

theorem Dev_nodeRead_kept {d : Dev} {p node : Nat} (h : Kept σ d) : Kept σ (Dev.nodeRead d p node).1 := by
  unfold Dev.nodeRead
  repeat' first
    | with_reducible assumption
    | (extract_lets +onlyGivenNames z; first | (refine (have hz : Kept σ z := ?_; ?_); (on_goal 1 => (unfold z; clear z)); (on_goal 2 => clear_value z)) | (refine (have hz : Kept σ z.1 := ?_; ?_); (on_goal 1 => (unfold z; clear z)); (on_goal 2 => clear_value z)) | clear_value z)
    | with_reducible refine Kept.ite ?_ ?_
    | with_reducible refine Kept.ite1 ?_ ?_
    | with_reducible refine Dev_modPort_kept ?_
    | with_reducible refine Dev_modNode_kept ?_
    | with_reducible refine Dev_takeReplies_kept ?_
    | with_reducible exact Kept.mk (Kept.eq (by with_reducible assumption))
    | (with_reducible refine Kept.pair ?_; first | with_reducible assumption | with_reducible refine Dev_modPort_kept ?_ | with_reducible refine Dev_modNode_kept ?_ | with_reducible refine Dev_takeReplies_kept ?_ | with_reducible exact Kept.mk (Kept.eq (by with_reducible assumption)))
    | split
    | fail_if_no_progress beta_reduce
theorem Dev_nodeRead_keq {d : Dev} {p node : Nat} {z : Dev} {w : Nat × List Byte} (e : Dev.nodeRead d p node = (z, w)) (h : Kept σ d) : Kept σ z := by
  have := Dev_nodeRead_kept (σ := σ) (d := d) (p := p) (node := node) h; rw [e] at this; exact this

theorem Dev_modSys_kept {d : Dev} {f : Sys → Sys} (hf : (f d.sys).fixed = d.sys.fixed) (h : Kept σ d) : Kept σ (Dev.modSys d f) := hf.trans h

theorem Dev_showPower_kept {d : Dev} (h : Kept σ d) : Kept σ (Dev.showPower d) := by
  unfold Dev.showPower
  repeat' first
    | with_reducible assumption
    | with_reducible refine Dev_devSig_kept ?_

theorem Dev_answerState_kept {d : Dev} {q : VReq} {status : Nat} {state : Power} {frame : Word} (h : Kept σ d) : Kept σ (Dev.answerState d q status state frame) := by
  unfold Dev.answerState
  repeat' first
    | with_reducible assumption
    | with_reducible refine Kept.ite ?_ ?_
    | with_reducible refine Dev_setReg_kept ?_
    | with_reducible refine Dev_respond_kept ?_
    | split

theorem Dev_answerFront_kept {d : Dev} {status : Nat} {state : Power} (h : Kept σ d) : Kept σ (Dev.answerFront d status state) := by
  unfold Dev.answerFront
  repeat' first
    | with_reducible assumption
    | with_reducible refine Kept.ite ?_ ?_
    | with_reducible refine Dev_answerState_kept ?_
    | split

theorem Dev_holdFront_kept {d : Dev} (h : Kept σ d) : Kept σ (Dev.holdFront d) := by
  unfold Dev.holdFront
  repeat' first
    | with_reducible assumption
    | (extract_lets +onlyGivenNames z; clear_value z)
    | with_reducible refine Dev_modHost_kept ?_
    | with_reducible exact Kept.mk (Kept.eq (by with_reducible assumption))
    | fail_if_no_progress beta_reduce

theorem Dev_motionCheckAll_kept {d : Dev} (h : Kept σ d) : Kept σ (Dev.motionCheckAll d).1 := by
  unfold Dev.motionCheckAll
  repeat' first
    | with_reducible assumption
    | (extract_lets +onlyGivenNames z; first | (refine (have hz : Kept σ z := ?_; ?_); (on_goal 1 => (unfold z; clear z)); (on_goal 2 => clear_value z)) | (refine (have hz : Kept σ z.1 := ?_; ?_); (on_goal 1 => (unfold z; clear z)); (on_goal 2 => clear_value z)) | clear_value z)
    | with_reducible refine Dev_setReg_kept ?_
    | with_reducible refine Dev_orReg_kept ?_
    | with_reducible refine Dev_devNat_kept ?_
    | with_reducible refine Kept.foldl (fun _ _ _ => ?_) ?_
    | with_reducible refine Kept.foldl1 (fun _ _ _ => ?_) ?_
    | (with_reducible refine Kept.pair ?_; first | with_reducible assumption | with_reducible refine Dev_setReg_kept ?_ | with_reducible refine Dev_orReg_kept ?_ | with_reducible refine Dev_devNat_kept ?_ | with_reducible exact Kept.mk (Kept.eq (by with_reducible assumption)))
    | fail_if_no_progress beta_reduce
theorem Dev_motionCheckAll_keq {d : Dev} {z : Dev} {w : Bool} (e : Dev.motionCheckAll d = (z, w)) (h : Kept σ d) : Kept σ z := by
  have := Dev_motionCheckAll_kept (σ := σ) (d := d) h; rw [e] at this; exact this

theorem Dev_runChecks_kept {d : Dev} (h : Kept σ d) : Kept σ (Dev.runChecks d).1 := by
  unfold Dev.runChecks
  repeat' first
    | with_reducible assumption
    | (extract_lets +onlyGivenNames z; first | (refine (have hz : Kept σ z := ?_; ?_); (on_goal 1 => (unfold z; clear z)); (on_goal 2 => clear_value z)) | (refine (have hz : Kept σ z.1 := ?_; ?_); (on_goal 1 => (unfold z; clear z)); (on_goal 2 => clear_value z)) | clear_value z)
    | with_reducible refine Kept.ite ?_ ?_
    | with_reducible refine Kept.ite1 ?_ ?_
    | with_reducible refine Dev_estimCheckAll_kept ?_
    | exact Dev_estimCheckAll_keq ‹_› ‹_›
    | with_reducible refine Dev_placeImage_kept ?_
    | exact Dev_placeImage_keq ‹_› ‹_›
    | with_reducible refine Dev_motionCheckAll_kept ?_
    | exact Dev_motionCheckAll_keq ‹_› ‹_›
    | (with_reducible refine Kept.pair ?_; first | with_reducible assumption | with_reducible refine Dev_estimCheckAll_kept ?_ | with_reducible refine Dev_placeImage_kept ?_ | with_reducible refine Dev_motionCheckAll_kept ?_ | with_reducible exact Kept.mk (Kept.eq (by with_reducible assumption)))
    | split
    | fail_if_no_progress beta_reduce
theorem Dev_runChecks_keq {d : Dev} {z : Dev} {w : Nat} (e : Dev.runChecks d = (z, w)) (h : Kept σ d) : Kept σ z := by
  have := Dev_runChecks_kept (σ := σ) (d := d) h; rw [e] at this; exact this

theorem Dev_startRound_kept {d : Dev} {c : Nat} (h : Kept σ d) : Kept σ (Dev.startRound d c) := by
  unfold Dev.startRound
  repeat' first
    | with_reducible assumption
    | (extract_lets +onlyGivenNames z; first | (refine (have hz : Kept σ z := ?_; ?_); (on_goal 1 => (unfold z; clear z)); (on_goal 2 => clear_value z)) | (refine (have hz : Kept σ z.1 := ?_; ?_); (on_goal 1 => (unfold z; clear z)); (on_goal 2 => clear_value z)) | clear_value z)
    | with_reducible refine Kept.ite ?_ ?_
    | with_reducible refine Dev_setCore_kept ?_
    | with_reducible refine Dev_setTask_kept ?_
    | with_reducible refine Dev_countEvent_kept ?_
    | with_reducible refine Dev_primeTask_kept ?_
    | with_reducible refine Kept.foldl (fun _ _ _ => ?_) ?_
    | with_reducible refine Kept.foldl1 (fun _ _ _ => ?_) ?_
    | with_reducible exact Kept.mk (Kept.eq (by with_reducible assumption))
    | split
    | fail_if_no_progress beta_reduce

theorem Dev_coarseReleases_kept {d : Dev} (h : Kept σ d) : Kept σ (Dev.coarseReleases d) := by
  unfold Dev.coarseReleases
  repeat' first
    | with_reducible assumption
    | (extract_lets +onlyGivenNames z; first | (refine (have hz : Kept σ z := ?_; ?_); (on_goal 1 => (unfold z; clear z)); (on_goal 2 => clear_value z)) | (refine (have hz : Kept σ z.1 := ?_; ?_); (on_goal 1 => (unfold z; clear z)); (on_goal 2 => clear_value z)) | clear_value z)
    | with_reducible refine Kept.ite ?_ ?_
    | with_reducible refine Dev_releaseCoarse_kept ?_
    | with_reducible refine Kept.foldl (fun _ _ _ => ?_) ?_
    | with_reducible refine Kept.foldl1 (fun _ _ _ => ?_) ?_
    | split
    | fail_if_no_progress beta_reduce

theorem Dev_loadConfig_kept {d : Dev} {im : Image} (h : Kept σ d) : Kept σ (Dev.loadConfig d im) := by
  unfold Dev.loadConfig
  repeat' first
    | with_reducible assumption
    | (extract_lets +onlyGivenNames z; first | (refine (have hz : Kept σ z := ?_; ?_); (on_goal 1 => (unfold z; clear z)); (on_goal 2 => clear_value z)) | (refine (have hz : Kept σ z.1 := ?_; ?_); (on_goal 1 => (unfold z; clear z)); (on_goal 2 => clear_value z)) | clear_value z)
    | with_reducible refine Kept.ite ?_ ?_
    | with_reducible refine Dev_setReg_kept ?_
    | with_reducible refine Dev_modMotion_kept ?_
    | with_reducible refine Dev_canObjectWrite_kept ?_
    | with_reducible refine Dev_hostWdcfg_kept ?_
    | with_reducible refine Dev_canCtrlWrite_kept ?_
    | with_reducible refine Kept.foldl (fun _ _ _ => ?_) ?_
    | with_reducible refine Kept.foldl1 (fun _ _ _ => ?_) ?_
    | with_reducible exact Kept.mk (Kept.eq (by with_reducible assumption))
    | split
    | fail_if_no_progress beta_reduce

theorem Dev_loadParams_kept {d : Dev} {im : Image} (h : Kept σ d) : Kept σ (Dev.loadParams d im) := by
  unfold Dev.loadParams
  repeat' first
    | with_reducible assumption
    | with_reducible refine Dev_setSig_kept ?_
    | with_reducible refine Kept.foldl (fun _ _ _ => ?_) ?_
    | with_reducible refine Kept.foldl1 (fun _ _ _ => ?_) ?_
    | fail_if_no_progress beta_reduce

theorem Dev_portsStop_kept {d : Dev} {host : Bool} (h : Kept σ d) : Kept σ (Dev.portsStop d host) := by
  unfold Dev.portsStop
  repeat' first
    | with_reducible assumption
    | (extract_lets +onlyGivenNames z; first | (refine (have hz : Kept σ z := ?_; ?_); (on_goal 1 => (unfold z; clear z)); (on_goal 2 => clear_value z)) | (refine (have hz : Kept σ z.1 := ?_; ?_); (on_goal 1 => (unfold z; clear z)); (on_goal 2 => clear_value z)) | clear_value z)
    | with_reducible refine Kept.ite ?_ ?_
    | with_reducible refine Dev_modPair_kept ?_
    | with_reducible refine Dev_modHost_kept ?_
    | with_reducible exact Kept.mk (Kept.eq (by with_reducible assumption))
    | split
    | fail_if_no_progress beta_reduce

theorem Dev_commitAll_kept {d : Dev} (h : Kept σ d) : Kept σ (Dev.commitAll d) := by
  unfold Dev.commitAll
  repeat' first
    | with_reducible assumption
    | with_reducible refine Dev_commitRecord_kept ?_
    | with_reducible refine Kept.foldl (fun _ _ _ => ?_) ?_
    | fail_if_no_progress beta_reduce

theorem Dev_roastResult_kept {d : Dev} {result code test : Nat} {map ms : Nat} (h : Kept σ d) : Kept σ (Dev.roastResult d result code test map ms) := by
  unfold Dev.roastResult
  repeat' first
    | with_reducible assumption
    | with_reducible refine Dev_setReg_kept ?_

theorem Dev_sendRaw_kept {d : Dev} {port kind : Nat} {mac : BitVec 48} {ip : Word} {bytes : List Byte} (h : Kept σ d) : Kept σ (Dev.sendRaw d port kind mac ip bytes) := by
  unfold Dev.sendRaw
  repeat' first
    | with_reducible assumption
    | (extract_lets +onlyGivenNames z; clear_value z)
    | with_reducible refine Kept.ite ?_ ?_
    | with_reducible refine Dev_modHost_kept ?_
    | with_reducible refine Dev_frameSeen_kept ?_
    | with_reducible exact Kept.mk (Kept.eq (by with_reducible assumption))
    | split
    | fail_if_no_progress beta_reduce

theorem Dev_tgReceive_kept {d : Dev} {p stamp : Nat} {bytes : List Byte} (h : Kept σ d) : Kept σ (Dev.tgReceive d p stamp bytes) := by
  unfold Dev.tgReceive
  repeat' first
    | with_reducible assumption
    | (extract_lets +onlyGivenNames z; first | (refine (have hz : Kept σ z.1 := ?_; ?_); (on_goal 1 => (unfold z; clear z)); (on_goal 2 => clear_value z)) | clear_value z)
    | with_reducible refine Kept.ite ?_ ?_
    | with_reducible refine Dev_orReg_kept ?_
    | with_reducible refine Dev_incReg_kept ?_
    | with_reducible refine Dev_eventRep_kept ?_
    | with_reducible refine Dev_take_kept ?_
    | with_reducible refine Dev_modHost_kept ?_
    | with_reducible exact Kept.mk (Kept.eq (by with_reducible assumption))
    | split
    | fail_if_no_progress beta_reduce

theorem Dev_lateStops_kept {d : Dev} {n : Nat} (h : Kept σ d) : Kept σ (Dev.lateStops d n) := by
  unfold Dev.lateStops
  repeat' first
    | with_reducible assumption
    | (extract_lets +onlyGivenNames z; first | (refine (have hz : Kept σ z := ?_; ?_); (on_goal 1 => (unfold z; clear z)); (on_goal 2 => clear_value z)) | (refine (have hz : Kept σ z.1 := ?_; ?_); (on_goal 1 => (unfold z; clear z)); (on_goal 2 => clear_value z)) | clear_value z)
    | with_reducible refine Kept.ite ?_ ?_
    | with_reducible refine Dev_takeStops_kept ?_
    | exact Dev_edgeAtTakeup_keq ‹_› ‹_›
    | split
    | fail_if_no_progress beta_reduce

theorem Dev_motionTakeup_kept {d : Dev} {n : Nat} (h : Kept σ d) : Kept σ (Dev.motionTakeup d n) := by
  unfold Dev.motionTakeup
  repeat' first
    | with_reducible assumption
    | (extract_lets +onlyGivenNames z; first | (refine (have hz : Kept σ z := ?_; ?_); (on_goal 1 => (unfold z; clear z)); (on_goal 2 => clear_value z)) | (refine (have hz : Kept σ z.1 := ?_; ?_); (on_goal 1 => (unfold z; clear z)); (on_goal 2 => clear_value z)) | clear_value z)
    | with_reducible refine Kept.ite ?_ ?_
    | with_reducible refine Dev_modMotion_kept ?_
    | with_reducible refine Dev_takeStops_kept ?_
    | with_reducible refine Dev_homeChecks_kept ?_
    | exact Dev_homeChecks_keq ‹_› ‹_›
    | with_reducible refine Dev_takeRequests_kept ?_
    | with_reducible refine Dev_lateStops_kept ?_
    | with_reducible exact Kept.mk (Kept.eq (by with_reducible assumption))
    | split
    | fail_if_no_progress beta_reduce

theorem Dev_motionFrame_kept {d d0 : Dev} {n : Nat} (h : Kept σ d) : Kept σ (Dev.motionFrame d d0 n) := by
  unfold Dev.motionFrame
  repeat' first
    | with_reducible assumption
    | (extract_lets +onlyGivenNames z; first | (refine (have hz : Kept σ z := ?_; ?_); (on_goal 1 => (unfold z; clear z)); (on_goal 2 => clear_value z)) | (refine (have hz : Kept σ z.1 := ?_; ?_); (on_goal 1 => (unfold z; clear z)); (on_goal 2 => clear_value z)) | clear_value z)
    | with_reducible refine Dev_axisRestore_kept ?_
    | with_reducible refine Dev_advance_kept ?_
    | with_reducible refine Dev_publishAxis_kept ?_
    | with_reducible refine Dev_motionTakeup_kept ?_
    | fail_if_no_progress beta_reduce

theorem Dev_closeFrame_kept {d : Dev} (h : Kept σ d) : Kept σ (Dev.closeFrame d) := by
  unfold Dev.closeFrame
  repeat' first
    | with_reducible assumption
    | (extract_lets +onlyGivenNames z; first | (refine (have hz : Kept σ z := ?_; ?_); (on_goal 1 => (unfold z; clear z)); (on_goal 2 => clear_value z)) | (refine (have hz : Kept σ z.1 := ?_; ?_); (on_goal 1 => (unfold z; clear z)); (on_goal 2 => clear_value z)) | clear_value z)
    | with_reducible refine Kept.ite ?_ ?_
    | with_reducible refine Dev_modMotion_kept ?_
    | with_reducible refine Dev_copySummary_kept ?_
    | with_reducible refine Dev_showState_kept ?_
    | with_reducible refine Dev_estimate_kept ?_
    | with_reducible refine Dev_observeMove_kept ?_
    | with_reducible refine Dev_doorFrames_kept ?_
    | with_reducible refine Dev_endMove_kept ?_
    | with_reducible refine Dev_monitors_kept ?_
    | with_reducible refine Dev_motionFrame_kept ?_
    | with_reducible refine Kept.foldl (fun _ _ _ => ?_) ?_
    | split
    | fail_if_no_progress beta_reduce


theorem Dev_flushFaults_kept {d : Dev} {c : Nat} (h : Kept σ d) : Kept σ (Dev.flushFaults d c) := by
  unfold Dev.flushFaults
  repeat' first
    | with_reducible assumption
    | (extract_lets +onlyGivenNames z; first | (refine (have hz : Kept σ z := ?_; ?_); (on_goal 1 => (unfold z; clear z)); (on_goal 2 => clear_value z)) | (refine (have hz : Kept σ z.1 := ?_; ?_); (on_goal 1 => (unfold z; clear z)); (on_goal 2 => clear_value z)) | clear_value z)
    | with_reducible refine Kept.ite ?_ ?_
    | with_reducible refine Dev_setCore_kept ?_
    | with_reducible refine Dev_event_kept ?_
    | with_reducible refine Kept.foldl (fun _ _ _ => ?_) ?_
    | with_reducible refine Kept.foldl1 (fun _ _ _ => ?_) ?_
    | with_reducible exact Kept.mk (Kept.eq (by with_reducible assumption))
    | split
    | fail_if_no_progress beta_reduce

theorem Dev_closeTick_kept {d : Dev} (h : Kept σ d) : Kept σ (Dev.closeTick d) := by
  unfold Dev.closeTick
  repeat' first
    | with_reducible assumption
    | (extract_lets +onlyGivenNames z; first | (refine (have hz : Kept σ z := ?_; ?_); (on_goal 1 => (unfold z; clear z)); (on_goal 2 => clear_value z)) | (refine (have hz : Kept σ z.1 := ?_; ?_); (on_goal 1 => (unfold z; clear z)); (on_goal 2 => clear_value z)) | clear_value z)
    | with_reducible refine Dev_modPlacer_kept ?_
    | with_reducible exact Kept.mk (Kept.eq (by with_reducible assumption))
    | fail_if_no_progress beta_reduce

theorem Dev_openCore_kept {d : Dev} {c : Nat} (h : Kept σ d) : Kept σ (Dev.openCore d c) := by
  unfold Dev.openCore
  repeat' first
    | with_reducible assumption
    | (extract_lets +onlyGivenNames z; first | (refine (have hz : Kept σ z := ?_; ?_); (on_goal 1 => (unfold z; clear z)); (on_goal 2 => clear_value z)) | (refine (have hz : Kept σ z.1 := ?_; ?_); (on_goal 1 => (unfold z; clear z)); (on_goal 2 => clear_value z)) | clear_value z)
    | with_reducible refine Dev_setCore_kept ?_
    | with_reducible refine Dev_preempt_kept ?_
    | with_reducible refine Dev_drainPosts_kept ?_
    | with_reducible exact Kept.mk (Kept.eq (by with_reducible assumption))
    | fail_if_no_progress beta_reduce

theorem Dev_extendRound_kept {d : Dev} {c : Nat} (h : Kept σ d) : Kept σ (Dev.extendRound d c) := by
  unfold Dev.extendRound
  repeat' first
    | with_reducible assumption
    | (extract_lets +onlyGivenNames z; first | (refine (have hz : Kept σ z := ?_; ?_); (on_goal 1 => (unfold z; clear z)); (on_goal 2 => clear_value z)) | (refine (have hz : Kept σ z.1 := ?_; ?_); (on_goal 1 => (unfold z; clear z)); (on_goal 2 => clear_value z)) | clear_value z)
    | with_reducible refine Kept.ite ?_ ?_
    | with_reducible refine Dev_orReg_kept ?_
    | with_reducible refine Dev_setCore_kept ?_
    | with_reducible exact Kept.mk (Kept.eq (by with_reducible assumption))
    | split
    | fail_if_no_progress beta_reduce

theorem Dev_openRound_kept {d : Dev} {c : Nat} (h : Kept σ d) : Kept σ (Dev.openRound d c) := by
  unfold Dev.openRound
  repeat' first
    | with_reducible assumption
    | (extract_lets +onlyGivenNames z; first | (refine (have hz : Kept σ z := ?_; ?_); (on_goal 1 => (unfold z; clear z)); (on_goal 2 => clear_value z)) | (refine (have hz : Kept σ z.1 := ?_; ?_); (on_goal 1 => (unfold z; clear z)); (on_goal 2 => clear_value z)) | clear_value z)
    | with_reducible refine Kept.ite ?_ ?_
    | with_reducible refine Dev_wakeFrame_kept ?_
    | with_reducible refine Dev_startRound_kept ?_
    | with_reducible refine Dev_extendRound_kept ?_
    | split
    | fail_if_no_progress beta_reduce

theorem Dev_openCores_kept {d : Dev} (h : Kept σ d) : Kept { σ with boundary := false } (Dev.openCores d) := by
  unfold Dev.openCores
  extract_lets d1 d2
  have h1 : Kept σ d1 := Kept.foldl (fun _ _ => Dev_openRound_kept) h
  have h2 : Kept { σ with boundary := false } d2 := by rw [← h1]; rfl
  clear_value d2
  exact Kept.foldl (fun _ _ => Dev_choose_kept) h2

theorem Dev_reportLoad_kept {d : Dev} {c : Nat} (h : Kept σ d) : Kept σ (Dev.reportLoad d c) := by
  unfold Dev.reportLoad
  repeat' first
    | with_reducible assumption
    | (extract_lets +onlyGivenNames z; first | (refine (have hz : Kept σ z := ?_; ?_); (on_goal 1 => (unfold z; clear z)); (on_goal 2 => clear_value z)) | (refine (have hz : Kept σ z.1 := ?_; ?_); (on_goal 1 => (unfold z; clear z)); (on_goal 2 => clear_value z)) | clear_value z)
    | with_reducible refine Kept.ite ?_ ?_
    | with_reducible refine Dev_setRegFld_kept ?_
    | with_reducible refine Dev_devNat_kept ?_
    | with_reducible refine Dev_modPlacer_kept ?_
    | with_reducible exact Kept.mk (Kept.eq (by with_reducible assumption))
    | split
    | fail_if_no_progress beta_reduce

theorem Dev_yieldToCoarse_kept {d : Dev} {c : Nat} (h : Kept σ d) : Kept σ (Dev.yieldToCoarse d c) := by
  unfold Dev.yieldToCoarse
  repeat' first
    | with_reducible assumption
    | (extract_lets +onlyGivenNames z; first | (refine (have hz : Kept σ z := ?_; ?_); (on_goal 1 => (unfold z; clear z)); (on_goal 2 => clear_value z)) | (refine (have hz : Kept σ z.1 := ?_; ?_); (on_goal 1 => (unfold z; clear z)); (on_goal 2 => clear_value z)) | clear_value z)
    | with_reducible refine Kept.ite ?_ ?_
    | with_reducible refine Dev_event_kept ?_
    | with_reducible refine Dev_choose_kept ?_
    | with_reducible refine Dev_preempt_kept ?_
    | split
    | fail_if_no_progress beta_reduce

theorem Dev_coarseTick_kept {d : Dev} (h : Kept σ d) : Kept { σ with lastTick := some d.sys.frame } (Dev.coarseTick d) := by
  unfold Dev.coarseTick
  extract_lets d1 d2 d3 d4
  have h1 : Kept { σ with lastTick := some d.sys.frame } d1 := by rw [← h]; rfl
  clear_value d1
  have h2 : Kept _ d2 := Kept.foldl (fun _ _ => Dev_reportLoad_kept) h1
  clear_value d2
  have h3 : Kept _ d3 := Dev_coarseReleases_kept (Dev_migrationTakeup_kept (Dev_migrationDecision_kept h2))
  clear_value d3
  have h4 : Kept _ d4 := Kept.foldl (fun _ _ => Dev_yieldToCoarse_kept) h3
  exact Dev_buildSignatures_kept h4

/-- The counts of the clock after a boundary: the frame count and, in RUN, the frames of R47, and operating time every 16 frames (R15). -/
def Sys.ticked (y : Sys) : Sys :=
  { y with frame := y.frame + 1, runFrames := if y.power == .run then y.runFrames + 1 else y.runFrames,
           opTime := if (y.frame + 1).toNat % 16 = 0 then y.opTime + 1 else y.opTime }

/-- The clock of a boundary changes the system's state by its counts alone. -/
theorem Dev_openClock_sys {d : Dev} : (d.openClock).sys.fixed = d.sys.ticked.fixed := by
  unfold Dev.openClock
  extract_lets z1 z2
  have h1 : Kept z1.sys.fixed z1 := rfl
  have h2 : Kept z1.sys.fixed z2 := Dev_devSig_kept h1
  exact Dev_devNat_kept (Dev_devNat_kept h2)

/-- The system's state with the supplies read as the `k`-th free values have them. -/
def Sys.supplied (y : Sys) (k : Nat) : Sys :=
  { y with rail := Config.railNow k, railLow := lowest y.railLow (Config.railNow k), vin := Config.vinNow k,
           vinLow := lowest y.vinLow (Config.vinNow k) }

/-- A reading of the supplies changes PWR_RAIL and PWR_VIN alone. -/
theorem Dev_sampleSupplies_sys {d : Dev} : d.sampleSupplies.sys.fixed = (d.sys.fixed.supplied d.sys.free).fixed := rfl

/-- The turn of the frame changes the system's state as its clock does, and reads the supplies. -/
theorem Dev_turnFrame_sys {d : Dev} :
    ∃ k, (d.turnFrame).sys.fixed = ((({ d.sys.ticked with boundary := true } : Sys).fixed.supplied k).fixed : Sys) := by
  unfold Dev.turnFrame
  extract_lets z1 r9 h9 z2 z3 z4 z5
  have h2 : z2.openClock.sys.fixed = ({ d.sys.ticked with boundary := true } : Sys).fixed := Dev_openClock_sys
  have h3 : Kept ((({ d.sys.ticked with boundary := true } : Sys).fixed.supplied z2.openClock.sys.free).fixed : Sys) z3 := by
    have e : z3.sys.fixed = (z2.openClock.sys.fixed.supplied z2.openClock.sys.free).fixed := Dev_sampleSupplies_sys
    rw [h2] at e
    exact e
  refine ⟨z2.openClock.sys.free, ?_⟩
  generalize z2.openClock.sys.free = k at h3
  clear_value z3
  have h4 := Kept.ite (c := z3.sys.frame.toNat % 16 = 15) (Dev_hsSnapshot_kept h3) h3
  change Kept _ z4 at h4
  clear_value z4
  have h5 := Kept.ite (c := z4.sys.frame.toNat % 8 = 0) (Dev_closeTick_kept h4) h4
  change Kept _ z5 at h5
  clear_value z5
  exact Kept.foldl (l := allCores) (f := fun d c => (d.openCore c).flushFaults c) (fun _ _ h => Dev_flushFaults_kept (Dev_openCore_kept h)) h5

/-- The boundary changes the system's state as its clock does, and reads the supplies. -/
theorem Dev_openFrame_sys {d : Dev} {r : Bool} :
    ∃ k, (d.openFrame r).sys.fixed = ((({ d.sys.ticked with boundary := false } : Sys).fixed.supplied k).fixed : Sys) := by
  obtain ⟨k, h⟩ := Dev_turnFrame_sys (d := d)
  refine ⟨k, ?_⟩
  have h6 : Kept _ d.turnFrame := h
  unfold Dev.openFrame
  extract_lets u z7 z8
  have h7 : Kept _ z7 := Dev_sendPair_kept (Dev_portsFrame_kept (Dev_pairBoundary_kept h6))
  clear_value z7
  have h8 := Dev_openCores_kept (Dev_countEvent_kept (ev := 1) (unit := 0) (n := 1) (Dev_drainTrace_kept (Dev_traceSync_kept h7)))
  exact h8

end Sys2Proof.Machine
end

