-- ==== Sys2Proof/Machine/Pins.lean ====
section
/-! DEFINITION. The levels of the logic pins that follow the state and have no field of their own (R391, R414, R430, R443).  ROLE_OUT is
`Pair.roleOut`, the SO and HS outputs are the channels of `Field`. -/

namespace Sys2Proof.Machine

/-- VIO3 is on from every start until KEEP or OFF is entered, and is held on through a reset (R443). -/
def Dev.vio3 (d : Dev) : Bool := d.powered || (d.sys.reset.isSome && d.sys.power != .off)

/-- What a CAN transmit pin does (R414, R443): high-impedance without VIO3, held recessive while its controller is off and throughout a
reset, else driven by the controller. -/
inductive CanPin where
  | floating
  | recessive
  | driven
deriving DecidableEq, Repr

/-- The CANc_TX pin. -/
def Dev.canTx (d : Dev) (c : Nat) : CanPin :=
  if !d.vio3 then .floating else if d.canOn c && d.sys.reset.isNone then .driven else .recessive

/-- The ETHx_LED output is low while the link is up, and released for 30 ms on each frame sent or received (R443). -/
def Dev.ledLow (d : Dev) (port : Nat) : Bool :=
  let last := if port = 0 then d.host.lastA else d.host.lastB
  (if port = 0 then d.host.linkA else d.host.linkB) && (match last with
    | some t => decide (t + 30 ≤ d.now)
    | none => true)

/-- The nibbles of a byte in the order of TRCLK's edges: the low one on the rising edge (R391). -/
def nibbles (b : Byte) : List (BitVec 4) := [b.setWidth 4, (b >>> 4).setWidth 4]

/-- What TRD0–TRD3 carry from one boundary to the next (R391): the packets sent, low nibble first, then Idle packets, of which one stands
for as many as fit; `none`, with TRCLK and TRD0–TRD3 low, with EN or PORTEN 0, in a reset and outside IDLE and RUN. -/
def Dev.traceOut (d : Dev) : Option (List (BitVec 4)) :=
  let cfg := d.reg Adr.trcCfg
  if bit cfg 1 && d.operating && d.sys.reset.isNone then some ((d.trace.port ++ [0x00]).flatMap nibbles) else none

end Sys2Proof.Machine
end

