-- ==== Sys2Proof/Tests/Slice0.lean ====
section
/-! SUPPORT. Tests: ill-formed commands that the check refuses, words written out from the encoding tables, worked examples of the
spec, and for every statement with hypotheses a state and operands that meet them, clause by clause. -/

namespace Sys2Proof.Tests

open Sys2Proof.Machine Sys2Proof.Safety

set_option maxRecDepth 4096
set_option Elab.async false

/-! ### Well-formed commands: one ill-formed term for each check -/

/-- Fields that no encoding admits. -/
theorem test_wf_instruction_fields :
    (Instr.srd 0 1 (.rel 0 3 5) 0).wf = false ∧ (Instr.srdq 0 3 (.abs 0) 0).wf = false ∧ (Instr.srdq 0 2 (.rel 0 3 0) 0).wf = false ∧
    (Instr.swr 0 1 (.rel 0 3 5)).wf = false ∧ (Instr.swri 0 1 (.rel 0 3 5)).wf = false ∧ (Instr.b 0 8 1).wf = false ∧
    (Instr.bl 0 8 1).wf = false ∧ (Instr.mvGear 0 1 2 5 true).wf = false ∧ (Instr.sysRegRead 16 3 1 1).wf = false ∧
    (Instr.sysRegWrite 16 3 1 1).wf = false ∧ (Instr.trcMark 0 3 1 1).wf = false ∧ (Instr.sysCntRead 0 3 1 1).wf = false ∧
    (Instr.imgState 0 3 1 1).wf = false ∧ (Instr.axCtrl 0 3 1 1).wf = false ∧ (Instr.instRestart 16 3 1 1).wf = false ∧
    (Instr.sysNoService 0 3 1 1 5).wf = false ∧ (Instr.sysNoService 0 2 1 1 1).wf = false := by decide

/-- Addresses outside their row's block. -/
theorem test_wf_addresses :
    (Instr.registerWrite 0x300000 0).wf = false ∧ (Instr.registerWrite 0x40042 0).wf = false ∧
    (Instr.safParameterWrite 0x200004 0).wf = false ∧ (Instr.fldConfigWrite 0x210000 0).wf = false ∧
    (Instr.canTimingWrite 1 0x220008 0).wf = false ∧ (Instr.canObjectConfigWrite 0 0x220000 0).wf = false := by decide

/-- Frames and samples the bus does not admit, and a ROAST test that is none. -/
theorem test_wf_frames :
    (CanFrame.mk 0x800 false false false false false [] 0 0).wf = false ∧
    (CanFrame.mk 1 false true false false false (List.replicate 9 0) 0 0).wf = false ∧
    (CanFrame.mk 1 false false true false false [] 0 0).wf = false ∧ (CanFrame.mk 1 false true false false true [] 0 0).wf = false ∧
    (FieldSample.mk true 0 0 [] 0 0 [] 0 0 [] 0 0 0 []).wf = false ∧ (Instr.roastAbort true 12 0).wf = false := by decide +kernel

/-! ### Words written out from the encoding tables (R61–R94 and the examples after R98) -/

theorem test_decode_alu : decode 0 0 0b0000001_00000_00000_00000_0000000000 = some (.add 0 0 0 0) ∧
    decode 3 0 0b0000001_00000_00101_00110_0000001010 = some (.cmp 3 5 6) ∧
    decode 0 0 0b0000001_00111_01000_01001_0000010000 = some (.div 0 7 8 9) ∧ decode 0 0 0b0000001_00001_00101_00110_0000001010 = none ∧
    decode 0 0 0b0000001_00001_00101_00110_0000001111 = none := by decide

theorem test_decode_saturating : decode 0 0 0b0000010_00111_01000_00000_0000000100 = some (.abss 0 7 8) ∧
    decode 0 0 0b0000010_00111_01000_01001_0000000010 = some (.mulq 0 7 8 9) ∧ decode 0 0 0b0000010_00111_01000_00001_0000000100 = none := by decide

theorem test_decode_immediates : decode 0 0 0b0001000_00011_00000_111111111111111 = some (.addi 0 3 0 0x7FFF) ∧
    decode 0 0 0b0001100_00011_00001_000000000011111 = some (.shli 0 3 1 31) ∧ decode 0 0 0b0001100_00011_00001_000000000100000 = none ∧
    decode 0 0 0b0010000_00011_11111111111111111111 = some (.ldu 0 3 0xFFFFF) := by decide

theorem test_decode_memory : decode 0 0 0b0011000_00100_00001_000000000000100 = some (.ldW 0 4 1 4) ∧
    decode 0 0 0b0011111_00100_00001_111111111111111 = some (.stB 0 4 1 0x7FFF) ∧
    decode 0 0 0b0100000_00100_00000_000000000001000 = some (.ldcW 0 4 0 8) := by decide

theorem test_decode_signals : decode 0 7 0x52480012 = some (.srdq 0 4 (.abs 0x80012) 7) ∧
    decode 0 0 0x5C70412C = some (.swr 0 7 (.rel 0 2 300)) ∧ decode 0 0 0b0101001_00101_10000000000000010010 = none ∧
    decode 0 0 0b0101100_00101_00000_11_0000000000000 = none := by decide

theorem test_decode_control : decode 0 0 0x621FFFFD = some (.bl 0 0 0x1FFFFD) ∧ decode 0 0 0b0110000_1000_000000000000000000000 = none ∧
    decode 0 0 0b0000011_00000_11111_00000_0000000001 = some (.callr 0 31) ∧ decode 0 0 0b0000100_00000_00000_00000_0000000010 = some (.waitEv 0) ∧
    decode 0 0 0b0010010_00000_00100_111111111111111 = some (.waitT 0 4 0x7FFF) ∧
    decode 0 0 0b0010001_00000_00001_000000000000010 = some (.axsel 0 1 2) ∧ decode 0 0 0 = none := by decide

theorem test_decode_motion : decode 0 0 0x80228011 = some (.mvStart 0 2 5 17 false) ∧
    decode 0 0 0b1000100_00010_00101_00000_0000000101 = some (.mvHome 0 2 5 true 2) ∧
    decode 0 0 0b1000110_00010_00000_00000_0000000011 = some (.mvMode 0 2 3) ∧ decode 0 0 0b1000001_00010_00001_00000_0000000000 = none := by decide

theorem test_decode_services : decode 16 0 0b1001010_00100_00101_00110_0000000001 = some (.sysRegRead 16 4 5 6) ∧
    decode 0 0 0b1001000_00100_00101_00110_0001111111 = some (.recPut 0 4 5 6 127) ∧
    decode 0 0 0b1001001_00100_00000_00000_0000000000 = some (.confirm 0 4) ∧
    decode 0 0 0b1001010_00100_00101_00110_1111111111 = some (.sysNoService 0 4 5 6 1023) ∧
    decode 0 0 0b1001010_00101_00101_00110_0000000001 = none := by decide

/-! ### Worked examples of the spec -/

/-- MULQ of 0x0004_C000 and 0x0000_CCCD, and ABSS of 0x8000_0000 (after R69). -/
theorem test_saturating_examples : (mulqOut 0x0004C000 0x0000CCCD).r = 0x0003CCCE ∧
    abssOut 0x80000000 = { r := 0x7FFFFFFF, c := false, v := true } := by decide

/-- The check values of R7. -/
theorem test_crc_examples : crc32c [0x31, 0x32, 0x33, 0x34, 0x35, 0x36, 0x37, 0x38, 0x39] = 0xE3069283 ∧
    crc32 [0x31, 0x32, 0x33, 0x34, 0x35, 0x36, 0x37, 0x38, 0x39] = 0xCBF43926 := by decide +kernel

/-! ### Small states -/

/-- The reset state with another module. -/
def from_ (f : Dev → Dev) : State := { State.reset with dev := f State.reset.dev }

/-- An image with one door type, of one door with axes 48 and 49, and system tasks, all with the same code. -/
def image (code : List Word) (decls : List TaskDecl) : Image :=
  { (default : Image) with
    doorTypes := [⟨code, [5, 0x80000000], decls, 4, [], [(256, 0)]⟩]
    doors := [⟨0, [48, 49], 0⟩]
    sysCode := code
    globals := [(0x88000, 0)]
    profiles := [(3, [⟨2, 0x20000000, 0x08000000⟩, ⟨2, 0x40000000, 0⟩])] }

/-- A declaration of a task with a timer trigger and a queue of one entry. -/
def decl (k : TaskKind) : TaskDecl := ⟨k, 0, 100, 64, [], 0, [.timer 8], 1, []⟩

/-- A module in RUN in which task 0 of a core runs the code. -/
def running (c : Nat) (code : List Word) (x : Task) (f : Dev → Dev := id) : State :=
  from_ fun d => f { d with
    sys := { d.sys with power := .run }
    image := some (image code [decl x.kind])
    cores := [(c, { tasks := [(0, { x with used := true, st := .running })], cur := some 0 })] }

/-- An EVENT task with room in its budget and 64 bytes of memory; g1 holds `v`. -/
def task (v : Word) : Task := { kind := .event, budget := 100, memSize := 64, regs := [(1, v)], ax := 0xC000 }

/-! ### Hypotheses of the statements about instructions: state and operands that meet them -/

/-- Whether an instruction is ready as the one word of a running task. -/
def isReady (i : Instr) (c : CoreId) (cycles : Nat) (x : Task) (f : Dev → Dev := id) : Bool :=
  ready (running c.val [(encode i).getD 0] x f) c 0 i cycles

/-- Whether an instruction is due there. -/
def isDue (i : Instr) (c : CoreId) (x : Task) (f : Dev → Dev := id) : Bool := due (running c.val [(encode i).getD 0] x f) c 0 i

/-- A task with two operands in g1 and g2. -/
def task2 (p q : Word) : Task := { task 0 with regs := [(1, p), (2, q)] }

theorem test_hyps_IntegerAlu : isReady (.add 0 3 1 2) 0 1 (task2 1 2) = true ∧ isReady (.cmp 16 1 2) 16 1 (task2 1 2) = true ∧
    isReady (.div 0 3 1 2) 0 18 { task2 7 0 with count := 82 } = true ∧ (task2 7 0).g 2 = 0 ∧
    isReady (.rem 0 3 1 2) 0 18 (task2 0x80000000 0xFFFFFFFF) = true ∧ (task2 0x80000000 0xFFFFFFFF).g 1 = 0x80000000 ∧
    isReady (.divu 0 3 1 2) 0 18 (task2 7 2) = true ∧ isReady (.div 0 3 1 2) 0 18 { task2 7 0 with count := 83 } = false := by decide +kernel

theorem test_hyps_Immediates : isReady (.addi 0 3 1 0x7FFF) 0 1 (task2 0 0) = true ∧ isReady (.shli 0 3 1 31) 0 1 (task2 1 0) = true ∧
    isReady (.ldu 0 3 0xFFFFF) 0 1 (task2 0 0) = true ∧ isReady (.cmpi 0 1 0x4000) 0 1 { task2 0 0 with kind := .background } = true := by decide +kernel

theorem test_hyps_Saturating : isReady (.mulq 0 3 1 2) 0 2 (task2 1 2) = true ∧ isReady (.divq 0 3 1 2) 0 20 (task2 7 2) = true ∧
    isReady (.divq 0 3 1 2) 0 20 (task2 1 0) = true ∧ 0 < ((task2 1 0).g 1).toInt ∧
    isReady (.divq 0 3 1 2) 0 20 (task2 0xFFFFFFFF 0) = true ∧ ((task2 0xFFFFFFFF 0).g 1).toInt < 0 ∧
    isReady (.divq 0 3 1 2) 0 20 (task2 0 0) = true ∧ isReady (.clamp 0 3 1 2) 0 1 (task2 2 1) = true := by decide +kernel

/-- Word, half-word and byte accesses at the end of a block of 64 bytes, misaligned and beyond. -/
theorem test_hyps_LoadsAndStores : address (task 60) 1 0 = 60 ∧ isReady (.ldW 0 3 1 0) 0 1 (task 60) = true ∧
    isReady (.stH 0 3 1 0) 0 1 (task 62) = true ∧ isReady (.ldBU 0 3 1 0) 0 1 (task 63) = true ∧
    address (task 62) 1 0 % 4 ≠ 0 ∧ isDue (.stW 0 3 1 0) 0 (task 62) = true ∧ isDue (.ldHU 0 3 1 0) 0 (task 63) = true ∧
    isDue (.ldW 0 3 1 0) 0 (task 64) = true ∧ (task 64).memSize < address (task 64) 1 0 + 1 ∧
    isDue (.stB 0 3 1 0) 0 (task 64) = true ∧ isDue (.ldH 0 3 1 0) 0 (task 64) = true := by decide +kernel

theorem test_hyps_Constants : isReady (.ldcW 0 3 1 0) 0 1 (task 4) = true ∧
    (running 0 [] (task 4)).dev.constsOf 0 0 = [5, 0x80000000] ∧ address (task 4) 1 0 = 4 ∧
    isReady (.ldcW 0 3 1 0) 0 1 (task 8) = true ∧ isReady (.ldcW 16 3 1 0) 16 1 (task 2) = true := by decide +kernel

theorem test_hyps_Branches : isReady (.b 0 0 0) 0 2 (task 0) = true ∧ condition (task 0) 0 = true ∧ isReady (.bl 0 9 0) 0 2 (task 0) = true ∧
    condition (task 0) 9 = true ∧ isDue (.b 0 0 1) 0 (task 0) = true ∧ isReady (.bl 0 1 5) 0 1 (task 0) = true ∧
    condition (task 0) 1 = false ∧ isReady (.jr 0 1) 0 2 (task 0) = true ∧ isDue (.callr 0 1) 0 (task 4) = true ∧
    isDue (.jr 0 1) 0 (task 2) = true := by decide +kernel

/-- The targets of those branches and jumps, in and out of a code of one word. -/
theorem test_hyps_Branches_targets : codeAddress (running 0 [0] (task 0)) 0 0 0 ∧ ¬codeAddress (running 0 [0] (task 0)) 0 0 4 ∧
    ¬codeAddress (running 0 [0] (task 0)) 0 0 2 := by
  unfold codeAddress
  decide +kernel

theorem test_hyps_TaskControl : isReady (.endTask 0) 0 1 { task 0 with kind := .frame } = true ∧ isReady (.yield 0) 0 1 (task 0) = true ∧
    isReady (.waitEv 0) 0 1 { task 0 with kind := .background } = true ∧ isReady (.waitF 0) 0 1 (task 0) = true ∧
    isReady (.waitT 0 1 0) 0 1 (task 1) = true ∧ isReady (.waitT 0 1 0) 0 1 (task 0) = true ∧
    isReady (.waitT 0 1 0) 0 1 (task 16777216) = true ∧ isDue (.yield 0) 0 { task 0 with kind := .coarse } = true := by decide +kernel

theorem test_hyps_AxisSelect : isReady (.axsel 0 1 0) 0 1 (task 1) = true ∧ (running 0 [] (task 1)).dev.axesOf 0 0 = [48, 49] ∧
    isDue (.axsel 0 1 0) 0 (task 2) = true ∧ isDue (.axsel 0 1 0x7FFF) 0 (task 0) = true ∧ isDue (.axsel 16 1 0) 16 (task 0) = true := by decide +kernel

/-- The home of user global sig.88000. -/
def homed (tier sheaf : Nat) (d : Dev) : Dev := { d with placer := { d.placer with homes := [(0x88000, ⟨tier, sheaf⟩)] } }

theorem test_hyps_SignalReads : isReady (.srd 0 3 (.abs 0x88000) 0) 0 1 (task 0) (homed 0 0) = true ∧
    isReady (.srdq 0 4 (.abs 0x88000) 9) 0 6 (task 0) (homed 1 0) = true ∧ isReady (.srd 0 3 (.rel 1 0 0) 12) 0 12 (task 0x88000) (homed 0 3) = true ∧
    isReady (.srd 0 3 (.abs 0x88000) 240) 0 240 { task 0 with kind := .background } (homed 2 0) = true ∧
    (running 0 [] (task 0)).dev.sigExists 0x88000 = true ∧ (running 0 [] (task 0)).dev.sigExists 0x88100 = false ∧
    isReady (.srd 0 3 (.rel 1 0 0) 0) 0 1 (task 0x100000) = true ∧ isDue (.srd 0 3 (.abs 0x88000) 0) 0 { task 0 with kind := .frame } (homed 2 0) = true ∧
    (running 0 [] (task 0) (homed 2 0)).dev.tierOf 0 0x88000 = .dram := by decide +kernel

/-- A full write buffer. -/
def full (d : Dev) : Dev := d.setCore 0 { d.core 0 with wbuf := List.replicate 16 ⟨0, 0x88000, 0, true, 1, 0⟩ }

theorem test_hyps_SignalWrites : isReady (.swr 0 1 (.abs 0x87000)) 0 1 (task 0) = true ∧ (running 0 [] (task 0)).dev.sigAllows 0x87000 (.door 0) = false ∧
    isReady (.swr 0 1 (.abs 0x88000)) 0 1 (task 0) (homed 0 0) = true ∧ (running 0 [] (task 0) (homed 0 0)).dev.homeCode 0x88000 = 16 ∧
    isReady (.swri 0 1 (.abs 0x88000)) 0 1 (task 0) = true ∧ (running 0 [] (task 0)).dev.sigAllows 0x88000 (.door 0) = true ∧
    isReady (.swr 0 1 (.abs 0x88000)) 0 1 { task 0 with kind := .background } full = true ∧
    ((running 0 [] (task 0) full).dev.core 0).wbuf.length = 16 ∧
    isDue (.swr 0 1 (.abs 0x88000)) 0 { task 0 with kind := .frame } (homed 2 0) = true := by decide +kernel

/-- Axis 48 with posted requests. -/
def posted (n : Nat) (d : Dev) : Dev := d.modMotion 48 fun m => { m with posted := List.replicate n (1, .stop), seq := 65535 }

theorem test_hyps_MotionIssue : isDue (.mvStop 16 2) 16 (task 0) = true ∧ isReady (.mvStart 0 2 1 4 false) 0 2 (task 0) = true ∧
    ((running 0 [] (task 0)).dev.profile 4).isNone = true ∧ ((running 0 [] (task 0)).dev.profile 3).isNone = false ∧
    isReady (.mvStart 0 2 1 3 true) 0 2 (task 0) = true ∧ isReady (.mvStop 0 2) 0 2 (task 0) (posted 4) = true ∧
    isReady (.mvStop 0 2) 0 2 (task 0) (posted 3) = true ∧ isReady (.mvSpeed 0 2 1 false) 0 2 (task 1) = true ∧
    (running 0 [] (task 1)).dev.sigVal (slotSig 48 128) = 0 ∧ isReady (.mvAccel 0 2 1 true) 0 2 (task 1) = true ∧
    isReady (.mvHome 0 2 1 true 3) 0 2 (task 1) = true ∧ isReady (.mvMode 0 2 3) 0 2 (task 1) = true ∧
    isReady (.mvGear 0 2 1 0 true) 0 2 (task 0) = true ∧ isReady (.mvGear 0 2 1 5 false) 0 2 (task 49) = true := by decide +kernel

theorem test_hyps_RecPut : isDue (.recPut 0 3 1 2 5) 0 (task2 2 4) = true ∧ isReady (.recPut 0 3 1 2 5) 0 6 (task2 4 1028) = true ∧
    isDue (.recPut 0 3 1 2 5) 0 (task2 64 4) = true ∧ isReady (.recPut 0 3 1 2 5) 0 7 (task2 60 4) = true ∧
    isReady (.recPut 16 3 1 2 127) 16 7 (task2 60 4) = true := by decide +kernel

/-- The running image is an unconfirmed trial image. -/
def trial (d : Dev) : Dev := { d with upd := { d.upd with onTrial := true, trialMinutes := 5 } }

theorem test_hyps_Confirm : isReady (.confirm 0 3) 0 4 (task 0) = true ∧ isReady (.confirm 16 3) 16 4 (task 0) = true ∧
    (from_ id).dev.upd.unconfirmed = false ∧ (from_ trial).dev.upd.unconfirmed = true ∧ (from_ trial).dev.upd.trialMinutes = 5 ∧ (from_ id).dev.upd.trialMinutes = 0 ∧ isReady (.confirm 16 3) 16 4 (task 0) trial = true ∧
    isReady (.confirm 16 3) 16 4 (task 0) (fun d => { d with upd := { d.upd with confirming := true } }) = true := by decide +kernel

theorem test_hyps_Services : isReady (.sysRegRead 0 4 1 2) 0 24 (task 0) = true ∧ isReady (.sysRegRead 16 4 1 2) 16 24 (task 0x300000) = true ∧
    inBlock 0x300000 = false ∧ inBlock 0x40042 = true ∧ isReady (.sysRegWrite 16 4 1 2) 16 24 (task 0x40042) = true ∧
    inBlock 0x200000 = true ∧ isReady (.sysRegWrite 16 4 1 2) 16 24 (task2 0x20FFFC 0) = true ∧ inBlock 0x20FFFC = true ∧
    isReady (.sysRegWrite 16 4 1 2) 16 24 (task2 0x40040 3) = true ∧ (rowOf 0x18).any (fun r => r.access == .w1c) = true ∧
    isReady (.trcMark 0 4 1 2) 0 4 (task 0) = true ∧ isReady (.sysCntRead 0 4 1 2) 0 8 (task 256) = true ∧
    isReady (.sysCntRead 0 4 1 2) 0 8 (task 255) = true ∧ isReady (.imgState 0 4 1 2) 0 8 (task 0) = true ∧
    isReady (.axCtrl 16 4 1 2) 16 4 (task 96) = true ∧ isReady (.axCtrl 0 4 1 2) 0 4 (task 95) = true ∧
    isReady (.axCtrl 0 4 1 2) 0 4 (task 127) = true ∧ isReady (.instRestart 16 4 1 2) 16 8 (task2 15 32) = true ∧
    isReady (.instRestart 16 4 1 2) 16 8 (task2 15 31) = true ∧ isReady (.sysNoService 0 4 1 2 1023) 0 4 (task 0) = true := by decide +kernel

/-- Door 0 on sheaf 0 with its axis 48 configured. -/
def slotted (d : Dev) : Dev :=
  { d.setReg (Adr.axCfg 48) 1 with placer := { d.placer with doors := [(0, { sheaf := 0, inst := 0, lanes := [], tasks := [] })] } }

theorem test_hyps_InstructionFaults : (running 0 [0] (task 0)).dev.scheduling 0 = true ∧ (running 0 [0] (task 0)).dev.fetch 0 0 = some 0 ∧
    decode 0 0 0 = none ∧ (running 0 [] (task 0)).dev.fetch 0 0 = none ∧ ((running 0 [] (task 0)).dev.core 0).cur = some 0 ∧
    (running 0 [0x02000000] (task 0)).dev.fetch 0 0 = some 0x02000000 ∧ decode 0 0 0x02000000 ≠ none ∧ State.reset.dev.operating = true ∧
    ((running 0 [] (task 0) slotted).dev.axisSheaf 48) = some 0 ∧ (running 0 [] (task 0) slotted).dev.axConfigured 48 = true ∧
    (task 0).kind ≠ .background ∧ isDue (.mul 0 1 2 3) 0 { task 0 with count := 99 } = true := by decide +kernel

theorem test_hyps_TaskFaults : ((running 15 [] { task 0 with inst := 31 }).dev.task 15 0).inst = 31 := by decide +kernel

/-! ### What one step of an instruction does -/

/-- The context of a task after a step. -/
def stepTask (s : State) (c t : Nat) : Option Task :=
  match step s with
  | .next u => some (u.dev.task c t)
  | _ => none

/-- ADD of 1 and 0xFFFF_FFFF, by the queue: 0 with Z and C. -/
theorem test_step_add :
    (stepTask { running 0 [encA 1 3 1 2 0] (task2 1 0xFFFFFFFF) with pending := [.add 0 3 1 2] } 0 0).map
      (fun x => ((x.g 3, x.pc, x.count), x.z, x.n, x.c, x.v)) = some ((0, 4, 1), true, false, true, false) := by decide +kernel

/-! ### Hypotheses of the statements about signals, time, registers and migration -/

/-- The reset state in RUN. -/
def inRun (f : Dev → Dev := id) : State := from_ fun d => f { d with sys := { d.sys with power := .run } }

theorem test_hyps_SignalStore : State.reset.dev.sigExists 0x85000 = true ∧ State.reset.dev.region 0x85000 ≠ .reserved ∧
    State.reset.dev.sigTracked 0x85000 = true ∧
    ((from_ fun d => d.setSig 0x85000 { unread := true, q := 0x10 }).dev.sig 0x85000).unread = true ∧
    ((from_ fun d => d.setSig 0x85000 { unread := true, q := 0x10 }).dev.sig 0x85000).forced = true := by decide +kernel

theorem test_hyps_FrameBoundary : State.reset.dev.sys.power = .idle ∧ (inRun).dev.sys.power = .run := by decide +kernel

theorem test_hyps_CoarseTick : State.reset.dev.operating = true ∧ State.reset.dev.sys.frame.toNat % 8 = 0 ∧
    State.reset.dev.sys.lastTick ≠ some State.reset.dev.sys.frame := by decide +kernel

/-- A waiting task, a timer trigger and a BACKGROUND turn in frame 8 of RUN. -/
def timed (st : TaskSt) (k : TaskKind) (turn : Nat) : State :=
  running 0 [] { task 0 with kind := k } fun d =>
    let d := { d with sys := { d.sys with frame := 8, runFrames := 16 } }
    let d := d.setTask 0 0 { d.task 0 0 with st := st }
    d.setCore 0 { d.core 0 with turn := turn }

theorem test_hyps_TimedEvents : (timed (.waitTime 8) .event 0).dev.scheduling 0 = true ∧ ((timed (.waitTime 8) .event 0).dev.task 0 0).st = .waitTime 8 ∧
    ((timed .waitEv .event 0).dev.decl 0 0).map (·.triggers) = some [.timer 8] ∧ ((timed .waitEv .event 0).dev.task 0 0).used = true ∧
    ((timed .waitEv .event 0).dev.task 0 0).due = [] ∧
    (timed .waitEv .event 0).dev.sys.runFrames % 8 = 0 ∧ 0 < (timed .waitEv .event 0).dev.sys.runFrames ∧ ((timed .running .background 2500).dev.core 0).cur = some 0 ∧
    ((timed .running .background 2500).dev.task 0 0).kind = .background ∧ ((timed .running .background 2500).dev.core 0).turn = 2500 ∧
    ((timed (.waitTime 9) .event 0).dev.task 0 0).st = .waitTime 9 ∧ (0 : Int) < ((9 : Word) - (timed (.waitTime 9) .event 0).dev.sys.frame).toInt ∧
    ((timed .running .background 2499).dev.core 0).turn < 2500 := by decide +kernel

/-- Two writes of one task to one home, and one of another task. -/
def writes : List Post := [⟨0, 0x88000, 1, true, 1, 0⟩, ⟨0, 0x88001, 2, true, 1, 0⟩, ⟨1, 0x88002, 3, true, 1, 0⟩]

theorem test_hyps_PostedWritesAndTriggers : writes[0]? = some ⟨0, 0x88000, 1, true, 1, 0⟩ ∧ writes.take 0 = [] ∧
    (writes.take 1).any (fun q => q.task == 0 && q.home == 1) = true ∧ (writes.take 2).any (fun q => q.task == 1 && q.home == 1) = false ∧
    ((running 0 [] (task 0)).dev.core 0).wbuf = [] ∧ ((running 0 [] (task 0)).dev.decl 0 0).map (·.depth) = some 1 ∧
    ((running 0 [] { task 0 with queue := [⟨0, 0, 0, 0⟩] }).dev.task 0 0).queue.length = 1 ∧ ((running 0 [] (task 0)).dev.task 0 0).halted = false := by decide +kernel

theorem test_hyps_RegisterWrites : rowOf 0x50 = none ∧ (rowOf 0x40040).map (·.access) = some .rw ∧ State.reset.dev.writeAction 0x40040 5 = none ∧
    (rowOf 0x18).map (·.access) = some .w1c ∧ State.reset.dev.writeAction 0x18 1 = none ∧ (rowOf 0x0).map (·.access) = some .ro ∧
    State.reset.dev.writeAction 0x0 1 = none ∧ (rowOf (Adr.hostWdcfg)).isSome = true ∧
    (State.reset.dev.writeAction Adr.hostWdcfg 5).isSome = true := by decide +kernel

/-- A door on instance 5 of sheaf 2, with a waiting restart request. -/
def restart (v halted : Word) (st : AxState) : State :=
  running 0 [] (task 0) fun d =>
    let d := { d with rstReq := [(2, (v, 7))], halted := [(2, halted)], placer := { d.placer with doors := [(0, { sheaf := 2, inst := 5, lanes := [], tasks := [] })] } }
    (d.modMotion 48 fun m => { m with st := st }).modMotion 49 fun m => { m with st := .off }

theorem test_hyps_ActionRegisters : (inRun).dev.sys.power ≠ .idle ∧ smHas (restart 5 0 .off).dev.rstReq 2 = true ∧ smGet (0, 0) (restart 5 0 .off).dev.rstReq 2 = (5, 7) ∧
    (restart 5 0 .off).dev.sys.frame ≠ 7 ∧ (restart 5 0 .off).dev.image.isSome = true ∧
    ((restart 5 0 .off).dev.doorPl 0).map (fun y => (y.sheaf, y.inst)) = some (2, 5) ∧
    (restart 0xA5000005 0 .off).dev.instanceDoor 2 5 = some 0 ∧ (restart 0xA5000006 0 .off).dev.instanceDoor 2 6 = none ∧
    (smGet 0 (restart 0xA5000005 0 .off).dev.halted 2).getLsbD 5 = false ∧
    (smGet 0 (restart 0xA5000005 0x20 .move).dev.halted 2).getLsbD 5 = true ∧
    ((restart 0xA5000005 0x20 .move).dev.axis 48).motion.st = .move ∧ ((restart 0xA5000005 0x20 .stand).dev.axis 48).motion.st = .stand ∧
    ((restart 0xA5000005 0x20 .stand).dev.axis 49).motion.st = .off ∧
    (restart 0xA5000005 0x20 .stand).dev.image.map (·.doorAxes 0) = some [48, 49] := by decide +kernel

/-- A migration of door 0 from sheaf 0 to sheaf 1, in frame 100. -/
def moving (phase : MigPhase) (rose : Bool) (h : Word) : State :=
  running 0 [] (task 0) fun d => { d.setPort 0 { st := .up } with
    sys := { d.sys with frame := 100 }
    halted := [(0, h)]
    placer := { d.placer with doors := [(0, { sheaf := 0, inst := 0, lanes := [0, 1], tasks := [0] })]
                              mig := some ⟨0, 1, false, phase, [0, 1], 0, [0], 0, 0, 99, rose, false, 98⟩
                              lastSwitch := some 36 } }

theorem test_hyps_Migration : (moving .preparing false 0).dev.placer.mig.isSome = true ∧ ((moving .ready false 0).dev.core 0).div = 1 ∧ (moving .ready false 0).dev.sys.frame ≠ 98 ∧
    (moving .ready false 0).dev.sys.power = .run ∧ (moving .ready false 0).dev.sys.leaving = false ∧ (moving .copying false 0).dev.sys.frame = 99 + 1 ∧
    ((moving .ready false 0).dev.image.map fun im => (moving .ready false 0).dev.mayMove im 0) = some true ∧ (100 - 36 : Nat) = 64 ∧
    ((moving .copying false 0).dev.doorPl 0).map (·.sheaf) = some 0 ∧
    ((moving .copying false 0).dev.doorPl 0).map (moving .copying false 0).dev.doorHalted = some false ∧
    ((moving .copying true 0).dev.placer.mig.map (·.dRose)) = some true ∧ (moving .copying false 0).dev.image.isSome = true ∧
    ((from_ fun d => d.setPort 0 { st := .lost }).dev.port 0).st = .lost ∧
    ((moving .copying false 1).dev.doorPl 0).map (moving .copying false 1).dev.doorHalted = some true := by decide +kernel

/-! ### Hypotheses of the statements about motion and the axis stream -/

/-- Axis 7 in a state of motion and of the island. -/
def axis7 (m : Motion) (x : AxSafe := {}) : State := from_ fun d => (d.modMotion 7 fun _ => m).setSafe 7 x

/-- Axis 48 one frame before the end of a move of profile 3. -/
def lastFrame : State := running 0 [] (task 0) fun d =>
  d.modMotion 48 fun _ => { st := .move, profile := 3, stretch := 2 ^ 32, stretchTo := 2 ^ 32, tau := 31 * 2 ^ 32 }

theorem test_hyps_MotionEvents_end : lastFrame.dev.profile 3 = some [⟨2, 0x20000000, 0x08000000⟩, ⟨2, 0x40000000, 0⟩] ∧
    profEnd [⟨2, 0x20000000, 0x08000000⟩, ⟨2, 0x40000000, 0⟩] ≤ (lastFrame.dev.axis 48).motion.tau + 2 ^ 32 ∧
    (lastFrame.dev.axis 48).motion.stretch = 2 ^ 32 ∧ (lastFrame.dev.axis 48).motion.stretchTo = 2 ^ 32 ∧
    (lastFrame.dev.axis 48).motion.profile = 3 := by decide +kernel

theorem test_hyps_MotionEvents : ((axis7 { st := .move, atEnd := true }).dev.axis 7).motion.atEnd = true ∧
    ((axis7 { st := .move, atEnd := true }).dev.axis 7).motion.st = .move ∧
    ((axis7 { st := .stand, standFrames := 0 }).dev.axis 7).motion.st = .stand ∧ fld ((axis7 {}).dev.par 7 133) 0 16 = 0 ∧
    ((axis7 {} { st := .held, zeroFrames := 16 }).dev.safe 7).st = .held ∧ ((axis7 {} { st := .held, zeroFrames := 16 }).dev.safe 7).zeroFrames = 16 ∧
    ((axis7 {}).dev.safe 7).st ≠ .held := by decide +kernel

/-- Port 1 in a state, enabled, with AUTORST. -/
def port1 (x : Port) : State := from_ fun d => (d.setReg (Adr.strCtrl 1) 3).setPort 1 x

theorem test_hyps_StreamLinkStart : ((port1 { st := .train, phaseFrames := 32 }).dev.port 1).st = .train ∧
    ((port1 { st := .enum, phaseFrames := 15 }).dev.port 1).phaseFrames = 15 ∧ ((port1 { st := .tables, phaseFrames := 48 }).dev.port 1).st = .tables ∧
    ((port1 { st := .config, phaseFrames := 24, startAt := some 0 }).dev.port 1).startAt = some 0 ∧
    ((port1 { st := .lost, lostFrames := 16 }).dev.port 1).lostFrames = 16 ∧ (port1 { st := .lost }).dev.reg (Adr.strCtrl 1) = 3 ∧
    (port1 {}).dev.drivesPorts = true ∧ (0xC3000001#32).toNat / 2 ^ 24 = 0xC3 ∧ (0xC3000001#32).getLsbD 0 = true ∧
    (0xC3000003#32).getLsbD 1 = true := by decide +kernel

/-- A port in RUN with an axis under way in its layout. -/
def busyPort : State := inRun fun d =>
  ((d.setReg (Adr.strCtrl 1) 3).modMotion 7 fun m => { m with st := .move }).setPort 1
    { st := .up, layout := some { axes := [⟨7, 0, 1, 0, 0, false⟩] } }

theorem test_hyps_StreamLinkStart_moving : portAxes busyPort.dev 1 = [7] ∧ (busyPort.dev.axis 7).motion.st = .move ∧
    busyPort.dev.sys.power = .run := by decide +kernel

theorem test_hyps_StreamLosses : ((port1 { st := .up, badRun := 3 }).dev.port 1).badRun = 3 ∧ ((port1 { st := .up, badRun := 2 }).dev.port 1).badRun < 3 ∧
    ((port1 { st := .up, shortRun := 3, found := 4 }).dev.port 1).shortRun = 3 ∧
    ((from_ fun d => d.setAxis 7 { chLostRun := 3 }).dev.axis 7).chLostRun = 3 ∧
    ((from_ fun d => d.setAxis 7 { chLostRun := 3 }).dev.axis 7).chLost = false ∧
    ((from_ fun d => d.setAxis 7 { chLost := true }).dev.axis 7).chLost = true := by decide +kernel

/-- Bytes with their CRC-32C behind them. -/
def withCrc (b : List Byte) : List Byte := b ++ leBytes 4 (crc32c b).toNat

/-- The CRC of such bytes is good. -/
theorem test_withCrc_good (b : List Byte) :
    leAt (withCrc b) b.length 4 = (crc32c ((withCrc b).take b.length)).toNat ∧ (withCrc b).length = b.length + 4 := by
  constructor
  · rw [withCrc, List.take_left, leAt_append_leBytes]
  · simp [withCrc]

/-- The first 3,836 bytes of a frame: a first byte, a frame number of 0, and 16 nodes. -/
def frameBody (first : Byte) : List Byte := [first, 0, 0, 0, 0, 0, 16] ++ List.replicate 3829 0

theorem test_hyps_StreamFrames_crc : (withCrc (frameBody 0x5D)).length = 3840 ∧
    leAt (withCrc (frameBody 0x5D)) 3836 4 = (crc32c ((withCrc (frameBody 0x5D)).take 3836)).toNat := by
  have h : (frameBody 0x5D).length = 3836 := by rw [frameBody, List.length_append, List.length_replicate]; rfl
  have := test_withCrc_good (frameBody 0x5D)
  rw [h] at this
  exact ⟨this.2, this.1⟩

theorem test_hyps_StreamFrames : leAt (frameBody 0x5D) 0 1 = 0x5D ∧ leAt (frameBody 0x5D) 2 4 = 0 ∧
    (port1 { st := .up }).dev.operating = true ∧ leAt (frameBody 0x5C) 0 1 ≠ 0x5D ∧ ((port1 { st := .train }).dev.port 1).st = .train ∧
    (from_ fun d => { d.setReg (Adr.strCtrl 1) 3 with pair := { d.pair with role := .standby } }).dev.drivesPorts = false ∧
    (((port1 { nodes := [(64, { requests := [⟨5, 63, 0, [], false⟩, ⟨5, 64, 3, [], false⟩] })] }).dev.port 1).node 64).requests
      = [⟨5, 63, 0, [], false⟩] ++ (⟨5, 64, 3, [], false⟩ : NodeReqSt) :: [] ∧
    (((port1 { nodes := [(64, { requests := [⟨5, 64, 2, [], false⟩] })] }).dev.port 1).node 64).requests = [] ++ (⟨5, 64, 2, [], false⟩ : NodeReqSt) :: [] ∧
    (((port1 { nodes := [(64, { requests := [⟨5, 63, 0, [], false⟩] })] }).dev.port 1).node 64).requests = [⟨5, 63, 0, [], false⟩] ∧
    (port1 {}).dev.drivesPorts = true ∧ (State.reset.dev.reg (Adr.strCtrl 1)).getLsbD 0 = false := by decide +kernel


/-! ### Hypotheses of the statements about the safety island and the field section -/

/-- The reset state with another island. -/
def isle (f : Island → Island) : State := from_ fun d => { d with island := f d.island }

theorem test_hyps_SafetyLoops : State.reset.dev.operating = true ∧ State.reset.dev.sys.frame.toNat % 16 = 0 ∧
    State.reset.dev.island.cycleAt ≠ some State.reset.dev.sys.frame ∧ (timed .running .event 0).dev.sys.frame.toNat % 16 ≠ 0 ∧
    (isle fun x => { x with cycleAt := some 0 }).dev.island.cycleAt = some 0 ∧ (isle fun x => { x with fault := 1 }).dev.island.fault ≠ 0 ∧
    ((isle fun x => { x with loops := [(3, { cond := true })] }).dev.island.loop 3).cond = true ∧
    ((isle fun x => { x with loops := [(3, { cond := true })] }).dev.island.loop 3).on = false ∧
    fld ((isle fun x => { x with loops := [(3, { cond := true })] }).dev.reg (Adr.safLoopcfg 3)) 16 10 = 0 ∧
    ((from_ fun d => d.setReg (Adr.safLoopcfg 3) 0x10000).dev.island.loop 3).held < 1 ∧
    fld ((from_ fun d => d.setReg (Adr.safLoopcfg 3) 0x10000).dev.reg (Adr.safLoopcfg 3)) 16 10 = 1 ∧
    (State.reset.dev.island.loop 3).cond = false := by decide +kernel

/-- A module in RUN, commissioned, in which loop 0 is served by group 0, closed, and its condition holds. -/
def loopOn (on : Bool := true) : State := inRun fun d =>
  { (d.setReg (Adr.safLoopcfg 0) 1).setReg (Adr.safGrpcfg0 0) 1 with
    island := { d.island with comm := true, loops := [(0, { on := on, cond := true })], groups := [(0, { closed := true, locked := true })]
                              pairs := (List.range 32).map fun i => (i, { value := true }), pairsB := (List.range 32).map fun i => (i, { value := true }) } }

/-- That loop, on, stays on through a safety cycle, and, off, may switch on. -/
theorem test_hyps_SafetyLoops_on : (loopOn.dev.island.loop 0).on = true ∧ loopOn.dev.island.comm = true ∧ loopOn.dev.operating = true ∧
    (loopOn.dev.reg (Adr.safLoopcfg 0)).getLsbD 0 = true ∧ ((loopOn false).dev.island.loop 0).cond = true ∧
    (loopOn false).dev.loopCondition 0 (loopOn false).dev.island.pair = true ∧
    (loopOn false).dev.loopCondition 0 (loopOn false).dev.island.pairB = true ∧ ((loopOn false).dev.island.loop 0).on = false ∧
    fld ((loopOn false).dev.reg (Adr.safLoopcfg 0)) 16 10 ≤ ((loopOn false).dev.island.loop 0).held := by decide +kernel

theorem test_hyps_SafetyCommands : (0x3C002007#32).getLsbD 13 = true ∧ (0x3C004007#32).getLsbD 14 = true ∧
    (0x3C004007#32).getLsbD 15 = false ∧ (0x3C00C003#32).getLsbD 15 = true ∧ (0x3C003000#32).getLsbD 14 = false ∧ (0x3C005000#32).getLsbD 13 = false ∧
    7 ∈ (from_ fun d => (d.setReg (Adr.axCfg 7) 1)).dev.axes' ∧ (0x3D002007#32).toNat / 2 ^ 24 ≠ 0x3C ∧
    ((axis7 {} { st := .torqueOff }).dev.safe 7).st = .torqueOff ∧ ((axis7 {} { st := .torqueOff }).dev.axis 7).motion.v = 0 ∧
    ((axis7 {} { st := .torqueOff }).dev.axis 7).estim.speed = 0 ∧ ((axis7 { v := 1 } { st := .torqueOff }).dev.axis 7).motion.v ≠ 0 ∧
    ((axis7 {} { st := .fault, offFrames := 16 }).dev.safe 7).st = .fault ∧
    ((axis7 {} { st := .fault, offFrames := 16 }).dev.safe 7).offFrames = 16 ∧
    ((axis7 {} { st := .fault, offFrames := 15 }).dev.safe 7).offFrames < 16 ∧
    ((isle fun x => { x with loops := [(3, { rbFault := true, offCycles := 16 })] }).dev.island.loop 3).rbFault = true ∧
    ((isle fun x => { x with loops := [(3, { rbFault := true, offCycles := 16 })] }).dev.island.loop 3).offCycles = 16 ∧
    ((isle fun x => { x with loops := [(3, { rbFault := true, offCycles := 15 })] }).dev.island.loop 3).offCycles < 16 := by decide +kernel

/-- A request at the front of the queue of a module in IDLE. -/
def req (vtype : Nat) (payload : List Byte) : VReq :=
  { port := 0, ip := 0, udp := 0, vtype := vtype, seq := 1, crc := 0, payload := payload, mac := 0, ports := [(0, 0)] }

/-- The module with that request. -/
def asked (q : VReq) (f : Dev → Dev := id) : State := from_ fun d => f { d with host := { d.host with queue := [q] } }

/-- The request may execute and is accepted. -/
def served (q : VReq) (f : Dev → Dev := id) : Bool :=
  let d := (asked q f).dev
  d.host.queue.head? == some q && !d.host.executing && d.hostPortsUp && d.vhpAccept q.vtype q.payload == 0

theorem test_hyps_SafetyParameters : State.reset.dev.sys.power = .idle ∧
    (isle fun x => { x with unlockedAt := some 0 }).dev.island.unlockedAt = some 0 ∧ State.reset.dev.now < 0 + 10000 ∧ State.reset.dev.island.unlockedAt = none ∧
    (isle fun x => { x with testDue := true }).dev.island.testDue = true ∧ State.reset.dev.island.testDue = false ∧ inSafSet 0x200004 = false ∧
    ((from_ fun d => { d with sys := { d.sys with opTime := 10000 } }).dev.now = 10000) ∧ inSafSet 0x200100 = true ∧
    (rowOf 0x200100).isSome = true ∧ (isle fun x => { x with chkBusy := true }).dev.island.chkBusy = true ∧
    served (req 6 [1, 0, 0, 0]) (fun d => { d with island := { d.island with check := 1 } }) = true ∧
    BitVec.ofNat 32 (leAt [1, 0, 0, 0] 0 4) = 1 ∧ served (req 6 [1, 0, 0, 0]) = true ∧ BitVec.ofNat 32 (leAt [1, 0, 0, 0] 0 4) ≠ State.reset.dev.island.check ∧
    (isle fun x => { x with testAge := 1440 }).dev.island.testAge.toNat = 1440 ∧ State.reset.dev.island.testAge.toNat < 1440 := by decide +kernel

/-- Telegram source 3 in use, with SRC 5 and DST 9. -/
def sourceOn (d : Dev) : Dev := (d.setReg (Adr.safTgcfg 3) 0x15).setReg (Adr.safTgid 3) 0x00090005

/-- The first 48 bytes of a telegram of that source, with SEQ 1. -/
def tgHead : List Byte := [5, 0, 9, 0, 1, 0, 0, 0] ++ List.replicate 40 0

/-- That telegram, with its CRC and its authentication code. -/
def telegram : List Byte := withCrc tgHead ++ (hmac ((from_ sourceOn).dev.tgKey 3) (withCrc tgHead)).take 8

theorem test_hyps_SafeTelegrams_valid : (from_ sourceOn).dev.tgCheck telegram 0 = (some 3, none) := by decide +kernel

/-- A copy of that telegram whose window has ended, within ALLOW after the last accepted pair, and one for which ALLOW is 0. -/
def single (allow : Word) : State := from_ fun d =>
  { (sourceOn d).setReg (Adr.safTgcfg 3) (0x15 + allow * 65536) with
    island := { d.island with sources := [(3, { waiting := [⟨0, 0, telegram, 0⟩], pairStamp := some 0 })] } }

theorem test_hyps_SafeTelegrams_alone : (((single 20).dev.island.source 3).waiting.find? fun c => decide (c.stamp + 200 ≤ 200) && !(single 20).dev.tgPartner c) = some ⟨0, 0, telegram, 0⟩ ∧
    ((single 20).dev.island.source 3).pairStamp = some 0 ∧ fld ((single 20).dev.reg (Adr.safTgcfg 3)) 16 13 = 20 ∧
    ((single 20).dev.island.source 3).fresh (tgSeq telegram) (tgTime telegram) 0 = true ∧
    fld ((single 0).dev.reg (Adr.safTgcfg 3)) 16 13 = 0 := by decide +kernel

theorem test_hyps_SafeTelegrams : (from_ sourceOn).dev.tgCheck (tgHead ++ List.replicate 12 0) 0 = (some 3, some 0x3020) ∧
    (∀ j, j < 4 → ((from_ sourceOn).dev.island.source j).waiting = []) ∧
    (from_ fun d => { d with host := { d.host with tgA := [⟨0, []⟩] } }).dev.host.tgA = [⟨0, []⟩] ∧
    ((isle fun x => { x with sources := [(3, { waiting := [⟨0, 0, [], 0⟩] })] }).dev.island.source 3).waiting.find?
      (fun c => decide (c.stamp + 200 ≤ 200) && !State.reset.dev.tgPartner c) = some ⟨0, 0, [], 0⟩ ∧
    ((isle fun x => { x with sources := [(3, { acceptedOp := some 0 })] }).dev.island.source 3).acceptedOp = some 0 ∧
    ((from_ sourceOn).dev.reg (Adr.safTgcfg 3)).getLsbD 0 = true ∧ fld ((from_ sourceOn).dev.reg (Adr.safTgcfg 3)) 1 11 = 10 := by decide +kernel

/-- The first copy of that telegram waits, from port A; the second arrives on port B. -/
def waitingCopy : State := from_ fun d =>
  { sourceOn d with island := { d.island with sources := [(3, { waiting := [⟨0, 0, telegram, 0⟩] })] } }

theorem test_hyps_SafeTelegrams_second : (waitingCopy.dev.island.source 3).waiting.find? (fun c => tgSeq c.bytes == tgSeq telegram)
    = some ⟨0, 0, telegram, 0⟩ ∧ waitingCopy.dev.tgCheck telegram 200 = (some 3, none) := by decide +kernel

/-- A sample of the field section. -/
def sample (good : Bool) : FieldSample :=
  { good := good, diA := 1, diB := 1, diVolt := List.replicate 64 0, hsHigh := 0, hsAtLimit := 0, hsCurrent := List.replicate 32 0
    soOn := 0, soPulseFell := 0, soCurrent := List.replicate 8 0, v24f := 24000, huskSupply := 5000, caseTemp := 300 }

/-- The reset state with another field section, its husk powered. -/
def husk (f : Field → Field := id) : State := from_ fun d => { d with field := f { d.field with powered := true } }

theorem test_hyps_BarrierLink : (husk).dev.operating = true ∧ (sample true).good = true ∧ (husk).dev.field.powered = true ∧
    (sample false).good = false ∧ ((husk).dev.sig 0x80302).forced = false ∧
    (husk fun x => { x with linkUp := true, upBad := 3 }).dev.field.linkUp = true ∧ (husk fun x => { x with upBad := 3 }).dev.field.upBad = 3 ∧
    (husk fun x => { x with upBad := 2 }).dev.field.upBad < 3 ∧ (husk fun x => { x with upGood := 16 }).dev.field.upGood = 16 ∧
    (husk).dev.field.linkUp = false ∧ (husk fun x => { x with dnBadRun := 2 }).dev.field.dnBadRun = 2 ∧
    fld ((husk).dev.huskReg Adr.fldBlcfg) 0 8 = (husk fun x => { x with dnBadRun := fld ((husk).dev.huskReg Adr.fldBlcfg) 0 8 }).dev.field.dnBadRun ∧
    (husk).dev.field.cfgFull = false ∧ (husk).dev.field.cfgWords = [] ∧ (State.reset).dev.field.powered = false ∧
    ((husk fun x => { x with hsCmd := 1, hs := [(0, { lastChange := some 0 })] }).dev.field.hsCmd.getLsbD 0 ≠
      ((husk fun x => { x with hsCmd := 1, hs := [(0, { lastChange := some 0 })] }).dev.field.chan 0).cmd) ∧ (husk).dev.now < 0 + 20 ∧
    (husk).dev.field.recovery = false ∧ (husk).dev.field.roastHold = false ∧ (husk).dev.lead 31 = 31 ∧
    (husk fun x => { x with cfg := [(Adr.fldHscfg 31, 0x20)] }).dev.hsFailsafe 31 = 2 ∧ (husk fun x => { x with cfg := [(Adr.fldHscfg 31, 0x10)] }).dev.hsFailsafe 31 = 1 ∧
    (husk fun x => { x with recovery := true, cfgComplete := true, recGood := 16 }).dev.field.recGood = 16 := by decide +kernel

theorem test_hyps_FieldSupplies : (husk).dev.field.powered = true ∧ (husk).dev.field.uv = false ∧
    (husk fun x => { x with uv := true }).dev.field.uv = true ∧ (husk).dev.field.roastHold = false ∧ inFldConfig 0x210000 = false ∧ (husk).dev.drivesPorts = true ∧
    ((husk).dev.drvPin 31 ≠ some 3) ∧ inFldConfig Adr.fldBlcfg = true ∧ (rowOf Adr.fldBlcfg).isSome = true ∧
    inFldConfig 0x210100 = true ∧ (rowOf 0x210100).isSome = true ∧ inFldConfig 0x210200 = true ∧ (rowOf 0x210200).isSome = true ∧
    fld (1#32) 0 8 < 2 ∧ fld (0x1500#32) 8 5 = 21 ∧ fld (0x1400#32) 8 5 = 20 ∧ (inRun).dev.sys.power ≠ .idle := by decide +kernel

/-- Channel 31 in a state, with a configuration. -/
def chan31 (x : Hs) (cfg : Word := 0x104) (op : Nat := 0) : State := from_ fun d =>
  { d with
    sys := { d.sys with opTime := BitVec.ofNat 48 op }
    field := { d.field with powered := true, hs := [(31, x)], v24fHusk := 1680, cfg := [(Adr.fldHscfg 31, cfg)] } }

theorem test_hyps_FieldChannels : ((chan31 { deferred := some false, lastChange := some 0 } 0x104 20).dev.field.chan 31).deferred = some false ∧
    (chan31 {} 0x104 20).dev.now = 20 ∧ (chan31 {} 0x104 19).dev.now < 20 ∧ (chan31 {}).dev.lead 31 = 31 ∧ (chan31 {}).dev.ganged 31 = false ∧
    ((chan31 { on := true }).dev.field.chan 31).on = true ∧ ((chan31 {}).dev.huskReg (Adr.fldHscfg 31)).getLsbD 2 = true ∧ (chan31 {}).dev.field.roastHold = false ∧
    ((chan31 { on := true, curve := 20 * 10 ^ 10 }).dev.field.chan 31).curve = curveK (fld ((chan31 {}).dev.huskReg (Adr.fldHscfg 31)) 0 2) ∧
    0 < curveK (fld ((chan31 {}).dev.huskReg (Adr.fldHscfg 31)) 0 2) ∧ (chan31 {}).dev.drivesPorts = true ∧
    (chan31 {}).dev.drvPin 31 = none ∧ ((chan31 { on := true, retries := 7 } 0x104 100).dev.field.chan 31).retries < 8 ∧
    (chan31 {} 0x104 100).dev.now ≤ ((chan31 {} 0x104 100).dev.field.chan 31).onSince + 100 ∧
    ((chan31 { on := true, retries := 8 }).dev.field.chan 31).retries = 8 ∧ ((chan31 { retryPending := true }).dev.field.chan 31).retryPending = true ∧
    ((chan31 { thermLatch := true, hot := true }).dev.field.chan 31).hot = true ∧
    ((from_ fun d => { d with field := { d.field with raised := 0x80 } }).dev.field.raised.getLsbD 7 = true) ∧
    (chan31 {} 0x104 40).dev.now = 40 ∧ (chan31 {}).dev.field.v24fHusk.toNat = 1680 ∧
    ((chan31 { on := true, olLow := 51 } 0x140).dev.huskReg (Adr.fldHscfg 31)).getLsbD 6 = true ∧
    ((chan31 { on := true, olHigh := 51, openLoad := true } 0x140).dev.huskReg (Adr.fldHscfg 31)).getLsbD 7 = false ∧
    ((chan31 {}).dev.field.limitNow ||| (chan31 {}).dev.field.limitPrev).getLsbD 7 = false ∧
    ((chan31 { openLoad := true } 0x140).dev.field.chan 31).openLoad = true ∧ ((chan31 {} 0x1C0).dev.huskReg (Adr.fldHscfg 31)).getLsbD 7 = true ∧
    (smGet {} (husk fun x => { x with so := [(7, { on := true })] }).dev.field.so 7 : So).on = true := by decide +kernel

/-! ### Hypotheses of the statements about the pair -/

/-- The reset state with another pair unit. -/
def paired (p : PairUnit) (f : Dev → Dev := id) : State := from_ fun d => f { d with pair := p }

/-- A pair frame without mirror part. -/
def pairFrame : List Byte := withCrc ([0xA8] ++ List.replicate 59 0)

theorem test_hyps_PairEvents : leAt pairFrame 0 1 = 0xA8 ∧ pairFrame.length = 64 ∧ leAt pairFrame 60 4 = (crc32c (pairFrame.take 60)).toNat ∧
    (paired { role := .standby }).dev.pair.role ≠ .unpaired ∧ (paired {}).dev.operating = true ∧ leAt [] 0 1 ≠ 0xA8 ∧
    (paired { role := .seek, unit1 := true, claimFrames := 128 }).dev.pair.claimFrames = 128 ∧
    (paired { role := .seek, claimFrames := 63 }).dev.pair.claimFrames < 64 ∧ (paired { role := .seek, linkAge := 3 }).dev.pair.linkAge = 3 ∧
    (paired { role := .seek, disagree := 3 }).dev.pair.disagree = 3 ∧
    fld ((paired { role := .active, partnerActAge := 60 } fun d => d.setReg Adr.pairCfg 0x100).dev.reg Adr.pairCfg) 8 16 = 1 := by decide +kernel

/-- A pair frame with mirror part has the length of its TYPE. -/
theorem test_hyps_PairEvents_mirror : (withCrc (0xA7 :: List.replicate 6959 0)).length = 6964 ∧
    leAt (withCrc (0xA7 :: List.replicate 6959 0)) 6960 4 = (crc32c ((withCrc (0xA7 :: List.replicate 6959 0)).take 6960)).toNat := by
  have h : (0xA7 :: List.replicate 6959 0 : List Byte).length = 6960 := by rw [List.length_cons, List.length_replicate]
  have := test_withCrc_good (0xA7 :: List.replicate 6959 0)
  rw [h] at this
  exact ⟨this.2, this.1⟩

theorem test_hyps_RoleChanges : (paired { role := .standby, missed := 3, eligAtLast := true, listenMissed := 1 }).dev.pair.missed = 3 ∧
    (paired { role := .standby, missed := 3 }).dev.operating = true ∧ (paired { role := .standby, missed := 3 }).dev.pair.listenMissed = 0 ∧
    (paired { role := .standby, missed := 3, listenMissed := 1 }).dev.pair.eligAtLast = false ∧ (paired { role := .standby, missed := 2 }).dev.pair.missed < 3 ∧
    (paired { role := .standby, handover := true, eligAtLast := true }).dev.pair.handover = true ∧ (0x6B000001#32).getLsbD 0 = true ∧ (0x6B000000#32).getLsbD 0 = false ∧
    (0x6B000001#32).toNat / 2 ^ 24 = 0x6B ∧ (paired { role := .active, swapReq := some 0x6B000001, partnerElig := true }).dev.axes' = [] ∧
    (paired { role := .active, swapReq := some 0x6B000001, partnerElig := true }).dev.pair.partnerElig = true := by decide +kernel

/-! ### Hypotheses of the statements about the host ports and the host protocol -/

theorem test_hyps_HostPorts : State.reset.dev.hostPortsUp = true ∧ State.reset.dev.host.ip 1 = 0xC0A8650A ∧ State.reset.dev.operating = true ∧
    (State.reset.dev.host.recentEchoes 0 0).length < 20 ∧
    ((from_ fun d => { d with host := { d.host with echoes := List.replicate 20 1 } }).dev.host.recentEchoes 1 999).length = 20 ∧
    (from_ fun d => { d with host := { d.host with linkB := true } }).dev.host.linkB = true ∧ telegramDatagram [] = false ∧
    (from_ fun d => { d with host := { d.host with tgB := List.replicate 16 ⟨0, []⟩ } }).dev.host.tgB.length = 16 ∧
    fld ((from_ fun d => { d.setReg Adr.hostWdcfg 0x64 with sys := { d.sys with opTime := 100 } }).dev.reg Adr.hostWdcfg) 0 16 = 100 ∧
    (from_ fun d => { d.setReg Adr.hostWdcfg 0x64 with sys := { d.sys with opTime := 100 } }).dev.now = 100 ∧ (0xB4#32).toNat % 256 = 0xB4 ∧
    netConfigOk (State.reset.dev.reg Adr.hostIpa) (State.reset.dev.reg Adr.hostIpb) (State.reset.dev.reg Adr.hostNetcfg) = true ∧
    netConfigOk 0 0 0 = false := by decide +kernel

/-- A frame for the module's own address and port. -/
def linkIn (p : HostPort) (toPort : BitVec 16) : LinkIn := { port := p, dst := ownMac p.val, toIp := State.reset.dev.host.ip p.val, toPort := toPort }

theorem test_hyps_HostPorts_frame : (linkIn 1 48201).dst = ownMac 1 ∧ (linkIn 1 48201).fcsGood = true ∧ (linkIn 1 48201).vlan = false ∧
    (linkIn 1 48201).header = 20 ∧ (linkIn 1 48201).fragment = false ∧ (linkIn 1 48201).toIp = State.reset.dev.host.ip 1 ∧
    (linkIn 1 48201).toPort = 48201 ∧ (linkIn 1 48201).sum ≠ .bad ∧ (linkIn 1 48201).full = false ∧
    ({ linkIn 0 48200 with full := true }).full = true ∧ ({ linkIn 0 48200 with vlan := true }).vlan ≠ false ∧ 46 + 1472 ≤ 1518 :=
  ⟨rfl, rfl, rfl, rfl, rfl, rfl, rfl, by decide, rfl, rfl, by decide, by decide⟩

/-- A telegram datagram, and one of another type. -/
theorem test_hyps_HostPorts_telegram : telegramDatagram (withCrc ([0x56, 0x48, 1, 0x30, 0, 0, 0, 0, 60, 0, 0, 0, 0, 0, 0, 0] ++ List.replicate 60 0)) = true ∧
    telegramDatagram (withCrc ([0x56, 0x48, 1, 0x31, 0, 0, 0, 0, 60, 0, 0, 0, 0, 0, 0, 0] ++ List.replicate 60 0)) = false := by decide +kernel

/-- A command datagram with a header and a payload. -/
def datagram (first version vtype len : Byte) (payload : List Byte) : List Byte :=
  withCrc ([first, 0x48, version, vtype, 1, 0, 0, 0, len, 0, 0, 0, 0, 0, 0, 0] ++ payload)

/-- Bytes that pass the first check of R317. -/
def intact (b : List Byte) : Bool :=
  decide (20 ≤ b.length) && leAt b 0 2 == 0x4856 && BitVec.ofNat 32 (leAt b (b.length - 4) 4) == crc32c (b.take (b.length - 4))

theorem test_hyps_VhpDatagrams : intact (datagram 0x56 1 1 8 [0, 0, 0, 0, 1, 0, 0, 0]) = true ∧ intact (datagram 0x57 1 1 0 []) = false ∧
    intact [] = false ∧ leAt (datagram 0x56 2 1 0 []) 2 1 ≠ 1 ∧ intact (datagram 0x56 2 1 0 []) = true ∧
    (datagram 0x56 1 1 8 [0, 0, 0, 0, 1, 0, 0, 0]).length = 20 + 8 ∧ intact (datagram 0x56 1 1 9 []) = true ∧
    (datagram 0x56 1 1 9 []).length ≠ 29 ∧ State.reset.dev.sys.power ≠ .roast ∧ vhpParse 1 [0, 0, 0, 0, 1, 0, 0, 0] = 0 ∧ vhpParse 1 [] ≠ 0 ∧
    State.reset.dev.vhpAccept 1 [] = 0 ∧ (paired { role := .standby }).dev.vhpAccept 5 [] ≠ 0 ∧
    (State.reset.dev.host.endpoint 0 0).find 1 = none ∧
    ({ State.reset.dev.host with endpoints := [⟨0, 0, [⟨1, 2, some []⟩]⟩] }.endpoint 0 0).find 1 = some ⟨1, 2, some []⟩ ∧
    ({ State.reset.dev.host with endpoints := [⟨0, 0, [⟨1, 0, none⟩]⟩] }.endpoint (req 7 []).ip (req 7 []).udp).find (req 7 []).seq = some ⟨1, (req 7 []).crc, none⟩ ∧
    (from_ fun d => { d with host := { d.host with queue := List.replicate 32 (req 1 []) } }).dev.host.queue.length = 32 := by decide +kernel

theorem test_hyps_VhpResponses : (asked (req 2 []) fun d => { d with pair := { d.pair with role := .standby } }).dev.vhpAccept 2 [] = 0x5009 ∧
    (asked (req 2 []) fun d => { d with pair := { d.pair with role := .standby } }).dev.hostPortsUp = true ∧
    (asked (req 5 [3]) fun d => { d with sys := { d.sys with power := .roast } }).dev.vhpAccept 5 [3] = 0x500A ∧ leAt [3] 0 1 = 3 ∧
    (asked (req 5 [3]) fun d => { d with sys := { d.sys with power := .roast } }).dev.hostPortsUp = true := by decide +kernel

/-- A request payload: an address and a count. -/
def range8 (addr count : Nat) : List Byte := leBytes 4 addr ++ leBytes 2 count ++ [0, 0]

theorem test_hyps_VhpRegistersAndReads : served (req 1 (range8 0x40040 2)) = true ∧ inBlock 0x40040 = true ∧ inBlock 0x40044 = true ∧
    leAt (range8 0x40040 2) 0 4 = 0x40040 ∧ leAt (range8 0x40040 2) 4 2 = 2 ∧ 0x40040 ≠ Adr.sysOptlo ∧ inBlock Adr.sysOptlo = true ∧
    served (req 1 (range8 Adr.sysOptlo 1)) = true ∧ served (req 2 (range8 0x40040 1 ++ [1, 2, 3, 4])) = true ∧
    served (req 1 (range8 0x40042 1)) = true ∧ 0x40042 % 4 ≠ 0 ∧ served (req 2 (range8 0x300000 1)) = true ∧ inBlock 0x300000 = false ∧
    served (req 7 []) = true ∧ served (req 0x11 []) = true ∧ served (req 0x40 (range8 0 4)) = true ∧ served (req 0x41 [0, 0, 1, 0]) = true ∧
    served (req 0x20 [0, 0, 0, 0, 0, 0, 0, 0]) = true ∧ served (req 0x20 [1, 0, 7, 0, 5, 0, 0, 0, 0, 0, 0, 0]) = true ∧
    State.reset.dev.axConfigured 7 = false ∧ (from_ fun d => d.setReg (Adr.axCfg 7) 1).dev.axConfigured 7 = true ∧
    (((from_ fun d => d.setAxis 7 { cycle := { buffers := [(0, { cycle := 5 })] } }).dev.axis 7).cycle.buffers.any fun b => b.2.cycle == 5) = true ∧
    leAt [1, 0, 7, 0, 5, 0, 0, 0, 0, 0, 0, 0] 4 4 = 5 ∧ served (req 0x20 [2, 0, 7, 0, 0, 0, 4, 0]) = true := by decide +kernel

/-- One entry of SIG.WRITE. -/
def entry (mode : Byte) (sig value : Nat) : List Byte := [1, 0, mode, 0] ++ leBytes 4 sig ++ leBytes 4 value

theorem test_hyps_VhpSignals : served (req 3 [1, 0, 0, 0, 0, 0, 8, 0]) = true ∧ served (req 4 (entry 0 0x85000 7)) = true ∧
    leAt (entry 3 0x85000 7) 2 1 = 3 ∧ leAt (entry 3 0x85000 7) 0 2 = 1 ∧ leAt (entry 3 0x85000 7) 4 4 = 0x85000 ∧
    State.reset.dev.sigExists 0x85000 = true ∧ State.reset.dev.sigAllows 0x85000 .host = true ∧ State.reset.dev.sigForceable 0x85000 = true ∧
    State.reset.dev.sigExists 0x88000 = false ∧ State.reset.dev.sigAllows 0x87000 .host = false ∧ State.reset.dev.sigForceable 0x87000 = false ∧
    (State.reset.dev.sig 0x85000).forced = false ∧ ((from_ fun d => d.setSig 0x85000 { q := 0x10 }).dev.sig 0x85000).forced = true := by decide +kernel

/-- Port 1 with node 64 known, and its reply blocks. -/
def node64 (x : Node) (d : Dev) : Dev := d.setPort 1 { st := .up, nodes := [(64, x)] }

theorem test_hyps_VhpNodes : served (req 0x50 [1, 64, 5, 0, 4, 0, 0, 0, 1, 2, 3, 4]) (node64 { known := true }) = true ∧
    ((asked (req 0x50 []) (node64 { known := true })).dev.port 1).st = .up ∧
    (((asked (req 0x50 []) (node64 { known := true })).dev.port 1).node 64).known = true ∧ leAt [1, 64, 5, 0, 4, 0, 0, 0, 1, 2, 3, 4] 2 1 = 5 ∧
    (State.reset.dev.port 1).st ≠ .up ∧ (((asked (req 0x50 []) (node64 {})).dev.port 1).node 64).known = false ∧
    served (req 0x51 [1, 64, 0, 0]) (node64 { gaveUp := true }) = true ∧
    (((asked (req 0x51 []) (node64 { gaveUp := true })).dev.port 1).node 64).gaveUp = true ∧
    (((asked (req 0x51 []) (node64 {})).dev.port 1).node 64).gaveUp = false ∧ (asked (req 0x51 []) (node64 {})).dev.waitingReplies 1 64 = [] ∧
    ((asked (req 0x51 []) (node64 { replies := [⟨1, 64, 5, 1, 3, [], 0⟩] })).dev.waitingReplies 1 64) = [⟨1, 64, 5, 1, 3, [], 0⟩] := by decide +kernel

/-! ### Hypotheses of the statements about power -/

/-- A module in a power state. -/
def powered (f : Sys → Sys) : State := from_ fun d => { d with sys := f d.sys }

theorem test_hyps_StateRequests : served (req 5 [5, 0, 0, 0]) = true ∧ leAt [5, 0, 0, 0] 0 1 = 5 ∧
    served (req 5 [3, 0, 0, 0]) (fun d => { d with sys := { d.sys with power := .run } }) = true ∧ served (req 5 [3, 0, 0, 0]) = true ∧
    (asked (req 5 [3, 0, 0, 0])).dev.runChecks.2 = 0x7031 ∧
    (asked (req 5 [3, 0, 0, 0]) fun d => { d with image := some default }).dev.image.isSome = true ∧
    (asked (req 5 [3, 0, 0, 0]) fun d => { d with image := some default, sys := { d.sys with runHold := true } }).dev.sys.runHold = true ∧
    (asked (req 5 [3, 0, 0, 0]) fun d => { d with image := some default }).dev.safInvalid = false := by decide +kernel

/-- The checks of an entry to RUN pass with an image that has no task and a configuration at its reset values. -/
theorem test_hyps_StateRequests_enter :
    (asked (req 5 [3, 0, 0, 0]) fun d => { d with image := some default }).dev.runChecks.2 = 0 := by decide +kernel

theorem test_hyps_StateChanges : (powered fun y => { y with entering := true, enterAt := some 0, frame := 736 }).dev.sys.frame.toNat % 8 = 0 ∧
    ((powered fun y => { y with entering := true, enterAt := some 0, frame := 736 }).dev.sys.frame - 0).toNat = 736 ∧
    ((powered fun y => { y with entering := true, enterAt := some 0, frame := 735 }).dev.sys.frame - 0).toNat < 736 ∧
    State.reset.dev.axes' = [] ∧ (powered fun y => { y with leaving := true, departAt := some 0, frame := 1 }).dev.sys.leaving = true ∧
    (powered fun y => { y with shutdown := some (.roast, .draining) }).dev.sys.shutdown = some (.roast, .draining) ∧
    State.reset.dev.recorder.pendq = [] ∧ State.reset.dev.recorder.lifeQueue = [] ∧ State.reset.dev.pair.role ≠ .active ∧
    (powered fun y => { y with shutdown := some (.keep, .draining) }).dev.sys.wake = none ∧
    (paired { role := .active } fun d => { d with sys := { d.sys with shutdown := some (.off, .draining) } }).dev.pair.role = .active := by
  decide +kernel

theorem test_hyps_Starts : (powered fun y => { y with power := .off }).dev.sys.power = .off ∧ State.reset.dev.sys.power = .idle ∧
    State.reset.dev.sys.shutdown = none ∧ (powered fun y => { y with power := .keep }).dev.sys.reset = none ∧
    (powered fun y => { y with power := .keep, reset := some .brown }).dev.sys.rstnLow = false ∧
    (powered fun y => { y with power := .keep, reset := some .rstn, rstnLow := true }).dev.sys.rstIgn = false ∧
    (powered fun y => { y with power := .keep, starting := some .wake }).dev.sys.starting = some .wake ∧
    (State.reset.dev.reg Adr.pairCfg).getLsbD 0 = false ∧ ((from_ fun d => d.setReg Adr.pairCfg 1).dev.reg Adr.pairCfg).getLsbD 0 = true ∧
    State.reset.dev.sys.starting = none := by decide +kernel

theorem test_hyps_SupplyAndReset : State.reset.dev.sys.div < 2 ∧ (powered fun y => { y with div := 2 }).dev.sys.div < 4 ∧
    (powered fun y => { y with div := 4 }).dev.operating = true ∧ State.reset.dev.sys.div ≤ 1 ∧
    (powered fun y => { y with power := .keep }).dev.operating = false ∧ (powered fun y => { y with power := .keep }).dev.sys.starting = none ∧
    State.reset.dev.sys.vinFailed = false ∧ (powered fun y => { y with power := .keep, vinFailed := true }).dev.sys.vinFailed = true ∧
    State.reset.dev.sys.rstIgn = false ∧ (powered fun y => { y with rstnLow := true }).dev.sys.rstnLow = true ∧
    (powered fun y => { y with rstnLow := true, reset := some .rstn }).dev.sys.reset ≠ none ∧
    (powered fun y => { y with rstIgn := true }).dev.sys.rstnLow = false := by decide +kernel

theorem test_hyps_PowerStateMoves : exec .recordCommit State.reset = .next State.reset := by rfl

theorem test_hyps_PowerInvariant : powerInv State.reset.dev ∧ step State.reset = .next State.reset := by
  constructor
  · simp [powerInv, State.reset]
  · rfl

theorem test_hyps_QueueServed : step { State.reset with pending := [.rstnRelease] } = .next State.reset := by rfl

/-! ### Hypotheses of the statements about CAN, the recorder, the update and ROAST -/

/-- CAN 1 on, with object 254 configured, and its state. -/
def canOne (cfg : Word) (x : CanObj) (f : Can → Can := id) (fr op : Nat := 0) : State := from_ fun d =>
  { ((d.setReg (Adr.canCtrl 1) 1).setReg (Adr.canObjcfg 1 254) cfg).setCan 1 (f { d.can 1 with objs := [(254, x)] }) with
    sys := { d.sys with frame := BitVec.ofNat 32 fr, opTime := BitVec.ofNat 48 op } }

theorem test_hyps_CanControl : canTimingOk 0x003B8000 0x00060700 = true ∧
    canTimingOk (State.reset.dev.reg (Adr.canNbt 1)) (State.reset.dev.reg (Adr.canDbt 1)) = false ∧ (State.reset.dev.reg (Adr.canCtrl 1)).getLsbD 0 = false ∧ ((canOne 1 {}).dev.reg (Adr.canCtrl 1)).getLsbD 0 = true ∧
    (rowOf (Adr.canTdc 1)).isSome = true ∧ ((canOne 1 {}).dev.canCfg 1 254).getLsbD 0 = true ∧ (State.reset.dev.canCfg 1 255).getLsbD 0 = false ∧
    (canOne 1 {}).dev.canObjectOk 1 255 (1 &&& 0xFFFFFF07) = false ∧ State.reset.dev.canObjectOk 1 255 (1 &&& 0xFFFFFF07) = true ∧
    (0x7E000001#32).toNat / 2 ^ 24 = 0x7E ∧ ((canOne 1 {} fun x => { x with busOff := true, recovering := true }).dev.can 1).recovering = true ∧
    (canOne 1 {}).dev.canOn 1 = true ∧ ((canOne 1 {}).dev.can 1).tec ≤ 255 ∧ (paired { role := .standby }).dev.pair.role = .standby := by decide +kernel

/-- A data frame with identifier 0. -/
def canFrame (remote : Bool := false) : CanFrame := ⟨0, false, false, false, false, remote, [1, 2, 3, 4], 0, 0⟩

theorem test_hyps_CanTraffic : (canOne 1 {}).dev.canMatch 1 canFrame = some 254 ∧ State.reset.dev.canMatch 1 canFrame = none ∧
    (canFrame true).remote = true ∧ ({ canFrame with fdf := true } : CanFrame).fdf = true ∧
    ((canOne 1 {}).dev.reg (Adr.canCtrl 1)).getLsbD 4 = false ∧ (((canOne 1 { locked := true, shadow := some ⟨canFrame, 0⟩ }).dev.can 1).obj 254).shadow ≠ none ∧
    (((canOne 3 { onBus := true, next := some (0, [], 0) }).dev.can 1).obj 254).next = some (0, [], 0) ∧ ((canOne 3 { onBus := true }).dev.can 1).recCnt < 128 ∧
    255 < ((canOne 3 { onBus := true } fun x => { x with tec := 248 }).dev.can 1).tec + 8 ∧ (canOne 3 {}).dev.canOn 1 = true ∧ (canOne 1 {}).dev.region (canSig 1 254) = .can ∧ ((canOne 1 {}).dev.sig (canSig 1 254)).forced = false ∧
    (((canOne 1 { locked := true }).dev.can 1).obj 254).shadow = none ∧ (((canOne 1 { locked := true } id 16).dev.can 1).obj 254).lockFrame = 0 ∧
    (canOne 1 { locked := true } id 16).dev.sys.frame.toNat = 16 ∧ (canOne 0x10001 {}).dev.canReceives 1 254 = true ∧
    fld ((canOne 0x10001 {}).dev.canCfg 1 254) 16 16 = 1 ∧ (canOne 0x10001 {} id 0 1).dev.now = 1 ∧ (canOne 0x10001 {}).dev.now < 1 ∧
    (canOne 3 {}).dev.canRestricted 1 = false ∧ (((canOne 3 { pending := true }).dev.canExpire 1).canNext 1) = some 254 ∧
    ((canOne 3 { onBus := true }).dev.can 1).objs.find? (fun p => p.2.onBus) = some (254, { onBus := true }) ∧
    fld ((canOne 0x103 { onBus := true, attempts := 2 }).dev.canCfg 1 254) 8 8 = 1 ∧ ((canOne 3 {}).dev.can 1).tec + 8 ≤ 255 := by decide +kernel

/-- A record that waits. -/
def record : Record := { rtype := 1, flags := 0, code := 0x6001, time := 0, pcyc := 0, subj := 0, payload := [] }

/-- The reset state with another recorder, its scan done. -/
def recorder (f : Recorder → Recorder) (g : Dev → Dev := id) : State :=
  from_ fun d => g { d with recorder := f { d.recorder with scan := false } }

theorem test_hyps_Recorder : (recorder id).dev.recorderRuns = true ∧ (recorder fun r => { r with pendq := [⟨record, 0, none⟩] }).dev.recorder.lifeTurn = false ∧
    (recorder fun r => { r with lifeQueue := [7] }).dev.recorder.pendq = [] ∧ ({ record with flags := 1, rep := 1 } : Record).rewriteDue 0 = true ∧
    record.rewriteDue 0 = false ∧ (recorder fun r => { r with lastAnchor := some 0 }).dev.now < 1000 ∧ (0xE1#32).toNat % 256 = 0xE1 ∧
    (0x4B#32).toNat % 256 = 0x4B ∧ (recorder id).dev.recorder.keySealed = none ∧ (recorder id).dev.sys.power = .idle ∧
    (recorder (fun r => { r with lockedAt := some 0 }) fun d => { d with sys := { d.sys with opTime := 600000 } }).dev.now = 600000 ∧
    served (req 0x21 []) = true ∧ served (req 0x22 (List.replicate 48 0)) = true ∧
    BitVec.ofNat 128 (leAt (List.replicate 48 0 : List Byte) 0 16) = 0 ∧
    (recorder fun r => { r with challenge := some (0, 0, 0) }).dev.recorder.challenge = some (0, 0, 0) := by decide +kernel

/-- A clear log without room. -/
theorem test_hyps_Recorder_full (x : ClearEntry) (n : Nat) :
    (recorder fun r => { r with clearLog := List.replicate n x }).dev.recorder.clearLog.length = n := List.length_replicate

/-- The token of a key and a challenge of 0, as a request carries it. -/
theorem test_hyps_Recorder_token (k : List Byte) :
    (((List.replicate 16 0 : List Byte) ++ clearToken k 0 0).drop 16).take (clearToken k 0 0).length = clearToken k 0 0 := by
  simp

/-- A header of the image format, for an image of 4,096 bytes. -/
def header : List Byte :=
  [0x31, 0x49, 0x53, 0x4B, 1, 0, 0, 0, 0, 0x10, 0, 0, 0, 0, 0, 0, 0, 0, 0, 0, 1, 0, 1, 0] ++ List.replicate 232 0

/-- A slot with bytes written from its start. -/
def slotOf (st : SlotState) (b : List Byte) (n : Nat) : Slot :=
  { st := st, bytes := b.zipIdx.filterMap fun p => if p.1 = 0 then none else some (p.2, p.1), written := (List.range n).map fun i => (i, true) }

/-- The reset state with another update unit. -/
def upd (f : Update → Update) : State := from_ fun d => { d with upd := f d.upd }

theorem test_hyps_ImageUpdate : (upd id).dev.operating = true ∧ (0xD2000001#32).toNat / 2 ^ 24 = 0xD2 ∧ (0xD2000001#32).toNat % 4 = 1 ∧
    (upd id).dev.upd.withState .trial = none ∧ (upd id).dev.upd.withState .erasing = none ∧
    (upd fun u => { u with slot1 := { st := .trial } }).dev.upd.withState .trial = some 1 ∧
    (upd fun u => { u with slot1 := { st := .erasing } }).dev.upd.withState .erasing = some 1 ∧ (upd id).dev.upd.inactive = 1 ∧
    (upd fun u => { u with slot1 := { st := .open_ } }).dev.upd.withState .open_ = some 1 ∧ ({ st := .open_ } : Slot).header = none ∧
    (slotOf .open_ header 256).header.map (·.length) = some 4096 ∧
    ((slotOf .open_ header 256).written.filter fun p => decide (p.1 < 4096)).length < 4096 ∧
    served (req 0x10 (leBytes 4 0 ++ [1, 0, 0, 0, 7])) (fun d => { d with upd := { d.upd with slot1 := { st := .open_ } } }) = true ∧
    smHas (slotOf .open_ [1] 1).written 0 = true ∧ memRead (slotOf .open_ [1] 1).bytes 0 ≠ 7 ∧
    smHas (slotOf .open_ [] 0).written 0 = false ∧ (upd fun u => { u with confirming := true }).dev.upd.confirming = true ∧
    (powered fun y => { y with opTime := 60000 }).dev.sys.minutes < (powered fun y => { y with opTime := 60000 }).dev.now / 60000 ∧
    (upd fun u => { u with onTrial := true }).dev.upd.unconfirmed = true ∧ (upd fun u => { u with onTrial := true }).dev.upd.trialMinutes = 0 := by
  decide +kernel

/-- A slot of which every byte of its image is written. -/
theorem test_hyps_ImageUpdate_finish :
    ¬((slotOf .open_ header 4096).written.filter fun p => decide (p.1 < 4096)).length < 4096 ∧ (slotOf .open_ header 4096).header.isSome = true := by
  decide +kernel

theorem test_hyps_RoastAndTrace : (powered fun y => { y with power := .roast }).dev.sys.power = .roast ∧
    (powered fun y => { y with power := .roast }).dev.sys.reset = none ∧ (powered fun y => { y with power := .roast }).dev.sys.wake = none ∧ (powered fun y => { y with power := .roast, wake := some true }).dev.sys.wake = some true ∧
    (0x810#12).getLsbD 4 = true ∧ (0x810#12).getLsbD 11 = true ∧ (∀ t, t < 12 → 1 ≤ t → (1#12).getLsbD t = false) ∧
    State.reset.dev.sys.power ≠ .roast ∧ (1#32).getLsbD 0 = true ∧ (7#32).getLsbD 2 = true := by decide +kernel

/-- A stored overflow record that carries a REC_LOST. -/
def overflowRecord (lost : Word) : Record :=
  { rtype := 0x02, flags := 0, code := 0x6004, time := 0, pcyc := 0, subj := 0xFFFF, payload := overflowPayload 2 0 0 2 0 lost }

/-- R363: REC_LOST is the larger of the checkpoint's value and that of the last overflow record. -/
theorem test_scan_takes_the_larger_lost :
    ({ slots := [(0, { ok := true, lost := 3 })], chaff := [overflowRecord 7], nextSeq := 1 } : Recorder).scannedLost = 7 ∧
    ({ slots := [(0, { ok := true, lost := 3 })] } : Recorder).scannedLost = 3 := by decide +kernel

/-- R443, R414: at reset the module is in IDLE, VIO3 is on, a controller that is off holds its pin recessive, and no link is up. -/
theorem test_pins_at_reset : State.reset.dev.vio3 = true ∧ State.reset.dev.canTx 0 = .recessive ∧ State.reset.dev.ledLow 0 = false ∧
    State.reset.dev.traceOut = none := by decide +kernel

/-! ### Hypotheses of the further clauses -/

/-- A module whose recorder has entries of one kind pending. -/
def pend (n pool : Nat) (core : Option Nat) : State := recorder fun r => { r with pendq := List.replicate n ⟨record, pool, core⟩ }

theorem test_hyps_RecPut_room : 991 ≤ ((pend 991 2 none).dev.recorder.pendq.filter fun p => p.pool == 2).length ∧
    32 ≤ ((pend 32 2 (some 0)).dev.recorder.pendq.filter fun p => p.core == some 0).length ∧
    ((pend 32 2 (some 0)).dev.recorder.pendq.filter fun p => p.pool == 2).length < 991 ∧
    64 ≤ ((pend 64 2 (some 16)).dev.recorder.pendq.filter fun p => p.core == some 16).length ∧
    ({ record with rtype := 0x85, flags := 1 } : Record).repeats { record with rtype := 0x85, flags := 1 } = true ∧
    ((pend 1 2 none).dev.recorder.pendq.map (·.record) ++ (pend 1 2 none).dev.recorder.chaff ++ (pend 1 2 none).dev.recorder.seed).any
      (fun p => p.repeats { record with rtype := 0x85 }) = false := by decide +kernel

/-- A COARSE task that has ended with tier-2 writes in flight, its release due. -/
def inFlight (n : Nat) : State := running 0 [] { task 0 with kind := .coarse, relDue := true } fun d =>
  let d := d.setTask 0 0 { d.task 0 0 with st := .idle }
  d.setCore 0 { d.core 0 with cur := none, wbuf := List.replicate n ⟨0, 0x88000, 0, true, 2, 0⟩ }

theorem test_hyps_CoarseTick_posting : ((inFlight 1).dev.core 0).posting 0 = true ∧ ((inFlight 1).dev.task 0 0).st = .idle ∧
    ((inFlight 1).dev.task 0 0).relDue = true ∧ ((inFlight 1).dev.task 0 0).kind = .coarse ∧ (inFlight 1).dev.scheduling 0 = true ∧
    ((inFlight 0).dev.core 0).posting 0 = false ∧ ((inFlight 0).dev.task 0 0).halted = false ∧ ((inFlight 0).dev.task 0 0).held = false ∧
    ((running 0 [] { task 0 with kind := .coarse }).dev.task 0 0).st ≠ .idle ∧
    ((running 0 [] { task 0 with held := true }).dev.task 0 0).held = true := by decide +kernel

theorem test_hyps_TimedEvents_timer : (running 0 [] (task 0)).dev.sys.runFrames = 0 ∧
    (running 0 [] (task 0) fun d => { d with sys := { d.sys with runFrames := 9 } }).dev.sys.runFrames % 8 ≠ 0 ∧
    ((running 0 [] { task 0 with due := [(0, 0)] }).dev.task 0 0).due.contains (0, (running 0 [] (task 0)).dev.sys.frame) = true := by
  decide +kernel

/-- The restarted instance has one task, number 0, of the door's type. -/
def restartTask : State := restart 0xA5000005 0x20 .stand

theorem test_hyps_ActionRegisters_tasks :
    ((({ restartTask with dev := { restartTask.dev with placer := { restartTask.dev.placer with
        doors := [(0, { sheaf := 2, inst := 5, lanes := [], tasks := [7] })] } } } : State).dev.doorPl 0).map
        fun y => (y.sheaf, y.inst, y.tasks, decide y.tasks.Nodup)) = some (2, 5, [7], true) ∧
    (restartTask.dev.image.map fun im => ((im.doorType 0).tasks.length, (im.doorType 0).tasks[0]?.isSome)) = some (1, true) := by decide +kernel

/-- A module in RUN with the placer on, whose door 0 may be moved from sheaf 0 to sheaf 1. -/
def movable : State := running 0 [] (task 0) fun d => { (d.setReg Adr.plcCtrl 1).setPort 0 { st := .up } with
  placer := { d.placer with doors := [(0, { sheaf := 0, inst := 0, lanes := [0, 1], tasks := [0] })] } }

theorem test_hyps_Migration_accepted : movable.dev.migrationCode 0x5A010000 = 0 ∧ movable.dev.image.isSome = true := by decide +kernel

/-- The migration of door 0 broken in the frame of its copy. -/
def broken : State := { moving .copying false 0 with dev := { (moving .copying false 0).dev with
  placer := { (moving .copying false 0).dev.placer with mig := (moving .copying false 0).dev.placer.mig.map fun m => { m with broken := true } } } }

theorem test_hyps_Migration_broken : (broken.dev.placer.mig.map fun m => (m.broken, m.dRose, m.phase == .copying)) = some (true, false, true) ∧
    (broken.dev.placer.mig.map fun m => decide (broken.dev.sys.frame = m.copyFrame + 1)) = some true ∧
    ({ (moving .copying false 0).dev with sys := { (moving .copying false 0).dev.sys with leaving := true } } : Dev).sys.leaving = true ∧
    (((moving .copying false 0).dev.setPort 0 { st := .lost, layout := some { axes := [⟨48, 0, 1, 0, 0, false⟩] } }).portLost 48) = true := by
  decide +kernel

/-- A port that drives axis 48 of door 0, whose migration copies. -/
def copyingPort : State :=
  let x : Port := { st := .up, badRun := 3, layout := some { axes := [⟨48, 0, 1, 0, 0, false⟩] } }
  { moving .copying false 0 with dev := (moving .copying false 0).dev.setPort 1 x }

theorem test_hyps_StreamLosses_copying : portAxes copyingPort.dev 1 = [48] ∧ (copyingPort.dev.port 1).st = .up ∧ 3 ≤ (copyingPort.dev.port 1).badRun ∧
    (copyingPort.dev.image.map fun im => im.doorAxes 0) = some [48, 49] ∧
    (copyingPort.dev.placer.mig.map fun m => (m.door, m.phase == .copying)) = some (0, true) ∧
    ((copyingPort.dev.setReg (Adr.axCfg 48) 0x101).linkOf 48).map (·.1) = some 1 := by decide +kernel

theorem test_hyps_StreamFrames_answering : (⟨5, 64, 0, [], true⟩ : NodeReqSt).answering = true ∧ (⟨4, 64, 0, [], false⟩ : NodeReqSt).btype ≤ 4 ∧
    (State.reset.dev.homeSheaf 1 64) = none ∧ (State.reset.dev.queue 1).spilling = false := by decide +kernel

/-- A spill area of 8 MiB has no room for a message. -/
theorem test_hyps_StreamFrames_full (b : Block) (blocks : List Block) (h : 0 < blocks.length) :
    let q : Queue := { spilling := true, spill := List.replicate 32768 b }
    q.spilling = true ∧ 2 ^ 23 < q.spilled + 256 * blocks.length := by
  refine ⟨rfl, ?_⟩
  simp only [Queue.spilled, List.length_replicate]
  omega

theorem test_hyps_SafetyParameters_told : (isle fun x => { x with testAge := 1440, testTold := true }).dev.island.testTold = true ∧
    (isle fun x => { x with testAge := 1440 }).dev.island.testTold = false ∧ (isle fun x => { x with testAge := 1440 }).dev.island.testDue = false := by
  decide +kernel

theorem test_hyps_SafeTelegrams_late : ((isle fun x => { x with sources := [(3, { waiting := [⟨0, 201, telegram, 0⟩] })] }).dev.island.source 3).waiting.find?
      (fun c => tgSeq c.bytes == tgSeq telegram) = some ⟨0, 201, telegram, 0⟩ ∧ 0 + 200 < 201 ∧ 0 ≤ 201 + 200 := by decide +kernel

/-- A valid copy of source 3 still waits in a buffer of the host unit, and the watchdog of the source has run out. -/
theorem test_hyps_SafeTelegrams_coming :
    let d : Dev := { sourceOn State.reset.dev with host := { State.reset.dev.host with tgB := [⟨0, telegram⟩] } }
    (⟨0, telegram⟩ : TgDatagram) ∈ d.host.tgA ++ d.host.tgB ∧ d.tgCheck telegram 0 = (some 3, none) ∧
      ¬∃ c ∈ State.reset.dev.host.tgA ++ State.reset.dev.host.tgB, (sourceOn State.reset.dev).tgCheck c.bytes c.stamp = (some 3, none) := by
  refine ⟨by simp, by decide +kernel, by simp [State.reset]⟩

/-- Another telegram of source 3 with the same SEQ waits, one of its partner lies in the buffer of port B, and a waiting one of port A is
to be accepted alone. -/
theorem test_hyps_SafeTelegrams_copies :
    let other := withCrc ([5, 0, 9, 0, 1, 0, 0, 0] ++ List.replicate 39 0 ++ [1]) ++ List.replicate 8 0
    let d : Dev := { (single 20).dev with host := { State.reset.dev.host with tgB := [⟨199, telegram⟩] } }
    ([⟨0, 0, other, 0⟩] : List TgCopy).find? (fun c => tgSeq c.bytes == tgSeq telegram) = some ⟨0, 0, other, 0⟩ ∧ other ≠ telegram ∧
      d.tgPartner ⟨0, 0, telegram, 0⟩ = true ∧ d.tgPartner ⟨1, 0, telegram, 0⟩ = false ∧ (0 : Nat) + 20 ≤ 20 ∧
      (single 20).dev.tgAlone 3 ⟨0, 0, telegram, 0⟩ = true ∧ State.reset.dev.tgSource 5 = none := by decide +kernel

theorem test_hyps_BarrierLink_last : (husk fun f => { f with offDue := true }).dev.field.offDue = true ∧
    (from_ fun d => { d with field := { d.field with powered := true, offDue := true }, sys := { d.sys with power := .keep } }).dev.operating = false := by
  decide +kernel

theorem test_hyps_SafetyLoops_command : (isle fun x => { x with cmd := some 0x3C003000 }).dev.island.cmd = some 0x3C003000 ∧
    State.reset.dev.operating = true ∧ State.reset.dev.sys.frame.toNat % 16 = 0 ∧ State.reset.dev.island.cycleAt = none := by decide +kernel

theorem test_hyps_VhpNodes_other :
    (asked (req 0x51 [1, 63, 0, 0]) (node64 { replies := [⟨1, 64, 5, 1, 3, [], 0⟩] })).dev.waitingReplies 1 63 = [] ∧
    (asked (req 0x51 [1, 63, 0, 0]) (node64 { replies := [⟨1, 64, 5, 1, 3, [], 0⟩] })).dev.waitingReplies 1 64 ≠ [] ∧
    leAt [1, 63, 0, 0] 1 1 = 63 := by decide +kernel

/-- A state record in force that no longer holds what the slots are. -/
theorem test_hyps_ImageUpdate_cut : let u : Update := { sector0 := [{ st0 := .current, st1 := .empty }], slot1 := { st := .trial } }
    u.inForce ∈ u.used ∧ u.inForce.ok = true ∧ (((u.sector0 ++ u.sector1).filter (·.ok)).map (·.gen)).Nodup ∧
      u.inForce.same u.content = false := by decide +kernel

theorem test_hyps_Recorder_seed : (recorder fun r => { r with seedOpen := true }).dev.recorder.seedUsed + 56 ≤ 2 ^ 24 ∧
    (recorder fun r => { r with seedOpen := true }).dev.recorder.seed.length < 131072 ∧
    (recorder fun r => { r with seedOpen := false }).dev.recorder.seedOpen = false ∧
    (recorder fun r => { r with tokenRefusals := 2 }).dev.recorder.tokenRefusals + 1 = 3 := by decide +kernel

theorem test_hyps_MotionEvents_hold : ((axis7 { st := .stand }).dev.axis 7).motion.hold = false ∧
    ({ hold := true, st := .stand } : Motion).hold = true := by decide +kernel

theorem test_hyps_StreamFrames_heard : ({ heard := some (7, 3) } : Port).heard = some (7, 3) ∧ 1 ≤ ((8 : Word) - 7).toNat ∧
    ((8 : Word) - 7).toNat ≤ ((3 : Word) - 3).toNat + 1 ∧ ((3 : Word) - 3).toNat ≤ ((8 : Word) - 7).toNat + 1 := by decide +kernel

/-- A husk that counts on in a reset. -/
def aside (n : Nat) (x : Hs := {}) : State := husk fun f => { f with aside := n, hs := [(31, x)], cfg := [(Adr.fldHscfg 31, 0x104)] }

theorem test_hyps_Field_aside : (aside 40).dev.huskNow = 40 ∧ (aside 40).dev.now = 0 ∧ ((aside 101 { on := true }).dev.field.chan 31).onSince + 100 < (aside 101).dev.huskNow ∧
    ((aside 0 { thermLatch := true, hot := true, waitCool := true }).dev.field.chan 31).waitCool = true ∧
    ((aside 0 { on := true, curve := 5, curveTaken := 2 }).dev.field.chan 31).curveTaken = 2 ∧ ([1, 2, 3] : List (BitVec 16)).drop 2 = [3] ∧
    ((aside 20 { deferred := some true, lastChange := some 0 }).dev.field.chan 31).deferred = some true := by decide +kernel

theorem test_hyps_RoleChanges_elig : (paired { role := .active, swapReq := some 0x6B000001 }).dev.pair.partnerElig = false ∧
    (paired { role := .active, swapReq := some 0x6B000001, partnerElig := true } fun d =>
      { d with placer := (moving .ready false 0).dev.placer }).dev.placer.mig.isSome = true := by decide +kernel

/-- A module in ROAST in which test 5 runs. -/
theorem test_hyps_VhpDatagrams_roast : (powered fun y => { y with power := .roast, roastTest := 5 }).dev.hostPortsUp = true ∧
    (powered fun y => { y with power := .roast, roastTest := 11 }).dev.sys.roastTest < 12 := by decide +kernel

theorem test_hyps_VhpRegisters_recorder :
    (recorder fun r => { r with chaff := [record, { record with seq := 1 }] }).dev.recorder.seed ++
      (recorder fun r => { r with chaff := [record, { record with seq := 1 }] }).dev.recorder.chaff = [record] ++ { record with seq := 1 } :: [] ∧
    (∀ z ∈ [record], z.seq ≠ 1) ∧ 31 < ({ record with seq := 1 } : Record).size ∧
    (recorder id).dev.recorder.seed ++ (recorder id).dev.recorder.chaff = [] ∧
    (((from_ fun d => d.setAxis 7 { cycle := { buffers := [(0, { cycle := 5 })] } }).dev.axis 7).cycle.buffers.find? fun b => b.2.cycle == 5) =
      some (0, { cycle := 5 }) ∧
    ((from_ fun d => d.setReg (Adr.axCfg 7) 1).dev.axis 7).cycle.buffers.find? (fun b => b.2.cycle == 5) = none := by decide +kernel

/-- Node 64 of port 1, at home on sheaf 3, whose outbound area is full but for 255 bytes. -/
theorem test_hyps_VhpNodes_full (b : Block) :
    let d := State.reset.dev.setQueue 7 { spilling := true, spill := List.replicate 32768 b }
    (d.queue (2 * 3 + 1)).spilling = true ∧ 2 ^ 23 < (d.queue (2 * 3 + 1)).spilled + 256 * 1 := by
  refine ⟨rfl, ?_⟩
  simp only [Dev.setQueue, Dev.queue, State.reset, smPut, smGet, Queue.spilled, List.length_replicate, if_true]
  omega

/-- A module in RUN that has a request to leave it while a door migrates. -/
def leaveWhile (phase : MigPhase) : Dev := { (moving phase false 0).dev with host := { State.reset.dev.host with queue := [req 5 [2, 0, 0, 0]] } }

theorem test_hyps_StateRequests_migration : (leaveWhile .preparing).host.queue.head? = some (req 5 [2, 0, 0, 0]) ∧
    (leaveWhile .preparing).vhpAccept 5 [2, 0, 0, 0] = 0 ∧ (leaveWhile .preparing).sys.power = .run ∧ leAt [2, 0, 0, 0] 0 1 = 2 ∧
    (leaveWhile .preparing).host.executing = false ∧ (leaveWhile .preparing).hostPortsUp = true ∧
    ((leaveWhile .preparing).placer.mig.map fun m => (m.phase == .copying, (leaveWhile .preparing).doorPl m.door).1) = some false ∧
    ((leaveWhile .preparing).doorPl 0).isSome = true ∧ (leaveWhile .preparing).image.isSome = true ∧
    ((leaveWhile .copying).placer.mig.map fun m => m.phase == .copying) = some true := by decide +kernel

theorem test_hyps_StateChanges_waits :
    (asked (req 5 [3, 0, 0, 0]) fun d => { d with sys := { d.sys with entering := true, enterAt := some 0, frame := 736 } }).dev.host.queue.head?
      = some (req 5 [3, 0, 0, 0]) ∧
    ({ (asked (req 5 [3, 0, 0, 0])).dev.host with executing := true } : HostUnit).executing = true := by decide +kernel

theorem test_hyps_SupplyAndReset_start : (powered fun y => { y with power := .keep, starting := some .cold }).dev.sys.starting ≠ none ∧
    (powered fun y => { y with power := .keep, starting := some .cold }).dev.sys.reset = none ∧
    (powered fun y => { y with rstIgn := true, rstnLow := true }).dev.sys.rstnLow = true ∧
    (powered fun y => { y with power := .off, rstIgn := true }).dev.sys.power = .off ∧
    ¬((powered fun y => { y with power := .keep, rstIgn := true }).dev.operating = true ∨
      (powered fun y => { y with power := .keep, rstIgn := true }).dev.sys.starting ≠ none) ∧
    (powered fun y => { y with power := .keep, rstIgn := true, reset := some .brown }).dev.sys.reset ≠ none ∧
    (powered fun y => { y with railLow := 0 }).dev.sys.railLow = 0 ∧
    ((powered fun y => { y with railLow := 900 }).dev.sys.railLow ≠ 0 ∧ ¬(1000 : BitVec 16).toNat < (900 : BitVec 16).toNat) := by decide +kernel

theorem test_hyps_Recorder_checkpoint : 1024 ≤ (recorder fun r => { r with sinceCp := 1023 }).dev.recorder.sinceCp + 1 ∧
    2 ^ 20 ≤ (recorder fun r => { r with bytesCp := 2 ^ 20 - 32 }).dev.recorder.bytesCp + record.size ∧
    ¬(1024 ≤ (recorder id).dev.recorder.sinceCp + 1 ∨ 2 ^ 20 ≤ (recorder id).dev.recorder.bytesCp + record.size) := by decide +kernel

/-! ### Hypotheses of the statements about a frame and the invariant of the queues -/

theorem test_hyps_MotionFrames : (State.reset).dev.operating = true ∧ State.reset.dev.pair.role ≠ .standby ∧
    ((axis7 { st := .stop, v := -100 }).dev.axis 7).motion.st = .stop ∧ ((axis7 { st := .home }).dev.axis 7).motion.st = .home ∧
    ((axis7 { st := .gear }).dev.axis 7).motion.st = .gear ∧ ((axis7 { st := .stand }).dev.axis 7).motion.st = .stand ∧
    ((axis7 { st := .stand } { st := .stopping }).dev.safe 7).st.holds = true ∧
    ((axis7 { st := .stand } { st := .held, inReturn := true }).dev.safe 7).inReturn = true ∧
    ((axis7 { st := .stand, wasOff := true }).dev.axis 7).motion.wasOff = true ∧
    (from_ fun d => d.setReg (Adr.axCfg 7) 1).dev.axConfigured 7 = true ∧ (State.reset.dev.sig (slotSig 7 15)).forced = false ∧
    (from_ fun d => d.setAxis 7 { motion := { st := .home }, homing := { latch := true } }).dev.axis 7 =
      { motion := { st := .home }, homing := { latch := true } } := by decide +kernel

/-- Stop requests on axis 7, the torque-off and the higher ramp among them. -/
theorem test_hyps_MotionFrames_stops :
    bestStop [{ cause := 5, ramp := 1, code := 0x2014 }, { cause := 11, ramp := 3, code := 0x3005, torqueOff := true }]
      = some { cause := 11, ramp := 3, code := 0x3005, torqueOff := true } ∧
    bestStop [{ cause := 7, ramp := 2, code := 0x2013 }, { cause := 5, ramp := 2, code := 0x2014 }] = some { cause := 5, ramp := 2, code := 0x2014 } := by
  decide +kernel

/-- A geared axis with a table and its master at a position. -/
def geared (master : Motion) (miss : Nat := 0) (x : Motion := { st := .gear }) : Dev :=
  let d := (running 0 [] (task 0)).dev.setReg (Adr.axCfg 7) 1
  let d : Dev := { d with image := d.image.map fun im => { im with gears := [(2, [⟨0, 65536, 65536⟩, ⟨1000, 65536, 65536⟩])] } }
  let d := (d.setAxis 7 { motion := x, gearing := { selector := 8, table := 2, engaged := true, lostFrames := miss } }).modMotion 8 fun _ => master
  (d.setSig (slotSig 7 128) { value := 1000000, q := 1 }).setSig (slotSig 7 129) { value := 1000000, q := 1 }

theorem test_hyps_MotionFrames_gear : (geared { st := .off }).masterPos ((geared { st := .off }).axis 7).gearing = none ∧
    (geared { st := .stand }).masterPos ((geared { st := .stand }).axis 7).gearing = some (0, 0) ∧
    ((geared { st := .stand }).gearTable 2).isSome = true ∧ ((geared { st := .stand }).gearTable 3) = none ∧
    (geared { st := .stand }).parN 7 128 = 1000000 ∧ (State.reset.dev.parN 7 128) = 0 ∧
    ((State.reset.dev.masterPos { selector := 0x10000, lostFrames := 2 }).map fun p => decide (3 ≤ p.2)) = some true := by decide +kernel

/-- Door 0 of the running image with its axes configured, and its cycle. -/
def doorMoving (active : Bool) (pos : Int) (st : AxState := .stand) : Dev :=
  let d := (running 0 [] (task 0)).dev
  let d := (d.setReg (Adr.axCfg 48) 1).setReg (Adr.axCfg 49) 1
  let d : Dev := { d with doorCyc := [(0, { active := active })] }
  (d.modMotion 48 fun m => { m with st := st, raw := BitVec.ofInt 48 (pos * 65536) }).modMotion 49 fun m => { m with st := .off }

theorem test_hyps_LoadAngle_cycle : (doorMoving false 1).doorAxesOf 0 = [48, 49] ∧ (doorMoving false 1).axConfigured 48 = true ∧
    ((doorMoving false 1).axis 48).cycle.ctl = [] ∧ ((doorMoving false 1).axis 48).motion.st ≠ .home ∧ (doorMoving false 1).sys.leaving = false ∧
    ((doorMoving false 1).doorCycle 0).active = false ∧ (doorMoving false 1).outOfZone 48 = true ∧
    (doorMoving false 0).outOfZone 48 = false ∧ (doorMoving false 0).outOfZone 49 = false ∧ ((doorMoving true 0).doorCycle 0).active = true ∧
    (doorMoving true 0).cycleOver 0 = true ∧ (doorMoving true 1).cycleOver 0 = false := by decide +kernel

theorem test_hyps_LoadAngle_axis : ((axis7 { st := .stand }).dev.axis 7).motion.st = .stand ∧ ((axis7 { st := .move }).dev.axis 7).motion.st = .move ∧
    ((from_ fun d => d.setAxis 7 { estim := { below := false } }).dev.axis 7).estim.below = false ∧
    ((from_ fun d => d.setAxis 7 { cycle := { buf := some 3, buffers := [(3, { count := 65536 })] } }).dev.axis 7).cycle.buf = some 3 ∧
    65536 ≤ (((from_ fun d => d.setAxis 7 { cycle := { buf := some 3, buffers := [(3, { count := 65536 })] } }).dev.axis 7).cycle.capture 3).count ∧
    (((from_ fun d => d.setAxis 7 { cycle := { buf := some 3 } }).dev.axis 7).cycle.capture 3).count < 65536 ∧ AxState.underway .gear = true ∧
    AxState.underway .stand = false ∧ State.reset.dev.promos.length ≤ 512 := by decide +kernel

theorem test_hyps_QueuesMonitorsTrace : (State.reset.dev.queue 3).spilling = false ∧ (State.reset.dev.queue 3).fill + 256 < 43008 ∧
    43008 ≤ ({ events := 42752 } : Queue).fill + 256 ∧ 14336 < ({ events := 14337 } : Queue).fill ∧ ({ events := 14336 } : Queue).fill ≤ 14336 ∧ ({ spilling := true } : Queue).spilling = true ∧
    (State.reset.dev.axParams 7).en = false ∧ ((from_ fun d => d.setReg (Adr.safAxcfg 7) 1).dev.axParams 7).en = true ∧
    (0x3#32).getLsbD 1 = true ∧ State.reset.dev.sys.power ≠ .roast ∧ State.reset.dev.trace.fifo.length + 4 ≤ 4096 ∧
    ((from_ fun d => d.setReg Adr.trcCfg 5).dev.reg Adr.trcCfg).getLsbD 2 = true ∧ State.reset.dev.trace.frozen = false ∧
    State.reset.dev.trace.wrpos < 2 ^ 27 ∧ (State.reset.dev.regs.map (·.1)).Nodup ∧ (∀ r ∈ State.reset.dev.regs, r.1 % 4 = 0) := by decide +kernel

/-- A packet that does not fit the trace unit's FIFO. -/
theorem test_hyps_QueuesMonitorsTrace_full (l : List Byte) (h : l.length = 4095) (x y : Byte) : 4096 < l.length + [x, y].length := by
  simp [h]

theorem test_hyps_QueueInvariant : queueInv State.reset.dev ∧ step State.reset = .next State.reset := by
  constructor
  · refine ⟨?_, ?_, ?_, fun c => ?_, ?_, ?_, ?_, rfl⟩ <;> simp [State.reset, Recorder.inPool, Recorder.share]
  · rfl

end Sys2Proof.Tests
end

section
/-! SUPPORT. The words of formats A, I and B as numbers (R61), what the encoder gives for them, and what the decoder makes of
each of their fields. -/

namespace Sys2Proof.Proofs

open Sys2Proof.Machine Sys2Proof.Safety

/-! ### Words as numbers -/

/-- Bits set side by side are a sum. -/
theorem toNat_append_add {m n : Nat} (x : BitVec m) (y : BitVec n) : (x ++ y).toNat = x.toNat * 2 ^ n + y.toNat := by
  rw [BitVec.toNat_append, ← Nat.shiftLeft_add_eq_or_of_lt y.isLt, Nat.shiftLeft_eq]

theorem wordA_toNat (op : BitVec 7) (d a b : Reg) (fn : BitVec 10) :
    (wordA op d a b fn).toNat = op.toNat * 2 ^ 25 + d.toNat * 2 ^ 20 + a.toNat * 2 ^ 15 + b.toNat * 2 ^ 10 + fn.toNat := by
  unfold wordA
  simp only [toNat_append_add]
  omega

theorem wordI_toNat (op : BitVec 7) (d a : Reg) (imm : BitVec 15) :
    (wordI op d a imm).toNat = op.toNat * 2 ^ 25 + d.toNat * 2 ^ 20 + a.toNat * 2 ^ 15 + imm.toNat := by
  unfold wordI
  simp only [toNat_append_add]
  omega

/-- A word of format B: opcode, condition and off21 (R61). -/
def wordB (op : BitVec 7) (cond : BitVec 4) (off : BitVec 21) : Word := op ++ cond ++ off

theorem wordB_toNat (op : BitVec 7) (cond : BitVec 4) (off : BitVec 21) :
    (wordB op cond off).toNat = op.toNat * 2 ^ 25 + cond.toNat * 2 ^ 21 + off.toNat := by
  unfold wordB
  simp only [toNat_append_add]
  omega

/-! ### The encoder -/

theorem encA_toNat (op : BitVec 7) (d a b : Reg) (fn : BitVec 10) :
    encA op.toNat d.toNat a.toNat b.toNat fn.toNat = wordA op d a b fn := by
  rw [encA, ← wordA_toNat, wordOfNat, BitVec.ofNat_toNat, BitVec.setWidth_eq]

theorem encI_toNat (op : BitVec 7) (d a : Reg) (imm : BitVec 15) :
    encI op.toNat d.toNat a.toNat imm.toNat = wordI op d a imm := by
  rw [encI, ← wordI_toNat, wordOfNat, BitVec.ofNat_toNat, BitVec.setWidth_eq]

theorem encB_toNat (op : BitVec 7) (cond : BitVec 4) (off : BitVec 21) :
    encB op.toNat cond.toNat off.toNat = wordB op cond off := by
  rw [encB, ← wordB_toNat, wordOfNat, BitVec.ofNat_toNat, BitVec.setWidth_eq]

section Encoder

variable {i : Instr} {nop nd na nb nfn nimm : Nat} {op : BitVec 7} {d a b : Reg} {fn : BitVec 10} {imm : BitVec 15}

/-- The encoder's numbers of format A are the fields of a word. -/
theorem encode_eq_wordA (hi : encode i = some (encA nop nd na nb nfn)) (hop : op.toNat = nop) (hd : d.toNat = nd)
    (ha : a.toNat = na) (hb : b.toNat = nb) (hfn : fn.toNat = nfn) : encode i = some (wordA op d a b fn) := by
  rw [hi, ← encA_toNat, hop, hd, ha, hb, hfn]

/-- The encoder's numbers of format I are the fields of a word. -/
theorem encode_eq_wordI (hi : encode i = some (encI nop nd na nimm)) (hop : op.toNat = nop) (hd : d.toNat = nd)
    (ha : a.toNat = na) (himm : imm.toNat = nimm) : encode i = some (wordI op d a imm) := by
  rw [hi, ← encI_toNat, hop, hd, ha, himm]

end Encoder

/-- The amount of an immediate shift stands in the low bits of imm15 (R68). -/
theorem toNat_shift_imm (amount : BitVec 5) : (amount.setWidth 15).toNat = amount.toNat := by
  rw [BitVec.toNat_setWidth, Nat.mod_eq_of_lt (by omega)]

theorem encode_ldu (core : CoreId) (d : Reg) (imm : BitVec 20) :
    encode (.ldu core d imm) = some ((0x10 : BitVec 7) ++ d ++ imm) := by
  refine congrArg some (BitVec.eq_of_toNat_eq ?_)
  rw [BitVec.toNat_ofNat, toNat_append_add, toNat_append_add, Nat.mod_eq_of_lt (by omega)]
  simp
  omega

/-! ### The fields the decoder reads -/

section Fields

variable (op : BitVec 7) (d a b : Reg) (fn : BitVec 10) (imm : BitVec 15) (cond : BitVec 4) (off : BitVec 21)

@[simp] theorem fld_wordA_op : fld (wordA op d a b fn) 25 7 = op.toNat := by
  rw [fld, wordA_toNat, Nat.shiftRight_eq_div_pow]; omega

@[simp] theorem fld_wordA_d : fld (wordA op d a b fn) 20 5 = d.toNat := by
  rw [fld, wordA_toNat, Nat.shiftRight_eq_div_pow]; omega

@[simp] theorem fld_wordA_a : fld (wordA op d a b fn) 15 5 = a.toNat := by
  rw [fld, wordA_toNat, Nat.shiftRight_eq_div_pow]; omega

@[simp] theorem fld_wordA_b : fld (wordA op d a b fn) 10 5 = b.toNat := by
  rw [fld, wordA_toNat, Nat.shiftRight_eq_div_pow]; omega

@[simp] theorem fld_wordA_fn : fld (wordA op d a b fn) 0 10 = fn.toNat := by
  rw [fld, wordA_toNat, Nat.shiftRight_eq_div_pow]; omega

@[simp] theorem fld_wordI_op : fld (wordI op d a imm) 25 7 = op.toNat := by
  rw [fld, wordI_toNat, Nat.shiftRight_eq_div_pow]; omega

@[simp] theorem fld_wordI_d : fld (wordI op d a imm) 20 5 = d.toNat := by
  rw [fld, wordI_toNat, Nat.shiftRight_eq_div_pow]; omega

@[simp] theorem fld_wordI_a : fld (wordI op d a imm) 15 5 = a.toNat := by
  rw [fld, wordI_toNat, Nat.shiftRight_eq_div_pow]; omega

@[simp] theorem fld_wordI_imm : fld (wordI op d a imm) 0 15 = imm.toNat := by
  rw [fld, wordI_toNat, Nat.shiftRight_eq_div_pow]; omega

@[simp] theorem fld_wordB_op : fld (wordB op cond off) 25 7 = op.toNat := by
  rw [fld, wordB_toNat, Nat.shiftRight_eq_div_pow]; omega

@[simp] theorem fld_wordB_cond : fld (wordB op cond off) 21 4 = cond.toNat := by
  rw [fld, wordB_toNat, Nat.shiftRight_eq_div_pow]; omega

end Fields

/-! ### The decoder -/

section Decoder

variable (core : CoreId) (stall : Nat)

theorem decode_wordA_alu (d a b : Reg) (fn : BitVec 10) :
    decode core stall (wordA 0x01 d a b fn) = decodeAlu core d a b fn.toNat := by
  simp [decode]

theorem decode_wordI_imm {op : BitVec 7} (hlo : 0x08 ≤ op.toNat) (hhi : op.toNat ≤ 0x20) (hldu : op.toNat ≠ 0x10) (d a : Reg)
    (imm : BitVec 15) : decode core stall (wordI op d a imm) = decodeImm core op.toNat d a imm := by
  have h1 : op.toNat ≠ 1 := by omega
  have h2 : op.toNat ≠ 2 := by omega
  have h3 : ¬(op.toNat = 3 ∨ op.toNat = 4) := by omega
  simp [decode, h1, h2, h3, hldu, hlo, hhi]

/-- The condition field 8 is no condition (R66). -/
theorem decode_wordB_never {op : BitVec 7} (hop : op = 0x30 ∨ op = 0x31) (off : BitVec 21) :
    decode core stall (wordB op 8 off) = none := by
  rcases hop with rfl | rfl <;> simp [decode]

end Decoder

end Sys2Proof.Proofs
end

section
/-! SUPPORT. The register instructions (R67, R68): from the effect of an instruction to the words of the statements, then the
result and flags of each operation as the spec gives them. -/

namespace Sys2Proof.Proofs

open Sys2Proof.Machine Sys2Proof.Safety

/-! ### From an instruction's effect to what the statements say of it -/

section Rules

variable {s : State} {core : CoreId} {t cycles code : Nat} {i : Instr} {body : Nat → Task → Effect} {y : Task} {eff : Dev → Dev}
  {d : Reg} {o : Task → AluOut} {r : Word} {c v : Bool}

theorem runs_done (hx : exec i s = execInstr core i s body) (hb : body t (s.dev.task core.val t) = .done cycles y eff) :
    Runs s core t i cycles y eff :=
  fun h => hx.trans (instr_done h hb)

theorem runs_regs (hx : exec i s = execInstr core i s body) (hb : body t (s.dev.task core.val t) = .regs cycles y) :
    Runs s core t i cycles (next y) :=
  fun h => hx.trans (instr_regs h hb)

theorem faults_fault (hx : exec i s = execInstr core i s body) (hb : body t (s.dev.task core.val t) = .fault code) :
    Faults s core t i code :=
  fun h => hx.trans (instr_fault h hb)

/-- An operation leaves its result in d and its flags. -/
theorem runs_alu (hx : exec i s = execInstr core i s fun _ x => aluEffect cycles d (o x) x)
    (ho : o (s.dev.task core.val t) = ⟨r, c, v⟩) : Runs s core t i cycles (result (s.dev.task core.val t) d r c v) := by
  refine runs_regs (y := ((s.dev.task core.val t).setG d r).setFlags ⟨r, c, v⟩) hx ?_
  rw [ho, aluEffect]

/-- A comparison leaves its flags only. -/
theorem runs_flags (hx : exec i s = execInstr core i s fun _ x => flagsEffect (o x) x)
    (ho : o (s.dev.task core.val t) = ⟨r, c, v⟩) : Runs s core t i 1 (withFlags (s.dev.task core.val t) r c v) := by
  refine runs_regs (y := (s.dev.task core.val t).setFlags ⟨r, c, v⟩) hx ?_
  rw [ho, flagsEffect]

end Rules

/-! ### Results and flags (R65, R67) -/

section Outputs

variable (p q : Word) (n : Nat)

theorem bne_eq_decide_ne {α : Type} [DecidableEq α] (x y : α) : (x != y) = decide (x ≠ y) := by
  rw [Bool.eq_iff_iff, bne_iff_ne, decide_eq_true_iff]

theorem bne_zero_eq_decide_pos : (n != 0) = decide (0 < n) := by
  simp only [bne_eq_decide_ne, Nat.pos_iff_ne_zero]

theorem addOut_eq : addOut p q = ⟨p + q, decide (2 ^ 32 ≤ p.toNat + q.toNat), decide (p.toInt + q.toInt ≠ (p + q).toInt)⟩ := by
  rw [addOut, bne_eq_decide_ne]

theorem subOut_eq : subOut p q = ⟨p - q, decide (p.toNat < q.toNat), decide (p.toInt - q.toInt ≠ (p - q).toInt)⟩ := by
  rw [subOut, bne_eq_decide_ne]

theorem shlOut_eq : shlOut p n = ⟨p <<< n, decide (0 < n) && p.getLsbD (32 - n), false⟩ := by
  rw [shlOut, bne_zero_eq_decide_pos]

theorem shrOut_eq : shrOut p n = ⟨p >>> n, decide (0 < n) && p.getLsbD (n - 1), false⟩ := by
  rw [shrOut, bne_zero_eq_decide_pos]

theorem sarOut_eq : sarOut p n = ⟨p.sshiftRight n, decide (0 < n) && p.getLsbD (n - 1), false⟩ := by
  rw [sarOut, bne_zero_eq_decide_pos]

theorem minOut_eq : minOut p q = ⟨BitVec.ofInt 32 (min p.toInt q.toInt), false, false⟩ := by
  rw [minOut, min_def, apply_ite (BitVec.ofInt 32), BitVec.ofInt_toInt, BitVec.ofInt_toInt, logicOut]

theorem maxOut_eq : maxOut p q = ⟨BitVec.ofInt 32 (max p.toInt q.toInt), false, false⟩ := by
  rw [maxOut, max_def, apply_ite (BitVec.ofInt 32), BitVec.ofInt_toInt, BitVec.ofInt_toInt, logicOut]

/-- An integer fits 32 bits where its word has its value. -/
theorem fits32_iff (i : Int) : fits32 i = true ↔ (BitVec.ofInt 32 i).toInt = i := by
  rw [BitVec.toInt_ofInt, Int.bmod_eq_iff (by decide)]
  simp [fits32]

theorem mulOut_eq : mulOut p q = ⟨p * q, false, decide (p.toInt * q.toInt ≠ (p * q).toInt)⟩ := by
  have h : fits32 (p.toInt * q.toInt) = decide (p.toInt * q.toInt = (p * q).toInt) := by
    rw [Bool.eq_iff_iff, fits32_iff, decide_eq_true_iff, BitVec.toInt_ofInt, ← BitVec.toInt_mul, eq_comm]
  simp [mulOut, h]

theorem mulhOut_eq : mulhOut p q = ⟨BitVec.ofInt 32 (p.toInt * q.toInt / 2 ^ 32), false, false⟩ := by
  rw [mulhOut, Int.fdiv_eq_ediv_of_nonneg _ (by positivity), logicOut]

theorem divOverflows_iff : divOverflows p q = true ↔ p = 0x80000000 ∧ q = 0xFFFFFFFF := by
  simp [divOverflows]

theorem divOut_zero (h : q = 0) : divOut p q = ⟨0, false, true⟩ := by
  rw [divOut, if_pos h]

theorem remOut_zero (h : q = 0) : remOut p q = ⟨p, false, true⟩ := by
  rw [remOut, if_pos h]

theorem divuOut_zero (h : q = 0) : divuOut p q = ⟨0, false, true⟩ := by
  rw [divuOut, if_pos h]

theorem divuOut_eq (h : q ≠ 0) : divuOut p q = ⟨BitVec.ofNat 32 (p.toNat / q.toNat), false, false⟩ := by
  rw [divuOut, if_neg h, logicOut]

variable {p q} in
theorem ne_zero_of_overflow (h : p = 0x80000000 ∧ q = 0xFFFFFFFF) : q ≠ 0 := by
  rw [h.2]; decide

theorem divOut_overflow (h : p = 0x80000000 ∧ q = 0xFFFFFFFF) : divOut p q = ⟨0x7FFFFFFF, false, true⟩ := by
  rw [divOut, if_neg (ne_zero_of_overflow h), if_pos ((divOverflows_iff p q).2 h)]

theorem remOut_overflow (h : p = 0x80000000 ∧ q = 0xFFFFFFFF) : remOut p q = ⟨0, false, true⟩ := by
  rw [remOut, if_neg (ne_zero_of_overflow h), if_pos ((divOverflows_iff p q).2 h)]

theorem divOut_eq (h : q ≠ 0) (ho : ¬(p = 0x80000000 ∧ q = 0xFFFFFFFF)) :
    divOut p q = ⟨BitVec.ofInt 32 (p.toInt.tdiv q.toInt), false, false⟩ := by
  rw [divOut, if_neg h, if_neg (mt (divOverflows_iff p q).1 ho), logicOut]

theorem remOut_eq (h : q ≠ 0) (ho : ¬(p = 0x80000000 ∧ q = 0xFFFFFFFF)) :
    remOut p q = ⟨BitVec.ofInt 32 (p.toInt.tmod q.toInt), false, false⟩ := by
  rw [remOut, if_neg h, if_neg (mt (divOverflows_iff p q).1 ho), logicOut]

end Outputs

end Sys2Proof.Proofs
end

section
/-! SUPPORT. The integer ALU (R67): its table of words, and what each row does. -/

namespace Sys2Proof.Proofs

open Sys2Proof.Machine Sys2Proof.Safety

/-- The integer ALU: each instruction with the d and the fn of its word (R67). -/
def aluRows (core : CoreId) (d a b : Reg) : List (Instr × Reg × BitVec 10) :=
  [(.add core d a b, d, 0x000), (.sub core d a b, d, 0x001), (.and core d a b, d, 0x002), (.or core d a b, d, 0x003),
   (.xor core d a b, d, 0x004), (.shl core d a b, d, 0x005), (.shr core d a b, d, 0x006), (.sar core d a b, d, 0x007),
   (.min core d a b, d, 0x008), (.max core d a b, d, 0x009), (.cmp core a b, 0, 0x00A), (.tst core a b, 0, 0x00B),
   (.mul core d a b, d, 0x00C), (.mulh core d a b, d, 0x00D), (.mulhu core d a b, d, 0x00E), (.div core d a b, d, 0x010),
   (.divu core d a b, d, 0x011), (.rem core d a b, d, 0x012)]

variable {core : CoreId} {d a b : Reg}

theorem encode_aluRows : ∀ i e fn, (i, e, fn) ∈ aluRows core d a b → encode i = some (wordA 0x01 e a b fn) := by
  intro i e fn h
  fin_cases h <;> exact encode_eq_wordA rfl rfl rfl rfl rfl rfl

/-- What decodes as an operation of the ALU is a row of its table. -/
theorem mem_aluRows_of_decodeAlu {fn : Nat} {i : Instr} (h : decodeAlu core d a b fn = some i) :
    (i, d, BitVec.ofNat 10 fn) ∈ aluRows core d a b := by
  unfold decodeAlu at h
  split at h <;> simp_all [aluRows]

theorem decode_notMem_aluRows (stall : Nat) (fn : BitVec 10) (h : ∀ i, (i, d, fn) ∉ aluRows core d a b) :
    decode core stall (wordA 0x01 d a b fn) = none := by
  rw [decode_wordA_alu, Option.eq_none_iff_forall_ne_some]
  intro i hi
  have hm := mem_aluRows_of_decodeAlu hi
  rw [BitVec.ofNat_toNat, BitVec.setWidth_eq] at hm
  exact h i hm

/-- Settles O5: the table of words, then each row through the result and flags of its operation. -/
theorem integerAlu : Obligations.IntegerAlu := by
  intro s core t d a b
  exact ⟨encode_aluRows, decode_notMem_aluRows,
    runs_alu rfl (addOut_eq _ _), runs_alu rfl (subOut_eq _ _), runs_alu rfl rfl, runs_alu rfl rfl, runs_alu rfl rfl,
    runs_alu rfl (shlOut_eq _ _), runs_alu rfl (shrOut_eq _ _), runs_alu rfl (sarOut_eq _ _),
    runs_alu rfl (minOut_eq _ _), runs_alu rfl (maxOut_eq _ _), runs_flags rfl (subOut_eq _ _), runs_flags rfl rfl,
    runs_alu rfl (mulOut_eq _ _), runs_alu rfl (mulhOut_eq _ _), runs_alu rfl rfl,
    fun h => runs_alu rfl (divOut_zero _ _ h), fun h => runs_alu rfl (divOut_overflow _ _ h),
    fun h ho => runs_alu rfl (divOut_eq _ _ h ho), fun h => runs_alu rfl (divuOut_zero _ _ h),
    fun h => runs_alu rfl (divuOut_eq _ _ h), fun h => runs_alu rfl (remOut_zero _ _ h),
    fun h => runs_alu rfl (remOut_overflow _ _ h), fun h ho => runs_alu rfl (remOut_eq _ _ h ho)⟩

end Sys2Proof.Proofs
end

section
/-! SUPPORT. The immediate instructions (R68): their table of words, their fixed fields, and what each does. -/

namespace Sys2Proof.Proofs

open Sys2Proof.Machine Sys2Proof.Safety

/-- The immediate instructions of format I: each with the opcode, d and imm15 of its word (R68). -/
def immRows (core : CoreId) (d a : Reg) (imm : BitVec 15) (amount : BitVec 5) : List (Instr × BitVec 7 × Reg × BitVec 15) :=
  [(.addi core d a imm, 0x08, d, imm), (.andi core d a imm, 0x09, d, imm), (.ori core d a imm, 0x0A, d, imm),
   (.xori core d a imm, 0x0B, d, imm), (.shli core d a amount, 0x0C, d, amount.setWidth 15),
   (.shri core d a amount, 0x0D, d, amount.setWidth 15), (.sari core d a amount, 0x0E, d, amount.setWidth 15),
   (.cmpi core a imm, 0x0F, 0, imm)]

variable {core : CoreId} {d a : Reg} {imm : BitVec 15} {amount : BitVec 5}

theorem encode_immRows : ∀ i op e k, (i, op, e, k) ∈ immRows core d a imm amount → encode i = some (wordI op e a k) := by
  intro i op e k h
  fin_cases h <;> refine encode_eq_wordI rfl rfl rfl rfl ?_
  all_goals simp only [toNat_shift_imm]

/-- A shift whose imm[14:5] is not 0 is an undefined encoding. -/
theorem decode_longShift (stall : Nat) (h : 31 < imm.toNat) :
    ∀ op ∈ ([0x0C, 0x0D, 0x0E] : List (BitVec 7)), decode core stall (wordI op d a imm) = none := by
  intro op hop
  have hn : ¬imm.toNat < 32 := by omega
  fin_cases hop <;> exact (decode_wordI_imm core stall (by decide) (by decide) (by decide) d a imm).trans (if_neg hn)

/-- A CMPI or AXSEL whose d is not 0 is an undefined encoding. -/
theorem decode_d_ne_zero (stall : Nat) (h : d ≠ 0) {op : BitVec 7} (hop : op = 0x0F ∨ op = 0x11) :
    decode core stall (wordI op d a imm) = none := by
  rcases hop with rfl | rfl <;>
    exact (decode_wordI_imm core stall (by decide) (by decide) (by decide) d a imm).trans (if_neg h)

/-- LDU takes its number to the upper 20 bits. -/
theorem ldu_value (imm20 : BitVec 20) : imm20.setWidth 32 <<< 12 = BitVec.ofNat 32 (imm20.toNat * 4096) := by
  apply BitVec.eq_of_toNat_eq
  simp [Nat.shiftLeft_eq]

/-- Settles O6: the table of words, then each instruction through the result and flags of its operation. -/
theorem immediates : Obligations.Immediates := by
  intro s core t d a imm amount imm20
  exact ⟨encode_immRows, encode_ldu core d imm20, rfl, decode_longShift, fun stall h => decode_d_ne_zero stall h (.inl rfl),
    runs_alu rfl (addOut_eq _ _), runs_alu rfl rfl, runs_alu rfl rfl, runs_alu rfl rfl,
    runs_alu rfl (shlOut_eq _ _), runs_alu rfl (shrOut_eq _ _), runs_alu rfl (sarOut_eq _ _),
    runs_flags rfl (subOut_eq _ _), runs_regs rfl (by rw [ldu_value])⟩

end Sys2Proof.Proofs
end

section
/-! SUPPORT. Loads, stores and constants (R48, R70, R71): the faults of an access, the value read, the bytes written. -/

namespace Sys2Proof.Proofs

open Sys2Proof.Machine Sys2Proof.Safety

/-! ### Words -/

theorem encode_loads (core : CoreId) (d a : Reg) (imm : BitVec 15) :
    ∀ i op, (i, op) ∈ ([(.ldW core d a imm, 0x18), (.ldH core d a imm, 0x19), (.ldHU core d a imm, 0x1A), (.ldB core d a imm, 0x1B),
      (.ldBU core d a imm, 0x1C)] : List (Instr × BitVec 7)) → encode i = some (wordI op d a imm) := by
  intro i op h
  fin_cases h <;> exact encode_eq_wordI rfl rfl rfl rfl rfl

theorem encode_stores (core : CoreId) (d a : Reg) (imm : BitVec 15) :
    ∀ i op, (i, op) ∈ ([(.stW core d a imm, 0x1D), (.stH core d a imm, 0x1E), (.stB core d a imm, 0x1F)] : List (Instr × BitVec 7)) →
      encode i = some (wordI op d a imm) := by
  intro i op h
  fin_cases h <;> exact encode_eq_wordI rfl rfl rfl rfl rfl

/-! ### Little-endian fields -/

section Bytes

variable (m : List Host.Cell) (p : Nat)

theorem leNat_memReads_one : leNat (memReads m p 1) = (memRead m p).toNat := by
  simp [memReads, leNat]

theorem leNat_memReads_two : leNat (memReads m p 2) = (memRead m (p + 1) ++ memRead m p).toNat := by
  simp only [memReads, List.range_succ, List.range_zero, List.nil_append, List.cons_append, List.map_cons, List.map_nil, leNat,
    Nat.add_zero, toNat_append_add]
  omega

theorem leNat_memReads_four :
    leNat (memReads m p 4) = (memRead m (p + 3) ++ memRead m (p + 2) ++ memRead m (p + 1) ++ memRead m p).toNat := by
  simp only [memReads, List.range_succ, List.range_zero, List.nil_append, List.cons_append, List.map_cons, List.map_nil, leNat,
    Nat.add_zero, toNat_append_add]
  omega

/-- The bytes of a number stand at their places; every other byte is as before. -/
theorem memRead_memWrites_leBytes (size v k : Nat) :
    memRead (memWrites m p (leBytes size v)) k =
      if p ≤ k ∧ k < p + size then BitVec.ofNat 8 (v / 256 ^ (k - p)) else memRead m k := by
  split_ifs with h
  · obtain ⟨i, rfl⟩ := Nat.exists_eq_add_of_le h.1
    have hi : i < size := by omega
    rw [memRead_memWrites_inside _ _ _ _ (by simpa using hi)]
    simp [leBytes, hi, Nat.shiftRight_eq_div_pow, Nat.pow_mul]
  · exact memRead_memWrites_outside _ _ _ _ (by simp; omega)

end Bytes

/-! ### The effect of an access -/

/-- An access of `size` bytes at the operand's address is aligned and within the block. -/
def within (x : Task) (a : Reg) (imm : BitVec 15) (size : Nat) : Prop :=
  address x a imm % size = 0 ∧ address x a imm + size ≤ x.memSize

section Access

variable {x : Task} {a d : Reg} {imm : BitVec 15} {size addr : Nat} {signed : Bool}

theorem localFault_misaligned (h : addr % size ≠ 0) : x.localFault addr size = some 0xA00B := if_pos h

theorem localFault_beyond (h : addr % size = 0) (hb : x.memSize < addr + size) : x.localFault addr size = some 0xA00A := by
  rw [Task.localFault, if_neg (not_not.2 h), if_pos hb]

theorem localFault_none (h : within x a imm size) : x.localFault (address x a imm) size = none := by
  obtain ⟨haligned, hinside⟩ := h
  rw [Task.localFault, if_neg (not_not.2 haligned), if_neg (not_lt.2 hinside)]

theorem localAddr_eq_address : x.localAddr a imm = address x a imm := rfl

theorem loadEffect_fault {code : Nat} (h : x.localFault (address x a imm) size = some code) :
    loadEffect size signed d a imm x = .fault code := by
  simp only [loadEffect, localAddr_eq_address, h]

theorem storeEffect_fault {code : Nat} (h : x.localFault (address x a imm) size = some code) :
    storeEffect size d a imm x = .fault code := by
  simp only [storeEffect, localAddr_eq_address, h]

/-- A field with its top bit set stands for its number less 2 to the power of its width. -/
theorem signExtend_eq_ite {w : Nat} (hw : 0 < w) (y : BitVec w) :
    y.signExtend 32 = if 2 ^ (w - 1) ≤ y.toNat then BitVec.ofInt 32 ((y.toNat : Int) - 2 ^ w) else BitVec.ofNat 32 y.toNat := by
  have hpow : 2 ^ w = 2 * 2 ^ (w - 1) := (mul_pow_sub_one hw.ne' 2).symm
  rw [BitVec.signExtend, BitVec.toInt_eq_toNat_cond]
  split_ifs with h1 h2 h2
  · omega
  · exact BitVec.ofInt_natCast ..
  · simp
  · omega

/-- A load within the block writes its field, sign-extended or zero-extended. -/
theorem loadEffect_ok (hok : within x a imm size) (hs : 0 < size)
    {y : BitVec (8 * size)} (hy : leNat (memReads x.mem (address x a imm) size) = y.toNat) :
    loadEffect size signed d a imm x = .regs 1 (x.setG d (if signed then y.signExtend 32 else y.setWidth 32)) := by
  simp only [loadEffect, localAddr_eq_address, localFault_none hok, hy]
  cases signed with
  | false => simp
  | true => simp [signExtend_eq_ite (show 0 < 8 * size by omega)]

theorem storeEffect_ok (hok : within x a imm size) :
    storeEffect size d a imm x = .regs 1 { x with mem := memWrites x.mem (address x a imm) (leBytes size (x.g d).toNat) } := by
  simp only [storeEffect, localAddr_eq_address, localFault_none hok]

end Access

/-! ### The instructions -/

section Instructions

variable {s : State} {core : CoreId} {t size code : Nat} {i : Instr} {d a : Reg} {imm : BitVec 15} {signed : Bool}

theorem runs_load (hx : exec i s = execInstr core i s fun _ x => loadEffect size signed d a imm x) (hs : 0 < size)
    {y : BitVec (8 * size)} (hy : leNat (memReads (s.dev.task core.val t).mem (address (s.dev.task core.val t) a imm) size) = y.toNat)
    {v : Word} (hv : (if signed then y.signExtend 32 else y.setWidth 32) = v) (hok : within (s.dev.task core.val t) a imm size) :
    Runs s core t i 1 (next ((s.dev.task core.val t).setG d v)) :=
  runs_regs hx (hv ▸ loadEffect_ok hok hs hy)

theorem faults_load (hx : exec i s = execInstr core i s fun _ x => loadEffect size signed d a imm x)
    (h : (s.dev.task core.val t).localFault (address (s.dev.task core.val t) a imm) size = some code) : Faults s core t i code :=
  faults_fault hx (loadEffect_fault h)

theorem faults_store (hx : exec i s = execInstr core i s fun _ x => storeEffect size d a imm x)
    (h : (s.dev.task core.val t).localFault (address (s.dev.task core.val t) a imm) size = some code) : Faults s core t i code :=
  faults_fault hx (storeEffect_fault h)

/-- A store within the block leaves a memory with the bytes of g(d) at their places and every other byte kept. -/
theorem runs_store (hx : exec i s = execInstr core i s fun _ x => storeEffect size d a imm x)
    (hok : within (s.dev.task core.val t) a imm size) :
    let x := s.dev.task core.val t
    let p := address x a imm
    ∃ m : List Host.Cell,
      ((∀ k, memRead m k = if p ≤ k ∧ k < p + size then BitVec.ofNat 8 ((x.g d).toNat / 256 ^ (k - p)) else memRead x.mem k) ∧
        (Memory.wf x.mem = true → Memory.wf m = true)) ∧
      Runs s core t i 1 (next { x with mem := m }) :=
  ⟨_, ⟨memRead_memWrites_leBytes _ _ size _, wf_memWrites _ _ _⟩, runs_regs hx (storeEffect_ok hok)⟩

end Instructions

/-- Settles O8: loads, then stores, each within the block, misaligned and beyond it. -/
theorem loadsAndStores : Obligations.LoadsAndStores := by
  refine ⟨fun s core t d a imm => ?loads, fun s core t d a imm => ?stores⟩
  case loads =>
    exact ⟨encode_loads core d a imm,
      runs_load (signed := false) rfl (by decide) (leNat_memReads_four _ _) (BitVec.setWidth_eq _),
      runs_load rfl (by decide) (leNat_memReads_two _ _) rfl, runs_load rfl (by decide) (leNat_memReads_two _ _) rfl,
      runs_load rfl (by decide) (leNat_memReads_one _ _) rfl, runs_load rfl (by decide) (leNat_memReads_one _ _) rfl,
      fun h => faults_load rfl (localFault_misaligned h),
      fun h => ⟨faults_load rfl (localFault_misaligned h), faults_load rfl (localFault_misaligned h)⟩,
      fun h hb => faults_load rfl (localFault_beyond h hb),
      fun h hb => ⟨faults_load rfl (localFault_beyond h hb), faults_load rfl (localFault_beyond h hb)⟩,
      fun hb => ⟨faults_load rfl (localFault_beyond (Nat.mod_one _) hb), faults_load rfl (localFault_beyond (Nat.mod_one _) hb)⟩⟩
  case stores =>
    exact ⟨encode_stores core d a imm, runs_store rfl, runs_store rfl, runs_store rfl,
      fun h => faults_store rfl (localFault_misaligned h), fun h => faults_store rfl (localFault_misaligned h),
      fun h hb => faults_store rfl (localFault_beyond h hb), fun h hb => faults_store rfl (localFault_beyond h hb),
      fun hb => faults_store rfl (localFault_beyond (Nat.mod_one _) hb)⟩

end Sys2Proof.Proofs
end

section
/-! SUPPORT. LDC.W and AXSEL (R71, R81). -/

namespace Sys2Proof.Proofs

open Sys2Proof.Machine Sys2Proof.Safety

section Effects

variable {x : Task} {d a : Reg} {imm : BitVec 15} {consts : List Word} {axes : List Nat}

theorem ldcEffect_word {w : Word} (h : address x a imm % 4 = 0) (hw : consts[address x a imm / 4]? = some w) :
    ldcEffect consts d a imm x = .regs 1 { x.setG d w with z := decide (w = 0), n := w.msb, v := false } := by
  simp only [ldcEffect, localAddr_eq_address, if_pos h, hw]
  rfl

theorem ldcEffect_elsewhere (h : address x a imm % 4 ≠ 0 ∨ consts.length ≤ address x a imm / 4) :
    ldcEffect consts d a imm x = .regs 1 { x.setG d 0 with z := true, n := false, v := true } := by
  rcases h with h | h
  · simp only [ldcEffect, localAddr_eq_address, h, if_false]
  · simp only [ldcEffect, localAddr_eq_address, List.getElem?_eq_none h, ite_self]

theorem axselEffect_axis {n : Nat} (h : 0 ≤ (x.g a + imm.signExtend 32).toInt)
    (hn : axes[(x.g a + imm.signExtend 32).toInt.toNat]? = some n) :
    axselEffect axes a imm x = .regs 1 { x with ax := BitVec.ofNat 32 (n * 1024) } := by
  simp only [axselEffect, sext15, sval, if_pos h, hn, slotSig, Nat.add_zero]

theorem axselEffect_outside
    (h : (x.g a + imm.signExtend 32).toInt < 0 ∨ axes.length ≤ (x.g a + imm.signExtend 32).toInt.toNat) :
    axselEffect axes a imm x = .fault 0xA00C := by
  rcases h with h | h
  · simp only [axselEffect, sext15, sval, not_le.2 h, if_false]
  · simp only [axselEffect, sext15, sval, List.getElem?_eq_none h, ite_self]

/-- A system task has no axes (R59). -/
theorem axesOf_system (dev : Dev) (t : Nat) : dev.axesOf 16 t = [] := by
  unfold Dev.axesOf
  cases dev.image with
  | none => rfl
  | some im => rfl

end Effects

/-- Settles O9: LDC.W inside the constants and elsewhere; AXSEL inside the door and outside, where a system task always is. -/
theorem constants : Obligations.Constants := by
  refine ⟨fun s core t d a imm => ?ldc, fun s core t a imm => ?axsel⟩
  case ldc =>
    exact ⟨encode_eq_wordI rfl rfl rfl rfl rfl, fun w h hw => runs_regs rfl (ldcEffect_word h hw),
      fun h => runs_regs rfl (ldcEffect_elsewhere h)⟩
  case axsel =>
    have houtside : ∀ h, Faults s core t (.axsel core a imm) 0xA00C := fun h => faults_fault rfl (axselEffect_outside h)
    refine ⟨encode_eq_wordI rfl rfl rfl rfl rfl, fun d stall h => decode_d_ne_zero stall h (.inr rfl),
      fun n h hn => runs_regs rfl (axselEffect_axis h hn), houtside, ?_⟩
    rintro rfl
    exact houtside (.inr (by rw [show ((16 : CoreId) : Nat) = 16 from rfl, axesOf_system]; exact Nat.zero_le _))

end Sys2Proof.Proofs
end

section
/-! SUPPORT. Branches and register jumps (R66, R76, R77). -/

namespace Sys2Proof.Proofs

open Sys2Proof.Machine Sys2Proof.Safety

/-- The eight tests and their negations are the sixteen conditions of R66. -/
theorem condHolds_eq_condition (x : Task) (cond : BitVec 4) : condHolds x cond = condition x cond := by
  obtain ⟨k, hk⟩ : ∃ k, cond.toNat = k := ⟨_, rfl⟩
  have hlt : k < 16 := hk ▸ cond.isLt
  simp only [condHolds, condition, hk]
  interval_cases k <;> simp [bne]

theorem inCode_eq_true_iff (s : State) (core : CoreId) (t : Nat) (target : Int) :
    inCode (s.dev.codeOf core.val t) target = true ↔ codeAddress s core t target := by
  simp [inCode, codeAddress, and_assoc]

section Effects

variable {s : State} {core : CoreId} {t : Nat} {x : Task} {cond : BitVec 4} {off : BitVec 21} {link : Bool} {a : Reg}

theorem branchEffect_taken (h : condition x cond = true) (hc : codeAddress s core t (x.pc.toNat + 4 * off.toInt)) :
    branchEffect core.val (s.dev.codeOf core.val t) cond off link x =
      .done 2 { (if link then x.setG 31 (x.pc + 4) else x) with pc := BitVec.ofInt 32 (x.pc.toNat + 4 * off.toInt) }
        (fun d => d.traceBranch core.val true) := by
  rw [branchEffect, if_pos ((condHolds_eq_condition x cond).trans h)]
  exact if_pos ((inCode_eq_true_iff s core t _).2 hc)

theorem branchEffect_out (h : condition x cond = true) (hc : ¬codeAddress s core t (x.pc.toNat + 4 * off.toInt)) :
    branchEffect core.val (s.dev.codeOf core.val t) cond off link x = .fault 0xA010 := by
  rw [branchEffect, if_pos ((condHolds_eq_condition x cond).trans h)]
  exact if_neg (mt (inCode_eq_true_iff s core t _).1 hc)

theorem branchEffect_notTaken {code : List Word} (h : condition x cond = false) :
    branchEffect core.val code cond off link x = .done 1 (next x) (fun d => d.traceBranch core.val false) := by
  rw [branchEffect, if_neg (by rw [condHolds_eq_condition, h]; decide)]
  rfl

theorem jumpEffect_in (hc : codeAddress s core t (x.g a).toNat) :
    jumpEffect core.val (s.dev.codeOf core.val t) a link x =
      .done 2 { (if link then x.setG 31 (x.pc + 4) else x) with pc := x.g a }
        (fun d => d.flowPacket core.val 0x04 (leBytes 4 (x.g a).toNat)) :=
  if_pos ((inCode_eq_true_iff s core t _).2 hc)

theorem jumpEffect_out (hc : ¬codeAddress s core t (x.g a).toNat) :
    jumpEffect core.val (s.dev.codeOf core.val t) a link x = .fault 0xA010 :=
  if_neg (mt (inCode_eq_true_iff s core t _).1 hc)

end Effects

/-- Settles O10: B and BL taken, out of the code and not taken, then JR and CALLR in and out of it. -/
theorem branches : Obligations.Branches := by
  refine ⟨fun s core t cond off => ?branch, fun s core t a => ?jump⟩
  case branch =>
    exact ⟨fun _ => ⟨congrArg some (encB_toNat 0x30 cond off), congrArg some (encB_toNat 0x31 cond off)⟩,
      fun stall => ⟨decode_wordB_never core stall (.inl rfl) off, decode_wordB_never core stall (.inr rfl) off⟩,
      fun h hc => ⟨runs_done rfl (branchEffect_taken h hc), runs_done rfl (branchEffect_taken h hc)⟩,
      fun h hc => ⟨faults_fault rfl (branchEffect_out h hc), faults_fault rfl (branchEffect_out h hc)⟩,
      fun h _ => ⟨runs_done rfl (branchEffect_notTaken h), runs_done rfl (branchEffect_notTaken h)⟩⟩
  case jump =>
    exact ⟨encode_eq_wordA rfl rfl rfl rfl rfl rfl, encode_eq_wordA rfl rfl rfl rfl rfl rfl,
      fun hc => ⟨runs_done rfl (jumpEffect_in hc), runs_done rfl (jumpEffect_in hc)⟩,
      fun hc => ⟨faults_fault rfl (jumpEffect_out hc), faults_fault rfl (jumpEffect_out hc)⟩⟩

end Sys2Proof.Proofs
end

section
/-! SUPPORT. The bounds of the pending queue (R91, R359): what they depend on, and which entries they let in. -/

namespace Sys2Proof.Proofs

open Sys2Proof.Machine Sys2Proof.Safety

/-! ### The pending queue (R359) -/

/-- What the bounds of the pending queue are about: the division and the REC.PUT core of each entry. -/
def tags (q : List Pend) : List (Nat × Option Nat) := q.map fun p => (p.pool, p.core)

/-- The entries of one division. -/
def poolCount (q : List Pend) (pool : Nat) : Nat := (q.filter fun p => p.pool == pool).length

/-- The REC.PUT entries of one core. -/
def coreCount (q : List Pend) (core : Nat) : Nat := (q.filter fun p => p.core == some core).length

/-- The bounds of R359, and the shares of REC.PUT (R91). -/
def Bounded (q : List Pend) : Prop :=
  poolCount q 0 ≤ 1 ∧ poolCount q 1 ≤ 32 ∧ poolCount q 2 ≤ 991 ∧ ∀ c, coreCount q c ≤ if c = 16 then 64 else 32

theorem poolCount_eq_tags (q : List Pend) (pool : Nat) : poolCount q pool = ((tags q).filter fun x => x.1 == pool).length := by
  rw [tags, List.filter_map, List.length_map]; rfl

theorem coreCount_eq_tags (q : List Pend) (core : Nat) : coreCount q core = ((tags q).filter fun x => x.2 == some core).length := by
  rw [tags, List.filter_map, List.length_map]; rfl

theorem Bounded.of_tags {q q' : List Pend} (h : Bounded q) (ht : tags q' = tags q) : Bounded q' := by
  simpa only [Bounded, poolCount_eq_tags, coreCount_eq_tags, ht] using h

/-- A change of the records alone keeps the tags. -/
theorem tags_map {q : List Pend} {f : Pend → Pend} (hf : ∀ p, (f p).pool = p.pool ∧ (f p).core = p.core) :
    tags (q.map f) = tags q := by
  simp [tags, hf]

@[simp] theorem poolCount_append_singleton (q : List Pend) (p : Pend) (pool : Nat) :
    poolCount (q ++ [p]) pool = poolCount q pool + if p.pool = pool then 1 else 0 := by
  by_cases h : p.pool = pool <;> simp [poolCount, List.filter_append, h]

@[simp] theorem coreCount_append_singleton (q : List Pend) (p : Pend) (core : Nat) :
    coreCount (q ++ [p]) core = coreCount q core + if p.core = some core then 1 else 0 := by
  by_cases h : p.core = some core <;> simp [coreCount, List.filter_append, h]

theorem Bounded.nil : Bounded [] :=
  ⟨Nat.zero_le _, Nat.zero_le _, Nat.zero_le _, fun _ => Nat.zero_le _⟩

theorem Bounded.tail {p : Pend} {q : List Pend} (h : Bounded (p :: q)) : Bounded q := by
  have hle (f : Pend → Bool) : (q.filter f).length ≤ ((p :: q).filter f).length :=
    ((List.sublist_cons_self p q).filter f).length_le
  obtain ⟨h0, h1, h2, hc⟩ := h
  exact ⟨(hle _).trans h0, (hle _).trans h1, (hle _).trans h2, fun c => (hle _).trans (hc c)⟩

/-- A record of the device enters the division that has room for it. -/
theorem Bounded.enter {r : Recorder} {code pool : Nat} (h : Bounded r.pendq) (hp : r.poolFor code = some pool) (x : Record) :
    Bounded (r.enter x pool none).pendq := by
  obtain ⟨h0, h1, h2, hc⟩ := h
  have hin (k : Nat) : r.inPool k = poolCount r.pendq k := rfl
  have hroom : (pool = 2 ∧ poolCount r.pendq 2 < 991) ∨ (pool = 1 ∧ poolCount r.pendq 1 < 32) := by
    unfold Recorder.poolFor at hp
    grind
  rcases hroom with ⟨rfl, hlt⟩ | ⟨rfl, hlt⟩ <;> simp [Recorder.enter, Bounded, *]

/-- A record of REC.PUT enters the general division where that and its core's share have room. -/
theorem Bounded.put {q : List Pend} {c : Nat} (h : Bounded q) (hg : poolCount q 2 < 991)
    (hs : coreCount q c < if c = 16 then 64 else 32) (x : Record) :
    Bounded (q ++ [{ record := x, pool := 2, core := some c }]) := by
  obtain ⟨h0, h1, h2, hc⟩ := h
  simp only [Bounded, poolCount_append_singleton, coreCount_append_singleton, Option.some.injEq]
  refine ⟨by simpa using h0, by simpa using h1, by simpa using hg, fun k => ?_⟩
  split
  · next hk => subst hk; exact hs
  · exact hc k

/-- The overflow entry opens where none is pending. -/
theorem Bounded.overflow {q : List Pend} (h : Bounded q) (h0 : poolCount q 0 = 0) (x : Record) :
    Bounded (q ++ [{ record := x, pool := 0 }]) := by
  obtain ⟨-, h1, h2, hc⟩ := h
  simp [Bounded, *]

/-! ### Which operations of the recorder keep the tags -/

theorem length_of_repeatIn {occ : Record} {l l' : List Record} {sat : Bool} (h : repeatIn occ l = some (l', sat)) :
    l'.length = l.length := by
  induction l generalizing l' sat with
  | nil => cases h
  | cons r rs ih =>
    rw [repeatIn] at h
    split at h
    · next hrs => cases h; simp [ih hrs]
    · split_ifs at h
      cases h; rfl

theorem tags_of_repeatPending {occ : Record} {q q' : List Pend} {sat : Bool} (h : repeatPending occ q = some (q', sat)) :
    tags q' = tags q := by
  unfold repeatPending at h
  split at h
  · next rs _ hrs =>
    cases h
    have hlen : rs.length = q.length := by rw [length_of_repeatIn hrs, List.length_map]
    have hfst : (q.zip rs).map Prod.fst = q := List.map_fst_zip (by omega)
    calc tags ((q.zip rs).map fun p => { p.1 with record := p.2 })
        = tags ((q.zip rs).map Prod.fst) := by simp [tags]
      _ = tags q := by rw [hfst]
  · cases h

@[simp] theorem pendq_repSatIf (r : Recorder) (sat : Bool) : (r.repSatIf sat).pendq = r.pendq := by
  unfold Recorder.repSatIf; split <;> rfl

theorem tags_of_countRepeat {r r' : Recorder} {occ : Record} (h : r.countRepeat occ = some r') : tags r'.pendq = tags r.pendq := by
  unfold Recorder.countRepeat at h
  split at h
  · next hq => cases h; simpa using tags_of_repeatPending hq
  · split at h
    · cases h; simp
    · split at h
      · cases h; simp
      · cases h

@[simp] theorem pendq_makeRoom (r : Recorder) (x : Record) : (r.makeRoom x).pendq = r.pendq := rfl

@[simp] theorem pendq_store (r : Recorder) (x : Record) : (r.store x).pendq = r.pendq := by
  unfold Recorder.store Recorder.intoRing
  dsimp only
  split <;> rfl

@[simp] theorem pendq_writeCheckpoint (r : Recorder) (t : Option Nat) : (r.writeCheckpoint t).pendq = r.pendq := rfl

@[simp] theorem pendq_checkpointDue (r : Recorder) (size now : Nat) : (r.checkpointDue size now).pendq = r.pendq := by
  unfold Recorder.checkpointDue
  dsimp only
  split <;> rfl

@[simp] theorem tags_pendq_emptied (r : Recorder) : tags r.emptied.pendq = tags r.pendq := tags_map fun _ => ⟨rfl, rfl⟩

@[simp] theorem pendq_uncleared (r : Recorder) (x : Record) : (r.uncleared x).pendq = r.pendq := rfl

@[simp] theorem pendq_cutOff (r : Recorder) (now k : Nat) : (r.cutOff now k).pendq = r.pendq := by
  unfold Recorder.cutOff
  dsimp only
  split
  · rfl
  · rfl
  · split <;> rfl
  · split <;> rfl
  · rfl

end Sys2Proof.Proofs
end

section
/-! SUPPORT. The bounds of the module's queues (R91, R176, R319, R359, R390) as one predicate, and the operations that work on the
queues themselves: the trace unit's and the recorder's. -/

namespace Sys2Proof.Proofs

open Sys2Proof.Machine Sys2Proof.Safety

/-- The front request of the host is executing or not; and, under the assumption that they were so before, the queues are within their
bounds and the trace buffer is in its canonical form. -/
structure Sound (β : Prop) (ε : Bool) (d : Dev) : Prop where
  intro ::
  executing : d.host.executing = ε
  pendq : β → Bounded d.recorder.pendq
  queue : β → d.host.queue.length ≤ 32
  promos : β → d.promos.length ≤ 512
  fifo : β → d.trace.fifo.length ≤ 4096
  buffer : β → Memory.wf d.trace.buffer = true

variable {β : Prop} {ε : Bool}

theorem Sound.start (d : Dev) : Sound (queueInv d) d.host.executing d where
  executing := rfl
  pendq := fun ⟨h0, h1, h2, hc, _⟩ => ⟨h0, h1, h2, hc⟩
  queue := fun ⟨_, _, _, _, hq, _⟩ => hq
  promos := fun ⟨_, _, _, _, _, hp, _⟩ => hp
  fifo := fun ⟨_, _, _, _, _, _, hf, _⟩ => hf
  buffer := fun ⟨_, _, _, _, _, _, _, hb⟩ => hb

theorem Sound.queueInv {d : Dev} (h : Sound β ε d) (hβ : β) : queueInv d := by
  obtain ⟨h0, h1, h2, hc⟩ := h.pendq hβ
  exact ⟨h0, h1, h2, hc, h.queue hβ, h.promos hβ, h.fifo hβ, h.buffer hβ⟩

/-! ### Updates of other parts, and of these parts beside their queues -/

section Updates

variable {d : Dev}

theorem Sound.mk {sys image regs sigs hidden summary cores halted rstReq axes doorCyc placer ports queues island field pair cans upd}
    (h : Sound β ε d) : Sound β ε (Dev.mk sys image regs sigs hidden summary cores halted rstReq axes doorCyc d.promos placer ports
      queues island field pair d.host cans d.recorder upd d.trace) :=
  ⟨h.executing, h.pendq, h.queue, h.promos, h.fifo, h.buffer⟩

theorem Sound.recorder {r : Recorder} (h : Sound β ε d) (hr : tags r.pendq = tags d.recorder.pendq) :
    Sound β ε { d with recorder := r } :=
  ⟨h.executing, fun b => (h.pendq b).of_tags hr, h.queue, h.promos, h.fifo, h.buffer⟩

theorem Sound.trace {t : Trace} (h : Sound β ε d) (hf : t.fifo = d.trace.fifo) (hb : t.buffer = d.trace.buffer) :
    Sound β ε { d with trace := t } :=
  ⟨h.executing, h.pendq, h.queue, h.promos, hf ▸ h.fifo, hb ▸ h.buffer⟩

theorem Sound.host {x : HostUnit} (h : Sound β ε d) (hx : x.executing = d.host.executing) (hq : x.queue = d.host.queue) :
    Sound β ε { d with host := x } :=
  ⟨hx ▸ h.executing, h.pendq, hq ▸ h.queue, h.promos, h.fifo, h.buffer⟩

theorem Sound.ite {c : Prop} [Decidable c] {a b : Dev} (ha : Sound β ε a) (hb : Sound β ε b) : Sound β ε (if c then a else b) := by
  split <;> assumption

theorem Sound.ite1 {γ : Type} {c : Prop} [Decidable c] {a b : Dev × γ} (ha : Sound β ε a.1) (hb : Sound β ε b.1) :
    Sound β ε (if c then a else b).1 := by
  split <;> assumption

theorem Sound.pair {γ : Type} {a : Dev} {b : γ} (ha : Sound β ε a) : Sound β ε (a, b).1 := ha

/-- A loop whose state holds a module. -/
theorem Sound.foldlOn {α κ : Type} (g : α → Dev) {l : List κ} {f : α → κ → α} {x : α}
    (h : ∀ x e, Sound β ε (g x) → Sound β ε (g (f x e))) (hx : Sound β ε (g x)) : Sound β ε (g (l.foldl f x)) := by
  induction l generalizing x with
  | nil => exact hx
  | cons e l ih => exact ih (h x e hx)

theorem Sound.foldl {κ : Type} {l : List κ} {f : Dev → κ → Dev} {d : Dev} (h : ∀ x a, Sound β ε x → Sound β ε (f x a))
    (hd : Sound β ε d) : Sound β ε (l.foldl f d) :=
  Sound.foldlOn id h hd

theorem Sound.foldl1 {κ γ : Type} {l : List κ} {f : Dev × γ → κ → Dev × γ} {d : Dev × γ}
    (h : ∀ x a, Sound β ε x.1 → Sound β ε (f x a).1) (hd : Sound β ε d.1) : Sound β ε (l.foldl f d).1 :=
  Sound.foldlOn Prod.fst h hd

end Updates

/-! ### Registers, event counters and trace packets -/

section Trace

variable {d : Dev}

theorem Dev_setReg_sound {addr : Nat} {v : Word} (h : Sound β ε d) : Sound β ε (d.setReg addr v) := h.mk

theorem Dev_nextFree_sound (h : Sound β ε d) : Sound β ε d.nextFree.1 := h.mk

theorem Dev_setRegFld_sound {addr lo width v : Nat} (h : Sound β ε d) : Sound β ε (d.setRegFld addr lo width v) := h.mk

theorem Dev_orReg_sound {addr : Nat} {bits : Word} (h : Sound β ε d) : Sound β ε (d.orReg addr bits) := h.mk

theorem Dev_incReg_sound {addr : Nat} (h : Sound β ε d) : Sound β ε (d.incReg addr) := h.mk

theorem Dev_incRegFld_sound {addr lo width : Nat} (h : Sound β ε d) : Sound β ε (d.incRegFld addr lo width) := h.mk

theorem Dev_bumpCounter_sound {i n : Nat} (h : Sound β ε d) : Sound β ε (d.bumpCounter i n) :=
  Sound.ite (Dev_orReg_sound (h.trace rfl rfl)) (h.trace rfl rfl)

theorem Dev_countEvent_sound {ev unit n : Nat} (h : Sound β ε d) : Sound β ε (d.countEvent ev unit n) :=
  Sound.foldl (fun _ _ hx => Sound.ite (Dev_bumpCounter_sound hx) hx) h

theorem Dev_dramBytes_sound {a n : Nat} (h : Sound β ε d) : Sound β ε (d.dramBytes a n) := Dev_countEvent_sound h

/-- A packet enters the FIFO only where its bytes fit. -/
theorem Dev_packet_sound {bytes : List Byte} (h : Sound β ε d) : Sound β ε (d.packet bytes) := by
  unfold Dev.packet
  extract_lets cfg trace d1
  refine Sound.ite h ?_
  split
  · exact Dev_orReg_sound (Dev_incReg_sound (h.trace rfl rfl))
  · next hfit =>
    exact ⟨h.executing, h.pendq, h.queue, h.promos, fun _ => by rw [List.length_append]; exact not_lt.1 hfit, h.buffer⟩

theorem Dev_traceByte_sound {b : Byte} (h : Sound β ε d) : Sound β ε (d.traceByte b) := by
  unfold Dev.traceByte
  extract_lets t d1
  have h1 : Sound β ε d1 := ⟨h.executing, h.pendq, h.queue, h.promos, h.fifo, fun b => wf_memWrite _ _ _ (h.buffer b)⟩
  exact Sound.ite (Dev_incReg_sound h1) h1

theorem Dev_drainTrace_sound (h : Sound β ε d) : Sound β ε d.drainTrace := by
  unfold Dev.drainTrace
  extract_lets bytes dropped cfg trace d1 bursts d2
  have h1 : Sound β ε d1 := ⟨h.executing, h.pendq, h.queue, h.promos, fun _ => Nat.zero_le _, h.buffer⟩
  have h2 : Sound β ε d2 := Sound.ite (Dev_countEvent_sound (Sound.foldl (fun _ _ => Dev_traceByte_sound) h1)) h1
  exact Sound.ite (Dev_packet_sound h2) h2

theorem Dev_flushBranches_sound {c : Nat} (h : Sound β ε d) : Sound β ε (d.flushBranches c) :=
  Sound.ite h ((Dev_packet_sound h).trace rfl rfl)

theorem Dev_flowPacket_sound {c : Nat} {ptype : Byte} {payload : List Byte} (h : Sound β ε d) :
    Sound β ε (d.flowPacket c ptype payload) :=
  Sound.ite (Dev_packet_sound (Dev_flushBranches_sound h)) h

theorem Dev_traceBranch_sound {c : Nat} {taken : Bool} (h : Sound β ε d) : Sound β ε (d.traceBranch c taken) :=
  Sound.ite h (Sound.ite (Dev_flushBranches_sound (h.trace rfl rfl)) (h.trace rfl rfl))

theorem Dev_traceTask_sound {c t ev code : Nat} (h : Sound β ε d) : Sound β ε (d.traceTask c t ev code) := Dev_flowPacket_sound h

theorem Dev_traceSync_sound (h : Sound β ε d) : Sound β ε d.traceSync := Dev_packet_sound h

theorem Dev_traceWrite_sound {sig tag : Nat} {value : Word} {q : BitVec 8} (h : Sound β ε d) :
    Sound β ε (d.traceWrite sig tag value q) :=
  Sound.ite (Dev_packet_sound h) h

theorem Dev_traceMark_sound {c : Nat} {marker : Word} (h : Sound β ε d) : Sound β ε (d.traceMark c marker) := Dev_packet_sound h

theorem Dev_trcCommand_sound {value : Word} (h : Sound β ε d) : Sound β ε (d.trcCommand value) :=
  have h1 := Sound.ite (c := bit value 0 = true) (h.trace (t := { d.trace with frozen := true }) rfl rfl) h
  have h2 := Sound.ite (c := bit value 1 = true) (h1.trace (t := { Dev.trace _ with frozen := false }) rfl rfl) h1
  Sound.ite (h2.trace rfl rfl) h2

end Trace

/-! ### The recorder -/

section Recorder

variable {d : Dev}

/-- A lost event updates the overflow entry in place, or opens it where there is none (R360). -/
theorem Dev_lostEvent_sound {fromPut : Bool} (h : Sound β ε d) : Sound β ε (d.lostEvent fromPut) := by
  unfold Dev.lostEvent
  extract_lets r lost now upd q
  have hq (b : β) : Bounded q := by
    unfold q
    split
    · exact (h.pendq b).of_tags (tags_map fun p => by unfold upd; dsimp only; split <;> exact ⟨rfl, rfl⟩)
    · next hn => exact (h.pendq b).overflow (Nat.eq_zero_of_not_pos hn) _
  exact Dev_orReg_sound ⟨h.executing, hq, h.queue, h.promos, h.fifo, h.buffer⟩

theorem Dev_stage_sound {x : Record} (h : Sound β ε d) : Sound β ε (d.stage x) := Sound.ite h (Dev_dramBytes_sound h)

theorem Dev_putRecord_sound {rtype code subj : Nat} {rep : Bool} {payload : List Byte} (h : Sound β ε d) :
    Sound β ε (d.putRecord rtype code subj rep payload) := by
  unfold Dev.putRecord
  extract_lets x
  split
  · next r hr =>
    split_ifs at hr
    exact h.recorder (tags_of_countRepeat hr)
  · split
    · next pool hp => exact Dev_stage_sound ⟨h.executing, fun b => (h.pendq b).enter hp x, h.queue, h.promos, h.fifo, h.buffer⟩
    · exact Dev_lostEvent_sound h

theorem Dev_event_sound {code subj : Nat} {payload : List Byte} (h : Sound β ε d) : Sound β ε (d.event code subj payload) :=
  Dev_putRecord_sound h

theorem Dev_eventRep_sound {code subj : Nat} {payload : List Byte} (h : Sound β ε d) : Sound β ε (d.eventRep code subj payload) :=
  Dev_putRecord_sound h

/-- A record of REC.PUT that repeats nothing enters the queue only where its division and its core's share have room. -/
theorem Dev_putUser_new_sound {core : Nat} {x : Dev × Nat} (h : Sound β ε d)
    (hx : poolCount d.recorder.pendq 2 < 991 → coreCount d.recorder.pendq core < (if core = 16 then 64 else 32) → Sound β ε x.1) :
    Sound β ε (if d.recorder.inPool 2 ≥ 991 then (d.lostEvent true, 0x6001)
      else if d.recorder.share core ≥ (if core = 16 then 64 else 32) then (d.lostEvent true, 0x6003) else x).1 := by
  by_cases hg : d.recorder.inPool 2 ≥ 991
  · rw [if_pos hg]; exact Dev_lostEvent_sound h
  rw [if_neg hg]
  by_cases hs : d.recorder.share core ≥ if core = 16 then 64 else 32
  · rw [if_pos hs]; exact Dev_lostEvent_sound h
  rw [if_neg hs]
  exact hx (not_le.1 hg) (not_le.1 hs)

theorem Dev_putUser_sound {core rtype subj : Nat} {payload : List Byte} (h : Sound β ε d) :
    Sound β ε (d.putUser core rtype subj payload).1 := by
  unfold Dev.putUser
  extract_lets x
  split
  · next r hr => exact h.recorder (tags_of_countRepeat hr)
  · refine Dev_putUser_new_sound h fun hg hs => ?_
    exact Dev_stage_sound ⟨h.executing, fun b => (h.pendq b).put hg hs x, h.queue, h.promos, h.fifo, h.buffer⟩

theorem Dev_commitRecord_sound (h : Sound β ε d) : Sound β ε d.commitRecord := by
  unfold Dev.commitRecord
  split
  · exact h
  · next p q hpq =>
    refine Dev_countEvent_sound (Dev_stage_sound ⟨h.executing, fun b => ?_, h.queue, h.promos, h.fifo, h.buffer⟩)
    rw [pendq_checkpointDue, pendq_store]
    exact (hpq ▸ h.pendq b).tail

theorem Dev_requestLifetime_sound {axis : Nat} (h : Sound β ε d) : Sound β ε (d.requestLifetime axis) :=
  Sound.ite h (h.recorder rfl)

theorem Dev_recCmdstat_sound {code : Nat} {flags : Word} (h : Sound β ε d) : Sound β ε (d.recCmdstat code flags) := h.mk

theorem Dev_anchorCommand_sound {value : Word} (h : Sound β ε d) : Sound β ε (d.anchorCommand value) :=
  Sound.ite (Dev_recCmdstat_sound h) (Sound.ite (Dev_recCmdstat_sound h)
    (Dev_setReg_sound (Dev_putRecord_sound (h.recorder rfl))))

theorem Dev_keyCommand_sound {value : Word} (h : Sound β ε d) : Sound β ε (d.keyCommand value) :=
  Sound.ite (Dev_recCmdstat_sound h) (Sound.ite (Dev_recCmdstat_sound h) (Dev_setReg_sound (h.recorder rfl)))

theorem Dev_refuseClear_sound {code : Nat} (h : Sound β ε d) : Sound β ε (d.refuseClear code).1 :=
  have h1 : Sound β ε (d.recCmdstat code 0x10) := Dev_recCmdstat_sound h
  Sound.ite1 (Dev_eventRep_sound (h1.recorder rfl)) (h1.recorder rfl)

theorem Dev_emptyRing_sound {x : ClearEntry} {token : List Byte} (h : Sound β ε d) : Sound β ε (d.emptyRing x token) := by
  refine Dev_countEvent_sound (Dev_orReg_sound (h.recorder ?_))
  rw [pendq_checkpointDue, pendq_store]
  exact tags_pendq_emptied _

theorem Dev_clearRequest_sound {challenge : BitVec 128} {token : List Byte} (h : Sound β ε d) :
    Sound β ε (d.clearRequest challenge token).1 := by
  unfold Dev.clearRequest
  extract_lets out recorder d1 r x d2
  have h1 : Sound β ε d1 := h.recorder rfl
  have h2 : Sound β ε d2 := h1.recorder rfl
  have hr (code : Nat) : Sound β ε (d1.refuseClear code).1 := Dev_refuseClear_sound h1
  clear_value d2 x r d1 out
  refine Sound.ite1 (hr _) ?_
  split
  · exact hr _
  · refine Sound.ite1 (hr _) ?_
    rcases out with - | ⟨c, issued, seq⟩
    · exact hr _
    · exact Sound.ite1 (hr _) (Sound.ite1 (hr _) (Sound.ite1 (hr _) (Dev_setReg_sound (Dev_emptyRing_sound h2))))

theorem Dev_newChallenge_sound {random : BitVec 128} (h : Sound β ε d) : Sound β ε (d.newChallenge random) := h.recorder rfl

theorem Dev_cutEngine_sound {k : Nat} (h : Sound β ε d) : Sound β ε (d.cutEngine k) := by
  unfold Dev.cutEngine
  split
  · exact h.mk
  · exact h.recorder (congrArg tags (pendq_cutOff _ _ _))

theorem Dev_finishClear_sound (h : Sound β ε d) : Sound β ε d.finishClear := by
  unfold Dev.finishClear
  extract_lets r
  split
  · exact h
  · refine Dev_countEvent_sound (Dev_orReg_sound (h.recorder ?_))
    rw [pendq_checkpointDue, pendq_store]
    exact tags_pendq_emptied _

@[simp] theorem pendq_spoil (r : Recorder) (k : Nat) : (r.spoil k).pendq = r.pendq := rfl

@[simp] theorem pendq_scanned (r : Recorder) : r.scanned.pendq = r.pendq := rfl

theorem Dev_recorderScan_sound (h : Sound β ε d) : Sound β ε d.recorderScan := by
  unfold Dev.recorderScan
  extract_lets torn before r0 r1 r2 r3 d0 d1 r4 d2
  have hr2 : r2.pendq = d.recorder.pendq := (apply_ite Recorder.pendq _ _ _).trans (ite_self _)
  have hr3 : r3.pendq = d.recorder.pendq := by
    unfold r3; rw [apply_ite Recorder.pendq, pendq_scanned, ite_self, hr2]
  have h1 : Sound β ε d1 := Dev_finishClear_sound (Sound.recorder (Dev_nextFree_sound h) (congrArg tags hr3))
  have h2 : Sound β ε d2 := Sound.ite (Dev_orReg_sound (Dev_event_sound (h1.recorder rfl))) h1
  exact Sound.ite (Dev_orReg_sound (Dev_event_sound h2)) h2

theorem Dev_lifetimeChecks_sound (h : Sound β ε d) : Sound β ε d.lifetimeChecks :=
  Sound.foldl (fun _ _ hx => Sound.ite (Dev_orReg_sound (Dev_event_sound hx)) hx) h

theorem Dev_recorderLosses_sound (h : Sound β ε d) : Sound β ε d.recorderLosses := by
  unfold Dev.recorderLosses
  extract_lets r0 n r d1
  have h1 : Sound β ε d1 := h.recorder (by split <;> rfl)
  exact Sound.ite (Dev_orReg_sound (Dev_event_sound h1)) h1

theorem Dev_recorderStart_sound (h : Sound β ε d) : Sound β ε d.recorderStart :=
  Dev_lifetimeChecks_sound (Dev_recorderLosses_sound (Dev_recorderScan_sound h))

end Recorder

end Sys2Proof.Proofs
end

section
/-! SUPPORT. The operations of the units keep the queues within their bounds and the front request executing or not; each proof
follows the branches and loops of its operation. -/

namespace Sys2Proof.Proofs

open Sys2Proof.Machine Sys2Proof.Safety

variable {β : Prop} {ε : Bool}

theorem Sound.of_eq {γ : Type} {x : Dev × γ} {z : Dev} {w : γ} (e : x = (z, w)) (h : Sound β ε x.1) : Sound β ε z := by
  rw [e] at h; exact h

theorem Dev_setAxis_sound {d : Dev} {n : Nat} {a : Axis} (h : Sound β ε d) : Sound β ε (Dev.setAxis d n a) := by
  unfold Dev.setAxis
  with_reducible repeat' first | exact Sound.mk (by assumption)

theorem Dev_modMotion_sound {d : Dev} {n : Nat} {f : Motion → Motion} (h : Sound β ε d) : Sound β ε (Dev.modMotion d n f) := by
  unfold Dev.modMotion
  with_reducible repeat' first | assumption | refine Dev_setAxis_sound ?_

theorem Dev_setCore_sound {d : Dev} {c : Nat} {k : Core} (h : Sound β ε d) : Sound β ε (Dev.setCore d c k) := by
  unfold Dev.setCore
  with_reducible repeat' first | exact Sound.mk (by assumption)

theorem Dev_setTask_sound {d : Dev} {c t : Nat} {x : Task} (h : Sound β ε d) : Sound β ε (Dev.setTask d c t x) := by
  unfold Dev.setTask
  with_reducible repeat' first | assumption | refine Dev_setCore_sound ?_

theorem Dev_setPort_sound {d : Dev} {p : Nat} {x : Port} (h : Sound β ε d) : Sound β ε (Dev.setPort d p x) := by
  unfold Dev.setPort
  with_reducible repeat' first | exact Sound.mk (by assumption)

theorem Dev_setQueue_sound {d : Dev} {q : Nat} {x : Queue} (h : Sound β ε d) : Sound β ε (Dev.setQueue d q x) := by
  unfold Dev.setQueue
  with_reducible repeat' first | exact Sound.mk (by assumption)

theorem Dev_setCan_sound {d : Dev} {c : Nat} {x : Can} (h : Sound β ε d) : Sound β ε (Dev.setCan d c x) := by
  unfold Dev.setCan
  with_reducible repeat' first | exact Sound.mk (by assumption)

theorem Dev_setSafe_sound {d : Dev} {n : Nat} {x : AxSafe} (h : Sound β ε d) : Sound β ε (Dev.setSafe d n x) := by
  unfold Dev.setSafe
  with_reducible repeat' first | exact Sound.mk (by assumption)

theorem Dev_setChan_sound {d : Dev} {h1 : Nat} {x : Hs} (h : Sound β ε d) : Sound β ε (Dev.setChan d h1 x) := by
  unfold Dev.setChan
  with_reducible repeat' first | exact Sound.mk (by assumption)

theorem Dev_commitLifetime_sound {d : Dev} {axis : Nat} (h : Sound β ε d) : Sound β ε (Dev.commitLifetime d axis) := by
  unfold Dev.commitLifetime
  with_reducible repeat' first | assumption | refine Dev_setAxis_sound ?_

theorem Dev_roundCycles_sound {d : Dev} {c : Nat} {door : Option Nat} {n : Nat} (h : Sound β ε d) :
    Sound β ε (Dev.roundCycles d c door n) := by
  unfold Dev.roundCycles
  extract_lets k d1
  have h1 : Sound β ε d1 := Dev_setCore_sound h
  split
  · exact h1
  · split
    · exact h1.mk
    · exact h1

theorem Dev_run_sound {d : Dev} {c t : Nat} {x : Task} {starts : Bool} (h : Sound β ε d) : Sound β ε (Dev.run d c t x starts) := by
  unfold Dev.run
  with_reducible repeat' first
    | assumption | refine Sound.ite ?_ ?_ | refine Dev_setCore_sound ?_ | refine Dev_setTask_sound ?_
    | refine Dev_countEvent_sound ?_ | refine Dev_flowPacket_sound ?_ | refine Dev_roundCycles_sound ?_

theorem Dev_activate_sound {d : Dev} {c t : Nat} {x : Task} (h : Sound β ε d) : Sound β ε (Dev.activate d c t x) := by
  unfold Dev.activate
  with_reducible repeat' first | assumption | refine Dev_run_sound ?_ | split

theorem Dev_take_sound {d : Dev} {c t : Nat} {x : Task} (h : Sound β ε d) : Sound β ε (Dev.take d c t x) := by
  unfold Dev.take
  with_reducible repeat' first | assumption | refine Sound.ite ?_ ?_ | refine Dev_run_sound ?_ | refine Dev_activate_sound ?_

theorem Dev_endRound_sound {d : Dev} {c : Nat} (h : Sound β ε d) : Sound β ε (Dev.endRound d c) := by
  unfold Dev.endRound
  with_reducible repeat' first | assumption | refine Dev_setCore_sound ?_

theorem Dev_wakeFrame_sound {d : Dev} {c : Nat} (h : Sound β ε d) : Sound β ε (Dev.wakeFrame d c) := by
  unfold Dev.wakeFrame
  with_reducible repeat' first | assumption | refine Dev_setCore_sound ?_

theorem Dev_choose_sound {d : Dev} {c : Nat} (h : Sound β ε d) : Sound β ε (Dev.choose d c) := by
  dsimp only [Dev.choose]
  with_reducible repeat' first
    | assumption | refine Dev_setCore_sound ?_ | refine Dev_take_sound ?_ | refine Dev_endRound_sound ?_
    | refine Dev_wakeFrame_sound ?_ | split

theorem Dev_leave_sound {d : Dev} {c t : Nat} {x : Task} (h : Sound β ε d) : Sound β ε (Dev.leave d c t x) := by
  unfold Dev.leave
  with_reducible repeat' first | assumption | refine Dev_setCore_sound ?_ | refine Dev_setTask_sound ?_

theorem Dev_preempt_sound {d : Dev} {c : Nat} (h : Sound β ε d) : Sound β ε (Dev.preempt d c) := by
  unfold Dev.preempt
  with_reducible repeat' first
    | assumption | refine Sound.ite ?_ ?_ | refine Dev_setCore_sound ?_ | refine Dev_traceTask_sound ?_
    | refine Dev_leave_sound ?_ | split

theorem Dev_kick_sound {d : Dev} {c : Nat} (h : Sound β ε d) : Sound β ε (Dev.kick d c) := by
  unfold Dev.kick
  with_reducible repeat' first | assumption | refine Dev_choose_sound ?_ | refine Dev_preempt_sound ?_ | split

theorem Dev_takeOrd_sound {d : Dev} {c : Nat} (h : Sound β ε d) : Sound β ε (Dev.takeOrd d c) := by
  unfold Dev.takeOrd
  with_reducible repeat' first | assumption | refine Dev_setCore_sound ?_

theorem Dev_queueTrigger_sound {d : Dev} {c t idx : Nat} {sig : Nat} (h : Sound β ε d) :
    Sound β ε (Dev.queueTrigger d c t idx sig) := by
  unfold Dev.queueTrigger
  with_reducible repeat' first
    | assumption | refine Sound.ite ?_ ?_ | refine Dev_orReg_sound ?_ | refine Dev_incReg_sound ?_
    | refine Dev_setTask_sound ?_ | refine Dev_eventRep_sound ?_ | refine Dev_kick_sound ?_ | refine Dev_takeOrd_sound ?_

theorem Dev_fireTriggers_sound {d : Dev} {test : TrigKind → Bool} (h : Sound β ε d) : Sound β ε (Dev.fireTriggers d test) := by
  unfold Dev.fireTriggers
  with_reducible repeat' first
    | assumption | refine Sound.ite ?_ ?_ | refine Dev_queueTrigger_sound ?_ | refine Sound.foldl (fun _ _ _ => ?_) ?_

theorem Dev_raiseStop_sound {d : Dev} {axis cause ramp code : Nat} (h : Sound β ε d) :
    Sound β ε (Dev.raiseStop d axis cause ramp code) := by
  unfold Dev.raiseStop
  with_reducible repeat' first | assumption | refine Dev_modMotion_sound ?_

theorem Dev_raiseStopNext_sound {d : Dev} {axis cause ramp code : Nat} (h : Sound β ε d) :
    Sound β ε (Dev.raiseStopNext d axis cause ramp code) := by
  unfold Dev.raiseStopNext
  with_reducible repeat' first | assumption | refine Dev_modMotion_sound ?_

theorem Dev_haltInstance_sound {d : Dev} {c inst : Nat} (h : Sound β ε d) : Sound β ε (Dev.haltInstance d c inst) := by
  unfold Dev.haltInstance
  extract_lets k cur d1
  exact (Dev_setCore_sound h : Sound β ε d1).mk

theorem Dev_breakCopy_sound {d : Dev} {door : Nat → Bool} (h : Sound β ε d) : Sound β ε (Dev.breakCopy d door) := by
  unfold Dev.breakCopy
  with_reducible repeat' first | exact Sound.mk (by assumption)

theorem Dev_instanceFault_sound {d : Dev} {c t : Nat} {x : Task} {code : Nat} (h : Sound β ε d) :
    Sound β ε (Dev.instanceFault d c t x code) := by
  unfold Dev.instanceFault
  with_reducible repeat' first
    | assumption | refine Dev_setReg_sound ?_ | refine Dev_orReg_sound ?_ | refine Dev_incReg_sound ?_
    | refine Dev_modMotion_sound ?_ | refine Dev_setCore_sound ?_ | refine Dev_raiseStopNext_sound ?_
    | refine Dev_haltInstance_sound ?_ | refine Dev_breakCopy_sound ?_ | refine Sound.foldl (fun _ _ _ => ?_) ?_

theorem Dev_systemFault_sound {d : Dev} {t : Nat} {x : Task} {code : Nat} (h : Sound β ε d) :
    Sound β ε (Dev.systemFault d t x code) := by
  unfold Dev.systemFault
  with_reducible repeat' first
    | assumption | refine Dev_setReg_sound ?_ | refine Dev_orReg_sound ?_ | refine Dev_incReg_sound ?_
    | refine Dev_setCore_sound ?_ | refine Dev_event_sound ?_

theorem Dev_taskFault_sound {d : Dev} {c t code count : Nat} (h : Sound β ε d) : Sound β ε (Dev.taskFault d c t code count) := by
  unfold Dev.taskFault
  with_reducible repeat' first
    | assumption | refine Sound.ite ?_ ?_ | refine Dev_setTask_sound ?_ | refine Dev_traceTask_sound ?_
    | refine Dev_roundCycles_sound ?_ | refine Dev_choose_sound ?_ | refine Dev_instanceFault_sound ?_
    | refine Dev_systemFault_sound ?_

theorem Dev_primeTask_sound {d : Dev} {c t : Nat} {g1 g2 : Word} (h : Sound β ε d) : Sound β ε (Dev.primeTask d c t g1 g2) := by
  unfold Dev.primeTask
  with_reducible repeat' first | assumption | refine Dev_setTask_sound ?_

theorem Dev_releaseCoarse_sound {d : Dev} {c t : Nat} (h : Sound β ε d) : Sound β ε (Dev.releaseCoarse d c t) := by
  unfold Dev.releaseCoarse
  with_reducible repeat' first
    | assumption | refine Sound.ite ?_ ?_ | refine Dev_setCore_sound ?_ | refine Dev_setTask_sound ?_
    | refine Dev_takeOrd_sound ?_ | refine Dev_taskFault_sound ?_ | refine Dev_primeTask_sound ?_

theorem Dev_releaseDue_sound {d : Dev} {c t : Nat} (h : Sound β ε d) : Sound β ε (Dev.releaseDue d c t) := by
  unfold Dev.releaseDue
  with_reducible repeat' first | assumption | refine Sound.ite ?_ ?_ | refine Dev_releaseCoarse_sound ?_

theorem Dev_countStore_sound {d : Dev} {n : Nat} (h : Sound β ε d) : Sound β ε (Dev.countStore d n) := by
  unfold Dev.countStore
  with_reducible repeat' first | assumption | refine Sound.ite ?_ ?_ | refine Dev_countEvent_sound ?_

theorem Dev_setSig_sound {d : Dev} {n : Nat} {s : Sig} (h : Sound β ε d) : Sound β ε (Dev.setSig d n s) := by
  unfold Dev.setSig
  with_reducible repeat' first | exact Sound.mk (by assumption)

theorem Dev_fireWrite_sound {d : Dev} {n : Nat} {changed : Bool} (h : Sound β ε d) : Sound β ε (Dev.fireWrite d n changed) := by
  unfold Dev.fireWrite
  with_reducible repeat' first | assumption | refine Dev_fireTriggers_sound ?_

theorem Dev_sigStore_sound {d : Dev} {n : Nat} {v : Word} {valid stale : Bool} {tag : Nat} (h : Sound β ε d) :
    Sound β ε (Dev.sigStore d n v valid stale tag) := by
  unfold Dev.sigStore
  with_reducible repeat' first
    | assumption | refine Dev_traceWrite_sound ?_ | refine Dev_setSig_sound ?_ | refine Dev_fireWrite_sound ?_

theorem Dev_hide_sound {d : Dev} {n : Nat} (h : Sound β ε d) : Sound β ε (Dev.hide d n) := by
  unfold Dev.hide
  with_reducible repeat' first | exact Sound.mk (by assumption)

theorem Dev_sigDiscard_sound {d : Dev} (h : Sound β ε d) : Sound β ε (Dev.sigDiscard d) := by
  unfold Dev.sigDiscard
  with_reducible repeat' first | assumption | refine Dev_sigStore_sound ?_

theorem Dev_sigHome_sound {d : Dev} {n : Nat} {v : Word} {valid stale : Bool} {tag : Nat} (h : Sound β ε d) :
    Sound β ε (Dev.sigHome d n v valid stale tag) := by
  unfold Dev.sigHome
  with_reducible repeat' first
    | refine Sound.ite ?_ ?_ | refine Dev_sigStore_sound ?_ | refine Dev_sigDiscard_sound ?_ | exact Sound.mk (by assumption)

theorem Dev_devSig_sound {d : Dev} {n : Nat} {v : Word} {valid : Bool} {stale : Bool} (h : Sound β ε d) :
    Sound β ε (Dev.devSig d n v valid stale) := by
  unfold Dev.devSig
  with_reducible repeat' first | assumption | refine Sound.ite ?_ ?_ | refine Dev_sigHome_sound ?_

theorem Dev_devNat_sound {d : Dev} {n v : Nat} (h : Sound β ε d) : Sound β ε (Dev.devNat d n v) := by
  unfold Dev.devNat
  with_reducible repeat' first | assumption | refine Dev_devSig_sound ?_

theorem Dev_islandSig_sound {d : Dev} {n : Nat} {v : Word} {valid : Bool} (h : Sound β ε d) :
    Sound β ε (Dev.islandSig d n v valid) := by
  unfold Dev.islandSig
  with_reducible repeat' first | assumption | refine Sound.ite ?_ ?_ | refine Dev_sigStore_sound ?_

theorem Dev_sigMirrored_sound {d : Dev} {n : Nat} {v : Word} {q : BitVec 8} (h : Sound β ε d) :
    Sound β ε (Dev.sigMirrored d n v q) := by
  unfold Dev.sigMirrored
  with_reducible repeat' first
    | refine Sound.ite ?_ ?_ | refine Dev_traceWrite_sound ?_ | refine Dev_countStore_sound ?_ | refine Dev_setSig_sound ?_
    | refine Dev_fireWrite_sound ?_ | exact Sound.mk (by assumption)

theorem Dev_sigQuality_sound {d : Dev} {n : Nat} {setStale clearValid : Bool} (h : Sound β ε d) :
    Sound β ε (Dev.sigQuality d n setStale clearValid) := by
  unfold Dev.sigQuality
  with_reducible repeat' first | refine Sound.ite ?_ ?_ | refine Dev_setSig_sound ?_ | exact Sound.mk (by assumption)

theorem Dev_sigMark_sound {d : Dev} {n : Nat} (h : Sound β ε d) : Sound β ε (Dev.sigMark d n) := by
  unfold Dev.sigMark
  with_reducible repeat' first | assumption | refine Sound.ite ?_ ?_ | refine Dev_setSig_sound ?_

theorem Dev_sigInit_sound {d : Dev} {n : Nat} {v : Word} (h : Sound β ε d) : Sound β ε (Dev.sigInit d n v) := by
  unfold Dev.sigInit
  with_reducible repeat' first
    | refine Sound.ite ?_ ?_ | refine Dev_traceWrite_sound ?_ | refine Dev_countStore_sound ?_ | refine Dev_setSig_sound ?_
    | refine Dev_fireWrite_sound ?_ | refine Dev_sigDiscard_sound ?_ | exact Sound.mk (by assumption)

theorem Dev_copySummary_sound {d : Dev} (h : Sound β ε d) : Sound β ε (Dev.copySummary d) := by
  unfold Dev.copySummary
  with_reducible repeat' first | exact Sound.mk (by assumption)

theorem Dev_canInvalidate_sound {d : Dev} {c o : Nat} (h : Sound β ε d) : Sound β ε (Dev.canInvalidate d c o) := by
  unfold Dev.canInvalidate
  with_reducible repeat' first | assumption | refine Dev_sigQuality_sound ?_ | refine Sound.foldl (fun _ _ _ => ?_) ?_

theorem Dev_canClearReceive_sound {d : Dev} {c : Nat} (h : Sound β ε d) : Sound β ε (Dev.canClearReceive d c) := by
  unfold Dev.canClearReceive
  with_reducible repeat' first | assumption | refine Dev_sigQuality_sound ?_ | refine Sound.foldl (fun _ _ _ => ?_) ?_

theorem Dev_canCfgstat_sound {d : Dev} {c code : Nat} (h : Sound β ε d) : Sound β ε (Dev.canCfgstat d c code) := by
  unfold Dev.canCfgstat
  with_reducible repeat' first | assumption | refine Sound.ite ?_ ?_ | refine Dev_setReg_sound ?_ | refine Dev_orReg_sound ?_

theorem Dev_canEnable_sound {d : Dev} {c : Nat} {value : Word} (h : Sound β ε d) : Sound β ε (Dev.canEnable d c value) := by
  unfold Dev.canEnable
  with_reducible repeat' first
    | assumption | refine Sound.ite ?_ ?_ | refine Dev_setReg_sound ?_ | refine Dev_setCan_sound ?_ | refine Dev_event_sound ?_
    | refine Dev_canCfgstat_sound ?_

theorem Dev_canTxStatus_sound {d : Dev} {c o code attempts : Nat} (h : Sound β ε d) :
    Sound β ε (Dev.canTxStatus d c o code attempts) := by
  unfold Dev.canTxStatus
  with_reducible repeat' first | assumption | refine Dev_devSig_sound ?_

theorem Dev_canCancel_sound {d : Dev} {c o : Nat} (h : Sound β ε d) : Sound β ε (Dev.canCancel d c o) := by
  unfold Dev.canCancel
  with_reducible repeat' first
    | assumption | refine Sound.ite ?_ ?_ | refine Dev_setCan_sound ?_ | refine Dev_canTxStatus_sound ?_

theorem Dev_canDisable_sound {d : Dev} {c : Nat} (h : Sound β ε d) : Sound β ε (Dev.canDisable d c) := by
  unfold Dev.canDisable
  with_reducible repeat' first
    | assumption | refine Dev_setCan_sound ?_ | refine Dev_canClearReceive_sound ?_ | refine Dev_canCancel_sound ?_
    | refine Sound.foldl (fun _ _ _ => ?_) ?_

theorem Dev_canTiming_sound {d : Dev} {c addr : Nat} {value : Word} (h : Sound β ε d) : Sound β ε (Dev.canTiming d c addr value) := by
  unfold Dev.canTiming
  with_reducible repeat' first | assumption | refine Dev_setReg_sound ?_ | refine Dev_canCfgstat_sound ?_ | split

theorem Dev_canObjcfgWrite_sound {d : Dev} {c o : Nat} {value : Word} (h : Sound β ε d) :
    Sound β ε (Dev.canObjcfgWrite d c o value) := by
  unfold Dev.canObjcfgWrite
  with_reducible repeat' first
    | assumption | refine Sound.ite ?_ ?_ | refine Dev_setReg_sound ?_ | refine Dev_setCan_sound ?_
    | refine Dev_canInvalidate_sound ?_ | refine Dev_canCfgstat_sound ?_ | refine Dev_canCancel_sound ?_

theorem Dev_canObjidWrite_sound {d : Dev} {c o : Nat} {value : Word} (h : Sound β ε d) : Sound β ε (Dev.canObjidWrite d c o value) := by
  unfold Dev.canObjidWrite
  with_reducible repeat' first | assumption | refine Sound.ite ?_ ?_ | refine Dev_setReg_sound ?_ | refine Dev_canCfgstat_sound ?_

theorem Dev_canObjectWrite_sound {d : Dev} {c addr : Nat} {value : Word} (h : Sound β ε d) :
    Sound β ε (Dev.canObjectWrite d c addr value) := by
  unfold Dev.canObjectWrite
  with_reducible repeat' first
    | assumption | refine Sound.ite ?_ ?_ | refine Dev_canObjcfgWrite_sound ?_ | refine Dev_canObjidWrite_sound ?_

theorem Dev_canBusOff_sound {d : Dev} {c : Nat} (h : Sound β ε d) : Sound β ε (Dev.canBusOff d c) := by
  unfold Dev.canBusOff
  with_reducible repeat' first
    | assumption | refine Sound.ite ?_ ?_ | refine Dev_orReg_sound ?_ | refine Dev_incReg_sound ?_ | refine Dev_setCan_sound ?_
    | refine Dev_event_sound ?_ | refine Dev_canClearReceive_sound ?_ | refine Dev_canCancel_sound ?_
    | refine Sound.foldl (fun _ _ _ => ?_) ?_

theorem Dev_canCounters_sound {d : Dev} {c tec recv : Nat} (h : Sound β ε d) : Sound β ε (Dev.canCounters d c tec recv) := by
  unfold Dev.canCounters
  with_reducible repeat' first
    | assumption | refine Sound.ite ?_ ?_ | refine Dev_orReg_sound ?_ | refine Dev_setCan_sound ?_ | refine Dev_event_sound ?_
    | refine Dev_canBusOff_sound ?_

theorem Dev_canDeliver_sound {d : Dev} {c o : Nat} {f : CanFrame} {sofFrame : Word} {lost : Bool} (h : Sound β ε d) :
    Sound β ε (Dev.canDeliver d c o f sofFrame lost) := by
  unfold Dev.canDeliver
  with_reducible repeat' first
    | assumption | refine Sound.ite ?_ ?_ | refine Dev_orReg_sound ?_ | refine Dev_incReg_sound ?_ | refine Dev_setCan_sound ?_
    | refine Dev_countEvent_sound ?_ | refine Dev_event_sound ?_ | refine Dev_fireTriggers_sound ?_
    | refine Dev_setSig_sound ?_ | refine Dev_devSig_sound ?_ | refine Sound.foldl (fun _ _ _ => ?_) ?_

theorem Dev_canRelease_sound {d : Dev} {c o : Nat} (h : Sound β ε d) : Sound β ε (Dev.canRelease d c o) := by
  dsimp only [Dev.canRelease]
  with_reducible repeat' first | assumption | refine Dev_setCan_sound ?_ | refine Dev_canDeliver_sound ?_ | split

theorem Dev_canTaskRead_sound {d : Dev} {n : Nat} (h : Sound β ε d) : Sound β ε (Dev.canTaskRead d n) := by
  unfold Dev.canTaskRead
  with_reducible repeat' first
    | assumption | refine Sound.ite ?_ ?_ | refine Dev_setCan_sound ?_ | refine Dev_canRelease_sound ?_ | split

theorem Dev_canGoodReceive_sound {d : Dev} {c : Nat} (h : Sound β ε d) : Sound β ε (Dev.canGoodReceive d c) := by
  unfold Dev.canGoodReceive
  with_reducible repeat' first | assumption | refine Sound.ite ?_ ?_ | refine Dev_nextFree_sound ?_ | refine Dev_setCan_sound ?_

theorem Dev_canReceiveError_sound {d : Dev} {c : Nat} {kind : CanRxError} (h : Sound β ε d) :
    Sound β ε (Dev.canReceiveError d c kind) := by
  unfold Dev.canReceiveError
  with_reducible repeat' first
    | assumption | refine Sound.ite ?_ ?_ | refine Dev_incReg_sound ?_ | refine Dev_canCounters_sound ?_

theorem Dev_canReceive_sound {d : Dev} {c : Nat} {f : CanFrame} (h : Sound β ε d) : Sound β ε (Dev.canReceive d c f) := by
  dsimp only [Dev.canReceive]
  with_reducible repeat' first
    | assumption | refine Dev_orReg_sound ?_ | refine Dev_incReg_sound ?_ | refine Dev_setCan_sound ?_
    | refine Dev_canDeliver_sound ?_ | refine Dev_canGoodReceive_sound ?_ | refine Dev_canReceiveError_sound ?_ | split

theorem Dev_canSubmit_sound {d : Dev} {c o : Nat} {h1 : Word} {data : List Word} {at' : Nat} (h : Sound β ε d) :
    Sound β ε (Dev.canSubmit d c o h1 data at') := by
  unfold Dev.canSubmit
  with_reducible repeat' first | assumption | refine Dev_setCan_sound ?_ | refine Dev_canTxStatus_sound ?_

theorem Dev_canRequest_sound {d : Dev} {c o : Nat} {h1 : Word} {valid : Bool} (h : Sound β ε d) :
    Sound β ε (Dev.canRequest d c o h1 valid) := by
  unfold Dev.canRequest
  with_reducible repeat' first
    | assumption | refine Sound.ite ?_ ?_ | refine Dev_orReg_sound ?_ | refine Dev_setCan_sound ?_ | refine Dev_event_sound ?_
    | refine Dev_canTxStatus_sound ?_ | refine Dev_canSubmit_sound ?_

theorem Dev_taskHome_sound {d : Dev} {n : Nat} {v : Word} {valid : Bool} {tag : Nat} (h : Sound β ε d) :
    Sound β ε (Dev.taskHome d n v valid tag) := by
  dsimp only [Dev.taskHome]
  with_reducible repeat' first | assumption | refine Dev_sigHome_sound ?_ | refine Dev_canRequest_sound ?_ | split

theorem Dev_canExpire_sound {d : Dev} {c : Nat} (h : Sound β ε d) : Sound β ε (Dev.canExpire d c) := by
  unfold Dev.canExpire
  with_reducible repeat' first
    | assumption | refine Sound.ite ?_ ?_ | refine Dev_orReg_sound ?_ | refine Dev_setCan_sound ?_
    | refine Dev_eventRep_sound ?_ | refine Dev_canTxStatus_sound ?_ | refine Sound.foldl (fun _ _ _ => ?_) ?_

theorem Dev_canAttempt_sound {d : Dev} {c : Nat} (h : Sound β ε d) : Sound β ε (Dev.canAttempt d c) := by
  dsimp only [Dev.canAttempt]
  with_reducible repeat' first
    | assumption | refine Dev_setCan_sound ?_ | refine Dev_canTxStatus_sound ?_ | refine Dev_canExpire_sound ?_ | split

theorem Dev_canAttemptFailed_sound {d : Dev} {c o : Nat} (h : Sound β ε d) : Sound β ε (Dev.canAttemptFailed d c o) := by
  dsimp only [Dev.canAttemptFailed]
  with_reducible repeat' first
    | assumption | refine Dev_orReg_sound ?_ | refine Dev_setCan_sound ?_ | refine Dev_eventRep_sound ?_
    | refine Dev_canTxStatus_sound ?_ | refine Dev_canSubmit_sound ?_ | split

theorem Dev_canAttemptSent_sound {d : Dev} {c o : Nat} (h : Sound β ε d) : Sound β ε (Dev.canAttemptSent d c o) := by
  dsimp only [Dev.canAttemptSent]
  with_reducible repeat' first
    | assumption | refine Dev_incReg_sound ?_ | refine Dev_setCan_sound ?_ | refine Dev_canTxStatus_sound ?_
    | refine Dev_canSubmit_sound ?_ | split

theorem Dev_canTransmitError_sound {d : Dev} {c tec recv : Nat} {times : Nat} (h : Sound β ε d) :
    Sound β ε (Dev.canTransmitError d c tec recv times) := by
  unfold Dev.canTransmitError
  with_reducible repeat' first | assumption | refine Sound.ite ?_ ?_ | refine Dev_canCounters_sound ?_

theorem Dev_canAttemptEnd_sound {d : Dev} {c o : Nat} {r : CanAttemptResult} (h : Sound β ε d) :
    Sound β ε (Dev.canAttemptEnd d c o r) := by
  unfold Dev.canAttemptEnd
  with_reducible repeat' first
    | assumption | refine Sound.ite ?_ ?_ | refine Dev_incReg_sound ?_ | refine Dev_canAttemptFailed_sound ?_
    | refine Dev_canAttemptSent_sound ?_ | refine Dev_canTransmitError_sound ?_ | split

theorem Dev_canRecover_sound {d : Dev} {c : Nat} {value : Word} (h : Sound β ε d) : Sound β ε (Dev.canRecover d c value) := by
  unfold Dev.canRecover
  with_reducible repeat' first | assumption | refine Sound.ite ?_ ?_ | refine Dev_setCan_sound ?_ | refine Dev_event_sound ?_

theorem Dev_spend_sound {d : Dev} {c : Nat} {x : Task} {cycles : Nat} (h : Sound β ε d) : Sound β ε (Dev.spend d c x cycles) := by
  unfold Dev.spend
  with_reducible repeat' first | assumption | refine Dev_setCore_sound ?_ | refine Dev_roundCycles_sound ?_ | split



/-- An instruction's effect keeps the queues within their bounds. -/
def EffectSound (β : Prop) (ε : Bool) : Effect → Prop
  | .fault _ => True
  | .done _ _ eff => ∀ d, Sound β ε d → Sound β ε (eff d)

theorem Dev_apply_sound {d : Dev} {c t : Nat} {x : Task} {e : Effect} (he : EffectSound β ε e) (h : Sound β ε d) :
    Sound β ε (Dev.apply d c t x e) := by
  cases e with
  | fault code => exact Dev_taskFault_sound h
  | done n x' eff => exact Sound.ite (Dev_taskFault_sound h) (he _ (Dev_spend_sound (Dev_setTask_sound h)))

theorem Dev_instr_sound {d : Dev} {core : CoreId} {i : Instr} {body : Nat → Task → Effect} (he : ∀ t x, EffectSound β ε (body t x))
    (h : Sound β ε d) : Sound β ε (Dev.instr d core i body) := by
  unfold Dev.instr
  extract_lets c
  with_reducible repeat' first | assumption | refine Sound.ite ?_ ?_ | refine Dev_taskFault_sound ?_ | refine Dev_apply_sound (he _ _) ?_ | split

theorem Dev_countRead_sound {d : Dev} {c : Nat} {tier : Tier} {sigExists : Bool} (h : Sound β ε d) :
    Sound β ε (Dev.countRead d c tier sigExists) := by
  unfold Dev.countRead
  with_reducible repeat' first | assumption | refine Dev_countEvent_sound ?_ | split

theorem Dev_arrive_sound {d : Dev} {c i : Nat} (h : Sound β ε d) : Sound β ε (Dev.arrive d c i) := by
  dsimp only [Dev.arrive]
  with_reducible repeat' first
    | assumption | refine Dev_setCore_sound ?_ | refine Dev_kick_sound ?_ | refine Dev_releaseDue_sound ?_
    | refine Dev_countStore_sound ?_ | refine Dev_taskHome_sound ?_ | split

theorem Dev_freeEntry_sound {d : Dev} {c : Nat} {q9 : Nat} (h : Sound β ε d) : Sound β ε (Dev.freeEntry d c q9) := by
  induction q9 generalizing d with
  | zero => exact h
  | succ q9 ih =>
  unfold Dev.freeEntry
  repeat' first
    | with_reducible refine ih ?_
    | with_reducible assumption
    | with_reducible refine Sound.ite ?_ ?_
    | with_reducible refine Dev_arrive_sound ?_

theorem Dev_post_sound {d : Dev} {c : Nat} {p : Post} (h : Sound β ε d) : Sound β ε (Dev.post d c p) := by
  unfold Dev.post
  with_reducible repeat' first | assumption | refine Dev_setCore_sound ?_ | refine Dev_freeEntry_sound ?_

theorem Dev_drainPosts_sound {d : Dev} {c : Nat} (h : Sound β ε d) : Sound β ε (Dev.drainPosts d c) := by
  dsimp only [Dev.drainPosts]
  with_reducible repeat' first | assumption | refine Dev_arrive_sound ?_ | refine Sound.foldl (fun _ _ _ => ?_) ?_ | split

theorem Dev_doorFlag_sound {d : Dev} {axis bits : Nat} (h : Sound β ε d) : Sound β ε (Dev.doorFlag d axis bits) := by
  unfold Dev.doorFlag
  with_reducible repeat' first | refine Sound.ite ?_ ?_ | exact Sound.mk (by assumption) | split

theorem Dev_countStop_sound {d : Dev} {n cause : Nat} (h : Sound β ε d) : Sound β ε (Dev.countStop d n cause) := by
  unfold Dev.countStop
  with_reducible repeat' first | assumption | refine Dev_setAxis_sound ?_

theorem Dev_showState_sound {d : Dev} {n : Nat} (h : Sound β ε d) : Sound β ε (Dev.showState d n) := by
  unfold Dev.showState
  with_reducible repeat' first | assumption | refine Dev_setReg_sound ?_ | refine Dev_devSig_sound ?_

theorem Dev_axisOff_sound {d : Dev} {n : Nat} (h : Sound β ε d) : Sound β ε (Dev.axisOff d n) := by
  unfold Dev.axisOff
  with_reducible repeat' first | assumption | refine Dev_setAxis_sound ?_

theorem Dev_axisRestore_sound {d : Dev} {n : Nat} (h : Sound β ε d) : Sound β ε (Dev.axisRestore d n) := by
  unfold Dev.axisRestore
  with_reducible repeat' first | assumption | refine Sound.ite ?_ ?_ | refine Dev_modMotion_sound ?_

theorem Dev_uncleanMove_sound {d : Dev} {n : Nat} (h : Sound β ε d) : Sound β ε (Dev.uncleanMove d n) := by
  dsimp only [Dev.uncleanMove]
  with_reducible repeat' first | assumption | refine Dev_setAxis_sound ?_ | split

theorem Dev_noteStop_sound {d : Dev} {n : Nat} {r : StopReq} (h : Sound β ε d) : Sound β ε (Dev.noteStop d n r) := by
  unfold Dev.noteStop
  with_reducible repeat' first
    | assumption | refine Sound.ite ?_ ?_ | refine Dev_setReg_sound ?_ | refine Dev_orReg_sound ?_ | refine Dev_incReg_sound ?_
    | refine Dev_event_sound ?_ | refine Dev_devNat_sound ?_ | refine Dev_uncleanMove_sound ?_

theorem Dev_startRamp_sound {d : Dev} {n cause ramp : Nat} (h : Sound β ε d) : Sound β ε (Dev.startRamp d n cause ramp) := by
  unfold Dev.startRamp
  with_reducible repeat' first
    | assumption | refine Sound.ite ?_ ?_ | refine Dev_orReg_sound ?_ | refine Dev_setAxis_sound ?_
    | refine Dev_countStop_sound ?_

theorem Dev_applyStop_sound {d : Dev} {n : Nat} {r : StopReq} (h : Sound β ε d) : Sound β ε (Dev.applyStop d n r) := by
  unfold Dev.applyStop
  with_reducible repeat' first
    | assumption | refine Sound.ite ?_ ?_ | refine Dev_setAxis_sound ?_ | refine Dev_modMotion_sound ?_
    | refine Dev_countStop_sound ?_ | refine Dev_startRamp_sound ?_ | split

theorem Dev_takeStops_sound {d : Dev} {n : Nat} {l : List StopReq} (h : Sound β ε d) : Sound β ε (Dev.takeStops d n l) := by
  unfold Dev.takeStops
  with_reducible repeat' first
    | assumption | refine Dev_noteStop_sound ?_ | refine Dev_applyStop_sound ?_ | refine Sound.foldl (fun _ _ _ => ?_) ?_
    | split

theorem Dev_homeChecks_sound {d : Dev} {n : Nat} (h : Sound β ε d) : Sound β ε (Dev.homeChecks d n).1 := by
  unfold Dev.homeChecks
  with_reducible repeat' first | assumption | refine Sound.ite1 ?_ ?_ | refine Dev_setAxis_sound ?_

theorem Dev_doorReversal_sound {d : Dev} {n : Nat} (h : Sound β ε d) : Sound β ε (Dev.doorReversal d n) := by
  unfold Dev.doorReversal
  with_reducible repeat' first | refine Sound.ite ?_ ?_ | exact Sound.mk (by assumption) | split

theorem Dev_beginRun_sound {d : Dev} {n : Nat} {x delta : Int} (h : Sound β ε d) : Sound β ε (Dev.beginRun d n x delta) := by
  unfold Dev.beginRun
  with_reducible repeat' first
    | assumption | refine Sound.ite ?_ ?_ | refine Dev_setAxis_sound ?_ | refine Dev_doorFlag_sound ?_
    | refine Dev_doorReversal_sound ?_

theorem Dev_startMove_sound {d : Dev} {n : Nat} {target : Word} {profile : Nat} {relative : Bool} (h : Sound β ε d) :
    Sound β ε (Dev.startMove d n target profile relative) := by
  unfold Dev.startMove
  with_reducible repeat' first
    | assumption | refine Dev_incReg_sound ?_ | refine Dev_modMotion_sound ?_ | refine Dev_beginRun_sound ?_

theorem Dev_startHome_sound {d : Dev} {n : Nat} {pos : Word} {positive : Bool} {source : Nat} (h : Sound β ε d) :
    Sound β ε (Dev.startHome d n pos positive source) := by
  unfold Dev.startHome
  with_reducible repeat' first | assumption | refine Dev_setAxis_sound ?_

theorem Dev_startGear_sound {d : Dev} {n : Nat} {master : Word} {table : Nat} (h : Sound β ε d) :
    Sound β ε (Dev.startGear d n master table) := by
  unfold Dev.startGear
  with_reducible repeat' first | assumption | refine Dev_setAxis_sound ?_

theorem Dev_takeRequest_sound {d : Dev} {n : Nat} {r : Req} (h : Sound β ε d) : Sound β ε (Dev.takeRequest d n r).1 := by
  unfold Dev.takeRequest
  with_reducible repeat' first
    | assumption | refine Sound.ite1 ?_ ?_ | refine Dev_modMotion_sound ?_ | refine Dev_noteStop_sound ?_
    | refine Dev_startRamp_sound ?_ | refine Dev_startMove_sound ?_ | refine Dev_startHome_sound ?_
    | refine Dev_startGear_sound ?_ | split

theorem Dev_takeRequests_sound {d : Dev} {n : Nat} {l : List (Nat × Req)} (h : Sound β ε d) : Sound β ε (Dev.takeRequests d n l) := by
  unfold Dev.takeRequests
  with_reducible repeat' first
    | assumption | refine Sound.ite ?_ ?_ | refine Dev_orReg_sound ?_ | refine Dev_incReg_sound ?_ | refine Dev_devSig_sound ?_
    | refine Dev_takeRequest_sound ?_ | refine Sound.foldl (fun _ _ _ => ?_) ?_

theorem Dev_advanceMove_sound {d : Dev} {n : Nat} (h : Sound β ε d) : Sound β ε (Dev.advanceMove d n) := by
  dsimp only [Dev.advanceMove]
  with_reducible repeat' first | assumption | refine Dev_setAxis_sound ?_ | refine Dev_modMotion_sound ?_ | split

theorem Dev_advanceRamp_sound {d : Dev} {n : Nat} (h : Sound β ε d) : Sound β ε (Dev.advanceRamp d n) := by
  unfold Dev.advanceRamp
  with_reducible repeat' first | assumption | refine Sound.ite ?_ ?_ | refine Dev_setAxis_sound ?_

theorem Dev_advanceHome_sound {d : Dev} {n : Nat} (h : Sound β ε d) : Sound β ε (Dev.advanceHome d n) := by
  unfold Dev.advanceHome
  with_reducible repeat' first | assumption | refine Sound.ite ?_ ?_ | refine Dev_setAxis_sound ?_

theorem Dev_advanceGear_sound {d d0 : Dev} {n : Nat} (h : Sound β ε d) : Sound β ε (Dev.advanceGear d d0 n) := by
  unfold Dev.advanceGear
  extract_lets a g m lost
  have hl (code : Nat) : Sound β ε (lost code) := Dev_advanceRamp_sound (Dev_takeStops_sound h)
  clear_value lost
  split
  · exact hl _
  · exact hl _
  · exact Sound.ite (hl _) (Sound.ite (Dev_advanceRamp_sound (Dev_takeStops_sound (Dev_setAxis_sound h))) (Dev_setAxis_sound h))

theorem Dev_advance_sound {d d0 : Dev} {n : Nat} (h : Sound β ε d) : Sound β ε (Dev.advance d d0 n) := by
  unfold Dev.advance
  with_reducible repeat' first
    | assumption | refine Dev_modMotion_sound ?_ | refine Dev_advanceMove_sound ?_ | refine Dev_advanceRamp_sound ?_
    | refine Dev_advanceHome_sound ?_ | refine Dev_advanceGear_sound ?_ | split

theorem Dev_chooseMode_sound {d : Dev} {n : Nat} {onRamp : Bool} (h : Sound β ε d) : Sound β ε (Dev.chooseMode d n onRamp).1 := by
  unfold Dev.chooseMode
  with_reducible repeat' first | assumption | refine Sound.ite1 ?_ ?_ | refine Dev_modMotion_sound ?_

theorem Dev_devChange_sound {d : Dev} {n : Nat} {v : Word} (h : Sound β ε d) : Sound β ε (Dev.devChange d n v) := by
  unfold Dev.devChange
  with_reducible repeat' first | assumption | refine Sound.ite ?_ ?_ | refine Dev_devSig_sound ?_

theorem Dev_motionSlots_sound {d : Dev} {n : Nat} (h : Sound β ε d) : Sound β ε (Dev.motionSlots d n) := by
  unfold Dev.motionSlots
  with_reducible repeat' first | assumption | refine Dev_devChange_sound ?_ | refine Sound.foldl (fun _ _ _ => ?_) ?_

theorem Dev_publishAxis_sound {d : Dev} {n : Nat} {stood onRamp stopCause : Bool} (h : Sound β ε d) :
    Sound β ε (Dev.publishAxis d n stood onRamp stopCause) := by
  unfold Dev.publishAxis
  with_reducible repeat' first
    | assumption | refine Dev_setAxis_sound ?_ | refine Dev_modMotion_sound ?_ | refine Dev_devSig_sound ?_
    | refine Dev_showState_sound ?_ | refine Dev_chooseMode_sound ?_ | refine Dev_motionSlots_sound ?_

theorem Dev_estimStop_sound {d : Dev} {n cause code : Nat} {word : Word} (h : Sound β ε d) :
    Sound β ε (Dev.estimStop d n cause code word) := by
  unfold Dev.estimStop
  with_reducible repeat' first | assumption | refine Dev_eventRep_sound ?_ | refine Dev_raiseStop_sound ?_

theorem Dev_estimate_sound {d : Dev} {n : Nat} (h : Sound β ε d) : Sound β ε (Dev.estimate d n) := by
  unfold Dev.estimate
  with_reducible repeat' first
    | assumption | refine Sound.ite ?_ ?_ | refine Dev_setAxis_sound ?_ | refine Dev_eventRep_sound ?_
    | refine Dev_devSig_sound ?_ | refine Dev_devNat_sound ?_ | refine Dev_sigQuality_sound ?_ | refine Dev_estimStop_sound ?_

theorem Dev_edgeAtTakeup_sound {d : Dev} {n : Nat} {dir : Int} {z : Dev × StopReq} (e : Dev.edgeAtTakeup d n dir = some z)
    (h : Sound β ε d) : Sound β ε z.1 := by
  unfold Dev.edgeAtTakeup at e
  rcases ite_eq_iff.1 e with ⟨-, e⟩ | ⟨-, e⟩
  · rw [← Option.some.inj e]
    exact Dev_eventRep_sound (Dev_devSig_sound (Dev_setAxis_sound h))
  · exact absurd e nofun

theorem Dev_estimCheckAll_sound {d : Dev} (h : Sound β ε d) : Sound β ε (Dev.estimCheckAll d).1 := by
  unfold Dev.estimCheckAll
  with_reducible repeat' first | assumption | refine Dev_devNat_sound ?_ | refine Sound.foldl1 (fun _ _ _ => ?_) ?_

theorem Dev_modCycle_sound {d : Dev} {n : Nat} {f : AxCycle → AxCycle} (h : Sound β ε d) : Sound β ε (Dev.modCycle d n f) := by
  unfold Dev.modCycle
  with_reducible repeat' first | assumption | refine Dev_setAxis_sound ?_

theorem Dev_cycleSlots_sound {d : Dev} {n : Nat} (h : Sound β ε d) : Sound β ε (Dev.cycleSlots d n) := by
  unfold Dev.cycleSlots
  with_reducible repeat' first | assumption | refine Dev_devChange_sound ?_ | refine Sound.foldl (fun _ _ _ => ?_) ?_

theorem Dev_learnMove_sound {d : Dev} {n : Nat} {m : MoveRun} (h : Sound β ε d) : Sound β ε (Dev.learnMove d n m) := by
  unfold Dev.learnMove
  with_reducible repeat' first
    | assumption | refine Sound.ite ?_ ?_ | refine Dev_setAxis_sound ?_ | refine Dev_putRecord_sound ?_
    | refine Dev_event_sound ?_

theorem Dev_anomaly_sound {d : Dev} {n : Nat} {m : Option MoveRun} {byCommand : Bool} (h : Sound β ε d) :
    Sound β ε (Dev.anomaly d n m byCommand) := by
  unfold Dev.anomaly
  with_reducible repeat' first | assumption | refine Dev_modCycle_sound ?_ | split

/-- The list of promotions takes another one only where it has room. -/
theorem Dev_enlist_sound {d : Dev} {n : Nat} {p : Anomaly} (h : Sound β ε d) : Sound β ε (Dev.enlist d n p) := by
  unfold Dev.enlist
  extract_lets m q
  split
  · exact Dev_eventRep_sound (Dev_modCycle_sound h)
  · next hroom =>
    refine Dev_doorFlag_sound ⟨h.executing, h.pendq, h.queue, fun _ => ?_, h.fifo, h.buffer⟩
    rw [List.length_append]
    exact not_le.1 hroom

theorem Dev_promote_sound {d : Dev} {n : Nat} (h : Sound β ε d) : Sound β ε (Dev.promote d n) := by
  unfold Dev.promote
  with_reducible repeat' first
    | assumption | refine Dev_modCycle_sound ?_ | refine Dev_enlist_sound ?_ | refine Sound.foldl (fun _ _ _ => ?_) ?_

theorem Dev_buildSignatures_sound {d : Dev} {k : Nat} (h : Sound β ε d) : Sound β ε (Dev.buildSignatures d k) := by
  induction k generalizing d with
  | zero => exact h
  | succ k ih =>
    unfold Dev.buildSignatures
    split
    · exact h
    · next p ps hp =>
      have hlen (b : β) : ps.length ≤ 512 := (Nat.le_succ _).trans (by simpa [hp] using h.promos b)
      exact ih (Dev_putRecord_sound ⟨h.executing, h.pendq, h.queue, hlen, h.fifo, h.buffer⟩)

theorem Dev_observeMove_sound {d : Dev} {n : Nat} (h : Sound β ε d) : Sound β ε (Dev.observeMove d n) := by
  dsimp only [Dev.observeMove]
  with_reducible repeat' first | assumption | refine Dev_setAxis_sound ?_ | split

theorem Dev_captureAxis_sound {d : Dev} {n : Nat} (h : Sound β ε d) : Sound β ε (Dev.captureAxis d n) := by
  dsimp only [Dev.captureAxis]
  with_reducible repeat' first | assumption | refine Dev_setAxis_sound ?_ | refine Dev_countEvent_sound ?_ | split

theorem Dev_takeBuffer_sound {d : Dev} {n : Nat} {frame : Word} (h : Sound β ε d) : Sound β ε (Dev.takeBuffer d n frame) :=
  ⟨h.executing, h.pendq, h.queue, by simpa [Dev.takeBuffer] using h.promos, h.fifo, h.buffer⟩

theorem Dev_moveEnters_sound {d : Dev} {n : Nat} (h : Sound β ε d) : Sound β ε (Dev.moveEnters d n) := by
  unfold Dev.moveEnters
  with_reducible repeat' first | assumption | refine Dev_setAxis_sound ?_

theorem Dev_beginCycle_sound {d : Dev} {door : Nat} {frame : Word} (h : Sound β ε d) : Sound β ε (Dev.beginCycle d door frame) := by
  unfold Dev.beginCycle
  with_reducible repeat' first
    | refine Sound.ite ?_ ?_ | refine Dev_modCycle_sound ?_ | refine Dev_takeBuffer_sound ?_ | refine Dev_moveEnters_sound ?_
    | refine Sound.foldl (fun _ _ _ => ?_) ?_ | exact Sound.mk (by assumption)

theorem Dev_endAxisCycle_sound {d : Dev} {n : Nat} {incomplete : Bool} (h : Sound β ε d) :
    Sound β ε (Dev.endAxisCycle d n incomplete) := by
  unfold Dev.endAxisCycle
  with_reducible repeat' first | assumption | refine Dev_setAxis_sound ?_

theorem Dev_closeBooks_sound {d : Dev} {door : Nat} {frame : Word} (h : Sound β ε d) : Sound β ε (Dev.closeBooks d door frame) := by
  unfold Dev.closeBooks
  extract_lets c axes d1 drift n0 flags payload
  have h1 : Sound β ε d1 := Sound.foldl (fun _ _ hx => Sound.ite (Dev_requestLifetime_sound (Dev_modCycle_sound hx)) hx) h
  exact Dev_putRecord_sound h1.mk

theorem Dev_endCycle_sound {d : Dev} {door : Nat} {frame : Word} {incomplete : Bool} (h : Sound β ε d) :
    Sound β ε (Dev.endCycle d door frame incomplete) := by
  unfold Dev.endCycle
  extract_lets axes trunc d1 c c' d2 d3
  have h2 : Sound β ε d2 := (Sound.foldl (fun _ _ => Dev_endAxisCycle_sound) h : Sound β ε d1).mk
  have h3 : Sound β ε d3 := Sound.ite h2 (Dev_closeBooks_sound h2)
  exact Sound.foldl (fun _ _ => Dev_cycleSlots_sound) h3

theorem Dev_cycleAct_sound {d : Dev} {ends : Bool} {door n idx : Nat} {v : Word} (h : Sound β ε d) :
    Sound β ε (Dev.cycleAct d ends door n idx v).1 := by
  unfold Dev.cycleAct
  with_reducible repeat' first | assumption | refine Sound.ite1 ?_ ?_ | refine Dev_anomaly_sound ?_

theorem Dev_cycleControl_sound {d : Dev} {door : Nat} {frame : Word} (h : Sound β ε d) :
    Sound β ε (Dev.cycleControl d door frame).1 := by
  unfold Dev.cycleControl
  with_reducible repeat' first
    | assumption | refine Sound.ite1 ?_ ?_ | refine Dev_devSig_sound ?_ | refine Dev_modCycle_sound ?_
    | refine Dev_cycleAct_sound ?_ | refine Sound.foldl1 (fun _ _ _ => ?_) ?_

theorem Dev_cyclePeak_sound {d : Dev} {door n idx : Nat} (h : Sound β ε d) : Sound β ε (Dev.cyclePeak d door n idx) := by
  unfold Dev.cyclePeak
  with_reducible repeat' first
    | refine Sound.ite ?_ ?_ | refine Dev_modCycle_sound ?_ | refine Dev_anomaly_sound ?_ | exact Sound.mk (by assumption)

theorem Dev_bookStops_sound {d : Dev} {n : Nat} (h : Sound β ε d) : Sound β ε (Dev.bookStops d n) := by
  unfold Dev.bookStops
  with_reducible repeat' first
    | assumption | refine Sound.ite ?_ ?_ | refine Dev_doorFlag_sound ?_ | refine Dev_modCycle_sound ?_
    | refine Dev_anomaly_sound ?_ | refine Sound.foldl (fun _ _ _ => ?_) ?_

theorem Dev_doorFrame_sound {d : Dev} {door : Nat} {frame : Word} (h : Sound β ε d) : Sound β ε (Dev.doorFrame d door frame) := by
  unfold Dev.doorFrame
  extract_lets axes homing
  split
  · exact h
  · split
    next d0 forced0 e =>
    have h0 : Sound β ε d0 := Sound.of_eq e (Dev_cycleControl_sound h)
    extract_lets forced out d1 d2 d3 c moving d4 d5 d6 d7 d8
    have h1 : Sound β ε d1 := Sound.ite (Dev_beginCycle_sound h0) h0
    have h2 : Sound β ε d2 := Sound.foldl (fun _ _ => Dev_bookStops_sound) h1
    have h3 : Sound β ε d3 := Sound.ite (Sound.foldl (fun _ _ => Dev_modCycle_sound) h2) h2
    have h4 : Sound β ε d4 := Sound.foldl (fun _ _ hx => Sound.ite (Dev_modCycle_sound hx) hx) h3
    have h5 : Sound β ε d5 := Sound.ite (Sound.ite h4.mk h4) h3
    have h6 : Sound β ε d6 := Sound.foldl (fun _ _ hx => Dev_captureAxis_sound (Dev_cyclePeak_sound hx)) h5
    have h7 : Sound β ε d7 := Sound.foldl (fun _ _ => Dev_promote_sound) h6
    have h8 : Sound β ε d8 := Sound.ite (Dev_endCycle_sound h7) (Sound.ite (Dev_endCycle_sound h7) h7)
    exact Sound.foldl (fun _ _ => Dev_cycleSlots_sound) h8

theorem Dev_doorFrames_sound {d : Dev} {frame : Word} (h : Sound β ε d) : Sound β ε (Dev.doorFrames d frame) := by
  unfold Dev.doorFrames
  with_reducible repeat' first
    | assumption | refine Sound.ite ?_ ?_ | refine Dev_modCycle_sound ?_ | refine Dev_promote_sound ?_
    | refine Dev_cycleControl_sound ?_ | refine Dev_doorFrame_sound ?_ | refine Sound.foldl (fun _ _ _ => ?_) ?_

theorem Dev_endMove_sound {d : Dev} {n : Nat} (h : Sound β ε d) : Sound β ε (Dev.endMove d n) := by
  unfold Dev.endMove
  with_reducible repeat' first
    | assumption | refine Dev_setAxis_sound ?_ | refine Dev_cycleSlots_sound ?_ | refine Dev_learnMove_sound ?_
    | refine Dev_closeBooks_sound ?_ | split

theorem Dev_cyclesRunEntry_sound {d : Dev} (h : Sound β ε d) : Sound β ε (Dev.cyclesRunEntry d) := by
  refine Sound.foldl (fun x n hx => Dev_cycleSlots_sound (Sound.ite ?_ (Dev_setAxis_sound hx)))
    ⟨h.executing, h.pendq, h.queue, fun _ => Nat.zero_le _, h.fifo, h.buffer⟩
  exact Dev_requestLifetime_sound (Dev_devSig_sound (Dev_setAxis_sound hx))

theorem Dev_modPort_sound {d : Dev} {p : Nat} {f : Port → Port} (h : Sound β ε d) : Sound β ε (Dev.modPort d p f) := by
  unfold Dev.modPort
  with_reducible repeat' first | assumption | refine Dev_setPort_sound ?_

theorem Dev_baseLayouts_sound {d : Dev} (h : Sound β ε d) : Sound β ε (Dev.baseLayouts d) := by
  unfold Dev.baseLayouts
  with_reducible repeat' first | assumption | refine Dev_modPort_sound ?_ | refine Sound.foldl (fun _ _ _ => ?_) ?_

theorem Dev_modNode_sound {d : Dev} {p n : Nat} {f : Node → Node} (h : Sound β ε d) : Sound β ε (Dev.modNode d p n f) := by
  unfold Dev.modNode
  with_reducible repeat' first | assumption | refine Dev_modPort_sound ?_

theorem Dev_strFlag_sound {d : Dev} {p : Nat} {bits : Word} (h : Sound β ε d) : Sound β ε (Dev.strFlag d p bits) := by
  unfold Dev.strFlag
  with_reducible repeat' first | assumption | refine Dev_orReg_sound ?_

theorem Dev_portAxesOff_sound {d : Dev} {p : Nat} (h : Sound β ε d) : Sound β ε (Dev.portAxesOff d p) := by
  unfold Dev.portAxesOff
  with_reducible repeat' first | assumption | refine Dev_axisOff_sound ?_ | refine Sound.foldl (fun _ _ _ => ?_) ?_

theorem Dev_beginSpill_sound {d : Dev} {q : Nat} (h : Sound β ε d) : Sound β ε (Dev.beginSpill d q) := by
  unfold Dev.beginSpill
  with_reducible repeat' first | assumption | refine Sound.ite ?_ ?_ | refine Dev_setQueue_sound ?_ | refine Dev_event_sound ?_

theorem Dev_enqueue_sound {d : Dev} {q : Nat} {b : Block} (h : Sound β ε d) : Sound β ε (Dev.enqueue d q b) := by
  unfold Dev.enqueue
  with_reducible repeat' first
    | assumption | refine Sound.ite ?_ ?_ | refine Dev_setQueue_sound ?_ | refine Dev_countEvent_sound ?_
    | refine Dev_event_sound ?_ | refine Dev_beginSpill_sound ?_

theorem Dev_queuesFrame_sound {d : Dev} (h : Sound β ε d) : Sound β ε (Dev.queuesFrame d) := by
  unfold Dev.queuesFrame
  with_reducible repeat' first
    | assumption | refine Dev_nextFree_sound ?_ | refine Dev_setQueue_sound ?_ | refine Dev_countEvent_sound ?_
    | refine Dev_beginSpill_sound ?_ | refine Sound.foldl (fun _ _ _ => ?_) ?_

theorem Dev_putBlocks_sound {d : Dev} {p : Nat} {home : Option Nat} {l : List Block} (h : Sound β ε d) :
    Sound β ε (Dev.putBlocks d p home l) := by
  unfold Dev.putBlocks
  with_reducible repeat' first
    | assumption | refine Dev_modPort_sound ?_ | refine Dev_enqueue_sound ?_ | refine Sound.foldl (fun _ _ _ => ?_) ?_ | split

theorem Dev_sendMessage_sound {d : Dev} {p node btype : Nat} {data : List Byte} {home : Option Nat} (h : Sound β ε d) :
    Sound β ε (Dev.sendMessage d p node btype data home) := by
  unfold Dev.sendMessage
  with_reducible repeat' first | assumption | refine Dev_modNode_sound ?_ | refine Dev_putBlocks_sound ?_

theorem Dev_hostMessage_sound {d : Dev} {p node btype : Nat} {data : List Byte} (h : Sound β ε d) :
    Sound β ε (Dev.hostMessage d p node btype data).1 := by
  unfold Dev.hostMessage
  with_reducible repeat' first | assumption | refine Sound.ite1 ?_ ?_ | refine Dev_sendMessage_sound ?_

theorem Dev_dropReplies_sound {d : Dev} {p node : Nat} {out : Nat → Bool} (h : Sound β ε d) :
    Sound β ε (Dev.dropReplies d p node out) := by
  unfold Dev.dropReplies
  with_reducible repeat' first | refine Dev_modNode_sound ?_ | exact Sound.mk (by assumption)

theorem Dev_discardOpen_sound {d : Dev} {p node : Nat} (h : Sound β ε d) : Sound β ε (Dev.discardOpen d p node) := by
  unfold Dev.discardOpen
  with_reducible repeat' first
    | assumption | refine Dev_modPort_sound ?_ | refine Dev_modNode_sound ?_ | refine Dev_dropReplies_sound ?_

theorem Dev_beginLink_sound {d : Dev} {p : Nat} (h : Sound β ε d) : Sound β ε (Dev.beginLink d p) := by
  unfold Dev.beginLink
  with_reducible repeat' first
    | assumption | refine Sound.ite ?_ ?_ | refine Dev_setAxis_sound ?_ | refine Dev_modPort_sound ?_
    | refine Dev_portAxesOff_sound ?_ | refine Dev_discardOpen_sound ?_ | refine Sound.foldl (fun _ _ _ => ?_) ?_

theorem Dev_linkFail_sound {d : Dev} {p code : Nat} (h : Sound β ε d) : Sound β ε (Dev.linkFail d p code) := by
  unfold Dev.linkFail
  with_reducible repeat' first
    | assumption | refine Dev_event_sound ?_ | refine Dev_modPort_sound ?_ | refine Dev_strFlag_sound ?_

theorem Dev_portDown_sound {d : Dev} {p : Nat} (h : Sound β ε d) : Sound β ε (Dev.portDown d p) := by
  unfold Dev.portDown
  with_reducible repeat' first | assumption | refine Dev_modPort_sound ?_ | refine Dev_portAxesOff_sound ?_

theorem Dev_enterConfig_sound {d : Dev} {p : Nat} (h : Sound β ε d) : Sound β ε (Dev.enterConfig d p) := by
  unfold Dev.enterConfig
  with_reducible repeat' first
    | assumption | refine Dev_modPort_sound ?_ | refine Dev_sendMessage_sound ?_ | refine Sound.foldl (fun _ _ _ => ?_) ?_

theorem Dev_broadcastTable_sound {d : Dev} {p t : Nat} (h : Sound β ε d) : Sound β ε (Dev.broadcastTable d p t) := by
  unfold Dev.broadcastTable
  with_reducible repeat' first | assumption | refine Dev_sendMessage_sound ?_ | refine Sound.foldl (fun _ _ _ => ?_) ?_ | split

theorem Dev_enterTables_sound {d : Dev} {p : Nat} (h : Sound β ε d) : Sound β ε (Dev.enterTables d p) := by
  unfold Dev.enterTables
  with_reducible repeat' first
    | assumption | refine Dev_modPort_sound ?_ | refine Dev_sendMessage_sound ?_ | refine Dev_broadcastTable_sound ?_
    | refine Sound.foldl (fun _ _ _ => ?_) ?_

theorem Dev_enumEnd_sound {d : Dev} {p ncount : Nat} (h : Sound β ε d) : Sound β ε (Dev.enumEnd d p ncount) := by
  unfold Dev.enumEnd
  with_reducible repeat' first
    | assumption | refine Sound.ite ?_ ?_ | refine Dev_modPort_sound ?_ | refine Dev_linkFail_sound ?_
    | refine Dev_enterConfig_sound ?_ | refine Dev_enterTables_sound ?_

theorem Dev_sendStart_sound {d : Dev} {p : Nat} (h : Sound β ε d) : Sound β ε (Dev.sendStart d p) := by
  unfold Dev.sendStart
  with_reducible repeat' first | assumption | refine Dev_modPort_sound ?_ | refine Dev_sendMessage_sound ?_

theorem Dev_linkAdvance_sound {d : Dev} {p ncount : Nat} (h : Sound β ε d) : Sound β ε (Dev.linkAdvance d p ncount) := by
  dsimp only [Dev.linkAdvance]
  with_reducible repeat' first
    | assumption | refine Dev_enterConfig_sound ?_ | refine Dev_enumEnd_sound ?_ | refine Dev_sendStart_sound ?_ | split

theorem Dev_identity_sound {d : Dev} {p addr : Nat} {b : List Byte} {frame : Word} (h : Sound β ε d) :
    Sound β ε (Dev.identity d p addr b frame) := by
  unfold Dev.identity
  with_reducible repeat' first | assumption | refine Dev_modNode_sound ?_

theorem Dev_inbound_sound {d : Dev} {p : Nat} {b : Block} (h : Sound β ε d) : Sound β ε (Dev.inbound d p b) := by
  unfold Dev.inbound
  with_reducible repeat' first | assumption | refine Dev_modPort_sound ?_

theorem Dev_latchBlocks_sound {d : Dev} {p : Nat} (h : Sound β ε d) : Sound β ε (Dev.latchBlocks d p) := by
  unfold Dev.latchBlocks
  with_reducible repeat' first
    | assumption | refine Dev_modPort_sound ?_ | refine Dev_modNode_sound ?_ | refine Dev_enqueue_sound ?_
    | refine Sound.foldl (fun _ _ _ => ?_) ?_ | split

theorem Dev_upBlock_sound {d : Dev} {p : Nat} {frame : Word} {b : Block} (h : Sound β ε d) : Sound β ε (Dev.upBlock d p frame b) := by
  unfold Dev.upBlock
  with_reducible repeat' first
    | assumption | refine Sound.ite ?_ ?_ | refine Dev_incReg_sound ?_ | refine Dev_countEvent_sound ?_
    | refine Dev_modNode_sound ?_ | refine Dev_discardOpen_sound ?_ | refine Dev_identity_sound ?_
    | refine Dev_inbound_sound ?_ | split

theorem Dev_upManagement_sound {d : Dev} {p ncount : Nat} {bytes : List Byte} (h : Sound β ε d) :
    Sound β ε (Dev.upManagement d p ncount bytes) := by
  unfold Dev.upManagement
  with_reducible repeat' first | assumption | refine Dev_modNode_sound ?_ | refine Sound.foldl (fun _ _ _ => ?_) ?_

theorem Dev_badUpFrame_sound {d : Dev} {p : Nat} (h : Sound β ε d) : Sound β ε (Dev.badUpFrame d p) := by
  unfold Dev.badUpFrame
  with_reducible repeat' first
    | assumption | refine Dev_incReg_sound ?_ | refine Dev_eventRep_sound ?_ | refine Dev_strFlag_sound ?_

theorem Dev_latchAxis_sound {d : Dev} {n : Nat} {u : Word} {w9 : Option (BitVec 64)} (h : Sound β ε d) :
    Sound β ε (Dev.latchAxis d n u w9) := by
  unfold Dev.latchAxis
  with_reducible repeat' first
    | assumption | refine Sound.ite ?_ ?_ | refine Dev_setAxis_sound ?_ | refine Dev_devSig_sound ?_
    | refine Sound.foldl (fun _ _ _ => ?_) ?_

theorem Dev_latchStatus_sound {d : Dev} {p : Nat} {a : PortAxis} {v : BitVec 64} (h : Sound β ε d) :
    Sound β ε (Dev.latchStatus d p a v) := by
  unfold Dev.latchStatus
  with_reducible repeat' first
    | assumption | refine Sound.ite ?_ ?_ | refine Dev_setAxis_sound ?_ | refine Dev_eventRep_sound ?_
    | refine Dev_strFlag_sound ?_

theorem Dev_latchEncoders_sound {d : Dev} {p : Nat} {slots : Option (SMap (BitVec 64))} (h : Sound β ε d) :
    Sound β ε (Dev.latchEncoders d p slots) := by
  unfold Dev.latchEncoders
  with_reducible repeat' first
    | assumption | refine Sound.ite ?_ ?_ | refine Dev_setReg_sound ?_ | refine Dev_modPort_sound ?_
    | refine Sound.foldl (fun _ _ _ => ?_) ?_ | split

theorem Dev_latchPort_sound {d : Dev} {p : Nat} {u : Word} (h : Sound β ε d) : Sound β ε (Dev.latchPort d p u) := by
  unfold Dev.latchPort
  with_reducible repeat' first
    | assumption | refine Sound.ite ?_ ?_ | refine Dev_modPort_sound ?_ | refine Dev_badUpFrame_sound ?_
    | refine Dev_latchAxis_sound ?_ | refine Dev_latchStatus_sound ?_ | refine Dev_latchEncoders_sound ?_
    | refine Sound.foldl (fun _ _ _ => ?_) ?_ | split

theorem Dev_takeBlocks_sound {d : Dev} {p : Nat} {q9 : Nat} (h : Sound β ε d) : Sound β ε (Dev.takeBlocks d p q9).1 := by
  induction q9 generalizing d with
  | zero => exact h
  | succ q9 ih =>
  unfold Dev.takeBlocks
  repeat' first
    | with_reducible refine ih ?_
    | with_reducible assumption
    | (extract_lets +onlyGivenNames z; clear_value z)
    | with_reducible refine Dev_incReg_sound ?_
    | with_reducible refine Dev_setQueue_sound ?_
    | with_reducible refine Dev_countEvent_sound ?_
    | with_reducible refine Dev_modPort_sound ?_
    | with_reducible exact Sound.mk (by with_reducible assumption)
    | split

theorem Dev_sendPort_sound {d : Dev} {p : Nat} (h : Sound β ε d) : Sound β ε (Dev.sendPort d p) := by
  unfold Dev.sendPort
  with_reducible repeat' first
    | assumption | refine Sound.ite ?_ ?_ | refine Dev_devSig_sound ?_ | refine Dev_modPort_sound ?_
    | refine Dev_takeBlocks_sound ?_ | refine Sound.foldl (fun _ _ _ => ?_) ?_

theorem Dev_agePort_sound {d : Dev} {p : Nat} (h : Sound β ε d) : Sound β ε (Dev.agePort d p) := by
  unfold Dev.agePort
  with_reducible repeat' first | assumption | refine Dev_modPort_sound ?_

theorem Dev_portsFrame_sound {d : Dev} {u : Word} (h : Sound β ε d) : Sound β ε (Dev.portsFrame d u) := by
  unfold Dev.portsFrame
  with_reducible repeat' first
    | assumption | refine Dev_queuesFrame_sound ?_ | refine Dev_latchBlocks_sound ?_ | refine Dev_latchAxis_sound ?_
    | refine Dev_latchPort_sound ?_ | refine Dev_sendPort_sound ?_ | refine Dev_agePort_sound ?_
    | refine Sound.foldl (fun _ _ _ => ?_) ?_

theorem Dev_strCommand_sound {d : Dev} {p : Nat} {value : Word} (h : Sound β ε d) : Sound β ε (Dev.strCommand d p value) := by
  unfold Dev.strCommand
  extract_lets stat start stop still
  have hs (n : Nat) {x : Dev} (hx : Sound β ε x) : Sound β ε (stat n x) := Dev_setReg_sound hx
  repeat' first
    | with_reducible assumption
    | with_reducible refine Sound.ite ?_ ?_
    | with_reducible refine hs _ ?_
    | with_reducible refine Dev_beginLink_sound ?_
    | with_reducible refine Dev_portDown_sound ?_

theorem Dev_modIsland_sound {d : Dev} {f : Island → Island} (h : Sound β ε d) : Sound β ε (Dev.modIsland d f) := by
  unfold Dev.modIsland
  with_reducible repeat' first | exact Sound.mk (by assumption)

theorem Dev_islandChange_sound {d : Dev} {n : Nat} {v : Word} (h : Sound β ε d) : Sound β ε (Dev.islandChange d n v) := by
  unfold Dev.islandChange
  with_reducible repeat' first | assumption | refine Sound.ite ?_ ?_ | refine Dev_islandSig_sound ?_

theorem Dev_showSafe_sound {d : Dev} {n : Nat} (h : Sound β ε d) : Sound β ε (Dev.showSafe d n) := by
  unfold Dev.showSafe
  with_reducible repeat' first | assumption | refine Dev_islandChange_sound ?_

theorem Dev_safeStop_sound {d : Dev} {n : Nat} {st : SafeState} {code : Nat} (h : Sound β ε d) :
    Sound β ε (Dev.safeStop d n st code) := by
  unfold Dev.safeStop
  with_reducible repeat' first | assumption | refine Dev_modMotion_sound ?_

theorem Dev_enterSafe_sound {d : Dev} {n : Nat} {st : SafeState} {code : Nat} (h : Sound β ε d) :
    Sound β ε (Dev.enterSafe d n st code) := by
  unfold Dev.enterSafe
  with_reducible repeat' first | assumption | refine Dev_setSafe_sound ?_ | refine Dev_safeStop_sound ?_

theorem Dev_violate_sound {d : Dev} {n code : Nat} (h : Sound β ε d) : Sound β ε (Dev.violate d n code) := by
  unfold Dev.violate
  with_reducible repeat' first
    | assumption | refine Sound.ite ?_ ?_ | refine Dev_orReg_sound ?_ | refine Dev_setSafe_sound ?_ | refine Dev_event_sound ?_
    | refine Dev_safeStop_sound ?_ | refine Dev_enterSafe_sound ?_

theorem Dev_clearSafe_sound {d : Dev} {n : Nat} (h : Sound β ε d) : Sound β ε (Dev.clearSafe d n) := by
  unfold Dev.clearSafe
  with_reducible repeat' first | assumption | refine Dev_setSafe_sound ?_ | refine Dev_showSafe_sound ?_

theorem Dev_stopMonitor_sound {d : Dev} {n : Nat} (h : Sound β ε d) : Sound β ε (Dev.stopMonitor d n) := by
  dsimp only [Dev.stopMonitor]
  with_reducible repeat' first | assumption | refine Dev_setSafe_sound ?_ | refine Dev_violate_sound ?_ | split

theorem Dev_monitorAxis_sound {d : Dev} {n : Nat} (h : Sound β ε d) : Sound β ε (Dev.monitorAxis d n) := by
  unfold Dev.monitorAxis
  with_reducible repeat' first
    | assumption | refine Sound.ite ?_ ?_ | refine Dev_setSafe_sound ?_ | refine Dev_showSafe_sound ?_
    | refine Dev_violate_sound ?_ | refine Dev_stopMonitor_sound ?_ | refine Sound.foldl (fun _ _ _ => ?_) ?_

theorem Dev_monitors_sound {d : Dev} (h : Sound β ε d) : Sound β ε (Dev.monitors d) := by
  unfold Dev.monitors
  with_reducible repeat' first | assumption | refine Dev_monitorAxis_sound ?_ | refine Sound.foldl (fun _ _ _ => ?_) ?_

theorem Dev_islandFault_sound {d : Dev} {code : Nat} (h : Sound β ε d) : Sound β ε (Dev.islandFault d code) := by
  unfold Dev.islandFault
  with_reducible repeat' first
    | assumption | refine Sound.ite ?_ ?_ | refine Dev_modMotion_sound ?_ | refine Dev_event_sound ?_
    | refine Dev_modIsland_sound ?_ | refine Sound.foldl (fun _ _ _ => ?_) ?_

theorem Dev_cyclePairs_sound {d : Dev} (h : Sound β ε d) : Sound β ε (Dev.cyclePairs d) := by
  unfold Dev.cyclePairs
  with_reducible repeat' first
    | refine Dev_orReg_sound ?_ | refine Dev_event_sound ?_ | refine Sound.foldl (fun _ _ _ => ?_) ?_
    | exact Sound.mk (by assumption)

theorem Dev_withdraw_sound {d : Dev} {g : Nat} (h : Sound β ε d) : Sound β ε (Dev.withdraw d g) := by
  unfold Dev.withdraw
  with_reducible repeat' first
    | assumption | refine Sound.ite ?_ ?_ | refine Dev_orReg_sound ?_ | refine Dev_event_sound ?_
    | refine Dev_showSafe_sound ?_ | refine Dev_enterSafe_sound ?_ | refine Sound.foldl (fun _ _ _ => ?_) ?_

theorem Dev_cycleGroup_sound {d : Dev} {g : Nat} (h : Sound β ε d) : Sound β ε (Dev.cycleGroup d g) := by
  unfold Dev.cycleGroup
  with_reducible repeat' first
    | assumption | refine Sound.ite ?_ ?_ | refine Dev_modIsland_sound ?_ | refine Dev_withdraw_sound ?_

theorem Dev_cycleReadback_sound {d : Dev} {c : Nat} (h : Sound β ε d) : Sound β ε (Dev.cycleReadback d c) := by
  unfold Dev.cycleReadback
  with_reducible repeat' first
    | refine Sound.ite ?_ ?_ | refine Dev_orReg_sound ?_ | refine Dev_event_sound ?_ | refine Sound.foldl (fun _ _ _ => ?_) ?_
    | exact Sound.mk (by assumption)

theorem Dev_cycleLoop_sound {d : Dev} {l : Nat} (h : Sound β ε d) : Sound β ε (Dev.cycleLoop d l) := by
  unfold Dev.cycleLoop
  with_reducible repeat' first | assumption | refine Dev_modIsland_sound ?_

theorem Dev_showCycle_sound {d : Dev} (h : Sound β ε d) : Sound β ε (Dev.showCycle d) := by
  unfold Dev.showCycle
  with_reducible repeat' first | assumption | refine Dev_islandChange_sound ?_ | refine Sound.foldl (fun _ _ _ => ?_) ?_

theorem Dev_ackAxis_sound {d : Dev} {n : Nat} (h : Sound β ε d) : Sound β ε (Dev.ackAxis d n).1 := by
  unfold Dev.ackAxis
  with_reducible repeat' first | assumption | refine Sound.ite1 ?_ ?_ | refine Dev_clearSafe_sound ?_

theorem Dev_resetAxis_sound {d : Dev} {n : Nat} (h : Sound β ε d) : Sound β ε (Dev.resetAxis d n).1 := by
  unfold Dev.resetAxis
  with_reducible repeat' first | assumption | refine Sound.ite1 ?_ ?_ | refine Dev_clearSafe_sound ?_

theorem Dev_resetLoop_sound {d : Dev} {l : Nat} (h : Sound β ε d) : Sound β ε (Dev.resetLoop d l).1 := by
  unfold Dev.resetLoop
  with_reducible repeat' first | assumption | refine Sound.ite1 ?_ ?_ | refine Dev_modIsland_sound ?_

theorem Dev_each_sound {d : Dev} {l : List Nat} {f : Dev → Nat → Dev × Bool} (hf : ∀ x n, Sound β ε x → Sound β ε (f x n).1) (h : Sound β ε d) : Sound β ε (Dev.each d l f).1 := by
  unfold Dev.each
  exact Sound.foldl1 (fun x n hx => hf _ _ hx) h

theorem Dev_safCommand_sound {d : Dev} {v : Word} (h : Sound β ε d) : Sound β ε (Dev.safCommand d v) := by
  unfold Dev.safCommand
  extract_lets stat all one inState r1 r2 loops r3
  have hs (r : Dev × Bool) (hr : Sound β ε r.1) : Sound β ε (stat r) := Dev_setReg_sound hr
  refine Sound.ite (hs _ h) (hs _ ?_)
  have h1 : Sound β ε r1.1 := Sound.ite1 (Dev_each_sound (fun _ _ => Dev_ackAxis_sound) h) h
  have h2 : Sound β ε r2.1 := Sound.ite1 (Dev_each_sound (fun _ _ => Dev_resetAxis_sound) h1) h1
  exact Sound.ite1 (Dev_each_sound (fun _ _ => Dev_resetLoop_sound) h2) h2

theorem Dev_safCmdWrite_sound {d : Dev} {v : Word} (h : Sound β ε d) : Sound β ε (Dev.safCmdWrite d v) := by
  unfold Dev.safCmdWrite
  with_reducible repeat' first | assumption | refine Dev_modIsland_sound ?_

theorem Dev_cycleDiag_sound {d : Dev} {diag : IslandDiag} (h : Sound β ε d) : Sound β ε (Dev.cycleDiag d diag) := by
  unfold Dev.cycleDiag
  with_reducible repeat' first
    | assumption | refine Sound.ite ?_ ?_ | refine Dev_modIsland_sound ?_ | refine Dev_islandFault_sound ?_

theorem Dev_safetyCycle_sound {d : Dev} {diag : IslandDiag} (h : Sound β ε d) : Sound β ε (Dev.safetyCycle d diag) := by
  unfold Dev.safetyCycle
  with_reducible repeat' first
    | assumption | refine Dev_modIsland_sound ?_ | refine Dev_showSafe_sound ?_ | refine Dev_cyclePairs_sound ?_
    | refine Dev_cycleGroup_sound ?_ | refine Dev_cycleReadback_sound ?_ | refine Dev_cycleLoop_sound ?_
    | refine Dev_showCycle_sound ?_ | refine Dev_safCommand_sound ?_ | refine Dev_cycleDiag_sound ?_
    | refine Sound.foldl (fun _ _ _ => ?_) ?_ | split

theorem Dev_safUnlockWrite_sound {d : Dev} {value : Word} (h : Sound β ε d) : Sound β ε (Dev.safUnlockWrite d value) := by
  unfold Dev.safUnlockWrite
  with_reducible repeat' first | assumption | refine Sound.ite ?_ ?_ | refine Dev_modIsland_sound ?_

theorem Dev_beginStore_sound {d : Dev} (h : Sound β ε d) : Sound β ε (Dev.beginStore d) := by
  unfold Dev.beginStore
  with_reducible repeat' first | assumption | refine Dev_modIsland_sound ?_

theorem Dev_restoreCopy_sound {d : Dev} {y : SafCopy} (h : Sound β ε d) : Sound β ε (Dev.restoreCopy d y) := by
  unfold Dev.restoreCopy
  with_reducible repeat' first | refine Dev_modIsland_sound ?_ | exact Sound.mk (by assumption)

theorem Dev_storeLost_sound {d : Dev} (h : Sound β ε d) : Sound β ε (Dev.storeLost d) := by
  unfold Dev.storeLost
  with_reducible repeat' first
    | assumption | refine Sound.ite ?_ ?_ | refine Dev_nextFree_sound ?_ | refine Dev_restoreCopy_sound ?_ | split

theorem Dev_safWrite_sound {d : Dev} {addr : Nat} {value : Word} (h : Sound β ε d) : Sound β ε (Dev.safWrite d addr value) := by
  unfold Dev.safWrite
  with_reducible repeat' first
    | assumption | refine Dev_setReg_sound ?_ | refine Dev_modIsland_sound ?_ | refine Dev_beginStore_sound ?_ | split

theorem Dev_commission_sound {d : Dev} {value : Word} (h : Sound β ε d) : Sound β ε (Dev.commission d value).1 := by
  unfold Dev.commission
  with_reducible repeat' first
    | assumption | refine Sound.ite1 ?_ ?_ | refine Dev_event_sound ?_ | refine Dev_modIsland_sound ?_
    | refine Dev_beginStore_sound ?_

theorem Dev_safeBase_sound {d : Dev} (h : Sound β ε d) : Sound β ε (Dev.safeBase d) := by
  unfold Dev.safeBase
  with_reducible repeat' first
    | assumption | refine Dev_setSafe_sound ?_ | refine Dev_showSafe_sound ?_ | refine Sound.foldl (fun _ _ _ => ?_) ?_

theorem Dev_islandRunEntry_sound {d : Dev} (h : Sound β ε d) : Sound β ε (Dev.islandRunEntry d) := by
  unfold Dev.islandRunEntry
  with_reducible repeat' first | assumption | refine Sound.ite ?_ ?_ | refine Dev_event_sound ?_ | refine Dev_safeBase_sound ?_

theorem Dev_modSource_sound {d : Dev} {k : Nat} {f : TgSource → TgSource} (h : Sound β ε d) : Sound β ε (Dev.modSource d k f) := by
  unfold Dev.modSource
  with_reducible repeat' first | assumption | refine Dev_modIsland_sound ?_

theorem Dev_tgCount_sound {d : Dev} {k : Nat} (h : Sound β ε d) : Sound β ε (Dev.tgCount d k) := by
  unfold Dev.tgCount
  with_reducible repeat' first | assumption | refine Dev_modSource_sound ?_

theorem Dev_tgReject_sound {d : Dev} {k : Option Nat} {code : Nat} (h : Sound β ε d) : Sound β ε (Dev.tgReject d k code) := by
  unfold Dev.tgReject
  with_reducible repeat' first
    | assumption | refine Dev_orReg_sound ?_ | refine Dev_eventRep_sound ?_ | refine Dev_tgCount_sound ?_ | split

theorem Dev_tgAccept_sound {d : Dev} {k : Nat} {b : List Byte} {first at' : Nat} {single : Bool} (h : Sound β ε d) :
    Sound β ε (Dev.tgAccept d k b first at' single) := by
  unfold Dev.tgAccept
  with_reducible repeat' first
    | assumption | refine Sound.ite ?_ ?_ | refine Dev_orReg_sound ?_ | refine Dev_event_sound ?_
    | refine Dev_modSource_sound ?_

theorem Dev_tgWindow_sound {d : Dev} {k : Nat} {c : TgCopy} (h : Sound β ε d) : Sound β ε (Dev.tgWindow d k c) := by
  unfold Dev.tgWindow
  with_reducible repeat' first
    | assumption | refine Sound.ite ?_ ?_ | refine Dev_modSource_sound ?_ | refine Dev_tgAccept_sound ?_

theorem Dev_tgWindows_sound {d : Dev} {k stamp : Nat} (h : Sound β ε d) : Sound β ε (Dev.tgWindows d k stamp) := by
  unfold Dev.tgWindows
  with_reducible repeat' first | assumption | refine Dev_tgWindow_sound ?_ | refine Sound.foldl (fun _ _ _ => ?_) ?_

theorem Dev_tgCopy_sound {d : Dev} {port stamp : Nat} {b : List Byte} (h : Sound β ε d) : Sound β ε (Dev.tgCopy d port stamp b) := by
  unfold Dev.tgCopy
  extract_lets d1 mine
  have h1 : Sound β ε d1 := Sound.foldl (fun _ _ => Dev_tgWindows_sound) h
  clear_value d1
  split
  · refine Sound.ite ?_ (Dev_tgReject_sound h1)
    split
    · exact Dev_tgCount_sound h1
    · exact h1
  · exact h1
  · split
    · exact Dev_modSource_sound h1
    · exact Sound.ite (Dev_tgReject_sound (Dev_tgReject_sound (Dev_modSource_sound h1))) (Sound.ite (Dev_tgCount_sound h1)
        (Sound.ite (Dev_modSource_sound h1) (Dev_tgAccept_sound (Dev_modSource_sound h1))))

theorem Dev_modField_sound {d : Dev} {f : Field → Field} (h : Sound β ε d) : Sound β ε (Dev.modField d f) := by
  unfold Dev.modField
  with_reducible repeat' first | exact Sound.mk (by assumption)

theorem Dev_fldFlag_sound {d : Dev} {bits : Word} (h : Sound β ε d) : Sound β ε (Dev.fldFlag d bits) := by
  unfold Dev.fldFlag
  with_reducible repeat' first | assumption | refine Dev_orReg_sound ?_

theorem Dev_hsSettle_sound {d : Dev} {h1 : Nat} {fresh : Bool} (h : Sound β ε d) : Sound β ε (Dev.hsSettle d h1 fresh) := by
  unfold Dev.hsSettle
  with_reducible repeat' first | assumption | refine Sound.ite ?_ ?_ | refine Dev_setChan_sound ?_ | refine Dev_modField_sound ?_

theorem Dev_hsApply_sound {d : Dev} {h1 : Nat} {want : Bool} (h : Sound β ε d) : Sound β ε (Dev.hsApply d h1 want) := by
  unfold Dev.hsApply
  with_reducible repeat' first | assumption | refine Dev_setChan_sound ?_ | refine Dev_hsSettle_sound ?_

theorem Dev_hsCommand_sound {d : Dev} {h1 : Nat} {want : Bool} (h : Sound β ε d) : Sound β ε (Dev.hsCommand d h1 want) := by
  unfold Dev.hsCommand
  with_reducible repeat' first
    | assumption | refine Sound.ite ?_ ?_ | refine Dev_setChan_sound ?_ | refine Dev_eventRep_sound ?_
    | refine Dev_fldFlag_sound ?_ | refine Dev_hsApply_sound ?_

theorem Dev_soSettle_sound {d : Dev} {k : Nat} (h : Sound β ε d) : Sound β ε (Dev.soSettle d k) := by
  unfold Dev.soSettle
  with_reducible repeat' first | assumption | refine Dev_modField_sound ?_

theorem Dev_huskConfigure_sound {d : Dev} (h : Sound β ε d) : Sound β ε (Dev.huskConfigure d) := by
  unfold Dev.huskConfigure
  with_reducible repeat' first
    | assumption | refine Sound.ite ?_ ?_ | refine Dev_setChan_sound ?_ | refine Dev_modField_sound ?_
    | refine Sound.foldl (fun _ _ _ => ?_) ?_

theorem Dev_huskGood_sound {d : Dev} (h : Sound β ε d) : Sound β ε (Dev.huskGood d) := by
  unfold Dev.huskGood
  with_reducible repeat' first
    | assumption | refine Sound.ite ?_ ?_ | refine Dev_modField_sound ?_ | refine Dev_hsSettle_sound ?_
    | refine Dev_hsCommand_sound ?_ | refine Dev_soSettle_sound ?_ | refine Dev_huskConfigure_sound ?_
    | refine Sound.foldl (fun _ _ _ => ?_) ?_

theorem Dev_lastFrame_sound {d : Dev} (h : Sound β ε d) : Sound β ε (Dev.lastFrame d) :=
  have hg := Dev_huskGood_sound h
  ⟨hg.executing, h.pendq, hg.queue, hg.promos, hg.fifo, hg.buffer⟩

theorem Dev_watchdogTrip_sound {d : Dev} (h : Sound β ε d) : Sound β ε (Dev.watchdogTrip d) := by
  unfold Dev.watchdogTrip
  with_reducible repeat' first
    | assumption | refine Sound.ite ?_ ?_ | refine Dev_setChan_sound ?_ | refine Dev_modField_sound ?_
    | refine Dev_hsSettle_sound ?_ | refine Sound.foldl (fun _ _ _ => ?_) ?_

theorem Dev_recoveryEnd_sound {d : Dev} (h : Sound β ε d) : Sound β ε (Dev.recoveryEnd d) := by
  unfold Dev.recoveryEnd
  with_reducible repeat' first
    | assumption | refine Dev_setChan_sound ?_ | refine Dev_modField_sound ?_ | refine Dev_hsSettle_sound ?_
    | refine Dev_hsCommand_sound ?_ | refine Sound.foldl (fun _ _ _ => ?_) ?_

theorem Dev_hsIntegrate_sound {d : Dev} {l : Nat} {fast : List Nat} (h : Sound β ε d) : Sound β ε (Dev.hsIntegrate d l fast) := by
  unfold Dev.hsIntegrate
  with_reducible repeat' first | assumption | refine Dev_setChan_sound ?_

theorem Dev_hsLatched_sound {d : Dev} {l : Nat} (h : Sound β ε d) : Sound β ε (Dev.hsLatched d l) := by
  unfold Dev.hsLatched
  with_reducible repeat' first | assumption | refine Dev_setChan_sound ?_

theorem Dev_olCount_sound {d : Dev} {currents : List (BitVec 16)} {l : Nat} (h : Sound β ε d) :
    Sound β ε (Dev.olCount d currents l) := by
  unfold Dev.olCount
  with_reducible repeat' first | assumption | refine Sound.ite ?_ ?_ | refine Dev_setChan_sound ?_

theorem Dev_huskSample_sound {d : Dev} {x : FieldSample} (h : Sound β ε d) : Sound β ε (Dev.huskSample d x) := by
  unfold Dev.huskSample
  with_reducible repeat' first
    | assumption | refine Dev_modField_sound ?_ | refine Dev_hsIntegrate_sound ?_ | refine Dev_hsLatched_sound ?_
    | refine Dev_olCount_sound ?_ | refine Sound.foldl (fun _ _ _ => ?_) ?_

theorem Dev_fieldInput_sound {d : Dev} {x : FieldSample} {i : Nat} (h : Sound β ε d) : Sound β ε (Dev.fieldInput d x i) := by
  unfold Dev.fieldInput
  with_reducible repeat' first
    | assumption | refine Sound.ite ?_ ?_ | refine Dev_eventRep_sound ?_ | refine Dev_devSig_sound ?_
    | refine Dev_modField_sound ?_ | refine Dev_fldFlag_sound ?_

theorem Dev_fieldChannel_sound {d : Dev} {x : FieldSample} {h1 : Nat} (h : Sound β ε d) : Sound β ε (Dev.fieldChannel d x h1) := by
  unfold Dev.fieldChannel
  with_reducible repeat' first
    | assumption | refine Sound.ite ?_ ?_ | refine Dev_setChan_sound ?_ | refine Dev_event_sound ?_
    | refine Dev_fldFlag_sound ?_

theorem Dev_showChannel_sound {d : Dev} {h1 : Nat} (h : Sound β ε d) : Sound β ε (Dev.showChannel d h1) := by
  unfold Dev.showChannel
  with_reducible repeat' first | assumption | refine Dev_devSig_sound ?_

theorem Dev_showOutput_sound {d : Dev} {x : FieldSample} {k : Nat} (h : Sound β ε d) : Sound β ε (Dev.showOutput d x k) := by
  unfold Dev.showOutput
  with_reducible repeat' first | assumption | refine Dev_sigStore_sound ?_ | refine Dev_modField_sound ?_

theorem Dev_huskReports_sound {d : Dev} (h : Sound β ε d) : Sound β ε (Dev.huskReports d) := by
  unfold Dev.huskReports
  with_reducible repeat' first
    | assumption | refine Sound.ite ?_ ?_ | refine Dev_event_sound ?_ | refine Dev_modField_sound ?_
    | refine Dev_fldFlag_sound ?_

theorem Dev_barrierGood_sound {d : Dev} {x : FieldSample} (h : Sound β ε d) : Sound β ε (Dev.barrierGood d x) := by
  unfold Dev.barrierGood
  with_reducible repeat' first
    | assumption | refine Dev_setRegFld_sound ?_ | refine Dev_devSig_sound ?_ | refine Dev_modIsland_sound ?_
    | refine Dev_modField_sound ?_ | refine Dev_fieldInput_sound ?_ | refine Dev_fieldChannel_sound ?_
    | refine Dev_showChannel_sound ?_ | refine Dev_showOutput_sound ?_ | refine Dev_huskReports_sound ?_
    | refine Sound.foldl (fun _ _ _ => ?_) ?_

theorem Dev_barrierBad_sound {d : Dev} (h : Sound β ε d) : Sound β ε (Dev.barrierBad d) := by
  unfold Dev.barrierBad
  with_reducible repeat' first
    | assumption | refine Dev_incRegFld_sound ?_ | refine Dev_sigStore_sound ?_ | refine Dev_devSig_sound ?_
    | refine Dev_modIsland_sound ?_ | refine Dev_modField_sound ?_ | refine Sound.foldl (fun _ _ _ => ?_) ?_

theorem Dev_countTrip_sound {d : Dev} {h1 : Nat} (h : Sound β ε d) : Sound β ε (Dev.countTrip d h1) := by
  unfold Dev.countTrip
  with_reducible repeat' first | assumption | refine Dev_incRegFld_sound ?_

theorem Dev_latchTrip_sound {d : Dev} {h1 : Nat} (h : Sound β ε d) : Sound β ε (Dev.latchTrip d h1) := by
  unfold Dev.latchTrip
  with_reducible repeat' first
    | assumption | refine Dev_setChan_sound ?_ | refine Dev_eventRep_sound ?_ | refine Dev_fldFlag_sound ?_
    | refine Dev_hsSettle_sound ?_

theorem Dev_hsReport_sound {d : Dev} {h1 : Nat} {openLoad feed : Bool} (h : Sound β ε d) :
    Sound β ε (Dev.hsReport d h1 openLoad feed) := by
  unfold Dev.hsReport
  with_reducible repeat' first
    | assumption | refine Sound.ite ?_ ?_ | refine Dev_setChan_sound ?_ | refine Dev_event_sound ?_
    | refine Dev_fldFlag_sound ?_

theorem Dev_fldWrite_sound {d : Dev} {addr : Nat} {value : Word} (h : Sound β ε d) : Sound β ε (Dev.fldWrite d addr value) := by
  unfold Dev.fldWrite
  with_reducible repeat' first
    | assumption | refine Sound.ite ?_ ?_ | refine Dev_setReg_sound ?_ | refine Dev_event_sound ?_
    | refine Dev_modField_sound ?_ | refine Dev_fldFlag_sound ?_ | split

theorem Dev_hsZero_sound {d : Dev} (h : Sound β ε d) : Sound β ε (Dev.hsZero d) := by
  unfold Dev.hsZero
  with_reducible repeat' first | assumption | refine Dev_devNat_sound ?_ | refine Sound.foldl (fun _ _ _ => ?_) ?_

theorem Dev_hsSnapshot_sound {d : Dev} (h : Sound β ε d) : Sound β ε (Dev.hsSnapshot d) := by
  unfold Dev.hsSnapshot
  with_reducible repeat' first | assumption | refine Dev_modField_sound ?_

theorem Dev_fieldOn_sound {d : Dev} (h : Sound β ε d) : Sound β ε (Dev.fieldOn d) := by
  unfold Dev.fieldOn
  with_reducible repeat' first | assumption | refine Dev_modField_sound ?_

theorem Dev_fieldOff_sound {d : Dev} (h : Sound β ε d) : Sound β ε (Dev.fieldOff d) := by
  unfold Dev.fieldOff
  with_reducible repeat' first | assumption | refine Dev_modField_sound ?_

theorem Dev_fieldRejoin_sound {d : Dev} (h : Sound β ε d) : Sound β ε (Dev.fieldRejoin d) := by
  unfold Dev.fieldRejoin
  with_reducible repeat' first
    | assumption | refine Sound.ite ?_ ?_ | refine Dev_event_sound ?_ | refine Dev_modField_sound ?_
    | refine Dev_fldFlag_sound ?_ | refine Dev_huskConfigure_sound ?_ | refine Dev_recoveryEnd_sound ?_

theorem Dev_fieldRoast_sound {d : Dev} {hold : Bool} (h : Sound β ε d) : Sound β ε (Dev.fieldRoast d hold) := by
  unfold Dev.fieldRoast
  with_reducible repeat' first
    | assumption | refine Dev_modField_sound ?_ | refine Dev_hsSettle_sound ?_ | refine Dev_soSettle_sound ?_
    | refine Sound.foldl (fun _ _ _ => ?_) ?_

theorem Dev_fieldRunEntry_sound {d : Dev} (h : Sound β ε d) : Sound β ε (Dev.fieldRunEntry d) := by
  unfold Dev.fieldRunEntry
  with_reducible repeat' first | assumption | refine Dev_modField_sound ?_

theorem Dev_modPlacer_sound {d : Dev} {f : Placer → Placer} (h : Sound β ε d) : Sound β ε (Dev.modPlacer d f) := by
  unfold Dev.modPlacer
  with_reducible repeat' first | exact Sound.mk (by assumption)

theorem Dev_showDoor_sound {d : Dev} {im : Image} {x : Nat} {y : DoorPl} {migs : Nat} {frame : Word} (h : Sound β ε d) :
    Sound β ε (Dev.showDoor d im x y migs frame) := by
  unfold Dev.showDoor
  with_reducible repeat' first
    | assumption | refine Dev_devSig_sound ?_ | refine Dev_devNat_sound ?_ | refine Sound.foldl (fun _ _ _ => ?_) ?_

theorem Dev_placeImage_sound {d : Dev} (h : Sound β ε d) : Sound β ε (Dev.placeImage d).1 := by
  unfold Dev.placeImage
  with_reducible repeat' first
    | assumption | refine Sound.ite1 ?_ ?_ | refine Dev_setReg_sound ?_ | refine Dev_event_sound ?_
    | refine Dev_modPlacer_sound ?_ | refine Dev_showDoor_sound ?_ | refine Sound.foldl (fun _ _ _ => ?_) ?_ | split

theorem Dev_loadDoor_sound {d : Dev} {im : Image} {x : Nat} {y : DoorPl} {restart : Bool} (h : Sound β ε d) :
    Sound β ε (Dev.loadDoor d im x y restart) := by
  unfold Dev.loadDoor
  extract_lets d1 b
  exact (Sound.foldl (fun _ _ hx => Dev_primeTask_sound (Dev_setTask_sound hx)) h : Sound β ε d1).mk

theorem Dev_loadSystem_sound {d : Dev} {im : Image} (h : Sound β ε d) : Sound β ε (Dev.loadSystem d im) := by
  unfold Dev.loadSystem
  with_reducible repeat' first
    | assumption | refine Dev_setTask_sound ?_ | refine Dev_primeTask_sound ?_ | refine Sound.foldl (fun _ _ _ => ?_) ?_

theorem Dev_loadImage_sound {d : Dev} (h : Sound β ε d) : Sound β ε (Dev.loadImage d) := by
  unfold Dev.loadImage
  with_reducible repeat' first
    | refine Dev_sigInit_sound ?_ | refine Dev_loadDoor_sound ?_ | refine Dev_loadSystem_sound ?_
    | refine Sound.foldl (fun _ _ _ => ?_) ?_ | exact Sound.mk (by assumption) | split

theorem Dev_restartDoor_sound {d : Dev} {x : Nat} (h : Sound β ε d) : Sound β ε (Dev.restartDoor d x) := by
  unfold Dev.restartDoor
  with_reducible repeat' first
    | assumption | refine Dev_setCore_sound ?_ | refine Dev_sigInit_sound ?_ | refine Dev_loadDoor_sound ?_
    | refine Sound.foldl (fun _ _ _ => ?_) ?_ | split

theorem Dev_restartCheck_sound {d : Dev} {s : Nat} {v : Word} (h : Sound β ε d) : Sound β ε (Dev.restartCheck d s v) := by
  unfold Dev.restartCheck
  with_reducible repeat' first
    | assumption | refine Sound.ite ?_ ?_ | refine Dev_setReg_sound ?_ | refine Dev_restartDoor_sound ?_ | split

theorem Dev_requestRestart_sound {d : Dev} {sheaf : Nat} {value : Word} (h : Sound β ε d) :
    Sound β ε (Dev.requestRestart d sheaf value) := by
  unfold Dev.requestRestart
  with_reducible repeat' first | exact Sound.mk (by assumption)

theorem Dev_beginMigration_sound {d : Dev} {im : Image} {x tgt : Nat} {cmd : Bool} (h : Sound β ε d) :
    Sound β ε (Dev.beginMigration d im x tgt cmd) := by
  unfold Dev.beginMigration
  with_reducible repeat' first | assumption | refine Dev_modPlacer_sound ?_ | split

theorem Dev_decideMigration_sound {d : Dev} {s : Nat} (h : Sound β ε d) : Sound β ε (Dev.decideMigration d s) := by
  dsimp only [Dev.decideMigration]
  with_reducible repeat' first
    | assumption | refine Dev_orReg_sound ?_ | refine Dev_event_sound ?_ | refine Dev_modPlacer_sound ?_
    | refine Dev_beginMigration_sound ?_ | split

theorem Dev_migrationDecision_sound {d : Dev} (h : Sound β ε d) : Sound β ε (Dev.migrationDecision d) := by
  unfold Dev.migrationDecision
  with_reducible repeat' first
    | assumption | refine Sound.ite ?_ ?_ | refine Dev_modPlacer_sound ?_ | refine Dev_decideMigration_sound ?_
    | refine Sound.foldl (fun _ _ _ => ?_) ?_

theorem Dev_migrationTakeup_sound {d : Dev} (h : Sound β ε d) : Sound β ε (Dev.migrationTakeup d) := by
  unfold Dev.migrationTakeup
  with_reducible repeat' first
    | assumption | refine Sound.ite ?_ ?_ | refine Dev_modPlacer_sound ?_ | refine Dev_beginMigration_sound ?_ | split

theorem Dev_migrationRecord_sound {d : Dev} {im : Image} {m : Mig} {y : DoorPl} {code : Nat} {crc : Word} (h : Sound β ε d) :
    Sound β ε (Dev.migrationRecord d im m y code crc) := by
  unfold Dev.migrationRecord
  with_reducible repeat' first | assumption | refine Dev_event_sound ?_

theorem Dev_closeMigration_sound {d : Dev} {m : Mig} {src code : Nat} (h : Sound β ε d) :
    Sound β ε (Dev.closeMigration d m src code) := by
  unfold Dev.closeMigration
  with_reducible repeat' first | assumption | refine Dev_incReg_sound ?_ | refine Dev_modPlacer_sound ?_

theorem Dev_abortMigration_sound {d : Dev} {im : Image} {m : Mig} {y : DoorPl} {code : Nat} {crc : Word} (h : Sound β ε d) :
    Sound β ε (Dev.abortMigration d im m y code crc) := by
  unfold Dev.abortMigration
  with_reducible repeat' first | assumption | refine Dev_migrationRecord_sound ?_ | refine Dev_closeMigration_sound ?_

theorem Dev_moveTask_sound {d : Dev} {src t dst t' inst : Nat} (h : Sound β ε d) : Sound β ε (Dev.moveTask d src t dst t' inst) := by
  unfold Dev.moveTask
  with_reducible repeat' first | assumption | refine Dev_setCore_sound ?_

theorem Dev_switchDoor_sound {d : Dev} {im : Image} {m : Mig} {y : DoorPl} (h : Sound β ε d) : Sound β ε (Dev.switchDoor d im m y) := by
  unfold Dev.switchDoor
  with_reducible repeat' first
    | assumption | refine Dev_setReg_sound ?_ | refine Dev_modPlacer_sound ?_ | refine Dev_showDoor_sound ?_
    | refine Dev_moveTask_sound ?_ | refine Sound.foldl (fun _ _ _ => ?_) ?_

theorem Dev_dropMigration_sound {d : Dev} (h : Sound β ε d) : Sound β ε (Dev.dropMigration d) := by
  unfold Dev.dropMigration
  with_reducible repeat' first | assumption | refine Dev_modPlacer_sound ?_ | refine Dev_abortMigration_sound ?_ | split

theorem Dev_placerRunEntry_sound {d : Dev} (h : Sound β ε d) : Sound β ε (Dev.placerRunEntry d) := by
  unfold Dev.placerRunEntry
  with_reducible repeat' first
    | assumption | refine Dev_setReg_sound ?_ | refine Dev_setRegFld_sound ?_ | refine Dev_modPlacer_sound ?_
    | refine Sound.foldl (fun _ _ _ => ?_) ?_

theorem Dev_modPair_sound {d : Dev} {f : PairUnit → PairUnit} (h : Sound β ε d) : Sound β ε (Dev.modPair d f) := by
  unfold Dev.modPair
  with_reducible repeat' first | exact Sound.mk (by assumption)

theorem Dev_pairEvent_sound {d : Dev} {code : Nat} {flag : Word} (h : Sound β ε d) : Sound β ε (Dev.pairEvent d code flag) := by
  unfold Dev.pairEvent
  with_reducible repeat' first
    | assumption | refine Dev_setRegFld_sound ?_ | refine Dev_orReg_sound ?_ | refine Dev_event_sound ?_

theorem Dev_sendPair_sound {d : Dev} (h : Sound β ε d) : Sound β ε (Dev.sendPair d) := by
  unfold Dev.sendPair
  with_reducible repeat' first
    | assumption | refine Sound.ite ?_ ?_ | refine Dev_countStore_sound ?_ | refine Dev_modPair_sound ?_
    | refine Sound.foldl (fun _ _ _ => ?_) ?_

theorem Dev_pairMismatch_sound {d : Dev} (h : Sound β ε d) : Sound β ε (Dev.pairMismatch d) := by
  unfold Dev.pairMismatch
  with_reducible repeat' first | assumption | refine Sound.ite ?_ ?_ | refine Dev_modPair_sound ?_ | refine Dev_pairEvent_sound ?_

theorem Dev_latchMirror_sound {d : Dev} {b : List Byte} (h : Sound β ε d) : Sound β ε (Dev.latchMirror d b) := by
  unfold Dev.latchMirror
  with_reducible repeat' first
    | assumption | refine Dev_sigMirrored_sound ?_ | refine Dev_modPair_sound ?_ | refine Dev_pairMismatch_sound ?_
    | refine Sound.foldl (fun _ _ _ => ?_) ?_

theorem Dev_latchStuck_sound {d : Dev} {l : Nat} (h : Sound β ε d) : Sound β ε (Dev.latchStuck d l) := by
  unfold Dev.latchStuck
  with_reducible repeat' first
    | assumption | refine Dev_orReg_sound ?_ | refine Dev_event_sound ?_ | refine Dev_modIsland_sound ?_
    | refine Dev_modPair_sound ?_ | refine Dev_pairEvent_sound ?_

theorem Dev_partnerStuck_sound {d : Dev} (h : Sound β ε d) : Sound β ε (Dev.partnerStuck d) := by
  unfold Dev.partnerStuck
  split
  · exact Sound.ite h (Dev_latchStuck_sound h)
  · exact Dev_latchStuck_sound (Dev_nextFree_sound h)

theorem Dev_latchStatusFrame_sound {d : Dev} {b : List Byte} (h : Sound β ε d) : Sound β ε (Dev.latchStatusFrame d b) := by
  unfold Dev.latchStatusFrame
  with_reducible repeat' first
    | assumption | refine Sound.ite ?_ ?_ | refine Dev_modPair_sound ?_ | refine Dev_pairMismatch_sound ?_
    | refine Dev_partnerStuck_sound ?_

theorem Dev_loopsOff_sound {d : Dev} (h : Sound β ε d) : Sound β ε (Dev.loopsOff d) := by
  unfold Dev.loopsOff
  with_reducible repeat' first | assumption | refine Dev_modIsland_sound ?_

theorem Dev_stopSheaves_sound {d : Dev} (h : Sound β ε d) : Sound β ε (Dev.stopSheaves d) := by
  unfold Dev.stopSheaves
  with_reducible repeat' first | exact Sound.mk (by assumption)

theorem Dev_enterStandby_sound {d : Dev} (h : Sound β ε d) : Sound β ε (Dev.enterStandby d) := by
  unfold Dev.enterStandby
  with_reducible repeat' first
    | assumption | refine Dev_axisOff_sound ?_ | refine Dev_modPort_sound ?_ | refine Dev_portDown_sound ?_
    | refine Dev_modPair_sound ?_ | refine Dev_loopsOff_sound ?_ | refine Dev_stopSheaves_sound ?_
    | refine Sound.foldl (fun _ _ _ => ?_) ?_

theorem Dev_adoptAxis_sound {d : Dev} {n : Nat} (h : Sound β ε d) : Sound β ε (Dev.adoptAxis d n) := by
  unfold Dev.adoptAxis
  with_reducible repeat' first
    | assumption | refine Dev_setAxis_sound ?_ | refine Dev_setSafe_sound ?_ | refine Dev_devSig_sound ?_
    | refine Dev_showState_sound ?_ | refine Dev_showSafe_sound ?_

theorem Dev_takeRole_sound {d : Dev} {swap : Bool} (h : Sound β ε d) : Sound β ε (Dev.takeRole d swap) := by
  unfold Dev.takeRole
  extract_lets d1 d2 d3 d4 d5 d6 faults counts adopt d7 seq r d8 d9 marked d10
  have h6 : Sound β ε d6 := Sound.foldl (fun _ _ => Dev_adoptAxis_sound) (Dev_incRegFld_sound (Dev_setReg_sound (Dev_setReg_sound
    (Dev_pairEvent_sound (Dev_modPair_sound h)))))
  have h7 : Sound β ε d7 := Dev_modIsland_sound h6
  have h8 : Sound β ε d8 := Sound.ite (h7.recorder (by rw [pendq_writeCheckpoint])) h7
  have h9 : Sound β ε d9 := Sound.foldl (fun _ _ => Dev_restartDoor_sound) h8
  have h10 : Sound β ε d10 :=
    Sound.ite (Sound.foldl (fun _ _ hx => Dev_sigHome_sound (Dev_countStore_sound hx)) h9) h8
  exact Sound.foldl (fun _ _ => Dev_beginLink_sound) h10

theorem Dev_pairCmdWrite_sound {d : Dev} {value : Word} (h : Sound β ε d) : Sound β ε (Dev.pairCmdWrite d value) := by
  unfold Dev.pairCmdWrite
  with_reducible repeat' first | assumption | refine Sound.ite ?_ ?_ | refine Dev_modPair_sound ?_

theorem Dev_swapCheck_sound {d : Dev} (h : Sound β ε d) : Sound β ε (Dev.swapCheck d) := by
  unfold Dev.swapCheck
  with_reducible repeat' first
    | assumption | refine Sound.ite ?_ ?_ | refine Dev_setReg_sound ?_ | refine Dev_setRegFld_sound ?_
    | refine Dev_modPair_sound ?_ | split

theorem Dev_pairCfgWrite_sound {d : Dev} {v : Word} (h : Sound β ε d) : Sound β ε (Dev.pairCfgWrite d v) := by
  unfold Dev.pairCfgWrite
  with_reducible repeat' first | assumption | refine Sound.ite ?_ ?_ | refine Dev_setReg_sound ?_

theorem Dev_pairRules_sound {d : Dev} {roleIn : Bool} (h : Sound β ε d) : Sound β ε (Dev.pairRules d roleIn) := by
  dsimp only [Dev.pairRules]
  with_reducible repeat' first
    | assumption | refine Sound.ite ?_ ?_ | refine Dev_incReg_sound ?_ | refine Dev_releaseDue_sound ?_
    | refine Dev_modPort_sound ?_ | refine Dev_beginLink_sound ?_ | refine Dev_modPair_sound ?_ | refine Dev_pairEvent_sound ?_
    | refine Dev_latchMirror_sound ?_ | refine Dev_latchStatusFrame_sound ?_ | refine Dev_enterStandby_sound ?_
    | refine Sound.foldl (fun _ _ _ => ?_) ?_ | exact Sound.mk (by assumption) | split

theorem Dev_pairBoundary_sound {d : Dev} {roleIn : Bool} (h : Sound β ε d) : Sound β ε (Dev.pairBoundary d roleIn) := by
  unfold Dev.pairBoundary
  with_reducible repeat' first | assumption | refine Dev_swapCheck_sound ?_ | refine Dev_pairRules_sound ?_

theorem Dev_modUpd_sound {d : Dev} {f : Update → Update} (h : Sound β ε d) : Sound β ε (Dev.modUpd d f) := by
  unfold Dev.modUpd
  with_reducible repeat' first | exact Sound.mk (by assumption)

theorem Dev_updCode_sound {d : Dev} {code : Nat} (h : Sound β ε d) : Sound β ε (Dev.updCode d code) := by
  unfold Dev.updCode
  with_reducible repeat' first | assumption | refine Sound.ite ?_ ?_ | refine Dev_orReg_sound ?_ | refine Dev_modUpd_sound ?_

theorem Dev_updEvent_sound {d : Dev} {code : Nat} (h : Sound β ε d) : Sound β ε (Dev.updEvent d code) := by
  unfold Dev.updEvent
  with_reducible repeat' first | assumption | refine Dev_event_sound ?_ | refine Dev_updCode_sound ?_

theorem Dev_updBegin_sound {d : Dev} (h : Sound β ε d) : Sound β ε (Dev.updBegin d).1 := by
  unfold Dev.updBegin
  with_reducible repeat' first
    | assumption | refine Sound.ite ?_ ?_ | refine Sound.ite1 ?_ ?_ | refine Dev_modUpd_sound ?_ | refine Dev_updEvent_sound ?_

theorem Dev_mapOps_sound {d : Dev} {a n : Nat} (h : Sound β ε d) : Sound β ε (Dev.mapOps d a n) := by
  unfold Dev.mapOps
  with_reducible repeat' first | assumption | refine Dev_dramBytes_sound ?_

theorem Dev_updFinish_sound {d : Dev} (h : Sound β ε d) : Sound β ε (Dev.updFinish d).1 := by
  dsimp only [Dev.updFinish]
  with_reducible repeat' first | assumption | refine Dev_modUpd_sound ?_ | refine Dev_mapOps_sound ?_ | split

theorem Dev_updAbort_sound {d : Dev} (h : Sound β ε d) : Sound β ε (Dev.updAbort d).1 := by
  unfold Dev.updAbort
  with_reducible repeat' first | assumption | refine Sound.ite1 ?_ ?_ | refine Dev_modUpd_sound ?_

theorem Dev_updCommand_sound {d : Dev} {value : Word} (h : Sound β ε d) : Sound β ε (Dev.updCommand d value) := by
  unfold Dev.updCommand
  with_reducible repeat' first
    | assumption | refine Sound.ite ?_ ?_ | refine Dev_setReg_sound ?_ | refine Dev_updCode_sound ?_
    | refine Dev_updBegin_sound ?_ | refine Dev_updFinish_sound ?_ | refine Dev_updAbort_sound ?_ | split

theorem Dev_updBlock_sound {d : Dev} {off : Nat} {data : List Byte} {programmed : Bool} (h : Sound β ε d) :
    Sound β ε (Dev.updBlock d off data programmed).1 := by
  dsimp only [Dev.updBlock]
  with_reducible repeat' first | assumption | refine Dev_modUpd_sound ?_ | refine Dev_mapOps_sound ?_ | split

theorem Dev_runSlot_sound {d : Dev} {i : Nat} {trial : Bool} (h : Sound β ε d) : Sound β ε (Dev.runSlot d i trial) := by
  dsimp only [Dev.runSlot]
  with_reducible repeat' first | refine Dev_modUpd_sound ?_ | exact Sound.mk (by assumption) | split

theorem Dev_copyAgain_sound {d : Dev} (h : Sound β ε d) : Sound β ε (Dev.copyAgain d).1 := by
  unfold Dev.copyAgain
  with_reducible repeat' first | assumption | refine Dev_nextFree_sound ?_

theorem Dev_copyFailed_sound {d : Dev} {i : Nat} (h : Sound β ε d) : Sound β ε (Dev.copyFailed d i) := by
  unfold Dev.copyFailed
  extract_lets d1
  have h1 : Sound β ε d1 := Dev_modUpd_sound (Dev_updEvent_sound h)
  split
  · exact h1.mk
  · extract_lets r
    have hr : Sound β ε r.1 := Dev_copyAgain_sound (Dev_modUpd_sound h1)
    split
    · exact Dev_runSlot_sound hr
    · exact (Dev_updEvent_sound hr).mk

theorem Dev_bootCurrent_sound {d : Dev} {copyOk : Bool} (h : Sound β ε d) : Sound β ε (Dev.bootCurrent d copyOk) := by
  unfold Dev.bootCurrent
  with_reducible repeat' first
    | refine Sound.ite ?_ ?_ | refine Dev_runSlot_sound ?_ | refine Dev_copyFailed_sound ?_ | exact Sound.mk (by assumption)

theorem Dev_bootAgain_sound {d : Dev} (h : Sound β ε d) : Sound β ε (Dev.bootAgain d) := by
  unfold Dev.bootAgain
  with_reducible repeat' first | assumption | refine Dev_copyAgain_sound ?_ | refine Dev_bootCurrent_sound ?_

theorem Dev_fallback_sound {d : Dev} (h : Sound β ε d) : Sound β ε (Dev.fallback d) := by
  unfold Dev.fallback
  with_reducible repeat' first | assumption | refine Dev_modUpd_sound ?_ | refine Dev_updEvent_sound ?_

theorem Dev_bootImage_sound {d : Dev} {copyOk : Bool} (h : Sound β ε d) : Sound β ε (Dev.bootImage d copyOk) := by
  dsimp only [Dev.bootImage]
  with_reducible repeat' first
    | refine Dev_modUpd_sound ?_ | refine Dev_updEvent_sound ?_ | refine Dev_runSlot_sound ?_ | refine Dev_copyFailed_sound ?_
    | refine Dev_bootCurrent_sound ?_ | refine Dev_bootAgain_sound ?_ | refine Dev_fallback_sound ?_
    | exact Sound.mk (by assumption) | split

theorem Dev_postConfirm_sound {d : Dev} {system : Bool} (h : Sound β ε d) : Sound β ε (Dev.postConfirm d system).1 := by
  unfold Dev.postConfirm
  with_reducible repeat' first | assumption | refine Sound.ite1 ?_ ?_ | refine Dev_modUpd_sound ?_

theorem Dev_readRegLatch_sound {d : Dev} {a : Nat} (h : Sound β ε d) : Sound β ε (Dev.readRegLatch d a).1 :=
  Sound.ite h.mk h

theorem Dev_axCfgWrite_sound {d : Dev} {n : Nat} {value : Word} (h : Sound β ε d) : Sound β ε (Dev.axCfgWrite d n value) := by
  unfold Dev.axCfgWrite
  with_reducible repeat' first | assumption | refine Sound.ite ?_ ?_ | refine Dev_setReg_sound ?_ | refine Dev_modMotion_sound ?_

theorem Dev_hostCfgsave_sound {d : Dev} {value : Word} (h : Sound β ε d) : Sound β ε (Dev.hostCfgsave d value) :=
  have hs (v : Word) : Sound β ε (d.setReg Adr.hostCfgstat v) := Dev_setReg_sound h
  Sound.ite h (Sound.ite ((hs 0).host rfl rfl) (hs _))

theorem Dev_hostWdcfg_sound {d : Dev} {value : Word} (h : Sound β ε d) : Sound β ε (Dev.hostWdcfg d value) :=
  have hs : Sound β ε (d.setReg Adr.hostWdcfg (wordOfNat (fld value 0 16))) := Dev_setReg_sound h
  Sound.ite (hs.host rfl rfl) h

theorem Dev_canCtrlWrite_sound {d : Dev} {c : Nat} {value : Word} (h : Sound β ε d) : Sound β ε (Dev.canCtrlWrite d c value) := by
  unfold Dev.canCtrlWrite
  with_reducible repeat' first
    | assumption | refine Sound.ite ?_ ?_ | refine Dev_setReg_sound ?_ | refine Dev_setCan_sound ?_
    | refine Dev_canEnable_sound ?_ | refine Dev_canDisable_sound ?_

theorem Dev_canWrite_sound {d : Dev} {a : Nat} {value : Word} {z : Dev} (e : Dev.canWrite d a value = some z)
    (h : Sound β ε d) : Sound β ε z := by
  unfold Dev.canWrite at e
  extract_lets c o at e
  clear_value o c
  by_cases h1 : o = 0x0
  · rw [if_pos h1] at e; exact Option.some.inj e ▸ Dev_canCtrlWrite_sound h
  rw [if_neg h1] at e
  by_cases h2 : o = 0x10
  · rw [if_pos h2] at e; exact Option.some.inj e ▸ Dev_canRecover_sound h
  rw [if_neg h2] at e
  split at e
  · exact Option.some.inj e ▸ Dev_canTiming_sound h
  split at e
  · exact Option.some.inj e ▸ Dev_canObjectWrite_sound h
  exact absurd e nofun

theorem Dev_plcCtrlWrite_sound {d : Dev} {value : Word} (h : Sound β ε d) : Sound β ε (Dev.plcCtrlWrite d value) := by
  dsimp only [Dev.plcCtrlWrite]
  with_reducible repeat' first | assumption | refine Dev_setReg_sound ?_ | refine Dev_modPlacer_sound ?_ | split

theorem Dev_trcCfgWrite_sound {d : Dev} {value : Word} (h : Sound β ε d) : Sound β ε (Dev.trcCfgWrite d value) := by
  unfold Dev.trcCfgWrite
  with_reducible repeat' first
    | assumption | refine Sound.ite ?_ ?_ | refine Dev_setReg_sound ?_ | refine Dev_flushBranches_sound ?_

theorem Dev_writeAction_sound {d : Dev} {a : Nat} {value : Word} {z : Dev} (e : Dev.writeAction d a value = some z)
    (h : Sound β ε d) : Sound β ε z := by
  have inj {v : Dev} (e : some v = some z) (hv : Sound β ε v) : Sound β ε z := Option.some.inj e ▸ hv
  unfold Dev.writeAction at e
  rcases ite_eq_iff.1 e with ⟨-, e⟩ | ⟨-, e⟩
  · exact inj e (Dev_axCfgWrite_sound h)
  rcases ite_eq_iff.1 e with ⟨-, e⟩ | ⟨-, e⟩
  · exact inj e (Dev_strCommand_sound h)
  rcases ite_eq_iff.1 e with ⟨-, e⟩ | ⟨-, e⟩
  · exact inj e h.mk
  rcases ite_eq_iff.1 e with ⟨-, e⟩ | ⟨-, e⟩
  · exact inj e (Dev_setRegFld_sound h)
  rcases ite_eq_iff.1 e with ⟨-, e⟩ | ⟨-, e⟩
  · exact inj e (Dev_safCmdWrite_sound h)
  rcases ite_eq_iff.1 e with ⟨-, e⟩ | ⟨-, e⟩
  · exact inj e (Dev_safUnlockWrite_sound h)
  rcases ite_eq_iff.1 e with ⟨-, e⟩ | ⟨-, e⟩
  · exact inj e (Dev_safWrite_sound h)
  rcases ite_eq_iff.1 e with ⟨-, e⟩ | ⟨-, e⟩
  · exact inj e (Dev_fldWrite_sound h)
  rcases ite_eq_iff.1 e with ⟨-, e⟩ | ⟨-, e⟩
  · exact Dev_canWrite_sound e h
  rcases ite_eq_iff.1 e with ⟨-, e⟩ | ⟨-, e⟩
  · exact inj e (Dev_hostCfgsave_sound h)
  rcases ite_eq_iff.1 e with ⟨-, e⟩ | ⟨-, e⟩
  · exact inj e (Dev_hostWdcfg_sound h)
  rcases ite_eq_iff.1 e with ⟨-, e⟩ | ⟨-, e⟩
  · exact inj e (Dev_anchorCommand_sound h)
  rcases ite_eq_iff.1 e with ⟨-, e⟩ | ⟨-, e⟩
  · exact inj e (Dev_keyCommand_sound h)
  rcases ite_eq_iff.1 e with ⟨-, e⟩ | ⟨-, e⟩
  · exact inj e (h.recorder rfl)
  rcases ite_eq_iff.1 e with ⟨-, e⟩ | ⟨-, e⟩
  · exact inj e (Dev_updCommand_sound h)
  rcases ite_eq_iff.1 e with ⟨-, e⟩ | ⟨-, e⟩
  · exact inj e (Dev_trcCommand_sound h)
  rcases ite_eq_iff.1 e with ⟨-, e⟩ | ⟨-, e⟩
  · exact inj e (Dev_trcCfgWrite_sound h)
  rcases ite_eq_iff.1 e with ⟨-, e⟩ | ⟨-, e⟩
  · exact inj e (Dev_pairCfgWrite_sound h)
  rcases ite_eq_iff.1 e with ⟨-, e⟩ | ⟨-, e⟩
  · exact inj e (Dev_pairCmdWrite_sound h)
  rcases ite_eq_iff.1 e with ⟨-, e⟩ | ⟨-, e⟩
  · exact inj e (Dev_modPlacer_sound h)
  rcases ite_eq_iff.1 e with ⟨-, e⟩ | ⟨-, e⟩
  · exact inj e (Dev_plcCtrlWrite_sound h)
  exact absurd e nofun

theorem Dev_writeReg_sound {d : Dev} {a : Nat} {value : Word} (h : Sound β ε d) : Sound β ε (Dev.writeReg d a value) := by
  unfold Dev.writeReg
  with_reducible repeat' first
    | assumption | exact Dev_writeAction_sound ‹_› ‹_› | refine Dev_setReg_sound ?_ | split

theorem Dev_axControl_sound {d : Dev} {c axis slot : Nat} {v : Word} (h : Sound β ε d) : Sound β ε (Dev.axControl d c axis slot v) := by
  unfold Dev.axControl
  with_reducible repeat' first | assumption | refine Sound.ite ?_ ?_ | refine Dev_sigHome_sound ?_ | refine Dev_modCycle_sound ?_

theorem Dev_modHost_sound {d : Dev} {f : HostUnit → HostUnit} (hx : (f d.host).executing = d.host.executing)
    (hq : (f d.host).queue = d.host.queue) (h : Sound β ε d) : Sound β ε (Dev.modHost d f) :=
  h.host hx hq

@[simp] theorem executing_seen (x : HostUnit) (port now : Nat) : (x.seen port now).executing = x.executing := by
  unfold HostUnit.seen; split <;> rfl

@[simp] theorem queue_seen (x : HostUnit) (port now : Nat) : (x.seen port now).queue = x.queue := by
  unfold HostUnit.seen; split <;> rfl

theorem Dev_frameSeen_sound {d : Dev} {port : Nat} (h : Sound β ε d) : Sound β ε (Dev.frameSeen d port) :=
  Dev_modHost_sound (executing_seen ..) (queue_seen ..) h

theorem Dev_frameCame_sound {d : Dev} {port : Nat} (h : Sound β ε d) : Sound β ε (Dev.frameCame d port) := by
  unfold Dev.frameCame
  with_reducible repeat' first | assumption | refine Sound.ite ?_ ?_ | refine Dev_frameSeen_sound ?_

theorem Dev_sendVhp_sound {d : Dev} {port : Nat} {mac : BitVec 48} {ip : Word} {udp : BitVec 16} {bytes : List Byte}
    (h : Sound β ε d) : Sound β ε (Dev.sendVhp d port mac ip udp bytes) :=
  Dev_modHost_sound rfl rfl (Dev_frameSeen_sound h)

theorem Dev_vhpReply_sound {d : Dev} {q : VReq} {status : Nat} {payload : List Byte} {frame : Word} (h : Sound β ε d) :
    Sound β ε (Dev.vhpReply d q status payload frame) :=
  Sound.foldl (fun _ _ => Dev_sendVhp_sound) (Dev_modHost_sound rfl rfl h)

/-- A request that is answered leaves the queue, and no request is executing then. -/
theorem Dev_respond_sound {d : Dev} {q : VReq} {status : Nat} {payload : List Byte} {frame : Word} (h : Sound β ε d) :
    Sound β false (Dev.respond d q status payload frame) := by
  have hr : Sound β ε (d.vhpReply q status payload frame) := Dev_vhpReply_sound h
  have hq (b : β) : ((d.vhpReply q status payload frame).host.queue.drop 1).length ≤ 32 :=
    (List.length_drop ▸ Nat.sub_le _ _).trans (hr.queue b)
  exact Dev_countEvent_sound (Dev_incReg_sound ⟨rfl, hr.pendq, hq, hr.promos, hr.fifo, hr.buffer⟩)

/-- A request joins the queue only where fewer than 32 wait (R319). -/
theorem Dev_vhpNew_sound {d : Dev} {q : VReq} (h : Sound β ε d) : Sound β ε (Dev.vhpNew d q) := by
  unfold Dev.vhpNew
  extract_lets e d1 a d2 c
  have h1 : Sound β ε d1 := Dev_modHost_sound rfl rfl h
  have h2 : Sound β ε d2 := Dev_modHost_sound rfl rfl h1
  split
  · exact Dev_vhpReply_sound h1
  · next hroom =>
    refine Sound.ite (Dev_vhpReply_sound h1) (Sound.ite (Dev_vhpReply_sound h2) ?_)
    have hq (_ : β) : (d1.host.queue ++ [q]).length ≤ 32 := by rw [List.length_append]; exact not_le.1 hroom
    exact ⟨h2.executing, h2.pendq, hq, h2.promos, h2.fifo, h2.buffer⟩

theorem Dev_vhpRepeat_sound {d : Dev} {q : VReq} {x : Held} (h : Sound β ε d) : Sound β ε (Dev.vhpRepeat d q x) := by
  unfold Dev.vhpRepeat
  extract_lets d1
  have h1 : Sound β ε d1 := Dev_modHost_sound rfl rfl h
  refine Sound.ite (Dev_sendVhp_sound h1) ?_
  split
  · exact Dev_sendVhp_sound h1
  · exact ⟨h1.executing, h1.pendq, fun b => by simpa [Dev.modHost, HostUnit.copyOn] using h1.queue b, h1.promos, h1.fifo, h1.buffer⟩

theorem Dev_vhpReceive_sound {d : Dev} {port : Nat} {mac : BitVec 48} {ip : Word} {udp : BitVec 16} {bytes : List Byte}
    (h : Sound β ε d) : Sound β ε (Dev.vhpReceive d port mac ip udp bytes) := by
  unfold Dev.vhpReceive
  with_reducible repeat' first
    | assumption | refine Sound.ite ?_ ?_ | refine Dev_incReg_sound ?_ | refine Dev_sendVhp_sound ?_
    | refine Dev_vhpNew_sound ?_ | refine Dev_vhpRepeat_sound ?_ | split

theorem Dev_wipeDram_sound {d : Dev} (h : Sound β ε d) : Sound β ε (Dev.wipeDram d) :=
  ⟨h.executing, h.pendq, h.queue, h.promos, h.fifo, fun _ => rfl⟩

theorem Dev_roastTestNow_sound {d : Dev} (h : Sound β ε d) : Sound β ε (Dev.roastTestNow d).1 :=
  Sound.ite (Dev_wipeDram_sound h.mk) h.mk

theorem Dev_vhpRun_sound {d : Dev} {q : VReq} {f : Dev → VReq → Dev × Nat × List Byte} (hf : ∀ x, Sound β ε x → Sound β ε (f x q).1)
    (h : Sound β ε d) : Sound β false (Dev.vhpRun d q f) :=
  Sound.ite (Dev_respond_sound h) (Dev_respond_sound (hf _ h))

theorem Dev_vhpRegRead_sound {d : Dev} {q : VReq} (h : Sound β ε d) : Sound β ε (Dev.vhpRegRead d q).1 := by
  unfold Dev.vhpRegRead
  with_reducible repeat' first
    | assumption | refine Sound.ite1 ?_ ?_ | refine Dev_readRegLatch_sound ?_ | refine Sound.foldl1 (fun _ _ _ => ?_) ?_

theorem Dev_vhpRegWrite_sound {d : Dev} {q : VReq} (h : Sound β ε d) : Sound β ε (Dev.vhpRegWrite d q).1 := by
  unfold Dev.vhpRegWrite
  with_reducible repeat' first
    | assumption | refine Sound.ite1 ?_ ?_ | refine Dev_writeReg_sound ?_ | refine Sound.foldl (fun _ _ _ => ?_) ?_

theorem Dev_vhpIdent_sound {d : Dev} {u9 : VReq} (h : Sound β ε d) : Sound β ε (Dev.vhpIdent d u9).1 := by
  unfold Dev.vhpIdent
  with_reducible repeat' first | assumption

theorem Dev_vhpCommission_sound {d : Dev} {q : VReq} (h : Sound β ε d) : Sound β ε (Dev.vhpCommission d q).1 := by
  unfold Dev.vhpCommission
  with_reducible repeat' first | assumption | refine Dev_commission_sound ?_

theorem Dev_vhpSigRead_sound {d : Dev} {q : VReq} (h : Sound β ε d) : Sound β ε (Dev.vhpSigRead d q).1 := by
  unfold Dev.vhpSigRead
  with_reducible repeat' first
    | assumption | refine Sound.ite ?_ ?_ | refine Dev_countStore_sound ?_ | refine Sound.foldl (fun _ _ _ => ?_) ?_

theorem Dev_hostWrite_sound {d : Dev} {n : Nat} {v : Word} {valid : Bool} (h : Sound β ε d) :
    Sound β ε (Dev.hostWrite d n v valid).1 := by
  unfold Dev.hostWrite
  with_reducible repeat' first
    | refine Sound.ite ?_ ?_ | refine Sound.ite1 ?_ ?_ | refine Dev_countStore_sound ?_ | refine Dev_sigStore_sound ?_
    | exact Sound.mk (by assumption)

theorem Dev_hostForce_sound {d : Dev} {n : Nat} {v : Word} (h : Sound β ε d) : Sound β ε (Dev.hostForce d n v).1 := by
  dsimp only [Dev.hostForce]
  with_reducible repeat' first
    | assumption | refine Dev_countStore_sound ?_ | refine Dev_setSig_sound ?_ | refine Dev_sigStore_sound ?_
    | refine Dev_hide_sound ?_ | refine Dev_canRequest_sound ?_ | split

theorem Dev_hostRelease_sound {d : Dev} {n : Nat} (h : Sound β ε d) : Sound β ε (Dev.hostRelease d n).1 := by
  unfold Dev.hostRelease
  with_reducible repeat' first
    | assumption | refine Sound.ite1 ?_ ?_ | refine Dev_countStore_sound ?_ | refine Dev_setSig_sound ?_

theorem Dev_hostEntry_sound {d : Dev} {mode : Nat} {e9 : Nat × Word} (h : Sound β ε d) : Sound β ε (Dev.hostEntry d mode e9).1 := by
  unfold Dev.hostEntry
  with_reducible repeat' first
    | assumption | refine Dev_hostWrite_sound ?_ | refine Dev_hostForce_sound ?_ | refine Dev_hostRelease_sound ?_ | split

theorem Dev_vhpSigWrite_sound {d : Dev} {q : VReq} (h : Sound β ε d) : Sound β ε (Dev.vhpSigWrite d q).1 := by
  unfold Dev.vhpSigWrite
  extract_lets mode start r b
  have hr : Sound β ε r.dev := by
    refine Sound.foldlOn SigRun.dev (fun x e hx => ?_) (show Sound β ε start.dev from h)
    dsimp only
    split
    · exact hx
    · exact Dev_hostEntry_sound hx
  have hb : Sound β ε b := Sound.foldl (fun _ _ => Dev_fireTriggers_sound) hr
  split <;> exact hb

theorem Dev_nodeRequest_sound {d : Dev} {p node btype : Nat} {data : List Byte} (h : Sound β ε d) :
    Sound β ε (Dev.nodeRequest d p node btype data).1 := by
  unfold Dev.nodeRequest
  with_reducible repeat' first | assumption | refine Sound.ite1 ?_ ?_ | refine Dev_hostMessage_sound ?_

theorem Dev_takeReplies_sound {d : Dev} {p node n : Nat} (h : Sound β ε d) : Sound β ε (Dev.takeReplies d p node n) := by
  unfold Dev.takeReplies
  with_reducible repeat' first | assumption | refine Dev_dropReplies_sound ?_

theorem Dev_nodeRead_sound {d : Dev} {p node : Nat} (h : Sound β ε d) : Sound β ε (Dev.nodeRead d p node).1 := by
  dsimp only [Dev.nodeRead]
  with_reducible repeat' first
    | assumption | refine Dev_modPort_sound ?_ | refine Dev_modNode_sound ?_ | refine Dev_takeReplies_sound ?_ | split

theorem Dev_modSys_sound {d : Dev} {f : Sys → Sys} (h : Sound β ε d) : Sound β ε (Dev.modSys d f) := h.mk

theorem Dev_showPower_sound {d : Dev} (h : Sound β ε d) : Sound β ε (Dev.showPower d) := by
  unfold Dev.showPower
  with_reducible repeat' first | assumption | refine Dev_devSig_sound ?_

theorem Dev_answerState_sound {d : Dev} {q : VReq} {status : Nat} {state : Power} {frame : Word} (h : Sound β ε d) :
    Sound β false (Dev.answerState d q status state frame) :=
  Dev_respond_sound (Dev_setReg_sound h)

/-- Only a request that is executing is answered. -/
theorem Dev_answerFront_sound {d : Dev} {status : Nat} {state : Power} (h : Sound β ε d) :
    Sound β false (Dev.answerFront d status state) ∨ d.host.queue = [] ∧ Dev.answerFront d status state = d := by
  cases hq : d.host.queue with
  | nil => exact .inr ⟨rfl, by simp [Dev.answerFront, hq]⟩
  | cons q l =>
    left
    simp only [Dev.answerFront, hq]
    split
    · exact Dev_answerState_sound h
    · next hx => exact Bool.eq_false_iff.2 hx ▸ h.executing ▸ h

theorem Dev_holdFront_sound {d : Dev} (h : Sound β ε d) : Sound β true (Dev.holdFront d) :=
  ⟨rfl, h.pendq, h.queue, h.promos, h.fifo, h.buffer⟩

theorem Dev_motionCheckAll_sound {d : Dev} (h : Sound β ε d) : Sound β ε (Dev.motionCheckAll d).1 := by
  unfold Dev.motionCheckAll
  with_reducible repeat' first
    | assumption | refine Dev_setReg_sound ?_ | refine Dev_orReg_sound ?_ | refine Dev_devNat_sound ?_
    | refine Sound.foldl (fun _ _ _ => ?_) ?_

theorem Dev_runChecks_sound {d : Dev} (h : Sound β ε d) : Sound β ε (Dev.runChecks d).1 := by
  unfold Dev.runChecks
  with_reducible repeat' first
    | assumption | refine Sound.ite1 ?_ ?_ | refine Dev_estimCheckAll_sound ?_ | refine Dev_placeImage_sound ?_
    | refine Dev_motionCheckAll_sound ?_

theorem Dev_startRound_sound {d : Dev} {c : Nat} (h : Sound β ε d) : Sound β ε (Dev.startRound d c) := by
  unfold Dev.startRound
  with_reducible repeat' first
    | assumption | refine Dev_setCore_sound ?_ | refine Dev_setTask_sound ?_ | refine Dev_countEvent_sound ?_
    | refine Dev_primeTask_sound ?_ | refine Sound.foldl (fun _ _ _ => ?_) ?_

theorem Dev_coarseReleases_sound {d : Dev} (h : Sound β ε d) : Sound β ε (Dev.coarseReleases d) := by
  unfold Dev.coarseReleases
  with_reducible repeat' first
    | assumption | refine Sound.ite ?_ ?_ | refine Dev_releaseCoarse_sound ?_ | refine Sound.foldl (fun _ _ _ => ?_) ?_

theorem Dev_loadConfig_sound {d : Dev} {im : Image} (h : Sound β ε d) : Sound β ε (Dev.loadConfig d im) := by
  unfold Dev.loadConfig
  with_reducible repeat' first
    | assumption | refine Sound.ite ?_ ?_ | refine Dev_setReg_sound ?_ | refine Dev_modMotion_sound ?_
    | refine Dev_canObjectWrite_sound ?_ | refine Dev_hostWdcfg_sound ?_ | refine Dev_canCtrlWrite_sound ?_
    | refine Sound.foldl (fun _ _ _ => ?_) ?_

theorem Dev_loadParams_sound {d : Dev} {im : Image} (h : Sound β ε d) : Sound β ε (Dev.loadParams d im) := by
  unfold Dev.loadParams
  with_reducible repeat' first | assumption | refine Dev_setSig_sound ?_ | refine Sound.foldl (fun _ _ _ => ?_) ?_

/-- Where the host ports stop, no request waits. -/
theorem Dev_portsStop_host_sound {d : Dev} (h : Sound β ε d) : Sound β false (Dev.portsStop d true) :=
  ⟨rfl, h.pendq, fun _ => Nat.zero_le _, h.promos, h.fifo, h.buffer⟩

theorem Dev_portsStop_sound {d : Dev} (h : Sound β ε d) : Sound β ε (Dev.portsStop d false) :=
  ⟨h.executing, h.pendq, h.queue, h.promos, h.fifo, h.buffer⟩

theorem Dev_commitAll_sound {d : Dev} (h : Sound β ε d) : Sound β ε (Dev.commitAll d) := by
  unfold Dev.commitAll
  with_reducible repeat' first | assumption | refine Dev_commitRecord_sound ?_ | refine Sound.foldl (fun _ _ _ => ?_) ?_

theorem Dev_roastResult_sound {d : Dev} {result code test : Nat} {map ms : Nat} (h : Sound β ε d) :
    Sound β ε (Dev.roastResult d result code test map ms) := by
  unfold Dev.roastResult
  with_reducible repeat' first | assumption | refine Dev_setReg_sound ?_

theorem Dev_sendRaw_sound {d : Dev} {port kind : Nat} {mac : BitVec 48} {ip : Word} {bytes : List Byte} (h : Sound β ε d) :
    Sound β ε (Dev.sendRaw d port kind mac ip bytes) :=
  Dev_modHost_sound rfl rfl (Dev_frameSeen_sound h)

theorem Dev_tgReceive_sound {d : Dev} {p stamp : Nat} {bytes : List Byte} (h : Sound β ε d) :
    Sound β ε (Dev.tgReceive d p stamp bytes) :=
  Sound.ite (Dev_incReg_sound h) (Sound.ite (Dev_eventRep_sound (Dev_orReg_sound (Dev_incReg_sound h)))
    (Dev_modHost_sound (by split <;> rfl) (by split <;> rfl) h))

theorem Dev_lateStops_sound {d : Dev} {n : Nat} (h : Sound β ε d) : Sound β ε (Dev.lateStops d n) := by
  unfold Dev.lateStops
  extract_lets dir late
  split
  · exact Dev_takeStops_sound (Dev_edgeAtTakeup_sound ‹_› h)
  · exact Dev_takeStops_sound h

theorem Dev_motionTakeup_sound {d : Dev} {n : Nat} (h : Sound β ε d) : Sound β ε (Dev.motionTakeup d n) := by
  unfold Dev.motionTakeup
  with_reducible repeat' first
    | assumption | refine Sound.ite ?_ ?_ | refine Dev_modMotion_sound ?_ | refine Dev_takeStops_sound ?_
    | refine Dev_homeChecks_sound ?_ | refine Dev_takeRequests_sound ?_ | refine Dev_lateStops_sound ?_

theorem Dev_motionFrame_sound {d d0 : Dev} {n : Nat} (h : Sound β ε d) : Sound β ε (Dev.motionFrame d d0 n) := by
  unfold Dev.motionFrame
  with_reducible repeat' first
    | assumption | refine Dev_axisRestore_sound ?_ | refine Dev_advance_sound ?_ | refine Dev_publishAxis_sound ?_
    | refine Dev_motionTakeup_sound ?_

theorem Dev_closeFrame_sound {d : Dev} (h : Sound β ε d) : Sound β ε (Dev.closeFrame d) := by
  unfold Dev.closeFrame
  with_reducible repeat' first
    | assumption | refine Sound.ite ?_ ?_ | refine Dev_modMotion_sound ?_ | refine Dev_copySummary_sound ?_
    | refine Dev_showState_sound ?_ | refine Dev_estimate_sound ?_ | refine Dev_observeMove_sound ?_
    | refine Dev_doorFrames_sound ?_ | refine Dev_endMove_sound ?_ | refine Dev_monitors_sound ?_
    | refine Dev_motionFrame_sound ?_ | refine Sound.foldl (fun _ _ _ => ?_) ?_

theorem Dev_flushFaults_sound {d : Dev} {c : Nat} (h : Sound β ε d) : Sound β ε (Dev.flushFaults d c) := by
  unfold Dev.flushFaults
  with_reducible repeat' first
    | assumption | refine Sound.ite ?_ ?_ | refine Dev_setCore_sound ?_ | refine Dev_event_sound ?_
    | refine Sound.foldl (fun _ _ _ => ?_) ?_

theorem Dev_closeTick_sound {d : Dev} (h : Sound β ε d) : Sound β ε (Dev.closeTick d) := by
  unfold Dev.closeTick
  with_reducible repeat' first | refine Dev_modPlacer_sound ?_ | exact Sound.mk (by assumption)

theorem Dev_openCore_sound {d : Dev} {c : Nat} (h : Sound β ε d) : Sound β ε (Dev.openCore d c) := by
  unfold Dev.openCore
  with_reducible repeat' first
    | assumption | refine Dev_setCore_sound ?_ | refine Dev_preempt_sound ?_ | refine Dev_drainPosts_sound ?_

theorem Dev_extendRound_sound {d : Dev} {c : Nat} (h : Sound β ε d) : Sound β ε (Dev.extendRound d c) := by
  unfold Dev.extendRound
  with_reducible repeat' first | assumption | refine Sound.ite ?_ ?_ | refine Dev_orReg_sound ?_ | refine Dev_setCore_sound ?_

theorem Dev_openRound_sound {d : Dev} {c : Nat} (h : Sound β ε d) : Sound β ε (Dev.openRound d c) := by
  unfold Dev.openRound
  with_reducible repeat' first
    | assumption | refine Sound.ite ?_ ?_ | refine Dev_wakeFrame_sound ?_ | refine Dev_startRound_sound ?_
    | refine Dev_extendRound_sound ?_

end Sys2Proof.Proofs
end

section
/-! SUPPORT. The commands that leave the power states alone: each answers a next state, keeps the queues within their bounds and the
execution of the front request, and leaves of the system's state what only frames, power states, starts and resets change. -/

namespace Sys2Proof.Proofs

open Sys2Proof.Machine Sys2Proof.Safety

/-- From one module to another, the bounds of the queues, the execution of the front request and the system's state are kept. -/
structure Calm (d d' : Dev) : Prop where
  sound : ∀ {β ε}, Sound β ε d → Sound β ε d'
  kept : ∀ {σ}, Kept σ d → Kept σ d'

/-- A command answers a next state, with the same commands waiting and calmly. -/
def Quiet (s : State) (o : Host.Outcome State Fault Refusal) : Prop := ∃ d, o = .next { s with dev := d } ∧ Calm s.dev d

theorem Calm.refl (d : Dev) : Calm d d := ⟨id, id⟩

variable {s : State}

theorem Quiet.same : Quiet s (.next s) := ⟨s.dev, rfl, .refl _⟩

theorem Quiet.next {d : Dev} (h : Calm s.dev d) : Quiet s (.next { s with dev := d }) := ⟨d, rfl, h⟩

theorem Quiet.ite {c : Prop} [Decidable c] {a b : Host.Outcome State Fault Refusal} (ha : Quiet s a) (hb : Quiet s b) :
    Quiet s (if c then a else b) := by
  split <;> assumption

@[simp] theorem executing_setLink (x : HostUnit) (port : Nat) (up fdx : Bool) : (x.setLink port up fdx).executing = x.executing := by
  unfold HostUnit.setLink; split <;> rfl

@[simp] theorem queue_setLink (x : HostUnit) (port : Nat) (up fdx : Bool) : (x.setLink port up fdx).queue = x.queue := by
  unfold HostUnit.setLink; split <;> rfl

/-! ### Instructions of a core -/

theorem taskFault_calm (d : Dev) (c t code count : Nat) : Calm d (d.taskFault c t code count) :=
  ⟨Dev_taskFault_sound, Dev_taskFault_kept⟩

theorem orReg_calm (d : Dev) (a : Nat) (v : Word) : Calm d (d.orReg a v) := ⟨Dev_orReg_sound, Dev_orReg_kept⟩

theorem Calm.trans {d d' d'' : Dev} (h : Calm d d') (h' : Calm d' d'') : Calm d d'' :=
  ⟨fun x => h'.sound (h.sound x), fun x => h'.kept (h.kept x)⟩

theorem badWord_calm (d : Dev) (core : CoreId) (ecc : Bool) : Calm d (d.badWord core ecc) := by
  dsimp only [Dev.badWord]
  split
  · exact .refl d
  split
  · exact .refl d
  split
  · exact taskFault_calm ..
  split
  · refine .trans ?_ (taskFault_calm ..)
    split
    · exact orReg_calm ..
    · exact .refl d
  split
  · exact taskFault_calm ..
  · exact .refl d

theorem eccCorrected_calm (d : Dev) (c : Nat) : Calm d (d.eccCorrected c) := by
  unfold Dev.eccCorrected
  split
  · exact ⟨fun h => Dev_orReg_sound (Dev_incReg_sound h), fun h => Dev_orReg_kept (Dev_incReg_kept h)⟩
  · exact .refl d

theorem eccSlot_calm (d : Dev) (c axis : Nat) : Calm d (d.eccSlot c axis) := by
  unfold Dev.eccSlot
  split
  · exact ⟨fun h => Dev_event_sound (Dev_raiseStop_sound (Dev_orReg_sound h)),
      fun h => Dev_event_kept (Dev_raiseStop_kept (Dev_orReg_kept h))⟩
  · exact .refl d

theorem execUndefinedEncoding_quiet {core : CoreId} {ecc : EccError} : Quiet s (execUndefinedEncoding core ecc s) := by
  refine Quiet.next ?_
  cases ecc with
  | absent => exact badWord_calm ..
  | task => exact badWord_calm ..
  | corrected =>
    dsimp only
    split
    · exact eccCorrected_calm ..
    · exact .refl _
  | slot axis =>
    dsimp only
    split
    · exact eccSlot_calm ..
    · exact .refl _

/-- An effect of an instruction is calm. -/
def CalmEffect (e : Effect) : Prop := (∀ {β ε}, EffectSound β ε e) ∧ ∀ {σ}, e.Kept σ

theorem quiet_execInstr {core : CoreId} {i : Instr} {body : Nat → Task → Effect} (h : ∀ t x, CalmEffect (body t x)) :
    Quiet s (execInstr core i s body) :=
  Quiet.next ⟨Dev_instr_sound fun t x => (h t x).1, Dev_instr_kept fun t x => (h t x).2⟩

theorem fault_calm (code : Nat) : CalmEffect (.fault code) := ⟨trivial, trivial⟩

theorem done_calm (n : Nat) (x : Task) {eff : Dev → Dev} (h : ∀ d, Calm d (eff d)) : CalmEffect (.done n x eff) :=
  ⟨fun d => (h d).sound, fun d => (h d).kept⟩

theorem regs_calm (n : Nat) (x : Task) : CalmEffect (.regs n x) := done_calm _ _ Calm.refl

theorem refused_calm (n : Nat) (x : Task) (sub : Reg) (status : Nat) : CalmEffect (.refused n x sub status) :=
  done_calm _ _ Calm.refl

theorem service_calm (n : Nat) (x : Task) (sub : Reg) (status : Nat) (r : Word) {eff : Dev → Dev} (h : ∀ d, Calm d (eff d)) :
    CalmEffect (.service n x sub status r eff) :=
  done_calm _ _ h

theorem CalmEffect.ite {c : Prop} [Decidable c] {a b : Effect} (ha : CalmEffect a) (hb : CalmEffect b) :
    CalmEffect (if c then a else b) := by
  split <;> assumption

theorem branchEffect_calm {c : Nat} {code : List Word} {cond : BitVec 4} {off : BitVec 21} {link : Bool} {x : Task} :
    CalmEffect (branchEffect c code cond off link x) :=
  .ite (.ite (done_calm _ _ fun _ => ⟨Dev_traceBranch_sound, Dev_traceBranch_kept⟩) (fault_calm _))
    (done_calm _ _ fun _ => ⟨Dev_traceBranch_sound, Dev_traceBranch_kept⟩)

theorem jumpEffect_calm {c : Nat} {code : List Word} {a : Reg} {link : Bool} {x : Task} : CalmEffect (jumpEffect c code a link x) :=
  .ite (done_calm _ _ fun _ => ⟨Dev_flowPacket_sound, Dev_flowPacket_kept⟩) (fault_calm _)

theorem stopTask_calm (d : Dev) (c t : Nat) (st : TaskSt) (event : Nat) : Calm d (d.stopTask c t st event) :=
  ⟨fun h => Dev_choose_sound (Dev_traceTask_sound (Sound.ite (Dev_setCore_sound (Dev_leave_sound h)) (Dev_leave_sound h))),
    fun h => Dev_choose_kept (Dev_traceTask_kept (Kept.ite (Dev_setCore_kept (Dev_leave_kept h)) (Dev_leave_kept h)))⟩

theorem yieldTask_calm (d : Dev) (c t : Nat) : Calm d (d.yieldTask c t) :=
  .trans ⟨fun h => Dev_setTask_sound (Dev_takeOrd_sound h), fun h => Dev_setTask_kept (Dev_takeOrd_kept h)⟩ (stopTask_calm ..)

theorem endEffect_calm {c t : Nat} {x : Task} : CalmEffect (endEffect c t x) :=
  done_calm _ _ fun _ => stopTask_calm ..

theorem yieldEffect_calm {c t : Nat} {x : Task} : CalmEffect (yieldEffect c t x) :=
  .ite (done_calm _ _ fun _ => yieldTask_calm ..) (fault_calm _)

theorem waitEffect_calm {c t : Nat} {st : TaskSt} {x : Task} : CalmEffect (waitEffect c t st x) :=
  .ite (done_calm _ _ fun _ => stopTask_calm ..) (fault_calm _)

theorem waitTimeEffect_calm {c t : Nat} {frame : Word} {a : Reg} {imm : BitVec 15} {x : Task} :
    CalmEffect (waitTimeEffect c t frame a imm x) :=
  .ite yieldEffect_calm waitEffect_calm

theorem axselEffect_calm {axes : List Nat} {a : Reg} {imm : BitVec 15} {x : Task} : CalmEffect (axselEffect axes a imm x) := by
  unfold axselEffect
  extract_lets i
  split
  · exact regs_calm ..
  · exact fault_calm _

theorem loadEffect_calm {size : Nat} {signed : Bool} {d a : Reg} {imm : BitVec 15} {x : Task} :
    CalmEffect (loadEffect size signed d a imm x) := by
  unfold loadEffect
  extract_lets addr
  split
  · exact fault_calm _
  · exact regs_calm ..

theorem storeEffect_calm {size : Nat} {d a : Reg} {imm : BitVec 15} {x : Task} : CalmEffect (storeEffect size d a imm x) := by
  unfold storeEffect
  extract_lets addr
  split
  · exact fault_calm _
  · exact regs_calm ..

theorem ldcEffect_calm {consts : List Word} {d a : Reg} {imm : BitVec 15} {x : Task} : CalmEffect (ldcEffect consts d a imm x) := by
  unfold ldcEffect
  dsimp only
  split <;> exact regs_calm ..

theorem readEffect_calm {d : Dev} {c t n stall : Nat} {put : Task → Sig → Task} {x : Task} :
    CalmEffect (readEffect d c t n stall put x) :=
  .ite (fault_calm _) (done_calm _ _ fun _ =>
    ⟨fun h => Sound.ite (Dev_countRead_sound h) (Dev_canTaskRead_sound (Dev_sigMark_sound (Dev_countRead_sound h))),
      fun h => Kept.ite (Dev_countRead_kept h) (Dev_canTaskRead_kept (Dev_sigMark_kept (Dev_countRead_kept h)))⟩)

theorem writeEffect_calm {d : Dev} {c t n : Nat} {v : Word} {valid : Bool} {x : Task} : CalmEffect (writeEffect d c t n v valid x) :=
  .ite (fault_calm _) (.ite (regs_calm ..) (.ite (done_calm _ _ fun _ => ⟨Dev_taskHome_sound, Dev_taskHome_kept⟩)
    (done_calm _ _ fun _ => ⟨fun h => Dev_post_sound (Sound.ite (Dev_countEvent_sound (Dev_nextFree_sound h)) h),
      fun h => Dev_post_kept (Kept.ite (Dev_countEvent_kept (Dev_nextFree_kept h)) h)⟩)))

theorem motionEffect_calm {d : Dev} {c : Nat} {x : Task} {sub : Reg} {r : Req} : CalmEffect (motionEffect d c x sub r) :=
  .ite (fault_calm _) (.ite (regs_calm ..) (done_calm _ _ fun _ => ⟨Dev_modMotion_sound, Dev_modMotion_kept⟩))

theorem recPutEffect_calm {d : Dev} {c t : Nat} {sub a b : Reg} {utype : BitVec 7} {x : Task} :
    CalmEffect (recPutEffect d c t sub a b utype x) :=
  .ite (fault_calm _) (.ite (done_calm _ _ Calm.refl) (.ite (fault_calm _)
    (done_calm _ _ fun _ => ⟨Dev_putUser_sound, Dev_putUser_kept⟩)))

theorem confirmEffect_calm {d : Dev} {system : Bool} {sub : Reg} {x : Task} : CalmEffect (confirmEffect d system sub x) :=
  done_calm _ _ fun _ => ⟨fun h => Dev_updCode_sound (Dev_postConfirm_sound h), fun h => Dev_updCode_kept (Dev_postConfirm_kept h)⟩

theorem regReadEffect_calm {d : Dev} {system : Bool} {sub a : Reg} {x : Task} : CalmEffect (regReadEffect d system sub a x) :=
  .ite (refused_calm ..) (.ite (refused_calm ..) (.ite (refused_calm ..)
    (service_calm _ _ _ _ _ fun _ => ⟨Dev_readRegLatch_sound, Dev_readRegLatch_kept⟩)))

theorem regWriteEffect_calm {system : Bool} {sub a b : Reg} {x : Task} : CalmEffect (regWriteEffect system sub a b x) :=
  .ite (refused_calm ..) (.ite (refused_calm ..) (.ite (refused_calm ..)
    (service_calm _ _ _ _ _ fun _ => ⟨Dev_writeReg_sound, Dev_writeReg_kept⟩)))

theorem trcMarkEffect_calm {c : Nat} {sub a : Reg} {x : Task} : CalmEffect (trcMarkEffect c sub a x) :=
  service_calm _ _ _ _ _ fun _ =>
    ⟨fun h => Dev_countEvent_sound (Dev_traceMark_sound h), fun h => Dev_countEvent_kept (Dev_traceMark_kept h)⟩

theorem cntReadEffect_calm {d : Dev} {sub a : Reg} {x : Task} : CalmEffect (cntReadEffect d sub a x) :=
  .ite (refused_calm ..) (service_calm _ _ _ _ _ Calm.refl)

theorem axCtrlEffect_calm {c : Nat} {sub a b : Reg} {x : Task} : CalmEffect (axCtrlEffect c sub a b x) :=
  .ite (refused_calm ..) (.ite (refused_calm ..) (service_calm _ _ _ _ _ fun _ => ⟨Dev_axControl_sound, Dev_axControl_kept⟩))

theorem instRestartEffect_calm {c : Nat} {sub a b : Reg} {x : Task} : CalmEffect (instRestartEffect c sub a b x) :=
  .ite (refused_calm ..) (.ite (refused_calm ..)
    (service_calm _ _ _ _ _ fun _ => ⟨Dev_requestRestart_sound, Dev_requestRestart_kept⟩))

/-! ### Commands and events of the units -/

theorem execTrcCmdFreeze_quiet {value : Word} : Quiet s (execTrcCmdFreeze value s) := by
  dsimp only [execTrcCmdFreeze]
  with_reducible repeat' first
    | refine Quiet.next ⟨fun h => ?_, fun h => ?_⟩ | assumption | refine Dev_trcCommand_sound ?_ | refine Dev_trcCommand_kept ?_
    | split

theorem execTrcCmdResume_quiet {value : Word} : Quiet s (execTrcCmdResume value s) := by
  dsimp only [execTrcCmdResume]
  with_reducible repeat' first
    | refine Quiet.next ⟨fun h => ?_, fun h => ?_⟩ | assumption | refine Dev_trcCommand_sound ?_ | refine Dev_trcCommand_kept ?_
    | split

theorem execTrcCmdCntclr_quiet {value : Word} : Quiet s (execTrcCmdCntclr value s) := by
  dsimp only [execTrcCmdCntclr]
  with_reducible repeat' first
    | refine Quiet.next ⟨fun h => ?_, fun h => ?_⟩ | assumption | refine Dev_trcCommand_sound ?_ | refine Dev_trcCommand_kept ?_
    | split

theorem execRecordCommit_quiet : Quiet s (execRecordCommit s) := by
  dsimp only [execRecordCommit]
  with_reducible repeat' first
    | refine Quiet.next ⟨fun h => ?_, fun h => ?_⟩ | assumption | refine Dev_commitRecord_sound ?_
    | refine Dev_commitRecord_kept ?_ | split

theorem execLifetimeBlockCommit_quiet : Quiet s (execLifetimeBlockCommit s) := by
  dsimp only [execLifetimeBlockCommit]
  with_reducible repeat' first
    | refine Quiet.next ⟨fun h => ?_, fun h => ?_⟩ | refine Dev_commitLifetime_sound ?_ | refine Dev_commitLifetime_kept ?_
    | refine Dev_countEvent_sound ?_ | refine Dev_countEvent_kept ?_ | exact Kept.mk (Kept.eq (by assumption))
    | exact Sound.recorder (by assumption) rfl | split

theorem execRepeatWordRewrite_quiet : Quiet s (execRepeatWordRewrite s) := by
  dsimp only [execRepeatWordRewrite]
  with_reducible repeat' first
    | refine Quiet.next ⟨fun h => ?_, fun h => ?_⟩ | exact Kept.mk (Kept.eq (by assumption))
    | exact Sound.recorder (by assumption) rfl | split

theorem execRepeatWindowEnd_quiet : Quiet s (execRepeatWindowEnd s) :=
  Quiet.next ⟨fun h => h.recorder (tags_map fun _ => ⟨rfl, rfl⟩), fun h => h⟩

theorem execRecAnccmd_quiet {value : Word} : Quiet s (execRecAnccmd value s) := by
  dsimp only [execRecAnccmd]
  with_reducible repeat' first
    | refine Quiet.next ⟨fun h => ?_, fun h => ?_⟩ | assumption | refine Dev_anchorCommand_sound ?_
    | refine Dev_anchorCommand_kept ?_

theorem execRecKeycmd_quiet {value : Word} : Quiet s (execRecKeycmd value s) := by
  dsimp only [execRecKeycmd]
  with_reducible repeat' first
    | refine Quiet.next ⟨fun h => ?_, fun h => ?_⟩ | assumption | refine Dev_keyCommand_sound ?_ | refine Dev_keyCommand_kept ?_

theorem execClearLockoutEnd_quiet : Quiet s (execClearLockoutEnd s) := by
  dsimp only [execClearLockoutEnd]
  with_reducible repeat' first
    | refine Quiet.next ⟨fun h => ?_, fun h => ?_⟩ | exact Kept.mk (Kept.eq (by assumption))
    | exact Sound.recorder (by assumption) rfl | split

theorem execBudgetExceeded_quiet {core : CoreId} : Quiet s (execBudgetExceeded core s) := by
  dsimp only [execBudgetExceeded]
  with_reducible repeat' first
    | refine Quiet.next ⟨fun h => ?_, fun h => ?_⟩ | assumption | refine Dev_taskFault_sound ?_ | refine Dev_taskFault_kept ?_
    | split

theorem execWaitTimeExpiry_quiet {core : CoreId} {task : Fin 256} : Quiet s (execWaitTimeExpiry core task s) := by
  dsimp only [execWaitTimeExpiry]
  with_reducible repeat' first
    | refine Quiet.next ⟨fun h => ?_, fun h => ?_⟩ | assumption | refine Dev_takeOrd_sound ?_ | refine Dev_takeOrd_kept ?_
    | refine Dev_setTask_sound ?_ | refine Dev_setTask_kept ?_ | refine Dev_kick_sound ?_ | refine Dev_kick_kept ?_ | split

theorem execPeriodicTimer_quiet {core : CoreId} {task : Fin 256} {trig : Fin 4} : Quiet s (execPeriodicTimer core task trig s) := by
  dsimp only [execPeriodicTimer]
  with_reducible repeat' first
    | refine Quiet.next ⟨fun h => ?_, fun h => ?_⟩ | assumption | refine Dev_setTask_sound ?_ | refine Dev_setTask_kept ?_
    | refine Dev_queueTrigger_sound ?_ | refine Dev_queueTrigger_kept ?_ | split

theorem execBackgroundTurnEnd_quiet {core : CoreId} : Quiet s (execBackgroundTurnEnd core s) := by
  dsimp only [execBackgroundTurnEnd]
  with_reducible repeat' first
    | refine Quiet.next ⟨fun h => ?_, fun h => ?_⟩ | assumption | refine Dev_leave_sound ?_ | refine Dev_leave_kept ?_
    | refine Dev_traceTask_sound ?_ | refine Dev_traceTask_kept ?_ | refine Dev_setCore_sound ?_ | refine Dev_setCore_kept ?_
    | refine Dev_choose_sound ?_ | refine Dev_choose_kept ?_ | split

theorem execCanCtrlEnable_quiet {can : CanId} {value : Word} : Quiet s (execCanCtrlEnable can value s) := by
  dsimp only [execCanCtrlEnable]
  with_reducible repeat' first
    | refine Quiet.next ⟨fun h => ?_, fun h => ?_⟩ | assumption | refine Dev_canEnable_sound ?_ | refine Dev_canEnable_kept ?_
    | split

theorem execCanCtrlDisable_quiet {can : CanId} {value : Word} : Quiet s (execCanCtrlDisable can value s) := by
  dsimp only [execCanCtrlDisable]
  with_reducible repeat' first
    | refine Quiet.next ⟨fun h => ?_, fun h => ?_⟩ | assumption | refine Dev_canDisable_sound ?_ | refine Dev_canDisable_kept ?_
    | refine Dev_setReg_sound ?_ | refine Dev_setReg_kept ?_ | split

theorem execCanTimingWrite_quiet {can : CanId} {addr value : Word} : Quiet s (execCanTimingWrite can addr value s) := by
  dsimp only [execCanTimingWrite]
  with_reducible repeat' first
    | refine Quiet.next ⟨fun h => ?_, fun h => ?_⟩ | assumption | refine Dev_canTiming_sound ?_ | refine Dev_canTiming_kept ?_
    | split

theorem execCanObjectConfigWrite_quiet {can : CanId} {addr value : Word} : Quiet s (execCanObjectConfigWrite can addr value s) := by
  dsimp only [execCanObjectConfigWrite]
  with_reducible repeat' first
    | refine Quiet.next ⟨fun h => ?_, fun h => ?_⟩ | assumption | refine Dev_canObjectWrite_sound ?_
    | refine Dev_canObjectWrite_kept ?_ | split

theorem execCanFrameReceived_quiet {can : CanId} {frame : CanFrame} : Quiet s (execCanFrameReceived can frame s) := by
  dsimp only [execCanFrameReceived]
  with_reducible repeat' first
    | refine Quiet.next ⟨fun h => ?_, fun h => ?_⟩ | assumption | refine Dev_canReceive_sound ?_ | refine Dev_canReceive_kept ?_
    | split

theorem execCanLockTimeout_quiet {can : CanId} {object : Fin 256} : Quiet s (execCanLockTimeout can object s) := by
  dsimp only [execCanLockTimeout]
  with_reducible repeat' first
    | refine Quiet.next ⟨fun h => ?_, fun h => ?_⟩ | assumption | refine Dev_orReg_sound ?_ | refine Dev_orReg_kept ?_
    | refine Dev_eventRep_sound ?_ | refine Dev_eventRep_kept ?_ | refine Dev_canRelease_sound ?_ | refine Dev_canRelease_kept ?_
    | split

theorem execCanRxTimeout_quiet {can : CanId} {object : Fin 256} : Quiet s (execCanRxTimeout can object s) := by
  dsimp only [execCanRxTimeout]
  with_reducible repeat' first
    | refine Quiet.next ⟨fun h => ?_, fun h => ?_⟩ | assumption | refine Dev_setCan_sound ?_ | refine Dev_setCan_kept ?_
    | refine Dev_sigQuality_sound ?_ | refine Dev_sigQuality_kept ?_ | refine Dev_orReg_sound ?_ | refine Dev_orReg_kept ?_
    | refine Dev_eventRep_sound ?_ | refine Dev_eventRep_kept ?_ | split

theorem execCanTransmitAttempt_quiet {can : CanId} : Quiet s (execCanTransmitAttempt can s) := by
  dsimp only [execCanTransmitAttempt]
  with_reducible repeat' first
    | refine Quiet.next ⟨fun h => ?_, fun h => ?_⟩ | assumption | refine Dev_canAttempt_sound ?_ | refine Dev_canAttempt_kept ?_
    | split

theorem execCanAttemptEnd_quiet {can : CanId} {result : CanAttemptResult} : Quiet s (execCanAttemptEnd can result s) := by
  dsimp only [execCanAttemptEnd]
  with_reducible repeat' first
    | refine Quiet.next ⟨fun h => ?_, fun h => ?_⟩ | assumption | refine Dev_canAttemptEnd_sound ?_
    | refine Dev_canAttemptEnd_kept ?_ | split

theorem execCanCmdRecover_quiet {can : CanId} {value : Word} : Quiet s (execCanCmdRecover can value s) := by
  dsimp only [execCanCmdRecover]
  with_reducible repeat' first
    | refine Quiet.next ⟨fun h => ?_, fun h => ?_⟩ | assumption | refine Dev_canRecover_sound ?_ | refine Dev_canRecover_kept ?_

theorem execCanRecoveryEnd_quiet {can : CanId} : Quiet s (execCanRecoveryEnd can s) := by
  dsimp only [execCanRecoveryEnd]
  with_reducible repeat' first
    | refine Quiet.next ⟨fun h => ?_, fun h => ?_⟩ | assumption | refine Dev_setCan_sound ?_ | refine Dev_setCan_kept ?_
    | refine Dev_event_sound ?_ | refine Dev_event_kept ?_ | split

theorem execCanBusError_quiet {can : CanId} {kind : CanRxError} : Quiet s (execCanBusError can kind s) := by
  dsimp only [execCanBusError]
  with_reducible repeat' first
    | refine Quiet.next ⟨fun h => ?_, fun h => ?_⟩ | assumption | refine Dev_canReceiveError_sound ?_
    | refine Dev_canReceiveError_kept ?_ | split


theorem execPostedWriteArrives_quiet {core : CoreId} {entry : Fin 16} : Quiet s (execPostedWriteArrives core entry s) := by
  dsimp only [execPostedWriteArrives]
  with_reducible repeat' first
    | refine Quiet.next ⟨fun h => ?_, fun h => ?_⟩ | assumption | refine Dev_arrive_sound ?_ | refine Dev_arrive_kept ?_ | split

theorem execHoldAmplitude_quiet {axis : AxisId} : Quiet s (execHoldAmplitude axis s) := by
  dsimp only [execHoldAmplitude]
  with_reducible repeat' first
    | refine Quiet.next ⟨fun h => ?_, fun h => ?_⟩ | assumption | refine Dev_modMotion_sound ?_ | refine Dev_modMotion_kept ?_
    | split

theorem execMoveEnd_quiet {axis : AxisId} : Quiet s (execMoveEnd axis s) := by
  dsimp only [execMoveEnd]
  with_reducible repeat' first
    | refine Quiet.next ⟨fun h => ?_, fun h => ?_⟩ | assumption | refine Dev_endMove_sound ?_ | refine Dev_endMove_kept ?_
    | split

theorem execUpstreamFrameReceived_quiet {port : PortId} {onTime violation : Bool} {bytes : List Byte} : Quiet s (execUpstreamFrameReceived port onTime violation bytes s) := by
  dsimp only [execUpstreamFrameReceived]
  with_reducible repeat' first
    | refine Quiet.next ⟨fun h => ?_, fun h => ?_⟩ | assumption | refine Dev_modPort_sound ?_ | refine Dev_modPort_kept ?_
    | refine Dev_upManagement_sound ?_ | refine Dev_upManagement_kept ?_ | refine Dev_upBlock_sound ?_
    | refine Dev_upBlock_kept ?_ | refine Dev_linkAdvance_sound ?_ | refine Dev_linkAdvance_kept ?_
    | refine Dev_badUpFrame_sound ?_ | refine Dev_badUpFrame_kept ?_ | refine Sound.foldl (fun _ _ _ => ?_) ?_
    | refine Kept.foldl (fun _ _ _ => ?_) ?_ | split

theorem execPortLost_quiet {port : PortId} : Quiet s (execPortLost port s) := by
  dsimp only [execPortLost]
  with_reducible repeat' first
    | refine Quiet.next ⟨fun h => ?_, fun h => ?_⟩ | assumption | refine Dev_portAxesOff_sound ?_
    | refine Dev_portAxesOff_kept ?_ | refine Dev_modPort_sound ?_ | refine Dev_modPort_kept ?_ | refine Dev_strFlag_sound ?_
    | refine Dev_strFlag_kept ?_ | refine Dev_incReg_sound ?_ | refine Dev_incReg_kept ?_ | refine Dev_breakCopy_sound ?_
    | refine Dev_breakCopy_kept ?_ | refine Dev_event_sound ?_ | refine Dev_event_kept ?_ | split

theorem execNodesBeyondBreakLost_quiet {port : PortId} : Quiet s (execNodesBeyondBreakLost port s) := by
  dsimp only [execNodesBeyondBreakLost]
  with_reducible repeat' first
    | refine Quiet.next ⟨fun h => ?_, fun h => ?_⟩ | assumption | refine Dev_modPort_sound ?_ | refine Dev_modPort_kept ?_
    | refine Dev_axisOff_sound ?_ | refine Dev_axisOff_kept ?_ | refine Dev_strFlag_sound ?_ | refine Dev_strFlag_kept ?_
    | refine Dev_event_sound ?_ | refine Dev_event_kept ?_ | refine Sound.foldl (fun _ _ _ => ?_) ?_
    | refine Kept.foldl (fun _ _ _ => ?_) ?_ | split

theorem execChannelLost_quiet {axis : AxisId} : Quiet s (execChannelLost axis s) := by
  dsimp only [execChannelLost]
  with_reducible repeat' first
    | refine Quiet.next ⟨fun h => ?_, fun h => ?_⟩ | assumption | refine Dev_setAxis_sound ?_ | refine Dev_setAxis_kept ?_
    | refine Dev_axisOff_sound ?_ | refine Dev_axisOff_kept ?_ | refine Dev_strFlag_sound ?_ | refine Dev_strFlag_kept ?_
    | refine Dev_event_sound ?_ | refine Dev_event_kept ?_ | split

theorem execAutorstLinkStart_quiet {port : PortId} : Quiet s (execAutorstLinkStart port s) := by
  dsimp only [execAutorstLinkStart]
  with_reducible repeat' first
    | refine Quiet.next ⟨fun h => ?_, fun h => ?_⟩ | assumption | refine Dev_beginLink_sound ?_ | refine Dev_beginLink_kept ?_
    | split

theorem execStrCmdStart_quiet {port : PortId} {value : Word} : Quiet s (execStrCmdStart port value s) := by
  dsimp only [execStrCmdStart]
  with_reducible repeat' first
    | refine Quiet.next ⟨fun h => ?_, fun h => ?_⟩ | assumption | refine Dev_strCommand_sound ?_ | refine Dev_strCommand_kept ?_
    | split

theorem execStrCmdStop_quiet {port : PortId} {value : Word} : Quiet s (execStrCmdStop port value s) := by
  dsimp only [execStrCmdStop]
  with_reducible repeat' first
    | refine Quiet.next ⟨fun h => ?_, fun h => ?_⟩ | assumption | refine Dev_strCommand_sound ?_ | refine Dev_strCommand_kept ?_
    | split

theorem execTrainComplete_quiet {port : PortId} : Quiet s (execTrainComplete port s) := by
  dsimp only [execTrainComplete]
  with_reducible repeat' first
    | refine Quiet.next ⟨fun h => ?_, fun h => ?_⟩ | assumption | refine Dev_modPort_sound ?_ | refine Dev_modPort_kept ?_
    | split

theorem execLinkStartTimeout_quiet {port : PortId} : Quiet s (execLinkStartTimeout port s) := by
  dsimp only [execLinkStartTimeout]
  with_reducible repeat' first
    | refine Quiet.next ⟨fun h => ?_, fun h => ?_⟩ | assumption | refine Dev_modPort_sound ?_ | refine Dev_modPort_kept ?_
    | refine Dev_linkFail_sound ?_ | refine Dev_linkFail_kept ?_ | split

theorem execStartFrame_quiet {port : PortId} : Quiet s (execStartFrame port s) := by
  dsimp only [execStartFrame]
  with_reducible repeat' first
    | refine Quiet.next ⟨fun h => ?_, fun h => ?_⟩ | assumption | refine Dev_modPort_sound ?_ | refine Dev_modPort_kept ?_
    | refine Dev_axisRestore_sound ?_ | refine Dev_axisRestore_kept ?_ | refine Sound.foldl (fun _ _ _ => ?_) ?_
    | refine Kept.foldl (fun _ _ _ => ?_) ?_ | split

theorem execBulkReplyTimeout_quiet {port : PortId} {node : Fin 65} : Quiet s (execBulkReplyTimeout port node s) := by
  dsimp only [execBulkReplyTimeout]
  with_reducible repeat' first
    | refine Quiet.next ⟨fun h => ?_, fun h => ?_⟩ | assumption | refine Dev_modNode_sound ?_ | refine Dev_modNode_kept ?_
    | refine Dev_putBlocks_sound ?_ | refine Dev_putBlocks_kept ?_ | refine Dev_strFlag_sound ?_ | refine Dev_strFlag_kept ?_
    | refine Dev_event_sound ?_ | refine Dev_event_kept ?_ | split

theorem execListenFrameReceived_quiet {port : PortId} {onTime violation : Bool} {bytes : List Byte} : Quiet s (execListenFrameReceived port onTime violation bytes s) := by
  dsimp only [execListenFrameReceived]
  with_reducible repeat' first
    | refine Quiet.next ⟨fun h => ?_, fun h => ?_⟩ | assumption | refine Dev_modPort_sound ?_ | refine Dev_modPort_kept ?_
    | split

theorem execSafetyHoldRelease_quiet {axis : AxisId} : Quiet s (execSafetyHoldRelease axis s) := by
  dsimp only [execSafetyHoldRelease]
  with_reducible repeat' first
    | refine Quiet.next ⟨fun h => ?_, fun h => ?_⟩ | assumption | refine Dev_clearSafe_sound ?_ | refine Dev_clearSafe_kept ?_
    | split

theorem execSafCmdAck_quiet {value : Word} : Quiet s (execSafCmdAck value s) := by
  dsimp only [execSafCmdAck]
  with_reducible repeat' first
    | refine Quiet.next ⟨fun h => ?_, fun h => ?_⟩ | assumption | refine Dev_safCmdWrite_sound ?_
    | refine Dev_safCmdWrite_kept ?_ | split

theorem execSafCmdReset_quiet {value : Word} : Quiet s (execSafCmdReset value s) := by
  dsimp only [execSafCmdReset]
  with_reducible repeat' first
    | refine Quiet.next ⟨fun h => ?_, fun h => ?_⟩ | assumption | refine Dev_safCmdWrite_sound ?_
    | refine Dev_safCmdWrite_kept ?_ | split

theorem execSafCmdLoopReset_quiet {value : Word} : Quiet s (execSafCmdLoopReset value s) := by
  dsimp only [execSafCmdLoopReset]
  with_reducible repeat' first
    | refine Quiet.next ⟨fun h => ?_, fun h => ?_⟩ | assumption | refine Dev_safCmdWrite_sound ?_
    | refine Dev_safCmdWrite_kept ?_ | split

theorem execSafetyCycle_quiet {diag : IslandDiag} : Quiet s (execSafetyCycle diag s) := by
  dsimp only [execSafetyCycle]
  with_reducible repeat' first
    | refine Quiet.next ⟨fun h => ?_, fun h => ?_⟩ | assumption | refine Dev_safetyCycle_sound ?_
    | refine Dev_safetyCycle_kept ?_ | split

theorem execLoopSwitchOn_quiet {loop : Fin 4} : Quiet s (execLoopSwitchOn loop s) := by
  dsimp only [execLoopSwitchOn]
  with_reducible repeat' first
    | refine Quiet.next ⟨fun h => ?_, fun h => ?_⟩ | assumption | refine Dev_modIsland_sound ?_ | refine Dev_modIsland_kept ?_
    | refine Dev_showCycle_sound ?_ | refine Dev_showCycle_kept ?_ | split

theorem execSafUnlock_quiet {value : Word} : Quiet s (execSafUnlock value s) := by
  dsimp only [execSafUnlock]
  with_reducible repeat' first
    | refine Quiet.next ⟨fun h => ?_, fun h => ?_⟩ | assumption | refine Dev_safUnlockWrite_sound ?_
    | refine Dev_safUnlockWrite_kept ?_

theorem execUnlockExpiry_quiet : Quiet s (execUnlockExpiry s) := by
  dsimp only [execUnlockExpiry]
  with_reducible repeat' first
    | refine Quiet.next ⟨fun h => ?_, fun h => ?_⟩ | assumption | refine Dev_modIsland_sound ?_ | refine Dev_modIsland_kept ?_
    | split

theorem execSafParameterWrite_quiet {addr value : Word} : Quiet s (execSafParameterWrite addr value s) := by
  dsimp only [execSafParameterWrite]
  with_reducible repeat' first
    | refine Quiet.next ⟨fun h => ?_, fun h => ?_⟩ | assumption | refine Dev_safWrite_sound ?_ | refine Dev_safWrite_kept ?_
    | split

theorem execCheckRecomputed_quiet : Quiet s (execCheckRecomputed s) := by
  dsimp only [execCheckRecomputed]
  with_reducible repeat' first
    | refine Quiet.next ⟨fun h => ?_, fun h => ?_⟩ | assumption | refine Dev_modIsland_sound ?_ | refine Dev_modIsland_kept ?_
    | split

theorem execTestDue_quiet : Quiet s (execTestDue s) := by
  dsimp only [execTestDue]
  with_reducible repeat' first
    | refine Quiet.next ⟨fun h => ?_, fun h => ?_⟩ | assumption | refine Dev_modIsland_sound ?_ | refine Dev_modIsland_kept ?_
    | refine Dev_event_sound ?_ | refine Dev_event_kept ?_ | split

theorem execSafeTelegramCopy_quiet {port : HostPort} : Quiet s (execSafeTelegramCopy port s) := by
  dsimp only [execSafeTelegramCopy]
  with_reducible repeat' first
    | refine Quiet.next ⟨fun h => ?_, fun h => ?_⟩ | refine Dev_incReg_sound ?_ | refine Dev_incReg_kept ?_
    | refine Dev_tgCopy_sound ?_ | refine Dev_tgCopy_kept ?_ | exact Kept.mk (Kept.eq (by assumption))
    | exact Sound.host (by assumption) rfl rfl | split

theorem execSinglePathWindowEnd_quiet {source : Fin 4} {stamp : Nat} : Quiet s (execSinglePathWindowEnd source stamp s) := by
  dsimp only [execSinglePathWindowEnd]
  with_reducible repeat' first
    | refine Quiet.next ⟨fun h => ?_, fun h => ?_⟩ | assumption | refine Dev_tgWindow_sound ?_ | refine Dev_tgWindow_kept ?_
    | split

theorem execTelegramTimeout_quiet {source : Fin 4} : Quiet s (execTelegramTimeout source s) := by
  dsimp only [execTelegramTimeout]
  with_reducible repeat' first
    | refine Quiet.next ⟨fun h => ?_, fun h => ?_⟩ | assumption | refine Dev_modSource_sound ?_ | refine Dev_modSource_kept ?_
    | refine Dev_event_sound ?_ | refine Dev_event_kept ?_ | refine Dev_orReg_sound ?_ | refine Dev_orReg_kept ?_ | split

theorem execHuskFrameReceived_quiet {good : Bool} : Quiet s (execHuskFrameReceived good s) := by
  dsimp only [execHuskFrameReceived]
  with_reducible repeat' first
    | refine Quiet.next ⟨fun h => ?_, fun h => ?_⟩ | assumption | refine Dev_huskGood_sound ?_ | refine Dev_huskGood_kept ?_
    | refine Dev_lastFrame_sound ?_ | refine Dev_lastFrame_kept ?_ | refine Dev_modField_sound ?_ | refine Dev_modField_kept ?_
    | split

theorem execSoCommandLossOff_quiet : Quiet s (execSoCommandLossOff s) := by
  dsimp only [execSoCommandLossOff]
  with_reducible repeat' first
    | refine Quiet.next ⟨fun h => ?_, fun h => ?_⟩ | assumption | refine Dev_modField_sound ?_ | refine Dev_modField_kept ?_
    | split

theorem execBarrierWatchdogTrip_quiet : Quiet s (execBarrierWatchdogTrip s) := by
  dsimp only [execBarrierWatchdogTrip]
  with_reducible repeat' first
    | refine Quiet.next ⟨fun h => ?_, fun h => ?_⟩ | assumption | refine Dev_watchdogTrip_sound ?_
    | refine Dev_watchdogTrip_kept ?_ | split

theorem execRecoveryEnd_quiet : Quiet s (execRecoveryEnd s) := by
  dsimp only [execRecoveryEnd]
  with_reducible repeat' first
    | refine Quiet.next ⟨fun h => ?_, fun h => ?_⟩ | assumption | refine Dev_recoveryEnd_sound ?_
    | refine Dev_recoveryEnd_kept ?_ | split

theorem execBarrierFrameReceived_quiet {sample : FieldSample} : Quiet s (execBarrierFrameReceived sample s) := by
  dsimp only [execBarrierFrameReceived]
  with_reducible repeat' first
    | refine Quiet.next ⟨fun h => ?_, fun h => ?_⟩ | assumption | refine Dev_huskSample_sound ?_ | refine Dev_huskSample_kept ?_
    | refine Dev_barrierGood_sound ?_ | refine Dev_barrierGood_kept ?_ | refine Dev_barrierBad_sound ?_
    | refine Dev_barrierBad_kept ?_ | split

theorem execBarrierLinkLost_quiet : Quiet s (execBarrierLinkLost s) := by
  dsimp only [execBarrierLinkLost]
  with_reducible repeat' first
    | refine Quiet.next ⟨fun h => ?_, fun h => ?_⟩ | assumption | refine Dev_modField_sound ?_ | refine Dev_modField_kept ?_
    | refine Dev_event_sound ?_ | refine Dev_event_kept ?_ | refine Dev_fldFlag_sound ?_ | refine Dev_fldFlag_kept ?_
    | refine Dev_sigQuality_sound ?_ | refine Dev_sigQuality_kept ?_ | refine Sound.foldl (fun _ _ _ => ?_) ?_
    | refine Kept.foldl (fun _ _ _ => ?_) ?_ | split

theorem execBarrierLinkUp_quiet : Quiet s (execBarrierLinkUp s) := by
  dsimp only [execBarrierLinkUp]
  with_reducible repeat' first
    | refine Quiet.next ⟨fun h => ?_, fun h => ?_⟩ | assumption | refine Dev_modField_sound ?_ | refine Dev_modField_kept ?_
    | refine Dev_event_sound ?_ | refine Dev_event_kept ?_ | refine Dev_huskReports_sound ?_ | refine Dev_huskReports_kept ?_
    | split

theorem execV24fUndervoltage_quiet : Quiet s (execV24fUndervoltage s) := by
  dsimp only [execV24fUndervoltage]
  with_reducible repeat' first
    | refine Quiet.next ⟨fun h => ?_, fun h => ?_⟩ | assumption | refine Dev_modField_sound ?_ | refine Dev_modField_kept ?_
    | refine Dev_event_sound ?_ | refine Dev_event_kept ?_ | refine Dev_fldFlag_sound ?_ | refine Dev_fldFlag_kept ?_
    | refine Dev_setChan_sound ?_ | refine Dev_setChan_kept ?_ | refine Dev_hsSettle_sound ?_ | refine Dev_hsSettle_kept ?_
    | refine Dev_soSettle_sound ?_ | refine Dev_soSettle_kept ?_ | refine Sound.foldl (fun _ _ _ => ?_) ?_
    | refine Kept.foldl (fun _ _ _ => ?_) ?_ | split

theorem execUndervoltageEnd_quiet : Quiet s (execUndervoltageEnd s) := by
  dsimp only [execUndervoltageEnd]
  with_reducible repeat' first
    | refine Quiet.next ⟨fun h => ?_, fun h => ?_⟩ | assumption | refine Dev_modField_sound ?_ | refine Dev_modField_kept ?_
    | refine Dev_event_sound ?_ | refine Dev_event_kept ?_ | refine Dev_hsSettle_sound ?_ | refine Dev_hsSettle_kept ?_
    | refine Sound.foldl (fun _ _ _ => ?_) ?_ | refine Kept.foldl (fun _ _ _ => ?_) ?_ | split

theorem execHuskReset_quiet : Quiet s (execHuskReset s) := by
  dsimp only [execHuskReset]
  with_reducible repeat' first
    | refine Quiet.next ⟨fun h => ?_, fun h => ?_⟩ | assumption | refine Dev_modField_sound ?_ | refine Dev_modField_kept ?_
    | split

theorem execHsDeferredApply_quiet {h : Fin 32} : Quiet s (execHsDeferredApply h s) := by
  dsimp only [execHsDeferredApply]
  with_reducible repeat' first
    | refine Quiet.next ⟨fun h => ?_, fun h => ?_⟩ | assumption | refine Dev_hsApply_sound ?_ | refine Dev_hsApply_kept ?_
    | split

theorem execHsLimitTrip_quiet {h : Fin 32} : Quiet s (execHsLimitTrip h s) := by
  dsimp only [execHsLimitTrip]
  with_reducible repeat' first
    | refine Quiet.next ⟨fun h => ?_, fun h => ?_⟩ | assumption | refine Dev_countTrip_sound ?_ | refine Dev_countTrip_kept ?_
    | refine Dev_modField_sound ?_ | refine Dev_modField_kept ?_ | refine Dev_setChan_sound ?_ | refine Dev_setChan_kept ?_
    | refine Dev_hsSettle_sound ?_ | refine Dev_hsSettle_kept ?_ | refine Dev_latchTrip_sound ?_ | refine Dev_latchTrip_kept ?_
    | split

theorem execHsCurveTrip_quiet {x : HsCurve} : Quiet s (execHsCurveTrip x s) := by
  dsimp only [execHsCurveTrip]
  with_reducible repeat' first
    | refine Quiet.next ⟨fun h => ?_, fun h => ?_⟩ | assumption | refine Dev_hsIntegrate_sound ?_
    | refine Dev_hsIntegrate_kept ?_ | refine Dev_countTrip_sound ?_ | refine Dev_countTrip_kept ?_
    | refine Dev_latchTrip_sound ?_ | refine Dev_latchTrip_kept ?_ | split

theorem execHsThermalTrip_quiet {h : Fin 32} : Quiet s (execHsThermalTrip h s) := by
  dsimp only [execHsThermalTrip]
  with_reducible repeat' first
    | refine Quiet.next ⟨fun h => ?_, fun h => ?_⟩ | assumption | refine Dev_setChan_sound ?_ | refine Dev_setChan_kept ?_
    | refine Dev_hsSettle_sound ?_ | refine Dev_hsSettle_kept ?_ | refine Dev_incRegFld_sound ?_ | refine Dev_incRegFld_kept ?_
    | refine Dev_event_sound ?_ | refine Dev_event_kept ?_ | refine Dev_fldFlag_sound ?_ | refine Dev_fldFlag_kept ?_ | split

theorem execHsRetry_quiet {h : Fin 32} : Quiet s (execHsRetry h s) := by
  dsimp only [execHsRetry]
  with_reducible repeat' first
    | refine Quiet.next ⟨fun h => ?_, fun h => ?_⟩ | assumption | refine Dev_setChan_sound ?_ | refine Dev_setChan_kept ?_
    | refine Dev_hsSettle_sound ?_ | refine Dev_hsSettle_kept ?_ | refine Dev_eventRep_sound ?_ | refine Dev_eventRep_kept ?_
    | refine Dev_fldFlag_sound ?_ | refine Dev_fldFlag_kept ?_ | split

theorem execHsCooled_quiet {h : Fin 32} : Quiet s (execHsCooled h s) := by
  dsimp only [execHsCooled]
  with_reducible repeat' first
    | refine Quiet.next ⟨fun h => ?_, fun h => ?_⟩ | assumption | refine Dev_setChan_sound ?_ | refine Dev_setChan_kept ?_
    | refine Dev_hsSettle_sound ?_ | refine Dev_hsSettle_kept ?_ | split

theorem execGangRaisedLimitEnd_quiet {q : Fin 8} : Quiet s (execGangRaisedLimitEnd q s) := by
  dsimp only [execGangRaisedLimitEnd]
  with_reducible repeat' first
    | refine Quiet.next ⟨fun h => ?_, fun h => ?_⟩ | assumption | refine Dev_modField_sound ?_ | refine Dev_modField_kept ?_
    | split

theorem execHsOpenLoadOnstate_quiet {h : Fin 32} : Quiet s (execHsOpenLoadOnstate h s) := by
  dsimp only [execHsOpenLoadOnstate]
  with_reducible repeat' first
    | refine Quiet.next ⟨fun h => ?_, fun h => ?_⟩ | assumption | refine Dev_hsReport_sound ?_ | refine Dev_hsReport_kept ?_
    | split

theorem execOnstateOpenLoadClear_quiet {h : Fin 32} : Quiet s (execOnstateOpenLoadClear h s) := by
  dsimp only [execOnstateOpenLoadClear]
  with_reducible repeat' first
    | refine Quiet.next ⟨fun h => ?_, fun h => ?_⟩ | assumption | refine Dev_hsReport_sound ?_ | refine Dev_hsReport_kept ?_
    | split

theorem execOffstateOpenLoadCheck_quiet {h : Fin 32} {above3v5 above8v : Bool} : Quiet s (execOffstateOpenLoadCheck h above3v5 above8v s) := by
  dsimp only [execOffstateOpenLoadCheck]
  with_reducible repeat' first
    | refine Quiet.next ⟨fun h => ?_, fun h => ?_⟩ | assumption | refine Dev_hsReport_sound ?_ | refine Dev_hsReport_kept ?_
    | split

theorem execSoOverloadOff_quiet {k : Fin 8} : Quiet s (execSoOverloadOff k s) := by
  dsimp only [execSoOverloadOff]
  with_reducible repeat' first
    | refine Quiet.next ⟨fun h => ?_, fun h => ?_⟩ | assumption | refine Dev_modField_sound ?_ | refine Dev_modField_kept ?_
    | split

theorem execDrvEdge_quiet {pin : Fin 4} {level : Bool} : Quiet s (execDrvEdge pin level s) := by
  dsimp only [execDrvEdge]
  with_reducible repeat' first
    | refine Quiet.next ⟨fun h => ?_, fun h => ?_⟩ | assumption | refine Dev_modField_sound ?_ | refine Dev_modField_kept ?_
    | refine Dev_hsSettle_sound ?_ | refine Dev_hsSettle_kept ?_ | refine Sound.foldl (fun _ _ _ => ?_) ?_
    | refine Kept.foldl (fun _ _ _ => ?_) ?_ | split

theorem execFldConfigWrite_quiet {addr value : Word} : Quiet s (execFldConfigWrite addr value s) := by
  dsimp only [execFldConfigWrite]
  with_reducible repeat' first
    | refine Quiet.next ⟨fun h => ?_, fun h => ?_⟩ | assumption | refine Dev_fldWrite_sound ?_ | refine Dev_fldWrite_kept ?_
    | split

theorem execSfInstrst_quiet {sheaf : SheafId} {value : Word} : Quiet s (execSfInstrst sheaf value s) := by
  dsimp only [execSfInstrst]
  with_reducible repeat' first
    | refine Quiet.next ⟨fun h => ?_, fun h => ?_⟩ | assumption | refine Dev_requestRestart_sound ?_
    | refine Dev_requestRestart_kept ?_

theorem execRestartCheck_quiet {sheaf : SheafId} : Quiet s (execRestartCheck sheaf s) := by
  dsimp only [execRestartCheck]
  with_reducible repeat' first
    | refine Quiet.next ⟨fun h => ?_, fun h => ?_⟩ | refine Dev_restartCheck_sound ?_ | refine Dev_restartCheck_kept ?_
    | exact Sound.mk (by assumption) | exact Kept.mk (Kept.eq (by assumption)) | split

theorem execSfPeakclr_quiet {sheaf : SheafId} {value : Word} : Quiet s (execSfPeakclr sheaf value s) := by
  dsimp only [execSfPeakclr]
  with_reducible repeat' first
    | refine Quiet.next ⟨fun h => ?_, fun h => ?_⟩ | assumption | refine Dev_setRegFld_sound ?_ | refine Dev_setRegFld_kept ?_

theorem execPlcMigreq_quiet {value : Word} : Quiet s (execPlcMigreq value s) := by
  dsimp only [execPlcMigreq]
  with_reducible repeat' first
    | refine Quiet.next ⟨fun h => ?_, fun h => ?_⟩ | assumption | refine Dev_modPlacer_sound ?_ | refine Dev_modPlacer_kept ?_

theorem execMigrationPreparationEnd_quiet : Quiet s (execMigrationPreparationEnd s) := by
  dsimp only [execMigrationPreparationEnd]
  with_reducible repeat' first
    | refine Quiet.next ⟨fun h => ?_, fun h => ?_⟩ | assumption | refine Dev_modPlacer_sound ?_ | refine Dev_modPlacer_kept ?_
    | split

theorem execMigrationCopyFrame_quiet : Quiet s (execMigrationCopyFrame s) := by
  dsimp only [execMigrationCopyFrame]
  with_reducible repeat' first
    | refine Quiet.next ⟨fun h => ?_, fun h => ?_⟩ | assumption | refine Dev_modPlacer_sound ?_ | refine Dev_modPlacer_kept ?_
    | split

theorem execMigrationSwitch_quiet {copiesAgree : Bool} : Quiet s (execMigrationSwitch copiesAgree s) := by
  dsimp only [execMigrationSwitch]
  with_reducible repeat' first
    | refine Quiet.next ⟨fun h => ?_, fun h => ?_⟩ | refine Dev_switchDoor_sound ?_ | refine Dev_switchDoor_kept ?_
    | refine Dev_migrationRecord_sound ?_ | refine Dev_migrationRecord_kept ?_ | refine Dev_closeMigration_sound ?_
    | refine Dev_closeMigration_kept ?_ | refine Dev_abortMigration_sound ?_ | refine Dev_abortMigration_kept ?_
    | refine Dev_choose_sound ?_ | refine Dev_choose_kept ?_ | exact Sound.mk (by assumption)
    | exact Kept.mk (Kept.eq (by assumption)) | split

theorem execPairFrameReceived_quiet {bytes : List Byte} : Quiet s (execPairFrameReceived bytes s) := by
  dsimp only [execPairFrameReceived]
  with_reducible repeat' first
    | refine Quiet.next ⟨fun h => ?_, fun h => ?_⟩ | assumption | refine Dev_modPair_sound ?_ | refine Dev_modPair_kept ?_
    | split

theorem execRoleClaim_quiet : Quiet s (execRoleClaim s) := by
  dsimp only [execRoleClaim]
  with_reducible repeat' first
    | refine Quiet.next ⟨fun h => ?_, fun h => ?_⟩ | assumption | refine Dev_modPair_sound ?_ | refine Dev_modPair_kept ?_
    | split

theorem execTakeover_quiet : Quiet s (execTakeover s) := by
  dsimp only [execTakeover]
  with_reducible repeat' first
    | refine Quiet.next ⟨fun h => ?_, fun h => ?_⟩ | assumption | refine Dev_pairEvent_sound ?_ | refine Dev_pairEvent_kept ?_
    | refine Dev_modPair_sound ?_ | refine Dev_modPair_kept ?_ | refine Dev_takeRole_sound ?_ | refine Dev_takeRole_kept ?_
    | split

theorem execPairCmdSwap_quiet {value : Word} : Quiet s (execPairCmdSwap value s) := by
  dsimp only [execPairCmdSwap]
  with_reducible repeat' first
    | refine Quiet.next ⟨fun h => ?_, fun h => ?_⟩ | assumption | refine Dev_pairCmdWrite_sound ?_
    | refine Dev_pairCmdWrite_kept ?_

theorem execSwapTakeRole_quiet {roleIn : Bool} : Quiet s (execSwapTakeRole roleIn s) := by
  dsimp only [execSwapTakeRole]
  with_reducible repeat' first
    | refine Quiet.next ⟨fun h => ?_, fun h => ?_⟩ | assumption | refine Dev_modPair_sound ?_ | refine Dev_modPair_kept ?_
    | refine Dev_takeRole_sound ?_ | refine Dev_takeRole_kept ?_ | split

theorem execSwapDue_quiet : Quiet s (execSwapDue s) := by
  dsimp only [execSwapDue]
  with_reducible repeat' first
    | refine Quiet.next ⟨fun h => ?_, fun h => ?_⟩ | assumption | refine Dev_pairEvent_sound ?_ | refine Dev_pairEvent_kept ?_
    | refine Dev_modPair_sound ?_ | refine Dev_modPair_kept ?_ | split

theorem execPairPortDown_quiet : Quiet s (execPairPortDown s) := by
  dsimp only [execPairPortDown]
  with_reducible repeat' first
    | refine Quiet.next ⟨fun h => ?_, fun h => ?_⟩ | assumption | refine Dev_pairEvent_sound ?_ | refine Dev_pairEvent_kept ?_
    | refine Dev_modPair_sound ?_ | refine Dev_modPair_kept ?_ | split

theorem execRoleDisagree_quiet : Quiet s (execRoleDisagree s) := by
  dsimp only [execRoleDisagree]
  with_reducible repeat' first
    | refine Quiet.next ⟨fun h => ?_, fun h => ?_⟩ | assumption | refine Dev_pairEvent_sound ?_ | refine Dev_pairEvent_kept ?_
    | refine Dev_modPair_sound ?_ | refine Dev_modPair_kept ?_ | split

theorem execPairCfgWrite_quiet {value : Word} : Quiet s (execPairCfgWrite value s) := by
  dsimp only [execPairCfgWrite]
  with_reducible repeat' first
    | refine Quiet.next ⟨fun h => ?_, fun h => ?_⟩ | assumption | refine Dev_pairCfgWrite_sound ?_
    | refine Dev_pairCfgWrite_kept ?_

theorem execRoleOutFrameEngineTimeout_quiet : Quiet s (execRoleOutFrameEngineTimeout s) := by
  dsimp only [execRoleOutFrameEngineTimeout]
  with_reducible repeat' first
    | refine Quiet.next ⟨fun h => ?_, fun h => ?_⟩ | assumption | refine Dev_modPair_sound ?_ | refine Dev_modPair_kept ?_

theorem execUpdCmdBegin_quiet {value : Word} : Quiet s (execUpdCmdBegin value s) := by
  dsimp only [execUpdCmdBegin]
  with_reducible repeat' first
    | refine Quiet.next ⟨fun h => ?_, fun h => ?_⟩ | assumption | refine Dev_updCommand_sound ?_ | refine Dev_updCommand_kept ?_
    | split

theorem execUpdCmdFinish_quiet {value : Word} : Quiet s (execUpdCmdFinish value s) := by
  dsimp only [execUpdCmdFinish]
  with_reducible repeat' first
    | refine Quiet.next ⟨fun h => ?_, fun h => ?_⟩ | assumption | refine Dev_updCommand_sound ?_ | refine Dev_updCommand_kept ?_
    | split

theorem execUpdCmdAbort_quiet {value : Word} : Quiet s (execUpdCmdAbort value s) := by
  dsimp only [execUpdCmdAbort]
  with_reducible repeat' first
    | refine Quiet.next ⟨fun h => ?_, fun h => ?_⟩ | assumption | refine Dev_updCommand_sound ?_ | refine Dev_updCommand_kept ?_
    | split

theorem execEraseComplete_quiet {erased : Bool} : Quiet s (execEraseComplete erased s) := by
  dsimp only [execEraseComplete]
  with_reducible repeat' first
    | refine Quiet.next ⟨fun h => ?_, fun h => ?_⟩ | assumption | refine Dev_mapOps_sound ?_ | refine Dev_mapOps_kept ?_
    | refine Dev_modUpd_sound ?_ | refine Dev_modUpd_kept ?_ | refine Dev_updEvent_sound ?_ | refine Dev_updEvent_kept ?_ | split

theorem execConfirmComplete_quiet {written : Bool} : Quiet s (execConfirmComplete written s) := by
  dsimp only [execConfirmComplete]
  with_reducible repeat' first
    | refine Quiet.next ⟨fun h => ?_, fun h => ?_⟩ | assumption | refine Dev_modUpd_sound ?_ | refine Dev_modUpd_kept ?_
    | refine Dev_updEvent_sound ?_ | refine Dev_updEvent_kept ?_ | split

theorem execOperatingMinute_quiet : Quiet s (execOperatingMinute s) := by
  dsimp only [execOperatingMinute]
  with_reducible repeat' first
    | refine Quiet.next ⟨fun h => ?_, fun h => ?_⟩ | refine Dev_modPair_sound ?_ | refine Dev_modPair_kept ?_
    | refine Dev_modUpd_sound ?_ | refine Dev_modUpd_kept ?_ | exact Sound.mk (by assumption)
    | exact Kept.mk (Kept.eq (by assumption)) | split

theorem execTrialExpiry_quiet : Quiet s (execTrialExpiry s) := by
  dsimp only [execTrialExpiry]
  with_reducible repeat' first
    | refine Quiet.next ⟨fun h => ?_, fun h => ?_⟩ | assumption | refine Dev_modUpd_sound ?_ | refine Dev_modUpd_kept ?_
    | refine Dev_updEvent_sound ?_ | refine Dev_updEvent_kept ?_ | split

theorem execSysOptloRead_quiet : Quiet s (execSysOptloRead s) := by
  dsimp only [execSysOptloRead]
  with_reducible repeat' first
    | refine Quiet.next ⟨fun h => ?_, fun h => ?_⟩ | assumption | refine Dev_readRegLatch_sound ?_
    | refine Dev_readRegLatch_kept ?_

theorem execAxCfgWrite_quiet {axis : AxisId} {value : Word} : Quiet s (execAxCfgWrite axis value s) := by
  dsimp only [execAxCfgWrite]
  with_reducible repeat' first
    | refine Quiet.next ⟨fun h => ?_, fun h => ?_⟩ | assumption | refine Dev_axCfgWrite_sound ?_ | refine Dev_axCfgWrite_kept ?_

theorem execHostCfgsave_quiet {value : Word} : Quiet s (execHostCfgsave value s) := by
  dsimp only [execHostCfgsave]
  with_reducible repeat' first
    | refine Quiet.next ⟨fun h => ?_, fun h => ?_⟩ | assumption | refine Dev_hostCfgsave_sound ?_
    | refine Dev_hostCfgsave_kept ?_

theorem execRegisterWrite_quiet {addr value : Word} : Quiet s (execRegisterWrite addr value s) := by
  dsimp only [execRegisterWrite]
  with_reducible repeat' first
    | refine Quiet.next ⟨fun h => ?_, fun h => ?_⟩ | assumption | refine Dev_writeReg_sound ?_ | refine Dev_writeReg_kept ?_

theorem execVhpDatagramReceived_quiet {link : LinkIn} {ip : Word} {udp : BitVec 16} {bytes : List Byte} : Quiet s (execVhpDatagramReceived link ip udp bytes s) := by
  dsimp only [execVhpDatagramReceived]
  with_reducible repeat' first
    | refine Quiet.next ⟨fun h => ?_, fun h => ?_⟩ | assumption | refine Dev_frameCame_sound ?_ | refine Dev_frameCame_kept ?_
    | refine Dev_frameSeen_sound ?_ | refine Dev_frameSeen_kept ?_ | refine Dev_incReg_sound ?_ | refine Dev_incReg_kept ?_
    | refine Dev_orReg_sound ?_ | refine Dev_orReg_kept ?_ | refine Dev_eventRep_sound ?_ | refine Dev_eventRep_kept ?_
    | refine Dev_roastTestNow_sound ?_ | refine Dev_roastTestNow_kept ?_ | refine Dev_vhpReceive_sound ?_
    | refine Dev_vhpReceive_kept ?_ | split

theorem execArpRequest_quiet {link : LinkIn} {target senderIp : Word} {senderMac : BitVec 48} : Quiet s (execArpRequest link target senderIp senderMac s) := by
  dsimp only [execArpRequest]
  with_reducible repeat' first
    | refine Quiet.next ⟨fun h => ?_, fun h => ?_⟩ | assumption | refine Dev_sendRaw_sound ?_ | refine Dev_sendRaw_kept ?_
    | refine Dev_frameCame_sound ?_ | refine Dev_frameCame_kept ?_ | split

theorem execIcmpEchoRequest_quiet {link : LinkIn} {senderIp echo : Word} {data : List Byte} :
    Quiet s (execIcmpEchoRequest link senderIp echo data s) := by
  dsimp only [execIcmpEchoRequest]
  split
  · exact Quiet.next ⟨fun h => Dev_sendRaw_sound (Dev_modHost_sound rfl rfl h), fun h => Dev_sendRaw_kept (Dev_modHost_kept h)⟩
  · exact Quiet.next ⟨Dev_frameCame_sound, Dev_frameCame_kept⟩

theorem execEthernetLinkUp_quiet {port : HostPort} {fullDuplex : Bool} : Quiet s (execEthernetLinkUp port fullDuplex s) := by
  dsimp only [execEthernetLinkUp]
  split
  · exact Quiet.next ⟨fun h => Dev_sendRaw_sound (Dev_modHost_sound (executing_setLink ..) (queue_setLink ..) h),
      fun h => Dev_sendRaw_kept (Dev_modHost_kept h)⟩
  · exact Quiet.same

theorem execEthernetLinkLost_quiet {port : HostPort} : Quiet s (execEthernetLinkLost port s) :=
  Quiet.ite (Quiet.next
      ⟨fun h => Dev_event_sound (Dev_orReg_sound (Dev_modHost_sound (executing_setLink ..) (queue_setLink ..) h)),
        fun h => Dev_event_kept (Dev_orReg_kept (Dev_modHost_kept h))⟩) Quiet.same

theorem execTelegramDatagramReceived_quiet {link : LinkIn} {stamp : Nat} {bytes : List Byte} : Quiet s (execTelegramDatagramReceived link stamp bytes s) := by
  dsimp only [execTelegramDatagramReceived]
  with_reducible repeat' first
    | refine Quiet.next ⟨fun h => ?_, fun h => ?_⟩ | assumption | refine Dev_frameCame_sound ?_ | refine Dev_frameCame_kept ?_
    | refine Dev_frameSeen_sound ?_ | refine Dev_frameSeen_kept ?_ | refine Dev_roastTestNow_sound ?_
    | refine Dev_roastTestNow_kept ?_ | refine Dev_tgReceive_sound ?_ | refine Dev_tgReceive_kept ?_ | split

theorem execHostWatchdogExpiry_quiet : Quiet s (execHostWatchdogExpiry s) := by
  dsimp only [execHostWatchdogExpiry]
  split
  · exact Quiet.next
      ⟨fun h => Dev_event_sound (Sound.foldl (fun _ _ => Dev_sigQuality_sound) (Dev_orReg_sound (Dev_modHost_sound rfl rfl h))),
        fun h => Dev_event_kept (Kept.foldl (fun _ _ => Dev_sigQuality_kept) (Dev_orReg_kept (Dev_modHost_kept h)))⟩
  · exact Quiet.same

end Sys2Proof.Proofs
end

section
/-! SUPPORT. The requests of the host, and every command but those of the power states, of frames and of supplies: all are quiet. -/

namespace Sys2Proof.Proofs

open Sys2Proof.Machine Sys2Proof.Safety

variable {s : State}

/-! ### Requests of the host -/

theorem vhpFront_some {d : Dev} {test : VReq → Bool} {q : VReq} (h : d.vhpFront test = some q) :
    d.host.executing = false ∧ d.hostPortsUp = true ∧ test q = true := by
  unfold Dev.vhpFront at h
  split at h
  · exact absurd h nofun
  · split at h
    · next hc =>
      simp only [Bool.and_eq_true, Bool.not_eq_true'] at hc
      obtain ⟨⟨hx, hu⟩, ht⟩ := hc
      exact ⟨hx, hu, Option.some.inj h ▸ ht⟩
    · exact absurd h nofun

/-- A request executes only where none does: what holds for a module in which none executes holds in general. -/
theorem Calm.of_front {d d' : Dev} (hx : d.host.executing = false) (hs : ∀ {β}, Sound β false d → Sound β false d')
    (hk : ∀ {σ}, Kept σ d → Kept σ d') : Calm d d' := by
  refine ⟨fun {β ε} h => ?_, hk⟩
  have he : ε = false := h.executing.symm.trans hx
  subst he
  exact hs h

theorem vhpServe_quiet {test : VReq → Bool} {f : Dev → VReq → Dev × Nat × List Byte} (hf : ∀ d q, Calm d (f d q).1) :
    Quiet s (vhpServe test f s) := by
  unfold vhpServe
  split
  · exact Quiet.same
  · next q hq =>
    exact Quiet.next (.of_front (vhpFront_some hq).1 (Dev_vhpRun_sound fun x => (hf x q).sound)
      (Dev_vhpRun_kept fun x => (hf x q).kept))

theorem execVhpRegRead_quiet : Quiet s (execVhpRegRead s) := vhpServe_quiet fun _ _ => ⟨Dev_vhpRegRead_sound, Dev_vhpRegRead_kept⟩

theorem execVhpRegWrite_quiet : Quiet s (execVhpRegWrite s) := vhpServe_quiet fun _ _ => ⟨Dev_vhpRegWrite_sound, Dev_vhpRegWrite_kept⟩

theorem execIdent_quiet : Quiet s (execIdent s) := vhpServe_quiet fun _ _ => ⟨Dev_vhpIdent_sound, Dev_vhpIdent_kept⟩

theorem execCommission_quiet : Quiet s (execCommission s) := vhpServe_quiet fun _ _ => ⟨Dev_vhpCommission_sound, Dev_vhpCommission_kept⟩

theorem execSigRead_quiet : Quiet s (execSigRead s) := vhpServe_quiet fun _ _ => ⟨Dev_vhpSigRead_sound, Dev_vhpSigRead_kept⟩

theorem vhpSigWrite_quiet {test : VReq → Bool} : Quiet s (vhpServe test Dev.vhpSigWrite s) :=
  vhpServe_quiet fun _ _ => ⟨Dev_vhpSigWrite_sound, Dev_vhpSigWrite_kept⟩

theorem execUpdBlock_quiet {programmed : Bool} : Quiet s (execUpdBlock programmed s) :=
  vhpServe_quiet fun _ _ => ⟨fun h => Dev_updCode_sound (Dev_updBlock_sound h), fun h => Dev_updCode_kept (Dev_updBlock_kept h)⟩

theorem execUpdStatus_quiet : Quiet s (execUpdStatus s) := vhpServe_quiet fun d _ => .refl d

theorem execTrcRead_quiet : Quiet s (execTrcRead s) := vhpServe_quiet fun _ _ => ⟨Dev_dramBytes_sound, Dev_dramBytes_kept⟩

theorem execVhpCntRead_quiet : Quiet s (execVhpCntRead s) := vhpServe_quiet fun d _ => .refl d

theorem execRecReadRecords_quiet : Quiet s (execRecReadRecords s) := vhpServe_quiet fun d _ => .refl d

theorem execRecReadCapture_quiet : Quiet s (execRecReadCapture s) := vhpServe_quiet fun _ _ => ⟨Dev_dramBytes_sound, Dev_dramBytes_kept⟩

theorem execRecReadLifetime_quiet : Quiet s (execRecReadLifetime s) := vhpServe_quiet fun d _ => .refl d

theorem execRecChal_quiet {random : BitVec 128} : Quiet s (execRecChal random s) :=
  vhpServe_quiet fun _ _ => ⟨Dev_newChallenge_sound, Dev_newChallenge_kept⟩

theorem execRecClear_quiet : Quiet s (execRecClear s) := vhpServe_quiet fun _ _ => ⟨Dev_clearRequest_sound, Dev_clearRequest_kept⟩

theorem execNodeReq_quiet : Quiet s (execNodeReq s) := vhpServe_quiet fun _ _ => ⟨Dev_nodeRequest_sound, Dev_nodeRequest_kept⟩

theorem execNodeRead_quiet : Quiet s (execNodeRead s) := vhpServe_quiet fun _ _ => ⟨Dev_nodeRead_sound, Dev_nodeRead_kept⟩

theorem execStateInvalidTarget_quiet : Quiet s (execStateInvalidTarget s) := by
  unfold execStateInvalidTarget stateServe
  split
  · exact Quiet.same
  · next q hq =>
    exact Quiet.next (.of_front (vhpFront_some hq).1 (fun h => Sound.ite (Dev_respond_sound h) (Dev_answerState_sound h))
      fun h => Kept.ite (Dev_respond_kept h) (Dev_answerState_kept h))

/-! ### Every command but those of the power states, frames and supplies -/

/-- The commands that move the power state, the counts of frames and ticks, a reset, or the division. -/
def turnsPower : Instr → Bool
  | .frameBoundary _ => true
  | .coarseTick => true
  | .stateRun => true
  | .runBegin => true
  | .stateIdle => true
  | .departureComplete => true
  | .stateKeep => true
  | .stateRoast => true
  | .stateOff => true
  | .shutdownDrainComplete => true
  | .roastEnd _ _ _ => true
  | .roastAbort _ _ _ => true
  | .coldStart _ => true
  | .wakeStart _ => true
  | .resetStart _ => true
  | .startReachesIdle _ _ => true
  | .sagDivide _ _ => true
  | .sagStepBack _ => true
  | .brownout => true
  | .powerFailWarning _ => true
  | .powerFailOff => true
  | .rstnAssert => true
  | .rstnRelease => true
  | .rstnStuck => true
  | .rstnBackInService => true
  | _ => false

theorem exec_quiet (i : Instr) (hi : turnsPower i = false) : Quiet s (exec i s) := by
  cases i with
  | budgetExceeded => exact execBudgetExceeded_quiet
  | waitTimeExpiry => exact execWaitTimeExpiry_quiet
  | periodicTimer => exact execPeriodicTimer_quiet
  | backgroundTurnEnd => exact execBackgroundTurnEnd_quiet
  | postedWriteArrives => exact execPostedWriteArrives_quiet
  | add => exact quiet_execInstr fun _ _ => regs_calm ..
  | sub => exact quiet_execInstr fun _ _ => regs_calm ..
  | and => exact quiet_execInstr fun _ _ => regs_calm ..
  | or => exact quiet_execInstr fun _ _ => regs_calm ..
  | xor => exact quiet_execInstr fun _ _ => regs_calm ..
  | shl => exact quiet_execInstr fun _ _ => regs_calm ..
  | shr => exact quiet_execInstr fun _ _ => regs_calm ..
  | sar => exact quiet_execInstr fun _ _ => regs_calm ..
  | min => exact quiet_execInstr fun _ _ => regs_calm ..
  | max => exact quiet_execInstr fun _ _ => regs_calm ..
  | cmp => exact quiet_execInstr fun _ _ => regs_calm ..
  | tst => exact quiet_execInstr fun _ _ => regs_calm ..
  | mul => exact quiet_execInstr fun _ _ => regs_calm ..
  | mulh => exact quiet_execInstr fun _ _ => regs_calm ..
  | mulhu => exact quiet_execInstr fun _ _ => regs_calm ..
  | div => exact quiet_execInstr fun _ _ => regs_calm ..
  | divu => exact quiet_execInstr fun _ _ => regs_calm ..
  | rem => exact quiet_execInstr fun _ _ => regs_calm ..
  | adds => exact quiet_execInstr fun _ _ => regs_calm ..
  | subs => exact quiet_execInstr fun _ _ => regs_calm ..
  | mulq => exact quiet_execInstr fun _ _ => regs_calm ..
  | divq => exact quiet_execInstr fun _ _ => regs_calm ..
  | abss => exact quiet_execInstr fun _ _ => regs_calm ..
  | negs => exact quiet_execInstr fun _ _ => regs_calm ..
  | shls => exact quiet_execInstr fun _ _ => regs_calm ..
  | clamp => exact quiet_execInstr fun _ _ => regs_calm ..
  | addi => exact quiet_execInstr fun _ _ => regs_calm ..
  | andi => exact quiet_execInstr fun _ _ => regs_calm ..
  | ori => exact quiet_execInstr fun _ _ => regs_calm ..
  | xori => exact quiet_execInstr fun _ _ => regs_calm ..
  | shli => exact quiet_execInstr fun _ _ => regs_calm ..
  | shri => exact quiet_execInstr fun _ _ => regs_calm ..
  | sari => exact quiet_execInstr fun _ _ => regs_calm ..
  | cmpi => exact quiet_execInstr fun _ _ => regs_calm ..
  | ldu => exact quiet_execInstr fun _ _ => regs_calm ..
  | ldW => exact quiet_execInstr fun _ _ => loadEffect_calm
  | ldH => exact quiet_execInstr fun _ _ => loadEffect_calm
  | ldHU => exact quiet_execInstr fun _ _ => loadEffect_calm
  | ldB => exact quiet_execInstr fun _ _ => loadEffect_calm
  | ldBU => exact quiet_execInstr fun _ _ => loadEffect_calm
  | stW => exact quiet_execInstr fun _ _ => storeEffect_calm
  | stH => exact quiet_execInstr fun _ _ => storeEffect_calm
  | stB => exact quiet_execInstr fun _ _ => storeEffect_calm
  | ldcW => exact quiet_execInstr fun _ _ => ldcEffect_calm
  | srd => exact quiet_execInstr fun _ _ => readEffect_calm
  | srdq => exact quiet_execInstr fun _ _ => readEffect_calm
  | swr => exact quiet_execInstr fun _ _ => writeEffect_calm
  | swri => exact quiet_execInstr fun _ _ => writeEffect_calm
  | b => exact quiet_execInstr fun _ _ => branchEffect_calm
  | bl => exact quiet_execInstr fun _ _ => branchEffect_calm
  | jr => exact quiet_execInstr fun _ _ => jumpEffect_calm
  | callr => exact quiet_execInstr fun _ _ => jumpEffect_calm
  | endTask => exact quiet_execInstr fun _ _ => endEffect_calm
  | yield => exact quiet_execInstr fun _ _ => yieldEffect_calm
  | waitEv => exact quiet_execInstr fun _ _ => waitEffect_calm
  | waitF => exact quiet_execInstr fun _ _ => waitEffect_calm
  | waitT => exact quiet_execInstr fun _ _ => waitTimeEffect_calm
  | axsel => exact quiet_execInstr fun _ _ => axselEffect_calm
  | mvStart => exact quiet_execInstr fun _ _ => motionEffect_calm
  | mvStop => exact quiet_execInstr fun _ _ => motionEffect_calm
  | mvSpeed => exact quiet_execInstr fun _ _ => motionEffect_calm
  | mvAccel => exact quiet_execInstr fun _ _ => motionEffect_calm
  | mvHome => exact quiet_execInstr fun _ _ => motionEffect_calm
  | mvGear => exact quiet_execInstr fun _ _ => motionEffect_calm
  | mvMode => exact quiet_execInstr fun _ _ => motionEffect_calm
  | recPut => exact quiet_execInstr fun _ _ => recPutEffect_calm
  | confirm => exact quiet_execInstr fun _ _ => confirmEffect_calm
  | sysRegRead => exact quiet_execInstr fun _ _ => regReadEffect_calm
  | sysRegWrite => exact quiet_execInstr fun _ _ => regWriteEffect_calm
  | trcMark => exact quiet_execInstr fun _ _ => trcMarkEffect_calm
  | sysCntRead => exact quiet_execInstr fun _ _ => cntReadEffect_calm
  | imgState => exact quiet_execInstr fun _ _ => service_calm _ _ _ _ _ Calm.refl
  | axCtrl => exact quiet_execInstr fun _ _ => axCtrlEffect_calm
  | instRestart => exact quiet_execInstr fun _ _ => instRestartEffect_calm
  | sysNoService => exact quiet_execInstr fun _ _ => refused_calm ..
  | undefinedEncoding => exact execUndefinedEncoding_quiet
  | sfInstrst => exact execSfInstrst_quiet
  | restartCheck => exact execRestartCheck_quiet
  | sfPeakclr _ value => exact execSfPeakclr_quiet (value := value)
  | registerWrite => exact execRegisterWrite_quiet
  | sysOptloRead => exact execSysOptloRead_quiet
  | axCfgWrite => exact execAxCfgWrite_quiet
  | plcMigreq => exact execPlcMigreq_quiet
  | migrationPreparationEnd => exact execMigrationPreparationEnd_quiet
  | migrationCopyFrame => exact execMigrationCopyFrame_quiet
  | migrationSwitch => exact execMigrationSwitch_quiet
  | moveEnd => exact execMoveEnd_quiet
  | holdAmplitude => exact execHoldAmplitude_quiet
  | upstreamFrameReceived => exact execUpstreamFrameReceived_quiet
  | portLost => exact execPortLost_quiet
  | nodesBeyondBreakLost => exact execNodesBeyondBreakLost_quiet
  | channelLost => exact execChannelLost_quiet
  | autorstLinkStart => exact execAutorstLinkStart_quiet
  | strCmdStart => exact execStrCmdStart_quiet
  | strCmdStop => exact execStrCmdStop_quiet
  | trainComplete => exact execTrainComplete_quiet
  | linkStartTimeout => exact execLinkStartTimeout_quiet
  | startFrame => exact execStartFrame_quiet
  | bulkReplyTimeout => exact execBulkReplyTimeout_quiet
  | listenFrameReceived => exact execListenFrameReceived_quiet
  | safetyHoldRelease => exact execSafetyHoldRelease_quiet
  | safetyCycle => exact execSafetyCycle_quiet
  | loopSwitchOn => exact execLoopSwitchOn_quiet
  | safeTelegramCopy => exact execSafeTelegramCopy_quiet
  | singlePathWindowEnd => exact execSinglePathWindowEnd_quiet
  | telegramTimeout => exact execTelegramTimeout_quiet
  | safCmdAck => exact execSafCmdAck_quiet
  | safCmdReset => exact execSafCmdReset_quiet
  | safCmdLoopReset => exact execSafCmdLoopReset_quiet
  | safUnlock => exact execSafUnlock_quiet
  | unlockExpiry => exact execUnlockExpiry_quiet
  | safParameterWrite => exact execSafParameterWrite_quiet
  | checkRecomputed => exact execCheckRecomputed_quiet
  | commission => exact execCommission_quiet
  | testDue => exact execTestDue_quiet
  | barrierFrameReceived => exact execBarrierFrameReceived_quiet
  | barrierLinkLost => exact execBarrierLinkLost_quiet
  | barrierLinkUp => exact execBarrierLinkUp_quiet
  | huskFrameReceived => exact execHuskFrameReceived_quiet
  | soCommandLossOff => exact execSoCommandLossOff_quiet
  | barrierWatchdogTrip => exact execBarrierWatchdogTrip_quiet
  | recoveryEnd => exact execRecoveryEnd_quiet
  | v24fUndervoltage => exact execV24fUndervoltage_quiet
  | undervoltageEnd => exact execUndervoltageEnd_quiet
  | huskReset => exact execHuskReset_quiet
  | hsDeferredApply => exact execHsDeferredApply_quiet
  | hsLimitTrip => exact execHsLimitTrip_quiet
  | hsCurveTrip => exact execHsCurveTrip_quiet
  | hsThermalTrip => exact execHsThermalTrip_quiet
  | hsRetry => exact execHsRetry_quiet
  | hsCooled => exact execHsCooled_quiet
  | gangRaisedLimitEnd => exact execGangRaisedLimitEnd_quiet
  | hsOpenLoadOnstate => exact execHsOpenLoadOnstate_quiet
  | offstateOpenLoadCheck => exact execOffstateOpenLoadCheck_quiet
  | soOverloadOff => exact execSoOverloadOff_quiet
  | drvEdge => exact execDrvEdge_quiet
  | fldConfigWrite => exact execFldConfigWrite_quiet
  | pairFrameReceived => exact execPairFrameReceived_quiet
  | roleClaim => exact execRoleClaim_quiet
  | takeover => exact execTakeover_quiet
  | pairCmdSwap => exact execPairCmdSwap_quiet
  | swapTakeRole => exact execSwapTakeRole_quiet
  | swapDue => exact execSwapDue_quiet
  | pairPortDown => exact execPairPortDown_quiet
  | roleDisagree => exact execRoleDisagree_quiet
  | pairCfgWrite => exact execPairCfgWrite_quiet
  | vhpDatagramReceived => exact execVhpDatagramReceived_quiet
  | vhpRegRead => exact execVhpRegRead_quiet
  | vhpRegWrite => exact execVhpRegWrite_quiet
  | sigRead => exact execSigRead_quiet
  | sigWrite => exact vhpSigWrite_quiet
  | sigWriteInvalid => exact vhpSigWrite_quiet
  | sigForce => exact vhpSigWrite_quiet
  | sigRelease => exact vhpSigWrite_quiet
  | stateInvalidTarget => exact execStateInvalidTarget_quiet
  | ident => exact execIdent_quiet
  | updBlock => exact execUpdBlock_quiet
  | updStatus => exact execUpdStatus_quiet
  | recReadRecords => exact execRecReadRecords_quiet
  | recReadCapture => exact execRecReadCapture_quiet
  | recReadLifetime => exact execRecReadLifetime_quiet
  | recChal => exact execRecChal_quiet
  | recClear => exact execRecClear_quiet
  | trcRead => exact execTrcRead_quiet
  | vhpCntRead => exact execVhpCntRead_quiet
  | nodeReq => exact execNodeReq_quiet
  | nodeRead => exact execNodeRead_quiet
  | telegramDatagramReceived => exact execTelegramDatagramReceived_quiet
  | arpRequest => exact execArpRequest_quiet
  | icmpEchoRequest => exact execIcmpEchoRequest_quiet
  | ethernetLinkUp => exact execEthernetLinkUp_quiet
  | ethernetLinkLost => exact execEthernetLinkLost_quiet
  | hostWatchdogExpiry => exact execHostWatchdogExpiry_quiet
  | hostCfgsave => exact execHostCfgsave_quiet
  | canCtrlEnable => exact execCanCtrlEnable_quiet
  | canCtrlDisable => exact execCanCtrlDisable_quiet
  | canTimingWrite => exact execCanTimingWrite_quiet
  | canObjectConfigWrite => exact execCanObjectConfigWrite_quiet
  | canFrameReceived => exact execCanFrameReceived_quiet
  | canLockTimeout => exact execCanLockTimeout_quiet
  | canRxTimeout => exact execCanRxTimeout_quiet
  | canTransmitAttempt => exact execCanTransmitAttempt_quiet
  | canAttemptEnd => exact execCanAttemptEnd_quiet
  | canCmdRecover => exact execCanCmdRecover_quiet
  | canRecoveryEnd => exact execCanRecoveryEnd_quiet
  | recordCommit => exact execRecordCommit_quiet
  | lifetimeBlockCommit => exact execLifetimeBlockCommit_quiet
  | repeatWordRewrite => exact execRepeatWordRewrite_quiet
  | repeatWindowEnd => exact execRepeatWindowEnd_quiet
  | recAnccmd => exact execRecAnccmd_quiet
  | recKeycmd => exact execRecKeycmd_quiet
  | clearLockoutEnd => exact execClearLockoutEnd_quiet
  | updCmdBegin => exact execUpdCmdBegin_quiet
  | updCmdFinish => exact execUpdCmdFinish_quiet
  | updCmdAbort => exact execUpdCmdAbort_quiet
  | eraseComplete => exact execEraseComplete_quiet
  | confirmComplete => exact execConfirmComplete_quiet
  | operatingMinute => exact execOperatingMinute_quiet
  | trialExpiry => exact execTrialExpiry_quiet
  | trcCmdFreeze => exact execTrcCmdFreeze_quiet
  | trcCmdResume => exact execTrcCmdResume_quiet
  | trcCmdCntclr => exact execTrcCmdCntclr_quiet
  | canBusError => exact execCanBusError_quiet
  | onstateOpenLoadClear => exact execOnstateOpenLoadClear_quiet
  | roleOutFrameEngineTimeout => exact execRoleOutFrameEngineTimeout_quiet
  | frameBoundary | coarseTick | stateRun | runBegin | stateIdle | departureComplete | stateKeep | stateRoast | stateOff | shutdownDrainComplete | roastEnd | roastAbort | coldStart | wakeStart | resetStart | startReachesIdle | sagDivide | sagStepBack | brownout | powerFailWarning | powerFailOff | rstnAssert | rstnRelease | rstnStuck | rstnBackInService => exact absurd hi nofun

end Sys2Proof.Proofs
end

section
/-! SUPPORT. Frames, coarse ticks, state changes, starts, resets and supplies: what each leaves of the queues and of the power state. -/

namespace Sys2Proof.Proofs

open Sys2Proof.Machine Sys2Proof.Safety

variable {s : State} {d d' : Dev} {β : Prop} {ε : Bool}

/-! ### The phase of a module -/

/-- What the invariant of the power states speaks of in the system's state, and the frame count. -/
structure Phase where
  power : Power
  frame : Word
  entering : Bool
  leaving : Bool
  shutdown : Option (Power × ShutStage)
  starting : Option StartKind
  reset : Option ResetCause
  vinFailed : Bool
  div : Nat

/-- The phase of a system's state. -/
def phase (y : Sys) : Phase :=
  { power := y.power, frame := y.frame, entering := y.entering, leaving := y.leaving, shutdown := y.shutdown, starting := y.starting,
    reset := y.reset, vinFailed := y.vinFailed, div := y.div }

/-- The invariant of the power states, of a phase and of whether the front request is executing. -/
def PhaseInv (p : Phase) (x : Bool) : Prop :=
  (p.entering = true → p.power = .idle ∧ x = true ∧ p.shutdown = none) ∧
  (p.leaving = true → p.power = .run ∧ x = true ∧ ∀ t, p.shutdown ≠ some (t, .draining)) ∧
  (∀ t, p.shutdown = some (t, .draining) → p.power = .idle ∧ x = true) ∧
  (∀ t, p.shutdown = some (t, .departing) → p.leaving = true) ∧
  (p.starting ≠ none → p.power = .keep ∧ p.reset = none) ∧ (p.reset ≠ none → p.power = .keep) ∧
  (p.vinFailed = true → p.power = .keep ∧ p.reset ≠ none) ∧ (p.div = 1 ∨ p.div = 2 ∨ p.div = 4)

theorem powerInv_iff (d : Dev) : powerInv d ↔ PhaseInv (phase d.sys) d.host.executing := Iff.rfl

theorem phase_of_fixed {x y : Sys} (h : x.fixed = y.fixed) : phase x = phase y :=
  have e : phase x.fixed = phase y.fixed := congrArg phase h
  e

theorem phase_of_kept {y : Sys} (h : Kept y.fixed d) : phase d.sys = phase y := phase_of_fixed h

theorem Calm.phase (h : Calm d d') : phase d'.sys = phase d.sys := phase_of_fixed (h.kept rfl)

theorem Calm.executing (h : Calm d d') : d'.host.executing = d.host.executing := (h.sound (Sound.start d)).executing

/-- From one module to another, both invariants are kept. -/
structure Orderly (d d' : Dev) : Prop where
  queues : queueInv d → queueInv d'
  phases : powerInv d → powerInv d'

theorem Orderly.of_sound (hs : Sound (queueInv d) ε d')
    (hp : PhaseInv (phase d.sys) d.host.executing → PhaseInv (phase d'.sys) ε) : Orderly d d' :=
  ⟨hs.queueInv, fun h => by rw [powerInv_iff, hs.executing]; exact hp h⟩

theorem Calm.orderly (h : Calm d d') : Orderly d d' :=
  .of_sound (h.sound (Sound.start d)) fun hp => h.phase.symm ▸ hp

/-- A phase in which a request of the host has just come to the front: nothing is entered, left or shut down. -/
theorem PhaseInv.of_front {p : Phase} (h : PhaseInv p false) : p.entering = false ∧ p.leaving = false ∧ p.shutdown = none := by
  obtain ⟨he, hl, hd, hp, -⟩ := h
  have hl' : p.leaving = false := Bool.eq_false_iff.2 fun h => absurd (hl h).2.1 nofun
  refine ⟨Bool.eq_false_iff.2 fun h => absurd (he h).2.1 nofun, hl', ?_⟩
  cases hs : p.shutdown with
  | none => rfl
  | some t =>
    obtain ⟨t, st⟩ := t
    cases st with
    | draining => exact absurd (hd t hs).2 nofun
    | departing => exact absurd (hl' ▸ hp t hs) nofun

/-! ### Frames and coarse ticks -/

theorem Dev_reportLoad_sound {c : Nat} (h : Sound β ε d) : Sound β ε (d.reportLoad c) :=
  Sound.mk (Dev_devNat_sound (Dev_setRegFld_sound (Dev_setRegFld_sound h)))

theorem Dev_yieldToCoarse_sound {c : Nat} (h : Sound β ε d) : Sound β ε (d.yieldToCoarse c) := by
  unfold Dev.yieldToCoarse
  extract_lets k
  split
  · exact Dev_choose_sound h
  · exact Sound.ite (Dev_choose_sound (Dev_preempt_sound h)) h

theorem Dev_coarseTick_sound (h : Sound β ε d) : Sound β ε d.coarseTick :=
  Dev_buildSignatures_sound (Sound.foldl (fun _ _ => Dev_yieldToCoarse_sound) (Dev_coarseReleases_sound (Dev_migrationTakeup_sound
    (Dev_migrationDecision_sound (Sound.foldl (fun _ _ => Dev_reportLoad_sound) (Dev_modSys_sound h))))))

theorem Dev_openClock_sound (h : Sound β ε d) : Sound β ε d.openClock :=
  Dev_devNat_sound (Dev_devNat_sound (Dev_devSig_sound (Dev_modSys_sound h)))

theorem Dev_sampleRail_sound {mv : BitVec 16} (h : Sound β ε d) : Sound β ε (d.sampleRail mv) := h.mk

theorem Dev_sampleVin_sound {v : BitVec 16} (h : Sound β ε d) : Sound β ε (d.sampleVin v) := h.mk

theorem Dev_sampleSupplies_sound (h : Sound β ε d) : Sound β ε d.sampleSupplies :=
  Dev_sampleVin_sound (Dev_sampleRail_sound (Dev_nextFree_sound h))

theorem Dev_turnFrame_sound (h : Sound β ε d) : Sound β ε d.turnFrame := by
  unfold Dev.turnFrame
  extract_lets d1 r x d2 d3 d4 d5
  have h2 : Sound β ε d2 := ⟨h.executing, h.pendq, h.queue, h.promos, h.fifo, h.buffer⟩
  have h3 : Sound β ε d3 := Dev_sampleSupplies_sound (Dev_openClock_sound h2)
  have h4 : Sound β ε d4 := Sound.ite (Dev_hsSnapshot_sound h3) h3
  have h5 : Sound β ε d5 := Sound.ite (Dev_closeTick_sound h4) h4
  exact Sound.foldl (fun _ _ hx => Dev_flushFaults_sound (Dev_openCore_sound hx)) h5

theorem Dev_openCores_sound (h : Sound β ε d) : Sound β ε d.openCores :=
  Sound.foldl (fun _ _ => Dev_choose_sound) (Dev_modSys_sound (Sound.foldl (fun _ _ => Dev_openRound_sound) h))

theorem Dev_openFrame_sound {r : Bool} (h : Sound β ε d) : Sound β ε (d.openFrame r) := by
  unfold Dev.openFrame
  extract_lets u d1 d2
  have h1 : Sound β ε d1 := Dev_sendPair_sound (Dev_portsFrame_sound (Dev_pairBoundary_sound (Dev_turnFrame_sound h)))
  have h2 : Sound β ε d2 := Dev_countEvent_sound (Dev_drainTrace_sound (Dev_traceSync_sound h1))
  exact Dev_openCores_sound h2

theorem Dev_roastFrame_sound (h : Sound β ε d) : Sound β ε d.roastFrame :=
  Dev_sampleSupplies_sound (Dev_openClock_sound (h.host rfl rfl))

/-- A command of the power states answers a next state with both invariants. -/
def Ordered (s : State) (o : Host.Outcome State Fault Refusal) : Prop := ∃ d, o = .next { s with dev := d } ∧ Orderly s.dev d

theorem Orderly.refl (d : Dev) : Orderly d d := ⟨id, id⟩

theorem Ordered.same : Ordered s (.next s) := ⟨s.dev, rfl, .refl _⟩

theorem Ordered.next (h : Orderly s.dev d) : Ordered s (.next { s with dev := d }) := ⟨d, rfl, h⟩

theorem Orderly.of_phase (hs : ∀ {β ε}, Sound β ε d → Sound β ε d')
    (hp : PhaseInv (phase d.sys) d.host.executing → PhaseInv (phase d'.sys) d.host.executing) : Orderly d d' :=
  .of_sound (hs (Sound.start d)) hp

theorem phase_openFrame (d : Dev) (r : Bool) : phase (d.openFrame r).sys = { phase d.sys with frame := d.sys.frame + 1 } := by
  obtain ⟨k, hk⟩ := Dev_openFrame_sys (d := d) (r := r)
  exact phase_of_fixed hk

theorem phase_sampleSupplies (d : Dev) : phase d.sampleSupplies.sys = phase d.sys :=
  phase_of_kept (y := d.sys.fixed.supplied d.sys.free) Dev_sampleSupplies_sys

theorem phase_roastFrame (d : Dev) : phase d.roastFrame.sys = { phase d.sys with frame := d.sys.frame + 1 } := by
  have hc (x : Dev) : phase x.openClock.sys = { phase x.sys with frame := x.sys.frame + 1 } := phase_of_fixed Dev_openClock_sys
  rw [Dev.roastFrame, phase_sampleSupplies, hc]

theorem phase_closeFrame (d : Dev) : phase d.closeFrame.sys = phase d.sys := phase_of_fixed (Dev_closeFrame_kept rfl)

theorem phase_frameBoundary (d : Dev) (r : Bool) :
    phase (d.closeFrame.openFrame r).sys = { phase d.sys with frame := d.sys.frame + 1 } := by
  have h := phase_closeFrame d
  rw [phase_openFrame, h]
  exact congrArg (fun f => ({ phase d.sys with frame := f + 1 } : Phase)) (congrArg Phase.frame h)

theorem execFrameBoundary_ordered {roleIn : Bool} : Ordered s (execFrameBoundary roleIn s) := by
  unfold execFrameBoundary
  split
  · exact .next (.of_phase (fun h => Dev_openFrame_sound (Dev_closeFrame_sound h)) fun h => (phase_frameBoundary ..).symm ▸ h)
  · split
    · exact .next (.of_phase Dev_roastFrame_sound fun h => (phase_roastFrame _).symm ▸ h)
    · exact .same

/-! ### What the power states' operations leave of the phase -/

theorem phase_modSys (d : Dev) (f : Sys → Sys) : phase (d.modSys f).sys = phase (f d.sys) := rfl

theorem phase_enterRun {q : VReq} (h : d.runChecks.2 = 0) :
    phase (d.enterRun q).sys = { phase d.sys with entering := true } := by
  unfold Dev.enterRun
  rw [if_neg (not_not.2 h)]
  have hr : phase d.runChecks.1.sys = phase d.sys := phase_of_kept (Dev_runChecks_kept rfl)
  have hk := phase_of_kept (Dev_showPower_kept
    (d := (d.runChecks.1.modSys fun y => { y with entering := true, enterAt := some d.sys.frame }).holdFront) rfl)
  exact hk.trans (congrArg (fun p => ({ p with entering := true } : Phase)) hr)

theorem phase_depart (d : Dev) : phase d.depart.sys = { phase d.sys with leaving := true } := by
  unfold Dev.depart
  extract_lets d1 d2 d3
  have h2 : Kept (Sys.fixed { d.sys with leaving := true, departAt := some d.sys.frame }) d2 := rfl
  have h3 : Kept _ d3 := Kept.foldl (fun x n hx => by
    dsimp only
    split
    · exact hx
    · exact Dev_raiseStop_kept hx) h2
  exact phase_of_kept (Dev_showPower_kept (Dev_dropMigration_kept (Dev_hsZero_kept h3)))

theorem phase_drain (d : Dev) (target : Power) :
    phase (d.drain target).sys = { phase d.sys with shutdown := some (target, .draining) } := by
  unfold Dev.drain
  extract_lets d1
  have h1 : phase d1.sys = phase d.sys := phase_of_kept (Kept.ite rfl rfl : Kept d.sys.fixed d1)
  exact congrArg (fun p => ({ p with shutdown := some (target, .draining) } : Phase)) h1

theorem phase_leaveRun (d : Dev) : phase d.leaveRun.sys = { phase d.sys with power := .idle, leaving := false } := by
  unfold Dev.leaveRun
  extract_lets d1 d2
  have h1 : Kept d.sys.fixed d1 := Kept.foldl (fun x n hx => Dev_axisOff_kept (Kept.ite hx (Dev_orReg_kept (Dev_event_kept hx)))) rfl
  have h2 := phase_of_kept (Dev_loopsOff_kept (Dev_hsZero_kept h1))
  have h3 : phase d2.sys = { phase (d1.hsZero.loopsOff).sys with power := .idle, leaving := false } :=
    phase_of_kept (Dev_showPower_kept rfl)
  have h4 : phase (d2.enabledPorts.foldl (fun d p => d.beginLink p) d2).sys = phase d2.sys :=
    phase_of_kept (Kept.foldl (fun _ _ => Dev_beginLink_kept) (rfl : Kept d2.sys.fixed d2))
  rw [h4, h3, h2]

/-- The system state as RUN begins. -/
def enteredSys (y : Sys) : Sys :=
  { y with power := .run, entering := false, enterAt := none, runFrame := y.frame, runFrames := 0, railLow := y.rail,
           lastTick := some y.frame, boundary := false }

theorem kept_runEntry (d : Dev) : Kept (enteredSys d.sys).fixed d.runEntry := by
  unfold Dev.runEntry
  extract_lets d1 d2 d3 d4 d5 r d6 d7 d8 d9 d10 d11 d12 d13
  have h0 : ({ d1.sys with boundary := false } : Sys) = enteredSys d.sys := rfl
  clear_value d1
  have h1 : Kept d1.sys.fixed d1 := rfl
  have h2 : Kept d1.sys.fixed d2 := Kept.foldl (fun x n hx => Dev_motionSlots_kept (Dev_setReg_kept (Dev_setReg_kept
    (Dev_setReg_kept (Dev_devSig_kept (Dev_setAxis_kept (Dev_setAxis_kept hx))))))) h1
  clear_value d2
  have h4 : Kept d1.sys.fixed d4 := Dev_loadImage_kept (Dev_placerRunEntry_kept (Dev_islandRunEntry_kept (Dev_cyclesRunEntry_kept h2)))
  have h8 : Kept d1.sys.fixed d8 := Dev_fieldRunEntry_kept h4
  clear_value d8
  have h10 : Kept d1.sys.fixed d10 := Dev_showPower_kept (Kept.foldl (fun _ _ => Dev_axisRestore_kept) h8)
  clear_value d10
  have h11 : Kept d1.sys.fixed d11 :=
    Kept.foldl (fun x c hx => Kept.ite (Dev_startRound_kept (Dev_setCore_kept hx)) (Dev_setCore_kept hx)) h10
  clear_value d11
  have h12 : d12.sys.fixed = d1.sys.fixed := Dev_coarseReleases_kept (Dev_migrationTakeup_kept h11)
  clear_value d12
  have h13 : d13.sys.fixed = (enteredSys d.sys).fixed := by
    rw [← h0]
    exact congrArg (fun y : Sys => { y with boundary := false }) h12
  exact Kept.foldl (fun _ _ => Dev_choose_kept) h13

theorem phase_runEntry (d : Dev) : phase d.runEntry.sys = { phase d.sys with power := .run, entering := false } :=
  phase_of_kept (kept_runEntry d)

theorem phase_toRest (d : Dev) (target : Power) :
    phase (d.toRest target).sys = { phase d.sys with power := target, shutdown := none } := by
  have h := phase_of_kept (Dev_fieldOff_kept (Dev_loopsOff_kept (Dev_portsStop_kept (host := true) (rfl : Kept d.sys.fixed d))))
  unfold Dev.toRest
  rw [phase_of_kept (Dev_showPower_kept rfl)]
  exact congrArg (fun p => ({ p with power := target, shutdown := none } : Phase)) h

theorem phase_beginRoast (d : Dev) : phase d.beginRoast.sys = { phase d.sys with power := .roast, shutdown := none } := by
  have h := phase_of_kept (Dev_fieldRoast_kept (hold := true) (Dev_loopsOff_kept (Dev_portsStop_kept (host := false)
    (rfl : Kept d.sys.fixed d))))
  unfold Dev.beginRoast
  rw [phase_of_kept (Dev_showPower_kept rfl)]
  exact congrArg (fun p => ({ p with power := .roast, shutdown := none } : Phase)) h

/-- A start of some kind is in progress. -/
def startPhase (kind : StartKind) : Phase :=
  { power := .keep, frame := 0, entering := false, leaving := false, shutdown := none, starting := some kind, reset := none,
    vinFailed := false, div := 1 }

/-- The system state as a start begins. -/
def startedSys (y : Sys) (kind : StartKind) : Sys :=
  { power := .keep, frame := 0, opTime := y.opTime, pwrCyc := if kind == .cold then y.pwrCyc + 1 else y.pwrCyc,
    minutes := y.minutes, starting := some kind, rstnLow := y.rstnLow, rstIgn := y.rstIgn,
    optHi := BitVec.ofNat 16 (y.opTime.toNat / 2 ^ 32), noRoast := y.noRoast,
    runHold := y.runHold, roastIsland := y.roastIsland, runSinceRoast := y.runSinceRoast,
    roastAborted := y.roastAborted, free := y.free }

theorem kept_start (d : Dev) (kind : StartKind) (ok : Bool) : Kept (startedSys d.sys kind).fixed (d.start kind ok) := by
  unfold Dev.start
  extract_lets cold y clears isle codes sys r u d1 d2 d3 d4 d5
  have h2 : Kept (startedSys d.sys kind).fixed d2 := rfl
  have h4 : Kept _ d4 := Kept.foldl (fun _ _ hx => Dev_orReg_kept (Dev_event_kept hx)) (Dev_recorderStart_kept h2)
  have h5 : Kept _ d5 := Dev_bootImage_kept h4
  split
  · exact h5
  · exact Dev_placeImage_kept (Dev_loadParams_kept (Dev_loadConfig_kept h5))

theorem phase_start (d : Dev) (kind : StartKind) (ok : Bool) : phase (d.start kind ok).sys = startPhase kind :=
  phase_of_kept (kept_start d kind ok)

/-- The phase of a module in a reset of some cause. -/
def resetPhase (p : Phase) (c : ResetCause) : Phase :=
  { p with power := .keep, entering := false, leaving := false, shutdown := none, starting := none, div := 1, reset := some c }

theorem phase_holdReset (d : Dev) (cause : ResetCause) (code : Nat) (lose : Recorder → Recorder) :
    ∃ c, phase (d.holdReset cause code lose).sys = resetPhase (phase d.sys) c := by
  unfold Dev.holdReset
  extract_lets y roast d1 d2 d3
  have h1 : Kept d.sys.fixed d1 := Dev_loopsOff_kept (Dev_portsStop_kept rfl)
  have h2 : phase d2.sys = phase d.sys := phase_of_kept (Kept.ite (Dev_cutEngine_kept h1) h1)
  have h3 : phase d3.sys = phase d.sys := h2
  clear_value d3
  cases hr : d3.sys.reset with
  | none => exact ⟨cause, by rw [← h3, phase_modSys]; simp only [phase, resetPhase, hr]⟩
  | some c => exact ⟨c, by rw [← h3, phase_modSys]; simp only [phase, resetPhase, hr]⟩

/-! ### What the power states' operations leave of the queues -/

theorem Dev_depart_sound (h : Sound β ε d) : Sound β ε d.depart := by
  unfold Dev.depart
  extract_lets d1 d2 d3
  have h2 : Sound β ε d2 := (Dev_modSys_sound h : Sound β ε d1).mk
  have h3 : Sound β ε d3 := Sound.foldl (fun x n hx => by
    dsimp only
    split
    · exact hx
    · exact Dev_raiseStop_sound hx) h2
  exact Dev_showPower_sound (Dev_dropMigration_sound (Dev_hsZero_sound h3))

theorem Dev_drain_sound {target : Power} (h : Sound β ε d) : Sound β ε (d.drain target) := by
  unfold Dev.drain
  extract_lets d1
  exact Dev_modSys_sound (Sound.ite (Dev_modPair_sound h) h : Sound β ε d1)

theorem Dev_leaveRun_sound (h : Sound β ε d) : Sound β ε d.leaveRun := by
  unfold Dev.leaveRun
  extract_lets d1 d2
  have h1 : Sound β ε d1 :=
    Sound.foldl (fun x n hx => Dev_axisOff_sound (Sound.ite hx (Dev_orReg_sound (Dev_event_sound hx)))) h
  have h2 : Sound β ε d2 := Dev_showPower_sound (Dev_modSys_sound (Dev_loopsOff_sound (Dev_hsZero_sound h1)))
  exact Sound.foldl (fun _ _ => Dev_beginLink_sound) h2

theorem Dev_runEntry_sound (h : Sound β ε d) : Sound β ε d.runEntry := by
  unfold Dev.runEntry
  extract_lets d1 d2 d3 d4 d5 r d6 d7 d8 d9 d10 d11 d12 d13
  have h2 : Sound β ε d2 := Sound.foldl (fun x n hx => Dev_motionSlots_sound (Dev_setReg_sound (Dev_setReg_sound
    (Dev_setReg_sound (Dev_devSig_sound (Dev_setAxis_sound (Dev_setAxis_sound hx))))))) (Dev_modSys_sound h)
  clear_value d2
  have h5 : Sound β ε d5 := Dev_fieldRunEntry_sound (Dev_loadImage_sound (Dev_placerRunEntry_sound (Dev_islandRunEntry_sound
    (Dev_cyclesRunEntry_sound h2))))
  have h6 : Sound β ε d6 := h5.recorder rfl
  have h8 : Sound β ε d8 := (Dev_modPair_sound h6 : Sound β ε d7).mk
  clear_value d8
  have h10 : Sound β ε d10 := Dev_showPower_sound (Sound.foldl (fun _ _ => Dev_axisRestore_sound) h8)
  clear_value d10
  have h11 : Sound β ε d11 :=
    Sound.foldl (fun x c hx => Sound.ite (Dev_startRound_sound (Dev_setCore_sound hx)) (Dev_setCore_sound hx)) h10
  clear_value d11
  have h13 : Sound β ε d13 := Dev_modSys_sound (Dev_coarseReleases_sound (Dev_migrationTakeup_sound h11))
  exact Sound.foldl (fun _ _ => Dev_choose_sound) h13

theorem Dev_toRest_sound {target : Power} (h : Sound β ε d) : Sound β false (d.toRest target) :=
  Dev_showPower_sound (Dev_modSys_sound (Dev_fieldOff_sound (Dev_loopsOff_sound (Dev_portsStop_host_sound h))))

theorem Dev_beginRoast_sound (h : Sound β ε d) : Sound β ε d.beginRoast :=
  Dev_showPower_sound (Dev_modSys_sound (Dev_fieldRoast_sound (Dev_loopsOff_sound (Dev_portsStop_sound h))))

theorem Dev_start_sound {kind : StartKind} {ok : Bool} (h : Sound β ε d) : Sound β false (d.start kind ok) := by
  unfold Dev.start
  extract_lets cold y clears isle codes sys r u d1 d2 d3 d4 d5
  have h1 : Sound β false d1 := ⟨rfl, h.pendq, fun _ => Nat.zero_le _, fun _ => Nat.zero_le _, fun _ => Nat.zero_le _, fun _ => rfl⟩
  have h2 : Sound β false d2 := Dev_modField_sound h1
  clear_value d2
  have h4 : Sound β false d4 := Sound.foldl (fun _ _ hx => Dev_orReg_sound (Dev_event_sound hx)) (Dev_recorderStart_sound h2)
  have h5 : Sound β false d5 := Dev_bootImage_sound h4
  split
  · exact h5
  · exact Dev_placeImage_sound (Dev_loadParams_sound (Dev_loadConfig_sound h5))

theorem Dev_actWake_sound {w : Option Bool} (h : Sound β false d) : Sound β false (d.actWake w) := by
  cases w with
  | none => exact h
  | some ok => exact Dev_start_sound h

theorem Dev_elapse_sound {ms : Nat} (h : Sound β ε d) : Sound β ε (d.elapse ms) := h.mk

theorem Dev_holdReset_sound {cause : ResetCause} {code : Nat} {lose : Recorder → Recorder} (hl : ∀ r, (lose r).pendq = [])
    (h : Sound β ε d) : Sound β false (d.holdReset cause code lose) := by
  unfold Dev.holdReset
  extract_lets y roast d1 d2 d3
  have h1 : Sound β false d1 := Dev_loopsOff_sound (Dev_portsStop_host_sound h)
  have h2 : Sound β false d2 := Sound.ite (Dev_cutEngine_sound h1) h1
  have h3 : Sound β false d3 :=
    ⟨h2.executing, fun _ => (hl d2.recorder).symm ▸ Bounded.nil, h2.queue, fun _ => Nat.zero_le _, h2.fifo, h2.buffer⟩
  exact Dev_modSys_sound h3

theorem Dev_setDiv_sound {n : Nat} (h : Sound β ε d) : Sound β ε (d.setDiv n) := Dev_devNat_sound (Dev_modSys_sound h.mk)

theorem Dev_reachIdle_sound {kind : StartKind} {ms opMs : BitVec 16} (h : Sound β ε d) : Sound β ε (d.reachIdle kind ms opMs) := by
  unfold Dev.reachIdle
  extract_lets op d1 d2 d3 d4 d5 d6 x d7 d8 d9 d10 d11 d12 d13 d14 cfg
  have h4 : Sound β ε d4 := Dev_setReg_sound (Dev_modField_sound (Dev_sampleSupplies_sound (Dev_modSys_sound h)))
  have h5 : Sound β ε d5 := Sound.ite (Dev_event_sound h4) h4
  have h6 : Sound β ε d6 := Sound.ite (Dev_islandFault_sound h5) h5
  have h8 : Sound β ε d8 := Dev_modHost_sound rfl rfl (Dev_setReg_sound (Dev_setReg_sound (Dev_setReg_sound h6)))
  have h9 : Sound β ε d9 := Dev_hsZero_sound h8
  have h10 : Sound β ε d10 := Sound.ite (Dev_fieldOn_sound h9) (Dev_fieldRejoin_sound h9)
  clear_value d10
  have h12 : Sound β ε d12 := Dev_devNat_sound (Dev_devSig_sound (Dev_devNat_sound (Dev_devNat_sound (Dev_devSig_sound
    (Dev_showPower_sound h10)))))
  have h14 : Sound β ε d14 := Dev_baseLayouts_sound (Dev_safeBase_sound (Sound.foldl (fun _ _ => Dev_motionSlots_sound) h12))
  exact Sound.ite (Dev_modPair_sound h14) (Sound.foldl (fun _ _ => Dev_beginLink_sound) h14)

/-- The module as it enters IDLE, before the supplies are read. -/
def idleEntered (d : Dev) (opMs : BitVec 16) : Dev :=
  d.modSys fun y => { y with power := .idle, starting := none, frame := 0, opTime := BitVec.ofNat 48 (d.now + opMs.toNat), pll := 0x1F,
                             keysHeld := true, vinLow := 0, noRoast := y.noRoast || y.roastMissing }

theorem kept_reachIdle (d : Dev) (kind : StartKind) (ms opMs : BitVec 16) :
    Kept (idleEntered d opMs).sampleSupplies.sys.fixed (d.reachIdle kind ms opMs) := by
  unfold Dev.reachIdle
  extract_lets op d1 d2 d3 d4 d5 d6 x d7 d8 d9 d10 d11 d12 d13 d14 cfg
  have h2 : Kept (idleEntered d opMs).sampleSupplies.sys.fixed d2 := rfl
  clear_value d2
  have h4 : Kept _ d4 := Dev_setReg_kept (Dev_modField_kept h2)
  have h5 : Kept _ d5 := Kept.ite (Dev_event_kept h4) h4
  have h6 : Kept _ d6 := Kept.ite (Dev_islandFault_kept h5) h5
  have h8 : Kept _ d8 := Dev_modHost_kept (Dev_setReg_kept (Dev_setReg_kept (Dev_setReg_kept h6)))
  have h9 : Kept _ d9 := Dev_hsZero_kept h8
  have h10 : Kept _ d10 := Kept.ite (Dev_fieldOn_kept h9) (Dev_fieldRejoin_kept h9)
  clear_value d10
  have h12 : Kept _ d12 := Dev_devNat_kept (Dev_devSig_kept (Dev_devNat_kept (Dev_devNat_kept (Dev_devSig_kept
    (Dev_showPower_kept h10)))))
  have h14 : Kept _ d14 := Dev_baseLayouts_kept (Dev_safeBase_kept (Kept.foldl (fun _ _ => Dev_motionSlots_kept) h12))
  exact Kept.ite (Dev_modPair_kept h14) (Kept.foldl (fun _ _ => Dev_beginLink_kept) h14)

theorem phase_reachIdle (d : Dev) (kind : StartKind) (ms opMs : BitVec 16) :
    phase (d.reachIdle kind ms opMs).sys = { phase d.sys with power := .idle, frame := 0, starting := none } :=
  (phase_of_kept (kept_reachIdle d kind ms opMs)).trans (phase_sampleSupplies (idleEntered d opMs))

end Sys2Proof.Proofs
end

section
/-! SUPPORT. Every command answers a next state with both invariants; what the power states, starts, resets and supplies do to the
phase; and the statements about all steps. -/

namespace Sys2Proof.Proofs

open Sys2Proof.Machine Sys2Proof.Safety

variable {s : State} {d d' : Dev} {β : Prop} {ε : Bool}

/-! ### The state requests -/

/-- Both invariants are kept, and neither the power state nor the frame count moves. -/
structure Settled (d d' : Dev) : Prop extends Orderly d d' where
  power : d'.sys.power = d.sys.power
  frame : d'.sys.frame = d.sys.frame

/-- A command answers a next state in which neither the power state nor the frame count has moved. -/
def Still (s : State) (o : Host.Outcome State Fault Refusal) : Prop := ∃ d, o = .next { s with dev := d } ∧ Settled s.dev d

theorem Calm.settled (h : Calm d d') : Settled d d' :=
  ⟨h.orderly, congrArg Phase.power h.phase, congrArg Phase.frame h.phase⟩

theorem Settled.of_phase {p : Phase} (hp : phase d'.sys = p) (hs : Sound (queueInv d) ε d')
    (hi : PhaseInv (phase d.sys) d.host.executing → PhaseInv p ε) (hw : p.power = d.sys.power) (hf : p.frame = d.sys.frame) :
    Settled d d' :=
  ⟨.of_sound hs fun h => hp.symm ▸ hi h, (congrArg Phase.power hp).trans hw, (congrArg Phase.frame hp).trans hf⟩

theorem Still.same : Still s (.next s) := ⟨s.dev, rfl, (Calm.refl _).settled⟩

theorem Still.next (h : Settled s.dev d) : Still s (.next { s with dev := d }) := ⟨d, rfl, h⟩

theorem Quiet.still {o : Host.Outcome State Fault Refusal} (h : Quiet s o) : Still s o :=
  let ⟨d, ho, hd⟩ := h
  ⟨d, ho, hd.settled⟩

/-- A STATE request that is accepted finds the module in IDLE or RUN. -/
theorem power_of_accepted (hup : d.hostPortsUp = true) {p : List Byte} (ha : d.vhpAccept 5 p = 0) (hr : d.sys.power ≠ .run) :
    d.sys.power = .idle := by
  unfold Dev.vhpAccept at ha
  unfold Dev.hostPortsUp Dev.operating at hup
  cases hp : d.sys.power with
  | idle => rfl
  | run => exact absurd hp hr
  | roast => rw [hp] at ha; exact absurd ha (by simp)
  | off => rw [hp] at hup; exact absurd hup (by simp)
  | keep => rw [hp] at hup; exact absurd hup (by simp)

theorem stateServe_still {target : Nat → Bool} {f : Dev → VReq → Dev}
    (hf : ∀ q, s.dev.host.executing = false → (s.dev.sys.power ≠ .run → s.dev.sys.power = .idle) → Settled s.dev (f s.dev q)) :
    Still s (stateServe target f s) := by
  unfold stateServe
  split
  · exact .same
  · next q hq =>
    obtain ⟨hx, hup, ht⟩ := vhpFront_some hq
    have hv : q.vtype = 5 := by simp only [Bool.and_eq_true, beq_iff_eq] at ht; exact ht.1
    refine .next ?_
    split
    · exact (Calm.of_front hx Dev_respond_sound Dev_respond_kept).settled
    · next ha => exact hf q hx (power_of_accepted hup (hv ▸ not_not.1 ha))

theorem answerState_settled (q : VReq) (status : Nat) (state : Power) (frame : Word) (hx : d.host.executing = false) :
    Settled d (d.answerState q status state frame) :=
  (Calm.of_front hx Dev_answerState_sound Dev_answerState_kept).settled

theorem enterRun_settled (q : VReq) (hx : d.host.executing = false) (hp : d.sys.power = .idle) : Settled d (d.enterRun q) := by
  by_cases h0 : d.runChecks.2 = 0
  · refine .of_phase (ε := true) (phase_enterRun h0) ?_ (fun h => ?_) rfl rfl
    · rw [Dev.enterRun, if_neg (not_not.2 h0)]
      exact Dev_showPower_sound (Dev_holdFront_sound (Dev_modSys_sound (Dev_runChecks_sound (Sound.start d))))
    · rw [hx] at h
      obtain ⟨-, hl, hs⟩ := h.of_front
      obtain ⟨-, -, -, -, hst, hrs, hv, hd⟩ := h
      exact ⟨fun _ => ⟨hp, rfl, hs⟩, fun h => absurd (hl.symm.trans h) nofun, fun t h => absurd (hs.symm.trans h) nofun,
        fun t h => absurd (hs.symm.trans h) nofun, hst, hrs, hv, hd⟩
  · refine (Calm.of_front hx (fun h => ?_) fun h => ?_).settled
    all_goals rw [Dev.enterRun, if_pos h0]
    · exact Dev_answerState_sound (Sound.ite (Dev_updCode_sound (Dev_runChecks_sound h)) (Dev_runChecks_sound h))
    · exact Dev_answerState_kept (Kept.ite (Dev_updCode_kept (Dev_runChecks_kept h)) (Dev_runChecks_kept h))

theorem execStateRun_still : Still s (execStateRun s) :=
  stateServe_still fun q hx hi => by
    split
    · exact answerState_settled _ _ _ _ hx
    · next hr => exact enterRun_settled q hx (hi fun h => hr (by rw [h]; rfl))

theorem depart_settled (hx : d.host.executing = false) (hp : d.sys.power = .run) : Settled d d.holdFront.depart := by
  refine .of_phase (ε := true) (phase_depart d.holdFront) (Dev_depart_sound (Dev_holdFront_sound (Sound.start d))) (fun h => ?_) rfl rfl
  rw [hx] at h
  obtain ⟨he, -, hs⟩ := h.of_front
  obtain ⟨-, -, -, -, hst, hrs, hv, hd⟩ := h
  exact ⟨fun h => absurd (he.symm.trans h) nofun, fun _ => ⟨hp, rfl, fun t h => absurd (hs.symm.trans h) nofun⟩,
    fun t h => absurd (hs.symm.trans h) nofun, fun t h => absurd (hs.symm.trans h) nofun, hst, hrs, hv, hd⟩

theorem execStateIdle_still : Still s (execStateIdle s) :=
  stateServe_still fun q hx hi => by
    split
    · next hr => exact depart_settled hx (eq_of_beq hr)
    · exact answerState_settled _ _ _ _ hx

theorem shutDown_settled (target : Power) (hx : d.host.executing = false) (hi : d.sys.power ≠ .run → d.sys.power = .idle) :
    Settled d (d.shutDown target) := by
  have hh : Sound (queueInv d) true d.holdFront := Dev_holdFront_sound (Sound.start d)
  have hph : phase d.holdFront.sys = phase d.sys := rfl
  unfold Dev.shutDown
  extract_lets d1
  split
  · next hr =>
    refine .of_phase (ε := true) (phase_depart _) (Dev_depart_sound (Dev_modSys_sound hh)) (fun h => ?_) rfl rfl
    rw [hx] at h
    obtain ⟨he, -, hs⟩ := h.of_front
    obtain ⟨-, -, -, -, hst, hrs, hv, hd⟩ := h
    exact ⟨fun h => absurd (he.symm.trans h) nofun, fun _ => ⟨eq_of_beq hr, rfl, fun t h => absurd h (by simp [phase, Dev.modSys])⟩,
      fun t h => absurd h (by simp [phase, Dev.modSys]), fun t h => rfl, hst, hrs, hv, hd⟩
  · next hr =>
    refine .of_phase (ε := true) (phase_drain _ _) (Dev_drain_sound hh) (fun h => ?_) rfl rfl
    rw [hx] at h
    obtain ⟨he, hl, hs⟩ := h.of_front
    obtain ⟨-, -, -, -, hst, hrs, hv, hd⟩ := h
    exact ⟨fun h => absurd (he.symm.trans h) nofun, fun h => absurd (hl.symm.trans h) nofun,
      fun _ _ => ⟨hi fun h => hr (by rw [show d1.sys.power = _ from h]; rfl), rfl⟩, fun t h => absurd h (by simp), hst, hrs, hv, hd⟩

theorem execStateKeep_still : Still s (execStateKeep s) := stateServe_still fun _ => shutDown_settled _

theorem execStateRoast_still : Still s (execStateRoast s) := stateServe_still fun _ => shutDown_settled _

theorem execStateOff_still : Still s (execStateOff s) := stateServe_still fun _ => shutDown_settled _

/-! ### State changes, starts, resets and supplies -/

theorem execCoarseTick_still : Still s (execCoarseTick s) := by
  dsimp only [execCoarseTick]
  split
  · have hk : phase s.dev.coarseTick.sys = phase s.dev.sys :=
      phase_of_kept (y := { s.dev.sys with lastTick := some s.dev.sys.frame }) (Dev_coarseTick_kept rfl)
    exact .next (.of_phase hk (Dev_coarseTick_sound (Sound.start s.dev)) id rfl rfl)
  · exact .same

/-- An answer to the request at the front keeps the phase and the bounds; afterwards none is executing, or none waits. -/
theorem answerFront_sound_or {status : Nat} {p : Power} (h : Sound β ε d) : ∃ ε', Sound β ε' (d.answerFront status p) := by
  obtain hs | ⟨-, hs⟩ := Dev_answerFront_sound (status := status) (state := p) h
  · exact ⟨false, hs⟩
  · exact ⟨ε, hs.symm ▸ h⟩

theorem phase_answerFront (d : Dev) (status : Nat) (p : Power) : phase (d.answerFront status p).sys = phase d.sys :=
  phase_of_kept (Dev_answerFront_kept rfl)

/-- A phase in which nothing is entered, left or shut down keeps the invariant whatever request executes. -/
theorem PhaseInv.of_quiet {p : Phase} {x : Bool} (he : p.entering = false) (hl : p.leaving = false) (hs : p.shutdown = none)
    (hst : p.starting ≠ none → p.power = .keep ∧ p.reset = none) (hr : p.reset ≠ none → p.power = .keep)
    (hv : p.vinFailed = true → p.power = .keep ∧ p.reset ≠ none) (hd : p.div = 1 ∨ p.div = 2 ∨ p.div = 4) : PhaseInv p x :=
  ⟨fun h => absurd (he.symm.trans h) nofun, fun h => absurd (hl.symm.trans h) nofun, fun _ h => absurd (hs.symm.trans h) nofun,
    fun _ h => absurd (hs.symm.trans h) nofun, hst, hr, hv, hd⟩

theorem startPhase_inv (kind : StartKind) (x : Bool) : PhaseInv (startPhase kind) x :=
  .of_quiet rfl rfl rfl (fun _ => ⟨rfl, rfl⟩) (fun h => absurd rfl h) nofun (.inl rfl)

theorem start_orderly (d : Dev) (kind : StartKind) (ok : Bool) : Orderly d (d.start kind ok) :=
  .of_sound (Dev_start_sound (Sound.start d)) fun _ => phase_start d kind ok ▸ startPhase_inv kind _

theorem execRunBegin_ordered : Ordered s (execRunBegin s) := by
  dsimp only [execRunBegin]
  split
  · exact .same
  · split
    · next hc =>
      simp only [Bool.and_eq_true, beq_iff_eq] at hc
      obtain ⟨⟨⟨hp, he⟩, -⟩, -⟩ := hc
      obtain ⟨ε, hs⟩ := answerFront_sound_or (status := 0) (p := .run) (Dev_runEntry_sound (Sound.start s.dev))
      refine .next (.of_sound hs fun h => ?_)
      rw [phase_answerFront, phase_runEntry]
      simp only [PhaseInv, phase] at h ⊢
      grind
    · exact .same

theorem execDepartureComplete_ordered : Ordered s (execDepartureComplete s) := by
  dsimp only [execDepartureComplete]
  split
  · exact .same
  · split
    · next hc =>
      have hl : s.dev.sys.leaving = true := by simp only [Bool.and_eq_true] at hc; exact hc.1.1
      have hs : Sound (queueInv s.dev) s.dev.host.executing s.dev.leaveRun := Dev_leaveRun_sound (Sound.start s.dev)
      split
      · refine .next (.of_sound (Dev_drain_sound hs) fun h => ?_)
        rw [phase_drain, phase_leaveRun]
        simp only [PhaseInv, phase] at h ⊢
        grind
      · next hn =>
        obtain ⟨ε, hs⟩ := answerFront_sound_or (status := 0) (p := .idle) hs
        refine .next (.of_sound hs fun h => ?_)
        have hn' : s.dev.sys.shutdown = none := (congrArg Phase.shutdown (phase_leaveRun s.dev)).symm.trans hn
        rw [phase_answerFront, phase_leaveRun]
        simp only [PhaseInv, phase] at h ⊢
        grind
    · exact .same

theorem execColdStart_ordered {ok : Bool} : Ordered s (execColdStart ok s) := by
  dsimp only [execColdStart]
  split
  · exact .next (start_orderly ..)
  · split
    · exact .next (.of_phase (fun h => h.mk) id)
    · exact .same

theorem execWakeStart_ordered {ok : Bool} : Ordered s (execWakeStart ok s) := by
  dsimp only [execWakeStart]
  split
  · exact .next (start_orderly ..)
  · split
    · exact .next (.of_phase (fun h => h.mk) id)
    · exact .same

theorem execResetStart_ordered {ok : Bool} : Ordered s (execResetStart ok s) := by
  dsimp only [execResetStart]
  split
  · exact .same
  · split
    · exact .next (start_orderly ..)
    · exact .same

theorem execStartReachesIdle_ordered {ms opMs : BitVec 16} : Ordered s (execStartReachesIdle ms opMs s) := by
  dsimp only [execStartReachesIdle]
  split
  · exact .same
  · next k hk =>
    refine .next (.of_phase Dev_reachIdle_sound fun h => ?_)
    rw [phase_reachIdle]
    simp only [PhaseInv, phase] at h ⊢
    grind

theorem actWake_orderly {w : Option Bool} (hs : Sound (queueInv d) false d')
    (hp : PhaseInv (phase d.sys) d.host.executing → PhaseInv (phase d'.sys) false) : Orderly d (d'.actWake w) := by
  refine .of_sound (Dev_actWake_sound hs) fun h => ?_
  cases w with
  | none => exact hp h
  | some ok => exact phase_start d' _ ok ▸ startPhase_inv _ _

theorem execShutdownDrainComplete_ordered : Ordered s (execShutdownDrainComplete s) := by
  dsimp only [execShutdownDrainComplete]
  split
  · next target hs =>
    split
    · obtain ⟨ε, ha⟩ := answerFront_sound_or (status := 0) (p := target) (Sound.start s.dev)
      split
      · refine .next (.of_sound (Dev_beginRoast_sound ha) fun h => ?_)
        rw [phase_beginRoast, phase_answerFront]
        simp only [PhaseInv, phase] at h ⊢
        grind
      · refine .next (actWake_orderly (Dev_toRest_sound ha) fun h => ?_)
        rw [phase_toRest, phase_answerFront]
        simp only [PhaseInv, phase] at h ⊢
        grind
    · exact .same
  · exact .same

theorem phase_commitAll (d : Dev) : phase d.commitAll.sys = phase d.sys := phase_of_kept (Dev_commitAll_kept rfl)

/-- The state of a module after its tests, before it goes to KEEP. -/
theorem roastDone_eq (d : Dev) (fails : List Nat) (part : Bool) (ms : Nat) :
    ∃ d1 w, d.roastDone fails part ms = (d1.toRest .keep).actWake w ∧ phase d1.sys = phase d.sys ∧
      ∀ {β ε}, Sound β ε d → Sound β ε d1 := by
  unfold Dev.roastDone
  extract_lets map d1 d2 d3 d4 d5 w
  have h2 : phase d2.sys = phase d.sys := phase_of_kept (d := d.wipeDram) (Dev_wipeDram_kept rfl)
  have s2 {β ε} (h : Sound β ε d) : Sound β ε d2 := Dev_modSys_sound (Dev_elapse_sound (Dev_wipeDram_sound h))
  clear_value d2
  refine ⟨d5.commitAll, w, rfl, ?_, fun h => Dev_commitAll_sound ?_⟩
  · rw [phase_commitAll, ← h2]
    unfold d5
    split
    · exact phase_of_kept (d := Dev.modIsland _ _)
        (Dev_modIsland_kept (Dev_event_kept (Dev_roastResult_kept (rfl : Kept d2.sys.fixed d2))))
    · exact phase_of_kept (d := List.foldl _ _ _)
        (Kept.foldl (fun _ _ => Dev_event_kept) (Dev_roastResult_kept (rfl : Kept d2.sys.fixed d2)))
  · exact Sound.ite (Dev_modSys_sound (Dev_modIsland_sound (Dev_event_sound (Dev_roastResult_sound (s2 h)))))
      (Dev_modSys_sound (Sound.foldl (fun _ _ => Dev_event_sound) (Dev_roastResult_sound (s2 h))))

theorem toRest_actWake_orderly {d1 : Dev} {w : Option Bool} (hw : d.sys.power = .roast)
    (hp : phase d1.sys = phase d.sys) (hs : Sound (queueInv d) ε d1) : Orderly d ((d1.toRest .keep).actWake w) := by
  refine actWake_orderly (Dev_toRest_sound hs) fun h => ?_
  rw [phase_toRest, hp]
  simp only [PhaseInv, phase] at h ⊢
  grind

theorem execRoastEnd_ordered {map : BitVec 12} {part : Bool} {ms : BitVec 16} : Ordered s (execRoastEnd map part ms s) := by
  dsimp only [execRoastEnd]
  split
  · next hc =>
    simp only [Bool.and_eq_true, beq_iff_eq, Option.isNone_iff_eq_none] at hc
    obtain ⟨d1, w, he, hp, hs⟩ := roastDone_eq s.dev ((List.range 12).filter fun t => 1 ≤ t && map.getLsbD t) part ms.toNat
    rw [he]
    exact .next (toRest_actWake_orderly hc.1 hp (hs (Sound.start s.dev)))
  · exact .same

theorem execRoastAbort_ordered {pll : Bool} {test : BitVec 4} {ms : BitVec 16} : Ordered s (execRoastAbort pll test ms s) := by
  unfold execRoastAbort
  extract_lets d map d1 d2 d3
  split
  · next hc =>
    simp only [Bool.and_eq_true, beq_iff_eq, Option.isNone_iff_eq_none] at hc
    have k1 : Kept s.dev.sys.fixed d1 := Kept.ite (Dev_wipeDram_kept rfl) rfl
    have s1 : Sound (queueInv s.dev) s.dev.host.executing d1 := Sound.ite (Dev_wipeDram_sound (Sound.start s.dev)) (Sound.start s.dev)
    clear_value d1
    have k2 : phase d2.sys = phase d1.sys := rfl
    have s3 : Sound (queueInv s.dev) s.dev.host.executing d3 := Dev_modSys_sound (Dev_roastResult_sound (Dev_elapse_sound s1))
    refine .next (toRest_actWake_orderly hc.1 ?_ (Dev_commitAll_sound s3))
    exact (phase_commitAll d3).trans (k2.trans (phase_of_kept k1))
  · exact .same

theorem phase_setDiv (d : Dev) (n : Nat) : phase (d.setDiv n).sys = { phase d.sys with div := n } :=
  phase_of_kept (y := { d.sys with div := n }) (Dev_devNat_kept rfl)

theorem execSagDivide_still {div4 : Bool} {mv : BitVec 16} : Still s (execSagDivide div4 mv s) := by
  unfold execSagDivide
  extract_lets d lvl d1 d2
  split
  · have hd : phase ((d.sampleRail mv).setDiv lvl).sys = { phase s.dev.sys with div := lvl } := phase_setDiv _ _
    have k2 : phase d2.sys = _ := phase_of_kept (Dev_eventRep_kept (Dev_orReg_kept (Dev_incRegFld_kept
      (rfl : Kept ((d.sampleRail mv).setDiv lvl).sys.fixed _))))
    have s2 : Sound (queueInv s.dev) s.dev.host.executing d2 := Dev_eventRep_sound (Dev_orReg_sound (Dev_incRegFld_sound
      (Dev_setDiv_sound (Dev_sampleRail_sound (Sound.start s.dev)))))
    have hl : lvl = 2 ∨ lvl = 4 := by unfold lvl; split <;> simp
    refine .next (.of_phase ((phase_of_kept (Dev_modPlacer_kept rfl)).trans (k2.trans hd)) (Dev_modPlacer_sound s2) (fun h => ?_) rfl rfl)
    obtain ⟨he, hv, hd, hp, hst, hr, hf, -⟩ := h
    exact ⟨he, hv, hd, hp, hst, hr, hf, .inr hl⟩
  · exact .same

theorem execSagStepBack_still {mv : BitVec 16} : Still s (execSagStepBack mv s) := by
  dsimp only [execSagStepBack]
  split
  · next hc =>
    simp only [Bool.and_eq_true, decide_eq_true_eq] at hc
    refine .next (.of_phase (phase_setDiv _ _) (Dev_setDiv_sound (Dev_sampleRail_sound (Sound.start s.dev))) (fun h => ?_) rfl rfl)
    simp only [PhaseInv, phase, Dev.sampleRail, Dev.modSys] at h ⊢
    grind
  · exact .same

theorem holdReset_phaseInv {cause : ResetCause} {code : Nat} {lose : Recorder → Recorder} {x : Bool} :
    PhaseInv (phase (d.holdReset cause code lose).sys) x := by
  obtain ⟨c, hc⟩ := phase_holdReset d cause code lose
  rw [hc]
  simp [PhaseInv, resetPhase]

theorem execBrownout_ordered : Ordered s (execBrownout s) := by
  unfold execBrownout
  split
  · exact .next (.of_sound (Dev_holdReset_sound (fun _ => rfl) (Sound.start s.dev)) fun _ => holdReset_phaseInv)
  · exact .same

theorem execPowerFailWarning_ordered {vin : BitVec 16} : Ordered s (execPowerFailWarning vin s) := by
  dsimp only [execPowerFailWarning]
  split
  · refine .next (.of_sound (Dev_sampleVin_sound (Dev_modSys_sound (Dev_modField_sound
      (Dev_holdReset_sound (fun _ => rfl) (Sound.start s.dev))))) fun _ => ?_)
    obtain ⟨c, hc⟩ := phase_holdReset s.dev .pfail 0x0213 Recorder.powerFail
    refine (show PhaseInv { phase (s.dev.holdReset .pfail 0x0213 Recorder.powerFail).sys with vinFailed := true } false from ?_)
    rw [hc]
    simp [PhaseInv, resetPhase]
  · exact .same

theorem execPowerFailOff_ordered : Ordered s (execPowerFailOff s) := by
  unfold execPowerFailOff
  split
  · next hv =>
    have hk : phase s.dev.storeLost.fieldOff.sys = phase s.dev.sys := phase_of_kept (Dev_fieldOff_kept (Dev_storeLost_kept rfl))
    refine .next (.of_sound (Dev_modSys_sound (Dev_fieldOff_sound (Dev_storeLost_sound (Sound.start s.dev)))) fun h => ?_)
    refine (show PhaseInv { phase s.dev.storeLost.fieldOff.sys with power := .off, reset := none, vinFailed := false } _ from ?_)
    rw [hk]
    simp only [PhaseInv, phase] at h ⊢
    grind
  · exact .same

theorem execRstnAssert_ordered : Ordered s (execRstnAssert s) := by
  dsimp only [execRstnAssert]
  split
  · exact .same
  · split
    · exact .next (.of_phase (fun h => h.mk) id)
    · exact .next (.of_sound (Dev_modSys_sound (Dev_holdReset_sound (fun _ => rfl) (Sound.start s.dev)))
        fun _ => holdReset_phaseInv (code := 0x0220))

theorem execRstnRelease_still : Still s (execRstnRelease s) :=
  .next (.of_phase (phase_modSys ..) (Dev_modSys_sound (Sound.start s.dev)) id rfl rfl)

theorem execRstnStuck_still : Still s (execRstnStuck s) := by
  dsimp only [execRstnStuck]
  split
  · exact .next (.of_phase (phase_modSys ..) (Dev_modSys_sound (Sound.start s.dev)) id rfl rfl)
  · exact .same

theorem execRstnBackInService_still : Still s (execRstnBackInService s) := by
  dsimp only [execRstnBackInService]
  split
  · have hs : Sound (queueInv s.dev) s.dev.host.executing (s.dev.modSys fun y => { y with rstIgn := false }) :=
      Dev_modSys_sound (Sound.start s.dev)
    refine .next ?_
    split
    · exact .of_phase (p := phase s.dev.sys) (phase_of_kept (y := { s.dev.sys with rstIgn := false }) (Dev_event_kept rfl))
        (Dev_event_sound hs) id rfl rfl
    · exact .of_phase (phase_modSys ..) (Dev_modSys_sound hs) id rfl rfl
  · exact .same

theorem power_phase (y : Sys) : (phase y).power = y.power := rfl

theorem execFrameBoundary_power {roleIn : Bool} {t : State} (h : execFrameBoundary roleIn s = .next t) :
    t.dev.sys.power = s.dev.sys.power := by
  unfold execFrameBoundary at h
  split at h
  · rw [← Host.Outcome.next.inj h]
    rw [← power_phase (s.dev.closeFrame.openFrame roleIn).sys, phase_frameBoundary]
    rfl
  · split at h
    · rw [← Host.Outcome.next.inj h]
      rw [← power_phase s.dev.roastFrame.sys, phase_roastFrame]
      rfl
    · rw [← Host.Outcome.next.inj h]

/-! ### Every command -/

/-- The commands that move the power state or the frame count. -/
def movesState : Instr → Bool
  | .coldStart _ | .wakeStart _ | .resetStart _ | .startReachesIdle _ _ | .runBegin | .departureComplete | .shutdownDrainComplete
  | .roastEnd _ _ _ | .roastAbort _ _ _ | .brownout | .powerFailWarning _ | .powerFailOff | .rstnAssert | .frameBoundary _ => true
  | _ => false

theorem Still.ordered {o : Host.Outcome State Fault Refusal} (h : Still s o) : Ordered s o :=
  let ⟨d, ho, hd⟩ := h
  ⟨d, ho, hd.toOrderly⟩

theorem exec_still (i : Instr) (hi : movesState i = false) : Still s (exec i s) := by
  by_cases hq : turnsPower i = false
  · exact (exec_quiet i hq).still
  · cases i with
    | coarseTick => exact execCoarseTick_still
    | stateRun => exact execStateRun_still
    | stateIdle => exact execStateIdle_still
    | stateKeep => exact execStateKeep_still
    | stateRoast => exact execStateRoast_still
    | stateOff => exact execStateOff_still
    | sagDivide => exact execSagDivide_still
    | sagStepBack => exact execSagStepBack_still
    | rstnRelease => exact execRstnRelease_still
    | rstnStuck => exact execRstnStuck_still
    | rstnBackInService => exact execRstnBackInService_still
    | _ => first | exact absurd rfl hq | exact absurd hi nofun

theorem exec_ordered (i : Instr) : Ordered s (exec i s) := by
  by_cases hq : movesState i = false
  · exact (exec_still i hq).ordered
  · cases i with
    | frameBoundary => exact execFrameBoundary_ordered
    | coldStart => exact execColdStart_ordered
    | wakeStart => exact execWakeStart_ordered
    | resetStart => exact execResetStart_ordered
    | startReachesIdle => exact execStartReachesIdle_ordered
    | runBegin => exact execRunBegin_ordered
    | departureComplete => exact execDepartureComplete_ordered
    | shutdownDrainComplete => exact execShutdownDrainComplete_ordered
    | roastEnd => exact execRoastEnd_ordered
    | roastAbort => exact execRoastAbort_ordered
    | brownout => exact execBrownout_ordered
    | powerFailWarning => exact execPowerFailWarning_ordered
    | powerFailOff => exact execPowerFailOff_ordered
    | rstnAssert => exact execRstnAssert_ordered
    | _ => exact absurd rfl hq

theorem step_orderly {t : State} (h : step s = .next t) : Orderly s.dev t.dev := by
  unfold step at h
  split at h
  · rw [← Host.Outcome.next.inj h]
    exact .refl _
  · next c rest _ =>
    obtain ⟨d, ho, hd⟩ := exec_ordered (s := { s with pending := rest }) c
    rw [← Host.Outcome.next.inj (ho.symm.trans h)]
    exact hd

/-- A step answers a next state, in which the command at the front waits no longer. -/
theorem step_next (s : State) : ∃ t, step s = .next t ∧ t.pending = s.pending.drop 1 := by
  unfold step
  split
  · next h => exact ⟨s, rfl, by rw [h]; rfl⟩
  · next c rest h =>
    obtain ⟨d, ho, -⟩ := exec_ordered (s := { s with pending := rest }) c
    exact ⟨_, ho, by rw [h]; rfl⟩

theorem run_succ {M : Host.Core} {k : Nat} {s t : M.State} (h : M.step s = .next t) : M.run (k + 1) s = M.run k t := by
  rw [Host.Core.run, h]

/-- Settles O53: every command keeps the phase's invariant. -/
theorem powerInvariant : Obligations.PowerInvariant := fun _ _ hi h => (step_orderly h).phases hi

/-- Settles O54: every command keeps the bounds of the queues. -/
theorem queueInvariant : Obligations.QueueInvariant := fun _ _ hi h => (step_orderly h).queues hi

/-- Settles O1: a step runs the command at the front. -/
theorem stepRunsFront : Obligations.StepRunsFront := fun _ _ _ => rfl

/-- Settles O2, by induction on the number of steps. -/
theorem queueServed : Obligations.QueueServed := by
  intro k
  induction k with
  | zero => exact fun s => ⟨s, rfl, rfl⟩
  | succ k ih =>
    intro s
    obtain ⟨t, ht, hp⟩ := step_next s
    obtain ⟨u, hu, hq⟩ := ih t
    refine ⟨u, ?_, by rw [hq, hp, List.drop_drop, Nat.add_comm]⟩
    exact (run_succ (M := Sys2Proof.core) ht).trans hu

/-- Settles O52: a command that is none of those named leaves the power state, and the frame count but at a frame boundary. -/
theorem powerStateMoves : Obligations.PowerStateMoves := by
  intro i s t h h1 h2 h3 h4 h5 h6 h7 h8 h9 h10 h11 h12 h13
  by_cases hm : movesState i = false
  · obtain ⟨d, ho, hd⟩ := exec_still (s := s) i hm
    rw [← Host.Outcome.next.inj (ho.symm.trans h)]
    exact ⟨hd.power, fun _ => hd.frame⟩
  · cases i with
    | frameBoundary r => exact ⟨execFrameBoundary_power h, fun hf => absurd rfl (hf r)⟩
    | coldStart ok => exact absurd rfl (h1 ok)
    | wakeStart ok => exact absurd rfl (h2 ok)
    | resetStart ok => exact absurd rfl (h3 ok)
    | startReachesIdle a b => exact absurd rfl (h4 a b)
    | runBegin => exact absurd rfl h5
    | departureComplete => exact absurd rfl h6
    | shutdownDrainComplete => exact absurd rfl h7
    | roastEnd a b c => exact absurd rfl (h8 a b c)
    | roastAbort a b c => exact absurd rfl (h9 a b c)
    | brownout => exact absurd rfl h10
    | powerFailWarning v => exact absurd rfl (h11 v)
    | powerFailOff => exact absurd rfl h12
    | rstnAssert => exact absurd rfl h13
    | _ => exact absurd rfl hm

end Sys2Proof.Proofs
end

section
/-! SUPPORT. The saturating operations (R69): their table of words, and what each row does. -/

namespace Sys2Proof.Proofs

open Sys2Proof.Machine Sys2Proof.Safety

/-- The saturating operations: each with the b and the fn of its word (R69). -/
def satRows (core : CoreId) (d a b : Reg) : List (Instr × Reg × BitVec 10) :=
  [(.adds core d a b, b, 0x000), (.subs core d a b, b, 0x001), (.mulq core d a b, b, 0x002), (.divq core d a b, b, 0x003),
   (.abss core d a, 0, 0x004), (.negs core d a, 0, 0x005), (.shls core d a b, b, 0x006), (.clamp core d a b, b, 0x007)]

section Words

variable {core : CoreId} {d a b : Reg}

theorem encode_satRows : ∀ i e fn, (i, e, fn) ∈ satRows core d a b → encode i = some (wordA 0x02 d a e fn) := by
  intro i e fn h
  fin_cases h <;> exact encode_eq_wordA rfl rfl rfl rfl rfl rfl

/-- What decodes as a saturating operation is a row of its table. -/
theorem mem_satRows_of_decodeSat {fn : Nat} {i : Instr} (h : decodeSat core d a b fn = some i) :
    (i, b, BitVec.ofNat 10 fn) ∈ satRows core d a b := by
  unfold decodeSat at h
  split at h <;> simp_all [satRows]

theorem decode_wordA_sat (core : CoreId) (stall : Nat) (d a b : Reg) (fn : BitVec 10) :
    decode core stall (wordA 0x02 d a b fn) = decodeSat core d a b fn.toNat := by
  simp [decode]

theorem decode_notMem_satRows (stall : Nat) (fn : BitVec 10) (h : ∀ i, (i, b, fn) ∉ satRows core d a b) :
    decode core stall (wordA 0x02 d a b fn) = none := by
  rw [decode_wordA_sat, Option.eq_none_iff_forall_ne_some]
  intro i hi
  have hm := mem_satRows_of_decodeSat hi
  rw [BitVec.ofNat_toNat, BitVec.setWidth_eq] at hm
  exact h i hm

end Words

section Outputs

variable (p q r : Word) (n : Nat)

/-- A saturating result is the limited integer, with V where it was limited. -/
theorem satOut_eq (i : Int) : satOut i = ⟨(limited i).1, false, (limited i).2⟩ := by
  unfold satOut limited
  by_cases h1 : i > 2147483647
  · rw [if_pos (by omega), if_pos h1]
  rw [if_neg (by omega), if_neg h1]
  by_cases h2 : i < -2147483648
  · rw [if_pos (by omega), if_pos h2]
  · rw [if_neg (by omega), if_neg h2, logicOut]

theorem roundNearest_eq (i : Int) :
    roundNearest i (2 ^ 16) = if 0 ≤ i then (i + 2 ^ 15) / 2 ^ 16 else -((-i + 2 ^ 15) / 2 ^ 16) := by
  unfold roundNearest
  simp only [Int.fdiv_eq_ediv_of_nonneg _ (show (0 : Int) ≤ 2 * ((2 ^ 16 : Nat) : Int) by positivity)]
  norm_num
  split <;> omega

theorem divqOut_eq (h : q.toInt ≠ 0) :
    divqOut p q = ⟨(limited ((p.toInt * 2 ^ 16).tdiv q.toInt)).1, false, (limited ((p.toInt * 2 ^ 16).tdiv q.toInt)).2⟩ := by
  rw [divqOut, if_neg (by rintro rfl; exact h rfl), satOut_eq]

theorem divqOut_zero (h : q.toInt = 0) :
    divqOut p q = ⟨if p.toInt > 0 then 0x7FFFFFFF else if p.toInt < 0 then 0x80000000 else 0, false, true⟩ := by
  rw [divqOut, if_pos (BitVec.eq_of_toInt_eq h)]

theorem abssOut_eq : abssOut p = ⟨(limited |p.toInt|).1, false, (limited |p.toInt|).2⟩ := by
  rw [abssOut, Int.natCast_natAbs, satOut_eq]

/-- CLAMP limits the previous value to the range, and to its lower end where the range is empty. -/
theorem clampOut_toInt :
    (clampOut r p q).r.toInt = if q.toInt < p.toInt then p.toInt else max p.toInt (min r.toInt q.toInt) := by
  unfold clampOut
  simp only [sval]
  split_ifs <;> omega

theorem clampOut_eq {held : Int} (h : held = if q.toInt < p.toInt then p.toInt else max p.toInt (min r.toInt q.toInt)) :
    clampOut r p q = ⟨BitVec.ofInt 32 held, false, decide (held ≠ r.toInt)⟩ := by
  have hr : (clampOut r p q).r.toInt = held := (clampOut_toInt p q r).trans h.symm
  have hv : ((clampOut r p q).r != r) = decide (held ≠ r.toInt) := by
    rw [bne_eq_decide_ne, ← hr]
    exact decide_eq_decide.2 (not_congr BitVec.toInt_inj.symm)
  rw [← hv, ← hr, BitVec.ofInt_toInt]
  rfl

end Outputs

/-- Settles O7: the table of words, then each row through the limited result of its operation. -/
theorem saturating : Obligations.Saturating := by
  intro s core t d a b
  refine ⟨encode_satRows, decode_notMem_satRows, runs_alu rfl (satOut_eq _), runs_alu rfl (satOut_eq _),
    runs_alu rfl ?_, fun h => runs_alu rfl (divqOut_eq _ _ h), fun h hp => runs_alu rfl ?_, fun h hp => runs_alu rfl ?_,
    fun h hp => runs_alu rfl ?_, runs_alu rfl (abssOut_eq _), runs_alu rfl (satOut_eq _), runs_alu rfl (satOut_eq _),
    runs_alu rfl (clampOut_eq _ _ _ rfl)⟩
  · rw [mulqOut, roundNearest_eq, satOut_eq]
  · rw [divqOut_zero _ _ h, if_pos hp]
  · rw [divqOut_zero _ _ h, if_neg (by omega), if_pos hp]
  · rw [divqOut_zero _ _ h, if_neg (by omega), if_neg (by omega)]

end Sys2Proof.Proofs
end

section
/-! SUPPORT. The encoder and the decoder undo each other (R61–R98): what each part of the decoder gives is well formed and has the word
it was decoded from, and each instruction's word decodes to it. -/

namespace Sys2Proof.Proofs

open Sys2Proof.Machine Sys2Proof.Safety

variable {c : CoreId} {stall op fn : Nat} {d a b : Reg} {imm : BitVec 15} {i : Instr} {w : Word}

/-! ### A word is put together from its fields -/

theorem encA_fld (w : Word) : encA (fld w 25 7) (fld w 20 5) (fld w 15 5) (fld w 10 5) (fld w 0 10) = w := by
  apply BitVec.eq_of_toNat_eq
  simp only [encA, fld, wordOfNat, BitVec.toNat_ofNat, Nat.shiftRight_eq_div_pow]
  omega

theorem encI_fld (w : Word) : encI (fld w 25 7) (fld w 20 5) (fld w 15 5) (fld w 0 15) = w := by
  apply BitVec.eq_of_toNat_eq
  simp only [encI, fld, wordOfNat, BitVec.toNat_ofNat, Nat.shiftRight_eq_div_pow]
  omega

theorem encB_fld (w : Word) : encB (fld w 25 7) (fld w 21 4) (fld w 0 21) = w := by
  apply BitVec.eq_of_toNat_eq
  simp only [encB, fld, wordOfNat, BitVec.toNat_ofNat, Nat.shiftRight_eq_div_pow]
  omega

theorem encU_fld (w : Word) : wordOfNat (fld w 25 7 * 2 ^ 25 + fld w 20 5 * 2 ^ 20 + fld w 0 20) = w := by
  apply BitVec.eq_of_toNat_eq
  simp only [fld, wordOfNat, BitVec.toNat_ofNat, Nat.shiftRight_eq_div_pow]
  omega

theorem encSX_fld (w : Word) :
    wordOfNat (fld w 25 7 * 2 ^ 25 + fld w 20 5 * 2 ^ 20 + fld w 15 5 * 2 ^ 15 + fld w 13 2 * 2 ^ 13 + fld w 0 13) = w := by
  apply BitVec.eq_of_toNat_eq
  simp only [fld, wordOfNat, BitVec.toNat_ofNat, Nat.shiftRight_eq_div_pow]
  omega

/-- A field as a number of its width. -/
theorem toNat_ofNat_fld (w : Word) (lo width : Nat) : (BitVec.ofNat width (fld w lo width)).toNat = fld w lo width := by
  rw [BitVec.toNat_ofNat]
  exact Nat.mod_eq_of_lt (Nat.mod_lt _ (Nat.two_pow_pos _))

/-! ### What the decoder gives -/

/-- The instruction is well formed, and this is its word. -/
def IsWord (w : Word) (i : Instr) : Prop := i.wf = true ∧ encode i = some w

theorem isWord_decodeAlu (h : decodeAlu c d a b fn = some i) : IsWord (encA 0x01 d.toNat a.toNat b.toNat fn) i := by
  unfold decodeAlu at h
  split at h
  all_goals first | (obtain rfl := Option.some.inj h; exact ⟨rfl, rfl⟩) | skip
  case h_11 | h_12 =>
    split_ifs at h with hd
    obtain rfl := Option.some.inj h
    exact ⟨rfl, by rw [hd]; rfl⟩
  case h_19 => exact absurd h nofun

theorem isWord_decodeSat (h : decodeSat c d a b fn = some i) : IsWord (encA 0x02 d.toNat a.toNat b.toNat fn) i := by
  unfold decodeSat at h
  split at h
  all_goals first | (obtain rfl := Option.some.inj h; exact ⟨rfl, rfl⟩) | skip
  case h_5 | h_6 =>
    split_ifs at h with hb
    obtain rfl := Option.some.inj h
    exact ⟨rfl, by rw [hb]; rfl⟩
  case h_9 => exact absurd h nofun

theorem isWord_decodeCtl (hop : op = 0x03 ∨ op = 0x04) (h : decodeCtl c op d a b fn = some i) :
    IsWord (encA op d.toNat a.toNat b.toNat fn) i := by
  unfold decodeCtl at h
  split_ifs at h with h0 h3 hf0 hf1 ha
  · obtain rfl := Option.some.inj h
    exact ⟨rfl, by rw [h0.1, h0.2, h3, hf0]; rfl⟩
  · obtain rfl := Option.some.inj h
    exact ⟨rfl, by rw [h0.1, h0.2, h3, hf1]; rfl⟩
  · have h4 : op = 0x04 := hop.resolve_left h3
    split at h
    case h_5 => exact absurd h nofun
    all_goals
      obtain rfl := Option.some.inj h
      exact ⟨rfl, by rw [h0.1, h0.2, h4, ha]; rfl⟩

theorem toNat_setWidth_amount (h : imm.toNat < 32) : (imm.setWidth 5).toNat = imm.toNat := by
  rw [BitVec.toNat_setWidth]
  exact Nat.mod_eq_of_lt h

theorem isWord_decodeImm (h : decodeImm c op d a imm = some i) : IsWord (encI op d.toNat a.toNat imm.toNat) i := by
  unfold decodeImm at h
  split at h
  all_goals first | (obtain rfl := Option.some.inj h; exact ⟨rfl, rfl⟩) | skip
  case h_5 | h_6 | h_7 =>
    split_ifs at h with hk
    obtain rfl := Option.some.inj h
    exact ⟨rfl, by rw [encode, toNat_setWidth_amount hk]⟩
  case h_8 | h_9 | h_10 =>
    split_ifs at h with hd
    obtain rfl := Option.some.inj h
    exact ⟨rfl, by rw [hd]; rfl⟩
  case h_20 => exact absurd h nofun

theorem isWord_decodeSig {so : SigOp} (hs : so.wf = true) (h : decodeSig c op d so stall = some i) :
    IsWord (encS op d.toNat so) i := by
  unfold decodeSig at h
  split at h
  all_goals first | (obtain rfl := Option.some.inj h; exact ⟨hs, rfl⟩) | skip
  case h_2 =>
    split_ifs at h with he
    obtain rfl := Option.some.inj h
    exact ⟨by rw [Instr.wf, hs, evenReg, he]; rfl, rfl⟩
  case h_5 => exact absurd h nofun

theorem flag_bit_eight {n : Nat} (h : n < 512) : (BitVec.ofNat 8 n).toNat + b2n (n / 256 == 1) * 256 = n := by
  rw [BitVec.toNat_ofNat]
  by_cases hn : n / 256 = 1
  · rw [beq_iff_eq.2 hn]; simp only [b2n, if_true]; omega
  · rw [beq_eq_false_iff_ne.2 hn]; simp only [b2n, Bool.false_eq_true, if_false]; omega

theorem flag_bit_zero {n : Nat} (h : n < 2) : b2n (n == 1) = n := by
  interval_cases n <;> rfl

theorem flag_and_source {n : Nat} (h : n < 8) : b2n (n % 2 == 1) + (BitVec.ofNat 2 (n / 2)).toNat * 2 = n := by
  interval_cases n <;> rfl

/-- GEAR with the disengage bit has no table. -/
theorem table_of_gear {n : Nat} (h : n ≤ 256) :
    (!(n == 256) || BitVec.ofNat 8 n == 0) = true ∧ (BitVec.ofNat 8 n).toNat + b2n (n == 256) * 256 = n := by
  obtain rfl | hn := h.eq_or_lt
  · exact ⟨rfl, rfl⟩
  · rw [beq_eq_false_iff_ne.2 hn.ne, BitVec.toNat_ofNat, Nat.mod_eq_of_lt hn]
    exact ⟨rfl, rfl⟩

theorem isWord_decodeMotion (h : decodeMotion c op d a b fn = some i) : IsWord (encA op d.toNat a.toNat b.toNat fn) i := by
  unfold decodeMotion at h
  split at h
  · exact absurd h nofun
  · next hb =>
    obtain rfl : b = 0 := not_not.1 hb
    split at h
    case h_8 => exact absurd h nofun
    all_goals
      rw [Option.ite_none_right_eq_some] at h
      obtain ⟨hf, h⟩ := h
      obtain rfl := Option.some.inj h
    case h_1 => exact ⟨rfl, by rw [encode, flag_bit_eight hf]; rfl⟩
    case h_2 => exact ⟨rfl, by rw [hf.1, hf.2]; rfl⟩
    case h_3 | h_4 => exact ⟨rfl, by rw [encode, flag_bit_zero hf]; rfl⟩
    case h_5 => exact ⟨rfl, by rw [encode, flag_and_source hf]; rfl⟩
    case h_6 => exact ⟨(table_of_gear hf).1, by rw [encode, (table_of_gear hf).2]; rfl⟩
    case h_7 => exact ⟨rfl, by rw [encode, BitVec.toNat_ofNat, Nat.mod_eq_of_lt hf.1, hf.2]; rfl⟩

theorem isWord_decodeService (h : decodeService c op d a b fn = some i) (hfn : fn < 1024) :
    IsWord (encA op d.toNat a.toNat b.toNat fn) i := by
  unfold decodeService at h
  split_ifs at h with h48 hf h49 h0 h4a ho
  · obtain rfl := Option.some.inj h
    exact ⟨rfl, by rw [encode, BitVec.toNat_ofNat, Nat.mod_eq_of_lt hf, h48]⟩
  · obtain rfl := Option.some.inj h
    exact ⟨rfl, by rw [encode, h49, h0.1, h0.2.1, h0.2.2]; rfl⟩
  · have he : evenReg d = true := by rw [evenReg, Nat.mod_two_ne_one.1 ho]; rfl
    subst h4a
    split at h
    case h_8 h1 h2 h3 h4 h5 h6 h7 =>
      obtain rfl := Option.some.inj h
      have hn : services.contains fn = false := by
        simp only [services, List.contains_eq_mem, decide_eq_false_iff_not, List.mem_cons, List.not_mem_nil, or_false, not_or]
        exact ⟨h1, h2, h3, h4, h5, h6, h7⟩
      have ht : (BitVec.ofNat 10 fn).toNat = fn := by rw [BitVec.toNat_ofNat]; exact Nat.mod_eq_of_lt hfn
      exact ⟨by rw [Instr.wf, he, ht, hn]; rfl, by rw [encode, ht, hn]; rfl⟩
    all_goals
      obtain rfl := Option.some.inj h
      exact ⟨he, rfl⟩

/-- A word that decodes is the word of what it decodes to. -/
theorem isWord_of_decode (h : decode c stall w = some i) : IsWord w i := by
  unfold decode at h
  extract_lets op d a b fn imm cond off at h
  have hd : d.toNat = fld w 20 5 := toNat_ofNat_fld w 20 5
  have ha : a.toNat = fld w 15 5 := toNat_ofNat_fld w 15 5
  have hb : b.toNat = fld w 10 5 := toNat_ofNat_fld w 10 5
  have hA : encA op d.toNat a.toNat b.toNat fn = w := by rw [hd, ha, hb]; exact encA_fld w
  have hI : encI op d.toNat a.toNat imm.toNat = w := by
    rw [hd, ha, show imm.toNat = _ from toNat_ofNat_fld w 0 15]; exact encI_fld w
  have hfn : fn < 1024 := Nat.mod_lt _ (by decide)
  by_cases h1 : op = 0x01
  · rw [if_pos h1] at h
    exact hA ▸ h1.symm ▸ isWord_decodeAlu h
  by_cases h2 : op = 0x02
  · rw [if_neg h1, if_pos h2] at h
    exact hA ▸ h2.symm ▸ isWord_decodeSat h
  by_cases h3 : op = 0x03 ∨ op = 0x04
  · rw [if_neg h1, if_neg h2, if_pos h3] at h
    exact hA ▸ isWord_decodeCtl h3 h
  rw [if_neg h1, if_neg h2, if_neg h3] at h
  by_cases h4 : op = 0x10
  · rw [if_pos h4] at h
    obtain rfl := Option.some.inj h
    exact ⟨rfl, by rw [encode, ← h4, hd, toNat_ofNat_fld]; exact congrArg some (encU_fld w)⟩
  rw [if_neg h4] at h
  by_cases h5 : 0x08 ≤ op ∧ op ≤ 0x20
  · rw [if_pos h5] at h
    exact hI ▸ isWord_decodeImm h
  rw [if_neg h5] at h
  by_cases h6 : 0x28 ≤ op ∧ op ≤ 0x2B
  · rw [if_pos h6] at h
    have hw := isWord_decodeSig rfl h
    rwa [encS, hd, toNat_ofNat_fld, encU_fld] at hw
  rw [if_neg h6] at h
  by_cases h7 : 0x2C ≤ op ∧ op ≤ 0x2F
  · rw [if_pos h7] at h
    by_cases h3 : fld w 13 2 = 3
    · rw [if_pos h3] at h
      exact absurd h nofun
    rw [if_neg h3] at h
    have hbase : (BitVec.ofNat 2 (fld w 13 2)) != 3 := by
      rw [bne_iff_ne, ne_eq, ← BitVec.toNat_inj, toNat_ofNat_fld]
      exact h3
    have hw := isWord_decodeSig (so := .rel a (BitVec.ofNat 2 (fld w 13 2)) (BitVec.ofNat 13 (fld w 0 13))) hbase h
    rwa [encS, hd, ha, toNat_ofNat_fld, toNat_ofNat_fld, Nat.sub_add_cancel (by omega), encSX_fld] at hw
  rw [if_neg h7] at h
  by_cases h8 : op = 0x30 ∨ op = 0x31
  · rw [if_pos h8] at h
    have hc : cond.toNat = fld w 21 4 := toNat_ofNat_fld w 21 4
    have ho : off.toNat = fld w 0 21 := toNat_ofNat_fld w 0 21
    have hB : encB op cond.toNat off.toNat = w := by rw [hc, ho]; exact encB_fld w
    by_cases hc8 : cond = 8
    · rw [if_pos hc8] at h
      exact absurd h nofun
    have hwf : (cond != 8) = true := bne_iff_ne.2 hc8
    rw [if_neg hc8] at h
    by_cases h30 : op = 0x30
    · rw [if_pos h30] at h
      obtain rfl := Option.some.inj h
      exact ⟨hwf, by rw [← hB, h30]; rfl⟩
    · rw [if_neg h30] at h
      obtain rfl := Option.some.inj h
      exact ⟨hwf, by rw [← hB, h8.resolve_left h30]; rfl⟩
  rw [if_neg h8] at h
  by_cases h9 : 0x40 ≤ op ∧ op ≤ 0x46
  · rw [if_pos h9] at h
    exact hA ▸ isWord_decodeMotion h
  · rw [if_neg h9] at h
    exact hA ▸ isWord_decodeService h hfn

/-! ### What the encoder gives -/

/-- The word of an instruction, where it has one, decodes to it. -/
def Decodes (i : Instr) : Prop := ∀ w, encode i = some w → ∃ c stall, decode c stall w = some i

theorem decodes_of {w : Word} (he : encode i = some w) (hd : decode c stall w = some i) : Decodes i := by
  intro w' hw
  obtain rfl : w = w' := Option.some.inj (he.symm.trans hw)
  exact ⟨c, stall, hd⟩

theorem decodes_of_none (he : encode i = none) : Decodes i := fun _ h => absurd (he.symm.trans h) nofun

section Words

variable {d a b : Reg} {fn : BitVec 10} {imm : BitVec 15}

theorem decode_wordA_ctl {op : BitVec 7} (hop : op = 0x03 ∨ op = 0x04) :
    decode c stall (wordA op d a b fn) = decodeCtl c op.toNat d a b fn.toNat := by
  rcases hop with rfl | rfl <;> simp [decode]

theorem decode_wordA_motion {op : BitVec 7} (hlo : 0x40 ≤ op.toNat) (hhi : op.toNat ≤ 0x46) :
    decode c stall (wordA op d a b fn) = decodeMotion c op.toNat d a b fn.toNat := by
  have h1 : op.toNat ≠ 1 := by omega
  have h2 : op.toNat ≠ 2 := by omega
  have h3 : ¬(op.toNat = 3 ∨ op.toNat = 4) := by omega
  have h4 : op.toNat ≠ 16 := by omega
  have h5 : ¬(8 ≤ op.toNat ∧ op.toNat ≤ 32) := by omega
  have h6 : ¬(40 ≤ op.toNat ∧ op.toNat ≤ 43) := by omega
  have h7 : ¬(44 ≤ op.toNat ∧ op.toNat ≤ 47) := by omega
  have h8 : ¬(op.toNat = 48 ∨ op.toNat = 49) := by omega
  simp [decode, h1, h2, h3, h4, h5, h6, h7, h8, hlo, hhi]

theorem decode_wordA_service {op : BitVec 7} (hlo : 0x48 ≤ op.toNat) :
    decode c stall (wordA op d a b fn) = decodeService c op.toNat d a b fn.toNat := by
  have h1 : op.toNat ≠ 1 := by omega
  have h2 : op.toNat ≠ 2 := by omega
  have h3 : ¬(op.toNat = 3 ∨ op.toNat = 4) := by omega
  have h4 : op.toNat ≠ 16 := by omega
  have h5 : ¬(8 ≤ op.toNat ∧ op.toNat ≤ 32) := by omega
  have h6 : ¬(40 ≤ op.toNat ∧ op.toNat ≤ 43) := by omega
  have h7 : ¬(44 ≤ op.toNat ∧ op.toNat ≤ 47) := by omega
  have h8 : ¬(op.toNat = 48 ∨ op.toNat = 49) := by omega
  have h9 : ¬(64 ≤ op.toNat ∧ op.toNat ≤ 70) := by omega
  simp [decode, h1, h2, h3, h4, h5, h6, h7, h8, h9]

theorem decodes_alu (he : encode i = some (encA 0x01 d.toNat a.toNat b.toNat fn.toNat))
    (hd : decodeAlu c d a b fn.toNat = some i) : Decodes i :=
  decodes_of (encode_eq_wordA (op := 0x01) he rfl rfl rfl rfl rfl) ((decode_wordA_alu c 0 d a b fn).trans hd)

theorem decodes_sat (he : encode i = some (encA 0x02 d.toNat a.toNat b.toNat fn.toNat))
    (hd : decodeSat c d a b fn.toNat = some i) : Decodes i :=
  decodes_of (encode_eq_wordA (op := 0x02) he rfl rfl rfl rfl rfl) ((decode_wordA_sat c 0 d a b fn).trans hd)

theorem decodes_ctl {op : BitVec 7} (hop : op = 0x03 ∨ op = 0x04) (he : encode i = some (encA op.toNat 0 a.toNat 0 fn.toNat))
    (hd : decodeCtl c op.toNat 0 a 0 fn.toNat = some i) : Decodes i :=
  decodes_of (stall := 0) (encode_eq_wordA (d := 0) (b := 0) he rfl rfl rfl rfl rfl) ((decode_wordA_ctl hop).trans hd)

theorem decodes_imm {op : BitVec 7} (hlo : 0x08 ≤ op.toNat) (hhi : op.toNat ≤ 0x20) (hldu : op.toNat ≠ 0x10)
    (he : encode i = some (encI op.toNat d.toNat a.toNat imm.toNat)) (hd : decodeImm c op.toNat d a imm = some i) : Decodes i :=
  decodes_of (encode_eq_wordI he rfl rfl rfl rfl) ((decode_wordI_imm c 0 hlo hhi hldu d a imm).trans hd)

theorem decodes_motion {op : BitVec 7} {n : Nat} (hlo : 0x40 ≤ op.toNat) (hhi : op.toNat ≤ 0x46) (hn : n < 1024)
    (he : encode i = some (encA op.toNat d.toNat a.toNat 0 n)) (hd : decodeMotion c op.toNat d a 0 n = some i) :
    Decodes i := by
  have hf : (BitVec.ofNat 10 n).toNat = n := by rw [BitVec.toNat_ofNat]; exact Nat.mod_eq_of_lt hn
  exact decodes_of (stall := 0) (encode_eq_wordA (b := 0) (fn := BitVec.ofNat 10 n) he rfl rfl rfl rfl hf)
    ((decode_wordA_motion hlo hhi).trans (hf.symm ▸ hd))

theorem decodes_service {op : BitVec 7} (hlo : 0x48 ≤ op.toNat) (he : encode i = some (encA op.toNat d.toNat a.toNat b.toNat fn.toNat))
    (hd : decodeService c op.toNat d a b fn.toNat = some i) : Decodes i :=
  decodes_of (stall := 0) (encode_eq_wordA he rfl rfl rfl rfl rfl) ((decode_wordA_service hlo).trans hd)

theorem b2n_false : b2n false = 0 := rfl

theorem b2n_true : b2n true = 1 := rfl

theorem profile_fields (p : BitVec 8) (r : Bool) :
    p.toNat + b2n r * 256 < 512 ∧ BitVec.ofNat 8 (p.toNat + b2n r * 256) = p ∧ ((p.toNat + b2n r * 256) / 256 == 1) = r := by
  have hp := p.isLt
  have hmod : BitVec.ofNat 8 (p.toNat + b2n r * 256) = p := by
    apply BitVec.eq_of_toNat_eq
    rw [BitVec.toNat_ofNat]
    omega
  cases r with
  | false =>
    rw [b2n_false] at hmod ⊢
    exact ⟨by omega, hmod, by rw [beq_eq_false_iff_ne]; omega⟩
  | true =>
    rw [b2n_true] at hmod ⊢
    exact ⟨by omega, hmod, by rw [beq_iff_eq]; omega⟩

theorem home_fields (pos : Bool) (src : BitVec 2) : b2n pos + src.toNat * 2 < 8 ∧ ((b2n pos + src.toNat * 2) % 2 == 1) = pos ∧
    BitVec.ofNat 2 ((b2n pos + src.toNat * 2) / 2) = src := by
  revert pos src
  decide

theorem gear_fields {table : BitVec 8} {dis : Bool} (h : (!dis || table == 0) = true) :
    table.toNat + b2n dis * 256 ≤ 256 ∧ BitVec.ofNat 8 (table.toNat + b2n dis * 256) = table ∧
      (table.toNat + b2n dis * 256 == 256) = dis := by
  cases dis with
  | false =>
    have ht := table.isLt
    rw [b2n_false]
    exact ⟨by omega, by rw [Nat.zero_mul, Nat.add_zero, BitVec.ofNat_toNat, BitVec.setWidth_eq],
      by rw [beq_eq_false_iff_ne]; omega⟩
  | true =>
    rw [Bool.not_true, Bool.false_or, beq_iff_eq] at h
    subst h
    rw [b2n_true]
    exact ⟨by decide, rfl, by decide⟩

theorem amount_lt (k : BitVec 5) : (k.setWidth 15).toNat < 32 := by
  rw [toNat_shift_imm]; exact k.isLt

theorem setWidth_amount (k : BitVec 5) : (k.setWidth 15).setWidth 5 = k := BitVec.setWidth_setWidth_of_le k (by decide)

theorem ne_one_of_evenReg {r : Reg} (h : evenReg r = true) : ¬r.toNat % 2 = 1 := by
  simp only [evenReg, beq_iff_eq] at h
  omega

/-- A number that names no service decodes to the call that is refused. -/
theorem decodeService_none (h : services.contains fn.toNat = false) :
    (match fn.toNat with
      | 0x001 => some (.sysRegRead c d a b)
      | 0x002 => some (.sysRegWrite c d a b)
      | 0x010 => some (.trcMark c d a b)
      | 0x011 => some (.sysCntRead c d a b)
      | 0x020 => some (.imgState c d a b)
      | 0x030 => some (.axCtrl c d a b)
      | 0x040 => some (.instRestart c d a b)
      | n => some (.sysNoService c d a b (BitVec.ofNat 10 n))) = some (Instr.sysNoService c d a b fn) := by
  split
  case h_8 => rw [BitVec.ofNat_toNat, BitVec.setWidth_eq]
  all_goals next he => rw [he] at h; exact absurd h (by decide)

end Words

/-! ### Words of formats U, S, SX and B -/

section Wide

variable {op r x base off : Nat}

theorem fld_wide_op (hop : op < 128) (hr : r < 32) (hx : x < 2 ^ 20) : fld (wordOfNat (op * 2 ^ 25 + r * 2 ^ 20 + x)) 25 7 = op := by
  simp only [fld, wordOfNat, BitVec.toNat_ofNat, Nat.shiftRight_eq_div_pow]
  omega

theorem fld_wide_d (hr : r < 32) (hx : x < 2 ^ 20) : fld (wordOfNat (op * 2 ^ 25 + r * 2 ^ 20 + x)) 20 5 = r := by
  simp only [fld, wordOfNat, BitVec.toNat_ofNat, Nat.shiftRight_eq_div_pow]
  omega

theorem fld_wide_low (hx : x < 2 ^ 20) : fld (wordOfNat (op * 2 ^ 25 + r * 2 ^ 20 + x)) 0 20 = x := by
  simp only [fld, wordOfNat, BitVec.toNat_ofNat, Nat.shiftRight_eq_div_pow]
  omega

end Wide

theorem decodes_ldu {d : Reg} {k : BitVec 20} : Decodes (.ldu c d k) := by
  refine decodes_of (c := c) (stall := 0) rfl ?_
  rw [decode, fld_wide_op (by decide) d.isLt k.isLt, fld_wide_d d.isLt k.isLt, fld_wide_low k.isLt]
  simp

/-- The low fields of format SX. -/
theorem fld_sx {y : Nat} (a : Reg) (base : BitVec 2) (off : BitVec 13) :
    fld (wordOfNat (y * 2 ^ 20 + (a.toNat * 2 ^ 15 + (base.toNat * 2 ^ 13 + off.toNat)))) 15 5 = a.toNat ∧
      fld (wordOfNat (y * 2 ^ 20 + (a.toNat * 2 ^ 15 + (base.toNat * 2 ^ 13 + off.toNat)))) 13 2 = base.toNat ∧
      fld (wordOfNat (y * 2 ^ 20 + (a.toNat * 2 ^ 15 + (base.toNat * 2 ^ 13 + off.toNat)))) 0 13 = off.toNat := by
  have ha := a.isLt
  have hb := base.isLt
  have ho := off.isLt
  simp only [fld, wordOfNat, BitVec.toNat_ofNat, Nat.shiftRight_eq_div_pow]
  omega

theorem decodes_sig {k : Nat} {r : Reg} {so : SigOp} (hlo : 0x28 ≤ k) (hhi : k ≤ 0x2B) (hs : so.wf = true)
    (he : encode i = some (encS k r.toNat so)) (hd : decodeSig c k r so stall = some i) : Decodes i := by
  refine decodes_of he (c := c) (stall := stall) ?_
  have k1 : k ≠ 1 := by omega
  have k2 : k ≠ 2 := by omega
  have k3 : ¬(k = 3 ∨ k = 4) := by omega
  have k4 : k ≠ 16 := by omega
  have k5 : ¬k ≤ 32 := by omega
  cases so with
  | abs sig =>
    rw [encS, decode, fld_wide_op (by omega) r.isLt sig.isLt, fld_wide_d r.isLt sig.isLt, fld_wide_low sig.isLt]
    simp [k1, k2, k3, k4, hlo, hhi, hd, k5]
  | rel a base off =>
    have hb : base.toNat ≠ 3 := fun h3 => bne_iff_ne.1 hs (BitVec.eq_of_toNat_eq h3)
    have hlt : a.toNat * 2 ^ 15 + (base.toNat * 2 ^ 13 + off.toNat) < 2 ^ 20 := by
      have := a.isLt; have := base.isLt; have := off.isLt; omega
    have hw : encS k r.toNat (.rel a base off) =
        wordOfNat ((k + 4) * 2 ^ 25 + r.toNat * 2 ^ 20 + (a.toNat * 2 ^ 15 + (base.toNat * 2 ^ 13 + off.toNat))) := by
      simp only [encS, Nat.add_assoc]
    have hy : (k + 4) * 2 ^ 25 + r.toNat * 2 ^ 20 = ((k + 4) * 2 ^ 5 + r.toNat) * 2 ^ 20 := by omega
    obtain ⟨hxa, hxb, hxo⟩ := fld_sx (y := (k + 4) * 2 ^ 5 + r.toNat) a base off
    rw [← hy] at hxa hxb hxo
    rw [hw, decode, fld_wide_op (by omega) r.isLt hlt, fld_wide_d r.isLt hlt, hxa, hxb, hxo]
    simp [hlo, hhi, hd, hb, show k + 4 ≠ 1 by omega, show k + 4 ≠ 2 by omega, show k + 4 ≠ 3 by omega,
      show k ≠ 0 by omega, show k + 4 ≠ 16 by omega, show ¬k + 4 ≤ 32 by omega, show ¬k + 4 ≤ 43 by omega]

theorem fld_wordB_off (op : BitVec 7) (cond : BitVec 4) (off : BitVec 21) : fld (wordB op cond off) 0 21 = off.toNat := by
  have hc := cond.isLt
  have ho := off.isLt
  rw [← encB_toNat]
  simp only [fld, encB, wordOfNat, BitVec.toNat_ofNat, Nat.shiftRight_eq_div_pow]
  omega

theorem decodes_branch {cond : BitVec 4} {off : BitVec 21} (hc : cond ≠ 8)
    (hi : op = 0x30 ∧ i = .b c cond off ∨ op = 0x31 ∧ i = .bl c cond off) : Decodes i := by
  rcases hi with ⟨rfl, rfl⟩ | ⟨rfl, rfl⟩
  · refine decodes_of (c := c) (stall := 0) (congrArg some (encB_toNat 0x30 cond off)) ?_
    simp [decode, fld_wordB_off]
    exact hc
  · refine decodes_of (c := c) (stall := 0) (congrArg some (encB_toNat 0x31 cond off)) ?_
    simp [decode, fld_wordB_off]
    exact hc

theorem decodes (i : Instr) (hwf : i.wf = true) : Decodes i := by
  cases i with
  | add => exact decodes_alu (fn := 0x0) rfl rfl
  | sub => exact decodes_alu (fn := 0x1) rfl rfl
  | and => exact decodes_alu (fn := 0x2) rfl rfl
  | or => exact decodes_alu (fn := 0x3) rfl rfl
  | xor => exact decodes_alu (fn := 0x4) rfl rfl
  | shl => exact decodes_alu (fn := 0x5) rfl rfl
  | shr => exact decodes_alu (fn := 0x6) rfl rfl
  | sar => exact decodes_alu (fn := 0x7) rfl rfl
  | min => exact decodes_alu (fn := 0x8) rfl rfl
  | max => exact decodes_alu (fn := 0x9) rfl rfl
  | mul => exact decodes_alu (fn := 0xc) rfl rfl
  | mulh => exact decodes_alu (fn := 0xd) rfl rfl
  | mulhu => exact decodes_alu (fn := 0xe) rfl rfl
  | div => exact decodes_alu (fn := 0x10) rfl rfl
  | divu => exact decodes_alu (fn := 0x11) rfl rfl
  | rem => exact decodes_alu (fn := 0x12) rfl rfl
  | cmp => exact decodes_alu (d := 0) (fn := 0xa) rfl rfl
  | tst => exact decodes_alu (d := 0) (fn := 0xb) rfl rfl
  | adds => exact decodes_sat (fn := 0x0) rfl rfl
  | subs => exact decodes_sat (fn := 0x1) rfl rfl
  | mulq => exact decodes_sat (fn := 0x2) rfl rfl
  | divq => exact decodes_sat (fn := 0x3) rfl rfl
  | shls => exact decodes_sat (fn := 0x6) rfl rfl
  | clamp => exact decodes_sat (fn := 0x7) rfl rfl
  | abss => exact decodes_sat (b := 0) (fn := 0x4) rfl rfl
  | negs => exact decodes_sat (b := 0) (fn := 0x5) rfl rfl
  | addi => exact decodes_imm (op := 0x8) (by decide) (by decide) (by decide) rfl rfl
  | andi => exact decodes_imm (op := 0x9) (by decide) (by decide) (by decide) rfl rfl
  | ori => exact decodes_imm (op := 0xa) (by decide) (by decide) (by decide) rfl rfl
  | xori => exact decodes_imm (op := 0xb) (by decide) (by decide) (by decide) rfl rfl
  | ldW => exact decodes_imm (op := 0x18) (by decide) (by decide) (by decide) rfl rfl
  | ldH => exact decodes_imm (op := 0x19) (by decide) (by decide) (by decide) rfl rfl
  | ldHU => exact decodes_imm (op := 0x1a) (by decide) (by decide) (by decide) rfl rfl
  | ldB => exact decodes_imm (op := 0x1b) (by decide) (by decide) (by decide) rfl rfl
  | ldBU => exact decodes_imm (op := 0x1c) (by decide) (by decide) (by decide) rfl rfl
  | stW => exact decodes_imm (op := 0x1d) (by decide) (by decide) (by decide) rfl rfl
  | stH => exact decodes_imm (op := 0x1e) (by decide) (by decide) (by decide) rfl rfl
  | stB => exact decodes_imm (op := 0x1f) (by decide) (by decide) (by decide) rfl rfl
  | ldcW => exact decodes_imm (op := 0x20) (by decide) (by decide) (by decide) rfl rfl
  | cmpi => exact decodes_imm (op := 0xf) (d := 0) (by decide) (by decide) (by decide) rfl rfl
  | axsel => exact decodes_imm (op := 0x11) (d := 0) (by decide) (by decide) (by decide) rfl rfl
  | waitT => exact decodes_imm (op := 0x12) (d := 0) (by decide) (by decide) (by decide) rfl rfl
  | shli c d a k =>
    exact decodes_imm (i := .shli c d a k) (op := 0xc) (imm := k.setWidth 15) (by decide) (by decide) (by decide)
      (by rw [toNat_shift_imm]; rfl) ((if_pos (amount_lt k)).trans (by rw [setWidth_amount]))
  | shri c d a k =>
    exact decodes_imm (i := .shri c d a k) (op := 0xd) (imm := k.setWidth 15) (by decide) (by decide) (by decide)
      (by rw [toNat_shift_imm]; rfl) ((if_pos (amount_lt k)).trans (by rw [setWidth_amount]))
  | sari c d a k =>
    exact decodes_imm (i := .sari c d a k) (op := 0xe) (imm := k.setWidth 15) (by decide) (by decide) (by decide)
      (by rw [toNat_shift_imm]; rfl) ((if_pos (amount_lt k)).trans (by rw [setWidth_amount]))
  | ldu => exact decodes_ldu
  | srd c r op stall => exact decodes_sig (k := 0x28) (stall := stall) (by decide) (by decide) hwf rfl rfl
  | srdq c r op stall =>
    rw [Instr.wf, Bool.and_eq_true, evenReg, beq_iff_eq] at hwf
    exact decodes_sig (k := 0x29) (stall := stall) (by decide) (by decide) hwf.1 rfl (if_pos hwf.2)
  | swr c r op => exact decodes_sig (k := 0x2a) (stall := 0) (by decide) (by decide) hwf rfl rfl
  | swri c r op => exact decodes_sig (k := 0x2b) (stall := 0) (by decide) (by decide) hwf rfl rfl
  | b c cond off => exact decodes_branch (bne_iff_ne.1 hwf) (.inl ⟨rfl, rfl⟩)
  | bl c cond off => exact decodes_branch (bne_iff_ne.1 hwf) (.inr ⟨rfl, rfl⟩)
  | jr => exact decodes_ctl (op := 0x3) (fn := 0) (.inl rfl) rfl rfl
  | callr => exact decodes_ctl (op := 0x3) (fn := 1) (.inl rfl) rfl rfl
  | endTask => exact decodes_ctl (op := 0x4) (a := 0) (fn := 0) (.inr rfl) rfl rfl
  | yield => exact decodes_ctl (op := 0x4) (a := 0) (fn := 1) (.inr rfl) rfl rfl
  | waitEv => exact decodes_ctl (op := 0x4) (a := 0) (fn := 2) (.inr rfl) rfl rfl
  | waitF => exact decodes_ctl (op := 0x4) (a := 0) (fn := 3) (.inr rfl) rfl rfl
  | mvStart c sub a p r =>
    obtain ⟨hn, hp, hr⟩ := profile_fields p r
    exact decodes_motion (i := .mvStart c sub a p r) (op := 0x40) (by decide) (by decide) (by omega) rfl
      ((if_neg (not_not.2 rfl)).trans <| (if_pos hn).trans (by rw [hp, hr]))
  | mvStop => exact decodes_motion (op := 0x41) (a := 0) (n := 0) (by decide) (by decide) (by decide) rfl rfl
  | mvSpeed c sub a rm =>
    cases rm with
    | false => exact decodes_motion (op := 0x42) (n := 0) (by decide) (by decide) (by decide) rfl rfl
    | true => exact decodes_motion (op := 0x42) (n := 1) (by decide) (by decide) (by decide) rfl rfl
  | mvAccel c sub a rm =>
    cases rm with
    | false => exact decodes_motion (op := 0x43) (n := 0) (by decide) (by decide) (by decide) rfl rfl
    | true => exact decodes_motion (op := 0x43) (n := 1) (by decide) (by decide) (by decide) rfl rfl
  | mvHome c sub a pos src =>
    obtain ⟨hn, hp, hs⟩ := home_fields pos src
    exact decodes_motion (i := .mvHome c sub a pos src) (op := 0x44) (by decide) (by decide) (by omega) rfl
      ((if_neg (not_not.2 rfl)).trans <| (if_pos hn).trans (by rw [hp, hs]))
  | mvGear c sub a table dis =>
    obtain ⟨hn, ht, hd⟩ := gear_fields hwf
    exact decodes_motion (i := .mvGear c sub a table dis) (op := 0x45) (by decide) (by decide) (by omega) rfl
      ((if_neg (not_not.2 rfl)).trans <| (if_pos hn).trans (by rw [ht, hd]))
  | mvMode c sub mode =>
    exact decodes_motion (i := .mvMode c sub mode) (op := 0x46) (a := 0) (n := mode.toNat) (by decide) (by decide) (by omega) rfl
      ((if_neg (not_not.2 rfl)).trans <| (if_pos ⟨mode.isLt, rfl⟩).trans (by rw [BitVec.ofNat_toNat, BitVec.setWidth_eq]))
  | recPut c sub a b ut =>
    have hf : (ut.setWidth 10).toNat = ut.toNat := by rw [BitVec.toNat_setWidth]; exact Nat.mod_eq_of_lt (by omega)
    exact decodes_service (i := .recPut c sub a b ut) (op := 0x48) (fn := ut.setWidth 10) (c := c) (d := sub) (a := a) (b := b) (by decide)
      (by rw [hf]; rfl) ((if_pos rfl).trans <| (if_pos (by rw [hf]; exact ut.isLt)).trans (by rw [hf, BitVec.ofNat_toNat, BitVec.setWidth_eq]))
  | confirm => exact decodes_service (op := 0x49) (a := 0) (b := 0) (fn := 0) (by decide) rfl rfl
  | sysRegRead => exact decodes_service (op := 0x4A) (fn := 0x1) (by decide) rfl (if_neg (ne_one_of_evenReg hwf))
  | sysRegWrite => exact decodes_service (op := 0x4A) (fn := 0x2) (by decide) rfl (if_neg (ne_one_of_evenReg hwf))
  | trcMark => exact decodes_service (op := 0x4A) (fn := 0x10) (by decide) rfl (if_neg (ne_one_of_evenReg hwf))
  | sysCntRead => exact decodes_service (op := 0x4A) (fn := 0x11) (by decide) rfl (if_neg (ne_one_of_evenReg hwf))
  | imgState => exact decodes_service (op := 0x4A) (fn := 0x20) (by decide) rfl (if_neg (ne_one_of_evenReg hwf))
  | axCtrl => exact decodes_service (op := 0x4A) (fn := 0x30) (by decide) rfl (if_neg (ne_one_of_evenReg hwf))
  | instRestart => exact decodes_service (op := 0x4A) (fn := 0x40) (by decide) rfl (if_neg (ne_one_of_evenReg hwf))
  | sysNoService c sub a b fn =>
    simp only [Instr.wf, Bool.and_eq_true, Bool.not_eq_true'] at hwf
    obtain ⟨he, hs⟩ := hwf
    exact decodes_service (op := 0x4A) (by decide) (if_neg (by rw [hs]; nofun))
      ((if_neg (ne_one_of_evenReg he)).trans (decodeService_none hs))
  | _ => exact decodes_of_none rfl

/-- Settles O3: every arm of the encoder gives a word whose fields the decoder reads back, and every arm of the decoder gives an
instruction that is well formed and whose word it came from. -/
theorem decodeEncode : Obligations.DecodeEncode :=
  ⟨fun i w hwf he => decodes i hwf w he, fun _ _ _ _ h => isWord_of_decode h⟩

end Sys2Proof.Proofs
end

section
/-! SUPPORT. What an instruction that only changes its task leaves alone (R34, R44): the accounts of cycles are all that the cycles spent
change beside the task's context. -/

namespace Sys2Proof.Proofs

open Sys2Proof.Machine Sys2Proof.Safety

variable {α : Type} {d e f : Dev} {c t : Nat}

theorem find_smPut_self (m : SMap α) (n : Nat) (v : α) : (smPut m n v).find? (fun p => p.1 == n) = some (n, v) := by
  induction m with
  | nil => simp [smPut]
  | cons p m ih =>
    simp only [smPut]
    split_ifs with h1 h2
    · simp
    · simp
    · have : (p.1 == n) = false := by simpa using fun h => h2 h.symm
      simpa [List.find?_cons, this] using ih

theorem find_smPut_other (m : SMap α) {n k : Nat} (v : α) (h : k ≠ n) :
    (smPut m n v).find? (fun p => p.1 == k) = m.find? (fun p => p.1 == k) := by
  have hn : (n == k) = false := by simpa using fun e => h e.symm
  induction m with
  | nil => simp [smPut, hn]
  | cons p m ih =>
    simp only [smPut]
    split_ifs with h1 h2
    · simp [List.find?_cons, hn]
    · simp [hn, ← h2]
    · simp only [List.find?_cons, ih]

theorem sameButTask_trans (h : SameButTask d e c t) (g : SameButTask e f c t) : SameButTask d f c t := by
  obtain ⟨h1, h2, h3, h4, h5⟩ := h
  obtain ⟨g1, g2, g3, g4, g5⟩ := g
  exact ⟨fun c' t' hn => (g1 c' t' hn).trans (h1 c' t' hn), fun c' hn => (g2 c' hn).trans (h2 c' hn), g3.trans h3,
    fun x => (g4 x).trans (h4 x), g5.trans h5⟩

theorem sameButTask_setTask (d : Dev) (c t : Nat) (x : Task) : SameButTask d (d.setTask c t x) c t := by
  refine ⟨fun c' t' h => task_setTask_other d x ?_, fun c' h => core_setCore_other d _ h, ?_, fun _ => rfl, rfl⟩
  · by_contra hn
    push Not at hn
    exact h (by rw [hn.1, hn.2])
  · simp only [Dev.setTask, core_setCore_self]

/-- A core whose account of a turn or of a tick changes. -/
theorem sameButTask_setCore (d : Dev) (c t : Nat) (k : Core) (ht : k.tasks = (d.core c).tasks)
    (hk : ({ k with tasks := [], tickCycles := 0, turn := 0 } : Core) = { d.core c with tasks := [], tickCycles := 0, turn := 0 }) :
    SameButTask d (d.setCore c k) c t := by
  refine ⟨fun c' t' _ => ?_, fun c' h => core_setCore_other d _ h, by rw [core_setCore_self, hk], fun _ => rfl, rfl⟩
  by_cases hc : c' = c
  · subst hc; rw [Dev.task, core_setCore_self, ht]; rfl
  · rw [Dev.task, core_setCore_other d k hc]; rfl

/-- A door whose account of cycles changes. -/
theorem sameButTask_doors (d : Dev) (c t x : Nat) {p : Nat × DoorPl} (n : Nat) (hp : d.placer.doors.find? (fun p => p.1 == x) = some p) :
    SameButTask d { d with placer := { d.placer with doors := smPut d.placer.doors x { p.2 with cycles := n } } } c t := by
  refine ⟨fun _ _ _ => rfl, fun _ _ => rfl, rfl, fun y => ?_, rfl⟩
  by_cases hy : y = x
  · subst hy; simp only [Dev.doorPl, find_smPut_self, hp, Option.map_some]
  · simp only [Dev.doorPl, find_smPut_other _ _ hy]

theorem sameButTask_roundCycles (d : Dev) (c t : Nat) (door : Option Nat) (n : Nat) : SameButTask d (d.roundCycles c door n) c t := by
  have hk := sameButTask_setCore d c t { d.core c with tickCycles := (d.core c).tickCycles + n } rfl rfl
  unfold Dev.roundCycles
  cases door with
  | none => exact hk
  | some x =>
    dsimp only
    split
    next p hp => exact sameButTask_trans hk (sameButTask_doors _ c t x _ hp)
    next => exact hk

theorem sameButTask_spend (d : Dev) (c t : Nat) (x : Task) (n : Nat) : SameButTask d (d.spend c x n) c t := by
  unfold Dev.spend
  cases x.kind with
  | frame => exact sameButTask_roundCycles d c t _ n
  | background => exact sameButTask_setCore d c t _ rfl rfl
  | _ => exact ⟨fun _ _ _ => rfl, fun _ _ => rfl, rfl, fun _ => rfl, rfl⟩

/-- The cycles an instruction spent change no task. -/
theorem tasks_roundCycles (d : Dev) (c e : Nat) (door : Option Nat) (n : Nat) :
    ((d.roundCycles c door n).core e).tasks = (d.core e).tasks := by
  have hk : ((d.setCore c { d.core c with tickCycles := (d.core c).tickCycles + n }).core e).tasks = (d.core e).tasks := by
    by_cases he : e = c
    · rw [he, core_setCore_self]
    · rw [core_setCore_other _ _ he]
  unfold Dev.roundCycles
  cases door with
  | none => exact hk
  | some x =>
    dsimp only
    split <;> exact hk

theorem task_spend (d : Dev) (c e u : Nat) (x : Task) (n : Nat) : (d.spend c x n).task e u = d.task e u := by
  unfold Dev.spend
  cases x.kind with
  | frame => rw [Dev.task, tasks_roundCycles]; rfl
  | background =>
    by_cases he : e = c
    · subst he; rw [Dev.task, core_setCore_self]; rfl
    · rw [Dev.task, core_setCore_other _ _ he]; rfl
  | _ => rfl

theorem g_setG (x : Task) (d e : Reg) (r : Word) : (x.setG d r).g e = if e = 0 then 0 else if e = d then r else x.g e := by
  unfold Task.setG Task.g
  by_cases he : e = 0
  · rw [if_pos he, if_pos he]
  by_cases hd : d = 0
  · rw [if_neg he, if_neg he, if_pos hd, if_neg (fun h => he (h.trans hd)), if_neg he]
  rw [if_neg he, if_neg he, if_neg hd, if_neg he]
  by_cases hed : e = d
  · rw [if_pos hed, hed]; exact smGet_smSet_self 0 _ _ _
  · rw [if_neg hed]; exact smGet_smSet_other 0 _ _ _ _ fun h => hed (BitVec.eq_of_toNat_eq h)

/-- Settles O4: an executed instruction is a write of the task's context and a change of the accounts of its core and of its door. -/
theorem instructionFrame : Obligations.InstructionFrame := by
  refine ⟨fun s core t cycles x => ⟨rfl, ?_, ?_⟩, fun x d e r => ⟨rfl, rfl, g_setG x d e r, ?_⟩⟩
  · exact sameButTask_trans (sameButTask_setTask ..) (sameButTask_spend ..)
  · exact (task_spend ..).trans (task_setTask_self ..)
  · unfold Task.setG
    split <;> rfl

end Sys2Proof.Proofs
end

section
/-! SUPPORT. The module right after reset (R9, R402). -/

namespace Sys2Proof.Proofs

open Sys2Proof.Machine Sys2Proof.Safety

/-- Only the system status is written at reset. -/
theorem sig_reset_other {n : Nat} (h : n < 0x87000 ∨ 0x87008 < n) : State.reset.dev.sig n = {} := by
  have hs : State.reset.dev.sigs.find? (fun p => p.1 == n) = none := by
    simp only [State.reset, List.find?_eq_none, beq_iff_eq]
    intro p hp hn
    subst hn
    simp only [List.mem_cons, List.not_mem_nil, or_false] at hp
    rcases hp with rfl | rfl | rfl | rfl | rfl | rfl <;> simp at h
  unfold Dev.sig
  rw [hs]
  split_ifs <;> rfl

/-- Settles O60: the tables of the reset state are empty but for the system status. -/
theorem resetState : Obligations.ResetState := by
  refine ⟨rfl, fun _ => rfl, fun n h => sig_reset_other h, by decide, by decide, rfl, rfl, rfl, rfl, fun _ _ => rfl, fun _ => rfl, fun _ => rfl,
    fun _ => rfl, fun _ => rfl, rfl, rfl, rfl, fun _ => rfl, fun _ => rfl, ?_⟩
  refine ⟨nofun, nofun, nofun, nofun, fun h => absurd rfl h, fun h => absurd rfl h, nofun, .inl rfl⟩

end Sys2Proof.Proofs
end

section
/-! SUPPORT. What writing to the logs leaves alone (R356, R389, R393): records, trace packets and event counts move the recorder, the
trace unit and the three registers that show their losses, and nothing else. -/

namespace Sys2Proof.Proofs

open Sys2Proof.Machine Sys2Proof.Safety

/-- A module without its registers and its logs. -/
def unlogged (d : Dev) : Dev := { d with regs := [], recorder := {}, trace := {} }

/-- The registers that show what the logs lost. -/
def logRegs : List Nat := [Adr.recFlags, Adr.trcFlags, Adr.trcDrop]

/-- The second module is the first but for the logs. -/
structure Logs (d e : Dev) : Prop where
  told : unlogged e = unlogged d
  reg : ∀ a, a ∉ logRegs → e.reg a = d.reg a

variable {d e f : Dev}

theorem Logs.refl (d : Dev) : Logs d d := ⟨rfl, fun _ _ => rfl⟩

theorem Logs.trans (h : Logs d e) (g : Logs e f) : Logs d f :=
  ⟨g.told.trans h.told, fun a ha => (g.reg a ha).trans (h.reg a ha)⟩

theorem Logs.ite {p : Prop} [Decidable p] (h : Logs d e) (g : Logs d f) : Logs d (if p then e else f) := by
  split
  · exact h
  · exact g

theorem Logs.sys (h : Logs d e) : e.sys = d.sys := show (unlogged e).sys = (unlogged d).sys from congrArg Dev.sys h.told
theorem Logs.image (h : Logs d e) : e.image = d.image := show (unlogged e).image = (unlogged d).image from congrArg Dev.image h.told
theorem Logs.sigs (h : Logs d e) : e.sigs = d.sigs := show (unlogged e).sigs = (unlogged d).sigs from congrArg Dev.sigs h.told
theorem Logs.hidden (h : Logs d e) : e.hidden = d.hidden := show (unlogged e).hidden = (unlogged d).hidden from congrArg Dev.hidden h.told
theorem Logs.summary (h : Logs d e) : e.summary = d.summary := show (unlogged e).summary = (unlogged d).summary from congrArg Dev.summary h.told
theorem Logs.cores (h : Logs d e) : e.cores = d.cores := show (unlogged e).cores = (unlogged d).cores from congrArg Dev.cores h.told
theorem Logs.halted (h : Logs d e) : e.halted = d.halted := show (unlogged e).halted = (unlogged d).halted from congrArg Dev.halted h.told
theorem Logs.rstReq (h : Logs d e) : e.rstReq = d.rstReq := show (unlogged e).rstReq = (unlogged d).rstReq from congrArg Dev.rstReq h.told
theorem Logs.axes (h : Logs d e) : e.axes = d.axes := show (unlogged e).axes = (unlogged d).axes from congrArg Dev.axes h.told
theorem Logs.doorCyc (h : Logs d e) : e.doorCyc = d.doorCyc := show (unlogged e).doorCyc = (unlogged d).doorCyc from congrArg Dev.doorCyc h.told
theorem Logs.promos (h : Logs d e) : e.promos = d.promos := show (unlogged e).promos = (unlogged d).promos from congrArg Dev.promos h.told
theorem Logs.placer (h : Logs d e) : e.placer = d.placer := show (unlogged e).placer = (unlogged d).placer from congrArg Dev.placer h.told
theorem Logs.ports (h : Logs d e) : e.ports = d.ports := show (unlogged e).ports = (unlogged d).ports from congrArg Dev.ports h.told
theorem Logs.queues (h : Logs d e) : e.queues = d.queues := show (unlogged e).queues = (unlogged d).queues from congrArg Dev.queues h.told
theorem Logs.island (h : Logs d e) : e.island = d.island := show (unlogged e).island = (unlogged d).island from congrArg Dev.island h.told
theorem Logs.field (h : Logs d e) : e.field = d.field := show (unlogged e).field = (unlogged d).field from congrArg Dev.field h.told
theorem Logs.pair (h : Logs d e) : e.pair = d.pair := show (unlogged e).pair = (unlogged d).pair from congrArg Dev.pair h.told
theorem Logs.host (h : Logs d e) : e.host = d.host := show (unlogged e).host = (unlogged d).host from congrArg Dev.host h.told
theorem Logs.cans (h : Logs d e) : e.cans = d.cans := show (unlogged e).cans = (unlogged d).cans from congrArg Dev.cans h.told
theorem Logs.upd (h : Logs d e) : e.upd = d.upd := show (unlogged e).upd = (unlogged d).upd from congrArg Dev.upd h.told

/-! A core, an axis, a port, a task are those of before. -/

theorem Logs.core (h : Logs d e) (c : Nat) : e.core c = d.core c := by rw [Dev.core, h.cores]; rfl
theorem Logs.task (h : Logs d e) (c t : Nat) : e.task c t = d.task c t := by rw [Dev.task, h.core]; rfl
theorem Logs.axis (h : Logs d e) (n : Nat) : e.axis n = d.axis n := by rw [Dev.axis, h.axes]; rfl
theorem Logs.port (h : Logs d e) (p : Nat) : e.port p = d.port p := by rw [Dev.port, h.ports]; rfl

/-! ### The operations of the logs -/

theorem Logs.modRecorder (h : Logs d e) (r : Recorder) : Logs d { e with recorder := r } := h.trans ⟨rfl, fun _ _ => rfl⟩

theorem Logs.modTrace (h : Logs d e) (t : Trace) : Logs d { e with trace := t } := h.trans ⟨rfl, fun _ _ => rfl⟩

theorem Logs.setReg (h : Logs d e) {a : Nat} (ha : a ∈ logRegs) (v : Word) : Logs d (e.setReg a v) :=
  h.trans ⟨rfl, fun _ hb => reg_setReg_other e v fun h => hb (h ▸ ha)⟩

theorem recFlags_mem : Adr.recFlags ∈ logRegs := .head _
theorem trcFlags_mem : Adr.trcFlags ∈ logRegs := .tail _ (.head _)
theorem trcDrop_mem : Adr.trcDrop ∈ logRegs := .tail _ (.tail _ (.head _))

theorem Logs.bumpCounter (h : Logs d e) (i n : Nat) : Logs d (e.bumpCounter i n) :=
  .ite ((h.modTrace _).setReg trcFlags_mem _) (h.modTrace _)

/-- A chain of changes of the logs. -/
theorem Logs.foldl {α : Type} {l : List α} {f : Dev → α → Dev} (hf : ∀ e a, Logs d e → Logs d (f e a)) (h : Logs d e) :
    Logs d (l.foldl f e) := by
  induction l generalizing e with
  | nil => exact h
  | cons a l ih => exact ih (hf e a h)

theorem Logs.countEvent (h : Logs d e) (ev unit n : Nat) : Logs d (e.countEvent ev unit n) :=
  h.foldl fun _ _ g => .ite (g.bumpCounter _ n) g

theorem Logs.packet (h : Logs d e) (bytes : List Byte) : Logs d (e.packet bytes) :=
  .ite h (.ite (((h.modTrace _).setReg trcDrop_mem _).setReg trcFlags_mem _) (h.modTrace _))

theorem Logs.flushBranches (h : Logs d e) (c : Nat) : Logs d (e.flushBranches c) := .ite h ((h.packet _).modTrace _)

theorem Logs.flowPacket (h : Logs d e) (c : Nat) (ptype : Byte) (payload : List Byte) : Logs d (e.flowPacket c ptype payload) :=
  .ite ((h.flushBranches c).packet _) h

theorem Logs.traceTask (h : Logs d e) (c t ev code : Nat) : Logs d (e.traceTask c t ev code) := h.flowPacket c _ _

theorem Logs.traceMark (h : Logs d e) (c : Nat) (marker : Word) : Logs d (e.traceMark c marker) := h.packet _

theorem Logs.traceWrite (h : Logs d e) (sig tag : Nat) (value : Word) (q : BitVec 8) : Logs d (e.traceWrite sig tag value q) :=
  .ite (h.packet _) h

theorem Logs.dramBytes (h : Logs d e) (a n : Nat) : Logs d (e.dramBytes a n) := h.countEvent _ _ _

theorem Logs.stage (h : Logs d e) (x : Record) : Logs d (e.stage x) := .ite h (h.dramBytes _ _)

theorem Logs.lostEvent (h : Logs d e) (fromPut : Bool) : Logs d (e.lostEvent fromPut) := (h.modRecorder _).setReg recFlags_mem _

theorem Logs.putRecord (h : Logs d e) (rtype code subj : Nat) (rep : Bool) (payload : List Byte) :
    Logs d (e.putRecord rtype code subj rep payload) := by
  unfold Dev.putRecord
  dsimp only
  split
  · exact h.modRecorder _
  · split
    · exact (h.modRecorder _).stage _
    · exact h.lostEvent _

theorem Logs.event (h : Logs d e) (code subj : Nat) (payload : List Byte) : Logs d (e.event code subj payload) := h.putRecord _ _ _ _ _

theorem Logs.eventRep (h : Logs d e) (code subj : Nat) (payload : List Byte) : Logs d (e.eventRep code subj payload) :=
  h.putRecord _ _ _ _ _

end Sys2Proof.Proofs
end

section
/-! SUPPORT. Task control (R40, R78–R80): how a task leaves its core, and what END, YIELD and the WAIT forms do. -/

namespace Sys2Proof.Proofs

open Sys2Proof.Machine Sys2Proof.Safety

/-! ### A task leaves its core -/

section Leaving

variable {d : Dev} {c t : Nat} {st : TaskSt} {event : Nat}

/-- The module in which the running task has stopped, before the next choice. -/
def stopped (d : Dev) (c t : Nat) (st : TaskSt) (event : Nat) : Dev :=
  let e := d.leave c t { d.task c t with st := st }
  let e := if (d.task c t).kind == .background then e.setCore c { e.core c with bgNext := t + 1 } else e
  e.traceTask c t event 0

theorem stopTask_eq (d : Dev) (c t : Nat) (st : TaskSt) (event : Nat) : d.stopTask c t st event = (stopped d c t st event).choose c := rfl

/-- The core that the running task has left. -/
theorem core_leave (d : Dev) (c t : Nat) (x : Task) :
    (d.leave c t x).core c = { d.core c with tasks := smPut (d.core c).tasks t x.noteMax, cur := none } := by
  rw [Dev.leave, core_setCore_self, Dev.setTask, core_setCore_self]

theorem core_leave_other (d : Dev) {c k : Nat} (t : Nat) (x : Task) (h : k ≠ c) : (d.leave c t x).core k = d.core k := by
  rw [Dev.leave, core_setCore_other _ _ h, Dev.setTask, core_setCore_other _ _ h]

theorem core_stopped (d : Dev) (c t : Nat) (st : TaskSt) (event : Nat) :
    (stopped d c t st event).core c =
      { d.core c with tasks := smPut (d.core c).tasks t ({ d.task c t with st := st } : Task).noteMax, cur := none,
                      bgNext := if (d.task c t).kind == .background then t + 1 else (d.core c).bgNext } := by
  rw [stopped, (Logs.refl _).traceTask c t event 0 |>.core]
  split
  · rw [core_setCore_self, core_leave]
  · rw [core_leave]

theorem core_stopped_other {k : Nat} (h : k ≠ c) : (stopped d c t st event).core k = d.core k := by
  rw [stopped, (Logs.refl _).traceTask c t event 0 |>.core]
  split
  · rw [core_setCore_other _ _ h, core_leave_other _ _ _ h]
  · rw [core_leave_other _ _ _ h]

theorem task_stopped (d : Dev) (c t : Nat) (st : TaskSt) (event : Nat) :
    (stopped d c t st event).task c t = ({ d.task c t with st := st } : Task).noteMax := by
  rw [Dev.task, core_stopped]
  exact smGet_smPut_self _ _ _ _

theorem task_stopped_other {u : Nat} (h : u ≠ t) : (stopped d c t st event).task c u = d.task c u := by
  rw [Dev.task, core_stopped]
  exact smGet_smPut_other _ _ _ _ _ h

theorem stopped_frame (d : Dev) (c t : Nat) (st : TaskSt) (event : Nat) :
    (stopped d c t st event).sigs = d.sigs ∧ (stopped d c t st event).axes = d.axes ∧ (stopped d c t st event).sys = d.sys := by
  have h : ∀ e, Logs e (e.traceTask c t event 0) := fun e => (Logs.refl e).traceTask c t event 0
  unfold stopped
  dsimp only
  rw [(h _).sigs, (h _).axes, (h _).sys]
  split <;> exact ⟨rfl, rfl, rfl⟩

theorem core_takeOrd (d : Dev) (c : Nat) : (d.takeOrd c).core c = { d.core c with ordNext := d.nextOrd + 1 } := core_setCore_self ..

/-- The module in which the task that yields has its new place in the order of queueing. -/
def requeued (d : Dev) (c t : Nat) : Dev := (d.takeOrd c).setTask c t { d.task c t with ord := d.nextOrd }

theorem core_requeued (d : Dev) (c t : Nat) : (requeued d c t).core c =
    { d.core c with ordNext := d.nextOrd + 1, tasks := smPut (d.core c).tasks t { d.task c t with ord := d.nextOrd } } := by
  rw [requeued, Dev.setTask, core_setCore_self, core_takeOrd]

theorem core_requeued_other (d : Dev) {c k : Nat} (t : Nat) (h : k ≠ c) : (requeued d c t).core k = d.core k := by
  rw [requeued, Dev.setTask, core_setCore_other _ _ h, Dev.takeOrd, core_setCore_other _ _ h]

theorem task_requeued (d : Dev) (c t : Nat) : (requeued d c t).task c t = { d.task c t with ord := d.nextOrd } :=
  task_setTask_self ..

theorem task_requeued_other (d : Dev) (c : Nat) {t u : Nat} (h : u ≠ t) : (requeued d c t).task c u = d.task c u := by
  rw [Dev.task, core_requeued]
  exact smGet_smPut_other _ _ _ _ _ h

/-- A task that yields leaves its core, and is the last in the order of queueing. -/
theorem yieldTask_leaves (d : Dev) (c t : Nat) :
    ∃ d' : Dev, d.yieldTask c t = d'.choose c ∧ (d'.core c).cur = none ∧
      (let y := d'.task c t
       y.st = .ready ∧ y.regs = (d.task c t).regs ∧ y.mem = (d.task c t).mem ∧ y.pc = (d.task c t).pc ∧
         y.count = (d.task c t).count ∧ y.queue = (d.task c t).queue ∧ y.ord = d.nextOrd) ∧
      (∀ t', t' ≠ t → d'.task c t' = d.task c t') ∧ (∀ k, k ≠ c → d'.core k = d.core k) ∧
      ((d.task c t).kind = .background → (d'.core c).bgNext = t + 1) ∧ (d'.core c).round = (d.core c).round ∧
      (d'.core c).wbuf = (d.core c).wbuf ∧ d'.sigs = d.sigs ∧ d'.axes = d.axes ∧ d'.sys = d.sys := by
  have hk := core_stopped (requeued d c t) c t .ready 2
  have ht := task_stopped (requeued d c t) c t .ready 2
  obtain ⟨hsigs, haxes, hsys⟩ := stopped_frame (requeued d c t) c t .ready 2
  rw [task_requeued] at hk ht
  rw [core_requeued] at hk
  refine ⟨stopped (requeued d c t) c t .ready 2, rfl, by rw [hk], by rw [ht]; exact ⟨rfl, rfl, rfl, rfl, rfl, rfl, rfl⟩,
    fun u hu => ?_, fun k hc => ?_, fun hb => ?_, by rw [hk], by rw [hk], hsigs, haxes, hsys⟩
  · rw [task_stopped_other hu, task_requeued_other d c hu]
  · rw [core_stopped_other hc, core_requeued_other d t hc]
  · rw [hk]
    exact if_pos (beq_iff_eq.2 hb)

/-- A task that stops leaves its core. -/
theorem stopTask_leaves (d : Dev) (c t : Nat) (st : TaskSt) (event : Nat) :
    ∃ d' : Dev, d.stopTask c t st event = d'.choose c ∧ (d'.core c).cur = none ∧ (d'.task c t).st = st ∧
      (d'.task c t).regs = (d.task c t).regs ∧ (d'.task c t).mem = (d.task c t).mem ∧ (d'.task c t).pc = (d.task c t).pc ∧
      ((d.task c t).kind = .background → (d'.core c).bgNext = t + 1) ∧ (d'.core c).round = (d.core c).round ∧
      (d'.core c).wbuf = (d.core c).wbuf ∧ d'.sigs = d.sigs ∧ d'.axes = d.axes ∧ d'.sys = d.sys := by
  have hk := core_stopped d c t st event
  have ht := task_stopped d c t st event
  obtain ⟨hsigs, haxes, hsys⟩ := stopped_frame d c t st event
  refine ⟨stopped d c t st event, rfl, by rw [hk], by rw [ht]; rfl, by rw [ht]; rfl, by rw [ht]; rfl, by rw [ht]; rfl, fun hb => ?_,
    by rw [hk], by rw [hk], hsigs, haxes, hsys⟩
  rw [hk]
  exact if_pos (beq_iff_eq.2 hb)

end Leaving

/-! ### The instructions -/

theorem mayWait_iff {k : TaskKind} : mayWait k = true ↔ k = .event ∨ k = .background := by
  simp only [mayWait, Bool.or_eq_true, beq_iff_eq]

section Control

variable {s : State} {core : CoreId} {t : Nat} {i : Instr} {body : Nat → Task → Effect} {st : TaskSt}

/-- The frames of WAIT.T, limited. -/
theorem wait_frames {n : Int} (h : 0 < n) : wordOfNat (satNat 16777215 n.toNat) = BitVec.ofInt 32 (min n 16777215) := by
  obtain ⟨k, rfl⟩ := Int.eq_ofNat_of_zero_le h.le
  have : min (k : Int) 16777215 = ((satNat 16777215 k : Nat) : Int) := by
    unfold satNat
    split <;> omega
  rw [this, Int.toNat_natCast, BitVec.ofInt_natCast]

theorem runs_yield (hx : exec i s = execInstr core i s body)
    (hb : body t (s.dev.task core.val t) = yieldEffect core.val t (s.dev.task core.val t))
    (hm : mayWait (s.dev.task core.val t).kind = true) :
    Runs s core t i 1 (next (s.dev.task core.val t)) (fun d => d.yieldTask core.val t) :=
  runs_done hx (hb.trans (if_pos hm))

theorem runs_wait (hx : exec i s = execInstr core i s body)
    (hb : body t (s.dev.task core.val t) = waitEffect core.val t st (s.dev.task core.val t))
    (hm : mayWait (s.dev.task core.val t).kind = true) :
    Runs s core t i 1 (next (s.dev.task core.val t)) (fun d => d.stopTask core.val t st 1) :=
  runs_done hx (hb.trans (if_pos hm))

theorem faults_yield (hx : exec i s = execInstr core i s body)
    (hb : body t (s.dev.task core.val t) = yieldEffect core.val t (s.dev.task core.val t))
    (hm : ¬mayWait (s.dev.task core.val t).kind = true) : Faults s core t i 0xA008 :=
  faults_fault hx (hb.trans (if_neg hm))

theorem faults_wait (hx : exec i s = execInstr core i s body)
    (hb : body t (s.dev.task core.val t) = waitEffect core.val t st (s.dev.task core.val t))
    (hm : ¬mayWait (s.dev.task core.val t).kind = true) : Faults s core t i 0xA008 :=
  faults_fault hx (hb.trans (if_neg hm))

theorem endState_eq (k : TaskKind) :
    (if k == .background then TaskSt.stopped else TaskSt.idle) = if k = .background then .stopped else .idle := by
  cases k <;> rfl

/-- WAIT.T of no frame is YIELD. -/
theorem waitTime_yield {x : Task} {c : Nat} {frame : Word} {a : Reg} {imm : BitVec 15} (h : (x.g a + imm.signExtend 32).toInt ≤ 0) :
    waitTimeEffect c t frame a imm x = yieldEffect c t x := if_pos h

theorem waitTime_wait {x : Task} {c : Nat} {frame : Word} {a : Reg} {imm : BitVec 15} (h : 0 < (x.g a + imm.signExtend 32).toInt) :
    waitTimeEffect c t frame a imm x =
      waitEffect c t (.waitTime (frame + BitVec.ofInt 32 (min (x.g a + imm.signExtend 32).toInt 16777215))) x := by
  rw [← wait_frames h]
  exact if_neg (not_le.2 h)

end Control

/-- Settles O11: each form is its effect on the running task, and the task then leaves its core. -/
theorem taskControl : Obligations.TaskControl := by
  refine ⟨fun s core t a imm => ?_, yieldTask_leaves, stopTask_leaves⟩
  extract_lets x may frames until_ stops yields
  have hmay : may ↔ mayWait x.kind = true := mayWait_iff.symm
  refine ⟨runs_done rfl (by rw [endEffect, endState_eq]; rfl), fun hm => ?_, fun hm => ?_⟩
  · rw [hmay] at hm
    exact ⟨runs_yield rfl rfl hm, runs_wait rfl rfl hm, runs_wait rfl rfl hm, fun hf => runs_wait rfl (waitTime_wait hf) hm,
      fun hf => runs_yield rfl (waitTime_yield hf) hm⟩
  · rw [hmay] at hm
    refine ⟨faults_yield rfl rfl hm, faults_wait rfl rfl hm, faults_wait rfl rfl hm, ?_⟩
    rcases le_or_gt frames 0 with hf | hf
    · exact faults_yield rfl (waitTime_yield hf) hm
    · exact faults_wait rfl (waitTime_wait hf) hm

end Sys2Proof.Proofs
end

section
/-! SUPPORT. The signal instructions (R49–R53, R72–R75): the number an operand names, the cost and the marks of a read, and what a write
leaves in the write buffer. -/

namespace Sys2Proof.Proofs

open Sys2Proof.Machine Sys2Proof.Safety

/-! ### Operands and results -/

/-- An operand names the signal that the statements give it. -/
theorem sigNumber_eq (x : Task) {op : SigOp} (h : op.wf = true) : x.sigNumber op = signal x op := by
  cases op with
  | abs sig => rfl
  | rel a base off =>
    have hoff : off.setWidth 32 = wordOfNat off.toNat := BitVec.eq_of_toNat_eq (by rw [BitVec.toNat_setWidth, BitVec.toNat_ofNat])
    have hb : base ≠ 3 := bne_iff_ne.1 h
    simp only [Task.sigNumber, signal, hoff]
    obtain rfl | rfl | rfl : base = 0 ∨ base = 1 ∨ base = 2 := by clear h hoff; revert base; decide
    all_goals rfl

/-- The quality word is stamp, tag and quality side by side (R73). -/
theorem qualityWord_eq (v : Sig) : v.qualityWord = v.stamp ++ v.tag ++ v.q := by
  apply BitVec.eq_of_toNat_eq
  have hq := v.q.isLt
  have ht := v.tag.isLt
  have hs := v.stamp.isLt
  rw [BitVec.toNat_append, BitVec.toNat_append, Nat.shiftLeft_eq, Nat.shiftLeft_eq, ← Nat.shiftLeft_eq,
    ← Nat.shiftLeft_add_eq_or_of_lt hq, ← Nat.shiftLeft_eq, ← Nat.shiftLeft_add_eq_or_of_lt ht]
  simp only [Sig.qualityWord, fields, wordOfNat, List.foldl, BitVec.toNat_ofNat, Nat.shiftLeft_eq]
  omega

/-! ### Reads -/

section Reads

variable {s : State} {core : CoreId} {t n stall : Nat} {i : Instr} {put : Task → Sig → Task} {body : Nat → Task → Effect}

/-- The context after a read. -/
def readContext (y : Task) (v : Sig) : Task :=
  next { y with z := decide (v.value = 0), n := v.value.msb, c := v.q.getLsbD 0, v := v.q.getLsbD 1 || v.q.getLsbD 2 }

/-- A task of class FRAME meets tier 2. -/
def barred (d : Dev) (core : CoreId) (t n : Nat) : Prop :=
  (d.task core.val t).kind = .frame ∧ d.sigExists n = true ∧ d.tierOf core.val n = .dram

theorem barred_iff (d : Dev) (core : CoreId) (t n : Nat) : barred d core t n ↔
    ((d.task core.val t).kind == .frame && d.sigExists n && d.tierOf core.val n == .dram) = true := by
  simp only [barred, Bool.and_eq_true, beq_iff_eq, and_assoc]

/-- What a read costs by tier (R28). -/
def readCost (d : Dev) (core : CoreId) (n stall : Nat) : Nat :=
  match d.tierOf core.val n with
  | .own => 1
  | .pool => max 4 (min stall (6 + d.canWait n))
  | .cross => max 12 (min stall 16)
  | .dram => max 1 (min stall 240)

theorem clampNat_eq {lo hi : Nat} (h : lo ≤ hi) (n : Nat) : clampNat lo hi n = max lo (min n hi) := by
  unfold clampNat
  split_ifs <;> omega

theorem readCycles_eq (d : Dev) (core : CoreId) (n stall : Nat) :
    readCycles (d.tierOf core.val n) true (d.canWait n) stall = readCost d core n stall := by
  unfold readCycles readCost
  cases d.tierOf core.val n
  · rfl
  · exact clampNat_eq (by omega) _
  · exact clampNat_eq (by omega) _
  · exact clampNat_eq (by omega) _

theorem faults_read (hx : exec i s = execInstr core i s body)
    (hb : body t (s.dev.task core.val t) = readEffect s.dev core.val t n stall put (s.dev.task core.val t)) (h : barred s.dev core t n) :
    Faults s core t i 0xA00D :=
  faults_fault hx (hb.trans (if_pos ((barred_iff ..).1 h)))

theorem runs_read (hx : exec i s = execInstr core i s body)
    (hb : body t (s.dev.task core.val t) = readEffect s.dev core.val t n stall put (s.dev.task core.val t))
    (he : s.dev.sigExists n = true) (h : ¬barred s.dev core t n) :
    Runs s core t i (readCost s.dev core n stall)
      (readContext (put (s.dev.task core.val t) (s.dev.taskSees core.val t n)) (s.dev.taskSees core.val t n)) (readMarks s core t n) := by
  refine runs_done hx (hb.trans ((if_neg (fun hn => h ((barred_iff ..).2 hn))).trans ?_))
  rw [he, readCycles_eq]
  simp only [if_true, Bool.not_true, Bool.or_false]
  rfl

/-- A signal that does not exist. -/
theorem runs_read_absent (hx : exec i s = execInstr core i s body)
    (hb : body t (s.dev.task core.val t) = readEffect s.dev core.val t n stall put (s.dev.task core.val t))
    (he : s.dev.sigExists n = false) : Runs s core t i 1 (readContext (put (s.dev.task core.val t) {}) {}) := by
  have h : ¬barred s.dev core t n := fun h => absurd (he.symm.trans h.2.1) nofun
  refine runs_done hx (hb.trans ((if_neg (fun hn => h ((barred_iff ..).2 hn))).trans ?_))
  rw [he]
  simp only [Bool.not_false, Bool.or_true, if_true]
  rfl

end Reads

/-- Settles O12: SRD and SRDQ are one read, which differs in what it puts into the registers. -/
theorem signalReads : Obligations.SignalReads := by
  intro s core t r op stall hw
  extract_lets x n v flags quality tier barred' cycles
  have hn : x.sigNumber op = n := sigNumber_eq x hw
  have hc : cycles = readCost s.dev core n stall := by
    cases h : s.dev.tierOf core.val n <;> simp only [cycles, tier, readCost, h]
  have hone (put : Task → Sig → Task) : readEffect s.dev core.val t (x.sigNumber op) stall put x = readEffect s.dev core.val t n stall put x := by
    rw [hn]
  have hq : (fun (x : Task) (v : Sig) => (x.setG r v.value).setG (r + 1) v.qualityWord) =
      fun x v => (x.setG r v.value).setG (r + 1) (v.stamp ++ v.tag ++ v.q) := by
    funext x v
    rw [qualityWord_eq]
  rw [hc]
  refine ⟨fun he hb => ⟨?_, ?_⟩, fun he => ⟨?_, ?_⟩, fun hb => ⟨?_, ?_⟩⟩
  · exact runs_read (put := fun x v => x.setG r v.value) rfl (hone _) he hb
  · exact runs_read (put := fun x v => (x.setG r v.value).setG (r + 1) (v.stamp ++ v.tag ++ v.q)) rfl ((hone _).trans (by rw [hq])) he hb
  · exact runs_read_absent (put := fun x v => x.setG r v.value) rfl (hone _) he
  · exact runs_read_absent (put := fun x v => (x.setG r v.value).setG (r + 1) (v.stamp ++ v.tag ++ v.q)) rfl ((hone _).trans (by rw [hq])) he
  · exact faults_read rfl (hone _) hb
  · exact faults_read rfl (hone _) hb

/-! ### Writes -/

section Writes

variable {s : State} {core : CoreId} {t n cycles : Nat} {v : Word} {valid : Bool} {i : Instr} {y : Task} {eff eff' : Dev → Dev}
  {body : Nat → Task → Effect}

/-- The write buffer of the core is not touched by the cycles an instruction spends. -/
theorem wbuf_executed (s : State) (core : CoreId) (t cycles : Nat) (y : Task) :
    (((executed s core t cycles y).dev).core core.val).wbuf = (s.dev.core core.val).wbuf := by
  obtain ⟨_, _, h, _, _⟩ := sameButTask_trans (sameButTask_setTask s.dev core.val t { y with count := (s.dev.task core.val t).count + cycles })
    (sameButTask_spend _ core.val t (s.dev.task core.val t) cycles)
  have hw := congrArg Core.wbuf h
  exact hw

/-- The effects of two instructions need only agree on the module they meet. -/
theorem runs_congr (h : Runs s core t i cycles y eff) (he : eff (executed s core t cycles y).dev = eff' (executed s core t cycles y).dev) :
    Runs s core t i cycles y eff' := by
  intro hr
  rw [h hr]
  exact congrArg (fun d => Host.Outcome.next { s with dev := d }) he

/-- What a write posts. -/
def posted (s : State) (t n : Nat) (v : Word) (valid : Bool) : Post :=
  { task := t, sig := n, value := v, valid := valid, home := s.dev.homeCode n, frame := s.dev.sys.frame }

/-- A signal that exists and that the task may write. -/
def mayWrite (d : Dev) (core : CoreId) (t n : Nat) : Prop := d.sigExists n = true ∧ d.sigAllows n (d.writerOf core.val t) = true

theorem refused_iff (d : Dev) (core : CoreId) (t n : Nat) :
    ¬mayWrite d core t n ↔ (!d.sigExists n || !d.sigAllows n (d.writerOf core.val t)) = true := by
  rw [mayWrite]
  cases d.sigExists n <;> cases d.sigAllows n (d.writerOf core.val t) <;> simp

variable (hx : exec i s = execInstr core i s body)
  (hb : body t (s.dev.task core.val t) = writeEffect s.dev core.val t n v valid (s.dev.task core.val t))
include hx hb

theorem faults_write (h : barred s.dev core t n) : Faults s core t i 0xA00D := faults_fault hx (hb.trans (if_pos ((barred_iff ..).1 h)))

theorem runs_write_refused (h : ¬mayWrite s.dev core t n) (hn : ¬barred s.dev core t n) :
    Runs s core t i 1 (next { s.dev.task core.val t with c := false }) :=
  runs_regs hx (hb.trans ((if_neg (fun hb => hn ((barred_iff ..).2 hb))).trans (if_pos ((refused_iff ..).1 h))))

theorem runs_write_home (h : mayWrite s.dev core t n) (hn : ¬barred s.dev core t n) (hh : s.dev.homeCode n = 16 + core.val) :
    Runs s core t i 1 (next { s.dev.task core.val t with c := true }) (fun d => d.taskHome n v valid core.val) :=
  runs_done hx (hb.trans ((if_neg (fun hb => hn ((barred_iff ..).2 hb))).trans
    ((if_neg (fun hr => (refused_iff ..).2 hr h)).trans (if_pos hh))))

/-- A write to another home is posted, and the core stalls while the buffer is full. -/
theorem runs_write_posted (h : mayWrite s.dev core t n) (hn : ¬barred s.dev core t n) (hh : s.dev.homeCode n ≠ 16 + core.val) :
    Runs s core t i (1 + s.dev.writeStall core.val) (next { s.dev.task core.val t with c := true }) (fun d =>
      (if (d.core core.val).wbuf.length ≥ 16 then d.nextFree.1.countEvent 7 core.val (s.dev.writeStall core.val) else d).post core.val
        (posted s t n v valid)) :=
  runs_done hx (hb.trans ((if_neg (fun hb => hn ((barred_iff ..).2 hb))).trans
    ((if_neg (fun hr => (refused_iff ..).2 hr h)).trans (if_neg hh))))

omit hx hb

theorem post_room {d : Dev} {c : Nat} (h : (d.core c).wbuf.length < 16) (p : Post) :
    d.post c p = d.setCore c { d.core c with wbuf := (d.core c).wbuf ++ [p] } := by
  have hf (k : Nat) : d.freeEntry c k = d := by
    cases k with
    | zero => rfl
    | succ k => exact if_pos h
  rw [Dev.post, hf]

theorem writeStall_room {d : Dev} {c : Nat} (h : (d.core c).wbuf.length < 16) : d.writeStall c = 0 := if_pos h

theorem writeStall_le (d : Dev) (c : Nat) : d.writeStall c ≤ 25000 := by
  unfold Dev.writeStall
  dsimp only
  split
  · omega
  · split <;> omega

theorem writeStall_near {d : Dev} {c : Nat}
    (h : (d.core c).wbuf.length ≤ ((d.core c).wbuf.filter fun p => p.home != 2).length + 15) : d.writeStall c ≤ 40 := by
  unfold Dev.writeStall
  dsimp only
  split
  · omega
  · rw [if_pos (by omega)]
    omega

end Writes

/-- Settles O13: SWR and SWRI are one write, with VALID as its only difference. -/
theorem signalWrites : Obligations.SignalWrites := by
  intro s core t r op hw
  extract_lets x n allowed barred' home queued post write
  intro valid
  have hn : x.sigNumber op = n := sigNumber_eq x hw
  obtain ⟨body, hx, hb⟩ : ∃ body, exec (write valid) s = execInstr core (write valid) s body ∧
      body t x = writeEffect s.dev core.val t n (x.g r) valid x := by
    rw [← hn]
    cases valid with
    | false => exact ⟨fun t x => writeEffect s.dev core.val t (x.sigNumber op) (x.g r) false x, rfl, rfl⟩
    | true => exact ⟨fun t x => writeEffect s.dev core.val t (x.sigNumber op) (x.g r) true x, rfl, rfl⟩
  refine ⟨runs_write_refused hx hb, runs_write_home hx hb, fun ha hb' hh hl => ?_, fun ha hb' hh hl => ⟨writeStall_le _ _, writeStall_near, ?_⟩,
    faults_write hx hb⟩
  · have h := runs_write_posted hx hb ha hb' hh
    rw [writeStall_room hl] at h
    refine runs_congr h ?_
    have hd : (((executed s core t 1 (next { x with c := true })).dev).core core.val).wbuf.length < 16 := by rwa [wbuf_executed]
    exact (congrArg (Dev.post · core.val (posted s t n (x.g r) valid)) (if_neg (not_le.2 hd))).trans (post_room hd _)
  · refine runs_congr (runs_write_posted hx hb ha hb' hh) ?_
    exact congrArg (Dev.post · core.val (posted s t n (x.g r) valid)) (if_pos (by rwa [wbuf_executed]))

end Sys2Proof.Proofs
end

section
/-! SUPPORT. The motion instructions at issue (R82–R88): the one effect they share, the check of each request, and the master selector. -/

namespace Sys2Proof.Proofs

open Sys2Proof.Machine Sys2Proof.Safety

/-! ### The effect they share -/

section Issue

variable {s : State} {core : CoreId} {t : Nat} {sub : Reg} {i : Instr} {r : Req} {code : Nat}

/-- What a motion instruction does with a request whose own check gives a code (R82–R84). -/
def Issues (s : State) (core : CoreId) (t : Nat) (sub : Reg) (i : Instr) (r : Req) (code : Nat) : Prop :=
  let x := s.dev.task core.val t
  let n := x.ax.toNat / 1024
  let m := (s.dev.axis n).motion
  let seq := if 65535 ≤ m.seq then 1 else m.seq + 1
  let status (code : Nat) : Task := next (x.setG sub (BitVec.ofNat 32 code))
  (core = 16 → Faults s core t i 0xA00E) ∧
  (core ≠ 16 → code ≠ 0 → Runs s core t i 2 (status code)) ∧
  (core ≠ 16 → code = 0 → 4 ≤ m.posted.length → Runs s core t i 2 (status 0x2007)) ∧
  (core ≠ 16 → code = 0 → m.posted.length < 4 →
    Runs s core t i 2 (status (seq * 65536))
      (fun d => d.modMotion n fun m => { m with seq := seq, posted := m.posted ++ [(seq, r)] }))

theorem core_val_ne {core : CoreId} (h : core ≠ 16) : core.val ≠ 16 := fun he => h (Fin.ext he)

theorem issues (r : Task → Req) (hx : exec i s = execInstr core i s fun _ x => motionEffect s.dev core.val x sub (r x))
    (hc : s.dev.issueCode ((s.dev.task core.val t).ax.toNat / 1024) (r (s.dev.task core.val t)) = code) :
    Issues s core t sub i (r (s.dev.task core.val t)) code := by
  unfold Issues
  extract_lets x n m seq status
  refine ⟨fun h => ?_, fun h hn => ?_, fun h h0 hf => ?_, fun h h0 hf => ?_⟩
  · exact faults_fault hx (if_pos (congrArg Fin.val h))
  all_goals
    have hb : motionEffect s.dev core.val x sub (r x) =
        if (if (code = 0 && m.posted.length ≥ 4) = true then 0x2007 else code) ≠ 0 then
          .regs 2 (x.setG sub (wordOfNat (if (code = 0 && m.posted.length ≥ 4) = true then 0x2007 else code)))
        else .done 2 (x.setG sub (wordOfNat (seq * 65536))).advance fun d =>
          d.modMotion n fun m => { m with seq := seq, posted := m.posted ++ [(seq, r x)] } := by
      rw [← hc]
      exact if_neg (core_val_ne h)
  · have he : (if (code = 0 && m.posted.length ≥ 4) = true then 0x2007 else code) = code := if_neg (by simp [hn])
    rw [he, if_pos hn] at hb
    exact runs_regs hx hb
  · have he : (if (code = 0 && m.posted.length ≥ 4) = true then 0x2007 else code) = 0x2007 := if_pos (by simp [h0, hf])
    rw [he, if_pos (by decide)] at hb
    exact runs_regs hx hb
  · have he : (if (code = 0 && m.posted.length ≥ 4) = true then 0x2007 else code) = 0 := (if_neg (by simp [hf])).trans h0
    rw [he, if_neg (by decide)] at hb
    exact runs_done hx hb

end Issue

/-! ### The checks of the requests -/

section Checks

variable (d : Dev) (n : Nat)

theorem fits32_range (i : Int) : fits32 i = true ↔ -2147483648 ≤ i ∧ i ≤ 2147483647 := by
  simp only [fits32, Bool.and_eq_true, decide_eq_true_eq]
  omega

theorem intPart_eq (x : Int) : intPart x = x / 65536 := Int.fdiv_eq_ediv_of_nonneg x (by decide)

theorem issueCode_start (target : Word) (profile : Nat) (relative : Bool) :
    d.issueCode n (.start target profile relative) =
      if (d.profile profile).isNone then 0x2003
      else if relative = true ∧ ¬(-2147483648 ≤ (d.axis n).motion.x / 65536 + target.toInt ∧ (d.axis n).motion.x / 65536 + target.toInt ≤ 2147483647)
        then 0x2004 else 0 := by
  refine if_congr Iff.rfl rfl (if_congr ?_ rfl rfl)
  rw [← fits32_range, ← intPart_eq, Bool.and_eq_true, Bool.not_eq_true', Bool.not_eq_true]

/-- A cap of speed or acceleration beyond the axis's own limit. -/
theorem issueCode_cap {cap limit : Int} : (if cap ≤ 0 || cap > limit then 0x2005 else 0) = if cap ≤ 0 ∨ limit < cap then 0x2005 else 0 :=
  if_congr (by simp only [Bool.or_eq_true, decide_eq_true_eq, gt_iff_lt]) rfl rfl

theorem issueCode_home (offset : Word) (positive : Bool) (source : BitVec 2) :
    d.issueCode n (.home offset positive source.toNat) = if source = 3 then 0x2009 else 0 :=
  if_congr (by rw [← BitVec.toNat_inj]; rfl) rfl rfl

theorem issueCode_mode (mode : BitVec 2) : d.issueCode n (.mode mode.toNat) = if mode = 3 then 0x2009 else 0 :=
  if_congr (by rw [← BitVec.toNat_inj]; rfl) rfl rfl

theorem issueCode_gear (master : Word) (table : Nat) :
    d.issueCode n (.gear master table) = if (d.gearTable table).isNone ∨ d.masterValid n master = false then 0x2006 else 0 :=
  if_congr (by rw [Bool.or_eq_true, Bool.not_eq_true']) rfl rfl

end Checks

/-! ### The master selector (R145) -/

theorem bit_eq (w : Word) (i : Nat) : bit w i = decide (w.toNat / 2 ^ i % 2 = 1) := Nat.testBit_eq_decide_div_mod_eq

theorem fields_selector (a b : Nat) : fields [(0, a), (8, b), (16, 1)] = BitVec.ofNat 32 (65536 + b * 256 + a) := by
  simp only [fields, List.foldl_cons, List.foldl_nil, Nat.zero_add, Nat.pow_zero, Nat.mul_one, Nat.one_mul, Nat.reducePow]
  rw [Nat.add_comm, Nat.add_comm a, Nat.add_assoc]

/-- The fields of a selector that names an encoder. -/
theorem selector_fields {sel : Word} {port slot : Nat} (h1 : port < 4) (h2 : slot < 128)
    (h : sel.toNat = 65536 + port * 256 + slot) : bit sel 16 = true ∧ fld sel 8 2 = port ∧ fld sel 0 7 = slot := by
  rw [bit_eq, decide_eq_true_eq, fld, fld, h, Nat.shiftRight_eq_div_pow, Nat.shiftRight_eq_div_pow]
  omega

/-- A selector of an encoder is made of a port, a slot and bit 16. -/
theorem encoderSelector_iff (sel : Word) (p : Nat → Nat → Prop) :
    (bit sel 16 = true ∧ sel = fields [(0, fld sel 0 7), (8, fld sel 8 2), (16, 1)] ∧ p (fld sel 8 2) (fld sel 0 7)) ↔
      ∃ port slot, port < 4 ∧ slot < 128 ∧ sel = BitVec.ofNat 32 (65536 + port * 256 + slot) ∧ p port slot := by
  rw [fields_selector]
  constructor
  · rintro ⟨-, hs, hp⟩
    exact ⟨fld sel 8 2, fld sel 0 7, Nat.mod_lt _ (by decide), Nat.mod_lt _ (by decide), hs, hp⟩
  · rintro ⟨port, slot, h1, h2, hs, hp⟩
    have hn : sel.toNat = 65536 + port * 256 + slot := by
      rw [hs, BitVec.toNat_ofNat]; omega
    obtain ⟨hb, hport, hslot⟩ := selector_fields h1 h2 hn
    rw [hport, hslot]
    exact ⟨hb, hs, hp⟩

theorem masterValid_iff (d : Dev) (n : Nat) (sel : Word) :
    d.masterValid n sel = true ↔
      (sel.getLsbD 16 = false ∧ sel.toNat < 512 ∧ sel.toNat ≠ n ∧ d.axConfigured sel.toNat = true) ∨
      (∃ port slot, port < 4 ∧ slot < 128 ∧ sel = BitVec.ofNat 32 (65536 + port * 256 + slot) ∧ d.encoderUsed port slot = true) := by
  rw [← encoderSelector_iff sel (fun port slot => d.encoderUsed port slot = true)]
  unfold Dev.masterValid
  change _ ↔ (bit sel 16 = false ∧ _) ∨ _
  cases bit sel 16 <;> simp [and_assoc]

/-- Settles O14: every motion instruction is one effect with a request, and its check is the statement's. -/
theorem motionIssue : Obligations.MotionIssue := by
  refine ⟨fun s core t sub a profile table relative remove positive disengage source mode => ?_, masterValid_iff⟩
  extract_lets x n m seq arg target status issue badCap cap
  refine ⟨issues (fun x => .start (x.g a) profile.toNat relative) rfl (issueCode_start ..), issues (fun _ => .stop) rfl rfl,
    fun h => ?_, fun h => ?_, fun h => ?_, fun h => ?_,
    issues (fun x => .home (x.g a) positive source.toNat) rfl (issueCode_home ..),
    issues (fun x => .gear (x.g a) table.toNat) rfl (issueCode_gear ..), fun hd ht => ?_,
    issues (fun _ => .mode mode.toNat) rfl (issueCode_mode ..)⟩
  · obtain ⟨rfl, hb⟩ := h
    exact issues (fun x => .speed (some (x.g a))) rfl (issueCode_cap.trans (if_pos hb))
  · cases remove with
    | true => exact issues (fun _ => .speed none) rfl rfl
    | false => exact issues (fun x => .speed (some (x.g a))) rfl (issueCode_cap.trans (if_neg fun hb => h ⟨rfl, hb⟩))
  · obtain ⟨rfl, hb⟩ := h
    exact issues (fun x => .accel (some (x.g a))) rfl (issueCode_cap.trans (if_pos hb))
  · cases remove with
    | true => exact issues (fun _ => .accel none) rfl rfl
    | false => exact issues (fun x => .accel (some (x.g a))) rfl (issueCode_cap.trans (if_neg fun hb => h ⟨rfl, hb⟩))
  · subst hd ht
    exact issues (fun _ => .ungear) rfl rfl

end Sys2Proof.Proofs
end

section
/-! SUPPORT. REC.PUT and CONFIRM (R89–R92, R358–R360): when an occurrence repeats a record, what the queue takes and refuses, and the
answers of a confirmation. -/

namespace Sys2Proof.Proofs

open Sys2Proof.Machine Sys2Proof.Safety

/-! ### Repeats (R358) -/

section Repeats

variable {occ : Record}

theorem repeatIn_isSome (occ : Record) (l : List Record) : (repeatIn occ l).isSome = true ↔ ∃ p ∈ l, p.repeats occ = true := by
  induction l with
  | nil => simp [repeatIn]
  | cons r rs ih =>
    rw [List.exists_mem_cons_iff, ← ih, repeatIn]
    cases repeatIn occ rs with
    | none => cases r.repeats occ <;> simp
    | some p => simp

theorem length_repeatIn {l l' : List Record} {sat : Bool} (h : repeatIn occ l = some (l', sat)) : l'.length = l.length := by
  induction l generalizing l' sat with
  | nil => exact absurd h nofun
  | cons r rs ih =>
    rw [repeatIn] at h
    split at h
    next q hq => cases h; rw [List.length_cons, List.length_cons, ih hq]
    next =>
      split_ifs at h
      cases h
      rfl

theorem repeatPending_isSome (occ : Record) (q : List Pend) :
    (repeatPending occ q).isSome = true ↔ ∃ p ∈ q.map (·.record), p.repeats occ = true := by
  rw [← repeatIn_isSome, repeatPending]
  cases repeatIn occ (q.map (·.record)) <;> rfl

theorem length_repeatPending {q q' : List Pend} {sat : Bool} (h : repeatPending occ q = some (q', sat)) : q'.length = q.length := by
  rw [repeatPending] at h
  split at h
  next rs sat' hr =>
    cases h
    rw [List.length_map, List.length_zip, length_repeatIn hr, List.length_map, min_self]
  next => exact absurd h nofun

theorem repSatIf_pendq (r : Recorder) (sat : Bool) : (r.repSatIf sat).pendq = r.pendq := by
  rw [Recorder.repSatIf]
  split <;> rfl

/-- An occurrence counts in a record where one in the queue, in the ring or in the Seed area has an open window for it. -/
theorem countRepeat_isSome (r : Recorder) (occ : Record) :
    (r.countRepeat occ).isSome = true ↔ ∃ p ∈ r.pendq.map (·.record) ++ r.chaff ++ r.seed, p.repeats occ = true := by
  have hmem : (∃ p ∈ r.pendq.map (·.record) ++ r.chaff ++ r.seed, p.repeats occ = true) ↔
      (repeatPending occ r.pendq).isSome = true ∨ (repeatIn occ r.chaff).isSome = true ∨ (repeatIn occ r.seed).isSome = true := by
    rw [repeatPending_isSome, repeatIn_isSome, repeatIn_isSome]
    simp only [List.mem_append, or_and_right, exists_or, or_assoc]
  rw [hmem, Recorder.countRepeat]
  cases repeatPending occ r.pendq with
  | some p => simp
  | none =>
    cases repeatIn occ r.chaff with
    | some p => simp
    | none => cases repeatIn occ r.seed <;> simp

theorem length_countRepeat {r r' : Recorder} (h : r.countRepeat occ = some r') : r'.pendq.length = r.pendq.length := by
  rw [Recorder.countRepeat] at h
  split at h
  next q sat hq =>
    cases h
    rw [repSatIf_pendq]
    exact length_repeatPending hq
  next =>
    split at h
    next => cases h; rw [repSatIf_pendq]
    next =>
      split at h
      next => cases h; rw [repSatIf_pendq]
      next => exact absurd h nofun

end Repeats

/-! ### The pending queue (R359, R360) -/

section Queue

variable (d : Dev)

theorem bumpCounter_recorder (i n : Nat) : (d.bumpCounter i n).recorder = d.recorder := by
  rw [Dev.bumpCounter]
  split <;> rfl

theorem countEvent_recorder (ev unit n : Nat) : (d.countEvent ev unit n).recorder = d.recorder := by
  have h (l : List (Nat × Word)) (f : Nat × Word → Bool) (g : Nat × Word → Nat) (e : Dev) :
      (l.foldl (fun s r => if f r then s.bumpCounter (g r) n else s) e).recorder = e.recorder := by
    induction l generalizing e with
    | nil => rfl
    | cons r l ih =>
      rw [List.foldl_cons, ih]
      split
      · exact bumpCounter_recorder e _ _
      · rfl
  exact h _ _ _ d

theorem stage_recorder (x : Record) : (d.stage x).recorder = d.recorder := by
  rw [Dev.stage]
  split
  · rfl
  · exact countEvent_recorder d _ _ _

theorem lostEvent_lost (fromPut : Bool) : (d.lostEvent fromPut).recorder.lost = satInc d.recorder.lost := rfl

/-- The record of a REC.PUT. -/
def userRecord (rtype subj : Nat) (payload : List Byte) : Record :=
  { rtype := rtype, flags := 1 + 2 * b2n (d.pair.role == .standby), code := 0, time := d.now, pcyc := d.sys.pwrCyc, subj := subj,
    payload := payload }

variable {d} {core rtype subj : Nat} {payload : List Byte}

theorem putUser_again {r : Recorder} (h : d.recorder.countRepeat (userRecord d rtype subj payload) = some r) :
    d.putUser core rtype subj payload = ({ d with recorder := r }, 0) := by
  rw [userRecord] at h
  simp only [Dev.putUser, h]

theorem putUser_full (h : d.recorder.countRepeat (userRecord d rtype subj payload) = none) (hf : 991 ≤ d.recorder.inPool 2) :
    d.putUser core rtype subj payload = (d.lostEvent true, 0x6001) := by
  rw [userRecord] at h
  simp only [Dev.putUser, h]
  exact if_pos hf

theorem putUser_used (h : d.recorder.countRepeat (userRecord d rtype subj payload) = none) (hf : ¬991 ≤ d.recorder.inPool 2)
    (hu : (if core = 16 then 64 else 32) ≤ d.recorder.share core) :
    d.putUser core rtype subj payload = (d.lostEvent true, 0x6003) := by
  rw [userRecord] at h
  simp only [Dev.putUser, h]
  exact (if_neg hf).trans (if_pos hu)

theorem putUser_room (h : d.recorder.countRepeat (userRecord d rtype subj payload) = none) (hf : ¬991 ≤ d.recorder.inPool 2)
    (hu : ¬(if core = 16 then 64 else 32) ≤ d.recorder.share core) :
    d.putUser core rtype subj payload =
      (({ d with recorder := d.recorder.enter (userRecord d rtype subj payload) 2 (some core) } : Dev).stage (userRecord d rtype subj payload), 0) := by
  rw [userRecord] at h
  simp only [Dev.putUser, h]
  exact (if_neg hf).trans (if_neg hu)

/-- What REC.PUT leaves in the queue and answers. -/
theorem putUser_spec (d : Dev) (core rtype subj : Nat) (payload : List Byte) :
    let put := d.putUser core rtype subj payload
    let r := d.recorder
    let occ := userRecord d rtype subj payload
    let again := ∃ p ∈ r.pendq.map (·.record) ++ r.chaff ++ r.seed, p.repeats occ = true
    let full := 991 ≤ r.inPool 2
    let used := (if core = 16 then 64 else 32) ≤ r.share core
    (put.2 = 0 ∨ put.2 = 0x6001 ∨ put.2 = 0x6003) ∧ (put.2 ≠ 0 → put.1.recorder.lost = satInc r.lost) ∧
      (put.2 = 0x6001 ↔ ¬again ∧ full) ∧ (put.2 = 0x6003 ↔ ¬again ∧ ¬full ∧ used) ∧
      (again → put.1.recorder.pendq.length = r.pendq.length) ∧
      (¬again → ¬full → ¬used → put.1.recorder.pendq = r.pendq ++ [{ record := occ, pool := 2, core := some core }]) := by
  extract_lets put r occ again full used
  have ha : (r.countRepeat occ).isSome = true ↔ again := countRepeat_isSome r occ
  cases hr : r.countRepeat occ with
  | some r' =>
    rw [hr] at ha
    have h : again := ha.1 rfl
    have hp : put = ({ d with recorder := r' }, 0) := putUser_again hr
    rw [hp]
    simp [h, length_countRepeat hr, r]
  | none =>
    rw [hr] at ha
    have h : ¬again := fun h => absurd (ha.2 h) nofun
    by_cases hf : full
    · have hp : put = (d.lostEvent true, 0x6001) := putUser_full hr hf
      rw [hp]
      simp [h, hf, lostEvent_lost, r]
    by_cases hu : used
    · have hp : put = (d.lostEvent true, 0x6003) := putUser_used hr hf hu
      rw [hp]
      simp [h, hf, hu, lostEvent_lost, r]
    · have hp : put = _ := putUser_room hr hf hu
      rw [hp]
      simp [h, hf, hu, stage_recorder, Recorder.enter, occ, r]

end Queue

/-! ### The instructions -/

theorem beq_standby (d : Dev) : b2n (d.pair.role == .standby) = (decide (d.pair.role = .standby)).toNat := by
  cases d.pair.role <;> rfl

/-- The supervisor core by its number. -/
theorem ite_system {core : CoreId} {m n : Nat} : (if core.val = 16 then m else n) = if core = 16 then m else n :=
  if_congr (Fin.ext_iff (b := 16)).symm rfl rfl

/-- REC.PUT with the record's way into the queue. -/
def recPutWith (put : Dev → Dev × Nat) (d : Dev) (x : Task) (sub : Reg) (addr len : Nat) : Effect :=
  if addr % 4 ≠ 0 then .fault 0xA00B
  else if len % 4 ≠ 0 ∨ len < 4 ∨ 1024 < len then .done 6 (x.setG sub 0x6002).advance id
  else if x.memSize < addr + len then .fault 0xA00A
  else .done (if (put d).2 = 0 then 6 + len / 4 else 6) (x.setG sub (wordOfNat (put d).2)).advance fun d => (put d).1

section Confirm

/-! The supervisor's confirmation: in progress already, refused, or posted. -/

theorem postConfirm_posted {d : Dev} (h : d.upd.confirming = true) : d.postConfirm true = (d, 0) := (if_neg nofun).trans (if_pos h)

theorem postConfirm_closed {d : Dev} (h : d.upd.confirming = false) (hw : d.upd.unconfirmed = false ∨ d.upd.trialMinutes = 0) :
    d.postConfirm true = (d, 0x7021) := by
  have hover : (!d.upd.unconfirmed || d.upd.windowOver) = true := by
    rw [Update.windowOver, h]
    rcases hw with hw | hw <;> rw [hw]
    · rfl
    · cases d.upd.unconfirmed <;> rfl
  exact (if_neg nofun).trans ((if_neg (ne_true_of_eq_false h)).trans (if_pos hover))

theorem postConfirm_open {d : Dev} (h : d.upd.confirming = false) (hu : d.upd.unconfirmed = true) (hw : d.upd.trialMinutes ≠ 0) :
    d.postConfirm true = (d.modUpd fun u => { u with confirming := true }, 0) := by
  have hover : (!d.upd.unconfirmed || d.upd.windowOver) = false := by
    rw [Update.windowOver, hu, beq_eq_false_iff_ne.2 hw]
    rfl
  exact (if_neg nofun).trans ((if_neg (ne_true_of_eq_false h)).trans (if_neg (ne_true_of_eq_false hover)))

variable {s : State} {core : CoreId} {t : Nat} {sub : Reg} {code : Nat} {eff : Dev → Dev}

/-- The update unit is not touched by the cycles an instruction spends. -/
theorem upd_executed (s : State) (core : CoreId) (t cycles : Nat) (y : Task) : (executed s core t cycles y).dev.upd = s.dev.upd := by
  obtain ⟨_, _, _, _, h⟩ := sameButTask_trans (sameButTask_setTask s.dev core.val t { y with count := (s.dev.task core.val t).count + cycles })
    (sameButTask_spend _ core.val t (s.dev.task core.val t) cycles)
  have hu := congrArg Dev.upd h
  exact hu

/-- CONFIRM answers what the update unit does, with the code in the latter's register. -/
theorem runs_confirm (h : ∀ d : Dev, d.upd = s.dev.upd → d.postConfirm (core.val == 16) = (eff d, code)) :
    Runs s core t (.confirm core sub) 4 (next ((s.dev.task core.val t).setG sub (BitVec.ofNat 32 code))) (fun d => (eff d).updCode code) := by
  have hr : Runs s core t (.confirm core sub) 4
      (next ((s.dev.task core.val t).setG sub (BitVec.ofNat 32 (s.dev.postConfirm (core.val == 16)).2)))
      (fun d => (d.postConfirm (core.val == 16)).1.updCode (s.dev.postConfirm (core.val == 16)).2) := runs_done rfl rfl
  rw [h _ rfl] at hr
  refine runs_congr hr ?_
  dsimp only
  rw [h _ (upd_executed ..)]

end Confirm

/-- Settles O15: the record that REC.PUT makes, and the queue that takes or refuses it; the four answers of CONFIRM. -/
theorem recPut : Obligations.RecPut := by
  refine ⟨fun s core t sub a b utype => ?_, fun s core t sub => ?_⟩
  · extract_lets x i addr len system who payload put code badLength
    have hput : (fun d : Dev => d.putUser core.val (0x80 + utype.toNat) (if core.val = 16 then 0xFFFF else x.door)
        (userPrefix core.val t x len ++ memReads x.mem addr len)) = put := by
      funext d
      rw [userPrefix, ite_system, ite_system]
      exact congrArg (d.putUser _ _ _) (by simp [payload, who, leBytes, memReads, List.append_assoc, system])
    have hb : recPutEffect s.dev core.val t sub a b utype x = recPutWith put s.dev x sub addr len := by
      rw [← hput]
      rfl
    refine ⟨fun h => ?_, fun h hl => ?_, fun h hl hm => ?_, fun h hl hm => ?_, ?_⟩
    · exact faults_fault rfl (hb.trans (if_pos h))
    · exact runs_regs rfl (hb.trans ((if_neg (not_not.2 h)).trans (if_pos hl)))
    · exact faults_fault rfl (hb.trans ((if_neg (not_not.2 h)).trans ((if_neg hl).trans (if_pos hm))))
    · exact runs_done rfl (hb.trans ((if_neg (not_not.2 h)).trans ((if_neg hl).trans (if_neg (not_lt.2 hm)))))
    · have hs := putUser_spec s.dev core.val (0x80 + utype.toNat) (who x.door) payload
      rw [userRecord, beq_standby, ite_system] at hs
      exact hs
  · extract_lets x u i
    refine ⟨fun h => ?_, fun h hc hw => ?_, fun h hc hu hw => ?_, fun h hc => ?_⟩
    · have hs : (core.val == 16) = false := beq_eq_false_iff_ne.2 (core_val_ne h)
      exact runs_confirm (eff := id) fun d _ => by rw [hs]; rfl
    all_goals subst h
    · exact runs_confirm (eff := id) fun d hd => postConfirm_closed (hd ▸ hc) (hd ▸ hw)
    · exact runs_confirm fun d hd => postConfirm_open (hd ▸ hc) (hd ▸ hu) (hd ▸ hw)
    · exact runs_confirm (eff := id) fun d hd => postConfirm_posted (hd ▸ hc)

end Sys2Proof.Proofs
end

section
/-! SUPPORT. The SYS services (R93–R97): one answer for each, by the first condition that applies. -/

namespace Sys2Proof.Proofs

open Sys2Proof.Machine Sys2Proof.Safety

section Service

variable {s : State} {core : CoreId} {t cycles status : Nat} {i : Instr} {sub a b : Reg} {value : Word} {eff : Dev → Dev}
  {body : Nat → Task → Effect} {system : Bool}

theorem runs_service (hx : exec i s = execInstr core i s body)
    (hb : body t (s.dev.task core.val t) = .service cycles (s.dev.task core.val t) sub status value eff) :
    Runs s core t i cycles (next (((s.dev.task core.val t).setG sub (BitVec.ofNat 32 status)).setG (sub + 1) value)) eff :=
  runs_done hx hb

theorem runs_refused (hx : exec i s = execInstr core i s body)
    (hb : body t (s.dev.task core.val t) = .refused cycles (s.dev.task core.val t) sub status) :
    Runs s core t i cycles (next (((s.dev.task core.val t).setG sub (BitVec.ofNat 32 status)).setG (sub + 1) 0)) id :=
  runs_done hx hb

theorem not_system {core : CoreId} (h : core ≠ 16) : (core.val == 16) = false := beq_eq_false_iff_ne.2 (core_val_ne h)

/-! Addresses (R32, R95) -/

theorem addrStatus_outside {p : Nat} (h : inBlock p = false) : addrStatus p = 0x0101 := if_pos (by rw [h]; rfl)

theorem addrStatus_unaligned {p : Nat} (h : inBlock p = true) (h4 : p % 4 ≠ 0) : addrStatus p = 0x0102 :=
  (if_neg (by rw [h]; nofun)).trans (if_pos h4)

theorem addrStatus_ok {p : Nat} (h : inBlock p = true) (h4 : p % 4 = 0) : addrStatus p = 0 :=
  (if_neg (by rw [h]; nofun)).trans (if_neg (not_not.2 h4))

theorem inSaf_iff (p : Nat) : inSaf p = true ↔ 0x200000 ≤ p ∧ p < 0x210000 := by
  simp only [inSaf, Bool.and_eq_true, decide_eq_true_eq]

theorem sysWritable_iff (p : Nat) : sysWritable p = true ↔
    (0x40000 ≤ p ∧ p < 0x50000) ∨ (0x220000 ≤ p ∧ p < 0x230000) ∨ (0x260000 ≤ p ∧ p < 0x270000) ∨
      (¬(0x200000 ≤ p ∧ p < 0x210000) ∧ (rowOf p).any (fun r => r.access == .w1c) = true) := by
  unfold sysWritable
  cases rowOf p <;>
    simp only [Bool.or_eq_true, Bool.and_eq_true, decide_eq_true_eq, ← inSaf_iff, Bool.not_eq_true', Bool.not_eq_true, or_assoc,
      Option.any_some, Option.any_none]

/-! The register services of a system task -/

variable {d : Dev} {x : Task}

theorem regRead_status (h : addrStatus (x.g a).toNat ≠ 0) : regReadEffect d true sub a x = .refused 24 x sub (addrStatus (x.g a).toNat) :=
  if_pos h

theorem regRead_saf (h : addrStatus (x.g a).toNat = 0) (hs : inSaf (x.g a).toNat = true) :
    regReadEffect d true sub a x = .refused 24 x sub 0x0103 :=
  (if_neg (not_not.2 h)).trans (if_pos hs)

theorem regRead_ok (h : addrStatus (x.g a).toNat = 0) (hs : ¬inSaf (x.g a).toNat = true) :
    regReadEffect d true sub a x = .service 24 x sub 0 (d.readReg (x.g a).toNat) fun d => (d.readRegLatch (x.g a).toNat).1 :=
  (if_neg (not_not.2 h)).trans (if_neg hs)

theorem regWrite_status (h : addrStatus (x.g a).toNat ≠ 0) :
    regWriteEffect true sub a b x = .refused 24 x sub (addrStatus (x.g a).toNat) :=
  if_pos h

theorem regWrite_closed (h : addrStatus (x.g a).toNat = 0) (hw : ¬sysWritable (x.g a).toNat = true) :
    regWriteEffect true sub a b x = .refused 24 x sub 0x0103 :=
  (if_neg (not_not.2 h)).trans (if_pos (by rw [Bool.not_eq_true', ← Bool.not_eq_true]; exact hw))

theorem regWrite_ok (h : addrStatus (x.g a).toNat = 0) (hw : sysWritable (x.g a).toNat = true) :
    regWriteEffect true sub a b x = .service 24 x sub 0 0 fun d => d.writeReg (x.g a).toNat (x.g b) :=
  (if_neg (not_not.2 h)).trans (if_neg (by rw [hw]; nofun))

end Service

theorem restartKey (n : Nat) : fields [(0, n), (24, 0xA5)] = BitVec.ofNat 32 (n + 0xA5 * 2 ^ 24) := by
  simp only [fields, List.foldl_cons, List.foldl_nil, Nat.zero_add, Nat.pow_zero, Nat.mul_one]

/-- Settles O16: each service is one answer, by the chain of its checks. -/
theorem services : Obligations.Services := by
  intro s core t sub a b fn
  extract_lets x p q answers refused system saf writable read write ctrl restart
  have hsaf : inSaf p = true ↔ saf := inSaf_iff p
  have hwr : sysWritable p = true ↔ writable := sysWritable_iff p
  have hread (h : system) : regReadEffect s.dev (core.val == 16) sub a x = regReadEffect s.dev true sub a x := by rw [show core = 16 from h]; rfl
  have hwrite (h : system) : regWriteEffect (core.val == 16) sub a b x = regWriteEffect true sub a b x := by rw [show core = 16 from h]; rfl
  refine ⟨fun h => ⟨?_, ?_, ?_⟩, fun h hb => ⟨?_, ?_⟩, fun h hb h4 => ⟨?_, ?_⟩, fun h hb h4 hs => ?_, fun h hb h4 hw => ?_, fun h hb h4 hs => ?_,
    fun h hb h4 hw => ?_, runs_service rfl rfl, fun h => runs_refused rfl (if_pos h), fun h => runs_service rfl (if_neg (not_lt.2 h)),
    runs_service rfl rfl, fun h => ?_, fun h hp => ?_, fun h h1 h2 => ?_, fun h hp => ?_, fun h h1 h2 => ?_, runs_refused rfl rfl⟩
  · exact runs_refused rfl (if_pos (by rw [not_system h]; rfl))
  · exact runs_refused rfl (if_pos (by rw [not_system h]; rfl))
  · exact runs_refused rfl (if_pos (core_val_ne h))
  · have hs := addrStatus_outside hb
    exact hs ▸ runs_refused rfl ((hread h).trans <| regRead_status (by rw [hs]; decide))
  · have hs := addrStatus_outside hb
    exact hs ▸ runs_refused rfl ((hwrite h).trans <| regWrite_status (by rw [hs]; decide))
  · have hs := addrStatus_unaligned hb h4
    exact hs ▸ runs_refused rfl ((hread h).trans <| regRead_status (by rw [hs]; decide))
  · have hs := addrStatus_unaligned hb h4
    exact hs ▸ runs_refused rfl ((hwrite h).trans <| regWrite_status (by rw [hs]; decide))
  · exact runs_refused rfl ((hread h).trans <| regRead_saf (addrStatus_ok hb h4) (hsaf.2 hs))
  · exact runs_refused rfl ((hwrite h).trans <| regWrite_closed (addrStatus_ok hb h4) (mt hwr.1 hw))
  · exact runs_service rfl ((hread h).trans <| regRead_ok (addrStatus_ok hb h4) (mt hsaf.1 hs))
  · exact runs_service rfl ((hwrite h).trans <| regWrite_ok (addrStatus_ok hb h4) (hwr.2 hw))
  · exact runs_refused rfl (if_pos (congrArg Fin.val h))
  · exact runs_refused rfl ((if_neg (core_val_ne h)).trans (if_pos hp))
  · exact runs_service rfl ((if_neg (core_val_ne h)).trans (if_neg (not_or.2 ⟨not_lt.2 h1, not_lt.2 h2⟩)))
  · exact runs_refused rfl ((if_neg (not_not.2 (congrArg Fin.val h))).trans (if_pos hp))
  · rw [← restartKey]
    exact runs_service rfl ((if_neg (not_not.2 (congrArg Fin.val h))).trans (if_neg (not_or.2 ⟨not_lt.2 h1, not_lt.2 h2⟩)))

end Sys2Proof.Proofs
end

section
/-! SUPPORT. Faults and budgets (R45, R56–R59, R98): what the running task meets at its program counter, what an ECC error leaves, and
the fault of a budget. -/

namespace Sys2Proof.Proofs

open Sys2Proof.Machine Sys2Proof.Safety

/-! ### Registers that gain bits or counts -/

theorem reg_orReg_self (d : Dev) (a : Nat) (bits : Word) : (d.orReg a bits).reg a = d.reg a ||| bits := reg_setReg_self d a _

theorem reg_orReg_other (d : Dev) {a b : Nat} (bits : Word) (h : b ≠ a) : (d.orReg a bits).reg b = d.reg b := reg_setReg_other d _ h

theorem reg_incReg_self (d : Dev) (a : Nat) : (d.incReg a).reg a = satInc (d.reg a) := reg_setReg_self d a _

theorem reg_incReg_other (d : Dev) {a b : Nat} (h : b ≠ a) : (d.incReg a).reg b = d.reg b := reg_setReg_other d _ h

theorem axis_raiseStop_self (d : Dev) (n cause ramp code : Nat) : ((d.raiseStop n cause ramp code).axis n).motion.stops =
    (d.axis n).motion.stops ++ [{ cause := cause, ramp := ramp, code := code }] := by
  rw [Dev.raiseStop, Dev.modMotion, axis_setAxis_self]

theorem axis_raiseStop_other (d : Dev) {n k : Nat} (cause ramp code : Nat) (h : k ≠ n) :
    (d.raiseStop n cause ramp code).axis k = d.axis k := axis_setAxis_other d _ h

/-! ### What the running task meets -/

section Words

variable {s : State} {core : CoreId} {t : Nat} {w : Word} {ecc : Bool}

theorem badWord_end (hs : s.dev.scheduling core.val = true) (hc : (s.dev.core core.val).cur = some t)
    (hf : s.dev.fetch core.val t = none) :
    s.dev.badWord core ecc = s.dev.taskFault core.val t 0xA010 ((s.dev.task core.val t).count + 1) := by
  simp only [Dev.badWord, hc, hs, hf, Bool.not_true, Bool.false_eq_true, if_false]

theorem badWord_ecc (hs : s.dev.scheduling core.val = true) (hc : (s.dev.core core.val).cur = some t)
    (hf : s.dev.fetch core.val t = some w) :
    s.dev.badWord core true = (if core.val < 16 then s.dev.orReg (Adr.sfFlags core.val) 4 else s.dev).taskFault core.val t 0xA00F
      ((s.dev.task core.val t).count + 1) := by
  simp only [Dev.badWord, hc, hs, hf, Bool.not_true, Bool.false_eq_true, if_false, if_true]

theorem badWord_word (hs : s.dev.scheduling core.val = true) (hc : (s.dev.core core.val).cur = some t)
    (hf : s.dev.fetch core.val t = some w) :
    s.dev.badWord core false = if (decode core 0 w).isNone then s.dev.taskFault core.val t 0xA009 ((s.dev.task core.val t).count + 1)
      else s.dev := by
  simp only [Dev.badWord, hc, hs, hf, Bool.not_true, Bool.false_eq_true, if_false]

end Words

/-! ### ECC errors -/

section Ecc

variable {d : Dev} {c : Nat}

theorem eccCorrected_spec (hc : c < 16) :
    (d.eccCorrected c).reg (Adr.sfEcccnt c) = satInc (d.reg (Adr.sfEcccnt c)) ∧
      ((d.eccCorrected c).reg (Adr.sfFlags c)).getLsbD 1 = true ∧ (d.eccCorrected c).cores = d.cores ∧ (d.eccCorrected c).axes = d.axes ∧
      (d.eccCorrected c).sigs = d.sigs := by
  have hne : Adr.sfEcccnt c ≠ Adr.sfFlags c := by unfold Adr.sfEcccnt Adr.sfFlags; omega
  have h : d.eccCorrected c = (d.incReg (Adr.sfEcccnt c)).orReg (Adr.sfFlags c) 2 := if_pos hc
  rw [h]
  refine ⟨?_, ?_, rfl, rfl, rfl⟩
  · rw [reg_orReg_other _ _ hne, reg_incReg_self]
  · rw [reg_orReg_self, BitVec.getLsbD_or]
    exact Bool.or_true _

end Ecc

/-- Commands that leave equal modules have equal outcomes. -/
theorem next_dev (s : State) {d e : Dev} (h : d = e) :
    (Host.Outcome.next { s with dev := d } : Host.Outcome State Fault Refusal) = .next { s with dev := e } := by rw [h]

/-- Settles O17: the word at the program counter decides, an ECC error by its place, and a budget by its count. -/
theorem instructionFaults : Obligations.InstructionFaults := by
  refine ⟨fun s core t => ?_, fun s core t => ?_⟩
  · extract_lets x c faults
    refine ⟨fun hs hc => ⟨fun hf => ⟨?_, ?_⟩, fun w hf => ⟨fun hd => ?_, fun hd => ?_, ?_⟩⟩, fun ho hc => ?_, fun axis ho hc ha hx => ?_⟩
    · exact next_dev s (badWord_end hs hc hf)
    · exact next_dev s (badWord_end hs hc hf)
    · exact next_dev s ((badWord_word hs hc hf).trans (if_pos (by rw [hd]; rfl)))
    · exact next_dev s
        ((badWord_word hs hc hf).trans (if_neg (by rwa [Option.isNone_iff_eq_none])))
    · exact next_dev s (badWord_ecc hs hc hf)
    · exact ⟨{ s with dev := s.dev.eccCorrected c }, next_dev s (if_pos ho), rfl,
        eccCorrected_spec hc⟩
    · refine ⟨(s.dev.orReg (Adr.sfFlags c) 4).raiseStop axis.val 12 2 0xA00F,
        next_dev s ((if_pos ho).trans (if_pos ?_)), ?_, rfl, fun n hn => ?_, ?_⟩
      · simp only [Bool.and_eq_true, decide_eq_true_eq, beq_iff_eq]
        exact ⟨⟨hc, ha⟩, hx⟩
      · change ((s.dev.orReg (Adr.sfFlags c) 4).reg (Adr.sfFlags c)).getLsbD 2 = true
        rw [reg_orReg_self, BitVec.getLsbD_or]
        exact Bool.or_true _
      · exact axis_raiseStop_other _ _ _ _ hn
      · exact axis_raiseStop_self _ _ _ _ _
  · extract_lets x code s'
    intro hk
    have hcode : budgetCode x.kind = code := by
      dsimp only [code]
      revert hk
      cases x.kind with
      | background => exact fun hk => absurd rfl hk
      | _ => exact fun _ => rfl
    have hb : (x.kind != .background) = true := bne_iff_ne.2 hk
    refine ⟨fun hc hx => ?_, fun i body cycles y eff hd hb' ho => ?_⟩
    · change execBudgetExceeded core s = _
      simp only [execBudgetExceeded, hc]
      rw [if_pos (by rw [show (s.dev.task core.val t).kind != .background from hb]; simpa using hx)]
      exact congrArg (fun k => Host.Outcome.next { s with dev := s.dev.taskFault core.val t k (x.budget + 1) }) hcode
    · have h := instr_over hd hb' (by rw [Task.over, show (s.dev.task core.val t).kind != .background from hb]; simpa using ho)
      rw [h]
      exact congrArg (fun k => Host.Outcome.next { s with dev := s.dev.taskFault core.val t k (x.budget + 1) }) hcode

end Sys2Proof.Proofs
end

section
/-! SUPPORT. Task faults (R56, R59) over every module, a module with a task table that lists a task twice among them. -/

namespace Sys2Proof.Proofs

open Sys2Proof.Machine Sys2Proof.Safety

/-- A module in RUN whose supervisor core runs task 0, and whose task table lists that task a second time, ready. -/
def twiceListed : Dev :=
  { sys := { power := .run },
    cores := [(16, { tasks := [(0, { used := true, st := .running }), (0, { used := true, st := .ready })], cur := some 0 })] }

/-- Refutes O18: a system task that its table lists twice does not halt.  The fault halts the entry that is found first, and the next
choice takes the second, which is ready, and puts it back as the task. -/
theorem not_taskFaults : ¬Obligations.TaskFaults := by
  rintro ⟨-, h⟩
  obtain ⟨h, -⟩ := h twiceListed 0 0xA009 1 (by decide) (by decide)
  revert h
  decide

end Sys2Proof.Proofs
end

section
/-! SUPPORT. What scheduling leaves alone (R38–R47): a choice, a dispatch, a preemption or a trigger moves cores, the placer's account of
a door's cycles, the logs and the registers of the sheaves, and nothing else. -/

namespace Sys2Proof.Proofs

open Sys2Proof.Machine Sys2Proof.Safety

/-- A module without its cores, its placements, its registers and its logs. -/
def unscheduled (d : Dev) : Dev := { d with cores := [], placer := { d.placer with doors := [] }, regs := [], recorder := {}, trace := {} }

/-- A register that no log and no dropped trigger shows. -/
def fixedReg (a : Nat) : Prop := a ∉ logRegs ∧ ∀ c, c < 16 → a ≠ Adr.sfEvdrop c ∧ a ≠ Adr.sfFlags c

/-- What of a core no choice, dispatch or preemption moves: its round's length, its write buffer, its accounts of the last tick and its
fault records. -/
def steady (k : Core) : Core :=
  { k with tasks := [], cur := none, round := none, tickCycles := 0, bgNext := 0, ordNext := 0, turn := 0 }

section Steady

variable (k : Core) (l : SMap Task) (t : Option Nat) (r : Option (List Nat)) (n : Nat)

@[simp] theorem steady_tasks : steady { k with tasks := l } = steady k := rfl
@[simp] theorem steady_cur : steady { k with cur := t } = steady k := rfl
@[simp] theorem steady_curTurn : steady { k with cur := t, turn := n } = steady k := rfl
@[simp] theorem steady_round : steady { k with round := r } = steady k := rfl
@[simp] theorem steady_tickCycles : steady { k with tickCycles := n } = steady k := rfl
@[simp] theorem steady_bgNext : steady { k with bgNext := n } = steady k := rfl
@[simp] theorem steady_ordNext : steady { k with ordNext := n } = steady k := rfl

end Steady

/-- A placement with another count of the cycles of the tick in progress. -/
def spent (n : Nat) (y : DoorPl) : DoorPl := { y with cycles := n }

/-- The second module is the first but for what scheduling on the cores of `C` moves. -/
structure Sched (C : Nat → Prop) (d e : Dev) : Prop where
  told : unscheduled e = unscheduled d
  core : ∀ k, ¬C k → e.core k = d.core k
  steady : ∀ k, steady (e.core k) = steady (d.core k)
  reg : ∀ a, fixedReg a → e.reg a = d.reg a
  door : ∀ x, ∃ n, e.doorPl x = (d.doorPl x).map (spent n)

variable {C : Nat → Prop} {d e f : Dev} {c : Nat}

/-- The same placements. -/
theorem door_refl {l m : Option DoorPl} (h : l = m) : ∃ n, l = m.map (spent n) := by
  cases m with
  | none => exact ⟨0, h⟩
  | some y => exact ⟨y.cycles, h⟩

theorem door_trans {k l m : Option DoorPl} (h : ∃ n, l = k.map (spent n)) (g : ∃ n, m = l.map (spent n)) : ∃ n, m = k.map (spent n) := by
  obtain ⟨_, rfl⟩ := h
  obtain ⟨n, rfl⟩ := g
  exact ⟨n, Option.map_map ..⟩

theorem Sched.refl (d : Dev) : Sched C d d := ⟨rfl, fun _ _ => rfl, fun _ => rfl, fun _ _ => rfl, fun _ => door_refl rfl⟩

theorem Sched.trans (h : Sched C d e) (g : Sched C e f) : Sched C d f :=
  ⟨g.told.trans h.told, fun k hk => (g.core k hk).trans (h.core k hk), fun k => (g.steady k).trans (h.steady k), fun a ha => (g.reg a ha).trans (h.reg a ha),
    fun x => door_trans (h.door x) (g.door x)⟩

theorem Sched.mono {D : Nat → Prop} (h : Sched C d e) (hD : ∀ k, C k → D k) : Sched D d e :=
  ⟨h.told, fun k hk => h.core k fun hC => hk (hD k hC), h.steady, h.reg, h.door⟩

theorem Sched.ite {p : Prop} [Decidable p] (h : Sched C d e) (g : Sched C d f) : Sched C d (if p then e else f) := by
  split
  · exact h
  · exact g

theorem Sched.foldl {α : Type} {l : List α} {f : Dev → α → Dev} (hf : ∀ e a, Sched C d e → Sched C d (f e a)) (h : Sched C d e) :
    Sched C d (l.foldl f e) := by
  induction l generalizing e with
  | nil => exact h
  | cons a l ih => exact ih (hf e a h)

theorem Sched.sys (h : Sched C d e) : e.sys = d.sys := show (unscheduled e).sys = (unscheduled d).sys from congrArg Dev.sys h.told
theorem Sched.image (h : Sched C d e) : e.image = d.image := show (unscheduled e).image = (unscheduled d).image from congrArg Dev.image h.told
theorem Sched.sigs (h : Sched C d e) : e.sigs = d.sigs := show (unscheduled e).sigs = (unscheduled d).sigs from congrArg Dev.sigs h.told
theorem Sched.hidden (h : Sched C d e) : e.hidden = d.hidden := show (unscheduled e).hidden = (unscheduled d).hidden from congrArg Dev.hidden h.told
theorem Sched.summary (h : Sched C d e) : e.summary = d.summary := show (unscheduled e).summary = (unscheduled d).summary from congrArg Dev.summary h.told
theorem Sched.halted (h : Sched C d e) : e.halted = d.halted := show (unscheduled e).halted = (unscheduled d).halted from congrArg Dev.halted h.told
theorem Sched.rstReq (h : Sched C d e) : e.rstReq = d.rstReq := show (unscheduled e).rstReq = (unscheduled d).rstReq from congrArg Dev.rstReq h.told
theorem Sched.axes (h : Sched C d e) : e.axes = d.axes := show (unscheduled e).axes = (unscheduled d).axes from congrArg Dev.axes h.told
theorem Sched.doorCyc (h : Sched C d e) : e.doorCyc = d.doorCyc := show (unscheduled e).doorCyc = (unscheduled d).doorCyc from congrArg Dev.doorCyc h.told
theorem Sched.promos (h : Sched C d e) : e.promos = d.promos := show (unscheduled e).promos = (unscheduled d).promos from congrArg Dev.promos h.told
theorem Sched.ports (h : Sched C d e) : e.ports = d.ports := show (unscheduled e).ports = (unscheduled d).ports from congrArg Dev.ports h.told
theorem Sched.queues (h : Sched C d e) : e.queues = d.queues := show (unscheduled e).queues = (unscheduled d).queues from congrArg Dev.queues h.told
theorem Sched.island (h : Sched C d e) : e.island = d.island := show (unscheduled e).island = (unscheduled d).island from congrArg Dev.island h.told
theorem Sched.field (h : Sched C d e) : e.field = d.field := show (unscheduled e).field = (unscheduled d).field from congrArg Dev.field h.told
theorem Sched.pair (h : Sched C d e) : e.pair = d.pair := show (unscheduled e).pair = (unscheduled d).pair from congrArg Dev.pair h.told
theorem Sched.host (h : Sched C d e) : e.host = d.host := show (unscheduled e).host = (unscheduled d).host from congrArg Dev.host h.told
theorem Sched.cans (h : Sched C d e) : e.cans = d.cans := show (unscheduled e).cans = (unscheduled d).cans from congrArg Dev.cans h.told
theorem Sched.upd (h : Sched C d e) : e.upd = d.upd := show (unscheduled e).upd = (unscheduled d).upd from congrArg Dev.upd h.told

theorem Sched.placer (h : Sched C d e) : { e.placer with doors := [] } = { d.placer with doors := [] } :=
  show (unscheduled e).placer = (unscheduled d).placer from congrArg Dev.placer h.told

theorem Sched.axis (h : Sched C d e) (n : Nat) : e.axis n = d.axis n := by rw [Dev.axis, h.axes]; rfl

/-! ### The operations of scheduling -/

theorem Sched.logs (h : Sched C d e) (g : Logs e f) : Sched C d f :=
  h.trans ⟨show unscheduled (unlogged f) = unscheduled (unlogged e) from congrArg unscheduled g.told, fun k _ => g.core k, fun k => by rw [g.core],
    fun a ha => g.reg a ha.1, fun x => door_refl (by rw [Dev.doorPl, g.placer]; rfl)⟩

theorem Sched.setCore (h : Sched C d e) (hc : C c) (k : Core) (hk : Proofs.steady k = Proofs.steady (e.core c)) :
    Sched C d (e.setCore c k) := by
  refine h.trans ⟨rfl, fun m hm => core_setCore_other e k fun he => hm (he ▸ hc), fun m => ?_, fun _ _ => rfl, fun _ => door_refl rfl⟩
  by_cases hm : m = c
  · rw [hm, core_setCore_self, hk]
  · rw [core_setCore_other e k hm]

theorem Sched.setTask (h : Sched C d e) (hc : C c) (t : Nat) (x : Task) : Sched C d (e.setTask c t x) := h.setCore hc _ (by simp)

theorem Sched.spend (h : Sched C d e) {x : Nat} {p : Nat × DoorPl} (hp : (e.placer.doors.find? fun p => p.1 == x) = some p) (n : Nat) :
    Sched C d { e with placer := { e.placer with doors := smPut e.placer.doors x (spent n p.2) } } := by
  refine h.trans ⟨rfl, fun _ _ => rfl, fun _ => rfl, fun _ _ => rfl, fun z => ?_⟩
  unfold Dev.doorPl
  dsimp only
  by_cases hz : z = x
  · subst hz
    rw [find_smPut_self, hp]
    exact ⟨n, rfl⟩
  · rw [find_smPut_other _ _ hz]
    exact door_refl rfl

theorem Sched.setReg (h : Sched C d e) {a : Nat} (ha : ¬fixedReg a) (v : Word) : Sched C d (e.setReg a v) :=
  h.trans ⟨rfl, fun _ _ => rfl, fun _ => rfl, fun _ hb => reg_setReg_other e v fun he => ha (he ▸ hb), fun _ => door_refl rfl⟩

theorem not_fixed_sfEvdrop {n : Nat} (h : n < 16) : ¬fixedReg (Adr.sfEvdrop n) := fun hf => (hf.2 n h).1 rfl

theorem not_fixed_sfFlags {n : Nat} (h : n < 16) : ¬fixedReg (Adr.sfFlags n) := fun hf => (hf.2 n h).2 rfl

theorem Sched.roundCycles (h : Sched C d e) (hc : C c) (door : Option Nat) (n : Nat) : Sched C d (e.roundCycles c door n) := by
  unfold Dev.roundCycles
  dsimp only
  split
  · exact h.setCore hc _ (by simp)
  · split
    · next hp => exact (h.setCore hc _ (by simp)).spend hp _
    · exact h.setCore hc _ (by simp)

theorem Sched.run (h : Sched C d e) (hc : C c) (t : Nat) (x : Task) (starts : Bool) : Sched C d (e.run c t x starts) := by
  unfold Dev.run
  have hk := ((h.setTask hc t { x with st := .running, gate := false, fresh := false }).setCore hc
    { (e.setTask c t { x with st := .running, gate := false, fresh := false }).core c with cur := some t, turn := 0 } rfl)
  have ht := Sched.ite (p := starts = true) (hk.logs ((Logs.refl _).countEvent 3 c 1)) hk
  have hf := ht.logs ((Logs.refl _).flowPacket c 0x02 (leBytes 1 t ++ leBytes 4 x.pc.toNat))
  exact .ite (hf.roundCycles hc _ _) hf

theorem Sched.activate (h : Sched C d e) (hc : C c) (t : Nat) (x : Task) : Sched C d (e.activate c t x) := by
  unfold Dev.activate
  split
  · exact h
  · exact h.run hc _ _ _

theorem Sched.take (h : Sched C d e) (hc : C c) (t : Nat) (x : Task) : Sched C d (e.take c t x) :=
  .ite (h.activate hc t x) (h.run hc t x _)

theorem Sched.endRound (h : Sched C d e) (hc : C c) : Sched C d (e.endRound c) := h.setCore hc _ (by simp)

theorem Sched.wakeFrame (h : Sched C d e) (hc : C c) : Sched C d (e.wakeFrame c) := h.setCore hc _ (by simp)

theorem Sched.choose (h : Sched C d e) (hc : C c) : Sched C d (e.choose c) := by
  unfold Dev.choose
  refine .ite h ?_
  extract_lets next
  clear_value next
  split
  · exact (h.setCore hc _ (by simp)).take hc _ _
  · have hr := Sched.ite (p := (e.core c).round.isSome = true) ((h.endRound hc).wakeFrame hc) h
    split
    · exact hr.take hc _ _
    · exact hr

theorem Sched.leave (h : Sched C d e) (hc : C c) (t : Nat) (x : Task) : Sched C d (e.leave c t x) := (h.setTask hc t _).setCore hc _ (by simp)

theorem Sched.nextTurn (h : Sched C d e) (hc : C c) (n : Nat) : Sched C d (e.setCore c { e.core c with bgNext := n }) :=
  h.setCore hc _ (by simp)

theorem Sched.preempt (h : Sched C d e) (hc : C c) : Sched C d (e.preempt c) := by
  unfold Dev.preempt
  split
  · exact h
  · next t _ =>
    have hl := h.leave hc t { e.task c t with st := .ready }
    dsimp only
    generalize e.leave c t { e.task c t with st := .ready } = f at hl ⊢
    exact .ite h ((Sched.ite (hl.nextTurn hc t) hl).logs ((Logs.refl _).traceTask c t 3 0))

theorem Sched.kick (h : Sched C d e) (hc : C c) : Sched C d (e.kick c) := by
  unfold Dev.kick
  split
  · exact h.choose hc
  · exact .ite ((h.preempt hc).choose hc) h

theorem Sched.takeOrd (h : Sched C d e) (hc : C c) : Sched C d (e.takeOrd c) := h.setCore hc _ (by simp)

theorem Sched.queueTrigger (h : Sched C d e) (hc : C c) (t idx sig : Nat) : Sched C d (e.queueTrigger c t idx sig) := by
  unfold Dev.queueTrigger
  refine .ite h (.ite (Sched.logs ?_ ((Logs.refl _).eventRep _ _ _)) (((h.takeOrd hc).setTask hc t _).kick hc))
  by_cases hn : c < 16
  · rw [if_pos hn]
    exact (h.setReg (not_fixed_sfEvdrop hn) _).setReg (not_fixed_sfFlags hn) _
  · rw [if_neg hn]
    exact h

theorem Sched.fireTriggers (h : Sched (fun _ => True) d e) (test : TrigKind → Bool) : Sched (fun _ => True) d (e.fireTriggers test) :=
  .ite (h.foldl fun _ _ g => g.queueTrigger trivial _ _ _) h

theorem Sched.fireWrite (h : Sched (fun _ => True) d e) (n : Nat) (changed : Bool) : Sched (fun _ => True) d (e.fireWrite n changed) :=
  h.fireTriggers _

theorem Sched.stopTask (h : Sched C d e) (hc : C c) (t : Nat) (st : TaskSt) (event : Nat) : Sched C d (e.stopTask c t st event) := by
  have hl := h.leave hc t { e.task c t with st := st }
  unfold Dev.stopTask
  dsimp only
  generalize e.leave c t { e.task c t with st := st } = f at hl ⊢
  exact ((Sched.ite (hl.nextTurn hc (t + 1)) hl).logs ((Logs.refl _).traceTask c t event 0)).choose hc

end Sys2Proof.Proofs
end

section
/-! SUPPORT. The signal store (R20–R24, R50): what a signal's existence, region, marks and content depend on, and what a write at its
home leaves. -/

namespace Sys2Proof.Proofs

open Sys2Proof.Machine Sys2Proof.Safety

/-! ### What the signal space depends on -/

/-- Two modules have the same signal space: image and configuration registers. -/
structure SameSpace (d e : Dev) : Prop where
  image : e.image = d.image
  reg : ∀ a, fixedReg a → e.reg a = d.reg a

section Space

variable {d e f : Dev} {n : Nat}

theorem SameSpace.trans (h : SameSpace d e) (g : SameSpace e f) : SameSpace d f :=
  ⟨g.image.trans h.image, fun a ha => (g.reg a ha).trans (h.reg a ha)⟩

theorem Sched.space {C : Nat → Prop} (h : Sched C d e) : SameSpace d e := ⟨h.image, h.reg⟩

theorem Logs.space (h : Logs d e) : SameSpace d e := ⟨h.image, fun a ha => h.reg a ha.1⟩

theorem fixedReg_of {a : Nat} (h : 0x50000 ≤ a) (h' : a < 0x240000) : fixedReg a := by
  refine ⟨fun hm => ?_, fun c hc => by unfold Adr.sfEvdrop Adr.sfFlags; omega⟩
  simp only [logRegs, List.mem_cons, List.not_mem_nil, or_false, Adr.recFlags, Adr.trcFlags, Adr.trcDrop] at hm
  omega

theorem fixedReg_axCfg (h : n < 512) : fixedReg (Adr.axCfg n) := fixedReg_of (by unfold Adr.axCfg; omega) (by unfold Adr.axCfg; omega)

theorem fixedReg_canObjcfg {c o : Nat} (hc : c < 4) (ho : o ≤ 256) : fixedReg (Adr.canObjcfg c o) :=
  fixedReg_of (by unfold Adr.canObjcfg; omega) (by unfold Adr.canObjcfg; omega)

theorem SameSpace.axConfigured (h : SameSpace d e) (n : Nat) : e.axConfigured n = d.axConfigured n := by
  unfold Dev.axConfigured
  by_cases hn : n < 512
  · rw [h.reg _ (fixedReg_axCfg hn)]
  · rw [decide_eq_false hn, Bool.false_and, Bool.false_and]

theorem SameSpace.sigExists (h : SameSpace d e) (n : Nat) : e.sigExists n = d.sigExists n := by
  unfold Dev.sigExists
  rw [h.axConfigured, h.image]

theorem SameSpace.mirrorBit (h : SameSpace d e) (n : Nat) : e.mirrorBit n = d.mirrorBit n := by
  unfold Dev.mirrorBit
  rw [h.image]

theorem ite_ne {α : Type} {p : Prop} [Decidable p] {a b c : α} (ha : a ≠ c) (hb : b ≠ c) : (if p then a else b) ≠ c := by
  split
  · exact ha
  · exact hb

/-- The signals of the CAN controllers. -/
theorem regionOf_can (h : regionOf n = .can) : 0x81000 ≤ n ∧ n ≤ 0x84FFF := by
  by_contra hn
  revert h
  unfold regionOf
  rw [if_neg hn]
  repeat' refine ite_ne ?_ ?_
  all_goals nofun

theorem SameSpace.canPlace (h : SameSpace d e) (hn : 0x81000 ≤ n ∧ n ≤ 0x84FFF) : e.canPlace n = d.canPlace n := by
  unfold Dev.canPlace Dev.canDouble
  dsimp only
  rw [h.reg _ (fixedReg_canObjcfg (by omega) (by omega)), h.reg _ (fixedReg_canObjcfg (by omega) (by omega))]

theorem SameSpace.region (h : SameSpace d e) (n : Nat) : e.region n = d.region n := by
  unfold Dev.region
  cases hr : regionOf n with
  | can => dsimp only; rw [h.canPlace (regionOf_can hr)]
  | _ => rfl

theorem canPlace_cases (d : Dev) (n : Nat) :
    d.canPlace n = ((n - 0x81000) / 0x1000, (n - 0x81000) % 0x1000 / 16 - 1, (n - 0x81000) % 16 + 16) ∨
      d.canPlace n = ((n - 0x81000) / 0x1000, (n - 0x81000) % 0x1000 / 16, (n - 0x81000) % 16) :=
  ite_eq_or_eq _ _ _

theorem canPlace_bounds (hn : 0x81000 ≤ n ∧ n ≤ 0x84FFF) : (d.canPlace n).1 < 4 ∧ (d.canPlace n).2.1 ≤ 256 := by
  have hc : (n - 0x81000) / 0x1000 < 4 := by omega
  have ho : (n - 0x81000) % 0x1000 / 16 ≤ 256 := by omega
  rcases canPlace_cases d n with h | h <;> rw [h]
  · exact ⟨hc, (Nat.sub_le _ _).trans ho⟩
  · exact ⟨hc, ho⟩

theorem region_can (h : d.region n = .can) : 0x81000 ≤ n ∧ n ≤ 0x84FFF := by
  apply regionOf_can
  unfold Dev.region at h
  split at h
  · assumption
  · exact h

theorem SameSpace.sigTracked (h : SameSpace d e) (n : Nat) : e.sigTracked n = d.sigTracked n := by
  unfold Dev.sigTracked
  rw [h.region, h.image]
  congr 1
  cases hr : d.region n with
  | can =>
    have hn := region_can hr
    obtain ⟨hc, ho⟩ := canPlace_bounds (d := d) hn
    dsimp only
    rw [h.canPlace hn, h.reg _ (fixedReg_canObjcfg hc ho)]
  | _ => rfl

/-- A signal is read from its space and from its place in the store. -/
theorem SameSpace.sig (h : SameSpace d e) (hs : (e.sigs.find? fun p => p.1 == n) = d.sigs.find? fun p => p.1 == n) : e.sig n = d.sig n := by
  unfold Dev.sig
  rw [h.sigExists, h.region, h.image, h.mirrorBit, hs]

end Space

/-! ### A write at its home -/

section Store

variable (d : Dev) (n : Nat) (v : Word) (valid stale : Bool) (tag : Nat)

theorem sig_setSig_self (x : Sig) (he : d.sigExists n = true) (hr : d.region n ≠ .reserved) :
    (d.setSig n x).sig n = { x with q := x.q ||| d.mirrorBit n } := by
  have h : SameSpace d (d.setSig n x) := ⟨rfl, fun _ _ => rfl⟩
  unfold Dev.sig
  rw [h.sigExists, h.region, h.mirrorBit, Dev.setSig, find_smPut_self, he, if_neg nofun, if_neg hr]

theorem sig_setSig_other {m : Nat} (x : Sig) (h : m ≠ n) : (d.setSig n x).sig m = d.sig m :=
  SameSpace.sig ⟨rfl, fun _ _ => rfl⟩ (find_smPut_other _ _ h)

/-- The store of a signal after a write. -/
def written (d : Dev) (n : Nat) (v : Word) (valid stale : Bool) (tag : Nat) : Sig :=
  let old := d.sig n
  let q : BitVec 8 := (old.q &&& 0x34) ||| BitVec.ofNat 8 (b2n valid + 2 * b2n stale + 8 * b2n (tag == 0x12))
  { value := v, q := (if d.sigTracked n && old.unread then q ||| 4 else q) &&& 0x1F, tag := BitVec.ofNat 8 tag,
    stamp := BitVec.ofNat 16 d.sys.frame.toNat, unread := d.sigTracked n }

/-- A write changes its signal, and then only what its triggers schedule. -/
theorem sigStore_sched : Sched (fun _ => True) (d.setSig n (written d n v valid stale tag)) (d.sigStore n v valid stale tag) :=
  Sched.fireWrite ((Sched.refl _).logs ((Logs.refl _).traceWrite _ _ _ _)) _ _

theorem sig_sigStore_self (he : d.sigExists n = true) (hr : d.region n ≠ .reserved) :
    (d.sigStore n v valid stale tag).sig n = { written d n v valid stale tag with q := (written d n v valid stale tag).q ||| d.mirrorBit n } := by
  have h := sigStore_sched d n v valid stale tag
  rw [h.space.sig (by rw [h.sigs]), sig_setSig_self d n _ he hr]

theorem sig_sigStore_other {m : Nat} (hm : m ≠ n) : (d.sigStore n v valid stale tag).sig m = d.sig m := by
  have h := sigStore_sched d n v valid stale tag
  rw [h.space.sig (by rw [h.sigs]), sig_setSig_other d n _ hm]

theorem mirrorBit_cases : d.mirrorBit n = 0x20 ∨ d.mirrorBit n = 0 := by
  unfold Dev.mirrorBit
  split
  · split <;> simp
  · exact .inr rfl

end Store

/-- The quality bits of a write, over every old quality. -/
theorem written_bits (old mirror : BitVec 8) (hm : mirror = 0x20 ∨ mirror = 0) (valid stale safe lost : Bool) :
    let q : BitVec 8 := (old &&& 0x34) ||| BitVec.ofNat 8 (b2n valid + 2 * b2n stale + 8 * b2n safe)
    let new := (if lost then q ||| 4 else q) &&& 0x1F ||| mirror
    new.getLsbD 0 = valid ∧ new.getLsbD 1 = stale ∧ new.getLsbD 3 = safe ∧ new.getLsbD 4 = old.getLsbD 4 ∧
      new.getLsbD 5 = mirror.getLsbD 5 ∧ new.getLsbD 2 = (old.getLsbD 2 || lost) ∧ new.getLsbD 6 = false ∧ new.getLsbD 7 = false := by
  rcases hm with rfl | rfl <;> cases valid <;> cases stale <;> cases safe <;> cases lost <;>
    simp [b2n]

/-- The count of discarded writes is a signal of the system status. -/
theorem discards_exists (d : Dev) : d.sigExists 0x87010 = true := rfl

theorem discards_region (d : Dev) : d.region 0x87010 ≠ .reserved := by
  have h : regionOf 0x87010 = .system := by decide
  unfold Dev.region
  rw [h]
  nofun

/-- Settles O19: a write is one change of the store, and what its triggers schedule touches no signal. -/
theorem signalStore : Obligations.SignalStore := by
  refine ⟨fun d n m v valid stale tag he hr ht => ?_, fun d n v valid stale tag hn hf => ?_⟩
  · extract_lets old new
    have hnew : new = _ := sig_sigStore_self d n v valid stale tag he hr
    obtain ⟨h0, h1, h3, h4, h5, h2, h6, h7⟩ := written_bits (d.sig n).q (d.mirrorBit n) (mirrorBit_cases d n) valid stale (tag == 0x12)
      (d.sigTracked n && (d.sig n).unread)
    rw [hnew]
    refine ⟨rfl, ?_, ?_, h0, h1, ?_, h4, h5, h2, h6, h7, rfl, fun hm => sig_sigStore_other d n v valid stale tag hm⟩
    · exact (BitVec.toNat_ofNat ..).trans (Nat.mod_eq_of_lt ht)
    · exact BitVec.toNat_ofNat ..
    · exact (Bool.eq_iff_iff.1 h3).trans beq_iff_eq
  · intro d'
    have hd : d' = ({ d with hidden := smPut d.hidden n (v, valid) } : Dev).sigDiscard := if_pos hf
    have hs : ∀ m, ({ d with hidden := smPut d.hidden n (v, valid) } : Dev).sig m = d.sig m := fun _ => rfl
    rw [hd]
    refine ⟨(sig_sigStore_other _ 0x87010 _ _ _ _ hn).trans (hs n), ?_⟩
    rw [Dev.sigDiscard, Dev.sigVal, sig_sigStore_self _ _ _ _ _ _ (discards_exists _) (discards_region _)]
    rfl

end Sys2Proof.Proofs
end

section
/-! SUPPORT. The frame boundary (R14–R18, R383): the clock it moves, and what a boundary in ROAST leaves alone. -/

namespace Sys2Proof.Proofs

open Sys2Proof.Machine Sys2Proof.Safety

/-! ### What an operation of the outer layer keeps -/

section Outer

variable {d e : Dev}

theorem image_of_outer (h : e.outer = d.outer) : e.image = d.image := show e.outer.image = d.outer.image from congrArg Dev.image h
theorem summary_of_outer (h : e.outer = d.outer) : e.summary = d.summary := show e.outer.summary = d.outer.summary from congrArg Dev.summary h
theorem halted_of_outer (h : e.outer = d.outer) : e.halted = d.halted := show e.outer.halted = d.outer.halted from congrArg Dev.halted h
theorem rstReq_of_outer (h : e.outer = d.outer) : e.rstReq = d.rstReq := show e.outer.rstReq = d.outer.rstReq from congrArg Dev.rstReq h
theorem axes_of_outer (h : e.outer = d.outer) : e.axes = d.axes := show e.outer.axes = d.outer.axes from congrArg Dev.axes h
theorem doorCyc_of_outer (h : e.outer = d.outer) : e.doorCyc = d.doorCyc := show e.outer.doorCyc = d.outer.doorCyc from congrArg Dev.doorCyc h
theorem promos_of_outer (h : e.outer = d.outer) : e.promos = d.promos := show e.outer.promos = d.outer.promos from congrArg Dev.promos h
theorem ports_of_outer (h : e.outer = d.outer) : e.ports = d.ports := show e.outer.ports = d.outer.ports from congrArg Dev.ports h
theorem queues_of_outer (h : e.outer = d.outer) : e.queues = d.queues := show e.outer.queues = d.outer.queues from congrArg Dev.queues h
theorem island_of_outer (h : e.outer = d.outer) : e.island = d.island := show e.outer.island = d.outer.island from congrArg Dev.island h
theorem field_of_outer (h : e.outer = d.outer) : e.field = d.field := show e.outer.field = d.outer.field from congrArg Dev.field h
theorem pair_of_outer (h : e.outer = d.outer) : e.pair = d.pair := show e.outer.pair = d.outer.pair from congrArg Dev.pair h
theorem host_of_outer (h : e.outer = d.outer) : e.host = d.host := show e.outer.host = d.outer.host from congrArg Dev.host h
theorem cans_of_outer (h : e.outer = d.outer) : e.cans = d.cans := show e.outer.cans = d.outer.cans from congrArg Dev.cans h
theorem upd_of_outer (h : e.outer = d.outer) : e.upd = d.upd := show e.outer.upd = d.outer.upd from congrArg Dev.upd h

end Outer

/-! ### The clock -/

/-- The clock one frame on. -/
def Clock (y z : Sys) : Prop :=
  z.frame = y.frame + 1 ∧ z.opTime = (if (y.frame + 1).toNat % 16 = 0 then y.opTime + 1 else y.opTime) ∧
    z.power = y.power ∧ z.div = y.div ∧ z.pwrCyc = y.pwrCyc ∧ z.runFrame = y.runFrame ∧
    z.runFrames = (if y.power = .run then y.runFrames + 1 else y.runFrames) ∧ z.leaving = y.leaving ∧ z.entering = y.entering

/-- Only what `fixed` keeps of the system's state matters to the clock. -/
theorem Clock.of_fixed {y z w : Sys} (h : Clock y z) (hw : w.fixed = z.fixed) : Clock y w := by
  change Clock y w.fixed
  rw [hw]
  exact h

theorem Clock.from_fixed {y y' z : Sys} (h : Clock y' z) (hy : y'.fixed = y.fixed) : Clock y z := by
  change Clock y.fixed z
  rw [← hy]
  exact h

theorem clock_ticked (y : Sys) : Clock y y.ticked := by
  refine ⟨rfl, rfl, rfl, rfl, rfl, rfl, ?_, rfl, rfl⟩
  change (if y.power == .run then y.runFrames + 1 else y.runFrames) = _
  cases y.power <;> rfl

theorem clock_openFrame (d : Dev) (r : Bool) : Clock d.sys (d.openFrame r).sys := by
  obtain ⟨k, hk⟩ := Dev_openFrame_sys (d := d) (r := r)
  exact Clock.of_fixed (z := ({ d.sys.ticked with boundary := false } : Sys).fixed.supplied k) (clock_ticked d.sys) hk

theorem clock_frameBoundary (d : Dev) (r : Bool) : Clock d.sys (d.closeFrame.openFrame r).sys :=
  (clock_openFrame _ _).from_fixed (Dev_closeFrame_kept rfl)

theorem clock_sampleSupplies {y : Sys} {d : Dev} (h : Clock y d.sys) : Clock y d.sampleSupplies.sys :=
  Clock.of_fixed (z := d.sys.fixed.supplied d.sys.free) h Dev_sampleSupplies_sys

theorem clock_openClock (d : Dev) : Clock d.sys d.openClock.sys := (clock_ticked d.sys).of_fixed Dev_openClock_sys

theorem clock_roastFrame (d : Dev) : Clock d.sys d.roastFrame.sys :=
  clock_sampleSupplies (clock_openClock { d with host := { d.host with tx := [] } })

/-! ### A device write where no task is scheduled -/

section Idle

variable {d e : Dev}

/-- The second module has the cores of the first, and schedules no trigger either. -/
structure Unscheduled (d e : Dev) : Prop where
  cores : e.cores = d.cores
  idle : e.scheduling 16 = false

theorem Logs.unscheduled (g : Logs d e) (h : d.scheduling 16 = false) : Unscheduled d e :=
  ⟨g.cores, by unfold Dev.scheduling at h ⊢; rw [g.sys, g.pair]; exact h⟩

theorem fireWrite_unscheduled (h : d.scheduling 16 = false) (n : Nat) (changed : Bool) : d.fireWrite n changed = d :=
  if_neg (by rw [h]; nofun)

theorem sigStore_unscheduled (h : d.scheduling 16 = false) (n : Nat) (v : Word) (valid stale : Bool) (tag : Nat) :
    Unscheduled d (d.sigStore n v valid stale tag) := by
  obtain ⟨q, changed, hs⟩ : ∃ q changed, d.sigStore n v valid stale tag =
      ((d.setSig n (written d n v valid stale tag)).traceWrite n tag v q).fireWrite n changed := ⟨_, _, rfl⟩
  have g := (Logs.refl (d.setSig n (written d n v valid stale tag))).traceWrite n tag v q |>.unscheduled h
  rw [hs, fireWrite_unscheduled g.idle]
  exact ⟨g.cores, g.idle⟩

theorem sigHome_unscheduled (h : d.scheduling 16 = false) (n : Nat) (v : Word) (valid stale : Bool) (tag : Nat) :
    Unscheduled d (d.sigHome n v valid stale tag) := by
  have g (x : SMap (Word × Bool)) (n : Nat) (v : Word) (valid stale : Bool) (tag : Nat) :
      Unscheduled d (({ d with hidden := x } : Dev).sigStore n v valid stale tag) :=
    have g := sigStore_unscheduled (d := { d with hidden := x }) h n v valid stale tag
    ⟨g.cores, g.idle⟩
  unfold Dev.sigHome
  split
  · exact g _ _ _ _ _ _
  · exact g _ _ _ _ _ _

theorem devSig_unscheduled (h : d.scheduling 16 = false) (n : Nat) (v : Word) (valid stale : Bool) :
    Unscheduled d (d.devSig n v valid stale) := by
  unfold Dev.devSig
  split
  · exact sigHome_unscheduled h _ _ _ _ _
  · exact ⟨rfl, h⟩

theorem Unscheduled.trans {f : Dev} (h : Unscheduled d e) (g : Unscheduled e f) : Unscheduled d f := ⟨g.cores.trans h.cores, g.idle⟩

end Idle

theorem openClock_unscheduled {d : Dev} (h : d.scheduling 16 = false) : Unscheduled d d.openClock := by
  unfold Dev.openClock
  extract_lets e1 e2
  have g1 : Unscheduled d e1 := ⟨rfl, h⟩
  have g2 := g1.trans (devSig_unscheduled g1.idle 0x87001 e1.sys.frame true false)
  have g3 := g2.trans (devSig_unscheduled g2.idle 0x87002 (wordOfNat (e2.now % 2 ^ 32)) true false)
  exact g3.trans (devSig_unscheduled g3.idle 0x87003 (wordOfNat (e2.now / 2 ^ 32)) true false)

theorem openClock_outer (d : Dev) : d.openClock.outer = d.outer :=
  Dev_devNat_outer (Dev_devNat_outer (Dev_devSig_outer (show Outer d.outer (d.modSys _) from rfl)))

theorem sampleSupplies_frame (d : Dev) :
    d.sampleSupplies.axes = d.axes ∧ d.sampleSupplies.cores = d.cores ∧ d.sampleSupplies.ports = d.ports := ⟨rfl, rfl, rfl⟩

/-- A boundary in ROAST touches no axis, no core and no port. -/
theorem roastFrame_frame {d : Dev} (h : d.sys.power = .roast) :
    d.roastFrame.axes = d.axes ∧ d.roastFrame.cores = d.cores ∧ d.roastFrame.ports = d.ports := by
  have hi : ({ d with host := { d.host with tx := [] } } : Dev).scheduling 16 = false := by
    change (d.sys.power == .run && _ && _) = false
    rw [h]
    rfl
  have ho := openClock_outer { d with host := { d.host with tx := [] } }
  obtain ⟨ha, hc, hp⟩ := sampleSupplies_frame ({ d with host := { d.host with tx := [] } } : Dev).openClock
  have h1 := axes_of_outer ho
  have h2 := ports_of_outer ho
  exact ⟨ha.trans h1, hc.trans (openClock_unscheduled hi).cores, hp.trans h2⟩

/-- Settles O20: the clock is all of the system's state that a boundary moves, and in ROAST nothing is scheduled. -/
theorem frameBoundary : Obligations.FrameBoundary := by
  intro s roleIn
  extract_lets y clock
  have hx : exec (.frameBoundary roleIn) s = execFrameBoundary roleIn s := rfl
  unfold execFrameBoundary at hx
  have hclock (d : Dev) : Clock s.dev.sys d.sys → clock d := id
  refine ⟨fun hp => ?_, fun hp hr => ?_, fun hp => ?_⟩
  · have ho : s.dev.operating = true := by
      rw [Dev.operating]
      rcases hp with hp | hp <;> rw [show s.dev.sys.power = _ from hp] <;> rfl
    exact ⟨{ s with dev := s.dev.closeFrame.openFrame roleIn }, hx.trans (if_pos ho), rfl, hclock _ (clock_frameBoundary s.dev roleIn)⟩
  · have ho : ¬s.dev.operating = true := by
      rw [Dev.operating, show s.dev.sys.power = _ from hp]
      nofun
    have hn : (s.dev.sys.power == .roast && s.dev.sys.reset.isNone) = true := by
      rw [show s.dev.sys.power = _ from hp, show s.dev.sys.reset = _ from hr]
      rfl
    exact ⟨{ s with dev := s.dev.roastFrame }, hx.trans ((if_neg ho).trans (if_pos hn)), rfl, hclock _ (clock_roastFrame s.dev), roastFrame_frame hp⟩
  · refine hx.trans ((if_neg ?_).trans (if_neg ?_))
    · rw [Dev.operating]
      rcases hp with hp | hp | hp
      · rw [show s.dev.sys.power = _ from hp]; nofun
      · rw [show s.dev.sys.power = _ from hp]; nofun
      · rw [show s.dev.sys.power = _ from hp.1]; nofun
    · rcases hp with hp | hp | hp
      · rw [show s.dev.sys.power = _ from hp]; nofun
      · rw [show s.dev.sys.power = _ from hp]; nofun
      · rw [Bool.and_eq_true, Option.isNone_iff_eq_none]; exact fun h => hp.2 h.2

end Sys2Proof.Proofs
end

section
/-! SUPPORT. The coarse tick (R44, R46, R79): the load report of a sheaf, and the release of a COARSE task. -/

namespace Sys2Proof.Proofs

open Sys2Proof.Machine Sys2Proof.Safety

/-! ### A device's write -/

/-- A module without its signal store and what scheduling moves. -/
def unstored (d : Dev) : Dev := { unscheduled d with sigs := [], hidden := [] }

/-- The second module is the first but for writes of signals and what their triggers schedule. -/
structure Stored (d e : Dev) : Prop where
  told : unstored e = unstored d
  steady : ∀ k, steady (e.core k) = steady (d.core k)
  reg : ∀ a, fixedReg a → e.reg a = d.reg a
  door : ∀ x, ∃ n, e.doorPl x = (d.doorPl x).map (spent n)

section Stored

variable {d e f : Dev}

theorem Stored.refl (d : Dev) : Stored d d := ⟨rfl, fun _ => rfl, fun _ _ => rfl, fun _ => door_refl rfl⟩

theorem Stored.trans (h : Stored d e) (g : Stored e f) : Stored d f :=
  ⟨g.told.trans h.told, fun k => (g.steady k).trans (h.steady k), fun a ha => (g.reg a ha).trans (h.reg a ha),
    fun x => door_trans (h.door x) (g.door x)⟩

theorem Sched.stored {C : Nat → Prop} (h : Sched C d e) : Stored d e :=
  ⟨show unstored (unscheduled e) = unstored (unscheduled d) from congrArg unstored h.told, h.steady, h.reg, h.door⟩

theorem Stored.sched {C : Nat → Prop} (h : Stored d e) (g : Sched C e f) : Stored d f := h.trans g.stored

theorem Stored.logs (h : Stored d e) (g : Logs e f) : Stored d f := h.sched ((Sched.refl (C := fun _ => True) e).logs g)

theorem Stored.ite {p : Prop} [Decidable p] (h : Stored d e) (g : Stored d f) : Stored d (if p then e else f) := by
  split
  · exact h
  · exact g

theorem Stored.foldl {α : Type} {l : List α} {f : Dev → α → Dev} (hf : ∀ e a, Stored d e → Stored d (f e a)) (h : Stored d e) :
    Stored d (l.foldl f e) := by
  induction l generalizing e with
  | nil => exact h
  | cons a l ih => exact ih (hf e a h)

theorem Stored.sys (h : Stored d e) : e.sys = d.sys := show (unstored e).sys = (unstored d).sys from congrArg Dev.sys h.told
theorem Stored.image (h : Stored d e) : e.image = d.image := show (unstored e).image = (unstored d).image from congrArg Dev.image h.told
theorem Stored.summary (h : Stored d e) : e.summary = d.summary := show (unstored e).summary = (unstored d).summary from congrArg Dev.summary h.told
theorem Stored.halted (h : Stored d e) : e.halted = d.halted := show (unstored e).halted = (unstored d).halted from congrArg Dev.halted h.told
theorem Stored.rstReq (h : Stored d e) : e.rstReq = d.rstReq := show (unstored e).rstReq = (unstored d).rstReq from congrArg Dev.rstReq h.told
theorem Stored.axes (h : Stored d e) : e.axes = d.axes := show (unstored e).axes = (unstored d).axes from congrArg Dev.axes h.told
theorem Stored.doorCyc (h : Stored d e) : e.doorCyc = d.doorCyc := show (unstored e).doorCyc = (unstored d).doorCyc from congrArg Dev.doorCyc h.told
theorem Stored.promos (h : Stored d e) : e.promos = d.promos := show (unstored e).promos = (unstored d).promos from congrArg Dev.promos h.told
theorem Stored.ports (h : Stored d e) : e.ports = d.ports := show (unstored e).ports = (unstored d).ports from congrArg Dev.ports h.told
theorem Stored.queues (h : Stored d e) : e.queues = d.queues := show (unstored e).queues = (unstored d).queues from congrArg Dev.queues h.told
theorem Stored.island (h : Stored d e) : e.island = d.island := show (unstored e).island = (unstored d).island from congrArg Dev.island h.told
theorem Stored.field (h : Stored d e) : e.field = d.field := show (unstored e).field = (unstored d).field from congrArg Dev.field h.told
theorem Stored.pair (h : Stored d e) : e.pair = d.pair := show (unstored e).pair = (unstored d).pair from congrArg Dev.pair h.told
theorem Stored.host (h : Stored d e) : e.host = d.host := show (unstored e).host = (unstored d).host from congrArg Dev.host h.told
theorem Stored.cans (h : Stored d e) : e.cans = d.cans := show (unstored e).cans = (unstored d).cans from congrArg Dev.cans h.told
theorem Stored.upd (h : Stored d e) : e.upd = d.upd := show (unstored e).upd = (unstored d).upd from congrArg Dev.upd h.told

theorem Stored.axis (h : Stored d e) (n : Nat) : e.axis n = d.axis n := by rw [Dev.axis, h.axes]; rfl

theorem Stored.setSig (h : Stored d e) (n : Nat) (x : Sig) : Stored d (e.setSig n x) := h.trans ⟨rfl, fun _ => rfl, fun _ _ => rfl, fun _ => door_refl rfl⟩

theorem Stored.modHidden (h : Stored d e) (l : SMap (Word × Bool)) : Stored d { e with hidden := l } :=
  h.trans ⟨rfl, fun _ => rfl, fun _ _ => rfl, fun _ => door_refl rfl⟩

theorem Stored.sigStore (h : Stored d e) (n : Nat) (v : Word) (valid stale : Bool) (tag : Nat) :
    Stored d (e.sigStore n v valid stale tag) := (h.setSig n _).sched (sigStore_sched e n v valid stale tag)

theorem Stored.sigHome (h : Stored d e) (n : Nat) (v : Word) (valid stale : Bool) (tag : Nat) : Stored d (e.sigHome n v valid stale tag) :=
  .ite ((h.modHidden _).sigStore _ _ _ _ _) ((h.modHidden _).sigStore _ _ _ _ _)

theorem Stored.devSig (h : Stored d e) (n : Nat) (v : Word) (valid stale : Bool) : Stored d (e.devSig n v valid stale) :=
  .ite (h.sigHome _ _ _ _ _) h

theorem Stored.devNat (h : Stored d e) (n v : Nat) : Stored d (e.devNat n v) := h.devSig _ _ _ _

theorem Stored.placer (h : Stored d e) : { e.placer with doors := [] } = { d.placer with doors := [] } :=
  show (unstored e).placer = (unstored d).placer from congrArg Dev.placer h.told

end Stored

/-! ### The load report -/

section Fields

variable {a b : Nat} (w : Word)

theorem setFld_low (ha : a < 1024) : fld (setFld (setFld w 0 10 a) 16 10 b) 0 10 = a := by
  simp only [fld, setFld, wordOfNat, BitVec.toNat_ofNat, Nat.shiftRight_eq_div_pow]
  omega

theorem setFld_high (hb : b < 1024) : fld (setFld (setFld w 0 10 a) 16 10 b) 16 10 = b := by
  simp only [fld, setFld, wordOfNat, BitVec.toNat_ofNat, Nat.shiftRight_eq_div_pow]
  omega

theorem fld_lt (lo width : Nat) : fld w lo width < 2 ^ width := Nat.mod_lt _ (Nat.two_pow_pos _)

end Fields

section Loads

variable (d : Dev) (c : Nat)

theorem load_lt (k : Core) {n : Nat} (hn : n < 1024) : k.load n < 1024 := by
  unfold Core.load satNat
  split <;> first | exact hn | (split <;> omega)

theorem load_of_steady {j k : Core} (h : steady j = steady k) (n : Nat) : j.load n = k.load n := by
  have hc : j.doneCycles = k.doneCycles := show (steady j).doneCycles = (steady k).doneCycles from congrArg Core.doneCycles h
  have hr : j.doneRounds = k.doneRounds := show (steady j).doneRounds = (steady k).doneRounds from congrArg Core.doneRounds h
  rw [Core.load, Core.load, hc, hr]


theorem fixedReg_sfLoad {n : Nat} (hn : n < 16) : fixedReg (Adr.sfLoad n) := by
  refine ⟨fun hm => ?_, fun c hc => by unfold Adr.sfLoad Adr.sfEvdrop Adr.sfFlags; omega⟩
  simp only [logRegs, List.mem_cons, List.not_mem_nil, or_false, Adr.recFlags, Adr.trcFlags, Adr.trcDrop, Adr.sfLoad] at hm
  omega

/-- The register the load report leaves. -/
def loadWord (d : Dev) (c : Nat) : Word :=
  let was := d.reg (Adr.sfLoad c)
  let last := (d.core c).load (fld was 0 10)
  setFld (setFld was 0 10 last) 16 10 (Nat.max (fld was 16 10) last)

theorem reportLoad_stored :
    ∃ v e f, Stored ((d.setReg (Adr.sfLoad c) v).setReg (Adr.sfLoad c) (loadWord d c)) e ∧ d.reportLoad c = e.modPlacer f := by
  unfold Dev.reportLoad
  refine ⟨setFld (d.reg (Adr.sfLoad c)) 0 10 ((d.core c).load (fld (d.reg (Adr.sfLoad c)) 0 10)), _, _, Stored.devNat ?_ _ _, rfl⟩
  rw [Dev.setRegFld, Dev.setRegFld, reg_setReg_self]
  exact .refl _

theorem reportLoad_axes : (d.reportLoad c).axes = d.axes := by
  obtain ⟨v, e, f, h, he⟩ := reportLoad_stored d c
  rw [he]
  exact h.axes

theorem reportLoad_steady (k : Nat) : steady ((d.reportLoad c).core k) = steady (d.core k) := by
  obtain ⟨v, e, f, h, he⟩ := reportLoad_stored d c
  rw [he]
  exact h.steady k

variable {c} (hc : c < 16)
include hc

theorem reportLoad_reg : (d.reportLoad c).reg (Adr.sfLoad c) = loadWord d c := by
  obtain ⟨v, e, f, h, he⟩ := reportLoad_stored d c
  rw [he]
  exact (h.reg _ (fixedReg_sfLoad hc)).trans (reg_setReg_self ..)

omit hc in
theorem reportLoad_reg_other {k : Nat} (hk : k < 16) (hn : k ≠ c) : (d.reportLoad c).reg (Adr.sfLoad k) = d.reg (Adr.sfLoad k) := by
  obtain ⟨v, e, f, h, he⟩ := reportLoad_stored d c
  have ha : Adr.sfLoad k ≠ Adr.sfLoad c := by unfold Adr.sfLoad; omega
  rw [he]
  exact (h.reg _ (fixedReg_sfLoad hk)).trans ((reg_setReg_other _ _ ha).trans (reg_setReg_other _ _ ha))

/-- The report of a sheaf: the load, and the highest so far. -/
theorem reportLoad_fields :
    let was := d.reg (Adr.sfLoad c)
    let now := (d.reportLoad c).reg (Adr.sfLoad c)
    fld now 0 10 = (d.core c).load (fld was 0 10) ∧ fld now 16 10 = max (fld was 16 10) ((d.core c).load (fld was 0 10)) := by
  intro was now
  have hl : (d.core c).load (fld was 0 10) < 1024 := load_lt _ (fld_lt was 0 10)
  have hm : Nat.max (fld was 16 10) ((d.core c).load (fld was 0 10)) < 1024 := Nat.max_lt.2 ⟨fld_lt was 16 10, hl⟩
  have hw : now = loadWord d c := reportLoad_reg d hc
  rw [hw]
  exact ⟨setFld_low _ hl, setFld_high _ hm⟩

omit hc

/-- The reports of sheaves without repetition: each sheaf's load is that of the tick that ended. -/
theorem reportLoads_fields {l : List Nat} (hl : l.Nodup) (h16 : ∀ k ∈ l, k < 16) {e : Dev} (hax : e.axes = d.axes)
    (hst : ∀ k, steady (e.core k) = steady (d.core k)) :
    let f := l.foldl (fun d c => d.reportLoad c) e
    f.axes = d.axes ∧ ∀ k, k < 16 →
      let was := e.reg (Adr.sfLoad k)
      let now := f.reg (Adr.sfLoad k)
      if k ∈ l then fld now 0 10 = (d.core k).load (fld was 0 10) ∧ fld now 16 10 = max (fld was 16 10) ((d.core k).load (fld was 0 10))
      else now = was := by
  induction l generalizing e with
  | nil => exact ⟨hax, fun _ _ => rfl⟩
  | cons c l ih =>
    obtain ⟨hcl, hl⟩ := List.nodup_cons.1 hl
    have hc := h16 c List.mem_cons_self
    obtain ⟨ha, hk⟩ := ih hl (fun k hk => h16 k (List.mem_cons_of_mem c hk)) ((reportLoad_axes e c).trans hax)
      fun k => (reportLoad_steady e c k).trans (hst k)
    refine ⟨ha, fun k hk16 => ?_⟩
    have hk := hk k hk16
    dsimp only [List.foldl_cons] at hk ⊢
    by_cases he : k = c
    · subst he
      rw [if_neg hcl] at hk
      rw [if_pos List.mem_cons_self, hk, ← load_of_steady (hst k)]
      exact reportLoad_fields e hc
    · rw [reportLoad_reg_other e hk16 he] at hk
      simpa only [List.mem_cons, he, false_or] using hk

end Loads

/-! ### The release of a COARSE task -/

section Release

variable {d : Dev} {c t : Nat}

theorem releaseCoarse_barred (h : (d.task c t).halted = true ∨ (d.task c t).held = true) : d.releaseCoarse c t = d :=
  if_pos (Bool.or_eq_true _ _ ▸ h)

theorem releaseDue_iff (hr : (d.task c t).relDue = true) (hk : (d.task c t).kind = .coarse) (hd : d.scheduling c = true) :
    d.releaseDue c t = if (d.core c).posting t then d else d.releaseCoarse c t := by
  have h : ((d.task c t).relDue && (d.task c t).kind == .coarse && d.scheduling c && !(d.core c).posting t) = !(d.core c).posting t := by
    rw [hr, hk, hd]; rfl
  rw [← Bool.cond_eq_ite, ← Bool.cond_not, ← h, Bool.cond_eq_ite]
  rfl

variable (hh : (d.task c t).halted = false) (hl : (d.task c t).held = false)
include hh hl

/-- A task that has not ended takes the fault, off its core. -/
theorem releaseCoarse_late (hs : (d.task c t).st ≠ .idle) :
    ∃ e : Dev, e.task c t = d.task c t ∧ e.axes = d.axes ∧ d.releaseCoarse c t = e.taskFault c t 0xA003 (d.task c t).count := by
  have h : d.releaseCoarse c t = (if (d.core c).cur = some t then d.setCore c { d.core c with cur := none } else d).taskFault c t 0xA003
      (d.task c t).count := by
    exact (if_neg (by rw [hh, hl]; nofun)).trans (if_pos (bne_iff_ne.2 hs))
  refine ⟨_, ?_, ?_, h⟩
  · split
    · unfold Dev.task
      rw [core_setCore_self]
    · rfl
  · split <;> rfl

variable (hs : (d.task c t).st = .idle)
include hs

theorem releaseCoarse_ended :
    d.releaseCoarse c t = if (d.core c).posting t then d.setTask c t { d.task c t with relDue := true } else
      let tick := d.sys.frame / 8
      let e := d.primeTask c t (if (d.task c t).started then (tick - (d.task c t).prevStart) &&& 0x1FFFFFFF else 0) d.sys.frame
      (e.takeOrd c).setTask c t { e.task c t with st := .ready, started := true, prevStart := tick, rels := satInc (e.task c t).rels,
                                                  ord := e.nextOrd, gate := true, relDue := false } := by
  exact (if_neg (by rw [hh, hl]; nofun)).trans (if_neg (by rw [hs]; nofun))

variable (hp : (d.core c).posting t = false)
include hp

/-- A task that has ended starts from its entry. -/
theorem releaseCoarse_released : ∃ (ax ib : Word) (entry n : Nat),
    (d.releaseCoarse c t).task c t = { (d.task c t).fresh' (if (d.task c t).started then (d.sys.frame / 8 - (d.task c t).prevStart) &&& 0x1FFFFFFF else 0)
        d.sys.frame 0 ax ib entry with
      fresh := true, st := .ready, started := true, prevStart := d.sys.frame / 8, rels := satInc (d.task c t).rels, ord := n,
      gate := true, relDue := false } := by
  rw [releaseCoarse_ended hh hl hs, hp, if_neg nofun]
  dsimp only
  rw [task_setTask_self, Dev.primeTask, task_setTask_self]
  exact ⟨_, _, _, _, rfl⟩

theorem releaseCoarse_other {u : Nat} (hu : u ≠ t) : (d.releaseCoarse c t).task c u = d.task c u := by
  rw [releaseCoarse_ended hh hl hs, hp, if_neg nofun]
  dsimp only
  rw [task_setTask_other _ _ (.inr hu), Dev.takeOrd]
  unfold Dev.task
  rw [core_setCore_self]
  exact task_setTask_other d _ (.inr hu)

end Release

/-- The registers of a release. -/
theorem fresh_g (x : Task) (g1 g2 ax ib : Word) (entry : Nat) :
    (x.fresh' g1 g2 0 ax ib entry).g 1 = g1 ∧ (x.fresh' g1 g2 0 ax ib entry).g 2 = g2 ∧
      ∀ r : Reg, 2 < r.toNat → (x.fresh' g1 g2 0 ax ib entry).g r = 0 := by
  refine ⟨?_, ?_, fun r hr => ?_⟩
  · simp [Task.fresh', g_setG]
  · simp [Task.fresh', g_setG]
  · have h1 : r ≠ 1 := by rintro rfl; exact absurd hr (by decide)
    have h2 : r ≠ 2 := by rintro rfl; exact absurd hr (by decide)
    simp only [Task.fresh', g_setG, h1, h2, if_false]
    split
    · rfl
    · split
      · rfl
      · simp [Task.g, smGet]

/-- The coarse ticks since a release, in 29 bits. -/
theorem ticks_toNat (f p : Word) : ((f / 8 - p) &&& 0x1FFFFFFF).toNat = (f.toNat / 8 + 2 ^ 29 - p.toNat % 2 ^ 29) % 2 ^ 29 := by
  have hm : (0x1FFFFFFF : Word).toNat = 2 ^ 29 - 1 := rfl
  rw [BitVec.toNat_and, hm, Nat.and_two_pow_sub_one_eq_mod, BitVec.toNat_sub, BitVec.toNat_udiv]
  have h8 : (8 : Word).toNat = 8 := rfl
  have := f.isLt
  rw [h8]
  omega

/-- A command that changes the module alone is answered by the module it leaves. -/
theorem answers_next {i : Instr} {s : State} {e : Dev} {post : Dev → Prop} (h : exec i s = .next { s with dev := e }) (hp : post e) :
    Answers i s post := ⟨_, h, rfl, hp⟩

/-- What a tick leaves of the clock. -/
theorem ticked_of_fixed {y z : Sys} (h : z.fixed = { y.fixed with lastTick := some y.frame }) :
    z.lastTick = some y.frame ∧ z.frame = y.frame ∧ z.opTime = y.opTime ∧ z.power = y.power ∧ z.div = y.div :=
  ⟨show z.fixed.lastTick = _ by rw [h], show z.fixed.frame = _ by rw [h]; rfl, show z.fixed.opTime = _ by rw [h]; rfl,
    show z.fixed.power = _ by rw [h]; rfl, show z.fixed.div = _ by rw [h]; rfl⟩

theorem fresh_mem (x : Task) (g1 g2 g3 ax ib : Word) (entry : Nat) :
    (x.fresh' g1 g2 g3 ax ib entry).mem = x.mem ∧ (x.fresh' g1 g2 g3 ax ib entry).count = 0 := ⟨rfl, rfl⟩

/-- Settles O21: the reports touch one register of each sheaf, and a release is primed from the frame. -/
theorem coarseTick : Obligations.CoarseTick := by
  refine ⟨fun s => ?_, fun d c t hc => ?_⟩
  · extract_lets d y due
    have hx : exec .coarseTick s = execCoarseTick s := rfl
    have hdue : (s.dev.operating && s.dev.sys.frame.toNat % 8 = 0 && s.dev.sys.lastTick != some s.dev.sys.frame) = true ↔ due := by
      simp only [Bool.and_eq_true, decide_eq_true_eq, bne_iff_ne, and_assoc, due, y, d]
    refine ⟨fun h => ?_, fun h => ?_, fun h => hx.trans (if_neg (mt hdue.1 h))⟩
    · have hk : s.dev.coarseTick.sys.fixed = { s.dev.sys.fixed with lastTick := some s.dev.sys.frame } :=
        Dev_coarseTick_kept (σ := s.dev.sys.fixed) rfl
      have hy := ticked_of_fixed hk
      exact answers_next (hx.trans (if_pos (hdue.2 h))) hy
    · obtain ⟨ha, hf⟩ := reportLoads_fields (d := d) (e := d.modSys fun y => { y with lastTick := some y.frame }) List.nodup_range
        (l := List.range 16) (fun k hk => List.mem_range.1 hk) rfl fun _ => rfl
      refine ⟨_, ha, fun k hk => ?_, hx.trans (if_pos (hdue.2 h))⟩
      have := hf k hk
      rw [if_pos (List.mem_range.2 hk)] at this
      exact this
  · extract_lets k was now load x ticks
    obtain ⟨h0, h16⟩ := reportLoad_fields d hc
    have hload : (d.core c).load (fld was 0 10) = load := by
      unfold Core.load satNat
      refine if_congr Iff.rfl rfl ?_
      rw [Nat.min_def]
    refine ⟨h0.trans hload, hload ▸ h16, fun hh hl hs hp => ?_, fun hr hk hd => ?_, fun hh hl hs hp => ?_, fun hh hl hs => ?_,
      releaseCoarse_barred⟩
    · rw [releaseCoarse_ended hh hl hs, if_pos hp]
    · rw [releaseDue_iff (show (d.task c t).relDue = true from hr) hk hd]
      rfl
    · obtain ⟨ax, ib, entry, n, hx⟩ := releaseCoarse_released hh hl hs hp
      obtain ⟨g1, g2, g0⟩ := fresh_g (d.task c t) (if (d.task c t).started then (d.sys.frame / 8 - (d.task c t).prevStart) &&& 0x1FFFFFFF else 0)
        d.sys.frame ax ib entry
      refine Eq.subst (motive := fun x' : Task => x'.st = .ready ∧ x'.count = 0 ∧ x'.mem = x.mem ∧ (x'.g 1).toNat = ticks ∧
        x'.g 2 = d.sys.frame ∧ (∀ r : Reg, 2 < r.toNat → x'.g r = 0) ∧ _) hx.symm ?_
      obtain ⟨hm, hc⟩ := fresh_mem (d.task c t) (if (d.task c t).started then (d.sys.frame / 8 - (d.task c t).prevStart) &&& 0x1FFFFFFF else 0)
        d.sys.frame 0 ax ib entry
      refine ⟨rfl, hc, hm, ?_, g2, g0, fun t' ht' => releaseCoarse_other hh hl hs hp ht'⟩
      · refine (congrArg BitVec.toNat g1).trans ?_
        dsimp only [ticks, x]
        split
        · exact ticks_toNat _ _
        · rfl
    · exact releaseCoarse_late hh hl hs

end Sys2Proof.Proofs
end

section
/-! SUPPORT. The timed events of a core (R40, R41, R47), posted writes and triggers (R47, R51). -/

namespace Sys2Proof.Proofs

open Sys2Proof.Machine Sys2Proof.Safety

section Timed

variable {s : State} {core : CoreId} {task : Fin 256} {trig : Fin 4}

/-- A timer trigger is due: in RUN, at a whole number of periods, once in its frame. -/
def timerDue (d : Dev) (c t trig period : Nat) : Bool :=
  let x := d.task c t
  x.used && d.scheduling c && decide (0 < d.sys.runFrames) && decide (0 < period) && decide (d.sys.runFrames % period = 0) && !x.due.contains (trig, d.sys.frame)

/-- A task's note that a timer trigger was queued in a frame. -/
def noteDue (x : Task) (trig : Nat) (f : Word) : Task := { x with due := (x.due.filter fun p => p.1 != trig) ++ [(trig, f)] }

def timerNoted (d : Dev) (c t trig : Nat) : Dev := d.setTask c t (noteDue (d.task c t) trig d.sys.frame)

theorem exec_periodicTimer {y : TaskDecl} {period : Nat} (hy : s.dev.decl core.val task.val = some y)
    (ht : y.triggers[trig.val]? = some (.timer period)) :
    exec (.periodicTimer core task trig) s = if timerDue s.dev core.val task.val trig.val period then
      .next { s with dev := (timerNoted s.dev core.val task.val trig.val).queueTrigger core.val task.val trig.val 0 }
    else .next s := by
  change execPeriodicTimer core task trig s = _
  simp only [execPeriodicTimer, hy, ht]
  rfl

/-- Without a timer that is due the command is ignored. -/
theorem periodicTimer_ignored (h : ∀ y period, s.dev.decl core.val task.val = some y → y.triggers[trig.val]? = some (.timer period) →
    timerDue s.dev core.val task.val trig.val period = false) : exec (.periodicTimer core task trig) s = .next s := by
  cases hy : s.dev.decl core.val task.val with
  | none =>
    change execPeriodicTimer core task trig s = _
    simp only [execPeriodicTimer, hy]
  | some y =>
    by_cases ht : ∃ period, y.triggers[trig.val]? = some (.timer period)
    · obtain ⟨period, ht⟩ := ht
      rw [exec_periodicTimer hy ht, h y period hy ht]
      rfl
    · change execPeriodicTimer core task trig s = _
      simp only [execPeriodicTimer, hy]
      split
      · next period hp => exact absurd ⟨period, hp⟩ ht
      · rfl

theorem exec_waitTimeExpiry {u : Word} (h : (s.dev.task core.val task.val).st = .waitTime u) :
    exec (.waitTimeExpiry core task) s = if (u - s.dev.sys.frame).toInt ≤ 0 && s.dev.scheduling core.val then
      .next { s with dev := ((s.dev.takeOrd core.val).setTask core.val task.val
        { s.dev.task core.val task.val with st := .ready, gate := true, ord := s.dev.nextOrd }).kick core.val } else .next s := by
  change execWaitTimeExpiry core task s = _
  unfold execWaitTimeExpiry
  dsimp only
  rw [h]

/-- The module at the end of a BACKGROUND turn, before the next choice. -/
def turnEnded (d : Dev) (c t : Nat) : Dev :=
  let e := (d.leave c t { d.task c t with st := .ready }).traceTask c t 3 0
  e.setCore c { e.core c with bgNext := t + 1 }

theorem exec_backgroundTurnEnd {t : Nat} (h : (s.dev.core core.val).cur = some t) :
    exec (.backgroundTurnEnd core) s = if (s.dev.task core.val t).kind == .background && 2500 ≤ (s.dev.core core.val).turn then
      .next { s with dev := (turnEnded s.dev core.val t).choose core.val } else .next s := by
  change execBackgroundTurnEnd core s = _
  simp only [execBackgroundTurnEnd, h]
  rfl

theorem core_turnEnded (d : Dev) (c t : Nat) :
    (turnEnded d c t).core c = { d.core c with
      tasks := smPut (d.core c).tasks t ({ d.task c t with st := .ready } : Task).noteMax, cur := none, bgNext := t + 1 } := by
  rw [turnEnded]
  dsimp only
  rw [core_setCore_self, ((Logs.refl _).traceTask c t 3 0).core, core_leave]

theorem task_turnEnded (d : Dev) (c t : Nat) : (turnEnded d c t).task c t = ({ d.task c t with st := .ready } : Task).noteMax := by
  rw [Dev.task, core_turnEnded]
  exact smGet_smPut_self ..

end Timed

/-- Settles O22: each timed event is one test and one change of its task. -/
theorem timedEvents : Obligations.TimedEvents := by
  intro s core task trig
  extract_lets d c k x
  intro hd
  refine ⟨fun u hu hle => ?_, fun y period hy ht hused hper hrun hmod hdue => ?_, fun t hcur hkind hturn => ?_, fun u hu hlt => ?_,
    fun hdue => ?_, fun y period hy ht h => ?_, fun hturn => ?_⟩
  · have hw : (decide ((u - s.dev.sys.frame).toInt ≤ 0) && s.dev.scheduling core.val) = true :=
      Bool.and_eq_true_iff.2 ⟨decide_eq_true hle, hd⟩
    refine ⟨_, (exec_waitTimeExpiry hu).trans (if_pos hw), ?_, ?_, ?_, rfl, rfl⟩
    · rw [task_setTask_self]
    · rw [task_setTask_self]
    · rw [Dev.setTask, core_setCore_self, Dev.takeOrd, core_setCore_self]
  · have hn : timerDue s.dev core.val task.val trig.val period = true := by
      simp only [timerDue, Bool.and_eq_true, decide_eq_true_eq, Bool.not_eq_true']
      exact ⟨⟨⟨⟨⟨hused, hd⟩, hrun⟩, hper⟩, hmod⟩, hdue⟩
    refine ⟨_, (exec_periodicTimer hy ht).trans (if_pos hn), ?_, ?_⟩
    · rw [timerNoted, task_setTask_self]
      simp only [noteDue, List.contains_eq_mem, decide_eq_true_eq, List.mem_append, List.mem_singleton]
      exact .inr rfl
    · rw [timerNoted, task_setTask_self]
      rfl
  · have hx : exec (.backgroundTurnEnd core) s = _ := exec_backgroundTurnEnd hcur
    refine ⟨_, hx.trans (if_pos ?_), ?_, ?_, ?_, ?_⟩
    · rw [show (s.dev.task core.val t).kind = .background from hkind]
      exact decide_eq_true hturn
    · rw [core_turnEnded]
    · rw [core_turnEnded]
    · rw [task_turnEnded]
      rfl
    · rw [task_turnEnded]
      rfl
  · exact (exec_waitTimeExpiry hu).trans (if_neg (by rw [Bool.and_eq_true, decide_eq_true_eq]; exact fun h => absurd h.1 (not_le.2 hlt)))
  · exact periodicTimer_ignored fun y period _ _ => by
      rw [timerDue, show (s.dev.task core.val task.val).due.contains (trig.val, s.dev.sys.frame) = true from hdue]
      exact Bool.and_false _
  · refine (exec_periodicTimer hy ht).trans (if_neg ?_)
    simp only [timerDue, Bool.and_eq_true, decide_eq_true_eq]
    exact fun ⟨⟨⟨⟨_, hr⟩, _⟩, hm⟩, _⟩ => h.elim (fun h => hr.ne' h) fun h => h hm
  · cases hcur : (s.dev.core core.val).cur with
    | none =>
      change execBackgroundTurnEnd core s = _
      simp only [execBackgroundTurnEnd, hcur]
    | some t =>
      refine (exec_backgroundTurnEnd hcur).trans (if_neg ?_)
      rw [Bool.and_eq_true, decide_eq_true_eq]
      exact fun h => absurd h.2 (not_le.2 hturn)

/-! ### Posted writes and triggers -/

/-- The module as an entry of a write buffer leaves for its home. -/
def leftBuffer (d : Dev) (c i : Nat) (p : Post) : Dev :=
  (d.setCore c { d.core c with wbuf := (d.core c).wbuf.eraseIdx i }).countStore p.sig

theorem countStore_logs (d : Dev) (n : Nat) : Logs d (d.countStore n) := .ite ((Logs.refl _).countEvent _ _ _) (.refl _)

theorem exec_postedWriteArrives {s : State} {core : CoreId} {entry : Fin 16} {p : Post} (h : (s.dev.core core.val).wbuf[entry.val]? = some p) :
    exec (.postedWriteArrives core entry) s =
      if ((s.dev.core core.val).wbuf.take entry.val).any fun q => q.task == p.task && q.home == p.home then .next s
      else .next { s with dev := (((leftBuffer s.dev core.val entry.val p).taskHome p.sig p.value p.valid core.val).releaseDue
        core.val p.task).kick core.val } := by
  change execPostedWriteArrives core entry s = _
  simp only [execPostedWriteArrives, Dev.arrive, h]
  rfl

theorem sheafReg_not_log {a c : Nat} (h : a = Adr.sfEvdrop c ∨ a = Adr.sfFlags c) : a ∉ logRegs := by
  unfold Adr.sfEvdrop Adr.sfFlags at h
  simp only [logRegs, List.mem_cons, List.not_mem_nil, or_false, Adr.recFlags, Adr.trcFlags, Adr.trcDrop]
  omega

section Trigger

variable {d : Dev} {c t : Nat} {y : TaskDecl} (hs : d.scheduling c = true) (hh : (d.task c t).halted = false) (hy : d.decl c t = some y)
include hs hh hy

theorem queueTrigger_full (idx sig : Nat) (hc : c < 16) (hf : y.depth ≤ (d.task c t).queue.length) :
    d.queueTrigger c t idx sig = ((d.incReg (Adr.sfEvdrop c)).orReg (Adr.sfFlags c) 8).eventRep 0xA005 (taskSubj c t) := by
  unfold Dev.queueTrigger
  simp only [hs, hh, hy, hc, ge_iff_le, hf, if_true]
  rfl

theorem queueTrigger_room (idx sig : Nat) (hf : (d.task c t).queue.length < y.depth) :
    d.queueTrigger c t idx sig = ((d.takeOrd c).setTask c t { d.task c t with queue := (d.task c t).queue ++
      [{ idx := idx, sig := wordOfNat sig, frame := d.sys.frame, ord := d.nextOrd }] }).kick c := by
  unfold Dev.queueTrigger
  simp only [hs, hh, hy, ge_iff_le, not_le.2 hf, if_false]
  rfl

end Trigger

/-- Settles O23: an entry that arrives leaves the buffer first, and a trigger is queued or dropped whole. -/
theorem postedWritesAndTriggers : Obligations.PostedWritesAndTriggers := by
  refine ⟨fun s core entry p => ?_, fun d c t idx sig y hc => ?_⟩
  · intro l hp waits
    have hx := exec_postedWriteArrives hp
    have hw : (((s.dev.core core.val).wbuf.take entry.val).any fun q => q.task == p.task && q.home == p.home) = true ↔ waits := by
      simp only [List.any_eq_true, Bool.and_eq_true, beq_iff_eq, waits, l]
    refine ⟨fun h => ⟨_, ?_, ?_, hx.trans (if_neg (mt hw.1 h))⟩, fun h => hx.trans (if_pos (hw.2 h))⟩
    · rw [leftBuffer, (countStore_logs _ _).core, core_setCore_self]
    · rw [leftBuffer, (countStore_logs _ _).sigs]
      rfl
  · intro x hs hh hy
    refine ⟨fun hf => ?_, fun hr => ⟨_, queueTrigger_room hs hh hy idx sig hr,
      { idx := idx, sig := wordOfNat sig, frame := d.sys.frame, ord := d.nextOrd }, ?_, rfl, rfl, rfl⟩⟩
    · intro d'
      have hd : d' = _ := queueTrigger_full hs hh hy idx sig hc hf
      have hl : Logs ((d.incReg (Adr.sfEvdrop c)).orReg (Adr.sfFlags c) 8) d' := hd ▸ (Logs.refl _).eventRep _ _ _
      refine ⟨hl.task c t, ?_, ?_⟩
      · have ha : Adr.sfEvdrop c ≠ Adr.sfFlags c := by unfold Adr.sfEvdrop Adr.sfFlags; omega
        rw [hl.reg _ (sheafReg_not_log (Or.inl rfl)), reg_orReg_other _ _ ha, reg_incReg_self]
      · rw [hl.reg _ (sheafReg_not_log (Or.inr rfl)), reg_orReg_self]
        simp
    · rw [task_setTask_self]

end Sys2Proof.Proofs
end

section
/-! SUPPORT. Registers with actions (R58) over every module, a module with a task table that lists a task twice among them. -/

namespace Sys2Proof.Proofs

open Sys2Proof.Machine Sys2Proof.Safety

/-- An image of one door without axes, whose one EVENT task starts at a write of its block's signal. -/
def selfTriggered : Image :=
  { (default : Image) with
    doorTypes := [⟨[], [], [⟨.event, 0, 100, 0, [], 0, [.write 0x88000], 1, []⟩], 1, [], []⟩]
    doors := [⟨0, [], 0⟩] }

/-- A module in RUN whose sheaf 0 has a restart request waiting, and whose task table lists the halted task a second time, ready. -/
def restarting : Dev :=
  { sys := { power := .run }
    image := some selfTriggered
    cores := [(0, { tasks := [(0, { used := true, halted := true }), (0, { used := true, kind := .background, st := .ready })] })]
    halted := [(0, 1)]
    rstReq := [(0, (0xA5000000, 1))]
    placer := { doors := [(0, ⟨0, 0, [], [0], false, false, 0, 0, 0, 0⟩)] } }

/-- The restart leaves the task free for its core, which has taken the second entry. -/
theorem restarting_held : (({ restarting with rstReq := smDel restarting.rstReq 0 } : Dev).restartCheck 0 0xA5000000 |>.task 0 0).held = false := by
  decide +kernel

/-- Refutes O24: a restarted task that its table lists twice is not held.  The restart writes the entry that is found first, its own first
write of the door's signal triggers a choice, and the choice takes the second entry, which is ready, and puts it back as the task. -/
theorem not_actionRegisters : ¬Obligations.ActionRegisters := by
  rintro ⟨-, h, -⟩
  obtain ⟨-, h⟩ := h { dev := restarting, pending := [] } 0 selfTriggered 0xA5000000 1 rfl (by decide) (by decide)
  obtain ⟨-, -, -, -, h⟩ := h (by decide)
  obtain ⟨-, h⟩ := h 0 (by decide) (by decide) (by decide) (by decide)
  obtain ⟨s', hx, -, -, -, h⟩ := h ⟨0, 0, [], [0], false, false, 0, 0, 0, 0⟩ (by decide) rfl (by decide)
  obtain ⟨-, -, -, hheld, -⟩ := h (by decide) (by decide) 0 ⟨.event, 0, 100, 0, [], 0, [.write 0x88000], 1, []⟩ 0 (by decide) (by decide)
  have he : exec (.restartCheck 0) { dev := restarting, pending := [] } = .next { dev :=
      ({ restarting with rstReq := smDel restarting.rstReq 0 } : Dev).restartCheck 0 0xA5000000, pending := [] } := rfl
  obtain rfl := Host.Outcome.next.inj (he.symm.trans hx)
  exact absurd (restarting_held.symm.trans hheld) nofun

end Sys2Proof.Proofs
end

section
/-! SUPPORT. Migration (R113–R119): the check of a commanded one, the copy frame, and the switch. -/

namespace Sys2Proof.Proofs

open Sys2Proof.Machine Sys2Proof.Safety

/-! ### The refusal of a commanded migration -/

section Code

variable {d : Dev} {v : Word} {im : Image}

theorem migrationCode_ne (h : d.placer.mig ≠ none) : d.migrationCode v ≠ 0 := by
  have hs : d.placer.mig.isSome = true := Option.isSome_iff_ne_none.2 h
  unfold Dev.migrationCode
  dsimp only
  rw [hs]
  split
  · refine ite_ne (by decide) (ite_ne (by decide) (ite_ne (by decide) (ite_ne (by decide) ?_)))
    rw [if_pos rfl]
    decide
  · exact ite_ne (by decide) (by decide)

theorem ite_eq_zero {p : Prop} [Decidable p] {a b : Nat} (ha : a ≠ 0) (h : (if p then a else b) = 0) : ¬p ∧ b = 0 := by
  split at h
  · exact absurd h ha
  · next hp => exact ⟨hp, h⟩

/-- A request that is taken up passes every check. -/
theorem migrationCode_zero (hi : d.image = some im) (h : d.migrationCode v = 0) :
    d.sys.power = .run ∧ d.sys.leaving = false ∧ d.placer.mig = none ∧ d.mayMove im (v.toNat % 512) = true := by
  unfold Dev.migrationCode at h
  rw [hi] at h
  dsimp only at h
  split at h
  · next im' y hm hy =>
    obtain rfl := Option.some.inj hm
    obtain ⟨-, h⟩ := ite_eq_zero (by decide) h
    obtain ⟨-, h⟩ := ite_eq_zero (by decide) h
    obtain ⟨-, h⟩ := ite_eq_zero (by decide) h
    obtain ⟨h1, h⟩ := ite_eq_zero (by decide) h
    obtain ⟨h2, -⟩ := ite_eq_zero (by decide) h
    simp only [Bool.or_eq_true, bne_iff_ne, Bool.not_eq_true', not_or, not_not, Bool.not_eq_true, Bool.not_eq_false] at h1
    exact ⟨h1.1.1.1, h1.1.1.2, by simpa using h2, h1.2⟩
  · exact absurd (ite_eq_zero (by decide) h).2 (by decide)

end Code

/-! ### The copy frame -/

section Copy

variable {s : State} {m : Mig} {im : Image}

theorem exec_migrationPreparationEnd (hm : s.dev.placer.mig = some m) :
    exec .migrationPreparationEnd s = if m.phase = .preparing then
      .next { s with dev := { s.dev with placer := { s.dev.placer with mig := some { m with phase := .ready, readyFrame := s.dev.sys.frame } } } }
    else .next s := by
  change execMigrationPreparationEnd s = _
  simp only [execMigrationPreparationEnd, hm, beq_iff_eq]
  rfl

/-- The spacing of R113. -/
def spacedOut (d : Dev) : Bool := match d.placer.lastSwitch with
  | some f => decide (64 ≤ (d.sys.frame - f).toNat)
  | none => true

theorem spacedOut_iff (d : Dev) : spacedOut d = true ↔ ∀ f, d.placer.lastSwitch = some f → 64 ≤ (d.sys.frame - f).toNat := by
  unfold spacedOut
  cases d.placer.lastSwitch <;> simp

theorem exec_migrationCopyFrame {y : DoorPl} (hm : s.dev.placer.mig = some m) (hi : s.dev.image = some im) (hy : s.dev.doorPl m.door = some y) :
    exec .migrationCopyFrame s =
      if m.phase == .ready && s.dev.sys.frame != m.readyFrame && decide ((s.dev.core y.sheaf).div = 1) && spacedOut s.dev &&
        s.dev.sys.power == .run && !s.dev.sys.leaving && s.dev.mayMove im m.door then
        .next { s with dev := s.dev.modPlacer fun p =>
          { p with mig := some { m with phase := .copying, copyFrame := s.dev.sys.frame, dRose := decide (s.dev.sys.div ≠ 1) } } }
      else .next s := by
  change execMigrationCopyFrame s = _
  simp only [execMigrationCopyFrame, hm, hi, hy]
  rfl

end Copy

/-! ### The switch -/

section Switch

variable {d e : Dev} {im : Image} {m : Mig} {y : DoorPl} {code : Nat} {crc : Word}

/-- What a migration that ends leaves behind: its code, the spacing and one of the counts. -/
structure Ended (d : Dev) (m : Mig) (code : Nat) (f : Dev) : Prop where
  mig : f.placer.mig = none
  spacing : f.placer.lastSwitch = some d.sys.frame
  coded : f.placer.migCode = code
  cmd : f.placer.migCmd = m.cmd
  count : ∀ a, a = (if code = 0x9020 then Adr.plcMigcnt else Adr.plcMigfail) → f.reg a = satInc (d.reg a)

theorem fixedReg_plc {a : Nat} (h : a = Adr.plcMigcnt ∨ a = Adr.plcMigfail) : fixedReg a := by
  unfold Adr.plcMigcnt Adr.plcMigfail at h
  refine ⟨fun hm => ?_, fun c hc => by unfold Adr.sfEvdrop Adr.sfFlags; omega⟩
  simp only [logRegs, List.mem_cons, List.not_mem_nil, or_false, Adr.recFlags, Adr.trcFlags, Adr.trcDrop] at hm
  omega

theorem closeMigration_ended (d : Dev) (m : Mig) (src code : Nat) : Ended d m code (d.closeMigration m src code) := by
  refine ⟨rfl, rfl, rfl, rfl, fun a ha => ?_⟩
  rw [ha]
  exact reg_incReg_self ..

/-- The record comes before, and the choices of the two cores after. -/
theorem Ended.framed {f g : Dev} (h : Ended e m code f) (hs : e.sys.frame = d.sys.frame)
    (hr : ∀ a, a = (if code = 0x9020 then Adr.plcMigcnt else Adr.plcMigfail) → e.reg a = d.reg a)
    (hc : Sched (fun _ => True) f g) : Ended d m code g := by
  have hp : { g.placer with doors := [] } = { f.placer with doors := [] } := hc.placer
  have hf {α : Type} (p : Placer → α) (hp' : ∀ q : Placer, p { q with doors := [] } = p q) : p g.placer = p f.placer := by
    rw [← hp' g.placer, hp, hp']
  refine ⟨(hf Placer.mig fun _ => rfl).trans h.mig, (hf Placer.lastSwitch fun _ => rfl).trans (h.spacing.trans (by rw [hs])),
    (hf Placer.migCode fun _ => rfl).trans h.coded, (hf Placer.migCmd fun _ => rfl).trans h.cmd, fun a ha => ?_⟩
  have ha' : fixedReg a := fixedReg_plc (by rw [ha]; exact ite_eq_or_eq _ _ _)
  rw [hc.reg a ha', h.count a ha, hr a ha]

/-- After the choices the door stands where it stood, or where it has moved. -/
theorem closeMigration_door {f : Dev} (hl : Logs d e) {n : Nat} {z : Option DoorPl} (hz : d.doorPl m.door = z) 
    (hc : Sched (fun _ => True) (e.closeMigration m n code) f) : ∃ n, f.doorPl m.door = z.map (spent n) := by
  obtain ⟨k, hk⟩ := hc.door m.door
  refine ⟨k, hk.trans (congrArg _ ?_)⟩
  rw [← hz]
  show e.doorPl m.door = _
  rw [Dev.doorPl, hl.placer]
  rfl

theorem choices_sched (d : Dev) (a b : Nat) : Sched (fun _ => True) d ((d.choose a).choose b) := ((Sched.refl d).choose trivial).choose trivial

theorem abortMigration_ended (d : Dev) (im : Image) (m : Mig) (y : DoorPl) (code : Nat) (crc : Word) (a b : Nat) :
    let f := ((d.abortMigration im m y code crc).choose a).choose b
    Ended d m code f ∧ ∃ n, f.doorPl m.door = (d.doorPl m.door).map (spent n) := by
  have hl : Logs d (d.migrationRecord im m y code crc) := (Logs.refl d).event _ _ _
  refine ⟨(closeMigration_ended _ m y.sheaf code).framed (by rw [hl.sys]) (fun a ha => hl.reg a ?_) (choices_sched _ a b),
    closeMigration_door hl rfl (choices_sched _ a b)⟩
  exact (fixedReg_plc (by rw [ha]; exact ite_eq_or_eq _ _ _)).1

theorem moveTasks_frame (l : List (Nat × Nat)) (src dst inst : Nat) (d : Dev) :
    (l.foldl (fun d p => d.moveTask src p.1 dst p.2 inst) d).sys = d.sys ∧
      (l.foldl (fun d p => d.moveTask src p.1 dst p.2 inst) d).regs = d.regs := by
  induction l generalizing d with
  | nil => exact ⟨rfl, rfl⟩
  | cons p l ih => exact ih _

theorem showDoor_stored (d : Dev) (im : Image) (x : Nat) (y : DoorPl) (migs : Nat) (frame : Word) : Stored d (d.showDoor im x y migs frame) :=
  Stored.foldl (fun _ _ h => ((((h.devNat _ _).devNat _ _).devNat _ _).devNat _ _).devSig _ _ _ _) (.refl d)

/-- The placement of a door that switches. -/
def moved (m : Mig) (y : DoorPl) : DoorPl :=
  { y with sheaf := m.target, inst := m.inst, lanes := m.lanes, tasks := m.tasks, migs := satNat 0xFFFFFFFF (y.migs + 1) }

/-- The switch before the slots of the axes are shown again. -/
def switched (d : Dev) (im : Image) (m : Mig) (y : DoorPl) : Dev :=
  (y.tasks.zip m.tasks |>.foldl (fun d p => d.moveTask y.sheaf p.1 m.target p.2 m.inst) d).modPlacer fun p =>
    { p with doors := smPut p.doors m.door (moved m y),
             homes := p.homes.map fun h => if (d.doorTier0 im m.door).contains h.1 then (h.1, { h.2 with sheaf := m.target }) else h }

theorem switchDoor_stored (d : Dev) (im : Image) (m : Mig) (y : DoorPl) : ∃ f v w, Stored (switched d im m y) f ∧
    d.switchDoor im m y = (f.setReg Adr.plcLastmig v).setReg Adr.plcLastfrm w :=
  ⟨_, _, _, showDoor_stored _ im m.door (moved m y) (moved m y).migs _, rfl⟩

theorem switched_sys (d : Dev) (im : Image) (m : Mig) (y : DoorPl) : (switched d im m y).sys = d.sys :=
  (moveTasks_frame (y.tasks.zip m.tasks) y.sheaf m.target m.inst d).1

theorem switched_reg (d : Dev) (im : Image) (m : Mig) (y : DoorPl) (a : Nat) : (switched d im m y).reg a = d.reg a := by
  unfold Dev.reg
  rw [show (switched d im m y).regs = d.regs from (moveTasks_frame (y.tasks.zip m.tasks) y.sheaf m.target m.inst d).2]

theorem switched_door (d : Dev) (im : Image) (m : Mig) (y : DoorPl) : (switched d im m y).doorPl m.door = some (moved m y) := by
  unfold Dev.doorPl
  dsimp only [switched, Dev.modPlacer]
  rw [find_smPut_self]

theorem switchDoor_frame (d : Dev) (im : Image) (m : Mig) (y : DoorPl) :
    (d.switchDoor im m y).sys = d.sys ∧ (∀ a, a = Adr.plcMigcnt → (d.switchDoor im m y).reg a = d.reg a) ∧
      ∃ n, (d.switchDoor im m y).doorPl m.door = some (spent n (moved m y)) := by
  obtain ⟨f, v, w, hf, he⟩ := switchDoor_stored d im m y
  rw [he]
  refine ⟨hf.sys.trans (switched_sys d im m y), fun a ha => ?_, ?_⟩
  · rw [reg_setReg_other _ _ (by rw [ha]; decide), reg_setReg_other _ _ (by rw [ha]; decide), hf.reg a (fixedReg_plc (.inl ha)), switched_reg]
  · obtain ⟨n, hn⟩ := hf.door m.door
    exact ⟨n, hn.trans (by rw [switched_door]; rfl)⟩

theorem switchMigration_ended (d : Dev) (im : Image) (m : Mig) (y : DoorPl) (crc : Word) (a b : Nat) :
    let f := ((((d.switchDoor im m y).migrationRecord im m y 0x9020 crc).closeMigration m y.sheaf 0x9020).choose a).choose b
    Ended d m 0x9020 f ∧ ∃ n, f.doorPl m.door = some (spent n (moved m y)) := by
  obtain ⟨hs, hr, k, hk⟩ := switchDoor_frame d im m y
  have hl : Logs (d.switchDoor im m y) ((d.switchDoor im m y).migrationRecord im m y 0x9020 crc) := (Logs.refl _).event _ _ _
  obtain ⟨n, hn⟩ := closeMigration_door hl hk (choices_sched _ a b)
  refine ⟨(closeMigration_ended _ m y.sheaf 0x9020).framed (by rw [hl.sys, hs]) (fun a ha => ?_) (choices_sched _ a b), n, hn⟩
  rw [hl.reg a (fixedReg_plc (.inl ha)).1, hr a ha]

/-- The code of a switch, of several causes the first. -/
def switchCode (d : Dev) (agree : Bool) (m : Mig) (im : Image) (y : DoorPl) : Nat :=
  if !agree then 0x9021 else if m.dRose then 0x9022
    else if m.broken || d.doorHalted y || (im.doorAxes m.door).any d.portLost || d.sys.power != .run || d.sys.leaving then 0x9024 else 0x9020

theorem exec_migrationSwitch {s : State} (agree : Bool) (hm : s.dev.placer.mig = some m) (hi : s.dev.image = some im)
    (hy : s.dev.doorPl m.door = some y) (hp : m.phase = .copying) (hf : s.dev.sys.frame = m.copyFrame + 1) :
    exec (.migrationSwitch agree) s =
      let d : Dev := { s.dev with sys := { s.dev.sys with free := s.dev.sys.free + 1 } }
      let crc := Config.migrationCrc s.dev.sys.free
      let code := switchCode d agree m im y
      .next { s with dev := ((if code = 0x9020 then ((d.switchDoor im m y).migrationRecord im m y code crc).closeMigration m y.sheaf code
        else d.abortMigration im m y code crc).choose y.sheaf).choose m.target } := by
  change execMigrationSwitch agree s = _
  unfold execMigrationSwitch
  dsimp only
  split
  · next m' im' hm' hi' =>
    obtain rfl := Option.some.inj (hm.symm.trans hm')
    obtain rfl := Option.some.inj (hi.symm.trans hi')
    rw [hy]
    dsimp only
    rw [if_pos (by rw [hp, hf, Bool.and_eq_true]; exact ⟨rfl, beq_self_eq_true _⟩)]
    rfl
  · next h => exact absurd hi (h _ _ hm)

end Switch

/-- Settles O25: each phase is one test, and after a switch or an abort the cores choose, which leaves the placer but its counts of cycles. -/
theorem migration : Obligations.Migration := by
  refine ⟨fun s m im hm hi => ?_, fun s agree m im y => ?_⟩
  · intro d becomes spaced may
    refine ⟨fun v => migrationCode_ne (by rw [hm]; nofun), fun d1 v hi hv => migrationCode_zero hi hv, fun hp => ?_, fun hp => ?_, fun y hy => ?_⟩
    · exact (exec_migrationPreparationEnd hm).trans (if_pos hp)
    · exact (exec_migrationPreparationEnd hm).trans (if_neg hp)
    · have hx := exec_migrationCopyFrame hm hi hy
      have hb : (m.phase == .ready && s.dev.sys.frame != m.readyFrame && decide ((s.dev.core y.sheaf).div = 1) && spacedOut s.dev &&
          s.dev.sys.power == .run && !s.dev.sys.leaving && s.dev.mayMove im m.door) = true ↔ may ∧ (d.core y.sheaf).div = 1 := by
        simp only [Bool.and_eq_true, beq_iff_eq, bne_iff_ne, decide_eq_true_eq, spacedOut_iff, Bool.not_eq_true', may, d, spaced]
        tauto
      refine ⟨fun h h1 => hx.trans (if_pos (hb.2 ⟨h, h1⟩)), fun h => hx.trans (if_neg (mt hb.1 ?_))⟩
      tauto
  · intro d hm hi hy hp hf lost kept ends
    have hx := exec_migrationSwitch agree hm hi hy hp hf
    let d0 : Dev := { s.dev with sys := { s.dev.sys with free := s.dev.sys.free + 1 } }
    have hl : (m.broken || d0.doorHalted y || (im.doorAxes m.door).any d0.portLost || d0.sys.power != .run || d0.sys.leaving) = true ↔ lost := by
      simp only [Bool.or_eq_true, List.any_eq_true, bne_iff_ne, or_assoc]
      exact Iff.rfl
    have habort {code : Nat} (hc : switchCode d0 agree m im y = code) (hne : code ≠ 0x9020) :
        Answers (.migrationSwitch agree) s fun d' => ends code d' ∧ kept d' ∧ d'.reg Adr.plcMigfail = satInc (d.reg Adr.plcMigfail) := by
      obtain ⟨he, n, hn⟩ := abortMigration_ended d0 im m y code (Config.migrationCrc s.dev.sys.free) y.sheaf m.target
      refine answers_next (e := ((d0.abortMigration im m y code (Config.migrationCrc s.dev.sys.free)).choose y.sheaf).choose m.target)
        (hx.trans ?_) ⟨⟨he.mig, he.spacing, he.coded, he.cmd⟩, ⟨spent n y, ?_, rfl⟩, he.count _ (if_neg hne).symm⟩
      · dsimp only
        rw [show switchCode _ agree m im y = code from hc, if_neg hne]
      · rw [hn, show d0.doorPl m.door = some y from hy]
        rfl
    refine ⟨fun ha hr hlost => ?_, fun ha => habort ?_ (by decide), fun ha hr => habort ?_ (by decide), fun ha hr hlost => habort ?_ (by decide)⟩
    · have hc : switchCode d0 agree m im y = 0x9020 := by
        rw [switchCode, ha, hr]
        exact if_neg (mt hl.1 hlost)
      obtain ⟨h1, n, hn⟩ := switchMigration_ended d0 im m y (Config.migrationCrc s.dev.sys.free) y.sheaf m.target
      refine answers_next (hx.trans ?_) ⟨⟨h1.mig, h1.spacing, h1.coded, h1.cmd⟩, ⟨_, hn, rfl, rfl, rfl, rfl⟩, h1.count _ rfl⟩
      dsimp only
      rw [show switchCode _ agree m im y = 0x9020 from hc, if_pos rfl]
    · rw [switchCode, ha]; rfl
    · rw [switchCode, ha, hr]; rfl
    · rw [switchCode, ha, hr]
      exact if_pos (hl.2 hlost)

end Sys2Proof.Proofs
end

section
/-! SUPPORT. The end of a move, the hold amplitude and the release of a safety hold (R130, R148, R233). -/

namespace Sys2Proof.Proofs

open Sys2Proof.Machine Sys2Proof.Safety

/-- The motion of every axis, every port and the pair unit are kept. -/
structure Moves (d e : Dev) : Prop where
  motion : ∀ k, (e.axis k).motion = (d.axis k).motion
  ports : e.ports = d.ports
  pair : e.pair = d.pair

section Moves

variable {d e f : Dev}

theorem Moves.refl (d : Dev) : Moves d d := ⟨fun _ => rfl, rfl, rfl⟩

theorem Moves.trans (h : Moves d e) (g : Moves e f) : Moves d f := ⟨fun k => (g.motion k).trans (h.motion k), g.ports.trans h.ports, g.pair.trans h.pair⟩

theorem Moves.stored (h : Moves d e) (g : Stored e f) : Moves d f := h.trans ⟨fun k => by rw [g.axis], g.ports, g.pair⟩

theorem Moves.logs (h : Moves d e) (g : Logs e f) : Moves d f := h.trans ⟨fun k => by rw [g.axis], g.ports, g.pair⟩

theorem Moves.ite {p : Prop} [Decidable p] (h : Moves d e) (g : Moves d f) : Moves d (if p then e else f) := by
  split
  · exact h
  · exact g

theorem Moves.foldl {α : Type} {l : List α} {f : Dev → α → Dev} (hf : ∀ e a, Moves d e → Moves d (f e a)) (h : Moves d e) :
    Moves d (l.foldl f e) := by
  induction l generalizing e with
  | nil => exact h
  | cons a l ih => exact ih (hf e a h)

theorem Moves.setAxis (h : Moves d e) (n : Nat) {a : Axis} (ha : a.motion = (e.axis n).motion) : Moves d (e.setAxis n a) := by
  refine h.trans ⟨fun k => ?_, rfl, rfl⟩
  by_cases hk : k = n
  · rw [hk, axis_setAxis_self, ha]
  · rw [axis_setAxis_other _ _ hk]

theorem Moves.modCycle (h : Moves d e) (n : Nat) (f : AxCycle → AxCycle) : Moves d (e.modCycle n f) := h.setAxis n rfl

theorem Moves.requestLifetime (h : Moves d e) (n : Nat) : Moves d (e.requestLifetime n) := .ite h (h.trans ⟨fun _ => rfl, rfl, rfl⟩)

theorem Moves.learnMove (h : Moves d e) (n : Nat) (m : MoveRun) : Moves d (e.learnMove n m) := by
  unfold Dev.learnMove
  extract_lets p76 a old x lim score writes y src d1 d2
  have h1 : Moves d d1 := h.setAxis n rfl
  clear_value d1
  have h2 : Moves d d2 := .ite (h1.logs ((Logs.refl _).event _ _ _)) h1
  clear_value d2
  exact .ite (h2.logs ((Logs.refl _).putRecord _ _ _ _ _)) h2

theorem Moves.closeBooks (h : Moves d e) (door : Nat) (frame : Word) : Moves d (e.closeBooks door frame) := by
  unfold Dev.closeBooks
  extract_lets c axes d1 drift n0 flags payload
  have h1 : Moves d d1 := h.foldl fun _ n g => .ite ((g.modCycle n _).requestLifetime n) g
  clear_value d1 payload
  refine Moves.logs (h1.trans ?_) ((Logs.refl _).putRecord _ _ _ _ _)
  exact ⟨fun _ => rfl, rfl, rfl⟩

theorem Stored.devChange (h : Stored d e) (n : Nat) (v : Word) : Stored d (e.devChange n v) := .ite h (h.devSig _ _ _ _)

theorem Stored.cycleSlots (h : Stored d e) (n : Nat) : Stored d (e.cycleSlots n) := by
  unfold Dev.cycleSlots
  exact h.foldl fun _ _ g => g.devChange _ _

end Moves

/-! ### The end of a move -/

section EndMove

variable (d : Dev) (n : Nat)

/-- The motion of an axis whose move is closed. -/
def moveClosed (m : Motion) : Motion := { m with st := if m.st == .move then .stand else m.st, attarget := true, atEnd := false }

theorem endMove_moves : Moves (d.setAxis n { d.axis n with motion := moveClosed (d.axis n).motion }) (d.endMove n) := by
  unfold Dev.endMove
  extract_lets a src d1 d2 d3
  have h1 : Moves (d.setAxis n { d.axis n with motion := moveClosed (d.axis n).motion }) d1 := .refl _
  clear_value d1
  have h2 : Moves (d.setAxis n { d.axis n with motion := moveClosed (d.axis n).motion }) d2 := by
    dsimp only [d2]
    split
    · exact .ite (h1.learnMove n _) h1
    · exact h1
  clear_value d2
  have h3 : Moves (d.setAxis n { d.axis n with motion := moveClosed (d.axis n).motion }) d3 := by
    dsimp only [d3]
    split
    · split
      · exact .ite h2 (h2.closeBooks _ _)
      · exact h2
    · exact h2
  exact h3.stored ((Stored.refl d3).cycleSlots n)

theorem endMove_motion : ((d.endMove n).axis n).motion = moveClosed (d.axis n).motion := by
  rw [(endMove_moves d n).motion, axis_setAxis_self]

theorem endMove_motion_other {k : Nat} (hk : k ≠ n) : ((d.endMove n).axis k).motion = (d.axis k).motion := by
  rw [(endMove_moves d n).motion, axis_setAxis_other _ _ hk]

theorem closeMove_motion (a : Axis) (r : Bool) : (a.closeMove r).motion = a.motion := by
  unfold Axis.closeMove
  split <;> rfl

/-- The motion of an axis that has reached its target. -/
def arrived (m : Motion) (r tau : Nat) : Motion :=
  { (({ m with stretch := r, tau := tau }.atX m.target).toStand : Motion) with attarget := true, atEnd := true }

/-- An unstretched move whose profile time reaches the end is at its target. -/
theorem advanceMove_arrived {segs : List Segment} (hp : d.profile (d.axis n).motion.profile = some segs)
    (hs : (d.axis n).motion.stretch = 2 ^ 32) (ht : (d.axis n).motion.stretchTo = 2 ^ 32)
    (he : profEnd segs ≤ (d.axis n).motion.tau + 2 ^ 32) :
    ∃ r tau, ((d.advanceMove n).axis n).motion = arrived (d.axis n).motion r tau := by
  unfold Dev.advanceMove
  extract_lets m0 acap
  split
  · next h => exact absurd (h.symm.trans hp) nofun
  next segs' h =>
  obtain rfl : segs = segs' := Option.some.inj (hp.symm.trans h)
  extract_lets ps step r tau m m1 d1
  have hr : r = 2 ^ 32 := by
    dsimp only [r]
    rw [show m0.stretch = 2 ^ 32 from hs, show m0.stretchTo = 2 ^ 32 from ht, if_neg (lt_irrefl _)]
    exact max_eq_right (Nat.sub_le _ _)
  have htau : profEnd segs ≤ tau := by
    dsimp only [tau]
    rw [hr]
    exact he
  refine ⟨r, tau, ?_⟩
  rw [if_pos (by rw [Bool.or_eq_true, decide_eq_true htau]; exact .inr rfl), axis_setAxis_self, closeMove_motion]
  dsimp only [d1]
  unfold Dev.modMotion
  rw [axis_setAxis_self]
  rfl

end EndMove

/-! ### The release of a safety hold -/

theorem Stored.islandChange {d e : Dev} (h : Stored d e) (n : Nat) (v : Word) : Stored d (e.islandChange n v) :=
  .ite h (.ite (h.sigStore _ _ _ _ _) h)

theorem Stored.showSafe {d e : Dev} (h : Stored d e) (n : Nat) : Stored d (e.showSafe n) := (h.islandChange _ _).islandChange _ _

/-- A monitor that is clear again. -/
def cleared (x : AxSafe) : AxSafe :=
  { x with
    st := .clear, slp := false, inReturn := false, zeroFrames := 0, offFrames := 0, stopAt := none, stopV0 := none, active := []
    slsN := 0, sdiN := 0, sdiNB := 0, divN := 0, floorN := 0 }

theorem Stored.safe {d e : Dev} (h : Stored d e) (n : Nat) : e.safe n = d.safe n := by rw [Dev.safe, h.island]; rfl

theorem clearSafe_stored (d : Dev) (n : Nat) : Stored (d.setSafe n (cleared (d.safe n))) (d.clearSafe n) :=
  (Stored.refl (d.setSafe n (cleared (d.safe n)))).showSafe n

theorem clearSafe_cleared (d : Dev) (n : Nat) :
    ((d.clearSafe n).safe n).st = .clear ∧ (∀ k, k ≠ n → (d.clearSafe n).safe k = d.safe k) ∧ (d.clearSafe n).axes = d.axes := by
  have h := clearSafe_stored d n
  exact ⟨by rw [h.safe, safe_setSafe_self]; rfl, fun k hk => by rw [h.safe, safe_setSafe_other _ _ hk], h.axes⟩

theorem moveClosed_eq (m : Motion) : moveClosed m = { m with st := if m.st = .move then .stand else m.st, attarget := true, atEnd := false } := by
  unfold moveClosed
  simp only [beq_iff_eq]

/-- A hold of the axis gives the amplitude of parameter 132, bits 23 to 16, in every mode that drives. -/
theorem holding_amplitude (d : Dev) (n : Nat) {mode : Nat} (h0 : mode ≠ 0) (h3 : mode ≠ 3) :
    (d.modMotion n fun m => { m with hold := true }).amplitude n mode = fld (d.par n 132) 16 8 := by
  unfold Dev.amplitude
  rw [if_neg (not_or.2 ⟨h0, h3⟩), Dev.modMotion, axis_setAxis_self]
  rfl

/-- Settles O26: the books of a move that ends keep every motion, and the island's signals keep its monitors. -/
theorem motionEvents : Obligations.MotionEvents := by
  intro s axis
  extract_lets d n m m1 e1
  have he : exec (.moveEnd axis) s = if m.atEnd then .next { s with dev := s.dev.endMove axis.val } else .next s := rfl
  have hh : exec (.holdAmplitude axis) s = if m.st == .stand && fld (d.par n 133) 0 16 ≤ m.standFrames then
    .next { s with dev := d.modMotion n fun m => { m with hold := true } } else .next s := rfl
  have hr : exec (.safetyHoldRelease axis) s = if (d.safe n).st == .held && 16 ≤ (d.safe n).zeroFrames then
    .next { s with dev := d.clearSafe n } else .next s := rfl
  refine ⟨fun segs hp hs ht hend => ?_, fun h => ?_, fun h => ?_, fun hst hf => ?_, fun h mode h0 h3 => ?_, fun h => ?_, fun hst hz => ?_, fun h => ?_⟩
  · obtain ⟨r, tau, hm⟩ := advanceMove_arrived d n hp hs ht hend
    rw [show m1 = _ from hm]
    exact ⟨rfl, rfl, rfl, rfl, rfl, rfl⟩
  · exact answers_next (he.trans (if_pos h)) ⟨by rw [endMove_motion, moveClosed_eq], fun k hk => endMove_motion_other d n hk, (endMove_moves d n).ports⟩
  · exact he.trans (if_neg (by rw [h]; nofun))
  · exact ⟨hh.trans (if_pos (by rw [hst]; exact decide_eq_true hf)), fun mode h0 h3 => holding_amplitude d n h0 h3⟩
  · unfold Dev.amplitude
    rw [if_neg (not_or.2 ⟨h0, h3⟩), show (d.axis n).motion.hold = false from h]
    rfl
  · refine hh.trans (if_neg ?_)
    rw [Bool.and_eq_true, beq_iff_eq, decide_eq_true_eq]
    exact fun h' => h.elim (fun h => h h'.1) fun h => absurd h'.2 (not_le.2 h)
  · exact answers_next (hr.trans (if_pos (by rw [hst]; exact decide_eq_true hz))) (clearSafe_cleared d n)
  · refine hr.trans (if_neg ?_)
    rw [Bool.and_eq_true, beq_iff_eq, decide_eq_true_eq]
    exact fun h' => h.elim (fun h => h h'.1) fun h => absurd h'.2 (not_le.2 h)

end Sys2Proof.Proofs
end

section
/-! SUPPORT. Losses on the axis stream (R217–R219): axes that enter OFF, and what a loss shows. -/

namespace Sys2Proof.Proofs

open Sys2Proof.Machine Sys2Proof.Safety

/-! ### Axes that enter OFF -/

section Off

variable (d : Dev) (n : Nat)

/-- OFF, or not configured. -/
def atRest (a : Axis) : Prop := a.motion.st = .off ∨ a.motion.st = .noconf

theorem atRest_enterOff (a : Axis) : atRest a.enterOff := by
  unfold Axis.enterOff
  dsimp only
  split
  · next h =>
    rw [Bool.or_eq_true, beq_iff_eq, beq_iff_eq] at h
    exact h.symm
  · exact .inl rfl

theorem axis_axisOff_self : (d.axisOff n).axis n = (d.axis n).enterOff := axis_setAxis_self ..

theorem axis_axisOff_other {k : Nat} (h : k ≠ n) : (d.axisOff n).axis k = d.axis k := axis_setAxis_other _ _ h

theorem parked_axisOff {k : Nat} (h : k = n ∨ parked d k) : parked (d.axisOff n) k := by
  by_cases hk : k = n
  · subst hk
    unfold parked
    rw [axis_axisOff_self]
    exact atRest_enterOff _
  · unfold parked
    rw [axis_axisOff_other _ _ hk]
    exact h.resolve_left hk

/-- Axes enter OFF one by one: they alone change. -/
theorem axesOff (l : List Nat) :
    (∃ ax, l.foldl (fun d n => d.axisOff n) d = { d with axes := ax }) ∧ (∀ n ∈ l, parked (l.foldl (fun d n => d.axisOff n) d) n) ∧
      ∀ n, n ∉ l → (l.foldl (fun d n => d.axisOff n) d).axis n = d.axis n := by
  suffices h : ∀ e : Dev, (∃ ax, l.foldl (fun d n => d.axisOff n) e = { e with axes := ax }) ∧
      (∀ n, n ∈ l ∨ parked e n → parked (l.foldl (fun d n => d.axisOff n) e) n) ∧
      ∀ n, n ∉ l → (l.foldl (fun d n => d.axisOff n) e).axis n = e.axis n from
    ⟨(h d).1, fun n hn => (h d).2.1 n (.inl hn), (h d).2.2⟩
  induction l with
  | nil => exact fun e => ⟨⟨e.axes, rfl⟩, fun n h => h.resolve_left (List.not_mem_nil), fun _ _ => rfl⟩
  | cons a l ih =>
    intro e
    obtain ⟨⟨ax, hax⟩, hp, ho⟩ := ih (e.axisOff a)
    refine ⟨⟨ax, hax⟩, fun n h => hp n ?_, fun n h => ?_⟩
    · rw [List.mem_cons, or_assoc] at h
      rcases h with h | h | h
      · exact .inr (parked_axisOff e a (.inl h))
      · exact .inl h
      · exact .inr (parked_axisOff e a (.inr h))
    · rw [List.mem_cons, not_or] at h
      exact (ho n h.2).trans (axis_axisOff_other e a h.1)

end Off

/-! ### The losses -/

section Losses

variable (d : Dev) (p n : Nat)

/-- The module as a port is lost, before the note for a migration and the record. -/
def portDropped : Dev :=
  (((d.portAxesOff p).modPort p fun x => { x with st := .lost, code := 0x1001, lostFrames := 0, startAt := none }).strFlag p 2).incReg
    (Adr.strLostcnt p)

/-- A port serves an axis of a door. -/
def carriesDoor (d : Dev) (p x : Nat) : Bool :=
  match d.image with
  | some im => (im.doorAxes x).any fun n => (d.port p).inForce.axes.any fun a => a.axis == n
  | none => false

theorem carriesDoor_of {im : Image} {x : Nat} (hi : d.image = some im) (h : ∃ n ∈ im.doorAxes x, n ∈ portAxes d p) :
    carriesDoor d p x = true := by
  obtain ⟨n, hn, ha⟩ := h
  obtain ⟨a, hm, rfl⟩ := List.mem_map.1 ha
  unfold carriesDoor
  rw [hi]
  exact List.any_eq_true.2 ⟨a.axis, hn, List.any_eq_true.2 ⟨a, hm, beq_self_eq_true _⟩⟩

/-- The axes that a lost port takes with it, those in force first. -/
def dropList : List Nat :=
  let l := (d.port p).inForce.axes.map (·.axis)
  l ++ ((d.layoutNow p).axes.map (·.axis)).filter fun n => !l.contains n

theorem portAxesOff_eq : d.portAxesOff p = (dropList d p).foldl (fun s n => s.axisOff n) d := rfl

theorem portAxesOff_axes : ∃ ax, d.portAxesOff p = { d with axes := ax } := (axesOff d (dropList d p)).1

theorem parked_portAxesOff (h : n ∈ portAxes d p) : parked (d.portAxesOff p) n :=
  (axesOff d (dropList d p)).2.1 n (List.mem_append_left _ h)

theorem strAddresses_ne : Adr.strFlags p ≠ Adr.strLostcnt p := by unfold Adr.strFlags Adr.strLostcnt; omega

theorem portDropped_port : (portDropped d p).port p =
    { (d.portAxesOff p).port p with st := .lost, code := 0x1001, lostFrames := 0, startAt := none } := port_setPort_self ..

theorem portDropped_port_other : SamePorts d (portDropped d p) p := by
  obtain ⟨ax, h⟩ := portAxesOff_axes d p
  intro q hq
  refine (port_setPort_other _ _ hq).trans ?_
  rw [h]
  rfl

theorem portDropped_inForce : ((portDropped d p).port p).inForce = (d.port p).inForce := by
  rw [portDropped_port]
  obtain ⟨ax, h⟩ := portAxesOff_axes d p
  rw [h]
  rfl

theorem portDropped_frame : (portDropped d p).image = d.image ∧ (portDropped d p).placer = d.placer := by
  obtain ⟨ax, h⟩ := portAxesOff_axes d p
  unfold portDropped
  rw [h]
  exact ⟨rfl, rfl⟩

theorem portDropped_flags : ((portDropped d p).reg (Adr.strFlags p)).getLsbD 1 = true := by
  unfold portDropped Dev.strFlag
  rw [reg_incReg_other _ (strAddresses_ne p), reg_orReg_self]
  simp

theorem portDropped_count : (portDropped d p).reg (Adr.strLostcnt p) = satInc (d.reg (Adr.strLostcnt p)) := by
  obtain ⟨ax, h⟩ := portAxesOff_axes d p
  unfold portDropped Dev.strFlag
  rw [reg_incReg_self, reg_orReg_other _ _ (strAddresses_ne p).symm, h]
  rfl

/-- The module as a port is lost, before the record. -/
def portNoted : Dev := (portDropped d p).breakCopy (carriesDoor (portDropped d p) p)

theorem exec_portLost (s : State) (port : PortId) : exec (.portLost port) s =
    if (s.dev.port port.val).st == .up && 3 ≤ (s.dev.port port.val).badRun then
      .next { s with dev := (portNoted s.dev port.val).event 0x1001 (strSubj port.val 0) }
    else .next s := rfl

/-- The module as the nodes beyond a break are lost, before the record. -/
def nodesDropped : Dev :=
  ((((d.port p).inForce.axes.filter fun a => (d.port p).found < a.node).map (·.axis)).foldl (fun d n => d.axisOff n)
    (d.modPort p fun x => { x with lostFrom := (d.port p).found + 1, shortRun := 0 })).strFlag p 4

theorem exec_nodesLost (s : State) (port : PortId) : exec (.nodesBeyondBreakLost port) s =
    if (s.dev.port port.val).st == .up && 3 ≤ (s.dev.port port.val).shortRun then
      .next { s with dev := (nodesDropped s.dev port.val).event 0x1002 (strSubj port.val ((s.dev.port port.val).found + 1)) }
    else .next s := by
  rw [nodesDropped, List.foldl_map]
  rfl

/-- The module as a channel is lost, before the record. -/
def channelDropped : Dev :=
  let e := (d.setAxis n { d.axis n with chLost := true, chLostRun := 0 }).axisOff n
  e.strFlag (((e.linkOf n).map (·.1)).getD (e.axPort n)) 8

theorem exec_channelLost (s : State) (axis : AxisId) : exec (.channelLost axis) s =
    if !(s.dev.axis axis.val).chLost && 3 ≤ (s.dev.axis axis.val).chLostRun then
      .next { s with dev := (channelDropped s.dev axis.val).event 0x1003 axis.val }
    else .next s := rfl

theorem chLost_enterOff (a : Axis) : a.enterOff.chLost = a.chLost := by
  have h : a.abandonMove.chLost = a.chLost := by
    unfold Axis.abandonMove Axis.closeMove
    split <;> rfl
  unfold Axis.enterOff
  dsimp only
  split
  · rfl
  · exact h

theorem channelDropped_axis : (channelDropped d n).axis n = ({ d.axis n with chLost := true, chLostRun := 0 } : Axis).enterOff := by
  rw [← axis_setAxis_self d n { d.axis n with chLost := true, chLostRun := 0 }, ← axis_axisOff_self]
  rfl

theorem channelDropped_axis_other {k : Nat} (h : k ≠ n) : (channelDropped d n).axis k = d.axis k :=
  (axis_axisOff_other _ _ h).trans (axis_setAxis_other _ _ h)

theorem channelDropped_flags {q : Nat} {y : PortAxis} (h : d.linkOf n = some (q, y)) :
    ((channelDropped d n).reg (Adr.strFlags q)).getLsbD 3 = true := by
  have he : (((d.setAxis n { d.axis n with chLost := true, chLostRun := 0 }).axisOff n).linkOf n) = some (q, y) := h
  unfold channelDropped
  dsimp only
  rw [he]
  dsimp only [Option.map_some, Option.getD_some]
  rw [Dev.strFlag, reg_orReg_self]
  simp

theorem nodesDropped_port : (nodesDropped d p).port p = { d.port p with lostFrom := (d.port p).found + 1, shortRun := 0 } := by
  obtain ⟨⟨ax, h⟩, -⟩ := axesOff (d.modPort p fun x => { x with lostFrom := (d.port p).found + 1, shortRun := 0 })
    (((d.port p).inForce.axes.filter fun a => (d.port p).found < a.node).map (·.axis))
  unfold nodesDropped
  rw [h]
  exact port_setPort_self ..

theorem nodesDropped_port_other : SamePorts d (nodesDropped d p) p := by
  obtain ⟨⟨ax, h⟩, -⟩ := axesOff (d.modPort p fun x => { x with lostFrom := (d.port p).found + 1, shortRun := 0 })
    (((d.port p).inForce.axes.filter fun a => (d.port p).found < a.node).map (·.axis))
  intro q hq
  unfold nodesDropped
  rw [h]
  exact port_setPort_other _ _ hq

theorem nodesDropped_flags : ((nodesDropped d p).reg (Adr.strFlags p)).getLsbD 2 = true := by
  unfold nodesDropped
  rw [Dev.strFlag, reg_orReg_self]
  simp

end Losses

/-- Settles O28: a loss takes its axes to OFF one by one, and shows itself in its port's registers. -/
theorem streamLosses : Obligations.StreamLosses := by
  intro s port axis
  extract_lets d p x a
  have hup {n k : Nat} (h : x.st = .up) (hn : n ≤ k) : (x.st == .up && decide (n ≤ k)) = true := by rw [h]; exact decide_eq_true hn
  have hno {k : Nat} (h : x.st ≠ .up ∨ k < 3) : ¬(x.st == .up && decide (3 ≤ k)) = true := by
    rw [Bool.and_eq_true, beq_iff_eq, decide_eq_true_eq]
    exact fun h' => h.elim (fun h => h h'.1) fun h => absurd h'.2 (not_le.2 h)
  refine ⟨fun hst hbad => ?_, fun h => (exec_portLost s port).trans (if_neg (hno h)), fun hst hshort => ?_,
    fun h => (exec_nodesLost s port).trans (if_neg (hno h)), fun hl hrun => ?_, fun h => ?_⟩
  · refine ⟨_, (exec_portLost s port).trans (if_pos (hup hst hbad)), ?_, ?_, portDropped_flags d p, fun im m hi hm hph hn => ?_,
      portDropped_count d p, portDropped_port_other d p, fun n hn => ?_⟩
    · exact congrArg Port.st (portDropped_port d p)
    · exact congrArg Port.code (portDropped_port d p)
    · obtain ⟨hi', hm'⟩ := portDropped_frame d p
      have hc : carriesDoor (portDropped d p) p m.door = true := by
        refine carriesDoor_of _ p (hi'.trans hi) ?_
        rw [portAxes, portDropped_inForce]
        exact hn
      unfold portNoted Dev.breakCopy
      dsimp only
      rw [hm', show s.dev.placer.mig = _ from hm, Option.map_some, if_pos]
      rw [hph]
      exact hc
    · exact parked_portAxesOff d p n hn
  · obtain ⟨⟨ax, hax⟩, hpark, hoth⟩ := axesOff (d.modPort p fun x => { x with lostFrom := (d.port p).found + 1, shortRun := 0 })
      (((d.port p).inForce.axes.filter fun a => (d.port p).found < a.node).map (·.axis))
    refine ⟨_, (exec_nodesLost s port).trans (if_pos (hup hst hshort)), ?_, ?_, ?_, ?_, fun y hy hf => ?_, fun n hn => ?_⟩
    · rw [nodesDropped_port]
      exact hst
    · rw [nodesDropped_port]
    · exact nodesDropped_flags d p
    · exact nodesDropped_port_other d p
    · refine hpark _ (List.mem_map_of_mem (List.mem_filter.2 ⟨hy, decide_eq_true hf⟩))
    · refine hoth n fun hm => ?_
      obtain ⟨y, hy, he⟩ := List.mem_map.1 hm
      obtain ⟨hy, hf⟩ := List.mem_filter.1 hy
      exact absurd (of_decide_eq_true hf) (not_lt.2 (hn y hy he))
  · refine ⟨_, (exec_channelLost s axis).trans (if_pos (by rw [hl]; exact decide_eq_true hrun)), ?_, ?_, fun q y hq => ?_, fun n hn => ?_, rfl⟩
    · rw [channelDropped_axis, chLost_enterOff]
    · unfold parked
      rw [channelDropped_axis]
      exact atRest_enterOff _
    · exact channelDropped_flags d axis.val hq
    · exact channelDropped_axis_other d axis.val hn
  · refine (exec_channelLost s axis).trans (if_neg ?_)
    rw [Bool.and_eq_true, Bool.not_eq_true', decide_eq_true_eq]
    exact fun h' => h.elim (fun h => absurd (h.symm.trans h'.1) nofun) fun h => absurd h'.2 (not_le.2 h)

end Sys2Proof.Proofs
end

section
/-! SUPPORT. Frames received on the axis stream, and requests of nodes that wait (R206–R221). -/

namespace Sys2Proof.Proofs

open Sys2Proof.Machine Sys2Proof.Safety

/-- What one port's engine leaves alone: the axes, the other ports, and the frame received. -/
structure PortWork (p : Nat) (d e : Dev) : Prop where
  axes : e.axes = d.axes
  others : SamePorts d e p
  rx : (e.port p).rx = (d.port p).rx

section PortWork

variable {p : Nat} {d e f : Dev}

theorem PortWork.refl (p : Nat) (d : Dev) : PortWork p d d := ⟨rfl, fun _ _ => rfl, rfl⟩

theorem PortWork.trans (h : PortWork p d e) (g : PortWork p e f) : PortWork p d f :=
  ⟨g.axes.trans h.axes, fun q hq => (g.others q hq).trans (h.others q hq), g.rx.trans h.rx⟩

/-- Whatever changes neither axes nor ports. -/
theorem PortWork.apart (h : PortWork p d e) (ha : f.axes = e.axes) (hp : f.ports = e.ports) : PortWork p d f :=
  h.trans ⟨ha, fun q _ => by rw [Dev.port, hp]; rfl, by rw [Dev.port, hp]; rfl⟩

theorem PortWork.logs (h : PortWork p d e) (g : Logs e f) : PortWork p d f := h.apart g.axes g.ports

theorem PortWork.modPort (h : PortWork p d e) (f : Port → Port) (hf : ∀ x, (f x).rx = x.rx := by intro _; rfl) : PortWork p d (e.modPort p f) :=
  h.trans ⟨rfl, fun _ hq => port_setPort_other _ _ hq, by rw [Dev.modPort, port_setPort_self, hf]⟩

theorem PortWork.modNode (h : PortWork p d e) (n : Nat) (f : Node → Node) : PortWork p d (e.modNode p n f) := h.modPort _

theorem PortWork.ite {c : Prop} [Decidable c] (h : PortWork p d e) (g : PortWork p d f) : PortWork p d (if c then e else f) := by
  split
  · exact h
  · exact g

theorem PortWork.foldl {α : Type} {l : List α} {f : Dev → α → Dev} (hf : ∀ e a, PortWork p d e → PortWork p d (f e a))
    (h : PortWork p d e) : PortWork p d (l.foldl f e) := by
  induction l generalizing e with
  | nil => exact h
  | cons a l ih => exact ih (hf e a h)

theorem PortWork.setReg (h : PortWork p d e) (a : Nat) (v : Word) : PortWork p d (e.setReg a v) := h.apart rfl rfl

theorem PortWork.setQueues (h : PortWork p d e) (l : SMap Queue) : PortWork p d { e with queues := l } := h.apart rfl rfl

theorem PortWork.setQueue (h : PortWork p d e) (q : Nat) (x : Queue) : PortWork p d (e.setQueue q x) := h.apart rfl rfl

theorem beginSpill_apart (d : Dev) (q : Nat) : (d.beginSpill q).axes = d.axes ∧ (d.beginSpill q).ports = d.ports := by
  unfold Dev.beginSpill
  extract_lets x subj
  have h : Logs (d.setQueue q { x with spilling := true, episodes := satNat 0xFF (x.episodes + 1) }) _ := (Logs.refl _).event 0x1021 subj []
  split
  · exact ⟨h.axes, h.ports⟩
  · exact ⟨rfl, rfl⟩

theorem enqueue_apart (d : Dev) (q : Nat) (b : Block) : (d.enqueue q b).axes = d.axes ∧ (d.enqueue q b).ports = d.ports := by
  unfold Dev.enqueue
  extract_lets x d1
  split
  · have h : Logs d ((d.countEvent 11 q 1).countEvent 8 0 4) := ((Logs.refl _).countEvent 11 q 1).countEvent 8 0 4
    have h1 : d1.axes = d.axes ∧ d1.ports = d.ports := ⟨h.axes, h.ports⟩
    clear_value d1
    split
    · have h2 : Logs (d1.setQueue q { d1.queue q with fullNoted := true }) _ := (Logs.refl _).event 0x1022 (strSubj b.port b.node) []
      exact ⟨h2.axes.trans h1.1, h2.ports.trans h1.2⟩
    · exact h1
  · exact beginSpill_apart _ q

theorem PortWork.enqueue (h : PortWork p d e) (q : Nat) (b : Block) : PortWork p d (e.enqueue q b) :=
  h.apart (enqueue_apart e q b).1 (enqueue_apart e q b).2

theorem PortWork.putBlocks (h : PortWork p d e) (home : Option Nat) (l : List Block) : PortWork p d (e.putBlocks p home l) := by
  unfold Dev.putBlocks
  extract_lets l' d1
  have h1 : PortWork p d d1 := h.modPort _
  split
  · exact h1.foldl fun _ _ g => g.enqueue _ _
  · exact h1.modPort _

theorem enqueues_ports (l : List Block) (q : Nat) (d : Dev) : (l.foldl (fun d b => d.enqueue q b) d).ports = d.ports := by
  induction l generalizing d with
  | nil => rfl
  | cons b l ih => exact (ih _).trans (enqueue_apart d q b).2

/-- Blocks that are queued change no node. -/
theorem putBlocks_nodes (d : Dev) (p : Nat) (home : Option Nat) (l : List Block) : ((d.putBlocks p home l).port p).nodes = (d.port p).nodes := by
  unfold Dev.putBlocks
  extract_lets l' d1
  have h1 : (d1.port p).nodes = (d.port p).nodes := by
    dsimp only [d1, Dev.modPort]
    rw [port_setPort_self]
  split
  · rw [Dev.port, enqueues_ports]
    exact h1
  · rw [Dev.modPort, port_setPort_self]
    exact h1

theorem PortWork.sendMessage (h : PortWork p d e) (node btype : Nat) (data : List Byte) (home : Option Nat) :
    PortWork p d (e.sendMessage p node btype data home) := (h.modNode _ _).putBlocks _ _

theorem PortWork.broadcastTable (h : PortWork p d e) (t : Nat) : PortWork p d (e.broadcastTable p t) := by
  unfold Dev.broadcastTable
  split
  · exact h
  · exact h.foldl fun _ _ g => g.sendMessage _ _ _ _

theorem PortWork.enterTables (h : PortWork p d e) : PortWork p d (e.enterTables p) :=
  PortWork.foldl (fun _ _ g => g.sendMessage _ _ _ _) (PortWork.foldl (fun _ _ g => g.broadcastTable _) (h.modPort _))

theorem PortWork.enterConfig (h : PortWork p d e) : PortWork p d (e.enterConfig p) :=
  PortWork.foldl (fun _ _ g => g.sendMessage _ _ _ _) (h.modPort _)

theorem PortWork.sendStart (h : PortWork p d e) : PortWork p d (e.sendStart p) := by
  unfold Dev.sendStart
  exact PortWork.sendMessage (h.modPort _) _ _ _ _

theorem PortWork.linkFail (h : PortWork p d e) (code : Nat) : PortWork p d (e.linkFail p code) :=
  ((h.modPort _).setReg _ _).logs ((Logs.refl _).event _ _ _)

theorem PortWork.enumEnd (h : PortWork p d e) (ncount : Nat) : PortWork p d (e.enumEnd p ncount) := by
  unfold Dev.enumEnd
  extract_lets d1 code
  have h1 : PortWork p d d1 := h.modPort _
  exact .ite (h1.linkFail _) (.ite (h1.modPort _).enterConfig h1.enterTables)

theorem PortWork.linkAdvance (h : PortWork p d e) (ncount : Nat) : PortWork p d (e.linkAdvance p ncount) := by
  unfold Dev.linkAdvance
  dsimp only
  split
  · exact .ite (h.enumEnd _) h
  · exact .ite h.enterConfig h
  · exact .ite h.sendStart h
  · exact h

theorem PortWork.dropReplies (h : PortWork p d e) (node : Nat) (out : Nat → Bool) : PortWork p d (e.dropReplies p node out) := by
  unfold Dev.dropReplies
  extract_lets keep cut
  exact (h.setQueues _).modNode _ _

theorem PortWork.discardOpen (h : PortWork p d e) (node : Nat) : PortWork p d (e.discardOpen p node) := by
  unfold Dev.discardOpen
  extract_lets coming ended whole d1
  exact PortWork.modPort ((h.dropReplies _ _).modNode _ _) _

theorem PortWork.inbound (h : PortWork p d e) (b : Block) : PortWork p d (e.inbound p b) := h.modPort _

theorem PortWork.upBlock (h : PortWork p d e) (frame : Word) (b : Block) : PortWork p d (e.upBlock p frame b) := by
  unfold Dev.upBlock
  extract_lets d1 x first ok d2 d3 answered
  have h1 : PortWork p d d1 := (h.setReg _ _).logs ((Logs.refl _).countEvent _ _ _)
  clear_value d1
  have h2 : PortWork p d d2 := .ite (h1.discardOpen _) h1
  clear_value d2
  have h3 : PortWork p d d3 := h2.modNode _ _
  clear_value d3
  refine .ite h3 ?_
  split
  · unfold Dev.identity
    exact h3.modNode _ _
  · exact (h3.modNode _ _).modNode _ _
  · exact (h3.modNode _ _).inbound _
  · exact (h3.modNode _ _).inbound _
  · exact h3

theorem PortWork.upManagement (h : PortWork p d e) (ncount : Nat) (bytes : List Byte) : PortWork p d (e.upManagement p ncount bytes) :=
  h.foldl fun _ _ g => g.modNode _ _

end PortWork

/-! ### The judgement of a frame -/

theorem leNat_lt (l : List Byte) : leNat l < 256 ^ l.length := by
  induction l with
  | nil => exact Nat.one_pos
  | cons b l ih =>
    have hb := b.isLt
    rw [leNat, List.length_cons, pow_succ]
    omega

theorem leAt_lt (b : List Byte) (off n : Nat) : leAt b off n < 256 ^ n :=
  (leNat_lt _).trans_eq (by rw [List.length_map, List.length_range])

theorem word_leAt_eq (b : List Byte) (off : Nat) (w : Word) : (wordOfNat (leAt b off 4) == w) = true ↔ leAt b off 4 = w.toNat := by
  have h : leAt b off 4 < 2 ^ 32 := leAt_lt b off 4
  rw [beq_iff_eq, ← BitVec.toNat_inj, wordOfNat, BitVec.toNat_ofNat, Nat.mod_eq_of_lt h]

theorem portReceives_iff (d : Dev) (p : Nat) :
    d.portReceives p = true ↔ d.operating = true ∧ (d.port p).st ≠ .down ∧ (d.port p).st ≠ .train ∧ (d.port p).st ≠ .listen := by
  unfold Dev.portReceives
  rw [Bool.and_eq_true]
  refine and_congr Iff.rfl ?_
  cases (d.port p).st <;> decide

theorem upGood_iff (d : Dev) (p : Nat) (onTime violation : Bool) (bytes : List Byte) :
    d.upGood p onTime violation bytes = true ↔
      (onTime = true ∧ violation = false ∧ bytes.length = 3840) ∧ leAt bytes 0 1 = 0x5D ∧
      (BitVec.ofNat 32 (leAt bytes 2 4) = d.sys.frame ∨
        ((d.port p).st = .enum ∨ (d.port p).st = .tables ∨ (d.port p).st = .config) ∧ BitVec.ofNat 32 (leAt bytes 2 4) + 1 = d.sys.frame) ∧
      leAt bytes 3836 4 = (crc32c (bytes.take 3836)).toNat := by
  unfold Dev.upGood
  dsimp only
  rw [Bool.and_eq_true, word_leAt_eq]
  simp only [Bool.and_eq_true, Bool.or_eq_true, Bool.not_eq_true', beq_iff_eq, or_assoc, and_assoc, wordOfNat]

theorem frameFits_iff (x : Port) (f now : Word) : x.frameFits f now = true ↔ ∀ g at', x.heard = some (g, at') →
    1 ≤ (f - g).toNat ∧ (f - g).toNat ≤ (now - at').toNat + 1 ∧ (now - at').toNat ≤ (f - g).toNat + 1 := by
  unfold Port.frameFits
  cases x.heard with
  | none => simp
  | some h =>
    simp only [Bool.and_eq_true, decide_eq_true_eq, and_assoc, Option.some.injEq]
    exact ⟨fun h _ _ he => by subst he; exact h, fun h => h _ _ rfl⟩

/-! ### A request that waits for its reply -/

/-- A request without any block of a reply for 64 frames. -/
def overdue (r : NodeReqSt) : Bool := decide (64 ≤ r.age) && !r.answering

theorem overdue_false {r : NodeReqSt} (h : r.age < 64 ∨ r.answering = true) : overdue r = false := by
  unfold overdue
  rcases h with h | h
  · rw [decide_eq_false (not_le.2 h), Bool.false_and]
  · rw [h, Bool.not_true, Bool.and_false]

section Requests

variable {before after : List NodeReqSt} {r : NodeReqSt} (hb : ∀ q ∈ before, overdue q = false) (hr : overdue r = true)
include hb hr

theorem find_overdue : (before ++ r :: after).find? overdue = some r := by
  rw [List.find?_append, List.find?_eq_none.2 fun q hq => by rw [hb q hq]; nofun, Option.none_or, List.find?_cons_of_pos hr]

theorem not_mem_before : r ∉ before := fun h => absurd ((hb r h).symm.trans hr) nofun

theorem replace_overdue (q : NodeReqSt) : (before ++ r :: after).replace r q = before ++ q :: after := by
  rw [List.replace_append_right (not_mem_before hb hr), List.replace_cons_self]

theorem erase_overdue : (before ++ r :: after).erase r = before ++ after := by
  rw [List.erase_append_right _ (not_mem_before hb hr), List.erase_cons_head]

end Requests

section Exec

variable {s : State} {port : PortId} {node : Fin 65} {onTime violation : Bool} {bytes : List Byte}

/-- The module with a good frame received, its management bytes and its blocks. -/
def upTaken (d : Dev) (p : Nat) (bytes : List Byte) : Dev :=
  let x := { (d.port p) with rx := some { good := true, frame := d.sys.frame, ncount := leAt bytes 6 1, slots := upSlots bytes } }
  ((upBlocks p bytes).foldl (fun d b => d.upBlock p (wordOfNat (leAt bytes 2 4)) b)
    ((d.setPort p x).upManagement p (leAt bytes 6 1) bytes)).linkAdvance p (leAt bytes 6 1)

theorem upTaken_work (d : Dev) (p : Nat) (bytes : List Byte) :
    PortWork p (d.setPort p { (d.port p) with rx := some { good := true, frame := d.sys.frame, ncount := leAt bytes 6 1,
                                                           slots := upSlots bytes } }) (upTaken d p bytes) :=
  (PortWork.foldl (fun _ _ g => g.upBlock _ _) ((PortWork.refl p _).upManagement _ _)).linkAdvance _

/-- The bad frame received. -/
def upRefused (d : Dev) (p : Nat) : Dev := (d.badUpFrame p).modPort p fun x => { x with rx := some { frame := d.sys.frame } }

theorem exec_upstream_deaf (h : s.dev.portReceives port.val = false) : exec (.upstreamFrameReceived port onTime violation bytes) s = .next s :=
  if_pos (by rw [h]; rfl)

theorem exec_upstream (h : s.dev.portReceives port.val = true) : exec (.upstreamFrameReceived port onTime violation bytes) s =
    if s.dev.upGood port.val onTime violation bytes then .next { s with dev := upTaken s.dev port.val bytes }
    else .next { s with dev := upRefused s.dev port.val } :=
  (if_neg (by rw [h]; nofun)).trans rfl

/-- A downstream frame is whole, and fits. -/
def heardGood (d : Dev) (p : Nat) (onTime violation : Bool) (bytes : List Byte) : Bool :=
  onTime && !violation && bytes.length == 3840 && leAt bytes 0 1 == 0xD5 &&
    wordOfNat (leAt bytes 3836 4) == crc32c (bytes.take 6 ++ [0] ++ slice bytes 7 3829) &&
    (d.port p).frameFits (wordOfNat (leAt bytes 2 4)) d.sys.frame && leAt bytes 6 1 == fld (d.reg (Adr.strCtrl p)) 8 7

theorem exec_listen_deaf (h : s.dev.drivesPorts = true ∨ (s.dev.reg (Adr.strCtrl port.val)).getLsbD 0 = false) :
    exec (.listenFrameReceived port onTime violation bytes) s = .next s := by
  have hc : (s.dev.drivesPorts || !bit (s.dev.reg (Adr.strCtrl port.val)) 0) = true := by
    rw [bit]
    rcases h with h | h <;> rw [h]
    · rfl
    · exact Bool.or_true _
  exact if_pos hc

theorem exec_listen (hd : s.dev.drivesPorts = false) (hl : (s.dev.reg (Adr.strCtrl port.val)).getLsbD 0 = true) :
    ∃ g h, exec (.listenFrameReceived port onTime violation bytes) s = .next { s with dev := s.dev.modPort port.val fun x => { x with
      st := if heardGood s.dev port.val onTime violation bytes then .listen else .down, listenGood := g, heard := h } } := by
  refine ⟨_, _, (if_neg ?_).trans rfl⟩
  rw [hd, bit, hl]
  nofun

theorem heardGood_iff (d : Dev) (p : Nat) : heardGood d p onTime violation bytes = true ↔
    (onTime = true ∧ violation = false ∧ bytes.length = 3840) ∧ leAt bytes 0 1 = 0xD5 ∧
    (∀ g at', (d.port p).heard = some (g, at') → 1 ≤ (BitVec.ofNat 32 (leAt bytes 2 4) - g).toNat ∧
      (BitVec.ofNat 32 (leAt bytes 2 4) - g).toNat ≤ (d.sys.frame - at').toNat + 1 ∧
      (d.sys.frame - at').toNat ≤ (BitVec.ofNat 32 (leAt bytes 2 4) - g).toNat + 1) ∧
    leAt bytes 6 1 = fld (d.reg (Adr.strCtrl p)) 8 7 ∧
    leAt bytes 3836 4 = (crc32c (bytes.take 6 ++ [0] ++ (bytes.drop 7).take 3829)).toNat := by
  unfold heardGood
  rw [Bool.and_eq_true, Bool.and_eq_true, Bool.and_eq_true, word_leAt_eq, frameFits_iff]
  simp only [Bool.and_eq_true, Bool.not_eq_true', beq_iff_eq, and_assoc, wordOfNat, slice]
  tauto

/-- The home of a node's traffic of a type. -/
def trafficHome (d : Dev) (p node btype : Nat) : Option Nat := if btype ≤ 4 then none else d.homeSheaf p node

/-- The module with a request that waits anew. -/
def requestRenewed (d : Dev) (p node : Nat) (r : NodeReqSt) : Dev :=
  d.modNode p node fun x => { x with
    requests := ((d.port p).node node).requests.replace r { r with age := 0, repeats := r.repeats + 1 } }

/-- The module with a request given up. -/
def requestDropped (d : Dev) (p node : Nat) (r : NodeReqSt) : Dev :=
  (d.modNode p node fun x => { x with
    requests := ((d.port p).node node).requests.erase r, gaveUp := x.gaveUp || decide (5 ≤ r.btype) }).strFlag p 0x40

theorem exec_replyTimeout_none (h : ((s.dev.port port.val).node node.val).requests.find? overdue = none) :
    exec (.bulkReplyTimeout port node) s = .next s := by
  change execBulkReplyTimeout port node s = _
  unfold execBulkReplyTimeout
  dsimp only
  rw [show ((s.dev.port port.val).node node.val).requests.find? (fun r => decide (64 ≤ r.age) && !r.answering) = none from h]

theorem exec_replyTimeout_some {r : NodeReqSt} (h : ((s.dev.port port.val).node node.val).requests.find? overdue = some r) :
    let d := s.dev
    let p := port.val
    exec (.bulkReplyTimeout port node) s =
      if r.repeats < 3 && !d.outboundRoom (trafficHome d p node.val r.btype) r.blocks.length then .next s
      else if r.repeats < 3 then
        .next { s with dev := (requestRenewed d p node.val r).putBlocks p (trafficHome d p node.val r.btype) r.blocks }
      else .next { s with dev := (requestDropped d p node.val r).event 0x1020 (strSubj p node.val) } := by
  intro d p
  change execBulkReplyTimeout port node s = _
  unfold execBulkReplyTimeout
  dsimp only
  rw [show ((s.dev.port port.val).node node.val).requests.find? (fun r => decide (64 ≤ r.age) && !r.answering) = some r from h]
  rfl

end Exec

theorem node_modNode (d : Dev) (p n : Nat) (f : Node → Node) : ((d.modNode p n f).port p).node n = f ((d.port p).node n) := by
  rw [Dev.modNode, Dev.modPort, port_setPort_self]
  exact smGet_smPut_self ..

theorem outboundRoom_iff (d : Dev) (p node : Nat) (r : NodeReqSt) :
    d.outboundRoom (trafficHome d p node r.btype) r.blocks.length = true ↔ r.btype ≤ 4 ∨ ∀ h, d.homeSheaf p node = some h →
      (d.queue (2 * h + 1)).spilling = false ∨ (d.queue (2 * h + 1)).spilled + 256 * r.blocks.length ≤ 2 ^ 23 := by
  unfold trafficHome
  by_cases hb : r.btype ≤ 4
  · simp [hb, Dev.outboundRoom]
  · rw [if_neg hb]
    cases d.homeSheaf p node with
    | none => simp [Dev.outboundRoom]
    | some h => simp [hb, Dev.outboundRoom, Queue.takes]

theorem requestDropped_requests (d : Dev) (p node : Nat) (r : NodeReqSt) :
    (((requestDropped d p node r).port p).node node).requests = ((d.port p).node node).requests.erase r := by
  have h := node_modNode d p node fun x => { x with
    requests := ((d.port p).node node).requests.erase r, gaveUp := x.gaveUp || decide (5 ≤ r.btype) }
  exact congrArg Node.requests h

/-- Settles O29: a frame is judged by one test, what it carries is work of its port alone, and the first overdue request is found in its place. -/
theorem streamFrames : Obligations.StreamFrames := by
  intro s port onTime violation bytes node
  extract_lets d p x u receives f timely shapely crcOf up follows
  have hrec : s.dev.portReceives port.val = true ↔ receives := portReceives_iff d p
  have hgood : s.dev.upGood port.val onTime violation bytes = true ↔
      shapely ∧ leAt bytes 0 1 = 0x5D ∧ timely ∧ crcOf (bytes.take 3836) := upGood_iff d p onTime violation bytes
  refine ⟨fun hr hs ht hf hc => ?_, fun hr hbad => ?_, fun hr => ?_, fun hd hl => ?_, fun h => ?_, fun h => ?_,
    fun before r after hreq hb hage hans => ?_⟩
  · have hw := upTaken_work d p bytes
    refine answers_next ((exec_upstream (hrec.2 hr)).trans (if_pos (hgood.2 ⟨hs, ht, hf, hc⟩))) ⟨hw.axes, fun q hq => ?_, ?_⟩
    · exact (hw.others q hq).trans (port_setPort_other _ _ hq)
    · exact hw.rx.trans (by rw [port_setPort_self])
  · refine (exec_upstream (hrec.2 hr)).trans (if_neg (mt hgood.1 ?_))
    rintro ⟨hs, ht, hf, hc⟩
    rcases hbad with h | h | h | h
    · exact h hs
    · exact h ht
    · exact h hc
    · exact h hf
  · exact exec_upstream_deaf (Bool.eq_false_iff.2 (mt hrec.1 hr))
  · obtain ⟨g, h, hx⟩ := exec_listen (onTime := onTime) (violation := violation) (bytes := bytes) hd hl
    have hg : heardGood s.dev port.val onTime violation bytes = true ↔ _ := heardGood_iff d p
    refine answers_next hx ⟨?_, ?_, fun q hq => port_setPort_other _ _ hq⟩
    · rw [Dev.modPort, port_setPort_self]
      refine Iff.trans ?_ hg
      dsimp only
      split <;> simp_all
    · rw [Dev.modPort, port_setPort_self]
      exact ite_eq_or_eq _ _ _
  · exact exec_listen_deaf h
  · exact exec_replyTimeout_none (List.find?_eq_none.2 fun r hr => by rw [overdue_false (h r hr)]; nofun)
  · have hr : overdue r = true := by rw [overdue, decide_eq_true hage, hans]; rfl
    have hb' : ∀ q ∈ before, overdue q = false := fun q hq => overdue_false (hb q hq)
    have hreq' : ((s.dev.port port.val).node node.val).requests = before ++ r :: after := hreq
    have hx := exec_replyTimeout_some (s := s) (port := port) (node := node) (by rw [hreq', find_overdue hb' hr])
    intro room
    have hroom : s.dev.outboundRoom (trafficHome s.dev port.val node.val r.btype) r.blocks.length = true ↔ room := outboundRoom_iff d p node.val r
    refine ⟨fun h3 hn => ?_, fun h3 hy => ?_, fun h3 => ?_⟩
    · refine hx.trans (if_pos ?_)
      rw [Bool.eq_false_iff.2 (mt hroom.1 hn), decide_eq_true h3]
      rfl
    · refine answers_next (hx.trans ((if_neg ?_).trans (if_pos h3))) ?_
      · rw [hroom.2 hy, Bool.not_true, Bool.and_false]
        nofun
      · refine ⟨?_, ((PortWork.refl p _).putBlocks _ _).axes⟩
        rw [Port.node, putBlocks_nodes, ← Port.node, requestRenewed, node_modNode]
        dsimp only
        rw [hreq', replace_overdue hb' hr]
    · refine ⟨_, hx.trans ((if_neg ?_).trans (if_neg (not_lt.2 h3))), ?_, ?_, ?_⟩
      · rw [decide_eq_false (not_lt.2 h3), Bool.false_and]
        nofun
      · exact (requestDropped_requests ..).trans (by rw [hreq', erase_overdue hb' hr])
      · rw [requestDropped, Dev.strFlag, reg_orReg_self]
        simp
      · exact fun q hq => port_setPort_other _ _ hq

end Sys2Proof.Proofs
end

section
/-! SUPPORT. The safety cycle (R228, R240–R242): what each of its parts leaves of the island, and the conditions of a loop. -/

namespace Sys2Proof.Proofs

open Sys2Proof.Machine Sys2Proof.Safety

/-! ### Work of the island -/

/-- A register of the safety parameters. -/
def inParams (a : Nat) : Prop := 0x200100 ≤ a ∧ a < 0x202000

theorem fixedReg_params {a : Nat} (h : inParams a) : fixedReg a := fixedReg_of (by have := h.1; omega) (by have := h.2; omega)

/-- The second module is the first, as far as the system, the pair, the safety parameters and a part of the island go. -/
structure IslandWork (π : Island → Island) (d e : Dev) : Prop where
  sys : e.sys = d.sys
  pair : e.pair = d.pair
  reg : ∀ a, inParams a → e.reg a = d.reg a
  island : π e.island = π d.island

section Work

variable {π : Island → Island} {d e f : Dev}

theorem IslandWork.refl (π : Island → Island) (d : Dev) : IslandWork π d d := ⟨rfl, rfl, fun _ _ => rfl, rfl⟩

theorem IslandWork.trans (h : IslandWork π d e) (g : IslandWork π e f) : IslandWork π d f :=
  ⟨g.sys.trans h.sys, g.pair.trans h.pair, fun a ha => (g.reg a ha).trans (h.reg a ha), g.island.trans h.island⟩

/-- A part of the part. -/
theorem IslandWork.part {ρ : Island → Island} (h : IslandWork π d e) (hρ : ∀ x, ρ (π x) = ρ x) : IslandWork ρ d e :=
  ⟨h.sys, h.pair, h.reg, by rw [← hρ, h.island, hρ]⟩

theorem IslandWork.ite {c : Prop} [Decidable c] (h : IslandWork π d e) (g : IslandWork π d f) : IslandWork π d (if c then e else f) := by
  split
  · exact h
  · exact g

theorem IslandWork.foldl {α : Type} {l : List α} {f : Dev → α → Dev} (hf : ∀ e a, IslandWork π d e → IslandWork π d (f e a))
    (h : IslandWork π d e) : IslandWork π d (l.foldl f e) := by
  induction l generalizing e with
  | nil => exact h
  | cons a l ih => exact ih (hf e a h)

theorem IslandWork.logs (h : IslandWork π d e) (g : Logs e f) : IslandWork π d f :=
  h.trans ⟨g.sys, g.pair, fun a ha => g.reg a (fixedReg_params ha).1, by rw [g.island]⟩

theorem IslandWork.stored (h : IslandWork π d e) (g : Stored e f) : IslandWork π d f :=
  h.trans ⟨g.sys, g.pair, fun a ha => g.reg a (fixedReg_params ha), by rw [g.island]⟩

theorem IslandWork.modIsland (h : IslandWork π d e) (f : Island → Island) (hf : ∀ x, π (f x) = π x := by intro _; rfl) :
    IslandWork π d (e.modIsland f) := h.trans ⟨rfl, rfl, fun _ _ => rfl, hf _⟩

theorem IslandWork.setIsland (h : IslandWork π d e) (x : Island) (hx : π x = π e.island) : IslandWork π d { e with island := x } :=
  h.trans ⟨rfl, rfl, fun _ _ => rfl, hx⟩

theorem IslandWork.setReg (h : IslandWork π d e) {a : Nat} (ha : ¬inParams a) (v : Word) : IslandWork π d (e.setReg a v) :=
  h.trans ⟨rfl, rfl, fun _ hb => reg_setReg_other e v fun he => ha (he ▸ hb), rfl⟩

theorem IslandWork.flags (h : IslandWork π d e) (v : Word) : IslandWork π d (e.orReg Adr.safFlags v) :=
  h.setReg (fun h => absurd h.1 (by decide)) _

theorem IslandWork.setAxis (h : IslandWork π d e) (n : Nat) (a : Axis) : IslandWork π d (e.setAxis n a) :=
  h.trans ⟨rfl, rfl, fun _ _ => rfl, rfl⟩

theorem IslandWork.modMotion (h : IslandWork π d e) (n : Nat) (f : Motion → Motion) : IslandWork π d (e.modMotion n f) := h.setAxis _ _

end Work

/-! ### The parts of a cycle -/

/-- An island without its loops and its notes of test pulses. -/
def sansLoops (x : Island) : Island := { x with loops := [], soPulse := 0, pulseBad := 0 }

/-- An island without its pairs and their filter. -/
def sansPairs (x : Island) : Island := { x with pairs := [], pairsB := [], diPrevB := 0, diFiltB := 0 }

/-- An island without its groups and monitors. -/
def sansGroups (x : Island) : Island := { x with groups := [], axes := [] }

/-- An island without its diagnostics. -/
def sansDiag (x : Island) : Island := { x with crossRun := 0, fault := 0 }

/-- An island without its loops and monitors. -/
def sansReset (x : Island) : Island := { x with loops := [], axes := [] }

/-- An island without its monitors. -/
def sansAxes (x : Island) : Island := { x with axes := [] }

section Parts

variable {π : Island → Island} {d e : Dev}

theorem IslandWork.setSafe (h : IslandWork sansAxes d e) (n : Nat) (x : AxSafe) : IslandWork sansAxes d (e.setSafe n x) :=
  h.setIsland _ rfl

theorem enterSafe_work (h : IslandWork sansAxes d e) (n : Nat) (st : SafeState) (code : Nat) :
    IslandWork sansAxes d (e.enterSafe n st code) := by
  unfold Dev.enterSafe
  exact (h.setSafe _ _).modMotion _ _

theorem withdraw_work (h : IslandWork sansAxes d e) (g : Nat) : IslandWork sansAxes d (e.withdraw g) :=
  h.foldl fun _ n k => .ite ((enterSafe_work ((k.logs ((Logs.refl _).event _ _ _)).flags 1) n _ _).stored ((Stored.refl _).showSafe n)) k

theorem clearSafe_work (h : IslandWork sansAxes d e) (n : Nat) : IslandWork sansAxes d (e.clearSafe n) :=
  (h.setSafe _ _).stored (clearSafe_stored e n)

theorem cyclePairs_work (h : IslandWork sansPairs d e) : IslandWork sansPairs d e.cyclePairs := by
  unfold Dev.cyclePairs
  extract_lets x same filt x' a b d1
  exact IslandWork.foldl (fun _ _ k => (k.logs ((Logs.refl _).event _ _ _)).flags 2) (h.setIsland _ rfl)

theorem islandFault_work (h : IslandWork sansDiag d e) (code : Nat) : IslandWork sansDiag d (e.islandFault code) := by
  unfold Dev.islandFault
  refine .ite h (IslandWork.foldl (fun _ _ k => k.modMotion _ _) ?_)
  exact (h.modIsland _).logs ((Logs.refl _).event _ _ _)

theorem cycleDiag_work (h : IslandWork sansDiag d e) (diag : IslandDiag) : IslandWork sansDiag d (e.cycleDiag diag) := by
  unfold Dev.cycleDiag
  extract_lets cross run d1
  have h1 : IslandWork sansDiag d d1 := h.modIsland _
  exact .ite (islandFault_work h1 _) (.ite (islandFault_work h1 _) h1)

theorem cycleLoop_work (h : IslandWork sansLoops d e) (l : Nat) : IslandWork sansLoops d (e.cycleLoop l) := by
  unfold Dev.cycleLoop
  exact h.modIsland _

/-- Latching a fault: the first stays. -/
theorem islandFault_fault (d : Dev) (code : Nat) :
    (d.islandFault code).island.fault = if d.island.fault ≠ 0 then d.island.fault else code := by
  unfold Dev.islandFault
  by_cases h : d.island.fault ≠ 0
  · rw [if_pos h, if_pos h]
  · rw [if_neg h, if_neg h]
    have hl : Logs (d.modIsland fun x => { x with fault := code }) ((d.modIsland fun x => { x with fault := code }).event code 0xFFFF) :=
      (Logs.refl _).event code 0xFFFF []
    dsimp only
    generalize (d.modIsland fun x => { x with fault := code }).event code 0xFFFF = e at hl ⊢
    have hw : IslandWork id e (e.axes'.foldl (fun d n => d.modMotion n fun m =>
        { m with stops := m.stops ++ [{ cause := 11, ramp := 3, code := code, torqueOff := true }] }) e) :=
      IslandWork.foldl (fun _ n k => k.modMotion n _) (.refl _ _)
    exact (congrArg Island.fault hw.island).trans (congrArg Island.fault hl.island)

theorem cycleDiag_fault (d : Dev) (diag : IslandDiag) :
    (diag = .coreFault → (d.cycleDiag diag).island.fault ≠ 0) ∧ (d.island.fault ≠ 0 → (d.cycleDiag diag).island.fault = d.island.fault) := by
  unfold Dev.cycleDiag
  extract_lets cross run d1
  have h1 : d1.island.fault = d.island.fault := rfl
  clear_value d1
  refine ⟨fun h => ?_, fun h => ?_⟩
  · rw [if_pos (beq_iff_eq.2 h), islandFault_fault]
    split
    · assumption
    · decide
  · split
    · rw [islandFault_fault, h1, if_pos h]
    · split
      · rw [islandFault_fault, h1, if_pos h]
      · exact h1

theorem flagged_work (d : Dev) (code subj : Nat) (v : Word) : IslandWork id d ((d.event code subj).orReg Adr.safFlags v) :=
  ((IslandWork.refl id d).logs ((Logs.refl d).event code subj [])).flags v

/-! ### Groups -/

theorem grpCfg_work (h : IslandWork π d e) {g : Nat} (hg : g < 64) : e.grpCfg g = d.grpCfg g := by
  unfold Dev.grpCfg
  rw [h.reg _ ⟨by unfold Adr.safGrpcfg0; omega, by unfold Adr.safGrpcfg0; omega⟩,
    h.reg _ ⟨by unfold Adr.safGrpcfg1; omega, by unfold Adr.safGrpcfg1; omega⟩]

/-- The cycle of a group changes its own entry, and monitors. -/
theorem cycleGroup_cases (d : Dev) (g : Nat) :
    (bit (d.grpCfg g).1 0 = false ∧ d.cycleGroup g = d.modIsland fun x => { x with groups := smDel x.groups g }) ∨
      (bit (d.grpCfg g).1 0 = true ∧ ∃ y : Group, y.locked = ((lockPairs (d.grpCfg g).1).all fun i => (d.island.pair i).value) ∧
        IslandWork sansAxes (d.modIsland fun x => { x with groups := smPut x.groups g y }) (d.cycleGroup g)) := by
  unfold Dev.cycleGroup
  extract_lets c old value locked zs axes out rest kept fresh waived closed released releasedB y d1
  by_cases h : bit c.1 0 = true
  · refine .inr ⟨h, y, rfl, ?_⟩
    rw [h, if_neg nofun]
    exact .ite (withdraw_work (.refl _ _) g) (.refl _ _)
  · rw [Bool.not_eq_true] at h
    rw [h]
    exact .inl ⟨rfl, rfl⟩

theorem group_of_work {k : Nat} (h : IslandWork sansAxes d e) : e.island.group k = d.island.group k :=
  show (sansAxes e.island).group k = (sansAxes d.island).group k from congrArg (fun x : Island => x.group k) h.island

theorem pair_of_groups {k : Nat} (h : IslandWork sansGroups d e) : e.island.pair k = d.island.pair k :=
  show (sansGroups e.island).pair k = (sansGroups d.island).pair k from congrArg (fun x : Island => x.pair k) h.island

theorem cycleGroup_work (h : IslandWork sansGroups d e) (g : Nat) : IslandWork sansGroups d (e.cycleGroup g) := by
  rcases cycleGroup_cases e g with ⟨-, hg⟩ | ⟨-, y, -, hg⟩
  · rw [hg]
    exact h.modIsland _
  · exact (h.modIsland _).trans (hg.part fun _ => rfl)

theorem cycleGroup_other {g k : Nat} (hk : k ≠ g) : (d.cycleGroup g).island.group k = d.island.group k := by
  rcases cycleGroup_cases d g with ⟨-, hg⟩ | ⟨-, y, -, hg⟩
  · rw [hg]
    exact smGet_smDel_other _ _ _ _ hk
  · rw [group_of_work hg]
    exact smGet_smPut_other _ _ _ _ _ hk

theorem cycleGroup_self {g : Nat} (hg : bit (d.grpCfg g).1 0 = true) :
    ((d.cycleGroup g).island.group g).locked = (lockPairs (d.grpCfg g).1).all fun i => (d.island.pair i).value := by
  rcases cycleGroup_cases d g with ⟨hn, -⟩ | ⟨-, y, hy, hw⟩
  · exact absurd (hn.symm.trans hg) nofun
  · rw [group_of_work hw]
    exact (congrArg Group.locked (smGet_smPut_self ..)).trans hy

theorem cycleGroups_other {l : List Nat} {g : Nat} (hg : g ∉ l) :
    (l.foldl (fun d g => d.cycleGroup g) d).island.group g = d.island.group g := by
  induction l generalizing d with
  | nil => rfl
  | cons a l ih =>
    rw [List.mem_cons, not_or] at hg
    exact (ih hg.2).trans (cycleGroup_other hg.1)

/-- The cycles of groups without repetition: a group in use is locked by the pairs of the cycle. -/
theorem cycleGroups_locked {l : List Nat} (hl : l.Nodup) (h64 : ∀ g ∈ l, g < 64) {g : Nat} (hg : g ∈ l) (hb : bit (d.grpCfg g).1 0 = true) :
    ((l.foldl (fun d g => d.cycleGroup g) d).island.group g).locked = (lockPairs (d.grpCfg g).1).all fun i => (d.island.pair i).value := by
  induction l generalizing d with
  | nil => exact absurd hg List.not_mem_nil
  | cons k l ih =>
    obtain ⟨hkl, hl⟩ := List.nodup_cons.1 hl
    have hrest : ∀ g ∈ l, g < 64 := fun g h => h64 g (List.mem_cons_of_mem k h)
    have hw : IslandWork sansGroups d (d.cycleGroup k) := cycleGroup_work (.refl _ _) k
    rcases List.mem_cons.1 hg with rfl | hg
    · rw [List.foldl_cons, cycleGroups_other hkl]
      exact cycleGroup_self hb
    · have hc := grpCfg_work hw (hrest g hg)
      rw [List.foldl_cons, ih (d := d.cycleGroup k) hl hrest hg (by rw [hc]; exact hb), hc]
      simp only [pair_of_groups hw]

/-! ### Loops -/

/-- What the read-back of a cycle and a reset keep of a loop. -/
def sameLoop (y z : Loop) : Prop := z.on = y.on ∧ z.held = y.held ∧ z.cond = y.cond ∧ (z.rbFault = false → y.rbFault = false)

theorem loop_put_self (x : Island) (l : Nat) (z : Loop) : ({ x with loops := smPut x.loops l z } : Island).loop l = z := smGet_smPut_self ..

theorem loop_put_other (x : Island) {k l : Nat} (z : Loop) (h : k ≠ l) : ({ x with loops := smPut x.loops l z } : Island).loop k = x.loop k :=
  smGet_smPut_other _ _ _ _ _ h

/-- The read-back of a cycle counts, and latches faults: no loop switches. -/
theorem cycleReadback_loops (d : Dev) (c : Nat) :
    IslandWork sansLoops d (d.cycleReadback c) ∧ ∀ k, sameLoop (d.island.loop k) ((d.cycleReadback c).island.loop k) := by
  unfold Dev.cycleReadback
  extract_lets uv pulse
  have hp : ∀ x k o, (pulse x k o).loops = x.loops ∧ sansLoops (pulse x k o) = sansLoops x := by
    intro x k o
    cases o <;> exact ⟨rfl, rfl⟩
  clear_value pulse
  refine List.foldlRecOn (motive := fun e => IslandWork sansLoops d e ∧ ∀ k, sameLoop (d.island.loop k) (e.island.loop k)) _ _
    ⟨.refl _ _, fun _ => ⟨rfl, rfl, rfl, id⟩⟩ fun e h l _ => ?_
  extract_lets x m o y off y1 bad x1 d1
  obtain ⟨hloops, hsans⟩ : x1.loops = x.loops ∧ sansLoops x1 = sansLoops x :=
    ⟨(hp _ _ _).1.trans (hp _ _ _).1, (hp _ _ _).2.trans (hp _ _ _).2⟩
  have h1 : IslandWork sansLoops d d1 ∧ ∀ k, sameLoop (d.island.loop k) (d1.island.loop k) := by
    refine ⟨h.1.setIsland _ hsans, fun k => ?_⟩
    by_cases hk : k = l
    · subst hk
      obtain ⟨hon, hheld, hcond, hrb⟩ := h.2 k
      rw [show d1.island.loop k = { y1 with rbFault := y.rbFault || bad } from loop_put_self x1 k _]
      exact ⟨hon, hheld, hcond, fun hz => hrb (Bool.or_eq_false_iff.1 hz).1⟩
    · rw [show d1.island.loop k = x.loop k from (loop_put_other x1 _ hk).trans (show smGet ({} : Loop) x1.loops k = smGet {} x.loops k by rw [hloops])]
      exact h.2 k
  clear_value d1
  split
  · have hf := flagged_work d1 0x3011 (0x100 + l) 4
    exact ⟨h1.1.trans (hf.part fun _ => rfl), fun k => by rw [show ((d1.event 0x3011 (0x100 + l)).orReg Adr.safFlags 4).island = d1.island from hf.island]; exact h1.2 k⟩
  · exact h1

/-! ### The decision of a cycle -/

/-- The channels' conditions of a loop. -/
def loopHolds (d : Dev) (l : Nat) : Bool := d.loopCondition l d.island.pair && d.loopCondition l d.island.pairB

/-- A group's configuration puts it on a loop. -/
def onLoop (d : Dev) (l g : Nat) : Prop := bit (d.grpCfg g).1 0 = true ∧ fld (d.grpCfg g).1 1 2 = l

/-- A group lets its loop be on. -/
def groupLets (d : Dev) (pair : Nat → Pair) (g : Nat) : Prop :=
  (d.island.group g).closed = true ∧ (∀ i ∈ lockPairs (d.grpCfg g).1, (pair i).value = true) ∧
    ∀ i ∈ groupPairs (d.grpCfg g).1 (d.grpCfg g).2, (pair i).fault = false

theorem loopCondition_iff (d : Dev) (l : Nat) (pair : Nat → Pair) : d.loopCondition l pair = true ↔
    d.sys.power = .run ∧ (d.pair.role = .unpaired ∨ d.pair.role = .active) ∧ d.island.comm = true ∧
    bit (d.reg (Adr.safLoopcfg l)) 0 = true ∧ (∃ g, g < 64 ∧ onLoop d l g) ∧ d.island.fault = 0 ∧ (d.island.loop l).rbFault = false ∧
    ∀ g, g < 64 → onLoop d l g → groupLets d pair g := by
  unfold Dev.loopCondition
  simp only [Bool.and_eq_true, beq_iff_eq, Bool.or_eq_true, Bool.not_eq_true', List.all_eq_true, List.mem_filter, List.mem_range, and_assoc,
    List.isEmpty_eq_false_iff, ne_eq, List.filter_eq_nil_iff, not_forall, exists_prop, not_not, and_imp, onLoop, groupLets]

/-- The condition of a loop depends on its own entry alone of the loops. -/
theorem loopCondition_work (h : IslandWork sansLoops d e) {l : Nat} (hl : l < 4) (hy : e.island.loop l = d.island.loop l) (pair : Nat → Pair) :
    e.loopCondition l pair = d.loopCondition l pair := by
  have hi {α : Type} (p : Island → α) (hp : ∀ x, p (sansLoops x) = p x) : p e.island = p d.island := by rw [← hp, h.island, hp]
  have hon (g : Nat) (hg : g < 64) : onLoop e l g ↔ onLoop d l g := by rw [onLoop, onLoop, grpCfg_work h hg]
  have hlet (g : Nat) (hg : g < 64) : groupLets e pair g ↔ groupLets d pair g := by
    rw [groupLets, groupLets, grpCfg_work h hg, hi (fun x => x.group g) fun _ => rfl]
  rw [Bool.eq_iff_iff, loopCondition_iff, loopCondition_iff, h.sys, h.pair, hi Island.comm fun _ => rfl, hi Island.fault fun _ => rfl, hy,
    h.reg _ ⟨by unfold Adr.safLoopcfg; omega, by unfold Adr.safLoopcfg; omega⟩]
  have hex : (∃ g, g < 64 ∧ onLoop e l g) ↔ ∃ g, g < 64 ∧ onLoop d l g := exists_congr fun g => and_congr_right fun hg => hon g hg
  have hall : (∀ g, g < 64 → onLoop e l g → groupLets e pair g) ↔ ∀ g, g < 64 → onLoop d l g → groupLets d pair g :=
    forall_congr' fun g => imp_congr_right fun hg => imp_congr (hon g hg) (hlet g hg)
  rw [hex, hall]

theorem loopHolds_work (h : IslandWork sansLoops d e) {l : Nat} (hl : l < 4) (hy : e.island.loop l = d.island.loop l) :
    loopHolds e l = loopHolds d l := by
  have hi {α : Type} (p : Island → α) (hp : ∀ x, p (sansLoops x) = p x) : p e.island = p d.island := by rw [← hp, h.island, hp]
  unfold loopHolds
  rw [loopCondition_work h hl hy, loopCondition_work h hl hy, hi Island.pair fun _ => rfl, hi Island.pairB fun _ => rfl]

/-- A loop as its cycle decides it. -/
def decided (d : Dev) (l : Nat) : Loop :=
  let y := d.island.loop l
  { y with cond := loopHolds d l, held := if loopHolds d l then y.held + 1 else 0, on := y.on && loopHolds d l }

theorem cycleLoop_eq (d : Dev) (l : Nat) : d.cycleLoop l = d.modIsland fun x => { x with loops := smPut x.loops l (decided d l) } := rfl

/-- The decisions of loops without repetition: each is that of the state before. -/
theorem cycleLoops_decided {ls : List Nat} (hn : ls.Nodup) (h4 : ∀ l ∈ ls, l < 4) (d : Dev) :
    IslandWork sansLoops d (ls.foldl (fun d l => d.cycleLoop l) d) ∧
      ∀ k, (ls.foldl (fun d l => d.cycleLoop l) d).island.loop k = if k ∈ ls then decided d k else d.island.loop k := by
  induction ls generalizing d with
  | nil => exact ⟨.refl _ _, fun _ => rfl⟩
  | cons l ls ih =>
    obtain ⟨hl, hn⟩ := List.nodup_cons.1 hn
    have hw : IslandWork sansLoops d (d.cycleLoop l) := cycleLoop_work (.refl _ _) l
    obtain ⟨h1, h2⟩ := ih hn (fun k hk => h4 k (List.mem_cons_of_mem l hk)) (d.cycleLoop l)
    refine ⟨hw.trans h1, fun k => (h2 k).trans ?_⟩
    by_cases hk : k = l
    · subst hk
      rw [if_neg hl, if_pos List.mem_cons_self, cycleLoop_eq]
      exact loop_put_self ..
    · have hy : (d.cycleLoop l).island.loop k = d.island.loop k := loop_put_other _ _ hk
      by_cases hm : k ∈ ls
      · rw [if_pos hm, if_pos (List.mem_cons_of_mem l hm), decided, decided, hy, loopHolds_work hw (h4 k (List.mem_cons_of_mem l hm)) hy]
      · rw [if_neg hm, if_neg (by rw [List.mem_cons, not_or]; exact ⟨hk, hm⟩), hy]

/-- The commands of four loops, as a word. -/
def outputsOf (b0 b1 b2 b3 : Bool) : BitVec 8 :=
  let w0 : BitVec 8 := if b0 then 0 ||| 3 else 0
  let w1 := if b1 then w0 ||| 12 else w0
  let w2 := if b2 then w1 ||| 48 else w1
  if b3 then w2 ||| 192 else w2

theorem outputsOf_bits : ∀ b0 b1 b2 b3 : Bool, let w := outputsOf b0 b1 b2 b3
    (w.getLsbD 0 = b0 ∧ w.getLsbD 1 = b0) ∧ (w.getLsbD 2 = b1 ∧ w.getLsbD 3 = b1) ∧ (w.getLsbD 4 = b2 ∧ w.getLsbD 5 = b2) ∧
      (w.getLsbD 6 = b3 ∧ w.getLsbD 7 = b3) := by decide

/-- The commands of the outputs: both of a loop, as it is on. -/
theorem soDecided_bits (x : Island) {l : Nat} (hl : l < 4) :
    x.soDecided.getLsbD (2 * l) = (x.loop l).on ∧ x.soDecided.getLsbD (2 * l + 1) = (x.loop l).on := by
  have h : x.soDecided = outputsOf (x.loop 0).on (x.loop 1).on (x.loop 2).on (x.loop 3).on := rfl
  obtain ⟨h0, h1, h2, h3⟩ := outputsOf_bits (x.loop 0).on (x.loop 1).on (x.loop 2).on (x.loop 3).on
  rw [h]
  interval_cases l
  · exact h0
  · exact h1
  · exact h2
  · exact h3

/-! ### The command of a cycle -/

section Command

/-- What a command of the island keeps: it ends faults, of axes and of loops. -/
structure CommandWork (d e : Dev) : Prop where
  work : IslandWork sansReset d e
  loop : ∀ k, (e.island.loop k).on = (d.island.loop k).on ∧ (e.island.loop k).held = (d.island.loop k).held ∧
    (e.island.loop k).cond = (d.island.loop k).cond ∧ ((d.island.loop k).rbFault = false → (e.island.loop k).rbFault = false)

theorem CommandWork.refl (d : Dev) : CommandWork d d := ⟨.refl _ _, fun _ => ⟨rfl, rfl, rfl, id⟩⟩

theorem CommandWork.sans (h : CommandWork d e) {f : Dev} (g : IslandWork sansAxes e f) : CommandWork d f :=
  ⟨h.work.trans (g.part fun _ => rfl), fun k => by
    rw [show f.island.loop k = e.island.loop k from
      show (sansAxes f.island).loop k = (sansAxes e.island).loop k from congrArg (fun x : Island => x.loop k) g.island]
    exact h.loop k⟩

theorem CommandWork.ackAxis (h : CommandWork d e) (n : Nat) : CommandWork d (e.ackAxis n).1 := by
  unfold Dev.ackAxis
  dsimp only
  split
  · exact h.sans (clearSafe_work (.refl _ _) n)
  · exact h

theorem CommandWork.resetAxis (h : CommandWork d e) (n : Nat) : CommandWork d (e.resetAxis n).1 := by
  unfold Dev.resetAxis
  split
  · exact h.sans (clearSafe_work (.refl _ _) n)
  · exact h

theorem CommandWork.resetLoop (h : CommandWork d e) (l : Nat) : CommandWork d (e.resetLoop l).1 := by
  unfold Dev.resetLoop
  dsimp only
  split
  · dsimp only
    refine ⟨h.work.modIsland _, fun k => ?_⟩
    by_cases hk : k = l
    · subst hk
      obtain ⟨hon, hheld, hcond, -⟩ := h.loop k
      rw [Dev.modIsland, loop_put_self]
      exact ⟨hon, hheld, hcond, fun _ => rfl⟩
    · rw [Dev.modIsland, loop_put_other _ _ hk]
      exact h.loop k
  · exact h

theorem CommandWork.each (h : CommandWork d e) (l : List Nat) {f : Dev → Nat → Dev × Bool}
    (hf : ∀ e n, CommandWork d e → CommandWork d (f e n).1) : CommandWork d (e.each l f).1 :=
  List.foldlRecOn (motive := fun r : Dev × Bool => CommandWork d r.1) l _ h fun r hr n _ => hf r.1 n hr

theorem CommandWork.ite1 {c : Prop} [Decidable c] {a b : Dev × Bool} (h : CommandWork d a.1) (g : CommandWork d b.1) :
    CommandWork d (if c then a else b).1 := by
  split
  · exact h
  · exact g

theorem CommandWork.status (h : CommandWork d e) (v : Word) : CommandWork d (e.setReg Adr.safCmdstat v) :=
  ⟨h.work.setReg (fun h => absurd h.1 (by decide)) v, h.loop⟩

theorem CommandWork.safCommand (h : CommandWork d e) (v : Word) : CommandWork d (e.safCommand v) := by
  unfold Dev.safCommand
  extract_lets stat all' one inState r1 r2 loops r3
  have hs {r : Dev × Bool} (hr : CommandWork d r.1) : CommandWork d (stat r) := hr.status _
  have h1 : CommandWork d r1.1 := .ite1 (h.each _ fun _ n k => k.ackAxis n) h
  have h2 : CommandWork d r2.1 := .ite1 (h1.each _ fun _ n k => k.resetAxis n) h1
  have h3 : CommandWork d r3.1 := .ite1 (h2.each _ fun _ n k => k.resetLoop n) h2
  split
  · exact hs h
  · exact hs h3

end Command

end Parts

/-! ### The whole cycle -/

/-- The cycle up to its decision. -/
def cycleHead (d : Dev) (diag : IslandDiag) : Dev :=
  ((List.range 64).foldl (fun d g => d.cycleGroup g)
    ((d.modIsland fun x => { x with cycleAt := some d.sys.frame }).cycleReadback (d.sys.frame.toNat / 16)).cyclePairs).cycleDiag diag

/-- The cycle with its decision, before the command. -/
def cycleDecided (d : Dev) (diag : IslandDiag) : Dev :=
  ((List.range 4).foldl (fun d l => d.cycleLoop l) (cycleHead d diag)).modIsland fun x => { x with soSent := x.soCmd, soCmd := x.soDecided }

/-- The cycle with its command. -/
def cycleCommanded (d : Dev) : Dev :=
  match d.island.cmd with
  | some v => (d.modIsland fun x => { x with cmd := none }).safCommand v
  | none => d

theorem safetyCycle_eq (d : Dev) (diag : IslandDiag) : d.safetyCycle diag =
    ((cycleCommanded (cycleDecided d diag)).axes'.foldl (fun d n => d.showSafe n) (cycleCommanded (cycleDecided d diag))).showCycle := rfl

theorem Stored.showCycle {d e : Dev} (h : Stored d e) : Stored d e.showCycle := by
  unfold Dev.showCycle
  extract_lets x d1 d2 d3 d4 d5
  have h1 : Stored d d1 := h.foldl fun _ _ k => k.islandChange _ _
  clear_value d1
  have h2 : Stored d d2 := h1.foldl fun _ _ k => k.islandChange _ _
  clear_value d2
  have h3 : Stored d d3 := h2.foldl fun _ _ k => (k.islandChange _ _).islandChange _ _
  clear_value d3
  have h4 : Stored d d4 := h3.foldl fun _ _ k => ((k.islandChange _ _).islandChange _ _).islandChange _ _
  clear_value d4
  exact ((h4.islandChange _ _).islandChange _ _).islandChange _ _

/-- The latches that only commands of the host and the turn of the cycle move. -/
def latches (x : Island) : Island := { comm := x.comm, cycleAt := x.cycleAt, cmd := x.cmd }

/-- What the cycle up to its decision leaves. -/
structure Head (d e : Dev) (diag : IslandDiag) : Prop where
  work : IslandWork latches (d.modIsland fun x => { x with cycleAt := some d.sys.frame }) e
  loop : ∀ k, sameLoop (d.island.loop k) (e.island.loop k)
  core : diag = .coreFault → e.island.fault ≠ 0
  fault : d.island.fault ≠ 0 → e.island.fault = d.island.fault
  locked : ∀ g, g < 64 → bit (d.grpCfg g).1 0 = true →
    (e.island.group g).locked = (lockPairs (d.grpCfg g).1).all fun i => (e.island.pair i).value

theorem part_eq {π : Island → Island} {d e : Dev} (h : IslandWork π d e) {α : Type} (p : Island → α) (hp : ∀ x, p (π x) = p x) :
    p e.island = p d.island := by
  rw [← hp, h.island, hp]

theorem cycleHead_spec (d : Dev) (diag : IslandDiag) : Head d (cycleHead d diag) diag := by
  unfold cycleHead
  generalize hd0 : (d.modIsland fun x => { x with cycleAt := some d.sys.frame }) = d0
  have hloop0 : ∀ k, d0.island.loop k = d.island.loop k := fun k => by rw [← hd0]; rfl
  have hfault0 : d0.island.fault = d.island.fault := by rw [← hd0]; rfl
  have hcfg0 : ∀ g, d0.grpCfg g = d.grpCfg g := fun g => by rw [← hd0]; rfl
  obtain ⟨hr, hrl⟩ := cycleReadback_loops d0 (d.sys.frame.toNat / 16)
  generalize d0.cycleReadback (d.sys.frame.toNat / 16) = r at hr hrl ⊢
  have hp : IslandWork sansPairs r r.cyclePairs := cyclePairs_work (.refl _ _)
  generalize r.cyclePairs = p at hp ⊢
  have hg : IslandWork sansGroups p ((List.range 64).foldl (fun d g => d.cycleGroup g) p) :=
    IslandWork.foldl (fun _ g k => cycleGroup_work k g) (.refl _ _)
  have hlock : ∀ g, g < 64 → bit (p.grpCfg g).1 0 = true → (((List.range 64).foldl (fun d g => d.cycleGroup g) p).island.group g).locked =
      (lockPairs (p.grpCfg g).1).all fun i => (p.island.pair i).value :=
    fun g h hb => cycleGroups_locked List.nodup_range (fun g h => List.mem_range.1 h) (List.mem_range.2 h) hb
  generalize (List.range 64).foldl (fun d g => d.cycleGroup g) p = q at hg hlock ⊢
  have he : IslandWork sansDiag q (q.cycleDiag diag) := cycleDiag_work (.refl _ _) diag
  obtain ⟨hcore, hkeep⟩ := cycleDiag_fault q diag
  generalize q.cycleDiag diag = e at he hcore hkeep ⊢
  have hfault : q.island.fault = d.island.fault :=
    (part_eq hg Island.fault fun _ => rfl).trans ((part_eq hp Island.fault fun _ => rfl).trans ((part_eq hr Island.fault fun _ => rfl).trans hfault0))
  have hwp : IslandWork latches d0 p := (hr.part fun _ => rfl).trans (hp.part fun _ => rfl)
  refine ⟨hd0 ▸ hwp.trans ((hg.part fun _ => rfl).trans (he.part fun _ => rfl)), fun k => ?_, hcore, fun h => ?_, fun g h64 hb => ?_⟩
  · rw [part_eq he (fun x => x.loop k) fun _ => rfl, part_eq hg (fun x => x.loop k) fun _ => rfl,
      part_eq hp (fun x => x.loop k) fun _ => rfl, ← hloop0]
    exact hrl k
  · rw [hkeep (by rw [hfault]; exact h), hfault]
  · have hc : p.grpCfg g = d.grpCfg g := (grpCfg_work hwp h64).trans (hcfg0 g)
    have hpair : ∀ i, e.island.pair i = p.island.pair i := fun i =>
      (part_eq he (fun x => x.pair i) fun _ => rfl).trans (part_eq hg (fun x => x.pair i) fun _ => rfl)
    rw [part_eq he (fun x => x.group g) fun _ => rfl, hlock g h64 (by rw [hc]; exact hb), hc]
    simp only [hpair]

/-- What the cycle and its command leave, before the signals are shown. -/
structure Done (h e : Dev) : Prop where
  sys : e.sys = h.sys
  comm : e.island.comm = h.island.comm
  cycleAt : e.island.cycleAt = h.island.cycleAt
  cmd : e.island.cmd = none
  fault : e.island.fault = h.island.fault
  group : ∀ g, e.island.group g = h.island.group g
  pair : ∀ i, e.island.pair i = h.island.pair i
  loop : ∀ l, l < 4 → (e.island.loop l).on = (decided h l).on ∧ (e.island.loop l).held = (decided h l).held ∧
    (e.island.loop l).cond = (decided h l).cond ∧ ((decided h l).rbFault = false → (e.island.loop l).rbFault = false)
  outputs : ∀ l, l < 4 → e.island.soCmd.getLsbD (2 * l) = (e.island.loop l).on ∧ e.island.soCmd.getLsbD (2 * l + 1) = (e.island.loop l).on

theorem cycleDecided_spec (d : Dev) (diag : IslandDiag) :
    let e := cycleDecided d diag
    let h := cycleHead d diag
    IslandWork (fun x => { sansLoops x with soSent := 0, soCmd := 0 }) h e ∧ (∀ l, l < 4 → e.island.loop l = decided h l) ∧
      e.island.soCmd = e.island.soDecided := by
  obtain ⟨hw, hl⟩ := cycleLoops_decided List.nodup_range (ls := List.range 4) (fun l h => List.mem_range.1 h) (cycleHead d diag)
  refine ⟨IslandWork.modIsland (hw.part fun _ => rfl) _, fun l h4 => (hl l).trans (if_pos (List.mem_range.2 h4)), rfl⟩

theorem cycleCommanded_spec (d : Dev) : (cycleCommanded d).island.cmd = none ∧
    CommandWork (d.modIsland fun x => { x with cmd := none }) (cycleCommanded d) := by
  unfold cycleCommanded
  cases hc : d.island.cmd with
  | none =>
    have hd : (d.modIsland fun x => { x with cmd := none }) = d := by
      unfold Dev.modIsland
      rw [← hc]
    rw [hd]
    exact ⟨hc, .refl _⟩
  | some v =>
    have hw := (CommandWork.refl (d.modIsland fun x => { x with cmd := none })).safCommand v
    exact ⟨part_eq hw.work Island.cmd fun _ => rfl, hw⟩

theorem cycle_done (d : Dev) (diag : IslandDiag) : Done (cycleHead d diag) (cycleCommanded (cycleDecided d diag)) := by
  obtain ⟨hw, hl, hso⟩ := cycleDecided_spec d diag
  obtain ⟨hcmd, hc⟩ := cycleCommanded_spec (cycleDecided d diag)
  generalize cycleCommanded (cycleDecided d diag) = c at hcmd hc ⊢
  generalize cycleDecided d diag = e at hw hl hso hc ⊢
  have hi {α : Type} (p : Island → α) (h1 : ∀ x, p (sansReset x) = p x) (h2 : ∀ x, p { x with cmd := none } = p x)
      (h3 : ∀ x, p { sansLoops x with soSent := 0, soCmd := 0 } = p x) : p c.island = p (cycleHead d diag).island :=
    (part_eq hc.work p h1).trans ((h2 e.island).trans (part_eq hw p h3))
  refine ⟨hc.work.sys.trans hw.sys, hi Island.comm (fun _ => rfl) (fun _ => rfl) fun _ => rfl,
    hi Island.cycleAt (fun _ => rfl) (fun _ => rfl) fun _ => rfl, hcmd, hi Island.fault (fun _ => rfl) (fun _ => rfl) fun _ => rfl,
    fun g => hi (fun x => x.group g) (fun _ => rfl) (fun _ => rfl) fun _ => rfl,
    fun i => hi (fun x => x.pair i) (fun _ => rfl) (fun _ => rfl) fun _ => rfl, fun l h4 => ?_, fun l h4 => ?_⟩
  · rw [← hl l h4]
    exact hc.loop l
  · have hs : c.island.soCmd = e.island.soDecided := (part_eq hc.work Island.soCmd fun _ => rfl).trans hso
    rw [hs, (hc.loop l).1]
    exact soDecided_bits e.island h4

theorem safetyCycle_stored (d : Dev) (diag : IslandDiag) : Stored (cycleCommanded (cycleDecided d diag)) (d.safetyCycle diag) := by
  rw [safetyCycle_eq]
  exact ((Stored.refl _).foldl fun _ _ k => k.showSafe _).showCycle

theorem cycleDecided_latches (d : Dev) (diag : IslandDiag) :
    (cycleDecided d diag).island.cmd = d.island.cmd ∧ (cycleDecided d diag).island.cycleAt = some d.sys.frame := by
  obtain ⟨hw, -⟩ := cycleDecided_spec d diag
  have hh := (cycleHead_spec d diag).work
  exact ⟨(part_eq hw Island.cmd fun _ => rfl).trans (part_eq hh Island.cmd fun _ => rfl),
    (part_eq hw Island.cycleAt fun _ => rfl).trans (part_eq hh Island.cycleAt fun _ => rfl)⟩

/-- The condition of a loop has held long enough, and holds. -/
def loopDue (d : Dev) (l : Nat) : Bool :=
  (d.island.loop l).cond && d.loopCondition l d.island.pair && d.loopCondition l d.island.pairB && !(d.island.loop l).on &&
    fld (d.reg (Adr.safLoopcfg l)) 16 10 ≤ (d.island.loop l).held

/-- The module with a loop switched on, before the signals are shown. -/
def loopSwitched (d : Dev) (l : Nat) : Dev :=
  (d.modIsland fun x => { x with loops := smPut x.loops l { d.island.loop l with on := true } }).modIsland fun x => { x with soCmd := x.soDecided }

/-- Settles O30: a loop's condition is decided on the state that the parts of the cycle before leave, and what follows keeps the decision. -/
theorem safetyLoops : Obligations.SafetyLoops := by
  intro s diag loop
  extract_lets d l names due outputs y switch
  have hx : exec (.safetyCycle diag) s = if s.dev.cycleDue then .next { s with dev := s.dev.safetyCycle diag } else .next s := rfl
  have hdue : s.dev.cycleDue = true ↔ due := by
    simp only [Dev.cycleDue, Bool.and_eq_true, beq_iff_eq, bne_iff_ne, and_assoc]
    exact Iff.rfl
  have h4 : l < 4 := loop.isLt
  refine ⟨fun v h hv => ?_, fun h => ?_, fun h => hx.trans (if_neg (mt hdue.1 h)), ?_⟩
  · obtain ⟨hcmd, hat⟩ := cycleDecided_latches d diag
    refine ⟨(cycleDecided d diag).modIsland fun x => { x with cmd := none }, rfl, hat, hx.trans ((if_pos (hdue.2 h)).trans ?_)⟩
    have hc : cycleCommanded (cycleDecided d diag) = ((cycleDecided d diag).modIsland fun x => { x with cmd := none }).safCommand v := by
      unfold cycleCommanded
      rw [hcmd, hv]
    rw [← hc]
    rfl
  · have hh := cycleHead_spec d diag
    have hd := cycle_done d diag
    have hs := safetyCycle_stored d diag
    have hx' := hx.trans (if_pos (hdue.2 h))
    change exec _ s = .next { s with dev := d.safetyCycle diag } at hx'
    generalize d.safetyCycle diag = e at hs hx'
    generalize cycleCommanded (cycleDecided d diag) = c at hs hd
    generalize cycleHead d diag = h at hh hd
    have hi : e.island = c.island := hs.island
    obtain ⟨hon, hheld, hcond, hrb⟩ := hd.loop l h4
    obtain ⟨hon0, hheld0, -, hrb0⟩ := hh.loop l
    have hcomm : c.island.comm = d.island.comm := hd.comm.trans (part_eq hh.work Island.comm fun _ => rfl)
    have hc : (c.island.loop l).cond = loopHolds h l := hcond
    have hon' : (c.island.loop l).on = ((d.island.loop l).on && loopHolds h l) := hon.trans (by rw [← hon0]; rfl)
    have hheld' : (c.island.loop l).held = if loopHolds h l = true then (d.island.loop l).held + 1 else 0 := hheld.trans (by rw [← hheld0]; rfl)
    refine answers_next hx' ⟨?_, ?_, ?_, ⟨?_, ?_⟩, fun ho => ?_, fun hcore => ?_, fun hf => ?_, ?_, ?_⟩
    · change _ = (e.island.loop l).on ∧ _ = (e.island.loop l).on
      rw [hi]
      exact hd.outputs l h4
    · rw [hi, hd.cmd]
    · rw [hi, hd.cycleAt]
      exact part_eq hh.work Island.cycleAt fun _ => rfl
    · rw [hi, hc]
      exact hon'
    · rw [hi, hc]
      exact hheld'
    · rw [hi, hon', Bool.and_eq_true] at ho
      obtain ⟨hwas, hlet⟩ := ho
      obtain ⟨hpow, hrole, hcm, hen, ⟨g, hg, hgon⟩, hfault, hrbf, hall⟩ := (loopCondition_iff _ _ _).1 (Bool.and_eq_true_iff.1 hlet).1
      have hcfg : ∀ g, g < 64 → h.grpCfg g = d.grpCfg g := fun g hg => grpCfg_work hh.work hg
      rw [hh.work.sys] at hpow
      rw [hh.work.pair] at hrole
      rw [hh.work.reg _ ⟨by unfold Adr.safLoopcfg; omega, by unfold Adr.safLoopcfg; omega⟩] at hen
      rw [onLoop, hcfg g hg] at hgon
      rw [hi]
      refine ⟨hwas, hpow, hrole, hcomm.symm.trans (hd.comm.trans hcm), hen, hd.fault.trans hfault, hrb hrbf, ⟨g, hg, hgon⟩, fun g hg hn => ?_⟩
      obtain ⟨hclosed, hlock, hpairs⟩ := hall g hg (by rw [onLoop, hcfg g hg]; exact hn)
      rw [hcfg g hg] at hlock hpairs
      refine ⟨by rw [hd.group]; exact hclosed, ?_, fun i hm => by rw [hd.pair]; exact hpairs i hm⟩
      rw [hd.group, hh.locked g hg hn.1]
      exact List.all_eq_true.2 hlock
    · rw [hi, hd.fault]
      exact hh.core hcore
    · rw [hi, hd.fault]
      exact hh.fault hf
    · rw [hi, hcomm]
    · rw [hs.sys, hd.sys, hh.work.sys]
      rfl

  · have hx : exec (.loopSwitchOn loop) s = if loopDue d l then .next { s with dev := (loopSwitched d l).showCycle } else .next s := rfl
    have hb : loopDue d l = true ↔ switch := by
      simp only [loopDue, Bool.and_eq_true, Bool.not_eq_true', decide_eq_true_eq, and_assoc]
      exact Iff.rfl
    refine ⟨fun h => ?_, fun h => hx.trans (if_neg (mt hb.1 h))⟩
    have hs : Stored (loopSwitched d l) (loopSwitched d l).showCycle := (Stored.refl _).showCycle
    have hx' := hx.trans (if_pos (hb.2 h))
    generalize (loopSwitched d l).showCycle = e at hs hx'
    refine answers_next hx' ⟨?_, ?_, fun k hk => ?_⟩
    · rw [hs.island]
      exact loop_put_self ..
    · change _ = (e.island.loop l).on ∧ _ = (e.island.loop l).on
      rw [hs.island]
      exact soDecided_bits (loopSwitched d l).island h4
    · rw [hs.island]
      exact loop_put_other _ _ hk

end Sys2Proof.Proofs
end

section
/-! SUPPORT. SAF_CMD (R233, R242, R260): its word taken apart, and what it clears. -/

namespace Sys2Proof.Proofs

open Sys2Proof.Machine Sys2Proof.Safety

/-! ### The clearing of monitors -/

/-- TORQUEOFF of an axis at standstill. -/
def ackable (x : AxSafe) (a : Axis) : Bool := x.st == .torqueOff && a.motion.v == 0 && a.estim.speed == 0

/-- FAULT of an axis that is off long enough. -/
def resettable (x : AxSafe) (_ : Axis) : Bool := x.st == .fault && 16 ≤ x.offFrames

/-- A monitor is cleared where a test of it and its axis holds. -/
def clears (c : AxSafe → Axis → Bool) (d : Dev) (n : Nat) : Dev × Bool :=
  if c (d.safe n) (d.axis n) then (d.clearSafe n, true) else (d, false)

theorem ackAxis_eq : Dev.ackAxis = clears ackable := rfl

theorem resetAxis_eq : Dev.resetAxis = clears resettable := rfl

theorem each_singleton (d : Dev) (n : Nat) (f : Dev → Nat → Dev × Bool) : d.each [n] f = ((f d n).1, true && (f d n).2) := rfl

/-- Actions one after another, from a module and what has been taken so far. -/
def eachFrom (r : Dev × Bool) (l : List Nat) (f : Dev → Nat → Dev × Bool) : Dev × Bool :=
  l.foldl (fun (s : Dev × Bool) n => let r := f s.1 n; (r.1, s.2 && r.2)) r

theorem eachFrom_cons (d : Dev) (b : Bool) (n : Nat) (l : List Nat) (f : Dev → Nat → Dev × Bool) :
    eachFrom (d, b) (n :: l) f = eachFrom ((f d n).1, b && (f d n).2) l f := rfl

section Clears

variable {c : AxSafe → Axis → Bool} {d : Dev}

theorem clears_work (d : Dev) (n : Nat) : IslandWork sansAxes d (clears c d n).1 := by
  unfold clears
  split
  · exact clearSafe_work (.refl _ _) n
  · exact .refl _ _

theorem each_clears_work (d : Dev) (l : List Nat) : IslandWork sansAxes d (d.each l (clears c)).1 :=
  List.foldlRecOn (motive := fun r : Dev × Bool => IslandWork sansAxes d r.1) l _ (.refl _ _) fun r hr n _ => hr.trans (clears_work r.1 n)

/-- A cleared monitor is not cleared again; the others keep their states. -/
theorem eachFrom_clears_state (hc : ∀ x a, x.st = .clear → c x a = false) (l : List Nat) (d : Dev) (b : Bool) (k : Nat) :
    ((eachFrom (d, b) l (clears c)).1.safe k).st = if k ∈ l ∧ c (d.safe k) (d.axis k) = true then .clear else (d.safe k).st := by
  induction l generalizing d b with
  | nil => exact (if_neg fun h => absurd h.1 List.not_mem_nil).symm
  | cons n l ih =>
    rw [eachFrom_cons, ih (clears c d n).1]
    unfold clears
    by_cases hn : c (d.safe n) (d.axis n) = true
    · rw [if_pos hn]
      dsimp only
      obtain ⟨hst, hoth, hax⟩ := clearSafe_cleared d n
      by_cases hk : k = n
      · subst hk
        have hno := hc _ ((d.clearSafe k).axis k) hst
        rw [if_neg (fun h => Bool.false_ne_true (hno.symm.trans h.2)), if_pos ⟨List.mem_cons_self, hn⟩, hst]
      · rw [hoth k hk, show (d.clearSafe n).axis k = d.axis k by rw [Dev.axis, hax]; rfl]
        simp only [List.mem_cons, hk, false_or]
    · rw [if_neg hn]
      by_cases hk : k = n
      · subst hk
        rw [if_neg (fun h => hn h.2), if_neg (fun h => hn h.2)]
      · simp only [List.mem_cons, hk, false_or]

end Clears

/-! ### The reset of loops -/

section Resets

variable {d : Dev}

/-- A loop's fault may end. -/
def loopResettable (y : Loop) : Bool := y.rbFault && 16 ≤ y.offCycles

theorem resetLoop_eq (d : Dev) (l : Nat) : d.resetLoop l = if loopResettable (d.island.loop l) then
    (d.modIsland fun x => { x with loops := smPut x.loops l { d.island.loop l with rbFault := false, mismEven := 0, mismOdd := 0 } }, true)
  else (d, false) := rfl

theorem resetLoop_safe (d : Dev) (l k : Nat) : (d.resetLoop l).1.safe k = d.safe k := by
  rw [resetLoop_eq]
  split <;> rfl

theorem each_resetLoop_safe (d : Dev) (l : List Nat) (k : Nat) : (d.each l Dev.resetLoop).1.safe k = d.safe k :=
  List.foldlRecOn (motive := fun r : Dev × Bool => r.1.safe k = d.safe k) l _ rfl fun r hr n _ => (resetLoop_safe r.1 n k).trans hr

theorem eachFrom_resetLoop_fault (l : List Nat) (d : Dev) (b : Bool) (k : Nat) :
    ((eachFrom (d, b) l Dev.resetLoop).1.island.loop k).rbFault = true ↔
    (d.island.loop k).rbFault = true ∧ ¬(k ∈ l ∧ loopResettable (d.island.loop k) = true) := by
  induction l generalizing d b with
  | nil => exact ⟨fun h => ⟨h, fun hk => absurd hk.1 List.not_mem_nil⟩, And.left⟩
  | cons n l ih =>
    rw [eachFrom_cons, ih (d.resetLoop n).1, resetLoop_eq]
    by_cases hn : loopResettable (d.island.loop n) = true
    · rw [if_pos hn]
      dsimp only [Dev.modIsland]
      by_cases hk : k = n
      · subst hk
        rw [loop_put_self]
        exact ⟨fun h => absurd h.1 nofun, fun h => absurd ⟨List.mem_cons_self, hn⟩ h.2⟩
      · rw [loop_put_other _ _ hk]
        simp only [List.mem_cons, hk, false_or]
    · rw [if_neg hn]
      by_cases hk : k = n
      · subst hk
        simp only [hn, and_false, Bool.false_eq_true]
      · simp only [List.mem_cons, hk, false_or]

end Resets

/-! ### The command taken apart -/

/-- SAF_CMD with its key, by its bits. -/
def commandOf (d : Dev) (all ack reset loop : Bool) (one : Nat) : Dev × Bool :=
  let inState (st : SafeState) : List Nat := if all then d.axes'.filter fun n => (d.safe n).st == st else [one]
  let r1 := if ack then d.each (inState .torqueOff) Dev.ackAxis else (d, true)
  let r2 := if reset && (all || !loop) then r1.1.each (inState .fault) Dev.resetAxis else (r1.1, true)
  let loops := if all then (List.range 4).filter fun l => (d.island.loop l).rbFault else [one % 4]
  let r3 := if reset && (all || loop) then r2.1.each loops Dev.resetLoop else (r2.1, true)
  (r3.1, r1.2 && r2.2 && r3.2)

/-- The module with the status of a command. -/
def answered (r : Dev × Bool) : Dev := r.1.setReg Adr.safCmdstat (if r.2 then 0 else 0x3034)

theorem safCommand_of {d : Dev} {v : Word} {all ack reset loop : Bool} {one : Nat}
    (h : fld v 24 8 = 0x3C ∧ bit v 12 = all ∧ bit v 13 = ack ∧ bit v 14 = reset ∧ bit v 15 = loop ∧ fld v 0 9 = one) :
    d.safCommand v = answered (commandOf d all ack reset loop one) := by
  obtain ⟨hk, rfl, rfl, rfl, rfl, rfl⟩ := h
  exact if_neg (not_not.2 hk)

theorem safCommand_key {d : Dev} {v : Word} (h : fld v 24 8 ≠ 0x3C) : d.safCommand v = answered (d, false) := if_pos h

/-- The fields of a word of SAF_CMD with its key, by its number. -/
theorem word_fields {v : Word} {b i : Nat} (hv : v.toNat = 0x3C000000 + 0x1000 * b + i) (hi : i < 512) (hb : b < 16) :
    fld v 24 8 = 0x3C ∧ bit v 12 = decide (b % 2 = 1) ∧ bit v 13 = decide (b / 2 % 2 = 1) ∧ bit v 14 = decide (b / 4 % 2 = 1) ∧
      bit v 15 = decide (b / 8 % 2 = 1) ∧ fld v 0 9 = i := by
  simp only [bit_eq, fld, hv, Nat.shiftRight_eq_div_pow]
  refine ⟨?_, decide_eq_decide.2 ?_, decide_eq_decide.2 ?_, decide_eq_decide.2 ?_, decide_eq_decide.2 ?_, ?_⟩ <;> omega

theorem word_toNat {b i : Nat} (hi : i < 512) (hb : b < 16) : (BitVec.ofNat 32 (0x3C000000 + 0x1000 * b + i)).toNat = 0x3C000000 + 0x1000 * b + i := by
  rw [BitVec.toNat_ofNat]
  omega

theorem ack_word (d : Dev) {n : Nat} (hn : n < 512) : d.safCommand (BitVec.ofNat 32 (0x3C000000 + 0x2000 + n)) = answered (clears ackable d n) := by
  rw [safCommand_of (word_fields (b := 2) (word_toNat hn (by decide)) hn (by decide))]
  simp [commandOf, each_singleton, ackAxis_eq]

theorem reset_word (d : Dev) {n : Nat} (hn : n < 512) : d.safCommand (BitVec.ofNat 32 (0x3C000000 + 0x4000 + n)) = answered (clears resettable d n) := by
  rw [safCommand_of (word_fields (b := 4) (word_toNat hn (by decide)) hn (by decide))]
  simp [commandOf, each_singleton, resetAxis_eq]

theorem loop_word (d : Dev) {l : Nat} (hl : l < 4) : d.safCommand (BitVec.ofNat 32 (0x3C000000 + 0xC000 + l)) = answered (d.resetLoop l) := by
  have h5 : l < 512 := by omega
  rw [safCommand_of (word_fields (b := 12) (word_toNat h5 (by decide)) h5 (by decide))]
  simp [commandOf, each_singleton, Nat.mod_eq_of_lt hl]

theorem ackAll_word (d : Dev) : d.safCommand 0x3C003000 =
    answered (d.each (d.axes'.filter fun n => (d.safe n).st == .torqueOff) (clears ackable)) := by
  rw [safCommand_of (word_fields (b := 3) (i := 0) (by decide) (by decide) (by decide))]
  simp [commandOf, ackAxis_eq]

theorem resetAll_word (d : Dev) : ∃ b, d.safCommand 0x3C005000 =
    answered (((d.each (d.axes'.filter fun n => (d.safe n).st == .fault) (clears resettable)).1.each
      ((List.range 4).filter fun l => (d.island.loop l).rbFault) Dev.resetLoop).1, b) := by
  rw [safCommand_of (word_fields (b := 5) (i := 0) (by decide) (by decide) (by decide))]
  exact ⟨_, rfl⟩

theorem clears_pos {c : AxSafe → Axis → Bool} {d : Dev} {n : Nat} (h : c (d.safe n) (d.axis n) = true) :
    let e := answered (clears c d n)
    (e.safe n).st = .clear ∧ e.reg Adr.safCmdstat = 0 ∧ ∀ k, k ≠ n → e.safe k = d.safe k := by
  unfold clears
  rw [if_pos h]
  obtain ⟨hst, hoth, -⟩ := clearSafe_cleared d n
  exact ⟨hst, reg_setReg_self .., hoth⟩

theorem clears_neg {c : AxSafe → Axis → Bool} {d : Dev} {n : Nat} (h : c (d.safe n) (d.axis n) = false) :
    answered (clears c d n) = d.setReg Adr.safCmdstat 0x3034 := by
  unfold clears
  rw [h]
  rfl

theorem answered_status (r : Dev × Bool) (n : Nat) : (answered r).safe n = r.1.safe n ∧ (answered r).island = r.1.island := ⟨rfl, rfl⟩

theorem ackable_clear (x : AxSafe) (a : Axis) (h : x.st = .clear) : ackable x a = false := by
  rw [ackable, h]
  rfl

theorem resettable_clear (x : AxSafe) (a : Axis) (h : x.st = .clear) : resettable x a = false := by
  rw [resettable, h]
  rfl

theorem ackable_iff (x : AxSafe) (a : Axis) : ackable x a = true ↔ x.st = .torqueOff ∧ a.motion.v = 0 ∧ a.estim.speed = 0 := by
  simp only [ackable, Bool.and_eq_true, beq_iff_eq, and_assoc]

theorem resettable_iff (x : AxSafe) (a : Axis) : resettable x a = true ↔ x.st = .fault ∧ 16 ≤ x.offFrames := by
  simp only [resettable, Bool.and_eq_true, beq_iff_eq, decide_eq_true_eq]

theorem loopResettable_iff (y : Loop) : loopResettable y = true ↔ y.rbFault = true ∧ 16 ≤ y.offCycles := by
  simp only [loopResettable, Bool.and_eq_true, decide_eq_true_eq]

/-- A command to all clears what is in the state concerned and meets its condition. -/
theorem eachInState_state {c : AxSafe → Axis → Bool} {d : Dev} (hc : ∀ x a, x.st = .clear → c x a = false) {st : SafeState}
    (hst : ∀ x a, c x a = true → x.st = st) {k : Nat} (hk : k ∈ d.axes') :
    ((d.each (d.axes'.filter fun n => (d.safe n).st == st) (clears c)).1.safe k).st =
      if c (d.safe k) (d.axis k) = true then .clear else (d.safe k).st := by
  refine (eachFrom_clears_state hc _ d true k).trans (if_congr ⟨And.right, fun h => ⟨?_, h⟩⟩ rfl rfl)
  exact List.mem_filter.2 ⟨hk, beq_iff_eq.2 (hst _ _ h)⟩

theorem resetAll_fault (d : Dev) {l : Nat} (hl : l < 4) : ((d.safCommand 0x3C005000).island.loop l).rbFault = true ↔
    (d.island.loop l).rbFault = true ∧ (d.island.loop l).offCycles < 16 := by
  obtain ⟨b, h⟩ := resetAll_word d
  have hw := each_clears_work (c := resettable) d (d.axes'.filter fun n => (d.safe n).st == .fault)
  have hloop : (d.each (d.axes'.filter fun n => (d.safe n).st == .fault) (clears resettable)).1.island.loop l = d.island.loop l :=
    part_eq hw (fun x => x.loop l) fun _ => rfl
  rw [h]
  refine (eachFrom_resetLoop_fault _ _ true l).trans ?_
  rw [hloop, loopResettable_iff, List.mem_filter, List.mem_range]
  constructor
  · rintro ⟨hr, hn⟩
    exact ⟨hr, not_le.1 fun h16 => hn ⟨⟨hl, hr⟩, hr, h16⟩⟩
  · rintro ⟨hr, h16⟩
    exact ⟨hr, fun h => absurd h.2.2 (not_le.2 h16)⟩

theorem resetLoop_pos {d : Dev} {l : Nat} (h : loopResettable (d.island.loop l) = true) :
    let e := answered (d.resetLoop l)
    (e.island.loop l).rbFault = false ∧ e.reg Adr.safCmdstat = 0 ∧ ∀ k, k ≠ l → e.island.loop k = d.island.loop k := by
  rw [resetLoop_eq, if_pos h]
  exact ⟨congrArg Loop.rbFault (loop_put_self d.island l _), reg_setReg_self .., fun k hk => loop_put_other d.island _ hk⟩

theorem resetLoop_neg {d : Dev} {l : Nat} (h : loopResettable (d.island.loop l) = false) :
    answered (d.resetLoop l) = d.setReg Adr.safCmdstat 0x3034 := by
  rw [resetLoop_eq, h]
  rfl

/-- Settles O31: one test for each axis or loop named, and none for what the command does not name. -/
theorem safetyCommands : Obligations.SafetyCommands := by
  intro s v axis loop
  extract_lets d n l isl waits refuses word stopped
  have hn : n < 512 := axis.isLt
  have hl : l < 4 := loop.isLt
  have ha : exec (.safCmdAck v) s = if bit v 13 then .next { s with dev := d.safCmdWrite v } else .next s := rfl
  have hr : exec (.safCmdReset v) s = if bit v 14 && !bit v 15 then .next { s with dev := d.safCmdWrite v } else .next s := rfl
  have ho : exec (.safCmdLoopReset v) s = if bit v 14 && bit v 15 then .next { s with dev := d.safCmdWrite v } else .next s := rfl
  have hack : ackable (d.safe n) (d.axis n) = true ↔ (d.safe n).st = .torqueOff ∧ stopped := ackable_iff ..
  have hres := resettable_iff (d.safe n) (d.axis n)
  have hlr := loopResettable_iff (d.island.loop l)
  refine ⟨fun h => ha.trans (if_pos h), fun h h' => hr.trans (if_pos ?_), fun h h' => ho.trans (if_pos ?_), fun h => ha.trans (if_neg ?_),
    fun h => hr.trans (if_neg ?_), fun h => ho.trans (if_neg ?_), fun h => ?_, fun k hk => ?_, fun k hk => ?_, resetAll_fault d hl,
    fun h h' => ?_, fun h => ?_, fun h h' => ?_, fun h => ?_, fun h h' => ?_, fun h => ?_⟩
  · rw [bit, bit, h, h']; rfl
  · rw [bit, bit, h, h']; rfl
  · rw [bit, h]; nofun
  · rw [bit, bit, Bool.and_eq_true, Bool.not_eq_true']
    rintro ⟨h1, h2⟩
    exact h.elim (fun h => Bool.false_ne_true (h.symm.trans h1)) fun h => Bool.false_ne_true (h2.symm.trans h)
  · rw [bit, bit, Bool.and_eq_true]
    rintro ⟨h1, h2⟩
    exact h.elim (fun h => Bool.false_ne_true (h.symm.trans h1)) fun h => Bool.false_ne_true (h.symm.trans h2)
  · refine safCommand_key ?_
    rw [fld, Nat.shiftRight_eq_div_pow, Nat.mod_eq_of_lt (by have := v.isLt; omega)]
    exact h
  · rw [ackAll_word, (answered_status _ k).1, eachInState_state ackable_clear (fun x a h => ((ackable_iff x a).1 h).1) hk]
    simp only [ackable_iff]
  · obtain ⟨b, hb⟩ := resetAll_word d
    rw [hb, (answered_status _ k).1, each_resetLoop_safe, eachInState_state resettable_clear (fun x a h => ((resettable_iff x a).1 h).1) hk]
    simp only [resettable_iff]
  · have := clears_pos (hack.2 ⟨h, h'⟩)
    rw [← ack_word d hn] at this
    exact this
  · have := clears_neg (Bool.eq_false_iff.2 (mt hack.1 fun hc => h.elim (fun h => h hc.1) fun h => h hc.2))
    rw [← ack_word d hn] at this
    exact this
  · have := clears_pos (hres.2 ⟨h, h'⟩)
    rw [← reset_word d hn] at this
    exact this
  · have := clears_neg (Bool.eq_false_iff.2 (mt hres.1 fun hc => h.elim (fun h => h hc.1) fun h => absurd hc.2 (not_le.2 h)))
    rw [← reset_word d hn] at this
    exact this
  · have := resetLoop_pos (hlr.2 ⟨h, h'⟩)
    rw [← loop_word d hl] at this
    exact this
  · have := resetLoop_neg (Bool.eq_false_iff.2 (mt hlr.1 fun hc => h.elim (fun h => Bool.false_ne_true (h.symm.trans hc.1)) fun h => absurd hc.2 (not_le.2 h)))
    rw [← loop_word d hl] at this
    exact this

end Sys2Proof.Proofs
end

section
/-! SUPPORT. The request at the front of the host's queue (R319), and the parameter set of the island (R250–R252). -/

namespace Sys2Proof.Proofs

open Sys2Proof.Machine Sys2Proof.Safety

/-! ### The request that executes -/

section Serve

variable {test : VReq → Bool} {f : Dev → VReq → Dev × Nat × List Byte} {s : State} {q : VReq}

theorem vhpFront_of_fronts (h : fronts s q) : s.dev.vhpFront test = if test q then some q else none := by
  obtain ⟨hq, he, hu⟩ := h
  obtain ⟨l, hl⟩ := List.head?_eq_some_iff.mp hq
  unfold Dev.vhpFront
  rw [hl]
  simp only [he, hu, Bool.not_false, Bool.true_and]

theorem fronts_of_vhpFront (h : s.dev.vhpFront test = some q) : fronts s q ∧ test q = true := by
  unfold Dev.vhpFront at h
  cases hl : s.dev.host.queue with
  | nil => simp only [hl] at h; cases h
  | cons y l =>
    simp only [hl, Option.ite_none_right_eq_some, Option.some.injEq, Bool.and_eq_true, Bool.not_eq_true'] at h
    obtain ⟨⟨⟨he, hu⟩, ht⟩, rfl⟩ := h
    exact ⟨⟨by rw [hl]; rfl, he, hu⟩, ht⟩

/-- A request that is accepted is answered with its status and its payload, after its effect. -/
theorem vhpServe_done (hq : fronts s q) (ht : test q = true) (ha : s.dev.vhpAccept q.vtype q.payload = 0) :
    vhpServe test f s = .next { s with dev := (f s.dev q).1.respond q (f s.dev q).2.1 (f s.dev q).2.2 s.dev.sys.frame } := by
  unfold vhpServe Dev.vhpRun
  rw [vhpFront_of_fronts hq, if_pos ht]
  simp only [ha, ne_eq, not_true_eq_false, if_false]

theorem vhpServe_refused (hq : fronts s q) (ht : test q = true) (ha : s.dev.vhpAccept q.vtype q.payload ≠ 0) :
    vhpServe test f s = .next { s with dev := s.dev.respond q (s.dev.vhpAccept q.vtype q.payload) [] s.dev.sys.frame } := by
  unfold vhpServe Dev.vhpRun
  rw [vhpFront_of_fronts hq, if_pos ht]
  simp only [ha, ne_eq, not_false_eq_true, if_true]

theorem vhpServe_ignored (h : ∀ y, fronts s y → test y = false) : vhpServe test f s = .next s := by
  unfold vhpServe
  cases hy : s.dev.vhpFront test with
  | none => rfl
  | some y =>
    obtain ⟨hf, ht⟩ := fronts_of_vhpFront hy
    exact absurd ht (by rw [h y hf]; exact Bool.false_ne_true)

/-- What a served request's answer says, from its effect. -/
theorem serves_of {i : Instr} {st : Nat} {p : List Byte} {e : Dev} {post : Dev → Prop} (hi : exec i s = vhpServe test f s)
    (hq : fronts s q) (ht : test q = true) (ha : s.dev.vhpAccept q.vtype q.payload = 0) (hf : f s.dev q = (e, st, p)) (hp : post e) :
    Serves i s q st p post :=
  ⟨e, by rw [hi, vhpServe_done hq ht ha, hf], hp⟩

end Serve

/-! ### The parameter set -/

section Parameters

variable {d : Dev}

theorem safUnlocked_iff : d.safUnlocked = true ↔ d.sys.power = .idle ∧ ∃ t, d.island.unlockedAt = some t ∧ d.now < t + 10000 := by
  unfold Dev.safUnlocked
  cases d.island.unlockedAt <;> simp

/-- The registers of a module in which a parameter is stored. -/
def storedParameter (d : Dev) (a : Nat) (w : Word) : Dev := (d.beginStore.setReg a w).setReg Adr.safCmdstat 0

theorem safWrite_open {a : Nat} {v : Word} {r : RegRow} (hr : rowOf a = some r) (hu : d.safUnlocked = true) :
    d.safWrite a v = (storedParameter d a (v &&& wordOfNat r.mask)).modIsland fun x => { x with comm := false, chkBusy := true } := by
  simp only [Dev.safWrite, hr, hu, if_true, storedParameter]

theorem safWrite_closed {a : Nat} {v : Word} {r : RegRow} (hr : rowOf a = some r) (hu : ¬d.safUnlocked = true) :
    d.safWrite a v = d.setReg Adr.safCmdstat 0x3030 := by
  simp only [Dev.safWrite, hr, hu, if_false, Bool.false_eq_true]

theorem safWrite_reg {a b : Nat} {v : Word} {r : RegRow} (hr : rowOf a = some r) (hu : d.safUnlocked = true) (ha : a ≠ Adr.safCmdstat) :
    (d.safWrite a v).reg a = v &&& BitVec.ofNat 32 r.mask ∧ (d.safWrite a v).reg Adr.safCmdstat = 0 ∧
      (b ≠ a → b ≠ Adr.safCmdstat → (d.safWrite a v).reg b = d.reg b) := by
  rw [safWrite_open hr hu]
  refine ⟨?_, ?_, fun hb hc => ?_⟩ <;> show (storedParameter d a _).reg _ = _
  · exact (reg_setReg_other _ _ ha).trans (reg_setReg_self _ _ _)
  · exact reg_setReg_self _ _ _
  · exact (reg_setReg_other _ _ hc).trans (reg_setReg_other _ _ hb)

/-- The set, its mode and the pairs of the hard-wired logic once a check value is accepted. -/
def commissioned (d : Dev) : Dev :=
  d.beginStore.modIsland fun x => { x with comm := true, mode := bit (d.reg Adr.safMode) 0, pairsB := x.pairs }

theorem commission_accepted {v : Word} (hp : d.sys.power = .idle) (hb : d.island.chkBusy = false) (hv : v = d.island.check) :
    d.commission v = ((commissioned d).event 0x3035 0xFFFF (leBytes 4 v.toNat ++ leBytes 1 (b2n (bit (d.reg Adr.safMode) 0)) ++ [0, 0, 0]), 0) := by
  unfold Dev.commission
  rw [if_pos (by rw [hp, hb, hv]; simp)]
  rfl

theorem commission_refused {v : Word} (h : d.sys.power ≠ .idle ∨ d.island.chkBusy = true ∨ v ≠ d.island.check) :
    d.commission v = (d, 0x3031) := by
  unfold Dev.commission
  rw [if_neg]
  rintro hc
  simp only [Bool.and_eq_true, Bool.not_eq_true', beq_iff_eq] at hc
  obtain ⟨⟨hp, hb⟩, hv⟩ := hc
  obtain h | h | h := h
  · exact h hp
  · exact absurd (hb.symm.trans h) Bool.false_ne_true
  · exact h hv

theorem leBytes_bit (w : Word) : leBytes 1 (b2n (bit w 0)) = [BitVec.ofNat 8 w.toNat &&& 1] := by
  have hw : w.getLsbD 0 = decide (w.toNat % 2 = 1) := by simp [BitVec.getLsbD, Nat.testBit_zero]
  have hm : (BitVec.ofNat 8 w.toNat &&& 1 : Byte) = BitVec.ofNat 8 (w.toNat % 2) := by
    apply BitVec.eq_of_toNat_eq
    simp only [BitVec.toNat_and, BitVec.toNat_ofNat, BitVec.ofNat_eq_ofNat]
    rw [show 1 % 2 ^ 8 = 1 from rfl, Nat.and_one_is_mod]
    omega
  rw [hm]
  unfold leBytes b2n bit
  rw [hw]
  obtain h | h := Nat.mod_two_eq_zero_or_one w.toNat <;> simp [h]

end Parameters

theorem commission_serves {s : State} {q : VReq} (hq : fronts s q) (ht : q.vtype = 0x06) (ha : s.dev.vhpAccept 0x06 q.payload = 0)
    (hp : s.dev.sys.power = .idle) (hb : s.dev.island.chkBusy = false) (hv : BitVec.ofNat 32 (leAt q.payload 0 4) = s.dev.island.check) :
    Serves .commission s q 0 [] fun d' =>
      d'.island.comm = true ∧ d'.island.mode = (s.dev.reg Adr.safMode).getLsbD 0 ∧ ∃ d1 : Dev, d1.recorder = s.dev.recorder ∧
        d' = d1.event 0x3035 0xFFFF (leBytes 4 (BitVec.ofNat 32 (leAt q.payload 0 4)).toNat ++
          [BitVec.ofNat 8 (s.dev.reg Adr.safMode).toNat &&& 1, 0, 0, 0]) := by
  refine serves_of (test := fun q => q.vtype == 0x06) (f := Dev.vhpCommission) rfl hq (beq_iff_eq.mpr ht) (by rw [ht]; exact ha) (e := (s.dev.commission (wordOfNat (leAt q.payload 0 4))).1) ?_ ?_
  · unfold Dev.vhpCommission
    rw [commission_accepted hp hb hv]
  · rw [commission_accepted hp hb hv, leBytes_bit, List.append_assoc]
    have h := ((Logs.refl (commissioned s.dev)).event 0x3035 0xFFFF (leBytes 4 (wordOfNat (leAt q.payload 0 4)).toNat ++
      ([BitVec.ofNat 8 (s.dev.reg Adr.safMode).toNat &&& 1] ++ [0, 0, 0]))).island
    exact ⟨congrArg Island.comm h, congrArg Island.mode h, commissioned s.dev, rfl, rfl⟩

theorem commission_answers {s : State} {q : VReq} (hq : fronts s q) (ht : q.vtype = 0x06) (ha : s.dev.vhpAccept 0x06 q.payload = 0)
    (h : s.dev.sys.power ≠ .idle ∨ s.dev.island.chkBusy = true ∨ BitVec.ofNat 32 (leAt q.payload 0 4) ≠ s.dev.island.check) :
    exec .commission s = .next { s with dev := s.dev.respond q 0x3031 [] s.dev.sys.frame } := by
  refine (vhpServe_done (test := fun q => q.vtype == 0x06) (f := Dev.vhpCommission) hq (beq_iff_eq.mpr ht) (by rw [ht]; exact ha)).trans ?_
  unfold Dev.vhpCommission
  rw [commission_refused h]

theorem exec_unlockExpiry {s : State} {t : Nat} (ht : s.dev.island.unlockedAt = some t) (hn : t + 10000 ≤ s.dev.now) :
    exec .unlockExpiry s = .next { s with dev := s.dev.modIsland fun x => { x with unlockedAt := none } } := by
  show execUnlockExpiry s = _
  simp only [execUnlockExpiry, ht, hn, if_true]

theorem unlockExpiry_ignored {s : State}
    (h : s.dev.island.unlockedAt = none ∨ ∃ t, s.dev.island.unlockedAt = some t ∧ s.dev.now < t + 10000) : Ignored .unlockExpiry s := by
  show execUnlockExpiry s = _
  obtain h | ⟨t, h, hn⟩ := h
  · simp only [execUnlockExpiry, h]
  · simp only [execUnlockExpiry, h, Nat.not_le.mpr hn, if_false]

theorem safParameterWrite_ignored {s : State} {a v : Word} (h : inSafSet a.toNat = false ∨ rowOf a.toNat = none) :
    Ignored (.safParameterWrite a v) s := by
  show execSafParameterWrite a v s = _
  unfold execSafParameterWrite
  split
  · next hs =>
    obtain h | h := h
    · exact absurd (h.symm.trans hs) Bool.false_ne_true
    · simp only [Dev.safWrite, h]
  · rfl

/-- The test becomes due. -/
def dueTest (d : Dev) : Dev := d.modIsland fun x => { x with testDue := true, testTold := true }

theorem exec_testDue {s : State} (ha : 1440 ≤ s.dev.island.testAge.toNat) (hd : s.dev.island.testDue = false) :
    exec .testDue s = .next { s with dev := if s.dev.island.testTold then dueTest s.dev else (dueTest s.dev).event 0x3040 0xFFFF } :=
  if_pos (by simp [ha, hd])

/-- Settles O32, command by command; COMMISSION by the request that executes. -/
theorem safetyParameters : Obligations.SafetyParameters := by
  unfold Obligations.SafetyParameters
  intro s addr v q
  refine ⟨?_, fun h => ?_, fun t ht hn => ?_, fun h => ?_, fun h => ?_, fun r hs hr => ⟨fun hu => ?_, fun hu => ?_⟩, fun h => ?_, fun h => ?_,
    fun hq ht ha => ⟨fun hp hb hv => commission_serves hq ht ha hp hb hv, commission_answers hq ht ha⟩, fun ha hd ht => ?_, fun ha hd ht => ?_,
    fun h => ?_⟩
  · rfl
  · exact congrArg (fun e : Dev => (.next { s with dev := e } : Host.Outcome State Fault Refusal)) (if_neg h)
  · exact exec_unlockExpiry ht hn
  · exact unlockExpiry_ignored h
  · exact safParameterWrite_ignored h
  · have ha : addr.toNat ≠ Adr.safCmdstat := fun e => absurd (e ▸ hs : inSafSet Adr.safCmdstat = true) (by decide)
    have hu' := safUnlocked_iff.mpr hu
    refine answers_next (e := s.dev.safWrite addr.toNat v) (if_pos hs) ⟨(safWrite_reg (b := 0) hr hu' ha).1, ?_, ?_,
      (safWrite_reg (b := 0) hr hu' ha).2.1, fun b => (safWrite_reg hr hu' ha).2.2⟩ <;> rw [safWrite_open hr hu'] <;> rfl
  · refine (if_pos hs).trans ?_
    rw [safWrite_closed hr fun e => hu (safUnlocked_iff.mp e)]
  · exact if_pos h
  · exact if_neg (by rw [h]; exact Bool.false_ne_true)
  · exact ⟨dueTest s.dev, (exec_testDue ha hd).trans (by rw [if_neg (by rw [ht]; exact Bool.false_ne_true)]), rfl⟩
  · refine (exec_testDue ha hd).trans ?_
    rw [if_pos ht]
    exact congrArg (fun b => (.next { s with dev := { s.dev with island := { s.dev.island with testDue := true, testTold := b } } } :
      Host.Outcome State Fault Refusal)) ht.symm
  · refine if_neg fun hc => ?_
    simp only [Bool.and_eq_true, decide_eq_true_eq, Bool.not_eq_true'] at hc
    obtain h | h := h
    · omega
    · exact absurd (hc.2.symm.trans h) Bool.false_ne_true

end Sys2Proof.Proofs
end

section
/-! SUPPORT. Safe telegrams (R245–R249): the sources of the island, the checks of a copy, and what each way out of them leaves. -/

namespace Sys2Proof.Proofs

open Sys2Proof.Machine Sys2Proof.Safety

section Telegrams

variable {d e : Dev} {k j : Nat}

/-! ### A source and its changes -/

theorem source_modSource (d : Dev) (k : Nat) (f : TgSource → TgSource) : (d.modSource k f).island.source k = f (d.island.source k) :=
  smGet_smPut_self _ _ _ _

theorem source_of_island (h : e.island = d.island) (k : Nat) : e.island.source k = d.island.source k := congrArg (Island.source · k) h

/-- What a source has accepted. -/
def taken (y : TgSource) : Option Nat × Bool × Word × Nat × BitVec 64 × BitVec 64 × Option Nat × Bool :=
  (y.acceptedOp, y.haveSeq, y.seq, y.time, y.rel, y.user, y.pairStamp, y.timedOut)

/-- Rejected copies are counted and nothing else of their source changes. -/
def counted (x : TgSource) : TgSource := { x with rejected := satNat 0xFFFF (x.rejected + 1) }

theorem tgCount_source (d : Dev) (k : Nat) : (d.tgCount k).island.source k = counted (d.island.source k) := source_modSource d k _

theorem satNat_eq (m v : Nat) : satNat m v = min m v := by unfold satNat; split <;> omega

theorem tgReject_island (d : Dev) (k code : Nat) : (d.tgReject (some k) code).island = (d.tgCount k).island :=
  ((Logs.refl (d.tgCount k)).eventRep code (0x300 + k) []).island

theorem tgReject_source (d : Dev) (k code : Nat) : (d.tgReject (some k) code).island.source k = counted (d.island.source k) :=
  (source_of_island (tgReject_island d k code) k).trans (tgCount_source d k)

theorem orReg_safFlags_bit (d : Dev) {w : Word} {i : Nat} (h : w.getLsbD i = true) :
    ((d.orReg Adr.safFlags w).reg Adr.safFlags).getLsbD i = true := by
  rw [reg_orReg_self, BitVec.getLsbD_or, h, Bool.or_true]

theorem tgReject_flag (d : Dev) (k : Option Nat) (code : Nat) : ((d.tgReject k code).reg Adr.safFlags).getLsbD 3 = true :=
  orReg_safFlags_bit _ (by decide)

/-! ### The windows before a copy -/

/-- While every waiting copy is recent, no window ends. -/
theorem tgWindows_recent {stamp : Nat} (h : ∀ c ∈ (d.island.source k).waiting, stamp ≤ c.stamp + 200) : d.tgWindows k stamp = d := by
  unfold Dev.tgWindows
  rw [List.filter_eq_nil_iff.mpr fun c hc => by have := h c hc; simp; omega]
  rfl

/-- The moment a copy reaches the island, from its port, its stamp and its bytes. -/
def copyNow (d : Dev) (port stamp : Nat) (b : List Byte) : TgCopy := { port := port, stamp := stamp, bytes := b, op := d.now }

/-- What follows the checks of a copy that no window comes before. -/
def judged (d : Dev) (port stamp : Nat) (b : List Byte) : Dev :=
  match d.tgCheck b stamp with
  | (k, some code) => if code = 0 then (match k with
      | some k => d.tgCount k
      | none => d) else d.tgReject k code
  | (none, none) => d
  | (some k, none) =>
    match (d.island.source k).waiting.find? fun c => tgSeq c.bytes == tgSeq b with
    | none => d.modSource k fun x => { x with waiting := x.waiting ++ [copyNow d port stamp b] }
    | some c =>
      let drop (d : Dev) : Dev := d.modSource k fun x => { x with waiting := x.waiting.filter (· != c) }
      if c.bytes ≠ b then ((drop d).tgReject (some k) 0x3023).tgReject (some k) 0x3023
      else if c.port = port then d.tgCount k
      else if stamp + 200 < c.stamp then d.modSource k fun x => { x with waiting := x.waiting ++ [copyNow d port stamp b] }
      else (drop d).tgAccept k b (Nat.min c.stamp stamp) (Nat.max c.stamp stamp) false

theorem tgCopy_recent {port stamp : Nat} {b : List Byte} (h : ∀ j, ∀ c ∈ (d.island.source j).waiting, stamp ≤ c.stamp + 200) :
    d.tgCopy port stamp b = judged d port stamp b := by
  have hw : (List.range 4).foldl (fun d k => d.tgWindows k stamp) d = d := by
    refine List.foldlRecOn (motive := fun e => e = d) _ _ rfl fun e he k _ => ?_
    rw [he, tgWindows_recent (h k)]
  unfold Dev.tgCopy
  rw [hw]
  rfl

/-! ### The checks -/

theorem tgCheck_unnamed {stamp : Nat} {b : List Byte} (h : b.length ≠ 60 ∨ d.tgSource (leAt b 0 2) = none) :
    d.tgCheck b stamp = (none, some 0x3020) := by
  unfold Dev.tgCheck
  by_cases hl : b.length = 60
  · simp only [hl, ne_eq, not_true_eq_false, if_false, h.resolve_left (fun e => e hl)]
  · exact if_pos hl

/-- A valid copy has the length, the check value and the CODE of its source. -/
theorem tgCheck_valid {stamp : Nat} {b : List Byte} (h : d.tgCheck b stamp = (some k, none)) :
    b.length = 60 ∧ leAt b 48 4 = (crc32c (b.take 48)).toNat ∧ (hmac (d.tgKey k) (b.take 52)).take 8 = (b.drop 52).take 8 := by
  unfold Dev.tgCheck at h
  split at h
  · cases h
  next hl =>
  split at h
  · cases h
  next j hj =>
  dsimp only at h
  split at h
  · cases h
  next h1 =>
  split at h
  · cases h
  next h2 =>
  have hk : j = k := by
    split at h
    · cases h
    · split at h <;> cases h
      rfl
  subst hk
  obtain ⟨_, _, _, hc⟩ := by simpa only [not_or, ne_eq, Decidable.not_not] using h1
  obtain ⟨_, hm⟩ := by simpa only [not_or, ne_eq, Decidable.not_not] using h2
  exact ⟨Decidable.not_not.mp hl, (word_leAt_eq b 48 _).mp (beq_iff_eq.mpr hc.symm), hm⟩

/-! ### Acceptance -/

theorem tgAccept_source (d : Dev) (k : Nat) (b : List Byte) (first at' : Nat) (single : Bool) :
    let y := (d.tgAccept k b first at' single).island.source k
    y.acceptedOp = some d.now ∧ y.haveSeq = true ∧ y.seq = tgSeq b ∧ y.time = tgTime b ∧ y.stamp = first ∧ y.timedOut = false ∧
      y.single = single ∧ y.rel.toNat = leAt b 16 8 ∧ y.user.toNat = leAt b 24 8 ∧
      y.pairStamp = (if single then (d.island.source k).pairStamp else some at') ∧ y.waiting = (d.island.source k).waiting := by
  have hrel (off : Nat) : (BitVec.ofNat 64 (leAt b off 8)).toNat = leAt b off 8 := by
    rw [BitVec.toNat_ofNat]
    exact Nat.mod_eq_of_lt (leAt_lt b off 8)
  dsimp only
  unfold Dev.tgAccept
  extract_lets seq time now e
  have hs : (if single = true then (e.event 0x3025 (0x300 + k)).orReg Adr.safFlags 0x20 else e).island.source k = e.island.source k := by
    split
    · exact source_of_island ((Logs.refl e).event 0x3025 (0x300 + k) []).island k
    · rfl
  have he : e.island.source k = _ := source_modSource d k _
  rw [hs, he]
  exact ⟨rfl, rfl, rfl, rfl, rfl, rfl, rfl, hrel 16, hrel 24, rfl, rfl⟩

/-- ALLOW lets a copy of a source be accepted alone. -/
def lone (d : Dev) (k : Nat) (c : TgCopy) : Prop :=
  ∃ p, (d.island.source k).pairStamp = some p ∧ 0 < fld (d.reg (Adr.safTgcfg k)) 16 13 ∧
    c.stamp + 200 ≤ p + 10 * fld (d.reg (Adr.safTgcfg k)) 16 13 ∧
    (d.island.source k).fresh (tgSeq c.bytes) (tgTime c.bytes) c.stamp = true

theorem tgAlone_iff {c : TgCopy} : d.tgAlone k c = true ↔ lone d k c := by
  unfold Dev.tgAlone lone
  cases h : (d.island.source k).pairStamp <;> simp [h, and_assoc]

theorem tgPartner_iff {c : TgCopy} : d.tgPartner c = true ↔ ∃ y ∈ (if c.port = 0 then d.host.tgB else d.host.tgA),
    leAt y.bytes 0 2 = leAt c.bytes 0 2 ∧ tgSeq y.bytes = tgSeq c.bytes ∧ y.stamp ≤ c.stamp + 200 ∧ c.stamp ≤ y.stamp + 200 := by
  simp only [Dev.tgPartner, List.any_eq_true, Bool.and_eq_true, beq_iff_eq, decide_eq_true_eq, and_assoc]

theorem tgComing_iff : d.tgComing k = true ↔ (∃ c ∈ d.host.tgA ++ d.host.tgB, d.tgCheck c.bytes c.stamp = (some k, none)) ∨
    ∃ c ∈ (d.island.source k).waiting, c.op + 20 ≤ d.now ∧ lone d k c := by
  simp only [Dev.tgComing, Bool.or_eq_true, List.any_eq_true, Bool.and_eq_true, beq_iff_eq, decide_eq_true_eq, tgAlone_iff]

/-- A source without one of its waiting copies. -/
def dropCopy (d : Dev) (k : Nat) (c : TgCopy) : Dev := d.modSource k fun x => { x with waiting := x.waiting.filter (· != c) }

theorem dropCopy_source (d : Dev) (k : Nat) (c : TgCopy) :
    (dropCopy d k c).island.source k = { d.island.source k with waiting := (d.island.source k).waiting.filter (· != c) } :=
  source_modSource d k _

theorem not_mem_filter_ne (c : TgCopy) (l : List TgCopy) : c ∉ l.filter (· != c) := fun h => by simp at h

theorem dropCopy_lone {c : TgCopy} : lone (dropCopy d k c) k c ↔ lone d k c := by
  unfold lone
  rw [dropCopy_source]
  rfl

theorem tgWindow_dropped {c : TgCopy} (h : ¬lone d k c) : d.tgWindow k c = dropCopy d k c :=
  if_neg fun e => h (dropCopy_lone.mp (tgAlone_iff.mp e))

theorem tgWindow_alone {c : TgCopy} (h : lone d k c) :
    d.tgWindow k c = (dropCopy d k c).tgAccept k c.bytes c.stamp (c.stamp + 200) true :=
  if_pos (tgAlone_iff.mpr (dropCopy_lone.mpr h))

theorem tgWindow_drops (d : Dev) (k : Nat) (c : TgCopy) : c ∉ ((d.tgWindow k c).island.source k).waiting := by
  have h : ((d.tgWindow k c).island.source k).waiting = ((dropCopy d k c).island.source k).waiting := by
    by_cases hl : lone d k c
    · rw [tgWindow_alone hl]
      exact (tgAccept_source (dropCopy d k c) k c.bytes c.stamp (c.stamp + 200) true).2.2.2.2.2.2.2.2.2.2
    · rw [tgWindow_dropped hl]
  rw [h, dropCopy_source]
  exact not_mem_filter_ne c _

/-! ### The outcomes of a copy -/

section Outcomes

variable {port stamp : Nat} {b : List Byte} {c : TgCopy}

theorem judged_rejected {code : Nat} {j : Option Nat} (hc : code ≠ 0) (h : d.tgCheck b stamp = (j, some code)) :
    judged d port stamp b = d.tgReject j code := by
  simp only [judged, h, hc, if_false]

theorem judged_first (h : d.tgCheck b stamp = (some k, none)) (hn : ∀ c ∈ (d.island.source k).waiting, tgSeq c.bytes ≠ tgSeq b) :
    judged d port stamp b = d.modSource k fun x => { x with waiting := x.waiting ++ [copyNow d port stamp b] } := by
  have hf : (d.island.source k).waiting.find? (fun c => tgSeq c.bytes == tgSeq b) = none :=
    List.find?_eq_none.mpr fun c hc e => hn c hc (beq_iff_eq.mp e)
  simp only [judged, h, hf]

theorem judged_differs (h : d.tgCheck b stamp = (some k, none))
    (hf : (d.island.source k).waiting.find? (fun c => tgSeq c.bytes == tgSeq b) = some c) (hb : c.bytes ≠ b) :
    judged d port stamp b = ((dropCopy d k c).tgReject (some k) 0x3023).tgReject (some k) 0x3023 := by
  simp only [judged, h, hf, if_pos hb]
  rfl

theorem judged_apart (h : d.tgCheck b stamp = (some k, none))
    (hf : (d.island.source k).waiting.find? (fun c => tgSeq c.bytes == tgSeq b) = some c) (hb : c.bytes = b) (hp : c.port ≠ port)
    (hs : stamp + 200 < c.stamp) :
    judged d port stamp b = d.modSource k fun x => { x with waiting := x.waiting ++ [copyNow d port stamp b] } := by
  simp only [judged, h, hf, ne_eq, hb, not_true_eq_false, if_false, if_neg hp, if_pos hs]

theorem judged_paired (h : d.tgCheck b stamp = (some k, none))
    (hf : (d.island.source k).waiting.find? (fun c => tgSeq c.bytes == tgSeq b) = some c) (hb : c.bytes = b) (hp : c.port ≠ port)
    (hs : c.stamp ≤ stamp + 200) :
    judged d port stamp b = (dropCopy d k c).tgAccept k b (min c.stamp stamp) (max c.stamp stamp) false := by
  simp only [judged, h, hf, ne_eq, hb, not_true_eq_false, if_false, if_neg hp, if_neg (Nat.not_lt.mpr hs)]
  rfl

theorem counted_counted (x : TgSource) : (counted (counted x)).rejected = min 0xFFFF (x.rejected + 2) := by
  simp only [counted, satNat_eq]
  omega

/-- Both copies of a pair whose bytes differ are rejected. -/
theorem differing_rejected (d : Dev) (k : Nat) (c : TgCopy) :
    let d' := ((dropCopy d k c).tgReject (some k) 0x3023).tgReject (some k) 0x3023
    let y := d'.island.source k
    taken y = taken (d.island.source k) ∧ y.rejected = min 0xFFFF ((d.island.source k).rejected + 2) ∧ c ∉ y.waiting ∧
      (d'.reg Adr.safFlags).getLsbD 3 = true ∧
      ∃ d1 d2 : Dev, d1.recorder = d.recorder ∧ d1.sys = d.sys ∧ d2.recorder = (d1.eventRep 0x3023 (0x300 + k)).recorder ∧
        d' = (d2.eventRep 0x3023 (0x300 + k)).orReg Adr.safFlags 8 := by
  dsimp only
  rw [tgReject_source, tgReject_source, counted_counted, dropCopy_source]
  exact ⟨rfl, rfl, not_mem_filter_ne c _, tgReject_flag _ _ _, (dropCopy d k c).tgCount k,
    ((dropCopy d k c).tgReject (some k) 0x3023).tgCount k, rfl, rfl, rfl, rfl⟩

end Outcomes

/-! ### The commands -/

/-- The receive buffer of a host port without its oldest copy. -/
def takenFrom (port : HostPort) (h : HostUnit) (rest : List TgDatagram) : HostUnit :=
  if port.val = 0 then { h with tgA := rest } else { h with tgB := rest }

end Telegrams

theorem exec_safeTelegramCopy {s : State} {port : HostPort} {c : TgDatagram} {rest : List TgDatagram}
    (h : (if port.val = 0 then s.dev.host.tgA else s.dev.host.tgB) = c :: rest) :
    exec (.safeTelegramCopy port) s = .next { s with dev :=
      (Dev.incReg { s.dev with host := takenFrom port s.dev.host rest } Adr.hostTgcnt).tgCopy port.val c.stamp c.bytes } := by
  show execSafeTelegramCopy port s = _
  unfold execSafeTelegramCopy
  dsimp only
  rw [h]
  rfl

theorem takenFrom_rest (port : HostPort) (h : HostUnit) (rest : List TgDatagram) :
    (if port.val = 0 then (takenFrom port h rest).tgA else (takenFrom port h rest).tgB) = rest := by
  unfold takenFrom
  split <;> rfl

theorem exec_singlePathWindowEnd {s : State} {source : Fin 4} {stamp : Nat} {c : TgCopy}
    (h : (s.dev.island.source source.val).waiting.find? (fun c => decide (c.stamp + 200 ≤ stamp) && !s.dev.tgPartner c) = some c) :
    exec (.singlePathWindowEnd source stamp) s = .next { s with dev := s.dev.tgWindow source.val c } := by
  show execSinglePathWindowEnd source stamp s = _
  unfold execSinglePathWindowEnd
  rw [h]

theorem singlePathWindowEnd_ignored {s : State} {source : Fin 4} {stamp : Nat}
    (h : ∀ c ∈ (s.dev.island.source source.val).waiting, stamp < c.stamp + 200 ∨ s.dev.tgPartner c = true) :
    Ignored (.singlePathWindowEnd source stamp) s := by
  show execSinglePathWindowEnd source stamp s = _
  unfold execSinglePathWindowEnd
  rw [List.find?_eq_none.mpr]
  rintro c hc e
  simp only [Bool.and_eq_true, decide_eq_true_eq, Bool.not_eq_true'] at e
  obtain h | h := h c hc
  · omega
  · exact absurd (e.2.symm.trans h) Bool.false_ne_true

/-- The watchdog of a source has run out. -/
def timesOut (d : Dev) (k t : Nat) : Bool :=
  bit (d.reg (Adr.safTgcfg k)) 0 && !(d.island.source k).timedOut && t + fld (d.reg (Adr.safTgcfg k)) 1 11 ≤ d.now && !d.tgComing k

/-- A source without a telegram is timed out, recorded and flagged. -/
def expired (d : Dev) (k : Nat) : Dev :=
  ((d.modSource k fun x => { x with timedOut := true }).event 0x3024 (0x300 + k)).orReg Adr.safFlags 0x10

theorem exec_telegramTimeout {s : State} {source : Fin 4} {t : Nat} (h : (s.dev.island.source source.val).acceptedOp = some t) :
    exec (.telegramTimeout source) s = if timesOut s.dev source.val t then
      .next { s with dev := expired s.dev source.val } else .next s := by
  show execTelegramTimeout source s = _
  unfold execTelegramTimeout
  dsimp only
  rw [h]
  rfl

theorem telegramTimeout_ignored {s : State} {source : Fin 4}
    (h : ∀ t, (s.dev.island.source source.val).acceptedOp = some t → timesOut s.dev source.val t = false) :
    Ignored (.telegramTimeout source) s := by
  show execTelegramTimeout source s = _
  cases ht : (s.dev.island.source source.val).acceptedOp with
  | none => simp only [execTelegramTimeout, ht]
  | some t => exact (exec_telegramTimeout ht).trans (if_neg (by rw [h t ht]; exact Bool.false_ne_true))

theorem timesOut_iff {d : Dev} {k t : Nat} : timesOut d k t = true ↔ (d.reg (Adr.safTgcfg k)).getLsbD 0 = true ∧
    (d.island.source k).timedOut = false ∧ t + fld (d.reg (Adr.safTgcfg k)) 1 11 ≤ d.now ∧ d.tgComing k = false := by
  simp only [timesOut, bit, Bool.and_eq_true, Bool.not_eq_true', decide_eq_true_eq, and_assoc]

/-- Settles O33: the outcomes of a copy, of a window's end and of the watchdog, each by its own lemma. -/
theorem safeTelegrams : Obligations.SafeTelegrams := by
  unfold Obligations.SafeTelegrams
  intro s port source stamp b d k x recent allow alone accepted
  refine ⟨fun c rest h => ⟨_, exec_safeTelegramCopy h, takenFrom_rest port _ rest, rfl, reg_incReg_self _ _⟩, fun hr j code hc h => ?_,
    fun hr h => ?_, fun hr h => ⟨tgCheck_valid h, fun hn => ?_, fun c hf hb => ?_, fun c hf hb hp hs => ?_, fun c hf hb hp hs => ?_⟩,
    fun c => tgPartner_iff, fun c hf => ?_, singlePathWindowEnd_ignored, fun h => ?_, fun h => ?_, fun t ht hn hb => ⟨fun h => ?_, fun hw h => ?_,
    fun hw => ?_⟩⟩
  · rw [tgCopy_recent hr, judged_rejected hc h]
    dsimp only
    rw [tgReject_source]
    exact ⟨rfl, satNat_eq _ _, tgReject_flag _ _ _, d.tgCount j, rfl, rfl, rfl⟩
  · rw [tgCopy_recent hr, judged_rejected (by decide) (tgCheck_unnamed h)]
    rfl
  · rw [tgCopy_recent hr, judged_first h hn]
    rfl
  · rw [tgCopy_recent hr, judged_differs h hf hb]
    exact differing_rejected d k c
  · rw [tgCopy_recent hr, judged_apart h hf hb hp hs]
    rfl
  · rw [tgCopy_recent hr, judged_paired h hf hb hp hs]
    obtain ⟨h1, h2, h3, h4, h5, h6, h7, h8, h9, h10, h11⟩ := tgAccept_source (dropCopy d k c) k b (min c.stamp stamp) (max c.stamp stamp) false
    refine ⟨h1, h2, h3, h4, h10, h5, h6, h7, h8, h9, ?_⟩
    rw [h11, dropCopy_source]
    exact not_mem_filter_ne c _
  · refine answers_next (exec_singlePathWindowEnd hf) ⟨tgWindow_drops d k c, fun ha => ?_, fun ha => ?_⟩
    · rw [tgWindow_dropped (d := s.dev) ha, dropCopy_source]
    · rw [tgWindow_alone (d := s.dev) ha]
      obtain ⟨h1, h2, h3, h4, h5, h6, h7, h8, h9, h10, h11⟩ := tgAccept_source (dropCopy d k c) k c.bytes c.stamp (c.stamp + 200) true
      exact ⟨h7, h1, h3, h4, h6, h8, h9, orReg_safFlags_bit _ (by decide)⟩
  · show execSafeTelegramCopy port s = _
    unfold execSafeTelegramCopy
    dsimp only
    rw [h]
  · refine telegramTimeout_ignored fun t ht => Bool.eq_false_iff.mpr fun e => ?_
    obtain ⟨he, hn, _, _⟩ := timesOut_iff.mp e
    obtain h | h | h := h
    · cases h.symm.trans ht
    · exact absurd (hn.symm.trans h) Bool.false_ne_true
    · exact absurd (h.symm.trans he) Bool.false_ne_true
  · refine telegramTimeout_ignored fun t ht => Bool.eq_false_iff.mpr fun e => ?_
    exact absurd ((timesOut_iff.mp e).2.2.2.symm.trans (tgComing_iff.mpr h)) Bool.false_ne_true
  · exact (exec_telegramTimeout ht).trans (if_pos (timesOut_iff.mpr ⟨hb, hn, hw, Bool.eq_false_iff.mpr fun e => h (tgComing_iff.mp e)⟩))
  · refine telegramTimeout_ignored fun t' ht' => Bool.eq_false_iff.mpr fun e => ?_
    cases ht'.symm.trans ht
    exact absurd hw (Nat.not_lt.mpr (timesOut_iff.mp e).2.2.1)

end Sys2Proof.Proofs
end

section
/-! SUPPORT. Motion in a frame (R84, R126–R147): requests and stops taken up, and one frame of a ramp, of homing and of gearing. -/

namespace Sys2Proof.Proofs

open Sys2Proof.Machine Sys2Proof.Safety

/-! ### The stop request that applies -/

/-- A stop request applies before another: torque off, then the higher ramp, then the lower cause. -/
def outranks (b r : StopReq) : Prop :=
  (r.torqueOff = true → b.torqueOff = true) ∧ (r.torqueOff = b.torqueOff → r.ramp ≤ b.ramp) ∧
    (r.torqueOff = b.torqueOff → r.ramp = b.ramp → b.cause ≤ r.cause)

theorem outranks_refl (r : StopReq) : outranks r r := ⟨id, fun _ => le_rfl, fun _ _ => le_rfl⟩

theorem outranks_trans {a b c : StopReq} (h : outranks a b) (g : outranks b c) : outranks a c := by
  obtain ⟨h1, h2, h3⟩ := h
  obtain ⟨g1, g2, g3⟩ := g
  have mid (e : c.torqueOff = a.torqueOff) : c.torqueOff = b.torqueOff ∧ b.torqueOff = a.torqueOff := by
    rw [← e] at h1 ⊢
    cases hc : c.torqueOff <;> cases hb : b.torqueOff <;> simp_all
  refine ⟨fun e => h1 (g1 e), fun e => (g2 (mid e).1).trans (h2 (mid e).2), fun e er => ?_⟩
  have h2' := h2 (mid e).2
  have g2' := g2 (mid e).1
  exact (h3 (mid e).2 (by omega)).trans (g3 (mid e).1 (by omega))

theorem outranks_of_beats {a b : StopReq} (h : a.beats b = true) : outranks a b := by
  unfold StopReq.beats at h
  by_cases ht : a.torqueOff = b.torqueOff
  · rw [if_neg (fun e => e ht)] at h
    by_cases hr : a.ramp = b.ramp
    · rw [if_neg (fun e => e hr)] at h
      exact ⟨fun e => ht.trans e, fun _ => hr.ge, fun _ _ => of_decide_eq_true h⟩
    · rw [if_pos hr] at h
      have := of_decide_eq_true h
      exact ⟨fun e => ht.trans e, fun _ => this.le, fun _ e => absurd e.symm hr⟩
  · rw [if_pos ht] at h
    exact ⟨fun _ => h, fun e => absurd e.symm ht, fun e => absurd e.symm ht⟩

theorem outranks_of_not_beats {a b : StopReq} (h : ¬a.beats b = true) : outranks b a := by
  unfold StopReq.beats at h
  by_cases ht : a.torqueOff = b.torqueOff
  · rw [if_neg (fun e => e ht)] at h
    by_cases hr : a.ramp = b.ramp
    · rw [if_neg (fun e => e hr)] at h
      exact ⟨fun e => ht.symm.trans e, fun _ => hr.le, fun _ _ => by have := of_decide_eq_false (Bool.eq_false_iff.mpr h); omega⟩
    · rw [if_pos hr] at h
      have := of_decide_eq_false (Bool.eq_false_iff.mpr h)
      exact ⟨fun e => ht.symm.trans e, fun _ => by omega, fun _ e => absurd e hr⟩
  · rw [if_pos ht] at h
    exact ⟨fun e => absurd e h, fun e => absurd e ht, fun e => absurd e ht⟩

theorem bestStop_spec : ∀ l : List StopReq, l ≠ [] → ∃ b, bestStop l = some b ∧ b ∈ l ∧ ∀ r ∈ l, outranks b r
  | [], h => absurd rfl h
  | [r], _ => ⟨r, rfl, List.mem_singleton_self r, fun x hx => by rw [List.mem_singleton.mp hx]; exact outranks_refl r⟩
  | r :: x :: rs, _ => by
    obtain ⟨b, hb, hm, ho⟩ := bestStop_spec (x :: rs) (List.cons_ne_nil _ _)
    by_cases h : r.beats b = true
    · refine ⟨r, by rw [bestStop, hb]; exact if_pos h, List.mem_cons_self, fun y hy => ?_⟩
      obtain rfl | hy := List.mem_cons.mp hy
      · exact outranks_refl _
      · exact outranks_trans (outranks_of_beats h) (ho y hy)
    · refine ⟨b, by rw [bestStop, hb]; exact if_neg h, List.mem_cons_of_mem _ hm, fun y hy => ?_⟩
      obtain rfl | hy := List.mem_cons.mp hy
      · exact outranks_of_not_beats h
      · exact ho y hy

section Axes

variable {d d0 : Dev} {n : Nat}

/-! ### Stops noted, ramps begun -/

/-- The motion of an axis. -/
def motionOf (d : Dev) (n : Nat) : Motion := (d.axis n).motion

theorem motionOf_setAxis (d : Dev) (n : Nat) (a : Axis) : motionOf (d.setAxis n a) n = a.motion := congrArg Axis.motion (axis_setAxis_self d n a)

theorem motionOf_modMotion (d : Dev) (n : Nat) (f : Motion → Motion) : motionOf (d.modMotion n f) n = f (motionOf d n) := motionOf_setAxis d n _

theorem motionOf_countStop (d : Dev) (n c : Nat) : motionOf (d.countStop n c) n = motionOf d n := motionOf_setAxis d n _

theorem motionOf_uncleanMove (d : Dev) (n : Nat) : motionOf (d.uncleanMove n) n = motionOf d n := by
  unfold Dev.uncleanMove
  dsimp only
  split
  · exact motionOf_setAxis d n _
  · rfl

theorem motionOf_devNat (d : Dev) (n m v : Nat) : motionOf (d.devNat m v) n = motionOf d n :=
  congrArg Axis.motion (((Stored.refl d).devNat m v).axis n)

theorem motionOf_noteStop (d : Dev) (n : Nat) (r : StopReq) : motionOf (d.noteStop n r) n = motionOf d n := by
  have hu : motionOf ((d.incReg (Adr.axStops n)).uncleanMove n) n = motionOf d n := motionOf_uncleanMove _ n
  unfold Dev.noteStop
  extract_lets e1 e2 e3 e4 e5
  have he : motionOf e5 n = motionOf d n := (motionOf_devNat e2 n _ _).trans hu
  split
  · exact hu
  · split
    · exact (congrArg Axis.motion (((Logs.refl e5).event r.code n []).axis n)).trans he
    · exact he

theorem motionOf_noteStops (d : Dev) (n : Nat) (l : List StopReq) : motionOf (l.foldl (fun s r => s.noteStop n r) d) n = motionOf d n :=
  List.foldlRecOn (motive := fun e => motionOf e n = motionOf d n) l _ rfl fun e he r _ => (motionOf_noteStop e n r).trans he

theorem motion_abandonMove (a : Axis) : a.abandonMove.motion = a.motion := by
  unfold Axis.abandonMove Axis.closeMove
  split <;> rfl

/-- A motion that begins a ramp. -/
def ramped (m : Motion) (cause ramp : Nat) : Motion :=
  { m with st := .stop, ramp := ramp, cause := cause, rampFrames := 0, attarget := false, stretch := one32, stretchTo := one32 }

theorem motionOf_startRamp (d : Dev) (n cause ramp : Nat) : motionOf (d.startRamp n cause ramp) n = ramped (motionOf d n) cause ramp := by
  have hm : ((d.countStop n cause).axis n).abandonMove.motion = motionOf d n := (motion_abandonMove _).trans (motionOf_countStop d n cause)
  have hs : ∀ e : Dev, motionOf (if cause ≥ 3 then e.orReg (Adr.axFlags n) 1 else e) n = motionOf e n := fun e => by split <;> rfl
  unfold Dev.startRamp
  rw [hs, motionOf_setAxis]
  dsimp only
  rw [hm]
  rfl

theorem enterOff_off {a : Axis} (h : a.motion.st ≠ .noconf) : a.enterOff.motion.st = .off := by
  unfold Axis.enterOff
  dsimp only
  split
  · next hs =>
    simp only [Bool.or_eq_true, beq_iff_eq] at hs
    exact hs.resolve_left h
  · rfl

/-! ### A stop request applied -/

theorem applyStop_torqueOff {b : StopReq} (h : b.torqueOff = true) (hn : (motionOf d n).st ≠ .noconf) :
    (motionOf (d.applyStop n b) n).st = .off ∧ (motionOf (d.applyStop n b) n).cause = b.cause := by
  have he : ∀ e : Dev, motionOf e n = motionOf d n →
      (motionOf ((e.setAxis n (e.axis n).enterOff).modMotion n fun m => { m with cause := b.cause }) n).st = .off ∧
      (motionOf ((e.setAxis n (e.axis n).enterOff).modMotion n fun m => { m with cause := b.cause }) n).cause = b.cause := by
    intro e he
    rw [motionOf_modMotion, motionOf_setAxis]
    exact ⟨enterOff_off (by show (motionOf e n).st ≠ _; rw [he]; exact hn), rfl⟩
  unfold Dev.applyStop
  rw [if_pos h]
  refine he _ ?_
  split
  · exact motionOf_countStop d n _
  · rfl

theorem applyStop_moving {b : StopReq} (h : b.torqueOff = false) (hm : (motionOf d n).st = .move ∨ (motionOf d n).st = .home ∨ (motionOf d n).st = .gear) :
    motionOf (d.applyStop n b) n = ramped (motionOf d n) b.cause b.ramp := by
  rw [← motionOf_startRamp]
  unfold Dev.applyStop
  rw [if_neg (by rw [h]; exact Bool.false_ne_true)]
  rcases hm with e | e | e <;> simp only [motionOf] at e <;> simp only [e]

theorem applyStop_ramp {b : StopReq} (h : b.torqueOff = false) (hm : (motionOf d n).st = .stop) :
    motionOf (d.applyStop n b) n =
      if (motionOf d n).ramp < b.ramp then { motionOf d n with ramp := b.ramp, cause := b.cause } else motionOf d n := by
  unfold Dev.applyStop
  rw [if_neg (by rw [h]; exact Bool.false_ne_true)]
  simp only [show (d.axis n).motion.st = .stop from hm]
  split
  · next hr =>
    rw [motionOf_modMotion, motionOf_countStop]
    exact (if_pos (c := (motionOf d n).ramp < b.ramp) hr).symm
  · next hr => exact (if_neg (c := (motionOf d n).ramp < b.ramp) hr).symm

theorem applyStop_still {b : StopReq} (h : b.torqueOff = false) (hm : (motionOf d n).st = .stand ∨ (motionOf d n).st = .off) :
    motionOf (d.applyStop n b) n = { motionOf d n with cause := b.cause } := by
  unfold Dev.applyStop
  rw [if_neg (by rw [h]; exact Bool.false_ne_true)]
  rcases hm with e | e <;> simp only [motionOf] at e <;> simp only [e] <;> exact motionOf_modMotion d n _

/-- The stop requests of a frame are noted, and the one that applies is carried out. -/
theorem takeStops_best {l : List StopReq} {b : StopReq} (h : bestStop l = some b) :
    ∃ e : Dev, motionOf e n = motionOf d n ∧ d.takeStops n l = e.applyStop n b :=
  ⟨((l.erase b).foldl (fun s r => s.noteStop n r) d).noteStop n b,
    (motionOf_noteStop _ n b).trans (motionOf_noteStops d n _), by rw [Dev.takeStops, h]⟩

/-! ### Requests taken up -/

/-- What taking up a request leaves to the signal of its answer: the store, the image, and the axis's configuration. -/
structure Issued (n : Nat) (d e : Dev) : Prop where
  sigs : e.sigs = d.sigs
  image : e.image = d.image
  cfg : e.reg (Adr.axCfg n) = d.reg (Adr.axCfg n)

theorem Issued.refl (n : Nat) (d : Dev) : Issued n d d := ⟨rfl, rfl, rfl⟩

theorem Issued.trans {e f : Dev} (h : Issued n d e) (g : Issued n e f) : Issued n d f :=
  ⟨g.sigs.trans h.sigs, g.image.trans h.image, g.cfg.trans h.cfg⟩

theorem Issued.setAxis {e : Dev} (h : Issued n d e) (k : Nat) (a : Axis) : Issued n d (e.setAxis k a) := h.trans ⟨rfl, rfl, rfl⟩

theorem Issued.modMotion {e : Dev} (h : Issued n d e) (k : Nat) (f : Motion → Motion) : Issued n d (e.modMotion k f) := h.setAxis k _

theorem Issued.doorCyc {e : Dev} (h : Issued n d e) (l : SMap DoorCycle) : Issued n d { e with doorCyc := l } := h.trans ⟨rfl, rfl, rfl⟩

theorem Issued.incReg {e : Dev} (h : Issued n d e) {a : Nat} (ha : Adr.axCfg n ≠ a) : Issued n d (e.incReg a) :=
  h.trans ⟨rfl, rfl, reg_incReg_other e ha⟩

theorem Issued.orReg {e : Dev} (h : Issued n d e) {a : Nat} (ha : Adr.axCfg n ≠ a) (w : Word) : Issued n d (e.orReg a w) :=
  h.trans ⟨rfl, rfl, reg_orReg_other e w ha⟩

theorem axCfg_ne_axMoves (n : Nat) : Adr.axCfg n ≠ Adr.axMoves n := by unfold Adr.axCfg Adr.axMoves; omega

theorem axCfg_ne_axStops (n : Nat) : Adr.axCfg n ≠ Adr.axStops n := by unfold Adr.axCfg Adr.axStops; omega

/-- A flag or a reversal of the door's cycle changes nothing but the cycle. -/
theorem doorFlag_eq (d : Dev) (n bits : Nat) : ∃ l, d.doorFlag n bits = { d with doorCyc := l } := by
  unfold Dev.doorFlag
  dsimp only
  repeat' split
  all_goals exact ⟨_, rfl⟩

theorem doorReversal_eq (d : Dev) (n : Nat) : ∃ l, d.doorReversal n = { d with doorCyc := l } := by
  unfold Dev.doorReversal
  dsimp only
  repeat' split
  all_goals exact ⟨_, rfl⟩

/-- The begin of a run changes the cycle's share of the axis and the cycle of the door. -/
theorem beginRun_eq (d : Dev) (n : Nat) (x delta : Int) :
    ∃ c l, d.beginRun n x delta = { d.setAxis n { d.axis n with cycle := c } with doorCyc := l } := by
  unfold Dev.beginRun
  extract_lets a c inZone dir inCycle rev run f
  obtain ⟨l, hl⟩ := doorFlag_eq f n 128
  obtain ⟨l', hl'⟩ := doorReversal_eq (f.doorFlag n 128) n
  split
  · exact ⟨_, l', by rw [hl', hl]⟩
  · exact ⟨_, _, rfl⟩

theorem Issued.beginRun {e : Dev} (h : Issued n d e) (x delta : Int) : Issued n d (e.beginRun n x delta) := by
  obtain ⟨c, l, hb⟩ := beginRun_eq e n x delta
  rw [hb]
  exact (h.setAxis n _).doorCyc l

theorem motionOf_beginRun (d : Dev) (n : Nat) (x delta : Int) : motionOf (d.beginRun n x delta) n = motionOf d n := by
  obtain ⟨c, l, hb⟩ := beginRun_eq d n x delta
  rw [hb]
  exact motionOf_setAxis d n _

theorem Issued.startMove (d : Dev) (n : Nat) (t : Word) (p : Nat) (rel : Bool) : Issued n d (d.startMove n t p rel) :=
  ((((Issued.refl n d).modMotion n _).incReg (axCfg_ne_axMoves n)).modMotion n _).beginRun _ _

/-- A plain stop: counted, and a ramp begins. -/
theorem Issued.plainStop (d : Dev) (n cause ramp : Nat) (h : cause < 3) :
    Issued n d ((d.noteStop n { cause := cause, ramp := ramp, code := 0 }).startRamp n cause ramp) := by
  have hu : Issued n d (d.noteStop n { cause := cause, ramp := ramp, code := 0 }) := by
    unfold Dev.noteStop
    rw [if_pos rfl]
    unfold Dev.uncleanMove
    dsimp only
    split
    · exact ((Issued.refl n d).incReg (axCfg_ne_axStops n)).setAxis n _
    · exact ((Issued.refl n d).incReg (axCfg_ne_axStops n))
  unfold Dev.startRamp
  dsimp only
  rw [if_neg (Nat.not_le.mpr h)]
  exact (hu.setAxis n _).setAxis n _

theorem Issued.takeRequest (d : Dev) (n : Nat) (r : Req) : Issued n d (d.takeRequest n r).1 := by
  cases r <;> simp only [Dev.takeRequest]
  case start t p rel =>
    split
    · exact .startMove d n t p rel
    · exact .refl n d
  case home pos positive src =>
    split
    · exact (Issued.refl n d).setAxis n _
    · exact .refl n d
  case gear master table =>
    split
    · exact (Issued.refl n d).setAxis n _
    · exact .refl n d
  case stop =>
    split
    · exact .plainStop d n 1 _ (by decide)
    · exact .refl n d
  case ungear =>
    split
    · exact .plainStop d n 2 _ (by decide)
    · exact .refl n d
  case speed cap =>
    split
    · exact .refl n d
    · dsimp only
      split
      · exact ((Issued.refl n d).modMotion n _).modMotion n _
      · exact (Issued.refl n d).modMotion n _
  case accel cap =>
    split
    · exact .refl n d
    · dsimp only
      split
      · exact ((Issued.refl n d).modMotion n _).modMotion n _
      · exact (Issued.refl n d).modMotion n _
  case mode k => exact (Issued.refl n d).modMotion n _

/-- The refusal of a request that needs standstill, by the first check that fails. -/
theorem standstillCode_eq (d : Dev) (n : Nat) (start : Bool) : d.standstillCode n start =
    if ((d.safe n).st.holds = true ∨ d.island.fault ≠ 0) ∧ ¬(start = true ∧ (d.safe n).inReturn = true ∧ d.island.fault = 0) then 0x2008
    else if (motionOf d n).wasOff = true ∨ (motionOf d n).st = .move ∨ (motionOf d n).st = .home ∨ (motionOf d n).st = .off ∨
      (motionOf d n).st = .noconf then 0x2001
    else if (motionOf d n).st = .stop then 0x2002 else if (motionOf d n).st = .gear then 0x200A else 0 := by
  have hh : (d.safeHeld n && !(start && (d.safe n).inReturn && d.island.fault == 0)) = true ↔
      ((d.safe n).st.holds = true ∨ d.island.fault ≠ 0) ∧ ¬(start = true ∧ (d.safe n).inReturn = true ∧ d.island.fault = 0) := by
    simp only [Dev.safeHeld, Bool.and_eq_true, Bool.or_eq_true, Bool.not_eq_true', Bool.eq_false_iff, bne_iff_ne, beq_iff_eq, ne_eq, and_assoc]
  unfold Dev.standstillCode
  dsimp only
  rw [if_congr hh rfl rfl]
  refine if_congr Iff.rfl rfl ?_
  show (if (motionOf d n).wasOff = true then _ else _) = _
  by_cases hw : (motionOf d n).wasOff = true
  · rw [if_pos hw, if_pos (.inl hw)]
  · rw [if_neg hw]
    show (match (motionOf d n).st with | .move => _ | .home => _ | .off => _ | .noconf => _ | .stop => _ | .gear => _ | .stand => _) = _
    cases hs : (motionOf d n).st <;> simp [hw]

/-- What taking up a request answers, and what it leaves where it is not refused. -/
def Takes (d : Dev) (n : Nat) (r : Req) (code : Nat) (post : Axis → Prop) : Prop :=
  (d.takeRequest n r).2 = code ∧ (code ≠ 0 → (d.takeRequest n r).1 = d) ∧ (code = 0 → post ((d.takeRequest n r).1.axis n))

/-- A request that a code refuses or that takes effect. -/
theorem takes_of_checked {r : Req} {c code : Nat} {e : Dev} {post : Axis → Prop} (h : d.takeRequest n r = if c = 0 then (e, 0) else (d, c))
    (hc : c = code) (hp : post (e.axis n)) : Takes d n r code post := by
  subst hc
  unfold Takes
  rw [h]
  by_cases hc : c = 0
  · rw [if_pos hc]
    exact ⟨hc.symm, fun e => absurd hc e, fun _ => hp⟩
  · rw [if_neg hc]
    exact ⟨rfl, fun _ => rfl, fun e => absurd e hc⟩

theorem motionOf_startMove (d : Dev) (n : Nat) (t : Word) (p : Nat) (rel : Bool) :
    let m := motionOf d n
    let y := motionOf (d.startMove n t p rel) n
    y.st = .move ∧ y.tau = 0 ∧ y.profile = p ∧ y.rawStart = m.x ∧ y.delta = y.target - m.x ∧
      y.target = (if rel then intPart m.x + t.toInt else t.toInt) * 65536 := by
  dsimp only
  unfold Dev.startMove
  extract_lets m x tgt e1 e2 r e3
  have h1 : motionOf e1 n = _ := motionOf_modMotion d n _
  have h3 : motionOf e3 n = { motionOf e1 n with stretch := r, stretchTo := r } := motionOf_modMotion e2 n _
  rw [motionOf_beginRun, h3, h1]
  exact ⟨rfl, rfl, rfl, rfl, rfl, rfl⟩

theorem takes_start (d : Dev) (n : Nat) (t : Word) (p : Nat) (rel : Bool) :
    Takes d n (.start t p rel) (d.standstillCode n true) fun x => x.motion.st = .move ∧ x.motion.tau = 0 ∧ x.motion.profile = p ∧
      x.motion.rawStart = (motionOf d n).x ∧ x.motion.delta = x.motion.target - (motionOf d n).x ∧
      x.motion.target = (if rel then intPart (motionOf d n).x + t.toInt else t.toInt) * 65536 :=
  takes_of_checked rfl rfl (motionOf_startMove d n t p rel)

theorem takes_home (d : Dev) (n : Nat) (p : Word) (positive : Bool) (src : Nat) :
    Takes d n (.home p positive src) (d.standstillCode n false) fun x => x.motion.st = .home ∧ x.motion.homed = false ∧
      x.homing.phase = (if d.homeActive n src then 1 else 2) := by
  refine takes_of_checked (e := d.startHome n p positive src) rfl rfl ?_
  unfold Dev.startHome
  dsimp only
  rw [axis_setAxis_self]
  exact ⟨rfl, rfl, rfl⟩

theorem takes_gear (d : Dev) (n : Nat) (sig : Word) (t : Nat) :
    Takes d n (.gear sig t) (d.standstillCode n false) fun x => x.motion.st = .gear ∧ x.gearing.engaged = true ∧ x.gearing.selector = sig ∧
      x.gearing.table = t ∧ x.gearing.slaveX = (motionOf d n).x := by
  refine takes_of_checked (e := d.startGear n sig t) rfl rfl ?_
  unfold Dev.startGear
  dsimp only
  rw [axis_setAxis_self]
  exact ⟨rfl, rfl, rfl, rfl, rfl⟩

theorem motionOf_plainStop (d : Dev) (n cause ramp : Nat) :
    motionOf ((d.noteStop n { cause := cause, ramp := ramp, code := 0 }).startRamp n cause ramp) n = ramped (motionOf d n) cause ramp := by
  rw [motionOf_startRamp, motionOf_noteStop]

/-- A request that begins a ramp where the axis is under way in a given manner. -/
theorem takes_ramp {r : Req} {p : Prop} [Decidable p] {cause : Nat}
    (h : d.takeRequest n r = if p then ((d.noteStop n { cause := cause, ramp := fld (d.par n 134) 0 2, code := 0 }).startRamp n cause
      (fld (d.par n 134) 0 2), 0) else (d, 0)) :
    Takes d n r 0 fun x => if p then x.motion.st = .stop ∧ x.motion.cause = cause ∧ x.motion.ramp = fld (d.par n 134) 0 2 ∧
      x.motion.rampFrames = 0 else x = d.axis n := by
  unfold Takes
  rw [h]
  split
  · have hm := motionOf_plainStop d n cause (fld (d.par n 134) 0 2)
    refine ⟨rfl, fun e => absurd rfl e, fun _ => ?_⟩
    show (motionOf _ n).st = _ ∧ (motionOf _ n).cause = _ ∧ (motionOf _ n).ramp = _ ∧ (motionOf _ n).rampFrames = _
    rw [hm]
    exact ⟨rfl, rfl, rfl, rfl⟩
  · exact ⟨rfl, fun e => absurd rfl e, fun _ => rfl⟩

/-- A cap is stored, and a move in progress stretches to it. -/
def capped (d : Dev) (n : Nat) (f : Motion → Motion) : Dev :=
  if (d.axis n).motion.st == .move then
    (d.modMotion n f).modMotion n fun m => { m with stretchTo := (d.modMotion n f).stretchNow n } else d.modMotion n f

theorem motionOf_capped (d : Dev) (n : Nat) (f : Motion → Motion) :
    ∃ r, motionOf (capped d n f) n = { f (motionOf d n) with stretchTo := r } := by
  unfold capped
  split
  · rw [motionOf_modMotion, motionOf_modMotion]
    exact ⟨_, rfl⟩
  · rw [motionOf_modMotion]
    exact ⟨_, rfl⟩

theorem takes_cap {r : Req} {f : Motion → Motion} {post : Motion → Prop}
    (h : d.takeRequest n r = if (motionOf d n).st == .stop then (d, 0x2002) else (capped d n f, 0))
    (hp : ∀ r, post { f (motionOf d n) with stretchTo := r }) :
    Takes d n r (if (motionOf d n).st = .stop then 0x2002 else 0) fun x => post x.motion := by
  unfold Takes
  rw [h]
  by_cases hs : (motionOf d n).st = .stop
  · rw [if_pos (beq_iff_eq.mpr hs), if_pos hs]
    exact ⟨rfl, fun _ => rfl, fun e => absurd e (by decide)⟩
  · rw [if_neg (fun e => hs (beq_iff_eq.mp e)), if_neg hs]
    obtain ⟨r, hr⟩ := motionOf_capped d n f
    refine ⟨rfl, fun e => absurd rfl e, fun _ => ?_⟩
    show post (motionOf (capped d n f) n)
    rw [hr]
    exact hp r

end Axes

end Sys2Proof.Proofs
end

section
/-! SUPPORT. Motion in a frame (R84, R136–R147): the answer in slot 15, and one frame of a ramp, of homing and of gearing. -/

namespace Sys2Proof.Proofs

open Sys2Proof.Machine Sys2Proof.Safety

theorem Stored.space {d e : Dev} (h : Stored d e) : SameSpace d e := ⟨h.image, h.reg⟩

section Frames

variable {d d0 : Dev} {n : Nat}

/-! ### Slot 15 -/

theorem regionOf_slot15 (hn : n < 512) : regionOf (slotSig n 15) = .fixed n 15 := by
  have h : slotSig n 15 < 0x80000 := by unfold slotSig; omega
  have hm : slotSig n 15 % 1024 = 15 := by unfold slotSig; omega
  have hd : slotSig n 15 / 1024 = n := by unfold slotSig; omega
  unfold regionOf
  rw [if_pos h, hm, hd]
  rfl

theorem region_slot15 (d : Dev) (hn : n < 512) : d.region (slotSig n 15) = .fixed n 15 := by
  unfold Dev.region
  rw [regionOf_slot15 hn]

theorem slot15_exists (h : d.axConfigured n = true) (hn : n < 512) : d.sigExists (slotSig n 15) = true := by
  have h1 : slotSig n 15 < 0x80000 := by unfold slotSig; omega
  have hm : slotSig n 15 % 1024 = 15 := by unfold slotSig; omega
  have hd : slotSig n 15 / 1024 = n := by unfold slotSig; omega
  unfold Dev.sigExists
  rw [if_neg (by omega), if_neg (by simp; omega), if_pos (by simp; omega), hd, h]

theorem Issued.axConfigured {e : Dev} (h : Issued n d e) : e.axConfigured n = d.axConfigured n := by
  unfold Dev.axConfigured
  rw [h.cfg]

theorem Issued.slot15 {e : Dev} (h : Issued n d e) (hc : d.axConfigured n = true) (hn : n < 512) :
    e.sig (slotSig n 15) = d.sig (slotSig n 15) := by
  unfold Dev.sig Dev.mirrorBit
  rw [slot15_exists hc hn, slot15_exists (h.axConfigured.trans hc) hn, region_slot15 d hn, region_slot15 e hn, h.sigs, h.image]

theorem devSig_slot15 {e : Dev} (hc : e.axConfigured n = true) (hn : n < 512) (hf : (e.sig (slotSig n 15)).forced = false) (v : Word) :
    (e.devSig (slotSig n 15) v).sigVal (slotSig n 15) = v := by
  have hx := slot15_exists hc hn
  have hr : e.region (slotSig n 15) ≠ .reserved := by rw [region_slot15 e hn]; nofun
  unfold Dev.devSig Dev.sigHome Dev.sigVal
  rw [if_pos (by rw [hx, Bool.true_and]; exact bne_iff_ne.mpr hr), if_neg (by rw [hf]; exact Bool.false_ne_true)]
  exact congrArg Sig.value (sig_sigStore_self { e with hidden := smDel e.hidden (slotSig n 15) } _ v true false 0x13 hx hr)

/-- The answer to one request, before its refusal is counted. -/
def answered15 (d : Dev) (n seq : Nat) (r : Req) : Dev :=
  (d.takeRequest n r).1.devSig (slotSig n 15) (fields [(0, seq), (16, (d.takeRequest n r).2)])

theorem takeRequests_one (d : Dev) (n seq : Nat) (r : Req) : d.takeRequests n [(seq, r)] =
    if (d.takeRequest n r).2 = 0 then answered15 d n seq r
    else ((answered15 d n seq r).incReg (Adr.axRefused n)).orReg (Adr.axFlags n) 0x40 := rfl

theorem takeRequests_motion (d : Dev) (n seq : Nat) (r : Req) :
    motionOf (d.takeRequests n [(seq, r)]) n = motionOf (d.takeRequest n r).1 n := by
  have h : motionOf (answered15 d n seq r) n = motionOf (d.takeRequest n r).1 n :=
    congrArg Axis.motion (((Stored.refl (d.takeRequest n r).1).devSig (slotSig n 15) _ true false).axis n)
  have hr : ∀ e : Dev, motionOf ((e.incReg (Adr.axRefused n)).orReg (Adr.axFlags n) 0x40) n = motionOf e n := fun _ => rfl
  rw [takeRequests_one]
  split
  · exact h
  · rw [hr, h]

theorem fields_answer (seq code : Nat) : fields [(0, seq), (16, code)] = BitVec.ofNat 32 (seq + code * 65536) := by
  show BitVec.ofNat 32 (0 + seq * 2 ^ 0 + code * 2 ^ 16) = _
  rw [Nat.zero_add, Nat.pow_zero, Nat.mul_one, show 2 ^ 16 = 65536 from rfl]

theorem takeRequests_slot15 (hn : n < 512) (hc : d.axConfigured n = true) (hf : (d.sig (slotSig n 15)).forced = false) (seq : Nat) (r : Req) :
    (d.takeRequests n [(seq, r)]).sigVal (slotSig n 15) = BitVec.ofNat 32 (seq + (d.takeRequest n r).2 * 65536) := by
  have hi := Issued.takeRequest d n r
  have h : (answered15 d n seq r).sigVal (slotSig n 15) = BitVec.ofNat 32 (seq + (d.takeRequest n r).2 * 65536) := by
    unfold answered15
    rw [devSig_slot15 (hi.axConfigured.trans hc) hn (by rw [hi.slot15 hc hn]; exact hf), fields_answer]
  rw [takeRequests_one]
  split
  · exact h
  · have hs := ((Issued.refl n (answered15 d n seq r)).incReg (a := Adr.axRefused n) (by unfold Adr.axCfg Adr.axRefused; omega)).orReg
      (a := Adr.axFlags n) (by unfold Adr.axCfg Adr.axFlags; omega) 0x40
    have hc' : (answered15 d n seq r).axConfigured n = true := by
      rw [answered15, (Stored.devSig (.refl _) _ _ _ _).space.axConfigured, hi.axConfigured, hc]
    exact (congrArg Sig.value (hs.slot15 hc' hn)).trans h

theorem takeRequests_refused (hn : n < 512) {seq : Nat} {r : Req} (hr : (d.takeRequest n r).1 = d) (h : (d.takeRequest n r).2 ≠ 0) :
    (d.takeRequests n [(seq, r)]).reg (Adr.axRefused n) = satInc (d.reg (Adr.axRefused n)) ∧
      ((d.takeRequests n [(seq, r)]).reg (Adr.axFlags n)).getLsbD 6 = true := by
  rw [takeRequests_one, if_neg h]
  have hs : (answered15 d n seq r).reg (Adr.axRefused n) = d.reg (Adr.axRefused n) := by
    unfold answered15
    rw [(Stored.devSig (.refl _) _ _ _ _).reg _ (fixedReg_of (by unfold Adr.axRefused; omega) (by unfold Adr.axRefused; omega)), hr]
  constructor
  · rw [reg_orReg_other _ _ (by unfold Adr.axRefused Adr.axFlags; omega), reg_incReg_self, hs]
  · rw [reg_orReg_self, BitVec.getLsbD_or]
    exact Bool.or_eq_true_iff.mpr (.inr (by decide))

/-! ### One frame of a ramp -/

theorem motion_atX (m : Motion) (x : Int) : m.atX x = { m with raw := BitVec.ofInt 48 x - m.homeOff } := rfl

/-- A motion after one frame of its ramp. -/
def braked (bands : List Band) (m : Motion) : Motion :=
  { m with v := rampV bands m.v, rampFrames := satNat 0xFFFF (m.rampFrames + 1) }.atX (m.x + (m.v + rampV bands m.v).fdiv 2)

theorem motionOf_advanceRamp (d : Dev) (n : Nat) : motionOf (d.advanceRamp n) n =
    if rampV (d.bands n (motionOf d n).ramp) (motionOf d n).v = 0 then (braked (d.bands n (motionOf d n).ramp) (motionOf d n)).toStand
    else braked (d.bands n (motionOf d n).ramp) (motionOf d n) := by
  unfold Dev.advanceRamp
  dsimp only
  split
  · next h => exact (motionOf_setAxis d n _).trans (if_pos (c := rampV (d.bands n (motionOf d n).ramp) (motionOf d n).v = 0) h).symm
  · next h => exact (motionOf_setAxis d n _).trans (if_neg (c := rampV (d.bands n (motionOf d n).ramp) (motionOf d n).v = 0) h).symm

theorem rampV_le (bands : List Band) (v : Int) : (rampV bands v).natAbs ≤ v.natAbs := by
  unfold rampV
  simp only [show ∀ a b, Nat.min a b = min a b from fun _ _ => rfl]
  split <;> omega

theorem ramp_frame (hs : (motionOf d n).st = .stop) :
    let m := motionOf d n
    let m' := motionOf (d.advance d0 n) n
    let v := rampV (d.bands n m.ramp) m.v
    v.natAbs ≤ m.v.natAbs ∧ m'.v = v ∧ m'.raw = BitVec.ofInt 48 (m.x + (m.v + v).fdiv 2) - m.homeOff ∧
      m'.st = (if v = 0 then .stand else .stop) ∧ m'.homeOff = m.homeOff := by
  intro m m' v
  have ha : d.advance d0 n = d.advanceRamp n := by
    unfold Dev.advance
    rw [show (d.axis n).motion.st = .stop from hs]
  have hm : m' = _ := (congrArg (motionOf · n) ha).trans (motionOf_advanceRamp d n)
  refine ⟨rampV_le _ _, ?_⟩
  rw [hm]
  split
  · next hv => exact ⟨hv.symm, rfl, rfl, rfl⟩
  · next hv => exact ⟨rfl, rfl, hs, rfl⟩

/-- A stop request taken up by an axis that is geared: the frame of its ramp that follows. -/
theorem gear_stops {e : Dev} (hg : (motionOf e n).st = .gear) (code : Nat) :
    let m := motionOf ((e.takeStops n [{ cause := 9, ramp := 2, code := code }]).advanceRamp n) n
    m.cause = 9 ∧ (m.st = .stop ∨ m.st = .stand) := by
  dsimp only
  obtain ⟨f, hf, ht⟩ := takeStops_best (d := e) (n := n) (l := [{ cause := 9, ramp := 2, code := code }]) rfl
  have hm : motionOf (f.applyStop n { cause := 9, ramp := 2, code := code }) n = ramped (motionOf e n) 9 2 := by
    rw [← hf]
    exact applyStop_moving rfl (.inr (.inr (by rw [hf]; exact hg)))
  rw [motionOf_advanceRamp, ht, hm]
  split
  · exact ⟨rfl, .inr rfl⟩
  · exact ⟨rfl, .inl rfl⟩

/-! ### One frame of homing -/

theorem toward_step (v t : Int) (step : Nat) : (toward v t step - v).natAbs ≤ step := by
  unfold toward
  split <;> omega

theorem home_frame (hs : (motionOf d n).st = .home) :
    let a := d.axis n
    let m := a.motion
    let x := (d.advance d0 n).axis n
    (x.motion.v - m.v).natAbs ≤ d.parN n 136 ∧ (a.homing.latch = true → x.motion.homed = true ∧ 3 ≤ x.homing.phase) ∧
      (a.homing.latch = false → x.motion.homeOff = m.homeOff ∧ x.motion.homed = m.homed) ∧
      (x.motion.st = .home ∨ (x.motion.st = .stand ∧ x.motion.v = 0 ∧ x.homing.phase = 5)) := by
  intro a m x
  have ha : d.advance d0 n = d.advanceHome n := by
    unfold Dev.advance
    rw [show (d.axis n).motion.st = .home from hs]
  have hx : x = (d.advanceHome n).axis n := congrArg (Dev.axis · n) ha
  revert hx
  unfold Dev.advanceHome
  extract_lets a1 h m1 hspd dir target v m'
  have hst : m1.st = .home := by
    show a1.motion.st = _
    unfold a1
    split <;> exact hs
  have hv : m1.v = m.v := by
    show a1.motion.v = _
    unfold a1
    split <;> rfl
  have hstep : (v - m.v).natAbs ≤ d.parN n 136 := by rw [← hv]; exact toward_step _ _ _
  have hl : a.homing.latch = true → m1.homed = true ∧ h.phase = 3 := fun e => by
    have : a1 = a.latchHome := if_pos e
    exact ⟨congrArg (·.motion.homed) this, congrArg (·.homing.phase) this⟩
  have hn : a.homing.latch = false → m1.homeOff = m.homeOff ∧ m1.homed = m.homed := fun e => by
    have : a1 = a := if_neg (by rw [show a.homing.latch = false from e]; exact Bool.false_ne_true)
    exact ⟨congrArg (·.motion.homeOff) this, congrArg (·.motion.homed) this⟩
  split
  · next h1 =>
    intro hx
    rw [hx, axis_setAxis_self]
    simp only [Bool.and_eq_true, decide_eq_true_eq] at h1
    exact ⟨hstep, fun e => by have := (hl e).2; omega, hn, .inl hst⟩
  · split
    · next h3 =>
      intro hx
      simp only [Bool.and_eq_true, decide_eq_true_eq] at h3
      have hm : x.motion = m'.toStand := by rw [hx, axis_setAxis_self, motion_abandonMove]
      have hh : x.homing.phase = 5 := by
        rw [hx, axis_setAxis_self]
        unfold Axis.abandonMove Axis.closeMove
        split <;> rfl
      rw [hm, hh]
      exact ⟨(congrArg (fun w : Int => (w - m.v).natAbs) h3.2).symm.trans_le hstep, fun e => ⟨(hl e).1, by decide⟩, hn, .inr ⟨rfl, rfl, rfl⟩⟩
    · intro hx
      rw [hx, axis_setAxis_self]
      exact ⟨hstep, fun e => ⟨(hl e).1, (hl e).2.ge⟩, hn, .inl hst⟩

/-! ### One frame of gearing -/

/-- The axis stops as one that lost its master. -/
def masterLost (d : Dev) (n code : Nat) : Dev := (d.takeStops n [{ cause := 9, ramp := 2, code := code }]).advanceRamp n

theorem wayTo_eq (a b : Int) : wayTo a b = (BitVec.ofInt 48 (b - a)).toInt := rfl

/-- A gearing after a frame in which the master is known. -/
def followed (g : Gearing) (mj : Int) (miss : Nat) : Gearing :=
  { g with lostFrames := miss, mj := mj, me := if g.fresh then mj else g.me, fresh := false }

/-- An axis that lost its master is on its ramp, or at its end. -/
theorem advance_stops {e : Dev} {code : Nat} (hg : (motionOf e n).st = .gear) (h : d.advance d0 n = masterLost e n code) :
    (motionOf (d.advance d0 n) n).cause = 9 ∧ ((motionOf (d.advance d0 n) n).st = .stop ∨ (motionOf (d.advance d0 n) n).st = .stand) := by
  rw [h]
  exact gear_stops hg code

theorem advance_gear (hs : (motionOf d n).st = .gear) : d.advance d0 n = d.advanceGear d0 n := by
  unfold Dev.advance
  rw [show (d.axis n).motion.st = .gear from hs]

theorem advanceGear_lost (h : d0.masterPos (d.axis n).gearing = none ∨ d.gearTable (d.axis n).gearing.table = none) :
    d.advanceGear d0 n = masterLost d n 0x2015 := by
  unfold Dev.advanceGear
  dsimp only
  split
  · rfl
  · rfl
  · next hm ht =>
    obtain e | e := h
    · cases hm.symm.trans e
    · cases ht.symm.trans e

section Master

variable {mj : Int} {miss : Nat} {t : List GearEntry} (hm : d0.masterPos (d.axis n).gearing = some (mj, miss))
  (ht : d.gearTable (d.axis n).gearing.table = some t)

include hm ht

theorem advanceGear_missed (h : 3 ≤ miss) : d.advanceGear d0 n = masterLost d n 0x2015 := by
  unfold Dev.advanceGear
  dsimp only
  rw [hm, ht]
  exact if_pos h

/-- The way a geared axis has to its place. -/
theorem advanceGear_beyond (h : miss < 3) {v : Int}
    (hv : v = wayTo (motionOf d n).x (gearX t (d.axis n).gearing.slaveX (if (d.axis n).gearing.fresh then mj else (d.axis n).gearing.me) mj))
    (hb : d.parN n 128 < v.natAbs ∨ d.parN n 129 < (v - (motionOf d n).v).natAbs) :
    d.advanceGear d0 n = masterLost (d.setAxis n { d.axis n with gearing := followed (d.axis n).gearing mj miss }) n 0x2016 := by
  subst hv
  unfold Dev.advanceGear
  dsimp only
  rw [hm, ht]
  dsimp only
  rw [if_neg (Nat.not_le.mpr h)]
  refine if_pos ?_
  simp only [Bool.or_eq_true, decide_eq_true_eq]
  exact hb

theorem advanceGear_within (h : miss < 3) {v : Int}
    (hv : v = wayTo (motionOf d n).x (gearX t (d.axis n).gearing.slaveX (if (d.axis n).gearing.fresh then mj else (d.axis n).gearing.me) mj))
    (h1 : v.natAbs ≤ d.parN n 128) (h2 : (v - (motionOf d n).v).natAbs ≤ d.parN n 129) (hs : (motionOf d n).st = .gear) :
    let x := motionOf (d.advanceGear d0 n) n
    x.st = .gear ∧ x.v = v ∧ x.homeOff = (motionOf d n).homeOff := by
  subst hv
  dsimp only
  unfold Dev.advanceGear
  dsimp only
  rw [hm, ht]
  dsimp only
  rw [if_neg (Nat.not_le.mpr h), if_neg, motionOf_setAxis]
  · exact ⟨hs, rfl, rfl⟩
  · simp only [Bool.or_eq_true, decide_eq_true_eq, not_or, Nat.not_lt]
    exact ⟨h1, h2⟩

end Master

end Frames

/-! ### The closing of a frame -/

theorem frameBoundary_motion {s : State} {roleIn : Bool} (ho : s.dev.operating = true) (hr : s.dev.pair.role ≠ .standby) :
    ∃ d1 d2 : Dev,
      d1 = s.dev.axes'.foldl (fun d n => d.observeMove n) (s.dev.axes'.foldl (fun d n => d.estimate n)
        (s.dev.axes'.foldl (fun d n => if (d.axis n).motion.atEnd then d.endMove n else d) s.dev).monitors) ∧
      d2 = s.dev.axes'.foldl (fun d n => d.motionFrame d1 n) d1 ∧
      let d3 := s.dev.axes'.foldl (fun d n => d.modMotion n Motion.turnOver) (d2.doorFrames d2.sys.frame)
      exec (.frameBoundary roleIn) s = .next { s with dev :=
        (d3.leftAxes.foldl (fun d n => d.showState n) d3).copySummary.openFrame roleIn } := by
  refine ⟨_, _, rfl, rfl, ?_⟩
  have hp : (s.dev.axes'.foldl (fun d n => if (d.axis n).motion.atEnd then d.endMove n else d) s.dev).pair = s.dev.pair := by
    refine List.foldlRecOn (motive := fun e : Dev => e.pair = s.dev.pair) _ _ rfl fun e he n _ => ?_
    split
    · exact (endMove_moves e n).pair.trans he
    · exact he
  refine (if_pos ho).trans ?_
  unfold Dev.closeFrame Dev.pipelinesRun
  dsimp only
  rw [hp, if_pos (bne_iff_ne.mpr hr)]

theorem moving_iff {st : AxState} : (st == .move || st == .home || st == .gear) = true ↔ st = .move ∨ st = .home ∨ st = .gear := by
  simp only [Bool.or_eq_true, beq_iff_eq, or_assoc]

theorem takes_stop (d : Dev) (n : Nat) : Takes d n .stop 0 fun x =>
    if (motionOf d n).st = .move ∨ (motionOf d n).st = .home ∨ (motionOf d n).st = .gear then
      x.motion.st = .stop ∧ x.motion.cause = 1 ∧ x.motion.ramp = fld (d.par n 134) 0 2 ∧ x.motion.rampFrames = 0 else x = d.axis n :=
  takes_ramp (if_congr moving_iff rfl rfl : d.takeRequest n .stop = _)

theorem takes_ungear (d : Dev) (n : Nat) : Takes d n .ungear 0 fun x =>
    if (motionOf d n).st = .gear then
      x.motion.st = .stop ∧ x.motion.cause = 2 ∧ x.motion.ramp = fld (d.par n 134) 0 2 ∧ x.motion.rampFrames = 0 else x = d.axis n :=
  takes_ramp (if_congr beq_iff_eq rfl rfl : d.takeRequest n .ungear = _)

theorem takes_speed (d : Dev) (n : Nat) (c : Option Word) : Takes d n (.speed c) (if (motionOf d n).st = .stop then 0x2002 else 0) fun x =>
    x.motion.spdCap = c ∧ x.motion.st = (motionOf d n).st :=
  takes_cap (f := fun m => { m with spdCap := c }) (post := fun y => y.spdCap = c ∧ y.st = (motionOf d n).st) rfl fun _ => ⟨rfl, rfl⟩

theorem takes_accel (d : Dev) (n : Nat) (c : Option Word) : Takes d n (.accel c) (if (motionOf d n).st = .stop then 0x2002 else 0) fun x =>
    x.motion.accCap = c ∧ x.motion.st = (motionOf d n).st :=
  takes_cap (f := fun m => { m with accCap := c }) (post := fun y => y.accCap = c ∧ y.st = (motionOf d n).st) rfl fun _ => ⟨rfl, rfl⟩

theorem Takes.refused {d : Dev} {n code : Nat} {r : Req} {post : Axis → Prop} (h : Takes d n r code post) (hc : (d.takeRequest n r).2 ≠ 0) :
    (d.takeRequest n r).1 = d := h.2.1 (h.1 ▸ hc)

/-- A refused request changes nothing. -/
theorem takeRequest_refused (d : Dev) (n : Nat) (r : Req) (h : (d.takeRequest n r).2 ≠ 0) : (d.takeRequest n r).1 = d := by
  cases r with
  | start t p rel => exact (takes_start d n t p rel).refused h
  | home p positive src => exact (takes_home d n p positive src).refused h
  | gear sig t => exact (takes_gear d n sig t).refused h
  | stop => exact (takes_stop d n).refused h
  | ungear => exact (takes_ungear d n).refused h
  | speed c => exact (takes_speed d n c).refused h
  | accel c => exact (takes_accel d n c).refused h
  | mode k => exact absurd rfl h

/-- What the stop requests of a frame come to, by the one that applies. -/
theorem takeStops_outcome {d : Dev} {n : Nat} {l : List StopReq} {b : StopReq} (h : bestStop l = some b) :
    let m := (d.axis n).motion
    let m' := ((d.takeStops n l).axis n).motion
    (b.torqueOff = true → m.st ≠ .noconf → m'.st = .off ∧ m'.cause = b.cause) ∧
      (b.torqueOff = false → m.st = .move ∨ m.st = .home ∨ m.st = .gear →
        m'.st = .stop ∧ m'.ramp = b.ramp ∧ m'.cause = b.cause ∧ m'.v = m.v ∧ m'.raw = m.raw) ∧
      (b.torqueOff = false → m.st = .stop → m' = if m.ramp < b.ramp then { m with ramp := b.ramp, cause := b.cause } else m) ∧
      (b.torqueOff = false → m.st = .stand ∨ m.st = .off → m' = { m with cause := b.cause }) := by
  intro m m'
  obtain ⟨e, he, ht⟩ := takeStops_best (d := d) (n := n) h
  have hm' : m' = motionOf (e.applyStop n b) n := congrArg (motionOf · n) ht
  have hm : motionOf e n = m := he
  rw [hm']
  refine ⟨fun hb hn => applyStop_torqueOff hb (by rw [hm]; exact hn), fun hb hs => ?_, fun hb hs => ?_, fun hb hs => ?_⟩
  · rw [applyStop_moving hb (by rw [hm]; exact hs), hm]
    exact ⟨rfl, rfl, rfl, rfl, rfl⟩
  · rw [applyStop_ramp hb (by rw [hm]; exact hs), hm]
  · rw [applyStop_still hb (by rw [hm]; exact hs), hm]

/-- Settles O34: the closing of a frame by its phases; requests, stops, ramps, homing and gearing each by their own lemma. -/
theorem motionFrames : Obligations.MotionFrames := by
  unfold Obligations.MotionFrames
  refine ⟨fun s roleIn ho hr => frameBoundary_motion ho hr, fun d d0 n hn => ?_⟩
  intro a m sel busy moves takes ramp
  have hbusy (start : Bool) : d.standstillCode n start = busy start := standstillCode_eq d n start
  refine ⟨fun t p rel => ?_, fun p positive src => ?_, fun sig t => ?_, ?_, ?_, fun c => ?_, fun c => ?_, fun seq r => ⟨takeRequests_motion d n seq r,
    fun hc hf => takeRequests_slot15 hn hc hf seq r, fun h => ?_⟩, rfl, fun l hl => ?_, ramp_frame, home_frame, fun hs => ?_⟩
  · rw [← hbusy]
    exact takes_start d n t p rel
  · rw [← hbusy]
    exact takes_home d n p positive src
  · rw [← hbusy]
    exact takes_gear d n sig t
  · exact takes_stop d n
  · exact takes_ungear d n
  · exact takes_speed d n c
  · exact takes_accel d n c
  · exact takeRequests_refused hn (takeRequest_refused d n r h) h
  · obtain ⟨b, hb, hm, ho⟩ := bestStop_spec l hl
    exact ⟨b, hm, ho, takeStops_outcome hb⟩
  · have ha : d.advance d0 n = d.advanceGear d0 n := advance_gear hs
    refine ⟨fun h => ?_, fun mj miss t hm ht => ⟨fun h => ?_, fun h hb => ?_, fun h h1 h2 => ?_⟩⟩
    · have hl := ha.trans (advanceGear_lost h)
      exact ⟨advance_stops hs hl, hl⟩
    · have hl := ha.trans (advanceGear_missed hm ht h)
      exact ⟨advance_stops hs hl, hl⟩
    · have hl := ha.trans (advanceGear_beyond hm ht h (wayTo_eq _ _).symm hb)
      exact ⟨advance_stops (by rw [motionOf_setAxis]; exact hs) hl, followed a.gearing mj miss, hl⟩
    · rw [ha]
      exact advanceGear_within hm ht h (wayTo_eq _ _).symm h1 h2 hs

end Sys2Proof.Proofs
end

section
/-! SUPPORT. The estimator's frame (R155–R170): the floor, the counts of obstacle and stall, and the stops it raises. -/

namespace Sys2Proof.Proofs

open Sys2Proof.Machine Sys2Proof.Safety

section Estimate

variable {d e : Dev} {n : Nat}

/-! ### What a frame reads -/

theorem Logs.sig (h : Logs d e) (k : Nat) : e.sig k = d.sig k := h.space.sig (by rw [h.sigs])

theorem Logs.par (h : Logs d e) (n s : Nat) : e.par n s = d.par n s := congrArg Sig.value (h.sig _)

theorem Logs.parI (h : Logs d e) (n s : Nat) : e.parI n s = d.parI n s := congrArg sval (h.par n s)

theorem Logs.parN (h : Logs d e) (n s : Nat) : e.parN n s = d.parN n s := congrArg Int.toNat (h.parI n s)

theorem Logs.closeDir (h : Logs d e) (n : Nat) : e.closeDir n = d.closeDir n := by
  unfold Dev.closeDir
  rw [h.parI, h.parI]

theorem Logs.upperBound (h : Logs d e) (n : Nat) (c : Bool) (b : Nat) : e.upperBound n c b = d.upperBound n c b := by
  unfold Dev.upperBound
  rw [h.axis, h.parI, h.parI, h.par]

/-! ### The floor -/

/-- The axis rests. -/
def rests (m : Motion) : Prop := m.st = .stand ∨ m.st = .off ∨ m.st = .noconf

theorem rests_iff {m : Motion} : (m.st == .stand || m.st == .off || m.st == .noconf) = true ↔ rests m := by
  simp only [Bool.or_eq_true, beq_iff_eq, or_assoc, rests]

theorem judgeFloor_rest (h : rests (d.axis n).motion) : d.judgeFloor n = (true, 0) := if_pos (rests_iff.mpr h)

theorem judgeFloor_above (h : ¬rests (d.axis n).motion) (hb : (d.axis n).estim.below = false) :
    (d.judgeFloor n).1 = decide (8 * (d.axis n).motion.v.natAbs < 7 * (d.raw n 64).toInt.toNat) := by
  unfold Dev.judgeFloor
  dsimp only
  rw [if_neg (fun e => h (rests_iff.mp e)), if_neg (by rw [hb]; exact Bool.false_ne_true)]
  split
  · next hc => exact (decide_eq_true hc).symm
  · next hc => exact (decide_eq_false hc).symm

theorem judgeFloor_below (h : ¬rests (d.axis n).motion) (hb : (d.axis n).estim.below = true) :
    (d.judgeFloor n).1 = !decide ((d.raw n 64).toInt.toNat ≤ (d.axis n).motion.v.natAbs ∧ 16 ≤ (d.axis n).estim.floorFrames + 1) := by
  unfold Dev.judgeFloor
  dsimp only
  rw [if_neg (fun e => h (rests_iff.mp e)), if_pos hb]
  by_cases hf : (d.raw n 64).toInt.toNat ≤ (d.axis n).motion.v.natAbs
  · rw [show (sval (d.raw n 64)).toNat = (d.raw n 64).toInt.toNat from rfl, if_pos hf]
    split
    · next hk => rw [decide_eq_true ⟨hf, hk⟩]; rfl
    · next hk => rw [decide_eq_false fun e => hk e.2]; rfl
  · rw [show (sval (d.raw n 64)).toNat = (d.raw n 64).toInt.toNat from rfl, if_neg hf, if_neg (by decide), decide_eq_false fun e => hf e.1]
    rfl

/-! ### The stops of a frame -/

/-- An axis for which a stop is raised. -/
def withStops (a : Axis) (l : List StopReq) : Axis := { a with motion := { a.motion with stops := a.motion.stops ++ l } }

theorem axis_estimStop_self (d : Dev) (n cause code : Nat) (word : Word) :
    (d.estimStop n cause code word).axis n = withStops (d.axis n) [{ cause := cause, ramp := 1, code := code }] :=
  (((Logs.refl (d.raiseStop n cause 1 code)).eventRep code n (d.stopPayload n cause code word)).axis n).trans (axis_setAxis_self d n _)

theorem axis_estimStop_other (d : Dev) {n k : Nat} (cause code : Nat) (word : Word) (h : k ≠ n) :
    (d.estimStop n cause code word).axis k = d.axis k :=
  (((Logs.refl (d.raiseStop n cause 1 code)).eventRep code n (d.stopPayload n cause code word)).axis k).trans
    (axis_raiseStop_other d cause 1 code h)

/-- A stop raised where a condition holds. -/
def stopIf (p : Prop) [Decidable p] (cause code : Nat) : List StopReq := if p then [{ cause := cause, ramp := 1, code := code }] else []

theorem axis_estimStop_if (d : Dev) (n cause code : Nat) (word : Word) (p : Prop) [Decidable p] :
    (if p then d.estimStop n cause code word else d).axis n = withStops (d.axis n) (stopIf p cause code) := by
  unfold stopIf
  split
  · exact axis_estimStop_self d n cause code word
  · unfold withStops
    rw [List.append_nil]

theorem axis_estimStop_if_other (d : Dev) {n k : Nat} (cause code : Nat) (word : Word) (p : Prop) [Decidable p] (h : k ≠ n) :
    (if p then d.estimStop n cause code word else d).axis k = d.axis k := by
  split
  · exact axis_estimStop_other d cause code word h
  · rfl

theorem withStops_withStops (a : Axis) (l r : List StopReq) : withStops (withStops a l) r = withStops a (l ++ r) := by
  unfold withStops
  simp only [List.append_assoc]

theorem Stored.sigQuality (h : Stored d e) (n : Nat) (st cv : Bool) : Stored d (e.sigQuality n st cv) :=
  .ite ((h.modHidden _).setSig n _) h

theorem underway_iff {st : AxState} : st.underway = true ↔ st = .move ∨ st = .home ∨ st = .gear ∨ st = .stop := by
  cases st <;> simp [AxState.underway]

/-- The tracked rotor is all that following it changes. -/
theorem track_eq (e : Estim) (x4 : Int) (angle : Nat) (sal : Bool) (seat : Int) (full : Nat) :
    ∃ r a l, e.track x4 angle sal seat full = { e with rotor := r, angle := a, lag := l } := by
  unfold Estim.track
  split <;> exact ⟨_, _, _, rfl⟩

/-- The estimate is masked near the closed position. -/
abbrev maskedAt (d : Dev) (n : Nat) : Prop :=
  sgn (d.histAt n 3).v ≠ 0 ∧ sgn (d.histAt n 3).v = d.closeDir n ∧
    ((d.histAt n 3).raw + (d.axis n).motion.homeOff.toInt - d.parI n 72 * 65536).natAbs ≤ d.parN n 75 * 65536

/-- What an evaluation decides: the floor, the counts and the bound of the estimate, and the stops it raises. -/
structure Decided (d : Dev) (n : Nat) (e : Estim) (obs stall edge : Bool) : Prop where
  floor : (e.below, e.floorFrames) = d.judgeFloor n
  valid : e.valid = true → e.below = false
  obsN : e.obsN = if e.below ∨ maskedAt d n then 0 else if e.valid = false then (d.axis n).estim.obsN
    else if e.ub < e.dres then (d.axis n).estim.obsN + 1 else 0
  stallA : e.stallA = if e.below then 0 else if e.valid = false then (d.axis n).estim.stallA
    else if (d.par n 66).toNat ≤ e.delta.natAbs then (d.axis n).estim.stallA + 1 else 0
  stallE : e.stallE = if e.below then 0 else if e.valid = false then (d.axis n).estim.stallE
    else if e.emf * 100 * 65536 < fld (d.par n 67) 0 8 * (d.estIn n).ke * (d.histAt n 3).v.natAbs then (d.axis n).estim.stallE + 1 else 0
  ub : e.ub = d.upperBound n e.closing e.bin
  obstacle : obs = true ↔ ((d.axis n).motion.st = .move ∨ (d.axis n).motion.st = .gear) ∧ e.valid = true ∧ ¬maskedAt d n ∧
    fld (d.par n 65) 0 4 ≤ e.obsN
  stalls : stall = true ↔ (d.axis n).motion.st.underway = true ∧ e.valid = true ∧
    (fld (d.par n 65) 8 4 ≤ e.stallA ∨ fld (d.par n 65) 8 4 ≤ e.stallE)
  edges : edge = true ↔ (d.par n 14).getLsbD 0 = true ∧
    ((d.axis n).motion.st = .move ∨ (d.axis n).motion.st = .home ∨ (d.axis n).motion.st = .gear) ∧ sgn (d.axis n).motion.v ≠ 0 ∧
    (fld (d.par n 65) 16 2 = 2 ∨ (fld (d.par n 65) 16 2 = 1 ∧ sgn (d.axis n).motion.v = d.closeDir n))

/-- A frame of the estimator: its records, the axis with its evaluation, its slots, and its stops. -/
theorem estimate_shape (d : Dev) (n : Nat) : ∃ (d1 d2 : Dev) (e : Estim) (w : Word) (obs stall edge : Bool), Logs d d1 ∧
    Stored (d1.setAxis n { d.axis n with estim := e }) d2 ∧ Decided d n e obs stall edge ∧ d.estimate n =
      let d3 := if obs then d2.estimStop n 3 0x2801 w else d2
      let d4 := if stall then d3.estimStop n 4 (if fld (d.par n 65) 8 4 ≤ e.stallA then 0x2802 else 0x2803) w else d3
      if edge then d4.estimStop n 6 0x2804 w else d4 := by
  generalize hz : d.estimate n = z
  unfold Dev.estimate at hz
  extract_lets a e i h x4 st good full d1 dir rotor emf delta delta32 turn turns closing bin dres ub mask slow p65 mode v1 edge unlearned
    energised s seat at hz
  rcases hj : d.judgeFloor n with ⟨below, floorFrames⟩
  rw [hj] at hz
  dsimp -zeta only at hz
  extract_lets valid excess obsN stallA stallE obs stall stallCode shown word speedOk speed sal e1 e2 e3 d2 d3 d4 d5 d6 d7 d8 at hz
  have h1 : Logs d d1 := .ite ((Logs.refl d).eventRep _ _ _) (.refl d)
  have hs : Stored (d1.setAxis n { a with estim := e3 }) d6 :=
    ((Stored.ite (((Stored.refl d2).devSig _ _ _ _).devSig _ _ _ _ |>.devSig _ _ _ _)
      (((Stored.refl d2).devSig _ _ _ _).devSig _ _ _ _ |>.sigQuality _ _ _)).devNat _ _)
  have h2 : ∃ r, e2 = { e1 with rotor := r } := by
    unfold e2
    split <;> exact ⟨_, rfl⟩
  have h3 : ∃ r x l, e3 = { e1 with rotor := r, angle := x, lag := l } := by
    obtain ⟨r, hr⟩ := h2
    unfold e3
    rw [hr]
    split
    · exact track_eq _ _ _ _ _ _
    · split
      · exact track_eq _ _ _ _ _ _
      · exact ⟨_, _, _, rfl⟩
  obtain ⟨r, x, l, h3⟩ := h3
  have hmask : mask = true ↔ maskedAt d n := by
    simp only [mask, Bool.and_eq_true, bne_iff_ne, beq_iff_eq, decide_eq_true_eq, h1.closeDir, h1.parI, h1.parN, and_assoc]
    exact Iff.rfl
  have hv : (!valid) = true ↔ valid = false := by rw [Bool.not_eq_true']
  refine ⟨d1, d6, e3, word, obs, stall, edge, h1, hs, ?_, hz.symm.trans ?_⟩
  · rw [h3]
    constructor
    case floor => exact hj.symm
    case valid =>
      intro hv
      simp only [e1, valid, Bool.and_eq_true, Bool.not_eq_true'] at hv
      exact hv.2
    case ub => exact h1.upperBound n closing bin
    case obsN => exact if_congr (by rw [Bool.or_eq_true, hmask]) rfl (if_congr hv rfl rfl)
    case stallA =>
      by_cases hb : below = true
      · exact (if_pos hb).trans (if_pos hb).symm
      · refine if_congr Iff.rfl rfl (if_congr hv rfl (if_congr ?_ rfl rfl))
        rw [h1.par]
        exact (by rw [show e1.delta = delta32 from if_neg hb] : _ ↔ (d.par n 66).toNat ≤ e1.delta.natAbs)
    case stallE =>
      refine if_congr Iff.rfl rfl (if_congr hv rfl (if_congr ?_ rfl rfl))
      unfold slow
      rw [h1.par]
      exact Iff.rfl
    case obstacle =>
      simp only [obs, p65, Bool.and_eq_true, Bool.or_eq_true, beq_iff_eq, Bool.not_eq_true', decide_eq_true_eq, h1.par, and_assoc,
        ← Bool.not_eq_true, hmask]
      exact Iff.rfl
    case stalls =>
      simp only [stall, p65, Bool.and_eq_true, Bool.or_eq_true, beq_iff_eq, decide_eq_true_eq, h1.par, and_assoc, or_assoc]
      exact and_congr_left fun _ => underway_iff.symm
    case edges =>
      simp only [edge, mode, v1, p65, bit, Bool.and_eq_true, Bool.or_eq_true, beq_iff_eq, bne_iff_ne, h1.par, h1.closeDir, and_assoc, or_assoc]
      exact Iff.rfl
  · rw [h3]
    rw [show d.par n 65 = p65 from (h1.par n 65).symm]

/-- The motion and the other axes after a frame of the estimator. -/
theorem estimate_axes (d : Dev) (n : Nat) : ∃ (e : Estim) (obs stall edge : Bool), Decided d n e obs stall edge ∧
    ((d.estimate n).axis n).estim = e ∧ ((d.estimate n).axis n).motion = { (d.axis n).motion with stops := (d.axis n).motion.stops ++
      (stopIf (obs = true) 3 0x2801 ++ stopIf (stall = true) 4 (if fld (d.par n 65) 8 4 ≤ e.stallA then 0x2802 else 0x2803) ++
        stopIf (edge = true) 6 0x2804) } ∧
    ∀ k, k ≠ n → (d.estimate n).axis k = d.axis k := by
  obtain ⟨d1, d2, e, w, obs, stall, edge, h1, h2, hj, hz⟩ := estimate_shape d n
  have ha : d2.axis n = { d.axis n with estim := e } := (h2.axis n).trans (axis_setAxis_self d1 n _)
  have hn : (d.estimate n).axis n = withStops { d.axis n with estim := e } (stopIf (obs = true) 3 0x2801 ++
      stopIf (stall = true) 4 (if fld (d.par n 65) 8 4 ≤ e.stallA then 0x2802 else 0x2803) ++ stopIf (edge = true) 6 0x2804) := by
    rw [hz]
    dsimp only
    rw [axis_estimStop_if, axis_estimStop_if, axis_estimStop_if, withStops_withStops, withStops_withStops, ha, List.append_assoc]
  refine ⟨e, obs, stall, edge, hj, by rw [hn]; rfl, by rw [hn]; rfl, fun k hk => ?_⟩
  rw [hz]
  dsimp only
  rw [axis_estimStop_if_other _ _ _ _ _ hk, axis_estimStop_if_other _ _ _ _ _ hk, axis_estimStop_if_other _ _ _ _ _ hk, h2.axis,
    axis_setAxis_other _ _ hk, h1.axis]

end Estimate

end Sys2Proof.Proofs
end

section
/-! SUPPORT. Door cycles (R171–R176): what a frame of a door leaves to its cycle, the buffers, and the list of promotions. -/

namespace Sys2Proof.Proofs

open Sys2Proof.Machine Sys2Proof.Safety

/-- A door's cycle goes on: whether it is in progress, its start, the motion of the axes, and what zones are read from. -/
structure GoesOn (door : Nat) (d e : Dev) : Prop where
  active : (e.doorCycle door).active = (d.doorCycle door).active
  start : (e.doorCycle door).start = (d.doorCycle door).start
  motion : ∀ k, (e.axis k).motion = (d.axis k).motion
  sigs : e.sigs = d.sigs
  space : SameSpace d e

section GoesOn

variable {door : Nat} {d e f : Dev}

theorem GoesOn.refl (door : Nat) (d : Dev) : GoesOn door d d := ⟨rfl, rfl, fun _ => rfl, rfl, ⟨rfl, fun _ _ => rfl⟩⟩

theorem GoesOn.trans (h : GoesOn door d e) (g : GoesOn door e f) : GoesOn door d f :=
  ⟨g.active.trans h.active, g.start.trans h.start, fun k => (g.motion k).trans (h.motion k), g.sigs.trans h.sigs, h.space.trans g.space⟩

theorem GoesOn.ite {p : Prop} [Decidable p] (h : GoesOn door d e) (g : GoesOn door d f) : GoesOn door d (if p then e else f) := by
  split
  · exact h
  · exact g

theorem GoesOn.foldl {α : Type} {l : List α} {f : Dev → α → Dev} (hf : ∀ e a, GoesOn door d e → GoesOn door d (f e a))
    (h : GoesOn door d e) : GoesOn door d (l.foldl f e) :=
  List.foldlRecOn (motive := GoesOn door d) l f h fun e he a _ => hf e a he

theorem GoesOn.logs (h : GoesOn door d e) (g : Logs e f) : GoesOn door d f :=
  h.trans ⟨congrArg (·.active) (congrArg (smGet {} · door) g.doorCyc), congrArg (·.start) (congrArg (smGet {} · door) g.doorCyc),
    fun k => congrArg Axis.motion (g.axis k), g.sigs, g.space⟩

theorem GoesOn.setAxis (h : GoesOn door d e) (n : Nat) {a : Axis} (ha : a.motion = (e.axis n).motion) : GoesOn door d (e.setAxis n a) := by
  refine h.trans ⟨rfl, rfl, fun k => ?_, rfl, ⟨rfl, fun _ _ => rfl⟩⟩
  by_cases hk : k = n
  · rw [hk, axis_setAxis_self, ha]
  · rw [axis_setAxis_other _ _ hk]

theorem GoesOn.modCycle (h : GoesOn door d e) (n : Nat) (f : AxCycle → AxCycle) : GoesOn door d (e.modCycle n f) := h.setAxis n rfl

theorem GoesOn.promos (h : GoesOn door d e) (l : List Promo) : GoesOn door d { e with promos := l } :=
  h.trans ⟨rfl, rfl, fun _ => rfl, rfl, ⟨rfl, fun _ _ => rfl⟩⟩

theorem doorCycle_put (d : Dev) (i door : Nat) (c : DoorCycle) :
    ({ d with doorCyc := smPut d.doorCyc i c } : Dev).doorCycle door = if door = i then c else d.doorCycle door := by
  by_cases h : door = i
  · rw [if_pos h, h]
    exact smGet_smPut_self _ _ _ _
  · rw [if_neg h]
    exact smGet_smPut_other _ _ _ _ _ h

/-- Another part of a cycle is noted: it stays in progress with its start. -/
theorem GoesOn.noteCycle (h : GoesOn door d e) (i : Nat) {c : DoorCycle} (ha : c.active = (e.doorCycle i).active)
    (hs : c.start = (e.doorCycle i).start) : GoesOn door d { e with doorCyc := smPut e.doorCyc i c } := by
  refine h.trans ⟨?_, ?_, fun _ => rfl, rfl, ⟨rfl, fun _ _ => rfl⟩⟩ <;> rw [doorCycle_put] <;> split
  · next hi => rw [ha, hi]
  · rfl
  · next hi => rw [hs, hi]
  · rfl

theorem GoesOn.doorFlag (h : GoesOn door d e) (n bits : Nat) : GoesOn door d (e.doorFlag n bits) := by
  unfold Dev.doorFlag
  split
  · split
    · exact .ite (h.noteCycle _ rfl rfl) h
    · exact h
  · exact h

theorem GoesOn.anomaly (h : GoesOn door d e) (n : Nat) (m : Option MoveRun) (b : Bool) : GoesOn door d (e.anomaly n m b) := by
  unfold Dev.anomaly
  split
  · exact h.modCycle n _
  · exact h

theorem GoesOn.bookStops (h : GoesOn door d e) (n : Nat) : GoesOn door d (e.bookStops n) :=
  .ite h (h.foldl fun _ _ g => .ite (((g.doorFlag n _).modCycle n _).anomaly n _ _) ((g.doorFlag n _).modCycle n _))

theorem GoesOn.enlist (h : GoesOn door d e) (n : Nat) (p : Anomaly) : GoesOn door d (e.enlist n p) :=
  .ite ((h.modCycle n _).logs ((Logs.refl _).eventRep _ _ _)) ((h.promos _).doorFlag n _)

theorem GoesOn.promote (h : GoesOn door d e) (n : Nat) : GoesOn door d (e.promote n) := (h.modCycle n _).foldl fun _ p g => g.enlist n p

theorem GoesOn.cyclePeak (h : GoesOn door d e) (i n idx : Nat) : GoesOn door d (e.cyclePeak i n idx) := by
  unfold Dev.cyclePeak
  extract_lets c a ex c1 c2 peak d1 promex
  have hc1 : c1.active = c.active ∧ c1.start = c.start := by
    unfold c1
    split <;> exact ⟨rfl, rfl⟩
  have hc2 : c2.active = c.active ∧ c2.start = c.start := by
    unfold c2
    split <;> exact hc1
  have h1 : GoesOn door d d1 := (h.noteCycle i hc2.1 hc2.2).modCycle n _
  exact .ite h (.ite (h1.anomaly n _ _) h1)

theorem GoesOn.captureAxis (h : GoesOn door d e) (n : Nat) : GoesOn door d (e.captureAxis n) := by
  unfold Dev.captureAxis
  extract_lets a c st code es put c' d1
  have h1 : GoesOn door d d1 := h.setAxis n rfl
  split
  · exact .ite (h1.logs ((Logs.refl d1).countEvent _ _ _)) h1
  · exact h1

theorem GoesOn.takeBuffer (h : GoesOn door d e) (n : Nat) (frame : Word) : GoesOn door d (e.takeBuffer n frame) :=
  (h.promos _).setAxis n rfl

theorem GoesOn.moveEnters (h : GoesOn door d e) (n : Nat) : GoesOn door d (e.moveEnters n) := h.setAxis n rfl

/-- A cycle that begins. -/
def opened (d : Dev) (door : Nat) (frame : Word) : Dev := { d with doorCyc := smPut d.doorCyc door { active := true, start := frame } }

theorem beginCycle_goesOn (d : Dev) (door : Nat) (frame : Word) : GoesOn door (opened d door frame) (d.beginCycle door frame) :=
  (GoesOn.refl door (opened d door frame)).foldl fun _ n g => .moveEnters (.ite (g.modCycle n _) ((g.modCycle n _).takeBuffer n frame)) n

/-! ### Zones -/

theorem GoesOn.outOfZone (h : GoesOn door d e) (n : Nat) : e.outOfZone n = d.outOfZone n := by
  have hp : ∀ s, e.par n s = d.par n s := fun s => congrArg Sig.value (h.space.sig (by rw [h.sigs]))
  unfold Dev.outOfZone Dev.inZone Dev.parI
  rw [h.motion, hp, hp]

theorem GoesOn.cycleOver (h : GoesOn door d e) (k : Nat) : e.cycleOver k = d.cycleOver k := by
  have ha : e.doorAxesOf k = d.doorAxesOf k := by
    unfold Dev.doorAxesOf
    rw [h.space.image]
  unfold Dev.cycleOver
  simp only [ha, h.motion, h.outOfZone]

/-! ### A frame of a door -/

/-- Every axis of a door is configured, in no homing run, and no CYCCTL waits; the module does not depart. -/
def ordinary (d : Dev) (door : Nat) : Prop :=
  (∀ k ∈ d.doorAxesOf door, d.axConfigured k = true ∧ (d.axis k).cycle.ctl = [] ∧ (d.axis k).motion.st ≠ .home) ∧ d.sys.leaving = false

theorem cycleControl_idle (h : ordinary d door) (frame : Word) : d.cycleControl door frame = (d, false) := by
  refine List.foldlRecOn (motive := fun r : Dev × Bool => r = (d, false)) _ _ rfl fun r hr p hp => ?_
  have hk : p.1 ∈ d.doorAxesOf door := (List.mem_zipIdx hp).2.2 ▸ List.getElem_mem _
  rw [hr]
  dsimp only
  rw [(h.1 p.1 hk).2.1]
  rfl

/-- The state in which a frame of a door goes on: its cycle has begun where an axis is out of its zone. -/
def entered (d : Dev) (door : Nat) (frame : Word) : Dev :=
  if (d.doorCycle door).active = false ∧ (d.doorAxesOf door).any (fun n => d.outOfZone n) = true then d.beginCycle door frame else d

theorem doorFrame_shape (h : ordinary d door) (frame : Word) : ∃ e : Dev, GoesOn door (entered d door frame) e ∧
    Stored (if ((entered d door frame).doorCycle door).active && e.cycleOver door then e.endCycle door frame false else e)
      (d.doorFrame door frame) := by
  have hhome : ((d.doorAxesOf door).any fun n => (d.axis n).motion.st == .home) = false :=
    List.any_eq_false.mpr fun k hk e => (h.1 k hk).2.2 (beq_iff_eq.mp e)
  have hconf : (!(d.doorAxesOf door).all fun n => d.axConfigured n) = false := by
    rw [Bool.not_eq_false', List.all_eq_true]
    exact fun k hk => (h.1 k hk).1
  generalize hz : d.doorFrame door frame = z
  unfold Dev.doorFrame at hz
  rw [cycleControl_idle h] at hz
  extract_lets axes homing at hz
  rw [hconf, if_neg Bool.false_ne_true] at hz
  dsimp -zeta only at hz
  extract_lets forced out d1 d2 d3 c moving d4 d5 d6 d7 d8 at hz
  have hforced : forced = false := (Bool.false_or _).trans h.2
  have hhoming : homing = false := hhome
  have h1 : d1 = entered d door frame := by
    unfold d1 entered
    rw [hforced, hhoming]
    simp only [Bool.not_false, Bool.and_true, Bool.and_eq_true, Bool.not_eq_true']
    rfl
  have h2 : GoesOn door (entered d door frame) d2 := h1 ▸ (GoesOn.refl door d1).foldl fun _ n g => g.bookStops n
  have h3 : GoesOn door (entered d door frame) d3 := .ite (h2.foldl fun _ n g => g.modCycle n _) h2
  have h34 : GoesOn door d3 d4 := (GoesOn.refl door d3).foldl fun _ n g => .ite (g.modCycle n _) g
  have h5 : GoesOn door (entered d door frame) d5 :=
    .ite (.ite ((h3.trans h34).noteCycle door h34.active.symm h34.start.symm) (h3.trans h34)) h3
  have h7 : GoesOn door (entered d door frame) d7 :=
    (h5.foldl fun _ p g => (g.cyclePeak door p.1 p.2).captureAxis p.1).foldl fun _ n g => g.promote n
  have h8 : d8 = if ((entered d door frame).doorCycle door).active && d7.cycleOver door then d7.endCycle door frame false else d7 := by
    unfold d8
    rw [hforced, hhoming, ← h3.active]
    simp only [Bool.and_false, Bool.false_eq_true, if_false, Bool.not_false, Bool.and_true]
    rfl
  refine ⟨d7, h7, ?_⟩
  rw [← hz, ← h8]
  exact (Stored.refl d8).foldl fun _ n g => g.cycleSlots n

theorem doorCycle_of_doorCyc (h : e.doorCyc = d.doorCyc) (k : Nat) : e.doorCycle k = d.doorCycle k := by
  unfold Dev.doorCycle
  rw [h]

theorem closeBooks_active (d : Dev) (door : Nat) (frame : Word) :
    ((d.closeBooks door frame).doorCycle door).active = (d.doorCycle door).active := by
  unfold Dev.closeBooks
  extract_lets c axes d1 drift n0 flags payload
  rw [doorCycle_of_doorCyc ((Logs.refl _).putRecord _ _ _ _ _).doorCyc, doorCycle_put, if_pos rfl]

/-- A cycle that is closed is no longer in progress. -/
theorem endCycle_closed (d : Dev) (door : Nat) (frame : Word) (incomplete : Bool) :
    ((d.endCycle door frame incomplete).doorCycle door).active = false := by
  unfold Dev.endCycle
  extract_lets axes trunc d1 c c' d2 d3
  have h2 : (d2.doorCycle door).active = false := by
    unfold d2
    rw [doorCycle_put, if_pos rfl]
  have h3 : (d3.doorCycle door).active = false := by
    unfold d3
    split
    · exact h2
    · rw [closeBooks_active, h2]
  have hs : Stored d3 (axes.foldl (fun d n => d.cycleSlots n) d3) := (Stored.refl d3).foldl fun _ n g => g.cycleSlots n
  rw [doorCycle_of_doorCyc hs.doorCyc, h3]

/-- The cycle of a door after a frame, from whether it was in progress and where its axes are. -/
theorem doorFrame_cycle (h : ordinary d door) (frame : Word) :
    let c := (d.doorFrame door frame).doorCycle door
    ((d.doorCycle door).active = false → (∃ k ∈ d.doorAxesOf door, d.outOfZone k = true) → c.active = true ∧ c.start = frame) ∧
      ((d.doorCycle door).active = false → (∀ k ∈ d.doorAxesOf door, d.outOfZone k = false) → c.active = false) ∧
      ((d.doorCycle door).active = true → d.cycleOver door = false → c.active = true ∧ c.start = (d.doorCycle door).start) ∧
      ((d.doorCycle door).active = true → d.cycleOver door = true → c.active = false) := by
  intro c
  obtain ⟨e, he, hs⟩ := doorFrame_shape h frame
  have hc : c = _ := doorCycle_of_doorCyc hs.doorCyc door
  have hstay (hd : entered d door frame = d) : e.cycleOver door = d.cycleOver door := by rw [he.cycleOver, hd]
  refine ⟨fun ha ho => ?_, fun ha ho => ?_, fun ha ho => ?_, fun ha ho => ?_⟩
  · have hd : entered d door frame = d.beginCycle door frame := if_pos ⟨ha, List.any_eq_true.mpr ho⟩
    have hb := beginCycle_goesOn d door frame
    have hover : e.cycleOver door = false := by
      rw [he.cycleOver, hd, hb.cycleOver]
      obtain ⟨k, hk, hz⟩ := ho
      refine Bool.eq_false_iff.mpr fun hall => ?_
      have hin := (Bool.and_eq_true_iff.mp (List.all_eq_true.mp hall k hk)).2
      exact absurd (hz.symm.trans (Bool.not_eq_eq_eq_not.mp hin)) (by decide)
    rw [hc, hover, Bool.and_false, if_neg Bool.false_ne_true, he.active, he.start, hd, hb.active, hb.start, opened, doorCycle_put, if_pos rfl]
    exact ⟨rfl, rfl⟩
  · have hd : entered d door frame = d := if_neg fun hx => by
      obtain ⟨k, hk, hz⟩ := List.any_eq_true.mp hx.2
      exact absurd ((ho k hk).symm.trans hz) Bool.false_ne_true
    rw [hc, hd, ha, Bool.false_and, if_neg Bool.false_ne_true, he.active, hd, ha]
  · have hd : entered d door frame = d := if_neg fun hx => absurd (hx.1.symm.trans ha) Bool.false_ne_true
    rw [hc, hstay hd, ho, Bool.and_false, if_neg Bool.false_ne_true, he.active, he.start, hd]
    exact ⟨ha, rfl⟩
  · have hd : entered d door frame = d := if_neg fun hx => absurd (hx.1.symm.trans ha) Bool.false_ne_true
    rw [hc, hd, hstay hd, ha, ho, Bool.and_true, if_pos rfl]
    exact endCycle_closed e door frame false

end GoesOn

/-! ### Captures and promotions -/

section Captures

variable {d : Dev} {n : Nat}

/-- A buffer after a frame of its axis: one more entry, or none where it is full. -/
def captured (y : Capture) (w : Word) : Capture :=
  if y.count < 65536 then { y with entries := w :: y.entries, count := y.count + 1 } else { y with truncated := true }

/-- The buffers after a frame: the one in use takes an entry while the axis is under way. -/
def withEntry (a : Axis) (w : Word) : SMap Capture :=
  match a.cycle.buf with
  | some q => if a.motion.st.underway then smPut a.cycle.buffers q (captured (a.cycle.capture q) w) else a.cycle.buffers
  | none => a.cycle.buffers

theorem captureAxis_buffers (d : Dev) (n : Nat) : ∃ w, ((d.captureAxis n).axis n).cycle.buffers = withEntry (d.axis n) w := by
  unfold Dev.captureAxis
  extract_lets a c st code es put c' d1
  have hd : ∀ e, Logs d1 e → (e.axis n).cycle.buffers = (put c).buffers := fun e h => by
    rw [h.axis, show d1.axis n = _ from axis_setAxis_self d n _]
  have hcode : (d.axis n).motion.st.underway = code.isSome := by
    show st.underway = _
    unfold code
    cases st <;> rfl
  have hput : ∃ w, (put c).buffers = withEntry (d.axis n) w := by
    unfold withEntry put
    dsimp only
    rw [hcode]
    cases hb : (d.axis n).cycle.buf with
    | none => exact ⟨0, rfl⟩
    | some q =>
      cases hk : code with
      | none => exact ⟨0, rfl⟩
      | some k =>
        refine ⟨fields [(0, (BitVec.ofInt 16 es.delta).toNat), (16, es.im % 4096), (28, b2n es.below), (29, b2n (st != c.prevState)), (30, k)], ?_⟩
        dsimp only [Option.isSome_some, captured]
        rw [if_pos rfl]
        split <;> rfl
  obtain ⟨w, hw⟩ := hput
  refine ⟨w, (hd _ ?_).trans hw⟩
  split
  · exact .ite ((Logs.refl d1).countEvent _ _ _) (.refl d1)
  · exact .refl d1

theorem captureAxis_idle (h : (d.axis n).motion.st.underway = false) (q : Nat) :
    ((d.captureAxis n).axis n).cycle.capture q = (d.axis n).cycle.capture q := by
  obtain ⟨w, hw⟩ := captureAxis_buffers d n
  unfold AxCycle.capture
  rw [hw, withEntry]
  split
  · rw [h, if_neg Bool.false_ne_true]
  · rfl

theorem captureAxis_underway {q : Nat} (hb : (d.axis n).cycle.buf = some q) (h : (d.axis n).motion.st.underway = true) :
    ∃ w, ((d.captureAxis n).axis n).cycle.capture q = captured ((d.axis n).cycle.capture q) w := by
  obtain ⟨w, hw⟩ := captureAxis_buffers d n
  refine ⟨w, ?_⟩
  show smGet {} ((d.captureAxis n).axis n).cycle.buffers q = _
  rw [hw, withEntry, hb]
  dsimp only
  rw [if_pos h]
  exact smGet_smPut_self _ _ _ _

/-- The buffer of a cycle that begins. -/
def freshBuffer (a : Axis) (frame : Word) : Capture :=
  { cycle := (a.live.cycles + 1).setWidth 32, start := frame, inProgress := true,
    uses := (a.cycle.capture (a.live.cycles.toNat % 4)).uses + 1 }

theorem takeBuffer_captures (d : Dev) (n : Nat) (frame : Word) :
    let c := ((d.takeBuffer n frame).axis n).cycle
    let q := (d.axis n).live.cycles.toNat % 4
    c.buf = some q ∧ (c.capture q).entries = [] ∧ (c.capture q).cycle = ((d.axis n).live.cycles + 1).setWidth 32 ∧
      (c.capture q).start = frame ∧ ∀ k, k ≠ q → c.capture k = (d.axis n).cycle.capture k := by
  intro c q
  have hc : c.buf = some q ∧ c.buffers = smPut (d.axis n).cycle.buffers q (freshBuffer (d.axis n) frame) := by
    have ha : c = _ := congrArg Axis.cycle (axis_setAxis_self _ n _)
    rw [ha]
    exact ⟨rfl, rfl⟩
  have hcap (k : Nat) : c.capture k = smGet {} c.buffers k := rfl
  have hq : c.capture q = freshBuffer (d.axis n) frame := by
    rw [hcap, hc.2]
    exact smGet_smPut_self _ _ _ _
  refine ⟨hc.1, ?_, ?_, ?_, fun k hk => ?_⟩
  · rw [hq]; rfl
  · rw [hq]; rfl
  · rw [hq]; rfl
  · rw [hcap, hc.2]
    exact smGet_smPut_other _ _ _ _ _ hk

theorem enlist_promos (h : d.promos.length ≤ 512) (p : Anomaly) : (d.enlist n p).promos.length ≤ 512 := by
  unfold Dev.enlist
  extract_lets m q
  split
  · rw [((Logs.refl (d.modCycle n _)).eventRep _ _ _).promos]
    exact h
  · next hn =>
    obtain ⟨l, hl⟩ := doorFlag_eq { d with promos := d.promos ++ [q] } n 256
    rw [hl]
    show (d.promos ++ [q]).length ≤ 512
    rw [List.length_append]
    exact Nat.lt_of_not_le hn

end Captures

theorem stopIf_congr {p q : Prop} [Decidable p] [Decidable q] (h : p ↔ q) {cause code : Nat} : stopIf p cause code = stopIf q cause code :=
  if_congr h rfl rfl

/-- Settles O35: the estimator's frame, the cycle of a door, and its captures and promotions. -/
theorem loadAngleAndCycles : Obligations.LoadAngleAndCycles := by
  unfold Obligations.LoadAngleAndCycles
  intro d n a m e d' e' h v floor rest p65 close masked obstacle stall edge stop raised
  obtain ⟨x, obs, st, ed, hj, hx, hm, hk⟩ := estimate_axes d n
  subst hx
  refine ⟨fun hr => ?_, fun hr hb => (congrArg Prod.fst hj.floor).trans (judgeFloor_above hr hb),
    fun hr hb => (congrArg Prod.fst hj.floor).trans (judgeFloor_below hr hb), hj.valid, hj.obsN, hj.stallA, hj.stallE, hj.ub, ?_, hk,
    fun door frame ho hl => ?_, fun inc => ?_, takeBuffer_captures d n, fun q hq => ⟨fun hu => captureAxis_idle hu q, fun hu hc => ?_,
    fun hu hc => ?_⟩, fun p hp => enlist_promos hp p⟩
  · have := hj.floor.trans (judgeFloor_rest hr)
    exact ⟨congrArg Prod.fst this, congrArg Prod.snd this⟩
  · refine hm.trans (congrArg (fun l => { m with stops := m.stops ++ l }) ?_)
    exact congrArg₂ (· ++ ·) (congrArg₂ (· ++ ·) (stopIf_congr hj.obstacle) (stopIf_congr hj.stalls)) (stopIf_congr hj.edges)
  · exact doorFrame_cycle ⟨ho, hl⟩ frame
  · have ha : (d.endAxisCycle n inc).axis n = _ := axis_setAxis_self d n _
    intro y l c counted
    have hy : y = _ := ha
    rw [hy]
    exact ⟨rfl, rfl, rfl⟩
  · obtain ⟨w, hw⟩ := captureAxis_underway hq hu
    have hz := hw.trans (if_pos hc)
    rw [hz]
    exact ⟨rfl, rfl, w, rfl⟩
  · obtain ⟨w, hw⟩ := captureAxis_underway hq hu
    exact hw.trans (if_neg (Nat.not_lt.mpr hc))

end Sys2Proof.Proofs
end

section
/-! SUPPORT. The queues of a sheaf (R207–R209) and the monitors of an axis (R230–R236). -/

namespace Sys2Proof.Proofs

open Sys2Proof.Machine Sys2Proof.Safety

/-! ### Queues -/

section Queues

variable {d e : Dev} {q : Nat}

theorem queue_setQueue_self (d : Dev) (q : Nat) (x : Queue) : (d.setQueue q x).queue q = x := smGet_smPut_self _ _ _ _

theorem queue_setQueue_other (d : Dev) {q k : Nat} (x : Queue) (h : k ≠ q) : (d.setQueue q x).queue k = d.queue k := smGet_smPut_other _ _ _ _ _ h

theorem Logs.queue (h : Logs d e) (k : Nat) : e.queue k = d.queue k := by
  unfold Dev.queue
  rw [h.queues]

/-- A queue with one more block on die. -/
def onDieMore (x : Queue) (b : Block) : Queue := { x with onDie := x.onDie ++ [b] }

theorem fill_onDieMore (x : Queue) (b : Block) : (onDieMore x b).fill = x.fill + 256 := by
  unfold onDieMore Queue.fill
  simp only [List.length_append, List.length_singleton]
  omega

theorem enqueue_onDie (hs : (d.queue q).spilling = false) (b : Block) :
    d.enqueue q b = (d.setQueue q (onDieMore (d.queue q) b)).beginSpill q := by
  unfold Dev.enqueue
  dsimp only
  rw [if_neg (by rw [hs]; exact Bool.false_ne_true)]
  rfl

theorem beginSpill_none {x : Queue} (h : x.fill < 43008) : (d.setQueue q x).beginSpill q = d.setQueue q x := by
  unfold Dev.beginSpill
  rw [queue_setQueue_self]
  refine if_neg ?_
  simp only [Bool.and_eq_true, decide_eq_true_eq, not_and, Nat.not_le]
  exact fun _ => h

/-- A spill that begins. -/
def spillBegun (x : Queue) : Queue := { x with spilling := true, episodes := satNat 0xFF (x.episodes + 1) }

theorem beginSpill_begins {x : Queue} (hs : x.spilling = false) (h : 43008 ≤ x.fill) {b : Block} (hb : x.onDie.getLast? = some b) :
    (d.setQueue q x).beginSpill q = ((d.setQueue q x).setQueue q (spillBegun x)).event 0x1021 (strSubj b.port b.node) := by
  unfold Dev.beginSpill
  rw [queue_setQueue_self]
  dsimp only
  rw [hb]
  exact if_pos (by rw [hs]; simpa using h)

/-- A queue with one more block in its spill area. -/
def spilledMore (x : Queue) (q : Nat) (b : Block) : Queue :=
  { x with spill := x.spill ++ [b], full := x.full || (q % 2 == 0 && decide (2 ^ 23 ≤ x.spilled + 256)) }

theorem enqueue_spilled (hs : (d.queue q).spilling = true) (b : Block) :
    (∃ n, (d.enqueue q b).queue q = { spilledMore (d.queue q) q b with fullNoted := n }) ∧
      ∀ k, k ≠ q → (d.enqueue q b).queue k = d.queue k := by
  unfold Dev.enqueue
  extract_lets x d1
  rw [if_pos hs]
  have hl := ((Logs.refl d).countEvent 11 q 1).countEvent 8 0 4
  have h1 : d1.queue q = spilledMore x q b := queue_setQueue_self _ _ _
  have ho : ∀ k, k ≠ q → d1.queue k = d.queue k := fun k hk => (queue_setQueue_other _ _ hk).trans (hl.queue k)
  split
  · have hx : ∀ k, ((d1.setQueue q { d1.queue q with fullNoted := true }).event 0x1022 (strSubj b.port b.node)).queue k = _ :=
      fun k => ((Logs.refl _).event 0x1022 (strSubj b.port b.node) []).queue k
    refine ⟨⟨true, ?_⟩, fun k hk => ?_⟩
    · rw [hx, queue_setQueue_self, h1]
    · rw [hx, queue_setQueue_other _ _ hk, ho k hk]
  · exact ⟨⟨_, h1⟩, ho⟩

theorem enqueue_other (d : Dev) (q : Nat) (b : Block) {k : Nat} (hk : k ≠ q) : (d.enqueue q b).queue k = d.queue k := by
  by_cases hs : (d.queue q).spilling = true
  · exact (enqueue_spilled hs b).2 k hk
  · rw [enqueue_onDie (Bool.not_eq_true _ ▸ hs)]
    unfold Dev.beginSpill
    extract_lets x subj
    split
    · rw [((Logs.refl _).event _ _ _).queue, queue_setQueue_other _ _ hk, queue_setQueue_other _ _ hk]
    · exact queue_setQueue_other _ _ hk

/-- Blocks that move back on die, at most 112 where a quarter of the bytes are left there. -/
def movedBack (x : Queue) : Queue :=
  if x.fill ≤ 14336 then { x with onDie := x.onDie ++ x.spill.take 112, spill := x.spill.drop 112 } else x

theorem movedBack_order (x : Queue) : (movedBack x).onDie ++ (movedBack x).spill = x.onDie ++ x.spill := by
  unfold movedBack
  split
  · rw [List.append_assoc, List.take_append_drop]
  · rfl

/-- A queue whose episode of spilling goes on or ends. -/
def settled (x : Queue) : Queue :=
  { movedBack x with spilling := (movedBack x).spilling && (!(movedBack x).spill.isEmpty || decide (43008 ≤ (movedBack x).fill)) }

theorem movedBack_flags (x : Queue) : (movedBack x).spilling = x.spilling ∧ (movedBack x).full = x.full := by
  unfold movedBack
  split <;> exact ⟨rfl, rfl⟩

/-- The spill area has room for 1 MiB again. -/
def roomAgain (x : Queue) : Bool := x.full && decide (x.spilled + 2 ^ 20 ≤ 2 ^ 23)

theorem refill_eq (x : Queue) : x.refill =
    if roomAgain (settled x) then { settled x with full := false, fullNoted := false } else settled x := rfl

theorem refill_parts (x : Queue) : x.refill.onDie = (movedBack x).onDie ∧ x.refill.spill = (movedBack x).spill ∧
    x.refill.fill = (movedBack x).fill ∧ x.refill.spilling = (settled x).spilling := by
  rw [refill_eq]
  split <;> exact ⟨rfl, rfl, rfl, rfl⟩

theorem refill_full (x : Queue) : x.refill.full = true ↔ x.full = true ∧ 2 ^ 23 < 256 * x.refill.spill.length + 2 ^ 20 := by
  obtain ⟨-, hs, -, -⟩ := refill_parts x
  have hf : (settled x).full = x.full := (movedBack_flags x).2
  have hl : (settled x).spilled = 256 * (movedBack x).spill.length := rfl
  rw [hs, refill_eq, roomAgain, hf, hl]
  by_cases hx : x.full = true
  · by_cases hr : 256 * (movedBack x).spill.length + 2 ^ 20 ≤ 2 ^ 23
    · rw [if_pos (by rw [hx, decide_eq_true hr]; rfl)]
      simp only [Bool.false_eq_true, hx, true_and, false_iff, Nat.not_lt]
      exact hr
    · rw [if_neg (by rw [decide_eq_false hr, Bool.and_false]; exact Bool.false_ne_true), hf]
      simp only [hx, true_and, true_iff]
      exact Nat.lt_of_not_le hr
  · rw [if_neg (fun e => hx (Bool.and_eq_true_iff.mp e).1), hf]
    exact ⟨fun e => absurd e hx, fun e => absurd e.1 hx⟩

/-- The move of spilled blocks back on die (R209). -/
theorem refill_moves (x : Queue) :
    let y := x.refill
    y.onDie ++ y.spill = x.onDie ++ x.spill ∧ (14336 < x.fill → y.onDie = x.onDie) ∧
      (x.fill ≤ 14336 → y.onDie.length = x.onDie.length + min 112 x.spill.length) ∧
      (y.spilling = true → x.spilling = true) ∧ (y.spill = [] → y.fill < 43008 → y.spilling = false) ∧
      (y.full = true ↔ x.full = true ∧ 2 ^ 23 < 256 * y.spill.length + 2 ^ 20) := by
  intro y
  obtain ⟨ho, hs, hf, hp⟩ := refill_parts x
  refine ⟨by rw [ho, hs, movedBack_order], fun h => ?_, fun h => ?_, fun h => ?_, fun he hl => ?_, refill_full x⟩
  · rw [ho, movedBack, if_neg (Nat.not_le.mpr h)]
  · rw [ho, movedBack, if_pos h, List.length_append, List.length_take]
  · rw [hp] at h
    exact (movedBack_flags x).1.symm.trans (Bool.and_eq_true_iff.mp h).1
  · rw [hs] at he
    rw [hf] at hl
    rw [hp, settled, he, decide_eq_false (Nat.not_le.mpr hl)]
    exact Bool.and_false _

/-- A block that enters a queue (R209). -/
theorem enqueue_outcome (d : Dev) (q : Nat) (b : Block) :
    let x := d.queue q
    let e := d.enqueue q b
    let y := e.queue q
    (∀ k, k ≠ q → e.queue k = d.queue k) ∧
      (x.spilling = false → x.fill + 256 < 43008 → e = d.setQueue q { x with onDie := x.onDie ++ [b] }) ∧
      (x.spilling = false → 43008 ≤ x.fill + 256 → ∃ z : Dev, e = z.event 0x1021 (strSubj b.port b.node) ∧
        y = { x with onDie := x.onDie ++ [b], spilling := true, episodes := min 255 (x.episodes + 1) }) ∧
      (x.spilling = true → y.onDie = x.onDie ∧ y.spill = x.spill ++ [b] ∧ y.spilling = true ∧ y.episodes = x.episodes ∧
        y.full = (x.full || (q % 2 == 0 && decide (2 ^ 23 ≤ 256 * (x.spill.length + 1))))) := by
  intro x e y
  refine ⟨fun k hk => enqueue_other d q b hk, fun hs hl => ?_, fun hs hl => ?_, fun hs => ?_⟩
  · rw [show e = _ from enqueue_onDie hs b]
    exact beginSpill_none (by rw [fill_onDieMore]; exact hl)
  · have he : e = _ := (enqueue_onDie hs b).trans (beginSpill_begins (x := onDieMore x b) hs (by rw [fill_onDieMore]; exact hl)
      List.getLast?_concat)
    refine ⟨_, he, ?_⟩
    rw [show y = _ from congrArg (Dev.queue · q) he, ((Logs.refl _).event _ _ _).queue, queue_setQueue_self, spillBegun, satNat_eq]
    rfl
  · obtain ⟨⟨n, hy⟩, -⟩ := enqueue_spilled hs b
    rw [show y = _ from hy]
    exact ⟨rfl, rfl, hs, rfl, rfl⟩

end Queues

end Sys2Proof.Proofs
end

section
/-! SUPPORT. The monitors of an axis (R230–R236): what a violation does, and which violations of a frame are held. -/

namespace Sys2Proof.Proofs

open Sys2Proof.Machine Sys2Proof.Safety

section Monitors

variable {d e : Dev} {n : Nat}

/-! ### A violation -/

/-- The state a violation asks for: FAULT, or TORQUEOFF, or STOPPING. -/
def asked (fault off : Bool) : SafeState := if fault then .fault else if off then .torqueOff else .stopping

/-- Whether an axis in a state enters the one that is asked for; a held one stops only where it returns. -/
def enters (st target : SafeState) (inReturn : Bool) : Bool :=
  match st, target with
  | .none, _ => true
  | .clear, _ => true
  | .fault, _ => false
  | _, .fault => true
  | .stopping, .torqueOff => true
  | .held, .torqueOff => true
  | .held, .stopping => inReturn
  | _, _ => false

/-- No violation weakens what is in force. -/
theorem entered_state (st : SafeState) (ret fault off : Bool) :
    (if enters st (asked fault off) ret then asked fault off else st) =
      if fault = true ∨ st = .fault then .fault else if off = true ∨ st = .torqueOff then .torqueOff
      else if st = .held ∧ ret = false then .held else .stopping := by
  cases st <;> cases fault <;> cases off <;> cases ret <;> rfl

/-- A code that faults the axis. -/
def faults (code : Nat) : Bool := decide (code = 0x3006 ∨ code = 0x3007)

/-- A code that switches the torque off, by itself or by the axis's reaction. -/
def switchesOff (d : Dev) (n code : Nat) : Bool := decide (code = 0x3005 ∨ (bit (d.reg (Adr.safAxcfg n)) 5 = true ∧ code ≠ 0x3008))

/-- The monitor of an axis with a code noted. -/
def noted (x : AxSafe) (code : Nat) : AxSafe := { x with code := code, slp := x.slp || code == 0x3004 }

/-- A code is recorded, flagged and noted by the axis's monitor. -/
def notedCode (d : Dev) (n code : Nat) : Dev :=
  ((d.event code n).orReg Adr.safFlags 1).setSafe n (noted (((d.event code n).orReg Adr.safFlags 1).safe n) code)

theorem violate_eq (d : Dev) (n code : Nat) : d.violate n code =
    if enters (((d.event code n).orReg Adr.safFlags 1).safe n).st (asked (faults code) (switchesOff d n code))
      (((d.event code n).orReg Adr.safFlags 1).safe n).inReturn
    then (notedCode d n code).enterSafe n (asked (faults code) (switchesOff d n code)) code
    else (notedCode d n code).safeStop n (((d.event code n).orReg Adr.safFlags 1).safe n).st code := by
  have ht : asked (faults code) (switchesOff d n code) = if code = 0x3006 ∨ code = 0x3007 then .fault
      else if code = 0x3005 ∨ (bit (d.reg (Adr.safAxcfg n)) 5 = true ∧ code ≠ 0x3008) then .torqueOff else .stopping := by
    simp only [asked, faults, switchesOff, decide_eq_true_eq]
  rw [ht]
  rfl

/-- The stop request of a code. -/
def codeStop (st : SafeState) (code : Nat) : StopReq :=
  { cause := 11, ramp := 3, code := code, torqueOff := st == .torqueOff || st == .fault }

theorem safeStop_axis (d : Dev) (n : Nat) (st : SafeState) (code : Nat) :
    (d.safeStop n st code).axis n = withStops (d.axis n) [codeStop st code] := axis_setAxis_self d n _

theorem safeStop_axis_other (d : Dev) {n k : Nat} (st : SafeState) (code : Nat) (h : k ≠ n) : (d.safeStop n st code).axis k = d.axis k :=
  axis_setAxis_other d _ h

theorem Logs.safe (h : Logs d e) (k : Nat) : e.safe k = d.safe k := by
  unfold Dev.safe
  rw [h.island]

/-- What a violation leaves of the axis's monitor and its stop requests, and what it does not touch. -/
theorem violate_outcome (d : Dev) (n code : Nat) : ∃ y : AxSafe, (d.violate n code).safe n = y ∧ y.code = code ∧
    y.active = (d.safe n).active ∧ y.st = (if faults code = true ∨ (d.safe n).st = .fault then .fault
      else if switchesOff d n code = true ∨ (d.safe n).st = .torqueOff then .torqueOff
      else if (d.safe n).st = .held ∧ (d.safe n).inReturn = false then .held else .stopping) ∧
    (d.violate n code).axis n = withStops (d.axis n) [codeStop y.st code] ∧
    (∀ k, k ≠ n → (d.violate n code).safe k = d.safe k ∧ (d.violate n code).axis k = d.axis k) ∧
    ((d.violate n code).reg Adr.safFlags).getLsbD 0 = true := by
  have hl : Logs d (d.event code n) := (Logs.refl d).event code n []
  have hs (k : Nat) : ((d.event code n).orReg Adr.safFlags 1).safe k = d.safe k := hl.safe k
  have hsafe : (notedCode d n code).safe n = noted (d.safe n) code := by
    rw [← hs n]
    exact safe_setSafe_self _ _ _
  have hother : ∀ k, k ≠ n → (notedCode d n code).safe k = d.safe k := fun k hk => (safe_setSafe_other _ _ hk).trans (hs k)
  have haxis : ∀ k, (notedCode d n code).axis k = d.axis k := hl.axis
  have hflag : ((notedCode d n code).reg Adr.safFlags).getLsbD 0 = true := orReg_safFlags_bit _ (by decide)
  rw [violate_eq, hs, ← entered_state]
  split
  · next he =>
    refine ⟨_, safe_setSafe_self _ _ _, rfl, ?_, rfl, ?_, fun k hk => ⟨?_, ?_⟩, hflag⟩
    · rw [hsafe]
      rfl
    · exact (safeStop_axis _ _ _ _).trans (congrArg (withStops · _) (haxis n))
    · exact (safe_setSafe_other _ _ hk).trans (hother k hk)
    · exact (safeStop_axis_other _ _ _ hk).trans (haxis k)
  · next he =>
    refine ⟨_, hsafe, rfl, rfl, rfl, ?_, fun k hk => ⟨hother k hk, ?_⟩, hflag⟩
    · exact (safeStop_axis _ _ _ _).trans (congrArg (withStops · _) (haxis n))
    · exact (safeStop_axis_other _ _ _ hk).trans (haxis k)

/-! ### A frame of a monitor -/

theorem stopMonitor_active (d : Dev) (n : Nat) : ((d.stopMonitor n).safe n).active = (d.safe n).active := by
  have hset : ∀ x : AxSafe, x.active = (d.safe n).active → ((d.setSafe n x).safe n).active = (d.safe n).active := fun x hx => by
    rw [safe_setSafe_self, hx]
  unfold Dev.stopMonitor
  extract_lets p x m e v inside dist v0 k lim d1 count
  have h1 : (d1.safe n).active = (d.safe n).active := hset _ rfl
  split
  · split
    · rfl
    · split
      · obtain ⟨y, hy, -, ha, -⟩ := violate_outcome d1 n 0x3005
        rw [hy, ha, h1]
      · split
        · rw [safe_setSafe_self]
        · exact h1
  · exact hset _ rfl
  · rfl

theorem showSafe_safe (d : Dev) (n k : Nat) : (d.showSafe n).safe k = d.safe k := ((Stored.refl d).showSafe n).safe k

/-- The violations of a frame that the monitor holds. -/
def held (j : Judged) : List Nat :=
  (if j.sls then [0x3001] else []) ++ (if j.slp then [0x3004] else []) ++ (if j.sdi then [0x3003] else [])

theorem held_iff (j : Judged) : (0x3001 ∈ held j ↔ j.sls = true) ∧ (0x3003 ∈ held j ↔ j.sdi = true) ∧ (0x3004 ∈ held j ↔ j.slp = true) := by
  unfold held
  cases j.sls <;> cases j.slp <;> cases j.sdi <;> decide

/-- The monitor of an axis as a frame finds it. -/
def atFrame (d : Dev) (n : Nat) : AxSafe :=
  { d.safe n with st := if (d.safe n).st == .none then .clear else (d.safe n).st,
                  hist := (((d.axis n).motion.x, (d.axis n).motion.v) :: (d.safe n).hist).take 13,
                  offFrames := if (d.axis n).motion.st == .off then (d.safe n).offFrames + 1 else 0 }

theorem monitorAxis_active (h : (d.axParams n).en = true) :
    ((d.monitorAxis n).safe n).active = held ((d.setSafe n (atFrame d n)).judge n) := by
  unfold Dev.monitorAxis
  extract_lets p x m x1 d1 j active codes d2 d3
  rw [if_neg (by rw [h]; decide), showSafe_safe, stopMonitor_active]
  refine List.foldlRecOn (motive := fun e : Dev => (e.safe n).active = held j) codes _ ?_ fun e he c _ => ?_
  · rw [safe_setSafe_self]
    rfl
  · obtain ⟨y, hy, -, ha, -⟩ := violate_outcome e n c
    rw [hy, ha, he]

theorem monitorAxis_off (h : (d.axParams n).en = false) :
    (d.monitorAxis n).safe n = if (d.safe n).st = .none then d.safe n else {} := by
  unfold Dev.monitorAxis
  dsimp only
  rw [if_pos (by rw [h]; rfl)]
  by_cases hs : (d.safe n).st = .none
  · rw [if_pos (beq_iff_eq.mpr hs), if_pos hs]
  · rw [if_neg (fun e => hs (beq_iff_eq.mp e)), if_neg hs, showSafe_safe, safe_setSafe_self]

/-- A direction is open to a motion. -/
def opens (p : AxParams) (perm : Nat) (v : Int) : Prop :=
  (0 < v * (if p.clneg then -1 else 1) → perm / 2 % 2 = 1) ∧ (v * (if p.clneg then -1 else 1) < 0 → perm % 2 = 1)

theorem forbids_iff (p : AxParams) (perm : Nat) (v : Int) : p.forbids perm v = true ↔ ¬opens p perm v := by
  have h1 : perm / 2 % 2 = 0 ↔ ¬perm / 2 % 2 = 1 := by omega
  have h2 : perm % 2 = 0 ↔ ¬perm % 2 = 1 := by omega
  unfold AxParams.forbids opens
  simp only [gt_iff_lt, Bool.or_eq_true, Bool.and_eq_true, decide_eq_true_eq, beq_iff_eq, h1, h2, not_and_or, Classical.not_imp]

end Monitors

end Sys2Proof.Proofs
end

section
/-! SUPPORT. The trace unit (R390–R393): its FIFO, its buffer, and the event counters. -/

namespace Sys2Proof.Proofs

open Sys2Proof.Machine Sys2Proof.Safety

section Trace

variable {d : Dev}

/-! ### Packets -/

/-- The trace unit takes packets. -/
def traceOn (d : Dev) : Prop :=
  (d.reg Adr.trcCfg).getLsbD 0 = true ∧ ((d.reg Adr.trcCfg).getLsbD 1 = true ∨ (d.reg Adr.trcCfg).getLsbD 2 = true) ∧ d.sys.power ≠ .roast

theorem traceOff_iff : (!bit (d.reg Adr.trcCfg) 0 || !(bit (d.reg Adr.trcCfg) 1 || bit (d.reg Adr.trcCfg) 2) || d.sys.power == .roast) = true ↔
    ¬traceOn d := by
  unfold traceOn bit
  simp only [Bool.or_eq_true, Bool.not_eq_true', Bool.or_eq_false_iff, beq_iff_eq, not_and_or, not_or, ne_eq, Decidable.not_not,
    Bool.not_eq_true, or_assoc]

theorem packet_off (h : ¬traceOn d) (b : List Byte) : d.packet b = d := if_pos (traceOff_iff.mpr h)

theorem packet_fits (h : traceOn d) {b : List Byte} (hl : d.trace.fifo.length + b.length ≤ 4096) :
    d.packet b = { d with trace := { d.trace with fifo := d.trace.fifo ++ b } } :=
  (if_neg fun e => traceOff_iff.mp e h).trans (if_neg (Nat.not_lt.mpr hl))

/-- A packet that does not fit is counted. -/
def packetLost (d : Dev) : Dev :=
  (Dev.incReg { d with trace := { d.trace with dropped := d.trace.dropped + 1 } } Adr.trcDrop).orReg Adr.trcFlags 1

theorem packet_lost (h : traceOn d) {b : List Byte} (hl : 4096 < d.trace.fifo.length + b.length) : d.packet b = packetLost d :=
  (if_neg fun e => traceOff_iff.mp e h).trans (if_pos hl)

theorem packetLost_counts (d : Dev) : (packetLost d).reg Adr.trcDrop = satInc (d.reg Adr.trcDrop) ∧
    ((packetLost d).reg Adr.trcFlags).getLsbD 0 = true := by
  unfold packetLost
  constructor
  · rw [reg_orReg_other _ _ (by decide), reg_incReg_self]
    rfl
  · rw [reg_orReg_self, BitVec.getLsbD_or]
    exact Bool.or_eq_true_iff.mpr (.inr (by decide))

/-- A packet moves neither the buffer nor the port. -/
theorem packet_keeps (d : Dev) (b : List Byte) : (d.packet b).trace.port = d.trace.port ∧ (d.packet b).trace.buffer = d.trace.buffer ∧
    (d.packet b).trace.wrpos = d.trace.wrpos := by
  by_cases h : traceOn d
  · by_cases hl : d.trace.fifo.length + b.length ≤ 4096
    · rw [packet_fits h hl]
      exact ⟨rfl, rfl, rfl⟩
    · rw [packet_lost h (Nat.lt_of_not_le hl)]
      exact ⟨rfl, rfl, rfl⟩
  · rw [packet_off h]
    exact ⟨rfl, rfl, rfl⟩

/-! ### The buffer, a ring -/

/-- A byte that enters the ring. -/
def ringed (t : Trace) (b : Byte) : Trace := { t with buffer := memWrite t.buffer t.wrpos b, wrpos := (t.wrpos + 1) % 2 ^ 27 }

theorem traceByte_trace (d : Dev) (b : Byte) : (d.traceByte b).trace = ringed d.trace b := by
  unfold Dev.traceByte
  dsimp only
  split <;> rfl

theorem traceBytes_trace (l : List Byte) (d : Dev) : (l.foldl Dev.traceByte d).trace = l.foldl ringed d.trace := by
  induction l generalizing d with
  | nil => rfl
  | cons b l ih => rw [List.foldl_cons, List.foldl_cons, ih, traceByte_trace]

theorem memRead_memWrite_self (m : List Host.Cell) (a : Nat) (b : Byte) : memRead (memWrite m a b) a = b := smGet_smSet_self _ _ _ _

theorem memRead_memWrite_other (m : List Host.Cell) {a c : Nat} (b : Byte) (h : c ≠ a) : memRead (memWrite m a b) c = memRead m c :=
  smGet_smSet_other _ _ _ _ _ h

theorem ringed_keeps (l : List Byte) (t : Trace) : (l.foldl ringed t).fifo = t.fifo ∧ (l.foldl ringed t).port = t.port := by
  induction l generalizing t with
  | nil => exact ⟨rfl, rfl⟩
  | cons b l ih => exact ih (ringed t b)

theorem ringed_wrpos (l : List Byte) (t : Trace) (h : t.wrpos < 2 ^ 27) : (l.foldl ringed t).wrpos = (t.wrpos + l.length) % 2 ^ 27 := by
  induction l generalizing t with
  | nil => exact (Nat.mod_eq_of_lt h).symm
  | cons b l ih =>
    have h1 : (ringed t b).wrpos = (t.wrpos + 1) % 2 ^ 27 := rfl
    rw [List.foldl_cons, ih _ (by rw [h1]; exact Nat.mod_lt _ (by decide)), h1, List.length_cons]
    omega

/-- The ring keeps what the bytes that enter do not reach. -/
theorem ringed_outside (l : List Byte) (t : Trace) (h : t.wrpos < 2 ^ 27) {a : Nat} (ha : ∀ j < l.length, a ≠ (t.wrpos + j) % 2 ^ 27) :
    memRead (l.foldl ringed t).buffer a = memRead t.buffer a := by
  induction l generalizing t with
  | nil => rfl
  | cons b l ih =>
    have h1 : (ringed t b).wrpos = (t.wrpos + 1) % 2 ^ 27 := rfl
    have h0 : a ≠ t.wrpos := fun e => ha 0 (Nat.zero_lt_succ _) (e.trans (Nat.mod_eq_of_lt h).symm)
    rw [List.foldl_cons, ih (ringed t b) (by rw [h1]; exact Nat.mod_lt _ (by decide)) fun j hj e => ?_]
    · exact memRead_memWrite_other _ _ h0
    · refine ha (j + 1) (Nat.succ_lt_succ hj) (e.trans ?_)
      rw [h1]
      omega

/-- The bytes that enter the ring stand there in their order. -/
theorem ringed_read (l : List Byte) (t : Trace) (h : t.wrpos < 2 ^ 27) (hl : l.length ≤ 2 ^ 27) (i : Nat) (hi : i < l.length) :
    memRead (l.foldl ringed t).buffer ((t.wrpos + i) % 2 ^ 27) = l[i] := by
  induction l generalizing t i with
  | nil => exact absurd hi (Nat.not_lt_zero i)
  | cons b l ih =>
    have h1 : (ringed t b).wrpos = (t.wrpos + 1) % 2 ^ 27 := rfl
    have h2 : (ringed t b).wrpos < 2 ^ 27 := by rw [h1]; exact Nat.mod_lt _ (by decide)
    rw [List.length_cons] at hl hi
    rw [List.foldl_cons]
    cases i with
    | zero =>
      rw [ringed_outside l _ h2 fun j hj e => ?_]
      · rw [Nat.add_zero, Nat.mod_eq_of_lt h]
        exact memRead_memWrite_self _ _ _
      · rw [h1] at e
        omega
    | succ i =>
      have hw : (t.wrpos + (i + 1)) % 2 ^ 27 = ((ringed t b).wrpos + i) % 2 ^ 27 := by
        rw [h1]
        omega
      rw [hw]
      exact ih (ringed t b) h2 (by omega) i (by omega)

/-! ### Event counters -/

theorem bumpCounter_trace (d : Dev) (i n : Nat) : (d.bumpCounter i n).trace =
    { d.trace with counters := smSet 0 d.trace.counters i (wordOfNat ((smGet 0 d.trace.counters i).toNat + n)) } := by
  unfold Dev.bumpCounter
  dsimp only
  split <;> rfl

theorem bumpCounter_counter (d : Dev) (i n k : Nat) : smGet 0 (d.bumpCounter i n).trace.counters k =
    smGet 0 d.trace.counters k + (if k = i then BitVec.ofNat 32 n else 0) := by
  rw [bumpCounter_trace]
  by_cases h : k = i
  · subst h
    rw [smGet_smSet_self, if_pos rfl]
    exact (BitVec.ofNat_add _ _).trans (by rw [BitVec.ofNat_toNat, BitVec.setWidth_eq])
  · rw [smGet_smSet_other _ _ _ _ _ h, if_neg h, add_zero]

/-- A counter's register selects an event of a unit. -/
def selects (ev unit : Nat) (r : Nat × Word) : Bool :=
  0x260100 ≤ r.1 && r.1 < 0x260500 && fld r.2 0 5 == ev && (eventUnitless ev || fld r.2 8 5 == unit)

/-- A counter whose register selects the event. -/
def advance1 (ev unit k : Nat) (s : Dev) (r : Nat × Word) : Dev :=
  if selects ev unit r then s.bumpCounter ((r.1 - 0x260100) / 4) k else s

theorem countEvent_eq (d : Dev) (ev unit k : Nat) : d.countEvent ev unit k = d.regs.foldl (advance1 ev unit k) d := rfl

theorem countEvent_keeps (d : Dev) (ev unit k : Nat) : ∃ c, (d.countEvent ev unit k).trace = { d.trace with counters := c } := by
  rw [countEvent_eq]
  refine List.foldlRecOn (motive := fun e : Dev => ∃ c, e.trace = { d.trace with counters := c }) _ _ ⟨_, rfl⟩ fun e he r _ => ?_
  obtain ⟨c, hc⟩ := he
  unfold advance1
  split
  · rw [bumpCounter_trace, hc]
    exact ⟨_, rfl⟩
  · exact ⟨c, hc⟩

/-- A counter advances once where its register selects the event. -/
theorem counted_once (ev unit k i : Nat) (l : SMap Word) (hn : (l.map (·.1)).Nodup) (h4 : ∀ r ∈ l, r.1 % 4 = 0) (s : Dev) :
    smGet 0 (l.foldl (advance1 ev unit k) s).trace.counters i = smGet 0 s.trace.counters i +
      (if ∃ r ∈ l, r.1 = 0x260100 + 4 * i ∧ selects ev unit r = true then BitVec.ofNat 32 k else 0) := by
  induction l generalizing s with
  | nil => simp
  | cons r l ih =>
    obtain ⟨hr, hn⟩ := List.nodup_cons.mp hn
    rw [List.foldl_cons, ih hn fun x hx => h4 x (List.mem_cons_of_mem _ hx)]
    by_cases hi : r.1 = 0x260100 + 4 * i
    · have hno : ¬∃ x ∈ l, x.1 = 0x260100 + 4 * i ∧ selects ev unit x = true := fun ⟨x, hx, he, _⟩ =>
        hr (List.mem_map.mpr ⟨x, hx, he.trans hi.symm⟩)
      have hidx : (r.1 - 0x260100) / 4 = i := by omega
      rw [if_neg hno, add_zero]
      by_cases hs : selects ev unit r = true
      · rw [if_pos ⟨r, List.mem_cons_self, hi, hs⟩, advance1, if_pos hs, bumpCounter_counter, hidx, if_pos rfl]
      · have hno' : ¬∃ x ∈ r :: l, x.1 = 0x260100 + 4 * i ∧ selects ev unit x = true := by
          rintro ⟨x, hx, he, hsx⟩
          obtain rfl | hx := List.mem_cons.mp hx
          · exact hs hsx
          · exact hno ⟨x, hx, he, hsx⟩
        rw [if_neg hno', advance1, if_neg hs, add_zero]
    · have hsame : smGet 0 (advance1 ev unit k s r).trace.counters i = smGet 0 s.trace.counters i := by
        unfold advance1
        split
        · next hs =>
          have h0 : 0x260100 ≤ r.1 := by
            simp only [selects, Bool.and_eq_true, decide_eq_true_eq] at hs
            exact hs.1.1.1
          have := h4 r List.mem_cons_self
          rw [bumpCounter_counter, if_neg (by omega), add_zero]
        · rfl
      have hiff : (∃ x ∈ r :: l, x.1 = 0x260100 + 4 * i ∧ selects ev unit x = true) ↔
          ∃ x ∈ l, x.1 = 0x260100 + 4 * i ∧ selects ev unit x = true := by
        simp only [List.mem_cons, exists_eq_or_imp, hi, false_and, false_or]
      rw [hsame, if_congr hiff rfl rfl]

theorem smGet_of_mem {m : SMap Word} (hn : (m.map (·.1)).Nodup) {r : Nat × Word} (hr : r ∈ m) :
    smHas m r.1 = true ∧ smGet 0 m r.1 = r.2 := by
  induction m with
  | nil => exact absurd hr List.not_mem_nil
  | cons x m ih =>
    obtain ⟨hx, hn⟩ := List.nodup_cons.mp hn
    obtain rfl | hr := List.mem_cons.mp hr
    · exact ⟨by rw [smHas, beq_self_eq_true, Bool.true_or], if_pos rfl⟩
    · have hne : r.1 ≠ x.1 := fun e => hx (List.mem_map.mpr ⟨r, hr, e⟩)
      obtain ⟨h1, h2⟩ := ih hn hr
      exact ⟨by rw [smHas, h1, Bool.or_true], (if_neg hne).trans h2⟩

theorem mem_of_smHas {m : SMap Word} {a : Nat} (h : smHas m a = true) : ∃ r ∈ m, r.1 = a := by
  induction m with
  | nil => cases h
  | cons x m ih =>
    obtain h | h := Bool.or_eq_true_iff.mp h
    · exact ⟨x, List.mem_cons_self, (beq_iff_eq.mp h).symm⟩
    · obtain ⟨r, hr, he⟩ := ih h
      exact ⟨r, List.mem_cons_of_mem _ hr, he⟩

theorem counterSelect_reset : ∀ i : Fin 256, regReset (0x260100 + 4 * i.val) = 0 := by decide +kernel

/-- A register of the counters selects an event by what it holds. -/
theorem selected_iff {ev unit i : Nat} (he : 0 < ev) (hi : i < 256) (hn : (d.regs.map (·.1)).Nodup) :
    (∃ r ∈ d.regs, r.1 = 0x260100 + 4 * i ∧ selects ev unit r = true) ↔
      fld (d.reg (0x260100 + 4 * i)) 0 5 = ev ∧ (ev ∈ [1, 8, 12, 13, 15] ∨ fld (d.reg (0x260100 + 4 * i)) 8 5 = unit) := by
  have hsel (w : Word) : selects ev unit (0x260100 + 4 * i, w) = true ↔ fld w 0 5 = ev ∧ (ev ∈ [1, 8, 12, 13, 15] ∨ fld w 8 5 = unit) := by
    simp only [selects, eventUnitless, Bool.and_eq_true, Bool.or_eq_true, decide_eq_true_eq, beq_iff_eq, List.contains_iff_mem]
    exact ⟨fun h => ⟨h.1.2, h.2⟩, fun h => ⟨⟨⟨by omega, by omega⟩, h.1⟩, h.2⟩⟩
  constructor
  · rintro ⟨⟨a, w⟩, hr, rfl, hs⟩
    obtain ⟨h1, h2⟩ := smGet_of_mem hn hr
    rw [Dev.reg, if_pos h1, h2]
    exact (hsel w).mp hs
  · intro h
    by_cases hh : smHas d.regs (0x260100 + 4 * i) = true
    · obtain ⟨⟨a, w⟩, hr, rfl⟩ := mem_of_smHas hh
      obtain ⟨h1, h2⟩ := smGet_of_mem hn hr
      rw [Dev.reg, if_pos h1, h2] at h
      exact ⟨_, hr, rfl, (hsel w).mpr h⟩
    · rw [Dev.reg, if_neg hh, show regReset (0x260100 + 4 * i) = 0 from counterSelect_reset ⟨i, hi⟩] at h
      exact absurd h.1 (Nat.ne_of_lt he)

/-- The counter of an event advances by its number (R393). -/
theorem countEvent_counter {ev unit k i : Nat} (he : 0 < ev) (hi : i < 256) (hn : (d.regs.map (·.1)).Nodup) (h4 : ∀ r ∈ d.regs, r.1 % 4 = 0) :
    smGet 0 (d.countEvent ev unit k).trace.counters i = smGet 0 d.trace.counters i +
      (if fld (d.reg (0x260100 + 4 * i)) 0 5 = ev ∧ (ev ∈ [1, 8, 12, 13, 15] ∨ fld (d.reg (0x260100 + 4 * i)) 8 5 = unit)
        then BitVec.ofNat 32 k else 0) := by
  rw [countEvent_eq, counted_once ev unit k i d.regs hn h4, if_congr (selected_iff he hi hn) rfl rfl]

end Trace

end Sys2Proof.Proofs
end

section
/-! SUPPORT. The trace FIFO drained (R390–R392), and the queues, the monitors and the trace put together. -/

namespace Sys2Proof.Proofs

open Sys2Proof.Machine Sys2Proof.Safety

section Drain

variable {d : Dev}

/-- The trace unit with its FIFO at the port. -/
def atPort (d : Dev) : Dev :=
  { d with trace := { d.trace with fifo := [], dropped := 0, port := if bit (d.reg Adr.trcCfg) 1 then d.trace.fifo else [] } }

/-- The FIFO's bytes in the buffer, where it takes them. -/
def buffered (d : Dev) : Dev :=
  if bit (d.reg Adr.trcCfg) 2 && !d.trace.frozen then
    (d.trace.fifo.foldl Dev.traceByte (atPort d)).countEvent 8 0 ((d.trace.wrpos % 64 + d.trace.fifo.length) / 64)
  else atPort d

theorem drainTrace_eq (d : Dev) : d.drainTrace = if d.trace.dropped > 0 then
    (buffered d).packet ([0x08, 0x13] ++ leBytes 2 (satNat 0xFFFF d.trace.dropped)) else buffered d := rfl

theorem drainTrace_keeps (d : Dev) : d.drainTrace.trace.port = (buffered d).trace.port ∧
    d.drainTrace.trace.buffer = (buffered d).trace.buffer ∧ d.drainTrace.trace.wrpos = (buffered d).trace.wrpos := by
  rw [drainTrace_eq]
  split
  · exact packet_keeps _ _
  · exact ⟨rfl, rfl, rfl⟩

theorem buffered_open (h : bit (d.reg Adr.trcCfg) 2 = true) (hf : d.trace.frozen = false) :
    ∃ c, (buffered d).trace = { d.trace.fifo.foldl ringed (atPort d).trace with counters := c } := by
  have hb : buffered d = _ := if_pos (by rw [h, hf]; rfl)
  obtain ⟨c, hc⟩ := countEvent_keeps (d.trace.fifo.foldl Dev.traceByte (atPort d)) 8 0 ((d.trace.wrpos % 64 + d.trace.fifo.length) / 64)
  rw [hb, hc, traceBytes_trace]
  exact ⟨c, rfl⟩

theorem buffered_closed (h : bit (d.reg Adr.trcCfg) 2 = false ∨ d.trace.frozen = true) : buffered d = atPort d := by
  refine if_neg fun e => ?_
  simp only [Bool.and_eq_true, Bool.not_eq_true'] at e
  obtain h | h := h
  · exact absurd (h.symm.trans e.1) Bool.false_ne_true
  · exact absurd (e.2.symm.trans h) Bool.false_ne_true

/-- The FIFO is at the port and empty. -/
theorem buffered_port (d : Dev) : (buffered d).trace.port = (atPort d).trace.port ∧ (buffered d).trace.fifo = [] := by
  by_cases h : bit (d.reg Adr.trcCfg) 2 = true ∧ d.trace.frozen = false
  · obtain ⟨c, hc⟩ := buffered_open h.1 h.2
    obtain ⟨hf, hp⟩ := ringed_keeps d.trace.fifo (atPort d).trace
    rw [hc]
    exact ⟨hp, hf⟩
  · rw [buffered_closed (by simpa only [not_and_or, Bool.not_eq_true, Bool.not_eq_false] using h)]
    exact ⟨rfl, rfl⟩

theorem drainTrace_outcome (d : Dev) :
    let cfg := d.reg Adr.trcCfg
    let t := d.drainTrace.trace
    let l := d.trace.fifo
    t.port = (if cfg.getLsbD 1 then l else []) ∧ (d.trace.dropped = 0 → t.fifo = []) ∧
      (cfg.getLsbD 2 = true → d.trace.frozen = false → d.trace.wrpos < 2 ^ 27 → l.length ≤ 2 ^ 27 →
        t.wrpos = (d.trace.wrpos + l.length) % 2 ^ 27 ∧
        (∀ i, ∀ hi : i < l.length, memRead t.buffer ((d.trace.wrpos + i) % 2 ^ 27) = l[i])) ∧
      (cfg.getLsbD 2 = false ∨ d.trace.frozen = true → t.buffer = d.trace.buffer ∧ t.wrpos = d.trace.wrpos) := by
  intro cfg t l
  obtain ⟨hp, hb, hw⟩ := drainTrace_keeps d
  refine ⟨hp.trans (buffered_port d).1, fun h0 => ?_, fun h2 hf hl hn => ?_, fun h => ?_⟩
  · rw [show t = _ from congrArg Dev.trace ((drainTrace_eq d).trans (if_neg (by omega)))]
    exact (buffered_port d).2
  · obtain ⟨c, hc⟩ := buffered_open h2 hf
    refine ⟨?_, fun i hi => ?_⟩
    · rw [show t.wrpos = _ from hw, hc]
      exact ringed_wrpos l (atPort d).trace hl
    · rw [show t.buffer = _ from hb, hc]
      exact ringed_read l (atPort d).trace hl hn i hi
  · rw [show t.buffer = _ from hb, show t.wrpos = _ from hw, buffered_closed h]
    exact ⟨rfl, rfl⟩

/-- A packet enters the FIFO where it fits. -/
theorem packet_outcome (d : Dev) (bytes : List Byte) :
    let t := (d.packet bytes).trace
    (¬traceOn d → d.packet bytes = d) ∧
      (traceOn d → d.trace.fifo.length + bytes.length ≤ 4096 → t = { d.trace with fifo := d.trace.fifo ++ bytes }) ∧
      (traceOn d → 4096 < d.trace.fifo.length + bytes.length → t = { d.trace with dropped := d.trace.dropped + 1 } ∧
        (d.packet bytes).reg Adr.trcDrop = satInc (d.reg Adr.trcDrop) ∧ ((d.packet bytes).reg Adr.trcFlags).getLsbD 0 = true) := by
  intro t
  refine ⟨fun h => packet_off h bytes, fun h hl => congrArg Dev.trace (packet_fits h hl), fun h hl => ?_⟩
  rw [packet_lost h hl]
  exact ⟨congrArg Dev.trace (packet_lost h hl), packetLost_counts d⟩

end Drain

/-- The violations that a monitor in force holds, from the motion of the frame. -/
theorem monitor_holds {d : Dev} {n : Nat} (h : (d.axParams n).en = true) :
    let p := d.axParams n
    let x := d.safe n
    let m := (d.axis n).motion
    let sign : Int := if p.clneg then -1 else 1
    let out : Int := if m.x < p.slpmin then p.slpmin - m.x else if p.slpmax < m.x then m.x - p.slpmax else 0
    let y := ((d.monitorAxis n).safe n).active
    (0x3001 ∈ y ↔ p.sls = true ∧ (if 0 < m.v * sign then p.slsc else p.slso) < m.v.natAbs) ∧
      (0x3003 ∈ y ↔ p.sdi = true ∧ ¬(opens p (d.permitted p) m.v ∧ opens p (d.permittedB p) m.v)) ∧
      (0x3004 ∈ y ↔ p.slp = true ∧ (if x.inReturn = true ∧ out ≠ 0 then x.retDist < out else if m.homed then out ≠ 0
        else m.v * sign < 0)) := by
  intro p x m sign out y
  have hy : y = held ((d.setSafe n (atFrame d n)).judge n) := monitorAxis_active h
  have hx : (d.setSafe n (atFrame d n)).safe n = atFrame d n := safe_setSafe_self _ _ _
  obtain ⟨h1, h3, h4⟩ := held_iff ((d.setSafe n (atFrame d n)).judge n)
  rw [hy, h1, h3, h4]
  refine ⟨?_, ?_, ?_⟩
  · show (p.sls && decide _) = true ↔ _
    rw [Bool.and_eq_true, decide_eq_true_eq]
    exact Iff.rfl
  · show (p.sdi && (p.forbids (d.permitted p) m.v || p.forbids (d.permittedB p) m.v)) = true ↔ _
    rw [Bool.and_eq_true, Bool.or_eq_true, forbids_iff, forbids_iff, not_and_or]
  · unfold Dev.judge
    rw [hx]
    dsimp only
    rw [Bool.and_eq_true, decide_eq_true_iff]
    refine and_congr_right fun _ => ?_
    show (if (x.inReturn && out != 0) = true then out > x.retDist
      else (if m.homed = true then out != 0 else decide (m.v * sign < 0)) = true) ↔ _
    by_cases hr : x.inReturn = true ∧ out ≠ 0
    · rw [if_pos (Bool.and_eq_true_iff.mpr ⟨hr.1, bne_iff_ne.mpr hr.2⟩), if_pos hr]
    · rw [if_neg (fun e => hr ⟨(Bool.and_eq_true_iff.mp e).1, bne_iff_ne.mp (Bool.and_eq_true_iff.mp e).2⟩), if_neg hr]
      split
      · exact bne_iff_ne
      · exact decide_eq_true_iff

/-- Settles O36: queues, monitors and trace, each by its own lemma. -/
theorem queuesMonitorsTrace : Obligations.QueuesMonitorsTrace := by
  unfold Obligations.QueuesMonitorsTrace
  intro d
  refine ⟨enqueue_outcome d, refill_moves, fun n hn => ⟨monitorAxis_off, monitor_holds⟩, fun n code hn => ?_, packet_outcome d,
    drainTrace_outcome d, fun ev unit k he hn h4 i hi => countEvent_counter he hi hn h4⟩
  intro x e y react off
  obtain ⟨z, hz, hcode, -, hst, hax, hoth, hflag⟩ := violate_outcome d n code
  have hy : y = z := hz
  rw [hy]
  refine ⟨hcode, hflag, hoth, ?_, ?_⟩
  · rw [hst]
    refine if_congr ?_ rfl (if_congr ?_ rfl rfl)
    · rw [faults, decide_eq_true_iff, or_assoc]
    · rw [switchesOff, decide_eq_true_iff]
      exact Iff.rfl
  · rw [show (e.axis n).motion.stops = _ from congrArg (·.motion.stops) hax, withStops, codeStop, Bool.decide_or]
    rfl

end Sys2Proof.Proofs
end

section
/-! SUPPORT. The channels and the safety outputs of the husk (R264–R281): what each change of one leaves to the others and to the module. -/

namespace Sys2Proof.Proofs

open Sys2Proof.Machine Sys2Proof.Safety

/-! ### Work on the channels -/

/-- The second module is the first but for its channels, the raised limits of its gangs, its registers and its records. -/
structure Chans (d e : Dev) : Prop where
  field : e.field = { d.field with hs := e.field.hs, raised := e.field.raised }
  sys : e.sys = d.sys
  pair : e.pair = d.pair
  island : e.island = d.island

section Chans

variable {d e f : Dev}

theorem Chans.refl (d : Dev) : Chans d d := ⟨rfl, rfl, rfl, rfl⟩

theorem Chans.trans (h : Chans d e) (g : Chans e f) : Chans d f := by
  refine ⟨?_, g.sys.trans h.sys, g.pair.trans h.pair, g.island.trans h.island⟩
  rw [g.field, h.field]

theorem Chans.ite {p : Prop} [Decidable p] (h : Chans d e) (g : Chans d f) : Chans d (if p then e else f) := by
  split
  · exact h
  · exact g

theorem Chans.logs (h : Chans d e) (g : Logs e f) : Chans d f := h.trans ⟨by rw [g.field], g.sys, g.pair, g.island⟩

theorem Chans.setChan (h : Chans d e) (k : Nat) (x : Hs) : Chans d (e.setChan k x) := h.trans ⟨rfl, rfl, rfl, rfl⟩

theorem Chans.setReg (h : Chans d e) (a : Nat) (w : Word) : Chans d (e.setReg a w) := h.trans ⟨rfl, rfl, rfl, rfl⟩

theorem Chans.fldFlag (h : Chans d e) (w : Word) : Chans d (e.fldFlag w) := h.setReg _ _

/-- The field section without its channels. -/
theorem Chans.frame (h : Chans d e) {α : Type} (π : Field → α) (hπ : ∀ (f : Field) l r, π { f with hs := l, raised := r } = π f) :
    π e.field = π d.field := by
  rw [h.field, hπ]

theorem Chans.huskReg (h : Chans d e) (a : Nat) : e.huskReg a = d.huskReg a :=
  h.frame (fun f => if smHas f.cfg a then smGet 0 f.cfg a else regReset a) fun _ _ _ => rfl

theorem Chans.ganged (h : Chans d e) (k : Nat) : e.ganged k = d.ganged k := by
  unfold Dev.ganged
  rw [h.huskReg]

theorem Chans.lead (h : Chans d e) (k : Nat) : e.lead k = d.lead k := by
  unfold Dev.lead
  rw [h.ganged]

theorem Chans.drvPin (h : Chans d e) (k : Nat) : e.drvPin k = d.drvPin k := by
  unfold Dev.drvPin
  simp only [h.huskReg]

theorem Chans.hsFailsafe (h : Chans d e) (k : Nat) : e.hsFailsafe k = d.hsFailsafe k := by
  unfold Dev.hsFailsafe
  rw [h.huskReg]

theorem Chans.drvHigh (h : Chans d e) (k : Nat) : e.drvHigh k = d.drvHigh k := by
  unfold Dev.drvHigh
  rw [h.drvPin, h.frame (·.drv) fun _ _ _ => rfl]

theorem Chans.huskNow (h : Chans d e) : e.huskNow = d.huskNow := by
  unfold Dev.huskNow Dev.now
  rw [h.sys, h.frame (·.aside) fun _ _ _ => rfl]

theorem Chans.drivesPorts (h : Chans d e) : e.drivesPorts = d.drivesPorts := by
  unfold Dev.drivesPorts
  rw [h.pair]

/-! ### One channel -/

theorem chan_setChan_self (d : Dev) (k : Nat) (x : Hs) : (d.setChan k x).field.chan k = x := smGet_smPut_self _ _ _ _

theorem chan_setChan_other (d : Dev) {k j : Nat} (x : Hs) (h : j ≠ k) : (d.setChan k x).field.chan j = d.field.chan j :=
  smGet_smPut_other _ _ _ _ _ h

theorem Logs.chan (h : Logs d e) (k : Nat) : e.field.chan k = d.field.chan k := congrArg (Field.chan · k) h.field

/-- What a channel in some state wants: its fail-safe state during recovery, its command otherwise. -/
def wantsOn (d : Dev) (k : Nat) (x : Hs) : Bool := if x.failsafe && d.hsFailsafe k != 2 then d.hsFailsafe k == 1 else x.cmd

/-- Nothing holds a channel in some state off. -/
def freeOn (d : Dev) (x : Hs) : Bool :=
  d.drivesPorts && !x.limitLatch && !x.thermLatch && !x.retryPending && !d.field.uv && !d.field.roastHold && d.field.powered

theorem hsWanted_eq (d : Dev) (k : Nat) : d.hsWanted k = wantsOn d k (d.field.chan k) := rfl

theorem hsFree_eq (d : Dev) (k : Nat) : d.hsFree k = freeOn d (d.field.chan k) := rfl

/-- A channel in some state, with its output brought to what the state asks for. -/
def settledAs (d : Dev) (k : Nat) (x : Hs) (fresh : Bool) : Hs :=
  { x with on := wantsOn d k x && freeOn d x && d.drvHigh k,
           phase := if wantsOn d k x && freeOn d x && d.drvHigh k then x.phase else 0, uvOff := wantsOn d k x && d.field.uv,
           onSince := if fresh && wantsOn d k x && freeOn d x then d.huskNow else x.onSince }

theorem Chans.wantsOn (h : Chans d e) (k : Nat) (x : Hs) : wantsOn e k x = wantsOn d k x := by
  unfold Proofs.wantsOn
  rw [h.hsFailsafe]

theorem Chans.freeOn (h : Chans d e) (x : Hs) : freeOn e x = freeOn d x := by
  unfold Proofs.freeOn
  rw [h.drivesPorts, h.frame (·.uv) fun _ _ _ => rfl, h.frame (·.roastHold) fun _ _ _ => rfl, h.frame (·.powered) fun _ _ _ => rfl]

theorem Chans.settledAs (h : Chans d e) (k : Nat) (x : Hs) (fresh : Bool) : settledAs e k x fresh = settledAs d k x fresh := by
  unfold Proofs.settledAs
  rw [h.wantsOn, h.freeOn, h.drvHigh, h.huskNow, h.frame (·.uv) fun _ _ _ => rfl]

theorem hsSettle_spec (d : Dev) (k : Nat) (fresh : Bool) : Chans d (d.hsSettle k fresh) ∧
    ∀ j, (d.hsSettle k fresh).field.chan j = (d.setChan k (settledAs d k (d.field.chan k) fresh)).field.chan j := by
  unfold Dev.hsSettle
  extract_lets x wanted on start d1 q
  have h1 : Chans d d1 := (Chans.refl d).setChan k _
  split
  · exact ⟨h1.trans ⟨rfl, rfl, rfl, rfl⟩, fun _ => rfl⟩
  · exact ⟨h1, fun _ => rfl⟩

theorem Chans.hsSettle (h : Chans d e) (k : Nat) (fresh : Bool) : Chans d (e.hsSettle k fresh) := h.trans (hsSettle_spec e k fresh).1

theorem chan_hsSettle_self (d : Dev) (k : Nat) (fresh : Bool) :
    (d.hsSettle k fresh).field.chan k = settledAs d k (d.field.chan k) fresh :=
  ((hsSettle_spec d k fresh).2 k).trans (chan_setChan_self d k _)

theorem chan_hsSettle_other (d : Dev) {k j : Nat} (fresh : Bool) (h : j ≠ k) : (d.hsSettle k fresh).field.chan j = d.field.chan j :=
  ((hsSettle_spec d k fresh).2 j).trans (chan_setChan_other d _ h)

/-- A channel that is set and settled. -/
theorem chan_set_settle (d : Dev) (k : Nat) (x : Hs) (fresh : Bool) :
    ((d.setChan k x).hsSettle k fresh).field.chan k = settledAs d k x fresh := by
  rw [chan_hsSettle_self, chan_setChan_self, ((Chans.refl d).setChan k x).settledAs]

theorem chan_set_settle_other (d : Dev) {k j : Nat} (x : Hs) (fresh : Bool) (h : j ≠ k) :
    ((d.setChan k x).hsSettle k fresh).field.chan j = d.field.chan j :=
  (chan_hsSettle_other _ fresh h).trans (chan_setChan_other d x h)

/-! ### Every channel in its turn -/

/-- A step of one channel leaves the others. -/
structure OneChan (g : Dev → Nat → Dev) : Prop where
  chans : ∀ e k, Chans e (g e k)
  other : ∀ e k j, j ≠ k → (g e k).field.chan j = e.field.chan j

/-- Each channel of a list takes its step once, in a module whose frame is that of the first. -/
theorem eachChan {g : Dev → Nat → Dev} (hg : OneChan g) (l : List Nat) (d : Dev) : Chans d (l.foldl g d) ∧
    (∀ j, j ∉ l → (l.foldl g d).field.chan j = d.field.chan j) ∧
    (l.Nodup → ∀ k ∈ l, ∃ e, Chans d e ∧ e.field.chan k = d.field.chan k ∧ (l.foldl g d).field.chan k = (g e k).field.chan k) := by
  induction l generalizing d with
  | nil => exact ⟨.refl d, fun _ _ => rfl, fun _ k hk => absurd hk List.not_mem_nil⟩
  | cons a l ih =>
    obtain ⟨hc, hout, hin⟩ := ih (g d a)
    refine ⟨(hg.chans d a).trans hc, fun j hj => ?_, fun hn k hk => ?_⟩
    · obtain ⟨hja, hjl⟩ := not_or.mp (mt List.mem_cons.mpr hj)
      exact (hout j hjl).trans (hg.other d a j hja)
    · obtain ⟨ha, hn⟩ := List.nodup_cons.mp hn
      obtain rfl | hk := List.mem_cons.mp hk
      · exact ⟨d, .refl d, rfl, hout k ha⟩
      · obtain ⟨e, he, hx, hy⟩ := hin hn k hk
        exact ⟨e, (hg.chans d a).trans he, hx.trans (hg.other d a k fun e => ha (e ▸ hk)), hy⟩

theorem leads_nodup (d : Dev) : d.leads.Nodup := List.Nodup.filter _ List.nodup_range

theorem mem_leads {k : Nat} : k ∈ d.leads ↔ k < 32 ∧ d.lead k = k := by
  unfold Dev.leads
  rw [List.mem_filter, List.mem_range, beq_iff_eq]

/-- A channel with a state of its own takes its step once. -/
theorem eachLead {g : Dev → Nat → Dev} (hg : OneChan g) {k : Nat} (hk : k < 32) (hl : d.lead k = k) (e : Dev) :
    ∃ f, Chans e f ∧ f.field.chan k = e.field.chan k ∧ (d.leads.foldl g e).field.chan k = (g f k).field.chan k :=
  (eachChan hg d.leads e).2.2 (leads_nodup d) k (mem_leads.mpr ⟨hk, hl⟩)

theorem oneChan_settle (fresh : Dev → Nat → Bool) : OneChan fun e k => e.hsSettle k (fresh e k) :=
  ⟨fun e k => (Chans.refl e).hsSettle k _, fun e _ _ h => chan_hsSettle_other e _ h⟩

/-! ### Commands of a channel -/

/-- A channel whose command changes. -/
def commandedAs (d : Dev) (x : Hs) (want : Bool) : Hs :=
  let x : Hs := { x with cmd := want, lastChange := some d.huskNow, deferred := none }
  if want then x
  else { x with retries := 0, retryPending := false, limitLatch := false, waitCool := x.thermLatch && x.hot, thermLatch := x.thermLatch && x.hot }

theorem hsApply_eq (d : Dev) (k : Nat) (want : Bool) :
    d.hsApply k want = (d.setChan k (commandedAs d (d.field.chan k) want)).hsSettle k want := rfl

/-- The last change of a channel is less than 20 ms ago. -/
def recentlyChanged (d : Dev) (x : Hs) : Bool :=
  match x.lastChange with
  | some t => d.huskNow < t + 20
  | none => false

/-- What a command leaves of a channel: nothing but its deferral ended, the change applied, or the change deferred. -/
theorem hsCommand_cases (d : Dev) (k : Nat) (want : Bool) : Chans d (d.hsCommand k want) ∧
    (∀ j, j ≠ k → (d.hsCommand k want).field.chan j = d.field.chan j) ∧
    (d.hsCommand k want).field.chan k =
      if want = (d.field.chan k).cmd then { d.field.chan k with deferred := none }
      else if recentlyChanged d (d.field.chan k) then { d.field.chan k with deferred := some want }
      else settledAs d k (commandedAs d (d.field.chan k) want) want := by
  unfold Dev.hsCommand
  extract_lets x soon
  have hset (y : Hs) : Chans d (d.setChan k y) := (Chans.refl d).setChan k y
  split
  case isTrue => exact ⟨hset _, fun j hj => chan_setChan_other d _ hj, chan_setChan_self d k _⟩
  case isFalse =>
    change _ ∧ _ ∧ _ = if soon = true then _ else _
    cases soon with
    | false =>
      exact ⟨(hset _).hsSettle k want, fun j hj => chan_set_settle_other d _ want hj, chan_set_settle d k _ want⟩
    | true =>
      simp only [Bool.not_true, Bool.false_eq_true, if_false, if_true]
      split
      next hd => exact ⟨.refl d, fun _ _ => rfl, by rw [← hd]⟩
      next =>
        have hl := (Logs.refl (d.setChan k { x with deferred := some want })).eventRep 0x4015 (0x100 + k) []
        exact ⟨((hset _).logs hl).fldFlag _, fun j hj => (hl.chan j).trans (chan_setChan_other d _ hj),
          (hl.chan k).trans (chan_setChan_self d k _)⟩

end Chans

end Sys2Proof.Proofs
end

section
/-! O37: the barrier link from both sides (R263–R269). -/

namespace Sys2Proof.Proofs

open Sys2Proof.Machine Sys2Proof.Safety

/-! ### What the logic side shows of the husk -/

/-- The signals of the field section and the system exist in every module. -/
theorem regionOf_ne_can {n : Nat} (h : n < 0x81000) : regionOf n ≠ .can := fun e => by
  obtain ⟨hn, _⟩ := regionOf_can e
  omega

theorem region_low (d : Dev) {n : Nat} (h : n < 0x81000) : d.region n = regionOf n := by
  have hc := regionOf_ne_can h
  unfold Dev.region
  cases hr : regionOf n with
  | can => exact absurd hr hc
  | _ => rfl

theorem sigExists_low (d : Dev) {n : Nat} (h : 0x80000 ≤ n) (h' : n < 0x81000) : d.sigExists n = true := by
  unfold Dev.sigExists
  rw [if_neg (by omega), if_pos (by simpa using ⟨h, by omega⟩)]

/-- Work on the logic side of the husk: image and island are kept, and so are the counts of the link and one signal. -/
structure LinkWork (n : Nat) (d e : Dev) : Prop where
  image : e.image = d.image
  island : e.island = d.island
  linkUp : e.field.linkUp = d.field.linkUp
  upBad : e.field.upBad = d.field.upBad
  upGood : e.field.upGood = d.field.upGood
  sig : e.sig n = d.sig n

/-- A signal of the field section is read from the image and from its place in the store. -/
theorem sig_low {d e : Dev} {n : Nat} (h : 0x80000 ≤ n) (h' : n < 0x81000) (hi : e.image = d.image) (hs : e.sigs = d.sigs) :
    e.sig n = d.sig n := by
  unfold Dev.sig Dev.mirrorBit
  rw [sigExists_low e h h', sigExists_low d h h', region_low e h', region_low d h', hi, hs]

section LinkWork

variable {n : Nat} {d e f : Dev}

theorem LinkWork.refl (d : Dev) : LinkWork n d d := ⟨rfl, rfl, rfl, rfl, rfl, rfl⟩

theorem LinkWork.trans (h : LinkWork n d e) (g : LinkWork n e f) : LinkWork n d f :=
  ⟨g.image.trans h.image, g.island.trans h.island, g.linkUp.trans h.linkUp, g.upBad.trans h.upBad, g.upGood.trans h.upGood,
    g.sig.trans h.sig⟩

theorem LinkWork.ite {p : Prop} [Decidable p] (h : LinkWork n d e) (g : LinkWork n d f) : LinkWork n d (if p then e else f) := by
  split
  · exact h
  · exact g

theorem LinkWork.foldl {α : Type} {l : List α} {g : Dev → α → Dev} (hg : ∀ e a, LinkWork n d e → LinkWork n d (g e a))
    (h : LinkWork n d e) : LinkWork n d (l.foldl g e) :=
  List.foldlRecOn (motive := fun e => LinkWork n d e) l g h fun e he a _ => hg e a he

theorem LinkWork.logs (h : LinkWork n d e) (g : Logs e f) : LinkWork n d f :=
  h.trans ⟨g.image, g.island, by rw [g.field], by rw [g.field], by rw [g.field], g.sig n⟩

theorem LinkWork.sigHome (h : LinkWork n d e) {m : Nat} (hm : n ≠ m) (hd : n ≠ 0x87010) (v : Word) (valid stale : Bool) (tag : Nat) :
    LinkWork n d (e.sigHome m v valid stale tag) := by
  have hs : Stored e (e.sigHome m v valid stale tag) := (Stored.refl e).sigHome m v valid stale tag
  refine h.trans ⟨hs.image, hs.island, by rw [hs.field], by rw [hs.field], by rw [hs.field], ?_⟩
  unfold Dev.sigHome
  split
  · exact sig_sigStore_other _ _ _ _ _ _ hd
  · exact sig_sigStore_other _ _ _ _ _ _ hm

theorem LinkWork.devSig (h : LinkWork n d e) {m : Nat} (hm : n ≠ m) (hd : n ≠ 0x87010) (v : Word) (valid stale : Bool) :
    LinkWork n d (e.devSig m v valid stale) := .ite (h.sigHome hm hd _ _ _ _) h

theorem LinkWork.sigStore (h : LinkWork n d e) {m : Nat} (hm : n ≠ m) (v : Word) (valid stale : Bool) (tag : Nat) :
    LinkWork n d (e.sigStore m v valid stale tag) := by
  have hs : Stored e (e.sigStore m v valid stale tag) := (Stored.refl e).sigStore m v valid stale tag
  exact h.trans ⟨hs.image, hs.island, by rw [hs.field], by rw [hs.field], by rw [hs.field], sig_sigStore_other _ _ _ _ _ _ hm⟩

variable (hn : 0x80000 ≤ n) (hn' : n < 0x81000)
include hn hn'

/-- A change of registers and of the rest of the field section. -/
theorem LinkWork.change (h : LinkWork n d e) (hi : f.image = e.image) (hs : f.sigs = e.sigs) (hl : f.island = e.island)
    (hu : f.field.linkUp = e.field.linkUp) (hb : f.field.upBad = e.field.upBad) (hg : f.field.upGood = e.field.upGood) : LinkWork n d f :=
  h.trans ⟨hi, hl, hu, hb, hg, sig_low hn hn' hi hs⟩

theorem LinkWork.setReg (h : LinkWork n d e) (a : Nat) (w : Word) : LinkWork n d (e.setReg a w) := h.change hn hn' rfl rfl rfl rfl rfl rfl

theorem LinkWork.fldFlag (h : LinkWork n d e) (w : Word) : LinkWork n d (e.fldFlag w) := h.setReg hn hn' _ _

theorem LinkWork.setChan (h : LinkWork n d e) (k : Nat) (x : Hs) : LinkWork n d (e.setChan k x) := h.change hn hn' rfl rfl rfl rfl rfl rfl

theorem LinkWork.huskReports (h : LinkWork n d e) : LinkWork n d e.huskReports := by
  have hfield (e : Dev) (u : Field) (hu : u.linkUp = e.field.linkUp) (hb : u.upBad = e.field.upBad) (hg : u.upGood = e.field.upGood) :
      LinkWork n e (e.modField fun _ => u) := (LinkWork.refl e).change hn hn' rfl rfl rfl hu hb hg
  unfold Dev.huskReports
  extract_lets e1
  have h1 : LinkWork n d e1 :=
    .ite (((h.trans (hfield e { e.field with supplyLost := false, cfgFull := true } rfl rfl rfl)).logs
      ((Logs.refl _).event _ _ _)).fldFlag hn hn' _) h
  split
  · exact h1.trans (hfield e1 { e1.field with wdSeen := false } rfl rfl rfl)
  · exact .ite (((h1.trans (hfield e1 { e1.field with wdSeen := true, cfgFull := true } rfl rfl rfl)).logs
      ((Logs.refl _).event _ _ _)).fldFlag hn hn' _) h1

theorem LinkWork.fieldInput (h : LinkWork n d e) (x : FieldSample) {i : Nat} (hi : i < 64) (hr : 0x80300 ≤ n) (hr' : n < 0x80400) :
    LinkWork n d (e.fieldInput x i) := by
  unfold Dev.fieldInput
  extract_lets cfg y a diff k turn logical changes volt z e1 e2 ok e3
  have h1 : LinkWork n d e1 := h.change hn hn' rfl rfl rfl rfl rfl rfl
  have h2 : LinkWork n d e2 := .ite ((h1.logs ((Logs.refl _).eventRep _ _ _)).fldFlag hn hn' _) h1
  have h3 : LinkWork n d e3 := h2.devSig (by omega) (by omega) _ _ _
  exact h3.devSig (by omega) (by omega) _ _ _

theorem LinkWork.fieldChannel (h : LinkWork n d e) (x : FieldSample) (k : Nat) : LinkWork n d (e.fieldChannel x k) := by
  have h1 (z : Hs) : LinkWork n d (e.setChan k z) := h.setChan hn hn' k z
  exact .ite (((h1 _).logs ((Logs.refl _).event _ _ _)).fldFlag hn hn' _) (h1 _)

omit hn hn' in
theorem LinkWork.showChannel (h : LinkWork n d e) {k : Nat} (hk : k < 32) (hr : 0x80300 ≤ n) (hr' : n < 0x80400) :
    LinkWork n d (e.showChannel k) := by
  unfold Dev.showChannel
  extract_lets l y ok raised mapped e1
  have h1 : LinkWork n d e1 := h.devSig (by omega) (by omega) _ _ _
  exact h1.devSig (by omega) (by omega) _ _ _

theorem LinkWork.showOutput (h : LinkWork n d e) (x : FieldSample) {k : Nat} (hk : k < 8) (hr : 0x80300 ≤ n) :
    LinkWork n d (e.showOutput x k) := by
  unfold Dev.showOutput
  extract_lets y cur e1
  have h1 : LinkWork n d e1 := h.change hn hn' rfl rfl rfl rfl rfl rfl
  exact h1.sigStore (by omega) _ _ _ _

omit hn hn' in
theorem LinkWork.foldl_range {m : Nat} {g : Dev → Nat → Dev} (hg : ∀ e i, i < m → LinkWork n d e → LinkWork n d (g e i))
    (h : LinkWork n d e) : LinkWork n d ((List.range m).foldl g e) :=
  List.foldlRecOn (motive := fun e => LinkWork n d e) _ g h fun e he i hi => hg e i (List.mem_range.mp hi) he

end LinkWork

/-- A device write of a signal of the field section that is not forced. -/
theorem sig_devSig_low (d : Dev) {n : Nat} (v : Word) (valid stale : Bool) (h : 0x80000 ≤ n) (h' : n < 0x81000)
    (hr : regionOf n ≠ .reserved) (hf : (d.sig n).forced = false) :
    ((d.devSig n v valid stale).sig n).value = v ∧ ((d.devSig n v valid stale).sig n).valid = valid := by
  let e : Dev := { d with hidden := smDel d.hidden n }
  have he : e.sigExists n = true := sigExists_low e h h'
  have hr : e.region n ≠ .reserved := (region_low e h').trans_ne hr
  have hw : d.devSig n v valid stale = e.sigStore n v valid stale 0x13 := by
    have hp : (d.sigExists n && d.region n != .reserved) = true :=
      (Bool.and_eq_true ..).mpr ⟨he, bne_iff_ne.mpr hr⟩
    unfold Dev.devSig Dev.sigHome
    rw [if_pos hp, if_neg (by rw [hf]; nofun)]
  rw [hw, sig_sigStore_self e _ _ _ _ _ he hr]
  obtain ⟨hv, _⟩ := written_bits (e.sig n).q (e.mirrorBit n) (mirrorBit_cases e n) valid stale false (e.sigTracked n && (e.sig n).unread)
  exact ⟨rfl, hv⟩

/-- What a good upstream frame leaves before the supplies are shown. -/
theorem barrierGood_outcome (d : Dev) (x : FieldSample) : (d.barrierGood x).field.upBad = 0 ∧
    (d.barrierGood x).field.upGood = satNat 16 (d.field.upGood + 1) ∧ (d.barrierGood x).field.linkUp = d.field.linkUp ∧
    (d.barrierGood x).island.diOk = true ∧ (d.barrierGood x).island.diA = x.diA ∧ (d.barrierGood x).island.diB = x.diB ∧
    (d.barrierGood x).island.soOn = x.soOn ∧ ((d.sig 0x80302).forced = false →
      (d.barrierGood x).sigVal 0x80302 = x.huskSupply ∧ ((d.barrierGood x).sig 0x80302).valid = d.field.linkUp) := by
  unfold Dev.barrierGood
  extract_lets d1 bad d2 d3 live d4 d5 d6 d7 d8 sum ok d9 d10
  have hlow : (0x80000 ≤ 0x80302) ∧ 0x80302 < 0x81000 := by decide
  have h2 : LinkWork 0x80302 d1 d2 := (LinkWork.refl d1).change hlow.1 hlow.2 rfl rfl rfl rfl rfl rfl
  have h3 : LinkWork 0x80302 d1 d3 := h2.huskReports hlow.1 hlow.2
  have h5 : LinkWork 0x80302 d4 d5 := LinkWork.foldl_range
    (fun e i hi h => h.fieldInput hlow.1 hlow.2 x hi (by decide) (by decide)) (.refl d4)
  have h6 : LinkWork 0x80302 d4 d6 := LinkWork.foldl (fun e k h => h.fieldChannel hlow.1 hlow.2 x k) h5
  have h7 : LinkWork 0x80302 d4 d7 := LinkWork.foldl_range (fun e i hi h => h.showChannel hi (by decide) (by decide)) h6
  have h8 : LinkWork 0x80302 d4 d8 := LinkWork.foldl_range (fun e i hi h => h.showOutput hlow.1 hlow.2 x hi (by decide)) h7
  have h9 : LinkWork 0x80302 d4 d9 := (h8.devSig (by decide) (by decide) _ _ _).devSig (by decide) (by decide) _ _ _
  have hok : ok = d.field.linkUp := h8.linkUp.trans h3.linkUp
  have hsig : d9.sig 0x80302 = d.sig 0x80302 := calc
    d9.sig 0x80302 = d4.sig 0x80302 := h9.sig
    _ = d3.sig 0x80302 := sig_low hlow.1 hlow.2 rfl rfl
    _ = d1.sig 0x80302 := h3.sig
    _ = d.sig 0x80302 := sig_low hlow.1 hlow.2 rfl rfl
  generalize hf : (d10.devSig 0x80304 (wordOfNat sum) ok).devSig 0x80305 d10.field.uvEpisodes ok = fin
  have hfin : Stored d8 fin := hf ▸ ((((((Stored.refl d8).devSig _ _ _ _).devSig _ _ _ _).devSig _ _ _ _).devSig _ _ _ _).devSig _ _ _ _).devSig _ _ _ _
  have hisl : fin.island = d4.island := hfin.island.trans h8.island
  have hlast : fin.sig 0x80302 = (d9.devSig 0x80302 x.huskSupply ok).sig 0x80302 :=
    hf ▸ ((((LinkWork.refl _).devSig (by decide) (by decide) _ _ _).devSig (by decide) (by decide) _ _ _).devSig (by decide) (by decide) _ _ _).sig
  refine ⟨?_, ?_, ?_, ?_, ?_, ?_, ?_, fun hf => ?_⟩
  · rw [hfin.field, h8.upBad]; exact h3.upBad
  · rw [hfin.field, h8.upGood]; exact h3.upGood
  · rw [hfin.field]; exact hok
  · rw [hisl]; rfl
  · rw [hisl]; rfl
  · rw [hisl]; rfl
  · rw [hisl]; rfl
  · rw [Dev.sigVal, hlast, ← hok]
    exact sig_devSig_low d9 x.huskSupply ok false hlow.1 hlow.2 (by decide) (by rw [hsig]; exact hf)

/-! ### A link that is lost -/

theorem sig_sigQuality_other (d : Dev) {n m : Nat} (stale clear : Bool) (h : m ≠ n) : (d.sigQuality n stale clear).sig m = d.sig m := by
  have hs (l : SMap (Word × Bool)) : ({ d with hidden := l } : Dev).sig m = d.sig m := rfl
  unfold Dev.sigQuality
  split
  · exact (sig_setSig_other _ _ _ h).trans (hs _)
  · rfl

theorem valid_sigQuality_self (d : Dev) (n : Nat) (stale : Bool) : ((d.sigQuality n stale true).sig n).valid = false := by
  unfold Dev.sigQuality
  split
  next h =>
    obtain ⟨he, hr⟩ := (Bool.and_eq_true ..).mp h
    extract_lets s q q1 hidden
    have hsp : SameSpace d { d with hidden := hidden } := ⟨rfl, fun _ _ => rfl⟩
    rw [sig_setSig_self _ _ _ ((hsp.sigExists n).trans he) (by rw [hsp.region n]; exact bne_iff_ne.mp hr)]
    have hm := mirrorBit_cases ({ d with hidden := hidden } : Dev) n
    change ((q &&& 0xFE) &&& 0x1F ||| _).getLsbD 0 = false
    rcases hm with hm | hm <;> rw [hm] <;> simp
  next h =>
    have hn : d.sig n = {} := by
      unfold Dev.sig
      cases he : d.sigExists n with
      | false => rfl
      | true => rw [if_neg nofun, if_pos (by simpa [he] using h)]
    rw [hn]
    rfl

/-- Every signal of the list loses VALID, and none gains it. -/
theorem quality_cleared (l : List Nat) (d : Dev) {n : Nat} (h : n ∈ l ∨ (d.sig n).valid = false) :
    ((l.foldl (fun d n => d.sigQuality n false true) d).sig n).valid = false := by
  induction l generalizing d with
  | nil => exact h.resolve_left List.not_mem_nil
  | cons a l ih =>
    refine ih _ ?_
    by_cases ha : n = a
    · exact .inr (ha ▸ valid_sigQuality_self d a false)
    · rw [sig_sigQuality_other _ _ _ ha]
      exact h.imp_left fun h => (List.mem_cons.mp h).resolve_left ha

/-! ### The husk -/

/-- What the husk keeps as it takes configuration words: everything but the words, its channels and the raised limits. -/
structure Configured (d e : Dev) : Prop where
  field : e.field = { d.field with cfg := e.field.cfg, cfgFull := e.field.cfgFull, cfgWords := e.field.cfgWords, hs := e.field.hs,
                                   raised := e.field.raised }
  sys : e.sys = d.sys
  island : e.island = d.island

theorem huskConfigure_configured (d : Dev) : Configured d d.huskConfigure := by
  unfold Dev.huskConfigure
  extract_lets f cfg e e1
  have hset (e' : Dev) (h : Configured d e') (k : Nat) (x : Hs) : Configured d (e'.setChan k x) :=
    ⟨by simp only [Dev.setChan]; rw [h.field], h.sys, h.island⟩
  refine List.foldlRecOn (motive := Configured d) _ _ ⟨rfl, rfl, rfl⟩ fun e' he k _ => ?_
  split
  · exact hset _ he _ _
  · split
    · exact hset _ he _ _
    · exact he

/-- An SO output as the last good downstream frame commands it. -/
def soAs (f : Field) (k : Nat) : So :=
  let x : So := smGet {} f.so k
  let x : So := { x with overload := x.overload && f.soCmd.getLsbD k }
  { x with on := f.soCmd.getLsbD k && !x.overload && !f.uv && !f.roastHold && f.powered }

theorem soSettle_eq (d : Dev) (k : Nat) : d.soSettle k = d.modField fun f => { f with so := smPut f.so k (soAs d.field k) } := rfl

/-- Every output is settled once. -/
theorem soSettle_all (d : Dev) : ∃ so, (List.range 8).foldl (fun d k => d.soSettle k) d = d.modField (fun f => { f with so := so }) ∧
    ∀ k, k < 8 → smGet {} so k = soAs d.field k := by
  suffices h : ∀ m, ∃ so, (List.range m).foldl (fun d k => d.soSettle k) d = d.modField (fun f => { f with so := so }) ∧
      ∀ k, smGet {} so k = if k < m then soAs d.field k else smGet {} d.field.so k by
    obtain ⟨so, h, hk⟩ := h 8
    exact ⟨so, h, fun k hlt => (hk k).trans (if_pos hlt)⟩
  intro m
  induction m with
  | zero => exact ⟨d.field.so, rfl, fun k => (if_neg (Nat.not_lt_zero k)).symm⟩
  | succ m ih =>
    obtain ⟨so, h, hk⟩ := ih
    have ho : soAs { d.field with so := so } m = soAs d.field m := by
      unfold soAs
      rw [hk m, if_neg (Nat.lt_irrefl m)]
    refine ⟨smPut so m (soAs d.field m), ?_, fun k => ?_⟩
    · rw [List.range_succ, List.foldl_append, List.foldl_cons, List.foldl_nil, h, soSettle_eq]
      exact congrArg (fun x => d.modField fun f => { f with so := smPut so m x }) ho
    · by_cases hm : k = m
      · subst hm
        rw [smGet_smPut_self, if_pos (Nat.lt_succ_self k)]
      · rw [smGet_smPut_other _ _ _ _ _ hm, hk k]
        exact if_congr (by omega) rfl rfl

/-- The SO commands that a good frame brings. -/
def soBrought (d : Dev) : BitVec 8 := if d.field.roastHold then 0 else d.island.soCmd

/-- A good frame before the channels are commanded: what it keeps and sets of the husk. -/
structure GoodFrame (d e : Dev) : Prop where
  field : e.field = { d.field with cfg := e.field.cfg, cfgFull := e.field.cfgFull, cfgWords := e.field.cfgWords, hs := e.field.hs,
                                   raised := e.field.raised, so := e.field.so, cfgComplete := e.field.cfgComplete,
                                   configured := e.field.configured, recGood := e.field.recGood, dnBadRun := 0, soCmd := soBrought d }
  sys : e.sys = d.sys
  so : ∀ k, k < 8 → smGet {} e.field.so k = soAs { d.field with soCmd := soBrought d } k

/-- One channel of a good frame. -/
def goodChan (d : Dev) (k : Nat) : Dev :=
  let d := d.hsCommand k (d.field.hsCmd.getLsbD k)
  d.hsSettle k ((d.drvPin k).isNone && !(d.field.chan k).on)

theorem goodChan_one : OneChan goodChan :=
  ⟨fun e k => (hsCommand_cases e k _).1.hsSettle k _, fun e k j h => (chan_hsSettle_other _ _ h).trans ((hsCommand_cases e k _).2.1 j h)⟩

/-- A good frame: the channels take their commands once the outputs are set. -/
theorem huskGood_eq (d : Dev) : ∃ e, GoodFrame d e ∧
    (d.field.cfgFull = false → d.field.cfgWords = [] → e.field.cfg = d.field.cfg ∧ e.field.hs = d.field.hs) ∧
    d.huskGood = if e.field.recovery || e.field.roastHold then e else e.leads.foldl goodChan e := by
  unfold Dev.huskGood
  extract_lets full d1 d2 d3
  have h1 : Configured d d1 := by
    unfold d1
    split
    · exact huskConfigure_configured d
    · exact ⟨rfl, rfl, rfl⟩
  have hr : d1.field.roastHold = d.field.roastHold := by rw [h1.field]
  obtain ⟨so, h3, hso⟩ := soSettle_all d2
  have h3 : d3 = d2.modField fun f => { f with so := so } := h3
  have hcmd : (if d1.field.roastHold then 0 else d1.island.soCmd) = soBrought d := by
    rw [hr, h1.island]
    rfl
  have h2 : d2.field = { d1.field with
      cfgComplete := d2.field.cfgComplete, configured := d2.field.configured, recGood := d2.field.recGood, dnBadRun := 0,
      soCmd := soBrought d } := by
    rw [← hcmd]
    rfl
  refine ⟨d3, ⟨?_, ?_, fun k hk => ?_⟩, fun hf hw => ?_, rfl⟩
  · rw [h3]
    simp only [Dev.modField]
    rw [h2, h1.field]
  · rw [h3]; exact h1.sys
  · rw [h3]
    refine (hso k hk).trans ?_
    rw [h2, h1.field]
    rfl
  · have hd : d1 = d := by
      refine if_neg ?_
      change ¬(d.field.cfgFull || !d.field.cfgWords.isEmpty) = true
      rw [hf, hw]
      nofun
    have hsame : d1.field.cfg = d.field.cfg ∧ d1.field.hs = d.field.hs := by
      rw [hd]
      exact ⟨rfl, rfl⟩
    rw [h3]
    exact hsame

/-- What a good frame leaves in the end: the channels are moved from the module before them. -/
theorem huskGood_outcome (d : Dev) : ∃ e, GoodFrame d e ∧ Chans e d.huskGood := by
  obtain ⟨e, he, -, h⟩ := huskGood_eq d
  exact ⟨e, he, h ▸ .ite (.refl e) (eachChan goodChan_one e.leads e).1⟩

/-- What a good frame sets, once the channels have moved. -/
theorem huskGood_sets (d : Dev) (hp : d.field.powered = true) :
    d.huskGood.field.dnBadRun = 0 ∧ d.huskGood.field.soCmd = soBrought d ∧ (∀ k, k < 8 →
      (smGet {} d.huskGood.field.so k : So).on = (d.huskGood.field.soCmd.getLsbD k && !(smGet {} d.field.so k : So).overload &&
        !d.field.uv && !d.field.roastHold)) ∧
    d.huskGood.sys = d.sys ∧ d.huskGood.field.aside = d.field.aside := by
  obtain ⟨e, he, hc⟩ := huskGood_outcome d
  have hcmd : d.huskGood.field.soCmd = soBrought d := by rw [hc.field, he.field]
  refine ⟨?_, hcmd, fun k hk => ?_, hc.sys.trans he.sys, ?_⟩
  · rw [hc.field, he.field]
  · have hso : (smGet {} d.huskGood.field.so k : So) = soAs { d.field with soCmd := soBrought d } k := by
      rw [hc.field]
      exact he.so k hk
    rw [hso, hcmd]
    unfold soAs
    dsimp only
    rw [hp, Bool.and_true]
    cases (soBrought d).getLsbD k <;> simp
  · rw [hc.field, he.field]

theorem leads_congr {d e : Dev} (h : e.field.cfg = d.field.cfg) : e.leads = d.leads := by
  unfold Dev.leads Dev.lead Dev.ganged Dev.huskReg
  rw [h]

/-- The state of a channel in a good frame without configuration. -/
theorem huskGood_chan (d : Dev) (hr : d.field.recovery = false) (hh : d.field.roastHold = false) (hf : d.field.cfgFull = false)
    (hw : d.field.cfgWords = []) {k : Nat} (hk : k < 32) (hl : d.lead k = k) : ∃ e, e.huskNow = d.huskNow ∧
      e.field.chan k = d.field.chan k ∧ d.huskGood.field.chan k = (goodChan e k).field.chan k ∧ e.field.hsCmd = d.field.hsCmd := by
  obtain ⟨e, he, hcfg, hgood⟩ := huskGood_eq d
  obtain ⟨hcfg, hhs⟩ := hcfg hf hw
  have hrun : (e.field.recovery || e.field.roastHold) = false := by
    rw [he.field]
    exact Bool.or_eq_false_iff.mpr ⟨hr, hh⟩
  obtain ⟨g, hg, hx, hz⟩ := eachLead goodChan_one hk hl e
  refine ⟨g, ?_, ?_, ?_, ?_⟩
  · rw [hg.huskNow, Dev.huskNow, Dev.now, he.sys, he.field]
    rfl
  · rw [hx, Field.chan, hhs]
    rfl
  · rw [hgood, hrun, if_neg nofun, leads_congr hcfg, hz]
  · rw [hg.field, he.field]

/-- A command in a good frame: it stands, is deferred, or is applied. -/
theorem goodChan_outcome (d : Dev) (k : Nat) :
    let x := d.field.chan k
    let z := (goodChan d k).field.chan k
    let want := d.field.hsCmd.getLsbD k
    (want = x.cmd → z.cmd = want ∧ z.deferred = none) ∧
    (want ≠ x.cmd → recentlyChanged d x = true → z.cmd = x.cmd ∧ z.deferred = some want) ∧
    (want ≠ x.cmd → recentlyChanged d x = false → z.cmd = want ∧ z.deferred = none ∧ z.lastChange = some d.huskNow) := by
  intro x z want
  obtain ⟨-, -, hz⟩ := hsCommand_cases d k want
  have hset : z = settledAs _ k _ _ := chan_hsSettle_self (d.hsCommand k want) k _
  rw [hset, hz]
  refine ⟨fun h => ?_, fun h hr => ?_, fun h hr => ?_⟩
  · rw [if_pos h]
    exact ⟨h.symm, rfl⟩
  · rw [if_neg h, if_pos hr]
    exact ⟨rfl, rfl⟩
  · rw [if_neg h, if_neg (by rw [hr]; nofun)]
    cases want <;> exact ⟨rfl, rfl, rfl⟩

theorem recentlyChanged_iff (d : Dev) (x : Hs) : recentlyChanged d x = true ↔ ∃ t, x.lastChange = some t ∧ d.huskNow < t + 20 := by
  unfold recentlyChanged
  cases x.lastChange with
  | none => exact ⟨nofun, fun ⟨_, h, _⟩ => nomatch h⟩
  | some t => exact ⟨fun h => ⟨t, rfl, of_decide_eq_true h⟩, fun ⟨_, h, hlt⟩ => decide_eq_true (Option.some.inj h ▸ hlt)⟩

/-! ### The barrier watchdog -/

/-- One channel as the watchdog trips. -/
def tripChan (d : Dev) (k : Nat) : Dev :=
  let x := d.field.chan k
  if d.hsFailsafe k = 2 then d.setChan k { x with failsafe := true }
  else (d.setChan k { x with failsafe := true, deferred := none, retryPending := false }).hsSettle k (!x.on)

theorem tripChan_one : OneChan tripChan :=
  ⟨fun e k => .ite ((Chans.refl e).setChan k _) (((Chans.refl e).setChan k _).hsSettle k _), fun e k j h => by
    unfold tripChan
    extract_lets x
    split
    · exact chan_setChan_other e _ h
    · exact chan_set_settle_other e _ _ h⟩

theorem tripChan_outcome (d : Dev) (k : Nat) : (tripChan d k).field.chan k =
    if d.hsFailsafe k = 2 then { d.field.chan k with failsafe := true }
    else settledAs d k { d.field.chan k with failsafe := true, deferred := none, retryPending := false } (!(d.field.chan k).on) := by
  unfold tripChan
  extract_lets x
  split
  · exact chan_setChan_self d k _
  · exact chan_set_settle d k _ _

/-- The husk as the watchdog trips, before its channels move. -/
def tripped (d : Dev) : Dev := d.modField fun f => { f with recovery := true, tripped := true, cfgComplete := false, recGood := 0 }

/-- A channel as the watchdog trips, by its fail-safe state. -/
theorem tripped_chan {d : Dev} (hp : d.field.powered = true) (hh : d.field.roastHold = false) (k : Nat) (x : Hs) :
    let z := if d.hsFailsafe k = 2 then { x with failsafe := true }
      else settledAs (tripped d) k { x with failsafe := true, deferred := none, retryPending := false } (!x.on)
    z.failsafe = true ∧ (d.hsFailsafe k = 0 → z.on = false) ∧
      (d.hsFailsafe k = 1 → z.on = (d.drivesPorts && !x.limitLatch && !x.thermLatch && !d.field.uv && d.drvHigh k)) ∧
      (d.hsFailsafe k = 2 → z = { x with failsafe := true }) := by
  intro z
  have hw (y : Hs) (hy : y.failsafe = true) (h : d.hsFailsafe k ≠ 2) : wantsOn (tripped d) k y = (d.hsFailsafe k == 1) := by
    unfold wantsOn
    rw [hy]
    exact if_pos ((Bool.and_eq_true ..).mpr ⟨rfl, bne_iff_ne.mpr h⟩)
  refine ⟨?_, fun h => ?_, fun h => ?_, fun h => if_pos h⟩
  · unfold z
    split <;> rfl
  · have hz : z = _ := if_neg (by omega)
    rw [hz, settledAs, hw _ rfl (by omega), h]
    rfl
  · have hz : z = _ := if_neg (by omega)
    rw [hz, settledAs, hw _ rfl (by omega), h]
    have hf (y : Hs) (hy : y.retryPending = false) :
        freeOn (tripped d) y = (d.drivesPorts && !y.limitLatch && !y.thermLatch && !d.field.uv) := by
      change (d.drivesPorts && !y.limitLatch && !y.thermLatch && !y.retryPending && !d.field.uv && !d.field.roastHold && d.field.powered) = _
      rw [hy, hh, hp]
      simp only [Bool.not_false, Bool.and_true]
    rw [hf _ rfl]
    rfl

theorem watchdogTrip_eq (d : Dev) : d.watchdogTrip = d.leads.foldl tripChan (tripped d) := rfl

/-- One channel as recovery ends. -/
def recoverChan (d : Dev) (k : Nat) : Dev :=
  let x := d.field.chan k
  let held := x.thermLatch && (x.hot || !x.waitCool)
  let e := (d.setChan k { x with failsafe := false, thermLatch := held, waitCool := held && x.waitCool }).hsCommand k
    (d.field.hsCmd.getLsbD k)
  e.hsSettle k (!x.on)

theorem recoverChan_one : OneChan recoverChan :=
  ⟨fun e k => (((Chans.refl e).setChan k _).trans (hsCommand_cases _ k _).1).hsSettle k _, fun e k j h =>
    ((chan_hsSettle_other _ _ h).trans ((hsCommand_cases _ k _).2.1 j h)).trans (chan_setChan_other e _ h)⟩

theorem recoverChan_failsafe (d : Dev) (k : Nat) : ((recoverChan d k).field.chan k).failsafe = false := by
  unfold recoverChan
  extract_lets x held e
  rw [chan_hsSettle_self]
  change (e.field.chan k).failsafe = false
  unfold e
  rw [(hsCommand_cases _ k _).2.2, chan_setChan_self]
  generalize recentlyChanged _ _ = r
  cases d.field.hsCmd.getLsbD k <;> cases r <;> split <;> rfl

/-- The husk as recovery ends, before its channels move. -/
def recovered (d : Dev) : Dev := d.modField fun f => { f with recovery := false, tripped := false }

theorem recoveryEnd_eq (d : Dev) : d.recoveryEnd = d.leads.foldl recoverChan (recovered d) := rfl

/-! ### The obligation -/

/-- A table whose entries are changed alike. -/
theorem smGet_map_snd {α : Type} {a : α} {g : α → α} (hg : g a = a) (m : SMap α) (k : Nat) :
    smGet a (m.map fun p => (p.1, g p.2)) k = g (smGet a m k) := by
  induction m with
  | nil => exact hg.symm
  | cons p m ih =>
    change (if k = p.1 then g p.2 else smGet a (m.map fun p => (p.1, g p.2)) k) = g (if k = p.1 then p.2 else smGet a m k)
    rw [ih]
    exact (apply_ite g _ _ _).symm

/-- An output that is switched off. -/
def soOff (x : So) : So := { x with on := false }

/-- What a sample of the husk changes: its latches and the integrals and counts of the channels. -/
theorem huskSample_eq (d : Dev) (x : FieldSample) : ∃ quads hs, d.huskSample x = d.modField fun f =>
    { f with v24fHusk := x.v24f, limitPrev := f.limitNow, limitNow := quads, hs := hs } := by
  unfold Dev.huskSample
  extract_lets quads d1
  refine ⟨quads, ?_⟩
  have hset (e : Dev) (k : Nat) (y : Hs) (h : ∃ hs, e = d1.modField fun f => { f with hs := hs }) :
      ∃ hs, e.setChan k y = d1.modField fun f => { f with hs := hs } := by
    obtain ⟨hs, rfl⟩ := h
    exact ⟨_, rfl⟩
  refine List.foldlRecOn (motive := fun e => ∃ hs, e = d1.modField fun f => { f with hs := hs }) _ _ ⟨_, rfl⟩ fun e he k _ => ?_
  have h2 : ∃ hs, (e.hsIntegrate k (x.hsFast.map fun c => e.hsCurrentOf c k)).hsLatched k = d1.modField fun f => { f with hs := hs } :=
    hset _ _ _ (hset _ _ _ he)
  unfold Dev.olCount
  extract_lets y mapped z low
  split
  · exact hset _ _ _ h2
  · split
    · exact hset _ _ _ h2
    · exact hset _ _ _ h2

/-- The module in which a frame of the husk is judged: the husk has sampled where it is powered. -/
theorem sampled_eq (d : Dev) (x : FieldSample) : LinkWork 0x80302 d (if d.field.powered then d.huskSample x else d) ∧
    (if d.field.powered then d.huskSample x else d).field.powered = d.field.powered := by
  split
  · obtain ⟨quads, hs, h⟩ := huskSample_eq d x
    rw [h]
    exact ⟨(LinkWork.refl d).change (by decide) (by decide) rfl rfl rfl rfl rfl rfl, rfl⟩
  · exact ⟨.refl d, rfl⟩

theorem barrierFrame_exec {s : State} (x : FieldSample) (ho : s.dev.operating = true) {e : Dev}
    (he : (if s.dev.field.powered then s.dev.huskSample x else s.dev) = e) :
    exec (.barrierFrameReceived x) s =
      .next { s with dev := if x.good && s.dev.field.powered then e.barrierGood x else e.barrierBad } := by
  subst he
  rw [show exec (.barrierFrameReceived x) s = execBarrierFrameReceived x s from rfl, execBarrierFrameReceived, ho]
  rw [(sampled_eq s.dev x).2]
  rfl

/-- What a bad upstream frame leaves. -/
theorem barrierBad_outcome (d : Dev) : d.barrierBad.field.upBad = d.field.upBad + 1 ∧ d.barrierBad.field.upGood = 0 ∧
    d.barrierBad.field.linkUp = d.field.linkUp ∧ d.barrierBad.island.diOk = false := by
  unfold Dev.barrierBad
  extract_lets d1 d2 d3
  have h3 : Stored d2 d3 := Stored.foldl (fun e _ h => h.devSig _ _ _ _) (.refl d2)
  have h4 : Stored d2 (soSignals.foldl (fun d n => d.sigStore n (d.sigVal n) (d.sig n).valid true 0x12) d3) :=
    Stored.foldl (fun e _ h => h.sigStore _ _ _ _ _) h3
  rw [h4.field, h4.island]
  exact ⟨rfl, rfl, rfl, rfl⟩

/-- A link that is lost: every signal of the husk is without VALID. -/
theorem barrierLinkLost_outcome {s : State} (hu : s.dev.field.linkUp = true) (hb : 3 ≤ s.dev.field.upBad) :
    Answers .barrierLinkLost s fun d' => d'.field.linkUp = false ∧ (d'.reg Adr.fldFlags).getLsbD 0 = true ∧
      ∀ n ∈ huskSignals ++ soSignals, (d'.sig n).valid = false := by
  have hc : (s.dev.field.linkUp && decide (3 ≤ s.dev.field.upBad)) = true := (Bool.and_eq_true ..).mpr ⟨hu, decide_eq_true hb⟩
  refine answers_next (if_pos hc) ?_
  generalize hl : huskSignals ++ soSignals = l
  let lost : Dev := s.dev.modField fun f => { f with linkUp := false }
  have hlost : ((lost.event 0x4001 0xFFFF).fldFlag 1).field = lost.field := ((Logs.refl lost).event _ _ _).field
  have hs : Stored ((lost.event 0x4001 0xFFFF).fldFlag 1) (l.foldl (fun d n => d.sigQuality n false true) ((lost.event 0x4001 0xFFFF).fldFlag 1)) :=
    Stored.foldl (fun e _ h => h.sigQuality _ _ _) (.refl _)
  refine ⟨?_, ?_, fun n hn => quality_cleared l _ (.inl hn)⟩
  · exact (congrArg Field.linkUp (hs.field.trans hlost)).trans rfl
  · rw [show _ = _ from hs.reg Adr.fldFlags (fixedReg_of (by decide) (by decide)), Dev.fldFlag, reg_orReg_self, BitVec.getLsbD_or]
    exact Bool.or_true _

theorem huskReports_link (d : Dev) : d.huskReports.field.linkUp = d.field.linkUp ∧
    (d.field.cfgFull = true → d.huskReports.field.cfgFull = true) := by
  have hev (e : Dev) (c : Nat) (w : Word) : ((e.event c 0xFFFF).fldFlag w).field = e.field := ((Logs.refl e).event _ _ _).field
  unfold Dev.huskReports
  extract_lets e
  have he : e.field.linkUp = d.field.linkUp ∧ (d.field.cfgFull = true → e.field.cfgFull = true) := by
    unfold e
    split
    · rw [hev]
      exact ⟨rfl, fun _ => rfl⟩
    · exact ⟨rfl, id⟩
  split
  · exact he
  · split
    · rw [hev]
      exact ⟨he.1, fun _ => rfl⟩
    · exact he

/-- A link that comes up: the whole configuration is due. -/
theorem barrierLinkUp_outcome {s : State} (hu : s.dev.field.linkUp = false) (hg : 16 ≤ s.dev.field.upGood) :
    Answers .barrierLinkUp s fun d' => d'.field.linkUp = true ∧ d'.field.cfgFull = true := by
  have hc : (!s.dev.field.linkUp && decide (16 ≤ s.dev.field.upGood)) = true := by rw [hu, decide_eq_true hg]; rfl
  refine answers_next (if_pos hc) ?_
  let up : Dev := s.dev.modField fun f => { f with linkUp := true, cfgFull := true }
  have hup : (up.event 0x4006 0xFFFF).field = up.field := ((Logs.refl up).event _ _ _).field
  obtain ⟨hl, hf⟩ := huskReports_link (up.event 0x4006 0xFFFF)
  exact ⟨hl.trans (congrArg Field.linkUp hup), hf (congrArg Field.cfgFull hup)⟩

/-- Settles O37: the logic side's frames move the counts of the link and show the husk; the husk's own side sets its outputs and then
moves one channel after another. -/
theorem barrierLink : Obligations.BarrierLink := by
  intro s x good d f frame husk fs leads tripDue recovered' sets
  have hgood : f.powered = true → good = true → d.operating = true → exec husk s = .next { s with dev := d.huskGood } := by
    intro hp hg ho
    rw [show exec husk s = execHuskFrameReceived good s from rfl, execHuskFrameReceived, hg]
    rw [if_neg (by rw [hp]; nofun), if_pos (by rw [ho]; rfl)]
  have hrecent (e : Dev) (hn : e.huskNow = d.huskNow) (x : Hs) :
      recentlyChanged e x = true ↔ ∃ t, x.lastChange = some t ∧ d.huskNow < t + 20 := hn ▸ recentlyChanged_iff e x
  have htrip : (f.powered && !f.recovery && !f.roastHold && decide (fld (d.huskReg Adr.fldBlcfg) 0 8 ≤ f.dnBadRun)) = true ↔ tripDue := by
    simp only [Bool.and_eq_true, Bool.not_eq_true', decide_eq_true_eq, and_assoc, tripDue]
  have hrec : (f.recovery && f.cfgComplete && decide (16 ≤ f.recGood)) = true ↔ recovered' := by
    simp only [Bool.and_eq_true, decide_eq_true_eq, and_assoc, recovered']
  refine ⟨fun ho hg hp => ?_, fun ho hb => ?_, barrierLinkLost_outcome, fun hn => ?_, barrierLinkUp_outcome, fun hn => ?_, fun hp => ?_,
    fun hp hg ho hd => ?_, fun hp hg ho hd => ?_, fun hp hg ho hr hh hf hw => ?_, fun hp hg ho => ?_, fun hp hg => ?_,
    fun hp hb => ?_, fun hp hb => ?_, fun ht => ?_, fun ht => ?_, fun hr => ?_, fun hr => ?_⟩
  · obtain ⟨hw, -⟩ := sampled_eq d x
    generalize he : (if d.field.powered then d.huskSample x else d) = e at hw
    obtain ⟨h1, h2, h3, h4, h5, h6, h7, h8⟩ := barrierGood_outcome e x
    refine answers_next (e := e.barrierGood x) ?_ ⟨h1, ?_, ?_, h4, h5, h6, h7, ?_⟩
    · rw [barrierFrame_exec x ho he, if_pos ((Bool.and_eq_true ..).mpr ⟨hg, hp⟩)]
    · rw [h2, hw.upGood, satNat_eq]
    · rw [h3, hw.linkUp]
    · rwa [hw.sig, hw.linkUp] at h8
  · obtain ⟨hw, -⟩ := sampled_eq d x
    generalize he : (if d.field.powered then d.huskSample x else d) = e at hw
    obtain ⟨h1, h2, h3, h4⟩ := barrierBad_outcome e
    refine answers_next (e := e.barrierBad) ?_ ⟨?_, h2, ?_, h4⟩
    · have hb : ¬(x.good && s.dev.field.powered) = true := fun h => by
        obtain ⟨hg, hp⟩ := (Bool.and_eq_true ..).mp h
        exact hb.elim (fun e => Bool.false_ne_true (e.symm.trans hg)) fun e => Bool.false_ne_true (e.symm.trans hp)
      rw [barrierFrame_exec x ho he, if_neg hb]
    · rw [h1, hw.upBad]
    · rw [h3, hw.linkUp]
  · refine if_neg fun h => ?_
    obtain ⟨hu, hb⟩ := (Bool.and_eq_true ..).mp h
    exact hn.elim (fun e => Bool.false_ne_true (e.symm.trans hu)) fun e => Nat.not_le.mpr e (of_decide_eq_true hb)
  · refine if_neg fun h => ?_
    obtain ⟨hu, hb⟩ := (Bool.and_eq_true ..).mp h
    exact hn.elim (fun e => by rw [show s.dev.field.linkUp = true from e] at hu; nomatch hu) fun e => Nat.not_le.mpr e (of_decide_eq_true hb)
  · exact ⟨if_pos (by rw [show s.dev.field.powered = false from hp]; rfl),
      if_neg (by rw [show s.dev.field.powered = false from hp]; nofun)⟩
  · show exec husk s = .next s
    rw [show exec husk s = execHuskFrameReceived good s from rfl, execHuskFrameReceived, hg]
    rw [if_neg (by rw [hp]; nofun), if_neg (by rw [ho]; nofun), if_neg (by rw [hd]; nofun)]
    rfl
  · refine answers_next (e := d.lastFrame.modField fun f => { f with offDue := false, aside := f.aside + 1 }) ?_ ?_
    · rw [show exec husk s = execHuskFrameReceived good s from rfl, execHuskFrameReceived, hg]
      rw [if_neg (by rw [hp]; nofun), if_neg (by rw [ho]; nofun), if_pos (by rw [hd]; rfl)]
    · obtain ⟨h1, h2, h3, h4, h5⟩ := huskGood_sets d hp
      have hnow : d.huskGood.huskNow = d.huskNow := by rw [Dev.huskNow, Dev.now, h4, h5]; rfl
      exact ⟨⟨h1, h2, h3⟩, rfl, rfl, congrArg (· + 1) hnow⟩
  · refine answers_next (hgood hp hg ho) fun k hk hl => ?_
    obtain ⟨e, hn, hx, hz, hc⟩ := huskGood_chan d hr hh hf hw hk hl
    have h := goodChan_outcome e k
    rw [hn, hx, hc] at h
    obtain ⟨h1, h2, h3⟩ := h
    intro x z want
    rw [show z = _ from hz]
    refine ⟨h1, fun hne ht => h2 hne ((hrecent e hn _).mpr ht), fun hne ht => h3 hne (Bool.eq_false_iff.mpr fun hr => ?_)⟩
    obtain ⟨t, ht', hlt⟩ := (hrecent e hn _).mp hr
    exact Nat.not_lt.mpr (ht t ht') hlt
  · obtain ⟨h1, h2, h3, -, -⟩ := huskGood_sets d hp
    exact answers_next (hgood hp hg ho) ⟨h1, h2, h3⟩
  · refine answers_next (e := d.modField fun f =>
      { f with offDue := false, dnBadRun := if f.roastHold then f.dnBadRun else f.dnBadRun + 1, recGood := 0, dnNew := f.dnNew + 1,
               aside := if d.operating then f.aside else f.aside + 1 }) ?_ ⟨rfl, rfl, rfl, rfl, ?_⟩
    · rw [show exec husk s = execHuskFrameReceived good s from rfl, execHuskFrameReceived, hg]
      rw [if_neg (by rw [hp]; nofun), if_neg (by rw [Bool.and_false]; nofun), if_neg nofun, if_neg nofun]
    · change d.now + (if d.operating then d.field.aside else d.field.aside + 1) = _
      split <;> rfl
  · refine answers_next (if_pos ((Bool.and_eq_true ..).mpr ⟨hp, decide_eq_true hb⟩)) ⟨fun k => ?_, rfl⟩
    change (smGet {} (s.dev.field.so.map fun p => (p.1, soOff p.2)) k).on = false
    rw [smGet_map_snd rfl]
    rfl
  · refine if_neg fun h => ?_
    exact Nat.not_le.mpr hb (of_decide_eq_true ((Bool.and_eq_true ..).mp h).2)
  · obtain ⟨hp, -, hh, -⟩ := id ht
    have hfold := eachChan tripChan_one d.leads (tripped d)
    refine answers_next (e := d.watchdogTrip) (if_pos (htrip.mpr ht)) ⟨?_, ?_, fun k hk hl => ?_⟩
    · rw [watchdogTrip_eq, hfold.1.frame (·.recovery) fun _ _ _ => rfl]
      rfl
    · rw [watchdogTrip_eq, hfold.1.frame (·.cfgComplete) fun _ _ _ => rfl]
      rfl
    · obtain ⟨e, he, hx, hz⟩ := eachLead tripChan_one hk hl (tripped d)
      have hfs : e.hsFailsafe k = d.hsFailsafe k := (he.hsFailsafe k).trans rfl
      have hx : e.field.chan k = f.chan k := hx
      rw [watchdogTrip_eq, hz, tripChan_outcome, hfs, hx, he.settledAs]
      exact tripped_chan hp hh k _
  · exact if_neg fun h => ht (htrip.mp h)
  · have hfold := eachChan recoverChan_one d.leads (recovered d)
    refine answers_next (e := d.recoveryEnd) (if_pos (hrec.mpr hr)) ⟨?_, fun k hk hl => ?_⟩
    · rw [recoveryEnd_eq, hfold.1.frame (·.recovery) fun _ _ _ => rfl]
      rfl
    · obtain ⟨e, he, hx, hz⟩ := eachLead recoverChan_one hk hl (recovered d)
      rw [recoveryEnd_eq, hz, recoverChan_failsafe]
  · exact if_neg fun h => hr (hrec.mp h)

end Sys2Proof.Proofs
end

section
/-! O38: undervoltage, a reset of the husk, DRV pins and the configuration of the field section (R262, R263, R285, R292). -/

namespace Sys2Proof.Proofs

open Sys2Proof.Machine Sys2Proof.Safety

/-! ### Supplies -/

theorem hsSettle_regs (d : Dev) (k : Nat) (fresh : Bool) : (d.hsSettle k fresh).regs = d.regs := by
  unfold Dev.hsSettle
  extract_lets x wanted on start d1 q
  split <;> rfl

/-- One channel as undervoltage begins. -/
def starvedChan (d : Dev) (k : Nat) : Dev := (d.setChan k { d.field.chan k with retryPending := false }).hsSettle k false

theorem starvedChan_one : OneChan starvedChan :=
  ⟨fun e k => ((Chans.refl e).setChan k _).hsSettle k _, fun e _ _ h => chan_set_settle_other e _ _ h⟩

theorem freeOn_uv {d : Dev} (h : d.field.uv = true) (x : Hs) : freeOn d x = false := by
  unfold freeOn
  rw [h]
  simp

theorem settledAs_uv {d : Dev} (h : d.field.uv = true) (k : Nat) (x : Hs) (fresh : Bool) : (settledAs d k x fresh).on = false := by
  change (wantsOn d k x && freeOn d x && d.drvHigh k) = false
  rw [freeOn_uv h, Bool.and_false, Bool.false_and]

/-- The module as undervoltage is noted, before an output moves. -/
def starved (d : Dev) : Dev := ((d.modField fun f => { f with uv := true, uvEpisodes := satInc f.uvEpisodes }).event 0x4004 0xFFFF).fldFlag 8

theorem starved_field (d : Dev) : (starved d).field = { d.field with uv := true, uvEpisodes := satInc d.field.uvEpisodes } :=
  ((Logs.refl (d.modField fun f => { f with uv := true, uvEpisodes := satInc f.uvEpisodes })).event 0x4004 0xFFFF []).field

/-- Undervoltage: its flag and count, every channel off, every output off. -/
theorem undervoltage_outcome {s : State} (hp : s.dev.field.powered = true) (hu : s.dev.field.uv = false) :
    Answers .v24fUndervoltage s fun d' => d'.field.uv = true ∧ d'.field.uvEpisodes = satInc s.dev.field.uvEpisodes ∧
      (d'.reg Adr.fldFlags).getLsbD 3 = true ∧ (∀ k, k < 32 → s.dev.lead k = k → (d'.field.chan k).on = false) ∧
      ∀ k, k < 8 → (smGet {} d'.field.so k : So).on = false := by
  have hc : (s.dev.field.powered && !s.dev.field.uv) = true := by rw [hp, hu]; rfl
  let told := starved s.dev
  have htold : told.field = _ := starved_field s.dev
  let e : Dev := told.leads.foldl starvedChan told
  have hleads : told.leads = s.dev.leads := leads_congr (by rw [htold])
  have he : Chans told e := (eachChan starvedChan_one told.leads told).1
  have huv : e.field.uv = true := by
    rw [he.frame (·.uv) fun _ _ _ => rfl, htold]
  have hreg : e.regs = told.regs :=
    List.foldlRecOn (motive := fun e : Dev => e.regs = told.regs) _ _ rfl fun e h k _ => (hsSettle_regs _ k false).trans h
  obtain ⟨so, hso, hk⟩ := soSettle_all e
  refine answers_next (e := (List.range 8).foldl (fun d k => d.soSettle k) e) (if_pos hc) ?_
  rw [hso]
  refine ⟨huv, ?_, ?_, fun k hlt hl => ?_, fun k hlt => ?_⟩
  · exact (he.frame (·.uvEpisodes) fun _ _ _ => rfl).trans (congrArg Field.uvEpisodes htold)
  · have hflag : e.reg Adr.fldFlags = told.reg Adr.fldFlags := by rw [Dev.reg, hreg]; rfl
    refine (congrArg (BitVec.getLsbD · 3) hflag).trans ?_
    unfold told starved
    rw [Dev.fldFlag, reg_orReg_self, BitVec.getLsbD_or]
    exact Bool.or_true _
  · obtain ⟨g, hg, -, hz⟩ := eachLead starvedChan_one hlt hl told
    have hz : e.field.chan k = (starvedChan g k).field.chan k := by rw [← hz, ← hleads]
    change (e.field.chan k).on = false
    rw [hz, starvedChan, chan_set_settle]
    exact settledAs_uv (by rw [hg.frame (·.uv) fun _ _ _ => rfl, htold]) _ _ _
  · refine (congrArg So.on (hk k hlt)).trans ?_
    change (_ && _ && !e.field.uv && _ && _) = false
    rw [huv]
    simp

/-- Undervoltage ends: each channel follows what it wants, as a new turn-on. -/
theorem undervoltageEnd_outcome {s : State} (hu : s.dev.field.uv = true) (hp : s.dev.field.powered = true)
    (hh : s.dev.field.roastHold = false) (hd : s.dev.drivesPorts = true) :
    Answers .undervoltageEnd s fun d' => d'.field.uv = false ∧ ∀ k, k < 32 → s.dev.lead k = k → (d'.field.chan k).on =
      (s.dev.hsWanted k && (!(s.dev.field.chan k).limitLatch && !(s.dev.field.chan k).thermLatch && !(s.dev.field.chan k).retryPending) &&
        s.dev.drvHigh k) := by
  let fed : Dev := s.dev.modField fun f => { f with uv := false }
  let told : Dev := fed.event 0x4005 0xFFFF
  have htold : told.field = fed.field := ((Logs.refl fed).event 0x4005 0xFFFF []).field
  have hone := oneChan_settle fun _ _ => true
  have hleads : told.leads = s.dev.leads := leads_congr (by rw [htold]; rfl)
  have hchans := (eachChan hone told.leads told).1
  refine answers_next (e := told.leads.foldl (fun d k => d.hsSettle k true) told) (if_pos hu) ⟨?_, fun k hlt hl => ?_⟩
  · rw [hchans.frame (·.uv) fun _ _ _ => rfl, htold]
    rfl
  · obtain ⟨g, hg, hx, hz⟩ := eachLead hone hlt hl told
    have hg : Chans fed g := ((Chans.refl fed).logs ((Logs.refl fed).event 0x4005 0xFFFF [])).trans hg
    have hx : g.field.chan k = s.dev.field.chan k := by rw [hx, htold]; rfl
    rw [hleads, hz, chan_hsSettle_self, hx, hg.settledAs]
    have hfree : freeOn fed (s.dev.field.chan k) = (!(s.dev.field.chan k).limitLatch && !(s.dev.field.chan k).thermLatch &&
        !(s.dev.field.chan k).retryPending) := by
      change (s.dev.drivesPorts && _ && _ && _ && !false && !s.dev.field.roastHold && s.dev.field.powered) = _
      rw [hd, hh, hp]
      simp only [Bool.not_false, Bool.and_true, Bool.true_and]
    exact congrArg (fun b => s.dev.hsWanted k && b && s.dev.drvHigh k) hfree

theorem getLsbD_putBit {w : Nat} (x : BitVec w) {i j : Nat} (hi : i < w) (hj : j < w) (v : Bool) :
    (putBit x i v).getLsbD j = if j = i then v else x.getLsbD j := by
  have hbit : (BitVec.ofNat w (2 ^ i)).getLsbD j = decide (j = i) := by
    rw [BitVec.getLsbD_ofNat, decide_eq_true hj, Bool.true_and, Nat.testBit_two_pow]
    exact decide_eq_decide.mpr eq_comm
  unfold putBit
  cases v
  · rw [if_neg nofun, BitVec.getLsbD_and, BitVec.getLsbD_not, hbit]
    by_cases h : j = i <;> simp [h, hi, hj]
  · rw [if_pos rfl, BitVec.getLsbD_or, hbit]
    by_cases h : j = i <;> simp [h]

/-- An edge at a DRV pin: the channels mapped to it follow it. -/
theorem drvEdge_outcome {s : State} (pin : Fin 4) (level : Bool) (hp : s.dev.field.powered = true) :
    Answers (.drvEdge pin level) s fun d' => d'.field.drv.getLsbD pin.val = level ∧
      (∀ k, k < 4 → k ≠ pin.val → d'.field.drv.getLsbD k = s.dev.field.drv.getLsbD k) ∧
      (∀ h, s.dev.drvPin h ≠ some pin.val → d'.field.chan h = s.dev.field.chan h) ∧
      ∀ h, h < 32 → s.dev.lead h = h → s.dev.drvPin h = some pin.val →
        (d'.field.chan h).on = (s.dev.hsWanted h && s.dev.hsFree h && level) := by
  let e : Dev := s.dev.modField fun f => { f with drv := putBit f.drv pin.val level }
  have hdrv (k : Nat) (hk : k < 4) : e.field.drv.getLsbD k = if k = pin.val then level else s.dev.field.drv.getLsbD k :=
    getLsbD_putBit _ pin.isLt hk level
  let l := e.leads.filter fun h => e.drvPin h == some pin.val
  have hone := oneChan_settle fun _ _ => false
  obtain ⟨hchans, hout, hin⟩ := eachChan hone l e
  have hmem {h : Nat} (hm : h ∈ l) : s.dev.drvPin h = some pin.val := beq_iff_eq.mp (List.mem_filter.mp hm).2
  refine answers_next (e := l.foldl (fun d h => d.hsSettle h false) e) (if_pos hp) ⟨?_, fun k hk hne => ?_, fun h hne => ?_, fun h hlt hl hpin => ?_⟩
  · rw [hchans.frame (·.drv) fun _ _ _ => rfl, hdrv _ pin.isLt, if_pos rfl]
  · rw [hchans.frame (·.drv) fun _ _ _ => rfl, hdrv _ hk, if_neg hne]
  · exact hout h fun hm => hne (hmem hm)
  · obtain ⟨g, hg, hx, hz⟩ := hin ((leads_nodup e).filter _) h (List.mem_filter.mpr ⟨mem_leads.mpr ⟨hlt, hl⟩, beq_iff_eq.mpr hpin⟩)
    have hhigh : e.drvHigh h = level := by
      have hp : e.drvPin h = some pin.val := hpin
      unfold Dev.drvHigh
      rw [hp]
      exact (hdrv _ pin.isLt).trans (if_pos rfl)
    rw [hz, chan_hsSettle_self, hg.settledAs, hx]
    change (wantsOn e h _ && freeOn e _ && e.drvHigh h) = _
    rw [hhigh]
    rfl

/-! ### Configuration -/

/-- The answer of a configuration write: input configuration is taken in any state, other configuration in IDLE and within its ranges. -/
def fldCode (d : Dev) (addr : Nat) (w : Word) : Nat :=
  if decide (0x210100 ≤ addr) && !decide (0x210200 ≤ addr) then 0
  else if d.sys.power != .idle then 0x4031 else if fldOutOfRange addr w then 0x4032 else 0

/-- A configuration write that is taken: the register, and its place among the words to be sent. -/
def fldTaken (d : Dev) (addr : Nat) (w : Word) : Dev :=
  ((d.setReg Adr.fldCfgstat 0).setReg addr w).modField fun f =>
    { f with cfgWords := if f.cfgWords.contains addr then f.cfgWords else f.cfgWords ++ [addr] }

/-- A configuration write that is refused with a code. -/
def fldRefused (d : Dev) (addr code : Nat) : Dev :=
  ((d.setReg Adr.fldCfgstat (wordOfNat code)).event code
    (if decide (0x210200 ≤ addr) then 0x100 + (addr - 0x210200) / 4 else 0xFFFF)).fldFlag 0x800

theorem fldWrite_eq (d : Dev) {addr : Nat} {r : RegRow} (v : Word) (hr : rowOf addr = some r) :
    d.fldWrite addr v =
      if fldCode d addr (v &&& wordOfNat r.mask) = 0 then fldTaken d addr (v &&& wordOfNat r.mask)
      else fldRefused d addr (fldCode d addr (v &&& wordOfNat r.mask)) := by
  unfold Dev.fldWrite
  rw [hr]
  dsimp -zeta only
  extract_lets w hs di bad code d1
  change (if code = 0 then _ else _) = (if code = 0 then _ else fldRefused d addr code)
  split
  next h =>
    have h1 : d1 = d.setReg Adr.fldCfgstat 0 := congrArg (fun c => d.setReg Adr.fldCfgstat (wordOfNat c)) h
    rw [h1]
    rfl
  next => rfl

theorem inFldConfig_bounds {addr : Nat} (h : inFldConfig addr = true) :
    addr ≠ Adr.fldCfgstat ∧ addr ≠ Adr.fldFlags ∧ fixedReg addr ∧ addr < 0x210280 := by
  unfold inFldConfig at h
  simp only [Bool.or_eq_true, beq_iff_eq, Bool.and_eq_true, decide_eq_true_eq, Adr.fldBlcfg, Adr.fldGang] at h
  unfold Adr.fldCfgstat Adr.fldFlags
  exact ⟨by omega, by omega, fixedReg_of (by omega) (by omega), by omega⟩

theorem fldTaken_outcome (d : Dev) {addr : Nat} (w : Word) (h : inFldConfig addr = true) :
    (fldTaken d addr w).reg Adr.fldCfgstat = 0 ∧ (fldTaken d addr w).reg addr = w ∧ addr ∈ (fldTaken d addr w).field.cfgWords := by
  obtain ⟨hs, -, -, -⟩ := inFldConfig_bounds h
  refine ⟨(reg_setReg_other _ _ hs.symm).trans (reg_setReg_self _ _ _), reg_setReg_self _ _ _, ?_⟩
  change addr ∈ if d.field.cfgWords.contains addr then d.field.cfgWords else d.field.cfgWords ++ [addr]
  split
  next hc => exact List.contains_iff_mem.mp hc
  next => exact List.mem_append_right _ (List.mem_singleton_self _)

theorem fldRefused_outcome (d : Dev) {addr : Nat} (code : Nat) (h : inFldConfig addr = true) :
    (fldRefused d addr code).reg Adr.fldCfgstat = wordOfNat code ∧ (fldRefused d addr code).reg addr = d.reg addr ∧
      (fldRefused d addr code).field = d.field ∧ ((fldRefused d addr code).reg Adr.fldFlags).getLsbD 11 = true := by
  obtain ⟨hs, hf, hfix, -⟩ := inFldConfig_bounds h
  have hl := (Logs.refl (d.setReg Adr.fldCfgstat (wordOfNat code))).event code
    (if decide (0x210200 ≤ addr) then 0x100 + (addr - 0x210200) / 4 else 0xFFFF) []
  have hstat : fixedReg Adr.fldCfgstat := fixedReg_of (by decide) (by decide)
  unfold fldRefused Dev.fldFlag
  refine ⟨?_, ?_, hl.field, ?_⟩
  · rw [reg_orReg_other _ _ (by decide), hl.reg _ hstat.1, reg_setReg_self]
  · rw [reg_orReg_other _ _ hf, hl.reg _ hfix.1, reg_setReg_other _ _ hs]
  · rw [reg_orReg_self, BitVec.getLsbD_or]
    exact Bool.or_true _

/-- Settles O38: each event by its own lemma, and a configuration write by its answer. -/
theorem fieldSupplies : Obligations.FieldSupplies := by
  intro s pin level addr v d f leads free
  refine ⟨undervoltage_outcome, fun hn => if_neg fun h => ?_, fun hn => if_neg (Bool.eq_false_iff.mp hn), fun hp => ⟨?_, ?_⟩,
    fun hn => if_neg (Bool.eq_false_iff.mp hn), undervoltageEnd_outcome, fun hp => answers_next (if_pos hp) ⟨fun _ => rfl, fun _ => rfl, rfl, rfl, rfl, rfl⟩,
    drvEdge_outcome pin level, fun r hc hr => ?_⟩
  · obtain ⟨hp, hu⟩ := (Bool.and_eq_true ..).mp h
    exact hn.elim (fun e => Bool.false_ne_true (e.symm.trans hp)) fun e => by rw [show s.dev.field.uv = true from e] at hu; nomatch hu
  · exact if_neg (Bool.eq_false_iff.mp hp)
  · exact if_neg (Bool.eq_false_iff.mp hp)
  · intro w input channel bad refuses takes
    have hx : exec (.fldConfigWrite addr v) s = .next { s with dev := d.fldWrite addr.toNat v } := if_pos hc
    rw [fldWrite_eq d v hr] at hx
    have hbad : fldOutOfRange addr.toNat w = true ↔ bad := by
      have hlt := (inFldConfig_bounds hc).2.2.2
      simp only [fldOutOfRange, Bool.or_eq_true, Bool.and_eq_true, beq_iff_eq, decide_eq_true_eq, bad, channel]
      omega
    have hdi : (decide (0x210100 ≤ addr.toNat) && !decide (0x210200 ≤ addr.toNat)) = true ↔ input := by
      simp only [Bool.and_eq_true, Bool.not_eq_true', decide_eq_true_eq, decide_eq_false_iff_not, not_le, input]
    have htake (h0 : fldCode d addr.toNat w = 0) : takes 0 fun d' => d'.reg addr.toNat = w ∧ addr.toNat ∈ d'.field.cfgWords :=
      answers_next (hx.trans (by rw [show fldCode d addr.toNat (v &&& wordOfNat r.mask) = 0 from h0, if_pos rfl])) (fldTaken_outcome d w hc)
    have hrefuse (code : Nat) (hne : code ≠ 0) (h0 : fldCode d addr.toNat w = code) : takes (wordOfNat code) refuses :=
      answers_next (hx.trans (by rw [show fldCode d addr.toNat (v &&& wordOfNat r.mask) = code from h0, if_neg hne]))
        (fldRefused_outcome d code hc)
    refine ⟨fun h => htake ?_, fun hi hp => hrefuse 0x4031 (by decide) ?_, fun hi hp hb => hrefuse 0x4032 (by decide) ?_⟩
    · obtain hi | ⟨hp, hb⟩ := h
      · exact if_pos (hdi.mpr hi)
      · have h0 : (if (d.sys.power != .idle) = true then 0x4031 else if fldOutOfRange addr.toNat w = true then 0x4032 else 0) = 0 := by
          rw [if_neg (by rw [hp]; nofun), if_neg (mt hbad.mp hb)]
        unfold fldCode
        rw [h0]
        exact ite_self _
    · unfold fldCode
      rw [if_neg (mt hdi.mp hi), if_pos (bne_iff_ne.mpr hp)]
    · unfold fldCode
      rw [if_neg (mt hdi.mp hi), if_neg (by rw [hp]; nofun), if_pos (hbad.mpr hb)]

end Sys2Proof.Proofs
end

section
/-! O39: the high-side channels and the safety outputs as the husk protects them (R276–R287). -/

namespace Sys2Proof.Proofs

open Sys2Proof.Machine Sys2Proof.Safety

/-! ### Counts in the field of a register -/

theorem fld_setFld (w : Word) {lo width : Nat} (h : lo + width ≤ 32) (v : Nat) : fld (setFld w lo width v) lo width = v % 2 ^ width := by
  obtain ⟨n, hn⟩ := Nat.exists_eq_add_of_le h
  have hsplit : 2 ^ 32 = 2 ^ lo * (2 ^ width * 2 ^ n) := by rw [hn, Nat.pow_add, Nat.pow_add, Nat.mul_assoc]
  unfold setFld fld wordOfNat
  simp only [Nat.shiftRight_eq_div_pow, BitVec.toNat_ofNat, hsplit]
  have ha : 0 < 2 ^ lo := Nat.two_pow_pos _
  have hb : 0 < 2 ^ width := Nat.two_pow_pos _
  have hw : w.toNat < 2 ^ lo * (2 ^ width * 2 ^ n) := hsplit ▸ w.isLt
  generalize 2 ^ lo = a at *
  generalize 2 ^ width = b at *
  generalize 2 ^ n = c at *
  have hq : w.toNat / a < b * c := Nat.div_lt_of_lt_mul hw
  have hm : w.toNat / a / b < c := Nat.div_lt_of_lt_mul hq
  have hr : w.toNat % a < a := Nat.mod_lt _ ha
  have hv : v % b < b := Nat.mod_lt _ hb
  have hwa : w.toNat = a * (b * (w.toNat / a / b) + w.toNat / a % b) + w.toNat % a := by
    rw [Nat.div_add_mod, Nat.div_add_mod]
  have hnew : w.toNat - w.toNat / a % b * a + v % b * a = w.toNat % a + a * (b * (w.toNat / a / b) + v % b) := by
    generalize w.toNat / a % b = o at *
    generalize w.toNat / a / b = m at *
    rw [Nat.mul_add, Nat.mul_comm o a, Nat.mul_comm (v % b) a]
    rw [Nat.mul_add] at hwa
    omega
  have hlt : w.toNat % a + a * (b * (w.toNat / a / b) + v % b) < a * (b * c) := by
    have h1 : b * (w.toNat / a / b) + v % b + 1 ≤ b * c := by
      have := Nat.mul_le_mul_left b (Nat.succ_le_of_lt hm)
      rw [Nat.mul_succ] at this
      omega
    have h2 := Nat.mul_le_mul_left a h1
    rw [Nat.mul_succ] at h2
    omega
  rw [hnew, Nat.mod_eq_of_lt hlt, Nat.add_mul_div_left _ _ ha, Nat.div_eq_of_lt hr, Nat.zero_add, Nat.mul_add_mod, Nat.mod_mod]

theorem fld_incRegFld (d : Dev) (a : Nat) {lo width : Nat} (h : lo + width ≤ 32) :
    fld ((d.incRegFld a lo width).reg a) lo width = min (2 ^ width - 1) (fld (d.reg a) lo width + 1) := by
  have hb : 0 < 2 ^ width := Nat.two_pow_pos _
  unfold Dev.incRegFld Dev.setRegFld
  rw [reg_setReg_self, fld_setFld _ h, satNat_eq, Nat.mod_eq_of_lt (by omega)]

/-! ### One channel trips -/

theorem freeOn_held {d : Dev} {x : Hs} (h : x.limitLatch = true ∨ x.thermLatch = true ∨ x.retryPending = true) : freeOn d x = false := by
  unfold freeOn
  obtain h | h | h := h <;> rw [h] <;> simp

theorem settledAs_held (d : Dev) (k : Nat) {x : Hs} (fresh : Bool) (h : x.limitLatch = true ∨ x.thermLatch = true ∨ x.retryPending = true) :
    (settledAs d k x fresh).on = false := by
  change (wantsOn d k x && freeOn d x && d.drvHigh k) = false
  rw [freeOn_held h, Bool.and_false, Bool.false_and]

theorem hscnt_fixed {k : Nat} (hk : k < 32) : fixedReg (Adr.fldHscnt k) ∧ Adr.fldHscnt k ≠ Adr.fldFlags := by
  unfold Adr.fldHscnt Adr.fldFlags
  exact ⟨fixedReg_of (by omega) (by omega), by omega⟩

theorem reg_of_regs {d e : Dev} (h : e.regs = d.regs) (a : Nat) : e.reg a = d.reg a := by
  unfold Dev.reg
  rw [h]

theorem lead_lt (d : Dev) {h : Nat} (hh : h < 32) : d.lead h < 32 := by
  unfold Dev.lead
  split <;> omega

/-- What a record and a flag leave of the counts. -/
theorem count_told {d e : Dev} (h : Logs d e) (w : Word) {k : Nat} (hk : k < 32) :
    (e.fldFlag w).reg (Adr.fldHscnt k) = d.reg (Adr.fldHscnt k) := by
  obtain ⟨hf, hne⟩ := hscnt_fixed hk
  rw [Dev.fldFlag, reg_orReg_other _ _ hne, h.reg _ hf.1]

theorem flag_told (e : Dev) {w : Word} {i : Nat} (h : w.getLsbD i = true) : ((e.fldFlag w).reg Adr.fldFlags).getLsbD i = true := by
  rw [Dev.fldFlag, reg_orReg_self, BitVec.getLsbD_or, h, Bool.or_true]

/-- A trip that latches. -/
theorem latchTrip_outcome (d : Dev) {k : Nat} (hk : k < 32) : (d.latchTrip k).field.chan k =
      settledAs d k { d.field.chan k with limitLatch := true } false ∧
    ((d.latchTrip k).reg Adr.fldFlags).getLsbD 5 = true ∧ (d.latchTrip k).reg (Adr.fldHscnt k) = d.reg (Adr.fldHscnt k) := by
  let e : Dev := (d.setChan k { d.field.chan k with limitLatch := true }).hsSettle k false
  have hl : Logs e (e.eventRep 0x4010 (0x100 + k)) := (Logs.refl e).eventRep _ _ _
  refine ⟨(hl.chan k).trans (chan_set_settle d k _ false), flag_told _ rfl, (count_told hl _ hk).trans ?_⟩
  exact reg_of_regs (hsSettle_regs _ k false) _

/-- A deferred command that is applied. -/
theorem hsApply_outcome (d : Dev) (k : Nat) (want : Bool) :
    let x := d.field.chan k
    let z := (d.hsApply k want).field.chan k
    z.cmd = want ∧ z.deferred = none ∧ z.lastChange = some d.huskNow ∧
      (want = false → ((x.failsafe = true → d.hsFailsafe k ≠ 1) → z.on = false) ∧ z.retries = 0 ∧ z.limitLatch = false ∧
        z.thermLatch = (x.thermLatch && x.hot)) ∧
      (want = true → x.failsafe = false → z.on = (d.hsFree k && d.drvHigh k)) := by
  intro x z
  have hz : z = settledAs d k (commandedAs d x want) want := chan_set_settle d k _ want
  rw [hz]
  cases want with
  | false =>
    refine ⟨rfl, rfl, rfl, fun _ => ⟨fun hf => ?_, rfl, rfl, rfl⟩, nofun⟩
    change (wantsOn d k _ && _ && _) = false
    have hw : wantsOn d k (commandedAs d x false) = false := by
      unfold wantsOn
      change (if (x.failsafe && d.hsFailsafe k != 2) = true then _ else false) = false
      split
      next h =>
        obtain ⟨h, -⟩ := (Bool.and_eq_true ..).mp h
        exact beq_eq_false_iff_ne.mpr (hf h)
      next => rfl
    rw [hw]
    rfl
  | true =>
    refine ⟨rfl, rfl, rfl, nofun, fun _ hf => ?_⟩
    change (wantsOn d k (commandedAs d x true) && freeOn d x && d.drvHigh k) = _
    have hw : wantsOn d k (commandedAs d x true) = true := by
      unfold wantsOn
      change (if (x.failsafe && d.hsFailsafe k != 2) = true then _ else true) = true
      rw [hf]
      rfl
    rw [hw, Bool.true_and]
    rfl

/-- An open load or an external feed that is reported. -/
theorem hsReport_outcome (d : Dev) (k : Nat) (openLoad feed : Bool) :
    (d.hsReport k openLoad feed).field.chan k = { d.field.chan k with openLoad := openLoad, feed := feed } ∧
    ((openLoad = true ∧ (d.field.chan k).openLoad = false) ∨ (feed = true ∧ (d.field.chan k).feed = false) →
      ((d.hsReport k openLoad feed).reg Adr.fldFlags).getLsbD 8 = true) := by
  unfold Dev.hsReport
  extract_lets x d1 d2
  have hev (e : Dev) (c : Nat) : ((e.event c (0x100 + k)).fldFlag 0x100).field = e.field := ((Logs.refl e).event _ _ _).field
  have h2 : d2.field = d1.field ∧ ((openLoad && !x.openLoad) = true → (d2.reg Adr.fldFlags).getLsbD 8 = true) := by
    unfold d2
    split
    next => exact ⟨hev _ _, fun _ => flag_told _ rfl⟩
    next h => exact ⟨rfl, fun h' => absurd h' h⟩
  have h1 : d1.field.chan k = { x with openLoad := openLoad, feed := feed } := chan_setChan_self d k _
  split
  next => exact ⟨((congrArg (Field.chan · k) (hev _ _)).trans (congrArg (Field.chan · k) h2.1)).trans h1, fun _ => flag_told _ rfl⟩
  next hf =>
    refine ⟨(congrArg (Field.chan · k) h2.1).trans h1, fun h => h2.2 ?_⟩
    obtain ⟨ho, hx⟩ | ⟨ho, hx⟩ := h
    · rw [ho, hx]
      rfl
    · exact absurd (by rw [ho, hx]; rfl) hf

theorem hsReport_quiet (d : Dev) (k : Nat) : (d.hsReport k false (d.field.chan k).feed).recorder = d.recorder := by
  unfold Dev.hsReport
  extract_lets x d1 d2
  have h2 : d2 = d1 := if_neg nofun
  rw [if_neg (by cases x.feed <;> nofun), h2]
  rfl

theorem hsDeferredApply_exec {s : State} {h : Fin 32} {want : Bool} {t : Nat}
    (hd : (s.dev.field.chan (s.dev.lead h.val)).deferred = some want) (ht : (s.dev.field.chan (s.dev.lead h.val)).lastChange = some t) :
    exec (.hsDeferredApply h) s = if t + 20 ≤ s.dev.huskNow && !s.dev.field.roastHold then
      .next { s with dev := s.dev.hsApply (s.dev.lead h.val) want } else .next s := by
  show execHsDeferredApply h s = _
  unfold execHsDeferredApply
  dsimp only
  rw [hd, ht]

theorem hsDeferredApply_ignored {s : State} {h : Fin 32}
    (hn : (s.dev.field.chan (s.dev.lead h.val)).deferred = none ∨ (s.dev.field.chan (s.dev.lead h.val)).lastChange = none) :
    Ignored (.hsDeferredApply h) s := by
  show execHsDeferredApply h s = _
  unfold execHsDeferredApply
  dsimp only
  obtain hn | hn := hn
  · rw [hn]
  · rw [hn]
    cases (s.dev.field.chan (s.dev.lead h.val)).deferred <;> rfl

/-- The integral of a channel, with the evaluations that it has not taken yet. -/
theorem integral_map (fast : List (BitVec 16)) (ic n m : Nat) :
    ((fast.map (·.toNat)).drop n).foldl (fun acc i => acc + i * i - ic * ic) m =
      (fast.drop n).foldl (fun acc i => acc + i.toNat * i.toNat - ic * ic) m := by
  rw [← List.map_drop, List.foldl_map]

/-- The conditions of the on-state check. -/
theorem olChecks_iff (d : Dev) (k : Nat) : d.olChecks k = true ↔
    d.drivesPorts = true ∧ (d.huskReg (Adr.fldHscfg k)).getLsbD 6 = true ∧ (d.huskReg (Adr.fldHscfg k)).getLsbD 7 = false ∧
      ((d.field.chan k).on = true ∨ d.drvPin k ≠ none) ∧ (d.field.limitNow ||| d.field.limitPrev).getLsbD (k / 4) = false ∧
      1680 ≤ d.field.v24fHusk.toNat := by
  unfold Dev.olChecks Dev.olBlanked
  simp only [Bool.and_eq_true, Bool.or_eq_true, Bool.not_eq_true', Bool.or_eq_false_iff, decide_eq_false_iff_not, not_lt, and_assoc,
    Option.isSome_iff_ne_none, Machine.bit]

/-- A channel at its limit: the trip is counted, and its quad noted. -/
def limited (d : Dev) (k : Nat) : Dev := (d.countTrip k).modField fun f => { f with limitNow := putBit f.limitNow (k / 4) true }

/-- A limit trip that is retried. -/
def mayRetry (d : Dev) (k : Nat) : Bool :=
  !d.ganged k && Machine.bit (d.huskReg (Adr.fldHscfg k)) 2 && (d.drvPin k).isNone && !((d.field.chan k).failsafe && d.hsFailsafe k == 1) &&
    (d.field.chan k).retries < 8 && d.huskNow ≤ (d.field.chan k).onSince + 100

/-- The module after a limit trip. -/
def limitTripped (d : Dev) (k : Nat) : Dev :=
  if mayRetry d k then ((limited d k).setChan k { d.field.chan k with retryPending := true }).hsSettle k false
  else (limited d k).latchTrip k

theorem hsLimitTrip_exec {s : State} {h : Fin 32} (hx : (s.dev.field.chan (s.dev.lead h.val)).on = true) :
    exec (.hsLimitTrip h) s = .next { s with dev := limitTripped s.dev (s.dev.lead h.val) } :=
  if_neg (by rw [hx]; nofun)

theorem count_countTrip (d : Dev) (k : Nat) : fld ((d.countTrip k).reg (Adr.fldHscnt k)) 0 16 =
    min 0xFFFF (fld (d.reg (Adr.fldHscnt k)) 0 16 + 1) := fld_incRegFld d _ (by decide)

/-- A limit trip that is retried leaves the channel off, with its retry due. -/
theorem limitTrip_retried (d : Dev) (k : Nat) :
    let e := ((limited d k).setChan k { d.field.chan k with retryPending := true }).hsSettle k false
    (e.field.chan k).on = false ∧ (e.field.chan k).retryPending = true ∧ (e.field.chan k).limitLatch = (d.field.chan k).limitLatch ∧
      fld (e.reg (Adr.fldHscnt k)) 0 16 = min 0xFFFF (fld (d.reg (Adr.fldHscnt k)) 0 16 + 1) := by
  intro e
  have hz : e.field.chan k = settledAs (limited d k) k { d.field.chan k with retryPending := true } false := chan_set_settle _ k _ false
  have hreg : e.reg (Adr.fldHscnt k) = (d.countTrip k).reg (Adr.fldHscnt k) := reg_of_regs (hsSettle_regs _ k false) _
  rw [hz, hreg]
  exact ⟨settledAs_held _ _ _ (.inr (.inr rfl)), rfl, rfl, count_countTrip d k⟩

/-- A trip that is counted and latches. -/
theorem counted_latched {d e : Dev} {k : Nat} (hk : k < 32) (he : e.reg (Adr.fldHscnt k) = (d.countTrip k).reg (Adr.fldHscnt k)) :
    ((e.latchTrip k).field.chan k).on = false ∧ ((e.latchTrip k).field.chan k).limitLatch = true ∧
      ((e.latchTrip k).reg Adr.fldFlags).getLsbD 5 = true ∧
      fld ((e.latchTrip k).reg (Adr.fldHscnt k)) 0 16 = min 0xFFFF (fld (d.reg (Adr.fldHscnt k)) 0 16 + 1) := by
  obtain ⟨hz, hf, hreg⟩ := latchTrip_outcome e hk
  rw [hz, hreg, he]
  exact ⟨settledAs_held _ _ _ (.inl rfl), rfl, hf, count_countTrip d k⟩

theorem curve_latchTrip (d : Dev) {k : Nat} (hk : k < 32) : ((d.latchTrip k).field.chan k).curve = (d.field.chan k).curve := by
  rw [(latchTrip_outcome d hk).1]
  rfl

/-- A channel as its thermal latch is set. -/
def overheated (x : Hs) : Hs := { x with thermLatch := true, hot := true, waitCool := false, retryPending := false }

/-- The module after a thermal trip. -/
def thermalTripped (d : Dev) (k : Nat) : Dev :=
  ((((d.setChan k (overheated (d.field.chan k))).hsSettle k false).incRegFld (Adr.fldHscnt k) 16 16).event 0x4012 (0x100 + k)).fldFlag 0x80

theorem hsThermalTrip_exec {s : State} {h : Fin 32} (hx : (s.dev.field.chan (s.dev.lead h.val)).on = true ∨
    (s.dev.field.chan (s.dev.lead h.val)).retryPending = true) :
    exec (.hsThermalTrip h) s = .next { s with dev := thermalTripped s.dev (s.dev.lead h.val) } :=
  if_pos ((Bool.or_eq_true ..).mpr hx)

/-- A thermal trip latches, counts and waits for cooling. -/
theorem thermalTripped_outcome (d : Dev) {k : Nat} (hk : k < 32) :
    (thermalTripped d k).field.chan k = settledAs d k (overheated (d.field.chan k)) false ∧
      ((thermalTripped d k).reg Adr.fldFlags).getLsbD 7 = true ∧
      fld ((thermalTripped d k).reg (Adr.fldHscnt k)) 16 16 = min 0xFFFF (fld (d.reg (Adr.fldHscnt k)) 16 16 + 1) := by
  let e : Dev := ((d.setChan k (overheated (d.field.chan k))).hsSettle k false).incRegFld (Adr.fldHscnt k) 16 16
  have hlog : Logs e (e.event 0x4012 (0x100 + k)) := (Logs.refl e).event _ _ _
  refine ⟨(hlog.chan k).trans (chan_set_settle d k _ false), flag_told _ rfl, ?_⟩
  unfold thermalTripped
  rw [count_told hlog _ hk, fld_incRegFld _ _ (by decide), reg_of_regs (hsSettle_regs _ k false)]
  rfl

/-- A channel whose retry is made. -/
def retried (x : Hs) : Hs := { x with retryPending := false, retries := x.retries + 1 }

/-- The module after a retry. -/
def retriedDev (d : Dev) (k : Nat) : Dev :=
  (((d.setChan k (retried (d.field.chan k))).hsSettle k false).eventRep 0x4011 (0x100 + k)).fldFlag 0x40

theorem retriedDev_outcome (d : Dev) (k : Nat) : (retriedDev d k).field.chan k = settledAs d k (retried (d.field.chan k)) false ∧
    ((retriedDev d k).reg Adr.fldFlags).getLsbD 6 = true := by
  let e : Dev := (d.setChan k (retried (d.field.chan k))).hsSettle k false
  have hlog : Logs e (e.eventRep 0x4011 (0x100 + k)) := (Logs.refl e).eventRep _ _ _
  exact ⟨(hlog.chan k).trans (chan_set_settle d k _ false), flag_told _ rfl⟩

/-- A channel that has cooled. -/
def cooled (x : Hs) (ends : Bool) : Hs := { x with hot := false, thermLatch := !ends, waitCool := x.waitCool && !ends }

/-- The module after a channel has cooled. -/
def cooledDev (d : Dev) (k : Nat) (ends : Bool) : Dev :=
  if ends then (d.setChan k (cooled (d.field.chan k) ends)).hsSettle k true else d.setChan k (cooled (d.field.chan k) ends)

theorem cooledDev_outcome (d : Dev) (k : Nat) (ends : Bool) :
    ((cooledDev d k ends).field.chan k).hot = false ∧ ((cooledDev d k ends).field.chan k).thermLatch = !ends := by
  unfold cooledDev
  cases ends
  · rw [if_neg nofun, chan_setChan_self]
    exact ⟨rfl, rfl⟩
  · rw [if_pos rfl, chan_set_settle]
    exact ⟨rfl, rfl⟩

/-- A curve evaluation: the integral takes the currents, and the channel trips where it has reached K. -/
def curveTripped (d : Dev) (k : Nat) (fast : List (BitVec 16)) : Dev :=
  let e := d.hsIntegrate k (fast.map (·.toNat))
  if e.curveReached k then (e.countTrip k).latchTrip k else e

/-- The currents that an integral takes. -/
theorem hsIntegrate_chan (d : Dev) (k : Nat) (fast : List (BitVec 16)) :
    (d.hsIntegrate k (fast.map (·.toNat))).field.chan k = { d.field.chan k with
      curve := (fast.drop (d.field.chan k).curveTaken).foldl (fun acc i => acc + i.toNat * i.toNat -
        curveIc (d.hsWire k) (d.ganged k) * curveIc (d.hsWire k) (d.ganged k)) (d.field.chan k).curve,
      curveTaken := Nat.max (d.field.chan k).curveTaken fast.length } := by
  unfold Dev.hsIntegrate
  extract_lets ic x
  rw [chan_setChan_self, integral_map, List.length_map]

/-- Settles O39: each protection by its own outcome on the channel that stands for the one named. -/
theorem fieldChannels : Obligations.FieldChannels := by
  intro s h q above3v5 above8v fast d l x c count retry flag judged checked ic integral curve
  have hl : l < 32 := lead_lt d h.isLt
  have hjudged : d.olChecks l = true ↔ judged := olChecks_iff d l
  have hchecked : (d.drivesPorts && Machine.bit c 6 && Machine.bit c 7 && !x.on && (d.drvPin l).isNone && decide (1680 ≤ d.field.v24fHusk.toNat)) = true ↔
      checked := by
    simp only [Bool.and_eq_true, Bool.not_eq_true', decide_eq_true_eq, and_assoc, Option.isNone_iff_eq_none, Machine.bit, checked]
  have hretry : mayRetry d l = true ↔ retry := by
    simp only [mayRetry, Bool.and_eq_true, Bool.not_eq_true', decide_eq_true_eq, and_assoc, Option.isNone_iff_eq_none, Machine.bit, retry,
      Bool.and_eq_false_imp, beq_eq_false_iff_ne]
    exact Iff.rfl
  let e : Dev := d.hsIntegrate l (fast.map (·.toNat))
  have hint : e.field.chan l = { x with curve := integral, curveTaken := max x.curveTaken fast.length } := hsIntegrate_chan d l fast
  have hreach : e.curveReached l = true ↔ curveK (fld c 0 2) ≤ integral := by
    rw [Dev.curveReached, decide_eq_true_iff, hint]
    exact Iff.rfl
  refine ⟨fun want t hd ht => ⟨fun hn hh => ?_, fun hn => ?_⟩, hsDeferredApply_ignored, fun hx hr => ?_, fun hx hr => ?_, fun hx hk => ?_,
    fun hx hk => ?_, fun hx => ?_, fun hx hp => ?_, fun hp => ?_, fun hn => ?_, fun hn => ?_, fun hn => ?_, fun hn => ?_, fun hn => ?_,
    fun hn => ?_, fun hx => ?_, fun hp => ?_, fun ht hh => ?_, fun hr hn => ?_, fun hj ho => ?_, fun hj ho hx => ?_, fun hc => ?_,
    fun o ho hon => ?_⟩
  · refine answers_next ((hsDeferredApply_exec hd ht).trans (if_pos ?_)) (hsApply_outcome d l want)
    rw [show s.dev.field.roastHold = false from hh, decide_eq_true (show t + 20 ≤ s.dev.huskNow from hn)]
    rfl
  · refine (hsDeferredApply_exec hd ht).trans (if_neg fun e => ?_)
    obtain ⟨e1, e2⟩ := (Bool.and_eq_true ..).mp e
    exact hn.elim (fun hn => Nat.not_le.mpr hn (of_decide_eq_true e1)) fun hn => by
      rw [show s.dev.field.roastHold = true from hn] at e2
      nomatch e2
  · rw [← hretry] at hr
    refine answers_next (hsLimitTrip_exec hx) ?_
    rw [limitTripped, if_pos hr]
    exact limitTrip_retried d l
  · rw [← hretry] at hr
    refine answers_next (hsLimitTrip_exec hx) ?_
    rw [limitTripped, if_neg hr]
    exact counted_latched hl rfl
  · refine answers_next (e := curveTripped d l fast) (if_pos hx) ?_
    rw [show curveTripped d l fast = (e.countTrip l).latchTrip l from if_pos (hreach.mpr hk)]
    obtain ⟨hz, -, -⟩ := latchTrip_outcome (e.countTrip l) hl
    refine ⟨?_, counted_latched hl rfl⟩
    rw [hz]
    exact congrArg Hs.curve hint
  · refine answers_next (e := curveTripped d l fast) (if_pos hx) ?_
    rw [show curveTripped d l fast = e from if_neg fun h => Nat.not_le.mpr hk (hreach.mp h)]
    exact ⟨hint, rfl⟩
  · exact ⟨if_pos (by rw [show (s.dev.field.chan _).on = false from hx]; rfl), if_neg (Bool.eq_false_iff.mp hx)⟩
  · exact if_neg (by rw [show (s.dev.field.chan _).on = false from hx, show (s.dev.field.chan _).retryPending = false from hp]; nofun)
  · exact if_neg (Bool.eq_false_iff.mp hp)
  · refine if_neg fun e => ?_
    obtain ⟨e1, e2⟩ := (Bool.and_eq_true ..).mp e
    exact hn.elim (fun hn => Bool.false_ne_true (hn.symm.trans e1)) fun hn => Bool.false_ne_true (hn.symm.trans e2)
  · refine if_neg fun e => ?_
    obtain ⟨e1, e2⟩ := (Bool.and_eq_true ..).mp e
    exact hn.elim (fun hn => Bool.false_ne_true (hn.symm.trans e1)) fun hn => Nat.not_le.mpr hn (of_decide_eq_true e2)
  · refine if_neg fun e => ?_
    obtain ⟨e1, e2⟩ := (Bool.and_eq_true ..).mp e
    exact hn.elim (fun hn => hn (hjudged.mp e1)) fun hn => Nat.not_le.mpr hn (of_decide_eq_true e2)
  · refine if_neg fun e => ?_
    obtain ⟨e, e3⟩ := (Bool.and_eq_true ..).mp e
    obtain ⟨e1, e2⟩ := (Bool.and_eq_true ..).mp e
    obtain hn | hn | hn := hn
    · exact hn (hjudged.mp e1)
    · exact Nat.not_le.mpr hn (of_decide_eq_true e2)
    · exact Bool.false_ne_true (hn.symm.trans e3)
  · exact if_neg fun e => hn (hchecked.mp e)
  · exact if_neg (Bool.eq_false_iff.mp hn)
  · obtain ⟨hz, hf, hc⟩ := thermalTripped_outcome d hl
    refine answers_next (hsThermalTrip_exec hx) ?_
    intro z
    rw [show z = _ from hz]
    exact ⟨settledAs_held _ _ _ (.inr (.inl rfl)), rfl, rfl, rfl, hf, hc⟩
  · obtain ⟨hz, hf⟩ := retriedDev_outcome d l
    refine answers_next (e := retriedDev d l) (if_pos hp) ?_
    intro z
    rw [show z = _ from hz]
    refine ⟨rfl, rfl, hf, ?_⟩
    change (wantsOn d l x && (d.drivesPorts && !x.limitLatch && !x.thermLatch && !false && !d.field.uv && !d.field.roastHold && d.field.powered) && _) = _
    rw [Bool.not_false, Bool.and_true]
    rfl
  · exact answers_next (e := cooledDev d l (x.waitCool && (x.cmd || !d.hsWanted l))) (if_pos ((Bool.and_eq_true ..).mpr ⟨ht, hh⟩))
      (cooledDev_outcome d l _)
  · refine answers_next (if_pos ((Bool.and_eq_true ..).mpr ⟨hr, decide_eq_true hn⟩)) ⟨?_, fun k hk hne => ?_, rfl⟩
    · exact (getLsbD_putBit _ q.isLt q.isLt false).trans (if_pos rfl)
    · exact (getLsbD_putBit _ q.isLt hk false).trans (if_neg hne)
  · obtain ⟨hz, hf⟩ := hsReport_outcome d l true x.feed
    exact answers_next (if_pos ((Bool.and_eq_true ..).mpr ⟨hjudged.mpr hj, decide_eq_true ho⟩)) ⟨hz, fun hx => hf (.inl ⟨rfl, hx⟩)⟩
  · obtain ⟨hz, -⟩ := hsReport_outcome d l false x.feed
    have hc : (d.olChecks l && decide (51 ≤ x.olHigh) && x.openLoad) = true := by
      rw [hjudged.mpr hj, decide_eq_true ho, hx]
      rfl
    exact answers_next (if_pos hc) ⟨hz, hsReport_quiet d l⟩
  · exact answers_next (if_pos (hchecked.mpr hc)) (hsReport_outcome d l above3v5 above8v)
  · subst ho
    refine answers_next (if_pos hon) ⟨smGet_smPut_self _ _ _ _, fun k hk => smGet_smPut_other _ _ _ _ _ hk⟩

end Sys2Proof.Proofs
end

section
/-! O40: pair frames, the claim of the role, losses and disagreements, and PAIR_CFG (R294–R311). -/

namespace Sys2Proof.Proofs

open Sys2Proof.Machine Sys2Proof.Safety

/-- What a pair code leaves: the pair unit, and its code in PAIR_STATUS. -/
theorem pairEvent_shown (d : Dev) {code : Nat} {flag : Word} (hc : code < 2 ^ 16) :
    (d.pairEvent code flag).pair = d.pair ∧ fld ((d.pairEvent code flag).reg Adr.pairStatus) 16 16 = code := by
  unfold Dev.pairEvent
  refine ⟨((Logs.refl d).event code 0xFFFF []).pair, ?_⟩
  rw [reg_orReg_other _ _ (by decide), Dev.setRegFld, reg_setReg_self, fld_setFld _ (by decide), Nat.mod_eq_of_lt hc]

/-- A pair code sets its flag. -/
theorem pairEvent_outcome (d : Dev) {code i : Nat} {flag : Word} (hc : code < 2 ^ 16) (hf : flag.getLsbD i = true) :
    (d.pairEvent code flag).pair = d.pair ∧ fld ((d.pairEvent code flag).reg Adr.pairStatus) 16 16 = code ∧
      ((d.pairEvent code flag).reg Adr.pairFlags).getLsbD i = true := by
  obtain ⟨hp, hs⟩ := pairEvent_shown d (flag := flag) hc
  refine ⟨hp, hs, ?_⟩
  unfold Dev.pairEvent
  rw [reg_orReg_self, BitVec.getLsbD_or, hf, Bool.or_true]

/-- The age by which a swap is due: that of the standby, here or at the partner. -/
def swapAge (p : PairUnit) : Nat :=
  if p.role == .standby then p.actAge.toNat else if p.role == .active then p.partnerActAge.toNat else 0

theorem swapAge_none {p : PairUnit} (hs : p.role ≠ .standby) (ha : p.role ≠ .active) : swapAge p = 0 := by
  unfold swapAge
  rw [if_neg (mt beq_iff_eq.mp hs), if_neg (mt beq_iff_eq.mp ha)]

theorem swapAge_eq {p : PairUnit} (h : p.role = .standby ∨ p.role = .active) :
    (if p.role = .standby then p.actAge.toNat else p.partnerActAge.toNat) = swapAge p := by
  unfold swapAge
  obtain h | h := h <;> rw [h] <;> rfl

theorem swapAge_le (p : PairUnit) : swapAge p ≤ if p.role = .standby then p.actAge.toNat else p.partnerActAge.toNat := by
  unfold swapAge
  cases p.role with
  | standby => exact Nat.le_refl _
  | active => exact Nat.le_refl _
  | _ => exact Nat.zero_le _

/-- A pair frame of the right TYPE, length and CRC. -/
theorem pairGood_iff (bytes : List Byte) (n : Nat) (hn : n = if leAt bytes 0 1 = 0xA7 then 6964 else 64) :
    pairGood bytes = if (leAt bytes 0 1 = 0xA7 ∨ leAt bytes 0 1 = 0xA8) ∧ bytes.length = n ∧
      leAt bytes (n - 4) 4 = (crc32c (bytes.take (n - 4))).toNat then
        some { mirror := decide (leAt bytes 0 1 = 0xA7), bytes := bytes } else none := by
  subst hn
  unfold pairGood
  extract_lets mirror n
  have hn : n = if leAt bytes 0 1 = 0xA7 then 6964 else 64 := rfl
  rw [← hn]
  refine if_congr ?_ rfl rfl
  simp only [Bool.and_eq_true, Bool.or_eq_true, decide_eq_true_eq, word_leAt_eq, mirror, and_assoc]

/-- Settles O40: each event against its condition. -/
theorem pairEvents : Obligations.PairEvents := by
  intro s bytes v d p pair n intact shown age limit
  have hgood : pairGood bytes = if intact then some { mirror := decide (leAt bytes 0 1 = 0xA7), bytes := bytes } else none :=
    pairGood_iff bytes n rfl
  have hreg (e : Dev) (g : PairUnit → PairUnit) (a : Nat) : (e.modPair g).reg a = e.reg a := rfl
  have hpair (e : Dev) (g : PairUnit → PairUnit) : (e.modPair g).pair = g e.pair := rfl
  refine ⟨fun hi hr ho => ?_, fun hn => ?_, fun ho hr hc => ?_, fun hn => ?_, fun hn => ?_, fun hn => ?_, fun hn => ?_, rfl, fun hr hl hd => ?_,
    fun hg hd => ?_, fun hr hl ha hd => ?_, fun hp => ?_, fun hp => ?_⟩
  · show execPairFrameReceived bytes s = _
    unfold execPairFrameReceived
    rw [hgood, if_pos hi]
    refine if_neg fun h => ?_
    obtain h | h := (Bool.or_eq_true ..).mp h
    · exact hr (beq_iff_eq.mp h)
    · rw [show s.dev.operating = true from ho] at h
      nomatch h
  · show execPairFrameReceived bytes s = _
    unfold execPairFrameReceived
    rw [hgood]
    split
    next x hx =>
      refine if_pos ?_
      obtain hn | hn | hn := hn
      · rw [if_neg hn] at hx
        nomatch hx
      · rw [show s.dev.pair.role = .unpaired from hn]
        rfl
      · rw [show s.dev.operating = false from hn]
        exact Bool.or_true _
    next => rfl
  · refine answers_next (if_pos ?_) ⟨rfl, rfl, rfl, rfl⟩
    rw [show s.dev.operating = true from ho, show s.dev.pair.role = .seek from hr]
    exact decide_eq_true hc
  · refine if_neg fun h => ?_
    obtain ⟨h, hc⟩ := (Bool.and_eq_true ..).mp h
    obtain ⟨ho, hr⟩ := (Bool.and_eq_true ..).mp h
    obtain hn | hn | hn := hn
    · exact Bool.false_ne_true (hn.symm.trans ho)
    · exact hn (beq_iff_eq.mp hr)
    · exact Nat.not_le.mpr hn (of_decide_eq_true hc)
  · refine if_neg fun h => ?_
    obtain ⟨h, hd⟩ := (Bool.and_eq_true ..).mp h
    obtain ⟨hr, hl⟩ := (Bool.and_eq_true ..).mp h
    obtain hn | hn | hn := hn
    · exact bne_iff_ne.mp hr hn
    · exact Nat.not_le.mpr hn (of_decide_eq_true hl)
    · rw [show s.dev.pair.linkDown = true from hn] at hd
      nomatch hd
  · refine if_neg fun h => ?_
    obtain ⟨hg, hd⟩ := (Bool.and_eq_true ..).mp h
    obtain hn | hn := hn
    · exact Nat.not_le.mpr hn (of_decide_eq_true hg)
    · rw [show s.dev.pair.disagreed = true from hn] at hd
      nomatch hd
  · refine if_neg fun h => ?_
    obtain ⟨h, ha⟩ := (Bool.and_eq_true ..).mp h
    obtain ⟨hl, hd⟩ := (Bool.and_eq_true ..).mp h
    have hl : limit ≠ 0 := of_decide_eq_true hl
    have ha : limit ≤ swapAge p := of_decide_eq_true ha
    obtain hn | hn | hn | hn := hn
    · exact hl (Nat.le_zero.mp (ha.trans_eq (swapAge_none hn.1 hn.2)))
    · exact hl hn
    · exact Nat.not_le.mpr hn (ha.trans (swapAge_le p))
    · rw [show s.dev.pair.swapDue = true from hn] at hd
      nomatch hd
  · obtain ⟨hp, hs, hf⟩ := pairEvent_outcome d (code := 0x8001) (i := 0) (flag := 1) (by decide) rfl
    refine answers_next (if_pos ?_) ⟨?_, (congrArg (fld · 16 16) (hreg _ _ _)).trans hs, (congrArg (BitVec.getLsbD · 0) (hreg _ _ _)).trans hf⟩
    · rw [bne_iff_ne.mpr hr, decide_eq_true hl, hd]
      rfl
    · rw [hpair, hp]
  · obtain ⟨hp, hs, hf⟩ := pairEvent_outcome d (code := 0x8003) (i := 2) (flag := 4) (by decide) rfl
    refine answers_next (if_pos ?_) ⟨?_, (congrArg (fld · 16 16) (hreg _ _ _)).trans hs, (congrArg (BitVec.getLsbD · 2) (hreg _ _ _)).trans hf⟩
    · rw [decide_eq_true (show 3 ≤ s.dev.pair.disagree from hg), show s.dev.pair.disagreed = false from hd]
      rfl
    · rw [hpair, hp]
  · have hev : (d.pairEvent 0x8030 0).pair = d.pair ∧ fld ((d.pairEvent 0x8030 0).reg Adr.pairStatus) 16 16 = 0x8030 := pairEvent_shown d (by decide)
    refine answers_next (if_pos ?_) ⟨?_, (congrArg (fld · 16 16) (hreg _ _ _)).trans hev.2⟩
    · have hage : limit ≤ swapAge p := ha.trans_eq (swapAge_eq hr)
      refine (Bool.and_eq_true ..).mpr ⟨?_, decide_eq_true hage⟩
      rw [decide_eq_true (show 60 * fld (s.dev.reg Adr.pairCfg) 8 16 ≠ 0 from hl), show s.dev.pair.swapDue = false from hd]
      rfl
    · rw [hpair, hev.1]
  · have hc : s.dev.pairCfgWrite v = s.dev.setReg Adr.pairCfg (v &&& 0xFFFF03) := if_pos (beq_iff_eq.mpr hp)
    show Host.Outcome.next { s with dev := s.dev.pairCfgWrite v } = _
    rw [hc]
  · have hc : s.dev.pairCfgWrite v = s.dev := if_neg (mt beq_iff_eq.mp hp)
    show Host.Outcome.next { s with dev := s.dev.pairCfgWrite v } = _
    rw [hc]

end Sys2Proof.Proofs
end

section
/-! O41: take-over and commanded swap (R300, R307–R309). -/

namespace Sys2Proof.Proofs

open Sys2Proof.Machine Sys2Proof.Safety

/-- The module moves on without its pair unit, its PAIR registers, and the raw positions of its axes. -/
structure Adopted (d e : Dev) : Prop where
  pair : e.pair = d.pair
  reg : ∀ a, 0x270000 ≤ a → a < 0x280000 → e.reg a = d.reg a
  raw : ∀ n, (e.axis n).motion.raw = (d.axis n).motion.raw

theorem fixedReg_pair {a : Nat} (h : 0x270000 ≤ a) (h' : a < 0x280000) : fixedReg a := by
  refine ⟨fun hm => ?_, fun c hc => by unfold Adr.sfEvdrop Adr.sfFlags; omega⟩
  simp only [logRegs, List.mem_cons, List.not_mem_nil, or_false, Adr.recFlags, Adr.trcFlags, Adr.trcDrop] at hm
  omega

section Adopted

variable {d e f : Dev}

theorem Adopted.refl (d : Dev) : Adopted d d := ⟨rfl, fun _ _ _ => rfl, fun _ => rfl⟩

theorem Adopted.trans (h : Adopted d e) (g : Adopted e f) : Adopted d f :=
  ⟨g.pair.trans h.pair, fun a ha hb => (g.reg a ha hb).trans (h.reg a ha hb), fun n => (g.raw n).trans (h.raw n)⟩

theorem Adopted.ite {p : Prop} [Decidable p] (h : Adopted d e) (g : Adopted d f) : Adopted d (if p then e else f) := by
  split
  · exact h
  · exact g

theorem Adopted.foldl {α : Type} {l : List α} {g : Dev → α → Dev} (hg : ∀ e a, Adopted d e → Adopted d (g e a)) (h : Adopted d e) :
    Adopted d (l.foldl g e) :=
  List.foldlRecOn (motive := fun e => Adopted d e) l g h fun e he a _ => hg e a he

theorem Adopted.stored (h : Adopted d e) (g : Stored e f) : Adopted d f :=
  h.trans ⟨g.pair, fun a ha hb => g.reg a (fixedReg_pair ha hb), fun n => by rw [g.axis]⟩

theorem Adopted.logs (h : Adopted d e) (g : Logs e f) : Adopted d f := h.stored ((Stored.refl e).logs g)

theorem Adopted.setAxis (h : Adopted d e) {n : Nat} {a : Axis} (ha : a.motion.raw = (e.axis n).motion.raw) : Adopted d (e.setAxis n a) := by
  refine h.trans ⟨rfl, fun _ _ _ => rfl, fun k => ?_⟩
  by_cases hk : k = n
  · rw [hk, axis_setAxis_self, ha]
  · rw [axis_setAxis_other _ _ hk]

theorem Adopted.modPort (h : Adopted d e) (p : Nat) (f : Port → Port) : Adopted d (e.modPort p f) := h.trans ⟨rfl, fun _ _ _ => rfl, fun _ => rfl⟩

theorem Adopted.modIsland (h : Adopted d e) (g : Island → Island) : Adopted d (e.modIsland g) := h.trans ⟨rfl, fun _ _ _ => rfl, fun _ => rfl⟩

theorem Adopted.modRecorder (h : Adopted d e) (r : Recorder) : Adopted d { e with recorder := r } := h.trans ⟨rfl, fun _ _ _ => rfl, fun _ => rfl⟩

theorem Adopted.setTask (h : Adopted d e) (c t : Nat) (x : Task) : Adopted d (e.setTask c t x) := h.trans ⟨rfl, fun _ _ _ => rfl, fun _ => rfl⟩

theorem raw_enterOff (a : Axis) : a.enterOff.motion.raw = a.motion.raw := by
  unfold Axis.enterOff
  extract_lets m phase a'
  split <;> rfl

theorem Adopted.axisOff (h : Adopted d e) (n : Nat) : Adopted d (e.axisOff n) := h.setAxis (raw_enterOff _)

theorem Adopted.discardOpen (h : Adopted d e) (p n : Nat) : Adopted d (e.discardOpen p n) := h.trans ⟨rfl, fun _ _ _ => rfl, fun _ => rfl⟩

theorem Adopted.beginLink (h : Adopted d e) (p : Nat) : Adopted d (e.beginLink p) := by
  unfold Dev.beginLink
  split
  · exact h
  · extract_lets d1 l d2 d3
    have h1 : Adopted d d1 := h.foldl fun _ n g => g.axisOff n
    have h2 : Adopted d d2 := h1.foldl fun _ a g => g.setAxis rfl
    have h3 : Adopted d d3 := h2.foldl fun _ q g => g.discardOpen p q.1
    exact h3.modPort p _

theorem Adopted.loadDoor (h : Adopted d e) (im : Image) (x : Nat) (y : DoorPl) (r : Bool) : Adopted d (e.loadDoor im x y r) := by
  unfold Dev.loadDoor
  extract_lets d1 w
  have h1 : Adopted d d1 := h.foldl fun _ q g => (g.setTask _ _ _).setTask _ _ _
  exact h1.trans ⟨rfl, fun _ _ _ => rfl, fun _ => rfl⟩

theorem Stored.sigInit (h : Stored d e) (n : Nat) (v : Word) : Stored d (e.sigInit n v) := by
  unfold Dev.sigInit
  split
  · exact (h.modHidden _).sigStore _ _ _ _ _
  · split
    · extract_lets old d1 d2
      have h1 : Stored d d1 := (h.modHidden _).setSig n _
      have h2 : Stored d d2 := .ite (h1.logs ((Logs.refl _).countEvent _ _ _)) h1
      exact h2.sched (((Sched.refl _).logs ((Logs.refl _).traceWrite _ _ _ _)).fireWrite n _)
    · exact h

theorem Adopted.restartDoor (h : Adopted d e) (x : Nat) : Adopted d (e.restartDoor x) := by
  unfold Dev.restartDoor
  split
  · extract_lets k cur d1 d2
    have h1 : Adopted d d1 := h.trans ⟨rfl, fun _ _ _ => rfl, fun _ => rfl⟩
    have h2 : Adopted d d2 := h1.loadDoor _ _ _ _
    exact h2.foldl fun e p g => g.stored ((Stored.refl e).sigInit _ _)
  · exact h

theorem Adopted.setReg (h : Adopted d e) {a : Nat} (ha : a < 0x270000) (w : Word) : Adopted d (e.setReg a w) :=
  h.trans ⟨rfl, fun b hb _ => reg_setReg_other _ _ (by omega), fun _ => rfl⟩

theorem Adopted.showState (h : Adopted d e) {n : Nat} (hn : n < 512) : Adopted d (e.showState n) :=
  (h.stored ((Stored.refl e).devSig _ _ _ _)).setReg (by unfold Adr.axState; omega) _

theorem Adopted.setSafe (h : Adopted d e) (n : Nat) (x : AxSafe) : Adopted d (e.setSafe n x) := h.trans ⟨rfl, fun _ _ _ => rfl, fun _ => rfl⟩

/-- An axis adopted differs from one whose position alone is replaced in nothing that matters here. -/
theorem adoptAxis_outcome (d : Dev) {n : Nat} (hn : n < 512) : ∃ a : Axis, a.motion.raw = (smGet {} d.pair.axes n : MirrorAxis).raw ∧
    Adopted (d.setAxis n a) (d.adoptAxis n) := by
  unfold Dev.adoptAxis
  extract_lets c st keep a old m live l d1 d2 y st'
  refine ⟨{ a with motion := m, live := l }, rfl, ?_⟩
  have h1 : Adopted (d.setAxis n { a with motion := m, live := l }) d1 := (Adopted.refl _).showState hn
  have h2 : Adopted (d.setAxis n { a with motion := m, live := l }) d2 := h1.stored (((Stored.refl d1).devSig _ _ _ _).devSig _ _ _ _)
  exact (h2.setSafe n _).stored ((Stored.refl _).showSafe n)

/-- Every axis of a list adopted. -/
theorem adoptAxes_outcome (l : List Nat) (d : Dev) (hl : ∀ n ∈ l, n < 512) :
    let e := l.foldl (fun d n => d.adoptAxis n) d
    e.pair = d.pair ∧ (∀ a, 0x270000 ≤ a → a < 0x280000 → e.reg a = d.reg a) ∧
      ∀ n, n ∈ l ∨ (d.axis n).motion.raw = (smGet {} d.pair.axes n : MirrorAxis).raw →
        (e.axis n).motion.raw = (smGet {} d.pair.axes n : MirrorAxis).raw := by
  induction l generalizing d with
  | nil => exact ⟨rfl, fun _ _ _ => rfl, fun n h => h.resolve_left List.not_mem_nil⟩
  | cons k l ih =>
    obtain ⟨a, ha, h⟩ := adoptAxis_outcome d (hl k List.mem_cons_self)
    obtain ⟨hp, hr, hx⟩ := ih (d.adoptAxis k) fun n hn => hl n (List.mem_cons_of_mem _ hn)
    have hpair : (d.adoptAxis k).pair = d.pair := h.pair
    refine ⟨hp.trans hpair, fun b hb hb' => (hr b hb hb').trans (h.reg b hb hb'), fun n hn => ?_⟩
    rw [hpair] at hx
    refine hx n ?_
    rw [h.raw]
    by_cases hk : n = k
    · rw [hk, axis_setAxis_self]
      exact .inr ha
    · rw [axis_setAxis_other _ _ hk]
      exact hn.imp_left fun hn => (List.mem_cons.mp hn).resolve_left hk

end Adopted

/-! ### The configured axes -/

theorem axes'_lt {d : Dev} {n : Nat} (h : n ∈ d.axes') : n < 512 := by
  unfold Dev.axes' at h
  obtain ⟨r, -, hr⟩ := List.mem_filterMap.mp h
  split at hr
  next hc =>
    simp only [Bool.and_eq_true, decide_eq_true_eq] at hc
    have hn := Option.some.inj hr
    omega
  next => nomatch hr

theorem mem_smPut_of_mem {α : Type} {m : SMap α} {p : Nat × α} (hm : p ∈ m) {a : Nat} (w : α) (h : p.1 ≠ a) : p ∈ smPut m a w := by
  induction m with
  | nil => exact absurd hm List.not_mem_nil
  | cons q m ih =>
    obtain ⟨k, v⟩ := q
    change p ∈ if a < k then (a, w) :: (k, v) :: m else if a = k then (a, w) :: m else (k, v) :: smPut m a w
    split
    · exact List.mem_cons_of_mem _ hm
    · obtain hp | hp := List.mem_cons.mp hm
      · rw [if_neg fun e => h (by rw [hp, e])]
        exact hp ▸ List.mem_cons_self
      · split
        · exact List.mem_cons_of_mem _ hp
        · exact List.mem_cons_of_mem _ (ih hp)

theorem mem_smDel_of_mem {α : Type} {m : SMap α} {p : Nat × α} (hm : p ∈ m) {a : Nat} (h : p.1 ≠ a) : p ∈ smDel m a := by
  induction m with
  | nil => exact absurd hm List.not_mem_nil
  | cons q m ih =>
    obtain ⟨k, v⟩ := q
    change p ∈ if a = k then smDel m a else (k, v) :: smDel m a
    obtain hp | hp := List.mem_cons.mp hm
    · rw [if_neg fun e => h (by rw [hp, e])]
      exact hp ▸ List.mem_cons_self
    · split
      · exact ih hp
      · exact List.mem_cons_of_mem _ (ih hp)

/-- A register outside the AX block leaves the configured axes. -/
theorem axes'_setReg {d : Dev} {n : Nat} (h : n ∈ d.axes') {a : Nat} (ha : 0x11FFFF < a) (w : Word) : n ∈ (d.setReg a w).axes' := by
  unfold Dev.axes' at h ⊢
  obtain ⟨r, hm, hr⟩ := List.mem_filterMap.mp h
  have hne : r.1 ≠ a := fun e => by
    have hn : ¬(decide (0x100000 ≤ r.1) && decide (r.1 ≤ 0x11FFFF) && r.1 % 0x100 == 0 && Machine.bit r.2 0) = true := by
      simp only [Bool.and_eq_true, decide_eq_true_eq]
      omega
    rw [if_neg hn] at hr
    nomatch hr
  refine List.mem_filterMap.mpr ⟨r, ?_, hr⟩
  change r ∈ if w = regReset a then smDel d.regs a else smPut d.regs a w
  split
  · exact mem_smDel_of_mem hm hne
  · exact mem_smPut_of_mem hm w hne

theorem axes'_countEvent {d : Dev} {n : Nat} (h : n ∈ d.axes') (ev unit k : Nat) : n ∈ (d.countEvent ev unit k).axes' := by
  refine List.foldlRecOn (motive := fun e : Dev => n ∈ e.axes') _ _ h fun e he r _ => ?_
  split
  · unfold Dev.bumpCounter
    extract_lets v old e1
    have h1 : n ∈ e1.axes' := he
    split
    · exact axes'_setReg h1 (by decide) _
    · exact h1
  · exact he

theorem axes'_event {d : Dev} {n : Nat} (h : n ∈ d.axes') (code subj : Nat) (payload : List Byte) : n ∈ (d.event code subj payload).axes' := by
  unfold Dev.event Dev.putRecord
  dsimp only
  split
  · exact h
  · split
    next pool _ =>
      have h1 (r : Recorder) : n ∈ ({ d with recorder := r } : Dev).axes' := h
      unfold Dev.stage
      split
      · exact h1 _
      · exact axes'_countEvent (h1 _) _ _ _
    · exact axes'_setReg (d := { d with recorder := _ }) h (by decide) _

theorem axes'_pairEvent {d : Dev} {n : Nat} (h : n ∈ d.axes') (code : Nat) (flag : Word) : n ∈ (d.pairEvent code flag).axes' :=
  axes'_setReg (axes'_setReg (axes'_event h code 0xFFFF []) (by decide) _) (by decide) _

/-! ### The role taken -/

/-- The pair unit as the role is taken. -/
def takenPair (p : PairUnit) : PairUnit :=
  { p with role := .active, roleOut := true, actAge := 0, swapDue := false, handover := false, claiming := false, roleInHigh := 0,
           mirrorNext := 0, stuckLoop := none, partnerElig := false, partnerActAge := 0 }

/-- The code that shows how the role was taken. -/
def takenCode (swap : Bool) : Nat := if swap then 0x8011 else 0x8010

/-- The role taken, with its code, its stamp and its count, before the pair copy is adopted. -/
def roleTaken (d : Dev) (swap : Bool) : Dev :=
  let d := (d.modPair takenPair).pairEvent (takenCode swap) (if swap then 0x40 else 0x20)
  let d := d.setReg Adr.pairLastlo (wordOfNat d.now)
  let d := d.setReg Adr.pairLasthi (wordOfNat (d.now / 2 ^ 32))
  d.incRegFld Adr.pairRolecnt (if swap then 0 else 16) 16

theorem roleTaken_outcome (d : Dev) (swap : Bool) : (roleTaken d swap).pair = takenPair d.pair ∧
    fld ((roleTaken d swap).reg Adr.pairStatus) 16 16 = takenCode swap ∧
    fld ((roleTaken d swap).reg Adr.pairRolecnt) (if swap then 0 else 16) 16 =
      min 0xFFFF (fld (d.reg Adr.pairRolecnt) (if swap then 0 else 16) 16 + 1) ∧
    (roleTaken d swap).reg Adr.pairLastlo = wordOfNat d.now ∧ ∀ n ∈ d.axes', n ∈ (roleTaken d swap).axes' := by
  unfold roleTaken
  extract_lets d1 d2 d3
  have hc : takenCode swap < 2 ^ 16 := by cases swap <;> decide
  obtain ⟨hp, hs⟩ := pairEvent_shown (d.modPair takenPair) (flag := if swap then 0x40 else 0x20) hc
  have hnow : d1.now = d.now := by
    rw [Dev.now, show d1.sys = d.sys from ((Logs.refl (d.modPair takenPair)).event _ _ _).sys]
    rfl
  have hset (e : Dev) (a : Nat) (w : Word) : (e.setReg a w).pair = e.pair := rfl
  refine ⟨?_, ?_, ?_, ?_, fun n hn => ?_⟩
  · rw [Dev.incRegFld, Dev.setRegFld, hset, hset, hset, hp]
    rfl
  · rw [Dev.incRegFld, Dev.setRegFld, reg_setReg_other _ _ (by decide), reg_setReg_other _ _ (by decide), reg_setReg_other _ _ (by decide)]
    exact hs
  · rw [fld_incRegFld _ _ (by cases swap <;> decide), reg_setReg_other _ _ (by decide), reg_setReg_other _ _ (by decide)]
    unfold d1 Dev.pairEvent
    rw [reg_orReg_other _ _ (by decide), Dev.setRegFld, reg_setReg_other _ _ (by decide),
      ((Logs.refl (d.modPair takenPair)).event _ _ _).reg _ (fixedReg_pair (by decide) (by decide)).1]
    rfl
  · rw [Dev.incRegFld, Dev.setRegFld, reg_setReg_other _ _ (by decide), reg_setReg_other _ _ (by decide), reg_setReg_self, hnow]
  · have h1 : n ∈ d1.axes' := axes'_pairEvent (d := d.modPair takenPair) hn _ _
    exact axes'_setReg (axes'_setReg (axes'_setReg h1 (by decide) _) (by decide) _) (by decide) _

theorem takeRole_adopted (d : Dev) (swap : Bool) :
    Adopted ((roleTaken d swap).axes'.foldl (fun d n => d.adoptAxis n) (roleTaken d swap)) (d.takeRole swap) := by
  generalize he : (roleTaken d swap).axes'.foldl (fun d n => d.adoptAxis n) (roleTaken d swap) = e
  unfold Dev.takeRole
  extract_lets d1 d2 d3 d4 d5 d6 faults counts adopt d7 seq r d8 d9 marked d10
  have h6 : d6 = e := he
  clear_value d6
  subst h6
  have h7 : Adopted d6 d7 := (Adopted.refl d6).modIsland _
  have h8 : Adopted d6 d8 := .ite (h7.modRecorder _) h7
  clear_value d8
  have h9 : Adopted d6 d9 := h8.foldl fun _ p g => g.restartDoor _
  have h10 : Adopted d6 d10 := by
    unfold d10
    split
    · refine h9.foldl fun e s g => g.stored ?_
      exact (Stored.ite ((Stored.refl e).logs ((Logs.refl _).countEvent _ _ _)) (.refl e)).sigHome _ _ _ _ _
    · exact h8
  exact h10.foldl fun _ p g => g.beginLink p

/-- What a module that takes the role leaves. -/
theorem takeRole_outcome (d : Dev) (swap : Bool) :
    (d.takeRole swap).pair.role = .active ∧ (d.takeRole swap).pair.roleOut = true ∧
      fld ((d.takeRole swap).reg Adr.pairStatus) 16 16 = takenCode swap ∧
      fld ((d.takeRole swap).reg Adr.pairRolecnt) (if swap then 0 else 16) 16 =
        min 0xFFFF (fld (d.reg Adr.pairRolecnt) (if swap then 0 else 16) 16 + 1) ∧
      (d.takeRole swap).reg Adr.pairLastlo = wordOfNat d.now ∧ (d.takeRole swap).pair.partnerElig = false ∧
      (d.takeRole swap).pair.partnerActAge = 0 ∧
      ∀ n ∈ d.axes', ((d.takeRole swap).axis n).motion.raw = (smGet {} d.pair.axes n : MirrorAxis).raw := by
  obtain ⟨hp, hs, hc, hl, ha⟩ := roleTaken_outcome d swap
  obtain ⟨ep, er, ex⟩ := adoptAxes_outcome (roleTaken d swap).axes' (roleTaken d swap) fun n hn => axes'_lt hn
  have h := takeRole_adopted d swap
  have hpair : (d.takeRole swap).pair = takenPair d.pair := (h.pair.trans ep).trans hp
  have hreg (a : Nat) (h1 : 0x270000 ≤ a) (h2 : a < 0x280000) : (d.takeRole swap).reg a = (roleTaken d swap).reg a :=
    (h.reg a h1 h2).trans (er a h1 h2)
  rw [hpair, hreg _ (by decide) (by decide), hreg _ (by decide) (by decide), hreg _ (by decide) (by decide)]
  refine ⟨rfl, rfl, hs, hc, hl, rfl, rfl, fun n hn => ?_⟩
  rw [h.raw, ex n (.inl (ha n hn)), hp]
  rfl

/-! ### A swap request -/

/-- The code of a swap request by the first check that fails. -/
theorem swapCode_toNat (d : Dev) (v : Word) : d.swapCode v =
    if ¬(v.toNat / 2 ^ 24 = 0x6B ∧ d.pair.role = .active) then 0x8022
    else if ¬(∀ n ∈ d.axes', (d.axis n).motion.st = .stand ∨ (d.axis n).motion.st = .off) then 0x8020
    else if d.pair.partnerElig = false then 0x8021 else if d.placer.mig.isSome then 0x8023 else 0 := by
  have hkey : fld v 24 8 = v.toNat / 2 ^ 24 := by
    rw [fld, Nat.shiftRight_eq_div_pow]
    omega
  unfold Dev.swapCode
  extract_lets resting
  have hstill : d.axes'.all resting = true ↔ ∀ n ∈ d.axes', (d.axis n).motion.st = .stand ∨ (d.axis n).motion.st = .off := by
    simp only [List.all_eq_true, resting, Bool.or_eq_true, beq_iff_eq]
  rw [hkey]
  refine if_congr not_and_or.symm rfl (if_congr ?_ rfl (if_congr ?_ rfl rfl))
  · rw [Bool.not_eq_true', ← hstill, Bool.not_eq_true]
  · rw [Bool.not_eq_true']

theorem ite_lt {p : Prop} [Decidable p] {a b n : Nat} (ha : a < n) (hb : b < n) : (if p then a else b) < n := by
  split
  · exact ha
  · exact hb

theorem swapCode_zero (d : Dev) (v : Word) : d.swapCode v = 0 ↔ (v.toNat / 2 ^ 24 = 0x6B ∧ d.pair.role = .active) ∧
    (∀ n ∈ d.axes', (d.axis n).motion.st = .stand ∨ (d.axis n).motion.st = .off) ∧ d.pair.partnerElig = true ∧ d.placer.mig = none := by
  have hmig : d.placer.mig = none ↔ ¬d.placer.mig.isSome = true := by rw [Option.not_isSome_iff_eq_none]
  have helig : d.pair.partnerElig = true ↔ ¬d.pair.partnerElig = false := by rw [Bool.not_eq_false]
  rw [swapCode_toNat, hmig, helig]
  split
  next h => exact iff_of_false (by decide) fun hc => h hc.1
  next h1 =>
    split
    next h => exact iff_of_false (by decide) fun hc => h hc.2.1
    next h2 =>
      split
      next h => exact iff_of_false (by decide) fun hc => hc.2.2.1 h
      next h3 =>
        split
        next h => exact iff_of_false (by decide) fun hc => hc.2.2.2 h
        next h4 => exact iff_of_true rfl ⟨not_not.mp h1, not_not.mp h2, h3, h4⟩

theorem swapCheck_outcome (d : Dev) {v : Word} (h : d.pair.swapReq = some v) :
    d.swapCheck.reg Adr.pairCmdstat = wordOfNat (d.swapCode v) ∧
      (d.swapCheck.pair.releasing = true ↔ d.pair.releasing = true ∨ d.swapCode v = 0) := by
  have hreg (e : Dev) (g : PairUnit → PairUnit) (a : Nat) : (e.modPair g).reg a = e.reg a := rfl
  have hpair (e : Dev) (g : PairUnit → PairUnit) : (e.modPair g).pair = g e.pair := rfl
  have hset (e : Dev) (a : Nat) (w : Word) : (e.setReg a w).pair = e.pair := rfl
  unfold Dev.swapCheck
  rw [h]
  dsimp -zeta only
  extract_lets code d1
  split
  next h0 => exact ⟨(hreg _ _ _).trans (reg_setReg_self _ _ _), iff_of_true (congrArg PairUnit.releasing (hpair d1 _)) (.inr h0)⟩
  next h0 =>
    rw [or_iff_left h0, Dev.setRegFld, hset, hset, hpair]
    exact ⟨(reg_setReg_other _ _ (by decide)).trans (reg_setReg_self _ _ _), Iff.rfl⟩

/-- Settles O41: the role is taken or refused by the conditions of a take-over, and a swap request by its first failing check. -/
theorem roleChanges : Obligations.RoleChanges := by
  intro s v roleIn d p took due blocked request still key
  have htook (swap : Bool) (lo : Nat) (hlo : (if swap then 0 else 16) = lo) : took lo (takenCode swap) (d.takeRole swap) := by
    obtain ⟨h1, h2, h3, h4, h5, h6, h7, h8⟩ := takeRole_outcome d swap
    rw [hlo] at h4
    exact ⟨h1, h2, h3, h4, h5, h6, h7, h8⟩
  have hdue : (p.role == .standby && decide (3 ≤ p.missed) && !p.notTaken && d.operating) = true ↔ due := by
    simp only [Bool.and_eq_true, beq_iff_eq, decide_eq_true_eq, Bool.not_eq_true', and_assoc, due]
  have hblocked : (p.roleIn || decide (p.listenMissed = 0)) = true ↔ blocked := by
    simp only [Bool.or_eq_true, decide_eq_true_eq, blocked]
  have hreg (e : Dev) (g : PairUnit → PairUnit) (a : Nat) : (e.modPair g).reg a = e.reg a := rfl
  have hpair (e : Dev) (g : PairUnit → PairUnit) : (e.modPair g).pair = g e.pair := rfl
  refine ⟨fun hd hb he => ?_, fun hd hb => ?_, fun hd hb he => ?_, fun hd => if_neg (mt hdue.mp hd), ?_, fun hr => ?_, fun hr => ?_,
    fun ho => ?_, fun hs => ?_⟩
  · refine answers_next (e := d.takeRole false) ((if_pos (hdue.mpr hd)).trans ((if_neg (mt hblocked.mp hb)).trans (if_neg ?_))) (htook false 16 rfl)
    rw [show s.dev.pair.eligAtLast = true from he]
    nofun
  · obtain ⟨hp, hc⟩ := pairEvent_shown d (code := 0x8002) (flag := 2) (by decide)
    refine answers_next ((if_pos (hdue.mpr hd)).trans (if_pos (hblocked.mpr hb))) ⟨?_, (congrArg (fld · 16 16) (hreg _ _ _)).trans hc⟩
    rw [hpair, hp]
  · obtain ⟨hp, hc⟩ := pairEvent_shown d (code := 0x8006) (flag := 2) (by decide)
    refine answers_next ((if_pos (hdue.mpr hd)).trans ((if_neg (mt hblocked.mp hb)).trans (if_pos ?_)))
      ⟨?_, (congrArg (fld · 16 16) (hreg _ _ _)).trans hc⟩
    · rw [show s.dev.pair.eligAtLast = false from he]
      rfl
    · rw [hpair, hp]
  · intro swap
    have hswap : (d.operating && p.role == .standby && p.handover && !false && p.eligAtLast) = true ↔ swap := by
      simp only [Bool.and_eq_true, beq_iff_eq, Bool.not_false, and_true, and_assoc, swap]
    refine ⟨fun h => ?_, fun h => if_neg (mt hswap.mp h), if_neg (by simp)⟩
    obtain ⟨h1, h2, h3, h4, h5, h6, h7, h8⟩ := takeRole_outcome (d.modPair fun p => { p with roleIn := false }) true
    exact answers_next (if_pos (hswap.mpr h)) ⟨h1, h2, h3, h4, h5, h6, h7, h8⟩
  · have hc : s.dev.pairCmdWrite v = s.dev.modPair fun p => { p with swapReq := some v } := if_pos hr
    show Host.Outcome.next { s with dev := s.dev.pairCmdWrite v } = _
    rw [hc]
    rfl
  · have hc : s.dev.pairCmdWrite v = s.dev := if_neg hr
    show Host.Outcome.next { s with dev := s.dev.pairCmdWrite v } = _
    rw [hc]
  · exact if_pos ho
  · obtain ⟨hc, hr⟩ := swapCheck_outcome d hs
    have hlt : d.swapCode v < 2 ^ 32 := by
      unfold Dev.swapCode
      extract_lets resting
      repeat' refine ite_lt ?_ ?_
      all_goals decide
    refine ⟨?_, ?_⟩
    · rw [hc, wordOfNat, BitVec.toNat_ofNat, Nat.mod_eq_of_lt hlt, swapCode_toNat]
    · rw [hr, swapCode_zero]

end Sys2Proof.Proofs
end

section
/-! O42: the host ports below VHP (R313–R315, R328, R330). -/

namespace Sys2Proof.Proofs

open Sys2Proof.Machine Sys2Proof.Safety

/-! ### What a port takes -/

theorem linkTaken_arp (x : LinkIn) : linkTaken x 64 true = true ↔
    (x.fcsGood = true ∧ x.vlan = false) ∧ (x.dst = ownMac x.port.val ∨ x.dst = broadcastMac) := by
  simp [linkTaken]

theorem linkIpTaken_iff (x : LinkIn) (h : HostUnit) (n : Nat) : linkIpTaken x h n = true ↔
    (x.fcsGood = true ∧ x.vlan = false) ∧ x.dst = ownMac x.port.val ∧ 46 + n ≤ 1518 ∧ x.header = 20 ∧ x.fragment = false ∧
      x.toIp = h.ip x.port.val := by
  simp only [linkIpTaken, linkTaken, Bool.and_eq_true, Bool.or_eq_true, Bool.not_eq_true', beq_iff_eq, decide_eq_true_eq, Bool.false_and,
    Bool.false_eq_true, or_false, and_assoc]
  exact and_congr_right fun _ => and_congr_right fun _ => ⟨fun ⟨a, b, c⟩ => ⟨b, a, c⟩, fun ⟨b, a, c⟩ => ⟨a, b, c⟩⟩

theorem linkUdpTaken_iff (x : LinkIn) (h : HostUnit) (n : Nat) (udp : BitVec 16) : linkUdpTaken x h n udp = true ↔
    linkIpTaken x h n = true ∧ x.toPort = udp ∧ x.sum ≠ .bad := by
  simp only [linkUdpTaken, Bool.and_eq_true, beq_iff_eq, bne_iff_ne, and_assoc]

/-- A frame that comes to nothing. -/
theorem frameCame_up {d : Dev} (h : d.hostPortsUp = true) (p : Nat) : d.frameCame p = { d with host := d.host.seen p d.now } := if_pos h

theorem frameCame_down {d : Dev} (h : ¬d.hostPortsUp = true) (p : Nat) : d.frameCame p = d := if_neg h

theorem seen_tx (h : HostUnit) (p now : Nat) : (h.seen p now).tx = h.tx := by
  unfold HostUnit.seen
  split <;> rfl

theorem seen_tg (h : HostUnit) (p now q : Nat) : (h.seen p now).tg q = h.tg q := by
  unfold HostUnit.seen
  split <;> rfl

theorem setLink_tx (h : HostUnit) (p : Nat) (up fdx : Bool) : (h.setLink p up fdx).tx = h.tx ∧ ∀ q, (h.setLink p up fdx).ip q = h.ip q := by
  unfold HostUnit.setLink
  split <;> exact ⟨rfl, fun _ => rfl⟩

theorem setLink_link (h : HostUnit) (p : Nat) (up fdx : Bool) :
    (if p = 0 then (h.setLink p up fdx).linkA else (h.setLink p up fdx).linkB) = up ∧
      (if p = 0 then (h.setLink p up fdx).fdxA else (h.setLink p up fdx).fdxB) = fdx := by
  unfold HostUnit.setLink
  split <;> exact ⟨rfl, rfl⟩

/-- What is sent joins the datagrams of the frame at their end. -/
theorem sendRaw_tx (d : Dev) (p kind : Nat) (mac : BitVec 48) (ip : Word) (b : List Byte) : (d.sendRaw p kind mac ip b).host.tx =
    d.host.tx ++ [{ port := p, kind := kind, mac := mac, df := kind == 2, ttl := if kind = 2 then 64 else 0, sum := 0, ip := ip, udp := 0,
                    bytes := b }] :=
  congrArg (· ++ _) (seen_tx d.host p d.now)

/-- A port whose link is up, with its duplex. -/
def linkedUp (d : Dev) (p : Nat) (fdx : Bool) : Dev := d.modHost fun h => h.setLink p true (fdx || Machine.bit d.host.liveNet (16 + p))

/-- A link that comes up sends one gratuitous ARP. -/
theorem linkUp_outcome (d : Dev) (p : Nat) (fdx : Bool) :
    let e := linkedUp d p fdx
    let f := e.sendRaw p 1 broadcastMac (e.host.ip p) (e.arpBytes p 1 0 (e.host.ip p))
    (if p = 0 then f.host.linkA else f.host.linkB) = true ∧
      (if p = 0 then f.host.fdxA else f.host.fdxB) = (fdx || d.host.liveNet.getLsbD (16 + p)) ∧
      f.host.tx = d.host.tx ++ [{ port := p, kind := 1, mac := broadcastMac, df := false, ttl := 0, sum := 0, ip := d.host.ip p, udp := 0,
                                  bytes := d.arpBytes p 1 0 (d.host.ip p) }] := by
  intro e f
  have hip (q : Nat) : e.host.ip q = d.host.ip q := (setLink_tx d.host p true _).2 q
  have htx : e.host.tx = d.host.tx := (setLink_tx d.host p true _).1
  obtain ⟨hl, hf⟩ := setLink_link d.host p true (fdx || Machine.bit d.host.liveNet (16 + p))
  have hseen (g : HostUnit) : (g.seen p e.now).linkA = g.linkA ∧ (g.seen p e.now).linkB = g.linkB ∧ (g.seen p e.now).fdxA = g.fdxA ∧
      (g.seen p e.now).fdxB = g.fdxB := by
    unfold HostUnit.seen
    split <;> exact ⟨rfl, rfl, rfl, rfl⟩
  obtain ⟨h1, h2, h3, h4⟩ := hseen e.host
  refine ⟨?_, ?_, ?_⟩
  · change (if p = 0 then (e.host.seen p e.now).linkA else (e.host.seen p e.now).linkB) = true
    rw [h1, h2]
    exact hl
  · change (if p = 0 then (e.host.seen p e.now).fdxA else (e.host.seen p e.now).fdxB) = _
    rw [h3, h4]
    exact hf
  · have harp : e.arpBytes p 1 0 (e.host.ip p) = d.arpBytes p 1 0 (d.host.ip p) := by
      unfold Dev.arpBytes
      rw [hip]
    rw [show f.host.tx = _ from sendRaw_tx e p 1 _ _ _, htx, harp, hip]
    rfl

/-- A telegram at its port. -/
theorem tgReceive_outcome (d : Dev) (p : Nat) (stamp : Nat) (bytes : List Byte) (hp : p < 2) :
    (telegramDatagram bytes = true → (d.host.tg p).length < 16 →
      (d.tgReceive p stamp bytes).host.tg p = d.host.tg p ++ [{ stamp := stamp, bytes := ((bytes.take (bytes.length - 4)).drop 16).take 60 }] ∧
        (d.tgReceive p stamp bytes).host.tg (1 - p) = d.host.tg (1 - p)) ∧
    (telegramDatagram bytes = true → 16 ≤ (d.host.tg p).length →
      (d.tgReceive p stamp bytes).host = d.host ∧ (d.tgReceive p stamp bytes).reg Adr.hostTgdrop = satInc (d.reg Adr.hostTgdrop) ∧
        ((d.tgReceive p stamp bytes).reg Adr.hostFlags).getLsbD 4 = true) ∧
    (telegramDatagram bytes = false →
      (d.tgReceive p stamp bytes).host = d.host ∧ (d.tgReceive p stamp bytes).reg Adr.hostTgdrop = satInc (d.reg Adr.hostTgdrop)) := by
  unfold Dev.tgReceive
  refine ⟨fun ht hl => ?_, fun ht hl => ?_, fun ht => ?_⟩
  · rw [ht, if_neg nofun, if_neg (Nat.not_le.mpr hl)]
    obtain rfl | rfl : p = 0 ∨ p = 1 := by omega
    · exact ⟨rfl, rfl⟩
    · exact ⟨rfl, rfl⟩
  · rw [ht, if_neg nofun, if_pos hl]
    have h := (Logs.refl ((d.incReg Adr.hostTgdrop).orReg Adr.hostFlags 0x10)).eventRep 0x5042 0xFFFF []
    have hf (a : Nat) (h1 : 0x50000 ≤ a) (h2 : a < 0x240000) : fixedReg a := fixedReg_of h1 h2
    refine ⟨h.host, ?_, ?_⟩
    · rw [h.reg _ (hf _ (by decide) (by decide)).1, reg_orReg_other _ _ (by decide), reg_incReg_self]
    · rw [h.reg _ (hf _ (by decide) (by decide)).1, reg_orReg_self, BitVec.getLsbD_or]
      exact Bool.or_true _
  · rw [ht, if_pos (by rfl)]
    exact ⟨rfl, reg_incReg_self _ _⟩

/-! ### Command mailboxes -/

theorem regionOf_mailbox {n : Nat} (h : 0x85000 ≤ n) (h' : n ≤ 0x857FF) : regionOf n = .mailboxCommand := by
  unfold regionOf
  rw [if_neg (by omega), if_neg (by omega), if_neg (by omega), if_neg (by omega), if_neg (by omega), if_neg (by omega), if_neg (by omega),
    if_neg (by omega), if_pos ⟨h, h'⟩]

theorem mailbox_open (d : Dev) {n : Nat} (h : 0x85000 ≤ n) (h' : n ≤ 0x857FF) : d.sigExists n = true ∧ d.region n ≠ .reserved := by
  refine ⟨?_, ?_⟩
  · unfold Dev.sigExists
    rw [if_neg (by omega), if_pos (by rw [decide_eq_true (by omega), decide_eq_true (by omega)]; rfl)]
  · unfold Dev.region
    rw [regionOf_mailbox h h']
    nofun

/-- A command mailbox is read from the image and from its place in the store. -/
theorem sig_mailbox {d e : Dev} {n : Nat} (h : 0x85000 ≤ n) (h' : n ≤ 0x857FF) (hi : e.image = d.image) (hs : e.sigs = d.sigs) :
    e.sig n = d.sig n := by
  have hr (f : Dev) : f.region n = .mailboxCommand := by
    unfold Dev.region
    rw [regionOf_mailbox h h']
  unfold Dev.sig Dev.mirrorBit
  rw [(mailbox_open e h h').1, (mailbox_open d h h').1, hr, hr, hi, hs]

/-- STALE changes no value. -/
theorem sigQuality_stale (d : Dev) (n : Nat) : (d.sigQuality n true false).sigVal n = d.sigVal n ∧
    (d.sigExists n = true → d.region n ≠ .reserved → ((d.sigQuality n true false).sig n).q.getLsbD 1 = true) := by
  unfold Dev.sigQuality Dev.sigVal
  split
  next h =>
    obtain ⟨he, hr⟩ := (Bool.and_eq_true ..).mp h
    extract_lets s q q1 hidden
    have hsp : SameSpace d { d with hidden := hidden } := ⟨rfl, fun _ _ => rfl⟩
    rw [sig_setSig_self _ _ _ ((hsp.sigExists n).trans he) (by rw [hsp.region n]; exact bne_iff_ne.mp hr)]
    refine ⟨rfl, fun _ _ => ?_⟩
    change (((s.q ||| 2) &&& 0x1F) ||| _).getLsbD 1 = true
    rw [BitVec.getLsbD_or, BitVec.getLsbD_and, BitVec.getLsbD_or]
    simp
  next h => exact ⟨rfl, fun he hr => absurd ((Bool.and_eq_true ..).mpr ⟨he, bne_iff_ne.mpr hr⟩) h⟩

/-- Every command mailbox made STALE: the values stay. -/
theorem staled_range (d : Dev) (m : Nat) (i : Nat) :
    ((List.range m).foldl (fun d i => d.sigQuality (0x85000 + i) true false) d).sigVal (0x85000 + i) = d.sigVal (0x85000 + i) ∧
    (i < m → i < 2048 → (((List.range m).foldl (fun d i => d.sigQuality (0x85000 + i) true false) d).sig (0x85000 + i)).q.getLsbD 1 = true) := by
  induction m with
  | zero => exact ⟨rfl, fun h => absurd h (Nat.not_lt_zero i)⟩
  | succ m ih =>
    obtain ⟨hv, hq⟩ := ih
    rw [List.range_succ, List.foldl_append, List.foldl_cons, List.foldl_nil]
    generalize (List.range m).foldl (fun d i => d.sigQuality (0x85000 + i) true false) d = e at hv hq
    by_cases hi : i = m
    · subst hi
      obtain ⟨h1, h2⟩ := sigQuality_stale e (0x85000 + i)
      refine ⟨h1.trans hv, fun _ hlt => ?_⟩
      obtain ⟨he, hr⟩ := mailbox_open e (n := 0x85000 + i) (by omega) (by omega)
      exact h2 he hr
    · rw [Dev.sigVal, sig_sigQuality_other e true false (by omega)]
      exact ⟨hv, fun h => hq (by omega)⟩

/-- The module as the host watchdog expires. -/
def watchdogStaled (d : Dev) : Dev :=
  let d := (d.modHost fun h => { h with wdExp := true }).orReg Adr.hostFlags 4
  (List.range 2048).foldl (fun d i => d.sigQuality (0x85000 + i) true false) d

theorem watchdogStaled_outcome (d : Dev) : (watchdogStaled d).host.wdExp = true ∧ ((watchdogStaled d).reg Adr.hostFlags).getLsbD 2 = true ∧
    ∀ i, i < 2048 → ((watchdogStaled d).sig (0x85000 + i)).q.getLsbD 1 = true ∧
      (watchdogStaled d).sigVal (0x85000 + i) = d.sigVal (0x85000 + i) := by
  unfold watchdogStaled
  extract_lets e
  have hs : Stored e ((List.range 2048).foldl (fun d i => d.sigQuality (0x85000 + i) true false) e) :=
    Stored.foldl (fun e _ h => h.sigQuality _ _ _) (.refl e)
  refine ⟨?_, ?_, fun i hi => ?_⟩
  · rw [hs.host]
    rfl
  · rw [hs.reg _ (fixedReg_of (by decide) (by decide)), reg_orReg_self, BitVec.getLsbD_or]
    exact Bool.or_true _
  · obtain ⟨hv, hq⟩ := staled_range e 2048 i
    exact ⟨hq hi hi, hv.trans (congrArg Sig.value (sig_mailbox (d := d) (e := e) (by omega) (by omega) rfl rfl))⟩

/-- Settles O42: a frame that the headers let in is answered or kept, any other only seen; links, watchdog and CFGSAVE by their conditions. -/
theorem hostPorts : Obligations.HostPorts := by
  intro s x target ip echo mac data bytes fdx stamp v d h port p up sent frame arpIn ipIn tgIn arp ping tg link duplex flag t came
  have hp : p < 2 := port.isLt
  have harp : linkTaken x 64 true = true ↔ arpIn := linkTaken_arp x
  have hip (n : Nat) : linkIpTaken x h n = true ↔ ipIn n := linkIpTaken_iff x h n
  have htg : linkUdpTaken x h bytes.length 48201 = true ↔ tgIn := by
    rw [linkUdpTaken_iff, hip]
  have hkey : fld v 0 8 = v.toNat % 256 := rfl
  have hreg (e : Dev) (g : HostUnit) (a : Nat) : ({ e with host := g } : Dev).reg a = e.reg a := rfl
  have hseen (q : Nat) : (d.frameSeen p).host.tg q = h.tg q := seen_tg h p d.now q
  have hlet (hu : up) (hi : tgIn) (hr : d.sys.power ≠ .roast) :
      exec tg s = .next { s with dev := (d.frameSeen p).tgReceive p stamp bytes } := by
    have hc : ¬(!s.dev.hostPortsUp || !linkUdpTaken x s.dev.host bytes.length 48201) = true := by
      rw [show s.dev.hostPortsUp = true from hu, htg.mpr hi]
      nofun
    exact (if_neg hc).trans (if_neg (mt beq_iff_eq.mp hr))
  refine ⟨fun hu ha ht => ?_, fun hu => ⟨?_, ?_, ?_⟩, fun hu hn => ?_, fun hu hi hl he => ?_, fun hu hn => ?_, fun hu => ?_, fun hu => ⟨?_, ?_, ?_⟩,
    fun hu hn => ?_, fun hu hl => ?_, fun hl => ?_, fun hu hi hr => ⟨fun hb hl => ?_, fun hb hl => ?_, fun hb => ?_⟩, fun hu ht hw hn => ?_,
    fun hn => ?_, fun hv => ?_, fun hv hok => ?_, fun hv hok => ?_⟩
  · refine answers_next (if_pos ?_) (sendRaw_tx d p 1 mac ip _)
    rw [show s.dev.hostPortsUp = true from hu, harp.mpr ha, Bool.true_and]
    exact beq_iff_eq.mpr ht
  · have hc : ¬(s.dev.hostPortsUp && linkTaken x 64 true && target == s.dev.host.ip x.port.val) = true := fun e => by
      simp only [Bool.and_eq_true] at e
      exact hu e.1.1
    exact (if_neg hc).trans (by rw [frameCame_down hu])
  · have hc : ¬(s.dev.hostPortsUp && linkIpTaken x s.dev.host data.length && data.length ≤ 1472 &&
        (s.dev.host.recentEchoes x.port.val s.dev.now).length < 20) = true := fun e => by
      simp only [Bool.and_eq_true] at e
      exact hu e.1.1.1
    exact (if_neg hc).trans (by rw [frameCame_down hu])
  · have hc : (!s.dev.hostPortsUp || !linkUdpTaken x s.dev.host bytes.length 48201) = true := by
      rw [Bool.eq_false_iff.mpr hu]
      rfl
    exact (if_pos hc).trans (by rw [frameCame_down hu])
  · have hc : ¬(s.dev.hostPortsUp && linkTaken x 64 true && target == s.dev.host.ip x.port.val) = true := fun e => by
      simp only [Bool.and_eq_true, beq_iff_eq] at e
      exact hn.elim (fun hn => hn (harp.mp e.1.2)) fun hn => hn e.2
    exact (if_neg hc).trans (by rw [frameCame_up hu])
  · have hc : (s.dev.hostPortsUp && linkIpTaken x s.dev.host data.length && data.length ≤ 1472 &&
        (s.dev.host.recentEchoes x.port.val s.dev.now).length < 20) = true := by
      simp only [Bool.and_eq_true, decide_eq_true_eq]
      exact ⟨⟨⟨hu, (hip _).mpr hi⟩, hl⟩, he⟩
    exact answers_next (if_pos hc) (sendRaw_tx _ p 2 x.src ip _)
  · have hc : ¬(s.dev.hostPortsUp && linkIpTaken x s.dev.host data.length && data.length ≤ 1472 &&
        (s.dev.host.recentEchoes x.port.val s.dev.now).length < 20) = true := fun e => by
      simp only [Bool.and_eq_true, decide_eq_true_eq] at e
      obtain hn | hn | hn := hn
      · exact hn ((hip _).mp e.1.1.2)
      · exact Nat.not_le.mpr hn e.1.2
      · exact Nat.not_le.mpr e.2 hn
    exact (if_neg hc).trans (by rw [frameCame_up hu])
  · exact answers_next (if_pos hu) (linkUp_outcome d p fdx)
  · exact if_neg hu
  · exact if_neg fun e => hu ((Bool.and_eq_true ..).mp e).1
  · exact if_neg fun e => by
      simp only [Bool.and_eq_true] at e
      exact hu e.1.1.1
  · have hc : (!s.dev.hostPortsUp || !linkUdpTaken x s.dev.host bytes.length 48201) = true := by
      rw [Bool.eq_false_iff.mpr (mt htg.mp hn)]
      exact Bool.or_true _
    exact (if_pos hc).trans (by rw [frameCame_up hu])
  · refine ⟨(d.modHost fun h => h.setLink p false false).orReg Adr.hostFlags (if p = 0 then 1 else 2), if_pos ?_,
      (setLink_link h p false false).1, ?_⟩
    · exact (Bool.and_eq_true ..).mpr ⟨hu, hl⟩
    · change ((Dev.orReg _ Adr.hostFlags _).reg Adr.hostFlags).getLsbD p = true
      rw [reg_orReg_self, BitVec.getLsbD_or]
      obtain h | h : p = 0 ∨ p = 1 := by omega
      · rw [h]
        exact Bool.or_true _
      · rw [h]
        exact Bool.or_true _
  · exact if_neg fun e => Bool.false_ne_true (hl.symm.trans ((Bool.and_eq_true ..).mp e).2)
  · obtain ⟨h1, h2⟩ := (tgReceive_outcome (d.frameSeen p) p stamp bytes hp).1 hb (by rw [hseen]; exact hl)
    exact answers_next (hlet hu hi hr) ⟨h1.trans (congrArg (· ++ _) (hseen p)), h2.trans (hseen _)⟩
  · obtain ⟨h1, h2, h3⟩ := (tgReceive_outcome (d.frameSeen p) p stamp bytes hp).2.1 hb (by rw [hseen]; exact hl)
    exact answers_next (hlet hu hi hr) ⟨h1, h2, h3⟩
  · obtain ⟨h1, h2⟩ := (tgReceive_outcome (d.frameSeen p) p stamp bytes hp).2.2 hb
    exact answers_next (hlet hu hi hr) ⟨h1, h2⟩
  · refine ⟨watchdogStaled d, if_pos ?_, watchdogStaled_outcome d⟩
    simp only [Bool.and_eq_true, decide_eq_true_eq, Bool.not_eq_true']
    exact ⟨⟨⟨hu, ht⟩, hw⟩, hn⟩
  · exact if_neg fun e => by
      simp only [Bool.and_eq_true, decide_eq_true_eq, Bool.not_eq_true'] at e
      obtain ⟨⟨⟨-, ht⟩, hw⟩, hl⟩ := e
      obtain hn | hn | hn := hn
      · exact ht hn
      · exact Bool.false_ne_true (hw.symm.trans hn)
      · exact Nat.not_le.mpr hn hl
  · have hc : s.dev.hostCfgsave v = s.dev := if_pos fun e => hv (hkey.symm.trans e)
    show Host.Outcome.next { s with dev := s.dev.hostCfgsave v } = _
    rw [hc]
  · have hc : s.dev.hostCfgsave v = _ := (if_neg fun e => e (hkey.trans hv)).trans (if_pos hok)
    refine answers_next (e := s.dev.hostCfgsave v) rfl ?_
    rw [hc]
    exact ⟨rfl, (hreg _ _ _).trans (reg_setReg_self _ _ _)⟩
  · have hc : s.dev.hostCfgsave v = s.dev.setReg Adr.hostCfgstat 0x5020 := (if_neg fun e => e (hkey.trans hv)).trans (if_neg (by rw [hok]; nofun))
    show Host.Outcome.next { s with dev := s.dev.hostCfgsave v } = _
    rw [hc]

end Sys2Proof.Proofs
end

section
/-! O43: a command datagram meets the checks of R317 in order (R313–R319, R385). -/

namespace Sys2Proof.Proofs

open Sys2Proof.Machine Sys2Proof.Safety

/-! ### What is sent -/

/-- A VHP datagram as a port sends it. -/
def vhpTx (h : HostUnit) (port : Nat) (mac : BitVec 48) (ip : Word) (udp : BitVec 16) (bytes : List Byte) : Tx :=
  { port := port, kind := 0, mac := mac, df := true, ttl := 64, sum := udpSum (h.ip port) ip udp bytes, ip := ip, udp := udp, bytes := bytes }

theorem seen_ip (h : HostUnit) (p now q : Nat) : (h.seen p now).ip q = h.ip q := by
  unfold HostUnit.seen
  split <;> rfl

theorem seen_queue (h : HostUnit) (p now : Nat) : (h.seen p now).queue = h.queue := by
  unfold HostUnit.seen
  split <;> rfl

theorem seen_endpoint (h : HostUnit) (p now : Nat) (ip : Word) (udp : BitVec 16) : (h.seen p now).endpoint ip udp = h.endpoint ip udp := by
  unfold HostUnit.seen
  split <;> rfl

/-- A datagram sent: it joins the datagrams of the frame, and the queue stays. -/
theorem sendVhp_outcome (d : Dev) (port : Nat) (mac : BitVec 48) (ip : Word) (udp : BitVec 16) (bytes : List Byte) :
    (d.sendVhp port mac ip udp bytes).host.queue = d.host.queue ∧
      (d.sendVhp port mac ip udp bytes).host.tx = d.host.tx ++ [vhpTx d.host port mac ip udp bytes] := by
  refine ⟨seen_queue d.host port d.now, ?_⟩
  change (d.host.seen port d.now).tx ++ [{ vhpTx d.host port mac ip udp bytes with sum := udpSum ((d.host.seen port d.now).ip port) ip udp bytes }] = _
  rw [seen_tx, seen_ip]
  rfl

/-- A reply to a request with one copy. -/
theorem vhpReply_outcome (d : Dev) (q : VReq) (st : Nat) (payload : List Byte) (frame : Word) (hp : q.ports = [(q.port, q.mac)]) :
    (d.vhpReply q st payload frame).host.queue = d.host.queue ∧
      (d.vhpReply q st payload frame).host.tx = d.host.tx ++
        [vhpTx d.host q.port q.mac q.ip q.udp (vhpDatagram ((q.vtype + 0x80) % 256) q.seq st frame payload)] := by
  unfold Dev.vhpReply
  rw [hp]
  exact sendVhp_outcome (d.modHost fun h => h.answer q _) q.port q.mac q.ip q.udp _

/-! ### Endpoints -/

theorem endpoint_key (h : HostUnit) (ip : Word) (udp : BitVec 16) : (h.endpoint ip udp).ip = ip ∧ (h.endpoint ip udp).udp = udp := by
  unfold HostUnit.endpoint
  split
  next e he =>
    have := List.find?_some he
    simpa only [Bool.and_eq_true, beq_iff_eq] using this
  next => exact ⟨rfl, rfl⟩

/-- The endpoint heard from last is the one kept. -/
theorem endpoint_hear (h : HostUnit) (e : Endpoint) : (h.hear e).endpoint e.ip e.udp = e := by
  unfold HostUnit.hear HostUnit.endpoint
  dsimp only
  rw [List.take_succ_cons, List.find?_cons_of_pos (by simp)]

theorem find_hold (e : Endpoint) (x : Held) : (e.hold x).find x.seq = some x := by
  unfold Endpoint.hold Endpoint.find
  dsimp only
  rw [List.take_succ_cons, List.find?_cons_of_pos (by simp)]

theorem hear_host (h : HostUnit) (e : Endpoint) : (h.hear e).queue = h.queue ∧ (h.hear e).tx = h.tx ∧ ∀ p, (h.hear e).ip p = h.ip p :=
  ⟨rfl, rfl, fun _ => rfl⟩

/-! ### A request whose SEQ is new -/

/-- The module with a new SEQ held. -/
def heldNew (d : Dev) (q : VReq) : Dev :=
  d.modHost fun h => h.hear ((d.host.endpoint q.ip q.udp).hold { seq := q.seq, crc := q.crc, response := none })

theorem heldNew_find (d : Dev) (q : VReq) :
    ((heldNew d q).host.endpoint q.ip q.udp).find q.seq = some { seq := q.seq, crc := q.crc, response := none } := by
  obtain ⟨hi, hu⟩ := endpoint_key d.host q.ip q.udp
  have h := endpoint_hear d.host ((d.host.endpoint q.ip q.udp).hold { seq := q.seq, crc := q.crc, response := none })
  rw [show ((d.host.endpoint q.ip q.udp).hold _).ip = q.ip from hi, show ((d.host.endpoint q.ip q.udp).hold _).udp = q.udp from hu] at h
  rw [show (heldNew d q).host.endpoint q.ip q.udp = _ from h]
  exact find_hold _ _

/-- The module with a new SEQ held and the host watchdog fed. -/
def fedNew (d : Dev) (q : VReq) : Dev := (heldNew d q).modHost fun h => { h with wdSince := d.now, wdExp := false }

theorem vhpNew_eq (d : Dev) (q : VReq) : d.vhpNew q =
    if 32 ≤ d.host.queue.length then (heldNew d q).vhpReply q 0x5008 [] d.sys.frame
    else if d.vhpAccept q.vtype q.payload ≠ 0 then (heldNew d q).vhpReply q (d.vhpAccept q.vtype q.payload) [] d.sys.frame
    else if vhpParse q.vtype q.payload ≠ 0 then (fedNew d q).vhpReply q (vhpParse q.vtype q.payload) [] d.sys.frame
    else (fedNew d q).modHost fun h => { h with queue := h.queue ++ [q] } := rfl

/-- The one answer to a request with one copy. -/
def answeredOnce (d : Dev) (q : VReq) (bytes : List Byte) (e : Dev) : Prop :=
  e.host.queue = d.host.queue ∧ e.host.tx = d.host.tx ++ [vhpTx d.host q.port q.mac q.ip q.udp bytes]

theorem vhpReply_new (d e : Dev) (q : VReq) (hp : q.ports = [(q.port, q.mac)]) (st : Nat) (he : e.host.queue = d.host.queue)
    (ht : e.host.tx = d.host.tx) (hip : ∀ p, e.host.ip p = d.host.ip p) :
    answeredOnce d q (vhpDatagram ((q.vtype + 0x80) % 256) q.seq st d.sys.frame []) (e.vhpReply q st [] d.sys.frame) := by
  obtain ⟨h1, h2⟩ := vhpReply_outcome e q st [] d.sys.frame hp
  refine ⟨h1.trans he, ?_⟩
  rw [h2, ht, vhpTx, hip]
  rfl

theorem vhpNew_outcome (d : Dev) (q : VReq) (hp : q.ports = [(q.port, q.mac)]) :
    let response (st : Nat) : List Byte := vhpDatagram ((q.vtype + 0x80) % 256) q.seq st d.sys.frame []
    let e := d.vhpNew q
    (32 ≤ d.host.queue.length → answeredOnce d q (response 0x5008) e) ∧
    (d.host.queue.length < 32 → d.vhpAccept q.vtype q.payload ≠ 0 → answeredOnce d q (response (d.vhpAccept q.vtype q.payload)) e) ∧
    (d.host.queue.length < 32 → d.vhpAccept q.vtype q.payload = 0 → vhpParse q.vtype q.payload ≠ 0 →
      answeredOnce d q (response (vhpParse q.vtype q.payload)) e) ∧
    (d.host.queue.length < 32 → d.vhpAccept q.vtype q.payload = 0 → vhpParse q.vtype q.payload = 0 →
      e.host.queue = d.host.queue ++ [q] ∧ e.host.tx = d.host.tx ∧ e.host.wdExp = false ∧ e.host.wdSince = d.now ∧
        (e.host.endpoint q.ip q.udp).find q.seq = some { seq := q.seq, crc := q.crc, response := none }) := by
  intro response e
  have he : e = _ := vhpNew_eq d q
  rw [he]
  refine ⟨fun hl => ?_, fun hl ha => ?_, fun hl ha hs => ?_, fun hl ha hs => ?_⟩
  · rw [if_pos hl]
    exact vhpReply_new d _ q hp _ rfl rfl fun _ => rfl
  · rw [if_neg (Nat.not_le.mpr hl), if_pos ha]
    exact vhpReply_new d _ q hp _ rfl rfl fun _ => rfl
  · rw [if_neg (Nat.not_le.mpr hl), if_neg (not_not.mpr ha), if_pos hs]
    exact vhpReply_new d _ q hp _ rfl rfl fun _ => rfl
  · rw [if_neg (Nat.not_le.mpr hl), if_neg (not_not.mpr ha), if_neg (not_not.mpr hs)]
    exact ⟨rfl, rfl, rfl, rfl, heldNew_find d q⟩

/-! ### A SEQ that is held -/

theorem vhpRepeat_outcome (d : Dev) (q : VReq) (x : Held) :
    let e := d.vhpRepeat q x
    (∀ bytes, x.crc = q.crc → x.response = some bytes → answeredOnce d q bytes e) ∧
    (x.crc = q.crc → x.response = none → e.host.tx = d.host.tx ∧ e.host.queue = (d.host.copyOn q).queue) ∧
    (x.crc ≠ q.crc → answeredOnce d q (vhpDatagram ((q.vtype + 0x80) % 256) q.seq 0x500B d.sys.frame []) e) := by
  intro e
  have hsent (bytes : List Byte) : answeredOnce d q bytes ((d.modHost fun h => h.hear (h.endpoint q.ip q.udp)).sendVhp q.port q.mac q.ip q.udp bytes) :=
    sendVhp_outcome (d.modHost fun h => h.hear (h.endpoint q.ip q.udp)) q.port q.mac q.ip q.udp bytes
  unfold e Dev.vhpRepeat
  refine ⟨fun bytes hc hr => ?_, fun hc hr => ?_, fun hc => ?_⟩
  · dsimp only
    rw [if_neg (not_not.mpr hc), hr]
    exact hsent bytes
  · dsimp only
    rw [if_neg (not_not.mpr hc), hr]
    exact ⟨rfl, rfl⟩
  · dsimp only
    rw [if_pos hc]
    exact hsent _

theorem copyOn_queue (h : HostUnit) (q : VReq) : (h.copyOn q).queue = h.queue.map fun r =>
    if r.ip = q.ip ∧ r.udp = q.udp ∧ r.seq = q.seq ∧ r.crc = q.crc ∧ ∀ p ∈ r.ports, p.1 ≠ q.port
    then { r with ports := r.ports ++ [(q.port, q.mac)] } else r := by
  refine List.map_congr_left fun r _ => if_congr ?_ rfl rfl
  simp only [Bool.and_eq_true, beq_iff_eq, Bool.not_eq_true', List.any_eq_false, and_assoc]

/-! ### Reception -/

theorem vhpIntact_iff (b : List Byte) : vhpIntact b = true ↔ 20 ≤ b.length ∧ leAt b 0 2 = 0x4856 ∧
    BitVec.ofNat 32 (leAt b (b.length - 4) 4) = crc32c (b.take (b.length - 4)) := by
  unfold vhpIntact
  simp only [Bool.and_eq_true, decide_eq_true_eq, beq_iff_eq, and_assoc, wordOfNat]

theorem vhpHeader_eq (b : List Byte) : vhpHeader b =
    if leAt b 2 1 ≠ 1 then 0x5001
    else if leAt b 3 1 ∉ [0x01, 0x02, 0x03, 0x04, 0x05, 0x06, 0x07, 0x10, 0x11, 0x20, 0x21, 0x22, 0x40, 0x41, 0x50, 0x51] then 0x5002
    else if 1408 < leAt b 8 2 then 0x5003 else if b.length ≠ 20 + leAt b 8 2 then 0x5004 else 0 := by
  unfold vhpHeader
  refine if_congr Iff.rfl rfl (if_congr ?_ rfl rfl)
  rw [Bool.not_eq_true', List.contains_eq_mem, decide_eq_false_iff_not]
  exact Iff.rfl

/-- The request that a datagram carries. -/
def vhpRequest (port : Nat) (mac : BitVec 48) (ip : Word) (udp : BitVec 16) (b : List Byte) : VReq :=
  { port := port, ip := ip, udp := udp, vtype := leAt b 3 1, seq := BitVec.ofNat 32 (leAt b 4 4),
    crc := BitVec.ofNat 32 (leAt b (b.length - 4) 4), payload := (b.drop 16).take (leAt b 8 2), mac := mac, ports := [(port, mac)] }

theorem vhpReceive_damaged (d : Dev) (port : Nat) (mac : BitVec 48) (ip : Word) (udp : BitVec 16) {b : List Byte} (h : ¬vhpIntact b = true) :
    d.vhpReceive port mac ip udp b = d.incReg Adr.hostRxdrop := if_pos (by rw [Bool.eq_false_iff.mpr h]; rfl)

theorem vhpReceive_header (d : Dev) (port : Nat) (mac : BitVec 48) (ip : Word) (udp : BitVec 16) {b : List Byte} (h : vhpIntact b = true)
    (hc : vhpHeader b ≠ 0) : answeredOnce d (vhpRequest port mac ip udp b)
      (vhpDatagram ((leAt b 3 1 + 0x80) % 256) (BitVec.ofNat 32 (leAt b 4 4)) (vhpHeader b) d.sys.frame []) (d.vhpReceive port mac ip udp b) := by
  have he : d.vhpReceive port mac ip udp b = d.sendVhp port mac ip udp _ := (if_neg (by rw [h]; nofun)).trans (if_pos hc)
  rw [he]
  exact sendVhp_outcome d port mac ip udp _

theorem vhpReceive_request (d : Dev) (port : Nat) (mac : BitVec 48) (ip : Word) (udp : BitVec 16) {b : List Byte} (h : vhpIntact b = true)
    (hc : vhpHeader b = 0) : (∀ x, (d.host.endpoint ip udp).find (BitVec.ofNat 32 (leAt b 4 4)) = some x →
        d.vhpReceive port mac ip udp b = d.vhpRepeat (vhpRequest port mac ip udp b) x) ∧
      ((d.host.endpoint ip udp).find (BitVec.ofNat 32 (leAt b 4 4)) = none →
        d.vhpReceive port mac ip udp b = d.vhpNew (vhpRequest port mac ip udp b)) := by
  have hr : ∀ o, (d.host.endpoint ip udp).find (BitVec.ofNat 32 (leAt b 4 4)) = o → d.vhpReceive port mac ip udp b =
      match o with
      | some x => d.vhpRepeat (vhpRequest port mac ip udp b) x
      | none => d.vhpNew (vhpRequest port mac ip udp b) := by
    rintro o rfl
    exact (if_neg (by rw [h]; nofun)).trans (if_neg (not_not.mpr hc))
  exact ⟨fun x hx => hr _ hx, fun hn => hr _ hn⟩

/-! ### ROAST -/

theorem roastTestNow_outcome (d : Dev) (h : d.sys.roastTest < 12) : 1 ≤ d.roastTestNow.2 ∧ d.sys.roastTest ≤ d.roastTestNow.2 ∧
    d.roastTestNow.2 < 12 ∧ d.roastTestNow.1.sys.roastTest = d.roastTestNow.2 := by
  unfold Dev.roastTestNow
  extract_lets lo t old e
  have hlo : 1 ≤ lo ∧ d.sys.roastTest ≤ lo ∧ lo < 12 := ⟨Nat.le_max_left _ _, Nat.le_max_right _ _, Nat.max_lt.mpr ⟨by decide, h⟩⟩
  obtain ⟨h1, h2, h3⟩ := hlo
  have ht : lo ≤ t ∧ t < 12 := by
    have := Nat.mod_lt (Config.roastTest d.sys.free) (show 0 < 12 - lo by omega)
    exact ⟨Nat.le_add_right _ _, by unfold t; omega⟩
  refine ⟨h1.trans ht.1, h2.trans ht.1, ht.2, ?_⟩
  change (if 7 < t then e.wipeDram else e).sys.roastTest = t
  split <;> rfl

/-- Settles O43: reception by the state, and a request by the checks of R317. -/
theorem vhpDatagrams : Obligations.VhpDatagrams := by
  intro s x ip udp b d h port i taken n len vtype seq crc payload q intact code response answered held accept e roast
  have htake : linkUdpTaken x h b.length 48200 = true ↔ taken := by
    rw [linkUdpTaken_iff, linkIpTaken_iff]
    simp only [taken, port, and_assoc]
    tauto
  have hint : vhpIntact b = true ↔ intact := vhpIntact_iff b
  have hcode : vhpHeader b = code := vhpHeader_eq b
  have hq : vhpRequest port.val x.src ip udp b = q := rfl
  have hport : h.seen port.val d.now = e.host := rfl
  have hans (bytes : List Byte) (f : Dev) (hf : answeredOnce e q bytes f) : answered bytes f := by
    obtain ⟨h1, h2⟩ := hf
    refine ⟨h1.trans (seen_queue h _ _), h2.trans ?_⟩
    rw [vhpTx, ← hport, seen_tx, seen_ip]
  have hheld : (e.host.endpoint ip udp).find seq = held := by
    rw [← hport, seen_endpoint]
  have hopen (hu : d.hostPortsUp = true) (ht : taken) : ¬(!s.dev.hostPortsUp || !linkUdpTaken x s.dev.host b.length 48200) = true := by
    rw [show s.dev.hostPortsUp = true from hu, htake.mpr ht]
    nofun
  have hlen : e.host.queue.length = h.queue.length := congrArg List.length (seen_queue h _ _)
  refine ⟨fun hr => roastTestNow_outcome e hr, fun hu => ?_, fun hu ht => ?_, fun hu ht hf => ?_, fun hu ht hf hp => ?_, fun hu ht hf hp => ?_⟩
  · have hc : (!s.dev.hostPortsUp || !linkUdpTaken x s.dev.host b.length 48200) = true := by
      rw [show s.dev.hostPortsUp = false from hu]
      rfl
    exact (if_pos hc).trans (by rw [frameCame_down (Bool.eq_false_iff.mp hu)])
  · have hc : (!s.dev.hostPortsUp || !linkUdpTaken x s.dev.host b.length 48200) = true := by
      rw [Bool.eq_false_iff.mpr (mt htake.mp ht)]
      exact Bool.or_true _
    exact (if_pos hc).trans (by rw [frameCame_up hu]; rfl)
  · exact (if_neg (hopen hu ht)).trans (if_pos hf)
  · exact (if_neg (hopen hu ht)).trans ((if_neg (by rw [hf]; nofun)).trans (if_pos (beq_iff_eq.mpr hp)))
  · have hx : exec i s = .next { s with dev := e.vhpReceive port.val x.src ip udp b } :=
      (if_neg (hopen hu ht)).trans ((if_neg (by rw [hf]; nofun)).trans (if_neg (mt beq_iff_eq.mp hp)))
    have hxr (f : Dev) (hf : e.vhpReceive port.val x.src ip udp b = f) : exec i s = .next { s with dev := f } := hf ▸ hx
    refine ⟨fun hn => ?_, fun hi hc => ?_, fun hi hc => ?_⟩
    · rw [hx, vhpReceive_damaged _ _ _ _ _ (mt hint.mp hn)]
    · rw [← hcode] at hc ⊢
      exact answers_next hx (hans _ _ (vhpReceive_header e port.val x.src ip udp (hint.mpr hi) hc))
    · obtain ⟨hrep, hnew⟩ := vhpReceive_request e port.val x.src ip udp (hint.mpr hi) (hcode.trans hc)
      rw [show (e.host.endpoint ip udp).find (BitVec.ofNat 32 (leAt b 4 4)) = held from hheld] at hrep hnew
      refine ⟨fun y bytes hy hc hr => ?_, fun y hy hc hr => ?_, fun y hy hc => ?_, fun hn hl => ?_, fun hn hl ha => ?_, fun hn hl ha hs => ?_,
        fun hn hl ha hs => ?_⟩
      · obtain ⟨h1, -, -⟩ := vhpRepeat_outcome e q y
        exact answers_next (hxr _ (hrep y hy)) (hans _ _ (h1 bytes hc hr))
      · obtain ⟨-, h2, -⟩ := vhpRepeat_outcome e q y
        obtain ⟨htx, hqu⟩ := h2 hc hr
        refine answers_next (hxr _ (hrep y hy)) ⟨htx.trans (seen_tx h _ _), hqu.trans ?_⟩
        rw [copyOn_queue, ← hport, seen_queue]
      · obtain ⟨-, -, h3⟩ := vhpRepeat_outcome e q y
        exact answers_next (hxr _ (hrep y hy)) (hans _ _ (h3 hc))
      · obtain ⟨h1, -, -, -⟩ := vhpNew_outcome e q rfl
        exact answers_next (hxr _ (hnew hn)) (hans _ _ (h1 (hlen ▸ hl)))
      · obtain ⟨-, h2, -, -⟩ := vhpNew_outcome e q rfl
        exact answers_next (hxr _ (hnew hn)) (hans _ _ (h2 (hlen ▸ hl) ha))
      · obtain ⟨-, -, h3, -⟩ := vhpNew_outcome e q rfl
        exact answers_next (hxr _ (hnew hn)) (hans _ _ (h3 (hlen ▸ hl) ha hs))
      · obtain ⟨-, -, -, h4⟩ := vhpNew_outcome e q rfl
        obtain ⟨g1, g2, g3, g4, g5⟩ := h4 (hlen ▸ hl) ha hs
        exact answers_next (hxr _ (hnew hn)) ⟨g1.trans (congrArg (· ++ [q]) (seen_queue h _ _)), g2.trans (seen_tx h _ _), g3, g4, g5⟩

end Sys2Proof.Proofs
end

section
/-! O44: the response of a request, what each state and role accepts, and the request's command at the front (R314, R318–R321). -/

namespace Sys2Proof.Proofs

open Sys2Proof.Machine Sys2Proof.Safety

/-! ### The response -/

/-- A module in which the host unit alone has moved. -/
def sameButHost (d e : Dev) : Prop := ∃ h, e = { d with host := h }

theorem sendVhp_all (l : List (Nat × BitVec 48)) (d : Dev) (ip : Word) (udp : BitVec 16) (bytes : List Byte) :
    let e := l.foldl (fun d p => d.sendVhp p.1 p.2 ip udp bytes) d
    e.host.tx = d.host.tx ++ l.map (fun p => vhpTx d.host p.1 p.2 ip udp bytes) ∧ e.host.queue = d.host.queue ∧
      (∀ i u, e.host.endpoint i u = d.host.endpoint i u) ∧ sameButHost d e := by
  induction l generalizing d with
  | nil => exact ⟨(List.append_nil _).symm, rfl, fun _ _ => rfl, d.host, rfl⟩
  | cons p l ih =>
    obtain ⟨h1, h2, h3, g, h4⟩ := ih (d.sendVhp p.1 p.2 ip udp bytes)
    obtain ⟨hq, ht⟩ := sendVhp_outcome d p.1 p.2 ip udp bytes
    have hip (k : Nat) : (d.sendVhp p.1 p.2 ip udp bytes).host.ip k = d.host.ip k := seen_ip d.host p.1 d.now k
    refine ⟨?_, h2.trans hq, fun i u => (h3 i u).trans (seen_endpoint d.host p.1 d.now i u), g, h4⟩
    rw [List.foldl_cons, h1, ht, List.append_assoc]
    unfold vhpTx
    simp only [hip, List.map_cons, List.singleton_append]

/-- The response held with its SEQ. -/
theorem answer_find (h : HostUnit) (q : VReq) (bytes : List Byte) {y : Held} (hy : (h.endpoint q.ip q.udp).find q.seq = some y)
    (hc : y.crc = q.crc) : ((h.answer q bytes).endpoint q.ip q.udp).find q.seq = some { y with response := some bytes } := by
  let put (x : Held) : Held := if x.seq == q.seq && x.crc == q.crc then { x with response := some bytes } else x
  let put' (e : Endpoint) : Endpoint := if e.ip == q.ip && e.udp == q.udp then { e with held := e.held.map put } else e
  have hput (x : Held) : (put x).seq = x.seq := by
    unfold put
    split <;> rfl
  have hput' (e : Endpoint) : (put' e).ip = e.ip ∧ (put' e).udp = e.udp := by
    unfold put'
    split <;> exact ⟨rfl, rfl⟩
  have hfind : (h.answer q bytes).endpoints.find? (fun e => e.ip == q.ip && e.udp == q.udp) =
      (h.endpoints.find? fun e => e.ip == q.ip && e.udp == q.udp).map put' := by
    change (h.endpoints.map put').find? _ = _
    rw [List.find?_map]
    refine congrArg (Option.map put') (congrArg (List.find? · h.endpoints) (funext fun e => ?_))
    rw [Function.comp_apply, (hput' e).1, (hput' e).2]
  have hendp : (h.answer q bytes).endpoint q.ip q.udp = { h.endpoint q.ip q.udp with held := (h.endpoint q.ip q.udp).held.map put } := by
    unfold HostUnit.endpoint
    rw [hfind]
    cases he : h.endpoints.find? (fun e => e.ip == q.ip && e.udp == q.udp) with
    | none => rfl
    | some e => exact if_pos (List.find?_some he)
  rw [hendp]
  unfold Endpoint.find at hy ⊢
  dsimp only
  rw [List.find?_map, show ((fun x : Held => x.seq == q.seq) ∘ put) = fun x => x.seq == q.seq from funext fun x => congrArg (· == q.seq) (hput x), hy]
  refine congrArg some (if_pos ?_)
  have hs := List.find?_some hy
  exact (Bool.and_eq_true ..).mpr ⟨hs, beq_iff_eq.mpr hc⟩

theorem respond_outcome (d : Dev) (q : VReq) (st : Nat) (payload : List Byte) (frame : Word) :
    let bytes := vhpDatagram ((q.vtype + 0x80) % 256) q.seq st frame payload
    let e := d.respond q st payload frame
    e.host.queue = d.host.queue.drop 1 ∧ e.host.executing = false ∧ e.reg Adr.hostRxcnt = satInc (d.reg Adr.hostRxcnt) ∧
      e.host.tx = d.host.tx ++ (q.ports.map fun p => vhpTx d.host p.1 p.2 q.ip q.udp bytes) ∧ e.sigs = d.sigs ∧ e.axes = d.axes ∧
      e.cores = d.cores ∧ ∀ y, (d.host.endpoint q.ip q.udp).find q.seq = some y → y.crc = q.crc →
        (e.host.endpoint q.ip q.udp).find q.seq = some { y with response := some bytes } := by
  intro bytes e
  obtain ⟨h1, h2, h3, g, h4⟩ := sendVhp_all q.ports (d.modHost fun h => h.answer q bytes) q.ip q.udp bytes
  let sent : Dev := q.ports.foldl (fun d p => d.sendVhp p.1 p.2 q.ip q.udp bytes) (d.modHost fun h => h.answer q bytes)
  let done : Dev := (sent.modHost fun h => { h with queue := h.queue.drop 1, executing := false }).incReg Adr.hostRxcnt
  have hl : Logs done e := (Logs.refl done).countEvent 13 0 1
  have hsent : sent = { d with host := g } := h4
  refine ⟨?_, ?_, ?_, ?_, ?_, ?_, ?_, fun y hy hc => ?_⟩
  · rw [hl.host]
    exact congrArg (List.drop 1) h2
  · rw [hl.host]
    rfl
  · rw [hl.reg _ (fixedReg_of (by decide) (by decide)).1, reg_incReg_self]
    change satInc (sent.reg Adr.hostRxcnt) = _
    rw [hsent]
    rfl
  · rw [hl.host]
    exact h1
  · rw [hl.sigs]
    change sent.sigs = d.sigs
    rw [hsent]
  · rw [hl.axes]
    change sent.axes = d.axes
    rw [hsent]
  · rw [hl.cores]
    change sent.cores = d.cores
    rw [hsent]
  · rw [hl.host]
    have he : sent.host.endpoint q.ip q.udp = _ := h3 q.ip q.udp
    change (sent.host.endpoint q.ip q.udp).find q.seq = _
    rw [he]
    exact answer_find d.host q bytes hy hc

/-! ### Acceptance -/

theorem vhpAccept_roast {d : Dev} (h : d.sys.power = .roast) (t : Nat) (p : List Byte) :
    (d.vhpAccept t p = 0 ↔ t = 0x01 ∨ t = 0x07) ∧ (d.vhpAccept t p = 0 ∨ d.vhpAccept t p = 0x500A) := by
  unfold Dev.vhpAccept
  rw [if_pos (beq_iff_eq.mpr h)]
  split
  next ht => exact ⟨iff_of_true rfl ht, .inl rfl⟩
  next ht => exact ⟨iff_of_false (by decide) ht, .inr rfl⟩

theorem vhpAccept_standby {d : Dev} (h : d.sys.power ≠ .roast) (hs : d.pair.role = .standby) (t : Nat) (p : List Byte) :
    d.vhpAccept t p = if t ∈ [0x01, 0x07, 0x03, 0x11, 0x20, 0x40, 0x41] ∨ t = 0x02 ∧ inPairBlock p = true then 0 else 0x5009 := by
  unfold Dev.vhpAccept
  rw [if_neg (mt beq_iff_eq.mp h), if_pos (beq_iff_eq.mpr hs)]
  refine if_congr ?_ rfl rfl
  rw [Bool.or_eq_true, Bool.and_eq_true, List.contains_iff_mem, beq_iff_eq]

theorem vhpAccept_other {d : Dev} (h : d.sys.power ≠ .roast) (hs : d.pair.role ≠ .standby) (t : Nat) (p : List Byte) : d.vhpAccept t p = 0 := by
  unfold Dev.vhpAccept
  rw [if_neg (mt beq_iff_eq.mp h), if_neg (mt beq_iff_eq.mp hs)]

/-! ### The command of a request -/

/-- A command serves the requests of a type and form: one that is not accepted is refused, and with no such request it does nothing. -/
def Serving (s : State) (q : VReq) (t : Nat) (form : List Byte → Prop) (i : Instr) : Prop :=
  (fronts s q → q.vtype = t → form q.payload → s.dev.vhpAccept q.vtype q.payload ≠ 0 →
    exec i s = .next { s with dev := s.dev.respond q (s.dev.vhpAccept q.vtype q.payload) [] s.dev.sys.frame }) ∧
  ((∀ y, fronts s y → y.vtype = t → ¬form y.payload) → Ignored i s)

theorem serving_of {s : State} {q : VReq} {t : Nat} {form : List Byte → Prop} {i : Instr} {test : VReq → Bool}
    {f : Dev → VReq → Dev × Nat × List Byte} (hi : exec i s = vhpServe test f s) (ht : ∀ y, test y = true ↔ y.vtype = t ∧ form y.payload) :
    Serving s q t form i :=
  ⟨fun hq hv hf ha => hi.trans (vhpServe_refused hq ((ht q).mpr ⟨hv, hf⟩) ha),
    fun h => hi.trans (vhpServe_ignored fun y hy => Bool.eq_false_iff.mpr fun e => h y hy ((ht y).mp e).1 ((ht y).mp e).2)⟩

theorem serving_type {s : State} {q : VReq} {t : Nat} {i : Instr} {f : Dev → VReq → Dev × Nat × List Byte}
    (hi : exec i s = vhpServe (fun y => y.vtype == t) f s) : Serving s q t (fun _ => True) i :=
  serving_of hi fun _ => beq_iff_eq.trans (and_true _).to_iff.symm

theorem serving_byte {s : State} {q : VReq} {t off v : Nat} {i : Instr} {f : Dev → VReq → Dev × Nat × List Byte}
    (hi : exec i s = vhpServe (fun y => y.vtype == t && leAt y.payload off 1 == v) f s) : Serving s q t (fun p => leAt p off 1 = v) i :=
  serving_of hi fun _ => by rw [Bool.and_eq_true, beq_iff_eq, beq_iff_eq]

theorem serving_state {s : State} {q : VReq} {form : List Byte → Prop} {i : Instr} {target : Nat → Bool} {f : Dev → VReq → Dev}
    (hi : exec i s = stateServe target f s) (ht : ∀ p, target (leAt p 0 1) = true ↔ form p) : Serving s q 0x05 form i := by
  have htest (y : VReq) : (y.vtype == 0x05 && target (leAt y.payload 0 1)) = true ↔ y.vtype = 0x05 ∧ form y.payload := by
    rw [Bool.and_eq_true, beq_iff_eq, ht]
  refine ⟨fun hq hv hf ha => hi.trans ?_, fun h => hi.trans ?_⟩
  · unfold stateServe
    rw [vhpFront_of_fronts hq, if_pos ((htest q).mpr ⟨hv, hf⟩)]
    simp only [ha, ne_eq, not_false_eq_true, if_true]
  · unfold stateServe
    cases hy : s.dev.vhpFront (fun q => q.vtype == 0x05 && target (leAt q.payload 0 1)) with
    | none => rfl
    | some y =>
      obtain ⟨hf, ht⟩ := fronts_of_vhpFront hy
      obtain ⟨h1, h2⟩ := (htest y).mp ht
      exact absurd h2 (h y hf h1)

/-! The commands of a STATE request. -/

section State

variable (s : State)

theorem exec_stateOff : exec .stateOff s = stateServe (fun t => t == 0) (fun d _ => d.shutDown .off) s := rfl

theorem exec_stateKeep : exec .stateKeep s = stateServe (fun t => t == 1) (fun d _ => d.shutDown .keep) s := rfl

theorem exec_stateIdle : exec .stateIdle s = stateServe (fun t => t == 2)
    (fun d q => if d.sys.power == .run then d.holdFront.depart else d.answerState q 0 .idle d.sys.frame) s := rfl

theorem exec_stateRun : exec .stateRun s = stateServe (fun t => t == 3)
    (fun d q => if d.sys.power == .run then d.answerState q 0 .run d.sys.frame else d.enterRun q) s := rfl

theorem exec_stateRoast : exec .stateRoast s = stateServe (fun t => t == 4) (fun d _ => d.shutDown .roast) s := rfl

theorem exec_stateInvalidTarget : exec .stateInvalidTarget s = stateServe (fun t => decide (4 < t))
    (fun d q => d.answerState q 0x0201 d.sys.power d.sys.frame) s := rfl

end State

/-- Settles O44: the response, acceptance by state and role, and each request's command. -/
theorem vhpResponses : Obligations.VhpResponses := by
  intro s q status payload frame ok random d any byte rows d' bytes refused standby
  obtain ⟨h1, h2, h3, h4, h5, h6, h7, h8⟩ := respond_outcome d q status payload frame
  refine ⟨h1, h2, h3, h4, h5, h6, h7, h8, fun t p => ⟨fun hr => vhpAccept_roast hr t p, fun hs ht => ?_, fun hs ht => ?_, fun hs => ?_,
    fun hr hs => vhpAccept_other hr hs t p⟩, fun r hr => ?_⟩
  · rw [vhpAccept_standby hs.1 hs.2, if_neg]
    simp only [List.mem_cons, List.not_mem_nil, or_false] at ht ⊢
    omega
  · rw [vhpAccept_standby hs.1 hs.2, if_pos]
    simp only [List.mem_cons, List.not_mem_nil, or_false] at ht ⊢
    omega
  · have hb : inPairBlock p = true ↔ 0x270000 ≤ leAt p 0 4 ∧ leAt p 0 4 + 4 * leAt p 4 2 ≤ 0x280000 := by
      rw [inPairBlock, Bool.and_eq_true, decide_eq_true_eq, decide_eq_true_eq]
    rw [vhpAccept_standby hs.1 hs.2, ← hb]
    split
    next h => exact ⟨iff_of_true rfl (h.resolve_left (by decide)).2, .inl rfl⟩
    next h => exact ⟨iff_of_false (by decide) fun e => h (.inr ⟨rfl, e⟩), .inr rfl⟩
  · have hbyte (v : Nat) (p : List Byte) : (leAt p 0 1 == v) = true ↔ byte 0 v p := beq_iff_eq
    have hrows : ∀ r ∈ rows, Serving s q r.1 r.2.1 r.2.2 := by
      simp only [rows, List.forall_mem_cons]
      exact ⟨serving_type rfl, serving_type rfl, serving_type rfl, serving_byte rfl, serving_byte rfl, serving_byte rfl, serving_byte rfl,
        serving_state (exec_stateOff s) (hbyte 0), serving_state (exec_stateKeep s) (hbyte 1), serving_state (exec_stateIdle s) (hbyte 2),
        serving_state (exec_stateRun s) (hbyte 3), serving_state (exec_stateRoast s) (hbyte 4),
        serving_state (exec_stateInvalidTarget s) fun _ => decide_eq_true_iff, serving_type rfl, serving_type rfl, serving_type rfl,
        serving_type rfl, serving_byte rfl, serving_byte rfl, serving_byte rfl, serving_type rfl, serving_type rfl, serving_type rfl,
        serving_type rfl, serving_type rfl, serving_type rfl, nofun⟩
    exact hrows r hr

end Sys2Proof.Proofs
end

section
/-! SUPPORT. Numbers in bytes, and the records that a read finds (R6, R365). -/

namespace Sys2Proof.Proofs

open Sys2Proof.Machine Sys2Proof.Safety

/-! ### Numbers in bytes -/

theorem leBytes_succ (n v : Nat) : leBytes (n + 1) v = BitVec.ofNat 8 v :: leBytes n (v / 256) := by
  unfold leBytes
  rw [List.range_succ_eq_map, List.map_cons, List.map_map]
  refine congrArg₂ List.cons rfl (List.map_congr_left fun i _ => ?_)
  rw [Function.comp_apply, Nat.mul_succ, Nat.add_comm, Nat.shiftRight_add, Nat.shiftRight_eq_div_pow v 8]

theorem leNat_leBytes (n v : Nat) : leNat (leBytes n v) = v % 256 ^ n := by
  induction n generalizing v with
  | zero => exact (Nat.mod_one v).symm
  | succ n ih =>
    rw [leBytes_succ, leNat, ih, BitVec.toNat_ofNat, show 256 ^ (n + 1) = 256 * 256 ^ n from Nat.pow_succ']
    exact (Nat.mod_mul (x := v) (a := 256)).symm

/-- A field of a byte sequence, read at its place. -/
theorem leAt_append (b : List Byte) (n v : Nat) (c : List Byte) : leAt (b ++ (leBytes n v ++ c)) b.length n = v % 256 ^ n := by
  rw [← leNat_leBytes]
  unfold leAt
  congr 1
  refine List.ext_getElem (by simp) fun i h1 h2 => ?_
  have hi : i < n := by simpa using h1
  rw [List.getElem_map, List.getElem_range, List.getD_append_right _ _ _ _ (Nat.le_add_right _ _), Nat.add_sub_cancel_left,
    List.getD_append _ _ _ _ (by simpa using hi), List.getD_eq_getElem _ _ (by simpa using hi)]

/-! ### Records read -/

section Records

variable {r : Recorder} {seq : Word} {off : Nat}

theorem length_recordPayload (q : Word) (o : Nat) (data : List Byte) (nq : Word) (no flags : Nat) :
    (recordPayload q o data nq no flags).length = 16 + data.length := by
  unfold recordPayload
  simp only [List.length_append, length_leBytes, List.length_cons, List.length_nil]

/-- The fields of a record payload. -/
theorem recordPayload_fields (q : Word) (o : Nat) (data : List Byte) (nq : Word) (no flags : Nat) :
    let p := recordPayload q o data nq no flags
    leAt p 0 4 = q.toNat ∧ leAt p 4 2 = o % 65536 ∧ leAt p 14 1 = flags % 256 ∧ p.drop 16 = data := by
  intro p
  let h1 := leBytes 4 q.toNat
  let h2 := h1 ++ leBytes 2 o ++ leBytes 2 data.length ++ leBytes 4 nq.toNat ++ leBytes 2 no
  have hq : p = [] ++ (leBytes 4 q.toNat ++ (leBytes 2 o ++ (leBytes 2 data.length ++ (leBytes 4 nq.toNat ++ (leBytes 2 no ++
      (leBytes 1 flags ++ ([0] ++ data))))))) := by
    simp only [p, recordPayload, List.append_assoc, List.nil_append]
  have ho : p = leBytes 4 q.toNat ++ (leBytes 2 o ++ (leBytes 2 data.length ++ (leBytes 4 nq.toNat ++ (leBytes 2 no ++
      (leBytes 1 flags ++ ([0] ++ data)))))) := hq
  have hf : p = h2 ++ (leBytes 1 flags ++ ([0] ++ data)) := by
    simp only [p, recordPayload, h2, h1, List.append_assoc]
  refine ⟨?_, ?_, ?_, ?_⟩
  · rw [hq]
    exact (leAt_append [] 4 _ _).trans (Nat.mod_eq_of_lt q.isLt)
  · rw [ho]
    exact leAt_append h1 2 _ _
  · rw [hf]
    exact leAt_append h2 1 _ _
  · have hd : p = (h2 ++ (leBytes 1 flags ++ [0])) ++ data := by rw [hf]; simp only [List.append_assoc]
    rw [hd]
    exact List.drop_left' (by simp [h2, h1])

/-- What a read gathers: the bytes of the records from an offset on, up to the room. -/
theorem gatherRecords_bytes (l : List Record) (off room : Nat) :
    (gatherRecords l off room).1 = ((l.head?.elim [] (·.bytes.drop off)) ++ (l.drop 1).flatMap (·.bytes)).take room := by
  induction l generalizing off room with
  | nil => simp [gatherRecords]
  | cons x l ih =>
    unfold gatherRecords
    split
    next h =>
      subst h
      rfl
    next h0 =>
      extract_lets b y
      split
      next h => exact (List.take_append_of_le_length (Nat.le_of_lt h)).symm
      next h =>
        change b ++ y.1 = (b ++ l.flatMap (·.bytes)).take room
        rw [List.take_append, List.take_of_length_le (Nat.not_lt.mp h), show y.1 = _ from ih 0 _]
        cases l with
        | nil => rfl
        | cons z l => rfl

theorem gatherRecords_length (l : List Record) (off room : Nat) : (gatherRecords l off room).1.length ≤ room := by
  rw [gatherRecords_bytes]
  exact List.length_take_le _ _

/-- What a read answers: a payload of at most 1,392 bytes of records. -/
theorem readRecords_payload (r : Recorder) (seq : Word) (off : Nat) : ∃ q o data nq no flags,
    r.readRecords seq off = recordPayload q o data nq no flags ∧ data.length ≤ 1392 := by
  unfold Recorder.readRecords
  extract_lets after gone off1 past l off2
  clear_value l
  cases l with
  | nil => exact ⟨_, _, _, _, _, _, rfl, Nat.zero_le _⟩
  | cons x l => exact ⟨_, _, _, _, _, _, rfl, gatherRecords_length _ _ _⟩

theorem readRecords_length (r : Recorder) (seq : Word) (off : Nat) :
    16 ≤ (r.readRecords seq off).length ∧ (r.readRecords seq off).length ≤ 1408 := by
  obtain ⟨q, o, data, nq, no, flags, h, hl⟩ := readRecords_payload r seq off
  rw [h, length_recordPayload]
  omega

/-- An empty recorder answers with the mark of nothing held. -/
theorem readRecords_empty (h : r.seed ++ r.chaff = []) (q : Word) (o : Nat) : leAt (r.readRecords q o) 14 1 = 2 := by
  have hf : r.readFrom q = [] := by
    unfold Recorder.readFrom
    rw [h]
    extract_lets all ahead later least
    split
    next => rfl
    next => split <;> rfl
  unfold Recorder.readRecords
  rw [hf]
  exact (recordPayload_fields _ _ _ _ _ _).2.2.1

/-- A record that is held is found with those that follow it. -/
theorem readFrom_held {before after : List Record} {x : Record} (h : r.seed ++ r.chaff = before ++ x :: after)
    (hb : ∀ z ∈ before, z.seq ≠ x.seq) : r.readFrom x.seq = x :: after := by
  unfold Recorder.readFrom
  rw [h]
  extract_lets all ahead later least
  unfold all
  have hany : ((before ++ x :: after).any fun z => z.seq == x.seq) = true :=
    List.any_eq_true.mpr ⟨x, by simp, beq_iff_eq.mpr rfl⟩
  rw [if_pos hany, List.dropWhile_append_of_pos fun z hz => bne_iff_ne.mpr (hb z hz)]
  exact List.dropWhile_cons_of_neg (by simp)

theorem readRecords_held {before after : List Record} {x : Record} (h : r.seed ++ r.chaff = before ++ x :: after)
    (hb : ∀ z ∈ before, z.seq ≠ x.seq) {o : Nat} (ho : o < x.size) :
    let p := r.readRecords x.seq o
    leAt p 0 4 = x.seq.toNat ∧ leAt p 4 2 = o % 65536 ∧ leAt p 14 1 = 0 ∧
      p.drop 16 = ((x.bytes.drop o ++ after.flatMap (·.bytes)).take 1392) := by
  intro p
  have hp : ∃ nq no, p = recordPayload x.seq o (gatherRecords (x :: after) o 1392).1 nq no 0 := by
    unfold p Recorder.readRecords
    rw [readFrom_held h hb]
    have hs : (x.seq != x.seq) = false := bne_self_eq_false _
    have hn : decide (x.size ≤ o) = false := decide_eq_false (Nat.not_le.mpr ho)
    simp only [hs, hn, Bool.false_eq_true, if_false]
    exact ⟨_, _, rfl⟩
  obtain ⟨nq, no, hp⟩ := hp
  obtain ⟨h1, h2, h3, h4⟩ := recordPayload_fields x.seq o (gatherRecords (x :: after) o 1392).1 nq no 0
  rw [hp]
  exact ⟨h1, h2, h3, h4.trans (gatherRecords_bytes _ _ _)⟩

end Records

end Sys2Proof.Proofs
end

section
/-! OBLIGATION O45. The requests that read what the module holds, and REG.WRITE (R315, R329). -/

namespace Sys2Proof.Proofs

open Sys2Proof.Machine Sys2Proof.Safety

/-! ### Register requests -/

section Registers

variable {d : Dev} {q : VReq}

theorem addrStatus_zero_iff (a : Nat) : addrStatus a = 0 ↔ inBlock a = true ∧ a % 4 = 0 := by
  unfold addrStatus
  cases inBlock a
  · simp
  · by_cases h : a % 4 = 0 <;> simp [h]

theorem addrStatus_cases (a : Nat) : addrStatus a = 0 ∨ addrStatus a = 0x0101 ∨ addrStatus a = 0x0102 := by
  unfold addrStatus
  split
  · exact .inr (.inl rfl)
  · split
    · exact .inr (.inr rfl)
    · exact .inl rfl

theorem addrsStatus_good {l : List Nat} (h : ∀ a ∈ l, inBlock a = true ∧ a % 4 = 0) : addrsStatus l = 0 := by
  unfold addrsStatus
  rw [List.find?_eq_none.mpr fun a ha => by simp [(addrStatus_zero_iff a).mpr (h a ha)]]

theorem addrsStatus_bad {l : List Nat} (h : ¬∀ a ∈ l, inBlock a = true ∧ a % 4 = 0) :
    addrsStatus l = 0x0101 ∨ addrsStatus l = 0x0102 := by
  unfold addrsStatus
  split
  next a ha =>
    have hn : addrStatus a ≠ 0 := by simpa using List.find?_some ha
    exact (addrStatus_cases a).resolve_left hn
  next ha =>
    refine absurd (fun a hm => (addrStatus_zero_iff a).mp ?_) h
    simpa using List.find?_eq_none.mp ha a hm

/-- The words of a list of registers, read one after another. -/
def readWords (d : Dev) (l : List Nat) : Dev × List Byte :=
  l.foldl (fun (r : Dev × List Byte) a => ((r.1.readRegLatch a).1, r.2 ++ leBytes 4 (r.1.readRegLatch a).2.toNat)) (d, [])

theorem readWords_fst (d : Dev) (l : List Nat) : (readWords d l).1 = l.foldl (fun d a => (d.readRegLatch a).1) d := by
  unfold readWords
  generalize ([] : List Byte) = b
  induction l generalizing d b with
  | nil => rfl
  | cons a l ih => exact ih _ _

theorem readRegLatch_other {a : Nat} (h : a ≠ Adr.sysOptlo) : d.readRegLatch a = (d, d.readReg a) :=
  congrArg (·, d.readReg a) (if_neg h)

/-- Words without SYS_OPTLO are read without a side effect. -/
theorem readWords_plain {l : List Nat} (h : ∀ a ∈ l, a ≠ Adr.sysOptlo) :
    readWords d l = (d, l.flatMap fun a => leBytes 4 (d.readReg a).toNat) := by
  have hb : ∀ b : List Byte, l.foldl (fun (r : Dev × List Byte) a =>
      ((r.1.readRegLatch a).1, r.2 ++ leBytes 4 (r.1.readRegLatch a).2.toNat)) (d, b) =
        (d, b ++ l.flatMap fun a => leBytes 4 (d.readReg a).toNat) := by
    induction l with
    | nil => exact fun b => congrArg (Prod.mk d) (List.append_nil b).symm
    | cons a l ih =>
      intro b
      rw [List.foldl_cons, readRegLatch_other (h a List.mem_cons_self), ih (fun x hx => h x (List.mem_cons_of_mem a hx)),
        List.append_assoc, List.flatMap_cons]
  exact hb []

theorem vhpRegRead_good (h : ∀ a ∈ q.addresses, inBlock a = true ∧ a % 4 = 0) :
    d.vhpRegRead q = ((readWords d q.addresses).1, 0, (readWords d q.addresses).2) :=
  if_neg (not_not_intro (addrsStatus_good h))

theorem vhpRegRead_bad (h : addrsStatus q.addresses ≠ 0) : d.vhpRegRead q = (d, addrsStatus q.addresses, []) := if_pos h

theorem zipIdx_map_range {α : Type} (f : Nat → α) (n : Nat) : ((List.range n).map f).zipIdx = (List.range n).map fun i => (f i, i) := by
  refine List.ext_getElem (by simp) fun i h1 h2 => by simp

theorem vhpRegWrite_good (h : ∀ a ∈ q.addresses, inBlock a = true ∧ a % 4 = 0) : d.vhpRegWrite q =
    ((List.range (leAt q.payload 4 2)).foldl (fun d i =>
      d.writeReg (leAt q.payload 0 4 + 4 * i) (wordOfNat (leAt q.payload (8 + 4 * i) 4))) d, 0, []) := by
  refine (if_neg (not_not_intro (addrsStatus_good h))).trans (congrArg (·, 0, []) ?_)
  unfold VReq.addresses
  rw [zipIdx_map_range, List.foldl_map]

theorem vhpRegWrite_bad (h : addrsStatus q.addresses ≠ 0) : d.vhpRegWrite q = (d, addrsStatus q.addresses, []) := if_pos h

end Registers

/-! ### Capture buffers -/

section Captures

variable {d : Dev}

theorem countEvent_none_regs (d : Dev) (ev unit : Nat) : (d.countEvent ev unit 0).regs = d.regs := by
  unfold Dev.countEvent
  refine List.foldlRecOn (motive := fun e : Dev => e.regs = d.regs) d.regs _ rfl fun e he r _ => ?_
  split
  · rw [← he]
    unfold Dev.bumpCounter
    extract_lets v e1
    have hv : ¬2 ^ 32 ≤ v := Nat.not_le.mpr (smGet 0 e.trace.counters _).isLt
    rw [if_neg hv]
  · exact he

theorem captureRead_unconfigured {n : Nat} (h : d.axConfigured n = false) (c : Word) (k : Nat) : d.captureRead n c k = (0x2821, []) :=
  if_pos (by rw [h]; rfl)

theorem captureRead_none {n : Nat} {c : Word} (h : d.axConfigured n = true)
    (hb : (d.axis n).cycle.buffers.find? (fun b => b.2.cycle == c) = none) (k : Nat) : d.captureRead n c k = (0x2820, []) := by
  unfold Dev.captureRead
  rw [if_neg (by rw [h]; nofun), hb]

theorem captureRead_held {n : Nat} {c : Word} {b : Nat × Capture} (h : d.axConfigured n = true)
    (hb : (d.axis n).cycle.buffers.find? (fun b => b.2.cycle == c) = some b) (k : Nat) :
    let l := (b.2.entries.reverse.drop k).take 350
    d.captureRead n c k = (0, leBytes 4 b.2.count ++ leBytes 2 l.length ++
      [BitVec.ofNat 8 (b.2.truncated.toNat + 2 * b.2.inProgress.toNat + 4 * b.2.incomplete.toNat), 0] ++
        l.flatMap fun w => leBytes 4 w.toNat) := by
  intro l
  have hn : ∀ t : Bool, b2n t = t.toNat := fun t => by cases t <;> rfl
  unfold Dev.captureRead
  rw [if_neg (by rw [h]; nofun), hb]
  simp only [hn, leBytes_succ 0, show leBytes 0 _ = [] from rfl, List.append_assoc, List.cons_append, List.nil_append, l]

theorem length_words (l : List Word) : (l.flatMap fun w => leBytes 4 w.toNat).length = 4 * l.length := by
  rw [List.length_flatMap]
  simp only [length_leBytes, List.map_const', List.sum_replicate, smul_eq_mul, Nat.mul_comm]

end Captures

/-! ### The statement -/

section Requests

variable {s : State} {q : VReq}

theorem isForm {v n : Nat} (ht : q.vtype = v) (hn : leAt q.payload 0 1 = n) : (q.vtype == v && leAt q.payload 0 1 == n) = true := by
  simp [ht, hn]

theorem serves_refused {i : Instr} {f : Dev → VReq → Dev × Nat × List Byte} {v code : Nat}
    (hi : exec i s = vhpServe (fun q => q.vtype == v) f s) (hq : fronts s q) (ha : s.dev.vhpAccept q.vtype q.payload = 0)
    (hf : f s.dev q = (s.dev, code, [])) : q.vtype = v → Serves i s q code [] fun d' => d' = s.dev :=
  fun ht => serves_of hi hq (beq_iff_eq.mpr ht) ha hf rfl

theorem recReadCapture_serves {st : Nat} {p : List Byte} (hq : fronts s q) (ha : s.dev.vhpAccept q.vtype q.payload = 0)
    (ht : q.vtype = 0x20) (hn : leAt q.payload 0 1 = 1)
    (h : s.dev.captureRead (leAt q.payload 2 2) (wordOfNat (leAt q.payload 4 4)) (leAt q.payload 8 4) = (st, p)) :
    Serves .recReadCapture s q st p fun d' => d' = s.dev.dramBytes (4 * leAt q.payload 8 4) (p.length - 8) :=
  serves_of (test := fun q => q.vtype == 0x20 && leAt q.payload 0 1 == 1) (f := fun d q =>
    let r := d.captureRead (leAt q.payload 2 2) (wordOfNat (leAt q.payload 4 4)) (leAt q.payload 8 4)
    (d.dramBytes (4 * leAt q.payload 8 4) (r.2.length - 8), r.1, r.2)) rfl hq (isForm ht hn) ha
    (congrArg (fun r : Nat × List Byte => (s.dev.dramBytes (4 * leAt q.payload 8 4) (r.2.length - 8), r.1, r.2)) h) rfl

/-- A refused read of a capture buffer moves no bytes. -/
theorem recReadCapture_refused {st : Nat} (hq : fronts s q) (ha : s.dev.vhpAccept q.vtype q.payload = 0)
    (ht : q.vtype = 0x20) (hn : leAt q.payload 0 1 = 1)
    (h : s.dev.captureRead (leAt q.payload 2 2) (wordOfNat (leAt q.payload 4 4)) (leAt q.payload 8 4) = (st, [])) :
    Serves .recReadCapture s q st [] fun d' => d'.regs = s.dev.regs := by
  obtain ⟨e, he, hp⟩ := recReadCapture_serves hq ha ht hn h
  exact ⟨e, he, (congrArg Dev.regs hp).trans (countEvent_none_regs s.dev 8 0)⟩

end Requests

/-- Settles O45. -/
theorem vhpRegistersAndReads : Obligations.VhpRegistersAndReads := by
  intro s q hq ha d f first n addrs good unchanged
  refine ⟨fun ht hg hl => ?_, fun ht hg => ?_, fun a => ?_, fun ht hg => ?_, fun hg => ?_, fun ht => ?_, fun ht => ?_, fun ht => ?_,
    fun ht => ?_, fun ht hn => ?_, fun seq off => ?_, fun before x after h hb off ho => readRecords_held h hb ho, fun ht hn => ?_,
    fun ht hn => ?_⟩
  · exact serves_of (test := fun q => q.vtype == 0x01) (f := Dev.vhpRegRead) rfl hq (beq_iff_eq.mpr ht) ha
      ((vhpRegRead_good hg).trans (congrArg (fun r : Dev × List Byte => (r.1, 0, r.2)) (readWords_plain hl))) rfl
  · exact serves_of (test := fun q => q.vtype == 0x01) (f := Dev.vhpRegRead) rfl hq (beq_iff_eq.mpr ht) ha (vhpRegRead_good hg)
      (readWords_fst _ _)
  · exact ⟨rfl, fun h => congrArg Prod.fst (readRegLatch_other h), fun h => if_pos h⟩
  · exact serves_of (test := fun q => q.vtype == 0x02) (f := Dev.vhpRegWrite) rfl hq (beq_iff_eq.mpr ht) ha (vhpRegWrite_good hg) rfl
  · have hc := addrsStatus_bad hg
    have h0 : addrsStatus q.addresses ≠ 0 := by obtain h | h := hc <;> exact fun h' => absurd (h'.symm.trans h) (by decide)
    exact ⟨_, hc, serves_refused rfl hq ha (vhpRegRead_bad h0), serves_refused rfl hq ha (vhpRegWrite_bad h0)⟩
  · refine serves_of (test := fun q => q.vtype == 0x07) (f := Dev.vhpIdent) rfl hq (beq_iff_eq.mpr ht) ha (congrArg (d, 0, ·) ?_) rfl
    simp only [leBytes_succ 0, show leBytes 0 _ = [] from rfl, List.append_assoc, List.cons_append, List.nil_append]
    rfl
  · exact serves_of (test := fun q => q.vtype == 0x11)
      (f := fun d _ => (d, 0, (List.range 8).flatMap fun i => leBytes 4 (d.readReg (0x250000 + 4 * i)).toNat)) rfl hq
      (beq_iff_eq.mpr ht) ha rfl rfl
  · exact serves_of (test := fun q => q.vtype == 0x40) (f := fun d q => (d.dramBytes (leAt q.payload 0 4) (leAt q.payload 4 2), 0,
      memReads d.trace.buffer (leAt q.payload 0 4) (leAt q.payload 4 2))) rfl hq (beq_iff_eq.mpr ht) ha rfl rfl
  · exact serves_of (test := fun q => q.vtype == 0x41) (f := fun d q => (d, 0, (List.range (leAt q.payload 2 2)).flatMap fun i =>
      leBytes 4 (smGet 0 d.trace.counters (leAt q.payload 0 1 + i)).toNat)) rfl hq (beq_iff_eq.mpr ht) ha rfl rfl
  · exact serves_of (test := fun q => q.vtype == 0x20 && leAt q.payload 0 1 == 0) (f := fun d q =>
      (d, 0, d.recorder.readRecords (wordOfNat (leAt q.payload 4 4)) (leAt q.payload 2 2))) rfl hq (isForm ht hn) ha rfl rfl
  · obtain ⟨h16, h1408⟩ := readRecords_length d.recorder seq off
    exact ⟨h16, h1408, fun h _ => readRecords_empty h _ _⟩
  · refine ⟨fun h => recReadCapture_refused hq ha ht hn (captureRead_unconfigured h _ _),
      fun h hb => recReadCapture_refused hq ha ht hn (captureRead_none h hb _), fun b h hb => ?_⟩
    obtain ⟨e, he, hp⟩ := recReadCapture_serves hq ha ht hn (captureRead_held h hb _)
    refine ⟨e, he, hp.trans (congrArg (d.dramBytes _) ?_)⟩
    rw [List.length_append, length_words]
    show _ = 4 * ((b.2.entries.reverse.drop (leAt q.payload 8 4)).take 350).length
    simp only [List.length_append, length_leBytes, List.length_cons, List.length_nil]
    omega
  · exact serves_of (test := fun q => q.vtype == 0x20 && leAt q.payload 0 1 == 2) (f := fun d q =>
      (d, 0, slice (d.axis (leAt q.payload 2 2)).block (leAt q.payload 4 2) (leAt q.payload 6 2))) rfl hq (isForm ht hn) ha rfl rfl

end Sys2Proof.Proofs
end

section
/-! SUPPORT. What keeps the signals' places, and work of the CAN controllers, which leaves a FORCED signal as it was (R20, R24, R338). -/

namespace Sys2Proof.Proofs

open Sys2Proof.Machine Sys2Proof.Safety

/-- The registers that a signal's existence and region are read from. -/
def placeReg (a : Nat) : Prop := (∃ n < 512, a = Adr.axCfg n) ∨ ∃ c < 4, ∃ o ≤ 256, a = Adr.canObjcfg c o

/-- Two modules have the same signals in the same regions, whatever other registers hold. -/
structure SamePlaces (d e : Dev) : Prop where
  image : e.image = d.image
  reg : ∀ a, placeReg a → e.reg a = d.reg a

section Places

variable {d e f : Dev} {n : Nat}

theorem SameSpace.places (h : SameSpace d e) : SamePlaces d e :=
  ⟨h.image, fun a ha => h.reg a <| by
    obtain ⟨n, hn, rfl⟩ | ⟨c, hc, o, ho, rfl⟩ := ha
    · exact fixedReg_axCfg hn
    · exact fixedReg_canObjcfg hc ho⟩

theorem SamePlaces.refl (d : Dev) : SamePlaces d d := ⟨rfl, fun _ _ => rfl⟩

theorem SamePlaces.trans (h : SamePlaces d e) (g : SamePlaces e f) : SamePlaces d f :=
  ⟨g.image.trans h.image, fun a ha => (g.reg a ha).trans (h.reg a ha)⟩

theorem SamePlaces.axConfigured (h : SamePlaces d e) (n : Nat) : e.axConfigured n = d.axConfigured n := by
  unfold Dev.axConfigured
  by_cases hn : n < 512
  · rw [h.reg _ (.inl ⟨n, hn, rfl⟩)]
  · rw [decide_eq_false hn, Bool.false_and, Bool.false_and]

theorem SamePlaces.sigExists (h : SamePlaces d e) (n : Nat) : e.sigExists n = d.sigExists n := by
  unfold Dev.sigExists
  rw [h.axConfigured, h.image]

theorem SamePlaces.mirrorBit (h : SamePlaces d e) (n : Nat) : e.mirrorBit n = d.mirrorBit n := by
  unfold Dev.mirrorBit
  rw [h.image]

theorem SamePlaces.canPlace (h : SamePlaces d e) (hn : 0x81000 ≤ n ∧ n ≤ 0x84FFF) : e.canPlace n = d.canPlace n := by
  unfold Dev.canPlace Dev.canDouble
  dsimp only
  rw [h.reg _ (.inr ⟨_, by omega, _, by omega, rfl⟩), h.reg _ (.inr ⟨_, by omega, _, by omega, rfl⟩)]

theorem SamePlaces.region (h : SamePlaces d e) (n : Nat) : e.region n = d.region n := by
  unfold Dev.region
  cases hr : regionOf n with
  | can => dsimp only; rw [h.canPlace (regionOf_can hr)]
  | _ => rfl

/-- A signal is read from its place and from the store. -/
theorem SamePlaces.sig (h : SamePlaces d e) (hs : (e.sigs.find? fun p => p.1 == n) = d.sigs.find? fun p => p.1 == n) : e.sig n = d.sig n := by
  unfold Dev.sig
  rw [h.sigExists, h.region, h.image, h.mirrorBit, hs]

/-- No other register of a CAN controller says where a signal is. -/
theorem placeReg_can {a c k : Nat} (ha : placeReg a) (hk : k < 0x1000) : a ≠ 0x220000 + 0x4000 * c + k := by
  obtain ⟨n, hn, rfl⟩ | ⟨m, hm, o, ho, rfl⟩ := ha
  · unfold Adr.axCfg; omega
  · unfold Adr.canObjcfg; omega

/-- Work that keeps the places of the signals and every FORCED signal but the count of discarded writes. -/
structure Spares (d e : Dev) : Prop where
  places : SamePlaces d e
  sys : e.sys = d.sys
  kept : ∀ m, m ≠ 0x87010 → (d.sig m).forced = true → e.sig m = d.sig m

theorem Spares.refl (d : Dev) : Spares d d := ⟨.refl d, rfl, fun _ _ _ => rfl⟩

theorem Spares.trans (h : Spares d e) (g : Spares e f) : Spares d f where
  places := h.places.trans g.places
  sys := g.sys.trans h.sys
  kept m hm hf := (g.kept m hm (by rw [h.kept m hm hf]; exact hf)).trans (h.kept m hm hf)

theorem Spares.ite {p : Prop} [Decidable p] {x y : Dev} (hx : Spares d x) (hy : Spares d y) : Spares d (if p then x else y) := by
  split
  · exact hx
  · exact hy

/-- Work that leaves the store as it is. -/
theorem Spares.of_sigs (h : SamePlaces d e) (hy : e.sys = d.sys) (hs : e.sigs = d.sigs) : Spares d e :=
  ⟨h, hy, fun _ _ _ => h.sig (by rw [hs])⟩

theorem Logs.spares (h : Logs d e) : Spares d e := .of_sigs h.space.places h.sys h.sigs

theorem Spares.setCan (h : Spares d e) (c : Nat) (x : Can) : Spares d (e.setCan c x) := h.trans (.of_sigs ⟨rfl, fun _ _ => rfl⟩ rfl rfl)

theorem Spares.setReg (h : Spares d e) {a : Nat} (ha : ¬placeReg a) (v : Word) : Spares d (e.setReg a v) :=
  h.trans (.of_sigs ⟨rfl, fun _ hb => reg_setReg_other _ _ fun hc => ha (hc ▸ hb)⟩ rfl rfl)

theorem Spares.orReg (h : Spares d e) {a : Nat} (ha : ¬placeReg a) (v : Word) : Spares d (e.orReg a v) := h.setReg ha _

theorem spares_sigStore {v : Word} {valid stale : Bool} {tag : Nat} (h : n = 0x87010 ∨ (d.sig n).forced = false) :
    Spares d (d.sigStore n v valid stale tag) := by
  have hs := sigStore_sched d n v valid stale tag
  have h0 : SamePlaces d (d.setSig n (written d n v valid stale tag)) := ⟨rfl, fun _ _ => rfl⟩
  refine ⟨h0.trans hs.space.places, hs.sys, fun m hm hf => ?_⟩
  refine sig_sigStore_other d n v valid stale tag fun hmn => ?_
  obtain h | h := h
  · exact hm (hmn.trans h)
  · rw [hmn, h] at hf
    cases hf

theorem spares_hidden (d : Dev) (l : SMap (Word × Bool)) : Spares d { d with hidden := l } := .of_sigs ⟨rfl, fun _ _ => rfl⟩ rfl rfl

theorem spares_sigHome (d : Dev) (n : Nat) (v : Word) (valid stale : Bool) (tag : Nat) : Spares d (d.sigHome n v valid stale tag) := by
  unfold Dev.sigHome
  split
  next => exact (spares_hidden d _).trans (spares_sigStore (.inl rfl))
  next h =>
    refine (spares_hidden d _).trans (spares_sigStore (.inr ?_))
    exact Bool.eq_false_of_not_eq_true h

theorem Spares.devSig (h : Spares d e) (n : Nat) (v : Word) (valid stale : Bool) : Spares d (e.devSig n v valid stale) :=
  h.trans (.ite (spares_sigHome e n v valid stale 0x13) (.refl e))

/-- A transmit request sets flags, its object and its object's status signal. -/
theorem Spares.canRequest (h : Spares d e) (c o : Nat) (w : Word) (valid : Bool) : Spares d (e.canRequest c o w valid) := by
  have hflags : ¬placeReg (Adr.canFlags c) := fun ha => placeReg_can (k := 0xc) (c := c) ha (by decide) (by unfold Adr.canFlags; omega)
  have hstatus (f : Dev) (code attempts : Nat) : Spares f (f.canTxStatus c o code attempts) := (Spares.refl f).devSig _ _ _ _
  unfold Dev.canRequest
  split
  · exact h
  · split
    · exact (((h.trans (hstatus e 4 0)).orReg hflags 0x10).trans ((Logs.refl _).event _ _ _).spares)
    · extract_lets x data d1
      have h1 : Spares d d1 := by
        unfold d1
        split
        · exact h.trans (hstatus e _ _)
        · exact h
      split
      · exact h.setCan _ _
      · exact (h1.setCan _ _).trans (hstatus _ _ _)

end Places

end Sys2Proof.Proofs
end

section
/-! OBLIGATION O46. SIG.READ, and the entries of SIG.WRITE by mode (R325–R327). -/

namespace Sys2Proof.Proofs

open Sys2Proof.Machine Sys2Proof.Safety

/-! ### One entry -/

/-- The refusal of an entry of SIG.WRITE in a mode, by the first check that fails; 0 where none does. -/
def entryRefusal (d : Dev) (mode n : Nat) : Nat :=
  if d.sigExists n = false then 0x5011
  else if mode < 2 ∧ d.sigAllows n .host = false then 0x5010
  else if mode = 2 ∧ d.sigForceable n = false then 0x5012
  else if mode = 3 ∧ (d.sig n).forced = false then 0x5012 else 0

/-- What an accepted entry of a mode leaves in its signal. -/
def Landed (mode : Nat) (old : Sig) (v : Word) (x : Sig) : Prop :=
  x.value = (if mode = 3 then old.value else v) ∧ (mode ≠ 3 → x.tag = 0x11 ∧ x.valid = decide (mode ≠ 1)) ∧
    (mode < 2 → x.forced = old.forced) ∧ (mode = 2 → x.forced = true) ∧ (mode = 3 → x.forced = false)

/-- What the host's writes leave in a signal. -/
def Wrote (v : Word) (valid forced : Bool) (x : Sig) : Prop := x.value = v ∧ x.tag = 0x11 ∧ x.valid = valid ∧ x.forced = forced

/-- What an entry leaves as it was: places and system status, and other signals; in a force, those FORCED. -/
structure EntryWork (mode : Nat) (mine : Nat → Prop) (d e : Dev) : Prop where
  places : SamePlaces d e
  sys : e.sys = d.sys
  other : ∀ m, ¬mine m → (mode = 2 → m ≠ 0x87010 ∧ (d.sig m).forced = true) → e.sig m = d.sig m

section Entries

variable {d e f : Dev} {mode n : Nat} {v : Word}

theorem Spares.entry (h : Spares d e) {mine : Nat → Prop} : EntryWork 2 mine d e :=
  ⟨h.places, h.sys, fun m _ hf => h.kept m (hf rfl).1 (hf rfl).2⟩

/-- Work on one signal, then work that touches none. -/
theorem entryWork_sched (h : SamePlaces d e) (hy : e.sys = d.sys) (hs : ∀ m, m ≠ n → e.sig m = d.sig m)
    (g : Sched (fun _ => True) e f) : EntryWork mode (· = n) d f :=
  ⟨h.trans g.space.places, g.sys.trans hy, fun m hm _ => (g.space.sig (by rw [g.sigs])).trans (hs m hm)⟩

theorem entryWork_sigStore (h : SamePlaces d e) (hy : e.sys = d.sys) (hs : ∀ m, m ≠ n → e.sig m = d.sig m) (valid : Bool) :
    EntryWork mode (· = n) d (e.sigStore n v valid false 0x11) := by
  have h1 : SamePlaces d (e.setSig n (written e n v valid false 0x11)) := h.trans ⟨rfl, fun _ _ => rfl⟩
  exact entryWork_sched h1 hy (fun m hm => (sig_setSig_other e n _ hm).trans (hs m hm)) (sigStore_sched e n v valid false 0x11)

theorem sigAllows_open {w : Writer} (h : d.sigAllows n w = true) : d.region n ≠ .reserved := by
  intro hr
  unfold Dev.sigAllows at h
  rw [hr] at h
  cases h

theorem sigForceable_open (h : d.sigForceable n = true) : d.region n ≠ .reserved ∧ n ≠ 0x87010 := by
  refine ⟨fun hr => ?_, fun hn => ?_⟩
  · unfold Dev.sigForceable at h
    rw [hr] at h
    cases h
  · have hr : d.region n = .system := by
      unfold Dev.region
      rw [hn, show regionOf 0x87010 = .system by decide]
    unfold Dev.sigForceable at h
    rw [hr] at h
    cases h

/-- A write by the host, by the quality its signal had. -/
theorem sigStore_host (he : d.sigExists n = true) (hr : d.region n ≠ .reserved) (valid : Bool) :
    Wrote v valid (d.sig n).forced ((d.sigStore n v valid false 0x11).sig n) := by
  obtain ⟨h0, -, -, h4, -⟩ := written_bits (d.sig n).q (d.mirrorBit n) (mirrorBit_cases d n) valid false false
    (d.sigTracked n && (d.sig n).unread)
  rw [sig_sigStore_self d n v valid false 0x11 he hr]
  exact ⟨rfl, rfl, h0, h4⟩

theorem hostWrite_done (he : d.sigExists n = true) (ha : d.sigAllows n .host = true) (valid : Bool) :
    (d.hostWrite n v valid).2 = 0 ∧ EntryWork mode (· = n) d (d.hostWrite n v valid).1 ∧
      Wrote v valid (d.sig n).forced ((d.hostWrite n v valid).1.sig n) := by
  unfold Dev.hostWrite
  rw [if_neg (by rw [he]; nofun), if_neg (by rw [ha]; nofun)]
  extract_lets d1
  have h1 : SamePlaces d d1 ∧ d1.sys = d.sys ∧ ∀ m, d1.sig m = d.sig m := by
    unfold d1
    split
    · exact ⟨.refl d, rfl, fun _ => rfl⟩
    · exact ⟨⟨rfl, fun _ _ => rfl⟩, rfl, fun _ => rfl⟩
  obtain ⟨hp, hy, hs⟩ := h1
  have hc := countStore_logs d1 n
  have hp' := hp.trans hc.space.places
  have hs' (m : Nat) : (d1.countStore n).sig m = d.sig m := (hc.sig m).trans (hs m)
  have hw := sigStore_host (v := v) ((hp'.sigExists n).trans he) (by rw [hp'.region]; exact sigAllows_open ha) valid
  rw [hs'] at hw
  exact ⟨rfl, entryWork_sigStore hp' (hc.sys.trans hy) (fun m _ => hs' m) valid, hw⟩

theorem hostRelease_done (he : d.sigExists n = true) (hf : (d.sig n).forced = true) :
    (d.hostRelease n).2 = 0 ∧ EntryWork 3 (· = n) d (d.hostRelease n).1 ∧ ((d.hostRelease n).1.sig n).value = (d.sig n).value ∧
      ((d.hostRelease n).1.sig n).forced = false := by
  have hr : d.region n ≠ .reserved := by
    intro hr
    unfold Dev.sig at hf
    rw [if_neg (by rw [he]; nofun), if_pos hr] at hf
    cases hf
  unfold Dev.hostRelease
  extract_lets x
  rw [if_neg (by rw [he]; nofun), if_neg (by rw [show x.forced = true from hf]; nofun)]
  have hc := countStore_logs d n
  have hp := hc.space.places
  refine ⟨rfl, ⟨hp.trans ⟨rfl, fun _ _ => rfl⟩, hc.sys, fun m hm _ => (sig_setSig_other _ _ _ hm).trans (hc.sig m)⟩, ?_⟩
  rw [sig_setSig_self _ _ _ ((hp.sigExists n).trans he) (by rw [hp.region]; exact hr)]
  refine ⟨rfl, ?_⟩
  show ((x.q &&& 0x0F) ||| (d.countStore n).mirrorBit n).getLsbD 4 = false
  obtain hm | hm := mirrorBit_cases (d.countStore n) n <;> rw [hm] <;> simp

theorem hostForce_done (he : d.sigExists n = true) (ha : d.sigForceable n = true) :
    (d.hostForce n v).2 = 0 ∧ EntryWork 2 (· = n) d (d.hostForce n v).1 ∧
      Wrote v true true ((d.hostForce n v).1.sig n) := by
  obtain ⟨hr, hn⟩ := sigForceable_open ha
  unfold Dev.hostForce
  rw [if_neg (by rw [he]; nofun), if_neg (by rw [ha]; nofun)]
  extract_lets d1 x d2 p
  have hc := countStore_logs (d.hide n) n
  have hp : SamePlaces d d1 := SamePlaces.trans (e := d.hide n) ⟨rfl, fun _ _ => rfl⟩ hc.space.places
  have hm (q : BitVec 8) : (((x.q ||| 0x10) &&& 0x1F) ||| q).getLsbD 4 = true := by
    rw [BitVec.getLsbD_or, BitVec.getLsbD_and, BitVec.getLsbD_or]
    simp
  have he1 := (hp.sigExists n).trans he
  have hr1 : d1.region n ≠ .reserved := by rw [hp.region]; exact hr
  have hg := sig_setSig_self d1 n { x with q := (x.q ||| 0x10) &&& 0x1F } he1 hr1
  have ho (m : Nat) (hm : m ≠ n) : (d1.setSig n { x with q := (x.q ||| 0x10) &&& 0x1F }).sig m = d.sig m :=
    (sig_setSig_other _ _ _ hm).trans (hc.sig m)
  have hp2 : SamePlaces d1 (d1.setSig n { x with q := (x.q ||| 0x10) &&& 0x1F }) := ⟨rfl, fun _ _ => rfl⟩
  have hw : EntryWork 2 (· = n) d d2 := entryWork_sigStore (hp.trans hp2) hc.sys ho true
  have hx : Wrote v true _ (d2.sig n) := sigStore_host ((hp2.sigExists n).trans he1) (by rw [hp2.region]; exact hr1) true
  rw [show ((d1.setSig n { x with q := (x.q ||| 0x10) &&& 0x1F }).sig n).forced = true from (congrArg Sig.forced hg).trans (hm _)] at hx
  clear_value d2
  split
  next =>
    have hc2 : Spares d2 (if p.2.2 = 0 then d2.canRequest p.1 p.2.1 v true else d2) :=
      .ite ((Spares.refl d2).canRequest _ _ _ _) (.refl d2)
    refine ⟨rfl, ⟨hw.places.trans hc2.places, hc2.sys.trans hw.sys, fun m hm hk => ?_⟩, ?_⟩
    · have h2 := hw.other m hm hk
      exact (hc2.kept m (hk rfl).1 (by rw [h2]; exact (hk rfl).2)).trans h2
    · show Wrote v true true ((if p.2.2 = 0 then d2.canRequest p.1 p.2.1 v true else d2).sig n)
      obtain ⟨-, -, -, hf⟩ := id hx
      rw [hc2.kept n hn hf]
      exact hx
  next => exact ⟨rfl, hw, hx⟩

/-- The modes of SIG.WRITE. -/
theorem mode_cases (hm : mode < 4) : mode = 0 ∨ mode = 1 ∨ mode = 2 ∨ mode = 3 := by omega

/-- In a force what the signal held before is of no account. -/
theorem Landed.old {a b x : Sig} (h : Landed mode a v x) (hs : mode ≠ 2 → b = a) : Landed mode b v x := by
  by_cases h2 : mode = 2
  · subst h2
    obtain ⟨hv, ht, -, hf, -⟩ := h
    exact ⟨hv, ht, nofun, hf, nofun⟩
  · rw [hs h2]
    exact h

/-- An entry that a check refuses answers with that check's code. -/
theorem hostEntry_refused (hm : mode < 4) (h : entryRefusal d mode n ≠ 0) : (d.hostEntry mode (n, v)).2 = entryRefusal d mode n := by
  have hw (valid : Bool) {k : Nat} (hk : k < 2) (h : entryRefusal d k n ≠ 0) : (d.hostWrite n v valid).2 = entryRefusal d k n := by
    unfold entryRefusal at h ⊢
    unfold Dev.hostWrite
    cases he : d.sigExists n
    · rfl
    · cases ha : d.sigAllows n .host
      · simp [hk]
      · simp [he, ha, hk, show k ≠ 2 ∧ k ≠ 3 by omega] at h
  obtain rfl | rfl | rfl | rfl := mode_cases hm
  · exact hw true (by decide) h
  · exact hw false (by decide) h
  · unfold entryRefusal at h ⊢
    show (d.hostForce n v).2 = _
    unfold Dev.hostForce
    cases he : d.sigExists n
    · rfl
    · cases ha : d.sigForceable n
      · rfl
      · simp [he, ha] at h
  · unfold entryRefusal at h ⊢
    show (d.hostRelease n).2 = _
    unfold Dev.hostRelease
    cases he : d.sigExists n
    · rfl
    · cases ha : (d.sig n).forced
      · simp [ha]
      · simp [he, ha] at h

theorem hostEntry_done (hm : mode < 4) (h : entryRefusal d mode n = 0) : (d.hostEntry mode (n, v)).2 = 0 ∧
    EntryWork mode (· = n) d (d.hostEntry mode (n, v)).1 ∧ Landed mode (d.sig n) v ((d.hostEntry mode (n, v)).1.sig n) := by
  have he : d.sigExists n = true := by
    cases he : d.sigExists n
    · simp [entryRefusal, he] at h
    · rfl
  obtain rfl | rfl | rfl | rfl := mode_cases hm
  · obtain ⟨h0, hw, hv, ht, hvalid, hf⟩ := hostWrite_done (mode := 0) (v := v) he (by simpa [entryRefusal, he] using h) true
    exact ⟨h0, hw, hv, fun _ => ⟨ht, hvalid⟩, fun _ => hf, nofun, nofun⟩
  · obtain ⟨h0, hw, hv, ht, hvalid, hf⟩ := hostWrite_done (mode := 1) (v := v) he (by simpa [entryRefusal, he] using h) false
    exact ⟨h0, hw, hv, fun _ => ⟨ht, hvalid⟩, fun _ => hf, nofun, nofun⟩
  · obtain ⟨h0, hw, hv, ht, hvalid, hf⟩ := hostForce_done (v := v) he (by simpa [entryRefusal, he] using h)
    exact ⟨h0, hw, hv, fun _ => ⟨ht, hvalid⟩, nofun, fun _ => hf, nofun⟩
  · obtain ⟨h0, hw, hv, hf⟩ := hostRelease_done he (by simpa [entryRefusal, he] using h)
    exact ⟨h0, hw, hv, fun h3 => absurd rfl h3, nofun, nofun, fun _ => hf⟩

end Entries

/-! ### The entries in order -/

section Run

variable {d : Dev} {mode : Nat}

/-- One entry of the list of a SIG.WRITE. -/
def runEntry (mode : Nat) (r : SigRun) (e : (Nat × Word) × Nat) : SigRun :=
  let y := r.dev.hostEntry mode e.1
  if y.2 ≠ 0 then { r with bad := (match r.bad with
    | some b => some b
    | none => some (e.2, y.2)) }
  else
    let boxes := match mailboxOf e.1.1 with
      | some m => if mode < 3 && !r.boxes.contains m then r.boxes ++ [m] else r.boxes
      | none => r.boxes
    { r with dev := y.1, boxes := boxes }

/-- A run over entries that are done: each accepted one has landed, and nothing else was touched. -/
structure Ran (mode : Nat) (d : Dev) (done : List (Nat × Word)) (r : SigRun) : Prop where
  work : EntryWork mode (· ∈ done.map (·.1)) d r.dev
  landed : ∀ e ∈ done, entryRefusal d mode e.1 = 0 → Landed mode (d.sig e.1) e.2 (r.dev.sig e.1)

/-- The first refusal of a list, with its place. -/
def firstBad (d : Dev) (mode : Nat) (l : List ((Nat × Word) × Nat)) : Option (Nat × Nat) :=
  (l.find? fun e => entryRefusal d mode e.1.1 != 0).map fun e => (e.2, entryRefusal d mode e.1.1)

theorem sigAllows_host {d e : Dev} (h : SamePlaces d e) (hy : e.sys = d.sys) (n : Nat) : e.sigAllows n .host = d.sigAllows n .host := by
  unfold Dev.sigAllows
  rw [h.region, hy]
  cases d.region n with
  | can => exact (ite_self _).trans (ite_self _).symm
  | _ => rfl

/-- An entry that was not touched is judged as at the start. -/
theorem entryRefusal_kept {done : List (Nat × Word)} {r : SigRun} (h : Ran mode d done r) {n : Nat} (hn : n ∉ done.map (·.1)) :
    entryRefusal r.dev mode n = entryRefusal d mode n := by
  unfold entryRefusal Dev.sigForceable
  rw [h.work.places.sigExists, sigAllows_host h.work.places h.work.sys, h.work.places.region]
  by_cases h3 : mode = 3
  · rw [h.work.other n hn fun h2 => absurd (h3.symm.trans h2) (by decide)]
  · simp only [h3, false_and, if_false]

theorem runEntry_refused {r : SigRun} {e : Nat × Word} {k c : Nat} (h : (r.dev.hostEntry mode e).2 = c) (hc : c ≠ 0) :
    runEntry mode r (e, k) = { r with bad := r.bad.or (some (k, c)) } := by
  unfold runEntry
  dsimp only
  rw [if_pos (by rw [h]; exact hc), h]
  cases r.bad <;> rfl

theorem runEntry_done {r : SigRun} {e : Nat × Word} (k : Nat) (h : (r.dev.hostEntry mode e).2 = 0) :
    (runEntry mode r (e, k)).dev = (r.dev.hostEntry mode e).1 ∧ (runEntry mode r (e, k)).bad = r.bad := by
  unfold runEntry
  dsimp only
  rw [if_neg (not_not_intro h)]
  exact ⟨rfl, rfl⟩

theorem ran_step {done : List (Nat × Word)} {r : SigRun} {e : Nat × Word} (k : Nat) (hm : mode < 4) (h : Ran mode d done r)
    (hn : e.1 ∉ done.map (·.1)) : Ran mode d (done ++ [e]) (runEntry mode r (e, k)) ∧
      (runEntry mode r (e, k)).bad = r.bad.or (firstBad d mode [(e, k)]) := by
  have hk := entryRefusal_kept h hn
  have hmem (m : Nat) : m ∈ (done ++ [e]).map (·.1) ↔ m ∈ done.map (·.1) ∨ m = e.1 := by simp
  unfold firstBad
  by_cases h0 : entryRefusal d mode e.1 = 0
  · obtain ⟨hc, hw, hl⟩ := hostEntry_done (d := r.dev) (v := e.2) hm (hk.trans h0)
    obtain ⟨hd, hb⟩ := runEntry_done k hc
    have hl := hl.old fun h2 => (h.work.other e.1 hn fun h => absurd h h2).symm
    refine ⟨⟨⟨?_, ?_, fun m hm2 hf => ?_⟩, fun z hz hz0 => ?_⟩, ?_⟩
    · rw [hd]; exact h.work.places.trans hw.places
    · rw [hd]; exact hw.sys.trans h.work.sys
    · rw [hmem, not_or] at hm2
      have hs := h.work.other m hm2.1 hf
      rw [hd]
      exact (hw.other m hm2.2 fun h2 => ⟨(hf h2).1, by rw [hs]; exact (hf h2).2⟩).trans hs
    · rw [hd]
      obtain hz | hz := List.mem_append.mp hz
      · have hz1 := h.landed z hz hz0
        rw [hw.other z.1 (fun he => hn (he ▸ List.mem_map_of_mem hz)) fun h2 => ?_]
        · exact hz1
        · subst h2
          refine ⟨(sigForceable_open (d := d) ?_).2, hz1.2.2.2.1 rfl⟩
          by_contra hf
          have hf := Bool.eq_false_of_not_eq_true hf
          unfold entryRefusal at hz0
          simp only [hf, Nat.lt_irrefl, false_and, if_false, and_self, if_true] at hz0
          exact absurd hz0 (ite_ne (by decide) (by decide))
      · rw [List.mem_singleton.mp hz]
        exact hl
    · rw [hb]
      simp [h0]
  · have hc := hostEntry_refused (d := r.dev) (v := e.2) hm (by rw [hk]; exact h0)
    rw [runEntry_refused (hc.trans hk) h0]
    refine ⟨⟨⟨h.work.places, h.work.sys, fun m hm2 => h.work.other m fun hd => hm2 ((hmem m).mpr (.inl hd))⟩, fun z hz hz0 => ?_⟩, ?_⟩
    · obtain hz | hz := List.mem_append.mp hz
      · exact h.landed z hz hz0
      · exact absurd (List.mem_singleton.mp hz ▸ hz0) h0
    · simp [h0]

theorem firstBad_cons (e : (Nat × Word) × Nat) (l : List ((Nat × Word) × Nat)) :
    firstBad d mode (e :: l) = (firstBad d mode [e]).or (firstBad d mode l) := by
  unfold firstBad
  by_cases h : entryRefusal d mode e.1.1 = 0 <;> simp [h]

/-- The whole list: its entries are judged as at the start. -/
theorem run_outcome (hm : mode < 4) (l : List (Nat × Word)) (k : Nat) {done : List (Nat × Word)} {r : SigRun} (h : Ran mode d done r)
    (hn : ((done ++ l).map (·.1)).Nodup) : Ran mode d (done ++ l) ((l.zipIdx k).foldl (runEntry mode) r) ∧
      ((l.zipIdx k).foldl (runEntry mode) r).bad = r.bad.or (firstBad d mode (l.zipIdx k)) := by
  induction l generalizing k done r with
  | nil => exact ⟨by rw [List.append_nil]; exact h, (Option.or_none ..).symm⟩
  | cons e l ih =>
    have hsplit : done ++ e :: l = (done ++ [e]) ++ l := by simp
    have he : e.1 ∉ done.map (·.1) := by
      rw [List.map_append, List.map_cons] at hn
      exact fun hd => (List.nodup_append.mp hn).2.2 _ hd _ List.mem_cons_self rfl
    obtain ⟨h1, hb⟩ := ran_step k hm h he
    rw [hsplit] at hn ⊢
    obtain ⟨h2, hb2⟩ := ih (k + 1) h1 hn
    refine ⟨h2, hb2.trans ?_⟩
    rw [List.zipIdx_cons, firstBad_cons, hb, Option.or_assoc]

/-- The triggers of the mailboxes that were written. -/
def fireBoxes (d : Dev) (l : List Nat) : Dev :=
  l.foldl (fun d m => d.fireTriggers fun g => match g with
    | .mailbox k => k == m
    | _ => false) d

theorem fireBoxes_sched (d : Dev) (l : List Nat) : Sched (fun _ => True) d (fireBoxes d l) :=
  List.foldlRecOn (motive := fun e => Sched (fun _ => True) d e) l _ (.refl d) fun _ h _ _ => h.fireTriggers _

/-- The run of a SIG.WRITE from its start. -/
def sigRun (d : Dev) (q : VReq) : SigRun :=
  q.entries.zipIdx.foldl (runEntry (leAt q.payload 2 1)) { dev := d, bad := none, boxes := [] }

theorem vhpSigWrite_eq (d : Dev) (q : VReq) : d.vhpSigWrite q = (fireBoxes (sigRun d q).dev (sigRun d q).boxes,
    ((sigRun d q).bad.elim 0 (·.2)), (sigRun d q).bad.elim [] fun b => leBytes 2 b.1) := by
  unfold Dev.vhpSigWrite
  extract_lets mode start r d1
  have hr : r = sigRun d q := rfl
  have hd : d1 = fireBoxes r.dev r.boxes := rfl
  rw [← hr, ← hd]
  cases r.bad <;> rfl

theorem ran_start (d : Dev) (mode : Nat) : Ran mode d [] { dev := d, bad := none, boxes := [] } :=
  ⟨⟨.refl d, rfl, fun _ _ _ => rfl⟩, nofun⟩

/-- A SIG.WRITE of one entry that is refused leaves the module. -/
theorem sigRun_single {q : VReq} (hm : leAt q.payload 2 1 < 4) {e : Nat × Word} (he : q.entries = [e])
    (h : entryRefusal d (leAt q.payload 2 1) e.1 ≠ 0) : (sigRun d q).dev = d ∧ (sigRun d q).boxes = [] := by
  have hc : (d.hostEntry (leAt q.payload 2 1) e).2 = _ := hostEntry_refused hm h
  unfold sigRun
  rw [he, List.zipIdx_cons, List.zipIdx_nil, List.foldl_cons, List.foldl_nil, runEntry_refused (r := ⟨d, none, []⟩) hc h]
  exact ⟨rfl, rfl⟩

end Run

/-! ### The statement -/

/-- What a SIG.WRITE of a mode answers. -/
theorem sigWrite_serves {s : State} {q : VReq} {i : Instr} {mode : Nat} (hi : exec i s = vhpServe (sigMode mode) Dev.vhpSigWrite s)
    (hq : fronts s q) (ha : s.dev.vhpAccept q.vtype q.payload = 0) (hm : mode < 4) (ht : q.vtype = 0x04)
    (hp : leAt q.payload 2 1 = mode) (hn : (q.entries.map (·.1)).Nodup) :
    let bad := firstBad s.dev mode q.entries.zipIdx
    Serves i s q (bad.elim 0 (·.2)) (bad.elim [] fun b => leBytes 2 b.1) fun d' =>
      (leAt q.payload 0 2 = 1 → bad.elim 0 (·.2) ≠ 0 → d' = s.dev) ∧
        ∀ e ∈ q.entries, entryRefusal s.dev mode e.1 = 0 → Landed mode (s.dev.sig e.1) e.2 (d'.sig e.1) := by
  intro bad
  subst hp
  obtain ⟨hr, hb⟩ := run_outcome hm q.entries 0 (ran_start s.dev _) hn
  have hb : (sigRun s.dev q).bad = bad := hb
  have hf := fireBoxes_sched (sigRun s.dev q).dev (sigRun s.dev q).boxes
  refine serves_of hi hq (by simp [sigMode, ht]) ha ((vhpSigWrite_eq s.dev q).trans (by rw [hb])) ⟨fun h1 h0 => ?_, fun e he h0 => ?_⟩
  · obtain ⟨e, he⟩ : ∃ e, q.entries = [e] := by
      refine List.length_eq_one_iff.mp ?_
      unfold VReq.entries
      rw [List.length_map, List.length_range, h1]
    have h0 : entryRefusal s.dev (leAt q.payload 2 1) e.1 ≠ 0 := by
      intro h
      refine h0 ?_
      unfold bad firstBad
      rw [he, List.zipIdx_cons, List.find?_cons_of_neg (by simp [h])]
      rfl
    obtain ⟨hd, hx⟩ := sigRun_single hm he h0
    rw [hx, hd]
    rfl
  · rw [hf.space.sig (by rw [hf.sigs])]
    exact hr.landed e he h0

/-- Settles O46. -/
theorem vhpSignals : Obligations.VhpSignals := by
  intro s q hq ha d f wanted row entries refusal
  refine ⟨fun ht => ?_, fun mode hm ht hp hn => ?_⟩
  · refine serves_of (test := fun q => q.vtype == 0x03) (f := Dev.vhpSigRead) rfl hq (beq_iff_eq.mpr ht) ha
      (congrArg (fun l => (wanted.foldl (fun d n => if d.sigExists n then d.countStore n else d) d, 0, l)) ?_) ⟨rfl, ?_⟩
    · exact List.flatMap_congr fun n _ => congrArg (fun w : Word => leBytes 4 (d.sig n).value.toNat ++ leBytes 4 w.toNat) (qualityWord_eq _)
    · exact List.foldlRecOn (motive := fun e : Dev => e.sigs = d.sigs) wanted _ rfl fun e he n _ => by
        split
        · exact (countStore_logs e n).sigs.trans he
        · exact he
  · intro bad status payload
    have hb : firstBad d mode entries.zipIdx = bad.map fun e => (e.2, refusal mode e.1.1) := rfl
    have hs : status = (firstBad d mode entries.zipIdx).elim 0 (·.2) := by
      rw [hb]
      unfold status
      cases bad <;> rfl
    have hl : payload = (firstBad d mode entries.zipIdx).elim [] fun b => leBytes 2 b.1 := by
      rw [hb]
      unfold payload
      cases bad <;> rfl
    rw [hs, hl]
    obtain rfl | rfl | rfl | rfl := mode_cases hm
    all_goals exact sigWrite_serves rfl hq ha hm ht hp hn

end Sys2Proof.Proofs
end

section
/-! OBLIGATION O47. NODE.REQ and NODE.READ (R203, R206, R209, R329). -/

namespace Sys2Proof.Proofs

open Sys2Proof.Machine Sys2Proof.Safety

/-! ### NODE.REQ -/

section Request

variable {d : Dev} {p node btype : Nat} {data : List Byte}

/-- A node that the link start found. -/
def knownNode (x : Port) (node : Nat) : Prop := 1 ≤ node ∧ node ≤ 64 ∧ (x.node node).known = true

theorem knownNode_iff (x : Port) (node : Nat) : (Machine.within node 1 64 && (x.node node).known) = true ↔ knownNode x node := by
  unfold Machine.within knownNode
  simp only [Bool.and_eq_true, decide_eq_true_eq, and_assoc]

theorem nodeRequest_down (h : (d.port p).st ≠ .up) : d.nodeRequest p node btype data = (d, 0x5030) := if_pos (bne_iff_ne.mpr h)

theorem nodeRequest_unknown (h : (d.port p).st = .up) (hk : ¬knownNode (d.port p) node) :
    d.nodeRequest p node btype data = (d, 0x5031) :=
  (if_neg (by rw [h]; nofun)).trans (if_pos (by rw [Bool.not_eq_true', Bool.eq_false_iff]; exact fun hx => hk ((knownNode_iff _ _).mp hx)))

theorem nodeRequest_type (h : (d.port p).st = .up) (hk : knownNode (d.port p) node) (h5 : btype ≠ 5) (h6 : btype ≠ 6) :
    d.nodeRequest p node btype data = (d, 0x5032) :=
  (if_neg (by rw [h]; nofun)).trans <| (if_neg (by rw [(knownNode_iff _ _).mpr hk]; nofun)).trans (if_pos ⟨h5, h6⟩)

theorem nodeRequest_queued (h : (d.port p).st = .up) (hk : knownNode (d.port p) node) (hb : btype = 5 ∨ btype = 6) :
    d.nodeRequest p node btype data = d.hostMessage p node btype data :=
  (if_neg (by rw [h]; nofun)).trans <| (if_neg (by rw [(knownNode_iff _ _).mpr hk]; nofun)).trans <| if_neg <| by
    rintro ⟨h5, h6⟩
    exact hb.elim h5 h6

/-- The outbound spill area of a node's home sheaf has no room for a message. -/
theorem outboundRoom_full (d : Dev) (home : Option Nat) (n : Nat) : d.outboundRoom home n = false ↔
    ∃ h, home = some h ∧ (d.queue (2 * h + 1)).spilling = true ∧ 2 ^ 23 < (d.queue (2 * h + 1)).spilled + 256 * n := by
  unfold Dev.outboundRoom Queue.takes
  cases home with
  | none => simp
  | some h => simp

theorem hostMessage_full (h : d.outboundRoom (d.homeSheaf p node) (((d.port p).node node).message p node btype data).length = false) :
    d.hostMessage p node btype data = (d, 0x1022) := if_neg (by rw [h]; nofun)

theorem hostMessage_room (h : d.outboundRoom (d.homeSheaf p node) (((d.port p).node node).message p node btype data).length = true) :
    d.hostMessage p node btype data = (d.sendMessage p node btype data (d.homeSheaf p node), 0) := if_pos h

theorem sendMessage_requests (hn : node ≠ 0xFF) (home : Option Nat) :
    (((d.sendMessage p node btype data home).port p).node node).requests.length = ((d.port p).node node).requests.length + 1 := by
  unfold Dev.sendMessage
  extract_lets x l req e
  rw [Port.node, putBlocks_nodes]
  show ((e.port p).node node).requests.length = _
  have hr : req.length = 1 := congrArg List.length (if_neg hn)
  rw [node_modNode]
  show (((d.port p).node node).requests ++ req).length = _
  rw [List.length_append, hr]

end Request

/-! ### NODE.READ -/

section Read

variable {d : Dev} {p node : Nat}

/-- No request of the port's nodes was given up without a report. -/
def noneGivenUp (d : Dev) (p : Nat) : Prop := ∀ k, 1 ≤ k → k ≤ 64 → ((d.port p).node k).gaveUp = false

/-- The answer of NODE.READ where the node to serve is known. -/
def readReply (d : Dev) (p node : Nat) : Option Nat → Dev × Nat × List Byte
  | none => (d, 0, leBytes 1 p ++ leBytes 1 node ++ [0] ++ leBytes 1 (4 * b2n (d.repliesWait p)) ++ leBytes 4 0)
  | some n =>
    let l := messagePart 5 (d.waitingReplies p n)
    let data := l.flatMap (·.data)
    let first := match l with
      | b :: _ => b.frag % 2
      | [] => 0
    let last := match l.getLast? with
      | some b => b.frag / 2 % 2
      | none => 0
    let btype := match l with
      | b :: _ => b.btype
      | [] => 0
    let d := (d.takeReplies p n l.length).modPort p fun y =>
      { y with readRr := n % 64, readPart := (if last = 1 then [] else [n]) ++ y.readPart.filter (· != n) }
    (d, 0, leBytes 1 p ++ leBytes 1 n ++ leBytes 1 btype ++ leBytes 1 (first + 2 * last + 4 * b2n (d.repliesWait p)) ++
      leBytes 2 data.length ++ [0, 0] ++ data)

theorem nodeRead_reply (h : noneGivenUp d p) : d.nodeRead p node = readReply d p node (d.readNode p node) := by
  have hf : ((List.range 64).map (· + 1)).find? (fun n => ((d.port p).node n).gaveUp && (node == 0 || node == n)) = none := by
    refine List.find?_eq_none.mpr fun n hn => ?_
    obtain ⟨k, hk, rfl⟩ := List.mem_map.mp hn
    have hk := List.mem_range.mp hk
    rw [h (k + 1) (by omega) (by omega)]
    nofun
  unfold Dev.nodeRead
  extract_lets x failed
  have hf : ((List.range 64).map (· + 1)).find? failed = none := hf
  rw [hf]
  cases d.readNode p node <;> rfl

theorem nodeRead_givenUp (h1 : 1 ≤ node) (h64 : node ≤ 64) (h : ((d.port p).node node).gaveUp = true) : d.nodeRead p node =
    (d.modNode p node fun y => { y with gaveUp := false }, 0x1020, leBytes 1 p ++ leBytes 1 node ++ leBytes 6 0) := by
  unfold Dev.nodeRead
  extract_lets x failed
  have hf : ((List.range 64).map (· + 1)).find? failed = some node := by
    cases hs : ((List.range 64).map (· + 1)).find? failed with
    | none =>
      have hm : node ∈ (List.range 64).map (· + 1) := List.mem_map.mpr ⟨node - 1, List.mem_range.mpr (by omega), by omega⟩
      exact absurd (List.find?_eq_none.mp hs node hm) (by simp [failed, x, h])
    | some n =>
      have hn := List.find?_some hs
      simp only [failed, Bool.and_eq_true, Bool.or_eq_true, beq_iff_eq] at hn
      rw [hn.2.resolve_left (by omega)]
  rw [hf]

theorem readNode_none (h : d.waitingReplies p node = []) (hk : node = 0 → ∀ k, d.waitingReplies p k = []) : d.readNode p node = none := by
  unfold Dev.readNode
  extract_lets x waits
  by_cases h0 : node = 0
  · have hw (k : Nat) : waits k = false := by
      unfold waits
      rw [hk h0 k]
      rfl
    rw [if_neg (not_not_intro h0)]
    split
    · exact if_neg (by rw [hw]; nofun)
    · exact List.find?_eq_none.mpr fun k _ => by rw [hw]; nofun
  · have hw : waits node = false := by
      unfold waits
      rw [h]
      rfl
    exact (if_pos h0).trans (if_neg (by rw [hw]; nofun))

theorem readNode_named (h0 : node ≠ 0) (h : d.waitingReplies p node ≠ []) : d.readNode p node = some node := by
  have hw : (!(d.waitingReplies p node).isEmpty) = true := by simpa using h
  exact (if_pos h0).trans (if_pos hw)

theorem repliesWait_none (h : ∀ k, d.waitingReplies p k = []) : d.repliesWait p = false := by
  unfold Dev.repliesWait
  simp [h]

theorem repliesWait_some (h : ∃ k, 1 ≤ k ∧ k ≤ 64 ∧ d.waitingReplies p k ≠ []) : d.repliesWait p = true := by
  obtain ⟨k, h1, h64, hk⟩ := h
  refine List.any_eq_true.mpr ⟨k, List.mem_map.mpr ⟨k - 1, List.mem_range.mpr (by omega), by omega⟩, by simpa using hk⟩

theorem messagePart_head (b : Block) (l : List Block) : ∃ l', messagePart 5 (b :: l) = b :: l' := by
  unfold messagePart
  split
  · exact ⟨_, rfl⟩
  · exact ⟨_, rfl⟩

theorem messagePart_last {b : Block} (h : b.frag / 2 % 2 = 1) (l : List Block) : messagePart 5 (b :: l) = [b] := if_pos h

/-- A reply of a node that has one: its header, and the data of its blocks. -/
theorem readReply_served {b : Block} {l : List Block} (h : d.waitingReplies p node = b :: l) :
    ∃ e payload, readReply d p node (some node) = (e, 0, payload) ∧ (e.port p).readRr = node % 64 ∧
      payload[1]? = some (BitVec.ofNat 8 node) ∧ payload[2]? = some (BitVec.ofNat 8 b.btype) ∧
      (b.frag / 2 % 2 = 1 → payload.drop 8 = b.data) := by
  refine ⟨_, _, rfl, congrArg Port.readRr (port_setPort_self _ _ _), ?_, ?_, fun hl => ?_⟩
  · rfl
  · rw [h]
    obtain ⟨l', hl⟩ := messagePart_head b l
    rw [hl]
    rfl
  · rw [h, messagePart_last hl, List.flatMap_singleton]
    exact List.drop_left' (by simp)

end Read

/-- Settles O47. -/
theorem vhpNodes : Obligations.VhpNodes := by
  intro s q hq ha d f p node x known r none4
  have req {e : Dev} {st : Nat} {post : Dev → Prop} (ht : q.vtype = 0x50) (h : d.nodeRequest p node (f 2 1) (q.payload.drop 8) = (e, st))
      (hp : post e) : Serves .nodeReq s q st [] post :=
    serves_of (test := fun q => q.vtype == 0x50) (f := fun d q => ((d.nodeRequest (leAt q.payload 0 1) (leAt q.payload 1 1)
      (leAt q.payload 2 1) (q.payload.drop 8)).1, (d.nodeRequest (leAt q.payload 0 1) (leAt q.payload 1 1) (leAt q.payload 2 1)
      (q.payload.drop 8)).2, [])) rfl hq (beq_iff_eq.mpr ht) ha (congrArg (fun r : Dev × Nat => (r.1, r.2, [])) h) hp
  have read {e : Dev} {st : Nat} {l : List Byte} {post : Dev → Prop} (ht : q.vtype = 0x51) (h : d.nodeRead p node = (e, st, l))
      (hp : post e) : Serves .nodeRead s q st l post :=
    serves_of (test := fun q => q.vtype == 0x51) (f := fun d q => d.nodeRead (leAt q.payload 0 1) (leAt q.payload 1 1)) rfl hq
      (beq_iff_eq.mpr ht) ha h hp
  refine ⟨fun ht => ⟨fun hs => req ht (nodeRequest_down hs) rfl, fun hs hk => req ht (nodeRequest_unknown hs hk) rfl,
      fun hs hk h5 h6 => req ht (nodeRequest_type hs hk h5 h6) rfl, fun hs hk hb => ?_⟩, fun ht hg => ⟨fun hw => ?_, fun h1 hw hk => ?_,
      fun h1 h64 b l hl => ?_⟩, fun ht h1 h64 hg => ?_⟩
  · have hq := nodeRequest_queued (data := q.payload.drop 8) hs hk hb
    rw [← outboundRoom_full]
    cases hr : d.outboundRoom (d.homeSheaf p node) ((x.node node).message p node (f 2 1) (q.payload.drop 8)).length with
    | false =>
      have hm : r = (d, 0x1022) := hostMessage_full hr
      rw [hm]
      exact ⟨.inr rfl, by simp, req ht (hq.trans hm) ⟨rfl, fun _ => rfl, nofun⟩⟩
    | true =>
      have hm : r = (d.sendMessage p node (f 2 1) (q.payload.drop 8) (d.homeSheaf p node), 0) := hostMessage_room hr
      rw [hm]
      obtain ⟨-, h64, -⟩ := hk
      exact ⟨.inl rfl, by simp, req ht (hq.trans hm) ⟨rfl, nofun, fun _ => sendMessage_requests (by omega) _⟩⟩
  · refine read ht ((nodeRead_reply hg).trans ?_) rfl
    rw [readNode_none (hw node) fun _ => hw, readReply, repliesWait_none hw]
    simp only [b2n, Bool.false_eq_true, if_false, Nat.mul_zero, List.append_assoc, none4]
    rfl
  · refine read ht ((nodeRead_reply hg).trans ?_) rfl
    rw [readNode_none hw fun h0 => absurd h0 (by omega), readReply, repliesWait_some hk, List.append_assoc, List.append_assoc]
    rfl
  · obtain ⟨e, payload, he, hrr, hp1, hp2, hlast⟩ := readReply_served (node := node) hl
    have hn : d.readNode p node = some node := readNode_named (by omega) (by rw [hl]; nofun)
    exact ⟨payload, hp1, hp2, fun _ h2 => hlast h2, read ht ((nodeRead_reply hg).trans (by rw [hn, he])) hrr⟩
  · exact read ht (nodeRead_givenUp h1 h64 hg) (congrArg Node.gaveUp (node_modNode _ _ _ _))

end Sys2Proof.Proofs
end

section
/-! OBLIGATION O48. The STATE requests: the answers, the checks of an entry to RUN, the departure and the shutdown (R322, R404–R407). -/

namespace Sys2Proof.Proofs

open Sys2Proof.Machine Sys2Proof.Safety

/-! ### A departure -/

section Departure

variable {d e f : Dev}

/-- Work of a module that dispatches no task: signals and the log. -/
structure Parked (d e : Dev) : Prop where
  stored : Stored d e
  cores : e.cores = d.cores
  placer : e.placer = d.placer

theorem Parked.refl (d : Dev) : Parked d d := ⟨.refl d, rfl, rfl⟩

theorem Parked.trans (h : Parked d e) (g : Parked e f) : Parked d f :=
  ⟨h.stored.trans g.stored, g.cores.trans h.cores, g.placer.trans h.placer⟩

theorem Logs.parked (h : Logs d e) : Parked d e := ⟨(Stored.refl d).logs h, h.cores, h.placer⟩

theorem parked_of_sigs {e : Dev} (h : e = { d with sigs := e.sigs, hidden := e.hidden }) : Parked d e := by
  rw [h]
  exact ⟨⟨rfl, fun _ => rfl, fun _ _ => rfl, fun _ => door_refl rfl⟩, rfl, rfl⟩

theorem fireTriggers_leaving (h : d.sys.leaving = true) (test : TrigKind → Bool) : d.fireTriggers test = d := by
  refine if_neg ?_
  unfold Dev.scheduling
  rw [h]
  simp

theorem parked_sigStore (h : d.sys.leaving = true) (n : Nat) (v : Word) (valid stale : Bool) (tag : Nat) :
    Parked d (d.sigStore n v valid stale tag) := by
  unfold Dev.sigStore Dev.fireWrite
  extract_lets old tracked q q1 d1
  have h1 : Parked d d1 := parked_of_sigs rfl
  have h2 : Parked d (d1.traceWrite n tag v q1) := h1.trans ((Logs.refl d1).traceWrite n tag v q1).parked
  rw [fireTriggers_leaving (by rw [h2.stored.sys]; exact h)]
  exact h2

theorem parked_sigHome (h : d.sys.leaving = true) (n : Nat) (v : Word) (valid stale : Bool) (tag : Nat) :
    Parked d (d.sigHome n v valid stale tag) := by
  have hh (l : SMap (Word × Bool)) : Parked d { d with hidden := l } := parked_of_sigs rfl
  have hw (l : SMap (Word × Bool)) := parked_sigStore (d := { d with hidden := l }) h
  unfold Dev.sigHome Dev.sigDiscard
  split
  · exact (hh _).trans (hw _ _ _ _ _ _)
  · exact (hh _).trans (hw _ _ _ _ _ _)

theorem parked_devSig (h : d.sys.leaving = true) (n : Nat) (v : Word) (valid stale : Bool) : Parked d (d.devSig n v valid stale) := by
  unfold Dev.devSig
  split
  · exact parked_sigHome h _ _ _ _ _
  · exact .refl d

theorem parked_hsZero (h : d.sys.leaving = true) : Parked d d.hsZero :=
  List.foldlRecOn (motive := fun e => Parked d e) (List.range 32) _ (.refl d) fun e he _ _ =>
    he.trans (parked_devSig (by rw [he.stored.sys]; exact h) _ _ _ _)

/-- What becomes of a migration as RUN is left. -/
structure Dropped (d e : Dev) : Prop where
  gone : ∀ m, d.placer.mig = some m → m.phase ≠ .copying → e.placer.mig = none ∧
    ∀ z, d.image.isSome → d.doorPl m.door = some z →
      e.placer.migCode = 0x9024 ∧ e.reg Adr.plcMigfail = satInc (d.reg Adr.plcMigfail)
  copied : ∀ m, d.placer.mig = some m → m.phase = .copying → e.placer.mig = some m

/-- The parts that a dropped migration does not touch. -/
def SameRest (d e : Dev) : Prop := e.sys = d.sys ∧ e.host = d.host ∧ e.cores = d.cores ∧ e.pair = d.pair

theorem Parked.rest (h : Parked d e) : SameRest d e := ⟨h.stored.sys, h.stored.host, h.cores, h.stored.pair⟩

theorem SameRest.trans (h : SameRest d e) (g : SameRest e f) : SameRest d f :=
  ⟨g.1.trans h.1, g.2.1.trans h.2.1, g.2.2.1.trans h.2.2.1, g.2.2.2.trans h.2.2.2⟩

theorem abortMigration_rest (d : Dev) (im : Image) (m : Mig) (y : DoorPl) (code : Nat) (crc : Word) :
    SameRest d (d.abortMigration im m y code crc) := by
  have hl : Logs d (d.migrationRecord im m y code crc) := (Logs.refl d).event _ _ _
  exact ⟨hl.sys, hl.host, hl.cores, hl.pair⟩

theorem abortMigration_placer (d : Dev) (im : Image) (m : Mig) (y : DoorPl) (code : Nat) (crc : Word) :
    (d.abortMigration im m y code crc).placer.mig = none ∧ (d.abortMigration im m y code crc).placer.migCode = code := ⟨rfl, rfl⟩

theorem abortMigration_count (d : Dev) (im : Image) (m : Mig) (y : DoorPl) {code : Nat} (hc : code ≠ 0x9020) (crc : Word) :
    (d.abortMigration im m y code crc).reg Adr.plcMigfail = satInc (d.reg Adr.plcMigfail) := by
  have hl : Logs d (d.migrationRecord im m y code crc) := (Logs.refl d).event _ _ _
  have h := (closeMigration_ended (d.migrationRecord im m y code crc) m y.sheaf code).count Adr.plcMigfail (if_neg hc).symm
  exact h.trans (congrArg satInc (hl.reg _ (fixedReg_plc (.inr rfl)).1))

theorem dropMigration_copying {m : Mig} (hm : d.placer.mig = some m) (hc : m.phase = .copying) : d.dropMigration = d := by
  unfold Dev.dropMigration
  rw [hm]
  cases d.image <;> exact if_pos (beq_iff_eq.mpr hc)

/-- A migration in preparation is dropped without more where its door stands nowhere, and aborted elsewhere. -/
theorem dropMigration_prepared {m : Mig} (hm : d.placer.mig = some m) (hc : m.phase ≠ .copying) :
    (∀ z, d.image.isSome → d.doorPl m.door ≠ some z) ∧ d.dropMigration = d.modPlacer (fun p => { p with mig := none }) ∨
      ∃ im y, d.dropMigration = d.abortMigration im m y 0x9024 0 := by
  have hb : ¬(m.phase == .copying) = true := fun h => hc (beq_iff_eq.mp h)
  unfold Dev.dropMigration
  rw [hm]
  cases d.image with
  | none => exact .inl ⟨nofun, if_neg hb⟩
  | some im =>
    cases hy : d.doorPl m.door with
    | none => exact .inl ⟨nofun, (if_neg hb).trans (by rw [hy])⟩
    | some y => exact .inr ⟨im, y, (if_neg hb).trans (by rw [hy])⟩

theorem dropMigration_outcome (d : Dev) : Dropped d d.dropMigration ∧ SameRest d d.dropMigration := by
  cases hm : d.placer.mig with
  | none =>
    have h : d.dropMigration = d := by
      unfold Dev.dropMigration
      rw [hm]
    rw [h]
    exact ⟨⟨by rw [hm]; nofun, by rw [hm]; nofun⟩, rfl, rfl, rfl, rfl⟩
  | some m =>
    by_cases hc : m.phase = .copying
    · rw [dropMigration_copying hm hc]
      exact ⟨⟨fun k hk hp => absurd (Option.some.inj (hm.symm.trans hk) ▸ hc) hp, fun k hk _ => hk⟩, rfl, rfl, rfl, rfl⟩
    · have hcopied : ∀ k, d.placer.mig = some k → k.phase = .copying → d.dropMigration.placer.mig = some k :=
        fun k hk hp => absurd (Option.some.inj (hm.symm.trans hk) ▸ hp) hc
      obtain ⟨hz, h⟩ | ⟨im, y, h⟩ := dropMigration_prepared hm hc
      · refine ⟨⟨fun k hk _ => ⟨by rw [h]; rfl, fun z hi hd => absurd ?_ (hz z hi)⟩, hcopied⟩, by rw [h]; exact ⟨rfl, rfl, rfl, rfl⟩⟩
        rw [Option.some.inj (hm.symm.trans hk)]
        exact hd
      · obtain ⟨hg, hcode⟩ := abortMigration_placer d im m y 0x9024 0
        exact ⟨⟨fun _ _ _ => ⟨by rw [h, hg], fun _ _ _ => ⟨by rw [h, hcode], by rw [h, abortMigration_count d im m y (by decide)]⟩⟩, hcopied⟩,
          by rw [h]; exact abortMigration_rest ..⟩

/-- The module as a departure begins: LEAVING, and every task taken from its core. -/
def taskless (d : Dev) : Dev :=
  let d := d.modSys fun y => { y with leaving := true, departAt := some y.frame }
  { d with cores := d.cores.map fun k => (k.1, ({ k.2 with cur := none, round := none } : Core)) }

/-- The stop requests of the axes under way. -/
def stopsRaised (d : Dev) : Dev :=
  d.axes'.foldl (fun d n =>
    let st := (d.axis n).motion.st
    if st == .stand || st == .off then d else d.raiseStop n 13 2 0) d

theorem depart_eq (d : Dev) : d.depart = ((stopsRaised (taskless d)).hsZero.dropMigration).showPower := rfl

theorem stopsRaised_axes (d : Dev) : ∃ a : SMap Axis, stopsRaised d = { d with axes := a } := by
  refine List.foldlRecOn (motive := fun e : Dev => ∃ a : SMap Axis, e = { d with axes := a }) d.axes' _ ⟨d.axes, rfl⟩ fun e ⟨a, he⟩ n _ => ?_
  dsimp only
  split
  · exact ⟨a, he⟩
  · exact ⟨_, by rw [he]; rfl⟩

/-- What a departure leaves. -/
theorem depart_outcome (d : Dev) : d.depart.sys = { d.sys with leaving := true, departAt := some d.sys.frame } ∧
    d.depart.host = d.host ∧ d.depart.pair = d.pair ∧ (∀ k ∈ d.depart.cores, k.2.cur = none ∧ k.2.round = none) ∧ Dropped d d.depart := by
  obtain ⟨a, ha⟩ := stopsRaised_axes (taskless d)
  have hl : ({ taskless d with axes := a } : Dev).sys.leaving = true := rfl
  have h1 := parked_hsZero hl
  have h2 := dropMigration_outcome ({ taskless d with axes := a } : Dev).hsZero
  rw [depart_eq, ha]
  generalize ({ taskless d with axes := a } : Dev).hsZero = e at h1 h2 ⊢
  obtain ⟨hd, hr⟩ := h2
  have h3 : Parked e.dropMigration e.dropMigration.showPower := parked_devSig (by rw [hr.1, h1.stored.sys]; exact hl) _ _ _ _
  generalize e.dropMigration = f at hd hr h3 ⊢
  obtain ⟨hsys, hhost, hcores, hpair⟩ := (h1.rest.trans hr).trans h3.rest
  refine ⟨hsys, hhost, hpair, fun k hk => ?_, ?_⟩
  · rw [hcores] at hk
    obtain ⟨z, -, rfl⟩ := List.mem_map.mp hk
    exact ⟨rfl, rfl⟩
  · have hp : e.placer = d.placer := h1.placer
    have hi : e.image = d.image := h1.stored.image
    have hreg : e.reg Adr.plcMigfail = d.reg Adr.plcMigfail := h1.stored.reg _ (fixedReg_plc (.inr rfl))
    have hdoor (x : Nat) : e.doorPl x = d.doorPl x := by rw [Dev.doorPl, hp]; rfl
    refine ⟨fun m hm hc => ?_, fun m hm hc => ?_⟩
    · obtain ⟨hg, hz⟩ := hd.gone m (by rw [hp]; exact hm) hc
      refine ⟨by rw [h3.placer, hg], fun z hs hdz => ?_⟩
      obtain ⟨hcode, hn⟩ := hz z (by rw [hi]; exact hs) (by rw [hdoor]; exact hdz)
      exact ⟨by rw [h3.placer, hcode], by rw [h3.stored.reg _ (fixedReg_plc (.inr rfl)), hn, hreg]⟩
    · rw [h3.placer]
      exact hd.copied m (by rw [hp]; exact hm) hc

end Departure

/-! ### The statement -/

section Requests

variable {s : State} {q : VReq} {target : Nat → Bool} {f : Dev → VReq → Dev} {i : Instr}

theorem stateServe_runs (hi : exec i s = stateServe target f s) (hq : fronts s q) (ha : s.dev.vhpAccept q.vtype q.payload = 0)
    (ht : q.vtype = 0x05) (hg : target (leAt q.payload 0 1) = true) : exec i s = .next { s with dev := f s.dev q } := by
  rw [hi]
  unfold stateServe
  rw [vhpFront_of_fronts hq, if_pos (by rw [ht, hg]; rfl)]
  dsimp only
  rw [if_neg (not_not_intro ha)]

/-- An answer at once: the status in PWR_CMDSTAT, and the state where it is 0x0000. -/
theorem stateServe_replies (hi : exec i s = stateServe target f s) (hq : fronts s q) (ha : s.dev.vhpAccept q.vtype q.payload = 0)
    (ht : q.vtype = 0x05) (hg : target (leAt q.payload 0 1) = true) {e : Dev} {status code : Nat} {state : Power}
    (hf : f s.dev q = e.answerState q status state s.dev.sys.frame) (hc : status = 0 → state.code = code) {post : Dev → Prop}
    (hp : post (e.setReg Adr.pwrCmdstat (wordOfNat status))) :
    Serves i s q status (if status = 0 then [BitVec.ofNat 8 code] else [])
      fun d' => d'.reg Adr.pwrCmdstat = BitVec.ofNat 32 status ∧ post d' := by
  refine ⟨_, (stateServe_runs hi hq ha ht hg).trans ?_, reg_setReg_self _ _ _, hp⟩
  rw [hf, Dev.answerState]
  by_cases h : status = 0
  · rw [if_pos h, if_pos h, hc h]
    rfl
  · rw [if_neg h, if_neg h]

theorem enterRun_refused {d : Dev} (h : d.runChecks.2 ≠ 0) : ∃ e : Dev, d.enterRun q = e.answerState q d.runChecks.2 .idle d.sys.frame ∧
    e.sys.fixed = d.sys.fixed := by
  refine ⟨_, if_pos h, ?_⟩
  have hk : Kept d.sys.fixed d.runChecks.1 := Dev_runChecks_kept rfl
  split
  · exact Dev_updCode_kept hk
  · exact hk

/-- An entry that passes its checks. -/
theorem enterRun_begun {d : Dev} (h : d.runChecks.2 = 0) : (d.enterRun q).sys.entering = true ∧ (d.enterRun q).sys.power = d.sys.power ∧
    (d.enterRun q).sys.enterAt = some d.sys.frame ∧ (d.enterRun q).host.executing = true ∧ (d.enterRun q).host.queue = d.host.queue := by
  have hk : Kept d.sys.fixed d.runChecks.1 := Dev_runChecks_kept rfl
  have ho := host_of_outer (Dev_runChecks_outer (d := d) rfl)
  have he : d.enterRun q = _ := if_neg (not_not_intro h)
  rw [he]
  generalize d.runChecks.1 = e at hk ho ⊢
  have hq : e.host.queue = d.host.queue := congrArg HostUnit.queue ho
  have hp : e.sys.power = d.sys.power := show e.sys.fixed.power = d.sys.fixed.power from congrArg Sys.power hk
  have hs : Stored ((e.modSys fun y => { y with entering := true, enterAt := some d.sys.frame }).holdFront)
      ((e.modSys fun y => { y with entering := true, enterAt := some d.sys.frame }).holdFront).showPower := (Stored.refl _).devSig _ _ _ _
  refine ⟨congrArg Sys.entering hs.sys, (congrArg Sys.power hs.sys).trans hp, congrArg Sys.enterAt hs.sys,
    congrArg HostUnit.executing hs.host, (congrArg HostUnit.queue hs.host).trans hq⟩

/-- What a departure shows. -/
def Departs (d d' : Dev) : Prop :=
  d'.sys.power = .run ∧ d'.sys.leaving = true ∧ d'.sys.departAt = some d.sys.frame ∧
    d'.host.executing = true ∧ (∀ k ∈ d'.cores, k.2.cur = none ∧ k.2.round = none) ∧
    (∀ m, d.placer.mig = some m → m.phase ≠ .copying → d'.placer.mig = none ∧
      ∀ z, d.image.isSome → d.doorPl m.door = some z →
        d'.placer.migCode = 0x9024 ∧ d'.reg Adr.plcMigfail = satInc (d.reg Adr.plcMigfail)) ∧
    (∀ m, d.placer.mig = some m → m.phase = .copying → d'.placer.mig = some m)

theorem departs_of {d e : Dev} (hp : d.sys.power = .run) (h : e.sys.power = d.sys.power ∧ e.sys.frame = d.sys.frame)
    (hx : e.host.executing = true) (hd : Dropped e e.depart → Dropped d e.depart) : Departs d e.depart := by
  obtain ⟨hs, hh, -, hc, hm⟩ := depart_outcome e
  obtain ⟨hg, hk⟩ := hd hm
  refine ⟨?_, by rw [hs], ?_, by rw [hh]; exact hx, hc, hg, hk⟩
  · rw [hs]
    exact h.1.trans hp
  · rw [hs]
    exact congrArg some h.2

theorem shutDown_run {d : Dev} (hp : d.sys.power = .run) (to' : Power) :
    (d.shutDown to').sys.shutdown = some (to', .departing) ∧ Departs d (d.shutDown to') := by
  have he : d.shutDown to' = (d.holdFront.modSys fun y => { y with shutdown := some (to', .departing) }).depart :=
    if_pos (beq_iff_eq.mpr hp)
  rw [he]
  exact ⟨congrArg Sys.shutdown (depart_outcome _).1, departs_of hp ⟨rfl, rfl⟩ rfl fun h => ⟨h.gone, h.copied⟩⟩

theorem shutDown_idle {d : Dev} (hp : d.sys.power = .idle) (to' : Power) :
    (d.shutDown to').sys.shutdown = some (to', .draining) ∧ (d.shutDown to').sys.power = .idle ∧
      (d.shutDown to').host.executing = true ∧
      ((d.shutDown to').pair.releaseDue = true ↔ d.pair.role = .active ∨ d.pair.releaseDue = true) := by
  have he : d.shutDown to' = d.holdFront.drain to' := if_neg (by show ¬(d.sys.power == .run) = true; rw [hp]; nofun)
  rw [he]
  have hr : d.holdFront.drain to' = (if (d.pair.role == .active) = true then d.holdFront.modPair fun p => { p with releaseDue := true }
      else d.holdFront).modSys fun y => { y with shutdown := some (to', .draining) } := rfl
  rw [hr]
  by_cases ha : d.pair.role = .active
  · rw [if_pos (beq_iff_eq.mpr ha)]
    exact ⟨rfl, hp, rfl, fun _ => .inl ha, fun _ => rfl⟩
  · rw [if_neg fun h => ha (beq_iff_eq.mp h)]
    exact ⟨rfl, hp, rfl, .inr, fun h => h.resolve_left ha⟩

end Requests

/-- Settles O48. -/
theorem stateRequests : Obligations.StateRequests := by
  intro s q hq ha ht d y target replies r departs shut
  have shuts {i : Instr} {code : Nat} {to' : Power} (hi : exec i s = stateServe (fun t => t == code) (fun d _ => d.shutDown to') s) :
      shut i code to' := by
    intro hg
    have hx := stateServe_runs hi hq ha ht (beq_iff_eq.mpr hg)
    exact ⟨fun hp => answers_next hx (shutDown_idle hp to'), fun hp => answers_next hx (shutDown_run hp to')⟩
  have hn : d.image.isSome = true → ¬d.image.isNone = true := by cases d.image <;> simp
  refine ⟨fun hg => ?_, fun hg hp => ?_, fun hg hp h0 => ?_, fun hg hp h0 => ?_, fun hg hp => ?_, fun hg hp => ?_,
    shuts (exec_stateKeep s), shuts (exec_stateRoast s), shuts (exec_stateOff s), fun hi => ?_, fun hi hh => ?_,
    fun hi hh hs => ?_, fun hi hh hs hf => ?_⟩
  · exact stateServe_replies (exec_stateInvalidTarget s) hq ha ht (decide_eq_true hg) rfl (fun h => absurd h (by decide)) (post := fun d' => d'.sys = y) rfl
  · exact stateServe_replies (exec_stateRun s) hq ha ht (beq_iff_eq.mpr hg) (if_pos (beq_iff_eq.mpr hp)) (fun _ => rfl) (post := fun d' => d'.sys = y) rfl
  · obtain ⟨e, he, hk⟩ := enterRun_refused (q := q) h0
    have he1 : e.sys.entering = d.sys.entering := show e.sys.fixed.entering = d.sys.fixed.entering from congrArg Sys.entering hk
    have he2 : e.sys.power = d.sys.power := show e.sys.fixed.power = d.sys.fixed.power from congrArg Sys.power hk
    exact stateServe_replies (exec_stateRun s) hq ha ht (beq_iff_eq.mpr hg)
      ((if_neg (by show ¬(d.sys.power == .run) = true; rw [hp]; nofun)).trans he) (fun h => absurd h h0)
      ⟨he1, he2.trans hp⟩
  · have hx := stateServe_runs (exec_stateRun s) hq ha ht (beq_iff_eq.mpr hg)
    rw [if_neg (by show ¬(d.sys.power == .run) = true; rw [hp]; nofun)] at hx
    obtain ⟨h1, h2, h3, h4, h5⟩ := enterRun_begun (q := q) h0
    exact answers_next hx ⟨h1, h2.trans hp, h3, h4, h5⟩
  · exact stateServe_replies (exec_stateIdle s) hq ha ht (beq_iff_eq.mpr hg)
      (if_neg (by show ¬(d.sys.power == .run) = true; rw [hp]; nofun)) (fun _ => rfl) (post := fun d' => d'.sys = y) rfl
  · have hx := stateServe_runs (exec_stateIdle s) hq ha ht (beq_iff_eq.mpr hg)
    rw [if_pos (beq_iff_eq.mpr hp)] at hx
    exact answers_next hx (departs_of hp ⟨rfl, rfl⟩ rfl fun h => ⟨h.gone, h.copied⟩)
  · exact congrArg Prod.snd (if_pos (by rw [hi]; rfl))
  · exact congrArg Prod.snd ((if_neg (hn hi)).trans (if_pos hh))
  · exact congrArg Prod.snd ((if_neg (hn hi)).trans ((if_neg (by rw [hh]; nofun)).trans (if_pos hs)))
  · exact congrArg Prod.snd ((if_neg (hn hi)).trans ((if_neg (by rw [hh]; nofun)).trans ((if_neg (by rw [hs]; nofun)).trans (if_pos hf))))

end Sys2Proof.Proofs
end

section
/-! SUPPORT. What the beginning and the end of RUN keep: the host unit, and the limits or the rest of the axes (R405, R406). -/

namespace Sys2Proof.Proofs

open Sys2Proof.Machine Sys2Proof.Safety

/-- What each step of a fold brings about for its own element, and keeps for every other, holds for every element at the end. -/
theorem foldl_reaches {α : Type} {P : Dev → α → Prop} {f : Dev → α → Dev} (hself : ∀ d a, P (f d a) a) (hkeep : ∀ d a b, P d b → P (f d a) b)
    (l : List α) (d : Dev) {a : α} (h : a ∈ l ∨ P d a) : P (l.foldl f d) a := by
  induction l generalizing d with
  | nil => exact h.resolve_left List.not_mem_nil
  | cons b l ih =>
    refine ih (f d b) ?_
    rw [List.mem_cons, or_assoc] at h
    obtain rfl | h | h := h
    · exact .inr (hself d a)
    · exact .inl h
    · exact .inr (hkeep d b a h)

/-! ### The entry to RUN -/

section Entry

variable {d e f : Dev}

/-- The limits that a program set for an axis. -/
def caps (a : Axis) : Option Word × Option Word := (a.motion.spdCap, a.motion.accCap)

/-- Work that leaves the host unit and the axes' limits as they are. -/
structure EntersRun (d e : Dev) : Prop where
  host : e.host = d.host
  caps : ∀ n, caps (e.axis n) = caps (d.axis n)

theorem EntersRun.refl (d : Dev) : EntersRun d d := ⟨rfl, fun _ => rfl⟩

theorem EntersRun.trans (h : EntersRun d e) (g : EntersRun e f) : EntersRun d f :=
  ⟨g.host.trans h.host, fun n => (g.caps n).trans (h.caps n)⟩

theorem EntersRun.ite {p : Prop} [Decidable p] (h : EntersRun d e) (g : EntersRun d f) : EntersRun d (if p then e else f) := by
  split
  · exact h
  · exact g

theorem EntersRun.foldl {α : Type} {l : List α} {f : Dev → α → Dev} (hf : ∀ e a, EntersRun d e → EntersRun d (f e a)) (h : EntersRun d e) :
    EntersRun d (l.foldl f e) := List.foldlRecOn (motive := EntersRun d) l f h fun e he a _ => hf e a he

theorem EntersRun.outer (h : EntersRun d e) (ho : Outer e.outer f) : EntersRun d f :=
  h.trans ⟨host_of_outer ho, fun n => by rw [Dev.axis, axes_of_outer ho]; rfl⟩

theorem EntersRun.setAxis (h : EntersRun d e) (n : Nat) {x : Axis} (hx : Proofs.caps x = Proofs.caps (e.axis n)) : EntersRun d (e.setAxis n x) := by
  refine h.trans ⟨rfl, fun m => ?_⟩
  by_cases hm : m = n
  · rw [hm, axis_setAxis_self, hx]
  · rw [axis_setAxis_other _ _ hm]

theorem EntersRun.modMotion (h : EntersRun d e) (n : Nat) {f : Motion → Motion} (hf : ∀ m, (f m).spdCap = m.spdCap ∧ (f m).accCap = m.accCap) :
    EntersRun d (e.modMotion n f) := h.setAxis n (Prod.ext (hf _).1 (hf _).2)

theorem EntersRun.raiseStopNext (h : EntersRun d e) (n cause ramp code : Nat) : EntersRun d (e.raiseStopNext n cause ramp code) :=
  h.modMotion n fun _ => ⟨rfl, rfl⟩

theorem EntersRun.instanceFault (h : EntersRun d e) (c t : Nat) (x : Task) (code : Nat) : EntersRun d (e.instanceFault c t x code) := by
  unfold Dev.instanceFault
  extract_lets axes payload d1 d2 d3 d4 d5 k
  have h1 : EntersRun d d1 := h.trans ⟨rfl, fun _ => rfl⟩
  have h2 : EntersRun d d2 := EntersRun.foldl (fun e n g =>
    (g.modMotion n (f := fun m => { m with posted := [] }) fun _ => ⟨rfl, rfl⟩).raiseStopNext n 10 2 code) h1
  clear_value d2
  exact h2.outer (Dev_setCore_outer (Dev_setReg_outer (Dev_setReg_outer (Dev_orReg_outer (Dev_incReg_outer rfl)))))

theorem EntersRun.taskFault (h : EntersRun d e) (c t code count : Nat) : EntersRun d (e.taskFault c t code count) := by
  unfold Dev.taskFault
  extract_lets spent x0 x d1 d2 d3 d4
  have h2 : EntersRun d d2 := h.outer (Dev_traceTask_outer (Dev_setTask_outer rfl))
  have h3 : EntersRun d d3 := .ite (h2.outer (Dev_roundCycles_outer rfl)) h2
  have h4 : EntersRun d d4 := .ite (h3.outer (Dev_systemFault_outer rfl)) (h3.instanceFault _ _ _ _)
  exact h4.outer (Dev_choose_outer rfl)

theorem EntersRun.releaseCoarse (h : EntersRun d e) (c t : Nat) : EntersRun d (e.releaseCoarse c t) := by
  unfold Dev.releaseCoarse
  extract_lets x k d1 tick since d2 x2
  have h1 : EntersRun d d1 := .ite (h.outer (Dev_setCore_outer rfl)) h
  exact .ite h <| .ite (h1.taskFault _ _ _ _) <| .ite (h.outer (Dev_setTask_outer rfl)) <|
    h.outer (Dev_setTask_outer (Dev_takeOrd_outer (Dev_primeTask_outer rfl)))

theorem EntersRun.loadImage (h : EntersRun d e) : EntersRun d e.loadImage := by
  unfold Dev.loadImage
  split
  next => exact h
  next im _ =>
    extract_lets d1 d2 d3
    have h1 : EntersRun d d1 := h.trans ⟨rfl, fun _ => rfl⟩
    have h2 : EntersRun d d2 := EntersRun.foldl (fun e p g => by
      unfold Dev.loadDoor
      extract_lets d1 w
      have g1 : EntersRun d d1 := EntersRun.foldl (fun e q g => g.outer (Dev_primeTask_outer (Dev_setTask_outer rfl))) g
      exact g1.trans ⟨rfl, fun _ => rfl⟩) h1
    have h3 : EntersRun d d3 := h2.outer (Dev_loadSystem_outer rfl)
    exact EntersRun.foldl (fun e p g => g.outer (Dev_sigInit_outer rfl)) h3

theorem EntersRun.cyclesRunEntry (h : EntersRun d e) : EntersRun d e.cyclesRunEntry := by
  unfold Dev.cyclesRunEntry
  extract_lets d1
  have h1 : EntersRun d d1 := h.trans ⟨rfl, fun _ => rfl⟩
  refine EntersRun.foldl (fun e n g => ?_) h1
  extract_lets a relearn live e0 e1 e2
  have g1 : EntersRun d e1 := g.setAxis n rfl
  have g2 : EntersRun d e2 := .ite (g1.outer (Dev_requestLifetime_outer (Dev_devSig_outer rfl))) g1
  exact g2.outer (Dev_cycleSlots_outer rfl)

theorem EntersRun.islandRunEntry (h : EntersRun d e) : EntersRun d e.islandRunEntry := by
  unfold Dev.islandRunEntry
  extract_lets d1 d2
  have h1 : EntersRun d d1 := EntersRun.foldl (fun e n g => by
    have g1 : EntersRun d (e.setSafe n { st := if bit (e.reg (Adr.safAxcfg n)) 0 then .clear else .none, hist := (e.safe n).hist }) :=
      g.trans ⟨rfl, fun _ => rfl⟩
    exact g1.outer (Dev_showSafe_outer rfl)) h
  have h2 : EntersRun d d2 := .ite h1 (h1.outer (Dev_event_outer rfl))
  exact .ite (h2.outer (Dev_event_outer rfl)) h2

theorem EntersRun.axisRestore (h : EntersRun d e) (n : Nat) : EntersRun d (e.axisRestore n) := .ite (h.setAxis n rfl) h

/-- One axis as RUN begins. -/
def axisEntered (d : Dev) (n : Nat) : Dev :=
  let a := d.axis n
  let d := d.setAxis n { a with motion := { a.motion with spdCap := none, accCap := none, posted := [], due := [], stops := [],
                                                          stopNext := [], seq := 0, modeSel := 0, strong := false, forced := false },
                                homing := { latched := a.homing.latched }, estim := {} }
  let d := (d.setAxis n { d.axis n with unlatched := 0 }).devSig (slotSig n 24) 0
  (((d.setReg (Adr.axMoves n) 0).setReg (Adr.axStops n) 0).setReg (Adr.axRefused n) 0).motionSlots n

theorem axisEntered_outcome (d : Dev) (n : Nat) : (axisEntered d n).host = d.host ∧ caps ((axisEntered d n).axis n) = (none, none) ∧
    ∀ m, m ≠ n → (axisEntered d n).axis m = d.axis m := by
  unfold axisEntered
  extract_lets a m d1 b d2
  have h1 : d1.host = d.host ∧ caps (d1.axis n) = (none, none) ∧ ∀ m, m ≠ n → d1.axis m = d.axis m :=
    ⟨rfl, congrArg caps (axis_setAxis_self _ _ _), fun m hm => axis_setAxis_other _ _ hm⟩
  clear_value d1
  have ho : ((((d2.setReg (Adr.axMoves n) 0).setReg (Adr.axStops n) 0).setReg (Adr.axRefused n) 0).motionSlots n).outer =
      (d1.setAxis n { d1.axis n with unlatched := 0 }).outer :=
    Dev_motionSlots_outer (Dev_setReg_outer (Dev_setReg_outer (Dev_setReg_outer (Dev_devSig_outer rfl))))
  have ha (m : Nat) : ((((d2.setReg (Adr.axMoves n) 0).setReg (Adr.axStops n) 0).setReg (Adr.axRefused n) 0).motionSlots n).axis m =
      (d1.setAxis n { d1.axis n with unlatched := 0 }).axis m := by rw [Dev.axis, axes_of_outer ho]; rfl
  obtain ⟨hh, hc, hm⟩ := h1
  refine ⟨(host_of_outer ho).trans hh, ?_, fun m hmn => ?_⟩
  · rw [ha, axis_setAxis_self]
    exact hc
  · rw [ha, axis_setAxis_other _ _ hmn, hm m hmn]

theorem axesEntered (l : List Nat) (d : Dev) : (l.foldl axisEntered d).host = d.host ∧
    ∀ n ∈ l, caps ((l.foldl axisEntered d).axis n) = (none, none) := by
  refine ⟨List.foldlRecOn (motive := fun e : Dev => e.host = d.host) l _ rfl fun e he n _ => (axisEntered_outcome e n).1.trans he, fun n hn => ?_⟩
  refine foldl_reaches (P := fun d n => caps (d.axis n) = (none, none)) (fun d n => (axisEntered_outcome d n).2.1) (fun d m k hk => ?_) l d
    (.inl hn)
  by_cases hm : k = m
  · rw [hm]
    exact (axisEntered_outcome d m).2.1
  · rw [(axisEntered_outcome d m).2.2 k hm]
    exact hk

/-- RUN begins: the host unit is as it was, and no axis has a limit of a program. -/
theorem runEntry_outcome (d : Dev) : d.runEntry.host = d.host ∧ ∀ n ∈ d.axes', caps (d.runEntry.axis n) = (none, none) := by
  unfold Dev.runEntry
  extract_lets d1 d2 d3 d4 d5 r d6 d7 d8 d9 d10 d11 d12 d13
  have h2 : d2.host = d.host ∧ ∀ n ∈ d.axes', caps (d2.axis n) = (none, none) := axesEntered d1.axes' d1
  clear_value d2
  have h4 : EntersRun d2 d4 := ((EntersRun.refl d2).cyclesRunEntry.islandRunEntry.outer (Dev_placerRunEntry_outer rfl)).loadImage
  clear_value d4
  have h8 : EntersRun d2 d8 := h4.trans ⟨rfl, fun _ => rfl⟩
  clear_value d8
  have h9 : EntersRun d2 d9 := EntersRun.foldl (fun e n g => g.axisRestore n) h8
  clear_value d9
  have h10 : EntersRun d2 d10 := h9.outer (Dev_showPower_outer rfl)
  clear_value d10
  have h11 : EntersRun d2 d11 := EntersRun.foldl (fun e c g => .ite (g.outer (Dev_startRound_outer (Dev_setCore_outer rfl)))
    (g.outer (Dev_setCore_outer rfl))) h10
  clear_value d11
  have h12 : EntersRun d2 d12 := by
    refine EntersRun.foldl (fun e c g => ?_) (h11.outer (Dev_migrationTakeup_outer rfl))
    exact .ite g (EntersRun.foldl (fun e p g => g.releaseCoarse c p.1) g)
  clear_value d12
  have h13 : EntersRun d2 d13 := h12.outer (Dev_modSys_outer rfl)
  clear_value d13
  have h14 : EntersRun d2 ((List.range 17).foldl (fun d c => d.choose c) d13) :=
    EntersRun.foldl (fun e c g => g.outer (Dev_choose_outer rfl)) h13
  exact ⟨h14.host.trans h2.1, fun n hn => (h14.caps n).trans (h2.2 n hn)⟩

end Entry

/-! ### The end of RUN -/

section Leave

variable {d e f : Dev}

/-- Work that leaves the host unit as it is and every axis at rest. -/
structure LeavesRun (d e : Dev) : Prop where
  host : e.host = d.host
  parked : ∀ n, parked d n → parked e n

theorem LeavesRun.refl (d : Dev) : LeavesRun d d := ⟨rfl, fun _ => id⟩

theorem LeavesRun.trans (h : LeavesRun d e) (g : LeavesRun e f) : LeavesRun d f :=
  ⟨g.host.trans h.host, fun n hn => g.parked n (h.parked n hn)⟩

theorem LeavesRun.foldl {α : Type} {l : List α} {f : Dev → α → Dev} (hf : ∀ e a, LeavesRun d e → LeavesRun d (f e a)) (h : LeavesRun d e) :
    LeavesRun d (l.foldl f e) := List.foldlRecOn (motive := LeavesRun d) l f h fun e he a _ => hf e a he

theorem LeavesRun.of_axes (h : LeavesRun d e) (hh : f.host = e.host) (ha : f.axes = e.axes) : LeavesRun d f :=
  h.trans ⟨hh, fun n hn => by
    have he : f.axis n = e.axis n := by rw [Dev.axis, ha]; rfl
    unfold Safety.parked
    rw [he]
    exact hn⟩

theorem LeavesRun.axisOff (h : LeavesRun d e) (n : Nat) : LeavesRun d (e.axisOff n) :=
  h.trans ⟨rfl, fun _ hm => parked_axisOff e n (.inr hm)⟩

theorem LeavesRun.discardOpen (h : LeavesRun d e) (p n : Nat) : LeavesRun d (e.discardOpen p n) := h.of_axes rfl rfl

theorem LeavesRun.setAxis (h : LeavesRun d e) (n : Nat) {x : Axis} (hx : x.motion = (e.axis n).motion) : LeavesRun d (e.setAxis n x) := by
  refine h.trans ⟨rfl, fun m hm => ?_⟩
  unfold Safety.parked at *
  by_cases hn : m = n
  · subst hn
    rw [axis_setAxis_self, hx]
    exact hm
  · rw [axis_setAxis_other _ _ hn]
    exact hm

theorem LeavesRun.modPort (h : LeavesRun d e) (p : Nat) (f : Port → Port) : LeavesRun d (e.modPort p f) := h.of_axes rfl rfl

theorem LeavesRun.beginLink (h : LeavesRun d e) (p : Nat) : LeavesRun d (e.beginLink p) := by
  unfold Dev.beginLink
  split
  · exact h
  · extract_lets d1 l d2 d3
    have h1 : LeavesRun d d1 := LeavesRun.foldl (fun e n g => g.axisOff n) h
    clear_value d1
    have h2 : LeavesRun d d2 := LeavesRun.foldl (fun e a g => g.setAxis a.axis rfl) h1
    clear_value d2
    have h3 : LeavesRun d d3 := LeavesRun.foldl (fun e q g => g.discardOpen p q.1) h2
    exact h3.modPort p _

/-- RUN ends: the host unit is as it was, and every configured axis is at rest. -/
theorem leaveRun_outcome (d : Dev) : d.leaveRun.host = d.host ∧ ∀ n ∈ d.axes', parked d.leaveRun n := by
  unfold Dev.leaveRun
  extract_lets d1 d2
  have hlog (d : Dev) (n : Nat) : (if (d.axis n).motion.st == .stand || (d.axis n).motion.st == .off then d
      else (d.event 0x0205 n).orReg Adr.pwrFlags 0x40).outer = d.outer :=
    Outer.ite rfl (Dev_orReg_outer (Dev_event_outer rfl))
  have h1 : LeavesRun d d1 := LeavesRun.foldl (fun e n g => (g.of_axes (host_of_outer (hlog e n)) (axes_of_outer (hlog e n))).axisOff n)
    (.refl d)
  have hp : ∀ n ∈ d.axes', parked d1 n := fun n hn => by
    refine foldl_reaches (P := parked) (fun e n => parked_axisOff _ n (.inl rfl)) (fun e n k hk => parked_axisOff _ n (.inr ?_)) d.axes' d (.inl hn)
    exact ((LeavesRun.refl e).of_axes (host_of_outer (hlog e n)) (axes_of_outer (hlog e n))).parked k hk
  clear_value d1
  have hz : LeavesRun d1 d1.hsZero.loopsOff := by
    have ho : d1.hsZero.outer = d1.outer := Dev_hsZero_outer rfl
    exact ((LeavesRun.refl d1).of_axes (host_of_outer ho) (axes_of_outer ho)).of_axes rfl rfl
  have h2 : LeavesRun d1 d2 := by
    have ho : d2.outer = d1.hsZero.loopsOff.outer := Dev_showPower_outer (Dev_modSys_outer rfl)
    exact hz.of_axes (host_of_outer ho) (axes_of_outer ho)
  clear_value d2
  have h3 : LeavesRun d1 (d2.enabledPorts.foldl (fun d p => d.beginLink p) d2) := LeavesRun.foldl (fun e p g => g.beginLink p) h2
  exact ⟨(h1.trans h3).host, fun n hn => h3.parked n (hp n hn)⟩

end Leave

end Sys2Proof.Proofs
end

section
/-! OBLIGATION O49. RUN begins, a departure ends, and a shutdown ends in its state (R404–R407). -/

namespace Sys2Proof.Proofs

open Sys2Proof.Machine Sys2Proof.Safety

/-! ### The answer to the request that waits -/

section Answer

variable {d : Dev}

/-- A response changes the host unit and two counts. -/
theorem respond_logs (d : Dev) (q : VReq) (st : Nat) (payload : List Byte) (frame : Word) :
    ∃ g, Logs (({ d with host := g } : Dev).incReg Adr.hostRxcnt) (d.respond q st payload frame) := by
  obtain ⟨-, -, -, g, h4⟩ := sendVhp_all q.ports (d.modHost fun h => h.answer q
    (vhpDatagram ((q.vtype + 0x80) % 256) q.seq st frame payload)) q.ip q.udp (vhpDatagram ((q.vtype + 0x80) % 256) q.seq st frame payload)
  refine ⟨{ g with queue := g.queue.drop 1, executing := false }, ?_⟩
  have hd : d.respond q st payload frame = (((({ d with host := g } : Dev).modHost fun h =>
      { h with queue := h.queue.drop 1, executing := false }).incReg Adr.hostRxcnt).countEvent 13 0 1) := by
    rw [← show _ = ({ d with host := g } : Dev) from h4]
    rfl
  rw [hd]
  exact (Logs.refl _).countEvent 13 0 1

theorem fixedReg_cmdstat : fixedReg Adr.pwrCmdstat :=
  ⟨by decide, fun c hc => by unfold Adr.pwrCmdstat Adr.sfEvdrop Adr.sfFlags; omega⟩

/-- What an answer leaves as it was. -/
structure SameModule (d e : Dev) : Prop where
  sys : e.sys = d.sys
  axes : e.axes = d.axes
  field : e.field = d.field
  island : e.island = d.island
  ports : e.ports = d.ports
  cans : e.cans = d.cans

theorem answerState_module (d : Dev) (q : VReq) (st : Nat) (state : Power) (frame : Word) :
    SameModule d (d.answerState q st state frame) ∧ (d.answerState q st state frame).reg Adr.pwrCmdstat = wordOfNat st := by
  obtain ⟨g, hl⟩ := respond_logs (d.setReg Adr.pwrCmdstat (wordOfNat st)) q st (if st = 0 then leBytes 1 state.code else []) frame
  refine ⟨⟨hl.sys, hl.axes, hl.field, hl.island, hl.ports, hl.cans⟩, ?_⟩
  rw [Dev.answerState, hl.reg _ fixedReg_cmdstat.1, reg_incReg_other _ (by decide)]
  exact reg_setReg_self _ _ _

theorem answerFront_waits {q : VReq} (hq : d.host.queue.head? = some q) (hx : d.host.executing = true) (st : Nat) (state : Power) :
    d.answerFront st state = d.answerState q st state d.host.execFrame := by
  obtain ⟨l, hl⟩ := List.head?_eq_some_iff.mp hq
  unfold Dev.answerFront
  rw [hl]
  exact if_pos hx

theorem answerFront_module (d : Dev) (st : Nat) (state : Power) : SameModule d (d.answerFront st state) := by
  unfold Dev.answerFront
  split
  · split
    · exact (answerState_module d _ _ _ _).1
    · exact ⟨rfl, rfl, rfl, rfl, rfl, rfl⟩
  · exact ⟨rfl, rfl, rfl, rfl, rfl, rfl⟩

end Answer

/-! ### The end of a shutdown -/

section Shutdown

variable {d : Dev}

theorem hsSettle_field (d : Dev) (k : Nat) (fresh : Bool) :
    ∃ f, d.hsSettle k fresh = { d with field := f } ∧ f.roastHold = d.field.roastHold := by
  unfold Dev.hsSettle
  extract_lets x wanted on start e q
  split
  · exact ⟨_, rfl, rfl⟩
  · exact ⟨_, rfl, rfl⟩

theorem fieldRoast_field (d : Dev) (hold : Bool) : ∃ f, d.fieldRoast hold = { d with field := f } ∧ f.roastHold = hold := by
  unfold Dev.fieldRoast
  extract_lets d1 d2
  have h1 : ∃ f, d1 = { d with field := f } ∧ f.roastHold = hold := ⟨_, rfl, rfl⟩
  have h2 : ∃ f, d2 = { d with field := f } ∧ f.roastHold = hold :=
    List.foldlRecOn (motive := fun e : Dev => ∃ f, e = { d with field := f } ∧ f.roastHold = hold) d1.leads _ h1 fun e ⟨f, he, hf⟩ k _ => by
      obtain ⟨g, hg, hr⟩ := hsSettle_field e k false
      refine ⟨g, ?_, hr.trans (by rw [he]; exact hf)⟩
      rw [hg, he]
  obtain ⟨f, hf, hr⟩ := h2
  obtain ⟨so, hso, -⟩ := soSettle_all d2
  refine ⟨{ f with so := so }, ?_, hr⟩
  rw [hso, hf]
  rfl

theorem showPower_stored (d : Dev) : Stored d d.showPower := (Stored.refl d).devSig _ _ _ _

/-- ROAST begins. -/
theorem beginRoast_outcome (d : Dev) : d.beginRoast.sys.power = .roast ∧ d.beginRoast.field.roastHold = true ∧ d.beginRoast.ports = [] ∧
    d.beginRoast.cans = [] ∧ (∀ l, (d.beginRoast.island.loop l).on = false) ∧ d.beginRoast.reg Adr.pwrCmdstat = d.reg Adr.pwrCmdstat := by
  obtain ⟨f, hf, hr⟩ := fieldRoast_field ((d.portsStop false).loopsOff) true
  have hs : Stored ((((d.portsStop false).loopsOff).fieldRoast true).modSys fun y =>
      { y with power := .roast, shutdown := none, roastAt := y.opTime.toNat, roastTest := 1, keysHeld := false }) d.beginRoast :=
    showPower_stored _
  rw [hf] at hs
  refine ⟨congrArg Sys.power hs.sys, (congrArg Field.roastHold hs.field).trans hr, hs.ports, hs.cans, fun l => ?_,
    hs.reg _ fixedReg_cmdstat⟩
  have hi : d.beginRoast.island = d.loopsOff.island := hs.island
  rw [hi, Island.loop, Dev.loopsOff]
  exact congrArg Loop.on (smGet_map_snd (g := fun l : Loop => { l with on := false, cond := false, held := 0 }) rfl d.island.loops l)

/-- KEEP or OFF is reached. -/
theorem toRest_outcome (d : Dev) (target : Power) : (d.toRest target).sys.power = target ∧ (d.toRest target).sys.pll = 0 ∧
    (d.toRest target).field.powered = false ∧ (d.toRest target).ports = [] ∧ (d.toRest target).host.queue = [] ∧
    (d.toRest target).sys.frame = d.sys.frame ∧ (d.toRest target).reg Adr.pwrCmdstat = d.reg Adr.pwrCmdstat := by
  have hs : Stored ((((d.portsStop true).loopsOff).fieldOff).modSys fun y => { y with
    power := target, shutdown := none, pll := 0, wake := none, rstnLow := target != .off && y.rstnLow }) (d.toRest target) :=
    showPower_stored _
  exact ⟨congrArg Sys.power hs.sys, congrArg Sys.pll hs.sys, congrArg Field.powered hs.field, hs.ports, congrArg HostUnit.queue hs.host,
    congrArg Phase.frame (phase_toRest d target), hs.reg _ fixedReg_cmdstat⟩

end Shutdown

/-! ### The commands -/

section Commands

variable {s : State}

theorem drained_iff (d : Dev) : (d.recorder.pendq.isEmpty && d.recorder.lifeQueue.isEmpty && d.pair.role != .active) = true ↔
    d.recorder.pendq = [] ∧ d.recorder.lifeQueue = [] ∧ d.pair.role ≠ .active := by
  simp [and_assoc]

theorem exec_runBegin {f : Word} (hf : s.dev.sys.enterAt = some f) : exec .runBegin s =
    if s.dev.sys.power == .idle && s.dev.sys.entering && s.dev.sys.frame.toNat % 8 = 0 && 736 ≤ (s.dev.sys.frame - f).toNat then
      .next { s with dev := s.dev.runEntry.answerFront 0 .run } else .next s := by
  show execRunBegin s = _
  unfold execRunBegin
  simp only [hf]

theorem runBegin_begins {f : Word} (hf : s.dev.sys.enterAt = some f) (hp : s.dev.sys.power = .idle) (he : s.dev.sys.entering = true)
    (h8 : s.dev.sys.frame.toNat % 8 = 0) (hn : 736 ≤ (s.dev.sys.frame - f).toNat) :
    exec .runBegin s = .next { s with dev := s.dev.runEntry.answerFront 0 .run } := by
  rw [exec_runBegin hf, if_pos (by rw [hp, he, h8, decide_eq_true hn]; rfl)]

theorem runBegin_ignored (h : s.dev.sys.enterAt = none ∨ s.dev.sys.power ≠ .idle ∨ s.dev.sys.entering = false ∨
    ∃ f, s.dev.sys.enterAt = some f ∧ (s.dev.sys.frame.toNat % 8 ≠ 0 ∨ (s.dev.sys.frame - f).toNat < 736)) : Ignored .runBegin s := by
  cases hf : s.dev.sys.enterAt with
  | none =>
    show execRunBegin s = _
    unfold execRunBegin
    simp only [hf]
  | some f =>
    refine (exec_runBegin hf).trans (if_neg fun hc => ?_)
    simp only [Bool.and_eq_true, beq_iff_eq, decide_eq_true_eq] at hc
    obtain ⟨⟨⟨hp, he⟩, h8⟩, hn⟩ := hc
    obtain h | h | h | ⟨g, hg, h | h⟩ := h
    · exact absurd (h.symm.trans hf) nofun
    · exact h hp
    · exact absurd (h.symm.trans he) nofun
    · exact h h8
    · rw [Option.some.inj (hg.symm.trans hf)] at h
      omega

/-- Every configured axis stands or is off. -/
def AtRest (d : Dev) : Prop := ∀ n ∈ d.axes', (d.axis n).motion.st = .stand ∨ (d.axis n).motion.st = .off

theorem allAtRest_iff (d : Dev) : d.allAtRest = true ↔ AtRest d := by
  unfold Dev.allAtRest AtRest
  simp only [List.all_eq_true, Bool.or_eq_true, beq_iff_eq]

theorem departure_completes {f : Word} (hf : s.dev.sys.departAt = some f) (hl : s.dev.sys.leaving = true) (h0 : 0 < (s.dev.sys.frame - f).toNat)
    (hr : AtRest s.dev ∨ 4000 ≤ (s.dev.sys.frame - f).toNat) : exec .departureComplete s = .next { s with dev :=
      (match s.dev.sys.shutdown with
        | some (target, _) => s.dev.leaveRun.drain target
        | none => s.dev.leaveRun.answerFront 0 .idle) } := by
  have hs : s.dev.leaveRun.sys.shutdown = s.dev.sys.shutdown := congrArg Phase.shutdown (phase_leaveRun s.dev)
  show execDepartureComplete s = _
  unfold execDepartureComplete
  simp only [hf]
  rw [if_pos (by rw [← allAtRest_iff] at hr; simp only [Bool.and_eq_true, Bool.or_eq_true, decide_eq_true_eq]; exact ⟨⟨hl, h0⟩, hr⟩), hs]
  cases s.dev.sys.shutdown <;> rfl

theorem departure_ignored (h : s.dev.sys.departAt = none ∨ s.dev.sys.leaving = false ∨ ∃ f, s.dev.sys.departAt = some f ∧
    (s.dev.sys.frame = f ∨ (¬AtRest s.dev ∧ (s.dev.sys.frame - f).toNat < 4000))) : Ignored .departureComplete s := by
  show execDepartureComplete s = _
  unfold execDepartureComplete
  extract_lets d
  cases hf : d.sys.departAt with
  | none => rfl
  | some f =>
    refine if_neg fun hc => ?_
    rw [Bool.and_eq_true, Bool.and_eq_true, Bool.or_eq_true, allAtRest_iff, decide_eq_true_eq, decide_eq_true_eq] at hc
    obtain ⟨⟨hl, h0⟩, hr⟩ := hc
    obtain h | h | ⟨g, hg, h⟩ := h
    · exact absurd (h.symm.trans hf) nofun
    · exact absurd (h.symm.trans hl) nofun
    · rw [Option.some.inj (hg.symm.trans hf)] at h
      obtain h | ⟨hn, h⟩ := h
      · rw [h, BitVec.sub_self] at h0
        exact Nat.lt_irrefl 0 h0
      · exact hr.elim hn (Nat.not_le.mpr h)

/-- The recorder is empty and the role released. -/
def Drained (d : Dev) : Prop := d.recorder.pendq = [] ∧ d.recorder.lifeQueue = [] ∧ d.pair.role ≠ .active

theorem exec_shutdownDrain {to' : Power} (hs : s.dev.sys.shutdown = some (to', .draining)) (hd : Drained s.dev) :
    exec .shutdownDrainComplete s = .next { s with dev :=
      if to' == .roast then (s.dev.answerFront 0 to').beginRoast
      else ((s.dev.answerFront 0 to').toRest to').actWake (s.dev.answerFront 0 to').sys.wake } := by
  show execShutdownDrainComplete s = _
  unfold execShutdownDrainComplete
  simp only [hs]
  rw [if_pos ((drained_iff _).mpr hd)]
  split <;> rfl

theorem shutdownDrain_ignored (h : (∀ to', s.dev.sys.shutdown ≠ some (to', .draining)) ∨
    ¬Drained s.dev) : Ignored .shutdownDrainComplete s := by
  show execShutdownDrainComplete s = _
  unfold execShutdownDrainComplete
  extract_lets d
  split
  next t hs =>
    refine if_neg fun hc => ?_
    obtain h | h := h
    · exact h t hs
    · exact h ((drained_iff _).mp hc)
  next => rfl

end Commands

theorem caps_none {a : Axis} (h : caps a = (none, none)) : a.motion.spdCap = none ∧ a.motion.accCap = none :=
  ⟨congrArg Prod.fst h, congrArg Prod.snd h⟩

theorem sys_of_fixed {y z : Sys} (h : y.fixed = z.fixed) :
    y.power = z.power ∧ y.entering = z.entering ∧ y.runFrame = z.runFrame ∧ y.frame = z.frame :=
  ⟨show y.fixed.power = z.fixed.power by rw [h], show y.fixed.entering = z.fixed.entering by rw [h],
    show y.fixed.runFrame = z.fixed.runFrame by rw [h], show y.fixed.frame = z.fixed.frame by rw [h]⟩

/-- Settles O49. -/
theorem stateChanges : Obligations.StateChanges := by
  intro s d y rest drained waits replied
  have hreply {i : Instr} {q : VReq} {e : Dev} {state : Power} (hw : waits q) (hh : e.host = d.host)
      (hx : exec i s = .next { s with dev := e.answerFront 0 state }) : replied i q state.code := by
    obtain ⟨hq, he⟩ := hw
    refine ⟨e, hh, hx.trans ?_⟩
    rw [answerFront_waits (by rw [hh]; exact hq) (by rw [hh]; exact he), hh]
    rfl
  have hphase {e : Dev} {p : Phase} {st : Nat} {state : Power} (h : phase e.sys = p) : phase (e.answerFront st state).sys = p :=
    (congrArg phase (answerFront_module e st state).sys).trans h
  refine ⟨fun f hf hp he h8 hn => ?_, fun f q hf hp he h8 hn hw => ?_, fun f q hf hl h0 hr hs hw => ?_, fun q to' hs hd hw hk => ?_,
    fun h => runBegin_ignored ?_, fun h => departure_ignored ?_, fun h => shutdownDrain_ignored (.inl h), fun f hf h => ?_,
    fun f hf hl h0 hr => ?_, fun f hf h => ?_, fun to' hs hd => ⟨fun ht => ?_, fun ht hk => ?_⟩, fun to' hs hd => shutdownDrain_ignored (.inr hd)⟩
  · refine answers_next (runBegin_begins hf hp he h8 hn) ?_
    obtain ⟨-, hc⟩ := runEntry_outcome d
    have hm := answerFront_module d.runEntry 0 .run
    obtain ⟨h1, h2, h3, h4⟩ := sys_of_fixed (kept_runEntry d).eq
    rw [hm.sys]
    refine ⟨h1, h2, h3, h4, fun n hn => ?_⟩
    have ha : (d.runEntry.answerFront 0 .run).axis n = d.runEntry.axis n := by rw [Dev.axis, hm.axes]; rfl
    rw [ha]
    exact caps_none (hc n hn)
  · exact hreply (state := .run) hw (runEntry_outcome s.dev).1 (runBegin_begins hf hp he h8 hn)
  · have hx := departure_completes hf hl h0 hr
    rw [show s.dev.sys.shutdown = none from hs] at hx
    exact hreply (state := .idle) hw (leaveRun_outcome d).1 hx
  · have hx := exec_shutdownDrain hs hd
    have hr := (answerState_module d q 0 to' d.host.execFrame).2
    rw [← answerFront_waits hw.1 hw.2] at hr
    have hk : (d.answerFront 0 to').sys.wake = none := (congrArg Sys.wake (answerFront_module d 0 to').sys).trans hk
    refine answers_next hx ?_
    split
    · exact (beginRoast_outcome _).2.2.2.2.2.trans hr
    · rw [show (s.dev.answerFront 0 to').sys.wake = none from hk]
      exact (toRest_outcome _ to').2.2.2.2.2.2.trans hr
  · obtain h | h | h := h
    · exact .inl h
    · exact .inr (.inl h)
    · exact .inr (.inr (.inl h))
  · exact h.imp_right .inl
  · exact runBegin_ignored (.inr (.inr (.inr ⟨f, hf, h⟩)))
  · have hp := phase_leaveRun d
    obtain ⟨-, hpark⟩ := leaveRun_outcome d
    refine answers_next (departure_completes hf hl h0 hr) ?_
    cases hs : s.dev.sys.shutdown with
    | none =>
      have hm := answerFront_module d.leaveRun 0 .idle
      have ha := congrArg Phase.power (hphase (st := 0) (state := .idle) hp)
      refine ⟨ha, congrArg Phase.leaving (hphase (st := 0) (state := .idle) hp), fun n hn => ?_, nofun⟩
      have hax : (d.leaveRun.answerFront 0 .idle).axis n = d.leaveRun.axis n := by rw [Dev.axis, hm.axes]; rfl
      have := hpark n hn
      unfold parked at *
      rw [hax]
      exact this
    | some x =>
      have hd := (phase_drain d.leaveRun x.1).trans (congrArg (fun p => ({ p with shutdown := some (x.1, .draining) } : Phase)) hp)
      have hax : (d.leaveRun.drain x.1).axes = d.leaveRun.axes := by unfold Dev.drain; extract_lets e; unfold e; split <;> rfl
      refine ⟨congrArg Phase.power hd, congrArg Phase.leaving hd, fun n hn => ?_, fun to' st h => ?_⟩
      · have := hpark n hn
        unfold parked at *
        rw [Dev.axis, hax]
        exact this
      · rw [show to' = x.1 from congrArg Prod.fst (Option.some.inj h).symm]
        exact congrArg Phase.shutdown hd
  · exact departure_ignored (.inr (.inr ⟨f, hf, h⟩))
  · refine answers_next (exec_shutdownDrain hs hd) ?_
    rw [if_pos (beq_iff_eq.mpr ht)]
    obtain ⟨h1, h2, h3, h4, h5, -⟩ := beginRoast_outcome (s.dev.answerFront 0 to')
    exact ⟨h1, h2, h3, h4, fun l _ => h5 l⟩
  · have hm := answerFront_module d 0 to'
    refine answers_next (exec_shutdownDrain hs hd) ?_
    rw [if_neg fun h => ht (beq_iff_eq.mp h), show (s.dev.answerFront 0 to').sys.wake = none from (congrArg Sys.wake hm.sys).trans hk]
    obtain ⟨h1, h2, h3, h4, h5, h6, -⟩ := toRest_outcome (d.answerFront 0 to') to'
    exact ⟨h1, h2, h3, h4, h5, h6.trans (congrArg Sys.frame hm.sys)⟩

end Sys2Proof.Proofs
end

section
/-! OBLIGATION O50. The starts of the module and their end in IDLE (R400–R403). -/

namespace Sys2Proof.Proofs

open Sys2Proof.Machine Sys2Proof.Safety

/-! ### A start -/

section Boot

variable {d e f : Dev}

/-- Work of a start that brings no request, no role and no new upper half of operating time. -/
structure Boots (d e : Dev) : Prop where
  queue : e.host.queue = d.host.queue
  pair : e.pair = d.pair
  optHi : e.sys.optHi = d.sys.optHi

theorem Boots.refl (d : Dev) : Boots d d := ⟨rfl, rfl, rfl⟩

theorem Boots.trans (h : Boots d e) (g : Boots e f) : Boots d f := ⟨g.queue.trans h.queue, g.pair.trans h.pair, g.optHi.trans h.optHi⟩

theorem Boots.ite {p : Prop} [Decidable p] (h : Boots d e) (g : Boots d f) : Boots d (if p then e else f) := by
  split
  · exact h
  · exact g

theorem Boots.foldl {α : Type} {l : List α} {f : Dev → α → Dev} (hf : ∀ e a, Boots d e → Boots d (f e a)) (h : Boots d e) :
    Boots d (l.foldl f e) := List.foldlRecOn (motive := Boots d) l f h fun e he a _ => hf e a he

theorem Boots.logs (h : Boots d e) (g : Logs e f) : Boots d f := h.trans ⟨by rw [g.host], g.pair, by rw [g.sys]⟩

theorem Boots.stored (h : Boots d e) (g : Stored e f) : Boots d f := h.trans ⟨by rw [g.host], g.pair, by rw [g.sys]⟩

theorem Boots.event (h : Boots d e) (c n : Nat) (l : List Byte) : Boots d (e.event c n l) := h.logs ((Logs.refl e).event c n l)

theorem Boots.countEvent (h : Boots d e) (a b c : Nat) : Boots d (e.countEvent a b c) := h.logs ((Logs.refl e).countEvent a b c)

theorem Boots.setReg (h : Boots d e) (a : Nat) (v : Word) : Boots d (e.setReg a v) := h.trans ⟨rfl, rfl, rfl⟩

theorem Boots.orReg (h : Boots d e) (a : Nat) (v : Word) : Boots d (e.orReg a v) := h.setReg a _

theorem Boots.setCan (h : Boots d e) (c : Nat) (x : Can) : Boots d (e.setCan c x) := h.trans ⟨rfl, rfl, rfl⟩

theorem Boots.setAxis (h : Boots d e) (n : Nat) (x : Axis) : Boots d (e.setAxis n x) := h.trans ⟨rfl, rfl, rfl⟩

theorem Boots.modUpd (h : Boots d e) (g : Update → Update) : Boots d (e.modUpd g) := h.trans ⟨rfl, rfl, rfl⟩

theorem Boots.modPlacer (h : Boots d e) (g : Placer → Placer) : Boots d (e.modPlacer g) := h.trans ⟨rfl, rfl, rfl⟩

theorem Boots.image (h : Boots d e) (im : Option Image) : Boots d { e with image := im } := h.trans ⟨rfl, rfl, rfl⟩

theorem Boots.recorder (h : Boots d e) (r : Recorder) : Boots d { e with recorder := r } := h.trans ⟨rfl, rfl, rfl⟩

theorem Boots.nextFree (h : Boots d e) : Boots d e.nextFree.1 := h.trans ⟨rfl, rfl, rfl⟩

theorem Boots.finishClear (h : Boots d e) : Boots d e.finishClear := by
  unfold Dev.finishClear
  extract_lets r
  split
  · exact h
  · exact ((h.recorder _).orReg _ _).countEvent _ _ _

theorem Boots.recorderScan (h : Boots d e) : Boots d e.recorderScan := by
  unfold Dev.recorderScan
  extract_lets torn before r0 r1 r2 r3 d0 d1 r4 d2
  have h0 : Boots d d0 := h.nextFree
  have h1 : Boots d d1 := Boots.finishClear (h0.recorder _)
  have h2 : Boots d d2 := .ite (((h1.recorder _).event _ _ _).orReg _ _) h1
  exact .ite ((h2.event _ _ _).orReg _ _) h2

theorem Boots.recorderLosses (h : Boots d e) : Boots d e.recorderLosses := by
  unfold Dev.recorderLosses
  extract_lets r n r1 d1
  have h1 : Boots d d1 := h.recorder _
  exact .ite ((h1.event _ _ _).orReg _ _) h1

theorem Boots.recorderStart (h : Boots d e) : Boots d e.recorderStart :=
  Boots.foldl (fun _ _ g => .ite ((g.event _ _ _).orReg _ _) g) h.recorderScan.recorderLosses

theorem Boots.updEvent (h : Boots d e) (code : Nat) : Boots d (e.updEvent code) := by
  unfold Dev.updEvent Dev.updCode
  extract_lets flag
  exact .ite (h.event _ _ _) (((h.event _ _ _).modUpd _).orReg _ _)

theorem Boots.fallback (h : Boots d e) : Boots d e.fallback := (h.updEvent _).modUpd _

theorem Boots.runSlot (h : Boots d e) (i : Nat) (trial : Bool) : Boots d (e.runSlot i trial) := by
  unfold Dev.runSlot
  extract_lets x
  split
  · exact h.image _
  · exact (h.image _).modUpd _

theorem Boots.copyFailed (h : Boots d e) (i : Nat) : Boots d (e.copyFailed i) := by
  unfold Dev.copyFailed
  extract_lets d1
  have h1 : Boots d d1 := (h.updEvent _).modUpd _
  split
  · exact h1.image _
  next j _ =>
    extract_lets r
    have hr : Boots d r.1 := (h1.modUpd _).nextFree
    exact .ite (hr.runSlot j false) ((hr.updEvent _).image _)

theorem Boots.bootCurrent (h : Boots d e) (ok : Bool) : Boots d (e.bootCurrent ok) :=
  .ite (h.image _) (.ite (h.runSlot _ _) (h.copyFailed _))

theorem Boots.bootAgain (h : Boots d e) : Boots d e.bootAgain := h.nextFree.bootCurrent _

theorem Boots.bootImage (h : Boots d e) (ok : Bool) : Boots d (e.bootImage ok) := by
  unfold Dev.bootImage
  extract_lets d1 expired d2 d3
  have h1 : Boots d d1 := h.trans ⟨rfl, rfl, rfl⟩
  have h2 : Boots d d2 := h1.modUpd _
  have h3 : Boots d d3 := .ite h2.fallback h2
  clear_value d3
  split
  next i _ =>
    exact .ite ((h3.modUpd _).fallback.bootCurrent ok) <| .ite (h3.copyFailed i) <|
      .ite ((h3.modUpd _).runSlot i true) (((h3.modUpd _).updEvent _).bootAgain)
  next =>
    split
    next i _ =>
      refine .ite (h3.copyFailed i) ?_
      extract_lets v
      split
      · exact .ite (((h3.modUpd _).updEvent _).runSlot i true) (((h3.modUpd _).updEvent _).bootAgain)
      · exact ((h3.modUpd _).updEvent _).bootAgain
    next => exact (h3.modUpd _).bootCurrent ok

theorem Boots.canCfgstat (h : Boots d e) (c code : Nat) : Boots d (e.canCfgstat c code) := .ite (h.setReg _ _) ((h.setReg _ _).orReg _ _)

theorem Boots.canTxStatus (h : Boots d e) (c o code n : Nat) : Boots d (e.canTxStatus c o code n) := h.stored ((Stored.refl e).devSig _ _ _ _)

theorem Boots.canCancel (h : Boots d e) (c o : Nat) : Boots d (e.canCancel c o) := .ite ((h.setCan _ _).canTxStatus _ _ _ _) h

theorem Boots.sigQuality (h : Boots d e) (n : Nat) (st cv : Bool) : Boots d (e.sigQuality n st cv) := h.stored ((Stored.refl e).sigQuality _ _ _)

theorem Boots.canInvalidate (h : Boots d e) (c o : Nat) : Boots d (e.canInvalidate c o) := Boots.foldl (fun _ _ g => g.sigQuality _ _ _) h

theorem Boots.canClearReceive (h : Boots d e) (c : Nat) : Boots d (e.canClearReceive c) := Boots.foldl (fun _ _ g => g.sigQuality _ _ _) h

theorem Boots.canDisable (h : Boots d e) (c : Nat) : Boots d (e.canDisable c) :=
  (Boots.canClearReceive (Boots.foldl (fun _ o g => g.canCancel c o) h) c).setCan _ _

theorem Boots.canEnable (h : Boots d e) (c : Nat) (v : Word) : Boots d (e.canEnable c v) := by
  unfold Dev.canEnable
  extract_lets w nbt slow x d1 d2
  have h2 : Boots d d2 := (h.setCan _ _).setReg _ _
  exact .ite (.ite ((h2.canCfgstat _ _).event _ _ _) (h2.canCfgstat _ _)) ((h.setReg _ _).canCfgstat _ _)

theorem Boots.canCtrlWrite (h : Boots d e) (c : Nat) (v : Word) : Boots d (e.canCtrlWrite c v) :=
  .ite (h.canEnable c v) (.ite ((h.canDisable c).setReg _ _) ((h.setCan _ _).setReg _ _))

theorem Boots.canObjcfgWrite (h : Boots d e) (c o : Nat) (v : Word) : Boots d (e.canObjcfgWrite c o v) := by
  unfold Dev.canObjcfgWrite
  extract_lets a w d1 d2 x d3 y d4
  have h1 : Boots d d1 := h.canCancel c o
  have h2 : Boots d d2 := .ite h1 (h1.canInvalidate c o)
  exact .ite (.ite (h.canCfgstat _ _) (((h2.setCan _ _).setReg _ _).canCfgstat _ _)) <|
    .ite (.ite (((h.setCan _ _).setReg _ _).canCfgstat _ _) ((h.setReg _ _).canCfgstat _ _)) ((h.setReg _ _).canCfgstat _ _)

theorem Boots.canObjectWrite (h : Boots d e) (c a : Nat) (v : Word) : Boots d (e.canObjectWrite c a v) :=
  .ite (.ite (h.canCfgstat _ _) ((h.setReg _ _).canCfgstat _ _)) (.ite (h.canObjcfgWrite _ _ _) h)

theorem Boots.hostWdcfg (h : Boots d e) (v : Word) : Boots d (e.hostWdcfg v) := by
  refine .ite ?_ h
  exact (h.setReg Adr.hostWdcfg _).trans ⟨rfl, rfl, rfl⟩

theorem Boots.loadConfig (h : Boots d e) (im : Image) : Boots d (e.loadConfig im) := by
  unfold Dev.loadConfig
  extract_lets known isCtrl isObject l d1 d2 d3
  have h1 : Boots d d1 := Boots.foldl (fun _ _ g => .ite (g.hostWdcfg _) (.ite g (g.setReg _ _))) h
  have h2 : Boots d d2 := Boots.foldl (fun _ _ g => g.canObjectWrite _ _ _) h1
  have h3 : Boots d d3 := Boots.foldl (fun _ _ g => g.canCtrlWrite _ _) h2
  exact Boots.foldl (fun _ _ g => g.setAxis _ _) h3

theorem Boots.placeImage (h : Boots d e) : Boots d e.placeImage.1 := by
  unfold Dev.placeImage
  split
  · exact h
  next im _ =>
    extract_lets r d1 has bits d2 d3 d4 d5
    have h2 : Boots d d2 := (h.setReg _ _).setReg _ _
    have h3 : Boots d d3 := .ite h2 (h2.event _ _ _)
    have h4 : Boots d d4 := Boots.foldl (fun _ _ g => g.event _ _ _) h3
    split
    · dsimp only
      exact h4.modPlacer _
    · exact Boots.foldl (fun _ _ g => g.stored (showDoor_stored _ _ _ _ _ _)) (h4.modPlacer _)

theorem start_boots (d : Dev) (kind : StartKind) (ok : Bool) : (d.start kind ok).host.queue = [] ∧ (d.start kind ok).pair.role = .unpaired ∧
    (d.start kind ok).sys.optHi = BitVec.ofNat 16 (d.sys.opTime.toNat / 2 ^ 32) := by
  have of {e f : Dev} (hq : e.host.queue = []) (hp : e.pair.role = .unpaired)
      (ho : e.sys.optHi = BitVec.ofNat 16 (d.sys.opTime.toNat / 2 ^ 32)) (h : Boots e f) : f.host.queue = [] ∧ f.pair.role = .unpaired ∧
        f.sys.optHi = BitVec.ofNat 16 (d.sys.opTime.toNat / 2 ^ 32) :=
    ⟨h.queue.trans hq, (congrArg PairUnit.role h.pair).trans hp, h.optHi.trans ho⟩
  unfold Dev.start
  extract_lets cold y clears isle codes sys r u d1 d2 d3 d4 d5
  refine of (e := d2) rfl rfl rfl ?_
  clear_value d2
  have h3 : Boots d2 d3 := (Boots.refl d2).recorderStart
  have h4 : Boots d2 d4 := Boots.foldl (fun _ _ g => (g.event _ _ _).orReg _ _) h3
  have h5 : Boots d2 d5 := h4.bootImage ok
  split
  · exact h5
  · exact Boots.placeImage (Boots.foldl (fun _ _ g => g.trans ⟨rfl, rfl, rfl⟩) (h5.loadConfig _))

end Boot

/-! ### The entry to IDLE -/

section Arrival

variable {d e f : Dev}

/-- Work of the entry to IDLE that brings neither supplies nor roles, nor the duration of the start. -/
structure Rises (d e : Dev) : Prop where
  powered : e.field.powered = d.field.powered
  linkUp : e.field.linkUp = d.field.linkUp
  pair : e.pair = d.pair
  duration : e.reg Adr.pwrStart = d.reg Adr.pwrStart
  cfg : e.reg Adr.pairCfg = d.reg Adr.pairCfg

theorem Rises.refl (d : Dev) : Rises d d := ⟨rfl, rfl, rfl, rfl, rfl⟩

theorem Rises.trans (h : Rises d e) (g : Rises e f) : Rises d f :=
  ⟨g.powered.trans h.powered, g.linkUp.trans h.linkUp, g.pair.trans h.pair, g.duration.trans h.duration, g.cfg.trans h.cfg⟩

theorem Rises.ite {p : Prop} [Decidable p] (h : Rises d e) (g : Rises d f) : Rises d (if p then e else f) := by
  split
  · exact h
  · exact g

theorem Rises.foldl {α : Type} {l : List α} {f : Dev → α → Dev} (hf : ∀ e a, Rises d e → Rises d (f e a)) (h : Rises d e) :
    Rises d (l.foldl f e) := List.foldlRecOn (motive := Rises d) l f h fun e he a _ => hf e a he

theorem fixedReg_start : fixedReg Adr.pwrStart :=
  ⟨by decide, fun c hc => by unfold Adr.pwrStart Adr.sfEvdrop Adr.sfFlags; omega⟩

theorem fixedReg_pairCfg : fixedReg Adr.pairCfg :=
  ⟨by decide, fun c hc => by unfold Adr.pairCfg Adr.sfEvdrop Adr.sfFlags; omega⟩

theorem Rises.logs (h : Rises d e) (g : Logs e f) : Rises d f :=
  h.trans ⟨by rw [g.field], by rw [g.field], g.pair, g.reg _ fixedReg_start.1, g.reg _ fixedReg_pairCfg.1⟩

theorem Rises.stored (h : Rises d e) (g : Stored e f) : Rises d f :=
  h.trans ⟨by rw [g.field], by rw [g.field], g.pair, g.reg _ fixedReg_start, g.reg _ fixedReg_pairCfg⟩

theorem Rises.setReg (h : Rises d e) {a : Nat} (h1 : Adr.pwrStart ≠ a) (h2 : Adr.pairCfg ≠ a) (v : Word) : Rises d (e.setReg a v) :=
  h.trans ⟨rfl, rfl, rfl, reg_setReg_other _ _ h1, reg_setReg_other _ _ h2⟩

theorem Rises.fldFlag (h : Rises d e) (v : Word) : Rises d (e.fldFlag v) := h.setReg (by decide) (by decide) _

/-- Work on parts that none of this is in. -/
theorem Rises.parts (h : Rises d e) (hf : f.field.powered = e.field.powered ∧ f.field.linkUp = e.field.linkUp) (hp : f.pair = e.pair)
    (hr : f.regs = e.regs) : Rises d f :=
  h.trans ⟨hf.1, hf.2, hp, reg_of_regs hr _, reg_of_regs hr _⟩

theorem Rises.chans (h : Rises d e) (g : Chans e f) (hr : f.regs = e.regs) : Rises d f :=
  h.parts ⟨g.frame Field.powered fun _ _ _ => rfl, g.frame Field.linkUp fun _ _ _ => rfl⟩ g.pair hr

theorem Rises.setChan (h : Rises d e) (k : Nat) (x : Hs) : Rises d (e.setChan k x) := h.parts ⟨rfl, rfl⟩ rfl rfl

theorem Rises.hsSettle (h : Rises d e) (k : Nat) (fresh : Bool) : Rises d (e.hsSettle k fresh) :=
  h.chans ((Chans.refl e).hsSettle k fresh) (hsSettle_regs e k fresh)

theorem Rises.hsCommand (h : Rises d e) (k : Nat) (want : Bool) : Rises d (e.hsCommand k want) := by
  unfold Dev.hsCommand
  extract_lets x soon
  refine .ite (h.setChan _ _) (.ite ?_ (.ite h ?_))
  · exact (h.setChan _ _).hsSettle _ _
  · exact ((h.setChan _ _).logs ((Logs.refl _).eventRep _ _ _)).fldFlag _

theorem Rises.recoveryEnd (h : Rises d e) : Rises d e.recoveryEnd := by
  unfold Dev.recoveryEnd
  extract_lets e1
  have h1 : Rises d e1 := h.parts ⟨rfl, rfl⟩ rfl rfl
  exact Rises.foldl (fun _ k g => ((g.setChan _ _).hsCommand k _).hsSettle k _) h1

theorem Rises.huskConfigure (h : Rises d e) : Rises d e.huskConfigure := by
  unfold Dev.huskConfigure
  extract_lets f cfg e1 e2
  have h2 : Rises d e2 := h.parts ⟨rfl, rfl⟩ rfl rfl
  exact Rises.foldl (fun _ _ g => .ite (g.setChan _ _) (.ite (g.setChan _ _) g)) h2

theorem Rises.setAxis (h : Rises d e) (n : Nat) (x : Axis) : Rises d (e.setAxis n x) := h.parts ⟨rfl, rfl⟩ rfl rfl

theorem Rises.modPort (h : Rises d e) (p : Nat) (g : Port → Port) : Rises d (e.modPort p g) := h.parts ⟨rfl, rfl⟩ rfl rfl

theorem Rises.discardOpen (h : Rises d e) (p n : Nat) : Rises d (e.discardOpen p n) := h.parts ⟨rfl, rfl⟩ rfl rfl

theorem Rises.beginLink (h : Rises d e) (p : Nat) : Rises d (e.beginLink p) := by
  unfold Dev.beginLink
  split
  · exact h
  · extract_lets d1 l d2 d3
    have h1 : Rises d d1 := Rises.foldl (fun _ _ g => g.setAxis _ _) h
    clear_value d1
    have h2 : Rises d d2 := Rises.foldl (fun _ _ g => g.setAxis _ _) h1
    clear_value d2
    have h3 : Rises d d3 := Rises.foldl (fun _ q g => g.discardOpen p q.1) h2
    exact h3.modPort _ _

theorem Rises.islandFault (h : Rises d e) (code : Nat) : Rises d (e.islandFault code) := by
  unfold Dev.islandFault
  split
  · exact h
  · extract_lets e1
    have h1 : Rises d e1 := (h.parts (f := e.modIsland fun x => { x with fault := code }) ⟨rfl, rfl⟩ rfl rfl).logs ((Logs.refl _).event _ _ _)
    exact Rises.foldl (fun _ _ g => g.parts ⟨rfl, rfl⟩ rfl rfl) h1

/-- Both ways the husk comes back: with its supply on and its link up. -/
theorem fieldBack {w : Dev} (h : Rises d e) (on : Bool) (hw : w = if on || !e.field.powered then e.fieldOn else e.fieldRejoin) :
    w.field.powered = true ∧ w.field.linkUp = true ∧ w.pair = d.pair ∧ w.reg Adr.pwrStart = d.reg Adr.pwrStart ∧
      w.reg Adr.pairCfg = d.reg Adr.pairCfg := by
  rw [hw]
  split
  next => exact ⟨rfl, rfl, h.pair, h.duration, h.cfg⟩
  next hn =>
    have hp : e.field.powered = true := by
      cases hp : e.field.powered
      · simp [hp] at hn
      · rfl
    unfold Dev.fieldRejoin
    extract_lets e1 e2 e3 e4
    have h1 : Rises e e1 := .ite (((Rises.refl e).logs ((Logs.refl e).event _ _ _)).fldFlag _) (.refl e)
    have h2 : e2.field.powered = true ∧ e2.field.linkUp = true ∧ e2.pair = d.pair ∧ e2.reg Adr.pwrStart = d.reg Adr.pwrStart ∧
        e2.reg Adr.pairCfg = d.reg Adr.pairCfg := ⟨h1.powered.trans hp, rfl, h1.pair.trans h.pair, h1.duration.trans h.duration, h1.cfg.trans h.cfg⟩
    clear_value e2
    have h3 : Rises e2 e3 := (Rises.refl e2).huskConfigure
    have h4 : Rises e2 e4.recoveryEnd := Rises.recoveryEnd (.ite ((h3.logs ((Logs.refl _).event _ _ _)).fldFlag _) h3)
    obtain ⟨a, b, c, x, y⟩ := h2
    exact ⟨h4.powered.trans a, h4.linkUp.trans b, h4.pair.trans c, h4.duration.trans x, h4.cfg.trans y⟩

/-- What the end of a start leaves of the supplies, the pair and the duration shown. -/
def Arrived (d : Dev) (kind : StartKind) (ms : BitVec 16) (e : Dev) : Prop :=
  e.field.powered = true ∧ e.field.linkUp = true ∧ e.reg Adr.pwrStart = fields [(0, kind.code), (16, ms.toNat)] ∧
    (bit (d.reg Adr.pairCfg) 0 = true → e.pair.role = .seek) ∧ (bit (d.reg Adr.pairCfg) 0 = false → e.pair.role = d.pair.role)

theorem reachIdle_arrived (d : Dev) (kind : StartKind) (ms opMs : BitVec 16) : Arrived d kind ms (d.reachIdle kind ms opMs) := by
  unfold Dev.reachIdle
  extract_lets op d1 d2 d3 d4 d5 d6 x d7 d8 d9 d10 d11 d12 d13 d14 cfg
  have h4 : d4.pair = d.pair ∧ d4.reg Adr.pwrStart = fields [(0, kind.code), (16, ms.toNat)] ∧ d4.reg Adr.pairCfg = d.reg Adr.pairCfg :=
    ⟨rfl, reg_setReg_self _ _ _, reg_setReg_other _ _ (by decide)⟩
  clear_value d4
  have h5 : Rises d4 d5 := .ite ((Rises.refl d4).logs ((Logs.refl d4).event _ _ _)) (.refl d4)
  have h6 : Rises d4 d6 := .ite (h5.islandFault _) h5
  have h7 : Rises d4 d7 := ((h6.setReg (by decide) (by decide) _).setReg (by decide) (by decide) _).setReg (by decide) (by decide) _
  have h8 : Rises d4 d8 := h7.parts ⟨rfl, rfl⟩ rfl rfl
  clear_value d8
  have h9 : Rises d4 d9 := h8.stored (Stored.foldl (fun _ _ g => g.devNat _ _) (.refl d8))
  obtain ⟨hp, hl, hpair, hd, hc⟩ := fieldBack (w := d10) h9 (kind == .cold || kind == .wake) rfl
  clear_value d10
  have h12 : Stored d10 d12 := (((((Stored.refl d10).devSig _ _ _ _).devSig _ _ _ _).devNat _ _).devNat _ _).devSig _ _ _ _ |>.devNat _ _
  have h12 : Rises d10 d12 := (Rises.refl d10).stored h12
  have h13 : Rises d10 d13 := by
    refine Rises.foldl (fun e n g => ?_) (Rises.foldl (fun e n g => g.stored ?_) h12)
    · exact (g.parts (f := e.setSafe n _) ⟨rfl, rfl⟩ rfl rfl).stored ((Stored.refl _).showSafe n)
    · exact Stored.foldl (fun _ _ g => g.devChange _ _) (.refl e)
  have h14 : Rises d10 d14 := Rises.foldl (fun _ _ g => g.parts ⟨rfl, rfl⟩ rfl rfl) h13
  clear_value d14
  have hcfg : cfg = d.reg Adr.pairCfg := h14.cfg.trans (hc.trans h4.2.2)
  split
  next hb =>
    rw [hcfg] at hb
    exact ⟨h14.powered.trans hp, h14.linkUp.trans hl, h14.duration.trans (hd.trans h4.2.1), fun _ => rfl, fun h => absurd (h.symm.trans hb) nofun⟩
  next hb =>
    rw [hcfg] at hb
    have h15 : Rises d10 (d14.enabledPorts.foldl (fun d p => d.beginLink p) d14) := Rises.foldl (fun _ p g => g.beginLink p) h14
    exact ⟨h15.powered.trans hp, h15.linkUp.trans hl, h15.duration.trans (hd.trans h4.2.1), fun h => absurd h hb,
      fun _ => congrArg PairUnit.role (h15.pair.trans (hpair.trans h4.1))⟩

end Arrival

/-! ### The statement -/

section Commands

variable {s : State} {ok : Bool}

theorem coldStart_off (h : s.dev.sys.power = .off) : exec (.coldStart ok) s = .next { s with dev := s.dev.start .cold ok } :=
  if_pos (beq_iff_eq.mpr h)

theorem wakeStart_keep (h : s.dev.sys.power = .keep) (hr : s.dev.sys.reset = none) (hs : s.dev.sys.starting = none) :
    exec (.wakeStart ok) s = .next { s with dev := s.dev.start .wake ok } :=
  if_pos (by rw [h, hr, hs]; rfl)

theorem power_neither (h : s.dev.sys.power = .roast ∨ s.dev.sys.power = .idle ∨ s.dev.sys.power = .run) :
    ¬(s.dev.sys.power == .off) = true ∧ ¬(s.dev.sys.power == .keep && s.dev.sys.reset.isNone && s.dev.sys.starting.isNone) = true := by
  obtain h | h | h := h <;> rw [h] <;> exact ⟨nofun, nofun⟩

/-- An edge in ROAST or during a shutdown waits. -/
theorem start_waits (h : s.dev.sys.power = .roast ∨ s.dev.sys.power = .idle ∨ s.dev.sys.power = .run)
    (hw : s.dev.sys.shutdown ≠ none ∨ s.dev.sys.power = .roast) :
    exec (.coldStart ok) s = .next { s with dev := s.dev.modSys fun y => { y with wake := some ok } } ∧
      exec (.wakeStart ok) s = .next { s with dev := s.dev.modSys fun y => { y with wake := some ok } } := by
  obtain ⟨h1, h2⟩ := power_neither h
  have hw : (s.dev.sys.shutdown.isSome || s.dev.sys.power == .roast) = true := by
    rw [Bool.or_eq_true, Option.isSome_iff_ne_none, beq_iff_eq]
    exact hw
  exact ⟨(if_neg h1).trans (if_pos hw), (if_neg h2).trans (if_pos hw)⟩

theorem start_ignored (h : s.dev.sys.power = .idle ∨ s.dev.sys.power = .run) (hs : s.dev.sys.shutdown = none) :
    Ignored (.coldStart ok) s ∧ Ignored (.wakeStart ok) s := by
  obtain ⟨h1, h2⟩ := power_neither (.inr h)
  have hw : ¬(s.dev.sys.shutdown.isSome || s.dev.sys.power == .roast) = true := by
    obtain h | h := h <;> rw [hs, h] <;> nofun
  exact ⟨(if_neg h1).trans (if_neg hw), (if_neg h2).trans (if_neg hw)⟩

theorem exec_resetStart {c : ResetCause} (hr : s.dev.sys.reset = some c) : exec (.resetStart ok) s =
    if (!s.dev.sys.rstnLow || s.dev.sys.rstIgn) && s.dev.sys.power != .off then .next { s with dev := s.dev.start c.kind ok }
    else .next s := by
  show execResetStart ok s = _
  unfold execResetStart
  simp only [hr]

theorem resetStart_ignored (h : s.dev.sys.reset = none ∨ s.dev.sys.power = .off ∨ (s.dev.sys.rstnLow = true ∧ s.dev.sys.rstIgn = false)) :
    Ignored (.resetStart ok) s := by
  cases hr : s.dev.sys.reset with
  | none =>
    show execResetStart ok s = _
    unfold execResetStart
    simp only [hr]
  | some c =>
    refine (exec_resetStart hr).trans (if_neg ?_)
    obtain h | h | ⟨h1, h2⟩ := h
    · exact absurd (h.symm.trans hr) nofun
    · rw [h]; simp
    · rw [h1, h2]; nofun

/-- What a start that begins shows. -/
def Begun (y : Sys) (kind : StartKind) (d' : Dev) : Prop :=
  d'.sys.power = .keep ∧ d'.sys.starting = some kind ∧ d'.sys.frame = 0 ∧ d'.sys.opTime = y.opTime ∧ d'.sys.reset = none ∧
    d'.sys.optHi = BitVec.ofNat 16 (y.opTime.toNat / 2 ^ 32) ∧
    d'.sys.pwrCyc = (if kind = .cold then y.pwrCyc + 1 else y.pwrCyc) ∧ d'.host.queue = [] ∧ d'.pair.role = .unpaired

theorem start_begun (d : Dev) (kind : StartKind) (ok : Bool) : Begun d.sys kind (d.start kind ok) := by
  obtain ⟨hq, hp, ho⟩ := start_boots d kind ok
  have h : (d.start kind ok).sys.fixed = (startedSys d.sys kind).fixed := kept_start d kind ok
  generalize (d.start kind ok) = e at hq hp ho h ⊢
  have of {α : Type} (π : Sys → α) (hπ : ∀ z : Sys, π z.fixed = π z) : π e.sys = π (startedSys d.sys kind) := by
    rw [← hπ e.sys, h, hπ]
  refine ⟨of Sys.power fun _ => rfl, of Sys.starting fun _ => rfl, of Sys.frame fun _ => rfl, of Sys.opTime fun _ => rfl,
    of Sys.reset fun _ => rfl, ho, (of Sys.pwrCyc fun _ => rfl).trans ?_, hq, hp⟩
  cases kind <;> rfl

end Commands

/-- The first reading is the lowest one. -/
theorem lowest_none (mv : BitVec 16) : lowest 0 mv = mv := if_pos (.inl rfl)

/-- Settles O50. -/
theorem starts : Obligations.Starts := by
  intro s ok ms opMs d y begun
  refine ⟨fun h => answers_next (coldStart_off h) (start_begun d .cold ok), fun h hs => start_ignored h hs, fun h => ?_,
    fun h => resetStart_ignored (h.imp_right .inl), fun h hr hs => answers_next (wakeStart_keep h hr hs) (start_begun d .wake ok),
    fun c hr hp hl => ?_, fun c hr h1 h2 => resetStart_ignored (.inr (.inr ⟨h1, h2⟩)), fun kind hk => ?_, fun hn => ?_⟩
  · obtain h | ⟨h, hs⟩ := h
    · exact start_waits (.inl h) (.inr h)
    · exact start_waits (.inr h) (.inl hs)
  · refine answers_next ((exec_resetStart hr).trans (if_pos ?_)) (start_begun d c.kind ok)
    rw [Bool.and_eq_true, Bool.or_eq_true, Bool.not_eq_true', bne_iff_ne]
    exact ⟨hl, hp⟩
  · have hx : exec (.startReachesIdle ms opMs) s = .next { s with dev := d.reachIdle kind ms opMs } := by
      show execStartReachesIdle ms opMs s = _
      unfold execStartReachesIdle
      rw [hk]
    obtain ⟨h1, h2, h3, h4, h5⟩ := reachIdle_arrived d kind ms opMs
    have hs : (d.reachIdle kind ms opMs).sys.fixed = (idleEntered d opMs).sampleSupplies.sys.fixed := kept_reachIdle d kind ms opMs
    refine answers_next hx ?_
    generalize d.reachIdle kind ms opMs = e at h1 h2 h3 h4 h5 hs ⊢
    have of {α : Type} (π : Sys → α) (hπ : ∀ z : Sys, π z.fixed = π z) : π e.sys = π (idleEntered d opMs).sampleSupplies.sys := by
      rw [← hπ e.sys, hs, hπ]
    refine ⟨of Sys.power fun _ => rfl, of Sys.starting fun _ => rfl, of Sys.frame fun _ => rfl, h1, h2, ?_, ?_, ?_,
      of Sys.pwrCyc fun _ => rfl, h4, h5⟩
    · rw [of Sys.vinLow fun _ => rfl, of Sys.vin fun _ => rfl]
      exact lowest_none _
    · rw [of Sys.opTime fun _ => rfl]
      show BitVec.ofNat 48 (y.opTime.toNat + opMs.toNat) = _
      rw [BitVec.ofNat_add, BitVec.ofNat_toNat, BitVec.setWidth_eq]
    · rw [h3]
      simp [fields, wordOfNat]
  · show execStartReachesIdle ms opMs s = _
    unfold execStartReachesIdle
    rw [hn]

end Sys2Proof.Proofs
end

section
/-! OBLIGATION O51. Supply and reset: the clock division in a sag, and the module held in reset. -/
namespace Sys2Proof.Proofs
open Sys2Proof.Machine Sys2Proof.Safety

/-! ### The module held in reset -/

section HoldReset

variable {y : Sys} {cause : ResetCause} {code : Nat} {lose : Recorder → Recorder}

/-- The system state of a module held in reset. -/
def heldSys (y : Sys) (cause : ResetCause) (code : Nat) : Sys :=
  { y with
    power := .keep, entering := false, leaving := false, enterAt := none, departAt := none, shutdown := none, starting := none,
    wake := none, pll := 0, div := 1, reset := some (y.reset.getD cause),
    startCodes := if y.startCodes.contains code then y.startCodes else y.startCodes ++ [code],
    runSinceRoast := y.runSinceRoast || y.power == .run, roastAborted := y.roastAborted || y.power == .roast, free := y.free + 1 }

theorem mem_startCodes_heldSys (y : Sys) (cause : ResetCause) (code : Nat) : code ∈ (heldSys y cause code).startCodes := by
  show code ∈ if y.startCodes.contains code then y.startCodes else y.startCodes ++ [code]
  split
  case isTrue h => exact List.contains_iff_mem.mp h
  case isFalse => exact List.mem_append_right _ (List.mem_singleton_self _)

/-- What a recorder holds pending, and how much of it it has lost before. -/
def pendings (r : Recorder) : List Pend × Nat := (r.pendq, r.lostPending)

theorem pendings_cutOff (r : Recorder) (now k : Nat) : pendings (r.cutOff now k) = pendings r := by
  unfold Recorder.cutOff
  dsimp only
  split
  · rfl
  · rfl
  · split <;> rfl
  · split <;> rfl
  · rfl

/-- Cutting off the engine moves an axis' lifetime block or the recorder's stores, and nothing else. -/
theorem cutEngine_parts (e : Dev) (k : Nat) :
    (e.cutEngine k).sys = e.sys ∧ (e.cutEngine k).host = e.host ∧ (e.cutEngine k).pair = e.pair ∧ (e.cutEngine k).island = e.island ∧
      pendings (e.cutEngine k).recorder = pendings e.recorder := by
  unfold Dev.cutEngine
  split
  · exact ⟨rfl, rfl, rfl, rfl, rfl⟩
  · exact ⟨rfl, rfl, rfl, rfl, pendings_cutOff _ _ _⟩

/-- Of the module held in reset: the requests, the role line, the island and the pending records. -/
structure Held (d : Dev) (cause : ResetCause) (code : Nat) (e : Dev) : Prop where
  sys : e.sys = heldSys d.sys cause code
  cores : e.cores = []
  queue : e.host.queue = []
  roleOut : e.pair.roleOut = false
  loops : ∀ l, (e.island.loop l).on = false
  soCmd : e.island.soCmd = 0
  pendq : e.recorder.pendq = []
  lost : e.recorder.lostPending = d.recorder.lostPending + d.recorder.pendq.length

/-- With every loop off, none is on. -/
theorem loopsOff_off (e : Dev) (l : Nat) : (e.loopsOff.island.loop l).on = false := by
  show (smGet ({} : Loop) (e.island.loops.map fun l => (l.1, ({ l.2 with on := false, cond := false, held := 0 } : Loop))) l).on = false
  rw [smGet_map_snd (g := fun x : Loop => { x with on := false, cond := false, held := 0 }) rfl]

theorem holdReset_held (d : Dev) (cause : ResetCause) (code : Nat) (hp : ∀ r, (lose r).pendq = [])
    (hl : ∀ r : Recorder, (lose r).lostPending = r.lostPending + r.pendq.length) : Held d cause code (d.holdReset cause code lose) := by
  unfold Dev.holdReset
  extract_lets y roast d1 d2 d3
  have h2 : d2.sys = d.sys ∧ d2.host = d1.host ∧ d2.pair = d1.pair ∧ d2.island = d1.island ∧ pendings d2.recorder = pendings d.recorder := by
    unfold d2
    split
    · exact cutEngine_parts d1 _
    · exact ⟨rfl, rfl, rfl, rfl, rfl⟩
  clear_value d2
  obtain ⟨hsys, hhost, hpair, hisl, hrec⟩ := h2
  obtain ⟨hpq, hlp⟩ := Prod.mk.inj hrec
  refine ⟨?_, rfl, congrArg HostUnit.queue hhost, congrArg PairUnit.roleOut hpair, fun l => ?_, congrArg Island.soCmd hisl, hp _, ?_⟩
  · have h3 : d3.sys = d.sys := hsys
    unfold Dev.modSys heldSys
    rw [h3]
    dsimp only
    cases d.sys.reset <;> rfl
  · exact (congrArg (fun x : Island => (x.loop l).on) hisl).trans (loopsOff_off _ l)
  · exact (hl _).trans (by rw [hpq, hlp])

/-- What of the system state a reset answers for. -/
def atReset (y : Sys) : Power × Option ResetCause × List Nat × Nat × BitVec 48 := (y.power, y.reset, y.startCodes, y.div, y.opTime)

/-- What a module held in reset shows. -/
def HeldBy (d : Dev) (cause : ResetCause) (code : Nat) (d' : Dev) : Prop :=
  d'.sys.power = .keep ∧ d'.sys.reset = some (d.sys.reset.getD cause) ∧ code ∈ d'.sys.startCodes ∧ d'.sys.div = 1 ∧ d'.cores = [] ∧
    d'.host.queue = [] ∧ d'.recorder.pendq = [] ∧ d'.recorder.lostPending = d.recorder.lostPending + d.recorder.pendq.length ∧
    (∀ l, (d'.island.loop l).on = false) ∧ d'.pair.roleOut = false ∧ d'.sys.opTime = d.sys.opTime

theorem Held.heldBy {d e : Dev} (h : Held d cause code e) (f : Field → Field) {g : Sys → Sys} (hg : ∀ y, atReset (g y) = atReset y) :
    HeldBy d cause code ((e.modField f).modSys g) := by
  have hs : atReset (g e.sys) = atReset (heldSys d.sys cause code) := (hg _).trans (congrArg atReset h.sys)
  unfold atReset at hs
  simp only [Prod.mk.injEq] at hs
  obtain ⟨h1, h2, h3, h4, h5⟩ := hs
  exact ⟨h1, h2, h3.symm ▸ mem_startCodes_heldSys d.sys cause code, h4, h.cores, h.queue, h.pendq, h.lost, h.loops, h.roleOut, h5⟩

end HoldReset

/-! ### The division of the clock -/

section Sag

variable {s : State} {mv : BitVec 16}

theorem operating_iff (d : Dev) : d.operating = true ↔ d.sys.power = .idle ∨ d.sys.power = .run := by
  unfold Dev.operating
  rw [Bool.or_eq_true, beq_iff_eq, beq_iff_eq]

theorem coreRuns_iff (d : Dev) : d.coreRuns = true ↔ (d.operating = true ∨ d.sys.starting ≠ none) ∧ d.sys.reset = none := by
  unfold Dev.coreRuns
  rw [Bool.and_eq_true, Bool.or_eq_true, Option.isSome_iff_ne_none, Option.isNone_iff_eq_none]

theorem powered_iff (d : Dev) : d.powered = true ↔ d.operating = true ∨ d.sys.power = .roast ∨ d.sys.starting ≠ none := by
  unfold Dev.powered
  rw [Bool.or_eq_true, Bool.or_eq_true, Option.isSome_iff_ne_none, beq_iff_eq, or_assoc]

theorem kept_setDiv (d : Dev) (n : Nat) : Kept (Sys.fixed { d.sys with div := n }) (d.setDiv n) := Dev_devNat_kept rfl

/-- The module after a sag has raised the division. -/
def sagDivided (d : Dev) (div4 : Bool) (mv : BitVec 16) : Dev :=
  let d := ((d.sampleRail mv).setDiv (if div4 then 4 else 2)).incRegFld Adr.pwrSagcnt (if div4 then 16 else 0) 16
  (d.orReg Adr.pwrFlags (if div4 then 2 else 1)).eventRep (if div4 then 0x0211 else 0x0210) 0xFFFF

theorem kept_sagDivided (d : Dev) (div4 : Bool) (mv : BitVec 16) :
    Kept (Sys.fixed { (d.sampleRail mv).sys with div := if div4 then 4 else 2 }) (sagDivided d div4 mv) :=
  Dev_eventRep_kept (Dev_orReg_kept (Dev_incRegFld_kept (kept_setDiv (d.sampleRail mv) _)))

theorem sagDivided_flag (d : Dev) (div4 : Bool) (mv : BitVec 16) :
    ((sagDivided d div4 mv).reg Adr.pwrFlags).getLsbD (if div4 then 1 else 0) = true := by
  unfold sagDivided
  extract_lets e
  rw [((Logs.refl _).eventRep _ _ _).reg _ (by decide), reg_orReg_self, BitVec.getLsbD_or]
  cases div4 <;> exact Bool.or_true _

theorem exec_sagDivide (div4 : Bool) (mv : BitVec 16) (s : State) : exec (.sagDivide div4 mv) s =
    if s.dev.coreRuns && s.dev.sys.div < if div4 then 4 else 2 then
      .next { s with dev := (sagDivided s.dev div4 mv).modPlacer fun p => { p with mig := p.mig.map fun m =>
        if m.phase == .copying then { m with dRose := true } else m } }
    else .next s := rfl

end Sag

/-! ### The pins -/

section Pins

variable {s : State} {vin : BitVec 16}

/-- The module as a power-fail warning leaves it. -/
def powerFailing (d : Dev) (vin : BitVec 16) : Dev :=
  (((d.holdReset .pfail 0x0213 Recorder.powerFail).modField fun f => { f with offDue := d.operating }).modSys
    fun y => { y with vinFailed := true }).sampleVin vin

theorem exec_powerFailWarning (vin : BitVec 16) (s : State) : exec (.powerFailWarning vin) s =
    if s.dev.sys.power != .off && !s.dev.sys.vinFailed then .next { s with dev := powerFailing s.dev vin } else .next s := rfl

theorem exec_powerFailOff (s : State) : exec .powerFailOff s =
    if s.dev.sys.vinFailed then .next { s with dev := s.dev.storeLost.fieldOff.modSys fun y =>
      { y with power := .off, reset := none, vinFailed := false, rstnLow := false } } else .next s := rfl

theorem exec_rstnAssert (s : State) : exec .rstnAssert s =
    if s.dev.sys.power == .off || s.dev.sys.rstnLow then .next s
    else if s.dev.sys.rstIgn then .next { s with dev := s.dev.modSys fun y => { y with rstnLow := true } }
    else .next { s with dev := (s.dev.holdReset .rstn 0x0220 Recorder.resetLoss).modSys fun y => { y with rstnLow := true } } := rfl

theorem exec_rstnStuck (s : State) : exec .rstnStuck s =
    if s.dev.sys.rstnLow && s.dev.sys.reset.isSome && !s.dev.sys.rstIgn then
      .next { s with dev := s.dev.modSys fun y => { y with rstIgn := true, startCodes := y.startCodes.filter (· != 0x0220) ++ [0x0221] } }
    else .next s := rfl

theorem exec_rstnBackInService (s : State) : exec .rstnBackInService s =
    if s.dev.sys.rstIgn && !s.dev.sys.rstnLow && s.dev.sys.power != .off then
      .next { s with dev := if s.dev.powered && s.dev.sys.reset.isNone then (s.dev.modSys fun y => { y with rstIgn := false }).event 0x0222 0xFFFF
                            else (s.dev.modSys fun y => { y with rstIgn := false }).modSys
                              fun y => { y with startCodes := y.startCodes ++ [0x0222] } }
    else .next s := rfl

end Pins

/-- Settles O51. -/
theorem supplyAndReset : Obligations.SupplyAndReset := by
  intro s div4 mv vin d y level clocked clockRuns least heldBy
  have hc : clocked ↔ d.powered = true := (powered_iff d).symm
  have hr : clockRuns ↔ d.coreRuns = true := (coreRuns_iff d).symm
  refine ⟨fun hk hl => ?_, fun h => ?_, fun h => ?_, fun h => ?_, fun h => ?_, fun h => ?_, fun hk hl => ?_, fun h => ?_, fun h => ?_,
    fun h => ?_, fun h hv => ?_, fun h => ?_, fun h hi hl => ?_, fun h => ?_, fun h hl hi => ?_, rfl, fun h hn hi => ?_,
    fun hi hl hk hp hn => ?_, fun hi hl hp hn => ?_⟩
  · have hk : d.coreRuns = true := hr.mp hk
    refine answers_next ((exec_sagDivide div4 mv s).trans (if_pos (by rw [hk, Bool.true_and, decide_eq_true_eq]; exact hl))) ?_
    have hkept := (kept_sagDivided d div4 mv).eq
    have hf := sagDivided_flag d div4 mv
    generalize sagDivided d div4 mv = e at hkept hf ⊢
    have of {α : Type} (π : Sys → α) (hπ : ∀ z : Sys, π z.fixed = π z) : π e.sys = π { (d.sampleRail mv).sys with div := level } := by
      rw [← hπ e.sys, hkept, hπ]
    exact ⟨of Sys.div fun _ => rfl, of Sys.rail fun _ => rfl, of Sys.railLow fun _ => rfl, of Sys.power fun _ => rfl, hf⟩
  · refine (exec_sagDivide div4 mv s).trans (if_neg ?_)
    rw [Bool.and_eq_true, decide_eq_true_eq]
    exact fun ⟨h1, h2⟩ => h.elim (fun h => h (hr.mpr h1)) (Nat.not_le_of_lt h2)
  · refine (exec_powerFailWarning vin s).trans (if_neg ?_)
    rw [Bool.and_eq_true, bne_iff_ne, Bool.not_eq_true']
    exact fun ⟨h1, h2⟩ => h.elim h1 (fun h => nomatch h.symm.trans h2)
  · exact (exec_powerFailOff s).trans (if_neg (Bool.eq_false_iff.mp h))
  · refine (exec_rstnStuck s).trans (if_neg ?_)
    rw [Bool.and_eq_true, Bool.and_eq_true, Option.isSome_iff_ne_none, Bool.not_eq_true']
    rintro ⟨⟨h1, h2⟩, h3⟩
    obtain h | h | h := h
    · exact nomatch h1.symm.trans h
    · exact h2 h
    · exact nomatch h3.symm.trans h
  · refine (exec_rstnBackInService s).trans (if_neg ?_)
    rw [Bool.and_eq_true, Bool.and_eq_true, Bool.not_eq_true', bne_iff_ne]
    rintro ⟨⟨h1, h2⟩, h3⟩
    obtain h | h | h := h
    · exact nomatch h1.symm.trans h
    · exact nomatch h2.symm.trans h
    · exact h3 h
  · refine answers_next (if_pos (by rw [hr.mp hk, Bool.true_and, decide_eq_true_eq]; exact hl)) ?_
    have hkept := (kept_setDiv (d.sampleRail mv) (d.sys.div / 2)).eq
    generalize (d.sampleRail mv).setDiv (d.sys.div / 2) = e at hkept ⊢
    exact ⟨show e.sys.fixed.div = _ by rw [hkept]; rfl, show e.sys.fixed.power = _ by rw [hkept]; rfl⟩
  · refine if_neg ?_
    rw [Bool.and_eq_true, decide_eq_true_eq]
    exact fun ⟨h1, h2⟩ => h.elim (fun h => h (hr.mpr h1)) (Nat.not_le_of_lt h2)
  · exact answers_next (if_pos (hc.mp h)) ((holdReset_held d .brown 0x0212 (fun _ => rfl) fun _ => rfl).heldBy id (g := id) fun _ => rfl)
  · exact if_neg fun hn => h (hc.mpr hn)
  · refine answers_next ((exec_powerFailWarning vin s).trans (if_pos ?_)) ?_
    · rw [Bool.and_eq_true, bne_iff_ne, Bool.not_eq_true']
      exact ⟨h, hv⟩
    · have hh := holdReset_held d .pfail 0x0213 (lose := Recorder.powerFail) (fun _ => rfl) fun _ => rfl
      unfold powerFailing
      generalize d.holdReset .pfail 0x0213 Recorder.powerFail = e at hh ⊢
      refine ⟨hh.heldBy _ (g := fun y => { y with vinFailed := true, vin := vin, vinLow := lowest y.vinLow vin }) fun _ => rfl,
        hh.soCmd, Iff.rfl, rfl, ?_, rfl⟩
      show lowest e.sys.vinLow vin = _
      rw [hh.sys]
      rfl
  · exact answers_next ((exec_powerFailOff s).trans (if_pos h)) ⟨rfl, rfl, rfl, rfl⟩
  · refine answers_next ((exec_rstnAssert s).trans ((if_neg ?_).trans (if_neg (Bool.eq_false_iff.mp hi))))
      ⟨(holdReset_held d .rstn 0x0220 (fun _ => rfl) fun _ => rfl).heldBy id (g := fun y => { y with rstnLow := true }) fun _ => rfl, rfl⟩
    rw [Bool.or_eq_true, beq_iff_eq]
    exact fun hn => hn.elim h fun hn => nomatch hn.symm.trans hl
  · refine (exec_rstnAssert s).trans (if_pos ?_)
    rw [Bool.or_eq_true, beq_iff_eq]
    exact h
  · refine (exec_rstnAssert s).trans ((if_neg ?_).trans (if_pos hi))
    rw [Bool.or_eq_true, beq_iff_eq]
    exact fun hn => hn.elim h fun hn => nomatch hn.symm.trans hl
  · refine (exec_rstnStuck s).trans (if_pos ?_)
    rw [Bool.and_eq_true, Bool.and_eq_true, Option.isSome_iff_ne_none, Bool.not_eq_true']
    exact ⟨⟨h, hn⟩, hi⟩
  · refine ⟨_, (exec_rstnBackInService s).trans ?_, rfl⟩
    rw [if_pos, if_pos]
    · rfl
    · rw [Bool.and_eq_true, Option.isNone_iff_eq_none]
      exact ⟨hc.mp hk, hn⟩
    · rw [Bool.and_eq_true, Bool.and_eq_true, Bool.not_eq_true', bne_iff_ne]
      exact ⟨⟨hi, hl⟩, hp⟩
  · refine (exec_rstnBackInService s).trans ?_
    rw [if_pos, if_neg]
    · rfl
    · rw [Bool.and_eq_true, Option.isNone_iff_eq_none]
      exact fun ⟨h1, h2⟩ => hn.elim (fun hn => hn (hc.mpr h1)) fun hn => hn h2
    · rw [Bool.and_eq_true, Bool.and_eq_true, Bool.not_eq_true', bne_iff_ne]
      exact ⟨⟨hi, hl⟩, hp⟩

end Sys2Proof.Proofs
end

section
/-! SUPPORT. Work of a CAN controller (chapter 12): what it leaves of the controllers and of their registers. -/

namespace Sys2Proof.Proofs

open Sys2Proof.Machine Sys2Proof.Safety

/-- The addresses of the CAN controllers' registers. -/
def canRange (a : Nat) : Prop := 0x220000 ≤ a ∧ a < 0x230000

section Addresses

variable {c o : Nat}

theorem canCtrl_range (hc : c < 4) : canRange (Adr.canCtrl c) := by unfold canRange Adr.canCtrl; omega

theorem canFlags_range (hc : c < 4) : canRange (Adr.canFlags c) := by unfold canRange Adr.canFlags; omega

theorem canNbt_range (hc : c < 4) : canRange (Adr.canNbt c) := by unfold canRange Adr.canNbt; omega

theorem canDbt_range (hc : c < 4) : canRange (Adr.canDbt c) := by unfold canRange Adr.canDbt; omega

theorem canTdc_range (hc : c < 4) : canRange (Adr.canTdc c) := by unfold canRange Adr.canTdc; omega

theorem canCfgstat_range (hc : c < 4) : canRange (Adr.canCfgstat c) := by unfold canRange Adr.canCfgstat; omega

theorem canRxcnt_range (hc : c < 4) : canRange (Adr.canRxcnt c) := by unfold canRange Adr.canRxcnt; omega

theorem canTxcnt_range (hc : c < 4) : canRange (Adr.canTxcnt c) := by unfold canRange Adr.canTxcnt; omega

theorem canRxunm_range (hc : c < 4) : canRange (Adr.canRxunm c) := by unfold canRange Adr.canRxunm; omega

theorem canLostcnt_range (hc : c < 4) : canRange (Adr.canLostcnt c) := by unfold canRange Adr.canLostcnt; omega

theorem canBoffcnt_range (hc : c < 4) : canRange (Adr.canBoffcnt c) := by unfold canRange Adr.canBoffcnt; omega

theorem canErrfrm_range (hc : c < 4) : canRange (Adr.canErrfrm c) := by unfold canRange Adr.canErrfrm; omega

theorem canObjid_range (hc : c < 4) (ho : o < 256) : canRange (Adr.canObjid c o) := by unfold canRange Adr.canObjid; omega

theorem canObjcfg_range (hc : c < 4) (ho : o ≤ 256) : canRange (Adr.canObjcfg c o) := by unfold canRange Adr.canObjcfg; omega

end Addresses

section Controllers

variable {d e f : Dev} {c k : Nat}

theorem can_setCan_self (d : Dev) (c : Nat) (x : Can) : (d.setCan c x).can c = x := smGet_smPut_self _ _ _ _

theorem can_setCan_other (d : Dev) (x : Can) (h : k ≠ c) : (d.setCan c x).can k = d.can k := smGet_smPut_other _ _ _ _ _ h

theorem obj_setObj_self (x : Can) (o : Nat) (y : CanObj) : (x.setObj o y).obj o = y := smGet_smPut_self _ _ _ _

theorem Stored.can (h : Stored d e) (k : Nat) : e.can k = d.can k := by rw [Dev.can, h.cans]; rfl

/-- The second module is the first but for work of the controllers `C`, which may set the registers `R`. -/
structure CanWork (C R : List Nat) (d e : Dev) : Prop where
  can : ∀ k, k ∉ C → e.can k = d.can k
  reg : ∀ a, canRange a → a ∉ R → e.reg a = d.reg a
  role : e.pair.role = d.pair.role
  power : e.sys.power = d.sys.power

variable {C R : List Nat}

theorem CanWork.refl (d : Dev) : CanWork C R d d := ⟨fun _ _ => rfl, fun _ _ _ => rfl, rfl, rfl⟩

theorem CanWork.trans (h : CanWork C R d e) (g : CanWork C R e f) : CanWork C R d f :=
  ⟨fun k hk => (g.can k hk).trans (h.can k hk), fun a ha hR => (g.reg a ha hR).trans (h.reg a ha hR), g.role.trans h.role,
    g.power.trans h.power⟩

theorem CanWork.mono {C' R' : List Nat} (h : CanWork C R d e) (hC : ∀ k ∈ C, k ∈ C') (hR : ∀ a ∈ R, a ∈ R') : CanWork C' R' d e :=
  ⟨fun k hk => h.can k fun hm => hk (hC k hm), fun a ha hn => h.reg a ha fun hm => hn (hR a hm), h.role, h.power⟩

theorem CanWork.ite {p : Prop} [Decidable p] {x y : Dev} (hx : CanWork C R d x) (hy : CanWork C R d y) :
    CanWork C R d (if p then x else y) := by
  split
  · exact hx
  · exact hy

theorem CanWork.foldl {α : Type} {l : List α} {f : Dev → α → Dev} (hf : ∀ e a, CanWork C R d e → CanWork C R d (f e a))
    (h : CanWork C R d e) : CanWork C R d (l.foldl f e) := List.foldlRecOn (motive := CanWork C R d) l f h fun e he a _ => hf e a he

theorem CanWork.stored (h : CanWork C R d e) (g : Stored e f) : CanWork C R d f :=
  h.trans ⟨fun k _ => g.can k, fun a ha _ => g.reg a (fixedReg_of (ha.1.trans' (by decide)) (ha.2.trans (by decide))), by rw [g.pair],
    by rw [g.sys]⟩

theorem CanWork.logs (h : CanWork C R d e) (g : Logs e f) : CanWork C R d f := h.stored ((Stored.refl e).logs g)

theorem CanWork.event (h : CanWork C R d e) (code subj : Nat) (l : List Byte) : CanWork C R d (e.event code subj l) :=
  h.logs ((Logs.refl e).event code subj l)

theorem CanWork.eventRep (h : CanWork C R d e) (code subj : Nat) (l : List Byte) : CanWork C R d (e.eventRep code subj l) :=
  h.logs ((Logs.refl e).eventRep code subj l)

theorem CanWork.setCan (h : CanWork C R d e) (hc : c ∈ C) (x : Can) : CanWork C R d (e.setCan c x) :=
  h.trans ⟨fun _ hk => can_setCan_other e x fun he => hk (he ▸ hc), fun _ _ _ => rfl, rfl, rfl⟩

theorem CanWork.setReg (h : CanWork C R d e) {a : Nat} (ha : a ∈ R) (v : Word) : CanWork C R d (e.setReg a v) :=
  h.trans ⟨fun _ _ => rfl, fun _ _ hb => reg_setReg_other e v fun he => hb (he ▸ ha), rfl, rfl⟩

theorem CanWork.orReg (h : CanWork C R d e) {a : Nat} (ha : a ∈ R) (v : Word) : CanWork C R d (e.orReg a v) := h.setReg ha _

theorem CanWork.incReg (h : CanWork C R d e) {a : Nat} (ha : a ∈ R) : CanWork C R d (e.incReg a) := h.setReg ha _

theorem CanWork.nextFree (h : CanWork C R d e) : CanWork C R d e.nextFree.1 := h.trans ⟨fun _ _ => rfl, fun _ _ _ => rfl, rfl, rfl⟩

/-! ### The controllers' shared operations -/

theorem stored_canTxStatus (d : Dev) (c o code n : Nat) : Stored d (d.canTxStatus c o code n) := (Stored.refl d).devSig _ _ _ _

theorem stored_canInvalidate (d : Dev) (c o : Nat) : Stored d (d.canInvalidate c o) :=
  Stored.foldl (fun _ _ h => h.sigQuality _ _ _) (.refl d)

theorem stored_canClearReceive (d : Dev) (c : Nat) : Stored d (d.canClearReceive c) :=
  Stored.foldl (fun _ _ h => h.sigQuality _ _ _) (.refl d)

theorem CanWork.canCancel (h : CanWork C R d e) (hc : c ∈ C) (o : Nat) : CanWork C R d (e.canCancel c o) :=
  .ite ((h.setCan hc _).stored (stored_canTxStatus _ _ _ _ _)) h

theorem CanWork.canCfgstat (h : CanWork C R d e) (hs : Adr.canCfgstat c ∈ R) (hf : Adr.canFlags c ∈ R) (code : Nat) :
    CanWork C R d (e.canCfgstat c code) := .ite (h.setReg hs _) ((h.setReg hs _).orReg hf _)

theorem reg_canCfgstat (d : Dev) (c code : Nat) : (d.canCfgstat c code).reg (Adr.canCfgstat c) = wordOfNat code := by
  unfold Dev.canCfgstat
  extract_lets e
  have he : e.reg (Adr.canCfgstat c) = wordOfNat code := reg_setReg_self _ _ _
  split
  · exact he
  · rw [reg_orReg_other _ _ (by unfold Adr.canCfgstat Adr.canFlags; omega), he]

/-- A cancelled request is neither pending nor on the bus; the counters stay. -/
theorem canCancel_can (d : Dev) (c o : Nat) : ((d.canCancel c o).can c).tec = (d.can c).tec ∧
    ((d.canCancel c o).can c).busOff = (d.can c).busOff ∧ (((d.canCancel c o).can c).obj o).pending = false := by
  have hu (x : Can) (y : CanObj) : ((x.unkeep o).setObj o y).tec = x.tec ∧ ((x.unkeep o).setObj o y).busOff = x.busOff := by
    unfold Can.unkeep
    split <;> exact ⟨rfl, rfl⟩
  unfold Dev.canCancel
  extract_lets x
  split
  next =>
    rw [(stored_canTxStatus _ _ _ _ _).can, can_setCan_self, obj_setObj_self]
    exact ⟨(hu _ _).1, (hu _ _).2, rfl⟩
  next h => exact ⟨rfl, rfl, (Bool.or_eq_false_iff.mp (Bool.eq_false_of_not_eq_true h)).1⟩

/-- The error counters set, short of bus-off. -/
theorem canCounters_short (d : Dev) (c : Nat) {tec : Nat} (recv : Nat) (h : tec ≤ 255) :
    CanWork [c] [Adr.canFlags c] d (d.canCounters c tec recv) ∧
      (d.canCounters c tec recv).can c = { d.can c with tec := tec, recCnt := satNat 255 recv } ∧ (d.canCounters c tec recv).sigs = d.sigs := by
  unfold Dev.canCounters
  extract_lets x was d1 d2
  rw [if_neg (Nat.not_lt.mpr h)]
  have h1 : CanWork [c] [Adr.canFlags c] d d1 := (CanWork.refl d).setCan (List.mem_singleton_self c) _
  have h2 : CanWork [] [Adr.canFlags c] d1 d2 := .ite (((CanWork.refl d1).orReg (List.mem_singleton_self _) 2).event _ _ _) (.refl d1)
  refine ⟨h1.trans (h2.mono (by simp) fun _ ha => ha), (h2.can c List.not_mem_nil).trans (can_setCan_self d c _), ?_⟩
  unfold d2
  split
  · exact ((Logs.refl _).event _ _ _).sigs
  · rfl

/-- Restricted operation is read from CAN_CTRL and the role. -/
theorem CanWork.canRestricted (h : CanWork C R d e) (hc : c < 4) (hR : Adr.canCtrl c ∉ R) : e.canRestricted c = d.canRestricted c := by
  unfold Dev.canRestricted
  rw [h.reg _ (canCtrl_range hc) hR, h.role]

theorem canRestricted_iff (d : Dev) (c : Nat) :
    d.canRestricted c = true ↔ (d.reg (Adr.canCtrl c)).getLsbD 1 = true ∨ d.pair.role = .standby := by
  unfold Dev.canRestricted
  rw [Bool.or_eq_true, beq_iff_eq]
  exact Iff.rfl

end Controllers

/-! ### The configuration (R334–R337) -/

section Configuration

variable (d : Dev) (c o : Nat)

/-- What a write that the controller refuses, or takes without an effect of its own, leaves. -/
theorem canCfgstat_shows (code a : Nat) (ha : canRange a) (hs : a ≠ Adr.canCfgstat c) (hf : a ≠ Adr.canFlags c) :
    (d.canCfgstat c code).reg (Adr.canCfgstat c) = wordOfNat code ∧ (d.canCfgstat c code).reg a = d.reg a :=
  ⟨reg_canCfgstat d c code, ((CanWork.refl d).canCfgstat (C := []) (R := [Adr.canCfgstat c, Adr.canFlags c]) (by simp) (by simp) code).reg a ha
    (by simp [hs, hf])⟩

end Configuration

end Sys2Proof.Proofs
end

section
/-! OBLIGATION O55. The registers of a CAN controller: enabling, timing, objects, recovery and the error counters. -/

namespace Sys2Proof.Proofs

open Sys2Proof.Machine Sys2Proof.Safety

section Control

variable {d : Dev} {c o : Nat} {v : Word}

/-- Bits that a mask keeps. -/
theorem bit_and {m : Word} (v : Word) {i : Nat} (h : m.getLsbD i = true) : bit (v &&& m) i = v.getLsbD i :=
  (BitVec.getLsbD_and ..).trans (by rw [h, Bool.and_true])

theorem canObjid_place (c : Nat) (ho : o < 256) : Adr.canObjid c 0 ≤ Adr.canObjid c o ∧
    Adr.canObjid c o < Adr.canObjid c 0 + 0x800 ∧ Adr.canObjid c o ≠ Adr.canCfgstat c ∧ Adr.canObjid c o ≠ Adr.canFlags c := by
  unfold Adr.canObjid Adr.canCfgstat Adr.canFlags
  omega

theorem canObjcfg_place (c : Nat) (ho : o < 256) : Adr.canObjid c 0 ≤ Adr.canObjcfg c o ∧
    Adr.canObjcfg c o < Adr.canObjid c 0 + 0x800 ∧ Adr.canObjcfg c o ≠ Adr.canCfgstat c ∧ Adr.canObjcfg c o ≠ Adr.canFlags c := by
  unfold Adr.canObjid Adr.canObjcfg Adr.canCfgstat Adr.canFlags
  omega

/-- The controller switched on. -/
def switchedOn (d : Dev) (c : Nat) (v : Word) : Can :=
  { d.can c with tec := 0, recCnt := 0, busOff := false, recovering := false, kept := none,
                 triple := bit (v &&& 0x1F) 3 && canNominal (d.reg (Adr.canNbt c)) ≥ 320 }

theorem canEnable_fits (hc : c < 4) (h : canTimingOk (d.reg (Adr.canNbt c)) (d.reg (Adr.canDbt c)) = true) :
    CanWork [] [Adr.canCfgstat c, Adr.canFlags c] ((d.setCan c (switchedOn d c v)).setReg (Adr.canCtrl c) (v &&& 0x1F)) (d.canEnable c v) ∧
      (d.canEnable c v).reg (Adr.canCfgstat c) =
        if v.getLsbD 3 = true ∧ ¬320 ≤ canNominal (d.reg (Adr.canNbt c)) then 0x5804 else 0 := by
  unfold Dev.canEnable
  extract_lets w nbt slow x d1 d2
  rw [if_pos h]
  have hw (code : Nat) : CanWork [] [Adr.canCfgstat c, Adr.canFlags c] d2 (d2.canCfgstat c code) :=
    (CanWork.refl d2).canCfgstat (by simp) (by simp) code
  have hcond : (bit w 3 && !decide slow) = true ↔ v.getLsbD 3 = true ∧ ¬320 ≤ canNominal (d.reg (Adr.canNbt c)) := by
    rw [Bool.and_eq_true, bit_and v rfl, Bool.not_eq_true', decide_eq_false_iff_not]
  by_cases hs : v.getLsbD 3 = true ∧ ¬320 ≤ canNominal (d.reg (Adr.canNbt c))
  · rw [if_pos (hcond.mpr hs), if_pos hs]
    refine ⟨(hw _).event _ _ _, ?_⟩
    rw [((CanWork.refl (C := []) (R := []) _).event _ _ _).reg _ (canCfgstat_range hc) (List.not_mem_nil), reg_canCfgstat]
    rfl
  · rw [if_neg (mt hcond.mp hs), if_neg hs]
    exact ⟨hw 0, reg_canCfgstat d2 c 0⟩

theorem canDisable_off : CanWork [c] [] d (d.canDisable c) ∧ ((d.canDisable c).can c).tec = 0 ∧ ((d.canDisable c).can c).recCnt = 0 ∧
    ((d.canDisable c).can c).busOff = false ∧ ((d.canDisable c).can c).recovering = false := by
  have hc : c ∈ [c] := List.mem_singleton_self c
  unfold Dev.canDisable
  extract_lets objs d1 d2 x cleared
  have h1 : CanWork [c] [] d d1 := CanWork.foldl (fun _ o g => g.canCancel hc o) (.refl d)
  rw [can_setCan_self]
  exact ⟨(h1.stored (stored_canClearReceive d1 c)).setCan hc _, rfl, rfl, rfl, rfl⟩

/-- An object's configuration is written under its address. -/
theorem canObjectWrite_objid (d : Dev) (c o : Nat) (v : Word) : d.canObjectWrite c (Adr.canObjid c o) v = d.canObjidWrite c o v := by
  have h : Adr.canObjid c o - Adr.canObjid c 0 = 8 * o := by unfold Adr.canObjid; omega
  unfold Dev.canObjectWrite
  rw [h]
  dsimp only
  rw [if_pos (Nat.mul_mod_right 8 o), Nat.mul_div_cancel_left o (by decide)]

theorem canObjectWrite_objcfg (d : Dev) (c o : Nat) (v : Word) : d.canObjectWrite c (Adr.canObjcfg c o) v = d.canObjcfgWrite c o v := by
  have h : Adr.canObjcfg c o - Adr.canObjid c 0 = 8 * o + 4 := by unfold Adr.canObjid Adr.canObjcfg; omega
  unfold Dev.canObjectWrite
  rw [h]
  dsimp only
  rw [if_neg (by omega), if_pos (by omega), show (8 * o + 4) / 8 = o by omega]

/-- A write of a register that its controller takes, with the answer 0 or a code. -/
theorem setReg_canCfgstat (d : Dev) (c code : Nat) {a : Nat} (v : Word) (ha : canRange a) (hs : a ≠ Adr.canCfgstat c)
    (hf : a ≠ Adr.canFlags c) : ((d.setReg a v).canCfgstat c code).reg (Adr.canCfgstat c) = wordOfNat code ∧
      ((d.setReg a v).canCfgstat c code).reg a = v := by
  obtain ⟨h1, h2⟩ := canCfgstat_shows (d.setReg a v) c code a ha hs hf
  exact ⟨h1, h2.trans (reg_setReg_self d a v)⟩

/-- An enabled object is disabled. -/
theorem canObjcfgWrite_disables (hc : c < 4) (ho : o < 256) (he : bit (d.canCfg c o) 0 = true) (hv : bit (v &&& 0xFFFFFF07) 0 = false) :
    (d.canObjcfgWrite c o v).reg (Adr.canCfgstat c) = 0 ∧ (d.canObjcfgWrite c o v).canCfg c o = d.canCfg c o &&& 0xFFFFFFFE ∧
      (((d.canObjcfgWrite c o v).can c).obj o).locked = false ∧ (((d.canObjcfgWrite c o v).can c).obj o).pending = false := by
  have hm : c ∈ [c] := List.mem_singleton_self c
  have hr := canObjcfg_range hc (Nat.le_of_lt ho)
  have hs : Adr.canObjcfg c o ≠ Adr.canCfgstat c := by unfold Adr.canObjcfg Adr.canCfgstat; omega
  have hf : Adr.canObjcfg c o ≠ Adr.canFlags c := by unfold Adr.canObjcfg Adr.canFlags; omega
  unfold Dev.canObjcfgWrite
  extract_lets a w d1 d2 x d3
  rw [if_pos he, if_neg (Bool.eq_false_iff.mp hv)]
  have h1 : CanWork [c] [] d d1 := (CanWork.refl d).canCancel hm o
  have h2 : CanWork [] [] d1 d2 := .ite (.refl d1) ((CanWork.refl d1).stored (stored_canInvalidate d1 c o))
  have hp : ((d2.can c).obj o).pending = false := by
    rw [h2.can c List.not_mem_nil]
    exact (canCancel_can d c o).2.2
  have h3 : CanWork [c] [] d d3 := ((h1.trans (h2.mono (by simp) (by simp))).setCan hm _)
  have h3c : d3.can c = (d2.can c).setObj o { x with locked := false, shadow := none, shadowLost := false } := can_setCan_self _ _ _
  obtain ⟨h4, h5⟩ := setReg_canCfgstat d3 c 0 (d3.canCfg c o &&& 0xFFFFFFFE) hr hs hf
  have h6 : ((d3.setReg a (d3.canCfg c o &&& 0xFFFFFFFE)).canCfgstat c 0).can c = d3.can c :=
    ((CanWork.refl (C := []) (R := [Adr.canCfgstat c, Adr.canFlags c, a]) d3).setReg (by simp) _ |>.canCfgstat (by simp) (by simp) 0).can c
      List.not_mem_nil
  refine ⟨h4, h5.trans ?_, ?_, ?_⟩
  · rw [Dev.canCfg, h3.reg _ hr List.not_mem_nil]
    rfl
  · rw [h6, h3c, obj_setObj_self]
  · rw [h6, h3c, obj_setObj_self]
    exact hp

/-- An error moves no counter in restricted operation. -/
theorem canReceiveError_restricted (hc : c < 4) (kind : CanRxError) (h : d.canRestricted c = true) :
    (d.canReceiveError c kind).can c = d.can c := by
  unfold Dev.canReceiveError
  extract_lets e
  have he : CanWork [] [Adr.canErrfrm c] d e := .ite ((CanWork.refl d).incReg (List.mem_singleton_self _)) (.refl d)
  rw [if_pos ((he.canRestricted hc (by simp [Adr.canCtrl, Adr.canErrfrm])).trans h)]
  exact he.can c List.not_mem_nil

/-- An error outside restricted operation sets the counters. -/
theorem canReceiveError_counts (hc : c < 4) (kind : CanRxError) (h : d.canRestricted c = false) : ∃ e, CanWork [] [Adr.canErrfrm c] d e ∧
    d.canReceiveError c kind = if kind = .overloadFlag then e.canCounters c ((d.can c).tec + 8) (d.can c).recCnt
      else e.canCounters c (d.can c).tec ((d.can c).recCnt + if kind = .detected then 1 else 8) := by
  unfold Dev.canReceiveError
  extract_lets e
  have he : CanWork [] [Adr.canErrfrm c] d e := .ite ((CanWork.refl d).incReg (List.mem_singleton_self _)) (.refl d)
  refine ⟨e, he, ?_⟩
  rw [if_neg (Bool.eq_false_iff.mp ((he.canRestricted hc (by simp [Adr.canCtrl, Adr.canErrfrm])).trans h)), he.can c List.not_mem_nil]
  cases kind <;> rfl

end Control

/-- The key of CAN_CMD. -/
theorem fld_key (v : Word) : fld v 24 8 = v.toNat / 2 ^ 24 := by
  have := v.isLt
  rw [fld, Nat.shiftRight_eq_div_pow]
  omega

/-- A write of an object's configuration reaches the object by its address. -/
theorem exec_objectWrite (can : CanId) {a : Nat} (v : Word) (s : State) (h : Adr.canObjid can.val 0 ≤ a)
    (h' : a < Adr.canObjid can.val 0 + 0x800) : exec (.canObjectConfigWrite can (BitVec.ofNat 32 a) v) s =
      .next { s with dev := s.dev.canObjectWrite can.val a v } := by
  have ha : (BitVec.ofNat 32 a).toNat = a := by
    rw [BitVec.toNat_ofNat, Nat.mod_eq_of_lt]
    exact h'.trans (by unfold Adr.canObjid; omega)
  show execCanObjectConfigWrite can (BitVec.ofNat 32 a) v s = _
  unfold execCanObjectConfigWrite
  dsimp only
  rw [ha, if_pos ⟨h, h'⟩]

/-- A write of a timing register. -/
theorem exec_timingWrite (can : CanId) {a : Nat} {r : RegRow} (v : Word) (s : State)
    (ha : a = Adr.canNbt can.val ∨ a = Adr.canDbt can.val ∨ a = Adr.canTdc can.val) (hr : rowOf a = some r) :
    exec (.canTimingWrite can (BitVec.ofNat 32 a) v) s =
      .next { s with dev := if bit (s.dev.reg (Adr.canCtrl can.val)) 0 then s.dev.canCfgstat can.val 0x580E
                            else (s.dev.setReg a (v &&& wordOfNat r.mask)).canCfgstat can.val 0 } := by
  have hn : (BitVec.ofNat 32 a).toNat = a := by
    rw [BitVec.toNat_ofNat, Nat.mod_eq_of_lt]
    unfold Adr.canNbt Adr.canDbt Adr.canTdc at ha
    omega
  show execCanTimingWrite can (BitVec.ofNat 32 a) v s = _
  unfold execCanTimingWrite Dev.canTiming
  dsimp only
  rw [hn, if_pos ha]
  simp only [hr]

/-- Settles O55. -/
theorem canControl : Obligations.CanControl := by
  intro s can object v addr kind d c o x ctrl enabled fits shows restricted idReg cfgReg
  have hc : c < 4 := can.isLt
  have ho : o < 256 := object.isLt
  have hr : canRange (Adr.canObjcfg c o) := canObjcfg_range hc (Nat.le_of_lt ho)
  have hb0 : bit (v &&& 0xFFFFFF07) 0 = v.getLsbD 0 := bit_and v rfl
  obtain ⟨hid1, hid2, hid3, hid4⟩ := canObjid_place c ho
  obtain ⟨hcfg1, hcfg2, hcfg3, hcfg4⟩ := canObjcfg_place c ho
  refine ⟨fun hv he => ⟨fun hf => ?_, fun hf => ?_⟩, fun h => if_neg ?_, fun h => if_neg ?_, fun h1 h2 h3 => if_neg ?_, fun h => if_neg ?_,
    fun h => if_neg ?_, fun hv he => ?_, fun a r ha hrow => ?_, fun he => ?_, fun he => ?_, fun he hv => ?_, fun he hv => ?_,
    fun he hv hok => ?_, fun he hv hok => ?_, fun he hv => ?_, fun hv hk hb => ?_, fun h => ?_, fun hv hk => ?_, fun hon hb hr => ?_,
    fun h => if_neg ?_, fun hon hb ht => ?_⟩
  · refine answers_next (e := d.canEnable c v) (if_pos (by rw [Bool.and_eq_true, Bool.not_eq_true']; exact ⟨hv, he⟩)) ?_
    obtain ⟨hw, hstat⟩ := canEnable_fits (v := v) hc hf
    have hcan (k : Nat) : (d.canEnable c v).can k = (d.setCan c (switchedOn d c v)).can k := hw.can k List.not_mem_nil
    refine ⟨(hw.reg _ (canCtrl_range hc) (by simp [Adr.canCtrl, Adr.canCfgstat, Adr.canFlags])).trans (reg_setReg_self _ _ _), ?_, ?_, ?_,
      fun k hk => (hcan k).trans (can_setCan_other d _ hk), ?_, hstat⟩
    all_goals rw [hcan, can_setCan_self]
    · rfl
    · rfl
    · rfl
    · show (bit (v &&& 0x1F) 3 && _) = _
      rw [bit_and v rfl]
  · refine answers_next (e := d.canEnable c v) (if_pos (by rw [Bool.and_eq_true, Bool.not_eq_true']; exact ⟨hv, he⟩)) ?_
    unfold Dev.canEnable
    dsimp only
    rw [if_neg (Bool.eq_false_iff.mp hf)]
    obtain ⟨h1, h2⟩ := setReg_canCfgstat d c 0x5805 (v &&& 0x1F &&& 0x1E) (canCtrl_range hc)
      (by unfold Adr.canCtrl Adr.canCfgstat; omega) (by unfold Adr.canCtrl Adr.canFlags; omega)
    refine ⟨h1, h2.trans ?_⟩
    rw [BitVec.and_assoc]
    rfl
  · rw [Bool.and_eq_true, Bool.not_eq_true']
    exact fun ⟨h1, h2⟩ => h.elim (fun h => nomatch h1.symm.trans h) fun h => nomatch h2.symm.trans h
  · rw [Bool.and_eq_true, Bool.not_eq_true']
    exact fun ⟨h1, h2⟩ => h.elim (fun h => nomatch h1.symm.trans h) fun h => nomatch h2.symm.trans h
  · exact fun hn => hn.elim h1 fun hn => hn.elim h2 h3
  · exact fun ⟨h1, h2⟩ => h.elim (fun h => Nat.not_le_of_lt h h1) (Nat.not_le_of_lt h2)
  · rw [Bool.and_eq_true, Bool.not_eq_true']
    exact fun ⟨h1, h2⟩ => h.elim (fun h => nomatch h1.symm.trans h) fun h => nomatch h2.symm.trans h
  · refine answers_next (if_pos (by rw [Bool.and_eq_true, Bool.not_eq_true']; exact ⟨hv, he⟩)) ?_
    obtain ⟨hw, h1, h2, h3, h4⟩ := canDisable_off (d := d) (c := c)
    exact ⟨reg_setReg_self _ _ _, h1, h2, h3, h4, fun k hk => hw.can k (by rwa [List.mem_singleton])⟩
  · have hreg : canRange a ∧ a ≠ Adr.canCfgstat c ∧ a ≠ Adr.canFlags c := by
      unfold Adr.canNbt Adr.canDbt Adr.canTdc at ha
      unfold canRange Adr.canCfgstat Adr.canFlags
      omega
    obtain ⟨hr, hs, hf⟩ := hreg
    refine ⟨fun he => ?_, fun he => ?_⟩
    · have he : bit (s.dev.reg (Adr.canCtrl can.val)) 0 = true := he
      refine answers_next ((exec_timingWrite can v s ha hrow).trans (by rw [if_pos he])) ?_
      exact canCfgstat_shows d c 0x580E a hr hs hf
    · have he : ¬bit (s.dev.reg (Adr.canCtrl can.val)) 0 = true := Bool.eq_false_iff.mp he
      refine answers_next ((exec_timingWrite can v s ha hrow).trans (by rw [if_neg he])) ?_
      exact setReg_canCfgstat d c 0 _ hr hs hf
  · refine answers_next (exec_objectWrite can v s hid1 hid2) ?_
    rw [canObjectWrite_objid]
    have hw : d.canObjidWrite c o v = d.canCfgstat c 0x580E := if_pos he
    exact hw ▸ canCfgstat_shows d c 0x580E _ (canObjid_range hc ho) hid3 hid4
  · refine answers_next (exec_objectWrite can v s hid1 hid2) ?_
    rw [canObjectWrite_objid]
    have hw : d.canObjidWrite c o v = (d.setReg (Adr.canObjid c o) (v &&& 0x3FFFFFFF)).canCfgstat c 0 := if_neg (Bool.eq_false_iff.mp he)
    exact hw ▸ setReg_canCfgstat d c 0 _ (canObjid_range hc ho) hid3 hid4
  · refine answers_next (exec_objectWrite can v s hcfg1 hcfg2) ?_
    rw [canObjectWrite_objcfg]
    have hw : d.canObjcfgWrite c o v = d.canCfgstat c 0x580E := (if_pos he).trans (if_pos (hb0.trans hv))
    exact hw ▸ canCfgstat_shows d c 0x580E _ hr hcfg3 hcfg4
  · refine answers_next (exec_objectWrite can v s hcfg1 hcfg2) ?_
    rw [canObjectWrite_objcfg]
    exact canObjcfgWrite_disables hc ho he (hb0.trans hv)
  · refine answers_next (exec_objectWrite can v s hcfg1 hcfg2) ?_
    rw [canObjectWrite_objcfg]
    have hw : d.canObjcfgWrite c o v = (d.setReg (Adr.canObjcfg c o) (v &&& 0xFFFFFF07 &&& 0xFFFFFFFE)).canCfgstat c 0x5806 :=
      (if_neg (Bool.eq_false_iff.mp he)).trans ((if_pos (hb0.trans hv)).trans (if_neg (Bool.eq_false_iff.mp hok)))
    rw [hw]
    obtain ⟨h1, h2⟩ := setReg_canCfgstat d c 0x5806 (v &&& 0xFFFFFF07 &&& 0xFFFFFFFE) hr hcfg3 hcfg4
    refine ⟨h1, h2.trans ?_⟩
    rw [BitVec.and_assoc]
    rfl
  · refine answers_next (exec_objectWrite can v s hcfg1 hcfg2) ?_
    rw [canObjectWrite_objcfg]
    have hw : ∃ e : Dev, d.canObjcfgWrite c o v = (e.setReg (Adr.canObjcfg c o) (v &&& 0xFFFFFF07)).canCfgstat c 0 :=
      ⟨_, (if_neg (Bool.eq_false_iff.mp he)).trans ((if_pos (hb0.trans hv)).trans (if_pos hok))⟩
    obtain ⟨e, hw⟩ := hw
    rw [hw]
    exact setReg_canCfgstat e c 0 _ hr hcfg3 hcfg4
  · refine answers_next (exec_objectWrite can v s hcfg1 hcfg2) ?_
    rw [canObjectWrite_objcfg]
    have hb2 : bit (v &&& 0xFFFFFF07) 2 = v.getLsbD 2 := bit_and v rfl
    have hw : d.canObjcfgWrite c o v = (d.setReg (Adr.canObjcfg c o) (v &&& 0xFFFFFF07)).canCfgstat c
        (if bit (v &&& 0xFFFFFF07) 2 && !d.canMayDouble c o then 0x5806 else 0) :=
      (if_neg (Bool.eq_false_iff.mp he)).trans (if_neg (Bool.eq_false_iff.mp (hb0.trans hv)))
    rw [hw]
    obtain ⟨h1, h2⟩ := setReg_canCfgstat d c (if bit (v &&& 0xFFFFFF07) 2 && !d.canMayDouble c o then 0x5806 else 0) (v &&& 0xFFFFFF07) hr
      hcfg3 hcfg4
    refine ⟨h1.trans ?_, h2⟩
    rw [hb2]
    cases v.getLsbD 2 <;> cases d.canMayDouble c o <;> rfl
  · have hw : d.canRecover c v = d.setCan c { x with recovering := true } :=
      (if_neg (by rw [Bool.not_eq_true']; exact fun h => nomatch h.symm.trans hv)).trans
        ((if_neg (by rw [fld_key]; exact fun h => h hk)).trans (if_pos hb))
    exact congrArg (fun e => Host.Outcome.next { s with dev := e }) hw
  · have hw : d.canRecover c v = d := by
      obtain h | ⟨hk, hb⟩ := h
      · exact if_pos (by rw [Bool.not_eq_true']; exact h)
      · unfold Dev.canRecover
        rw [if_neg (not_not_intro ((fld_key v).trans hk)), if_neg (Bool.eq_false_iff.mp hb), ite_self]
    exact congrArg (fun e => Host.Outcome.next { s with dev := e }) hw
  · have hw : d.canRecover c v = d.event 0x580F (0x400 + c) :=
      (if_neg (by rw [Bool.not_eq_true']; exact fun h => nomatch h.symm.trans hv)).trans (if_pos (by rw [fld_key]; exact hk))
    exact ⟨d, congrArg (fun e => Host.Outcome.next (State.mk e s.pending)) hw, rfl⟩
  · exact ⟨_, if_pos (by rw [Bool.and_eq_true, Bool.and_eq_true]; exact ⟨⟨hb, hr⟩, hon⟩), rfl⟩
  · rw [Bool.and_eq_true, Bool.and_eq_true]
    rintro ⟨⟨h1, h2⟩, h3⟩
    obtain h | h | h := h
    · exact nomatch h3.symm.trans h
    · exact nomatch h1.symm.trans h
    · exact nomatch h2.symm.trans h
  · have hx : exec (.canBusError can kind) s = .next { s with dev := d.canReceiveError c kind } :=
      if_pos (by rw [Bool.and_eq_true, Bool.not_eq_true']; exact ⟨hon, hb⟩)
    have hres : restricted ↔ d.canRestricted c = true := (canRestricted_iff d c).symm
    refine ⟨fun hn hk => answers_next hx ?_, fun hn hk h8 => answers_next hx ?_, fun hn => answers_next hx ?_⟩
    · obtain ⟨e, he, hw⟩ := canReceiveError_counts hc kind (Bool.eq_false_of_not_eq_true (mt hres.mpr hn))
      rw [hw, if_neg hk, (canCounters_short e c _ ht).2.1]
      exact ⟨rfl, satNat_eq _ _⟩
    · obtain ⟨e, he, hw⟩ := canReceiveError_counts hc kind (Bool.eq_false_of_not_eq_true (mt hres.mpr hn))
      rw [hw, if_pos hk, (canCounters_short e c _ h8).2.1]
      exact ⟨rfl, satNat_eq _ _⟩
    · exact canReceiveError_restricted hc kind (hres.mp hn)

end Sys2Proof.Proofs
end

section
/-! SUPPORT. Reception by a CAN controller (R337–R342): what a good frame, a delivery and a release leave. -/

namespace Sys2Proof.Proofs

open Sys2Proof.Machine Sys2Proof.Safety

/-! ### One signal -/

/-- Work that keeps the places of the signals and one of them. -/
structure KeepsSig (n : Nat) (d e : Dev) : Prop where
  places : SamePlaces d e
  sig : e.sig n = d.sig n

section KeepsSig

variable {n m : Nat} {d e f : Dev}

theorem KeepsSig.refl (d : Dev) : KeepsSig n d d := ⟨.refl d, rfl⟩

theorem KeepsSig.trans (h : KeepsSig n d e) (g : KeepsSig n e f) : KeepsSig n d f := ⟨h.places.trans g.places, g.sig.trans h.sig⟩

theorem KeepsSig.ite {p : Prop} [Decidable p] {x y : Dev} (hx : KeepsSig n d x) (hy : KeepsSig n d y) :
    KeepsSig n d (if p then x else y) := by
  split
  · exact hx
  · exact hy

theorem KeepsSig.of_sigs (h : SamePlaces d e) (hs : e.sigs = d.sigs) : KeepsSig n d e := ⟨h, h.sig (by rw [hs])⟩

theorem KeepsSig.sched {C : Nat → Prop} (h : KeepsSig n d e) (g : Sched C e f) : KeepsSig n d f := h.trans (.of_sigs g.space.places g.sigs)

theorem KeepsSig.logs (h : KeepsSig n d e) (g : Logs e f) : KeepsSig n d f := h.trans (.of_sigs g.space.places g.sigs)

theorem KeepsSig.setCan (h : KeepsSig n d e) (c : Nat) (x : Can) : KeepsSig n d (e.setCan c x) :=
  h.trans (.of_sigs ⟨rfl, fun _ _ => rfl⟩ rfl)

theorem KeepsSig.setReg (h : KeepsSig n d e) {a : Nat} (ha : ¬placeReg a) (v : Word) : KeepsSig n d (e.setReg a v) :=
  h.trans (.of_sigs ⟨rfl, fun _ hb => reg_setReg_other _ _ fun hc => ha (hc ▸ hb)⟩ rfl)

theorem KeepsSig.orReg (h : KeepsSig n d e) {a : Nat} (ha : ¬placeReg a) (v : Word) : KeepsSig n d (e.orReg a v) := h.setReg ha _

theorem KeepsSig.incReg (h : KeepsSig n d e) {a : Nat} (ha : ¬placeReg a) : KeepsSig n d (e.incReg a) := h.setReg ha _

/-- A device write of another signal. -/
theorem KeepsSig.devSig (h : KeepsSig n d e) (hm : n ≠ m) (hd : n ≠ 0x87010) (v : Word) (valid stale : Bool) :
    KeepsSig n d (e.devSig m v valid stale) := by
  have hs : Stored e (e.sigHome m v valid stale 0x13) := (Stored.refl e).sigHome m v valid stale 0x13
  have hh : KeepsSig n e (e.sigHome m v valid stale 0x13) := by
    refine ⟨(SameSpace.places ⟨hs.image, hs.reg⟩), ?_⟩
    unfold Dev.sigHome
    split
    · exact sig_sigStore_other _ _ _ _ _ _ hd
    · exact sig_sigStore_other _ _ _ _ _ _ hm
  exact h.trans (.ite hh (.refl e))

/-- A device write of the signal itself, which is not forced. -/
theorem sig_devSig_self (d : Dev) (v : Word) (valid stale : Bool) (he : d.sigExists n = true) (hr : d.region n ≠ .reserved)
    (hf : (d.sig n).forced = false) :
    (d.devSig n v valid stale).sigVal n = v ∧ ((d.devSig n v valid stale).sig n).valid = valid := by
  let e : Dev := { d with hidden := smDel d.hidden n }
  have hw : d.devSig n v valid stale = e.sigStore n v valid stale 0x13 := by
    unfold Dev.devSig Dev.sigHome
    rw [if_pos ((Bool.and_eq_true ..).mpr ⟨he, bne_iff_ne.mpr hr⟩), if_neg (by rw [hf]; nofun)]
  unfold Dev.sigVal
  rw [hw, sig_sigStore_self e _ _ _ _ _ he hr]
  obtain ⟨hv, _⟩ := written_bits (e.sig n).q (e.mirrorBit n) (mirrorBit_cases e n) valid stale false (e.sigTracked n && (e.sig n).unread)
  exact ⟨rfl, hv⟩

end KeepsSig

section Places

variable {c o : Nat}

theorem canFlags_place (c : Nat) : ¬placeReg (Adr.canFlags c) := fun h => placeReg_can (k := 0xc) (c := c) h (by decide) (by
  unfold Adr.canFlags; omega)

theorem canLostcnt_place (c : Nat) : ¬placeReg (Adr.canLostcnt c) := fun h => placeReg_can (k := 0x30) (c := c) h (by decide) (by
  unfold Adr.canLostcnt; omega)

theorem canRxcnt_place (c : Nat) : ¬placeReg (Adr.canRxcnt c) := fun h => placeReg_can (k := 0x24) (c := c) h (by decide) (by
  unfold Adr.canRxcnt; omega)

/-- An object's first signal exists, and is not the count of discarded writes. -/
theorem canSig_exists (d : Dev) (hc : c < 4) (ho : o < 256) : d.sigExists (canSig c o) = true ∧ canSig c o ≠ 0x87010 := by
  have h : 0x81000 ≤ canSig c o ∧ canSig c o < 0x85000 := by unfold canSig; omega
  refine ⟨?_, by omega⟩
  unfold Dev.sigExists
  rw [if_neg (by omega), if_pos (by simpa using ⟨by omega, by omega⟩)]

/-- The count of receptions is no register of a log. -/
theorem canRxcnt_unlogged (hc : c < 4) : Adr.canRxcnt c ∉ logRegs :=
  (fixedReg_of (by unfold Adr.canRxcnt; omega) (by unfold Adr.canRxcnt; omega)).1

end Places

/-! ### Flags -/

/-- No flag of a controller is cleared. -/
def FlagsStay (c : Nat) (d e : Dev) : Prop := ∀ i, (d.reg (Adr.canFlags c)).getLsbD i = true → (e.reg (Adr.canFlags c)).getLsbD i = true

section Flags

variable {c : Nat} {C R : List Nat} {d e f : Dev}

theorem FlagsStay.trans (h : FlagsStay c d e) (g : FlagsStay c e f) : FlagsStay c d f := fun i hi => g i (h i hi)

theorem FlagsStay.ite {p : Prop} [Decidable p] {x y : Dev} (hx : FlagsStay c d x) (hy : FlagsStay c d y) :
    FlagsStay c d (if p then x else y) := by
  split
  · exact hx
  · exact hy

theorem CanWork.flagsStay (h : CanWork C R d e) (hc : c < 4) (hR : Adr.canFlags c ∉ R) : FlagsStay c d e :=
  fun _ hi => (h.reg _ (canFlags_range hc) hR) ▸ hi

theorem flagsStay_orReg (d : Dev) (c : Nat) (w : Word) : FlagsStay c d (d.orReg (Adr.canFlags c) w) := by
  intro i hi
  rw [reg_orReg_self, BitVec.getLsbD_or, hi]
  rfl

end Flags

/-! ### A good frame -/

section Receive

variable {d : Dev} {c o : Nat}

/-- What a good frame leaves before it is delivered: all but the receive error count and the next free value. -/
theorem canGoodReceive_keeps (d : Dev) (c : Nat) : (d.canGoodReceive c).regs = d.regs ∧ (d.canGoodReceive c).sigs = d.sigs ∧
    (d.canGoodReceive c).image = d.image ∧ (d.canGoodReceive c).sys.frame = d.sys.frame ∧
    (((d.canGoodReceive c).can c).objs = (d.can c).objs) := by
  unfold Dev.canGoodReceive
  split
  · exact ⟨rfl, rfl, rfl, rfl, rfl⟩
  · dsimp only
    split
    · exact ⟨rfl, rfl, rfl, rfl, rfl⟩
    · split
      · exact ⟨rfl, rfl, rfl, rfl, (congrArg Can.objs (can_setCan_self d c _)).trans rfl⟩
      · exact ⟨rfl, rfl, rfl, rfl, (congrArg Can.objs (can_setCan_self d.nextFree.1 c _)).trans rfl⟩

/-- The registers say which object takes a frame. -/
theorem canMatch_of_regs {e : Dev} (h : e.regs = d.regs) (c : Nat) (f : CanFrame) : e.canMatch c f = d.canMatch c f := by
  unfold Dev.canMatch Dev.canObjects Dev.canReceives Dev.canCfg Dev.reg
  rw [h]

/-- The header of a delivery. -/
def deliveryHeader (f : CanFrame) (room last count : Nat) : Word :=
  fields [(0, f.data.length), (8, b2n f.fdf), (9, b2n f.brs), (10, b2n f.esi), (11, b2n (f.data.length > room)), (16, last), (24, count)]

theorem fields_seven (a b c d e f g x y z u v w m : Nat) : fields [(a, x), (b, y), (c, z), (d, u), (e, v), (f, w), (g, m)] =
    wordOfNat (0 + x * 2 ^ a + y * 2 ^ b + z * 2 ^ c + u * 2 ^ d + v * 2 ^ e + w * 2 ^ f + m * 2 ^ g) := rfl

theorem header_fields {len fdf brs esi cut last count : Nat} (h : len ≤ 64) (h1 : fdf ≤ 1) (h2 : brs ≤ 1) (h3 : esi ≤ 1) (h4 : cut ≤ 1)
    (hl : last < 32) :
    fld (fields [(0, len), (8, fdf), (9, brs), (10, esi), (11, cut), (16, last), (24, count)]) 16 5 = last ∧
      fld (fields [(0, len), (8, fdf), (9, brs), (10, esi), (11, cut), (16, last), (24, count)]) 8 1 = fdf := by
  rw [fields_seven, fld, fld, wordOfNat, BitVec.toNat_ofNat, Nat.shiftRight_eq_div_pow, Nat.shiftRight_eq_div_pow]
  omega

theorem deliveryHeader_fields {f : CanFrame} {room last count : Nat} (hl : f.data.length ≤ 64) (hlast : last < 32) :
    fld (deliveryHeader f room last count) 16 5 = last ∧ fld (deliveryHeader f room last count) 8 1 = f.fdf.toNat := by
  have hb (b : Bool) : b2n b ≤ 1 := by cases b <;> decide
  have hf : b2n f.fdf = f.fdf.toNat := by cases f.fdf <;> rfl
  exact hf ▸ header_fields hl (hb _) (hb _) (hb _) (hb _) hlast

/-- What a delivery leaves of the controllers, the registers and the header: the data is written before the header, and no later
step touches it unless a frame was lost. -/
theorem canDeliver_outcome (d : Dev) (hc : c < 4) (ho : o < 256) (f : CanFrame) (sof : Word) (lost : Bool) :
    let held := if f.data.length ≤ d.canRoom c o then f.data.length else d.canRoom c o
    ∃ x, CanWork [c] [Adr.canFlags c, Adr.canLostcnt c, Adr.canRxcnt c] d (d.canDeliver c o f sof lost) ∧
      (d.canDeliver c o f sof lost).can c = (d.can c).setObj o x ∧ x.count = (((d.can c).obj o).count + 1) % 256 ∧
      x.locked = ((d.can c).obj o).locked ∧ x.shadow = ((d.can c).obj o).shadow ∧
      (d.canDeliver c o f sof lost).reg (Adr.canRxcnt c) = satInc (d.reg (Adr.canRxcnt c)) ∧
      FlagsStay c d (d.canDeliver c o f sof lost) ∧
      (lost = false → d.region (canSig c o) = .can → (d.sig (canSig c o)).forced = false →
        ((d.canDeliver c o f sof lost).sig (canSig c o)).valid = true ∧ (d.canDeliver c o f sof lost).sigVal (canSig c o) =
          deliveryHeader f (d.canRoom c o) (1 + (held + 3) / 4) ((((d.can c).obj o).count + 1) % 256)) := by
  intro held
  unfold Dev.canDeliver
  extract_lets len room held' words last b x unread count data d1 d2 d3 d4 d5 s5 d6 y d7 d8 d9
  obtain ⟨hex, hdisc⟩ := canSig_exists d hc ho
  have hs1 : Stored d d1 := Stored.foldl (fun _ _ h => h.devSig _ _ _ _) (.refl d)
  have hs2 : Stored d d2 := hs1.devSig _ _ _ _
  have hk2 : KeepsSig b d d2 := KeepsSig.devSig (List.foldlRecOn (motive := KeepsSig b d) _ _ (.refl d) fun e he k _ =>
    he.devSig (by unfold b; omega) hdisc _ _ _) (by unfold b; omega) hdisc _ _ _
  have hs3 : Stored d d3 := hs2.devSig _ _ _ _
  have hw3 : CanWork [] [Adr.canFlags c, Adr.canLostcnt c] d d3 := (CanWork.refl d).stored hs3
  have hb3 : d.region b = .can → (d.sig b).forced = false → d3.sigVal b = deliveryHeader f room last count ∧ (d3.sig b).valid = true :=
    fun hr hf => sig_devSig_self d2 _ true false ((hk2.places.sigExists b).trans hex) ((hk2.places.region b).trans hr ▸ nofun)
      (by rw [hk2.sig]; exact hf)
  clear_value d3
  have hw6 : CanWork [] [Adr.canFlags c, Adr.canLostcnt c] d3 d6 := by
    have h4 : CanWork [] [Adr.canFlags c, Adr.canLostcnt c] d3 d4 := .ite ((CanWork.refl d3).orReg (by simp) _) (.refl d3)
    have h5 : CanWork [] [Adr.canFlags c, Adr.canLostcnt c] d3 d5 := .ite (h4.incReg (by simp)) h4
    exact .ite (h5.stored ((Stored.refl d5).setSig _ _)) h5
  have hf6 : FlagsStay c d3 d6 := by
    have h4 : FlagsStay c d3 d4 := .ite (flagsStay_orReg d3 c 4) fun _ h => h
    have h5 : CanWork [] [Adr.canLostcnt c] d4 d5 := .ite ((CanWork.refl d4).incReg (by simp)) (.refl d4)
    have h6 : CanWork [] [Adr.canLostcnt c] d4 d6 := .ite (h5.stored ((Stored.refl d5).setSig _ _)) h5
    exact h4.trans (h6.flagsStay hc (by simp [Adr.canFlags, Adr.canLostcnt]))
  have hk6 : lost = false → KeepsSig b d3 d6 := by
    intro hl
    have h4 : KeepsSig b d3 d4 := .ite ((KeepsSig.refl d3).orReg (canFlags_place c) _) (.refl d3)
    have h5 : KeepsSig b d3 d5 := .ite (h4.incReg (canLostcnt_place c)) h4
    unfold d6
    rw [hl, if_neg nofun]
    exact h5
  clear_value d6
  have hc6 : d6.can c = d.can c := (hw6.can c List.not_mem_nil).trans (hw3.can c List.not_mem_nil)
  have hy : y = (d.can c).obj o := congrArg (fun x : Can => x.obj o) hc6
  have hw7 : CanWork [c] [] d6 d7 := (CanWork.refl d6).setCan (List.mem_singleton_self c) _
  have hc7 : d7.can c = (d6.can c).setObj o { y with count := count, lastRx := d6.now, rxTimedOut := false } := can_setCan_self _ _ _
  have hk7 : KeepsSig b d6 d7 := (KeepsSig.refl d6).setCan _ _
  clear_value d7
  have hl8 : Logs (d7.incReg (Adr.canRxcnt c)) d8 := (Logs.refl _).countEvent _ _ _
  clear_value d8
  have hw9 : CanWork [] [Adr.canFlags c] d8 d9 := .ite (((CanWork.refl d8).orReg (by simp) _).event _ _ _) (.refl d8)
  have hf9 : FlagsStay c d8 d9 :=
    .ite ((flagsStay_orReg d8 c 8).trans (((CanWork.refl (C := []) (R := []) _).event _ _ _).flagsStay hc List.not_mem_nil)) fun _ h => h
  have hk9 : KeepsSig b d8 d9 := .ite (((KeepsSig.refl d8).orReg (canFlags_place c) _).logs ((Logs.refl _).event _ _ _)) (.refl d8)
  clear_value d9
  have hs10 : Sched (fun _ => True) d9 (d9.fireTriggers fun g => g == .canObject c o) := (Sched.refl d9).fireTriggers _
  generalize (d9.fireTriggers fun g => g == .canObject c o) = e at hs10 ⊢
  have hw : CanWork [] [Adr.canFlags c] d8 e := hw9.stored hs10.stored
  have hx8 (k : Nat) : d8.can k = d7.can k := ((CanWork.refl (C := []) (R := []) _).logs hl8).can k List.not_mem_nil
  refine ⟨{ y with count := count, lastRx := d6.now, rxTimedOut := false }, ?_,
    (hw.can c List.not_mem_nil).trans ((hx8 c).trans (hc7.trans (congrArg (fun x : Can => x.setObj o _) hc6))), rfl,
    by show y.locked = _; rw [hy], by show y.shadow = _; rw [hy], ?_, ?_, fun hl hr hf => ?_⟩
  · have h7 : CanWork [c] [Adr.canFlags c, Adr.canLostcnt c, Adr.canRxcnt c] d d7 :=
      ((hw3.trans hw6).mono (by simp) (by simp)).trans (hw7.mono (by simp) (by simp))
    exact ((h7.incReg (by simp)).logs hl8).trans (hw.mono (by simp) (by simp))
  · rw [hw.reg _ (canRxcnt_range hc) (by simp [Adr.canRxcnt, Adr.canFlags]), hl8.reg _ (canRxcnt_unlogged hc), reg_incReg_self,
      hw7.reg _ (canRxcnt_range hc) List.not_mem_nil,
      (hw3.trans hw6).reg _ (canRxcnt_range hc) (by simp [Adr.canRxcnt, Adr.canFlags, Adr.canLostcnt])]
  · have h3 : FlagsStay c d d3 := ((CanWork.refl (C := []) (R := []) d).stored hs3).flagsStay hc List.not_mem_nil
    have h7 : FlagsStay c d6 d7 := hw7.flagsStay hc List.not_mem_nil
    have h8 : FlagsStay c d7 d8 := (((CanWork.refl (C := []) (R := [Adr.canRxcnt c]) d7).incReg (by simp)).logs hl8).flagsStay hc
      (by simp [Adr.canRxcnt, Adr.canFlags])
    have h10 : FlagsStay c d9 e := ((CanWork.refl (C := []) (R := []) d9).stored hs10.stored).flagsStay hc List.not_mem_nil
    exact ((((h3.trans hf6).trans h7).trans h8).trans hf9).trans h10
  · obtain ⟨hv, hq⟩ := hb3 hr hf
    have hk : KeepsSig b d3 e :=
      ((((hk6 hl).trans hk7).trans (((KeepsSig.refl d7).incReg (canRxcnt_place c)).logs hl8)).trans hk9).sched hs10
    exact ⟨by rw [hk.sig]; exact hq, (congrArg Sig.value hk.sig).trans hv⟩

end Receive

end Sys2Proof.Proofs
end

section
/-! SUPPORT. A frame received, a lock released (R337, R340, R341), and the ends of an attempt to transmit (R344–R347). -/

namespace Sys2Proof.Proofs

open Sys2Proof.Machine Sys2Proof.Safety

section Receive

variable {d e : Dev} {c o : Nat} {f : CanFrame}

/-- A frame that the controller takes for one of its objects. -/
theorem canReceive_taken (hf : f.fdf = true → (d.reg (Adr.canCtrl c)).getLsbD 4 = true) (hr : f.remote = false)
    (hm : d.canMatch c f = some o) : ∃ e, e = d.canGoodReceive c ∧ d.canReceive c f =
      if ((d.can c).obj o).locked then
        let x := (d.can c).obj o
        let e1 := e.setCan c ((e.can c).setObj o { x with
          shadow := some { frame := f, sofFrame := d.sys.frame - wordOfNat f.sofAge }, shadowLost := x.shadowLost || x.shadow.isSome })
        if x.shadow.isSome then (e1.incReg (Adr.canLostcnt c)).orReg (Adr.canFlags c) 4 else e1
      else e.canDeliver c o f (d.sys.frame - wordOfNat f.sofAge) false := by
  obtain ⟨hregs, _, _, hframe, hobjs⟩ := canGoodReceive_keeps d c
  have hfd : ¬(f.fdf && !bit (d.reg (Adr.canCtrl c)) 4) = true := by
    rw [Bool.and_eq_true, Bool.not_eq_true']
    exact fun ⟨h1, h2⟩ => nomatch (hf h1).symm.trans h2
  have hobj : ((d.canGoodReceive c).can c).obj o = (d.can c).obj o := by rw [Can.obj, hobjs]; rfl
  refine ⟨_, rfl, ?_⟩
  unfold Dev.canReceive
  rw [if_neg hfd]
  dsimp only
  rw [hr, if_neg nofun, canMatch_of_regs hregs, hm]
  dsimp only
  rw [hobj, hframe]

/-- A frame that no object takes. -/
theorem canReceive_unmatched (hf : f.fdf = true → (d.reg (Adr.canCtrl c)).getLsbD 4 = true)
    (h : f.remote = true ∨ d.canMatch c f = none) : d.canReceive c f = (d.canGoodReceive c).incReg (Adr.canRxunm c) := by
  have hfd : ¬(f.fdf && !bit (d.reg (Adr.canCtrl c)) 4) = true := by
    rw [Bool.and_eq_true, Bool.not_eq_true']
    exact fun ⟨h1, h2⟩ => nomatch (hf h1).symm.trans h2
  have hn : (if f.remote then none else (d.canGoodReceive c).canMatch c f) = none := by
    rw [canMatch_of_regs (canGoodReceive_keeps d c).1]
    obtain h | h := h
    · exact if_pos h
    · rw [h, ite_self]
  unfold Dev.canReceive
  rw [if_neg hfd]
  dsimp only
  rw [hn]

/-- An FD frame that the controller may not receive is an error frame. -/
theorem canReceive_fd (hf : f.fdf = true) (h : (d.reg (Adr.canCtrl c)).getLsbD 4 = false) :
    d.canReceive c f = d.canReceiveError c .detected :=
  if_pos ((Bool.and_eq_true ..).mpr ⟨hf, (Bool.not_eq_true' _).mpr h⟩)

theorem reg_of_same (h : e.regs = d.regs) (a : Nat) : e.reg a = d.reg a := by unfold Dev.reg; rw [h]

theorem canRoom_of_regs (h : e.regs = d.regs) (c o : Nat) : e.canRoom c o = d.canRoom c o := by
  unfold Dev.canRoom Dev.canDouble
  rw [reg_of_same h, reg_of_same h]

/-- A lock released: the object is free and no frame waits behind it. -/
theorem canRelease_free (d : Dev) (hc : c < 4) (ho : o < 256) : (((d.canRelease c o).can c).obj o).locked = false ∧
    (((d.canRelease c o).can c).obj o).shadow = none ∧ FlagsStay c d (d.canRelease c o) := by
  unfold Dev.canRelease
  extract_lets x e
  have he : (e.can c).obj o = { x with locked := false, shadow := none, shadowLost := false } :=
    (congrArg (fun z : Can => z.obj o) (can_setCan_self d c _)).trans (obj_setObj_self _ _ _)
  split
  next f _ =>
    obtain ⟨y, _, hcan, _, hl, hs, _, hflags, _⟩ := canDeliver_outcome e hc ho f.frame f.sofFrame x.shadowLost
    rw [hcan, obj_setObj_self, hl, hs, he]
    exact ⟨rfl, rfl, fun i hi => hflags i hi⟩
  · rw [he]
    exact ⟨rfl, rfl, fun _ hi => hi⟩

end Receive

section Transmit

/-- What holds of the default and of every entry holds of what is read. -/
theorem smGet_of {α : Type} {P : α → Prop} {dflt : α} (h0 : P dflt) {m : SMap α} (h : ∀ p ∈ m, P p.2) (n : Nat) : P (smGet dflt m n) := by
  induction m with
  | nil => exact h0
  | cons p m ih =>
    change P (if n = p.1 then p.2 else smGet dflt m n)
    split
    · exact h p (List.mem_cons_self ..)
    · exact ih fun q hq => h q (List.mem_cons_of_mem p hq)

variable {d e : Dev} {c o : Nat}

/-- The error counters and bus-off of a controller. -/
def counts (x : Can) : Nat × Nat × Bool := (x.tec, x.recCnt, x.busOff)

@[simp] theorem counts_unkeep (x : Can) (o : Nat) : counts (x.unkeep o) = counts x := by
  unfold Can.unkeep
  split <;> rfl

/-- An object set, and its status with it. -/
theorem setObj_status (d : Dev) (c o code n : Nat) (x : Can) (y : CanObj) :
    CanWork [c] [] d ((d.setCan c (x.setObj o y)).canTxStatus c o code n) ∧
      ((d.setCan c (x.setObj o y)).canTxStatus c o code n).can c = x.setObj o y :=
  ⟨((CanWork.refl d).setCan (List.mem_singleton_self c) _).stored (stored_canTxStatus _ _ _ _ _),
    ((stored_canTxStatus _ _ _ _ _).can c).trans (can_setCan_self _ _ _)⟩

/-- A request made pending. -/
theorem canSubmit_outcome (d : Dev) (c o : Nat) (h : Word) (data : List Word) (at' : Nat) : CanWork [c] [] d (d.canSubmit c o h data at') ∧
    counts ((d.canSubmit c o h data at').can c) = counts (d.can c) ∧ ((d.canSubmit c o h data at').can c).obj o =
      { (d.can c).obj o with pending := true, onBus := false, header := h, data := data, attempts := 0, reqOp := at', next := none } := by
  unfold Dev.canSubmit
  extract_lets x e
  have hs := setObj_status d c o 1 0 ((d.can c).unkeep o)
    { x with pending := true, onBus := false, header := h, data := data, attempts := 0, reqOp := at', next := none }
  obtain ⟨hw, hc⟩ := hs
  refine ⟨hw, ?_, ?_⟩
  · rw [hc]
    exact counts_unkeep _ _
  · rw [hc, obj_setObj_self]

/-- An attempt that fails leaves the counters. -/
theorem canAttemptFailed_work (d : Dev) (c o : Nat) : CanWork [c] [Adr.canFlags c] d (d.canAttemptFailed c o) ∧
    counts ((d.canAttemptFailed c o).can c) = counts (d.can c) := by
  unfold Dev.canAttemptFailed
  extract_lets x retry e1 e2
  split
  next h data t _ =>
    have hs := stored_canTxStatus d c o 8 x.attempts
    obtain ⟨hw, hc, _⟩ := canSubmit_outcome (d.canTxStatus c o 8 x.attempts) c o h data t
    exact ⟨((CanWork.refl d).stored hs).trans (hw.mono (fun _ h => h) (by simp)), hc.trans (by rw [hs.can])⟩
  · split
    · obtain ⟨hw, hc⟩ := setObj_status d c o 6 x.attempts (d.can c) { x with pending := false, onBus := false }
      have h6 : CanWork [] [Adr.canFlags c] (e1.canTxStatus c o 6 x.attempts) _ :=
        ((CanWork.refl _).orReg (List.mem_singleton_self _) 0x10).eventRep 0x580A (canSubj c o) []
      exact ⟨(hw.mono (fun _ h => h) (by simp)).trans (h6.mono (by simp) fun _ h => h), by rw [h6.can c List.not_mem_nil, hc]; rfl⟩
    · obtain ⟨hw, hc⟩ := setObj_status d c o 1 x.attempts (d.can c) { x with pending := true, onBus := false }
      exact ⟨hw.mono (fun _ h => h) (by simp), by rw [hc]; rfl⟩

/-- Within its limit of retries, a request whose attempt failed is pending again. -/
theorem canAttemptFailed_again (hn : ((d.can c).obj o).next = none)
    (h : fld (d.canCfg c o) 8 8 = 0 ∨ ((d.can c).obj o).attempts ≤ fld (d.canCfg c o) 8 8) :
    (((d.canAttemptFailed c o).can c).obj o).onBus = false ∧ (((d.canAttemptFailed c o).can c).obj o).pending = true := by
  unfold Dev.canAttemptFailed
  extract_lets x retry e1 e2
  split
  next hx => exact nomatch hn.symm.trans hx
  · have h : retry = 0 ∨ x.attempts ≤ retry := h
    rw [if_neg (by rw [Bool.and_eq_true, decide_eq_true_eq, decide_eq_true_eq]; omega),
      (setObj_status d c o 1 x.attempts (d.can c) _).2, obj_setObj_self]
    exact ⟨rfl, rfl⟩

/-- Past its limit it is dropped, which is flagged. -/
theorem canAttemptFailed_dropped (hc : c < 4) (hn : ((d.can c).obj o).next = none) (h0 : fld (d.canCfg c o) 8 8 ≠ 0)
    (h : fld (d.canCfg c o) 8 8 < ((d.can c).obj o).attempts) :
    (((d.canAttemptFailed c o).can c).obj o).onBus = false ∧ (((d.canAttemptFailed c o).can c).obj o).pending = false ∧
      ((d.canAttemptFailed c o).reg (Adr.canFlags c)).getLsbD 4 = true := by
  unfold Dev.canAttemptFailed
  extract_lets x retry e1 e2
  split
  next hx => exact nomatch hn.symm.trans hx
  · have h0 : retry ≠ 0 := h0
    have h : retry < x.attempts := h
    rw [if_pos (by rw [Bool.and_eq_true, decide_eq_true_eq, decide_eq_true_eq]; omega)]
    have hl : CanWork [] [] ((e1.canTxStatus c o 6 x.attempts).orReg (Adr.canFlags c) 0x10) _ :=
      (CanWork.refl _).eventRep 0x580A (canSubj c o) []
    have hcan := (hl.can c List.not_mem_nil).trans
      (setObj_status d c o 6 x.attempts (d.can c) { x with pending := false, onBus := false }).2
    rw [hcan, obj_setObj_self, hl.reg _ (canFlags_range hc) List.not_mem_nil, reg_orReg_self, BitVec.getLsbD_or]
    exact ⟨rfl, rfl, Bool.or_true _⟩

/-- A request written meanwhile takes the place of the one whose attempt failed. -/
theorem canAttemptFailed_next {h : Word} {data : List Word} {t : Nat} (hn : ((d.can c).obj o).next = some (h, data, t)) :
    ((d.canAttemptFailed c o).can c).obj o =
      { (d.can c).obj o with pending := true, onBus := false, header := h, data := data, attempts := 0, reqOp := t, next := none } := by
  unfold Dev.canAttemptFailed
  extract_lets x retry e1 e2
  split
  next hx =>
    obtain ⟨rfl, rfl, rfl⟩ := (by simpa using hn.symm.trans hx : h = _ ∧ data = _ ∧ t = _)
    obtain ⟨_, _, ho⟩ := canSubmit_outcome (d.canTxStatus c o 8 x.attempts) c o h data t
    rw [ho, (stored_canTxStatus _ _ _ _ _).can]
  next hx => exact nomatch hn.symm.trans hx

/-- Bus-off: the counter shows 256, and the occurrence is counted. -/
theorem canBusOff_outcome (hc : c < 4) (d : Dev) : ((d.canBusOff c).can c).busOff = true ∧ ((d.canBusOff c).can c).tec = 256 ∧
    (d.canBusOff c).reg (Adr.canBoffcnt c) = satInc (d.reg (Adr.canBoffcnt c)) := by
  have hm : c ∈ [c] := List.mem_singleton_self c
  unfold Dev.canBusOff
  extract_lets x back d1 keep y d2 d3 d4
  have h2 : CanWork [c] [] d d2 := ((CanWork.refl d).setCan hm _).setCan hm _
  have hc2 : (d2.can c).tec = 256 ∧ (d2.can c).busOff = true := by
    have h1 : d1.can c = _ := can_setCan_self d c _
    rw [can_setCan_self, show y = d1.can c from rfl, h1]
    exact ⟨rfl, rfl⟩
  clear_value d2
  have h3 : CanWork [c] [] d2 d3 ∧ (d3.can c).tec = 256 ∧ (d3.can c).busOff = true := by
    refine List.foldlRecOn (motive := fun e : Dev => CanWork [c] [] d2 e ∧ (e.can c).tec = 256 ∧ (e.can c).busOff = true) _ _
      ⟨.refl d2, hc2⟩ fun e ⟨hw, ht, hb⟩ p _ => ?_
    split
    · exact ⟨hw, ht, hb⟩
    · obtain ⟨h1, h2, _⟩ := canCancel_can e c p.1
      exact ⟨hw.canCancel hm p.1, h1.trans ht, h2.trans hb⟩
  obtain ⟨hw3, ht3, hb3⟩ := h3
  clear_value d3
  have h4 : CanWork [] [] d3 d4 := (CanWork.refl d3).stored (stored_canClearReceive d3 c)
  clear_value d4
  have h6 : CanWork [] [Adr.canFlags c] (d4.incReg (Adr.canBoffcnt c))
      (((d4.incReg (Adr.canBoffcnt c)).orReg (Adr.canFlags c) 1).event 0x5801 (0x400 + c)) :=
    ((CanWork.refl _).orReg (List.mem_singleton_self _) 1).event 0x5801 (0x400 + c) []
  have hcan := (h6.can c List.not_mem_nil).trans (h4.can c List.not_mem_nil)
  rw [hcan, h6.reg _ (canBoffcnt_range hc) (by simp [Adr.canBoffcnt, Adr.canFlags]), reg_incReg_self,
    h4.reg _ (canBoffcnt_range hc) List.not_mem_nil, hw3.reg _ (canBoffcnt_range hc) List.not_mem_nil,
    h2.reg _ (canBoffcnt_range hc) List.not_mem_nil]
  exact ⟨hb3, ht3, rfl⟩

/-- A count above 255 is bus-off. -/
theorem canCounters_over (hc : c < 4) (d : Dev) {tec : Nat} (recv : Nat) (h : 255 < tec) : ((d.canCounters c tec recv).can c).busOff = true ∧
    ((d.canCounters c tec recv).can c).tec = 256 ∧
    (d.canCounters c tec recv).reg (Adr.canBoffcnt c) = satInc (d.reg (Adr.canBoffcnt c)) := by
  unfold Dev.canCounters
  extract_lets x was d1 d2
  rw [if_pos h]
  have h1 : CanWork [c] [Adr.canFlags c] d d1 := (CanWork.refl d).setCan (List.mem_singleton_self c) _
  have h2 : CanWork [c] [Adr.canFlags c] d1 d2 := .ite (((CanWork.refl d1).orReg (List.mem_singleton_self _) 2).event _ _ _) (.refl d1)
  obtain ⟨hb, ht, hr⟩ := canBusOff_outcome hc d2
  exact ⟨hb, ht, hr.trans (by rw [(h1.trans h2).reg _ (canBoffcnt_range hc) (by simp [Adr.canBoffcnt, Adr.canFlags])])⟩

/-- The failed attempt of an error, counted. -/
theorem canAttemptError_work (d : Dev) (c o : Nat) :
    CanWork [c] [Adr.canErrfrm c, Adr.canFlags c] d ((d.incReg (Adr.canErrfrm c)).canAttemptFailed c o) ∧
      counts (((d.incReg (Adr.canErrfrm c)).canAttemptFailed c o).can c) = counts (d.can c) := by
  obtain ⟨hw, hc⟩ := canAttemptFailed_work (d.incReg (Adr.canErrfrm c)) c o
  exact ⟨((CanWork.refl d).incReg (by simp)).trans (hw.mono (fun _ h => h) (by simp)), hc⟩

/-- The retry limit of an object is read before the count of error frames moves. -/
theorem canCfg_incErrfrm (d : Dev) (c o : Nat) : (d.incReg (Adr.canErrfrm c)).canCfg c o = d.canCfg c o :=
  reg_incReg_other d (by unfold Adr.canObjcfg Adr.canErrfrm; omega)

/-- A transmitter's error short of bus-off moves TEC, but in restricted operation, and leaves the objects. -/
theorem canTransmitError_short (d : Dev) (c : Nat) {tec recv times : Nat} (h : d.canRestricted c = true ∨ tec + 8 * times ≤ 255) :
    ((d.canTransmitError c tec recv times).can c).objs = (d.can c).objs ∧
      ((d.canTransmitError c tec recv times).can c).tec = if d.canRestricted c then (d.can c).tec else tec + 8 * times := by
  unfold Dev.canTransmitError
  split
  · exact ⟨rfl, rfl⟩
  next hn =>
    obtain ⟨_, hcan, _⟩ := canCounters_short d c recv (h.resolve_left hn)
    rw [hcan]
    exact ⟨rfl, rfl⟩

/-- An error within the limit of retries: the request is pending again and TEC advances by 8 for each increment, but in restricted
operation. -/
theorem canAttemptError_again (hc : c < 4) {times : Nat} (hn : ((d.can c).obj o).next = none)
    (ht : fld (d.canCfg c o) 8 8 = 0 ∨ ((d.can c).obj o).attempts ≤ fld (d.canCfg c o) 8 8)
    (h : d.canRestricted c = true ∨ (d.can c).tec + 8 * times ≤ 255) :
    let e := ((d.incReg (Adr.canErrfrm c)).canAttemptFailed c o).canTransmitError c (d.can c).tec (d.can c).recCnt times
    ((e.can c).obj o).onBus = false ∧ ((e.can c).obj o).pending = true ∧
      (e.can c).tec = if d.canRestricted c then (d.can c).tec else (d.can c).tec + 8 * times := by
  intro e
  obtain ⟨hw, hcnt⟩ := canAttemptError_work d c o
  have hres := hw.canRestricted hc (by simp [Adr.canCtrl, Adr.canErrfrm, Adr.canFlags])
  obtain ⟨ho, htec⟩ := canTransmitError_short ((d.incReg (Adr.canErrfrm c)).canAttemptFailed c o) c (recv := (d.can c).recCnt)
    (hres ▸ h)
  obtain ⟨hb, hp⟩ := canAttemptFailed_again (d := d.incReg (Adr.canErrfrm c)) (c := c) (o := o) hn (canCfg_incErrfrm d c o ▸ ht)
  have hobj : (e.can c).obj o = (((d.incReg (Adr.canErrfrm c)).canAttemptFailed c o).can c).obj o := by
    rw [Can.obj, ho]
    rfl
  rw [hobj, htec, hres, (Prod.mk.inj hcnt).1]
  exact ⟨hb, hp, rfl⟩

/-- An attempt that was sent: the object's request is over, TEC falls, and the success is counted. -/
theorem canAttemptSent_outcome (hc : c < 4) (d : Dev) (o : Nat) : ∃ e : Dev,
    (d.canAttemptSent c o = match ((d.can c).obj o).next with
      | some (h, data, t) => e.canSubmit c o h data t
      | none => e) ∧
      (e.can c).obj o = { (d.can c).obj o with pending := false, onBus := false, next := none } ∧
      (e.can c).tec = (if d.canRestricted c then (d.can c).tec else (d.can c).tec - 1) ∧
      e.reg (Adr.canTxcnt c) = satInc (d.reg (Adr.canTxcnt c)) := by
  unfold Dev.canAttemptSent
  extract_lets x d1 d2 y2 d3
  refine ⟨d3, rfl, ?_⟩
  have h1 : CanWork [c] [] d d1 := (CanWork.refl d).setCan (List.mem_singleton_self c) _
  have hc1 : d1.can c = (d.can c).setObj o { x with pending := false, onBus := false, next := none } := can_setCan_self d c _
  have hs := stored_canTxStatus d1 c o 3 x.attempts
  have h2 : CanWork [c] [Adr.canTxcnt c] d d2 :=
    ((h1.mono (fun _ h => h) (by simp)).stored hs).incReg (List.mem_singleton_self _)
  have hc2 : d2.can c = d1.can c := hs.can c
  have hr2 : d2.reg (Adr.canTxcnt c) = satInc (d.reg (Adr.canTxcnt c)) :=
    (reg_incReg_self _ _).trans (by rw [((CanWork.refl (C := []) (R := []) d1).stored hs).reg _ (canTxcnt_range hc) List.not_mem_nil]; rfl)
  have hres : d2.canRestricted c = d.canRestricted c := h2.canRestricted hc (by simp [Adr.canCtrl, Adr.canTxcnt])
  clear_value d2
  have ho2 : (d2.can c).obj o = { x with pending := false, onBus := false, next := none } := by rw [hc2, hc1, obj_setObj_self]
  have ht2 : (d2.can c).tec = (d.can c).tec := by rw [hc2, hc1]; rfl
  unfold d3
  rw [← hres]
  split
  · exact ⟨ho2, ht2, hr2⟩
  · rw [can_setCan_self]
    exact ⟨ho2, congrArg (· - 1) ht2, hr2⟩

/-- With no request pending none expires, and none wins. -/
theorem canAttempt_idle (h : ∀ p ∈ (d.can c).objs, p.2.pending = false) : d.canAttempt c = d := by
  have hexp : d.canExpire c = d := by
    unfold Dev.canExpire
    refine List.foldlRecOn (motive := (· = d)) _ _ rfl fun e he p hp => ?_
    subst he
    dsimp only
    rw [if_neg (by rw [h p hp]; nofun)]
  have hwin : d.canWinner c = none := by
    unfold Dev.canWinner
    rw [List.filter_eq_nil_iff.mpr fun p hp => Bool.eq_false_iff.mp (h p hp)]
    rfl
  have hobj (o : Nat) : ((d.can c).obj o).pending = false :=
    smGet_of (P := fun x : CanObj => x.pending = false) rfl h o
  unfold Dev.canAttempt Dev.canNext
  rw [hexp]
  dsimp only
  split
  · rfl
  next o hn =>
    split at hn
    · rw [if_neg (by rw [hobj]; nofun), hwin] at hn
      cases hn
    · rw [hwin] at hn
      cases hn

/-- The request that wins goes onto the bus. -/
theorem canAttempt_starts (h : (d.canExpire c).canNext c = some o) : ((d.canAttempt c).can c).kept = none ∧
    ((d.canAttempt c).can c).obj o = { ((d.canExpire c).can c).obj o with
      pending := false, onBus := true, attempts := (((d.canExpire c).can c).obj o).attempts + 1 } := by
  unfold Dev.canAttempt
  dsimp only
  rw [h]
  dsimp only
  rw [(stored_canTxStatus _ _ _ _ _).can, can_setCan_self]
  exact ⟨rfl, obj_setObj_self _ _ _⟩

end Transmit

end Sys2Proof.Proofs
end

section
/-! OBLIGATION O56. The traffic of a CAN controller: reception, locks and timeouts, and the attempts to transmit. -/

namespace Sys2Proof.Proofs

open Sys2Proof.Machine Sys2Proof.Safety

section Execution

variable {s : State} {can : CanId} {object : Fin 256} {f : CanFrame} {r : CanAttemptResult}

theorem exec_canFrameReceived (h : s.dev.canOn can.val = true) (hb : (s.dev.can can.val).busOff = false) :
    exec (.canFrameReceived can f) s = .next { s with dev := s.dev.canReceive can.val f } :=
  if_pos (by rw [h, hb]; rfl)

theorem exec_canAttemptEnd {o : Nat} {y : CanObj} (h : (s.dev.can can.val).objs.find? (fun p => p.2.onBus) = some (o, y)) :
    exec (.canAttemptEnd can r) s = .next { s with dev := s.dev.canAttemptEnd can.val o r } := by
  show execCanAttemptEnd can r s = _
  unfold execCanAttemptEnd
  rw [h]

/-- An attempt may begin. -/
theorem attempt_iff (d : Dev) (c : Nat) :
    (d.canOn c && !d.canRestricted c && !(d.can c).busOff && !((d.can c).objs.any fun p => p.2.onBus)) = true ↔
      d.canOn c = true ∧ d.canRestricted c = false ∧ (d.can c).busOff = false ∧ ∀ p ∈ (d.can c).objs, p.2.onBus = false := by
  rw [Bool.and_eq_true, Bool.and_eq_true, Bool.and_eq_true, Bool.not_eq_true', Bool.not_eq_true', Bool.not_eq_true', and_assoc, and_assoc,
    List.any_eq_false]
  simp

theorem rxTimeout_iff (d : Dev) (c o rxto : Nat) :
    (d.canOn c && d.canReceives c o && 0 < rxto && ((d.can c).obj o).lastRx + rxto ≤ d.now && !((d.can c).obj o).rxTimedOut) = true ↔
      d.canOn c = true ∧ d.canReceives c o = true ∧ 0 < rxto ∧ ((d.can c).obj o).lastRx + rxto ≤ d.now ∧
        ((d.can c).obj o).rxTimedOut = false := by
  simp [and_assoc]

/-- A receive timeout makes the header STALE, which is flagged. -/
theorem rxTimeout_outcome {d d1 : Dev} {c o : Nat} (hc : c < 4) (ho : o < 256) (hr : d.region (canSig c o) = .can)
    (hk : KeepsSig (canSig c o) d d1) (ht : ((d1.can c).obj o).rxTimedOut = true) :
    let e := ((d1.sigQuality (canSig c o) true false).orReg (Adr.canFlags c) 0x40).eventRep 0x580D (canSubj c o)
    ((e.can c).obj o).rxTimedOut = true ∧ (e.sig (canSig c o)).q.getLsbD 1 = true ∧ e.sigVal (canSig c o) = d.sigVal (canSig c o) ∧
      (e.reg (Adr.canFlags c)).getLsbD 6 = true := by
  obtain ⟨hv, hq⟩ := sigQuality_stale d1 (canSig c o)
  have hs : Stored d1 (d1.sigQuality (canSig c o) true false) := (Stored.refl d1).sigQuality _ _ _
  have hq := hq ((hk.places.sigExists _).trans (canSig_exists d hc ho).1) (by rw [hk.places.region, hr]; nofun)
  generalize d1.sigQuality (canSig c o) true false = d2 at hv hs hq ⊢
  intro e
  have hl : Logs (d2.orReg (Adr.canFlags c) 0x40) e := (Logs.refl _).eventRep _ _ _
  have hk2 : KeepsSig (canSig c o) d2 e := ((KeepsSig.refl d2).orReg (canFlags_place c) _).logs hl
  have hw : CanWork [] [] (d2.orReg (Adr.canFlags c) 0x40) e := (CanWork.refl _).logs hl
  refine ⟨?_, by rw [hk2.sig]; exact hq, ?_, ?_⟩
  · rw [hw.can c List.not_mem_nil, show (d2.orReg (Adr.canFlags c) 0x40).can c = d2.can c from rfl, hs.can]
    exact ht
  · exact (congrArg Sig.value hk2.sig).trans (hv.trans (congrArg Sig.value hk.sig))
  · rw [hw.reg _ (canFlags_range hc) List.not_mem_nil, reg_orReg_self, BitVec.getLsbD_or]
    exact Bool.or_true _

theorem canReceiveError_detected (d : Dev) (c : Nat) : d.canReceiveError c .detected =
    if (d.incReg (Adr.canErrfrm c)).canRestricted c then d.incReg (Adr.canErrfrm c)
    else (d.incReg (Adr.canErrfrm c)).canCounters c (d.can c).tec ((d.can c).recCnt + 1) := rfl

theorem canAttemptEnd_ackPassive (d : Dev) (c o : Nat) : d.canAttemptEnd c o .ackPassive =
    if (decide ((d.can c).tec ≥ 128) || decide ((d.can c).recCnt ≥ 128)) = true then (d.incReg (Adr.canErrfrm c)).canAttemptFailed c o
    else ((d.incReg (Adr.canErrfrm c)).canAttemptFailed c o).canTransmitError c (d.can c).tec (d.can c).recCnt := rfl

end Execution

/-- Settles O56. -/
theorem canTraffic : Obligations.CanTraffic := by
  intro s can object f d c o x y b got room words listens takes rxto idleBus sending tries
  have hc : c < 4 := can.isLt
  have ho : o < 256 := object.isLt
  refine ⟨fun hl ht hlen hlk hr hf => ?_, fun hl ht hlk hs => ?_, fun hl ht hlk hs => ?_, fun hon hb hfd h4 htec => ?_, fun hl h => ?_,
    fun h => if_neg ?_, fun hlk h16 => ?_, fun h => if_neg ?_, fun hon hrx h0 hlast hto hr => ?_, fun h => ?_, fun h => if_neg ?_,
    fun h hp => ?_, fun h hn => ?_, fun h r => ?_, fun h => ?_, fun h ht => ⟨?_, fun h8 => ?_, fun more h8 => ?_, ?_, fun h8 => ?_,
    fun hres h1 h2 => ?_⟩, fun h hres hover => ?_, fun hd data asked hfind hnext r hr => ?_, fun h h0 ht => ?_⟩
  · obtain ⟨hon, hb, hfd⟩ := hl
    obtain ⟨e, rfl, hx⟩ := canReceive_taken hfd ht.1 ht.2
    obtain ⟨hregs, hsigs, himage, _, hobjs⟩ := canGoodReceive_keeps d c
    refine answers_next (exec_canFrameReceived hon hb) ?_
    rw [hx, if_neg (Bool.eq_false_iff.mp hlk)]
    have hobj : ((d.canGoodReceive c).can c).obj o = y := by rw [Can.obj, hobjs]; rfl
    have hk : KeepsSig b d (d.canGoodReceive c) := .of_sigs ⟨himage, fun a _ => reg_of_same hregs a⟩ hsigs
    have hroom : (d.canGoodReceive c).canRoom c o = room := canRoom_of_regs hregs c o
    have hrx := reg_of_same hregs (Adr.canRxcnt c)
    generalize d.canGoodReceive c = e at hobj hk hroom hrx ⊢
    obtain ⟨z, _, hcan, hcount, _, _, hreg, _, hsig⟩ := canDeliver_outcome e hc ho f (d.sys.frame - wordOfNat f.sofAge) false
    obtain ⟨hq, hv⟩ := hsig rfl ((hk.places.region b).trans hr) (by rw [hk.sig]; exact hf)
    have hw : 1 + ((if f.data.length ≤ room then f.data.length else room) + 3) / 4 = 1 + words := by
      unfold words
      split <;> omega
    rw [hcan, obj_setObj_self, hcount, hobj, hreg, hrx, hv, hroom, hobj, hw]
    have hl : 1 + words < 32 := by omega
    obtain ⟨h1, h2⟩ := deliveryHeader_fields (f := f) (room := room) (count := (y.count + 1) % 256) hlen hl
    exact ⟨rfl, rfl, hq, h1.trans (Nat.mod_eq_of_lt hl).symm, h2⟩
  · obtain ⟨hon, hb, hfd⟩ := hl
    obtain ⟨e, rfl, hx⟩ := canReceive_taken hfd ht.1 ht.2
    refine answers_next (exec_canFrameReceived hon hb) ?_
    rw [hx, if_pos hlk]
    dsimp only
    rw [if_neg (by rw [show ((d.can c).obj o).shadow = none from hs]; nofun), can_setCan_self, obj_setObj_self]
    exact ⟨rfl, hlk, (canGoodReceive_keeps d c).2.1⟩
  · obtain ⟨hon, hb, hfd⟩ := hl
    obtain ⟨e, rfl, hx⟩ := canReceive_taken hfd ht.1 ht.2
    obtain ⟨hregs, hsigs, _⟩ := canGoodReceive_keeps d c
    have hfull : ((d.can c).obj o).shadow.isSome = true := Option.isSome_iff_ne_none.mpr hs
    refine answers_next (exec_canFrameReceived hon hb) ?_
    rw [hx, if_pos hlk]
    dsimp only
    rw [if_pos hfull, hfull, Bool.or_true]
    generalize d.canGoodReceive c = e at hregs hsigs ⊢
    have hw : CanWork [] [Adr.canFlags c] ((e.setCan c ((e.can c).setObj o { (d.can c).obj o with
        shadow := some { frame := f, sofFrame := d.sys.frame - wordOfNat f.sofAge }, shadowLost := true })).incReg (Adr.canLostcnt c)) _ :=
      (CanWork.refl _).orReg (List.mem_singleton_self _) 4
    rw [hw.can c List.not_mem_nil, hw.reg _ (canLostcnt_range hc) (by simp [Adr.canLostcnt, Adr.canFlags]), reg_incReg_self]
    have hobj := obj_setObj_self (e.can c) o { (d.can c).obj o with
      shadow := some { frame := f, sofFrame := d.sys.frame - wordOfNat f.sofAge }, shadowLost := true }
    have hcan := can_setCan_self e c ((e.can c).setObj o { (d.can c).obj o with
      shadow := some { frame := f, sofFrame := d.sys.frame - wordOfNat f.sofAge }, shadowLost := true })
    refine ⟨?_, ?_, congrArg satInc (reg_of_same hregs _), hsigs⟩
    · exact congrArg CanObj.shadow ((congrArg (fun z : Can => z.obj o) hcan).trans hobj)
    · exact congrArg CanObj.shadowLost ((congrArg (fun z : Can => z.obj o) hcan).trans hobj)
  · refine answers_next (exec_canFrameReceived hon hb) ?_
    rw [canReceive_fd hfd h4]
    have he : CanWork [] [Adr.canErrfrm c] d (d.incReg (Adr.canErrfrm c)) := (CanWork.refl d).incReg (List.mem_singleton_self _)
    have hres : (d.incReg (Adr.canErrfrm c)).canRestricted c = d.canRestricted c :=
      he.canRestricted hc (by simp [Adr.canCtrl, Adr.canErrfrm])
    by_cases hr : d.canRestricted c = true
    · have hx : d.canReceiveError c .detected = d.incReg (Adr.canErrfrm c) := (canReceiveError_detected d c).trans (if_pos (hres.trans hr))
      rw [hx, if_pos hr]
      exact ⟨reg_incReg_self _ _, rfl, rfl⟩
    · have hx : d.canReceiveError c .detected = (d.incReg (Adr.canErrfrm c)).canCounters c x.tec (x.recCnt + 1) :=
        (canReceiveError_detected d c).trans (if_neg (by rw [hres]; exact hr))
      obtain ⟨hw, hcan, hsigs⟩ := canCounters_short (d.incReg (Adr.canErrfrm c)) c (x.recCnt + 1) htec
      rw [hx, if_neg hr, hcan, hsigs, hw.reg _ (canErrfrm_range hc) (by simp [Adr.canErrfrm, Adr.canFlags]), reg_incReg_self]
      exact ⟨rfl, rfl, satNat_eq _ _⟩
  · obtain ⟨hon, hb, hfd⟩ := hl
    obtain ⟨hregs, hsigs, _⟩ := canGoodReceive_keeps d c
    refine answers_next (exec_canFrameReceived hon hb) ?_
    rw [canReceive_unmatched hfd h, reg_incReg_self, reg_of_same hregs]
    exact ⟨rfl, hsigs⟩
  · rw [Bool.and_eq_true, Bool.not_eq_true']
    exact fun ⟨h1, h2⟩ => h.elim (fun h => nomatch h1.symm.trans h) fun h => nomatch h2.symm.trans h
  · refine answers_next (if_pos (by rw [Bool.and_eq_true, decide_eq_true_eq]; exact ⟨hlk, h16⟩)) ?_
    have hl : CanWork [] [] (d.orReg (Adr.canFlags c) 0x20) ((d.orReg (Adr.canFlags c) 0x20).eventRep 0x5808 (canSubj c o)) :=
      (CanWork.refl _).eventRep _ _ _
    have hbit : (((d.orReg (Adr.canFlags c) 0x20).eventRep 0x5808 (canSubj c o)).reg (Adr.canFlags c)).getLsbD 5 = true := by
      rw [hl.reg _ (canFlags_range hc) List.not_mem_nil, reg_orReg_self, BitVec.getLsbD_or]
      exact Bool.or_true _
    obtain ⟨h1, h2, h3⟩ := canRelease_free ((d.orReg (Adr.canFlags c) 0x20).eventRep 0x5808 (canSubj c o)) hc ho
    exact ⟨h1, h2, h3 5 hbit⟩
  · rw [Bool.and_eq_true, decide_eq_true_eq]
    exact fun ⟨h1, h2⟩ => h.elim (fun h => nomatch h1.symm.trans h) fun h => Nat.not_le_of_lt h h2
  · refine answers_next (if_pos ((rxTimeout_iff d c o rxto).mpr ⟨hon, hrx, h0, hlast, hto⟩)) ?_
    refine rxTimeout_outcome hc ho hr ((KeepsSig.refl d).setCan _ _) ?_
    rw [can_setCan_self, obj_setObj_self]
  · refine if_neg fun hn => ?_
    obtain ⟨h1, h2, h3, h4, h5⟩ := (rxTimeout_iff d c o rxto).mp hn
    obtain h | h | h | h | h := h
    · exact nomatch h1.symm.trans h
    · exact nomatch h2.symm.trans h
    · exact h3.ne' h
    · exact Nat.not_le_of_lt h h4
    · exact nomatch h5.symm.trans h
  · exact mt (attempt_iff d c).mp h
  · have hx : exec (.canTransmitAttempt can) s = .next { s with dev := d.canAttempt c } := if_pos ((attempt_iff d c).mpr h)
    rw [canAttempt_idle hp] at hx
    exact hx
  · refine answers_next (if_pos ((attempt_iff d c).mpr h)) ?_
    obtain ⟨hk, hobj⟩ := canAttempt_starts hn
    rw [hobj]
    exact ⟨rfl, rfl, hk, rfl⟩
  · have hn : x.objs.find? (fun p => p.2.onBus) = none := List.find?_eq_none.mpr fun p hp => Bool.eq_false_iff.mp (h p hp)
    show execCanAttemptEnd can r s = _
    unfold execCanAttemptEnd
    rw [hn]
  · obtain ⟨hfind, hnext⟩ := h
    refine answers_next (exec_canAttemptEnd hfind) ?_
    obtain ⟨e, hx, hobj, htec, hreg⟩ := canAttemptSent_outcome hc d o
    have hx : d.canAttemptEnd c o .sent = e := hx.trans (by rw [show ((d.can c).obj o).next = none from hnext])
    rw [hx, hobj]
    exact ⟨rfl, rfl, htec, hreg⟩
  · obtain ⟨hfind, hnext⟩ := h
    refine answers_next (exec_canAttemptEnd hfind) ?_
    obtain ⟨h1, h2⟩ := canAttemptFailed_again hnext ht
    exact ⟨h1, h2, (Prod.mk.inj (canAttemptFailed_work d c o).2).1⟩
  · obtain ⟨hfind, hnext⟩ := h
    exact answers_next (exec_canAttemptEnd hfind) (canAttemptError_again hc hnext ht h8)
  · obtain ⟨hfind, hnext⟩ := h
    exact answers_next (exec_canAttemptEnd hfind) (canAttemptError_again hc hnext ht h8)
  · obtain ⟨hfind, hnext⟩ := h
    refine answers_next (exec_canAttemptEnd hfind) ?_
    obtain ⟨h1, h2⟩ := canAttemptFailed_again (d := d.incReg (Adr.canErrfrm c)) hnext (canCfg_incErrfrm d c o ▸ ht)
    exact ⟨h1, h2, (Prod.mk.inj (canAttemptError_work d c o).2).1⟩
  · obtain ⟨hfind, hnext⟩ := h
    refine answers_next (exec_canAttemptEnd hfind) ?_
    rw [canAttemptEnd_ackPassive]
    split
    · obtain ⟨h1, h2⟩ := canAttemptFailed_again (d := d.incReg (Adr.canErrfrm c)) hnext (canCfg_incErrfrm d c o ▸ ht)
      exact ⟨h1, h2, (Prod.mk.inj (canAttemptError_work d c o).2).1⟩
    next hp =>
      rw [Bool.or_eq_true, decide_eq_true_eq, decide_eq_true_eq] at hp
      have hres : d.canRestricted c = true := h8.resolve_right hp
      obtain ⟨h1, h2, h3⟩ := canAttemptError_again (times := 1) hc hnext ht (.inl hres)
      exact ⟨h1, h2, h3.trans (if_pos hres)⟩
  · obtain ⟨hfind, hnext⟩ := h
    refine answers_next (exec_canAttemptEnd hfind) ?_
    have hp : ¬(decide ((d.can c).tec ≥ 128) || decide ((d.can c).recCnt ≥ 128)) = true := by
      rw [Bool.or_eq_true, decide_eq_true_eq, decide_eq_true_eq]
      exact not_or.mpr ⟨Nat.not_le_of_lt h1, Nat.not_le_of_lt h2⟩
    have h8 : (d.can c).tec + 8 * 1 ≤ 255 := by
      have h1 : (d.can c).tec < 128 := h1
      omega
    rw [canAttemptEnd_ackPassive, if_neg hp]
    obtain ⟨h1, h2, h3⟩ := canAttemptError_again (times := 1) hc hnext ht (.inr h8)
    exact ⟨h1, h2, h3.trans (if_neg (Bool.eq_false_iff.mp hres))⟩
  · obtain ⟨hfind, hnext⟩ := h
    refine answers_next (exec_canAttemptEnd hfind) ?_
    obtain ⟨hw, _⟩ := canAttemptError_work d c o
    have hx : d.canAttemptEnd c o .error = ((d.incReg (Adr.canErrfrm c)).canAttemptFailed c o).canCounters c (x.tec + 8 * 1) x.recCnt :=
      if_neg (Bool.eq_false_iff.mp ((hw.canRestricted hc (by simp [Adr.canCtrl, Adr.canErrfrm, Adr.canFlags])).trans hres))
    obtain ⟨h1, h2, h3⟩ := canCounters_over hc ((d.incReg (Adr.canErrfrm c)).canAttemptFailed c o) x.recCnt
      (show 255 < x.tec + 8 * 1 from hover)
    rw [hx]
    exact ⟨h1, h2, h3.trans (congrArg satInc (hw.reg _ (canBoffcnt_range hc) (by simp [Adr.canBoffcnt, Adr.canErrfrm, Adr.canFlags])))⟩
  · refine answers_next (exec_canAttemptEnd hfind) ?_
    have hobj : ((d.canAttemptEnd c o r).can c).obj o =
        { y with pending := true, onBus := false, header := hd, data := data, attempts := 0, reqOp := asked, next := none } := by
      obtain rfl | rfl := hr
      · obtain ⟨e, hx, hobj, _, _⟩ := canAttemptSent_outcome hc d o
        have hx : d.canAttemptEnd c o .sent = e.canSubmit c o hd data asked :=
          hx.trans (by rw [show ((d.can c).obj o).next = some (hd, data, asked) from hnext])
        rw [hx, (canSubmit_outcome e c o hd data asked).2.2, hobj]
      · exact canAttemptFailed_next hnext
    rw [hobj]
    exact ⟨rfl, rfl, rfl, rfl, rfl, rfl⟩
  · obtain ⟨hfind, hnext⟩ := h
    exact answers_next (exec_canAttemptEnd hfind) (canAttemptFailed_dropped hc hnext h0 ht)

end Sys2Proof.Proofs
end

section
/-! OBLIGATION O57. The recorder: commits, repeat words, anchors, the clear key and the clear. -/

namespace Sys2Proof.Proofs

open Sys2Proof.Machine Sys2Proof.Safety

/-! ### What a record put in the queue leaves of the recorder -/

section Put

variable {d : Dev} {r r' : Recorder}

/-- What of the recorder no new record moves: how many the ring holds, the clears, the challenge, the refusals and the last anchor. -/
def unput (r : Recorder) : Nat × Word × Option (BitVec 128 × Nat × Word) × Nat × Option Nat × Option Nat :=
  (r.chaff.length, r.clears, r.challenge, r.tokenRefusals, r.lockedAt, r.lastAnchor)

theorem unput_repSatIf (r : Recorder) (sat : Bool) : unput (r.repSatIf sat) = unput r := by cases sat <;> rfl

theorem unput_countRepeat {x : Record} (h : r.countRepeat x = some r') : unput r' = unput r := by
  unfold Recorder.countRepeat at h
  split at h
  · obtain rfl := Option.some.inj h
    exact unput_repSatIf _ _
  · split at h
    next hc =>
      obtain rfl := Option.some.inj h
      rw [unput_repSatIf]
      exact congrArg (fun n => (n, (unput r).2)) (length_of_repeatIn hc)
    · split at h
      · obtain rfl := Option.some.inj h
        exact unput_repSatIf _ _
      · cases h

theorem unput_putRecord (d : Dev) (rtype code subj : Nat) (rep : Bool) (payload : List Byte) :
    unput (d.putRecord rtype code subj rep payload).recorder = unput d.recorder := by
  unfold Dev.putRecord
  extract_lets x
  split
  next r' h =>
    split at h
    · exact unput_countRepeat h
    · cases h
  · split
    · exact (congrArg unput (stage_recorder _ x)).trans rfl
    · rfl

/-- The anchor of an accepted command, stored as a record. -/
theorem putRecord_anchor (d : Dev) (payload : List Byte) :
    (({ d with recorder := { d.recorder with lastAnchor := some d.now } } : Dev).putRecord 0x03 0 0xFFFF false payload).recorder.lastAnchor =
      some d.now := by
  have h := unput_putRecord { d with recorder := { d.recorder with lastAnchor := some d.now } } 0x03 0 0xFFFF false payload
  unfold unput at h
  simp only [Prod.mk.injEq] at h
  exact h.2.2.2.2.2

/-- The least time between two anchors has not passed. -/
theorem anchor_soon (o : Option Nat) (now : Nat) : (match o with
    | some t => decide (now < t + 1000)
    | none => false) = true ↔ ∃ t, o = some t ∧ now < t + 1000 := by
  cases o <;> simp

end Put

/-! ### Commits -/

section Commit

variable {r : Recorder} {x : Record} {d : Dev}

/-- The record that a commit stores: the next sequence number, in the Seed area or at the end of the ring. -/
theorem store_outcome (r : Recorder) (x : Record) : (r.store x).nextSeq = r.nextSeq + 1 ∧ (r.store x).pendq = r.pendq ∧
    (r.store x).lifeTurn = r.lifeTurn ∧ (r.store x).cpAt = r.cpAt ∧ (r.store x).slots = r.slots ∧ (r.store x).sinceCp = r.sinceCp ∧
    (r.store x).bytesCp = r.bytesCp ∧ (r.store x).lost = r.lost ∧
    ∃ y ∈ (r.store x).seed ++ (r.store x).chaff, y.seq = r.nextSeq ∧ y.code = x.code ∧ y.payload = x.payload := by
  unfold Recorder.store
  extract_lets x' r'
  split
  · exact ⟨rfl, rfl, rfl, rfl, rfl, rfl, rfl, rfl, _, List.mem_append_left _ (List.mem_append_right _ (List.mem_singleton_self _)),
      rfl, rfl, rfl⟩
  · exact ⟨rfl, rfl, rfl, rfl, rfl, rfl, rfl, rfl, _, List.mem_append_right _ (List.mem_append_right _ (List.mem_singleton_self _)),
      rfl, rfl, rfl⟩

/-- The checkpoint that is written with a commit, or counted towards. -/
theorem checkpointDue_outcome (r : Recorder) (size now : Nat) :
    let z := r.checkpointDue size now
    let slot := (r.cpAt + 1) % 64
    (z.pendq = r.pendq ∧ z.nextSeq = r.nextSeq ∧ z.lifeTurn = r.lifeTurn ∧ z.seed = r.seed ∧ z.chaff = r.chaff) ∧
    if 1024 ≤ r.sinceCp + 1 ∨ 2 ^ 20 ≤ r.bytesCp + size then
      z.cpAt = slot ∧ z.sinceCp = 0 ∧ z.bytesCp = 0 ∧ (∀ k, k ≠ slot → smGet {} z.slots k = smGet {} r.slots k) ∧
      smGet {} z.slots slot = { ok := true, wroteAt := some now, seedPos := z.seedUsed, wpos := z.wpos, oldest := z.oldest,
                                nextSeq := z.nextSeq, lost := r.lost, seedOpen := z.seedOpen }
    else z.cpAt = r.cpAt ∧ z.slots = r.slots ∧ z.sinceCp = r.sinceCp + 1 ∧ z.bytesCp = r.bytesCp + size := by
  intro z slot
  have hc : (decide (r.sinceCp + 1 ≥ 1024) || decide (r.bytesCp + size ≥ 2 ^ 20)) = true ↔
      1024 ≤ r.sinceCp + 1 ∨ 2 ^ 20 ≤ r.bytesCp + size := by
    rw [Bool.or_eq_true, decide_eq_true_eq, decide_eq_true_eq]
  by_cases h : 1024 ≤ r.sinceCp + 1 ∨ 2 ^ 20 ≤ r.bytesCp + size
  · have hz : z = r.writeCheckpoint (some now) := if_pos (hc.mpr h)
    rw [if_pos h, hz]
    exact ⟨⟨rfl, rfl, rfl, rfl, rfl⟩, rfl, rfl, rfl, fun k hk => smGet_smPut_other _ _ _ _ _ hk, smGet_smPut_self _ _ _ _⟩
  · have hz : z = { r with sinceCp := r.sinceCp + 1, bytesCp := r.bytesCp + size } := if_neg (mt hc.mp h)
    rw [if_neg h, hz]
    exact ⟨⟨rfl, rfl, rfl, rfl, rfl⟩, rfl, rfl, rfl, rfl⟩

/-- The recorder after a commit. -/
theorem commitRecord_recorder {p : Pend} {rest : List Pend} (h : d.recorder.pendq = p :: rest) : d.commitRecord.recorder =
    (({ d.recorder with pendq := rest, lifeTurn := !d.recorder.lifeQueue.isEmpty } : Recorder).store p.record).checkpointDue
      p.record.size d.now := by
  unfold Dev.commitRecord
  rw [h]
  dsimp only
  rw [countEvent_recorder, stage_recorder]

/-- A commit of an axis' lifetime block. -/
theorem commitLifetime_outcome (d : Dev) (a : Nat) : let x := d.axis a
    let y := (d.commitLifetime a).axis a
    y.stored.spoilt = none ∧ y.stored.generation = x.stored.generation + 1 ∧ y.stored.copy = 1 - x.stored.copy ∧
      y.older = some x.stored ∧ y.live = y.stored ∧ (∀ n, n ≠ a → (d.commitLifetime a).axis n = d.axis n) ∧
      (d.commitLifetime a).recorder = d.recorder := by
  intro x y
  unfold y Dev.commitLifetime
  dsimp only
  rw [axis_setAxis_self]
  exact ⟨rfl, rfl, rfl, rfl, rfl, fun n hn => axis_setAxis_other _ _ hn, rfl⟩

end Commit

/-! ### Repeat words -/

section Repeats

variable {now : Nat} {l before after : List Record} {x : Record}

theorem rewriteIn_none (h : ∀ z ∈ l, z.rewriteDue now = false) : rewriteIn now l = none := by
  induction l with
  | nil => rfl
  | cons y l ih =>
    unfold rewriteIn
    rw [if_neg (Bool.eq_false_iff.mp (h y (List.mem_cons_self ..))), ih fun z hz => h z (List.mem_cons_of_mem y hz)]
    rfl

theorem rewriteIn_first (h : ∀ z ∈ before, z.rewriteDue now = false) (hx : x.rewriteDue now = true) :
    rewriteIn now (before ++ x :: after) =
      some (before ++ { x with repStored := x.rep, rewrittenAt := some now, cutWord := none } :: after) := by
  induction before with
  | nil => exact if_pos hx
  | cons y l ih =>
    rw [List.cons_append]
    unfold rewriteIn
    rw [if_neg (Bool.eq_false_iff.mp (h y (List.mem_cons_self ..))), ih fun z hz => h z (List.mem_cons_of_mem y hz)]
    rfl

/-- A window whose time is over has ended. -/
theorem closeWindow_ended (d : Dev) (x : Record) (hf : (x.closeWindow d).flags % 2 = 1) (ht : (x.closeWindow d).time + 1000 ≤ d.now) :
    (x.closeWindow d).windowEnded = true := by
  unfold Record.closeWindow at hf ht ⊢
  split
  · rfl
  next h =>
    rw [if_neg h] at hf ht
    by_contra hw
    refine h ?_
    rw [hf, Bool.eq_false_of_not_eq_true hw, decide_eq_true ht]
    simp

end Repeats

/-! ### The clear (R366) -/

section Clear

variable {d : Dev} {k token : List Byte} {challenge given : BitVec 128} {issued : Nat} {seq : Word}

theorem reg_recCmdstat (d : Dev) (code : Nat) (flags : Word) : (d.recCmdstat code flags).reg Adr.recCmdstat = wordOfNat code := by
  unfold Dev.recCmdstat
  rw [reg_orReg_other _ _ (by decide), reg_setReg_self]

/-- A refused clear but for a wrong token: the count of refusals in a row ends. -/
theorem refuseClear_other (d : Dev) {code : Nat} (h : code ≠ 0x6005) : (d.refuseClear code).2 = code ∧
    (d.refuseClear code).1.reg Adr.recCmdstat = wordOfNat code ∧
    unput (d.refuseClear code).1.recorder =
      (d.recorder.chaff.length, d.recorder.clears, d.recorder.challenge, 0, d.recorder.lockedAt, d.recorder.lastAnchor) := by
  unfold Dev.refuseClear
  extract_lets e
  rw [if_neg h]
  exact ⟨rfl, reg_recCmdstat d code 0x10, rfl⟩

/-- A wrong token is counted, and the third in a row begins the lockout. -/
theorem refuseClear_token (d : Dev) : (d.refuseClear 0x6005).2 = 0x6005 ∧
    (d.refuseClear 0x6005).1.reg Adr.recCmdstat = wordOfNat 0x6005 ∧
    unput (d.refuseClear 0x6005).1.recorder = (d.recorder.chaff.length, d.recorder.clears, d.recorder.challenge, d.recorder.tokenRefusals + 1,
      if d.recorder.tokenRefusals + 1 ≥ 3 then some d.now else d.recorder.lockedAt, d.recorder.lastAnchor) := by
  unfold Dev.refuseClear
  extract_lets e n lock r1 e1
  rw [if_pos rfl]
  exact ⟨rfl, (((Logs.refl e1).eventRep _ _ _).reg _ (by decide)).trans (reg_recCmdstat d 0x6005 0x10), unput_putRecord e1 _ _ _ _ _⟩

/-- The recorder with no challenge outstanding. -/
def unchallenged (d : Dev) : Dev := { d with recorder := { d.recorder with challenge := none } }

/-- The checks of a clear, in order. -/
theorem clearRequest_eq (d : Dev) (challenge : BitVec 128) (token : List Byte) : d.clearRequest challenge token =
    if d.sys.power != .idle then (unchallenged d).refuseClear 0x6007
    else match d.recorder.keySealed with
      | none => (unchallenged d).refuseClear 0x6008
      | some key =>
        if d.recorder.lockedAt.isSome then (unchallenged d).refuseClear 0x600B
        else match d.recorder.challenge with
          | none => (unchallenged d).refuseClear 0x6006
          | some (c, issued, seq) =>
            if c ≠ challenge ∨ issued + 60000 ≤ d.now then (unchallenged d).refuseClear 0x6006
            else if token ≠ clearToken key challenge seq then (unchallenged d).refuseClear 0x6005
            else if d.recorder.clearLog.length ≥ 65536 then (unchallenged d).refuseClear 0x600C
            else
              (((({ d with recorder := { d.recorder with challenge := none, tokenRefusals := 0 } } : Dev).emptyRing
                { complete := false, first := d.recorder.oldest, last := d.recorder.newest, time := d.now, pcyc := d.sys.pwrCyc,
                  challenge := challenge } token).setReg Adr.recCmdstat 0), 0) := rfl

/-- The record of a clear. -/
def clearRecord (d : Dev) (e : ClearEntry) (token : List Byte) : Record :=
  { rtype := 0x04, flags := 2 * b2n (d.pair.role == .standby), code := 0x6009, time := d.now, pcyc := d.sys.pwrCyc, subj := 0xFFFF,
    payload := leBytes 4 e.first.toNat ++ leBytes 4 e.last.toNat ++ leBytes 8 d.recorder.used ++ leBytes 4 d.recorder.clearLog.length
      ++ slice (token ++ [0, 0, 0, 0]) 0 4 }

theorem clearRecord_size (d : Dev) (e : ClearEntry) (token : List Byte) : (clearRecord d e token).size = 56 := by
  have h : (clearRecord d e token).payload.length = 24 := by
    unfold clearRecord slice
    simp
  unfold Record.size Record.length pad4
  rw [List.length_append, List.length_replicate, h]

/-- The recorder of a clear before its record is stored. -/
def clearing (r : Recorder) (e : ClearEntry) : Recorder :=
  { r.emptied with clearLog := r.clearLog ++ [{ e with complete := true }], clears := satInc r.clears }

theorem emptyRing_recorder (d : Dev) (e : ClearEntry) (token : List Byte) : (d.emptyRing e token).recorder =
    ((clearing d.recorder e).store (clearRecord d e token)).checkpointDue (clearRecord d e token).size d.now := countEvent_recorder _ _ _ _

/-- The Seed area is as full after its windows have ended. -/
theorem seedUsed_clearing (r : Recorder) (e : ClearEntry) : (clearing r e).seedUsed = r.seedUsed := by
  show (r.seed.map Record.endWindow).foldl (fun n x => n + x.size) 0 = r.seed.foldl (fun n x => n + x.size) 0
  rw [List.foldl_map]
  rfl

/-- A record in the empty ring stands at its start. -/
theorem intoRing_empty {r : Recorder} {x : Record} (hc : r.chaff = []) (hw : r.wpos = 0) (hs : x.size ≤ ringSize) :
    (r.intoRing x).chaff = [{ x with offset := 0 }] := by
  unfold Recorder.intoRing Recorder.makeRoom
  dsimp only
  rw [hc, hw, Nat.zero_add, if_neg (by omega)]
  rw [List.filter_nil, ite_self, List.filter_nil]
  rfl

/-- The room for the record of a clear in the Seed area. -/
theorem seedTakes_clearing (r : Recorder) (e : ClearEntry) (x : Record) (h : x.size = 56) :
    (clearing r e).seedTakes x = true ↔ r.seedOpen = true ∧ r.seedUsed + 56 ≤ 2 ^ 24 ∧ r.seed.length < 131072 := by
  have hl : (clearing r e).seed.length = r.seed.length := List.length_map _
  have ho : (clearing r e).seedOpen = r.seedOpen := rfl
  unfold Recorder.seedTakes seedSize
  rw [h, ho, hl, seedUsed_clearing, Bool.and_eq_true, Bool.and_eq_true, decide_eq_true_eq, decide_eq_true_eq, and_assoc,
    show (2 : Nat) ^ 24 = 16777216 by decide]

/-- What of the recorder only clears and challenges move. -/
def clearState (r : Recorder) : Word × List ClearEntry × Option (BitVec 128 × Nat × Word) := (r.clears, r.clearLog, r.challenge)

theorem clearState_store (r : Recorder) (x : Record) : clearState (r.store x) = clearState r := by
  unfold Recorder.store
  extract_lets x' r'
  split <;> rfl

theorem clearState_checkpointDue (r : Recorder) (size now : Nat) : clearState (r.checkpointDue size now) = clearState r := by
  unfold Recorder.checkpointDue
  extract_lets n b
  split <;> rfl

/-- A clear that was carried out. -/
theorem emptyRing_outcome (d : Dev) (e : ClearEntry) (token : List Byte) :
    let z := (d.emptyRing e token).recorder
    let r := d.recorder
    let takes := r.seedOpen = true ∧ r.seedUsed + 56 ≤ 2 ^ 24 ∧ r.seed.length < 131072
    z.challenge = r.challenge ∧ z.clears = satInc r.clears ∧ z.nextSeq = r.nextSeq + 1 ∧
      z.clearLog = r.clearLog ++ [{ e with complete := true }] ∧ z.sinceCp = 1 ∧ ∃ x : Record, x.code = 0x6009 ∧ x.seq = r.nextSeq ∧
        (takes → z.chaff = [] ∧ z.seed.getLast? = some x) ∧ (¬takes → z.chaff = [x] ∧ x.offset = 0) := by
  intro z r takes
  have hsize := clearRecord_size d e token
  have hz : z = ((clearing r e).store (clearRecord d e token)).checkpointDue 56 d.now := hsize ▸ emptyRing_recorder d e token
  have hcode : (clearRecord d e token).code = 0x6009 := rfl
  generalize clearRecord d e token = x at hsize hz hcode
  have hR : (clearing r e).nextSeq = r.nextSeq ∧ (clearing r e).chaff = [] ∧ (clearing r e).wpos = 0 ∧ (clearing r e).sinceCp = 0 ∧
      (clearing r e).bytesCp = 0 ∧
      clearState (clearing r e) = (satInc r.clears, r.clearLog ++ [{ e with complete := true }], r.challenge) := ⟨rfl, rfl, rfl, rfl, rfl, rfl⟩
  have htakes := seedTakes_clearing r e x hsize
  generalize clearing r e = R at hz hR htakes
  obtain ⟨hseq, hchaff, hwpos, hsince, hbytes, hstate⟩ := hR
  obtain ⟨hseq', _, _, _, _, hsince', hbytes', _⟩ := store_outcome R x
  obtain ⟨⟨_, hznext, _, hzseed, hzchaff⟩, hdue⟩ := checkpointDue_outcome (R.store x) 56 d.now
  rw [hsince', hbytes', hsince, hbytes, if_neg (by decide)] at hdue
  have hclear : clearState z = (satInc r.clears, r.clearLog ++ [{ e with complete := true }], r.challenge) := by
    rw [hz, clearState_checkpointDue, clearState_store, hstate]
  unfold clearState at hclear
  simp only [Prod.mk.injEq] at hclear
  obtain ⟨h1, h2, h3⟩ := hclear
  refine ⟨h3, h1, by rw [hz, hznext, hseq', hseq], h2, by rw [hz, hdue.2.2.1], ?_⟩
  rw [hz, hzseed, hzchaff]
  let x' : Record := { x with seq := R.nextSeq, repStored := x.rep }
  have hx' : ({ R with nextSeq := R.nextSeq + 1 } : Recorder).seedTakes x' = true ↔ takes := htakes
  by_cases ht : takes
  · have hst : R.store x = { R with
        nextSeq := R.nextSeq + 1, seed := R.seed ++ [{ x' with offset := R.seedUsed }], seedOpen := decide (R.seed.length + 1 < 131072) } := if_pos (hx'.mpr ht)
    rw [hst]
    exact ⟨{ x' with offset := R.seedUsed }, hcode, hseq, fun _ => ⟨hchaff, List.getLast?_concat⟩, fun hn => absurd ht hn⟩
  · have hst : R.store x = ({ R with nextSeq := R.nextSeq + 1, seedOpen := false } : Recorder).intoRing x' := if_neg (mt hx'.mp ht)
    rw [hst]
    refine ⟨{ x' with offset := 0 }, hcode, hseq, fun h => absurd h ht, fun _ => ⟨intoRing_empty hchaff hwpos ?_, rfl⟩⟩
    exact (show x'.size = 56 from hsize) ▸ (by decide)

end Clear

/-! ### The statement -/

section Execution

variable {s : State}

theorem fld_low (v : Word) : fld v 0 8 = v.toNat % 256 := by
  rw [fld, Nat.shiftRight_zero]
  rfl

theorem recordCommit_iff (d : Dev) :
    (d.recorderRuns && !d.recorder.pendq.isEmpty && (!d.recorder.lifeTurn || d.recorder.lifeQueue.isEmpty)) = true ↔
      d.recorderRuns = true ∧ d.recorder.pendq ≠ [] ∧ (d.recorder.lifeTurn = false ∨ d.recorder.lifeQueue = []) := by
  rw [Bool.and_eq_true, Bool.and_eq_true, Bool.or_eq_true, Bool.not_eq_true', Bool.not_eq_true', List.isEmpty_iff, List.isEmpty_eq_false_iff,
    and_assoc]

theorem exec_lifetimeBlockCommit {a : Nat} {rest : List Nat} (h : s.dev.recorder.lifeQueue = a :: rest) : exec .lifetimeBlockCommit s =
    if s.dev.recorderRuns && (s.dev.recorder.lifeTurn || s.dev.recorder.pendq.isEmpty) then
      .next { s with dev := (({ s.dev with recorder := { s.dev.recorder with lifeQueue := rest, lifeTurn := false } } : Dev).commitLifetime
        a).countEvent 12 0 1 }
    else .next s := by
  show execLifetimeBlockCommit s = _
  unfold execLifetimeBlockCommit
  simp only [h]

theorem exec_lifetimeBlockCommit_empty (h : s.dev.recorder.lifeQueue = []) : exec .lifetimeBlockCommit s = .next s := by
  show execLifetimeBlockCommit s = _
  unfold execLifetimeBlockCommit
  simp only [h]

theorem exec_repeatWordRewrite (s : State) : exec .repeatWordRewrite s =
    if !s.dev.recorderRuns then .next s
    else match rewriteIn s.dev.now s.dev.recorder.chaff with
      | some c => .next { s with dev := { s.dev with recorder := { s.dev.recorder with chaff := c } } }
      | none =>
        match rewriteIn s.dev.now s.dev.recorder.seed with
        | some c => .next { s with dev := { s.dev with recorder := { s.dev.recorder with seed := c } } }
        | none => .next s := rfl

theorem exec_clearLockoutEnd (s : State) : exec .clearLockoutEnd s =
    match s.dev.recorder.lockedAt with
    | some t =>
      if t + 600000 ≤ s.dev.now then
        .next { s with dev := { s.dev with recorder := { s.dev.recorder with lockedAt := none, tokenRefusals := 0 } } }
      else .next s
    | none => .next s := rfl

end Execution

/-- Settles O57. -/
theorem recorder : Obligations.Recorder := by
  intro s q v random d r runs stat requested challenge token clears kept refused takes key soon
  refine ⟨fun p rest hr hp hl => ?_, fun h => ?_, fun a rest hr hl hp => ?_, fun h => ?_, fun h => ?_, fun h => ?_,
    fun before x after hr hb hn hx => ?_, ?_, fun hk => ?_, fun hk hs => ?_, fun hk hs => ?_, fun hk => ?_, fun hk h => ?_,
    fun hk hp hs => ?_, fun t ht => ⟨fun h => ?_, fun h => ?_⟩, fun h => ?_, fun h => ?_⟩
  · refine answers_next (if_pos ((recordCommit_iff d).mpr ⟨hr, hp ▸ List.cons_ne_nil _ _, hl⟩)) ?_
    rw [commitRecord_recorder hp]
    obtain ⟨hseq, hpq, hturn, hcp, hslots, hsince, hbytes, hlost, x, hx, hxs⟩ :=
      store_outcome { d.recorder with pendq := rest, lifeTurn := !d.recorder.lifeQueue.isEmpty } p.record
    generalize (Recorder.store { d.recorder with pendq := rest, lifeTurn := !d.recorder.lifeQueue.isEmpty } p.record) = z at *
    obtain ⟨⟨h1, h2, h3, h4, h5⟩, hdue⟩ := checkpointDue_outcome z p.record.size d.now
    rw [hcp, hslots, hsince, hbytes, hlost] at hdue
    exact ⟨h1.trans hpq, h2.trans hseq, h3.trans hturn, ⟨x, by rw [h4, h5]; exact hx, hxs⟩, hdue⟩
  · refine if_neg fun hn => ?_
    obtain ⟨h1, h2, h3⟩ := (recordCommit_iff d).mp hn
    obtain h | h | ⟨h4, h5⟩ := h
    · exact h h1
    · exact h2 h
    · exact h3.elim (fun h3 => nomatch h3.symm.trans h4) h5
  · refine answers_next ((exec_lifetimeBlockCommit hl).trans (if_pos ?_)) ?_
    · rw [Bool.and_eq_true, Bool.or_eq_true, List.isEmpty_iff]
      exact ⟨hr, hp⟩
    · obtain ⟨h1, h2, h3, h4, h5, h6, h7⟩ :=
        commitLifetime_outcome { d with recorder := { d.recorder with lifeQueue := rest, lifeTurn := false } } a
      generalize Dev.commitLifetime { d with recorder := { d.recorder with lifeQueue := rest, lifeTurn := false } } a = e at *
      have haxis (n : Nat) : (e.countEvent 12 0 1).axis n = e.axis n := by rw [Dev.axis, ((Logs.refl e).countEvent 12 0 1).axes]; rfl
      rw [countEvent_recorder, haxis, h7]
      exact ⟨rfl, rfl, h1, h2, h3, h4, h5, fun n hn => (haxis n).trans (h6 n hn)⟩
  · cases hl : r.lifeQueue with
    | nil =>
      exact exec_lifetimeBlockCommit_empty hl
    | cons a rest =>
      refine (exec_lifetimeBlockCommit hl).trans (if_neg ?_)
      rw [Bool.and_eq_true, Bool.or_eq_true, List.isEmpty_iff]
      rintro ⟨h1, h2⟩
      obtain h | h | ⟨h3, h4⟩ := h
      · exact h h1
      · exact nomatch hl.symm.trans h
      · exact h2.elim (fun h2 => nomatch h2.symm.trans h3) h4
  · refine (exec_repeatWordRewrite s).trans ?_
    split
    · rfl
    next hr =>
      rw [Bool.not_eq_true', Bool.not_eq_false] at hr
      have h := h.resolve_left fun hn => hn hr
      rw [rewriteIn_none fun z hz => h z (List.mem_append_left _ hz), rewriteIn_none fun z hz => h z (List.mem_append_right _ hz)]
  · rw [Ignored, exec_clearLockoutEnd, show s.dev.recorder.lockedAt = none from h]
  · rw [exec_repeatWordRewrite, if_neg (by rw [show s.dev.recorderRuns = true from hr]; nofun),
      show s.dev.recorder.chaff = before ++ x :: after from hb, rewriteIn_first hn hx]
  · refine answers_next rfl fun x hx hf ht => ?_
    obtain ⟨y, rfl⟩ : ∃ y : Record, x = y.closeWindow d := by
      obtain hx | hx := List.mem_append.mp hx <;> obtain ⟨y, _, hy⟩ := List.mem_map.mp hx <;> exact ⟨y, hy.symm⟩
    exact closeWindow_ended d y hf ht
  · have hx : d.anchorCommand v = d.recCmdstat 0x600E 0x20 := if_pos (by rw [fld_low]; exact hk)
    exact answers_next rfl (hx ▸ ⟨reg_recCmdstat d _ _, rfl⟩)
  · have hx : d.anchorCommand v = d.recCmdstat 0x600A 0x20 :=
      (if_neg (by rw [fld_low]; exact not_not_intro hk)).trans (if_pos ((anchor_soon _ _).mpr hs))
    exact answers_next rfl (hx ▸ ⟨reg_recCmdstat d _ _, rfl⟩)
  · have hx : ∃ payload, d.anchorCommand v = (({ d with recorder := { d.recorder with lastAnchor := some d.now } } : Dev).putRecord 0x03 0
        0xFFFF false payload).setReg Adr.recCmdstat 0 :=
      ⟨_, (if_neg (by rw [fld_low]; exact not_not_intro hk)).trans (if_neg (mt (anchor_soon _ _).mp hs))⟩
    obtain ⟨payload, hx⟩ := hx
    exact answers_next rfl (hx ▸ ⟨reg_setReg_self _ _ _, putRecord_anchor d payload⟩)
  · have hx : d.keyCommand v = d.recCmdstat 0x600E 0x30 := if_pos (by rw [fld_low]; exact hk)
    exact answers_next rfl (hx ▸ ⟨reg_recCmdstat d _ _, rfl⟩)
  · have hx : d.keyCommand v = d.recCmdstat 0x600D 0x10 :=
      (if_neg (by rw [fld_low]; exact not_not_intro hk)).trans
        (if_pos (by rw [Bool.or_eq_true, bne_iff_ne, Option.isSome_iff_ne_none]; exact h))
    exact answers_next rfl (hx ▸ ⟨reg_recCmdstat d _ _, rfl⟩)
  · have hx : d.keyCommand v = ({ d with recorder := { d.recorder with keySealed := some d.recorder.keyBytes } } : Dev).setReg
        Adr.recCmdstat 0 :=
      (if_neg (by rw [fld_low]; exact not_not_intro hk)).trans
        (if_neg (by rw [Bool.or_eq_true, bne_iff_ne, Option.isSome_iff_ne_none]; exact fun hn => hn.elim (· hp) (· hs)))
    exact answers_next rfl (hx ▸ ⟨reg_setReg_self _ _ _, rfl⟩)
  · rw [exec_clearLockoutEnd, show s.dev.recorder.lockedAt = some t from ht]
    exact if_pos h
  · rw [Ignored, exec_clearLockoutEnd, show s.dev.recorder.lockedAt = some t from ht]
    exact if_neg (Nat.not_le_of_lt h)
  · obtain ⟨hq, ha, ht⟩ := h
    exact serves_of (f := fun d _ => (d.newChallenge random, 0, leBytes 16 random.toNat)) rfl hq (beq_iff_eq.mpr ht) ha rfl rfl
  · obtain ⟨hq, ha, ht⟩ := h
    have hserve {code : Nat} {post : Dev → Prop} (h2 : (d.clearRequest challenge token).2 = code)
        (hp : let e := (d.clearRequest challenge token).1
          e.recorder.challenge = none ∧ stat (BitVec.ofNat 32 code) e ∧ post e) : clears code post :=
      serves_of (f := fun d q => ((d.clearRequest (BitVec.ofNat 128 (leAt q.payload 0 16)) (slice q.payload 16 32)).1,
        (d.clearRequest (BitVec.ofNat 128 (leAt q.payload 0 16)) (slice q.payload 16 32)).2, [])) rfl hq (beq_iff_eq.mpr ht) ha
        (by rw [← h2]; rfl) hp
    have hrefused {code : Nat} (hc : code ≠ 0x6005) (h : d.clearRequest challenge token = (unchallenged d).refuseClear code) :
        refused code := by
      obtain ⟨h1, h2, h3⟩ := refuseClear_other (unchallenged d) hc
      refine hserve (h ▸ h1) ?_
      rw [h]
      simp only [unput, Prod.mk.injEq] at h3
      obtain ⟨h3, h4, h5, h6, h7, _⟩ := h3
      exact ⟨h5, h2, ⟨h3, h4⟩, h6, h7⟩
    have hneq {p : Power} (h : d.sys.power = p) : ¬(d.sys.power != p) = true := by rw [bne_iff_ne]; exact not_not_intro h
    have hsome {o : Option Nat} (h : o = none) : ¬o.isSome = true := by rw [h]; nofun
    refine ⟨fun hp => ?_, fun hp hk => ?_, fun k hp hk => ⟨fun hl => ?_, fun hl hc => ?_, fun given issued seq hl hc =>
      ⟨fun h => ?_, fun hg hi htok => ?_, fun hg hi htok hfull => ?_, fun hg hi htok hroom => ?_⟩⟩⟩
    all_goals have hx := clearRequest_eq d challenge token
    · exact hrefused (by decide) (hx.trans (if_pos (bne_iff_ne.mpr hp)))
    all_goals replace hx := hx.trans (if_neg (hneq hp))
    all_goals rw [show d.recorder.keySealed = _ from hk] at hx
    · exact hrefused (by decide) hx
    · exact hrefused (by decide) (hx.trans (if_pos (Option.isSome_iff_ne_none.mpr hl)))
    all_goals replace hx := hx.trans (if_neg (hsome hl))
    all_goals rw [show d.recorder.challenge = _ from hc] at hx
    · exact hrefused (by decide) hx
    · exact hrefused (by decide) (hx.trans (if_pos h))
    all_goals replace hx := hx.trans (if_neg (not_or.mpr ⟨not_not_intro hg, Nat.not_le_of_lt hi⟩))
    · replace hx := hx.trans (if_pos htok)
      obtain ⟨h1, h2, h3⟩ := refuseClear_token (unchallenged d)
      refine hserve (hx ▸ h1) ?_
      rw [hx]
      simp only [unput, Prod.mk.injEq] at h3
      obtain ⟨h3, h4, h5, h6, h7, _⟩ := h3
      refine ⟨h5, h2, ⟨h3, h4⟩, h6, h7.trans ?_⟩
      rw [show (unchallenged d).recorder.lockedAt = none from hl]
      rfl
    all_goals replace hx := hx.trans (if_neg (not_not_intro htok))
    · exact hrefused (by decide) (hx.trans (if_pos hfull))
    · replace hx := hx.trans (if_neg (Nat.not_le_of_lt hroom))
      refine hserve (hx ▸ rfl) ?_
      rw [hx]
      obtain ⟨h1, h2, h3, h4, h5, h6⟩ := emptyRing_outcome
        { d with recorder := { d.recorder with challenge := none, tokenRefusals := 0 } }
        { complete := false, first := d.recorder.oldest, last := d.recorder.newest, time := d.now, pcyc := d.sys.pwrCyc,
          challenge := challenge } token
      exact ⟨h1, reg_setReg_self _ _ _, h2, h3, h4, h5, h6⟩

end Sys2Proof.Proofs
end

section
/-! SUPPORT. The state records of the update unit (R374, R381): the record in force, and what a change of the unit leaves. -/

namespace Sys2Proof.Proofs

open Sys2Proof.Machine Sys2Proof.Safety

/-! ### The newest of the valid records -/

section Newest

variable {l : List StateRec} {b x : StateRec}

/-- The newest of the valid records of a list, `b` standing for none. -/
def newest (b : StateRec) (l : List StateRec) : StateRec := l.foldl StateRec.newer b

theorem inForce_eq (u : Update) : u.inForce = newest { st0 := .current, st1 := .empty, ok := false } (u.sector0 ++ u.sector1) := rfl

theorem newer_cases (a b : StateRec) : (a.newer b = b ∧ b.ok = true ∧ (a.ok = true → a.gen < b.gen)) ∨
    (a.newer b = a ∧ (b.ok = true → a.ok = true ∧ b.gen ≤ a.gen)) := by
  unfold StateRec.newer
  by_cases h : (b.ok && (!a.ok || decide (a.gen < b.gen))) = true
  · rw [if_pos h]
    rw [Bool.and_eq_true, Bool.or_eq_true, Bool.not_eq_true', decide_eq_true_eq] at h
    exact .inl ⟨rfl, h.1, fun ha => h.2.resolve_left (by rw [ha]; nofun)⟩
  · rw [if_neg h]
    rw [Bool.and_eq_true, Bool.or_eq_true, Bool.not_eq_true', decide_eq_true_eq] at h
    refine .inr ⟨rfl, fun hb => ?_⟩
    have h := not_or.mp fun hn => h ⟨hb, hn⟩
    exact ⟨(Bool.not_eq_false _).mp h.1, Nat.not_lt.mp h.2⟩

/-- The newest record is `b` or of the list, and no valid record is newer. -/
theorem newest_spec (b : StateRec) (l : List StateRec) : (newest b l = b ∨ newest b l ∈ l ∧ (newest b l).ok = true) ∧
    ∀ y, y = b ∨ y ∈ l → y.ok = true → (newest b l).ok = true ∧ y.gen ≤ (newest b l).gen := by
  induction l generalizing b with
  | nil => exact ⟨.inl rfl, fun y hy hok => by obtain rfl | h := hy; exacts [⟨hok, Nat.le_refl _⟩, absurd h List.not_mem_nil]⟩
  | cons z l ih =>
    obtain ⟨hm, hle⟩ := ih (b.newer z)
    have hn : newest b (z :: l) = newest (b.newer z) l := rfl
    rw [hn]
    obtain ⟨hz, hok, hlt⟩ | ⟨hz, hge⟩ := newer_cases b z
    · rw [hz] at hm hle ⊢
      refine ⟨.inr (hm.elim (fun h => by rw [h]; exact ⟨List.mem_cons_self, hok⟩) fun h => ⟨List.mem_cons_of_mem z h.1, h.2⟩), fun y hy hy' => ?_⟩
      obtain rfl | hy := hy
      · obtain ⟨h1, h2⟩ := hle z (.inl rfl) hok
        exact ⟨h1, (Nat.le_of_lt (hlt hy')).trans h2⟩
      · exact hle y ((List.mem_cons.mp hy).imp_right id) hy'
    · rw [hz] at hm hle ⊢
      refine ⟨hm.imp_right fun h => ⟨List.mem_cons_of_mem z h.1, h.2⟩, fun y hy hy' => ?_⟩
      obtain rfl | hy := hy
      · exact hle y (.inl rfl) hy'
      · obtain rfl | hy := List.mem_cons.mp hy
        · obtain ⟨h1, h2⟩ := hge hy'
          obtain ⟨h3, h4⟩ := hle b (.inl rfl) h1
          exact ⟨h3, h2.trans h4⟩
        · exact hle y (.inr hy) hy'

/-- A valid record of the list that is newer than every other is the newest. -/
theorem newest_eq (hb : b.ok = false) (hx : x ∈ l) (hok : x.ok = true) (h : ∀ y ∈ l, y.ok = true → y ≠ x → y.gen < x.gen) :
    newest b l = x := by
  obtain ⟨hm, hle⟩ := newest_spec b l
  obtain ⟨h1, h2⟩ := hle x (.inr hx) hok
  by_contra hne
  obtain hm | ⟨hm, ho⟩ := hm
  · rw [hm, hb] at h1
    cases h1
  · exact Nat.not_lt_of_le h2 (h _ hm ho hne)

end Newest

/-! ### A change written as a record -/

section Records

variable {u : Update} {now : Nat}

/-- What of the update unit its state records and its last code do not hold. -/
def unitState (u : Update) : Update := { u with sector0 := [], sector1 := [], sector := false, last := 0 }

theorem content_of_unitState {u v : Update} (h : unitState u = unitState v) : u.content = v.content :=
  show (unitState u).content = (unitState v).content from congrArg Update.content h

theorem unitState_eraseFull (u : Update) (now : Nat) : unitState (u.eraseFull now) = unitState u := by
  unfold Update.eraseFull
  split
  · split <;> rfl
  · rfl

theorem unitState_append (u : Update) (r : StateRec) : unitState (u.append r) = unitState u := by
  unfold Update.append Update.turn
  split
  · split <;> rfl
  · dsimp only
    split <;> rfl

theorem unitState_record (u : Update) (now : Nat) : unitState (u.record now) = unitState u := by
  unfold Update.record
  dsimp only
  split
  · exact unitState_eraseFull u now
  · exact (unitState_append _ _).trans (unitState_eraseFull u now)

/-- The records of the two sectors. -/
def filed (u : Update) : List StateRec := u.sector0 ++ u.sector1

/-- The sector that is not in use. -/
def spare (u : Update) : List StateRec := if u.sector then u.sector0 else u.sector1

theorem mem_filed {y : StateRec} : y ∈ filed u ↔ y ∈ u.used ∨ y ∈ spare u := by
  unfold filed Update.used spare
  rw [List.mem_append]
  cases u.sector
  · exact Iff.rfl
  · exact Or.comm

/-- A record appended is the last of its sector, after records that stood before; a valid record of the sector in use stays. -/
theorem append_spec (u : Update) (r : StateRec) : ∃ pre, (u.append r).used = pre ++ [r] ∧
    (∀ y, y ∈ pre ∨ y ∈ spare (u.append r) → y ∈ filed u) ∧ ∀ x ∈ u.used, x.ok = true → x ∈ pre ∨ x ∈ spare (u.append r) := by
  by_cases hturn : (decide (1024 ≤ u.used.length) && u.used.any (·.ok)) = true
  · have hx : u.append r = u.turn r := if_pos hturn
    have hu : (u.turn r).used = [] ++ [r] ∧ spare (u.turn r) = u.used := by
      unfold Update.turn Update.used spare
      cases u.sector <;> exact ⟨rfl, rfl⟩
    rw [hx]
    exact ⟨[], hu.1, fun y hy => mem_filed.mpr (.inl (hu.2 ▸ hy.resolve_left List.not_mem_nil)), fun x hx _ => .inr (hu.2.symm ▸ hx)⟩
  · have hu : (u.append r).used = (if u.used.length < 1024 then u.used ++ [r] else [r]) ∧ spare (u.append r) = spare u := by
      have hx : u.append r = if u.sector then { u with sector1 := if u.used.length < 1024 then u.used ++ [r] else [r] }
        else { u with sector0 := if u.used.length < 1024 then u.used ++ [r] else [r] } := if_neg hturn
      rw [hx]
      generalize (if u.used.length < 1024 then u.used ++ [r] else [r]) = l
      unfold Update.used spare
      cases u.sector <;> exact ⟨rfl, rfl⟩
    obtain ⟨h1, h2⟩ := hu
    rw [h2, h1]
    split
    · exact ⟨u.used, rfl, fun y hy => mem_filed.mpr hy, fun x hx _ => .inl hx⟩
    next hfull =>
      refine ⟨[], rfl, fun y hy => mem_filed.mpr (.inr (hy.resolve_left List.not_mem_nil)), fun x hx hok => absurd ?_ hturn⟩
      rw [Bool.and_eq_true, decide_eq_true_eq, List.any_eq_true]
      exact ⟨Nat.not_lt.mp hfull, x, hx, hok⟩

/-- The sector in use is erased by nothing, the other one perhaps. -/
theorem eraseFull_spec (u : Update) (now : Nat) : (u.eraseFull now).used = u.used ∧ ∀ y ∈ filed (u.eraseFull now), y ∈ filed u := by
  unfold Update.eraseFull
  split
  · unfold Update.used filed
    cases h : u.sector
    · simpa [h] using fun y hy => Or.inl hy
    · simpa [h] using fun y hy => Or.inr hy
  · exact ⟨rfl, fun _ hy => hy⟩

/-- A loss of power spoils the record last written, where it was written in this millisecond. -/
theorem cutOff_spec {e : Update} {pre : List StateRec} {r : StateRec} (hu : e.used = pre ++ [r]) (hr : r.wroteAt = some now) (j : Nat) :
    if Config.stateCut j then (e.cutOff now j).used = pre ++ [{ r with ok := false }] ∧ spare (e.cutOff now j) = spare e
    else e.cutOff now j = e := by
  have hlast : e.used.getLast? = some r := hu ▸ List.getLast?_concat
  have hdrop : e.used.dropLast = pre := hu ▸ List.dropLast_concat
  unfold Update.cutOff
  extract_lets hit
  have hhit : hit e.used = if Config.stateCut j then pre ++ [{ r with ok := false }] else e.used := by
    unfold hit
    rw [hlast]
    dsimp only
    rw [decide_eq_true hr, Bool.true_and, hdrop]
  split
  next hc =>
    rw [if_pos hc] at hhit
    unfold Update.used at hhit ⊢
    unfold spare
    cases hs : e.sector <;> simp only [hs, Bool.false_eq_true, if_false, if_true] at hhit ⊢ <;> exact ⟨hhit, trivial⟩
  next hc =>
    rw [if_neg hc] at hhit
    unfold Update.used at hhit
    cases hs : e.sector <;> simp only [hs, Bool.false_eq_true, if_false, if_true] at hhit ⊢ <;> rw [hhit, ← hs]

/-- A record as it is written. -/
def nextRecord (u : Update) (now : Nat) : StateRec := { u.content with gen := u.inForce.gen + 1, wroteAt := some now }

theorem record_eq (u : Update) (now : Nat) : u.record now = if (u.eraseFull now).inForce.same u.content then u.eraseFull now
    else (u.eraseFull now).append (nextRecord (u.eraseFull now) now) := by
  rw [← content_of_unitState (unitState_eraseFull u now)]
  rfl

/-- No valid record stands that is newer than the one in force. -/
theorem le_inForce {y : StateRec} (hy : y ∈ filed u) (hok : y.ok = true) : y.gen ≤ u.inForce.gen :=
  ((newest_spec _ (filed u)).2 y (.inr hy) hok).2

/-- A record appended is the one in force. -/
theorem inForce_append (u : Update) (now : Nat) : (u.append (nextRecord u now)).inForce = nextRecord u now := by
  obtain ⟨pre, hu, hold, _⟩ := append_spec u (nextRecord u now)
  refine newest_eq rfl (l := filed _) (mem_filed.mpr (.inl (hu ▸ List.mem_append_right _ (List.mem_singleton_self _)))) rfl
    fun y hy hok hne => ?_
  have hy : y ∈ filed u := by
    obtain hy | hy := mem_filed.mp hy
    · rw [hu, List.mem_append, List.mem_singleton] at hy
      exact hold y (.inl (hy.resolve_right hne))
    · exact hold y (.inr hy)
  exact Nat.lt_succ_of_le (le_inForce hy hok)

theorem same_self (r : StateRec) (h : r.ok = true) : r.same r = true := by
  unfold StateRec.same
  rw [h]
  simp

/-- After a change the record in force holds the states of the slots, the boots and minutes left and the floor. -/
theorem inForce_record (u : Update) (now : Nat) : (u.record now).inForce.same (u.record now).content = true := by
  rw [content_of_unitState (unitState_record u now), record_eq]
  split
  next h => exact h
  · rw [inForce_append]
    have hc := content_of_unitState (unitState_eraseFull u now)
    have hs : (nextRecord (u.eraseFull now) now).same u.content = u.content.same u.content := by
      unfold nextRecord
      rw [hc]
      rfl
    exact hs.trans (same_self _ rfl)

/-- A record that a loss of power cuts off leaves the one before it in force. -/
theorem inForce_cutOff {j : Nat} (hm : u.inForce ∈ u.used) (hok : u.inForce.ok = true)
    (hn : (((u.sector0 ++ u.sector1).filter (·.ok)).map (·.gen)).Nodup) (hs : u.inForce.same u.content = false) :
    ((u.record now).cutOff now j).inForce = if Config.stateCut j then u.inForce else (u.record now).inForce := by
  obtain ⟨hused, hfiled⟩ := eraseFull_spec u now
  have hnewer {y : StateRec} (hy : y ∈ filed u) (hy' : y.ok = true) (hne : y ≠ u.inForce) : y.gen < u.inForce.gen := by
    refine Nat.lt_of_le_of_ne (le_inForce hy hy') fun hg => hne ?_
    exact List.inj_on_of_nodup_map hn (List.mem_filter.mpr ⟨hy, hy'⟩)
      (List.mem_filter.mpr ⟨mem_filed.mpr (.inl hm), hok⟩) hg
  have hkeep : (u.eraseFull now).inForce = u.inForce :=
    newest_eq rfl (l := filed (u.eraseFull now)) (mem_filed.mpr (.inl (hused ▸ hm))) hok fun y hy hy' hne => hnewer (hfiled y hy) hy' hne
  have hr : u.record now = (u.eraseFull now).append (nextRecord (u.eraseFull now) now) := by
    rw [record_eq, hkeep, if_neg (Bool.eq_false_iff.mp hs)]
  obtain ⟨pre, hu, hold, hstay⟩ := append_spec (u.eraseFull now) (nextRecord (u.eraseFull now) now)
  rw [hr]
  have hcut := cutOff_spec (now := now) hu rfl j
  split
  next hc =>
    rw [if_pos hc] at hcut
    obtain ⟨h1, h2⟩ := hcut
    refine newest_eq rfl (l := filed _) (mem_filed.mpr ?_) hok fun y hy hy' hne => ?_
    · rw [h1, h2, List.mem_append]
      exact (hstay _ (hused ▸ hm) hok).imp_left .inl
    · refine hnewer (hfiled y (hold y ?_)) hy' hne
      obtain hy | hy := mem_filed.mp hy
      · rw [h1, List.mem_append, List.mem_singleton] at hy
        refine .inl (hy.resolve_right fun h => ?_)
        rw [h] at hy'
        cases hy'
      · exact .inr (h2 ▸ hy)
  next hc =>
    rw [if_neg hc] at hcut
    rw [hcut]

end Records

end Sys2Proof.Proofs
end

section
/-! OBLIGATION O58. Image update: the commands, the blocks, the confirmation and the trial. -/

namespace Sys2Proof.Proofs

open Sys2Proof.Machine Sys2Proof.Safety

section Unit

variable {d : Dev} {u v : Update} {i k : Nat}

theorem slot_of_unitState (h : unitState u = unitState v) (k : Nat) : u.slot k = v.slot k :=
  show (unitState u).slot k = (unitState v).slot k from congrArg (Update.slot · k) h

/-- Both slots as they were. -/
theorem slots_of_unitState (h : unitState u = unitState v) : u.slot0 = v.slot0 ∧ u.slot1 = v.slot1 :=
  ⟨slot_of_unitState h 0, slot_of_unitState h 1⟩

/-- What the update unit holds beside its records and its last code. -/
theorem of_unitState {α : Type} (π : Update → α) (hπ : ∀ u, π (unitState u) = π u) (h : unitState u = unitState v) : π u = π v := by
  rw [← hπ u, h, hπ]

theorem slot_setSlot_self (u : Update) (i : Nat) (x : Slot) : (u.setSlot i x).slot i = x := by
  unfold Update.setSlot Update.slot
  split <;> rfl

theorem slot_setSlot_other (u : Update) (x : Slot) (hi : i ≤ 1) : (u.setSlot i x).slot (1 - i) = u.slot (1 - i) := by
  obtain rfl | rfl : i = 0 ∨ i = 1 := by omega
  · rfl
  · rfl

theorem slot_mark_self (u : Update) (i : Nat) (st : SlotState) : (u.mark i st).slot i = { u.slot i with st := st } := slot_setSlot_self u i _

theorem inactive_le (u : Update) : u.inactive ≤ 1 := Nat.sub_le 1 _

theorem unitState_modUpd (d : Dev) (f : Update → Update) : unitState (d.modUpd f).upd = unitState (f d.upd) := unitState_record _ _

theorem unitState_updCode (d : Dev) (code : Nat) : unitState (d.updCode code).upd = unitState d.upd := by
  by_cases h : code = 0
  · rw [show d.updCode code = d from if_pos h]
  · have hx : ∃ w, d.updCode code = (d.modUpd fun u => { u with last := code }).orReg Adr.updFlags w := ⟨_, if_neg h⟩
    obtain ⟨w, hx⟩ := hx
    rw [hx]
    exact unitState_modUpd d fun u => { u with last := code }

theorem unitState_updEvent (d : Dev) (code : Nat) : unitState (d.updEvent code).upd = unitState d.upd := by
  unfold Dev.updEvent
  rw [unitState_updCode, ((Logs.refl d).event _ _ _).upd]

theorem mapOps_logs (d : Dev) (a n : Nat) : Logs d (d.mapOps a n) := (Logs.refl d).dramBytes _ _

/-- The answer to a command of the update unit. -/
theorem updAnswer (e : Dev) (code : Nat) : ((e.updCode code).setReg Adr.updCmdstat (wordOfNat code)).reg Adr.updCmdstat = wordOfNat code ∧
    unitState ((e.updCode code).setReg Adr.updCmdstat (wordOfNat code)).upd = unitState e.upd :=
  ⟨reg_setReg_self _ _ _, unitState_updCode e code⟩

/-- A command with an operation of its own. -/
theorem updCommand_eq (d : Dev) {v : Word} (h : v.toNat % 4 ≠ 0) {r : Dev × Nat}
    (hr : r = if fld v 24 8 ≠ 0xD2 then (d, 0x7001)
      else if fld v 0 2 = 1 then d.updBegin else if fld v 0 2 = 2 then d.updFinish else d.updAbort) :
    d.updCommand v = (r.1.updCode r.2).setReg Adr.updCmdstat (wordOfNat r.2) := by
  subst hr
  exact if_neg h

/-- A command is answered in UPD_CMDSTAT after its effect on the unit. -/
theorem updCommand_answers {s : State} {i : Instr} {v : Word} {r : Dev × Nat} {post : Dev → Prop}
    (hx : exec i s = .next { s with dev := s.dev.updCommand v }) (h : v.toNat % 4 ≠ 0)
    (hr : r = if fld v 24 8 ≠ 0xD2 then (s.dev, 0x7001)
      else if fld v 0 2 = 1 then s.dev.updBegin else if fld v 0 2 = 2 then s.dev.updFinish else s.dev.updAbort)
    (hp : ∀ d', unitState d'.upd = unitState r.1.upd → post d') :
    Answers i s fun d' => d'.reg Adr.updCmdstat = wordOfNat r.2 ∧ post d' := by
  obtain ⟨h1, h2⟩ := updAnswer r.1 r.2
  exact answers_next hx (by rw [updCommand_eq s.dev h hr]; exact ⟨h1, hp _ h2⟩)

/-- A command whose key is wrong. -/
theorem updCommand_unkeyed {s : State} {i : Instr} {v : Word} (hx : exec i s = .next { s with dev := s.dev.updCommand v })
    (h : v.toNat % 4 ≠ 0) (hk : v.toNat / 2 ^ 24 ≠ 0xD2) : Answers i s fun d' => d'.reg Adr.updCmdstat = 0x7001 ∧
      d'.upd.slot0 = s.dev.upd.slot0 ∧ d'.upd.slot1 = s.dev.upd.slot1 :=
  updCommand_answers (r := (s.dev, 0x7001)) hx h (if_pos (by rw [fld_key]; exact hk)).symm fun _ => slots_of_unitState

/-- BEGIN accepted: the inactive slot is erased. -/
theorem updBegin_accepted (d : Dev) (ht : d.upd.withState .trial = none)
    (hb : ¬(d.upd.withState .erasing ≠ none ∨ d.upd.confirming = true)) : ∃ e, d.updBegin = (e, 0) ∧
      unitState e.upd = unitState (d.upd.setSlot d.upd.inactive { st := .erasing, erases := satInc (d.upd.slot d.upd.inactive).erases }) := by
  unfold Dev.updBegin
  extract_lets u i n y e
  have he : unitState e.upd = unitState (d.upd.setSlot i y) := unitState_modUpd d fun u => u.setSlot i y
  rw [if_neg (by rw [Option.isSome_iff_ne_none]; exact not_not_intro ht),
    if_neg (by rw [Bool.or_eq_true, Option.isSome_iff_ne_none]; exact hb)]
  refine ⟨_, rfl, ?_⟩
  split
  · exact (unitState_updEvent e 0x7032).trans he
  · exact he

theorem updBegin_busy (d : Dev) (ht : d.upd.withState .trial = none)
    (hb : d.upd.withState .erasing ≠ none ∨ d.upd.confirming = true) : d.updBegin = (d, 0x7006) :=
  (if_neg (by rw [Option.isSome_iff_ne_none]; exact not_not_intro ht)).trans
    (if_pos (by rw [Bool.or_eq_true, Option.isSome_iff_ne_none]; exact hb))

theorem updFinish_none (d : Dev) (h : d.upd.withState .open_ = none) : d.updFinish = (d, 0x7004) := by
  unfold Dev.updFinish
  rw [h]

/-- FINISH of an OPEN slot whose image has no header. -/
theorem updFinish_headless {d : Dev} {j : Nat} (h : d.upd.withState .open_ = some j) (hh : (d.upd.slot j).header = none) :
    d.updFinish = (d, 0x7007) := by
  unfold Dev.updFinish
  rw [h]
  dsimp only
  rw [hh]

/-- FINISH of an OPEN slot: its image is LOADED once every byte of it is written. -/
theorem updFinish_headed {d : Dev} {j : Nat} {x : ImageHeader} (h : d.upd.withState .open_ = some j) (hh : (d.upd.slot j).header = some x) :
    d.updFinish = if ((d.upd.slot j).written.filter fun p => decide (p.1 < x.length)).length < x.length then (d.mapOps 0 x.length, 0x7008)
      else ((d.mapOps 0 x.length).modUpd fun u => u.mark j .loaded, 0) := by
  unfold Dev.updFinish
  rw [h]
  dsimp only
  rw [hh]

/-- A change of the unit after work on its map. -/
theorem unitState_mapped (d : Dev) (a n : Nat) (f : Update → Update) : unitState ((d.mapOps a n).modUpd f).upd = unitState (f d.upd) := by
  rw [unitState_modUpd, (mapOps_logs d a n).upd]

end Unit

/-! ### Blocks (R376) -/

section Blocks

variable {x : Slot} {off : Nat} {data : List Byte}

/-- The bytes of a block with their places in the slot. -/
def blockCells (off : Nat) (data : List Byte) : List (Nat × Byte) := data.zipIdx.map fun b => (off + b.2, b.1)

theorem mem_blockCells {c : Nat × Byte} : c ∈ blockCells off data ↔ ∃ i, ∃ h : i < data.length, c = (off + i, data[i]) := by
  unfold blockCells
  rw [List.mem_map]
  constructor
  · rintro ⟨⟨b, i⟩, hb, rfl⟩
    obtain ⟨h, hb⟩ := List.mem_zipIdx' hb
    exact ⟨i, h, congrArg (Prod.mk _) hb⟩
  · rintro ⟨i, h, rfl⟩
    exact ⟨(data[i], i), List.mk_mem_zipIdx_iff_getElem?.mpr (List.getElem?_eq_getElem h), rfl⟩

theorem blockCells_nodup (off : Nat) (data : List Byte) : ((blockCells off data).map Prod.fst).Nodup := by
  have h : (blockCells off data).map Prod.fst = (List.range data.length).map (off + ·) := by
    unfold blockCells
    rw [List.map_map, List.range_eq_range', ← List.zipIdx_map_snd, List.map_map]
    rfl
  rw [h]
  exact List.nodup_range.map fun a b hab => Nat.add_left_cancel hab

/-- One byte programmed. -/
def programmed (x : Slot) (c : Nat × Byte) : Slot := { x with bytes := memWrite x.bytes c.1 c.2, written := smPut x.written c.1 true }

theorem byte_programmed_self (x : Slot) (c : Nat × Byte) : (programmed x c).byte c.1 = c.2 := by
  unfold Slot.byte programmed
  rw [smHas_smPut, beq_self_eq_true, Bool.true_or, if_pos rfl, memRead_memWrite_self]

theorem byte_programmed_other (x : Slot) {c : Nat × Byte} {a : Nat} (h : a ≠ c.1) : (programmed x c).byte a = x.byte a := by
  unfold Slot.byte programmed
  rw [smHas_smPut, beq_false_of_ne h, Bool.false_or, memRead_memWrite_other _ _ h]

/-- Bytes programmed at places of their own read so, and no other byte changes. -/
theorem byte_foldl_programmed {l : List (Nat × Byte)} (hn : (l.map Prod.fst).Nodup) (x : Slot) :
    (∀ c ∈ l, (l.foldl programmed x).byte c.1 = c.2) ∧ ∀ a, a ∉ l.map Prod.fst → (l.foldl programmed x).byte a = x.byte a := by
  induction l generalizing x with
  | nil => exact ⟨fun c hc => absurd hc List.not_mem_nil, fun _ _ => rfl⟩
  | cons c l ih =>
    rw [List.map_cons, List.nodup_cons] at hn
    obtain ⟨h1, h2⟩ := ih hn.2 (programmed x c)
    refine ⟨fun b hb => ?_, fun a ha => ?_⟩
    · obtain rfl | hb := List.mem_cons.mp hb
      · exact (h2 _ hn.1).trans (byte_programmed_self x b)
      · exact h1 b hb
    · rw [List.map_cons, List.mem_cons, not_or] at ha
      exact (h2 a ha.2).trans (byte_programmed_other x ha.1)

/-- The bytes of a block that are not programmed yet. -/
def freshCells (x : Slot) (off : Nat) (data : List Byte) : List (Nat × Byte) := (blockCells off data).filter fun c => !smHas x.written c.1

/-- A byte programmed before differs. -/
def clashes (x : Slot) (off : Nat) (data : List Byte) : Bool :=
  (blockCells off data).any fun c => smHas x.written c.1 && memRead x.bytes c.1 != c.2

theorem clashes_iff : clashes x off data = true ↔
    ∃ i, ∃ h : i < data.length, smHas x.written (off + i) = true ∧ memRead x.bytes (off + i) ≠ data[i] := by
  unfold clashes
  rw [List.any_eq_true]
  constructor
  · rintro ⟨c, hc, h⟩
    obtain ⟨i, hi, rfl⟩ := mem_blockCells.mp hc
    exact ⟨i, hi, by simpa using h⟩
  · rintro ⟨i, hi, h⟩
    exact ⟨_, mem_blockCells.mpr ⟨i, hi, rfl⟩, by simpa using h⟩

theorem mem_freshCells {c : Nat × Byte} : c ∈ freshCells x off data ↔
    ∃ i, ∃ h : i < data.length, smHas x.written (off + i) = false ∧ c = (off + i, data[i]) := by
  unfold freshCells
  rw [List.mem_filter, mem_blockCells, Bool.not_eq_true']
  constructor
  · rintro ⟨⟨i, hi, rfl⟩, h⟩
    exact ⟨i, hi, h, rfl⟩
  · rintro ⟨i, hi, h, rfl⟩
    exact ⟨⟨i, hi, rfl⟩, h⟩

theorem freshCells_isEmpty : (freshCells x off data).isEmpty = true ↔ ¬∃ i, i < data.length ∧ smHas x.written (off + i) = false := by
  rw [List.isEmpty_iff]
  constructor
  · rintro h ⟨i, hi, hw⟩
    exact List.not_mem_nil (h ▸ mem_freshCells.mpr ⟨i, hi, hw, rfl⟩)
  · intro h
    refine List.eq_nil_iff_forall_not_mem.mpr fun c hc => h ?_
    obtain ⟨i, hi, hw, _⟩ := mem_freshCells.mp hc
    exact ⟨i, hi, hw⟩

/-- A block programmed where nothing clashes: its bytes stand in the slot, and no other byte changes. -/
theorem byte_block (hc : clashes x off data = false) :
    (∀ i, ∀ h : i < data.length, ((freshCells x off data).foldl programmed x).byte (off + i) = data[i]) ∧
      ∀ a, a < off ∨ off + data.length ≤ a → ((freshCells x off data).foldl programmed x).byte a = x.byte a := by
  have hsub : ((freshCells x off data).map Prod.fst).Nodup := (blockCells_nodup off data).sublist (List.filter_sublist.map _)
  obtain ⟨hin, hout⟩ := byte_foldl_programmed hsub x
  refine ⟨fun i hi => ?_, fun a ha => hout a fun hm => ?_⟩
  · cases hw : smHas x.written (off + i) with
    | false => exact hin _ (mem_freshCells.mpr ⟨i, hi, hw, rfl⟩)
    | true =>
      rw [hout]
      · unfold Slot.byte
        rw [if_pos hw]
        by_contra hne
        exact Bool.eq_false_iff.mp hc (clashes_iff.mpr ⟨i, hi, hw, hne⟩)
      · intro hm
        obtain ⟨c, hc, hci⟩ := List.mem_map.mp hm
        obtain ⟨k, hk, hwk, rfl⟩ := mem_freshCells.mp hc
        rw [show off + k = off + i from hci, hw] at hwk
        cases hwk
  · obtain ⟨c, hc, rfl⟩ := List.mem_map.mp hm
    obtain ⟨k, hk, _, rfl⟩ := mem_freshCells.mp hc
    dsimp only at ha
    omega

theorem updBlock_open {d : Dev} {j : Nat} (h : d.upd.withState .open_ = some j) (off : Nat) (data : List Byte) (ok : Bool) :
    d.updBlock off data ok =
      let x := d.upd.slot j
      let e := d.mapOps off data.length
      if clashes x off data then (e, 0x7005)
      else if (freshCells x off data).isEmpty then (e, 0)
      else if !ok then (e.modUpd fun u => u.mark j .rejected, 0x7009)
      else ((e.mapOps off data.length).modUpd fun u => u.setSlot j ((freshCells x off data).foldl programmed x), 0) := by
  unfold Dev.updBlock
  simp only [h]
  rfl

section Outcomes

variable {d : Dev} {j : Nat}

theorem updBlock_none (h : d.upd.withState .open_ = none) (off : Nat) (data : List Byte) (ok : Bool) :
    d.updBlock off data ok = (d, if d.upd.withState .erasing = none then 0x7004 else 0x7006) := by
  unfold Dev.updBlock
  simp only [h]
  cases d.upd.withState .erasing <;> rfl

theorem updBlock_clash (h : d.upd.withState .open_ = some j) (hc : clashes (d.upd.slot j) off data = true) (ok : Bool) :
    d.updBlock off data ok = (d.mapOps off data.length, 0x7005) :=
  (updBlock_open h off data ok).trans (if_pos hc)

/-- A block that the flash does not take rejects the slot. -/
theorem updBlock_failed (h : d.upd.withState .open_ = some j) (hc : clashes (d.upd.slot j) off data = false)
    (hf : (freshCells (d.upd.slot j) off data).isEmpty = false) :
    ∃ e, d.updBlock off data false = (e, 0x7009) ∧ unitState e.upd = unitState (d.upd.mark j .rejected) :=
  ⟨_, (updBlock_open h off data false).trans ((if_neg (Bool.eq_false_iff.mp hc)).trans ((if_neg (Bool.eq_false_iff.mp hf)).trans (if_pos rfl))),
    unitState_mapped d off data.length fun u => u.mark j .rejected⟩

/-- A block that is taken stands in the slot. -/
theorem updBlock_taken (h : d.upd.withState .open_ = some j) (hc : clashes (d.upd.slot j) off data = false) {ok : Bool}
    (hf : ok = true ∨ (freshCells (d.upd.slot j) off data).isEmpty = true) :
    ∃ e, d.updBlock off data ok = (e, 0) ∧ e.upd.slot j = (freshCells (d.upd.slot j) off data).foldl programmed (d.upd.slot j) := by
  have hx := (updBlock_open h off data ok).trans (if_neg (Bool.eq_false_iff.mp hc))
  by_cases he : (freshCells (d.upd.slot j) off data).isEmpty = true
  · refine ⟨_, hx.trans (if_pos he), ?_⟩
    rw [List.isEmpty_iff.mp he, (mapOps_logs d off data.length).upd]
    rfl
  · have hok : ok = true := hf.resolve_right he
    refine ⟨_, hx.trans ((if_neg he).trans (if_neg (by rw [hok]; nofun))), ?_⟩
    refine (slot_of_unitState (unitState_mapped (d.mapOps off data.length) off data.length fun u =>
      u.setSlot j ((freshCells (d.upd.slot j) off data).foldl programmed (d.upd.slot j))) j).trans (slot_setSlot_self _ _ _)

end Outcomes

/-- A block is answered with its status, after its code is shown. -/
theorem updBlock_serves {s : State} {q : VReq} {ok : Bool} {e : Dev} {code : Nat} {post : Dev → Prop} (hq : fronts s q)
    (ha : s.dev.vhpAccept q.vtype q.payload = 0) (ht : q.vtype = 0x10)
    (hr : s.dev.updBlock (leAt q.payload 0 4) (q.payload.drop 8) ok = (e, code))
    (hp : ∀ d', unitState d'.upd = unitState e.upd → post d') : Serves (.updBlock ok) s q code [] post :=
  serves_of (f := fun d q => ((d.updBlock (leAt q.payload 0 4) (q.payload.drop 8) ok).1.updCode
    (d.updBlock (leAt q.payload 0 4) (q.payload.drop 8) ok).2, (d.updBlock (leAt q.payload 0 4) (q.payload.drop 8) ok).2, [])) rfl hq
    (beq_iff_eq.mpr ht) ha (by rw [hr]) (hp _ (unitState_updCode e code))

end Blocks

/-! ### The statement -/

/-- A command runs under its own operation in IDLE and RUN. -/
theorem updRuns_iff (d : Dev) (v : Word) (op : Nat) :
    (fld v 0 2 = op && d.operating) = true ↔ v.toNat % 4 = op ∧ d.operating = true := by
  have hop : fld v 0 2 = v.toNat % 4 := by rw [fld, Nat.shiftRight_zero]; rfl
  rw [Bool.and_eq_true, decide_eq_true_eq, hop]

/-- The counts of a minute outside the update unit. -/
def minuteTicked (d : Dev) : Dev :=
  { d with sys := { d.sys with minutes := d.sys.minutes + 1 },
           island := { d.island with testAge := satInc d.island.testAge },
           pair := { d.pair with actAge := if d.pair.role == .active then 0 else satInc d.pair.actAge } }

/-- The module after a minute of operation. -/
def minutePassed (d : Dev) : Dev :=
  if (minuteTicked d).upd.unconfirmed then (minuteTicked d).modUpd fun u => { u with trialMinutes := u.trialMinutes - 1 } else minuteTicked d

section Execution

variable {s : State} {ok : Bool} {j : Nat}

theorem exec_eraseComplete (h : s.dev.upd.withState .erasing = some j) : exec (.eraseComplete ok) s =
    if ok then .next { s with dev := (s.dev.mapOps 0 slotSize).modUpd fun u => u.mark j .open_ }
    else .next { s with dev := (s.dev.modUpd fun u => u.mark j .rejected).updEvent 0x7009 } := by
  show execEraseComplete ok s = _
  unfold execEraseComplete
  rw [h]

theorem exec_eraseComplete_none (h : s.dev.upd.withState .erasing = none) : exec (.eraseComplete ok) s = .next s := by
  show execEraseComplete ok s = _
  unfold execEraseComplete
  rw [h]

/-- The unit once its confirmation is over. -/
def confirmed (u : Update) : Update :=
  { (u.mark (1 - b2n u.runSlot) .previous).mark (b2n u.runSlot) .current with
    secFloor := if u.secFloor.toNat < u.runSecver.toNat then u.runSecver else u.secFloor, onTrial := false }

theorem exec_confirmComplete (h : s.dev.upd.confirming = true) : exec (.confirmComplete ok) s =
    if ok then .next { s with dev :=
      ((s.dev.modUpd fun u => { u with confirming := false }).modUpd fun _ =>
        confirmed (s.dev.modUpd fun u => { u with confirming := false }).upd).updEvent 0x7023 }
    else .next { s with dev := (s.dev.modUpd fun u => { u with confirming := false }).updEvent 0x7022 } :=
  if_neg (by rw [h]; nofun)

theorem exec_trialExpiry (s : State) : exec .trialExpiry s =
    if s.dev.upd.windowOver then
      .next { s with dev := (s.dev.modUpd fun _ => { s.dev.upd.mark (b2n s.dev.upd.runSlot) .rejected with expired := true }).updEvent 0x7024 }
    else .next s := rfl

theorem windowOver_iff (u : Update) : u.windowOver = true ↔ u.unconfirmed = true ∧ u.trialMinutes = 0 ∧ u.confirming = false := by
  unfold Update.windowOver
  rw [Bool.and_eq_true, Bool.and_eq_true, beq_iff_eq, Bool.not_eq_true', and_assoc]

/-- The slots of a confirmed image. -/
theorem confirmed_slots (u : Update) : ((confirmed u).slot (b2n u.runSlot)).st = .current ∧
    ((confirmed u).slot (1 - b2n u.runSlot)).st = .previous ∧ (confirmed u).onTrial = false ∧ (confirmed u).confirming = u.confirming ∧
    (confirmed u).secFloor.toNat = max u.secFloor.toNat u.runSecver.toNat := by
  have hfloor : (if u.secFloor.toNat < u.runSecver.toNat then u.runSecver else u.secFloor).toNat =
      max u.secFloor.toNat u.runSecver.toNat := by
    split <;> omega
  unfold confirmed
  cases u.runSlot <;> exact ⟨rfl, rfl, rfl, rfl, hfloor⟩

/-- What a confirmation that succeeds leaves in the unit. -/
theorem confirmation_done (d : Dev) :
    let e := ((d.modUpd fun u => { u with confirming := false }).modUpd fun _ =>
      confirmed (d.modUpd fun u => { u with confirming := false }).upd).updEvent 0x7023
    (e.upd.slot (b2n d.upd.runSlot)).st = .current ∧ (e.upd.slot (1 - b2n d.upd.runSlot)).st = .previous ∧ e.upd.onTrial = false ∧
      e.upd.confirming = false ∧ e.upd.secFloor.toNat = max d.upd.secFloor.toNat d.upd.runSecver.toNat := by
  intro e
  have hb : unitState (d.modUpd fun u => { u with confirming := false }).upd = unitState { d.upd with confirming := false } :=
    unitState_modUpd d fun u => { u with confirming := false }
  have hs : unitState e.upd = unitState (confirmed (d.modUpd fun u => { u with confirming := false }).upd) := by
    rw [unitState_updEvent]
    exact unitState_modUpd _ fun _ => confirmed _
  clear_value e
  generalize (d.modUpd fun u => { u with confirming := false }).upd = u at hb hs
  obtain ⟨h1, h2, h3, h4, h5⟩ := confirmed_slots u
  have hrun : u.runSlot = d.upd.runSlot := of_unitState (v := { d.upd with confirming := false }) Update.runSlot (fun _ => rfl) hb
  have hfloor : u.secFloor = d.upd.secFloor := of_unitState (v := { d.upd with confirming := false }) Update.secFloor (fun _ => rfl) hb
  have hver : u.runSecver = d.upd.runSecver := of_unitState (v := { d.upd with confirming := false }) Update.runSecver (fun _ => rfl) hb
  have hcon : u.confirming = false := of_unitState (v := { d.upd with confirming := false }) Update.confirming (fun _ => rfl) hb
  rw [hrun] at h1 h2
  rw [hfloor, hver] at h5
  rw [slot_of_unitState hs, slot_of_unitState hs, of_unitState Update.onTrial (fun _ => rfl) hs,
    of_unitState Update.confirming (fun _ => rfl) hs, of_unitState Update.secFloor (fun _ => rfl) hs]
  exact ⟨h1, h2, h3, h4.trans hcon, h5⟩

/-- A confirmation that fails ends, and leaves the rest of the unit. -/
theorem confirmation_failed (d : Dev) :
    let e := (d.modUpd fun u => { u with confirming := false }).updEvent 0x7022
    (e.upd.slot0 = d.upd.slot0 ∧ e.upd.slot1 = d.upd.slot1) ∧ e.upd.onTrial = d.upd.onTrial ∧ e.upd.confirming = false ∧
      e.upd.secFloor = d.upd.secFloor := by
  intro e
  have hs : unitState e.upd = unitState { d.upd with confirming := false } :=
    (unitState_updEvent _ _).trans (unitState_modUpd d fun u => { u with confirming := false })
  clear_value e
  rw [of_unitState Update.onTrial (fun _ => rfl) hs, of_unitState Update.confirming (fun _ => rfl) hs,
    of_unitState Update.secFloor (fun _ => rfl) hs]
  exact ⟨⟨slot_of_unitState hs 0, slot_of_unitState hs 1⟩, rfl, rfl, rfl⟩

theorem exec_operatingMinute (s : State) : exec .operatingMinute s =
    if s.dev.now / 60000 ≤ s.dev.sys.minutes then .next s else .next { s with dev := minutePassed s.dev } := rfl

/-- What a minute of operation counts. -/
theorem minute_counted (d : Dev) : (minutePassed d).sys.minutes = d.sys.minutes + 1 ∧ (minutePassed d).island.testAge = satInc d.island.testAge ∧
    (minutePassed d).upd.trialMinutes = (if d.upd.unconfirmed then d.upd.trialMinutes - 1 else d.upd.trialMinutes) ∧
    (minutePassed d).pair.actAge = (if d.pair.role = .active then 0 else satInc d.pair.actAge) := by
  have hrole : (if d.pair.role == .active then 0 else satInc d.pair.actAge) = if d.pair.role = .active then 0 else satInc d.pair.actAge :=
    if_congr beq_iff_eq rfl rfl
  have hu : (minuteTicked d).upd = d.upd := rfl
  unfold minutePassed
  rw [hu]
  cases hc : d.upd.unconfirmed with
  | false => exact ⟨rfl, rfl, rfl, hrole⟩
  | true =>
    have ht := of_unitState Update.trialMinutes (fun _ => rfl)
      (unitState_modUpd (minuteTicked d) fun u => { u with trialMinutes := u.trialMinutes - 1 })
    exact ⟨rfl, rfl, ht, hrole⟩

theorem updEvent_image (d : Dev) (code : Nat) : (d.updEvent code).image = d.image := by
  have he := ((Logs.refl d).event code 0xFFFF []).image
  unfold Dev.updEvent Dev.updCode
  extract_lets flag
  split
  · exact he
  · exact he

/-- The end of a trial rejects the running slot, and leaves the image. -/
theorem trial_expired (d : Dev) :
    let e := (d.modUpd fun _ => { d.upd.mark (b2n d.upd.runSlot) .rejected with expired := true }).updEvent 0x7024
    (e.upd.slot (b2n d.upd.runSlot)).st = .rejected ∧ e.upd.expired = true ∧ e.image = d.image := by
  intro e
  have hs : unitState e.upd = unitState { d.upd.mark (b2n d.upd.runSlot) .rejected with expired := true } :=
    (unitState_updEvent _ _).trans (unitState_modUpd d fun _ => { d.upd.mark (b2n d.upd.runSlot) .rejected with expired := true })
  have hi : e.image = d.image := updEvent_image _ _
  clear_value e
  have hslot : e.upd.slot (b2n d.upd.runSlot) = (d.upd.mark (b2n d.upd.runSlot) .rejected).slot (b2n d.upd.runSlot) :=
    slot_of_unitState hs _
  rw [slot_mark_self] at hslot
  exact ⟨congrArg Slot.st hslot, of_unitState Update.expired (fun _ => rfl) hs, hi⟩

end Execution

/-- Settles O58. -/
theorem imageUpdate : Obligations.ImageUpdate := by
  intro s q v ok d u key slotSt stat keeps busy k run
  have hop : fld v 0 2 = v.toNat % 4 := by rw [fld, Nat.shiftRight_zero]; rfl
  have hbegin (ho : d.operating = true) (hv : v.toNat % 4 = 1) : exec (.updCmdBegin v) s = .next { s with dev := d.updCommand v } :=
    if_pos ((updRuns_iff d v 1).mpr ⟨hv, ho⟩)
  have hfinish (ho : d.operating = true) (hv : v.toNat % 4 = 2) : exec (.updCmdFinish v) s = .next { s with dev := d.updCommand v } :=
    if_pos ((updRuns_iff d v 2).mpr ⟨hv, ho⟩)
  have habort (ho : d.operating = true) (hv : v.toNat % 4 = 3) : exec (.updCmdAbort v) s = .next { s with dev := d.updCommand v } :=
    if_pos ((updRuns_iff d v 3).mpr ⟨hv, ho⟩)
  have hcmd {a b : Dev × Nat} (hk : key) : (if fld v 24 8 ≠ 0xD2 then a else b) = b := if_neg (not_not_intro ((fld_key v).trans hk))
  have hop2 {a b c : Dev × Nat} (hv : v.toNat % 4 = 2) : (if fld v 0 2 = 1 then a else if fld v 0 2 = 2 then b else c) = b :=
    (if_neg (by rw [hop, hv]; decide)).trans (if_pos (hop.trans hv))
  have hop3 {a b c : Dev × Nat} (hv : v.toNat % 4 = 3) : (if fld v 0 2 = 1 then a else if fld v 0 2 = 2 then b else c) = c :=
    (if_neg (by rw [hop, hv]; decide)).trans (if_neg (by rw [hop, hv]; decide))
  refine ⟨fun now j => inForce_cutOff, fun f => ⟨inForce_record _ _, ?_⟩, fun ho hv => ⟨fun hk => ?_, fun hk ht => ?_, fun hk ht hb => ?_,
    fun hk ht hb => ?_⟩, fun ho hv => ⟨fun hk => ?_, fun hk hn => ?_, fun j hk hj => ⟨fun hh => ?_, fun h hh => ⟨fun hm => ?_, fun hm => ?_⟩⟩⟩,
    fun h => if_neg ?_, fun h => if_neg ?_, fun h => if_neg ?_, fun ho hv hk => ?_, fun ho hv hk => ⟨fun hs => ?_, fun h1 h2 => ?_⟩,
    fun j hj => ?_, fun hn => ?_, fun hq ha ht => ⟨fun hn => ?_, fun j hj => ⟨fun hc => ?_, fun hc hf hok => ?_, fun hc hf => ?_⟩⟩,
    fun hc hok => ?_, fun hc hok => ?_, fun hc => ?_, fun hm => ?_, fun hm => ?_, fun hu h0 hc => ?_, fun h => ?_⟩
  · have hs := unitState_modUpd d f
    exact ⟨(slots_of_unitState hs).1, (slots_of_unitState hs).2, of_unitState Update.secFloor (fun _ => rfl) hs⟩
  · exact updCommand_unkeyed (hbegin ho hv) (by rw [hv]; decide) hk
  · exact updCommand_answers (r := (d, 0x7003)) (hbegin ho hv) (by rw [hv]; decide)
      ((hcmd hk).trans ((if_pos (hop.trans hv)).trans (if_pos (Option.isSome_iff_ne_none.mpr ht)))).symm fun _ => slots_of_unitState
  · exact updCommand_answers (r := (d, 0x7006)) (hbegin ho hv) (by rw [hv]; decide)
      ((hcmd hk).trans ((if_pos (hop.trans hv)).trans (updBegin_busy d ht hb))).symm fun _ => slots_of_unitState
  · obtain ⟨e, he, hs⟩ := updBegin_accepted d ht hb
    refine updCommand_answers (r := (e, 0)) (hbegin ho hv) (by rw [hv]; decide)
      ((hcmd hk).trans ((if_pos (hop.trans hv)).trans he)).symm fun d' hd => ?_
    have hslot (n : Nat) := slot_of_unitState (hd.trans hs) n
    unfold slotSt
    rw [hslot, hslot, slot_setSlot_self]
    exact ⟨rfl, rfl, rfl, slot_setSlot_other u _ (inactive_le u)⟩
  · exact updCommand_unkeyed (hfinish ho hv) (by rw [hv]; decide) hk
  · exact updCommand_answers (r := (d, 0x7004)) (hfinish ho hv) (by rw [hv]; decide)
      ((hcmd hk).trans ((hop2 hv).trans (updFinish_none d hn))).symm fun _ => slots_of_unitState
  · exact updCommand_answers (r := (d, 0x7007)) (hfinish ho hv) (by rw [hv]; decide)
      ((hcmd hk).trans ((hop2 hv).trans (updFinish_headless hj hh))).symm fun _ => slots_of_unitState
  · refine updCommand_answers (r := (d.mapOps 0 h.length, 0x7008)) (hfinish ho hv) (by rw [hv]; decide)
      ((hcmd hk).trans ((hop2 hv).trans ((updFinish_headed hj hh).trans (if_pos hm)))).symm fun d' hd => ?_
    exact slots_of_unitState (hd.trans (congrArg unitState (mapOps_logs d 0 h.length).upd))
  · refine updCommand_answers (r := ((d.mapOps 0 h.length).modUpd fun u => u.mark j .loaded, 0)) (hfinish ho hv) (by rw [hv]; decide)
      ((hcmd hk).trans ((hop2 hv).trans ((updFinish_headed hj hh).trans (if_neg hm)))).symm fun d' hd => ?_
    unfold slotSt
    rw [slot_of_unitState (hd.trans (unitState_mapped d 0 h.length fun u => u.mark j .loaded)), slot_mark_self]
  · rw [updRuns_iff]
    exact fun ⟨h1, h2⟩ => h.elim (fun h => nomatch h2.symm.trans h) fun h => h h1
  · rw [updRuns_iff]
    exact fun ⟨h1, h2⟩ => h.elim (fun h => nomatch h2.symm.trans h) fun h => h h1
  · rw [updRuns_iff]
    exact fun ⟨h1, h2⟩ => h.elim (fun h => nomatch h2.symm.trans h) fun h => h h1
  · exact updCommand_unkeyed (habort ho hv) (by rw [hv]; decide) hk
  · have hr : d.updAbort = (d.modUpd fun u => u.mark k .rejected, 0) := if_pos (by rw [Bool.or_eq_true, beq_iff_eq, beq_iff_eq]; exact hs)
    refine updCommand_answers (r := (d.modUpd fun u => u.mark k .rejected, 0)) (habort ho hv) (by rw [hv]; decide)
      ((hcmd hk).trans ((hop3 hv).trans hr)).symm fun d' hd => ?_
    unfold slotSt
    rw [slot_of_unitState (hd.trans (unitState_modUpd d fun u => u.mark k .rejected)), slot_mark_self]
  · have hr : d.updAbort = (d, 0x7004) := if_neg (by rw [Bool.or_eq_true, beq_iff_eq, beq_iff_eq]; exact not_or.mpr ⟨h1, h2⟩)
    exact updCommand_answers (r := (d, 0x7004)) (habort ho hv) (by rw [hv]; decide)
      ((hcmd hk).trans ((hop3 hv).trans hr)).symm fun _ => slots_of_unitState
  · have hx := exec_eraseComplete (ok := ok) hj
    cases ok with
    | true =>
      refine answers_next hx ?_
      have hs := slot_of_unitState (unitState_mapped d 0 slotSize fun u => u.mark j .open_) j
      unfold slotSt
      rw [hs, slot_mark_self]
      exact ⟨rfl, rfl⟩
    | false =>
      refine answers_next hx ?_
      have hs := slot_of_unitState ((unitState_updEvent (d.modUpd fun u => u.mark j .rejected) 0x7009).trans
        (unitState_modUpd d fun u => u.mark j .rejected)) j
      unfold slotSt
      rw [hs, slot_mark_self]
      exact ⟨rfl, rfl⟩
  · exact exec_eraseComplete_none hn
  · have hr := updBlock_none hn (leAt q.payload 0 4) (q.payload.drop 8) ok
    exact updBlock_serves hq ha ht hr fun d' => slots_of_unitState
  · have hr := updBlock_clash hj (clashes_iff.mpr hc) ok
    refine updBlock_serves hq ha ht hr fun d' hd => ?_
    rw [(mapOps_logs d _ _).upd] at hd
    exact slots_of_unitState hd
  · obtain rfl := hok
    obtain ⟨e, he, hs⟩ := updBlock_failed hj (Bool.eq_false_of_not_eq_true (mt clashes_iff.mp hc))
      (Bool.eq_false_of_not_eq_true (mt freshCells_isEmpty.mp (not_not_intro hf)))
    refine updBlock_serves hq ha ht he fun d' hd => ?_
    unfold slotSt
    rw [slot_of_unitState (hd.trans hs), slot_mark_self]
  · obtain ⟨e, he, hs⟩ := updBlock_taken (ok := ok) hj (Bool.eq_false_of_not_eq_true (mt clashes_iff.mp hc)) (hf.imp_right freshCells_isEmpty.mpr)
    refine updBlock_serves hq ha ht he fun d' hd => ?_
    rw [slot_of_unitState hd, hs]
    exact byte_block (Bool.eq_false_of_not_eq_true (mt clashes_iff.mp hc))
  · obtain rfl := hok
    exact answers_next (exec_confirmComplete hc) (confirmation_done d)
  · obtain rfl := hok
    exact answers_next (exec_confirmComplete hc) (confirmation_failed d)
  · exact if_pos (by rw [show s.dev.upd.confirming = false from hc]; rfl)
  · exact answers_next ((exec_operatingMinute s).trans (if_neg (Nat.not_le_of_lt hm))) (minute_counted d)
  · exact (exec_operatingMinute s).trans (if_pos hm)
  · exact answers_next ((exec_trialExpiry s).trans (if_pos ((windowOver_iff u).mpr ⟨hu, h0, hc⟩))) (trial_expired d)
  · refine (exec_trialExpiry s).trans (if_neg fun hn => ?_)
    obtain ⟨h1, h2, h3⟩ := (windowOver_iff u).mp hn
    obtain h | h | h := h
    · exact nomatch h1.symm.trans h
    · exact h h2
    · exact nomatch h3.symm.trans h

end Sys2Proof.Proofs
end

section
/-! OBLIGATION O59. The end and the abort of ROAST, and the trace commands. -/

namespace Sys2Proof.Proofs

open Sys2Proof.Machine Sys2Proof.Safety

section Commits

variable {d e : Dev}

theorem Logs.commitRecord (h : Logs d e) : Logs d e.commitRecord := by
  unfold Dev.commitRecord
  split
  · exact h
  · extract_lets
    exact ((h.modRecorder _).stage _).countEvent 12 0 1

theorem Logs.commitAll (h : Logs d e) : Logs d e.commitAll :=
  List.foldlRecOn (motive := Logs d) _ _ h fun _ hx _ _ => hx.commitRecord

/-- A commit takes the record at the front of the queue. -/
theorem commitRecord_pendq (d : Dev) : d.commitRecord.recorder.pendq = d.recorder.pendq.tail := by
  cases h : d.recorder.pendq with
  | nil =>
    have hx : d.commitRecord = d := by
      unfold Dev.commitRecord
      rw [h]
    rw [hx, h]
    rfl
  | cons p rest =>
    have hs := store_outcome { d.recorder with pendq := rest, lifeTurn := !d.recorder.lifeQueue.isEmpty } p.record
    rw [commitRecord_recorder h]
    exact (checkpointDue_outcome _ _ _).1.1.trans hs.2.1

theorem foldl_commitRecord_pendq (l : List Nat) (d : Dev) :
    (l.foldl (fun e _ => e.commitRecord) d).recorder.pendq = d.recorder.pendq.drop l.length := by
  induction l generalizing d with
  | nil => rfl
  | cons a l ih => rw [List.foldl_cons, ih, commitRecord_pendq, List.drop_tail, List.length_cons]

/-- Every pending record is committed. -/
theorem commitAll_pendq (d : Dev) : d.commitAll.recorder.pendq = [] := by
  unfold Dev.commitAll
  rw [foldl_commitRecord_pendq, List.length_range, List.drop_length]

end Commits

/-! ### The way to KEEP -/

section Rest

variable {d : Dev}

theorem packet_recorder (d : Dev) (b : List Byte) : (d.packet b).recorder = d.recorder := by
  unfold Dev.packet
  extract_lets cfg e
  split
  · rfl
  · split <;> rfl

theorem sigStore_recorder (h : d.sys.power ≠ .run) (n : Nat) (v : Word) (valid stale : Bool) (tag : Nat) :
    (d.sigStore n v valid stale tag).recorder = d.recorder := by
  unfold Dev.sigStore
  extract_lets old tracked q q2 e
  have hl : Logs e (e.traceWrite n tag v q2) := (Logs.refl e).traceWrite _ _ _ _
  have hr : (e.traceWrite n tag v q2).recorder = d.recorder := by
    unfold Dev.traceWrite
    extract_lets cfg
    split
    · exact packet_recorder e _
    · rfl
  have hp : (e.traceWrite n tag v q2).scheduling 16 = false := by
    unfold Dev.scheduling
    rw [hl.sys, show e.sys = d.sys from rfl, beq_false_of_ne h]
    rfl
  rw [fireWrite_unscheduled hp]
  exact hr

/-- A device write enters no record where no task runs. -/
theorem devSig_recorder (h : d.sys.power ≠ .run) (n : Nat) (v : Word) (valid stale : Bool) :
    (d.devSig n v valid stale).recorder = d.recorder := by
  have h' (x : List (Nat × (Word × Bool))) : ({ d with hidden := x } : Dev).sys.power ≠ .run := h
  unfold Dev.devSig Dev.sigHome Dev.sigDiscard
  split
  · split
    · rw [sigStore_recorder (h' _)]
    · rw [sigStore_recorder (h' _)]
  · rfl

/-- What the way to KEEP leaves of the module. -/
structure Rested (d e : Dev) : Prop where
  sys : e.sys = { d.sys with power := .keep, shutdown := none, pll := 0, wake := none, rstnLow := d.sys.rstnLow }
  recorder : e.recorder = d.recorder
  age : e.island.testAge = d.island.testAge
  due : e.island.testDue = d.island.testDue
  told : e.island.testTold = d.island.testTold
  powered : e.field.powered = false
  queue : e.host.queue = []
  reg : ∀ a, fixedReg a → e.reg a = d.reg a

/-- The module in KEEP before its state is shown. -/
def resting (d : Dev) : Dev :=
  (((d.portsStop true).loopsOff).fieldOff).modSys fun y =>
    { y with power := .keep, shutdown := none, pll := 0, wake := none, rstnLow := Power.keep != .off && y.rstnLow }

theorem resting_rested (d : Dev) : Rested d (resting d) := ⟨rfl, rfl, rfl, rfl, rfl, rfl, rfl, fun _ _ => rfl⟩

theorem toRest_rested (d : Dev) : Rested d (d.toRest .keep) := by
  have hs : Stored (resting d) (resting d).showPower := showPower_stored _
  have hp : (resting d).sys.power ≠ .run := nofun
  have hr : (resting d).showPower.recorder = (resting d).recorder := devSig_recorder hp _ _ _ _
  obtain ⟨h1, h2, h3, h4, h5, h6, h7, h8⟩ := resting_rested d
  show Rested d (resting d).showPower
  generalize (resting d).showPower = e at hs hr ⊢
  exact ⟨hs.sys.trans h1, hr.trans h2, (congrArg Island.testAge hs.island).trans h3, (congrArg Island.testDue hs.island).trans h4,
    (congrArg Island.testTold hs.island).trans h5, (congrArg Field.powered hs.field).trans h6,
    (congrArg HostUnit.queue hs.host).trans h7, fun a ha => (hs.reg a ha).trans (h8 a ha)⟩

theorem fixedReg_roast {a : Nat} (h : a = Adr.pwrRoastres ∨ a = Adr.pwrRoastmap ∨ a = Adr.pwrRoastdur) : fixedReg a := by
  obtain rfl | rfl | rfl := h
  · exact ⟨by decide, fun c hc => by unfold Adr.pwrRoastres Adr.sfEvdrop Adr.sfFlags; omega⟩
  · exact ⟨by decide, fun c hc => by unfold Adr.pwrRoastmap Adr.sfEvdrop Adr.sfFlags; omega⟩
  · exact ⟨by decide, fun c hc => by unfold Adr.pwrRoastdur Adr.sfEvdrop Adr.sfFlags; omega⟩

/-- ROAST ends: every record is committed, and the module goes to KEEP and on into a start where a WAKE edge waited. -/
def roastLeft (d : Dev) (w : Option Bool) : Dev := (d.commitAll.toRest .keep).actWake w

/-- What the way out of ROAST keeps of the module. -/
structure Left (d e : Dev) : Prop where
  power : e.sys.power = .keep
  opTime : e.sys.opTime = d.sys.opTime
  runHold : e.sys.runHold = d.sys.runHold
  noRoast : e.sys.noRoast = d.sys.noRoast
  roastIsland : e.sys.roastIsland = d.sys.roastIsland
  roastAborted : e.sys.roastAborted = d.sys.roastAborted
  pendq : e.recorder.pendq = []
  age : e.island.testAge = d.island.testAge
  due : e.island.testDue = d.island.testDue
  told : e.island.testTold = d.island.testTold
  powered : e.field.powered = false
  queue : e.host.queue = []
  reg : ∀ a, fixedReg a → e.reg a = d.reg a

theorem roastLeft_none (d : Dev) : Left d (roastLeft d none) := by
  have hl : Logs d d.commitAll := (Logs.refl d).commitAll
  have hq := commitAll_pendq d
  have hr : Rested d.commitAll (roastLeft d none) := toRest_rested d.commitAll
  generalize d.commitAll = e at hl hq hr
  generalize roastLeft d none = f at hr ⊢
  obtain ⟨hsys, hrec, hage, hdue, htold, hpow, hque, hreg⟩ := hr
  rw [hl.sys] at hsys
  rw [hl.island] at hage hdue htold
  exact ⟨by rw [hsys], by rw [hsys], by rw [hsys], by rw [hsys], by rw [hsys], by rw [hsys], hrec ▸ hq, hage, hdue, htold, hpow, hque,
    fun a ha => (hreg a ha).trans (hl.reg a ha.1)⟩

/-- A WAKE edge that waited starts the module. -/
theorem roastLeft_some (d : Dev) (ok : Bool) : (roastLeft d (some ok)).sys.power = .keep ∧ (roastLeft d (some ok)).sys.starting = some .wake := by
  have hk : (d.commitAll.toRest .keep).sys.power = .keep := (toRest_outcome d.commitAll .keep).1
  have hx : roastLeft d (some ok) = (d.commitAll.toRest .keep).start .wake ok :=
    congrArg (fun k => (d.commitAll.toRest .keep).start k ok) (if_neg (by rw [hk]; decide))
  obtain ⟨hp, hs, -⟩ := start_begun (d.commitAll.toRest .keep) .wake ok
  rw [hx]
  exact ⟨hp, hs⟩

end Rest

/-! ### The results -/

section Results

/-- Distinct powers of two add up bit by bit. -/
theorem foldl_two_pow (p : Nat → Bool) (n : Nat) : let m := ((List.range n).filter p).foldl (fun k t => k + 2 ^ t) 0
    m < 2 ^ n ∧ ∀ t, m.testBit t = (decide (t < n) && p t) := by
  induction n with
  | zero => exact ⟨Nat.one_pos, fun t => Nat.zero_testBit t⟩
  | succ n ih =>
    obtain ⟨hm, hb⟩ := ih
    rw [List.range_succ, List.filter_append, List.foldl_append]
    generalize ((List.range n).filter p).foldl (fun k t => k + 2 ^ t) 0 = m at hm hb
    cases hp : p n with
    | false =>
      rw [List.filter_singleton, hp]
      refine ⟨hm.trans (Nat.pow_lt_pow_right Nat.one_lt_two n.lt_succ_self), fun t => (hb t).trans ?_⟩
      obtain h | rfl | h := Nat.lt_trichotomy t n
      · rw [decide_eq_true h, decide_eq_true (Nat.lt_succ_of_lt h)]
      · rw [hp, Bool.and_false, Bool.and_false]
      · rw [decide_eq_false (by omega), decide_eq_false (by omega)]
    | true =>
      rw [List.filter_singleton, hp]
      show m + 2 ^ n < 2 ^ (n + 1) ∧ ∀ t, (m + 2 ^ n).testBit t = _
      rw [Nat.add_comm m]
      refine ⟨by rw [Nat.pow_succ]; omega, fun t => ?_⟩
      obtain h | rfl | h := Nat.lt_trichotomy t n
      · rw [Nat.testBit_two_pow_add_gt h, hb, decide_eq_true h, decide_eq_true (Nat.lt_succ_of_lt h)]
      · rw [Nat.testBit_two_pow_add_eq, hb, hp, decide_eq_false (Nat.lt_irrefl t), decide_eq_true t.lt_succ_self]
        rfl
      · rw [Nat.testBit_lt_two_pow (Nat.lt_of_lt_of_le (show 2 ^ n + m < 2 ^ (n + 1) by rw [Nat.pow_succ]; omega)
          (Nat.pow_le_pow_right Nat.two_pos h)), decide_eq_false (by omega), Bool.false_and]

theorem wordOfNat_bit {n t : Nat} (h : n < 2 ^ 32) : (wordOfNat n).getLsbD t = n.testBit t := by
  unfold wordOfNat
  rw [BitVec.getLsbD_ofNat]
  by_cases ht : t < 32
  · rw [decide_eq_true ht, Bool.true_and]
  · rw [Nat.testBit_lt_two_pow (h.trans_le (Nat.pow_le_pow_right Nat.two_pos (by omega))), Bool.and_false]

/-- The failed tests of a map. -/
def failedTests (map : BitVec 12) : List Nat := (List.range 12).filter fun t => 1 ≤ t && map.getLsbD t

theorem failedTests_map (map : BitVec 12) {t : Nat} (h : 1 ≤ t) (h' : t < 12) :
    (wordOfNat ((failedTests map).foldl (fun n t => n + 2 ^ t) 0)).getLsbD t = map.getLsbD t := by
  obtain ⟨hm, hb⟩ := foldl_two_pow (fun t => 1 ≤ t && map.getLsbD t) 12
  unfold failedTests
  rw [wordOfNat_bit (hm.trans (by decide)), hb, decide_eq_true h', decide_eq_true h]
  rfl

theorem failedTests_isEmpty (map : BitVec 12) : (failedTests map).isEmpty = true ↔ ¬∃ t, 1 ≤ t ∧ t < 12 ∧ map.getLsbD t = true := by
  unfold failedTests
  rw [List.isEmpty_iff, List.filter_eq_nil_iff]
  constructor
  · rintro h ⟨t, h1, h2, h3⟩
    exact h t (List.mem_range.mpr h2) (by rw [decide_eq_true h1, h3]; rfl)
  · intro h t ht hn
    rw [Bool.and_eq_true, decide_eq_true_eq] at hn
    exact h ⟨t, hn.1, List.mem_range.mp ht, hn.2⟩

/-- The tests before the one in progress that failed. -/
theorem abortMap_bit (f : BitVec 12) (k t : Nat) :
    (wordOfNat (f.toNat % 2 ^ k / 2 * 2)).getLsbD t = (decide (1 ≤ t ∧ t < k) && f.getLsbD t) := by
  have hf : f.toNat % 2 ^ k / 2 * 2 < 2 ^ 32 :=
    (Nat.div_mul_le_self _ 2).trans_lt ((Nat.mod_le _ _).trans_lt (f.isLt.trans (by decide)))
  rw [wordOfNat_bit hf]
  cases t with
  | zero => rw [Nat.testBit_zero, Nat.mul_mod_left]; rfl
  | succ t =>
    rw [Nat.testBit_succ, Nat.mul_div_cancel _ Nat.two_pos, ← Nat.testBit_succ, Nat.testBit_mod_two_pow]
    exact congrArg (· && f.toNat.testBit (t + 1)) (decide_eq_decide.mpr (by omega))

theorem fields_abort (test : BitVec 4) (pll : Bool) :
    (fields [(0, 3), (8, test.toNat), (16, if pll then 0x7802 else 0x7801)]).toNat =
      3 + test.toNat * 2 ^ 8 + (if pll then 0x7802 else 0x7801) * 2 ^ 16 := by
  have ht := test.isLt
  unfold fields wordOfNat
  rw [BitVec.toNat_ofNat]
  simp only [List.foldl_cons, List.foldl_nil]
  cases pll with
  | false =>
    rw [if_neg nofun]
    omega
  | true =>
    rw [if_pos rfl]
    omega

end Results

/-! ### The end of ROAST -/

section Ends

variable {d : Dev}

/-- The results of ROAST stand in their registers. -/
theorem roastResult_reg (d : Dev) (result code test map ms : Nat) :
    (d.roastResult result code test map ms).reg Adr.pwrRoastres = fields [(0, result), (8, test), (16, code)] ∧
      (d.roastResult result code test map ms).reg Adr.pwrRoastmap = wordOfNat map ∧
      (d.roastResult result code test map ms).reg Adr.pwrRoastdur = wordOfNat ms := by
  unfold Dev.roastResult
  refine ⟨?_, ?_, reg_setReg_self _ _ _⟩
  · rw [reg_setReg_other _ _ (by decide), reg_setReg_other _ _ (by decide), reg_setReg_self]
  · rw [reg_setReg_other _ _ (by decide), reg_setReg_self]

/-- The module as its tests are over. -/
def testsOver (d : Dev) (ms : Nat) : Dev :=
  (d.wipeDram.elapse ms).modSys fun y => { y with noRoast := false, runSinceRoast := false, roastAborted := false }

/-- Every test passed. -/
def roastPassed (d : Dev) (ms : Nat) : Dev :=
  ((((testsOver d ms).roastResult 1 0 0 0 ms).event 0x7821 0xFFFF).modIsland fun x =>
    { x with testAge := 0, testDue := false, testTold := false }).modSys fun y => { y with runHold := false, roastIsland := false }

/-- A test failed. -/
def roastFailed (d : Dev) (fails : List Nat) (part : Bool) (ms : Nat) : Dev :=
  (fails.foldl (fun d t => d.event 0x7810 t)
    ((testsOver d ms).roastResult 2 0x7810 0 (fails.foldl (fun n t => n + 2 ^ t) 0) ms)).modSys fun y =>
      { y with runHold := true, roastIsland := y.roastIsland || fails.contains 4 || (fails.contains 9 && part) }

theorem roastDone_passed (d : Dev) (part : Bool) (ms : Nat) :
    d.roastDone [] part ms = roastLeft (roastPassed d ms) (roastPassed d ms).sys.wake := rfl

theorem roastDone_failed {fails : List Nat} (h : fails.isEmpty = false) (d : Dev) (part : Bool) (ms : Nat) :
    d.roastDone fails part ms = roastLeft (roastFailed d fails part ms) (roastFailed d fails part ms).sys.wake := by
  unfold Dev.roastDone
  extract_lets map d1 d2 d3 d4 d5 w
  have hd : d5 = roastFailed d fails part ms := if_neg (by rw [h]; nofun)
  unfold w
  rw [hd]
  rfl

theorem roastPassed_logs (d : Dev) (ms : Nat) : Logs ((testsOver d ms).roastResult 1 0 0 0 ms)
    (((testsOver d ms).roastResult 1 0 0 0 ms).event 0x7821 0xFFFF) := (Logs.refl _).event _ _ _

theorem roastFailed_logs (d : Dev) (fails : List Nat) (ms : Nat) :
    Logs ((testsOver d ms).roastResult 2 0x7810 0 (fails.foldl (fun n t => n + 2 ^ t) 0) ms)
      (fails.foldl (fun d t => d.event 0x7810 t)
        ((testsOver d ms).roastResult 2 0x7810 0 (fails.foldl (fun n t => n + 2 ^ t) 0) ms)) :=
  List.foldlRecOn (motive := Logs _) _ _ (Logs.refl _) fun _ hx _ _ => hx.event _ _ _

/-- The system state once every test has run. -/
def overSys (y : Sys) (ms : Nat) : Sys :=
  { y with opTime := BitVec.ofNat 48 (Nat.max y.opTime.toNat (y.roastAt + ms)), noRoast := false, runSinceRoast := false,
           roastAborted := false }

theorem roastPassed_sys (d : Dev) (ms : Nat) :
    (roastPassed d ms).sys = { overSys d.sys ms with runHold := false, roastIsland := false } :=
  congrArg (fun y : Sys => { y with runHold := false, roastIsland := false }) (roastPassed_logs d ms).sys

theorem roastFailed_sys (d : Dev) (fails : List Nat) (part : Bool) (ms : Nat) :
    (roastFailed d fails part ms).sys = { overSys d.sys ms with
      runHold := true, roastIsland := d.sys.roastIsland || fails.contains 4 || (fails.contains 9 && part) } :=
  congrArg (fun y : Sys => { y with runHold := true, roastIsland := y.roastIsland || fails.contains 4 || (fails.contains 9 && part) })
    (roastFailed_logs d fails ms).sys

theorem roastPassed_reg (d : Dev) (ms : Nat) : (roastPassed d ms).reg Adr.pwrRoastres = 1 ∧ (roastPassed d ms).reg Adr.pwrRoastdur = wordOfNat ms := by
  obtain ⟨h1, -, h3⟩ := roastResult_reg (testsOver d ms) 1 0 0 0 ms
  have hl := roastPassed_logs d ms
  exact ⟨(hl.reg _ (fixedReg_roast (.inl rfl)).1).trans h1, (hl.reg _ (fixedReg_roast (.inr (.inr rfl))).1).trans h3⟩

theorem roastFailed_reg (d : Dev) (fails : List Nat) (part : Bool) (ms : Nat) : let e := roastFailed d fails part ms
    e.reg Adr.pwrRoastres = 0x78100002 ∧ e.reg Adr.pwrRoastmap = wordOfNat (fails.foldl (fun n t => n + 2 ^ t) 0) ∧
      e.reg Adr.pwrRoastdur = wordOfNat ms := by
  obtain ⟨h1, h2, h3⟩ := roastResult_reg (testsOver d ms) 2 0x7810 0 (fails.foldl (fun n t => n + 2 ^ t) 0) ms
  have hl := roastFailed_logs d fails ms
  exact ⟨(hl.reg _ (fixedReg_roast (.inl rfl)).1).trans h1, (hl.reg _ (fixedReg_roast (.inr (.inl rfl))).1).trans h2,
    (hl.reg _ (fixedReg_roast (.inr (.inr rfl))).1).trans h3⟩

/-- The module as its tests are cut short. -/
def roastCut (d : Dev) (pll : Bool) (test : BitVec 4) (ms : Nat) : Dev :=
  (((if 7 ≤ test.toNat then d.wipeDram else d).elapse ms).roastResult 3 (if pll then 0x7802 else 0x7801) test.toNat
    ((Config.roastFails d.sys.free).toNat % 2 ^ test.toNat / 2 * 2) ms).modSys fun y => { y with roastAborted := true, free := y.free + 1 }

theorem roastCut_sys (d : Dev) (pll : Bool) (test : BitVec 4) (ms : Nat) : (roastCut d pll test ms).sys =
    { d.sys with opTime := BitVec.ofNat 48 (Nat.max d.sys.opTime.toNat (d.sys.roastAt + ms)), roastAborted := true, free := d.sys.free + 1 } := by
  unfold roastCut
  split <;> rfl

/-- The end of ROAST, in the order of its steps. -/
theorem exec_roastEnd {s : State} (hp : s.dev.sys.power = .roast) (hr : s.dev.sys.reset = none) (map : BitVec 12) (part : Bool)
    (ms : BitVec 16) : exec (.roastEnd map part ms) s = .next { s with dev := s.dev.roastDone (failedTests map) part ms.toNat } :=
  if_pos (by rw [hp, hr]; rfl)

theorem exec_roastAbort {s : State} (hp : s.dev.sys.power = .roast) (hr : s.dev.sys.reset = none) (pll : Bool) (test : BitVec 4)
    (ms : BitVec 16) : exec (.roastAbort pll test ms) s =
      .next { s with dev := roastLeft (roastCut s.dev pll test ms.toNat) (roastCut s.dev pll test ms.toNat).sys.wake } :=
  if_pos (by rw [hp, hr]; rfl)

/-- The end of ROAST leaves it, with a WAKE edge that waited. -/
theorem roastDone_left (d : Dev) (fails : List Nat) (part : Bool) (ms : Nat) : ∃ e, d.roastDone fails part ms = roastLeft e d.sys.wake := by
  cases h : fails.isEmpty with
  | true =>
    obtain rfl := List.isEmpty_iff.mp h
    exact ⟨_, (roastDone_passed d part ms).trans (by rw [roastPassed_sys]; rfl)⟩
  | false => exact ⟨_, (roastDone_failed h d part ms).trans (by rw [roastFailed_sys]; rfl)⟩

end Ends

/-! ### The trace commands -/

/-- What TRC_CMD leaves in the trace unit. -/
theorem trcCommand_eq (d : Dev) (v : Word) : d.trcCommand v = { d with trace := { d.trace with
    frozen := if v.getLsbD 1 then false else v.getLsbD 0 || d.trace.frozen
    counters := if v.getLsbD 2 then [] else d.trace.counters } } := by
  unfold Dev.trcCommand bit
  cases v.getLsbD 0 <;> cases v.getLsbD 1 <;> cases v.getLsbD 2 <;> rfl

/-- A form of TRC_CMD acts where its bit is set. -/
theorem trc_form {s : State} {i : Instr} {v : Word} {k : Nat}
    (h : exec i s = if bit v k then .next { s with dev := s.dev.trcCommand v } else .next s) :
    (v.getLsbD k = true → exec i s = .next { s with dev := s.dev.trcCommand v }) ∧ (v.getLsbD k = false → Ignored i s) :=
  ⟨fun hv => h.trans (if_pos hv), fun hv => h.trans (if_neg (by rw [show bit v k = false from hv]; nofun))⟩

/-- Settles O59. -/
theorem roastAndTrace : Obligations.RoastAndTrace := by
  intro s map safety pll test ms v d y tests ended failed trace
  refine ⟨fun ⟨hp, hr, hw⟩ hf => ?_, fun ⟨hp, hr, hw⟩ hf => ?_, fun ⟨hp, hr, hw⟩ => ?_, fun ok hp hr hw i hi => ?_, fun h => ⟨if_neg ?_, if_neg ?_⟩,
    fun k i hi => ?_⟩
  · have he : failedTests map = [] := List.isEmpty_iff.mp ((failedTests_isEmpty map).mpr hf)
    have hs := roastPassed_sys d ms.toNat
    obtain ⟨hres, hdur⟩ := roastPassed_reg d ms.toNat
    have hl := roastLeft_none (roastPassed d ms.toNat)
    refine answers_next (exec_roastEnd hp hr map safety ms) ?_
    rw [he, roastDone_passed, hs, show ({ overSys d.sys ms.toNat with runHold := false, roastIsland := false } : Sys).wake = none from hw]
    exact ⟨⟨hl.power, hl.opTime.trans (congrArg Sys.opTime hs), (hl.reg _ (fixedReg_roast (.inr (.inr rfl)))).trans hdur, hl.pendq,
      hl.powered, hl.queue⟩, hl.runHold.trans (congrArg Sys.runHold hs), hl.noRoast.trans (congrArg Sys.noRoast hs), hl.age, hl.due, hl.told,
      (hl.reg _ (fixedReg_roast (.inl rfl))).trans hres⟩
  · have he : (failedTests map).isEmpty = false := Bool.eq_false_iff.mpr (mt (failedTests_isEmpty map).mp (not_not_intro hf))
    have hs := roastFailed_sys d (failedTests map) safety ms.toNat
    obtain ⟨hres, hmap, hdur⟩ := roastFailed_reg d (failedTests map) safety ms.toNat
    have hl := roastLeft_none (roastFailed d (failedTests map) safety ms.toNat)
    refine answers_next (exec_roastEnd hp hr map safety ms) ?_
    rw [roastDone_failed he, show (roastFailed d (failedTests map) safety ms.toNat).sys.wake = none from (congrArg Sys.wake hs).trans hw]
    refine ⟨⟨hl.power, hl.opTime.trans (congrArg Sys.opTime hs), (hl.reg _ (fixedReg_roast (.inr (.inr rfl)))).trans hdur, hl.pendq,
      hl.powered, hl.queue⟩, hl.runHold.trans (congrArg Sys.runHold hs), (hl.reg _ (fixedReg_roast (.inl rfl))).trans hres,
      fun t h1 h2 => ?_, fun h4 => ?_⟩
    · rw [hl.reg _ (fixedReg_roast (.inr (.inl rfl))), hmap]
      exact failedTests_map map h1 h2
    · have hm : (failedTests map).contains 4 = true :=
        List.contains_iff_mem.mpr (List.mem_filter.mpr ⟨by decide, h4⟩)
      refine (hl.roastIsland.trans (congrArg Sys.roastIsland hs)).trans ?_
      show (d.sys.roastIsland || (failedTests map).contains 4 || _) = true
      rw [hm, Bool.or_true, Bool.true_or]
  · have hs := roastCut_sys d pll test ms.toNat
    obtain ⟨hres, hmap, hdur⟩ : _ ∧ _ ∧ _ := roastResult_reg ((if 7 ≤ test.toNat then d.wipeDram else d).elapse ms.toNat) 3
      (if pll then 0x7802 else 0x7801) test.toNat ((Config.roastFails d.sys.free).toNat % 2 ^ test.toNat / 2 * 2) ms.toNat
    have hl := roastLeft_none (roastCut d pll test ms.toNat)
    refine answers_next (exec_roastAbort hp hr pll test ms) ?_
    rw [show (roastCut s.dev pll test ms.toNat).sys.wake = none from (congrArg Sys.wake hs).trans hw]
    refine ⟨⟨hl.power, hl.opTime.trans (congrArg Sys.opTime hs), (hl.reg _ (fixedReg_roast (.inr (.inr rfl)))).trans hdur, hl.pendq,
      hl.powered, hl.queue⟩, by rw [hl.runHold, hs], hl.roastAborted.trans (congrArg Sys.roastAborted hs), fun t => ?_, ?_⟩
    · rw [hl.reg _ (fixedReg_roast (.inr (.inl rfl)))]
      exact (congrArg (fun w : Word => w.getLsbD t) hmap).trans (abortMap_bit _ _ _)
    · rw [hl.reg _ (fixedReg_roast (.inl rfl))]
      exact (congrArg BitVec.toNat hres).trans (fields_abort test pll)
  · obtain rfl | rfl := hi
    · obtain ⟨e, he⟩ := roastDone_left d (failedTests map) safety ms.toNat
      refine answers_next (exec_roastEnd hp hr map safety ms) ?_
      rw [he, show d.sys.wake = some ok from hw]
      exact roastLeft_some e ok
    · refine answers_next (exec_roastAbort hp hr pll test ms) ?_
      rw [show (roastCut s.dev pll test ms.toNat).sys.wake = some ok from (congrArg Sys.wake (roastCut_sys d pll test ms.toNat)).trans hw]
      exact roastLeft_some _ ok
  · rw [Bool.and_eq_true, beq_iff_eq, Option.isNone_iff_eq_none]
    exact fun ⟨h1, h2⟩ => h.elim (absurd h1) (absurd h2)
  · rw [Bool.and_eq_true, beq_iff_eq, Option.isNone_iff_eq_none]
    exact fun ⟨h1, h2⟩ => h.elim (absurd h1) (absurd h2)
  · rw [show trace _ = { s with dev := d.trcCommand v } by rw [trcCommand_eq]]
    obtain ⟨rfl, rfl⟩ | ⟨rfl, rfl⟩ | ⟨rfl, rfl⟩ := hi
    · exact trc_form rfl
    · exact trc_form rfl
    · exact trc_form rfl

end Sys2Proof.Proofs
end
